-- ==== Sys2Proof/Word.lean ====
section
/-!
DEFINITION. The plain types the model is written in: bytes and byte strings of frames and images,
and the 32-bit words of the ring fabric and the interrupt controller.
-/
namespace Sys2Proof

/-- One byte of a frame, an image or a record (R7). -/
abbrev Byte := BitVec 8

/-- A byte string in wire order (R7). -/
abbrev Bytes := List Byte

/-- A 32-bit register or ring word (R487). -/
abbrev Word := BitVec 32

end Sys2Proof
end

