-- ==== Sys2Proof/Syntax.lean ====
section
/-! DEFINITION. The commands of the block: one constructor of `Instr` per row of the opcode table, with the
operands each event or command carries (the measured values, frame bytes, test outcomes and host arguments that
come from outside), and the records those operands are made of. The operands are the model's own form of what
the spec says each step takes; see assumption 2. -/
namespace Sys2Proof

/-- A decoded host request (R437, R445): its session (0 for an open read), where it came from, its SEQ,
its command code and its argument bytes. -/
structure HostReq where
  session : Nat
  port : Nat
  addr : Nat
  udp  : Nat
  seq  : Nat
  code : Nat
  args : Bytes
  deriving DecidableEq, Repr

/-- What one tick's conversions, gate-link returns and J8 samples deliver (R26, R167, R175, R326, R384). -/
structure TickIn where
  /-- Boxcar sums of DS0 and DS1 and the number of modulator clocks of the tick. -/
  box0 : Int
  box1 : Int
  n    : Nat
  /-- Decimated words of DS0 to DS7 completed since the last tick edge, oldest first, raw counts of 2^23. -/
  words : List (List Int)
  /-- Tick conversions of SAR0 to SAR3, raw counts of 2^15; none where a conversion is invalid. -/
  sar  : List (Option Int)
  /-- Returned frames of GL0 to GL5; none where no frame came back. -/
  gl   : List (Option Bytes)
  /-- J8 samples, energized: ESTOP_A, ESTOP_B, DOOR_IL, FIRE_IN. -/
  j8   : List Bool
  /-- Coil currents of the three contactors, mA, and whether each HS read-back shows its switching (R391). -/
  coil : List Nat
  hs   : List Bool
  deriving DecidableEq, Repr

/-- What a Dawn step's work found (R128 to R149); only the fields of the step that ends are read. -/
structure DawnIn where
  /-- D0: the RTC kept its backup; the reset closure is read closed. -/
  rtcIntact : Bool := true
  resetClosed : Bool := false
  /-- D1, D3: failing rows, (array 0 code 1 data, row); failing lanes; failing ring words; stuck rows that passed. -/
  badRows : List (Nat × Nat) := []
  badLanes : List Nat := []
  badRingWords : List Nat := []
  /-- D2: for slots A and B the first failing check of R544, 0 for none. -/
  slotJudge : Nat × Nat := (0, 0)
  /-- D4: what the RTC counted while the module was unpowered, ns (R118); event records whose `REC_CRC` fails, by `REC_SEQ` (R504). -/
  rtcGap : Nat := 0
  /-- D4: flash blocks that the bad-block table and its check give as bad, with their regions (R133). -/
  badBlocks : List (Nat × Nat) := []
  badRecs : List Nat := []
  /-- D5: PLUG_DET low throughout; the EEPROM acknowledges; first read, second read of header and SAFETY section
  (as the bytes of those ranges), three switch reads. -/
  plugDet : Bool := true
  plugAck : Bool := true
  image : Bytes := []
  reread : Bytes := []
  seals : List Nat := []
  /-- D6: REF_SETTLED in time; ΔΣ channels that fail their check. -/
  refSettled : Bool := true
  badDs : List Nat := []
  /-- D7: lockstep test flagged; contact read-backs agree; OWN_IN active at any moment; coil pulse currents, mA;
  auxiliary contacts read closed. -/
  lockstepOk : Bool := true
  contactsOk : Bool := true
  ownIn : Bool := false
  coilMa : List Nat := []
  auxClosed : List Bool := []
  /-- D9: gate-link addresses returned, in port order; delays D of R321 measured, ns, or none. -/
  glAddr : List Nat := []
  glDelay : List (Option Nat) := []
  /-- D9: the SFP identifies as a supported type. -/
  sfpOk : Bool := true
  /-- D10: journal records whose `HCRC`, and those whose `PCRC` fails, by `JSEQ` (R271, R275). -/
  badHeads : List Nat := []
  badPayloads : List Nat := []
  /-- D11: the bank capacitance measured, µF, and whether HOLDUP_READY was set. -/
  holdupCap : Option Nat := none
  holdupReady : Bool := true
  deriving DecidableEq, Repr

/-- A PTP Sync as taken from the wire (R108, R109). Times of start-of-frame delimiters at the module's own MACs, here and in the
other operands, are counter values in TB cycles of 2.5 ns (R104, R111). -/
structure PtpSync where
  domain : Nat
  /-- Identity of the sending port's clock. -/
  source : Bytes
  seq : Nat
  twoStep : Bool
  /-- originTimestamp and correction, ns; the start-of-frame at the MAC. -/
  t1 : Int
  corr : Int
  t2 : Nat
  /-- Sync interval, ns. -/
  interval : Nat
  deriving DecidableEq, Repr

/-- What the header of a received PTP message says of it (R108 to R110): the domain, the identity of the sending port's clock, the
sequence number. -/
structure PtpFrom where
  domain : Nat
  source : Bytes
  seq : Nat
  deriving DecidableEq, Repr

/-- A Pdelay_Req of a neighbour (R108). -/
structure PdelayReqIn where
  head : PtpFrom
  corr : Int
  deriving DecidableEq, Repr

/-- A SAR trigger (R176, R177): its channel and its kind, in the encoding of R176. -/
structure SarTrig where
  ch : Nat
  kind : Nat
  deriving DecidableEq, Repr

/-- The end of a SAR sequence (R177): its channel, and the conversions of each entry. -/
structure SarDone where
  ch : Nat
  raw : List (List Int)
  deriving DecidableEq, Repr

/-- An Announce's data (R107). -/
structure AnnounceIn where
  domain : Nat
  /-- Identity of the sending port's clock. -/
  source : Bytes
  gmId : Bytes
  prio1 : Nat
  class_ : Nat
  accuracy : Nat
  variance : Nat
  prio2 : Nat
  stepsRemoved : Nat
  ptpTimescale : Bool
  utcOffset : Int
  utcValid : Bool
  interval : Nat
  deriving DecidableEq, Repr

/-- A CAN frame seen on a bus (R470). -/
structure CanFrame where
  id : Nat
  remote : Bool
  data : Bytes
  deriving DecidableEq, Repr

/-- The commands of the block, one constructor per row of the opcode table, in its order. -/
inductive Instr where
  /-- SAMPLE_INSTANT, R26. -/
  | sampleInstant (t : TickIn)
  /-- DUTY_TRANSFER, R26. -/
  | dutyTransfer
  /-- FAST_COMPARATOR_TRIP, R325. -/
  | fastComparatorTrip (cmp : Nat)
  /-- FRAME_LATCH, R27. -/
  | frameLatch
  /-- OUTER_LOOPS, R308. -/
  | outerLoops
  /-- FRAME_PROTECTION_EVALUATION, R378. -/
  | frameProtectionEvaluation
  /-- LIMITS_AND_DISPATCH, R344. -/
  | limitsAndDispatch
  /-- TICK16_EVALUATION, R38. -/
  | tick16Evaluation
  /-- SNAPSHOT_INSTANT, R207. -/
  | snapshotInstant
  /-- VOLTAGE_BANK_COMPLETE, R206. -/
  | voltageBankComplete
  /-- POSITION_FILTERS, R246. -/
  | positionFilters
  /-- DROP_SET_COMPLETE, R206. -/
  | dropSetComplete
  /-- TEMPERATURE_SET_COMPLETE, R354. -/
  | temperatureSetComplete
  /-- SHARE_SOLVE, R232. -/
  | shareSolve (engine : List (Nat × Int))
  /-- THERMAL_LOOPS, R363. -/
  | thermalLoops (di : List Bool) (flow : List Nat)
  /-- TICK_OVERRUN, R29. -/
  | tickOverrun (item : Nat)
  /-- CLK_REF_LOST, R21. -/
  | clkRefLost
  /-- RAIL_FAULT, R94. -/
  | railFault (rail value : Nat)
  /-- AUX_POWER_APPLIED, R35. -/
  | auxPowerApplied (reason : Nat)
  /-- J1_BELOW_THRESHOLD, R89. -/
  | j1BelowThreshold
  /-- J1_RESTORED, R89. -/
  | j1Restored
  /-- AUX_LOST, R90. -/
  | auxLost
  /-- FULL_OPERATION_END, R90. -/
  | fullOperationEnd
  /-- BROWN_OUT_SAVE_COMPLETE, R90. -/
  | brownOutSaveComplete (saved : Bool)
  /-- AUX_OVERVOLTAGE, R88. -/
  | auxOvervoltage
  /-- AUX_OVERVOLTAGE_CLEARED, R88. -/
  | auxOvervoltageCleared
  /-- PE_CHECK, R54. -/
  | peCheck (mOhm : Nat)
  /-- PE_OPEN_CLEARED, R54. -/
  | peOpenCleared
  /-- SENS_SUPPLY_FAULT, R100. -/
  | sensSupplyFault (supply : Nat)
  /-- SYNC_RECEIVED, R109. -/
  | syncReceived (m : PtpSync)
  /-- FOLLOW_UP_RECEIVED, R109. -/
  | followUpReceived (m : PtpFrom) (t1 corr : Int)
  /-- FOLLOW_UP_TIMEOUT, R109. -/
  | followUpTimeout
  /-- PDELAY_REQ_DUE, R108. -/
  | pdelayReqDue (t1 : Nat)
  /-- PDELAY_RESP_RECEIVED, R110: a completed Pdelay_Resp and Follow_Up, their times and the sum of their corrections, ns, and the
  start-of-frame of the response. -/
  | pdelayRespReceived (m : PtpFrom) (t2 t3 corr : Int) (t4 : Nat)
  /-- PDELAY_REQ_RECEIVED, R108: with the start-of-frame it came with, and that of the Pdelay_Resp sent for it. -/
  | pdelayReqReceived (m : PdelayReqIn) (t2 t3 : Nat)
  /-- ANNOUNCE_RECEIVED, R107. -/
  | announceReceived (a : AnnounceIn)
  /-- ANNOUNCE_RECEIPT_TIMEOUT, R107. -/
  | announceReceiptTimeout
  /-- PTP_OFFSET_UNUSABLE, R107. -/
  | ptpOffsetUnusable
  /-- HOLDOVER_EXPIRED, R107. -/
  | holdoverExpired
  /-- TIME_STEP, R115. -/
  | timeStep
  /-- RTC_WRITEBACK, R118. -/
  | rtcWriteback
  /-- RTC_CORRECTION, R20. -/
  | rtcCorrection (ppb : Int)
  /-- LAUNCH_TIME_REACHED, R120. -/
  | launchTimeReached (queue : Nat) (sfd : Nat)
  /-- DAWN_STEP_END, R128. -/
  | dawnStepEnd (d : DawnIn)
  /-- DAWN_STEP_TIMEOUT, R129. -/
  | dawnStepTimeout
  /-- LAMP_TEST_END, R81. -/
  | lampTestEnd
  /-- REF_DISAGREE, R157. -/
  | refDisagree
  /-- REF_SETTLED, R159. -/
  | refSettled
  /-- REF_SETTLE_TIMEOUT, R159. -/
  | refSettleTimeout
  /-- SETTLING_END, R162. -/
  | settlingEnd (ch : Nat)
  /-- DS_OVERRANGE, R164. -/
  | dsOverrange (ch : Nat)
  /-- DS_OVERRANGE_END, R164. -/
  | dsOverrangeEnd (ch : Nat)
  /-- CURRENT_CH_DISAGREE, R170. -/
  | currentChDisagree
  /-- DS7_DWELL_END, R172; the means reported (log entry 2). -/
  | ds7DwellEnd (meanCh mean7 : Int)
  /-- DS7_INJECTION_TEST_DONE, R172. -/
  | ds7InjectionTestDone (pass : Bool)
  /-- SAR_TRIGGER, R177. -/
  | sarTrigger (t : SarTrig) (atNs : Nat)
  /-- SAR_SEQUENCE_DONE, R177. -/
  | sarSequenceDone (r : SarDone)
  /-- HOUSEKEEPING_ROUND_START, R182. -/
  | housekeepingRoundStart
  /-- HOUSEKEEPING_ROUND_COMPLETE, R182. -/
  | housekeepingRoundComplete (raw : List Nat) (die : List Int)
  /-- SYS_CAL_CAPTURE_DONE, R186; the mean and the noise reported (log entry 2). -/
  | sysCalCaptureDone (mean sigma : Int)
  /-- SYS_CAL_SUSPEND_TIMEOUT, R186. -/
  | sysCalSuspendTimeout
  /-- CAPTURE_COMPLETE, R179. -/
  | captureComplete (samples : List Int) (gaps : List Nat)
  /-- SKALEY_FRAME_LAUNCH, R203. -/
  | skaleyFrameLaunch (port : Nat)
  /-- SKALEY_FRAME_RETURNED, R200. -/
  | skaleyFrameReturned (port : Nat) (marginOk : Bool) (rt : Nat) (bytes : Bytes)
  /-- SKALEY_FRAME_TIMEOUT, R215. -/
  | skaleyFrameTimeout (port : Nat)
  /-- SKALEY_CARRIER_LOSS, R215. -/
  | skaleyCarrierLoss (port : Nat)
  /-- RING_HEALED, R216. -/
  | ringHealed
  /-- VOLTAGE_STALE, R212. -/
  | voltageStale (pos : Nat)
  /-- DROP_STALE, R212. -/
  | dropStale (cell : Nat)
  /-- TEMP_STALE, R212. -/
  | tempStale (idx : Nat)
  /-- ON_DEMAND_SNAPSHOT_REQUEST, R208. -/
  | onDemandSnapshotRequest (r : HostReq)
  /-- IMPEDANCE_BLOCK_START, R294. -/
  | impedanceBlockStart
  /-- LOCKIN_INTEGRATION_START, R285. -/
  | lockinIntegrationStart
  /-- LOCKIN_INTEGRATION_END, R294. -/
  | lockinIntegrationEnd
  /-- IMPEDANCE_REDUCTION, R289. -/
  | impedanceReduction
  /-- AUTO_SWEEP_DUE, R297. -/
  | autoSweepDue
  /-- T_INT_EXPIRED, R292. -/
  | tIntExpired (pos : Nat)
  /-- PHASE_RAMP_DOWN_COMPLETE, R314. -/
  | phaseRampDownComplete (phase : Nat)
  /-- PHASE_REENABLE, R316. -/
  | phaseReenable (phase : Nat)
  /-- SCHED_COEF_WRITE, R313. -/
  | schedCoefWrite
  /-- SETPOINT_TIMEOUT, R343. -/
  | setpointTimeout
  /-- BAL_SCHEDULE, R359. -/
  | balSchedule
  /-- BAL_APPLICATION_INSTANT, R357. -/
  | balApplicationInstant
  /-- BAL_WATCHDOG, R358. -/
  | balWatchdog (place : Nat)
  /-- BC_TIME_MAX_REACHED, R361. -/
  | bcTimeMaxReached
  /-- FLOW_LOST, R367. -/
  | flowLost (di : Nat)
  /-- FLOW_RESTORED, R367. -/
  | flowRestored (di : Nat)
  /-- LEAK_DETECTED, R367. -/
  | leakDetected (di : Nat)
  /-- LEAK_CLEARED, R367. -/
  | leakCleared (di : Nat)
  /-- CHILLER_REQUEST, R368. -/
  | chillerRequest
  /-- CHILLER_STATUS_RECEIVED, R368. -/
  | chillerStatusReceived
  /-- CHILLER_LOST, R368. -/
  | chillerLost
  /-- SAFETY_INPUT_DEENERGIZED, R384. -/
  | safetyInputDeenergized (input : Nat)
  /-- SAFETY_INPUT_RESTORED, R384. -/
  | safetyInputRestored (input : Nat)
  /-- ESTOP_DISCREPANCY, R384. -/
  | estopDiscrepancy
  /-- SAFE_STOP_COILS_OFF, R387. -/
  | safeStopCoilsOff
  /-- AUX_CONTACT_CHANGE, R392. -/
  | auxContactChange (k : Nat) (closed : Bool)
  /-- CONT_CLOSE_TIMEOUT, R392. -/
  | contCloseTimeout (k : Nat)
  /-- CONT_OPEN_TIMEOUT, R392. -/
  | contOpenTimeout (k : Nat)
  /-- CONT_DROPPED, R392. -/
  | contDropped (k : Nat)
  /-- COIL_PULL_IN_END, R391. -/
  | coilPullInEnd (k : Nat)
  /-- COIL_CURRENT_FAULT, R391; the current reported (log entry 2). -/
  | coilCurrentFault (k : Nat) (ma : Int)
  /-- PRECHARGE_HOLD_END, R389. -/
  | prechargeHoldEnd
  /-- PRECHARGE_TIMEOUT, R389. -/
  | prechargeTimeout
  /-- STOPPING_ZERO_CURRENT, R390. -/
  | stoppingZeroCurrent
  /-- STOP_TIMEOUT, R35. -/
  | stopTimeout
  /-- TWILIGHT_EXHAUSTED, R400. -/
  | twilightExhausted
  /-- TWILIGHT_BUDGET_RESET, R44. -/
  | twilightBudgetReset
  /-- TEST_PULSE_START, R394. -/
  | testPulseStart (k : Nat)
  /-- TEST_PULSE_END, R394. -/
  | testPulseEnd (showedOff cameOn : Bool)
  /-- TEST_INTERVAL_END, R395. -/
  | testIntervalEnd
  /-- INPUT_TEST, R397. -/
  | inputTest (passed : List Bool)
  /-- CMP_TEST, R398. -/
  | cmpTest (cmp : Nat) (passed : Bool)
  /-- CODE_CRC_CHECK, R398. -/
  | codeCrcCheck (ok : Bool)
  /-- WATCHDOG_EXPIRY, R398. -/
  | watchdogExpiry
  /-- LOCKSTEP_MISMATCH, R398. -/
  | lockstepMismatch
  /-- ISO_HALF_PERIOD_END, R402: the injected voltage read back, mV, and whether the source is sound; the last word of DS5 reported
  (log entry 2). -/
  | isoHalfPeriodEnd (ds5 inj : Int) (injOk : Bool)
  /-- ISO_PASSIVE_MEASUREMENT, R404; the voltages reported (log entry 2). -/
  | isoPassiveMeasurement (vPos vStr : Int)
  /-- ISO_INVALID, R403. -/
  | isoInvalid
  /-- HELLO_DUE, R416. -/
  | helloDue
  /-- HELLO_RECEIVED, R428. -/
  | helloReceived (frame : Bytes)
  /-- HELLO_LISTEN_TIMEOUT, R413. -/
  | helloListenTimeout
  /-- OWN_IN_RISE, R414. -/
  | ownInRise (together : Bool)
  /-- OWN_IN_FALL, R423. -/
  | ownInFall
  /-- HEARTBEAT_DEADLINE, R423. -/
  | heartbeatDeadline
  /-- FAILOVER_FIRST_FRAME, R424. -/
  | failoverFirstFrame
  /-- MIRROR_HEARTBEAT_RECEIVED, R417. -/
  | mirrorHeartbeatReceived (frame : Bytes)
  /-- MIRROR_CONTROL_RECEIVED, R418. -/
  | mirrorControlReceived (frame : Bytes) (sfd : Nat)
  /-- MIRROR_BANK_RECEIVED, R416. -/
  | mirrorBankReceived (frame : Bytes)
  /-- MIRROR_IMAGE_SEGMENT_RECEIVED, R419. -/
  | mirrorImageSegmentReceived (frame : Bytes)
  /-- SB_STATUS_RECEIVED, R429. -/
  | sbStatusReceived (frame : Bytes)
  /-- HANDOVER_RECEIVED, R427. -/
  | handoverReceived (frame : Bytes)
  /-- HANDOVER_ACCEPT_TIMEOUT, R535. -/
  | handoverAcceptTimeout
  /-- HANDOVER_TICK, R427. -/
  | handoverTick
  /-- KEYX_RECEIVED, R428. -/
  | keyxReceived (frame : Bytes)
  /-- BLOB_RECEIVED, R430. -/
  | blobReceived (frame : Bytes)
  /-- ADMISSION_HEARTBEATS_COMPLETE, R428. -/
  | admissionHeartbeatsComplete
  /-- IMAGE_SEGMENT_OVERDUE, R429. -/
  | imageSegmentOverdue
  /-- PARTNER_LOST, R429. -/
  | partnerLost
  /-- HOST_DATAGRAM_RECEIVED, R437. -/
  | hostDatagramReceived (port addr udp : Nat) (bytes : Bytes)
  /-- OPEN_REQ, R441. -/
  | openReq (port addr udp : Nat) (bytes : Bytes)
  /-- OPEN_AUTH, R441. -/
  | openAuth (port addr udp : Nat) (bytes : Bytes)
  /-- OPEN_AUTH_TIMEOUT, R441. -/
  | openAuthTimeout (session : Nat)
  /-- SESSION_IDLE_TIMEOUT, R443. -/
  | sessionIdleTimeout (session : Nat)
  /-- OBJECT_NOTIFICATION_DUE, R454. -/
  | objectNotificationDue (session entry : Nat)
  /-- BULK_ABANDONED, R449. -/
  | bulkAbandoned (target : Nat)
  /-- ARP_REQUEST, R435. -/
  | arpRequest (port target : Nat)
  /-- ICMP_ECHO_REQUEST, R435. -/
  | icmpEchoRequest (port src dst : Nat) (payload : Bytes)
  /-- MODBUS_CONNECT, R458. -/
  | modbusConnect (port addr : Nat)
  /-- MODBUS_READ, R458. -/
  | modbusRead (conn : Nat) (pdu : Bytes)
  /-- MODBUS_IDLE_TIMEOUT, R458. -/
  | modbusIdleTimeout (conn : Nat)
  /-- READ, R445. -/
  | read (r : HostReq)
  /-- SUBSCRIBE, R454. -/
  | subscribe (r : HostReq)
  /-- KEEPALIVE, R443. -/
  | keepalive (r : HostReq)
  /-- CLOSE, R443. -/
  | close (r : HostReq)
  /-- BULK_WRITE, R449. -/
  | bulkWrite (r : HostReq)
  /-- KEY_SET, R448. -/
  | keySet (r : HostReq)
  /-- CONNECT, R36. -/
  | connect (r : HostReq)
  /-- START, R35. -/
  | start (r : HostReq)
  /-- SET_POINT, R341. -/
  | setPoint (r : HostReq)
  /-- STOP, R35. -/
  | stop (r : HostReq)
  /-- DISCONNECT, R35. -/
  | disconnect (r : HostReq)
  /-- CLEAR_FAULT, R43. -/
  | clearFault (r : HostReq)
  /-- RESTART, R35. -/
  | restart (r : HostReq)
  /-- SHUTDOWN, R35. -/
  | shutdown (r : HostReq)
  /-- ENTER_SERVICE, R35. -/
  | enterService (r : HostReq)
  /-- EXIT_SERVICE, R35. -/
  | exitService (r : HostReq)
  /-- RESTORE_STATE, R263. -/
  | restoreState (r : HostReq)
  /-- FREEZE, R535. -/
  | freeze (r : HostReq)
  /-- FREEZE_LOG_FREEZE, R509. -/
  | freezeLogFreeze (r : HostReq)
  /-- FREEZE_LOG_THAW, R509. -/
  | freezeLogThaw (r : HostReq)
  /-- PAIR_HANDOVER, R427. -/
  | pairHandover (r : HostReq)
  /-- PLUG_WRITE, R149. -/
  | plugWrite (r : HostReq)
  /-- CAPTURE, R179. -/
  | capture (r : HostReq)
  /-- OP_START_CAP_LEARN, R265. -/
  | opStartCapLearn (r : HostReq)
  /-- OP_START_SYS_CAL, R186. -/
  | opStartSysCal (r : HostReq)
  /-- OP_START_IMPEDANCE_SWEEP, R294. -/
  | opStartImpedanceSweep (r : HostReq)
  /-- OP_START_BALANCE_CAMPAIGN, R361. -/
  | opStartBalanceCampaign (r : HostReq)
  /-- OP_START_INSULATION_TEST, R405. -/
  | opStartInsulationTest (r : HostReq)
  /-- OP_START_LOG_EXPORT, R510. -/
  | opStartLogExport (r : HostReq)
  /-- OP_START_UPDATE_STAGE, R548. -/
  | opStartUpdateStage (r : HostReq)
  /-- SUSPEND, R450. -/
  | suspend (r : HostReq)
  /-- RESUME, R450. -/
  | resume (r : HostReq)
  /-- CANCEL, R450. -/
  | cancel (r : HostReq)
  /-- UPD_PIECE, R549. -/
  | updPiece (r : HostReq)
  /-- STAGING_ERASE_DONE, R548. -/
  | stagingEraseDone
  /-- UPD_INSTALL_DONE, R550. -/
  | updInstallDone (badChunk : Option Nat)
  /-- UPD_TRIAL_CONFIRM, R545. -/
  | updTrialConfirm
  /-- CAN_FRAME_RECEIVED, R470. -/
  | canFrameReceived (ctl : Nat) (f : CanFrame)
  /-- CAN_TX_COMPLETE, R468. -/
  | canTxComplete (ctl mb : Nat) (delay : Option Nat)
  /-- CAN_BUS_ERROR, R471. -/
  | canBusError (ctl tecInc recInc : Nat) (arbLost : Bool) (delay : Option Nat)
  /-- CAN_BUS_OFF_RECOVERY, R471. -/
  | canBusOffRecovery (ctl : Nat)
  /-- TRIP_COPY_RESEND, R469. -/
  | tripCopyResend
  /-- IRQ_SOURCE_EVENT, R476. -/
  | irqSourceEvent (src : Nat) (rising : Bool)
  /-- IRQ_COALESCE_TIMEOUT, R478. -/
  | irqCoalesceTimeout (src : Nat)
  /-- IRQ_CLAIM, R480. -/
  | irqClaim (tgt : Nat)
  /-- IRQ_EOI, R480. -/
  | irqEoi (tgt : Nat) (value : Word)
  /-- IRQ_SRC_CFG_WRITE, R481. -/
  | irqSrcCfgWrite (src : Nat) (coal : Bool) (value : Word)
  /-- IRQ_THRESHOLD_WRITE, R481. -/
  | irqThresholdWrite (tgt : Nat) (value : Word)
  /-- REGISTER_WRITE, R10. -/
  | registerWrite (ring : Nat) (value : Word)
  /-- RING_RESERVE, R492. -/
  | ringReserve (ring len : Nat)
  /-- RING_COMMIT, R492. -/
  | ringCommit (ring kind : Nat) (poison : Bool) (data : Bytes)
  /-- RING_REWIND, R492. -/
  | ringRewind (ring : Nat)
  /-- RING_RELEASE, R493. -/
  | ringRelease (ring : Nat)
  /-- RING_WORD_READ, R495. -/
  | ringWordRead (ring off : Nat) (parityOk : Bool)
  /-- RECORD_INTAKE, R505. -/
  | recordIntake (ring : Nat)
  /-- RECORD_CLOSE_TIMEOUT, R505. -/
  | recordCloseTimeout
  /-- RECORD_FLUSH, R504. -/
  | recordFlush
  /-- RATE_WINDOW_END, R506. -/
  | rateWindowEnd
  /-- LIMITED_PERIOD_END, R506. -/
  | limitedPeriodEnd
  /-- FREEZE_LOG_MAX_ELAPSED, R509. -/
  | freezeLogMaxElapsed
  /-- LOG_EXPORT_CHUNK, R510. -/
  | logExportChunk
  /-- SRAM_SCRUB_ROW, R519. -/
  | sramScrubRow (corrected : Nat) (uncorrectable : Bool)
  /-- ECC_ERROR, R519. -/
  | eccError
  /-- LANE_TEST, R521. -/
  | laneTest (pass : Bool)
  /-- FLASH_REFRESH, R522. -/
  | flashRefresh (region : Nat) (needRewrite failed : Bool)
  /-- FLASH_OPERATION_DONE, R273. -/
  | flashOperationDone (region block : Nat) (ok : Bool)
  /-- ESTIMATION_JOB_DONE, R243. -/
  | estimationJobDone (job : Nat)
  /-- RESTORE_BLOB_BUILD, R262. -/
  | restoreBlobBuild
  /-- RESTORE_WAIT_TIMEOUT, R264. -/
  | restoreWaitTimeout
  /-- REST_MIN_REACHED, R258. -/
  | restMinReached
  /-- CAP_LEARN_TIMEOUT, R266. -/
  | capLearnTimeout
  /-- JOURNAL_DELTA_DUE, R273. -/
  | journalDeltaDue
  /-- JOURNAL_PERIODIC_DELTA, R273. -/
  | journalPeriodicDelta
  /-- AFTERNOON_REENTRY, R529. -/
  | afternoonReentry
  /-- RESET_INPUT_CHANGE, R532; the time since the last change reported, ms (log entry 2). -/
  | resetInputChange (closed : Bool) (ms : Nat)
  /-- RESET_HOLD, R533. -/
  | resetHold
  /-- RESET_STUCK, R534. -/
  | resetStuck
  /-- RESET_RELEASED, R534. -/
  | resetReleased
  /-- FREEZE_N_ASSERTED, R535. -/
  | freezeNAsserted
  /-- PLUG_DET_CHANGE, R82. -/
  | plugDetChange (low : Bool)
  /-- PAIR_PRESENT_CHANGE, R77. -/
  | pairPresentChange (low : Bool)
  /-- LINK_CHANGE, R82. -/
  | linkChange (port : Nat) (up : Bool)
  /-- USB_FRAME_RECEIVED, R552. -/
  | usbFrameReceived (cobs : Bytes)
  /-- JTAG_BYPASS, R537. -/
  | jtagBypass
  /-- JTAG_IDCODE, R537. -/
  | jtagIdcode
  /-- JTAG_FRZ_STATUS, R537. -/
  | jtagFrzStatus
  /-- JTAG_MEM_ADDR, R537. -/
  | jtagMemAddr (addr : Nat)
  /-- JTAG_MEM_DATA, R537. -/
  | jtagMemData
  /-- HOLDUP_BANK_BELOW_20V, R530. -/
  | holdupBankBelow20v
  /-- J16_USB_MATE_CHANGE, R82. -/
  | j16UsbMateChange (mated : Bool)
  /-- ISO_SLOT_BOUNDARY, R402. -/
  | isoSlotBoundary
  /-- CAN_BUS_INTEGRATION, R467. -/
  | canBusIntegration (ctl : Nat)
  deriving DecidableEq, Repr

end Sys2Proof
end

