-- ==== Sys2Proof/Config.lean ====
section
/-! DEFINITION. What the spec leaves open or takes from another standard without giving its steps: the free values
and the cryptographic functions it names. Every one is opaque, without a body: no proof can see its value, and a
statement holds whatever it is (assumptions 3 and 4). -/
namespace Sys2Proof.Config

/-- HMAC-SHA-256 of a message under a key (R439 to R442). -/
opaque hmacSha256 (key msg : Bytes) : Bytes

/-- HKDF-SHA-256: input key, salt, info and output length (R441, R262, R547). -/
opaque hkdfSha256 (ikm salt info : Bytes) (len : Nat) : Bytes

/-- AES-256-GCM: ciphertext of a plaintext under key, nonce and additional data. -/
opaque gcmSeal (key nonce aad plain : Bytes) : Bytes

/-- AES-256-GCM: the 16-byte tag of a ciphertext under key, nonce and additional data. -/
opaque gcmTag (key nonce aad cipher : Bytes) : Bytes

/-- AES-256-GCM: plaintext of a ciphertext under key and nonce. -/
opaque gcmOpen (key nonce cipher : Bytes) : Bytes

/-- AES key wrap: the key a wrapped block holds under a wrapping key; none where its integrity check fails (R448). -/
opaque keyUnwrap (key wrapped : Bytes) : Option Bytes

/-- SHA-256 and SHA-384 of a message. -/
opaque sha256 (msg : Bytes) : Bytes
opaque sha384 (msg : Bytes) : Bytes

/-- The shared secret of the ECDH exchange of the pair key exchange (R428), from the module's own secret and the
partner's public bytes. -/
opaque ecdhShared (secret pub : Bytes) : Bytes

/-- The public bytes of an own secret (R428). -/
opaque ecdhPublic (secret : Bytes) : Bytes

/-- A number the spec leaves open, drawn for the model's counter `fresh` (assumption 3). -/
opaque freeNat : Nat → Nat

/-- Bytes the spec leaves open (random nonces, handshake secrets), drawn for the counter and cut to a length. -/
opaque freeBytes : Nat → Nat → Bytes

/-- Cause codes of a code-CRC failure and of an uncorrectable ECC error (R398, R420): FAULT names a cause, and the spec
gives these two no event code. -/
opaque codeCrcCause : Nat
opaque eccCause : Nat

/-- Erase blocks of the trend-history region, whose size the spec does not give (R523). -/
opaque trendBlocks : Nat

/-- Content of a memory word the JTAG port reads in a freeze (R537), by the freeze's time and the address: the word and its two
ECC marks; the spec gives the address map, and not what firmware keeps at an address outside a ring's packets. -/
opaque memWord : Nat → Nat → Nat

/-- Bytes of the running estimator state in `EST_STATE` (R262): the spec gives the blob no inner layout, so its
content is an open function of the bytes of the estimator's tables. -/
opaque estEncode : Bytes → Bytes

/-- Whether a decrypted blob holds a state the estimator takes up; and the figures it restores are the open
inverse of `estEncode`. -/
opaque estDecode : Bytes → Bytes

/-- The state region of the mirror image (R419): the spec lists its content and gives it no inner layout, so its
65,536 bytes are an open function of that content, and the content the standby reads from them its open inverse. -/
opaque regionEncode : Bytes → Bytes
opaque regionDecode : Bytes → Bytes

/-- Key-exchange messages of R428, whose layout the spec does not give: the signed and certified message of some public
bytes; whether a message received carries a valid signature and certificate; and the public bytes it carries. -/
opaque keyxSign : Bytes → Bytes
opaque keyxValid : Bytes → Bool
opaque keyxPublic : Bytes → Bytes

/-- AES key wrap of a key under a wrapping key (R428). -/
opaque keyWrap (key plain : Bytes) : Bytes

/-- What the EEPROM returns when an image just written to the plug is read back, drawn for the counter `fresh`; none where it
does not acknowledge (R149). -/
opaque plugEcho : Nat → Bytes → Option Bytes

/-- The averaged pull that HOLDOVER holds (R106), for the time of its entry and the pull word then in force; the spec gives the
averaging no window. -/
opaque averagedPull : Nat → Int → Int

/-- TB cycles since the tick edge at which a read of `TIME_NS` falls (R126), drawn for the counter `fresh`. -/
opaque readPhase : Nat → Nat

/-- Whether a frame whose start a MAC senses is a PTP event message for the configured domain (R112), drawn for `fresh`. -/
opaque ptpFrame : Nat → Bool

/-- The rate error of the AON clock against the reference over tick `n`, in ppb (R20); the spec leaves it to the crystal. -/
opaque aonPpb : Nat → Int

/-- What matching the follower of a capture to its leader gives: offset in counts, gain in 2^−30, skew in steps of 10 ps
(R179). -/
opaque captureMatch : Nat → Int × Nat × Int

end Sys2Proof.Config
end

