-- ==== Sys2Proof/Machine/Operands.lean ====
section
/-! DEFINITION. The operand forms every meaning reads and writes: little-endian fields, two's complement, sentinels
(R6 to R8), CRCs and the safety digest (R138, R143, R199, R319), fixed-point roots and transcendental functions
(assumption 8), and list access by index. -/
namespace Sys2Proof.Machine

/-! ### Lists by index -/

/-- Element `i` of a list, or a default beyond its end. -/
def nth {α : Type} (d : α) : List α → Nat → α
  | [], _ => d
  | x :: _, 0 => x
  | _ :: xs, i + 1 => nth d xs i

/-- The list with element `i` changed; unchanged beyond its end. -/
def updAt {α : Type} (f : α → α) : List α → Nat → List α
  | [], _ => []
  | x :: xs, 0 => f x :: xs
  | x :: xs, i + 1 => x :: updAt f xs i

/-- The list with element `i` replaced. -/
def setAt {α : Type} (l : List α) (i : Nat) (v : α) : List α := updAt (fun _ => v) l i

/-- Map with the index. -/
def mapIdxFrom {α β : Type} (f : Nat → α → β) : Nat → List α → List β
  | _, [] => []
  | i, x :: xs => f i x :: mapIdxFrom f (i + 1) xs

/-- Map with the index from 0. -/
def mapI {α β : Type} (f : Nat → α → β) (l : List α) : List β := mapIdxFrom f 0 l

/-- Bytes `off` to `off + len − 1`, zero-padded beyond the end. -/
def slice (b : Bytes) (off len : Nat) : Bytes :=
  let r := (b.drop off).take len
  r ++ List.replicate (len - r.length) 0

/-- Exactly `n` bytes: cut or zero-padded. -/
def fixLen (n : Nat) (b : Bytes) : Bytes := slice b 0 n

/-! ### Integers in byte strings (R7) -/

/-- Little-endian value of a byte string. -/
def leNat : Bytes → Nat
  | [] => 0
  | b :: bs => b.toNat + 256 * leNat bs

/-- Big-endian value. -/
def beNat (b : Bytes) : Nat := leNat b.reverse

/-- `n` bytes of a number, little-endian, modulo 2^(8n). -/
def toLe : Nat → Nat → Bytes
  | 0, _ => []
  | n + 1, v => BitVec.ofNat 8 v :: toLe n (v / 256)

/-- `n` bytes, big-endian. -/
def toBe (n v : Nat) : Bytes := (toLe n v).reverse

/-- Two's complement value of the low `w` bits. -/
def signed (w v : Nat) : Int :=
  let m := v % 2 ^ w
  if m < 2 ^ (w - 1) then (m : Int) else (m : Int) - 2 ^ w

/-- The low `w` bits of an integer, as a number. -/
def unsigned (w : Nat) (i : Int) : Nat := (i % (2 ^ w : Int)).toNat

/-- Unsigned field of `len` bytes at `off`. -/
def getN (b : Bytes) (off len : Nat) : Nat := leNat (slice b off len)

/-- Signed field of `len` bytes at `off`. -/
def getI (b : Bytes) (off len : Nat) : Int := signed (8 * len) (getN b off len)

/-- An integer as `n` bytes, two's complement little-endian. -/
def iLe (n : Nat) (i : Int) : Bytes := toLe n (unsigned (8 * n) i)

def u8 (v : Nat) : Bytes := toLe 1 v
def u16 (v : Nat) : Bytes := toLe 2 v
def u32 (v : Nat) : Bytes := toLe 4 v
def u64 (v : Nat) : Bytes := toLe 8 v
def i16 (v : Int) : Bytes := iLe 2 v
def i32 (v : Int) : Bytes := iLe 4 v
def i64 (v : Int) : Bytes := iLe 8 v

/-! ### Clamps, rounding and sentinels (R8) -/

/-- The value held between two bounds. -/
def clampI (lo hi x : Int) : Int := if x < lo then lo else if hi < x then hi else x

/-- The value held between two bounds, exact. -/
def clampR (lo hi x : Rat) : Rat := if x < lo then lo else if hi < x then hi else x

def minR (a b : Rat) : Rat := if a ≤ b then a else b
def maxR (a b : Rat) : Rat := if a ≤ b then b else a
def absR (a : Rat) : Rat := if a < 0 then -a else a

/-- Nearest integer, ties away from zero (R185, R306). -/
def roundAway (x : Rat) : Int := if 0 ≤ x then (x + 1 / 2).floor else -((-x + 1 / 2).floor)

/-- Division of integers rounded to nearest, ties away from zero. -/
def divRound (a b : Int) : Int := roundAway ((a : Rat) / (b : Rat))

/-- Arithmetic right shift with rounding to nearest, ties away from zero (R306). -/
def shr (a : Int) (k : Nat) : Int :=
  if 0 ≤ a then (a + 2 ^ k / 2) / 2 ^ k else -((-a + 2 ^ k / 2) / 2 ^ k)

/-- A measured value in a signed format of `w` bits: out of range clamps, and the sentinel is not reached (R8). -/
def fitI (w : Nat) (x : Int) : Int := clampI (-(2 ^ (w - 1)) + 1) (2 ^ (w - 1) - 1) x

/-- A measured value in an unsigned format of `w` bits, one below the sentinel at most (R8). -/
def fitN (w : Nat) (x : Nat) : Nat := min x (2 ^ w - 2)

/-- An unsigned format with its sentinel. -/
def optN (w : Nat) (o : Option Nat) : Nat := match o with | none => 2 ^ w - 1 | some v => fitN w v

/-- A number that is no measurement (an identity, a sequence number, a time), carried as it is, with its sentinel (R8). -/
def rawN (w : Nat) (o : Option Nat) : Nat := match o with | none => 2 ^ w - 1 | some v => v % 2 ^ w

/-- A signed format with its sentinel. -/
def optI (w : Nat) (o : Option Int) : Int := match o with | none => -(2 ^ (w - 1)) | some v => fitI w v

/-- An exact value as an unsigned format, rounded to nearest, clamped. -/
def ratN (w : Nat) (x : Rat) : Nat := fitN w (roundAway x).toNat

/-- A fraction in 0.01 %. -/
def pct (x : Rat) : Nat := ratN 16 (x * 10000)

/-! ### CRCs and the digest -/

/-- One bit of a reflected CRC-32C register (polynomial 0x1EDC6F41, reflected 0x82F63B78). -/
def crc32cBit (r : Nat) : Nat := if r % 2 = 1 then (r / 2) ^^^ 0x82F63B78 else r / 2

/-- One byte into the register. -/
def crc32cByte (r : Nat) (b : Byte) : Nat :=
  crc32cBit (crc32cBit (crc32cBit (crc32cBit (crc32cBit (crc32cBit (crc32cBit (crc32cBit (r ^^^ b.toNat))))))))

/-- CRC-32C (Castagnoli): initial and final XOR 0xFFFFFFFF. -/
def crc32c (b : Bytes) : Nat := (b.foldl crc32cByte 0xFFFFFFFF) ^^^ 0xFFFFFFFF

/-- One bit of the CRC-16 register (polynomial 0x1021, most significant bit first). -/
def crc16Bit (r : Nat) : Nat := if r / 0x8000 % 2 = 1 then ((r * 2) % 0x10000) ^^^ 0x1021 else (r * 2) % 0x10000

/-- One byte into the register. -/
def crc16Byte (r : Nat) (b : Byte) : Nat :=
  crc16Bit (crc16Bit (crc16Bit (crc16Bit (crc16Bit (crc16Bit (crc16Bit (crc16Bit (r ^^^ (b.toNat * 256)))))))))

/-- CRC-16 with polynomial 0x1021 and initial value 0xFFFF, as the gate link uses it. -/
def crc16 (b : Bytes) : Nat := b.foldl crc16Byte 0xFFFF

/-- The safety digest of R143 over a SAFETY section value. -/
def safetyDigest (value : Bytes) : Nat :=
  let c := crc32c (value.take (value.length - 4))
  (c / 65536) ^^^ (c % 65536)

/-! ### COBS framing of the service port (R552) -/

/-- One COBS code block: its length byte and its bytes. -/
def cobsBlock (acc : Bytes) : Bytes := BitVec.ofNat 8 (acc.length + 1) :: acc

/-- COBS encoding with the block gathered so far; the closing 0x00 is the caller's. -/
def cobsGo : Bytes → Bytes → Bytes
  | acc, [] => cobsBlock acc
  | acc, b :: bs =>
    if b = 0 then cobsBlock acc ++ cobsGo [] bs
    else if acc.length = 253 then
      match bs with
      | [] => cobsBlock (acc ++ [b])
      | c :: cs => cobsBlock (acc ++ [b]) ++ cobsGo [] (c :: cs)
    else cobsGo (acc ++ [b]) bs

/-- A frame with its closing 0x00. -/
def cobsFrame (b : Bytes) : Bytes := cobsGo [] b ++ [0]

/-- COBS decoding of a frame without its 0x00; none where a block runs past the end or holds a 0. -/
def cobsDec : Nat → Bytes → Option Bytes
  | 0, _ => some []
  | _ + 1, [] => some []
  | f + 1, c :: cs =>
    let n := c.toNat - 1
    if c = 0 || decide (cs.length < n) || (cs.take n).contains 0 then none
    else
      match cobsDec f (cs.drop n) with
      | none => none
      | some r => some (cs.take n ++ (if c.toNat < 255 && !(cs.drop n).isEmpty then [0] else []) ++ r)

/-! ### Roots and transcendental functions on exact numbers (assumption 8)

The spec gives the formulas and no internal number format. Values are snapped to the grid 2^-64 and series are cut
where their terms fall below it. -/

/-- The exact value brought to the grid of 2^-64. -/
def snap (x : Rat) : Rat := (x * 18446744073709551616).floor / 18446744073709551616

/-- Integer square root by bisection of `fuel` bits: the greatest r with r² ≤ n among those built. -/
def isqrtGo (n : Nat) : Nat → Nat → Nat
  | 0, r => r
  | k + 1, r => if (r + 2 ^ k) * (r + 2 ^ k) ≤ n then isqrtGo n k (r + 2 ^ k) else isqrtGo n k r

/-- Integer square root of a number below 2^512. -/
def isqrt (n : Nat) : Nat := isqrtGo n 256 0

/-- Square root of a number that is not negative; 0 below. -/
def sqrtR (x : Rat) : Rat :=
  if x ≤ 0 then 0 else (isqrt (x * 340282366920938463463374607431768211456).floor.toNat : Rat) / 18446744073709551616

/-- Horner sum of a power series with coefficients given from the constant term. -/
def series (x : Rat) : List Rat → Rat
  | [] => 0
  | c :: cs => snap (c + x * series x cs)

/-- 1/0!, 1/1!, … 1/20!. -/
def expCoef : List Rat :=
  [1, 1, 1/2, 1/6, 1/24, 1/120, 1/720, 1/5040, 1/40320, 1/362880, 1/3628800, 1/39916800, 1/479001600,
   1/6227020800, 1/87178291200, 1/1307674368000, 1/20922789888000, 1/355687428096000]

/-- Repeated squaring. -/
def sqN : Nat → Rat → Rat
  | 0, x => x
  | n + 1, x => sqN n (snap (x * x))

/-- exp(x) for −4,096 ≤ x ≤ 64 (below: 0). -/
def expR (x : Rat) : Rat :=
  if x < -4096 then 0 else sqN 13 (series (x / 8192) expCoef)

/-- π to 2^-66. -/
def piR : Rat := 231808622658467930956 / 73786976294838206464

/-- sin and cos of a reduced argument by their series. -/
def sinSeries (x : Rat) : Rat :=
  let y := snap (-(x * x))
  x * series y [1, 1/6, 1/120, 1/5040, 1/362880, 1/39916800, 1/6227020800, 1/1307674368000, 1/355687428096000,
    1/121645100408832000, 1/51090942171709440000]
def cosSeries (x : Rat) : Rat :=
  let y := snap (-(x * x))
  series y [1, 1/2, 1/24, 1/720, 1/40320, 1/3628800, 1/479001600, 1/87178291200, 1/20922789888000,
    1/6402373705728000, 1/2432902008176640000]

/-- sin and cos of a number of turns (period 1). -/
def sinTurn (t : Rat) : Rat := let r := t - (t + 1 / 2).floor; snap (sinSeries (2 * piR * r))
def cosTurn (t : Rat) : Rat := let r := t - (t + 1 / 2).floor; snap (cosSeries (2 * piR * r))

/-- Half-angle step of the arc tangent. -/
def atanHalf (x : Rat) : Rat := snap (x / (1 + sqrtR (1 + x * x)))

/-- Arc tangent, radians. -/
def atanR (x : Rat) : Rat :=
  let h := atanHalf (atanHalf (atanHalf x))
  let y := snap (-(h * h))
  8 * h * series y [1, 1/3, 1/5, 1/7, 1/9, 1/11, 1/13, 1/15, 1/17, 1/19, 1/21, 1/23, 1/25]

/-- Four-quadrant arc tangent of y / x, radians. -/
def atan2R (y x : Rat) : Rat :=
  if 0 < x then atanR (y / x)
  else if x < 0 then (if 0 ≤ y then atanR (y / x) + piR else atanR (y / x) - piR)
  else if 0 < y then piR / 2 else if y < 0 then -(piR / 2) else 0

/-- Natural logarithm by halving into [1, 2) within `fuel` steps and the series of artanh. -/
def lnGo : Nat → Rat → Rat
  | 0, _ => 0
  | k + 1, x =>
    if 2 ≤ x then lnGo k (x / 2) + 12786308645202655659 / 18446744073709551616
    else if x < 1 then lnGo k (x * 2) - 12786308645202655659 / 18446744073709551616
    else
      let z := snap ((x - 1) / (x + 1))
      let y := snap (z * z)
      2 * z * series y [1, 1/3, 1/5, 1/7, 1/9, 1/11, 1/13, 1/15, 1/17, 1/19, 1/21, 1/23, 1/25, 1/27, 1/29, 1/31]

/-- Natural logarithm of a positive number below 2^200; 0 otherwise. -/
def lnR (x : Rat) : Rat := if x ≤ 0 then 0 else lnGo 400 x

/-- Linear interpolation between two points. -/
def lerp (x0 y0 x1 y1 x : Rat) : Rat := if x1 = x0 then y0 else y0 + (y1 - y0) * (x - x0) / (x1 - x0)

/-- Median of a list: the middle of an odd number, the mean of the two middle ones of an even number. -/
def insertR (x : Rat) : List Rat → List Rat
  | [] => [x]
  | y :: ys => if x ≤ y then x :: y :: ys else y :: insertR x ys
def sortR (l : List Rat) : List Rat := l.foldr insertR []
def medianR (l : List Rat) : Option Rat :=
  let s := sortR l
  let n := s.length
  if n = 0 then none
  else if n % 2 = 1 then some (nth 0 s (n / 2))
  else some ((nth 0 s (n / 2 - 1) + nth 0 s (n / 2)) / 2)

/-- Sum, greatest and least of a list. -/
def sumR (l : List Rat) : Rat := l.foldl (· + ·) 0
def maxOf (l : List Rat) : Option Rat := l.foldl (fun a x => match a with | none => some x | some m => some (maxR m x)) none
def minOf (l : List Rat) : Option Rat := l.foldl (fun a x => match a with | none => some x | some m => some (minR m x)) none

/-- A word of flags, bit 0 first. -/
def bitsOf : List Bool → Nat
  | [] => 0
  | b :: bs => b.toNat + 2 * bitsOf bs

/-- Bit `i` of a number. -/
def bitAt (v i : Nat) : Bool := v / 2 ^ i % 2 = 1

/-- A Bool as 0 or 1. -/
def b2n (b : Bool) : Nat := if b then 1 else 0

end Sys2Proof.Machine
end

