-- ==== Sys2Proof/Machine/State.lean ====
section
/-! DEFINITION. The state of the block as plain data: every register, FIFO, buffer, counter, mode and pin the spec
gives it, each field with the value it has at reset (start of Dawn), and the queue of waiting commands. Reset
values the spec does not give are named in the assumption log. -/
namespace Sys2Proof.Machine

/-! ### Records shared by several parts -/

/-- A datagram the module sends to a host (R437), with the binding it goes to. -/
structure Dgram where
  port : Nat
  addr : Nat
  udp  : Nat
  kind : Nat
  session : Nat
  seq  : Nat
  code : Nat
  status : Nat
  flags : Nat
  frag : Nat := 0
  fragN : Nat := 1
  rtime : Nat := 0
  payload : Bytes := []
  tag : Bytes := []
  deriving DecidableEq, Repr

/-- A once-per-60-s log limiter of the chapters (count since the last record, time of it). -/
structure LogGate where
  count : Nat := 0
  at_   : Option Nat := none
  deriving DecidableEq, Repr

/-- A record as a producer sends it to its intake ring. -/
structure Intake where
  time : Nat
  code : Nat
  sev : Nat
  src : Nat
  data : Bytes
  deferred : Bool := false
  timeValid : Bool := false
  deriving DecidableEq, Repr

/-! ### Ticks and the schedule (R17 to R32) -/

/-- The schedule: local time, the counts of R105, and deadline supervision (R29 to R32). -/
structure TickSt where
  /-- Local time since the reset release of this Dawn, in ns; it never steps. -/
  now : Nat := 0
  /-- `TICK_COUNT`, R126. -/
  ticks : Nat := 0
  /-- j, f and c of R105, taken afresh at each tick edge. -/
  j : Nat := 0
  f : Nat := 0
  c : Nat := 0
  /-- On-time history of scan items 0x20 to 0x27, newest first, at most 10 runs (R31, R399 bit 2). -/
  runs : List (List Bool) := List.replicate 8 []
  /-- Skipped runs of the scan items (R31). -/
  skipped : List Nat := List.replicate 8 0
  /-- Scan items with a late run not yet complete (R31), and those that hold Twilight bit 2 (R31, R399). -/
  late : List Bool := List.replicate 8 false
  overrunTw : List Bool := List.replicate 8 false
  /-- The PWM block keeps the previous duty words for this period (R30). -/
  keepDuty : Bool := false
  /-- Running on the internal holdover oscillator (R21). -/
  refLost : Bool := false
  /-- A counter step of R115 shortened or lengthened the tick that follows: its length in ns. -/
  oddTick : Option Nat := none
  deriving DecidableEq, Repr

/-! ### String states (R33 to R51) -/

/-- The string states of R33. -/
inductive StringState
  | off | dawn | standby | precharge | closed | run | twilight | stopping | fault | service
  deriving DecidableEq, Repr

/-- The pair roles of R40. -/
inductive PairRole
  | solo | active | standbyPair
  deriving DecidableEq, Repr

/-- Internal triggers that tick 16 applies before the queued commands (R38). -/
inductive Trigger
  | dawnDone | twilightRaised | prechargeDone | prechargeTimeout | stoppingDone | twilightExhausted
  deriving DecidableEq, Repr

/-- A latched fault cause with its clear class (R42), whether it trips the PCS (R393) and whether it
is still active (R43). `fn` is the safety function of R378 that made it, 0 for none. -/
structure LatchedCause where
  code   : Nat
  cls    : Nat
  trip   : Bool := false
  active : Bool := true
  fn     : Nat := 0
  deriving DecidableEq, Repr

/-- The string state machine and its objects (R33 to R51). -/
structure StringSt where
  /-- `STRING_STATE`, R49; 1 (DAWN) at Dawn. -/
  state : StringState := .dawn
  /-- `PAIR_ROLE`, R49; 0xFF (none) until decided. -/
  role : Option PairRole := none
  /-- `STATE_CAUSE`, R49; 0x0000 at Dawn. -/
  cause : Nat := 0
  /-- `STATE_ENTRY_TIME`, R49; Dawn start. -/
  entryTime : Nat := 0
  /-- Local time of the last transition, for the timeouts that run from it. -/
  entered : Nat := 0
  /-- `STOP_TARGET`, R49; 0xFF (none) outside STOPPING. -/
  stopTarget : Option StringState := none
  /-- `FAULT_STOP_DONE` of R50. -/
  faultStopDone : Bool := false
  /-- `MIRRORED` of R50. -/
  mirrored : Bool := false
  /-- `PARTNER_ABSENT` of R50. -/
  partnerAbsent : Bool := false
  /-- Twilight time used, in ns, counted in TWILIGHT only (R44). -/
  twilightUsed : Nat := 0
  /-- Local time since which no Twilight cause has been armed (R44). -/
  unarmedSince : Option Nat := none
  /-- Consecutive precharge timeouts (R35). -/
  prechargeTimeouts : Nat := 0
  /-- Triggers waiting for tick 16 (R38). -/
  triggers : List Trigger := []
  /-- Latched fault causes, oldest first (`FAULT_CAUSES`, R409). -/
  causes : List LatchedCause := []
  deriving DecidableEq, Repr

/-! ### Pins, connectors and front panel (R52 to R82) -/

/-- What one gate-link port sends (R327): nothing, SAFE_OFF frames, RUN frames, or the aborted frame's fast SAFE_OFF. -/
inductive GatePort
  | dark | safeOff | run | fastSafeOff
  deriving DecidableEq, Repr

/-- LED colours and modes of R81. -/
inductive Led
  | off | greenSteady | greenBlink | greenPulse | amber | red | redBlink
  deriving DecidableEq, Repr

/-- Connector levels and presence (R52 to R82). -/
structure PinSt where
  /-- PLUG_DET reads low: a plug is seated (J14.5). -/
  plugDet : Bool := true
  /-- PAIR_PRESENT reads low (J13.3). -/
  pairCable : Bool := false
  /-- FREEZE_N and the reset closure are asserted (J16.11, J16.12). No row opens FREEZE_N again: the model takes it as open
  from the next Dawn on (assumption 60). -/
  freezeLow : Bool := false
  resetLow : Bool := false
  /-- TRST_N is driven by a probe; else the TAP is held reset (J16.9, assumption 60). -/
  trstDriven : Bool := false
  /-- Ethernet and SFP links up (J10, J11, J12). -/
  eth1Up : Bool := true
  eth2Up : Bool := true
  sfpUp : Bool := false
  /-- Gate-link ports GL0 to GL5. -/
  gate : List GatePort := List.replicate 6 .dark
  /-- Skaley transmitters and receive terminations on (R59). -/
  sklTx : Bool := false
  /-- ±15 V sensor supplies, +24V_DI and SFP supply on. -/
  sensOn : Bool := false
  diOn : Bool := false
  sfpOn : Bool := false
  /-- The lamp test of R81 runs. -/
  lampTest : Bool := true
  /-- The image PLUG_WRITE wrote last to the plug (R149). -/
  plugWritten : Option Bytes := none
  /-- SFP module of an unsupported type (R75). -/
  sfpBad : Bool := false
  deriving DecidableEq, Repr

/-! ### Supplies (R83 to R102) -/

/-- Stages of the aux-loss sequence of R90. -/
inductive AuxStage
  | none | dip | lost | save
  deriving DecidableEq, Repr

/-- Supply state and objects. -/
structure PowerSt where
  stage : AuxStage := .none
  /-- Local time of the start of the dip. -/
  dipStart : Nat := 0
  /-- Time the dip had lasted when the present Dawn began, ns: a dip and its sequence outlast a restart (R89, R91). -/
  dipAge : Nat := 0
  /-- AUX_LOST was declared at the start of the dip. -/
  lostAtOnce : Bool := false
  /-- J1's own level is above its threshold; and J1 counts as above it, which it does not with the input switch open (R88). -/
  j1High : Bool := true
  j1Ok : Bool := true
  /-- `AUX_OV`: input switch open. -/
  auxOv : Bool := false
  /-- `HOLDUP_READY`. -/
  holdupReady : Bool := false
  degraded : Bool := false
  insufficient : Bool := false
  failed : Bool := false
  sensOff : Bool := false
  /-- Objects of R101. -/
  auxVoltage : Option Nat := none
  auxPower : Option Nat := none
  holdupVoltage : Option Nat := none
  holdupCap : Option Nat := none
  railV : List (Option Nat) := List.replicate 5 none
  /-- `AUX_DIP_CNT`, kept. -/
  dipCnt : Nat := 0
  /-- The rail fault AON keeps: rail and value (R94). -/
  railFault : Option (Nat × Nat) := none
  /-- J1 returned while the sequence ran (R91). -/
  returned : Bool := false
  deriving DecidableEq, Repr

/-! ### Timebase (R103 to R127) -/

/-- `SYNC_STATE` of R106. -/
inductive SyncState
  | freeRun | acquiring | locked | holdover | pairFollow
  deriving DecidableEq, Repr

/-- The head of a PTP message the module sends (R108): sequence, domain, VLAN and priority where it is tagged, correction in ns. -/
structure PtpHead where
  seq : Nat
  domain : Nat
  tag : Option (Nat × Nat) := none
  corr : Int := 0
  deriving DecidableEq, Repr

/-- A frame a MAC sends: at a launch time (R120), or untimed. A response holds its place in its transmit ring until it leaves. -/
inductive TxFrame
  | pdelayReq (h : PtpHead)
  | pdelayResp (h : PtpHead) (requester : Bytes) (t2 : Int)
  | pdelayFollowUp (h : PtpHead) (requester : Bytes) (t3 : Int)
  | mirror (mtype mtick : Nat) (payload : Bytes)
  | notify (session : Nat) (d : Dgram)
  | response (ring : Nat) (d : Dgram)
  deriving DecidableEq, Repr

/-- An entry of a launch queue. -/
structure LaunchEntry where
  at_   : Nat
  frame : TxFrame
  deriving DecidableEq, Repr

/-- A two-step Sync waiting for its Follow_Up (R109). -/
structure PendingSync where
  source : Bytes
  seq : Nat
  t2 : Int
  corr : Int
  since : Nat
  interval : Nat
  deriving DecidableEq, Repr

/-- The data sets of a master's Announce that the best master clock algorithm compares. -/
structure Announce where
  source : Bytes
  gmId : Bytes
  prio1 : Nat
  class_ : Nat
  accuracy : Nat
  variance : Nat
  prio2 : Nat
  stepsRemoved : Nat
  ptpTimescale : Bool
  utcOffset : Int
  utcValid : Bool
  interval : Nat
  deriving DecidableEq, Repr

/-- Timebase state. -/
structure TimeSt where
  /-- The 64-bit counter's integer part at the latest tick edge, the extended tick time; its 32-bit fraction is 0 there (R104,
  R105, R116). -/
  time : Nat := 0
  sync : SyncState := .freeRun
  timeValid : Bool := false
  rtcLost : Bool := false
  slewing : Bool := false
  holdoverExpired : Bool := false
  refHoldover : Bool := false
  /-- `PTP_OFFSET`. -/
  offset : Option Int := none
  /-- Local time since which the offset has been unusable. -/
  unusableSince : Option Nat := none
  /-- The last 8 valid peer-delay measurements, newest first (R110). -/
  delays : List Int := []
  gm : Option Announce := none
  /-- Local time of the last Announce. -/
  announceAt : Nat := 0
  /-- Consecutive Sync messages with |offset| ≤ 100 ns. -/
  goodSyncs : Nat := 0
  pendingSync : Option PendingSync := none
  /-- Servo sum and `FREQ_ADJ` (R113); `FREQ_ADJ` is `TRIM_PPB` at Dawn. -/
  sum : Rat := 0
  freqAdj : Int := 0
  /-- A step waiting for the next tick edge, ns (R115). -/
  step : Option Int := none
  /-- Local time at which HOLDOVER was entered. -/
  holdoverSince : Nat := 0
  /-- The Pdelay_Req outstanding: sequence and its transmit stamp. -/
  pdelaySeq : Nat := 0
  pdelayT1 : Option Int := none
  pdelayAt : Option Nat := none
  /-- The RTC of the AON domain: its reading, and its measured rate error in ppb (R20, R118). -/
  rtc : Rat := 0
  rtcPpb : Int := 0
  rtcWroteAt : Option Nat := none
  rtcCheckAt : Option Nat := none
  /-- Counters of R126. -/
  stepCnt : Nat := 0
  discardCnt : Nat := 0
  stampLost : Nat := 0
  launchLate : Nat := 0
  launchDrop : Nat := 0
  unsynced : Nat := 0
  /-- Launch queues: ETH1, ETH2, pair link (R120). -/
  q0 : List LaunchEntry := []
  q1 : List LaunchEntry := []
  q2 : List LaunchEntry := []
  /-- Frames refused by a full launch queue and sent untimed, and frames sent, per MAC. -/
  untimed : List TxFrame := []
  sent : List TxFrame := []
  deriving DecidableEq, Repr

/-! ### Dawn, identity region and configuration status (R128 to R153, R558) -/

/-- Dawn state and objects of R152 and R153. -/
structure DawnSt where
  /-- `DAWN_REASON`. -/
  reason : Nat := 0
  /-- `DAWN_STEP`; none (0xFF) when Dawn has ended. -/
  step : Option Nat := some 0
  /-- Local time at which the present step started. -/
  stepSince : Nat := 0
  /-- `DAWN_DURATION`, ms. -/
  duration : Option Nat := none
  /-- `DAWN_FAIL`. -/
  fail : Nat := 0
  plugPresent : Bool := false
  headerOk : Bool := false
  sectionsOk : Bool := false
  structureOk : Bool := false
  rangesOk : Bool := false
  digestOk : Bool := false
  sealMatch : Bool := false
  unknownOpt : Bool := false
  journalSkipped : Bool := false
  stringChanged : Bool := false
  older : Bool := false
  fallback : Bool := false
  /-- The gate link sent nothing when Dawn failed, so it sends nothing in the FAULT that follows (R131). -/
  failDark : Bool := false
  plugRemoved : Bool := false
  imageSeq : Option Nat := none
  stringId : Option Nat := none
  digest : Option Nat := none
  sealSw : Option Nat := none
  imageLen : Option Nat := none
  buildTime : Option Nat := none
  /-- OWN_IN was active in D7 (R135). -/
  ownInD7 : Bool := false
  /-- Flash is mounted and the event log located: step D4 has done its work in this Dawn (R128). -/
  mounted : Bool := false
  /-- Records made before step D4 are written there (R128); and those carried over from before this Dawn. -/
  deferred : List Intake := []
  carried : List Intake := []
  /-- Entries for the defect map made before flash is mounted in D4: kind, state, unit, word address (R133). -/
  repairs : List (Nat × Nat × Nat × Nat) := []
  deriving DecidableEq, Repr

/-- A module key slot of R440. -/
abbrev KeySlot := Option Bytes

/-- Factory or SYS_CAL calibration of one of the 18 indices (R184). -/
structure CalSet where
  offset : Int := 0
  gain : Nat := 1073741824
  /-- A coefficient set stands in the identity region; the plant time it was made, where it is known. -/
  present : Bool := true
  made : Option Nat := none
  deriving DecidableEq, Repr

/-- The identity region and fuses: what stands in flash from manufacture or is kept there (R145, R147, R150, R461). -/
structure IdentSt where
  serial : Nat := 0
  hwRev : Nat := 0
  fwVersion : Nat := 0
  mac : Bytes := List.replicate 12 0
  dawnCnt : Nat := 0
  keys : List KeySlot := List.replicate 4 (some (List.replicate 32 0))
  fallbackIp : Nat := 0
  fallbackMask : Nat := 0
  trimPpb : Int := 0
  phyRx1 : Int := 0
  phyTx1 : Int := 0
  phyRx2 : Int := 0
  phyTx2 : Int := 0
  sfpRx : Int := 0
  /-- Calibrated housekeeping readings of VREF_A, VREF_B and VREF_C, counts of 12 bits, and the calibrated value of DS6,
  counts (R157, R158). -/
  hkVrefA : Nat := 2844
  hkVrefB : Nat := 2844
  hkVrefC : Nat := 2330
  ds6Cal : Int := 4194304
  /-- The class 2 latch of R147: the latched causes, oldest first. -/
  class2 : List Nat := []
  /-- Data of the last accepted image (R145). -/
  hasImage : Bool := false
  stringId : Nat := 0
  imageSeq : Nat := 0
  stringP : Nat := 0
  stringS : Nat := 0
  timeModeTai : Bool := false
  /-- The module's own network to PE, kΩ (R402). -/
  rOwn : Nat := 20000
  /-- Estimator key of R262. -/
  estKey : Bytes := List.replicate 32 0
  /-- Calibration sets 0 to 17 (R184), and those SYS_CAL has written for the next Dawn. -/
  cal : List CalSet := List.replicate 18 {}
  calNext : List CalSet := List.replicate 18 {}
  deriving DecidableEq, Repr

/-! ### Metrology (R154 to R193) -/

/-- One ΔΣ channel DS0 to DS7 (R154, R160 to R164, R190). -/
structure DsCh where
  /-- Filter settings N, M code and L in force (R160). -/
  sincN : Nat := 0
  dec : Nat := 0
  postL : Nat := 0
  valid : Bool := false
  /-- `SETTLING`: the words are flagged (R162). -/
  settling : Bool := false
  /-- Words still to pass before the words are valid (R162); 0 when settled. -/
  settle : Nat := 0
  /-- The channel waits for `REF_SETTLED` before its settling count starts (R159). -/
  waitRef : Bool := true
  overrange : Bool := false
  failed : Bool := false
  calDefault : Bool := false
  /-- DS0 and DS1 at gain ×4 (R166, R187). -/
  gain4 : Bool := false
  substituted : Bool := false
  /-- The newest decimated words, newest first, at most L (post-filter of R160). -/
  hist : List Int := []
  /-- Last valid calibrated tick word in counts of 2^23 per range (R185). -/
  word : Int := 0
  /-- A valid word has been formed since Dawn. -/
  haveWord : Bool := false
  /-- Sum and number of the tick words of the present frame; and of the frame before, until its frame latch (R160). -/
  acc : Int := 0
  accN : Nat := 0
  frSum : Int := 0
  frN : Nat := 0
  /-- Frame mean of the last frame latch, in counts, exact; none before the first. -/
  mean : Option Rat := none
  deriving DecidableEq, Repr

/-- One SAR converter SAR0 to SAR3 (R174 to R179, R192). -/
structure SarCh where
  valid : Bool := false
  overrange : Bool := false
  /-- Calibrated tick conversion in counts of 2^15 per range. -/
  word : Int := 0
  acc : Int := 0
  accN : Nat := 0
  frSum : Int := 0
  frN : Nat := 0
  mean : Option Rat := none
  /-- Averaged calibrated results of the entries of the last user sequence (R176). -/
  results : List Rat := []
  /-- User sequence running; a trigger latched as pending (R177). -/
  busy : Bool := false
  pending : Bool := false
  /-- Local time within the tick, ns, at which the running sequence ends. -/
  seqEnd : Nat := 0
  overruns : Nat := 0
  /-- SAR_TRIG_OVERRUN has been logged in the present frame. -/
  overrunLogged : Bool := false
  paired : Bool := false
  partner : Nat := 0
  leader : Bool := false
  deriving DecidableEq, Repr

/-- What DS7 does (R172, R193). -/
inductive Ds7Role
  | notStarted
  | shadowing (ch : Nat)
  | injecting (ch : Nat)
  | substituting (ch : Nat)
  | failed
  deriving DecidableEq, Repr

/-- A running SYS_CAL (R186). -/
structure SysCal where
  index : Nat
  span  : Int
  /-- `CAL_STEP`: 1 zero wait, 2 span wait, 3 capturing. -/
  step  : Nat := 1
  /-- Which capture runs or comes next: false zero, true span. -/
  spanPhase : Bool := false
  repeats : Nat := 0
  /-- Words of the running capture: their number, sum and sum of squares. -/
  n : Nat := 0
  sum : Int := 0
  sumSq : Int := 0
  z : Option Rat := none
  /-- σ of the last capture, nV. -/
  sigma : Option Nat := none
  s : Option Rat := none
  since : Nat := 0
  deriving DecidableEq, Repr

/-- Coulomb counter of one channel: whole µC and the carried fraction in 2^−32 µC (R167). -/
structure CoulombCtr where
  q : Int := 0
  frac : Nat := 0
  deriving DecidableEq, Repr

/-- Metrology state. -/
structure MetSt where
  ds : List DsCh := List.replicate 8 {}
  sar : List SarCh := List.replicate 4 {}
  /-- `REF_STATUS` of R191. -/
  refSettled : Bool := false
  refSelB : Bool := false
  refAFault : Bool := false
  refBFault : Bool := false
  sarRefFault : Bool := false
  refSuspect : Bool := false
  /-- Local time of the last reference switch. -/
  refSwitchedAt : Nat := 0
  /-- Consecutive frames of DS6 disagreement, and the disagreement D of the last (R157). -/
  refBadFrames : Nat := 0
  refD : Rat := 0
  /-- Consecutive rounds of VREF_C departure (R158). -/
  refCBad : Nat := 0
  /-- Coulomb counters of DS0 and DS1 and the published totals. -/
  c0 : CoulombCtr := {}
  c1 : CoulombCtr := {}
  /-- The published counter Q, `CHARGE_IN`, `CHARGE_OUT` accumulating, and as latched for the objects. -/
  qTot : CoulombCtr := {}
  inTot : CoulombCtr := {}
  outTot : CoulombCtr := {}
  coulomb : Int := 0
  chargeIn : Int := 0
  chargeOut : Int := 0
  srcDs1 : Bool := false
  uncertain : Bool := false
  rewritten : Bool := false
  /-- Frozen channel of R169 and the local time the freeze began. -/
  frozen : Option (Nat × Nat) := none
  /-- Cross-check of R170: run of disagreeing frames, run of agreeing frames, decided. -/
  disagree : Nat := 0
  agree : Nat := 0
  crossDecided : Bool := false
  /-- The DS1 counter at the last frame latch; `COULOMB` and the DS1 counter at the start of the frame that this latch ended. -/
  ds1Latched : Int := 0
  frameStart : Int := 0
  ds1Start : Int := 0
  /-- `COULOMB` and the DS1 counter at the start of the first disagreeing frame (R171). -/
  atDisagree : Int := 0
  ds1AtDisagree : Int := 0
  /-- The tick word of the newest snapshot instant, mA (R25). -/
  snapWord : Int := 0
  /-- DS4 and DS5 tick words at the frame latch, 10 mV (R188). -/
  vPe : List (Option Int) := [none, none]
  /-- `T_SHUNT`, 0.01 °C; and the last valid reading of this Dawn. -/
  tShunt : Option Int := none
  tShuntLast : Option Int := none
  tNtc : List (Option Int) := List.replicate 8 none
  /-- NTC inputs (shunt, TH0 to TH7) whose open, and whose short, has been logged since they last read within range (R183). -/
  ntcOpen : List Bool := List.replicate 9 false
  ntcShort : List Bool := List.replicate 9 false
  hkRaw : List (Option Nat) := List.replicate 32 none
  /-- A housekeeping round is converting. -/
  hkRunning : Bool := false
  ds7 : Ds7Role := .notStarted
  /-- Local time the present dwell began; deviating dwells in a row of DS2 to DS6. -/
  dwellSince : Nat := 0
  deviations : List Nat := List.replicate 5 0
  /-- Sums and number of the tick words of DS7 and of the channel it shadows, from the end of DS7's `SETTLING` (R172). -/
  dwell7 : Int := 0
  dwellCh : Int := 0
  dwellN : Nat := 0
  calPendO : List (Option Int) := List.replicate 18 none
  calPendG : List (Option Nat) := List.replicate 18 none
  sysCal : Option SysCal := none
  /-- Calibration sets in force this Dawn (R185). -/
  cal : List CalSet := List.replicate 18 {}
  deriving DecidableEq, Repr

/-! ### Skaley link (R194 to R224) -/

/-- `SKL_RING_STATE` of R214. -/
inductive RingState
  | down | closed | split | open_
  deriving DecidableEq, Repr

/-- `SKL_MON_STATE` of R217. -/
inductive MonState
  | notSeen | quarantine | admitted | lost | refused
  deriving DecidableEq, Repr

/-- One ring place (R217 to R223). -/
structure Monitor where
  state : MonState := .notSeen
  /-- Admission step passed so far, 0 to 3 (R218), and consistent scans of step 4. -/
  step : Nat := 0
  scans : Nat := 0
  serial : Option Nat := none
  bootCnt : Option Nat := none
  delayA : Option Nat := none
  delayB : Option Nat := none
  /-- Round trips measured by DELAY, per port: sum in ns and number (R201). -/
  rtA : Nat := 0
  rtAn : Nat := 0
  rtB : Nat := 0
  rtBn : Nat := 0
  resetSeen : Bool := false
  /-- A block of the last voltage, drop or temperature set failed its CRC (R223). -/
  vCrcErr : Bool := false
  dCrcErr : Bool := false
  tCrcErr : Bool := false
  viaB : Bool := false
  looping : Bool := false
  geomOk : Bool := false
  /-- Reachable at present; and has been unreachable since it was REFUSED. -/
  reachable : Bool := false
  wasUnreachable : Bool := false
  /-- The block of the present voltage, drop or temperature set has arrived good. -/
  vDone : Bool := false
  dDone : Bool := false
  tDone : Bool := false
  /-- Admitted since the last snapshot: the clocks of R212 start at the next one (R218). -/
  clockDue : Bool := false
  /-- A position, a drop, a sensor of this monitor is stale. -/
  vStale : Bool := false
  dStale : Bool := false
  tStale : Bool := false
  /-- Lock-in participation, and results read (R210). -/
  lockin : Bool := false
  lockinRead : Bool := false
  lockinFails : Nat := 0
  /-- Status byte of the block read (R286). -/
  lockinSt : Nat := 0
  /-- Results of the lock-in: (local position, tone, I, Q) in nV. -/
  lockinData : List (Nat × Nat × Int × Int) := []
  /-- GEOM_SET came back exactly as sent (R218 step 2). -/
  geomSent : Bool := false
  /-- The calibration record of IDENT: its CRC, and whether record and time are there (R218 step 3). -/
  calCrc : Nat := 0
  calOk : Bool := false
  /-- `BOOT_CNT` of the first set of the running count of step 4. -/
  firstBoot : Nat := 0
  /-- The set in progress has been read once from this place: voltages, drops, temperatures. -/
  vAsked : Bool := false
  dAsked : Bool := false
  tAsked : Bool := false
  /-- Local time of the last good BAL block. -/
  balAt : Nat := 0
  deriving DecidableEq, Repr

/-- A Skaley frame queued or in flight (R196). -/
structure SklFrame where
  type_ : Nat
  dest  : Nat
  seq   : Nat := 0
  payload : Bytes
  /-- Port of launch: 0 A, 1 B. -/
  port  : Nat := 0
  /-- Launched at (local time), for R215. -/
  at_   : Nat := 0
  retry : Bool := false
  deriving DecidableEq, Repr

/-- The snapshot instant of the newest set of a kind, as every module of a pair knows it: local time, plant time, `COULOMB` of the
string and the DS0 word, mA (R25, R220, R244). -/
structure SnapMark where
  at_ : Nat := 0
  time : Nat := 0
  q : Int := 0
  word : Int := 0
  deriving DecidableEq, Repr

/-- Link state. -/
structure LinkSt where
  ring : RingState := .down
  breakA : Option Nat := none
  breakB : Option Nat := none
  /-- Local time the ring left CLOSED, and consecutive frames with both SYNCs returned (R216). -/
  brokenSince : Nat := 0
  /-- A break has been declared and not healed. -/
  broken : Bool := false
  syncRun : Nat := 0
  mons : List Monitor := List.replicate 40 {}
  snapId : Option Nat := none
  /-- `SNAP_ID` given last to any snapshot, scheduled or on demand (R207). -/
  snapUsed : Option Nat := none
  /-- SEQ of the next frame per port (R196). -/
  seqA : Nat := 0
  seqB : Nat := 0
  queue : List SklFrame := []
  flight : List SklFrame := []
  launched : List SklFrame := []
  crcA : Nat := 0
  crcB : Nat := 0
  blockCrc : Nat := 0
  mismatch : Nat := 0
  /-- `STACK_DISAGREE_CNT` (R386). -/
  stackDisagree : Nat := 0
  retries : Nat := 0
  skip : List Nat := List.replicate 5 0
  /-- On-demand snapshot: its SNAP_ID and the frames left for its read (R208). -/
  onDemand : Option (Nat × Nat) := none
  onDemandV : List (Nat × List Nat) := []
  /-- Local time of its instant, and the DS0 word of that tick, mA (R25). -/
  onDemandAt : Nat := 0
  onDemandI : Int := 0
  /-- Marks of the voltage, drop and temperature sets of the present cycle. -/
  marks : List SnapMark := List.replicate 3 {}
  /-- The marks before them: of a set still being read, or sent, when the next one starts. -/
  marksOld : List SnapMark := List.replicate 3 {}
  /-- The newest voltage banks: sequence number, local time of the snapshot instant, `COULOMB` (R244, R419). -/
  bankLog : List (Nat × Nat × Int) := []
  /-- Lock-in running: LOCKIN_ID, tones, start frame number, length in ticks, end frame (R209). -/
  lockinId : Nat := 0
  lockinOn : Bool := false
  /-- Snapshot ids and local instants whose drops and temperatures are being read. -/
  dSnap : Nat := 0
  dSnapAt : Nat := 0
  tSnap : Nat := 0
  tSnapAt : Nat := 0
  vSnapAt : Nat := 0
  /-- SYNC of the present frame came back at the other port, from A and from B. -/
  syncA : Bool := false
  syncB : Bool := false
  /-- A STATUS round from both ports looks for the break: the places reached from A and from B once known. -/
  probing : Bool := false
  probeA : Option (List Nat) := none
  probeB : Option (List Nat) := none
  /-- Carrier present per port. -/
  carrierA : Bool := true
  carrierB : Bool := true
  deriving DecidableEq, Repr

/-! ### Cell, position and temperature tables (R225 to R242) -/

/-- One bank of a scanned group with its header fields (R24, R226). -/
structure Bank where
  /-- `BANK_STATE`: 0 EMPTY, 1 FILLING, 2 COMPLETE. -/
  st : Nat := 0
  /-- `BANK_HOLD`: safety core, estimation engine, share solver, balancing, thermal control. -/
  hold : List Bool := List.replicate 5 false
  seq : Nat := 0
  snapId : Nat := 0
  iStr : Int := 0
  time : Nat := 0
  /-- Local time of the snapshot instant. -/
  at_ : Nat := 0
  /-- Coulomb counter at the end of the snapshot tick (R244), µC. -/
  q : Int := 0
  /-- Values in entry order; none is the sentinel. -/
  vals : List (Option Int) := []
  /-- Positions whose balancing current was unresolved at the snapshot instant (R358). -/
  unres : List Nat := []
  deriving DecidableEq, Repr

/-- A doubly banked table group (R24). -/
structure Banked where
  b0 : Bank := {}
  b1 : Bank := {}
  /-- `NEWEST`; none is 0xFF. -/
  newest : Option Nat := none
  /-- The bank being filled. -/
  filling : Nat := 0
  /-- Sequence number given last. -/
  seq : Nat := 0
  deriving DecidableEq, Repr

/-- `EST_FLAGS` of R278. -/
structure EstFlags where
  frozen : Bool := false
  tFromSensors : Bool := false
  learned : Bool := false
  learnDue : Bool := false
  forcedEmpty : Bool := false
  chargeDisagree : Bool := false
  clampHi : Bool := false
  clampLo : Bool := false
  converged : Bool := false
  valid : Bool := false
  deriving DecidableEq, Repr

/-- A cell entry (R227, R228) without its drop banks. Ratios are S × x; `none` is the sentinel. -/
structure CellEntry where
  ratio : Option Rat := none
  filt : Rat := 1
  iCell : Option Int := none
  g : Rat := 1
  probation : Bool := false
  recovery : Bool := false
  gLimit : Bool := false
  weak : Bool := false
  lost : Bool := false
  excluded : Bool := false
  dropStale : Bool := false
  dropMissing : Bool := false
  valid : Bool := false
  lowCnt : Nat := 0
  probCnt : Nat := 0
  weakCnt : Nat := 0
  solveSeq : Option Nat := none
  /-- Least and greatest g of the present convergence block (R234). -/
  gMin : Rat := 1
  gMax : Rat := 1
  /-- Estimates of bytes 22 to 63 (R250): soc and capacity in µC, resistance in µΩ. -/
  soc : Option Rat := none
  cap : Rat := 0
  r : Rat := 0
  tInt : Option Int := none
  /-- P_c of R250. -/
  var : Rat := 0
  fl : EstFlags := {}
  /-- Share fraction x[s] × dQ summed since the last cell step (R244), µC, and over a CAP_LEARN session. -/
  dq : Rat := 0
  learnDq : Rat := 0
  /-- Sequence number of the voltage bank whose charge the estimates hold (R244, R419). -/
  lastBank : Nat := 0
  /-- Local time of the snapshot instant of the newest valid drop (R212). -/
  dAt : Option Nat := none
  deriving DecidableEq, Repr

/-- A position entry (R229) without its voltage banks. -/
structure PosEntry where
  iPos : Option Int := none
  k : Rat := 1
  kHigh : Bool := false
  gConverged : Bool := false
  kConverged : Bool := false
  shareExcluded : Bool := false
  dropStale : Bool := false
  notQualified : Bool := false
  vStale : Bool := false
  /-- Local time of the snapshot instant of the newest valid voltage (R212). -/
  vAt : Option Nat := none
  solved : Bool := false
  lostN : Nat := 0
  weakN : Nat := 0
  shareMax : Option Rat := none
  derate : Rat := 1
  inconsCnt : Nat := 0
  consCnt : Nat := 0
  solveSeq : Option Nat := none
  /-- Runs of R234: solves inside 2 %, solves outside, counted solves since g was set to 1.0 (or loaded
  as met), and counted solves of the present block. -/
  kIn : Nat := 0
  kOut : Nat := 0
  gSolves : Nat := 0
  gBlock : Nat := 0
  /-- Position filter of R245 and R246: soc, va, vb, h and the covariance of soc, va and vb (symmetric).
  `soc` is none before the estimator has started; capacity in µC, voltages in µV, resistances in µΩ. -/
  soc : Option Rat := none
  va : Rat := 0
  vb : Rat := 0
  h : Rat := 0
  p00 : Rat := 0
  p01 : Rat := 0
  p02 : Rat := 0
  p11 : Rat := 0
  p12 : Rat := 0
  p22 : Rat := 0
  cap : Rat := 0
  /-- `R_POS_REF` of R248 and its initial value, µΩ. -/
  rRef : Rat := 0
  rInit : Rat := 0
  /-- `SOC` as reported under R253 and R254; the band of R252 of the last step. -/
  socRep : Option Rat := none
  socLo : Rat := 0
  socHi : Rat := 1
  /-- Row 1 or 2 of R254 held at the last step: the position and its cells report 0. -/
  forced : Bool := false
  ocv : Option Rat := none
  fl : EstFlags := {}
  tInt : Option Int := none
  /-- Local time of the integration end that set `T_INT` (R292). -/
  tIntAt : Nat := 0
  /-- Voltage reference of the rest rule (R258), 0.1 mV, and the local time it was last reset. -/
  vRef : Option Int := none
  vRefAt : Nat := 0
  /-- Voltage and current of the previous valid bank (R248): 0.1 mV and mA. -/
  lastV : Option Int := none
  lastI : Rat := 0
  /-- Bank sequence last applied, and coulomb value at its snapshot tick (R244). -/
  lastBank : Nat := 0
  /-- Counted disagreements, newest first, TAI minutes (R255). -/
  disagrees : List Nat := []
  /-- CAP_LEARN: charge out over phases 2 and 3, µC; full-rest and empty-rest SOC; rescaled by R235. -/
  learnDq : Rat := 0
  socFull : Rat := 0
  /-- Reported SOC of the last step taken while rested (R258, R265). -/
  restSoc : Rat := 0
  socEmpty : Rat := 0
  rescaled : Bool := false
  deriving DecidableEq, Repr

/-- A temperature entry (R230) without its banks. -/
structure TempEntry where
  fitted : Bool := false
  valid : Bool := false
  stale : Bool := false
  broken : Bool := false
  /-- `T_BAND`; none is 0xFF. -/
  band : Option Nat := none
  /-- `T_AGE`, at most 0xFFFE; none before the sensor was first received (R8). -/
  age : Option Nat := none
  /-- Local time of the snapshot instant of the newest valid temperature (R212). -/
  tAt : Option Nat := none
  /-- Banks in a row that met a broken test (R354). -/
  brokenRun : Nat := 0
  /-- The hot outlier has been logged this Dawn. -/
  outlierLogged : Bool := false
  deriving DecidableEq, Repr

/-- The three tables and the share solver's totals. -/
structure TableSt where
  volt : Banked := {}
  drop : Banked := {}
  temp : Banked := {}
  cells : List CellEntry := []
  poss : List PosEntry := []
  temps : List TempEntry := []
  shareDerate : Rat := 1
  worstPos : Option Nat := none
  solveSeq : Option Nat := none
  solveTime : Option Nat := none
  counted : Nat := 0
  leftOut : Nat := 0
  inconsistent : Nat := 0
  /-- Drop bank sequence last solved. -/
  solvedBank : Nat := 0
  deriving DecidableEq, Repr

/-! ### State estimation and journal (R243 to R279) -/

/-- `EST_MODE` of R260. -/
inductive EstMode
  | notStarted | waitRestore | coldConverging | running | noString
  deriving DecidableEq, Repr

/-- A CAP_LEARN session (R265 to R268). -/
structure CapLearn where
  phase : Nat := 1
  /-- Local times of the start of the session and of the end of the full rest. -/
  start : Nat
  fullRestEnd : Nat := 0
  /-- Net charge into the string during phase 2, µC. -/
  netIn : Int := 0
  /-- Coulomb counter at the start of phase 2. -/
  q0 : Int := 0
  /-- The full rest has not ended yet; its end moves with it (R266 reason 3). -/
  resting : Bool := false
  /-- The empty rest has completed; phase 4 waits for RESUME. -/
  emptyRested : Bool := false
  /-- Phase 4 has run and its LEARN record waits for its commit; positions learned and rejected. -/
  computed : Bool := false
  learned : Nat := 0
  rejected : Nat := 0
  deriving DecidableEq, Repr

/-- One 16-byte journal entry (R272): its index, tag and bytes 3 to 15. -/
structure JEntry where
  index : Nat
  tag : Nat
  body : Bytes
  deriving DecidableEq, Repr

/-- `STATE` of a journal record (R270). -/
inductive JState
  | pending | committed | void
  deriving DecidableEq, Repr

/-- A journal record (R271). -/
structure JRec where
  st : JState
  /-- 1 BASE, 2 DELTA, 3 LEARN. -/
  kind : Nat
  jseq : Nat
  stringId : Nat
  p : Nat
  s : Nat
  time : Nat
  entries : List JEntry
  /-- `HCRC` and `PCRC` agree with the flash content. -/
  hcrcOk : Bool := true
  pcrcOk : Bool := true
  deriving DecidableEq, Repr

/-- A restore blob (R262): its `BLOB_SEQ` and its bytes. -/
structure Blob where
  seq : Nat
  bytes : Bytes
  deriving DecidableEq, Repr

/-- Estimator and journal state. -/
structure EstSt where
  mode : EstMode := .notStarted
  /-- Local times: entry to the present mode, cold start. -/
  modeSince : Nat := 0
  coldAt : Nat := 0
  /-- Flags of R277. -/
  learnPending : Bool := false
  notPersisted : Bool := false
  rested : Bool := false
  journalLoaded : Bool := false
  fromPartner : Bool := false
  fromHost : Bool := false
  /-- String figures of R257 in µC; energy in µV·µC. -/
  qMin : Rat := 0
  hMin : Rat := 0
  socStr : Option Rat := none
  sohStr : Option Rat := none
  eRemain : Option Rat := none
  sigmaMax : Option Rat := none
  minPos : Option Nat := none
  maxPos : Option Nat := none
  /-- `EST_DIS_LIMIT`, mA. -/
  disLimit : Option Rat := none
  /-- Rest: local time since which the current has been within the bound (R258). -/
  lowSince : Option Nat := none
  /-- `REST_MIN` has been reached: the next step that finds the string rested sets `RESTED` (R258). -/
  restDue : Bool := false
  /-- Local time at which the last complete rest ended (R265). -/
  restEnd : Option Nat := none
  restoreResult : Option Nat := none
  /-- The newest two blobs (R262), newest first, and the number given in this Dawn. -/
  blobs : List Blob := []
  blobNum : Nat := 0
  blobAt : Nat := 0
  /-- Last accepted `BLOB_SEQ` (R263), from the journal. -/
  lastBlob : Nat := 0
  learn : Option CapLearn := none
  learnAbort : Nat := 0
  learnTime : Option Nat := none
  learnCnt : Nat := 0
  learnDq : Int := 0
  /-- Coulomb counter at the last position step, for R244. -/
  lastQ : Int := 0
  /-- Charge counted since Dawn at the present, for R263 check 1, is `met.coulomb`. -/
  lastStepAt : Nat := 0
  /-- Sequence number of the voltage bank last applied; none before the first. -/
  lastSeq : Option Nat := none
  /-- Position-job and cell-job completions posted by the engine (R243). -/
  jobsDone : List Nat := List.replicate 4 0
  deriving DecidableEq, Repr

/-- Journal flash: two slots of 2 MiB (R270), kept across Dawns. -/
structure JournalSt where
  slot0 : List JRec := []
  slot1 : List JRec := []
  active : Nat := 0
  /-- `JOURNAL_SEQ`. -/
  jseq : Nat := 0
  /-- The next write goes as a BASE into the other slot (R275). -/
  rebase : Bool := false
  /-- A change to save as DELTA and the local time it arose (R273). -/
  dirty : Option Nat := none
  /-- Record being written: what and which stage (R273): 0 header, 1 entries, 2 commit. -/
  writing : Option (JRec × Nat) := none
  /-- Local time of the last periodic DELTA. -/
  periodicAt : Nat := 0
  /-- The region has been located in D4. -/
  mounted : Bool := false
  deriving DecidableEq, Repr

/-! ### Impedance spectroscopy (R280 to R300) -/

/-- One impedance point of a position and a tone (R289, R290, R299); impedances exact in nV per mA = µΩ. -/
structure ZPoint where
  pos : Nat
  tone : Nat
  zRe : Option Rat := none
  zIm : Option Rat := none
  cRe : Option Rat := none
  cIm : Option Rat := none
  /-- `Z_FLAGS`. -/
  headroom : Bool := false
  reNegative : Bool := false
  lockinBusy : Bool := false
  dcDrift : Bool := false
  currentLow : Bool := false
  missing : Bool := true
  valid : Bool := false
  deriving DecidableEq, Repr

/-- The excitation of R283 while it runs: its tones (mHz, mA), the START_FRAME its time is measured from, and the local
times at which its fade-in and its fade-out began. -/
structure Excite where
  tones : List (Nat × Nat)
  t0 : Nat
  since : Nat
  out : Option Nat := none
  deriving DecidableEq, Repr

/-- A running IMPEDANCE_SWEEP (R294). -/
structure Sweep where
  handle : Nat
  plan : Nat
  auto : Bool := false
  /-- Local time of its start. -/
  started : Nat := 0
  block : Nat := 0
  /-- `Z_SWEEP_STATE`: 1 fade-in and settle, 2 integrating, 3 reading, 4 reducing, 5 fade-out, 6 suspended. -/
  st : Nat := 1
  repeats : Nat := 0
  blocksDone : Nat := 0
  blocksValid : Nat := 0
  blocksSkipped : Nat := 0
  /-- Local time of the block's START_FRAME; 0 before the block has started. -/
  startAt : Nat := 0
  /-- LOCKIN_START has been queued. -/
  lockSent : Bool := false
  /-- The excitation runs on into the next integration, which follows one that ended at this local time. -/
  keep : Option Nat := none
  /-- A block that a fail-over interrupted does not restart before this local time (R296). -/
  notBefore : Nat := 0
  /-- The results being read are those of an integration to be repeated. -/
  again : Bool := false
  /-- DC reference and coulomb source at the integration start, the greatest movement seen, a change of source. -/
  dc0 : Int := 0
  dcMoved : Nat := 0
  src0 : Bool := false
  srcChanged : Bool := false
  drift : Bool := false
  /-- Integration end: local and plant time. -/
  endAt : Nat := 0
  endTime : Nat := 0
  /-- The RE_NEGATIVE event has been logged in this sweep. -/
  negLogged : Bool := false
  deriving DecidableEq, Repr

/-- Impedance state. -/
structure ImpSt where
  sweep : Option Sweep := none
  exc : Option Excite := none
  plan : Option Nat := none
  lastTime : Option Nat := none
  freqs : List Nat := List.replicate 8 0
  iExc : List (Option (Rat × Rat)) := List.replicate 8 none
  points : List ZPoint := []
  nextAuto : Option Nat := none
  retryCnt : Nat := 0
  skipCnt : Nat := 0
  /-- Running correlation of the coulomb source words with each tone (R285): real and imaginary sums, and words taken. -/
  corr : List (Rat × Rat) := []
  corrN : Nat := 0
  /-- Present excitation: e at the last tick and the sum over the frame (R283), mA. -/
  eTick : Rat := 0
  eSum : Rat := 0
  eMean : Rat := 0
  /-- Local times of the integration end of the running lock-in, and of the end of the last lock-in (R210). -/
  lockEnd : Nat := 0
  lastLockinEnd : Nat := 0
  /-- Local time at which the next automatic sweep falls due (R297). -/
  autoDue : Option Nat := none
  deriving DecidableEq, Repr

/-! ### String converter (R301 to R333) -/

/-- `CONV_MODE` of R302. -/
inductive ConvMode
  | busLeg | strLeg | both
  deriving DecidableEq, Repr

/-- `PHASE_STATE` of R331. -/
inductive PhaseState
  | disabled | softStart | enabled | rampDown | tripped
  deriving DecidableEq, Repr

/-- Live loop-slot record (R305). -/
structure SlotRec where
  mode : Nat := 0
  ffSel : Nat := 0
  ioIn : Nat := 0
  ioOut : Nat := 0
  ki : Int := 0
  ai : Int := 0
  kp : Int := 0
  kd : Int := 0
  ad : Int := 0
  kff : Int := 0
  yMax : Int := 0
  yMin : Int := 0
  shKi : Nat := 0
  shAi : Nat := 0
  shKp : Nat := 0
  shKd : Nat := 0
  shAd : Nat := 0
  shKff : Nat := 0
  ramp : Nat := 0
  deadband : Nat := 0
  rate : Nat := 0
  deriving DecidableEq, Repr

/-- State of one loop slot (R306, R311, R332). -/
structure Slot where
  live : SlotRec := {}
  xi : Int := 0
  xd : Int := 0
  ePrev : Int := 0
  /-- Working reference of R311. -/
  ref : Int := 0
  y : Int := 0
  /-- The slot has run since it was started (soft start needs its first run). -/
  started : Bool := false
  enabled : Bool := false
  satHi : Bool := false
  satLo : Bool := false
  intHeld : Bool := false
  softStart : Bool := false
  dutyClamp : Bool := false
  ffBus : Bool := false
  ffSlope : Bool := false
  /-- The output the first run after a takeover has to give (R312). -/
  preset : Option Int := none
  deriving DecidableEq, Repr

/-- One converter phase. -/
structure Phase where
  st : PhaseState := .disabled
  /-- r_k, mA, and that of the previous tick. -/
  ref : Int := 0
  refPrev : Int := 0
  /-- Corrected phase current i_avg, mA. -/
  iAvg : Int := 0
  /-- Consecutive ticks with |i_avg| ≤ 2 A while ramping down (R314). -/
  lowTicks : Nat := 0
  /-- Disables under R315 in this Dawn (`DESAT_CNT`). -/
  desat : Nat := 0
  /-- Disabled by over-temperature. -/
  byOt : Bool := false
  /-- Local time since which both drivers have been READY with OT clear. -/
  readySince : Option Nat := none
  /-- SAFE_OFF frames with CLR still to send before the first RUN frame (R316). -/
  clrLeft : Nat := 0
  /-- All returns since the CLR frames began have been clean. -/
  clrClean : Bool := true
  /-- Ticks of the present soft start. -/
  softTicks : Nat := 0
  /-- The phase comes back under R316: its soft start is recorded and it is not counted before its end (R317). -/
  returning : Bool := false
  /-- A phase disabled under R315 may return since the last entry from CLOSED (R316). -/
  mayReturn : Bool := false
  deriving DecidableEq, Repr

/-- One gate-link port (R319 to R327). -/
structure GlPort where
  seq : Nat := 0
  /-- `DRV_STATUS`, `T_DRV`, `GL_DELAY`, `GL_ERR_CNT`. -/
  status : Nat := 0
  tDrv : Option Int := none
  delay : Option Nat := none
  err : Nat := 0
  /-- Bad returns in a row. -/
  bad : Nat := 0
  /-- `SEQ` of the frame whose return is expected; none while nothing was sent. -/
  expect : Option Nat := none
  /-- The frame whose return is expected carried `CLR`. -/
  expectClr : Bool := false
  /-- A valid return has been seen since takeover (R425). -/
  seen : Bool := true
  /-- SAFE_OFF frames with CLR still owed as the first frames (R327). -/
  clrLeft : Nat := 8
  /-- Duty word, HOLD_ON and dead time moved to the shadow registers. -/
  duty : Nat := 0
  holdOn : Bool := false
  /-- The words in force before the last transfer: phase 2 takes the new ones only after the tick edge (R304, R321). -/
  dutyOld : Nat := 0
  holdOld : Bool := false
  /-- Duty formed by the mapper for the next transfer. -/
  dutyNext : Nat := 0
  holdNext : Bool := false
  /-- What it sent in the last transfer. -/
  last : GatePort := .dark
  deriving DecidableEq, Repr

/-- A gate-link frame sent (R320). -/
structure GateFrame where
  port : Nat
  /-- Fast SAFE_OFF of R325: bytes 0 and 1 and the CRC only. -/
  fast : Bool
  bytes : Bytes
  deriving DecidableEq, Repr

/-- Converter state. -/
structure ConvSt where
  slots : List Slot := List.replicate 16 {}
  phases : List Phase := List.replicate 3 {}
  ports : List GlPort := List.replicate 6 {}
  mode : Option ConvMode := none
  /-- Mode chosen at the frame latch that takes effect at tick 2 (R302). -/
  modeNext : Option ConvMode := none
  /-- `CONV_I_LIMIT`, mA. -/
  iLimit : Int := 0
  /-- `PHASE_REF` as latched. -/
  phaseRef : List (Option Int) := List.replicate 3 none
  /-- `DUTY_WORD` as latched. -/
  dutyWord : List Nat := List.replicate 6 0
  schedEntry : Option Nat := none
  /-- Words of the running schedule sequence, with their target entry; and a waiting selection (R313). -/
  schedQueue : List (Nat × Int × Nat) := []
  schedWait : Option Nat := none
  /-- Mode at the last selection. -/
  schedMode : Option ConvMode := none
  /-- Local time of the tick in which a word was last written. -/
  schedAt : Option Nat := none
  schedCnt : Nat := 0
  /-- Output of slot 3 or slot 5 that the phases follow, mA, and of slot 4. -/
  y3 : Int := 0
  /-- Formed in tick 1, in force from tick 2 (R27). -/
  y3Next : Int := 0
  y4 : Int := 0
  /-- Slot 5 runs (R318). -/
  slot5On : Bool := false
  /-- The converter has regulated since its last start (first regulating frame). -/
  regulating : Bool := false
  /-- `FAST_TRIP` latches, six bits. -/
  fastTrip : List Bool := List.replicate 6 false
  /-- Frames of the last transfer. -/
  frames : List GateFrame := []
  /-- The phase clamp of R309 acted in the last tick. -/
  phaseClamp : Bool := false
  deriving DecidableEq, Repr

/-! ### Dispatch (R334 to R352) -/

/-- A waiting timed set-point: its current, its launch time, and its order of evaluation (R342). -/
structure TimedSp where
  current : Int
  launch : Nat
  order : Nat
  session : Nat
  deriving DecidableEq, Repr

/-- The three window values of one direction, mA (R335). -/
structure Env3 where
  e2 : Rat := 0
  e30 : Rat := 0
  ec : Rat := 0
  deriving DecidableEq, Repr

/-- Dispatch state and objects of R349 and R350. -/
structure DispSt where
  /-- `DISP_TARGET`, mA, and `DISP_TARGET_TIME`. -/
  target : Int := 0
  targetTime : Option Nat := none
  /-- `DISP_REF`: ref of R344, mA. -/
  ref : Rat := 0
  /-- `DISP_REF`: the reference of the present frame. -/
  refNow : Rat := 0
  /-- Reference bounds the control engine applies to r3 (R344), mA. -/
  boundLo : Rat := 0
  boundHi : Rat := 0
  spTimeout : Bool := false
  zConfined : Bool := false
  walked : Bool := false
  estLimited : Bool := false
  twilightCap : Bool := false
  ramping : Bool := false
  limited : Bool := false
  active : Bool := false
  /-- Window values of charge and discharge in force, and E_app. -/
  chg : Env3 := {}
  dis : Env3 := {}
  appChg : Rat := 0
  appDis : Rat := 0
  /-- Budgets n30 and n2 of R339. -/
  n30 : Rat := 0
  n2 : Rat := 0
  /-- `ENV_LIMITER` for charge and discharge; none is 0xFF. -/
  limChg : Option Nat := none
  limDis : Option Nat := none
  /-- L_V in force, for its limited rise (R337); none before the first bank. -/
  lvChg : Option Rat := none
  lvDis : Option Rat := none
  /-- Voltage bank sequence last applied to L_V. -/
  lvSeq : Nat := 0
  /-- Window values of the last frame in which dispatch ran (R339). -/
  ranBefore : Bool := false
  /-- The current was negative at the last frame latch with dispatch running: the direction of the budgets' windows (R339). -/
  budgetDis : Bool := false
  /-- Waiting timed set-points (at most 16), and the untimed one taken at the next latch with its order. -/
  timed : List TimedSp := []
  untimed : Option (Int × Nat) := none
  /-- The request of that untimed set-point, whose OK goes out after its tick's evaluation, with its payload (R342). -/
  spReq : Option (HostReq × Bytes) := none
  /-- Order number given to the last set-point evaluated. -/
  order : Nat := 0
  /-- `OVERLOAD_CNT`, `LIMITED_FRAMES`. -/
  overload : Nat := 0
  limitedFrames : Nat := 0
  /-- Time in RUN and TWILIGHT counted under R343, ms. -/
  spHold : Nat := 0
  /-- Local time at which `ENV_WALKED` was set. -/
  walkedSince : Nat := 0
  /-- The control engine clamped r3 to its bounds since the last frame (R345). -/
  r3Clamped : Bool := false
  gLimited : LogGate := {}
  gCoalesced : LogGate := {}
  gWalked : LogGate := {}
  deriving DecidableEq, Repr

/-! ### Balancing and thermal control (R353 to R374) -/

/-- Command and resolution of one position (R358, R359). -/
structure BalPos where
  active : Bool := false
  /-- Resolved current in force, mA (`BAL_CMD`), and whether it is unresolved. -/
  cur : Int := 0
  unresolved : Bool := false
  /-- Current before the last application, for the mean of R358. -/
  old : Int := 0
  /-- Set in force as commanded, and for the next application instant (`BAL_NEXT`). -/
  cmd : Int := 0
  next : Int := 0
  deriving DecidableEq, Repr

/-- A running BALANCE_CAMPAIGN (R361). -/
structure Campaign where
  deadband : Nat
  timeMax : Nat
  /-- Running time, ns, and the local time from which it runs; none while suspended. -/
  ran : Nat := 0
  since : Option Nat := none
  /-- Consecutive schedules with every eligible position within the deadband. -/
  inBand : Nat := 0
  /-- Eligible positions outside the deadband in the last schedule. -/
  outside : Nat := 0
  suspended : Bool := false
  deriving DecidableEq, Repr

/-- Balancing state. -/
structure BalSt where
  /-- `BAL_STATE` of R371. -/
  st : Nat := 0
  watchdog : Bool := false
  capped : Bool := false
  deferred : Bool := false
  inelig : Bool := false
  /-- `BAL_SOC_REF` as a fraction. -/
  socRef : Option Rat := none
  pos : List BalPos := []
  /-- `BAL_ID` given last, and that of the set in force. -/
  balId : Nat := 0
  curId : Nat := 0
  /-- A set has been computed and waits for its application instant. -/
  waiting : Bool := false
  /-- Places that answered the waiting set with `ACCEPTED`, with their `APPLIED` words. -/
  answers : List (Nat × Nat) := []
  /-- `BAL_MON_STATUS`, `BAL_T` per place. -/
  monStatus : List Nat := List.replicate 40 0
  tBal : List (Option Int) := List.replicate 40 none
  monUnres : List Bool := List.replicate 40 false
  monWatch : List Bool := List.replicate 40 false
  applyTime : Option Nat := none
  /-- Local time of the last application instant. -/
  applyAt : Nat := 0
  chargeIn : Int := 0
  chargeOut : Int := 0
  campaign : Option Campaign := none
  result : Nat := 0
  deriving DecidableEq, Repr

/-- One DI input of J15 (R367). -/
structure DiIn where
  on : Bool := false
  /-- `FLOW`, 0.01 Hz. -/
  flow : Option Nat := none
  /-- The flow-lost or leak condition holds since; the clear condition holds since. -/
  badSince : Option Nat := none
  goodSince : Option Nat := none
  flowLost : Bool := false
  leak : Bool := false
  deriving DecidableEq, Repr

/-- One thermal slot 6 to 15: input, reference and output as last formed (R371), and its FAILSAFE hold. -/
structure ThermSlot where
  input : Option Int := none
  ref : Option Int := none
  out : Int := 0
  failsafe : Bool := false
  /-- The input was lost and has been logged. -/
  lost : Bool := false
  deriving DecidableEq, Repr

/-- Thermal state. -/
structure ThermSt where
  tHot : Option Int := none
  tHotIdx : Option Nat := none
  tCold : Option Int := none
  tColdIdx : Option Nat := none
  tMean : Option Int := none
  brokenCnt : Nat := 0
  coolSet : Option Int := none
  heatReq : Bool := false
  serviceHold : Bool := false
  loopsRun : Bool := false
  slots : List ThermSlot := List.replicate 10 {}
  di : List DiIn := List.replicate 4 {}
  /-- Chiller conversation (R368). -/
  chSeq : Nat := 0
  chsSeq : Option Nat := none
  chLost : Bool := false
  chFault : Bool := false
  chTSupply : Option Int := none
  chFlags : Nat := 0
  /-- Local time of the last valid status, and of the loss. -/
  chAt : Nat := 0
  chLostAt : Nat := 0
  /-- Local time of the last request. -/
  chReqAt : Nat := 0
  /-- J15 outputs: PWM duty in 0.01 %, AO in mV, AO at high impedance (R131, R369). -/
  pwm : List Nat := List.replicate 4 0
  ao : List Nat := List.replicate 2 0
  aoHiZ : Bool := false
  /-- Chiller demand, 0.01 %. -/
  demand : Int := 0
  /-- The temperature bank sequence last judged. -/
  tSeq : Nat := 0
  deriving DecidableEq, Repr

/-! ### Protection (R375 to R412, R559) -/

/-- A safe stop in progress (R387): its decision instant and the count of consecutive tick words at or below 2 A. -/
structure SafeStop where
  start    : Nat
  lowWords : Nat := 0
  deriving DecidableEq, Repr

/-- One J8 safety input after the filter of R384. -/
structure ExtInput where
  /-- The raw sample of the last tick: energized. -/
  raw : Bool := false
  /-- Consecutive de-energized samples, up to 41. -/
  low : Nat := 0
  /-- Local time since which the input has been energized; none while it is not. -/
  energizedSince : Option Nat := none
  /-- The demand of this input is active. -/
  active : Bool := false
  /-- Energized after the filter, as `SAFETY_IO` reports it (R410). -/
  ok : Bool := false
  deriving DecidableEq, Repr

/-- One contactor of J7 with its coil and its auxiliary contact (R389 to R392): 0 main +, 1 main −, 2 precharge. -/
structure Contactor where
  /-- `CONT_STATE` of R409: 0 open, 1 pull-in, 2 hold, 3 opening, 4 fault. -/
  state : Nat := 0
  /-- Coil driven. -/
  coil : Bool := false
  /-- Local time of the last coil switching. -/
  since : Nat := 0
  /-- The auxiliary contact reads closed. -/
  aux : Bool := false
  /-- Local time of the last change of the auxiliary contact. -/
  auxSince : Nat := 0
  /-- The auxiliary contact has read closed since its coil was switched on (R392). -/
  wasClosed : Bool := false
  /-- `COIL_I`, mA, the frame mean (R409). -/
  coilMa : Nat := 0
  /-- Sum and number of the coil currents of this frame's ticks, mA. -/
  coilSum : Nat := 0
  coilN : Nat := 0
  /-- Consecutive frames with the hold current out of its window (R391). -/
  badFrames : Nat := 0
  /-- The HS read-back showed its switching at the latest tick (R391). -/
  hsOk : Bool := true
  deriving DecidableEq, Repr

/-- Steps of the precharge sequence of R389; `idle` outside PRECHARGE. -/
inductive PreStep
  | idle | p1 | p2 | p3 | p4 | p5 | p6
  deriving DecidableEq, Repr

/-- The contactor block: the three contactors, the precharge sequence and the opening order. -/
structure ContSt where
  c0 : Contactor := {}
  c1 : Contactor := {}
  c2 : Contactor := {}
  step : PreStep := .idle
  /-- Local time at which the present step began. -/
  stepSince : Nat := 0
  /-- Consecutive frames in the precharge window (R389 P4). -/
  windowRun : Nat := 0
  /-- Peak |I_STR| of P4, mA. -/
  peak : Nat := 0
  /-- Newest V_SUM formed since CONNECT, in 0.1 mV (R389). -/
  vSum : Option Nat := none
  /-- Opening toward STANDBY: 0 none, 1 main + opening, 2 main − opening (R390). -/
  opening : Nat := 0
  /-- `CONT_OPS`, kept (R409). -/
  ops0 : Nat := 0
  ops1 : Nat := 0
  ops2 : Nat := 0
  /-- `CONT_LOAD_BREAKS`, kept (R387). -/
  breaks0 : Nat := 0
  breaks1 : Nat := 0
  breaks2 : Nat := 0
  /-- `CONT_BREAK_I_MAX`, kept, mA. -/
  breakMax0 : Nat := 0
  breakMax1 : Nat := 0
  breakMax2 : Nat := 0
  /-- The 10 ms of |I| ≤ 2 A that ends STOPPING: local time of its start (R35). -/
  zeroSince : Option Nat := none
  deriving DecidableEq, Repr

/-- One of the six off-tested outputs (R394): SAFE_OUT_A, SAFE_OUT_B, IMD_OK, LS0, LS1, LS2. -/
structure TestOut where
  /-- Passed in the present interval. -/
  passed : Bool := false
  /-- A retry is pending in the present interval. -/
  retry : Bool := false
  /-- Its slot of the present interval has been served. -/
  served : Bool := false
  /-- `TP_MISSED`. -/
  missed : Nat := 0
  /-- `TP_LAST_PASS`. -/
  lastPass : Option Nat := none
  /-- `TP_ABORT_CNT`. -/
  aborts : Nat := 0
  /-- TEST_OVERDUE holds (R395). -/
  overdue : Bool := false
  deriving DecidableEq, Repr

/-- Protection state. -/
structure ProtSt where
  /-- θ of R382 in A²; 0 at Dawn. -/
  theta : Rat := 0
  /-- I of R382, mA, of the newest frame latch. -/
  i2t : Nat := 0
  /-- Consecutive frame means above `I_STR_TRIP`. -/
  tripRun : Nat := 0
  /-- Consecutive banks beyond the over- and under-voltage limits, per position (R378, R386). -/
  ovRun : List Nat := []
  uvRun : List Nat := []
  /-- Consecutive banks beyond the hard limits, per position. -/
  ovHardRun : List Nat := []
  uvDeepRun : List Nat := []
  /-- Consecutive banks beyond a temperature limit, per sensor, for OT, charging and discharging. -/
  otRun : List Nat := []
  utcRun : List Nat := []
  utdRun : List Nat := []
  /-- Housekeeping rounds with `T_SHUNT` above `SHUNT_T_MAX`. -/
  shuntRun : Nat := 0
  /-- Conditions of SF_OT that made a demand and hold: `OT_LIMIT`, `UT_CHG_LIMIT`, `UT_DIS_LIMIT`, shunt (R380). -/
  otBy : List Bool := [false, false, false, false]
  /-- A demand of SF_OV or SF_UV at its hard limit holds. -/
  ovHard : Bool := false
  uvDeep : Bool := false
  /-- Newest bank sequence judged for voltage and for temperature. -/
  vBankSeen : Nat := 0
  tBankSeen : Nat := 0
  /-- A demand of each function is present (R409 value 1). -/
  demand : List Bool := List.replicate 10 false
  /-- The functions are evaluated (owning module from STANDBY on, R377); else value 4. -/
  evaluating : Bool := false
  /-- `SF_DEMAND_CNT`, kept. -/
  demandCnt : List Nat := List.replicate 10 0
  /-- `SF_LAST_DEMAND`, kept. -/
  lastDemand : List (Option Nat) := List.replicate 10 none
  /-- Plant times of the demands of SF_OV, SF_UV, SF_OT and SF_OC_I2T, for the 24 h rule of R379. -/
  history : List (Nat × Nat) := []
  /-- An SF_OC_FAST demand has been decided since Dawn (R381). -/
  ocFastSeen : Bool := false
  /-- The safe stop in progress (R387). -/
  stop : Option SafeStop := none
  /-- `SAFE_STOP_CNT`. -/
  stopCnt : Nat := 0
  /-- `SAFE_STOP_LAST`, µs. -/
  stopLast : Option Nat := none
  /-- J8 inputs. -/
  estopA : ExtInput := {}
  estopB : ExtInput := {}
  doorIl : ExtInput := {}
  fireIn : ExtInput := {}
  /-- Local time since which the E-stop channels have differed. -/
  estopDiffSince : Option Nat := none
  /-- The discrepancy demand is active. -/
  discActive : Bool := false
  /-- Local time since which both E-stop channels have been energized. -/
  estopBothSince : Option Nat := none
  /-- `TWILIGHT_CAUSES` of R399, one bit each. -/
  twilight : List Bool := List.replicate 14 false
  /-- Outputs and inputs whose failed test armed bit 10: outputs 0 to 5, inputs 6 to 9, HS drivers 10 to 12. -/
  diagFailed : List Bool := List.replicate 13 false
  /-- L_TW of R400, mA; none outside TWILIGHT. -/
  lTw : Option Rat := none
  /-- SAFE_OUT_A, SAFE_OUT_B demanded closed (R393). -/
  safeOut : Bool := false
  /-- IMD_OK demanded closed (R403). -/
  imdOk : Bool := false
  /-- Test outputs of R394. -/
  tests : List TestOut := List.replicate 6 {}
  /-- The pulse running: output index and local start. -/
  pulse : Option (Nat × Nat) := none
  /-- No test pulses before this interval ends (R425). -/
  noPulses : Bool := false
  /-- Whole TAI second in which the present test interval began (R394). -/
  testSec : Nat := 0
  /-- Consecutive scheduled-item checks: rounds of valid `T_SHUNT` since it was lost (R399 bit 11). -/
  shuntValidRun : Nat := 0
  /-- Which comparator of R398 is tested next. -/
  cmpNext : Nat := 0
  /-- Local times since which DS0 and DS1 have been held invalid (R385). -/
  ds0Held : Option Nat := none
  ds1Held : Option Nat := none
  /-- The position of the rotating share check of R383. -/
  shareCheckPos : Nat := 0
  deriving DecidableEq, Repr

/-- Phase of the insulation test operation of R405. -/
inductive IsoTestPhase
  | reference | measure
  deriving DecidableEq, Repr

/-- Insulation monitor (R402 to R405). -/
structure IsoSt where
  /-- Local time of the entry to STANDBY, where the active measurement starts (R403). -/
  since : Nat := 0
  /-- `ISO_R`, kΩ. -/
  r : Option Nat := none
  /-- R_p of R404, exact, kΩ. -/
  rp : Option Rat := none
  /-- `ISO_R_POS`, `ISO_R_NEG`, kΩ, exact. -/
  rPos : Option Rat := none
  rNeg : Option Rat := none
  /-- `ISO_C_PE`, nF. -/
  cPe : Option Nat := none
  /-- Flags of R411. -/
  slow : Bool := false
  unsync : Bool := false
  below : Bool := false
  above : Bool := false
  passive : Bool := false
  injecting : Bool := false
  alarm : Bool := false
  warn : Bool := false
  peOpen : Bool := false
  valid : Bool := false
  /-- Local time of the newest valid result. -/
  resultAt : Option Nat := none
  /-- Present half-period, ms, and the local time of its start. -/
  half : Nat := 2000
  halfSince : Nat := 0
  /-- The DS5 words of the half-period, newest first (R402). -/
  words : List Int := []
  /-- Sums of the DS4 and DS2 words, their number and the local time since which they run (R404). -/
  splitPos : Int := 0
  splitStr : Int := 0
  splitN : Nat := 0
  splitSince : Nat := 0
  /-- Asymptote of the half-period before, in units of the words given. -/
  lastAsym : Option Rat := none
  /-- Injector voltage of the half-period before. -/
  lastInj : Option Rat := none
  /-- Consecutive results below `ISO_ALARM`, and at or above 1.25 × `ISO_ALARM`. -/
  lowRun : Nat := 0
  highRun : Nat := 0
  /-- Consecutive passive estimates below `ISO_ALARM`, per pole. -/
  passivePosLow : Nat := 0
  passiveNegLow : Nat := 0
  /-- The split a of the last passive measurement. -/
  lastSplit : Option Rat := none
  /-- Local time since which the PE resistance has been below 9 Ω (R54). -/
  peGoodSince : Option Nat := none
  /-- ISO_INVALID has been decided and not cleared. -/
  invalid : Bool := false
  /-- DS4 and DS5 words have been invalid since. -/
  dsHeld : Option Nat := none
  /-- The running INSULATION_TEST and its half-periods so far. -/
  test : Option (IsoTestPhase × Nat) := none
  /-- R_ISO before the reference check, kΩ. -/
  testBase : Option Rat := none
  /-- The reference reading, kΩ. -/
  testRef : Option Nat := none
  deriving DecidableEq, Repr

/-! ### Redundant pair (R413 to R434) -/

/-- `PARTNER_STATE` of R432. -/
inductive PartnerState
  | absent | identity | keys | images | heartbeats | admitted | refused
  deriving DecidableEq, Repr

/-- The CONTROL frame last received, by the state groups of R418, and the tick it belongs to. -/
structure MirrorControl where
  tick    : Nat
  payload : Bytes
  /-- The module's own charge totals at the receipt, for R425. -/
  ownIn   : Int := 0
  ownOut  : Int := 0
  deriving DecidableEq, Repr

/-- The HEARTBEAT last received (R417). -/
structure MirrorBeat where
  tick   : Nat
  health : Nat
  mode   : Nat
  phases : Nat
  q      : Int
  qfrac  : Nat
  duty   : List Nat
  ref    : Int
  /-- The module's own coulomb counter at the receipt, for R425. -/
  ownQ   : Int
  deriving DecidableEq, Repr

/-- Redundant-pair state. -/
structure PairSt where
  partner : PartnerState := .absent
  /-- `PAIR_FLAGS` of R433. -/
  handoverPending : Bool := false
  contestLost : Bool := false
  givenUp : Bool := false
  keyHeld : Bool := false
  configMatch : Bool := false
  linkUp : Bool := false
  cableSeated : Bool := false
  ownIn : Bool := false
  ownOut : Bool := false
  /-- Local time since which OWN_IN has its present level. -/
  ownInSince : Nat := 0
  /-- From HELLO. -/
  serialSeen : Option Nat := none
  partnerMac : Option Bytes := none
  partnerRole : Option Nat := none
  partnerStep : Option Nat := none
  /-- Counters of R432. -/
  rxErr : Nat := 0
  hbMissCnt : Nat := 0
  imageCnt : Nat := 0
  imageSegs : Option Nat := none
  cleanMs : Nat := 0
  failoverCnt : Nat := 0
  failoverLast : Option Nat := none
  failoverGap : Nat := 0
  failoverCause : Option Nat := none
  giveUpCause : Nat := 0
  /-- Sender side: next `MSEQ`, `IMG_SEQ` and segment. -/
  mseqTx : Nat := 0
  imgSeqTx : Nat := 0
  segTx : Nat := 0
  /-- Receiver side: last `MSEQ`; the image being collected; complete images in a row in step 3. -/
  mseqRx : Option Nat := none
  imgSeqRx : Option Nat := none
  segsRx : List Nat := []
  imagesInStep : Nat := 0
  lastSegAt : Nat := 0
  /-- Segments delivered, each with the local time of its last delivery (R429). -/
  segTimes : List (Nat × Nat) := []
  /-- The image bytes received, by segment number. -/
  image : List (Nat × Bytes) := []
  /-- Newest heartbeat and control frame. -/
  beat : Option MirrorBeat := none
  control : Option MirrorControl := none
  /-- A good heartbeat for the present tick has been latched. -/
  beatThisTick : Bool := false
  misses : Nat := 0
  lastBeatAt : Option Nat := none
  /-- Local start of admission step 4. -/
  step4Since : Option Nat := none
  /-- Owner side: local time of the last SB_STATUS. -/
  sbAt : Option Nat := none
  sbFault : Bool := false
  /-- Handover: H_TICK and whether this module yields. -/
  hTick : Option Nat := none
  hYields : Bool := false
  hSentAt : Nat := 0
  /-- What follows an accepted handover: 0 nothing, 1 RESTART, 2 SHUTDOWN, 3 FREEZE, 4 FREEZE_N, 5 reset, 6 EXIT_SERVICE. -/
  hThen : Nat := 0
  /-- The host request whose PAIR_HANDOVER waits for the answer. -/
  hReq : Option HostReq := none
  /-- Takeover under way: its declaration instant and its cause (R424). -/
  takeover : Option (Nat × Nat) := none
  /-- Ports whose first valid return is awaited, and ticks left (R425). -/
  graceTicks : Nat := 0
  /-- Local module fault held (R422). -/
  localFault : Bool := false
  /-- Blob being received (R430). -/
  blobRx : List (Nat × Bytes) := []
  blobLen : Nat := 0
  /-- Partner's estimator key, this Dawn only. -/
  partnerKey : Option Bytes := none
  /-- HELLO seen in D8. -/
  helloSeen : Bool := false
  /-- Sequence numbers of the banks mirrored last: position, cell, temperature. -/
  bankTx : List (Option Nat) := [none, none, none]
  /-- Local time of the last HELLO sent. -/
  helloAt : Nat := 0
  /-- The partner has accepted the handover. -/
  hAccepted : Bool := false
  /-- Key exchange of the present Dawn: the own secret and the wrapping key (R428). -/
  keySecret : Bytes := []
  wrapKey : Option Bytes := none
  /-- The partner's state has been asked for (R430). -/
  blobAsked : Bool := false
  deriving DecidableEq, Repr

/-! ### Host protocol (R435 to R462) -/

/-- One subscription entry of R454. -/
structure SubEntry where
  obj    : Nat
  period : Nat
  deriving DecidableEq, Repr

/-- A host session (R441 to R443); `state` as in SESSION_TABLE: 1 challenged, 2 open. -/
structure Session where
  id : Nat
  state : Nat
  slot : Nat
  port : Nat
  addr : Nat
  udp : Nat
  cnonce : Bytes := []
  snonce : Bytes := []
  key : Bytes := []
  /-- Highest accepted SEQ and those seen among the 64 up to it (R442). -/
  highest : Nat := 0
  seen : List Nat := []
  /-- Requests received and not yet answered (R457). -/
  waiting : List Nat := []
  /-- The last 16 responses, oldest first. -/
  cache : List Dgram := []
  /-- Local time of the last valid frame. -/
  lastFrame : Nat := 0
  /-- Subscription of R454. -/
  minSev : Nat := 0xFF
  launchOfs : Nat := 0xFFFF
  subs : List SubEntry := []
  /-- Notification number last given, and those lost since the last that left. -/
  noteSeq : Nat := 0
  lost : Nat := 0
  /-- NOTIFY_LOST: count since the last record, and its time. -/
  lostSince : Nat := 0
  lostLogAt : Option Nat := none
  deriving DecidableEq, Repr

/-- A bulk buffer target of R449: the claim, the bytes written as runs of (offset, data). -/
structure Bulk where
  owner : Nat := 0
  data  : List (Nat × Byte) := []
  last  : Nat := 0
  deriving DecidableEq, Repr

/-- A Modbus TCP connection (R458). -/
structure ModbusConn where
  id : Nat
  port : Nat
  addr : Nat
  last : Nat
  deriving DecidableEq, Repr

/-- A Modbus answer (R458): an exception code, or the register values. -/
structure ModbusAns where
  conn : Nat
  func : Nat
  exc  : Nat
  regs : List Nat
  deriving DecidableEq, Repr

/-- `CAPTURE_RESULT` of R461. -/
structure CaptureResult where
  seq : Nat := 0
  ready : Bool := false
  leader : Nat := 0
  follower : Nat := 0
  input : Nat := 0
  samples : Option Nat := none
  gaps : Option Nat := none
  start : Option Nat := none
  running : Bool := false
  exists_ : Bool := false
  /-- Samples asked for (R448), and the sample numbers at which a gap of omitted samples is marked (R179). -/
  want : Nat := 0
  gapAt : List Nat := []
  /-- What matches the follower to the leader: offset, gain in 2^−30 and timing skew in ps (R179). -/
  matchO : Int := 0
  matchG : Nat := 1073741824
  skew : Int := 0
  deriving DecidableEq, Repr

/-- Host-protocol state. -/
structure HostSt where
  /-- Sessions 0 to 7 (their notification rings are 8 to 15). -/
  sessions : List (Option Session) := List.replicate 8 none
  /-- The session number given last. -/
  lastSession : Nat := 0
  /-- `HOST_CNT` of R461. -/
  cnt : List Nat := List.replicate 8 0
  /-- Bulk targets 1 and 2. -/
  bulk1 : Bulk := {}
  bulk2 : Bulk := {}
  /-- Frames that have entered an intake ring, and the commands decoded and waiting for tick 16 in their order of arrival,
  each with its number (R38). -/
  arrived : Nat := 0
  commands : List (Nat × HostReq) := []
  /-- Read items and requests of rings 1 to 3 are served by the tick that finds them (R456). -/
  authGates : List (Nat × LogGate) := []
  overloadGates : List LogGate := List.replicate 5 {}
  modbus : List ModbusConn := []
  /-- Service port session binding open over USB (R552). -/
  usbMated : Bool := false
  capture : CaptureResult := {}
  deriving DecidableEq, Repr

/-- A long operation with its result slot (R15, R450 to R453). `opState` 0 running, 1 suspended, 2 ended. -/
structure Op where
  handle : Nat
  kind : Nat
  opState : Nat := 0
  seq : Nat := 0
  ready : Bool := false
  final : Option Nat := none
  progress : Nat := 0
  start : Nat := 0
  stop : Option Nat := none
  result : Bytes := []
  /-- The session that started it; 0 for an automatic start. -/
  session : Nat := 0
  deriving DecidableEq, Repr

/-- The long operations, oldest first, and the handle issued last. -/
structure OpsSt where
  ops : List Op := []
  lastHandle : Nat := 0
  deriving DecidableEq, Repr

/-! ### CAN FD controllers (R463 to R474) -/

/-- Mailbox states of R468. -/
inductive MbState
  | empty | pending | active | suspended | done
  deriving DecidableEq, Repr

/-- One transmit mailbox. -/
structure Mailbox where
  st : MbState := .empty
  id : Nat := 0
  data : Bytes := []
  /-- New content waiting behind an ACTIVE transmission. -/
  next : Option Bytes := none
  deriving DecidableEq, Repr

/-- One controller. -/
structure CanCtl where
  running : Bool := false
  onBus : Bool := false
  mbs : List Mailbox := List.replicate 32 {}
  tec : Nat := 0
  recv : Nat := 0
  errPassive : Bool := false
  busOff : Bool := false
  /-- Local time of bus-off. -/
  offSince : Nat := 0
  tdcDelay : Option Nat := none
  busOffCnt : Nat := 0
  txCnt : Nat := 0
  txReplaced : Nat := 0
  rxCnt : Nat := 0
  rxDiscard : Nat := 0
  rxOverrun : Nat := 0
  gate : LogGate := {}
  /-- Contents put on the bus, newest first. -/
  sent : List (Nat × Bytes) := []
  deriving DecidableEq, Repr

/-- Both controllers. -/
structure CanSt where
  c1 : CanCtl := {}
  c2 : CanCtl := {}
  /-- Newest PCS-trip cause: function, code, decision time in TAI ms (R469). -/
  tripFn : Nat := 0
  tripCause : Nat := 0
  tripTime : Nat := 0
  /-- Local time at which the trip copy was written last (R469). -/
  copyAt : Nat := 0
  deriving DecidableEq, Repr

/-! ### Interrupt controller and rings (R475 to R499) -/

/-- One interrupt source (R476 to R478, R484, R485). -/
structure IrqSrc where
  /-- Event counter, 0 to 255. -/
  cnt : Nat := 0
  /-- Time-stamp latch; none while free. -/
  latch : Option Nat := none
  /-- The input level of a level source is asserted. -/
  level : Bool := false
  /-- `SRC_CFG`, reset 0. -/
  cfg : Word := 0
  /-- `SRC_COAL`, reset COAL_COUNT 1, COAL_TIME 0. -/
  coal : Word := 0x00010000
  /-- Local start of the coalescing timer. -/
  timer : Option Nat := none
  /-- The coalescing timer has elapsed. -/
  expired : Bool := false
  deriving DecidableEq, Repr

/-- One target (R479 to R482). -/
structure IrqTgt where
  threshold : Nat := 0
  /-- Vectors claimed and not yet completed, at most 8. -/
  claims : List Nat := []
  /-- A delivery has been retracted and no selection made since (R481). -/
  retracted : Bool := false
  /-- The CLAIM word last read; reset VECTOR 0x3FF (R486). -/
  claimWord : Word := 0x3FF
  spurious : Nat := 0
  wakes : Nat := 0
  eoiErr : Nat := 0
  deriving DecidableEq, Repr

/-- The interrupt controller. -/
structure IrqSt where
  srcs : List IrqSrc := List.replicate 192 {}
  tgts : List IrqTgt := List.replicate 6 {}
  deriving DecidableEq, Repr

/-- A committed packet of a ring (R491); `bytes` is its payload, padded to whole words. -/
structure Packet where
  kind   : Nat
  poison : Bool
  len    : Nat
  bytes  : Bytes
  deriving DecidableEq, Repr

/-- One ring (R487 to R497). -/
structure Ring where
  base : Nat := 0
  /-- `RING_CFG`, reset with `PKT_MAX` 1 (R496). -/
  cfg : Word := 0x00020000
  wr : Nat := 0
  wrShadow : Nat := 0
  rd : Nat := 0
  pktWr : Nat := 0
  pktRd : Nat := 0
  /-- Committed packets, oldest first. -/
  pkts : List Packet := []
  /-- `RING_FLAGS`. -/
  high : Bool := false
  refused : Bool := false
  relocated : Bool := false
  flushed : Bool := false
  overrun : Nat := 0
  parity : Nat := 0
  poison : Nat := 0
  hwm : Nat := 0
  /-- RING_OVERRUN gate: drops since the last record and its time (R494). -/
  gate : LogGate := {}
  /-- Losses not yet marked in the log: `PKT_WR` at the loss, and the packets dropped there (R507). -/
  losses : List (Nat × Nat) := []
  deriving DecidableEq, Repr

/-- The ring fabric. -/
structure RingSt where
  rings : List Ring := List.replicate 64 {}
  /-- `RING_SPARE_WORDS`; none until placement. -/
  spare : Option Nat := none
  deriving DecidableEq, Repr

/-! ### Event recorder (R500 to R515) -/

/-- A record of R500; `REC_CRC` is formed when it is read. `crcOk` is false where the flash content fails it. -/
structure Rec where
  time : Nat
  seq : Nat
  code : Nat
  sev : Nat
  src : Nat
  rep : Nat := 0
  data : Bytes := []
  deferred : Bool := false
  timeValid : Bool := false
  tai : Bool := false
  summary : Bool := false
  crcOk : Bool := true
  deriving DecidableEq, Repr

/-- Count of one code in a rate window: passed, suppressed, highest severity suppressed (R506). -/
structure RateCount where
  code : Nat
  passed : Nat := 0
  suppressed : Nat := 0
  maxSev : Nat := 0
  deriving DecidableEq, Repr

/-- A running LOG_EXPORT (R510). -/
structure Export where
  next : Nat
  to_ : Nat
  minSev : Nat
  chunk : Nat := 0
  firstSent : Option Nat := none
  lastSent : Option Nat := none
  sent : Nat := 0
  skipped : Nat := 0
  /-- Frame of plant time in which the last chunk was queued: at most one per frame (R510). -/
  frame : Option Nat := none
  deriving DecidableEq, Repr

/-- The recorder. -/
structure RecSt where
  /-- `REC_SEQ` of the newest record, kept; 0 before the first. -/
  seq : Nat := 0
  /-- The open record and the local time of its first occurrence. -/
  openRec : Option (Rec × Nat) := none
  /-- Closed records in the write buffer, oldest first, each with its local closing time. -/
  buffer : List (Rec × Nat) := []
  /-- Flash regions, oldest first. -/
  shared : List Rec := []
  safety : List Rec := []
  /-- `DROP_CNT`, kept. -/
  dropCnt : Nat := 0
  dropped : Bool := false
  crcBad : Bool := false
  rateSuppr : Nat := 0
  repeatFold : Nat := 0
  crcCnt : Nat := 0
  /-- Freeze holder; 0 when not frozen. -/
  freezeSession : Nat := 0
  freezeSince : Nat := 0
  /-- Operating ms at the start of this powered time, kept (R502). -/
  operBase : Nat := 0
  /-- Local time at which `operBase` was taken. -/
  operFrom : Nat := 0
  /-- `TIME_MODE` of this Dawn: true for TAI. -/
  tai : Bool := false
  /-- End of the recovery window, if one runs. -/
  recoveryEnd : Option Nat := none
  /-- Start of the present rate window while a limited period runs. -/
  windowStart : Option Nat := some 0
  counts : List RateCount := []
  export_ : Option Export := none
  deriving DecidableEq, Repr

/-! ### Module health (R516 to R526) -/

/-- An entry of the defect map (R524). -/
structure Defect where
  kind : Nat
  st : Nat
  unit : Nat
  addr : Nat := 0
  time : Nat := 0
  deriving DecidableEq, Repr

/-- Health state and objects of R525. -/
structure HealthSt where
  /-- `DIE_T`, 0.01 °C, and the broken marks. -/
  die : List (Option Int) := List.replicate 7 none
  broken : List Bool := List.replicate 7 false
  /-- Consecutive deviating rounds per sensor. -/
  devRun : List Nat := List.replicate 7 0
  dieMax : Option Int := none
  /-- `DIE_BAND`; none is 0xFF. -/
  band : Option Nat := none
  eccCorr : Nat := 0
  eccUnc : Nat := 0
  /-- The row the scrubber visits next, 0 to 6143: code rows 0 to 2047, then data rows. -/
  scrubRow : Nat := 0
  /-- Corrections of a row within 24 h: (row, operating ms). -/
  rowCorr : List (Nat × Nat) := []
  /-- `SPARE_LEFT`, kept: code rows, data rows, lanes, DS7, flash blocks. -/
  spare : List Nat := [32, 64, 4, 1, 16]
  /-- SPARE_EXHAUSTED logged per kind of R524; kept. -/
  exhausted : List Bool := List.replicate 6 false
  /-- The defect map, kept, oldest first. -/
  map : List Defect := []
  mapFullLogged : Bool := false
  /-- Estimator lanes working, kept; the lane tested next. -/
  lanes : Nat := 64
  laneNext : Nat := 0
  /-- Refresh pass: next block, highest band since the last completed pass, start of the pass;
  operating ms of the last completed pass, kept. -/
  refreshBlock : Nat := 0
  refreshBand : Nat := 0
  refreshLast : Nat := 0
  /-- Blocks taken from trend history and from the event log (R523), kept; staging reduced. -/
  fromTrend : Nat := 0
  fromLog : Nat := 0
  stagingReduced : Bool := false
  deriving DecidableEq, Repr

/-! ### Power ladder, reset input, freeze and JTAG (R527 to R540) -/

/-- `FREEZE_LAST` of R538. -/
structure FreezeLast where
  time : Nat
  trigger : Nat
  state : Nat
  forced : Bool
  role : Nat
  deriving DecidableEq, Repr

/-- Ladder, reset and freeze state. -/
structure LadderSt where
  /-- `LADDER_RUNG`, R527. -/
  rung : Nat := 0
  /-- Local time of entry to the rung. -/
  rungSince : Nat := 0
  wakeCause : Nat := 0
  /-- Rung left at the wake, for WAKE at D4. -/
  wakeRung : Nat := 0
  ignoredLast : Bool := false
  holdActive : Bool := false
  stuckAtPowerup : Bool := false
  resetDisabled : Bool := false
  closed : Bool := false
  /-- Local time of the closure, of its opening while disabled, and of disabling. -/
  closedSince : Nat := 0
  openSince : Option Nat := none
  disabledSince : Nat := 0
  /-- `RESET_PRESS_CNT`, kept: bounces, presses, holds, stuck. -/
  pressCnt : List Nat := List.replicate 4 0
  /-- `FREEZE_LAST`, kept. -/
  freezeLast : Option FreezeLast := none
  /-- `RUNG_TIME`, kept, ms. -/
  rungTime : List Nat := List.replicate 6 0
  /-- The module is frozen; FREEZE_ENTERED is owed at the next D4. -/
  frozen : Bool := false
  freezeOwed : Bool := false
  /-- A freeze runs: trigger, and the step of R535 (1 handover asked, 2 safe stop runs), with the start. -/
  freezeReq : Option (Nat × Nat × Nat) := none
  /-- OFF was entered by the aux-loss sequence (R531 cause 4). -/
  offByAux : Bool := false
  /-- A HELLO with role ACTIVE has been seen since entry to OFF (R531 cause 3). -/
  activeSeen : Bool := false
  /-- Local time since which the module has been idle (R529). -/
  idleSince : Option Nat := none
  /-- J1 is absent: the module is unpowered. -/
  unpowered : Bool := false
  /-- Night retains journal or recorder buffers that the save could not write (R530). -/
  retained : Bool := false
  deriving DecidableEq, Repr

/-- JTAG port (R537): the instruction register, the word address and the data register last captured. -/
structure JtagSt where
  ir : Nat := 0x01
  addr : Nat := 0
  /-- Length in bits and value of the last capture. -/
  drLen : Nat := 32
  dr : Nat := 0x2C640A5B
  deriving DecidableEq, Repr

/-! ### Firmware update (R541 to R557) -/

/-- What a manifest says, as far as the boot decision reads it (R541). `marks` are the results of the
checks of R544 that need the image or the fuses: each true where the check passes. -/
structure Manifest where
  secVer : Nat := 0
  fwVersion : Nat := 0
  mformat : Nat := 1
  revoke : Nat := 0
  keyIdx : Nat := 0
  deriving DecidableEq, Repr

/-- One slot table entry (R543, R554). -/
structure FwSlot where
  st : Nat := 0
  trialDawns : Nat := 0
  man : Manifest := {}
  installTime : Nat := 0
  deriving DecidableEq, Repr

/-- The staging record of R547. -/
structure Staging where
  updId : Nat
  xferLen : Nat
  /-- Pieces held, by number, with their ciphertext. -/
  pieces : List (Nat × Bytes) := []
  /-- Chunk tags held. -/
  tags : List (Nat × Bytes) := []
  /-- Chunks that have passed. -/
  passed : List Nat := []
  deriving DecidableEq, Repr

/-- Update state. -/
structure UpdSt where
  slotA : FwSlot := { st := 4 }
  slotB : FwSlot := {}
  running : Nat := 0
  /-- Anti-rollback counter, SHA-384 key hashes (none where not blown) and revoked bits (fuses, R542). -/
  counter : Nat := 0
  keyHash : List (Option Bytes) := List.replicate 4 (some (List.replicate 48 0))
  revoked : Nat := 0
  staging : Option Staging := none
  /-- Phase of the UPDATE_STAGE that runs: 0 none, 1 receiving, 2 installing, 3 installed; erasing first. -/
  phase : Nat := 0
  erasing : Bool := false
  chunksFailed : Nat := 0
  dupes : Nat := 0
  installStart : Nat := 0
  installMs : Nat := 0
  /-- Local time of DAWN_COMPLETE of a trial. -/
  confirmFrom : Option Nat := none
  lastReject : Option (Nat × Nat) := none
  recovery : Bool := false
  fallbackLast : Bool := false
  /-- The next Dawn has reason 9 (R545); UPD_RECOVERY is owed. -/
  failNext : Bool := false
  recoveryOwed : Bool := false
  deriving DecidableEq, Repr

/-! ### The accepted plug image (R136 to R151, R406 and the section layouts of the chapters)

Each field keeps the unit of its layout. A field's value here before an image is accepted is the default its
layout gives, and the least value of its range where it gives none (R148: no string is configured then). -/

/-- ΔΣ filter entry of `DS_FILTER` (R406): N, M code, L. -/
structure DsFilter where
  n : Nat
  m : Nat
  l : Nat
  deriving DecidableEq, Repr

/-- SAFETY section (R141, R406). -/
structure CfgSafety where
  p : Nat := 0
  s : Nat := 0
  sensors : Nat := 0
  monN : Nat := 0
  pair : Bool := false
  twFraction : Nat := 2500
  twDuration : Nat := 30
  ovLimit : Nat := 0xFFFF
  ovHard : Nat := 0xFFFF
  uvLimit : Nat := 0
  uvDeep : Nat := 0
  vConfirm : Nat := 2
  tConfirm : Nat := 2
  iDirTol : Nat := 2000
  otLimit : Int := 32767
  utChg : Int := -32768
  utDis : Int := -32768
  shuntTMax : Int := 12000
  shuntNom : Nat := 10000
  shuntTc : Int := 0
  shuntBeta : Nat := 3435
  shuntGain : Nat := 0
  cmpFilter : Nat := 5
  shareIMin : Nat := 2000
  ocFast : Nat := 0
  ocSw : Nat := 0
  iStrTrip : Nat := 0
  i2tCont : Nat := 0
  i2tTau : Nat := 10
  estopDisc : Nat := 200
  extUse : Nat := 3
  isoAction : Nat := 1
  isoSlot : Nat := 0
  isoSlotN : Nat := 1
  isoAlarm : Nat := 210
  isoWarn : Nat := 1050
  isoRParallel : Nat := 0
  rPre : Nat := 1
  preWindow : Nat := 200
  cLink : Nat := 1
  preTimeout : Nat := 100
  closeMax : Nat := 100
  openMax : Nat := 100
  coilTol : Nat := 2500
  coilPull : List Nat := [20, 20, 20]
  coilHold : List Nat := [50, 50, 50]
  isoHalf : Nat := 2000
  dsFilter : List DsFilter := []
  deriving DecidableEq, Repr

/-- GEOMETRY section (R221). -/
structure CfgGeometry where
  serials : List Nat := []
  mask : List Nat := []
  deriving DecidableEq, Repr

/-- A band block of the CELL section (R249). -/
structure CellBand where
  tRef : Int := 0
  rOhm : Nat := 0
  rA : Nat := 0
  tauA : Nat := 0
  rB : Nat := 0
  tauB : Nat := 0
  hQ : Nat := 0
  deriving DecidableEq, Repr

/-- An OCV table point (R249). -/
structure OcvPoint where
  soc : Nat
  chg : Nat
  dis : Nat
  deriving DecidableEq, Repr

/-- CELL section (R249). -/
structure CfgCell where
  capNom : Nat := 1000
  vCutoff : Nat := 0
  epsV : Nat := 50
  linkRNom : Nat := 1
  linkTc : Int := 3900
  restMin : Nat := 60
  restoreAgeMax : Nat := 168
  capLearnWeight : Nat := 5000
  exportPeriod : Nat := 10
  learnTMin : Int := 1500
  learnTMax : Int := 4000
  bands : List CellBand := []
  ocv : List (List OcvPoint) := []
  deriving DecidableEq, Repr

/-- A SAR user sequence (R329). -/
structure SarSeq where
  trig : Nat := 0
  entries : Nat := 0
  period : Nat := 0
  list : List (Nat × Nat) := []
  deriving DecidableEq, Repr

/-- A schedule entry (R330): its modes, its current range, and the words in the write order of R313. -/
structure SchedEntry where
  mask : Nat
  lo : Nat
  hi : Nat
  ki : Int
  ai : Int
  kp : Int
  kd : Int
  ad : Int
  yMax : Int
  yMin : Int
  shift : List Nat
  deriving DecidableEq, Repr

/-- CONVERTER section (R328). -/
structure CfgConverter where
  iRated : Nat := 0
  iPhMax : Nat := 0
  sens : List Nat := [0, 0, 0]
  lPhase : Nat := 10000
  vStrNom : Int := 0
  vBusNom : Int := 0
  vDroop : Int := 0
  dMax : Nat := 9500
  dFix : Nat := 8500
  dead : List Nat := [320, 320, 320, 320, 320, 320]
  preMode : Nat := 0
  otReenable : Nat := 10
  preVBusMin : Int := 0
  slots : List SlotRec := List.replicate 6 {}
  sar : List SarSeq := List.replicate 4 {}
  sched : List SchedEntry := []
  deriving DecidableEq, Repr

/-- DISPATCH section (R348). `bandLim` holds 8 × 6 words in 10 mA; without the section the limits of R348
follow from `CAP_NOM`. -/
structure CfgDispatch where
  present : Bool := false
  rampInc : Nat := 1000000
  rampDec : Nat := 1000000
  vChgLo : Nat := 0xFFFF
  vChgHi : Nat := 0xFFFF
  vDisHi : Nat := 0
  vDisLo : Nat := 0
  socChgLo : Nat := 9800
  socChgHi : Nat := 10000
  socDisHi : Nat := 200
  socDisLo : Nat := 0
  spHoldMax : Nat := 0
  bandLim : List Nat := []
  deriving DecidableEq, Repr

/-- Slot extension of the THERMAL section (R370). -/
structure ThermExt where
  refSrc : Nat := 0
  refValue : Int := 0
  failsafe : Int := 0
  deriving DecidableEq, Repr

/-- THERMAL section (R370). -/
structure CfgThermal where
  present : Bool := false
  edges : List Int := [-1000, 0, 1000, 2000, 3500, 4500, 5500]
  tBrokenDev : Nat := 1000
  beta : List Nat := List.replicate 8 3435
  diMode : List Nat := List.replicate 4 0
  flowMin : List Nat := List.replicate 4 0
  pwmFreq : List Nat := List.replicate 4 25000
  cellTarget : Int := 2500
  coolGain : Nat := 200
  coolMin : Int := 1200
  coolMax : Int := 3000
  heatOn : Int := 1000
  chPeriod : Nat := 100
  chTimeout : Nat := 1000
  slots : List SlotRec := List.replicate 10 {}
  ext : List ThermExt := List.replicate 10 {}
  deriving DecidableEq, Repr

/-- NETWORK section (R436). -/
structure CfgNetwork where
  ip : List Nat := [0, 0]
  mask : List Nat := [0, 0]
  gw : List Nat := [0, 0]
  hostPorts : Nat := 1
  ptpPort : Nat := 0
  ptpDomain : Nat := 0
  ptpPrio : Nat := 4
  ptpVlan : Nat := 0
  readOpen : Nat := 0
  modbusEn : Nat := 0
  modbusUnit : Nat := 1
  idle : Nat := 60
  allowAddr : Nat := 0
  allowMask : Nat := 0
  eeeEn : Nat := 0
  deriving DecidableEq, Repr

/-- One port block of the CAN section (R466). -/
structure CfgCanPort where
  en : Bool := false
  term : Bool := false
  brp : Nat := 1
  nsjw : Nat := 1
  ntseg1 : Nat := 2
  ntseg2 : Nat := 2
  dtseg1 : Nat := 1
  dtseg2 : Nat := 1
  dsjw : Nat := 1
  tdc : Bool := false
  tdco : Nat := 0
  deriving DecidableEq, Repr

/-- CAN section (R466). -/
structure CfgCan where
  p1 : CfgCanPort := {}
  p2 : CfgCanPort := {}
  chPort : Nat := 0xFF
  tripPort : Nat := 0xFF
  chFmt : Nat := 0
  tripFmt : Nat := 0
  chReqId : Nat := 0
  chStsId : Nat := 0
  tripId : Nat := 0
  deriving DecidableEq, Repr

/-- A block of an impedance plan (R281): tones as (mHz, mA). -/
structure PlanBlock where
  length : Nat
  tones : List (Nat × Nat)
  deriving DecidableEq, Repr

/-- IMPEDANCE section (R280). -/
structure CfgImpedance where
  plans : List (List PlanBlock) := []
  autoPlan : Nat := 0xFF
  autoPeriod : Nat := 60
  tTone : Nat := 0
  rTone : Nat := 0
  tIntAgeMax : Nat := 600
  dcStepMax : Nat := 200
  tempMap : List (Int × Int) := []
  deriving DecidableEq, Repr

/-- BALANCING section (R362). -/
structure CfgBalancing where
  mode : Nat := 0
  iMax : Nat := 2000
  monMax : Nat := 20000
  deadband : Nat := 50
  sigmaMax : Nat := 200
  horizon : Nat := 240
  vMin : Nat := 0
  vMax : Nat := 0xFFFF
  tMin : Int := 0
  tMax : Int := 4500
  deriving DecidableEq, Repr

/-- PAIR, RECORDER and HOLDOVER sections (R431, R512, R125). -/
structure CfgSmall where
  member : Nat := 0
  partnerSerial : Nat := 0
  timeMode : Nat := 0
  rateLimit : Nat := 8
  rateWindow : Nat := 1000
  recovery : Nat := 10
  freezeMax : Nat := 10
  holdoverMax : Nat := 60
  asymmetry : Int := 0
  launchLateMax : Nat := 50000
  deriving DecidableEq, Repr

/-- The configuration the module runs on: that of the accepted image, or the fallback configuration of R148. -/
structure PlugCfg where
  /-- An image has been accepted in this Dawn. -/
  accepted : Bool := false
  /-- `FALLBACK_ACTIVE`. -/
  fallback : Bool := false
  /-- `SEC_CRC` of section types 0x0001 to 0x000C, 0 for an absent one (R416). -/
  secCrc : List Nat := List.replicate 12 0
  safety : CfgSafety := {}
  geo : CfgGeometry := {}
  cell : CfgCell := {}
  conv : CfgConverter := {}
  disp : CfgDispatch := {}
  therm : CfgThermal := {}
  net : CfgNetwork := {}
  can : CfgCan := {}
  imp : CfgImpedance := {}
  bal : CfgBalancing := {}
  small : CfgSmall := {}
  deriving DecidableEq, Repr

/-! ### What has left the module

The block's answers on its ports: host datagrams, Modbus answers, ARP and ICMP replies, USB frames, mirror
frames. Newest last. A host that reads a port takes them from here. -/

/-- An answer of R435: ARP (port, address asked) or ICMP echo (port, destination, payload). -/
inductive NetReply
  | arp (port target : Nat)
  | echo (port dst : Nat) (payload : Bytes)
  | reset (port addr : Nat)
  deriving DecidableEq, Repr

/-- A mirror frame sent on the pair link (R415): type, MSEQ and payload. -/
structure MirrorTx where
  mtype : Nat
  mseq : Nat
  /-- Destination MAC address. -/
  dst : Bytes
  /-- The frame from `MTYPE` to `MCRC`. -/
  frame : Bytes
  deriving DecidableEq, Repr

/-- Everything sent since Dawn. -/
structure OutSt where
  host : List Dgram := []
  modbus : List ModbusAns := []
  net : List NetReply := []
  mirror : List MirrorTx := []
  /-- COBS frames sent on J16 (R552). -/
  usb : List Bytes := []
  /-- Untimed frames that a guard band holds back on a MAC, oldest first (R120). -/
  held : List (Nat × TxFrame) := []
  deriving DecidableEq, Repr

/-- Faults a command could end in. The spec gives every row of the table an effect, so no meaning raises one;
the constructor is here because the interface asks for the type. -/
inductive Fault
  /-- Raised by no meaning. Safe: a model that stopped here would stop where the hardware goes on. -/
  | unused
  deriving DecidableEq, Repr

/-- Why a command is refused. -/
inductive Refusal
  /-- Raised by an arm of the dispatch whose meaning is not written, with the row's mnemonic; safe. -/
  | notModelled (mnemonic : String)
  deriving DecidableEq, Repr

/-- The state of the block: everything the spec gives it, and the queue of commands waiting, first in first out. -/
structure State where
  tick : TickSt := {}
  str : StringSt := {}
  pins : PinSt := {}
  pwr : PowerSt := {}
  tb : TimeSt := {}
  dawn : DawnSt := {}
  idn : IdentSt := {}
  cfg : PlugCfg := {}
  met : MetSt := {}
  skl : LinkSt := {}
  tab : TableSt := {}
  est : EstSt := {}
  jrn : JournalSt := {}
  imp : ImpSt := {}
  cnv : ConvSt := {}
  dsp : DispSt := {}
  bal : BalSt := {}
  thm : ThermSt := {}
  prot : ProtSt := {}
  cont : ContSt := {}
  iso : IsoSt := {}
  pair : PairSt := {}
  host : HostSt := {}
  ops : OpsSt := {}
  irq : IrqSt := {}
  rings : RingSt := {}
  rcd : RecSt := {}
  can : CanSt := {}
  hlth : HealthSt := {}
  lad : LadderSt := {}
  upd : UpdSt := {}
  jtag : JtagSt := {}
  out : OutSt := {}
  /-- The model's own counter behind the free values (assumption 3); no statement rests on it. -/
  fresh : Nat := 0
  pending : List Instr := []
  deriving DecidableEq, Repr

/-- The block at the start of Dawn step D0 (R128, R130 reason 0): every field at the value its declaration gives. -/
def State.reset : State := {}

end Sys2Proof.Machine
end

