-- ==== Sys2Proof/Machine/Ops.lean ====
section
/-! DEFINITION. The shared operations the meanings are built from: interrupt counters, rings, event records, the
string state machine's transitions, fault decisions and the safe stop, Twilight causes, giving up, responses to
the host, and long operations. Each is written once from its rule and used by every row that takes part in it. -/
namespace Sys2Proof.Machine

/-! ### One update per part of the state -/

/-- The state with its part `tick` changed by `g`. -/
def onTick (g : TickSt → TickSt) (s : State) : State := { s with tick := g s.tick }
/-- The state with its part `str` changed by `g`. -/
def onStr (g : StringSt → StringSt) (s : State) : State := { s with str := g s.str }
/-- The state with its part `pins` changed by `g`. -/
def onPins (g : PinSt → PinSt) (s : State) : State := { s with pins := g s.pins }
/-- The state with its part `pwr` changed by `g`. -/
def onPwr (g : PowerSt → PowerSt) (s : State) : State := { s with pwr := g s.pwr }
/-- The state with its part `tb` changed by `g`. -/
def onTb (g : TimeSt → TimeSt) (s : State) : State := { s with tb := g s.tb }
/-- The state with its part `dawn` changed by `g`. -/
def onDawn (g : DawnSt → DawnSt) (s : State) : State := { s with dawn := g s.dawn }
/-- The state with its part `idn` changed by `g`. -/
def onIdn (g : IdentSt → IdentSt) (s : State) : State := { s with idn := g s.idn }
/-- The state with its part `cfg` changed by `g`. -/
def onCfg (g : PlugCfg → PlugCfg) (s : State) : State := { s with cfg := g s.cfg }
/-- The state with its part `met` changed by `g`. -/
def onMet (g : MetSt → MetSt) (s : State) : State := { s with met := g s.met }
/-- The state with its part `skl` changed by `g`. -/
def onSkl (g : LinkSt → LinkSt) (s : State) : State := { s with skl := g s.skl }
/-- The state with its part `tab` changed by `g`. -/
def onTab (g : TableSt → TableSt) (s : State) : State := { s with tab := g s.tab }
/-- The state with its part `est` changed by `g`. -/
def onEst (g : EstSt → EstSt) (s : State) : State := { s with est := g s.est }
/-- The state with its part `jrn` changed by `g`. -/
def onJrn (g : JournalSt → JournalSt) (s : State) : State := { s with jrn := g s.jrn }
/-- The state with its part `imp` changed by `g`. -/
def onImp (g : ImpSt → ImpSt) (s : State) : State := { s with imp := g s.imp }
/-- The state with its part `cnv` changed by `g`. -/
def onCnv (g : ConvSt → ConvSt) (s : State) : State := { s with cnv := g s.cnv }
/-- The state with its part `dsp` changed by `g`. -/
def onDsp (g : DispSt → DispSt) (s : State) : State := { s with dsp := g s.dsp }
/-- The state with its part `bal` changed by `g`. -/
def onBal (g : BalSt → BalSt) (s : State) : State := { s with bal := g s.bal }
/-- The state with its part `thm` changed by `g`. -/
def onThm (g : ThermSt → ThermSt) (s : State) : State := { s with thm := g s.thm }
/-- The state with its part `prot` changed by `g`. -/
def onProt (g : ProtSt → ProtSt) (s : State) : State := { s with prot := g s.prot }
/-- The state with its part `cont` changed by `g`. -/
def onCont (g : ContSt → ContSt) (s : State) : State := { s with cont := g s.cont }
/-- The state with its part `iso` changed by `g`. -/
def onIso (g : IsoSt → IsoSt) (s : State) : State := { s with iso := g s.iso }
/-- The state with its part `pair` changed by `g`. -/
def onPair (g : PairSt → PairSt) (s : State) : State := { s with pair := g s.pair }
/-- The state with its part `host` changed by `g`. -/
def onHost (g : HostSt → HostSt) (s : State) : State := { s with host := g s.host }
/-- The state with its part `ops` changed by `g`. -/
def onOps (g : OpsSt → OpsSt) (s : State) : State := { s with ops := g s.ops }
/-- The state with its part `irq` changed by `g`. -/
def onIrq (g : IrqSt → IrqSt) (s : State) : State := { s with irq := g s.irq }
/-- The state with its part `rings` changed by `g`. -/
def onRings (g : RingSt → RingSt) (s : State) : State := { s with rings := g s.rings }
/-- The state with its part `rcd` changed by `g`. -/
def onRcd (g : RecSt → RecSt) (s : State) : State := { s with rcd := g s.rcd }
/-- The state with its part `can` changed by `g`. -/
def onCan (g : CanSt → CanSt) (s : State) : State := { s with can := g s.can }
/-- The state with its part `hlth` changed by `g`. -/
def onHlth (g : HealthSt → HealthSt) (s : State) : State := { s with hlth := g s.hlth }
/-- The state with its part `lad` changed by `g`. -/
def onLad (g : LadderSt → LadderSt) (s : State) : State := { s with lad := g s.lad }
/-- The state with its part `upd` changed by `g`. -/
def onUpd (g : UpdSt → UpdSt) (s : State) : State := { s with upd := g s.upd }
/-- The state with its part `jtag` changed by `g`. -/
def onJtag (g : JtagSt → JtagSt) (s : State) : State := { s with jtag := g s.jtag }
/-- The state with its part `out` changed by `g`. -/
def onOut (g : OutSt → OutSt) (s : State) : State := { s with out := g s.out }
/-- The state with the free-value counter advanced. -/
def tickFresh (s : State) : State := { s with fresh := s.fresh + 1 }

/-! ### Numbers and time -/

/-- Next value of a counter that stops one below its sentinel (R8 and the notes of the object maps). -/
def satInc (w n : Nat) : Nat := min (n + 1) (2 ^ w - 2)

/-- A counter raised by `k`, stopping one below its sentinel. -/
def satAdd (w n k : Nat) : Nat := min (n + k) (2 ^ w - 2)

/-- Nanoseconds of a number of milliseconds, and of seconds. -/
def msNs (n : Nat) : Nat := n * 1000000
def secNs (n : Nat) : Nat := n * 1000000000

/-- Local time passed since an instant, ns. -/
def sinceNs (s : State) (t : Nat) : Nat := s.tick.now - t

/-- A time has passed since an instant. Local time is that of the latest tick edge, so an event between two edges may
come up to one tick before it shows (assumption 6). -/
def elapsed (s : State) (t dur : Nat) : Bool := dur ≤ sinceNs s t + 50000

/-- `TIME_NS`: the low 32 bits of the plant-time counter (R104). -/
def timeNs (s : State) : Nat := s.tb.time % 4294967296

/-- Operating milliseconds (R502). -/
def operMs (s : State) : Nat := s.rcd.operBase + (s.tick.now - s.rcd.operFrom) / 1000000

/-- Mode 0 record time: operating ms and `DAWN_CNT` modulo 2^24 (R502). -/
def operTime (s : State) : Nat := operMs s * 16777216 + s.idn.dawnCnt % 16777216

/-- `REC_TIME` in the mode of this Dawn (R502). -/
def recTime (s : State) : Nat := if s.rcd.tai then s.tb.time / 1000 else operTime s

/-! ### Interrupt sources (R475 to R483) -/

/-- Field [hi:lo] of a 32-bit word. -/
def fld (w : Word) (hi lo : Nat) : Nat := w.toNat / 2 ^ lo % 2 ^ (hi + 1 - lo)

/-- Rung a source is sensed down to (R475): 0 Noon, 1 Afternoon, 2 Dusk, 5 Midnight. -/
def senseFloor (src : Nat) : Nat :=
  let ring := fun r => if r < 4 ∨ r = 56 then 1 else if 32 ≤ r ∧ r ≤ 34 then 2 else 0
  if src < 64 then ring src
  else if src < 128 then ring (src - 64)
  else if src ≤ 139 ∨ src = 176 then 1
  else if src = 152 then 2
  else if 158 ≤ src ∧ src ≤ 168 then 5
  else 0

/-- A source is sensed at its own rung and every rung above it; Evening (freeze) and Night sense what Midnight does. -/
def sensed (s : State) (src : Nat) : Bool := s.lad.rung ≤ senseFloor src

/-- Level sources: the fill levels of the rings and those whose `SENSE` names a level (R475, R484). -/
def isLevel (src : Nat) (cfg : Word) : Bool := (64 ≤ src) && decide (fld cfg 24 22 ≤ 1)

/-- An input change is an event of the source (R476): its edge, or its transition into the asserted level. -/
def isEvent (src : Nat) (cfg : Word) (rising : Bool) : Bool :=
  if src < 64 then true
  else match fld cfg 24 22 with
    | 0 => rising
    | 1 => !rising
    | 2 => rising
    | 3 => !rising
    | 4 => true
    | _ => false

/-- One event counted and latched (R476 to R478) at `TIME_NS` = `t` and local time `now`. -/
def IrqSrc.bump (x : IrqSrc) (t now : Nat) : IrqSrc :=
  { x with
    cnt := min (x.cnt + 1) 255
    cfg := if x.cnt + 1 ≥ 255 then x.cfg ||| 1 else x.cfg
    latch := match x.latch with | none => some t | some v => some v
    timer := if x.cnt = 0 then some now else x.timer
    expired := if x.cnt = 0 then false else x.expired }

/-- Level of the input after the change. -/
def IrqSrc.setLevel (x : IrqSrc) (src : Nat) (rising : Bool) : IrqSrc :=
  if isLevel src x.cfg then { x with level := if fld x.cfg 24 22 = 1 then !rising else rising } else x

/-- Pending under R476. -/
def IrqSrc.isPending (x : IrqSrc) (src : Nat) : Bool := if isLevel src x.cfg then x.level else decide (0 < x.cnt)

/-- Deliverable under R478. -/
def IrqSrc.deliverable (x : IrqSrc) (src : Nat) : Bool :=
  fld x.cfg 31 31 = 1 && x.isPending src &&
    (isLevel src x.cfg || decide (max 1 (fld x.coal 23 16) ≤ x.cnt) || x.expired)

/-- The best source offered to a target above its threshold: highest `PRIO`, then lowest number (R479). A level source
under a claim waits for its EOI (R480). -/
def bestOffer (s : State) (tgt : Nat) : Option Nat :=
  let thr := (nth {} s.irq.tgts tgt).threshold
  let cand := mapI (fun i (x : IrqSrc) =>
    if x.deliverable i && decide (fld x.cfg 27 25 = tgt) && decide (thr < fld x.cfg 30 28) &&
        !(isLevel i x.cfg && (nth {} s.irq.tgts tgt).claims.contains i) then some (i, fld x.cfg 30 28)
    else none) s.irq.srcs
  (cand.foldl (fun (a : Option (Nat × Nat)) o => match o, a with
    | none, _ => a
    | some y, none => some y
    | some y, some z => if z.2 < y.2 then some y else some z) none).map (·.1)

/-- The selection a target's claim would take: none after a retraction (R481). -/
def selection (s : State) (tgt : Nat) : Option Nat :=
  if (nth {} s.irq.tgts tgt).retracted then none else bestOffer s tgt

/-- A new selection takes at most 2 CORE cycles (R481): any event after a retraction finds it made. -/
def reselect (s : State) : State :=
  s |> onIrq fun q => { q with tgts := q.tgts.map fun t => { t with retracted := false } }

/-- A record for the log as it travels to the recorder (R488, R500): what the producer knows. -/
structure Note where
  src : Nat
  code : Nat
  sev : Nat
  data : Bytes
  deriving DecidableEq, Repr

/-- Producers of the records about rings and interrupts: the hardware blocks' intake (R488 ring 46); and AON. -/
def srcHw : Nat := 6
def srcAon : Nat := 7

/-- IRQ_CNT_SAT of a source (R476), and RUNG_CHANGE of a wake from Afternoon (R528). -/
def satNote (src : Nat) : Note := { src := srcHw, code := 0x0E06, sev := 0, data := u16 src }
def wakeNotes (was now : State) : List Note :=
  if was.lad.rung = 1 && now.lad.rung = 0 then [{ src := srcAon, code := 0x1110, sev := 0, data := u8 1 ++ u8 0 }] else []

/-- From Afternoon to Noon, with the time spent (R528). -/
def leaveAfternoon (s : State) : State :=
  s |> onLad fun l => { l with rung := 0, rungSince := s.tick.now, rungTime := updAt (· + sinceNs s l.rungSince / 1000000) l.rungTime 1 }

/-- In Afternoon a source that becomes deliverable for a stopped core wakes the module (R482). -/
def wakeOnDeliver (src : Nat) (s : State) : State :=
  let x := nth {} s.irq.srcs src
  let tgt := fld x.cfg 27 25
  if s.lad.rung = 1 && x.deliverable src && decide (tgt < 6) then
    s |> onIrq (fun q => { q with tgts := updAt (fun t => { t with wakes := satInc 32 t.wakes }) q.tgts tgt })
      |> leaveAfternoon
  else s

/-- One change at a source's input, and the records it owes: a counter that saturates first now, a wake. -/
def irqCore (src : Nat) (rising : Bool) (s : State) : State × List Note :=
  if 192 ≤ src || !(sensed s src) then (s, [])
  else
    let x := nth {} s.irq.srcs src
    let y := x.setLevel src rising
    if isEvent src x.cfg rising then
      let z := y.bump (timeNs s) s.tick.now
      let s1 := reselect s |> onIrq fun q => { q with srcs := setAt q.srcs src z }
      let s2 := wakeOnDeliver src s1
      (s2, (if fld x.cfg 0 0 = 0 && decide (fld z.cfg 0 0 = 1) then [satNote src] else []) ++ wakeNotes s s2)
    else (reselect s |> onIrq fun q => { q with srcs := setAt q.srcs src y }, [])

/-! ### Rings (R487 to R497) -/

/-- Size in words, policy, `PKT_MAX` and water marks of a ring (R496). -/
def Ring.size (r : Ring) : Nat := 2 ^ (6 + fld r.cfg 31 28)
def Ring.enabled (r : Ring) : Bool := fld r.cfg 27 27 = 1
def Ring.drops (r : Ring) : Bool := fld r.cfg 26 26 = 1
def Ring.pktMax (r : Ring) : Nat := fld r.cfg 25 17
def Ring.highMark (r : Ring) : Nat := fld r.cfg 16 8
def Ring.lowMark (r : Ring) : Nat := fld r.cfg 7 0

/-- Difference of two free-running pointers (R490). -/
def ptrDiff (a b : Nat) : Nat := (a + 4294967296 - b % 4294967296) % 4294967296

/-- A pointer advanced. -/
def ptrAdd (a n : Nat) : Nat := (a + n) % 4294967296

/-- Fill in words and in packets (R490). -/
def Ring.fillWords (r : Ring) : Nat := ptrDiff r.wr r.rd
def Ring.fillPkts (r : Ring) : Nat := ptrDiff r.pktWr r.pktRd

/-- A reservation of 1 + n words succeeds (R492). -/
def Ring.fits (r : Ring) (n : Nat) : Bool :=
  r.enabled && decide (ptrDiff r.wrShadow r.rd + 1 + n ≤ r.size) && decide (r.fillPkts < r.pktMax)

/-- Payload words of a byte string. -/
def wordsOf (b : Bytes) : Nat := (b.length + 3) / 4

/-- Level of source 64 + n after a fill change (R494): asserts at the high mark, releases at the low mark. -/
def Ring.water (r : Ring) : Ring :=
  if r.highMark = 0 then { r with high := false }
  else if r.highMark ≤ r.fillPkts then { r with high := true }
  else if r.fillPkts ≤ r.lowMark then { r with high := false }
  else r

/-- A packet becomes visible (R492): pointers, packet count and high-water mark move together. -/
def Ring.commit (r : Ring) (p : Packet) : Ring :=
  let r1 := { r with
    wr := ptrAdd r.wr (1 + p.len), wrShadow := ptrAdd r.wr (1 + p.len), pktWr := ptrAdd r.pktWr 1
    pkts := r.pkts ++ [p], refused := false }
  let r2 := r1.water
  { r2 with hwm := max r2.hwm r2.fillPkts }

/-- The oldest packet is released (R493). -/
def Ring.release (r : Ring) : Ring :=
  match r.pkts with
  | [] => r
  | p :: ps => ({ r with rd := ptrAdd r.rd (1 + p.len), pktRd := ptrAdd r.pktRd 1, pkts := ps } : Ring).water

/-- Ring `n` of the fabric. -/
def ringAt (s : State) (n : Nat) : Ring := nth {} s.rings.rings n

/-- Ring `n` changed. -/
def onRing (n : Nat) (g : Ring → Ring) (s : State) : State :=
  s |> onRings fun q => { q with rings := updAt g q.rings n }

/-- Sources of ring `n` after a change of its water level: the level source follows it. -/
def waterIrq (n : Nat) (was : Bool) (s : State) : State × List Note :=
  let is := (ringAt s n).high
  if was = is then (s, []) else irqCore (64 + n) is s

/-- The intake record a note makes now. -/
def Note.intake (s : State) (m : Note) : Intake :=
  { time := recTime s, code := m.code, sev := m.sev, src := m.src, data := fixLen 12 m.data
    deferred := false, timeValid := s.tb.timeValid }

/-- An intake record as ring bytes. -/
def Intake.encode (r : Intake) : Bytes :=
  u64 r.time ++ u16 r.code ++ u8 r.sev ++ u8 r.src ++ u8 (b2n r.deferred) ++ u8 (b2n r.timeValid) ++ fixLen 12 r.data

/-- And back. -/
def Intake.decode (b : Bytes) : Intake :=
  { time := getN b 0 8, code := getN b 8 2, sev := getN b 10 1, src := getN b 11 1
    deferred := getN b 12 1 = 1, timeValid := getN b 13 1 = 1, data := slice b 14 12 }

/-- A packet of a kind with a payload. -/
def mkPacket (kind : Nat) (b : Bytes) : Packet := { kind := kind, poison := false, len := wordsOf b, bytes := b }

/-- One more packet dropped behind the `w`-th committed one (R507). -/
def noteLoss (w : Nat) : List (Nat × Nat) → List (Nat × Nat)
  | [] => [(w, 1)]
  | [x] => if x.1 = w then [(w, x.2 + 1)] else [x, (w, 1)]
  | x :: xs => x :: noteLoss w xs

/-- A refused reservation (R494): BLOCK leaves the data with the producer; DROP counts, and records the overrun at most
once per 60 s per ring. -/
def refuseCore (n : Nat) (s : State) : State × List Note :=
  let r := ringAt s n
  if r.enabled && r.drops then
    let cnt := r.gate.count + 1
    let due := match r.gate.at_ with | none => true | some t => decide (secNs 60 ≤ sinceNs s t)
    let g : LogGate := if due then { count := 0, at_ := some s.tick.now } else { r.gate with count := cnt }
    (s |> onRing n (fun r => { r with overrun := satInc 32 r.overrun, refused := true, gate := g, losses := noteLoss r.pktWr r.losses }),
     if due then [{ src := srcHw, code := 0x0E01, sev := 1, data := u16 n ++ u32 cnt }] else [])
  else (s |> onRing n (fun r => { r with refused := true }), [])

/-- A commit and its events (R492): the ring's source, and the level source that follows the fill. -/
def commitCore (n : Nat) (p : Packet) (s : State) : State × List Note :=
  let was := (ringAt s n).high
  let s1 := s |> onRing n (fun r => r.commit p)
  let a := irqCore n true s1
  let b := waterIrq n was a.1
  (b.1, a.2 ++ b.2)

/-- Reserve and commit in one, without the records it makes: the state and the notes of R494 and R476. -/
def pushCore (n : Nat) (p : Packet) (s : State) : State × List Note :=
  if (ringAt s n).fits p.len then commitCore n p s else refuseCore n s

/-- How far records about records go: the record, the ones its push makes, and theirs. Saturation marks a source
once per Dawn and an overrun record is limited per ring, so deeper ones do not arise in the ordinary course. -/
def noteDepth : Nat := 3

/-- A packet into a ring, with the records that makes. -/
def ringPutN : Nat → Nat → Packet → State → State
  | 0, n, p, s => (pushCore n p s).1
  | f + 1, n, p, s =>
    let r := pushCore n p s
    r.2.foldl (fun t m => ringPutN f (40 + m.src) (mkPacket 0 (m.intake t).encode) t) r.1

/-- A packet into a ring (R492, R494). -/
def ringPut (n : Nat) (p : Packet) (s : State) : State := ringPutN noteDepth n p s

/-- Records about records made by an operation already done. -/
def ringNotes (ms : List Note) (s : State) : State :=
  ms.foldl (fun t m => ringPut (40 + m.src) (mkPacket 0 (m.intake t).encode) t) s

/-- One change at an interrupt source, with the records it owes (R476, R528). -/
def irqEvent (src : Nat) (rising : Bool) (s : State) : State :=
  let r := irqCore src rising s
  ringNotes r.2 r.1

/-- The oldest packet of a ring released, and the level source that follows the fill (R493, R494). -/
def ringRel (n : Nat) (s : State) : State :=
  let was := (ringAt s n).high
  let s1 := s |> onRing n Ring.release
  let r := waterIrq n was s1
  ringNotes r.2 r.1

/-! ### Event records (R16, R500 to R509) -/

/-- Producers by the work split of R17: `REC_SRC` values of R500. -/
def srcSafety : Nat := 0
def srcApp0 : Nat := 1
def srcApp1 : Nat := 2
def srcApp2 : Nat := 3
def srcApp3 : Nat := 4
def srcComm : Nat := 5

/-- The log has been located in step D4 (R128). -/
def logReady (s : State) : Bool := s.dawn.mounted

/-- A record of a code with its severity and data: to its producer's intake ring, or, before step D4 has ended, kept
for ring 47 (R502). -/
def logOnly (src code sev : Nat) (data : Bytes) (s : State) : State :=
  if logReady s then ringPut (40 + src) (mkPacket 0 (Note.intake s { src := src, code := code, sev := sev, data := data }).encode) s
  else s |> onDawn fun d => { d with deferred := d.deferred ++
    [{ Note.intake s { src := srcAon, code := code, sev := sev, data := data } with time := operTime s }] }

/-- The log freeze ends (R509) with a cause. -/
def thawLog (cause : Nat) (s : State) : State :=
  if s.rcd.freezeSession = 0 then s
  else
    let d := sinceNs s s.rcd.freezeSince / 1000000
    s |> onRcd (fun r => { r with freezeSession := 0 }) |> logOnly srcApp3 0x0F04 1 (u16 cause ++ u32 d)

/-- A record (R16), and the end of a log freeze when an intake ring reaches its high mark (R509 cause 3). -/
def log (src code sev : Nat) (data : Bytes) (s : State) : State :=
  let s1 := logOnly src code sev data s
  if s1.rcd.freezeSession ≠ 0 && (ringAt s1 (40 + src)).high then thawLog 3 s1 else s1

/-- A once-per-60-s gate of the chapters: whether a record is due, its count, and the gate after it (R347, R462). -/
def LogGate.pass (g : LogGate) (s : State) : Bool × Nat × LogGate :=
  let due := match g.at_ with | none => true | some t => decide (secNs 60 ≤ sinceNs s t)
  if due then (true, g.count + 1, { count := 0, at_ := some s.tick.now })
  else (false, g.count + 1, { g with count := g.count + 1 })

/-! ### Measured currents -/

/-- Shunt resistance at its temperature, nΩ, exact (R165). -/
def rho (s : State) : Rat :=
  let t : Rat := match s.met.tShunt with
    | some x => x
    | none => match s.met.tShuntLast with | some x => x | none => 2500
  (s.cfg.safety.shuntNom : Rat) * (1 + (s.cfg.safety.shuntTc : Rat) / 1000000 * ((t - 2500) / 100))

/-- Channel DSn. -/
def dsAt (s : State) (n : Nat) : DsCh := nth {} s.met.ds n

/-- Range of DS0 or DS1 at the gain in force, nV (R161, R166). -/
def shuntRange (s : State) (n : Nat) : Rat := if (dsAt s n).gain4 then 37500000 else 150000000

/-- Calibrated counts of DS0 or DS1 as current in mA (R165). -/
def shuntMa (s : State) (n : Nat) (counts : Rat) : Rat :=
  if rho s = 0 then 0 else counts * shuntRange s n / 8388608 * 1000 / rho s

/-- Frame mean of DS0 or DS1 in mA; none before the first. -/
def dsMeanMa (s : State) (n : Nat) : Option Rat := (dsAt s n).mean.map (shuntMa s n)

/-- The string current: the DS0 frame mean, or that of DS1 while DS0 is FAILED (R189, R379). -/
def iStrOpt (s : State) : Option Rat := if (dsAt s 0).failed then dsMeanMa s 1 else dsMeanMa s 0
def iStr (s : State) : Rat := (iStrOpt s).getD 0

/-- The tick word of the string current, mA (R25, R387). DESIGN CHOICE (assumption 58): while DS0 is FAILED the word of DS1 stands
for it. -/
def iTick (s : State) : Rat := if (dsAt s 0).failed then shuntMa s 1 (dsAt s 1).word else shuntMa s 0 (dsAt s 0).word

/-! ### Filters, settling and the gain of the ΔΣ channels (R160, R162, R187) -/

/-- Entries of the channels changed. -/
def onDs (n : Nat) (g : DsCh → DsCh) (s : State) : State := s |> onMet fun m => { m with ds := updAt g m.ds n }
def onSar (n : Nat) (g : SarCh → SarCh) (s : State) : State := s |> onMet fun m => { m with sar := updAt g m.sar n }

/-- A channel's words are flagged `SETTLING` until N + L words have passed. -/
def DsCh.unsettle (c : DsCh) (waitRef : Bool) : DsCh :=
  { c with settling := true, settle := c.sincN + c.postL, waitRef := waitRef, valid := false, hist := [] }

/-- A channel at ×4 or ×1: what it holds is kept as the same voltage (R166). -/
def DsCh.setGain (c : DsCh) (x4 : Bool) : DsCh :=
  if c.gain4 = x4 then c
  else
    let f := fun (x : Int) => if x4 then 4 * x else divRound x 4
    { c with gain4 := x4, word := f c.word, acc := f c.acc, frSum := f c.frSum, mean := c.mean.map fun r => if x4 then 4 * r else r / 4 }

/-- Filter settings of a channel by `DS_FILTER` or the defaults of R160: N, M code, L. -/
def filterOf (s : State) (n : Nat) : DsFilter :=
  let f := nth { n := 0, m := 0, l := 0 } s.cfg.safety.dsFilter n
  if f.n = 0 && f.m = 0 && f.l = 0 then
    match n with
    | 0 => { n := 3, m := 0, l := 1 }
    | 1 => { n := 3, m := 0, l := 1 }
    | 2 => { n := 3, m := 0, l := 20 }
    | 3 => { n := 3, m := 0, l := 20 }
    | 6 => { n := 4, m := 0, l := 200 }
    | _ => { n := 4, m := 0, l := 2000 }
  else f

/-- A channel with a filter and a gain, settling from now on (R162). -/
def DsCh.configure (c : DsCh) (f : DsFilter) (x4 waitRef : Bool) : DsCh :=
  ({ c with sincN := f.n, dec := f.m, postL := f.l } : DsCh).setGain x4 |>.unsettle waitRef

/-- The input that DS7's role gives it (R172). -/
def ds7Input (s : State) : Nat :=
  match s.met.ds7 with
  | .shadowing ch => ch
  | .injecting ch => ch
  | .substituting ch => ch
  | _ => 2

/-- DS7 moves its mux to a channel's input with that channel's settings and its own calibration set for it; a dwell's means start
afresh (R162, R172, R185). -/
def ds7Move (ch : Nat) (s : State) : State :=
  s |> onMet fun m => { m with
    ds := updAt (fun c => { c.configure (filterOf s ch) false (!m.refSettled) with calDefault := !((nth {} m.cal (7 + ch)).present) }) m.ds 7
    dwell7 := 0, dwellCh := 0, dwellN := 0 }

/-- The ΔΣ channel of a calibration index (R184). -/
def calCh (idx : Nat) : Nat := if idx < 2 then 0 else if idx < 4 then 1 else if idx < 9 then idx - 2 else 7

/-- A capture of SYS_CAL runs on this ΔΣ channel. -/
def capturing (s : State) (n : Nat) : Bool :=
  match s.met.sysCal with
  | some c => c.step = 3 && decide (c.index < 14) && calCh c.index = n
  | none => false

/-- A capture starts: the ΔΣ channel runs at N = 3, M = 1,024, L = 1 and the gain of its index, and settles (R186, R187). -/
def calCapture (s : State) : State :=
  match s.met.sysCal with
  | none => s
  | some c =>
    let s1 := if c.index < 14 then s |> onDs (calCh c.index) fun d =>
        d.configure { n := 3, m := 0, l := 1 } (c.index = 1 || c.index = 3) (!s.met.refSettled) else s
    s1 |> onMet fun m => { m with sysCal := some { c with step := 3, repeats := 0, n := 0, sum := 0, sumSq := 0, since := s.tick.now } }

/-- A capture's channel goes back to its own filter, gain and input. -/
def calRelease (s : State) : State :=
  match s.met.sysCal with
  | none => s
  | some c =>
    if c.step ≠ 3 || 14 ≤ c.index then s
    else if calCh c.index = 7 then s |> ds7Move (ds7Input s) |> onMet fun m => { m with dwellSince := s.tick.now }
    else s |> onDs (calCh c.index) fun d =>
      d.configure (filterOf s (calCh c.index)) (decide (c.index < 4) && s.cfg.safety.shuntGain = 1) (!s.met.refSettled)

/-! ### Roles and states -/

/-- The module owns the outputs: SOLO or ACTIVE (R41, R377). -/
def owning (s : State) : Bool := s.str.role = some .solo || s.str.role = some .active

/-- The module is a STANDBY_PAIR module (R40). -/
def isSp (s : State) : Bool := s.str.role = some .standbyPair

/-- The module evaluates the safety functions and drives their outputs (R377). -/
def sfRuns (s : State) : Bool := owning s && !s.cfg.fallback && !(s.str.state = .off || s.str.state = .dawn)

/-- The module is in its own Dawn, or parked in its own OFF; a state taken from the mirror stream is the partner's (R41). -/
def inDawn (s : State) : Bool := s.str.state = .dawn && !s.str.mirrored
def inOff (s : State) : Bool := s.str.state = .off && !s.str.mirrored

/-- String-state codes of R33. -/
def StringState.code : StringState → Nat
  | .off => 0 | .dawn => 1 | .standby => 2 | .precharge => 3 | .closed => 4
  | .run => 5 | .twilight => 6 | .stopping => 7 | .fault => 8 | .service => 9

/-- Pair-role codes of R40; 0xFF until decided. -/
def roleCode (s : State) : Nat :=
  match s.str.role with | some .solo => 0 | some .active => 1 | some .standbyPair => 2 | none => 0xFF

/-- RUN, TWILIGHT and STOPPING: the converter regulates (R33, R170). -/
def regulatingState : StringState → Bool
  | .run => true | .twilight => true | .stopping => true | _ => false

/-- States in which a fault decision makes a transition (R35): STANDBY to STOPPING, and SERVICE. -/
def faultable : StringState → Bool
  | .off => false | .dawn => false | .fault => false | _ => true

/-- A Twilight cause is armed (R45). -/
def twArmed (s : State) : Bool := s.prot.twilight.any id

/-- Every Twilight budget value in ns, and what is left (R44). -/
def twBudget (s : State) : Nat := secNs (60 * s.cfg.safety.twDuration)
def twLeft (s : State) : Nat := twBudget s - s.str.twilightUsed

/-! ### Long operations at a change of state (R48) -/

/-- States in which an operation of a kind may start (R47). -/
def opStartStates (kind : Nat) (st : StringState) : Bool :=
  match kind, st with
  | 1, .run => true
  | 2, .service => true
  | 3, .run => true
  | 4, .standby => true | 4, .closed => true | 4, .run => true | 4, .twilight => true
  | 5, .standby => true | 5, .service => true
  | 6, .off => false | 6, .dawn => false | 6, _ => true
  | 7, .off => false | 7, .dawn => false | 7, _ => true
  | _, _ => false

/-- End of an operation: its final status and time, its result published for the last time (R451). -/
def Op.finish (o : Op) (status time : Nat) (result : Bytes) : Op :=
  { o with opState := 2, final := some status, stop := some time, seq := o.seq + 1, ready := true, result := result }

/-- The operation of a kind that exists, running or suspended. -/
def findOp (s : State) (kind : Nat) : Option Op := s.ops.ops.find? fun o => o.kind = kind && decide (o.opState ≠ 2)

/-- Change the operation of a kind that exists. -/
def onOp (kind : Nat) (g : Op → Op) (s : State) : State :=
  s |> onOps fun q => { q with ops := q.ops.map fun o => if o.kind = kind && decide (o.opState ≠ 2) then g o else o }

/-- Ended slots beyond the 16 newest are released (R453). -/
def trimOps (l : List Op) : List Op :=
  let ended := (l.filter fun o => o.opState = 2).length
  (l.foldl (fun (a : List Op × Nat) o =>
    if o.opState = 2 && decide (16 < a.2) then (a.1, a.2 - 1) else (a.1 ++ [o], a.2)) ([], ended)).1

/-- End the operation of a kind with a final status, keeping the result given. -/
def endOp (kind status : Nat) (result : Bytes) (s : State) : State :=
  s |> onOp kind (fun o => o.finish status s.tb.time result) |> onOps (fun q => { q with ops := trimOps q.ops })

/-- An intermediate publication (R451, R452). -/
def publishOp (kind : Nat) (result : Bytes) (s : State) : State :=
  s |> onOp kind fun o => { o with seq := o.seq + 1, result := result }

/-- Positions the balancing campaign leaves outside its deadband, for its result (R453). -/
def campaignResult (s : State) (res : Nat) : Bytes :=
  u8 res ++ u8 0 ++ u16 (match s.bal.campaign with | some c => c.outside | none => 0)

/-- Local time of the next frame latch. -/
def nextFrame (s : State) : Nat := s.tick.now + (20 - s.tick.j) * 50000

/-- The excitation fades out from a local time, unless its fade-out has begun (R295). -/
def fadeOutAt (t : Nat) (x : Option Excite) : Option Excite := x.map fun e => { e with out := e.out.orElse fun _ => some t }

/-- What ending an operation leaves behind in its own part: no session, no sweep, no campaign, no test. `status` is
its final status. -/
def closeOp (kind status : Nat) (s : State) : State :=
  match kind with
  | 1 => s |> onEst (fun e => { e with learn := none })
  | 2 =>
    let s1 := calRelease s |> onMet fun m => { m with sysCal := none, frozen := none }
    match s.met.frozen with
    | some (_, t) => log srcApp1 0x0314 1 (u32 (sinceNs s t / 1000000)) s1
    | none => s1
  | 3 => s |> onImp fun i => { i with sweep := none, exc := fadeOutAt (nextFrame s) i.exc }
  | 4 =>
    let res := if status = 8 then 3 else if status = 0x0A then 4 else s.bal.result
    let out := match s.bal.campaign with | some c => c.outside | none => 0
    s |> log srcApp2 0x0904 1 (u8 res ++ u16 out) |> onBal (fun b => { b with campaign := none, result := res })
  | 5 => s |> onIso (fun i => { i with test := none })
  | 6 => s |> onRcd (fun r => { r with export_ := none })
  | _ => s

/-- The suspension of an operation, also in its own part (R48, R296, R361, R405). -/
def suspendPart (kind : Nat) (s : State) : State :=
  match kind with
  | 2 => calRelease s |> onMet fun m => { m with sysCal := m.sysCal.map fun c => if c.step = 3 then { c with step := if c.spanPhase then 2 else 1, since := s.tick.now } else c }
  | 3 => s |> onImp fun i => { i with sweep := i.sweep.map fun w => { w with st := 6 }, exc := fadeOutAt (nextFrame s) i.exc }
  | 4 => s |> onBal (fun b => { b with campaign := b.campaign.map fun c =>
      { c with suspended := true, since := none, ran := c.ran + (match c.since with | some t => sinceNs s t | none => 0) } })
  | 5 => s |> onIso (fun i => { i with test := none })
  | _ => s

/-! ### Results of the operations (R453, R511, R556) -/

/-- CAP_LEARN result bytes (R453). -/
def learnResult (s : State) : Bytes :=
  match s.est.learn with
  | none => fixLen 36 (u8 0 ++ u8 s.est.learnAbort)
  | some l => fixLen 36 (u8 l.phase ++ u8 s.est.learnAbort ++ u16 l.learned ++ u16 l.rejected)

/-- Result of SYS_CAL (R453). -/
def sysCalResult (c : SysCal) (step : Nat) (og : Option (Int × Int)) : Bytes :=
  u8 c.index ++ u8 step ++ u16 0 ++ i32 (optI 32 (c.z.map roundAway)) ++ u32 (optN 32 c.sigma) ++ i32 (optI 32 (c.s.map roundAway))
    ++ i32 (optI 32 (og.map (·.1))) ++ u32 (match og with | some x => x.2.toNat | none => 0xFFFFFFFF)

/-- Result of IMPEDANCE_SWEEP (R453). -/
def sweepResult (w : Sweep) : Bytes := u8 w.plan ++ u8 w.blocksDone ++ u8 w.blocksValid ++ u8 w.blocksSkipped

/-- The test's result of R453: `ISO_R`, `ISO_C_PE` and the reference reading. -/
def isoTestResult (s : State) : Bytes := u32 (optN 32 s.iso.r) ++ u32 (optN 32 s.iso.cPe) ++ u32 (optN 32 s.iso.testRef)

/-- Result of a LOG_EXPORT slot (R511). -/
def Export.result (e : Export) : Bytes :=
  fixLen 36 (u32 (optN 32 e.firstSent) ++ u32 (optN 32 e.lastSent) ++ u32 e.sent ++ u32 e.chunk ++ u32 e.skipped)

/-- The slot an image is staged for: the one that is neither ACTIVE nor TRIAL, slot A in recovery (R546, R548). -/
def updTarget (s : State) : Nat := if s.upd.slotA.st = 4 || s.upd.slotA.st = 3 then 1 else 0

/-- Result of UPDATE_STAGE. -/
def updResult (s : State) : Bytes :=
  let u := s.upd
  match u.staging with
  | none => List.replicate 36 0
  | some x => fixLen 36 (u32 x.updId ++ u8 u.phase ++ u8 (updTarget s) ++ u16 u.chunksFailed ++ u16 x.pieces.length ++ u16 (x.xferLen / 1024)
      ++ u32 u.dupes ++ u32 u.installMs)

/-- Result an operation holds when it is ended from outside (R452). -/
def opResultNow (s : State) (o : Op) (status : Nat) : Bytes :=
  match o.kind with
  | 1 => learnResult s
  | 2 => (match s.met.sysCal with | some c => sysCalResult c 0 none | none => o.result)
  | 3 => (match s.imp.sweep with | some w => sweepResult w | none => o.result)
  | 4 => campaignResult s (if status = 8 then 3 else 4)
  | 5 => isoTestResult s
  | 6 => (match s.rcd.export_ with | some e => e.result | none => o.result)
  | _ => updResult s

/-- Every operation after a transition to `st` (R48): FAULT ends every running one but LOG_EXPORT and UPDATE_STAGE, a suspended
one stays suspended, and a running one outside its start states is suspended. -/
def opsAfter (st : StringState) (s : State) : State :=
  s.ops.ops.foldl (fun t o =>
    if o.opState = 2 then t
    else if st = .fault && decide (o.kind < 6) && o.opState = 0 then
      let r := opResultNow t o 0x0A
      t |> closeOp o.kind 0x0A |> endOp o.kind 0x0A r
    else if o.opState = 0 && !(opStartStates o.kind st) then
      t |> suspendPart o.kind |> onOp o.kind (fun x => { x with opState := 1 })
    else t) s

/-! ### Transitions (R35, R49, R51) -/

/-- The waiting set-points, timed and untimed, are discarded when the string leaves RUN and TWILIGHT (R122). -/
def discardTimed (s : State) : State :=
  let n := s.dsp.timed.length + (match s.dsp.untimed with | some _ => 1 | none => 0)
  let s1 := s |> onDsp fun d => { d with timed := [], untimed := none }
  if n = 0 then s1 else log srcApp0 0x0810 1 (i32 n) s1

/-- A limited period of the recorder starts: its windows run from its start (R506). -/
def limitedStart (s : State) : State :=
  s |> onRcd fun r => match r.windowStart with | some _ => r | none => { r with windowStart := some s.tick.now, counts := [] }

/-- A recovery window starts (R506). -/
def recoveryStart (s : State) : State :=
  limitedStart s |> onRcd fun r => { r with recoveryEnd := some (s.tick.now + secNs s.cfg.small.recovery) }

/-- Running capture ends CANCELLED when the state leaves those of R179. -/
def captureAfter (st : StringState) (s : State) : State :=
  if s.host.capture.running && !(st = .standby || st = .fault || st = .service || isSp s) then
    s |> onHost (fun h => { h with capture := { h.capture with running := false, seq := h.capture.seq + 1, ready := true } })
      |> onMet fun m => { m with sar := m.sar.map fun c => { c with paired := false, partner := 0, leader := false } }
  else s

/-- Twilight limit at entry and exit (R400): the greater of |I_STR| and the fraction of I_RATED. -/
def twLimitAfter (st : StringState) (s : State) : State :=
  if st = .twilight then
    let floor : Rat := (s.cfg.safety.twFraction : Rat) / 10000 * s.cfg.conv.iRated
    s |> onProt fun p => { p with lTw := some (maxR (absR (iStr s)) floor) }
  else s |> onProt fun p => { p with lTw := none }

/-- Dispatch at entry to RUN or TWILIGHT from CLOSED: target 0 and the hold count restarted (R343). -/
def dispatchAfter (old st : StringState) (s : State) : State :=
  if old = .closed && (st = .run || st = .twilight) then
    s |> onDsp fun d => { d with target := 0, ref := 0, spHold := 0 }
  else s

/-- The first automatic sweep falls due 60 s after each entry to RUN (R297). -/
def autoSweepAfter (st : StringState) (s : State) : State :=
  if st = .run && decide (s.cfg.imp.autoPlan < s.cfg.imp.plans.length) then
    s |> onImp fun i => { i with autoDue := some (s.tick.now + secNs 60), nextAuto := some (s.tb.time + secNs 60) }
  else s

/-- The state machine moves to `st` with a cause (R35, R49, R51), with what every change of state brings along. -/
def setState (st : StringState) (cause : Nat) (s : State) : State :=
  let old := s.str.state
  let s1 := s |> onStr fun x => { x with
    state := st, cause := cause, entryTime := s.tb.time, entered := s.tick.now
    stopTarget := if st = .stopping then x.stopTarget else none
    faultStopDone := if st = .fault then x.faultStopDone else false }
  let s2 := log srcSafety 0x0AF0 (if st = .fault then 3 else 1) (u8 old.code ++ u8 st.code ++ u16 cause) s1
  let s3 := if (old = .run || old = .twilight) && !(st = .run || st = .twilight) then discardTimed s2 else s2
  let s4 := if st = .service || st = .dawn then limitedStart s3 else s3
  let s5 := if old = .dawn then s4 |> onIso fun i => { i with since := s.tick.now } else s4
  s5 |> dispatchAfter old st |> twLimitAfter st |> opsAfter st |> captureAfter st |> autoSweepAfter st

/-! ### CAN mailboxes (R467 to R469, R471) -/

/-- Controller 0 or 1. -/
def canAt (s : State) (ctl : Nat) : CanCtl := if ctl = 0 then s.can.c1 else s.can.c2
def onCtl (ctl : Nat) (g : CanCtl → CanCtl) (s : State) : State :=
  s |> onCan fun c => if ctl = 0 then { c with c1 := g c.c1 } else { c with c2 := g c.c2 }
def canPort (s : State) (ctl : Nat) : CfgCanPort := if ctl = 0 then s.cfg.can.p1 else s.cfg.can.p2

/-- Order of two identifiers in arbitration: the lower key wins; a base frame wins against an extended one with the same
first 11 bits. Bit 31 marks an extended identifier (R466). -/
def arbKey (id : Nat) : Nat :=
  if 0x80000000 ≤ id then id % 0x20000000 / 0x40000 * 0x80000 + 0x40000 + id % 0x40000 else id % 0x800 * 0x80000

/-- Among PENDING mailboxes the identifier that wins arbitration, then the lower index (R468). -/
def pickMailbox : Nat → List Mailbox → Option (Nat × Nat)
  | _, [] => none
  | i, m :: ms =>
    let r := pickMailbox (i + 1) ms
    if m.st = .pending then
      match r with
      | some (j, k) => if k < arbKey m.id then some (j, k) else some (i, arbKey m.id)
      | none => some (i, arbKey m.id)
    else r

/-- A controller on its bus with none ACTIVE takes the next PENDING mailbox into arbitration (R468). -/
def CanCtl.arb (c : CanCtl) : CanCtl :=
  if c.running && c.onBus && !c.busOff && !(c.mbs.any fun m => m.st = .active) then
    match pickMailbox 0 c.mbs with
    | some (i, _) => { c with mbs := updAt (fun m => { m with st := .active }) c.mbs i }
    | none => c
  else c

/-- New content for a mailbox (R468, R471): an empty or done one becomes PENDING, or SUSPENDED during bus-off; waiting
content is replaced in place and counted; behind an ACTIVE transmission it waits. -/
def CanCtl.write (c : CanCtl) (mb id : Nat) (data : Bytes) : CanCtl :=
  if !c.running then c
  else
    let m := nth {} c.mbs mb
    let put := fun (x : Mailbox) => { c with mbs := setAt c.mbs mb x }
    CanCtl.arb (match m.st with
    | .empty => put { st := if c.busOff then .suspended else .pending, id := id, data := data }
    | .done => put { st := if c.busOff then .suspended else .pending, id := id, data := data }
    | .pending => { put { m with data := data, id := id } with txReplaced := satInc 32 c.txReplaced }
    | .suspended => { put { m with data := data, id := id } with txReplaced := satInc 32 c.txReplaced }
    | .active => put { m with next := some data })

/-- A controller switches off: every mailbox is cleared (R467). -/
def CanCtl.off (c : CanCtl) : CanCtl := { c with running := false, onBus := false, mbs := List.replicate 32 {}, busOff := false, errPassive := false, tec := 0, recv := 0 }

/-- Both controllers off; or on where the image enables the port, to join after bus integration (R467). -/
def canOff (s : State) : State := s |> onCan fun c => { c with c1 := c.c1.off, c2 := c.c2.off }
def canOn (s : State) : State :=
  s |> onCan fun c => { c with c1 := if s.cfg.can.p1.en then { c.c1.off with running := true } else c.c1
                               c2 := if s.cfg.can.p2.en then { c.c2.off with running := true } else c.c2 }

/-! ### Safe stop and fault decisions (R42, R375, R387, R388) -/

/-- A real demand that reaches output `i` during its test pulse aborts the pulse, which is retried later (R395). -/
def abortPulse (i : Nat) (s : State) : State :=
  match s.prot.pulse with
  | some (k, _) =>
    if k = i then s |> onProt fun p => { p with pulse := none, tests := updAt (fun t => { t with aborts := satInc 32 t.aborts, retry := true }) p.tests i }
    else s
  | none => s

/-- SAFE_OUT_A and SAFE_OUT_B open. -/
def openSafeOut (s : State) : State := s |> onProt (fun p => { p with safeOut := false }) |> abortPulse 0 |> abortPulse 1

/-- IMD_OK opens. -/
def openImd (s : State) : State := s |> onProt (fun p => { p with imdOk := false }) |> abortPulse 2

/-- Contactor 0 main +, 1 main −, 2 precharge, and its change. -/
def contAt (s : State) (k : Nat) : Contactor := match k with | 0 => s.cont.c0 | 1 => s.cont.c1 | _ => s.cont.c2
def onContactor (k : Nat) (g : Contactor → Contactor) (s : State) : State :=
  s |> onCont fun c => match k with
    | 0 => { c with c0 := g c.c0 }
    | 1 => { c with c1 := g c.c1 }
    | _ => { c with c2 := g c.c2 }

/-- A coil drive off: the contactor opens (R391, R409). -/
def Contactor.drop (now : Nat) (c : Contactor) : Contactor :=
  if c.coil then { c with coil := false, since := now, state := if c.state = 4 then 4 else 3, coilMa := 0, coilSum := 0, coilN := 0, badFrames := 0, hsOk := true } else c
def coilOff (k : Nat) (s : State) : State := s |> onContactor k (Contactor.drop s.tick.now) |> abortPulse (3 + k)

/-- Every coil drive off; a precharge or opening sequence ends. -/
def coilsOff (s : State) : State :=
  coilOff 0 (coilOff 1 (coilOff 2 s)) |> onCont fun c => { c with step := .idle, opening := 0, windowRun := 0 }

/-- A coil drive on: pull-in (R391). -/
def coilOn (k : Nat) (s : State) : State :=
  s |> onContactor k fun c => if c.coil then c else
    { c with coil := true, since := s.tick.now, state := if c.state = 4 then 4 else 1, wasClosed := c.aux, badFrames := 0, hsOk := true }

/-- All six gate-link ports send SAFE_OFF from the next frame (R327); a dark port of a
module that drives none stays dark, and the fast frames of a comparator trip go on. -/
def gateSafeOff (s : State) : State :=
  s |> onPins fun p => { p with gate := p.gate.map fun g => if g = .dark || g = .fastSafeOff then g else .safeOff }

/-- A loop slot that does not run: its states, output and status cleared. -/
def Slot.halt (x : Slot) : Slot :=
  { x with
    xi := 0, xd := 0, ePrev := 0, ref := 0, y := 0, started := false, enabled := false, softStart := false
    satHi := false, satLo := false, intHeld := false, dutyClamp := false, ffBus := false, ffSlope := false }

/-- Loop slots 0 to 5 stop: states cleared, not started (R387, R311). -/
def stopSlots (s : State) : State :=
  s |> onCnv fun c => { c with
    slots := mapI (fun i (x : Slot) => if i < 6 then x.halt else x) c.slots
    phases := c.phases.map fun p => { p with ref := 0, refPrev := 0, st := if p.st = .tripped then .tripped else .disabled, lowTicks := 0 }
    regulating := false, slot5On := false, mode := none, y3 := 0, y3Next := 0, y4 := 0, modeNext := none, phaseClamp := false }

/-- A safe stop begins, or a running one is joined (R387, R388). `trip` marks a PCS trip. -/
def safeStop (trip : Bool) (s : State) : State :=
  let s1 := if trip then openSafeOut s else s
  match s1.prot.stop with
  | some _ => s1
  | none =>
    s1 |> stopSlots |> gateSafeOff
      |> onDsp (fun d => { d with ref := 0 })
      |> onProt (fun p => { p with stop := some { start := s.tick.now, lowWords := 0 }, stopCnt := satInc 32 p.stopCnt })
      |> onStr (fun x => { x with faultStopDone := false })

/-- The trip copy for the PCS in mailbox 0 (R469): what it carries is formed from the newest cause. -/
def tripNote (fn code : Nat) (s : State) : State :=
  s |> onCan fun c => { c with tripFn := fn, tripCause := code, tripTime := s.tb.time / 1000000 % 4294967296 }

/-- A latched or active cause trips the PCS (R393, R410). -/
def tripLatched (s : State) : Bool := s.str.causes.any (·.trip)

/-- The trip copy is written to mailbox 0 of its port (R469). -/
def writeTripCopy (s : State) : State :=
  let data := u8 (b2n (tripLatched s)) ++ u8 s.can.tripFn ++ u16 s.can.tripCause ++ u32 s.can.tripTime
  let s1 := s |> onCan fun c => { c with copyAt := s.tick.now }
  if s.cfg.can.tripPort < 2 then s1 |> onCtl s.cfg.can.tripPort (fun c => c.write 0 s.cfg.can.tripId data) else s1

/-- The PCS-trip causes have been cleared: no function and no cause is the newest, and the copy says so (R469). -/
def tripCleared (s : State) : State := s |> onCan (fun c => { c with tripFn := 0, tripCause := 0, tripTime := 0 }) |> writeTripCopy

/-- A latched cause is entered: a cause already latched keeps its place and becomes active again, at the higher class. -/
def latchCause (c : LatchedCause) (l : List LatchedCause) : List LatchedCause :=
  if l.any (fun x => x.code = c.code) then
    l.map fun x => if x.code = c.code then { x with cls := max x.cls c.cls, trip := x.trip || c.trip, active := true } else x
  else l ++ [c]

/-- The class 2 latch of the identity region (R147). -/
def latchClass2 (code cls : Nat) (s : State) : State :=
  if cls = 2 && !(s.idn.class2.contains code) then s |> onIdn fun i => { i with class2 := i.class2 ++ [code] } else s

/-- The safety core decides FAULT with a cause (R35, R42, R387): the cause is latched with its clear class, the safe
stop runs, and the string enters FAULT at once (R37) from any state of R35. -/
def decideFault (code cls : Nat) (trip : Bool) (fn : Nat) (s : State) : State :=
  let s1 := s |> onStr (fun x => { x with causes := latchCause { code := code, cls := cls, trip := trip, fn := fn } x.causes })
    |> latchClass2 code cls
  let s2 := if trip then tripNote fn code s1 else s1
  let s3 := if trip then writeTripCopy (safeStop trip s2) else safeStop trip s2
  if faultable s3.str.state then setState .fault code s3 else s3

/-- A cause stops being active (R43). -/
def deactivate (code : Nat) (s : State) : State :=
  s |> onStr fun x => { x with causes := x.causes.map fun c => if c.code = code then { c with active := false } else c }

/-! ### Safety-function demands (R378, R379, R559) -/

/-- Functions whose third demand within 24 h takes clear class 1 (R379). -/
def countsTo24h (fn : Nat) : Bool := fn = 1 || fn = 2 || fn = 3 || fn = 5

/-- The record, counters and last-demand time of a demand (R378, R409, R559). -/
def demandRecord (fn cause item : Nat) (value : Int) (limit : Option Int) (s : State) : State :=
  s |> onProt (fun p => { p with
      demand := setAt p.demand (fn - 1) true
      demandCnt := updAt (satInc 32) p.demandCnt (fn - 1)
      lastDemand := setAt p.lastDemand (fn - 1) (some s.tb.time)
      history := if countsTo24h fn then p.history ++ [(fn, s.tb.time)] else p.history })
    |> log srcSafety (0x0A00 + fn) 3 (u16 cause ++ u16 item ++ i32 value ++ i32 (optI 32 limit))

/-- Demands of function `fn` within the last 24 h of plant time (R379). -/
def recentDemands (fn : Nat) (s : State) : Nat :=
  (s.prot.history.filter fun h => decide (h.1 = fn) && decide (s.tb.time - h.2 < secNs 86400)).length

/-- A demand of a safety function: its record, then the FAULT decision with its clear class (R378, R379). -/
def sfDemand (fn cause cls : Nat) (trip : Bool) (item : Nat) (value : Int) (limit : Option Int) (s : State) : State :=
  let s1 := demandRecord fn cause item value limit s
  let cls' := if countsTo24h fn && decide (3 ≤ recentDemands fn s1) then 1 else cls
  decideFault cause cls' trip fn s1

/-- A demand of this function with this cause is latched and still active. -/
def demandActive (code : Nat) (s : State) : Bool := s.str.causes.any fun c => c.code = code && c.active

/-- A function's demand is present no longer (R409 value 1). -/
def demandOver (fn : Nat) (s : State) : State := s |> onProt fun p => { p with demand := setAt p.demand (fn - 1) false }

/-! ### Synchronization states (R106, R107) -/

/-- Encoding of `SYNC_STATE`. -/
def SyncState.code : SyncState → Nat
  | .freeRun => 0 | .acquiring => 1 | .locked => 2 | .holdover => 3 | .pairFollow => 4

/-- `FREQ_ADJ` of a correction in ppb, clamped to its 24 bits (R103, R113). -/
def freqWord (s : State) (y : Rat) : Int := clampI (-8388608) 8388607 (roundAway ((y + s.idn.trimPpb) * 10000 / 72))

/-- The pull on entering a state (R106): FREE_RUN leaves the reference undisciplined, HOLDOVER from LOCKED holds the averaged
pull, and a standby that takes over keeps its own (R124). How the pull is averaged is open (assumption 3). -/
def pullOn (o n : SyncState) (s : State) : Int :=
  match o, n with
  | _, .freeRun => freqWord s 0
  | .locked, .holdover => clampI (-8388608) 8388607 (Config.averagedPull s.tb.time s.tb.freqAdj)
  | _, _ => s.tb.freqAdj

/-- A change of synchronization state with its record; entering a state starts what runs from it (R107). A module that stops
following a grandmaster selects one anew. -/
def setSync (n : SyncState) (s : State) : State :=
  let o := s.tb.sync
  if o = n then s
  else
    s |> onTb (fun t => { t with
        sync := n, goodSyncs := 0, slewing := if n = .freeRun || n = .holdover then false else t.slewing, freqAdj := pullOn o n s
        gm := if n = .pairFollow then none else t.gm, pendingSync := if n = .pairFollow then none else t.pendingSync
        holdoverSince := if n = .holdover then s.tick.now else t.holdoverSince
        unusableSince := if n = .acquiring then some s.tick.now else t.unusableSince
        timeValid := if n = .locked then true else t.timeValid
        holdoverExpired := if n = .locked then false else t.holdoverExpired })
      |> log srcComm 0x1030 (if o = .locked || n = .locked then 2 else 1) (u16 o.code ++ u16 n.code)

/-! ### Mirror frames (R415) -/

/-- A launch queue: 0 ETH1, 1 ETH2, 2 pair link. -/
def queueAt (s : State) (q : Nat) : List LaunchEntry := match q with | 0 => s.tb.q0 | 1 => s.tb.q1 | _ => s.tb.q2
def onQueue (q : Nat) (g : List LaunchEntry → List LaunchEntry) (s : State) : State :=
  s |> onTb fun t => match q with
    | 0 => { t with q0 := g t.q0 }
    | 1 => { t with q1 := g t.q1 }
    | _ => { t with q2 := g t.q2 }

/-- How long before a launch a MAC starts no untimed frame, ns: the guard band, and ahead of it the wake of a link whose EEE the
image enables, which idles in low power between frames (R120, assumption 61). -/
def quietNs (s : State) (q : Nat) : Nat :=
  let eee := decide (q < 2) && bitAt s.cfg.net.eeeEn q
  if q = 1 then 123400 + (if eee then 30000 else 0) else 12340 + (if eee then 16500 else 0)

/-- A launch of this MAC is so near that an untimed frame waits for it (R120). -/
def quiet (s : State) (q : Nat) : Bool := (queueAt s q).any fun e => decide (e.at_ ≤ s.tb.time + quietNs s q)

/-- An untimed frame waits on a MAC. -/
def holdFrame (q : Nat) (f : TxFrame) (s : State) : State := s |> onOut fun o => { o with held := o.held ++ [(q, f)] }

/-- A mirror frame leaves on the pair link: HELLO to the broadcast address, every other to the partner. -/
def emitMirror (mtype mtick : Nat) (payload : Bytes) (s : State) : State :=
  let seq := (s.pair.mseqTx + 1) % 4294967296
  let dst := if mtype = 5 then some (List.replicate 6 0xFF) else s.pair.partnerMac
  match dst with
  | none => s
  | some d =>
    if !s.pins.sfpUp then s
    else
      let b := u8 mtype ++ u8 s.cfg.small.member ++ u16 1 ++ u32 seq ++ u64 mtick ++ u16 payload.length ++ u8 (roleCode s) ++ u8 s.str.state.code ++ payload
      s |> onPair (fun p => { p with mseqTx := seq })
        |> onOut fun o => { o with mirror := o.mirror ++ [{ mtype := mtype, mseq := seq, dst := d, frame := b ++ u32 (crc32c b) }] }

/-- An untimed mirror frame: at once, or after the launch whose guard band it meets (R120, R416). -/
def sendMirror (mtype mtick : Nat) (payload : Bytes) (s : State) : State :=
  if quiet s 2 then holdFrame 2 (.mirror mtype mtick payload) s else emitMirror mtype mtick payload s

/-! ### Giving up (R420 to R422) -/

/-- An admitted partner stands by. -/
def partnerAdmitted (s : State) : Bool := s.pair.partner = .admitted

/-- Outputs as R131 gives them where the loops do not run: PWM off, AO at 0 V, at high impedance on a STANDBY_PAIR module. -/
def thermOff (s : State) : State :=
  s |> onThm (fun t => { t with
      pwm := List.replicate 4 0, ao := List.replicate 2 0, aoHiZ := isSp s, demand := 0, loopsRun := false
      slots := if isSp s then t.slots else t.slots.map fun x => { x with out := 0 } })
    |> onCnv (fun c => { c with slots := mapI (fun i x => if i < 6 || isSp s then x else { x with started := false, enabled := false }) c.slots })

/-- An owner releases every output without a safe stop, and is STANDBY_PAIR, not admitted (R414, R422); the string state does not
change. -/
def releaseOwnership (s : State) : State :=
  s |> onPins (fun p => { p with gate := List.replicate 6 .dark, sklTx := false })
    |> coilsOff |> openSafeOut |> openImd
    |> onPair (fun p => { p with ownOut := false, partner := .identity })
    |> onStr (fun x => { x with role := some .standbyPair, mirrored := true })
    |> onProt (fun p => { p with stop := none }) |> thermOff |> canOff |> setSync .pairFollow

/-- The owner gives up: its release with PAIR_GIVE_UP, and the cause held as a local fault (R422). -/
def giveUp (code : Nat) (s : State) : State :=
  releaseOwnership s |> onPair (fun p => { p with givenUp := true, giveUpCause := code, localFault := true })
    |> log srcSafety 0x0B05 3 (u16 code)

/-- A trial fails during its 600 s (R545): the slot is REJECTED, and the next Dawn boots the ACTIVE slot with reason 9. -/
def trialFails (s : State) : State :=
  match s.upd.confirmFrom with
  | none => s
  | some _ =>
    let k := s.upd.running
    s |> onUpd (fun u => { u with
        confirmFrom := none, failNext := true, lastReject := some (k, 7)
        slotA := if k = 0 then { u.slotA with st := 6 } else u.slotA
        slotB := if k = 0 then u.slotB else { u.slotB with st := 6 } })
      |> log srcApp3 0x1206 3 (u8 k ++ u8 7)

/-! ### A standby's own faults (R428, R429) -/

/-- Causes of an admission restart as the record carries them. -/
def causeMissed : Nat := 1
def causeMcrc : Nat := 2
def causeGap : Nat := 3
def causeSegment : Nat := 4
def causeLocal : Nat := 5

/-- The admission restarts at step 3 (R428): the step in which the fault came, and its cause. -/
def admissionRestart (cause : Nat) (s : State) : State :=
  let step := match s.pair.partner with | .heartbeats => 4 | .admitted => 4 | _ => 3
  s |> onPair (fun p => { p with partner := .images, imagesInStep := 0, segsRx := [], imgSeqRx := none, cleanMs := 0, step4Since := none, misses := 0, lastSegAt := s.tick.now })
    |> log srcComm 0x0B0A 1 (u16 step ++ u16 cause)

/-- A standby decides no FAULT, since the string is the owner's (R41, R377): it holds a fault of its own as a local fault, loses
its admission or restarts it, and is back at Noon (R40, R429). -/
def standbyFault (s : State) : State :=
  let s1 := s |> onPair fun p => { p with localFault := true }
  let s2 := if s.pair.partner = .images || s.pair.partner = .heartbeats || s.pair.partner = .admitted then admissionRestart causeLocal s1 else s1
  if s2.lad.rung = 1 then (let t := leaveAfternoon s2; ringNotes (wakeNotes s2 t) t) else s2

/-- A fault of the module's own hardware that is no module fault of R420: FAULT, or a standby's local fault. -/
def hardwareFault (code cls : Nat) (s : State) : State :=
  if isSp s then standbyFault (latchClass2 code cls s) else decideFault code cls false 0 s

/-- A module fault (R420): with an admitted partner the owner gives up, otherwise the rule's own safe stop and FAULT; on a
standby it is a local fault. -/
def moduleFault (code cls : Nat) (s0 : State) : State :=
  let s := trialFails s0
  if s.str.role = some .active && partnerAdmitted s then giveUp code s else hardwareFault code cls s

/-! ### Twilight causes (R45, R399) -/

/-- A Twilight cause is raised: armed and logged, and in RUN the state of a module that runs the state machine follows at
tick 16 (R35, R38, R41). -/
def raiseTw (bit : Nat) (s : State) : State :=
  if nth true s.prot.twilight bit then s
  else
    s |> onProt (fun p => { p with twilight := setAt p.twilight bit true })
      |> onStr (fun x => { x with unarmedSince := none, triggers := if x.state = .run && !(isSp s) then x.triggers ++ [.twilightRaised] else x.triggers })
      |> log srcSafety 0x0A50 2 (u16 bit)

/-- A Twilight cause clears (R399); the time without any runs from the last to clear (R44). -/
def clearTw (bit : Nat) (s : State) : State :=
  if nth false s.prot.twilight bit then
    let s1 := s |> onProt (fun p => { p with twilight := setAt p.twilight bit false })
    let s2 := if twArmed s1 then s1 else s1 |> onStr fun x => { x with unarmedSince := some s.tick.now }
    log srcSafety 0x0A51 1 (u16 bit) s2
  else s

/-- Raise or clear by a condition. -/
def setTw (bit : Nat) (cond : Bool) (s : State) : State := if cond then raiseTw bit s else clearTw bit s

/-! ### Runs of the scan items (R31, R399 bit 2) -/

/-- A run of scan item 0x20 + `k` enters its history; ten on time in a row release the item's hold on Twilight bit 2. -/
def recordRun (k : Nat) (onTime : Bool) (s : State) : State :=
  let h := (onTime :: nth [] s.tick.runs k).take 10
  let late := (h.filter fun b => !b).length
  let s1 := s |> onTick fun t => { t with
    runs := setAt t.runs k h
    overrunTw := setAt t.overrunTw k (decide (5 ≤ late) || (nth false t.overrunTw k && !(h.length = 10 && late = 0))) }
  setTw 2 (s1.tick.overrunTw.any id) s1

/-- A run completes: one whose deadline has passed is counted already, any other was on time. -/
def runDone (k : Nat) (s : State) : State :=
  if nth false s.tick.late k then s |> onTick fun t => { t with late := setAt t.late k false } else recordRun k true s

/-- A run falls due; while a late run of the same item is incomplete it is skipped and counted. -/
def runDue (k : Nat) (s : State) : State :=
  if nth false s.tick.late k then s |> onTick fun t => { t with skipped := updAt (satInc 32) t.skipped k } else s

/-! ### Answers to the host (R437 to R443, R456) -/

/-- Session of a number. -/
def findSession (s : State) (id : Nat) : Option Session :=
  (s.host.sessions.filterMap fun o => o).find? fun x => x.id = id

/-- Change the session of a number. -/
def onSession (id : Nat) (g : Session → Session) (s : State) : State :=
  s |> onHost fun h => { h with sessions := h.sessions.map fun o => o.map fun x => if x.id = id then g x else x }

/-- Index of a session in `SESSION_TABLE`, for its notification ring (R455). -/
def sessionIdx (s : State) (id : Nat) : Option Nat := s.host.sessions.findIdx? fun o => match o with | some x => x.id = id | none => false

/-- Intake ring of a command code (R456). -/
def intakeRing (code : Nat) : Nat :=
  if code = 0x0104 || (0x0400 ≤ code && code ≤ 0x04FF) then 2
  else if 0x0105 ≤ code then 0 else 1

/-- Header and payload of a datagram (R437). -/
def Dgram.body (d : Dgram) : Bytes :=
  u32 0x5053564B ++ u8 1 ++ u8 d.kind ++ u16 d.session ++ u32 d.seq ++ u16 d.code ++ u8 d.status ++ u8 d.flags
    ++ u16 d.payload.length ++ u8 d.frag ++ u8 d.fragN ++ u32 d.rtime ++ d.payload

/-- The tag of a datagram under a session key; 16 bytes of 0 without one (R439). -/
def Dgram.tagged (d : Dgram) (key : Bytes) : Dgram :=
  { d with tag := if key = [] then List.replicate 16 0 else fixLen 16 (Config.hmacSha256 key d.body) }

/-- A payload cut into pieces of 1,400 bytes, at least one (R439). -/
def fragments : Nat → Bytes → List Bytes
  | 0, _ => []
  | n + 1, b => if b.length ≤ 1400 then [b] else b.take 1400 :: fragments n (b.drop 1400)

/-- A datagram stands on its port: Ethernet, or the service port as one COBS frame (R552). -/
def emitDgram (d : Dgram) (s : State) : State :=
  s |> onOut fun o => { o with
    host := o.host ++ [d], usb := if d.port = 2 then o.usb ++ [cobsFrame (d.body ++ d.tag)] else o.usb }

/-- A response leaves through its ring, which the MAC or the USB device (ring 57) empties at once, but for the guard band of a
launch (R120). -/
def sendDgram (ring : Nat) (d : Dgram) (s : State) : State :=
  let n := if d.port = 2 then 57 else ring
  let s1 := ringPut n (mkPacket 1 (d.body ++ d.tag)) s
  if d.port < 2 ∧ quiet s d.port = true then holdFrame d.port (.response n d) s1 else s1 |> ringRel n |> emitDgram d

/-- The datagrams of a response to a request (R437, R439, R442): fragments with one SEQ, each with its own tag. -/
def responseDgrams (s : State) (r : HostReq) (status : Nat) (payload : Bytes) : List Dgram :=
  let key := match findSession s r.session with | some x => x.key | none => []
  let fr := fragments 6 (payload.take 8192)
  let flags := if 128 ≤ (ringAt s (if r.port = 2 then 56 else intakeRing r.code)).fillPkts then 4 else 0
  mapI (fun i p => Dgram.tagged
    { port := r.port, addr := r.addr, udp := r.udp, kind := 2, session := r.session, seq := r.seq, code := r.code
      status := status, flags := flags, frag := i, fragN := fr.length, rtime := timeNs s, payload := p } key) fr

/-- `HOST_CNT` of a status: AUTH, INTEGRITY and OVERLOAD answers are counted (R461). -/
def countStatus (status : Nat) (s : State) : State :=
  let bump := fun (k : Nat) => s |> onHost fun h => { h with cnt := updAt (satInc 32) h.cnt k }
  if status = 5 then bump 1 else if status = 11 then bump 2 else if status = 9 then bump 3 else s

/-- Bytes a cached response takes. -/
def cachedSize (c : List Dgram) (seq : Nat) : Nat :=
  ((c.filter fun d => d.seq = seq).map fun d => 40 + d.payload.length).foldl (· + ·) 0

/-- Of the responses, newest first, those that stay: 16 at most, and 32 KiB in all (R442). -/
def cacheKeep (c : List Dgram) : Nat → Nat → List Nat → List Nat
  | _, _, [] => []
  | 0, _, _ => []
  | n + 1, room, q :: qs => if cachedSize c q ≤ room then q :: cacheKeep c n (room - cachedSize c q) qs else []

/-- An answer that no session keeps (R439, R442). -/
def answerOnce (r : HostReq) (status : Nat) (payload : Bytes) (s : State) : State :=
  (responseDgrams s r status payload).foldl (fun t d => sendDgram (4 + intakeRing r.code) d t) (countStatus status s)

/-- A response goes out: sent, kept in the session's cache, and its request waits no longer (R442, R457). -/
def respond (r : HostReq) (status : Nat) (payload : Bytes) (s : State) : State :=
  let ds := responseDgrams s r status payload
  let s1 := answerOnce r status payload s
  if r.session = 0 then s1
  else s1 |> onSession r.session fun x =>
    let c := (x.cache.filter fun d => d.seq ≠ r.seq) ++ ds
    let keep := cacheKeep c 16 32768 ((c.map (·.seq)).reverse.eraseDups)
    { x with waiting := x.waiting.filter (· ≠ r.seq), cache := c.filter fun d => keep.contains d.seq }

/-! ### Notifications (R454, R455) -/

/-- The launch queue of a session's port. -/
def portQueue (s : State) (port : Nat) : List LaunchEntry := if port = 1 then s.tb.q1 else s.tb.q0
def onPortQueue (port : Nat) (g : List LaunchEntry → List LaunchEntry) (s : State) : State :=
  s |> onTb fun t => if port = 1 then { t with q1 := g t.q1 } else { t with q0 := g t.q0 }

/-- A queued notification leaves its session's ring: `LOST_N` and `LOST` carry the losses before it (R455). -/
def leaveNote (id : Nat) (d : Dgram) (s : State) : State :=
  match findSession s id with
  | none => s
  | some x =>
    let d1 := Dgram.tagged { d with payload := u32 x.lost ++ d.payload, flags := if x.lost = 0 then 0 else 2 } x.key
    s |> onSession id (fun y => { y with lost := 0 }) |> ringRel (8 + (sessionIdx s id).getD 0)
      |> emitDgram d1 |> onHost fun h => { h with cnt := updAt (satInc 32) h.cnt 5 }

/-- A notification is lost: counted for the next that leaves, and logged at most once per 60 s (R455). -/
def loseNote (id : Nat) (s : State) : State :=
  match findSession s id with
  | none => s
  | some x =>
    let g := LogGate.pass { count := x.lostSince, at_ := x.lostLogAt } s
    let s1 := s |> onSession id (fun y => { y with lost := y.lost + 1, lostSince := g.2.2.count, lostLogAt := g.2.2.at_ })
      |> onHost (fun h => { h with cnt := updAt (satInc 32) h.cnt 6 })
    if g.1 then log srcComm 0x0C06 1 (u16 id ++ u32 g.2.1) s1 else s1

/-- An untimed notification leaves, after the launch whose guard band it meets (R120). -/
def leaveUntimed (id : Nat) (d : Dgram) (s : State) : State :=
  if d.port < 2 ∧ quiet s d.port = true then holdFrame d.port (.notify id d) s else leaveNote id d s

/-- A notification of a code for a session (R454, R455): numbered and put into its ring when that holds fewer than 64,
else lost. An untimed one leaves at once unless older ones wait, and then behind them; a timed one waits in its port's launch
queue, and one that finds the queue full leaves untimed (R120). -/
def notify (id code : Nat) (launch : Option Nat) (body : Bytes) (s : State) : State :=
  match findSession s id with
  | none => s
  | some x =>
    let ring := 8 + (sessionIdx s id).getD 0
    if 64 ≤ (ringAt s ring).fillPkts then loseNote id s
    else
      let d : Dgram := { port := x.port, addr := x.addr, udp := x.udp, kind := 3, session := id, seq := x.noteSeq + 1
                         code := code, status := 0, flags := 0, payload := body }
      let waiting := (ringAt s ring).fillPkts
      let s1 := s |> onSession id (fun y => { y with noteSeq := y.noteSeq + 1 }) |> ringPut ring (mkPacket 2 body)
      let q := portQueue s x.port
      match launch, waiting, q.getLast? with
      | some t, _, _ => if q.length < 32 then s1 |> onPortQueue x.port (fun l => l ++ [{ at_ := t, frame := .notify id d }]) else leaveUntimed id d s1
      | none, 0, _ => leaveUntimed id d s1
      | none, _, some e => if q.length < 32 then s1 |> onPortQueue x.port (fun l => l ++ [{ at_ := e.at_, frame := .notify id d }]) else leaveUntimed id d s1
      | none, _, none => holdFrame x.port (.notify id d) s1

/-- Status codes of R13. -/
def stOk : Nat := 0
def stBusy : Nat := 1
def stNotReady : Nat := 2
def stState : Nat := 3
def stRange : Nat := 4
def stAuth : Nat := 5
def stUnknown : Nat := 6
def stSuspended : Nat := 7
def stCancelled : Nat := 8
def stOverload : Nat := 9
def stFault : Nat := 10
def stIntegrity : Nat := 11

/-- Rank of a status in the order of R14. -/
def statusRank (c : Nat) : Nat :=
  match c with
  | 5 => 0 | 6 => 1 | 4 => 2 | 3 => 3 | 10 => 4 | 11 => 5 | 1 => 6 | 9 => 7 | 2 => 8 | 7 => 9 | 8 => 10 | _ => 11

/-- The status that applies first (R14). -/
def firstStatus (a b : Nat) : Nat := if statusRank b < statusRank a then b else a

/-- A command refused for its state or role: status STATE, no side effect, CMD_STATE_REFUSED (R46). -/
def refuseState (r : HostReq) (s : State) : State :=
  s |> log srcComm 0x0CF0 1 (u16 r.code ++ u8 s.str.state.code ++ u8 (roleCode s)) |> respond r stState []

/-! ### Long operations (R15, R450 to R453) -/

/-- The next handle after `h` that is not in use (R15). -/
def nextHandleGo (used : List Nat) : Nat → Nat → Nat
  | 0, h => h
  | f + 1, h => let n := if 65535 ≤ h then 1 else h + 1; if used.contains n then nextHandleGo used f n else n
def nextHandle (s : State) : Nat := nextHandleGo (s.ops.ops.map (·.handle)) (s.ops.ops.length + 1) s.ops.lastHandle

/-- The result of a slot at its creation: every field of R453, R511 and R556 at its sentinel, the padding 0 (R8, R451). A
byte field reads 0xFF. -/
def blankResult (kind : Nat) : Bytes :=
  let no8 : Bytes := u8 0xFF
  let no16 : Bytes := u16 0xFFFF
  let no32 : Bytes := u32 0xFFFFFFFF
  let noI : Bytes := i32 (-2147483648)
  fixLen 36 (match kind with
    | 1 => no8 ++ no8 ++ no16 ++ no16
    | 2 => no8 ++ no8 ++ u16 0 ++ noI ++ no32 ++ noI ++ noI ++ no32
    | 3 => no8 ++ no8 ++ no8 ++ no8
    | 4 => no8 ++ u8 0 ++ no16
    | 5 => no32 ++ no32 ++ no32
    | 6 => no32 ++ no32 ++ no32 ++ no32 ++ no32
    | 7 => no32 ++ no8 ++ no8 ++ no16 ++ no16 ++ no16 ++ no32 ++ no32
    | _ => [])

/-- An operation of a kind starts for a session, with the result its slot holds at creation (R450, R451). -/
def createOp (kind session : Nat) (s : State) : State :=
  let h := nextHandle s
  s |> onOps fun q => { q with lastHandle := h, ops := q.ops ++
    [{ handle := h, kind := kind, start := s.tb.time, session := session, result := blankResult kind }] }

/-! ### Sessions end (R443) -/

/-- What a session leaves: its slot, its subscription and ring, its bulk claims, its log freeze and its export. -/
def endSession (id cause : Nat) (s : State) : State :=
  match findSession s id with
  | none => s
  | some was =>
    let idx := (sessionIdx s id).getD 0
    let s1 := s |> onHost (fun h => { h with
        sessions := h.sessions.map fun o => match o with | some x => if x.id = id then none else some x | none => none
        bulk1 := if h.bulk1.owner = id then {} else h.bulk1
        bulk2 := if h.bulk2.owner = id then {} else h.bulk2 })
      |> onTb (fun t =>
        let keep := fun (l : List LaunchEntry) => l.filter fun e => match e.frame with | .notify x _ => x ≠ id | _ => true
        { t with q0 := keep t.q0, q1 := keep t.q1 })
      |> onOut (fun o => { o with held := o.held.filter fun e => match e.2 with | .notify x _ => x ≠ id | _ => true })
      |> onRing (8 + idx) (fun r => { r with rd := r.wr, pktRd := r.pktWr, pkts := [], wrShadow := r.wr, high := false })
    let s0 := if was.state = 2 then log srcComm 0x0C02 0 (u16 id ++ u16 cause) s1 else s1
    let s2 := if s0.rcd.freezeSession = id then thawLog 1 s0 else s0
    match findOp s2 6 with
    | some o => if o.session = id then (let res := opResultNow s2 o stCancelled; s2 |> closeOp 6 stCancelled |> endOp 6 stCancelled res) else s2
    | none => s2

/-- Every session ends with a cause. -/
def endAllSessions (cause : Nat) (s : State) : State :=
  (s.host.sessions.filterMap fun o => o).foldl (fun t x => endSession x.id cause t) s

/-! ### A new Dawn (R35, R128, R130) -/

/-- Records not yet taken from the intake rings are carried to ring 47's Dawn intake, and the write buffer is
written (assumption 15). -/
def carriedIntake (s : State) : List Intake :=
  ((s.rings.rings.drop 40).take 8).flatMap fun r => r.pkts.filterMap fun p => if p.poison then none else some (Intake.decode p.bytes)

/-- The oldest record of severity at most `sev` leaves a full region; none if there is no such record (R503). -/
def evict (sev : Nat) : List Rec → Option (List Rec)
  | [] => none
  | r :: rs => if r.sev ≤ sev then some rs else (evict sev rs).map fun l => r :: l

/-- A record enters its region (R503). -/
def storeRecord (r : Rec) (s : State) : State :=
  let put := fun (cap : Nat) (l : List Rec) => if l.length < cap then some (l ++ [r]) else (evict r.sev l).map fun l => l ++ [r]
  if r.sev = 3 then
    match put 262144 s.rcd.safety with
    | some l => s |> onRcd fun c => { c with safety := l }
    | none => s |> onRcd fun c => { c with dropCnt := satInc 32 c.dropCnt, dropped := true }
  else
    match put 1835008 s.rcd.shared with
    | some l => s |> onRcd fun c => { c with shared := l }
    | none => s |> onRcd fun c => { c with dropCnt := satInc 32 c.dropCnt, dropped := true }

/-- Closed records and the open one, as flash takes them at a Dawn: as deferred records where Night retained them (R530). -/
def bufferedRecords (s : State) : List Rec :=
  (s.rcd.buffer.map (·.1) ++ (match s.rcd.openRec with | some (r, _) => [r] | none => [])).map fun r =>
    if s.lad.retained then { r with deferred := true } else r

/-- The write buffer goes to flash. -/
def flushBuffer (s : State) : State :=
  (bufferedRecords s).foldl (fun t r => storeRecord r t) (s |> onRcd fun c => { c with buffer := [], openRec := none })

/-- How long the dip has lasted, ns. -/
def dipTime (s : State) : Nat := s.pwr.dipAge + sinceNs s s.pwr.dipStart

/-- What a module does before a Dawn resets it: a Dawn of reason 7 or 8 during the 600 s of a trial fails the trial (R545), the
transition to DAWN is logged (R51), sessions end and the write buffer goes to flash. -/
def beforeDawn (reason : Nat) (s : State) : State :=
  let s1 := if reason = 7 || reason = 8 then trialFails s else s
  let s2 := if inDawn s1 then s1 else log srcSafety 0x0AF0 1 (u8 s1.str.state.code ++ u8 StringState.dawn.code ++ u16 0) s1
  flushBuffer (endAllSessions 4 s2)

/-- The state with which step D0 starts: reset values, and everything kept in flash, fuses, AON and at the pins, and what
has left the module. -/
def newDawn (reason : Nat) (s0 : State) : State :=
  let s := beforeDawn reason s0
  let r := State.reset
  { r with
    fresh := s.fresh
    pending := s.pending
    idn := { s.idn with dawnCnt := (s.idn.dawnCnt + 1) % 4294967296, cal := s.idn.calNext }
    met := { r.met with cal := s.idn.calNext }
    str := { r.str with causes := s.idn.class2.map fun c => { code := c, cls := 2, trip := false, active := false, fn := 0 }, entryTime := s.tb.time }
    pins := { r.pins with plugDet := s.pins.plugDet, pairCable := s.pins.pairCable, trstDriven := s.pins.trstDriven, resetLow := s.pins.resetLow
                          eth1Up := s.pins.eth1Up, eth2Up := s.pins.eth2Up, sfpUp := s.pins.sfpUp, plugWritten := s.pins.plugWritten }
    pwr := { r.pwr with dipCnt := s.pwr.dipCnt, railFault := s.pwr.railFault, j1High := s.pwr.j1High, j1Ok := s.pwr.j1Ok, auxOv := s.pwr.auxOv
                        stage := s.pwr.stage, dipAge := dipTime s, lostAtOnce := s.pwr.lostAtOnce, returned := s.pwr.returned }
    dawn := { r.dawn with reason := reason, deferred := s.dawn.deferred, carried := s.dawn.carried ++ carriedIntake s }
    tb := { r.tb with time := s.tb.time, rtc := s.tb.rtc, rtcPpb := s.tb.rtcPpb, freqAdj := freqWord s 0, sent := s.tb.sent,
                      untimed := s.tb.untimed }
    jrn := { s.jrn with writing := none, mounted := false, dirty := none, rebase := false, periodicAt := 0 }
    cont := { r.cont with ops0 := s.cont.ops0, ops1 := s.cont.ops1, ops2 := s.cont.ops2, breaks0 := s.cont.breaks0, breaks1 := s.cont.breaks1
                          breaks2 := s.cont.breaks2, breakMax0 := s.cont.breakMax0, breakMax1 := s.cont.breakMax1, breakMax2 := s.cont.breakMax2
                          c0 := { r.cont.c0 with aux := s.cont.c0.aux }, c1 := { r.cont.c1 with aux := s.cont.c1.aux }, c2 := { r.cont.c2 with aux := s.cont.c2.aux } }
    prot := { r.prot with demandCnt := s.prot.demandCnt, lastDemand := s.prot.lastDemand, history := s.prot.history }
    pair := { r.pair with failoverCnt := s.pair.failoverCnt, failoverLast := s.pair.failoverLast, failoverGap := s.pair.failoverGap
                          failoverCause := s.pair.failoverCause
                          ownIn := s.pair.ownIn, cableSeated := s.pair.cableSeated, linkUp := s.pair.linkUp }
    host := { r.host with usbMated := s.host.usbMated }
    rcd := { r.rcd with seq := s.rcd.seq, dropCnt := s.rcd.dropCnt, operBase := operMs s, operFrom := 0, tai := s.idn.timeModeTai
                        shared := s.rcd.shared, safety := s.rcd.safety
                        windowStart := some 0 }
    hlth := { r.hlth with spare := s.hlth.spare, exhausted := s.hlth.exhausted, map := s.hlth.map, lanes := s.hlth.lanes, mapFullLogged := s.hlth.mapFullLogged
                          refreshLast := s.hlth.refreshLast, refreshBlock := s.hlth.refreshBlock, refreshBand := s.hlth.refreshBand
                          fromTrend := s.hlth.fromTrend, fromLog := s.hlth.fromLog, stagingReduced := s.hlth.stagingReduced }
    lad := { r.lad with pressCnt := s.lad.pressCnt, freezeLast := s.lad.freezeLast, freezeOwed := s.lad.freezeOwed, closed := s.lad.closed
                        rungTime := updAt (· + sinceNs s s.lad.rungSince / 1000000) s.lad.rungTime s.lad.rung, wakeRung := s.lad.rung }
    upd := { s.upd with recovery := false, phase := 0, erasing := false, confirmFrom := none, fallbackLast := false, staging := if s.upd.erasing then none else s.upd.staging }
    jtag := s.jtag
    out := s.out }

/-! ### Defect map (R523, R524) -/

/-- An entry of the defect map; a full map takes no more and says so once (R524). -/
def addDefect (kind st unit addr : Nat) (s : State) : State :=
  if s.hlth.map.length < 4096 then
    s |> onHlth fun h => { h with map := h.map ++ [{ kind := kind, st := st, unit := unit, addr := addr, time := operMs s }] }
  else if s.hlth.mapFullLogged then s
  else s |> onHlth (fun h => { h with mapFullLogged := true }) |> log srcApp3 0x100C 2 []

/-- `SPARE_LEFT` index of a kind of R524: code rows, data rows, lanes, ΔΣ channels, flash blocks. -/
def spareIdx (kind : Nat) : Option Nat :=
  match kind with | 0 => some 0 | 1 => some 1 | 2 => some 2 | 3 => some 3 | 5 => some 4 | _ => none

/-- Spares of a kind left. -/
def spareLeft (s : State) (kind : Nat) : Nat := match spareIdx kind with | some i => nth 0 s.hlth.spare i | none => 0

/-- A spare of a kind is used; the last one used logs SPARE_EXHAUSTED, once (R523). -/
def useSpare (kind : Nat) (s : State) : State :=
  match spareIdx kind with
  | none => s
  | some i =>
    let n := nth 0 s.hlth.spare i - 1
    let s1 := s |> onHlth fun h => { h with spare := setAt h.spare i n }
    if n = 0 && !(nth true s.hlth.exhausted kind) then
      s1 |> onHlth (fun h => { h with exhausted := setAt h.exhausted kind true }) |> log srcApp3 0x1007 2 (u8 kind)
    else s1

/-- A rung is entered, with RUNG_CHANGE and the time of the rung left (R528). -/
def setRung (n : Nat) (s : State) : State :=
  if s.lad.rung = n then s
  else
    let old := s.lad.rung
    s |> onLad (fun l => { l with rungTime := updAt (· + sinceNs s l.rungSince / 1000000) l.rungTime old, rung := n, rungSince := s.tick.now })
      |> log srcAon 0x1110 0 (u8 old ++ u8 n)

/-! ### OFF and freeze (R33, R528, R535, R536) -/

/-- The module's clocks run: not in OFF, not frozen, powered, and full operation not ended by an aux loss (R90). -/
def running (s : State) : Bool := !(inOff s) && !s.lad.frozen && !s.lad.unpowered && decide (s.pwr.stage ≠ .save)

/-- The cores run: the module is running, at Noon (R32, R528). -/
def coresRun (s : State) : Bool := running s && decide (s.lad.rung = 0)

/-- The run of scan item 0x20 + `k` that is under way is past its deadline (R31). -/
def lateRun (k : Nat) (s : State) : Bool := nth false s.tick.late k

/-- The outputs of a rung below Noon (R528): the gate link sends nothing, coil drives off, contacts open, OWN_OUT released. -/
def outputsOff (s : State) : State :=
  s |> onPins (fun p => { p with gate := List.replicate 6 .dark, sklTx := false }) |> coilsOff |> openSafeOut |> openImd
    |> onPair (fun p => { p with ownOut := false })
    |> onThm (fun t => { t with pwm := List.replicate 4 0, ao := List.replicate 2 0, loopsRun := false })

/-- The loads drawn through J1 go off below Afternoon, the SFP module only where the pair link receives no longer (R86). -/
def loadsOff (keepSfp : Bool) (s : State) : State :=
  s |> onPins (fun p => { p with sensOn := false, diOn := false, sfpOn := p.sfpOn && keepSfp, sfpUp := p.sfpUp && keepSfp })
    |> onPair fun p => { p with linkUp := p.linkUp && keepSfp }

/-- The module enters OFF at a rung, by a transition with a cause (R33, R35, R527). -/
def enterOff (rung cause : Nat) (aux : Bool) (s : State) : State :=
  s |> setState .off cause |> onStr (fun x => { x with mirrored := false }) |> outputsOff |> canOff
    |> loadsOff (rung = 2) |> onProt (fun p => { p with stop := none, evaluating := false })
    |> setRung rung |> onLad (fun l => { l with offByAux := aux, activeSeen := false })

/-- Step 3 of R535: OWN_OUT released, the key store zeroed, `FREEZE_LAST` written, the log freeze ended (R536), the clocks
stopped in Evening. -/
def enterFreeze (trigger : Nat) (forced : Bool) (s : State) : State :=
  let role := roleCode s
  s |> thawLog 4 |> outputsOff |> loadsOff false
    |> onHost (fun h => { h with sessions := h.sessions.map fun o => o.map fun x => { x with key := List.replicate 32 0, snonce := List.replicate 16 0 } })
    |> onPair (fun p => { p with partnerKey := none, keyHeld := false })
    |> setRung 3
    |> onLad (fun l => { l with
        frozen := true, freezeOwed := true, freezeReq := none
        freezeLast := some { time := s.tb.time, trigger := trigger, state := s.str.state.code, forced := forced, role := role } })

/-- States with outputs to make safe first (R535 step 2, R533). -/
def activeState (s : State) : Bool :=
  owning s && (s.str.state = .precharge || s.str.state = .closed || s.str.state = .run || s.str.state = .twilight || s.str.state = .stopping)

/-- Step 2 or 3 of R535 for a request accepted at local time `t`: a safe stop first where the outputs are not safe. -/
def freezeOn (trigger t : Nat) (s : State) : State :=
  if activeState s then
    s |> log srcSafety 0x1118 3 (u8 s.str.state.code ++ i32 (roundAway (absR (iStr s))))
      |> safeStop false |> onLad (fun l => { l with freezeReq := some (trigger, 2, t) })
  else enterFreeze trigger false s

end Sys2Proof.Machine
end

