-- ==== Sys2Proof/Machine/Tables.lean ====
section
/-! DEFINITION. The double-banked tables (R24, R225 to R230) and the rows of the scan schedule that mark banks:
SNAPSHOT_INSTANT, VOLTAGE_BANK_COMPLETE, DROP_SET_COMPLETE. -/
namespace Sys2Proof.Machine

/-- The readers of R226 by bit: safety core, estimation engine, share solver, balancing, thermal control. -/
def rdSafety : Nat := 0
def rdEst : Nat := 1
def rdShare : Nat := 2
def rdBal : Nat := 3
def rdThermal : Nat := 4

/-- Bank 0 or 1 of a group; empty for any other index. -/
def Banked.get (g : Banked) (i : Nat) : Bank := match i with | 0 => g.b0 | 1 => g.b1 | _ => {}
def Banked.set (g : Banked) (i : Nat) (b : Bank) : Banked :=
  match i with | 0 => { g with b0 := b } | 1 => { g with b1 := b } | _ => g

/-- The newest complete bank. -/
def Banked.current (g : Banked) : Option Bank := g.newest.map g.get

/-- A reader holds the bank. -/
def Bank.held (b : Bank) : Bool := b.hold.any id

/-- A new set starts (R24): in the bank that is not the newest; where a reader holds that one, in the newest again; nowhere
where both are held. Answers the readers whose set is lost. -/
def Banked.start (g : Banked) (n snapId : Nat) (iStr q : Int) (time at_ : Nat) : Banked × List Bool :=
  let fresh := fun (b : Bank) => ({ b with st := 1, snapId := snapId, iStr := iStr, time := time, at_ := at_, q := q, vals := List.replicate n none } : Bank)
  match g.newest with
  | none => ({ g with b0 := fresh g.b0, filling := 0 }, [])
  | some k =>
    let o := 1 - k
    if !(g.get o).held then ({ g.set o (fresh (g.get o)) with filling := o }, [])
    else if !(g.get k).held then
      ({ g.set k (fresh (g.get k)) with filling := k, newest := if (g.get o).st = 2 then some o else none }, (g.get o).hold)
    else ({ g with filling := 2 }, (g.get o).hold)

/-- A value written into the bank being filled. -/
def Banked.put (g : Banked) (i : Nat) (v : Option Int) : Banked :=
  let b := g.get g.filling
  if b.st = 1 then g.set g.filling { b with vals := setAt b.vals i v } else g

/-- Entry `i` of the bank being filled becomes the sentinel: from the bank in which a monitor is lost on (R213). A complete bank
keeps what its set gave, for the readers that hold it (R24). -/
def Banked.blank (g : Banked) (i : Nat) : Banked := g.put i none

/-- Positions whose balancing current is unresolved at the snapshot go with the set being filled (R358). -/
def Banked.mark (g : Banked) (unres : List Nat) : Banked :=
  let b := g.get g.filling
  if b.st = 1 then g.set g.filling { b with unres := unres } else g

/-- The bank being filled is marked complete with the next sequence number. -/
def Banked.complete (g : Banked) : Banked :=
  let b := g.get g.filling
  if b.st = 1 then
    let q := (g.seq + 1) % 65536
    { g.set g.filling { b with st := 2, seq := q } with newest := some g.filling, seq := q }
  else g

/-- A reader that holds no bank takes the newest complete one. -/
def Banked.take (g : Banked) (r : Nat) : Banked :=
  match g.newest with
  | none => g
  | some k => if nth false g.b0.hold r || nth false g.b1.hold r then g
              else let b := g.get k; g.set k { b with hold := setAt b.hold r true }

/-- The reader releases what it holds. -/
def Banked.release (g : Banked) (r : Nat) : Banked :=
  let z := fun (b : Bank) => ({ b with hold := setAt b.hold r false } : Bank)
  { g with b0 := z g.b0, b1 := z g.b1 }

/-- The bank a reader holds, else the newest complete one. -/
def Banked.heldBy (g : Banked) (r : Nat) : Option Bank :=
  if nth false g.b0.hold r then some g.b0 else if nth false g.b1.hold r then some g.b1 else g.current

/-- Value `i` as a reader sees it. -/
def Banked.valBy (g : Banked) (r i : Nat) : Option Int := match g.heldBy r with | some b => nth none b.vals i | none => none

/-- Value `i` of a bank. -/
def Bank.val (b : Bank) (i : Nat) : Option Int := nth none b.vals i

/-- Value `i` of the newest complete bank. -/
def Banked.val (g : Banked) (i : Nat) : Option Int := match g.current with | some b => b.val i | none => none

/-- String geometry (R2 to R5): positions, cells per position, monitors; the positions of a ring place. -/
def geoP (s : State) : Nat := s.cfg.safety.p
def geoS (s : State) : Nat := s.cfg.safety.s
def geoM (s : State) : Nat := s.cfg.safety.monN
def placeN (s : State) (m : Nat) : Nat := min 16 (geoP s - 16 * m)
def placeOf (pos : Nat) : Nat := pos / 16

/-- Monitor of a place, and its change. -/
def monAt (s : State) (m : Nat) : Monitor := nth {} s.skl.mons m
def onMon (m : Nat) (g : Monitor → Monitor) (s : State) : State := s |> onSkl fun l => { l with mons := updAt g l.mons m }
def onMons (g : Nat → Monitor → Monitor) (s : State) : State := s |> onSkl fun l => { l with mons := mapI g l.mons }

/-- Position and cell entry changes. -/
def onPos (p : Nat) (g : PosEntry → PosEntry) (s : State) : State := s |> onTab fun t => { t with poss := updAt g t.poss p }
def onPoss (g : Nat → PosEntry → PosEntry) (s : State) : State := s |> onTab fun t => { t with poss := mapI g t.poss }
def onCell (c : Nat) (g : CellEntry → CellEntry) (s : State) : State := s |> onTab fun t => { t with cells := updAt g t.cells c }
def onCells (g : Nat → CellEntry → CellEntry) (s : State) : State := s |> onTab fun t => { t with cells := mapI g t.cells }

/-- A monitor's data are used: it is ADMITTED (R217). -/
def admittedAt (s : State) (m : Nat) : Bool := (monAt s m).state = .admitted

/-- `T_AGE`: the age of the newest valid reading, in 10 ms (R212, R230). -/
def tempAge (s : State) (t : TempEntry) : Option Nat :=
  match t.tAt with | some a => some (min 0xFFFE (sinceNs s a / 10000000)) | none => t.age

/-- The module runs the ring: it owns the outputs and its transmitters are on (R59, R220). -/
def runsRing (s : State) : Bool := s.pins.sklTx && !(isSp s)

/-- Readers whose set was lost, counted (`SCAN_SET_SKIP`). -/
def countSkips (l : List Bool) (s : State) : State :=
  s |> onSkl fun x => { x with skip := mapI (fun i n => if nth false l i then satInc 32 n else n) x.skip }

/-- An inconsistent scan restarts the count (R218, R224). -/
def quarRestart (m cond : Nat) (s : State) : State :=
  s |> onMon m (fun x => { x with scans := 0 }) |> log srcApp2 0x0408 0 (u16 m ++ u16 cond)

/-- A monitor in step 4 of its admission whose block of the present set did not come at its first read: the count restarts, once a
set (R218). -/
def missedScan (s : State) (m : Nat) : State :=
  let x := monAt s m
  let s1 := s |> onMon m fun x => { x with vAsked := true }
  if x.state = .quarantine && x.step = 3 && !x.vAsked then quarRestart m 1 s1 else s1

/-- At the end of a set, monitors in step 4 that it never reached (R218). -/
def unreadScans (s : State) : State :=
  if s.skl.snapId.isNone then s
  else (List.range (geoM s)).foldl (fun t m => if (monAt t m).scans = 0 && !(monAt t m).reachable then t else missedScan t m) s

/-- The clocks of R212 start for a monitor admitted since the last snapshot (R218). -/
def startClocks (s : State) : State :=
  if !(s.skl.mons.any fun m => m.clockDue && m.state = .admitted) then s
  else
    let now := s.tick.now
    let due := fun (m : Nat) => (monAt s m).clockDue && (monAt s m).state = .admitted
    let n := geoS s
    s |> onPoss (fun p e => if due (placeOf p) then { e with vAt := some now } else e)
      |> onCells (fun c e => if n ≠ 0 && due (placeOf (c / n)) then { e with dAt := some now } else e)
      |> onTab (fun t => { t with temps := mapI (fun i (e : TempEntry) => if e.fitted && due (placeOf (i / 8)) then { e with tAt := some now } else e) t.temps })
      |> onMons fun m x => if due m then { x with clockDue := false } else x

/-- Every module of a pair marks the snapshot instants of the schedule: voltages in each cycle, drops where c mod 10 = 0,
temperatures where c = 0 (R28, R220). -/
def markSnaps (q : Int) (s : State) : State :=
  if s.tick.f ≠ 0 then s
  else
    let k : SnapMark := { at_ := s.tick.now - s.tick.j * 50000, time := s.tb.time - s.tick.j * 50000, q := q, word := roundAway (iTick s) }
    let new := fun (i : Nat) => i = 0 || (i = 1 && s.tick.c % 10 = 0) || (i = 2 && s.tick.c = 0)
    s |> onSkl fun l => { l with
      marks := mapI (fun i (o : SnapMark) => if new i then k else o) l.marks
      marksOld := mapI (fun i (o : SnapMark) => if new i then nth {} l.marks i else o) l.marksOld }

/-- The bank log takes a completed voltage bank, and keeps the newest 64. -/
def logBank (b : Bank) (s : State) : State :=
  s |> onSkl fun l => { l with bankLog := ((b.seq, b.at_, b.q) :: l.bankLog).take 64 }

/-- `SNAP_ID` of the next scheduled snapshot (R207). -/
def nextSnap (s : State) : Nat := match s.skl.snapUsed with | none => 0 | some x => (x + 1) % 65536

/-- SNAPSHOT_INSTANT: the set of this cycle starts with its `SNAP_ID`, paired with the DS0 word of the same tick; drops are
latched where c mod 10 = 0 and temperatures where c = 0 (R25, R28, R207). Clocks of monitors admitted since the last set
start here, and a monitor in step 4 that the set before never reached begins its count again (R218). A late read-out still fills its bank and its result is used (R31): no snapshot is taken while that of the
voltages is late, and no drop or temperature set starts while the bulk read-out is (assumption 58). -/
def execSnapshotInstant (s : State) : Host.Outcome State Fault Refusal :=
  if !(runsRing s) || !(coresRun s) || s.tick.f ≠ 0 || s.tick.j ≠ 0 || geoP s = 0 || lateRun 3 s then .next s
  else
    let id := nextSnap s
    let w := roundAway (iTick s)
    let now := s.tick.now
    let v := s.tab.volt.start (geoP s) id w s.met.coulomb s.tb.time now
    let doD := s.tick.c % 10 = 0 && !(lateRun 5 s)
    let doT := s.tick.c = 0 && !(lateRun 5 s)
    let unres := (List.range (geoP s)).filter fun p => (nth {} s.bal.pos p).unresolved
    let d := if doD then s.tab.drop.start (geoP s * geoS s) id w s.met.coulomb s.tb.time now else (s.tab.drop, [])
    let t := if doT then s.tab.temp.start (geoP s * 8) id w s.met.coulomb s.tb.time now else (s.tab.temp, [])
    .next (unreadScans s |> onTab (fun x => { x with volt := v.1, drop := if doD then d.1.mark unres else d.1, temp := t.1 })
      |> countSkips v.2 |> countSkips d.2 |> countSkips t.2
      |> onMet (fun m => { m with snapWord := w })
      |> onSkl (fun l => { l with
          snapId := some id, snapUsed := some id, vSnapAt := now
          dSnap := if doD then id else l.dSnap, dSnapAt := if doD then now else l.dSnapAt
          tSnap := if doT then id else l.tSnap, tSnapAt := if doT then now else l.tSnapAt })
      |> onMons (fun _ m => { m with
          vDone := false, vAsked := false, vCrcErr := false
          dDone := if doD then false else m.dDone, dAsked := if doD then false else m.dAsked, dCrcErr := if doD then false else m.dCrcErr
          tDone := if doT then false else m.tDone, tAsked := if doT then false else m.tAsked, tCrcErr := if doT then false else m.tCrcErr })
      |> startClocks |> markSnaps s.met.coulomb
      |> runDone 0 |> (fun t => if doD then runDone 1 t else t) |> (fun t => if doT then runDone 2 t else t))

/-- VOLTAGE_BANK_COMPLETE: the bank is marked complete with its sequence number, entries not received holding their
sentinel, and the estimation engine takes it with the newest temperatures (R24, R206, R28 item 0x24). The read-out ends in
frames 0 to 3, or late (R28 item 0x23, R31). -/
def execVoltageBankComplete (s : State) : Host.Outcome State Fault Refusal :=
  if (s.tab.volt.get s.tab.volt.filling).st ≠ 1 || isSp s || !(coresRun s) || !(decide (s.tick.f ≤ 3) || lateRun 3 s) then .next s
  else
    let g := s.tab.volt.complete
    let fresh := fun (p : Nat) => (g.val p).isSome
    let s0 := s |> onTab (fun x => { x with volt := g.take rdEst, temp := x.temp.take rdEst })
      |> onPoss (fun p e => if fresh p then { e with vStale := false } else e)
    let s1 := s0 |> onMons fun m x => { x with vStale := x.vStale && (List.range (placeN s m)).any fun k => (nth {} s0.tab.poss (16 * m + k)).vStale }
    let s2 := match g.current with | some b => logBank b s1 | none => s1
    .next (runDone 3 (if s2.tab.poss.any (fun e => e.vStale) then s2 else demandOver 8 (deactivate 0x0A08 s2)))

/-- Any tab-link drop is stale, or a position is excluded for inconsistency (R399 bit 3). -/
def dropsBad (s : State) : Bool := s.tab.poss.any fun e => e.dropStale || e.shareExcluded

/-- DROP_SET_COMPLETE: the drop bank is marked complete, cells not received show it, fresh drops end their staleness, and
the share solver takes the bank (R24, R206, R228, R231). The set ends with the cycle of c mod 10 = 9, or late (R28 item 0x25,
R31). -/
def execDropSetComplete (s : State) : Host.Outcome State Fault Refusal :=
  if (s.tab.drop.get s.tab.drop.filling).st ≠ 1 || isSp s || !(coresRun s) || !((s.tick.c % 10 = 9 && decide (4 ≤ s.tick.f)) || lateRun 5 s) then .next s
  else
    let g := s.tab.drop.complete
    let n := geoS s
    let s0 := s |> onTab (fun x => { x with drop := g.take rdShare })
      |> onCells (fun c e => { e with dropMissing := (g.val c).isNone, dropStale := e.dropStale && (g.val c).isNone })
    let stale := fun (p : Nat) => (List.range n).any fun k => (nth {} s0.tab.cells (p * n + k)).dropStale
    let s1 := s0 |> onPoss (fun p e => { e with dropStale := e.dropStale && stale p })
      |> onMons fun m x => { x with dStale := x.dStale && (List.range (placeN s m)).any fun k => stale (16 * m + k) }
    .next (s1 |> runDue 6 |> runDone 5 |> fun t => if dropsBad t then t else clearTw 3 t)

end Sys2Proof.Machine
end

