-- ==== Sys2Proof/Machine/Estimation.lean ====
section
/-! DEFINITION. State estimation (R243 to R269): position filters, voltage bands, the decision table, cell filters,
string figures, rest, restore and cold start, and capacity learning. Charge in µC, voltage in µV, current in mA,
resistance in µΩ, all exact; filter values are brought to the grid of assumption 8. -/
namespace Sys2Proof.Machine

/-- µC of one mAh. -/
def mAhUc : Rat := 3600000

/-- Rated cell capacity, µC. -/
def capNom (s : State) : Rat := s.cfg.cell.capNom * mAhUc

/-! ### Temperatures and parameter tables (R232, R245, R249) -/

/-- Valid readings of position `p` in the temperature bank a reader holds, 0.01 °C; and in the estimator's. -/
def tempsBy (r : Nat) (s : State) (p : Nat) : List Rat :=
  (List.range 8).filterMap fun k =>
    if (nth {} s.tab.temps (8 * p + k)).valid then (s.tab.temp.valBy r (8 * p + k)).map (fun v => (v : Rat)) else none
def validTemps (s : State) (p : Nat) : List Rat := tempsBy rdEst s p

/-- Mean of a list; none when empty. -/
def meanR (l : List Rat) : Option Rat := if l = [] then none else some (sumR l / l.length)

/-- T_p of R232: the mean of the position's valid temperatures, else of the string's, else 25 °C. -/
def tPos (s : State) (p : Nat) : Rat :=
  match meanR (validTemps s p) with
  | some t => t
  | none => (meanR ((List.range (geoP s)).flatMap (validTemps s))).getD 2500

/-- T of R245: `T_INT` while it is valid, else T_p. -/
def estT (s : State) (p : Nat) (e : PosEntry) : Rat := match e.tInt with | some t => t | none => tPos s p

/-- The two bands whose `T_REF` enclose a temperature and the weight of the second; the nearest band outside. -/
def bandPair : Nat → List CellBand → Rat → Nat × Nat × Rat
  | i, a :: b :: r, t =>
    if t ≤ a.tRef then (i, i, 0)
    else if t ≤ b.tRef then (i, i + 1, (t - a.tRef) / ((b.tRef : Rat) - a.tRef))
    else bandPair (i + 1) (b :: r) t
  | i, _, _ => (i, i, 0)

/-- A band parameter at a temperature. -/
def cellPar (s : State) (t : Rat) (f : CellBand → Nat) : Rat :=
  let w := bandPair 0 s.cfg.cell.bands t
  let g := fun i => match s.cfg.cell.bands.drop i with | b :: _ => (f b : Rat) | [] => 0
  (1 - w.2.2) * g w.1 + w.2.2 * g w.2.1

/-- An OCV curve at `x` in 0.01 % of charge: value in 0.1 mV and slope; the end values outside, with slope 0. -/
def ocvAt (f : OcvPoint → Nat) : List OcvPoint → Rat → Rat × Rat
  | a :: b :: r, x =>
    let k := ((f b : Rat) - f a) / ((b.soc : Rat) - a.soc)
    if x < a.soc then (f a, 0)
    else if x ≤ b.soc then (f a + k * (x - a.soc), k)
    else ocvAt f (b :: r) x
  | [a], _ => (f a, 0)
  | [], _ => (0, 0)

/-- A curve at temperature and charge fraction: µV, and µV per unit of charge fraction. -/
def ocvMix (s : State) (t : Rat) (f : OcvPoint → Nat) (soc : Rat) : Rat × Rat :=
  let w := bandPair 0 s.cfg.cell.bands t
  let g := fun i => match s.cfg.cell.ocv.drop i with | l :: _ => ocvAt f l (soc * 10000) | [] => (0, 0)
  let a := g w.1
  let b := g w.2.1
  (((1 - w.2.2) * a.1 + w.2.2 * b.1) * 100, ((1 - w.2.2) * a.2 + w.2.2 * b.2) * 1000000)

/-- OCVmid and OCVhalf with their slopes (R245). -/
def ocvMid (s : State) (t soc : Rat) : Rat × Rat :=
  let a := ocvMix s t OcvPoint.chg soc
  let b := ocvMix s t OcvPoint.dis soc
  ((a.1 + b.1) / 2, (a.2 + b.2) / 2)
def ocvHalf (s : State) (t soc : Rat) : Rat × Rat :=
  let a := ocvMix s t OcvPoint.chg soc
  let b := ocvMix s t OcvPoint.dis soc
  ((a.1 - b.1) / 2, (a.2 - b.2) / 2)

/-- Charge fractions at which a curve at this temperature bends, rising. -/
def ocvKnots (s : State) (t : Rat) : List Rat :=
  let w := bandPair 0 s.cfg.cell.bands t
  let g := fun i => match s.cfg.cell.ocv.drop i with | l :: _ => l.map fun p => (p.soc : Rat) / 10000 | [] => []
  (sortR (g w.1 ++ g w.2.1)).eraseDups

/-- Least point of a rising curve at or above a target, between knots, from a knot below it. -/
def riseGo (f : Rat → Rat) (y : Rat) : Rat → List Rat → Rat
  | x0, [] => x0
  | x0, x :: xs => if y ≤ f x then (if f x = f x0 then x else x0 + (x - x0) * (y - f x0) / (f x - f x0)) else riseGo f y x xs

/-- Least SOC with a value of at least `y`; 0 where the curve starts there, 1 where it never reaches it. -/
def leastSoc (f : Rat → Rat) (knots : List Rat) (y : Rat) : Rat :=
  match knots with | [] => 0 | x :: xs => if y ≤ f x then 0 else riseGo f y x xs

/-- Greatest point of a rising curve at or below a target, walking down. -/
def fallGo (f : Rat → Rat) (y : Rat) : Rat → List Rat → Rat
  | x0, [] => x0
  | x0, x :: xs => if f x ≤ y then (if f x0 = f x then x else x + (x0 - x) * (y - f x) / (f x0 - f x)) else fallGo f y x xs

/-- Greatest SOC with a value of at most `y`. -/
def greatestSoc (f : Rat → Rat) (knots : List Rat) (y : Rat) : Rat :=
  match knots.reverse with | [] => 1 | x :: xs => if f x ≤ y then 1 else fallGo f y x xs

/-! ### Position filter (R244 to R248) -/

/-- Balancing current of a position at a local instant (R231, R358), mA. -/
def balAtTime (s : State) (p t : Nat) : Int :=
  let b := nth {} s.bal.pos p
  if t < s.bal.applyAt then b.old else b.cur

/-- Qbal of R244 over (t0, t1], µC. -/
def qBal (s : State) (p t0 t1 : Nat) : Rat :=
  let b := nth {} s.bal.pos p
  let mid := max t0 (min s.bal.applyAt t1)
  ((b.old : Rat) * ((mid - t0 : Nat) : Rat) + (b.cur : Rat) * ((t1 - mid : Nat) : Rat)) / 1000000

/-- exp(−Δt / τ) with Δt in ns and τ in s. -/
def decay (dt : Nat) (tau : Rat) : Rat := if tau = 0 then 0 else snap (expR (-((dt : Rat) / 1000000000 / tau)))

/-- n = S − `LOST_N`, at least 1 where it divides. -/
def nCells (s : State) (e : PosEntry) : Rat := max 1 (geoS s - e.lostN)

/-- `R_POS` at a temperature (R248), µΩ. -/
def rPosAt (s : State) (t : Rat) (e : PosEntry) : Rat :=
  let r25 := cellPar s 2500 CellBand.rOhm
  if r25 = 0 then e.rRef else e.rRef * cellPar s t CellBand.rOhm / r25

/-- Prediction of R246: hysteresis, charge, branches and covariance. -/
def posPredict (s : State) (t : Rat) (dt : Nat) (dQ i : Rat) (e : PosEntry) : PosEntry :=
  let c := e.cap
  let n := nCells s e
  let ea := decay dt (cellPar s t CellBand.tauA / 10)
  let eb := decay dt (cellPar s t CellBand.tauB)
  let hq := cellPar s t CellBand.hQ / 10000
  let q := snap (((1 / 2000) * absR dQ / c) * ((1 / 2000) * absR dQ / c)) + 1 / 1000000000000
  { e with
    h := if hq = 0 then e.h else clampR (-1) 1 (snap (e.h + dQ / (hq * c)))
    soc := e.soc.map fun x => snap (x + dQ / c)
    va := snap (ea * e.va + cellPar s t CellBand.rA / n * (1 - ea) * i / 1000)
    vb := snap (eb * e.vb + cellPar s t CellBand.rB / n * (1 - eb) * i / 1000)
    p00 := e.p00 + q, p01 := snap (ea * e.p01), p02 := snap (eb * e.p02)
    p11 := snap (ea * ea * e.p11) + 1000000, p12 := snap (ea * eb * e.p12), p22 := snap (eb * eb * e.p22) + 1000000 }

/-- Measurement update of R246 with noise `rn` (µV²) and terminal voltage `v` (µV). -/
def posMeasure (s : State) (t i v rn : Rat) (e : PosEntry) : PosEntry :=
  match e.soc with
  | none => e
  | some x =>
    let m := ocvMid s t x
    let d := ocvHalf s t x
    let h0 := m.2 + e.h * d.2
    let y := v - (m.1 + e.h * d.1 + rPosAt s t e * i / 1000 + e.va + e.vb)
    let a0 := e.p00 * h0 + e.p01 + e.p02
    let a1 := e.p01 * h0 + e.p11 + e.p12
    let a2 := e.p02 * h0 + e.p12 + e.p22
    let z := h0 * a0 + a1 + a2 + rn
    let k0 := snap (a0 / z)
    let k1 := snap (a1 / z)
    let k2 := snap (a2 / z)
    { e with
      soc := some (snap (x + k0 * y)), va := snap (e.va + k1 * y), vb := snap (e.vb + k2 * y)
      p00 := snap (e.p00 - k0 * a0), p01 := snap (e.p01 - k0 * a1), p02 := snap (e.p02 - k0 * a2)
      p11 := snap (e.p11 - k1 * a1), p12 := snap (e.p12 - k1 * a2), p22 := snap (e.p22 - k2 * a2) }

/-- Resistance learning of R248 from two successive valid banks. -/
def learnR (s : State) (t : Rat) (v : Int) (i : Rat) (e : PosEntry) : PosEntry :=
  match e.lastV with
  | none => e
  | some v0 =>
    let di := i - e.lastI
    if absR di < (s.cfg.cell.capNom * geoS s : Nat) / 10 || di = 0 then e
    else
      let r := ((v - v0 : Int) : Rat) * 100000 / di
      let rp := rPosAt s t e
      let rt := cellPar s t CellBand.rOhm
      if r < rp / 2 || 2 * rp < r || rt = 0 then e
      else { e with rRef := snap (e.rRef + (r * cellPar s 2500 CellBand.rOhm / rt - e.rRef) / 200) }

/-- `SOC_SIGMA` of a position as a fraction. -/
def posSigma (e : PosEntry) : Rat := sqrtR e.p00

/-- Full-range current of the shunt (R244), mA. -/
def fullRangeMa (s : State) : Rat := shuntMa s (if s.met.srcDs1 then 1 else 0) 8388608

/-- Growth of the uncertainty while `COULOMB_UNCERTAIN` is set (R244), and while the position's balancing current is
unresolved (R358). -/
def growSigma (s : State) (p dt : Nat) (e : PosEntry) : PosEntry :=
  let b := nth {} s.bal.pos p
  let a := if s.met.uncertain then absR (fullRangeMa s) else 0
  let u := if b.unresolved then absR ((b.cmd - b.old : Int) : Rat) / 2 else 0
  if a + u = 0 then e
  else
    let x := posSigma e + (a + u) * dt / 1000000 / e.cap
    { e with p00 := snap (x * x) }

/-- Voltage band of R252 from `V_POS` (µV), current and resistance. -/
def voltBand (s : State) (t v i : Rat) (e : PosEntry) : Rat × Rat :=
  let r := rPosAt s t e
  let v0 := v - i * r / 1000
  let b := (s.cfg.cell.epsV : Rat) * 100 + absR i * r / 2000
  let ks := ocvKnots s t
  let chg := fun x => (ocvMix s t OcvPoint.chg x).1
  let dis := fun x => (ocvMix s t OcvPoint.dis x).1
  (if chg 1 < v0 - b then 1 else leastSoc chg ks (v0 - b), if v0 + b < dis 0 then 0 else greatestSoc dis ks (v0 + b))

/-- TAI minutes of now (R255). -/
def taiMinutes (s : State) : Nat := s.tb.time / 60000000000

/-- A counted disagreement of a position (R255). -/
def countDisagree (p : Nat) (s : State) : State :=
  let e := nth {} s.tab.poss p
  let l := (taiMinutes s :: e.disagrees).take 3
  let due := l.length = 3 && decide (taiMinutes s - (nth 0 l 2) ≤ 43200)
  let s1 := s |> onPos p (fun e => { e with disagrees := l, fl := { e.fl with learnDue := e.fl.learnDue || due } })
    |> onJrn (fun j => { j with dirty := j.dirty.orElse fun _ => some s.tick.now })
  if due && !e.fl.learnDue then log srcApp1 0x0607 1 (u16 p) s1 else s1

/-- Cells of a position. -/
def isCellOf (s : State) (p c : Nat) : Bool := geoS s ≠ 0 && decide (c / geoS s = p)

/-- Decision table of R254 with the clamp of R253, on a valid `V_POS` (0.1 mV) and its band. A step without a valid `V_POS` meets
neither row 1 nor row 2, and keeps the band of the last step that had one (DEDUCED, assumption 15). -/
def decidePos (p : Nat) (v : Option Int) (lo hi : Rat) (s : State) : State :=
  let e := nth {} s.tab.poss p
  match e.soc with
  | none => s |> onPos p fun e => { e with socLo := lo, socHi := hi }
  | some q =>
    if (match v with | some x => decide (x ≤ s.cfg.cell.vCutoff) | none => false) then
      let s1 := s
        |> onPos p (fun e => { e with soc := some 0, socRep := some 0, forced := true, socLo := lo, socHi := hi, fl := { e.fl with forcedEmpty := true, chargeDisagree := false, clampHi := false, clampLo := false } })
        |> onCells (fun c x => if isCellOf s p c && !x.lost then { x with soc := x.soc.map fun _ => 0, fl := { x.fl with forcedEmpty := true } } else x)
      let s2 := if 0 < q then log srcApp1 0x0606 2 (u16 p ++ u16 (pct q)) s1 else s1
      if 1 / 20 < q then countDisagree p s2 else s2
    else
      let set := q ≤ 0 && decide (0 < lo)
      let first := set && !e.fl.chargeDisagree
      let s1 := s |> onPos p (fun e => { e with
        socRep := some (clampR lo hi q), forced := false, socLo := lo, socHi := hi
        fl := { e.fl with
          chargeDisagree := set || (e.fl.chargeDisagree && decide (q < lo))
          forcedEmpty := e.fl.forcedEmpty && decide (q < 1 / 50)
          clampHi := decide (hi < q), clampLo := decide (q < lo) } })
      let s2 := s1 |> onCells fun c x => if isCellOf s p c && decide (1 / 50 ≤ q) then { x with fl := { x.fl with forcedEmpty := false } } else x
      if first then countDisagree p (log srcApp1 0x0605 2 (u16 p ++ u16 (pct lo)) s2) else s2

/-- Interval and counter value from which an entry that holds the charge of bank `last` takes its increment: the bank applied last, or,
on a module that has taken the string over, the entry's own (R244, R419). Nothing before the first bank. -/
def stepFrom (s : State) (b : Bank) (last : Nat) : Nat × Int :=
  match s.est.lastSeq with
  | none => (0, b.q)
  | some q =>
    match (if q = last then none else s.skl.bankLog.find? fun x => x.1 = last) with
    | some x => (b.at_ - x.2.1, x.2.2)
    | none => (b.at_ - s.est.lastStepAt, s.est.lastQ)

/-- dQ[p] of R244 for an entry whose estimates hold the charge of bank `last`, µC. -/
def chargeStep (s : State) (b : Bank) (p last : Nat) : Rat :=
  let f := stepFrom s b last
  (b.q - f.2 : Int) + qBal s p (b.at_ - f.1) b.at_

/-- Share ratio that divides a position's charge (R244): of the newest counted solve, or `SHARE_FILT` while the position is left out. -/
def shareNow (x : CellEntry) : Rat := if x.excluded then x.filt else x.ratio.getD x.filt

/-- The capacity learning counts charge (R261). -/
def learning (s : State) : Bool := match s.est.learn with | some l => l.phase = 2 || l.phase = 3 | none => false

/-- The voltage a position's step uses: that of the bank, but for a stale one. -/
def stepV (s : State) (b : Bank) (p : Nat) : Option Int := if (nth {} s.tab.poss p).vStale then none else b.val p

/-- The current of a position at a bank's instant (R244). -/
def stepI (s : State) (b : Bank) (p : Nat) : Rat := b.iStr + balAtTime s p b.at_

/-- One position's entry after the prediction and the measurement of a step (R244 to R252). -/
def posAfter (b : Bank) (anchor : Bool) (p : Nat) (s : State) : PosEntry :=
  let e := nth {} s.tab.poss p
  let t := estT s p e
  let i := stepI s b p
  let dt := (stepFrom s b e.lastBank).1
  let dQ := chargeStep s b p e.lastBank
  let e1 := growSigma s p dt (posPredict s t dt dQ i e)
  let e2 := if anchor then { e1 with va := 0, vb := 0 } else e1
  let eps : Rat := (s.cfg.cell.epsV : Rat) * 100
  let rn := if anchor then eps * eps else eps * eps / 4
  let e3 := match stepV s b p with
    | none => { e2 with lastV := none }
    | some x => { learnR s t x i (posMeasure s t i ((x : Rat) * 100) rn e2) with lastV := some x, lastI := i }
  let m := match e3.soc with | some x => ocvMid s t x | none => (0, 0)
  let d := match e3.soc with | some x => ocvHalf s t x | none => (0, 0)
  { e3 with
    lastBank := b.seq
    ocv := e3.soc.map fun _ => m.1 + e3.h * d.1
    learnDq := if learning s then e3.learnDq - dQ else e3.learnDq
    fl := { e3.fl with tFromSensors := e3.tInt.isNone, valid := e3.soc.isSome } }

/-- One position's step on a bank (R244 to R254). `anchor` takes the rested update of R258. -/
def posStep (b : Bank) (anchor : Bool) (p : Nat) (s : State) : State :=
  let e4 := posAfter b anchor p s
  let s1 := s |> onPos p (fun _ => e4)
    |> onCells (fun c x =>
      if !(isCellOf s p c) then x
      else if x.lost then { x with lastBank := b.seq }
      else
        let inc := shareNow x / geoS s * chargeStep s b p x.lastBank
        { x with dq := x.dq + inc, learnDq := if learning s then x.learnDq - inc else x.learnDq, lastBank := b.seq })
  let w := match stepV s b p with
    | some x => voltBand s (estT s p (nth {} s.tab.poss p)) ((x : Rat) * 100) (stepI s b p) e4
    | none => (e4.socLo, e4.socHi)
  decidePos p (stepV s b p) w.1 w.2 s1
    |> onPos p fun e => { e with fl := { e.fl with converged := e.soc.isSome && decide (posSigma e ≤ 3 / 100) } }

/-! ### String figures (R256, R257) -/

/-- ∫ OCVmid over a span of charge fraction (trapezoids between the knots, exact), µV. -/
def ocvArea (s : State) (t a b : Rat) : Rat :=
  let f := fun x => (ocvMid s t x).1
  let xs := a :: ((ocvKnots s t).filter fun x => decide (a < x) && decide (x < b)) ++ [b]
  sumR (List.zipWith (fun x y => (f x + f y) / 2 * (y - x)) xs (xs.drop 1))

/-- Charge of a position, µC. -/
def posQ (e : PosEntry) : Option Rat := e.soc.map (· * e.cap)

/-- State of health of a position (R259). -/
def posSoh (s : State) (e : PosEntry) : Rat := if geoS s = 0 then 0 else e.cap / (geoS s * capNom s)

/-- First position with the least and with the greatest reported SOC. -/
def extremePos (better : Rat → Rat → Bool) (l : List PosEntry) : Option Nat :=
  ((mapI (fun i (e : PosEntry) => (i, e.socRep)) l).foldl (fun (a : Option (Nat × Rat)) x =>
    match x.2, a with
    | none, _ => a
    | some v, none => some (x.1, v)
    | some v, some w => if better v w.2 then some (x.1, v) else a) none).map (·.1)

/-- String figures after the position filters. -/
def stringFigures (s : State) : State :=
  let ps := s.tab.poss
  let dis := (ps.filter fun e => e.fl.chargeDisagree).map fun e => nCells s e
  let lim := (minOf dis).map fun n => (s.cfg.cell.capNom : Rat) * n / 5
  let s1 := s |> onEst fun x => { x with disLimit := lim }
  if ps = [] || ps.any (fun e => e.soc.isNone) then s1
  else
    let qs := ps.map fun e => maxR 0 ((posQ e).getD 0)
    let hs := ps.map fun e => maxR 0 (e.cap - (posQ e).getD 0)
    let q := (minOf qs).getD 0
    let h := (minOf hs).getD 0
    let en := sumR (mapI (fun p e =>
      let qp := (posQ e).getD 0
      e.cap * ocvArea s (estT s p e) ((qp - q) / e.cap) (qp / e.cap)) ps)
    s1 |> onEst fun x => { x with
      qMin := q, hMin := h
      socStr := some (if q + h = 0 then 0 else q / (q + h))
      sohStr := minOf (ps.map (posSoh s))
      eRemain := some (if ps.any (fun e => e.fl.forcedEmpty) && decide (q = 0) then 0 else en)
      sigmaMax := maxOf (ps.map posSigma)
      minPos := extremePos (fun a b => decide (a < b)) ps
      maxPos := extremePos (fun a b => decide (b < a)) ps }

/-- `CAP_STR`, µC. -/
def capStr (s : State) : Rat := s.est.qMin + s.est.hMin

/-! ### Rest (R258) -/

/-- Current bound of a rest, mA. -/
def restBound (s : State) : Rat := (s.cfg.cell.capNom * geoS s : Nat) / 100

/-- RESTED clears, and the end of a complete rest is kept for R265. -/
def unrest (s : State) : State :=
  if s.est.rested then s |> onEst fun e => { e with rested := false, restEnd := some s.tick.now } else s |> onEst fun e => { e with restDue := false }

/-- The current condition followed at a frame latch: above the bound the count of `REST_MIN` restarts. -/
def restTrack (s : State) : State :=
  if absR (iStr s) ≤ restBound s then
    s |> onEst fun e => { e with lowSince := match e.lowSince with | some t => some t | none => some s.tick.now }
  else unrest s |> onEst fun e => { e with lowSince := none }

/-- Voltage references of a bank: set at the first valid reading, reset on a change of more than 0.5 mV. -/
def restRefs (b : Bank) (s : State) : State :=
  let moved := fun p (e : PosEntry) => match (if e.vStale then none else b.val p), e.vRef with
    | some v, some r => decide (5 < (v - r).natAbs)
    | _, _ => false
  let any := (mapI moved s.tab.poss).any id
  let s1 := s |> onPoss fun p e =>
    match (if e.vStale then none else b.val p), e.vRef with
    | some v, none => { e with vRef := some v, vRefAt := s.tick.now }
    | some v, some r => if 5 < (v - r).natAbs then { e with vRef := some v, vRefAt := s.tick.now } else e
    | none, _ => e
  if any then unrest s1 else s1

/-- The conditions of R258 hold. -/
def restHolds (s : State) : Bool :=
  (match s.est.lowSince with | some t => elapsed s t (secNs (60 * s.cfg.cell.restMin)) | none => false) &&
    s.tab.poss.all fun e => e.vRef.isSome && elapsed s e.vRefAt (secNs 600)

/-! ### Capacity learning (R265 to R269) -/

/-- The session breaks with a reason of R266. -/
def learnAbort (reason : Nat) (s : State) : State :=
  let s1 := s |> onEst fun e => { e with learnAbort := reason }
  let r := learnResult s1
  s1 |> log srcApp1 0x0609 1 (u8 reason) |> closeOp 1 stCancelled |> endOp 1 stCancelled r

/-- A phase of the session begins and is published (R265, R452). -/
def learnPhase (n : Nat) (s : State) : State :=
  let s1 := s |> onEst fun e => { e with learn := e.learn.map fun l => { l with phase := n } }
  publishOp 1 (learnResult s1) s1

/-- Every position's rested SOC is at least 95 %. -/
def fullRested (s : State) : Bool := s.tab.poss ≠ [] && s.tab.poss.all fun e => e.soc.isSome && decide (95 / 100 ≤ e.restSoc)

/-- Phase 2 starts from the full rest that ended, or still holds, at `at_`. -/
def learnDischarge (at_ : Nat) (s : State) : State :=
  s |> onEst (fun e => { e with learn := e.learn.map fun l => { l with fullRestEnd := at_, resting := s.est.rested, q0 := s.met.coulomb, netIn := 0 } })
    |> onPoss (fun _ e => { e with socFull := e.restSoc, learnDq := 0 })
    |> onCells (fun _ c => { c with learnDq := 0 })
    |> learnPhase 2

/-- Cmeas of a position or cell from its charge out and the position's SOC difference (R268). -/
def capMeas (dq : Rat) (e : PosEntry) : Rat := if e.socFull = e.socEmpty then 0 else dq / (e.socFull - e.socEmpty)

/-- Cmeas lies within 10 % of the present capacity. -/
def plausible (m cap : Rat) : Bool := absR (m - cap) ≤ cap / 10

/-- A capacity learned with the weight of the CELL section. -/
def learnedCap (s : State) (m cap : Rat) : Rat := snap (cap + (s.cfg.cell.capLearnWeight : Rat) / 10000 * (m - cap))

/-- Capacity of a cell (R251): learned, or its equal part of the position's. -/
def cellCap (s : State) (e : PosEntry) (c : CellEntry) : Rat := if c.fl.learned then c.cap else e.cap / nCells s e

/-- The position qualifies for learning (R268). -/
def learnsPos (e : PosEntry) : Bool :=
  decide (e.socEmpty ≤ 1 / 10) && decide (85 / 100 ≤ e.socFull - e.socEmpty) && !e.rescaled

/-- Phase 4 for one position. -/
def learnPos (p : Nat) (s : State) : State :=
  let e := nth {} s.tab.poss p
  if !(learnsPos e) then s
  else
    let m := capMeas e.learnDq e
    let count := fun (g : CapLearn → CapLearn) => s |> onEst fun x => { x with learn := x.learn.map g }
    if !(plausible m e.cap) then
      count (fun l => { l with rejected := l.rejected + 1 })
        |> log srcApp1 0x060A 1 (u16 p ++ u32 (ratN 32 (m / mAhUc)) ++ u32 (ratN 32 (e.cap / mAhUc)))
    else
      count (fun l => { l with learned := l.learned + 1 })
        |> onCells (fun c x =>
          if !(isCellOf s p c) || x.lost then x
          else
            let cc := cellCap s e x
            let mc := capMeas x.learnDq e
            if plausible mc cc then { x with cap := learnedCap s mc cc, fl := { x.fl with learned := true } } else x)
        |> onPos p (fun e => { e with cap := learnedCap s m e.cap, fl := { e.fl with learned := true, learnDue := false } })

/-- Phase 4: the results are computed and wait for their LEARN record (R268, R269). -/
def learnCompute (s : State) : State :=
  let s1 := (List.range (geoP s)).foldl (fun t p => learnPos p t) (learnPhase 4 s)
  let l := s1.est.learn
  let n := match l with | some x => x.learned | none => 0
  let m := match l with | some x => x.rejected | none => 0
  let s2 := s1 |> onEst (fun e => { e with learnPending := true, learn := e.learn.map fun l => { l with computed := true } })
    |> onJrn (fun j => { j with dirty := some s.tick.now })
    |> log srcApp1 0x0608 1 (u16 n ++ u16 m)
  publishOp 1 (learnResult s2) s2

/-- The empty rest has completed: its values are taken, and phase 4 runs unless the operation is suspended (R267). -/
def learnEmptyRest (s : State) : State :=
  let s1 := s |> onPoss (fun _ e => { e with socEmpty := e.restSoc })
    |> onEst (fun e => { e with learn := e.learn.map fun l => { l with emptyRested := true } })
  match findOp s1 1 with
  | some o => if o.opState = 1 then s1 else learnCompute s1
  | none => s1

/-- A cause of R266 that the measurements show. -/
def learnBroken (s : State) (l : CapLearn) : Option Nat :=
  let hot := (List.range (geoP s)).any fun p => (validTemps s p).any fun t =>
    decide (t < s.cfg.cell.learnTMin) || decide ((s.cfg.cell.learnTMax : Rat) < t)
  if hot then some 1
  else if l.phase = 2 && decide (capStr s / 100 < ((s.met.coulomb - l.q0 : Int) : Rat)) then some 2
  else if s.met.uncertain || s.met.frozen.isSome || s.met.rewritten then some 4
  else none

/-- What a voltage bank does to the session (R265 to R267): a cause breaks it, phases advance. -/
def learnWatch (b : Bank) (s : State) : State :=
  match s.est.learn with
  | none => s
  | some l =>
    if l.computed then s
    else match learnBroken s l with
    | some r => learnAbort r s
    | none =>
      let resting := l.phase = 2 && l.resting && s.est.rested
      let s1 := s |> onEst fun e => { e with learn := e.learn.map fun l => { l with
        netIn := if l.phase = 2 then s.met.coulomb - l.q0 else l.netIn
        resting := resting, fullRestEnd := if resting then s.tick.now else l.fullRestEnd } }
      if l.emptyRested then s1
      else if l.phase = 1 && s.est.rested && fullRested s then learnDischarge s.tick.now s1
      else if l.phase = 2 && (mapI (fun p (e : PosEntry) => match (if e.vStale then none else b.val p) with
          | some v => decide (v ≤ s.cfg.cell.vCutoff) | none => false) s.tab.poss).any id then learnPhase 3 s1
      else if l.phase = 3 && s.est.rested then learnEmptyRest s1
      else s1

/-! ### The step on a bank -/

/-- Charge out since phase 2 began (`CAP_LEARN_DQ`). -/
def learnCharge (s : State) : State :=
  match s.est.learn with
  | some l => if l.phase = 2 || l.phase = 3 then s |> onEst fun e => { e with learnDq := l.q0 - s.met.coulomb } else s
  | none => s

/-- Every position converged after a cold start: the mode becomes RUNNING (R264). -/
def convergeCheck (s : State) : State :=
  if s.est.mode = .coldConverging && s.tab.poss ≠ [] && s.tab.poss.all (fun e => e.fl.converged) then
    s |> onEst (fun e => { e with mode := .running, modeSince := s.tick.now })
      |> log srcApp1 0x0604 1 (u32 (sinceNs s s.est.coldAt / 1000000000))
  else s

/-- Position filters, bands, decisions and string figures on the bank the engine holds (R243, R246). The step that finds the string
rested once `REST_MIN` has been reached sets `RESTED` and anchors the filters (R258). -/
def filterStep (b : Bank) (s : State) : State :=
  let r := restRefs b s
  let anchor := r.est.restDue && restHolds r
  let s0 := if anchor then r |> onEst fun e => { e with rested := true, restEnd := none, restDue := false } else r
  let s1 := (List.range (geoP s)).foldl (fun t p => posStep b anchor p t) s0
  let s2 := s1 |> onEst (fun e => { e with lastSeq := some b.seq, lastStepAt := b.at_, lastQ := b.q })
    |> onPoss (fun _ e => if s1.est.rested || anchor then { e with restSoc := e.socRep.getD e.restSoc } else e)
  stringFigures s2 |> learnCharge |> learnWatch b |> convergeCheck

/-- A job goes to the estimation engine's ring (R488): 0 position filters, 1 share solve, 2 cell filters, 3 impedance. -/
def postJob (n : Nat) (s : State) : State := ringPut (48 + n) (mkPacket 0 (u8 n)) s

/-- POSITION_FILTERS: in frames 4 to 7, or late, the step on the new voltage bank; the engine releases its banks (R28 item 0x24,
R31). A STANDBY_PAIR module runs none of this work (R243). -/
def execPositionFilters (s : State) : Host.Outcome State Fault Refusal :=
  match s.tab.volt.heldBy rdEst with
  | none => .next s
  | some b =>
    if isSp s || s.est.mode = .noString || !(coresRun s) || !((decide (4 ≤ s.tick.f) && decide (s.tick.f ≤ 7)) || lateRun 4 s) then .next s
    else
      let s1 := if s.est.lastSeq = some b.seq then s else postJob 0 (filterStep b s)
      .next (s1 |> onTab (fun t => { t with volt := t.volt.release rdEst, temp := t.temp.release rdEst }) |> runDone 4)

/-- REST_MIN_REACHED: where the conditions of R258 hold, the next position step sets `RESTED`, anchors the filters and advances the
CAP_LEARN phases: at once on a voltage bank not applied yet, else with the next one. -/
def execRestMinReached (s : State) : Host.Outcome State Fault Refusal :=
  match s.tab.volt.current with
  | none => .next s
  | some b =>
    if isSp s || !(coresRun s) || s.est.rested || !(restHolds s) then .next s
    else
      let s1 := s |> onEst fun e => { e with restDue := true }
      .next (if s.est.lastSeq = some b.seq then s1 else filterStep b s1)

/-- CAP_LEARN_TIMEOUT: phase 1 not ended within 24 h, or more than 48 h between the rests (R266 reasons 5 and 3). -/
def execCapLearnTimeout (s : State) : Host.Outcome State Fault Refusal :=
  match s.est.learn with
  | none => .next s
  | some l =>
    if l.phase = 1 && elapsed s l.start (secNs 86400) then .next (learnAbort 5 s)
    else if (l.phase = 2 || l.phase = 3) && !l.emptyRested && elapsed s l.fullRestEnd (secNs 172800) then .next (learnAbort 3 s)
    else .next s

/-- ESTIMATION_JOB_DONE: the engine posts a job's results to its result ring (R243, R475 source 177). -/
def execEstimationJobDone (job : Nat) (s : State) : Host.Outcome State Fault Refusal :=
  if 4 ≤ job then .next s
  else .next (s |> ringRel (48 + job) |> ringPut (52 + job) (mkPacket 0 (u8 job)) |> ringRel (52 + job)
    |> onEst (fun e => { e with jobsDone := updAt (· + 1) e.jobsDone job }) |> irqEvent 177 true)

/-! ### Cell filters (R250, R251) -/

/-- `R_CELL` of R251, µΩ; kept where the filtered share is 0. -/
def cellR (s : State) (rPos : Rat) (c : CellEntry) : Rat := if c.filt = 0 then c.r else snap (rPos * geoS s / c.filt)

/-- One cell's step of R250. -/
def cellStep (s : State) (p : Nat) (e : PosEntry) (v : Option Rat) (c : CellEntry) : CellEntry :=
  if c.lost then { c with dq := 0, fl := { c.fl with frozen := true } }
  else match c.soc with
  | none => { c with dq := 0 }
  | some x0 =>
    let t := estT s p e
    let cap := cellCap s e c
    let r := cellR s (rPosAt s t e) c
    let x1 := x0 + c.dq / cap
    let g := (1 / 2000) * absR c.dq / cap
    let p1 := c.var + g * g
    let base := { c with dq := 0, cap := cap, r := r, soc := some (snap x1), var := snap p1, tInt := e.tInt.map fun t => t }
    let out := match v with
      | none => base
      | some u =>
        let m := ocvMid s t x1
        let d := ocvHalf s t x1
        let h := m.2 + e.h * d.2
        let eps : Rat := (s.cfg.cell.epsV : Rat) * 200
        let y := u - ((c.iCell.getD 0 : Int) : Rat) * r / 1000 - (e.va + e.vb) - (m.1 + e.h * d.1)
        let k := p1 * h / (h * h * p1 + eps * eps)
        { base with soc := some (snap (x1 + k * y)), var := snap ((1 - k * h) * p1) }
    { out with fl := { out.fl with
        frozen := false, valid := true, tFromSensors := e.tInt.isNone, converged := decide (sqrtR out.var ≤ 3 / 100)
        chargeDisagree := e.fl.chargeDisagree, clampHi := e.fl.clampHi, clampLo := e.fl.clampLo } }

/-- The cell filters after a share solve (R243). -/
def cellFilters (s : State) : State :=
  let n := geoS s
  s |> onCells fun c x =>
    let p := c / n
    let e := nth {} s.tab.poss p
    let v := if e.vStale then none else (s.tab.volt.val p).map fun v => (v : Rat) * 100
    cellStep s p e v x

/-- Reported SOC of a cell: the forcing and the clamp of its position act on it (R251, R254). -/
def cellSocRep (e : PosEntry) (c : CellEntry) : Option Rat := c.soc.map fun x => if e.forced then 0 else clampR e.socLo e.socHi x

/-! ### Start of estimation (R260, R261, R264) -/

/-- At entry to STANDBY after Dawn the estimator waits for a restore. -/
def estWait (s : State) : State :=
  if s.est.mode = .noString || isSp s then s else s |> onEst fun e => { e with mode := .waitRestore, modeSince := s.tick.now }

/-- A cold start (R264). -/
def coldStart (s : State) : State :=
  let s1 := s |> onPoss (fun _ e =>
      let sg := maxR ((e.socHi - e.socLo) / 2) (1 / 20)
      let x := (e.socLo + e.socHi) / 2
      { e with soc := some x, socRep := some x, forced := false, h := 0, va := 0, vb := 0
               p00 := sg * sg, p01 := 0, p02 := 0, p11 := 0, p12 := 0, p22 := 0
               fl := { e.fl with valid := true, converged := decide (sg ≤ 3 / 100) } })
  let s2 := s1 |> onCells fun c x =>
    let e := nth {} s1.tab.poss (c / geoS s)
    if x.lost then x else { x with soc := e.soc, var := e.p00, dq := 0, fl := { x.fl with valid := true } }
  let wide := (s2.tab.poss.filter fun e => decide (1 / 10 < posSigma e)).length
  s2 |> onEst (fun e => { e with mode := .coldConverging, modeSince := s.tick.now, coldAt := s.tick.now })
    |> log srcApp1 0x0601 2 (i32 wide) |> stringFigures

/-- RESTORE_WAIT_TIMEOUT: 60 s in WAIT_RESTORE without a restore (R261, R264). -/
def execRestoreWaitTimeout (s : State) : Host.Outcome State Fault Refusal :=
  if s.est.mode = .waitRestore && elapsed s s.est.modeSince (secNs 60) then .next (convergeCheck (coldStart s)) else .next s

/-- `EST_ENV_FACTOR` of R260, 0.01 %. -/
def estFactor (s : State) : Nat := match s.est.mode with | .coldConverging => 5000 | .running => 10000 | _ => 0

/-! ### Restore blobs (R262, R263) -/

/-- Filter state of a position and of a cell, for the open encoding of `EST_STATE`: branch voltages and hysteresis; charge not yet
applied, charge of a CAP_LEARN session; and the bank whose charge the entry holds (R419). -/
def posState (e : PosEntry) : Bytes := i32 (roundAway e.va) ++ i32 (roundAway e.vb) ++ i16 (roundAway (e.h * 32767)) ++ u16 e.lastBank
def cellState (c : CellEntry) : Bytes := i32 (roundAway c.dq) ++ i64 (roundAway c.learnDq) ++ u16 c.lastBank

/-- `EST_FLAGS` of R278. -/
def EstFlags.word (f : EstFlags) : Nat :=
  bitsOf [f.valid, f.converged, f.clampLo, f.clampHi, f.chargeDisagree, f.forcedEmpty, f.learnDue, f.learned, f.tFromSensors, f.frozen]

/-- `EST_STATE` bytes. -/
def estStateBytes (n : Nat) (b : Bytes) : Bytes := fixLen n (Config.estEncode b)

/-- Position and cell records of a blob. -/
def blobPos (e : PosEntry) : Bytes :=
  u16 (pct (e.socRep.getD 0)) ++ u16 (pct (posSigma e)) ++ i64 (roundAway ((posQ e).getD 0)) ++ u16 e.fl.word ++ u16 0 ++ estStateBytes 12 (posState e) ++ u32 0
def blobCell (e : PosEntry) (c : CellEntry) : Bytes :=
  u16 (pct ((cellSocRep e c).getD 0)) ++ u16 (pct (sqrtR c.var)) ++ i64 (roundAway ((c.soc.getD 0) * c.cap)) ++ u16 c.fl.word ++ u16 0 ++ estStateBytes 16 (cellState c)

/-- Role of the module in its pair for `ORIGIN`: `PAIR_MEMBER` 1 is module B (R431). -/
def isModuleB (s : State) : Bool := s.cfg.small.member = 1

/-- No blob has been built since the present entry to STANDBY: the next one is that entry's, with `AT_REST` (R262). -/
def blobAtRest (s : State) : Bool := s.str.state = .standby && decide (s.est.blobAt ≤ s.str.entered)

/-- The blob of now (R262). -/
def buildBlob (s : State) (seq : Nat) : Bytes :=
  let n := 64 + 32 * geoP s + 32 * geoP s * geoS s + 20
  let hdr := u32 0x5453454B ++ u16 1 ++ u16 64 ++ u32 n ++ u32 s.idn.stringId ++ u16 (geoP s) ++ u8 (geoS s) ++ u8 (b2n (isModuleB s))
    ++ u64 seq ++ u64 s.tb.time ++ u32 s.idn.serial ++ u16 (bitsOf [blobAtRest s, s.met.uncertain, s.tb.timeValid]) ++ List.replicate 18 0
  let body := hdr ++ u32 (crc32c hdr) ++ (s.tab.poss.take (geoP s)).flatMap blobPos
    ++ (mapI (fun c x => blobCell (nth {} s.tab.poss (c / geoS s)) x) (s.tab.cells.take (geoP s * geoS s))).flatMap id
  let b2 := body ++ u32 (crc32c body)
  b2 ++ fixLen 16 (Config.hmacSha256 s.idn.estKey b2)

/-- RESTORE_BLOB_BUILD: every `EXPORT_PERIOD` at a frame latch, and at entry to STANDBY; the newest two are kept (R262). -/
def execRestoreBlobBuild (s : State) : Host.Outcome State Fault Refusal :=
  let due := elapsed s s.est.blobAt (secNs s.cfg.cell.exportPeriod) || blobAtRest s
  if isSp s || !due || s.tick.j ≠ 0 || s.tab.poss = [] || s.tab.poss.any (fun e => e.soc.isNone) then .next s
  else
    let n := s.est.blobNum + 1
    let seq := s.idn.dawnCnt * 4294967296 + n
    .next (s |> onEst fun e => { e with blobNum := n, blobAt := s.tick.now, blobs := ({ seq := seq, bytes := buildBlob s seq } :: e.blobs).take 2 })

/-- Blob fields. -/
def blobLen (s : State) : Nat := 64 + 32 * geoP s + 32 * geoP s * geoS s + 20
def blobTime (b : Bytes) : Nat := getN b 28 8

/-- Checks 2 and 3 of R263: header and CRC. -/
def blobHeaderOk (b : Bytes) : Bool :=
  let p := getN b 16 2
  let sl := getN b 18 1
  getN b 0 4 = 0x5453454B && getN b 4 2 = 1 && getN b 6 2 = 64 && getN b 60 4 = crc32c (b.take 60) &&
    getN b 8 4 = 64 + 32 * p + 32 * p * sl + 20 && decide (getN b 8 4 ≤ b.length)
def blobCrcOk (b : Bytes) : Bool := let n := getN b 8 4; getN b (n - 20) 4 = crc32c (b.take (n - 20))
def blobMacOk (key b : Bytes) : Bool := let n := getN b 8 4; slice b (n - 16) 16 = fixLen 16 (Config.hmacSha256 key (b.take (n - 16)))
def blobGeoOk (s : State) (b : Bytes) : Bool := getN b 12 4 = s.idn.stringId && getN b 16 2 = geoP s && getN b 18 1 = geoS s

/-- Every position's blob SOC lies in its present band, widened by 2 % (check 8). -/
def blobBandsOk (s : State) (b : Bytes) : Bool :=
  (mapI (fun p (e : PosEntry) => let x : Rat := (getN b (64 + 32 * p) 2 : Rat) / 10000
    decide (e.socLo - 1 / 50 ≤ x) && decide (x ≤ e.socHi + 1 / 50)) s.tab.poss).all id

/-- A restore is open (check 1). -/
def restoreOpen (s : State) : Bool :=
  s.est.mode = .waitRestore || (s.est.mode = .coldConverging && decide (absR (s.met.coulomb : Int) ≤ capStr s / 1000))

/-- The judgement of R263: status and reason of the first failure. -/
def judgeBlob (s : State) (b : Bytes) : Option (Nat × Nat) :=
  let keyOk := blobMacOk s.idn.estKey b || (match s.pair.partnerKey with | some k => blobMacOk k b | none => false)
  let t := blobTime b
  if !(restoreOpen s) then some (stRange, 1)
  else if !(blobHeaderOk b) then some (stIntegrity, 2)
  else if !(blobCrcOk b) then some (stIntegrity, 3)
  else if !keyOk then some (stIntegrity, 4)
  else if !(blobGeoOk s b) then some (stRange, 5)
  else if getN b 20 8 ≤ s.est.lastBlob || s.idn.dawnCnt ≤ getN b 24 4 then some (stIntegrity, 6)
  else if s.tb.rtcLost || s.tb.time + secNs 1 < t || t + secNs (3600 * s.cfg.cell.restoreAgeMax) < s.tb.time then some (stRange, 7)
  else if !(blobBandsOk s b) then some (stRange, 8)
  else none

/-- The estimator takes a blob's state (R263): charge, flags and filter state, with the uncertainty widened for its age
and, unless `AT_REST` is set, for one export period at the rated current. -/
def applyBlob (fromPartner : Bool) (b : Bytes) (s : State) : State :=
  let days : Rat := ((s.tb.time - blobTime b : Nat) : Rat) / 86400000000000
  let atRest := bitAt (getN b 40 2) 0
  let wide := fun (sg cap : Rat) =>
    let a := days * (5 / 1000)
    let c : Rat := if atRest || cap = 0 then 0 else (s.cfg.conv.iRated : Rat) * s.cfg.cell.exportPeriod * 1000 / cap
    snap (sg * sg + a * a + c * c)
  let s1 := s |> onPoss fun p e =>
    let o := 64 + 32 * p
    let st := Config.estDecode (slice b (o + 16) 12)
    let x := snap ((getI b (o + 4) 8 : Rat) / e.cap)
    let fl := getN b (o + 12) 2
    { e with soc := some x, socRep := some (clampR e.socLo e.socHi x), forced := false
             va := getI st 0 4, vb := getI st 4 4, h := clampR (-1) 1 ((getI st 8 2 : Rat) / 32767)
             p00 := wide ((getN b (o + 2) 2 : Rat) / 10000) e.cap, p01 := 0, p02 := 0, p11 := 0, p12 := 0, p22 := 0
             fl := { e.fl with valid := true, chargeDisagree := bitAt fl 4, forcedEmpty := bitAt fl 5 } }
  let s2 := s1 |> onCells fun c x =>
    let o := 64 + 32 * geoP s + 32 * c
    let e := nth {} s1.tab.poss (c / geoS s)
    let cap := cellCap s1 e x
    { x with soc := some (snap ((getI b (o + 4) 8 : Rat) / cap)), cap := cap, dq := 0, var := wide ((getN b (o + 2) 2 : Rat) / 10000) e.cap
             fl := { x.fl with valid := true } }
  s2 |> onMet (fun m => { m with uncertain := false })
    |> onEst (fun e => { e with
        mode := .running, modeSince := s.tick.now, restoreResult := if fromPartner then e.restoreResult else some 0
        lastBlob := if fromPartner then e.lastBlob else getN b 20 8
        fromPartner := e.fromPartner || fromPartner, fromHost := e.fromHost || !fromPartner })
    |> onJrn (fun j => if fromPartner then j else { j with dirty := j.dirty.orElse fun _ => some s.tick.now })
    |> log srcApp1 0x0602 1 (u16 (b2n fromPartner) ++ u64 (getN b 20 8)) |> stringFigures

/-- A refused restore (R263). -/
def rejectBlob (reason : Nat) (s : State) : State :=
  s |> onEst (fun e => { e with restoreResult := some reason }) |> log srcApp1 0x0603 2 (u8 reason)

end Sys2Proof.Machine
end

