-- ==== Sys2Proof/Machine/Loops.lean ====
section
/-! DEFINITION. The arithmetic of the 16 loop slots (R305 to R307, R311), shared by the converter and the thermal
loops. -/
namespace Sys2Proof.Machine

/-- A 64-bit accumulator or product (R306). -/
def w64 (x : Int) : Int := signed 64 (unsigned 64 x)

/-- The error with the dead band (R305, R306). -/
def deadE (r : SlotRec) (e : Int) : Int := if e.natAbs < r.deadband then 0 else e

/-- The candidate integral state of R306. -/
def slotXi (x : Slot) (e : Int) : Int :=
  let r := x.live
  if r.mode = 1 then w64 (x.xi + shr (w64 (r.ki * e)) r.shKi) else w64 (shr (w64 (r.ai * x.xi)) r.shAi + shr (w64 (r.ki * e)) r.shKi)

/-- The derivative state of R306. -/
def slotXd (x : Slot) (e : Int) : Int := w64 (shr (w64 (x.live.ad * x.xd)) x.live.shAd + shr (w64 (x.live.kd * (e - x.ePrev))) x.live.shKd)

/-- v of R306: proportional, integral and derivative parts with the feed-forward. -/
def slotV (x : Slot) (e f : Int) : Int := shr (w64 (x.live.kp * e)) x.live.shKp + slotXi x e + slotXd x e + f

/-- One run's result taken into the slot (R306, R307): the integral state is kept while saturated. `hi` and `lo` are a
saturation from outside the slot's own limits. -/
def Slot.commit (x : Slot) (e v y : Int) (hi lo : Bool) : Slot :=
  let sat := v ≠ y || hi || lo
  { x with
    xi := if sat then x.xi else slotXi x e
    xd := slotXd x e, ePrev := e, y := y, started := true, enabled := x.live.mode ≠ 0
    satHi := decide (y < v) || hi, satLo := decide (v < y) || lo, intHeld := sat }

/-- The first run after a takeover (R312): the integral state is set so that the run gives the output `y`. -/
def Slot.runPreset (x : Slot) (e f y : Int) : Slot :=
  { x with
    xi := w64 (y - shr (w64 (x.live.kp * e)) x.live.shKp - slotXd x e - f)
    xd := slotXd x e, ePrev := e, y := y, started := true, enabled := true, softStart := false, preset := none
    satHi := false, satLo := false, intHeld := false }

/-- A working reference moved toward the commanded one by at most `RAMP` (R311); the `RAMP` of a disabled record has no effect (R305). -/
def SlotRec.rampTo (r : SlotRec) (ref cmd : Int) : Int :=
  if r.mode = 0 then cmd else if ref < cmd then min cmd (ref + r.ramp) else max cmd (ref - r.ramp)

/-- The working reference of a run (R311): measured at the first run of a soft start, then moving, then following. -/
def Slot.refer (x : Slot) (measured cmd : Int) : Slot :=
  if !x.started then { x with ref := measured, xi := 0, xd := 0, ePrev := 0, softStart := decide (measured ≠ cmd) }
  else if x.softStart then
    let r := x.live.rampTo x.ref cmd
    { x with ref := r, softStart := decide (r ≠ cmd) }
  else { x with ref := cmd }

/-- Slot `i` of the engine, and its change. -/
def slotAt (s : State) (i : Nat) : Slot := nth {} s.cnv.slots i
def onSlot (i : Nat) (g : Slot → Slot) (s : State) : State := s |> onCnv fun c => { c with slots := updAt g c.slots i }

end Sys2Proof.Machine
end

