-- ==== Sys2Proof/Machine/Thermal.lean ====
section
/-! DEFINITION. Cell temperature bands and sensors (R353, R354), thermal loops (R363 to R366), flow and leak inputs
(R367) and the chiller (R368). -/
namespace Sys2Proof.Machine

/-! ### Bands and effective temperatures (R336, R353) -/

/-- Band of a temperature by the edges alone. -/
def bandOf (edges : List Int) (t : Rat) : Nat := (edges.filter fun (e : Int) => decide ((e : Rat) ≤ t)).length

/-- A band moved up past every edge it lies 0.50 °C beyond. -/
def bandUp (edges : List Int) (t : Rat) : Nat → Nat → Nat
  | 0, b => b
  | f + 1, b => if b < 7 && decide (((nth 0 edges b : Int) : Rat) + 50 ≤ t) then bandUp edges t f (b + 1) else b

/-- And down. -/
def bandDown (edges : List Int) (t : Rat) : Nat → Nat → Nat
  | 0, b => b
  | f + 1, b => if 0 < b && decide (t ≤ ((nth 0 edges (b - 1) : Int) : Rat) - 50) then bandDown edges t f (b - 1) else b

/-- `T_BAND` with the 0.50 °C hysteresis; from the edges alone where there was none. -/
def bandStep (edges : List Int) (cur : Option Nat) (t : Rat) : Nat :=
  match cur with
  | none => bandOf edges t
  | some b => let u := bandUp edges t 8 b; if u = b then bandDown edges t 8 b else u

/-- Effective temperatures of R336: value, index (0x8000 + position for a `T_INT`), band. -/
def effTemps (s : State) : List (Rat × Nat × Nat) :=
  let a := mapI (fun i (e : TempEntry) => match s.tab.temp.val i, e.band with
    | some v, some b => if e.valid then [((v : Rat), i, b)] else []
    | _, _ => []) s.tab.temps
  let b := mapI (fun p (e : PosEntry) => match e.tInt with
    | some t => [((t : Rat), 0x8000 + p, bandOf s.cfg.therm.edges t)]
    | none => []) s.tab.poss
  (a ++ b).flatMap id

/-- The hottest or coldest of them; the first among equals. -/
def pickTemp (better : Rat → Rat → Bool) (l : List (Rat × Nat × Nat)) : Option (Rat × Nat × Nat) :=
  l.foldl (fun a x => match a with | none => some x | some y => if better x.1 y.1 then some x else a) none
def hottest (s : State) : Option (Rat × Nat × Nat) := pickTemp (fun a b => decide (b < a)) (effTemps s)
def coldest (s : State) : Option (Rat × Nat × Nat) := pickTemp (fun a b => decide (a < b)) (effTemps s)

/-- The hottest, coldest and mean cell temperatures published (R371, R364). -/
def thermScan (s : State) : State :=
  let h := hottest s
  let c := coldest s
  let valid := (mapI (fun i (e : TempEntry) => if e.valid then (s.tab.temp.val i).map fun v => (v : Rat) else none) s.tab.temps).filterMap id
  s |> onThm fun t => { t with
    tHot := h.map fun x => roundAway x.1, tHotIdx := h.map (·.2.1)
    tCold := c.map fun x => roundAway x.1, tColdIdx := c.map (·.2.1)
    tMean := (meanR valid).map roundAway
    brokenCnt := (s.tab.temps.filter (·.broken)).length }

/-! ### TEMPERATURE_SET_COMPLETE (R354) -/

/-- Readings the median test of a sensor uses: valid, unbroken, fitted sensors of its position and its two neighbours. -/
def medianPeers (s : State) (g : Bank) (got : Nat → Bool) (i : Nat) : List Rat :=
  let p := i / 8
  ((List.range 24).filterMap fun k =>
    if p = 0 && k < 8 then none
    else
      let j := 8 * p + k - 8
      let e := nth {} s.tab.temps j
      if j = i || !e.fitted || e.broken || !(got j) || geoP s ≤ j / 8 then none
      else match g.val j with
        | some v => if -4000 ≤ v && decide (v ≤ 15000) then some (v : Rat) else none
        | none => none)

/-- The reference of the median test; none with fewer than 3 peers. -/
def peerMedian (s : State) (g : Bank) (got : Nat → Bool) (i : Nat) : Option Rat :=
  let l := medianPeers s g got i
  if l.length < 3 then none else medianR l

/-- A broken test of R354 holds. -/
def brokenTest (s : State) (got : Bool) (v : Option Int) (m : Option Rat) : Bool :=
  got && (match v with
    | none => true
    | some x => decide (x < -4000) || decide (15000 < x) || (match m with | some y => decide ((x : Rat) < y - s.cfg.therm.tBrokenDev) | none => false))

/-- One sensor judged on a complete bank. -/
def judgeSensor (s0 : State) (g : Bank) (got : Nat → Bool) (i : Nat) (s : State) : State :=
  let e := nth {} s.tab.temps i
  if !e.fitted then s
  else
    let v := g.val i
    let m := peerMedian s0 g got i
    let bad := brokenTest s0 (got i) v m
    let run := if bad then e.brokenRun + 1 else 0
    let broken := e.broken || decide (3 ≤ run)
    let valid := got i && v.isSome && !broken
    let hot := match v, m with | some x, some y => got i && !e.broken && decide (y + s0.cfg.therm.tBrokenDev < (x : Rat)) | _, _ => false
    let e1 := { e with
      brokenRun := run, broken := broken, valid := valid
      stale := e.stale && v.isNone
      band := match valid, v with | true, some x => some (bandStep s0.cfg.therm.edges e.band x) | _, _ => none
      age := tempAge s0 e
      outlierLogged := e.outlierLogged || hot }
    let refv := optI 16 (m.map roundAway)
    let s1 := s |> onTab fun t => { t with temps := setAt t.temps i e1 }
    let s2 := if broken && !e.broken then
        s1 |> log srcApp2 0x0910 2 (u16 i ++ i16 (optI 16 v) ++ i16 refv) |> raiseTw 5
      else s1
    if hot && !e.outlierLogged then log srcApp2 0x0911 1 (u16 i ++ i16 (optI 16 v) ++ i16 refv) s2 else s2

/-- TEMPERATURE_SET_COMPLETE: the bank is marked complete; marks, bands and effective temperatures follow (R24, R206,
R353, R354). The set ends with cycle 49, or late (R28 item 0x25, R31); thermal control takes it. -/
def execTemperatureSetComplete (s : State) : Host.Outcome State Fault Refusal :=
  if (s.tab.temp.get s.tab.temp.filling).st ≠ 1 || isSp s || !(coresRun s) || !((s.tick.c = 49 && decide (4 ≤ s.tick.f)) || lateRun 5 s) then .next s
  else
    let got := fun (i : Nat) => (monAt s (placeOf (i / 8))).tDone && admittedAt s (placeOf (i / 8))
    let s1 := s |> onTab (fun t => { t with temp := (t.temp.release rdThermal).complete.take rdThermal })
    let g := s1.tab.temp.current.getD {}
    let s2 := (List.range (8 * geoP s)).foldl (fun t i => judgeSensor s1 g got i t) s1
    let s3 := s2 |> onMons fun m x => { x with tStale := x.tStale && (List.range (8 * placeN s m)).any fun i => (nth {} s2.tab.temps (128 * m + i)).stale }
    let s3 := if s3.tab.temps.any (·.stale) then s3 else clearTw 4 s3
    .next (runDone 5 (thermScan s3))

/-! ### Thermal loops (R363 to R367) -/

/-- States in which slots 6 to 15 run (R363); after a Dawn that ended in FAULT every output keeps its Dawn state (R131). -/
def thermalRuns (s : State) : Bool :=
  !s.cfg.fallback && s.dawn.fail = 0 && !(isSp s) && s.cfg.therm.present &&
    (match s.str.state with | .standby => true | .precharge => true | .closed => true | .run => true | .twilight => true | .stopping => true | .fault => true | _ => false)

/-- Input of a slot by `IO_SEL`[0] (R364); none where it has no valid value. -/
def thermInput (s : State) (sel : Nat) : Option Int :=
  if sel < 8 then nth none s.met.tNtc sel
  else if sel = 8 then s.thm.tHot
  else if sel = 9 then s.thm.tCold
  else if sel = 0x0A then s.thm.tMean
  else if 0x10 ≤ sel && sel ≤ 0x13 then (nth {} s.thm.di (sel - 0x10)).flow.map fun f => (f : Int)
  else if 0x18 ≤ sel && sel ≤ 0x1B then some (if (nth {} s.thm.di (sel - 0x18)).on then 10000 else 0)
  else none

/-- `COOL_SET` of R365. -/
def coolSet (s : State) : Int :=
  let t := s.cfg.therm
  match s.thm.tHot with
  | none => t.cellTarget
  | some h => clampI t.coolMin t.coolMax (t.cellTarget - divRound (t.coolGain * (h - t.cellTarget)) 100)

/-- `HEAT_REQUEST` of R365. -/
def heatReq (s : State) : Bool :=
  match s.thm.tCold with
  | none => false
  | some c => decide (c < s.cfg.therm.heatOn) || (s.thm.heatReq && decide (c < s.cfg.therm.heatOn + 200))

/-- Reference of a slot by `REF_SRC` (R365). -/
def thermRef (s : State) (x : ThermExt) : Int :=
  if x.refSrc = 0 then x.refValue
  else if x.refSrc = 1 then coolSet s
  else (nth {} s.thm.slots (x.refSrc - 0x16)).out

/-- The slot takes a flow input (R364). -/
def flowSlot (r : SlotRec) : Bool := 0x10 ≤ r.ioIn && r.ioIn ≤ 0x1B

/-- A leak is present on any input. -/
def leakNow (s : State) : Bool := s.thm.di.any (·.leak)

/-- The slot is due: 6 to 9 in frame 5 by cycles, or in the late run of that frame (R31), 10 to 15 by frames (R363). `k` counts
from slot 6. -/
def thermDue (s : State) (k : Nat) (r : SlotRec) : Bool :=
  r.mode ≠ 0 && r.rate ≠ 0 &&
    (if k < 4 then (s.tick.f = 5 || lateRun 7 s) && s.tick.c % (r.rate / 10) = 0 else (10 * s.tick.c + s.tick.f) % r.rate = 0)

/-- Thermal slot `k` (slot 6 + k) changed. -/
def onTherm (k : Nat) (g : ThermSlot → ThermSlot) (s : State) : State := s |> onThm fun t => { t with slots := updAt g t.slots k }

/-- A slot at its `FAILSAFE` output, its states held (R366). -/
def thermHold (k : Nat) (s : State) : State :=
  let x := nth {} s.cfg.therm.ext k
  s |> onTherm k (fun t => { t with out := x.failsafe, failsafe := true })
    |> onSlot (6 + k) (fun sl => { sl with intHeld := true, started := false, y := x.failsafe, enabled := true })

/-- One run of thermal slot `k` (R306, R363 to R366). -/
def thermSlotRun (k : Nat) (s : State) : State :=
  let r := nth {} s.cfg.therm.slots k
  let x := nth {} s.cfg.therm.ext k
  let t := nth {} s.thm.slots k
  if !(thermDue s k r) then s
  else
    let ref := thermRef s x
    match thermInput s r.ioIn with
    | none =>
      let s1 := s |> thermHold k |> onTherm k (fun y => { y with input := none, ref := some ref, lost := true })
      if t.lost then s1 else log srcApp2 0x0912 2 (u16 (6 + k) ++ u8 r.ioIn) s1
    | some v =>
      let s0 := if t.lost then s |> onTherm k (fun y => { y with lost := false }) |> log srcApp2 0x0913 1 (u16 (6 + k)) else s
      if leakNow s && flowSlot r then s0 |> thermHold k |> onTherm k (fun y => { y with input := some v, ref := some ref })
      else
        let sl := (slotAt s0 (6 + k)).refer v ref
        let e := deadE sl.live (sl.ref - v)
        let vv := slotV sl e 0
        let y := clampI sl.live.yMin sl.live.yMax vv
        s0 |> onSlot (6 + k) (fun _ => sl.commit e vv y false false)
          |> onTherm k (fun z => { z with input := some v, ref := some ref, out := y, failsafe := false })

/-- J15 outputs and the chiller demand from the slots that name them (R364, R131). -/
def thermOutputs (s : State) : State :=
  let outOf := fun (sel : Nat) => (mapI (fun k (r : SlotRec) => if r.mode ≠ 0 && r.ioOut = sel then some (nth {} s.thm.slots k).out else none) s.cfg.therm.slots).findSome? id
  s |> onThm fun t => { t with
    pwm := (List.range 4).map fun k => ((outOf k).getD 0).toNat
    ao := (List.range 2).map fun k => ((outOf (0x10 + k)).getD 0).toNat
    aoHiZ := isSp s, demand := (outOf 0x20).getD 0 }

/-- A flow input's lost condition: too little flow while a slot with this input puts out more than 20 % of its `Y_MAX`; a
leak input's: de-energized (R367). -/
def diBad (s : State) (k : Nat) (d : DiIn) : Bool :=
  let m := nth 0 s.cfg.therm.diMode k
  let load := (mapI (fun i (r : SlotRec) => r.mode ≠ 0 && (r.ioIn = 0x10 + k || r.ioIn = 0x18 + k) &&
    decide (r.yMax < 5 * (nth {} s.thm.slots i).out)) s.cfg.therm.slots).any id
  match m with
  | 1 => decide (d.flow.getD 0 < nth 0 s.cfg.therm.flowMin k) && load
  | 2 => !d.on && load
  | 3 => !d.on
  | _ => false

/-- The condition that lets it clear. -/
def diGood (s : State) (k : Nat) (d : DiIn) : Bool :=
  match nth 0 s.cfg.therm.diMode k with
  | 1 => decide (nth 0 s.cfg.therm.flowMin k ≤ d.flow.getD 0)
  | 2 => d.on
  | 3 => d.on
  | _ => true

/-- The DI inputs as sampled, with the times their conditions have held; energizing is an event of sources 181 to 184. -/
def takeDi (di : List Bool) (flow : List Nat) (s : State) : State :=
  let rose := (List.range 4).filter fun k => nth false di k && !(nth {} s.thm.di k).on
  let s1 := s |> onThm fun t => { t with di := mapI (fun k (d : DiIn) => { d with
      on := nth false di k
      flow := if nth 0 s.cfg.therm.diMode k = 1 then some (fitN 16 (nth 0 flow k)) else none }) t.di }
  let s2 := s1 |> onThm fun t => { t with di := mapI (fun k (d : DiIn) => { d with
      badSince := if diBad s1 k d then d.badSince.orElse (fun _ => some s.tick.now) else none
      goodSince := if diGood s1 k d then d.goodSince.orElse (fun _ => some s.tick.now) else none }) t.di }
  rose.foldl (fun t k => irqEvent (181 + k) true t) s2

/-- Thermal control releases its temperature bank (R24). -/
def releaseTherm (s : State) : State := s |> onTab fun t => { t with temp := t.temp.release rdThermal }

/-- THERMAL_LOOPS: in tick 3 the DI inputs are taken and slots 6 to 15 that are due run in index order (R28 item 0x27,
R363), or a late run completes (R31); in SERVICE every output holds `FAILSAFE`. Below Noon and in a freeze nothing runs (R32). -/
def execThermalLoops (di : List Bool) (flow : List Nat) (s : State) : Host.Outcome State Fault Refusal :=
  let s1 := takeDi di flow s
  if !(coresRun s) || !(s.tick.j = 3 || lateRun 7 s) then .next s
  else if thermalRuns s then
    let s2 := s1 |> onThm fun t => { t with coolSet := some (coolSet s1), heatReq := heatReq s1, loopsRun := true, serviceHold := false }
    .next (runDone 7 (releaseTherm (thermOutputs ((List.range 10).foldl (fun t k => thermSlotRun k t) s2))))
  else if s.str.state = .service && s.cfg.therm.present && s.dawn.fail = 0 && !(isSp s) then
    let ks := (List.range 10).filter fun k => (nth {} s.cfg.therm.slots k).mode ≠ 0
    .next (thermOutputs (ks.foldl (fun t k => thermHold k t) (s1 |> onThm fun t => { t with loopsRun := false, serviceHold := true })))
  else .next (thermOff s1)

/-- The Twilight cause of flow and leak clears when neither is left (R399 bit 7). -/
def flowTw (s : State) : State := if s.thm.di.any (fun d => d.flowLost || d.leak) then s else clearTw 7 s

/-- DI input changed. -/
def onDi (k : Nat) (g : DiIn → DiIn) (s : State) : State := s |> onThm fun t => { t with di := updAt g t.di k }

/-- A time has passed since an optional instant. -/
def heldFor (s : State) (t : Option Nat) (dur : Nat) : Bool := match t with | some x => elapsed s x dur | none => false

/-- DI mode of an input: flow (1, 2) or leak (3). -/
def diIsFlow (s : State) (k : Nat) : Bool := nth 0 s.cfg.therm.diMode k = 1 || nth 0 s.cfg.therm.diMode k = 2

/-- FLOW_LOST (R367). -/
def execFlowLost (di : Nat) (s : State) : Host.Outcome State Fault Refusal :=
  let d := nth {} s.thm.di di
  if 4 ≤ di || isSp s || !(coresRun s) || !(diIsFlow s di) || d.flowLost || !(heldFor s d.badSince (secNs 5)) then .next s
  else .next (s |> onDi di (fun d => { d with flowLost := true }) |> log srcApp2 0x0915 2 (u16 di ++ u16 (optN 16 d.flow)) |> raiseTw 7)

/-- FLOW_RESTORED (R367). -/
def execFlowRestored (di : Nat) (s : State) : Host.Outcome State Fault Refusal :=
  let d := nth {} s.thm.di di
  if isSp s || !d.flowLost || !(heldFor s d.goodSince (secNs 30)) then .next s
  else .next (flowTw (s |> onDi di fun d => { d with flowLost := false }))

/-- LEAK_DETECTED: flow slots take `FAILSAFE` at once (R367). -/
def execLeakDetected (di : Nat) (s : State) : Host.Outcome State Fault Refusal :=
  let d := nth {} s.thm.di di
  if 4 ≤ di || isSp s || !(coresRun s) || nth 0 s.cfg.therm.diMode di ≠ 3 || d.leak || !(heldFor s d.badSince (secNs 1)) then .next s
  else
    let s1 := s |> onDi di (fun d => { d with leak := true }) |> log srcApp2 0x0914 2 (u16 di) |> raiseTw 7
    let ks := (List.range 10).filter fun k => let r := nth {} s.cfg.therm.slots k; r.mode ≠ 0 && flowSlot r
    .next (if thermalRuns s then thermOutputs (ks.foldl (fun t k => thermHold k t) s1) else s1)

/-- LEAK_CLEARED (R367). -/
def execLeakCleared (di : Nat) (s : State) : Host.Outcome State Fault Refusal :=
  let d := nth {} s.thm.di di
  if isSp s || !d.leak || !(heldFor s d.goodSince (secNs 60)) then .next s
  else .next (flowTw (s |> onDi di fun d => { d with leak := false }))

/-! ### Chiller (R368) -/

/-- Both main contactors read closed. -/
def mainsClosed (s : State) : Bool := s.cont.c0.aux && s.cont.c1.aux

/-- Chiller messages are configured and this module sends them. -/
def chillerOn (s : State) : Bool := decide (s.cfg.can.chPort < 2) && owning s && s.cfg.therm.present && !s.cfg.fallback

/-- CHILLER_REQUEST: the request goes to mailbox 1 of the chiller's port (R368, R468). -/
def execChillerRequest (s : State) : Host.Outcome State Fault Refusal :=
  if !(chillerOn s) || !(elapsed s s.thm.chReqAt (msNs s.cfg.therm.chPeriod)) then .next s
  else
    let q := (s.thm.chSeq + 1) % 256
    let fl := bitsOf [mainsClosed s, leakNow s, s.prot.fireIn.active, s.thm.slots.any (·.failsafe), s.thm.heatReq]
    let data := i16 s.thm.demand ++ i16 (optI 16 s.thm.coolSet) ++ u8 fl ++ u8 q ++ u16 0
    .next (s |> onThm (fun t => { t with chSeq := q, chReqAt := s.tick.now })
      |> onCtl s.cfg.can.chPort (fun c => c.write 1 s.cfg.can.chReqId data))

/-- CHILLER_STATUS_RECEIVED: the oldest status in the port's receive ring is judged (R368, R470). -/
def execChillerStatusReceived (s : State) : Host.Outcome State Fault Refusal :=
  let n := 24 + s.cfg.can.chPort
  match (ringAt s n).pkts with
  | [] => .next s
  | p :: _ =>
    let d := p.bytes.drop 4
    let q := getN d 5 1
    let s1 := ringRel n s
    if !(chillerOn s) || s.thm.chsSeq = some q then .next s1
    else
      let f := getN d 4 1
      let fault := bitAt f 1
      let s2 := s1 |> onThm fun t => { t with
        chsSeq := some q, chTSupply := some (getI d 0 2), chFlags := f, chAt := s.tick.now, chLost := false, chFault := fault
        chLostAt := if fault && !t.chFault && !t.chLost then s.tick.now else t.chLostAt }
      let s3 := if s.thm.chLost || (s.thm.chFault && !fault) then log srcApp2 0x0918 1 (u32 (sinceNs s s.thm.chLostAt / 1000000)) s2 else s2
      .next (if fault && !s.thm.chFault then log srcApp2 0x0917 2 (u8 f) s3 else s3)

/-- CHILLER_LOST: no valid status for `CHILLER_TIMEOUT` (R368). -/
def execChillerLost (s : State) : Host.Outcome State Fault Refusal :=
  if !(chillerOn s) || s.thm.chLost || !(elapsed s s.thm.chAt (msNs s.cfg.therm.chTimeout)) then .next s
  else .next (s |> onThm (fun t => { t with chLost := true, chLostAt := if t.chFault then t.chLostAt else s.tick.now })
    |> log srcApp2 0x0916 2 (u32 (sinceNs s s.thm.chAt / 1000000)))

end Sys2Proof.Machine
end

