-- ==== Sys2Proof/Machine/Balancing.lean ====
section
/-! DEFINITION. Balancing (R355 to R361): the schedule, the BAL frame, application instants, resolution and the
campaign. -/
namespace Sys2Proof.Machine

/-! ### Skaley frames in the transmit queue (R196, R488) -/

/-- A frame goes into the transmit queue of its port. -/
def sklQueue (f : SklFrame) (s : State) : State :=
  s |> onSkl (fun l => { l with queue := l.queue ++ [f] }) |> ringPut (if f.port = 0 then 16 else 18) (mkPacket f.type_ f.payload)

/-- Ports a round frame goes out from: both while a break is declared and not healed, else A alone (R215). -/
def roundPorts (s : State) : List Nat := if s.skl.broken then [0, 1] else [0]

/-- A round frame from every port it needs. -/
def sklRound (type_ : Nat) (payload : Bytes) (s : State) : State :=
  (roundPorts s).foldl (fun t p => sklQueue { type_ := type_, dest := 0xFE, payload := payload, port := p } t) s

/-- The port that reaches a place (R215). -/
def portOf (s : State) (m : Nat) : Nat := if s.skl.broken && (monAt s m).viaB then 1 else 0

/-- A frame to one place. -/
def sklTo (type_ m : Nat) (payload : Bytes) (s : State) : State :=
  sklQueue { type_ := type_, dest := m, payload := payload, port := portOf s m } s

/-- `FRAME_NO` of the frame `k` frames from now (R198). -/
def frameNo (s : State) (k : Nat) : Nat := (s.tb.time / 1000000 + k) % 4294967296

/-! ### The set (R356, R357) -/

/-- A local time falls from the start to the end of the running lock-in's integration (R209, R288). -/
def lockinAt (s : State) (t : Nat) : Bool :=
  s.skl.lockinOn && decide (t ≤ s.imp.lockEnd) && (match s.imp.sweep with | some w => decide (w.startAt ≤ t) | none => true)

/-- A lock-in integrates at present. -/
def lockinIntegrates (s : State) : Bool := lockinAt s s.tick.now

/-- Frames from now to frame 5 of the next cycle with c mod 10 = 5 that a BAL sent from here still reaches, past the instants that a
lock-in skips (R357). -/
def framesToApply (s : State) : Nat :=
  let k := (s.tick.c % 10) * 10 + s.tick.f
  let n := if k < 54 then 55 - k else 155 - k
  let at_ := s.tick.now - s.tick.j * 50000 + n * 1000000
  if lockinAt s at_ then n + 100 * ((s.imp.lockEnd - at_) / 100000000 + 1) else n

/-- The BAL payload: request, and per place the commands with room for the answer. -/
def balPayload (s : State) (apply : Nat) : Bytes :=
  u16 s.bal.balId ++ u8 (geoM s) ++ u8 0 ++ u32 apply
    ++ (List.range (geoM s)).flatMap fun m =>
      ((List.range 16).flatMap fun k => iLe 1 ((nth {} s.bal.pos (16 * m + k)).next / 50)) ++ List.replicate 12 0

/-- A new set stands for the next application instant. -/
def newSet (s : State) : State := s |> onBal fun b => { b with balId := (b.balId + 1) % 65536, waiting := true, answers := [] }

/-- The set for the next application instant is queued. -/
def queueBal (s : State) : State := sklRound 8 (balPayload s (frameNo s (framesToApply s))) s

/-- A zeroing set goes out at once (R357). -/
def sendBal (s : State) : State := queueBal (newSet s)

/-- In each frame 4 to 9, but those of cycle 3 in which the schedule is computed, the waiting set goes out while a reachable place has
not accepted it (R357): the scheduled one from cycle 4 on. -/
def balTraffic (s : State) : State :=
  let open_ := (List.range (geoM s)).any fun m => (monAt s m).reachable && !(s.bal.answers.any fun a => a.1 = m)
  if s.bal.waiting && 4 ≤ s.tick.f && s.tick.c ≠ 3 && open_ && !((s.skl.queue ++ s.skl.flight).any fun f => f.type_ = 8) then queueBal s else s

/-- The schedule takes its banks at the latch of frame 8 of cycle 3 (R24, R357). -/
def balTakes (s : State) : State :=
  if s.tick.c = 3 && s.tick.f = 8 && s.tb.time % 1000000000 < 500000000 then
    s |> onTab fun t => { t with volt := t.volt.take rdBal, temp := t.temp.take rdBal }
  else s

/-! ### The schedule (R359, R360) -/

/-- Automatic balancing or a campaign commands currents in this state. -/
def balStates (s : State) : Bool := match s.str.state with | .standby => true | .closed => true | .run => true | .twilight => true | _ => false
def campaignRuns (s : State) : Bool := match s.bal.campaign with | some c => !c.suspended | none => false
def balRuns (s : State) : Bool := balStates s && (s.cfg.bal.mode = 1 || campaignRuns s)

/-- `BAL_STATE` of R371. -/
def balState (s : State) : Nat :=
  if !(balStates s) && (s.cfg.bal.mode = 1 || s.bal.campaign.isSome) then 4
  else if campaignRuns s then 2
  else if s.cfg.bal.mode = 1 then 1
  else if s.bal.campaign.isSome then 3 else 0

/-- Deadband in force, a fraction. -/
def balDb (s : State) : Rat :=
  match s.bal.campaign with
  | some c => (if c.suspended then s.cfg.bal.deadband else c.deadband : Nat) / 10000
  | none => (s.cfg.bal.deadband : Rat) / 10000

/-- The position is eligible (R359). -/
def balEligible (s : State) (p : Nat) : Bool :=
  let e := nth {} s.tab.poss p
  s.est.mode = .running && e.fl.converged && decide (posSigma e ≤ (s.cfg.bal.sigmaMax : Rat) / 10000) &&
    admittedAt s (placeOf p) && !e.vStale && (s.tab.volt.valBy rdBal p).isSome && e.socRep.isSome &&
    (tempsBy rdBal s p).all fun t => decide ((s.cfg.bal.tMin : Rat) ≤ t) && decide (t ≤ s.cfg.bal.tMax)

/-- Voltage bounds of the schedule with their defaults (R362), 0.1 mV. -/
def balVMin (s : State) : Nat := if s.cfg.bal.vMin = 0 then s.cfg.cell.vCutoff else s.cfg.bal.vMin
def balVMax (s : State) : Nat := if s.cfg.bal.vMax = 0xFFFF then s.cfg.disp.vChgLo else s.cfg.bal.vMax

/-- SOC_ref of R359 over the eligible positions. -/
def balRef (s : State) (el : List Nat) : Option Rat :=
  let w := sumR (el.map fun p => (nth {} s.tab.poss p).cap)
  if w = 0 then none else some (sumR (el.map fun p => let e := nth {} s.tab.poss p; e.socRep.getD 0 * e.cap) / w)

/-- `active` of a position after the schedule. -/
def balActive (db dev : Rat) (was : Bool) : Bool :=
  let a := was && decide (db / 2 < absR dev)
  a || decide (db < absR dev)

/-- Unscaled current of an eligible position, mA. -/
def balRaw (s : State) (p : Nat) (dev : Rat) : Rat :=
  let e := nth {} s.tab.poss p
  let c := s.cfg.bal
  let i := clampR (-(c.iMax : Rat)) c.iMax (-dev * (e.cap / mAhUc) / ((c.horizon : Rat) / 60))
  let v := (s.tab.volt.valBy rdBal p).getD 0
  if i < 0 && v ≤ balVMin s then 0 else if 0 < i && (balVMax s : Int) ≤ v then 0 else i

/-- Rounded toward zero to a multiple of 50 mA. -/
def to50 (i : Rat) : Int := if 0 ≤ i then (i / 50).floor * 50 else -((-i / 50).floor * 50)

/-- The currents of the schedule. -/
def balCompute (s : State) : State :=
  let ps := List.range (geoP s)
  let el := ps.filter (balEligible s)
  let ref := balRef s el
  let run := balRuns s
  let db := balDb s
  let dev := fun p => (nth {} s.tab.poss p).socRep.getD 0 - ref.getD 0
  let act := fun p => el.contains p && balActive db (dev p) (nth {} s.bal.pos p).active
  let raw := fun p => if run && act p then balRaw s p (dev p) else 0
  let sums := (List.range (geoM s)).map fun m => sumR ((List.range (placeN s m)).map fun k => absR (raw (16 * m + k)))
  let cap : Rat := s.cfg.bal.monMax
  let scaled := fun p => let t := nth 0 sums (placeOf p); if cap < t then raw p * (cap / t) else raw p
  s |> onBal fun b => { b with
    st := balState s, socRef := ref, inelig := decide (el.length < ps.length), capped := sums.any fun t => decide (cap < t)
    pos := mapI (fun p x => { x with active := if run then act p else x.active, next := to50 (scaled p) }) b.pos
    campaign := b.campaign.map fun c => { c with outside := (el.filter fun p => decide ((c.deadband : Rat) / 10000 < absR (dev p))).length } }

/-- A campaign ends with a result (R361). -/
def endCampaign (res : Nat) (s : State) : State :=
  let r := campaignResult s res
  s |> onBal (fun b => { b with result := res }) |> closeOp 4 stOk |> endOp 4 stOk r

/-- The campaign judged after a schedule: every eligible position in band twice in a row ends it. -/
def judgeCampaign (s : State) : State :=
  match s.bal.campaign with
  | none => s
  | some c =>
    if c.suspended then s
    else
      let any := (List.range (geoP s)).any (balEligible s)
      let n := if any && c.outside = 0 then c.inBand + 1 else 0
      let s1 := s |> onBal fun b => { b with campaign := some { c with inBand := n } }
      if 2 ≤ n then endCampaign 1 s1 else s1

/-- BAL_SCHEDULE: in frames 8 and 9 of cycle 3 after a whole second, the schedule is computed on the banks balancing holds, and its
set stands for cycle 4 (R24, R357, R359, R361). -/
def execBalSchedule (s : State) : Host.Outcome State Fault Refusal :=
  if !(runsRing s) || s.tick.c ≠ 3 || s.tick.f < 8 || 500000000 ≤ s.tb.time % 1000000000 || geoP s = 0 then .next s
  else .next (judgeCampaign (balCompute s) |> newSet |> onTab fun t => { t with volt := t.volt.release rdBal, temp := t.temp.release rdBal })

/-- Every command 0 from the next application instant, where nothing may be commanded any more (R360, R361). -/
def balZero (s : State) : State :=
  if runsRing s && !(balRuns s) && s.bal.pos.any (fun x => x.next ≠ 0) then
    s |> onBal (fun b => { b with st := balState s, pos := b.pos.map fun x => { x with next := 0 } }) |> sendBal
  else s |> onBal fun b => { b with st := balState s }

/-! ### Application and resolution (R357, R358) -/

/-- What a monitor has applied for a position: the command where its bit is set, 0 mA elsewhere. -/
def appliedCur (word k : Nat) (cmd : Int) : Int := if bitAt word k then cmd else 0

/-- Charge moved by balancing since the last application instant, µC: into positions and out of them. -/
def balMoved (s : State) : Int × Int :=
  let dt : Rat := (sinceNs s s.bal.applyAt : Nat)
  let q := fun (f : Int → Bool) => roundAway (sumR (s.bal.pos.map fun x => if f x.cur then absR (x.cur : Int) * dt / 1000000 else 0))
  (q (fun i => decide (0 < i)), q (fun i => decide (i < 0)))

/-- Places that answered nothing for the set that takes effect now. -/
def silentPlaces (s : State) : List Nat :=
  if s.bal.waiting then (List.range (geoM s)).filter fun m => !(s.bal.answers.any fun a => a.1 = m) && !(nth false s.bal.monWatch m) else []

/-- The set takes effect. -/
def applyBal (s : State) : State :=
  let mv := balMoved s
  let silent := silentPlaces s
  let s1 := s |> onBal fun b => { b with
    chargeIn := b.chargeIn + mv.1, chargeOut := b.chargeOut + mv.2
    pos := mapI (fun p (x : BalPos) =>
      let m := placeOf p
      let cmd := if b.waiting then x.next else x.cmd
      if nth false b.monWatch m then { x with old := x.cur, cmd := cmd, cur := 0, unresolved := false }
      else if !b.waiting then { x with old := x.cur }
      else match b.answers.find? (fun a => a.1 = m) with
        | some a => { x with old := x.cur, cmd := cmd, cur := appliedCur a.2 (p % 16) cmd, unresolved := false }
        | none => { x with old := x.cur, cmd := cmd, cur := (x.cur + cmd).tdiv 2, unresolved := true }) b.pos
    curId := if b.waiting then b.balId else b.curId, waiting := false, answers := []
    monUnres := mapI (fun m u => u || silent.contains m) b.monUnres
    deferred := false, applyTime := some s.tb.time, applyAt := s.tick.now }
  silent.foldl (fun t m => log srcApp2 0x0902 1 (u16 m ++ u16 t.bal.curId) t) s1

/-- BAL_APPLICATION_INSTANT: frame 5 of a cycle with c mod 10 = 5. Inside a lock-in integration it is skipped (R288, R357);
else the set takes effect, and a place without its answer is unresolved (R358). -/
def execBalApplicationInstant (s : State) : Host.Outcome State Fault Refusal :=
  if !(runsRing s) || s.tick.c % 10 ≠ 5 || s.tick.f ≠ 5 then .next s
  else if lockinIntegrates s then
    .next (s |> onBal (fun b => { b with deferred := true }) |> log srcApp2 0x0905 0 (u64 s.tb.time))
  else .next (applyBal s)

/-- Positions of a place resolved by what its monitor reports to run (R358). -/
def resolvePlace (m curId word : Nat) (s : State) : State :=
  s |> onBal fun b => { b with
    monUnres := setAt b.monUnres m false
    pos := mapI (fun p (x : BalPos) =>
      if placeOf p = m && x.unresolved then
        { x with unresolved := false, cur := if curId = b.curId then appliedCur word (p % 16) x.cmd else x.old }
      else x) b.pos }

/-- A monitor's block of a BAL frame, good under R199 (R356, R358). -/
def balBlock (m balId : Nat) (b : Bytes) (s : State) : State :=
  let word := getN b 16 2
  let cur := getN b 18 2
  let st := getN b 20 1
  let s1 := s |> onMon m (fun x => { x with balAt := s.tick.now })
    |> onBal (fun q => { q with
        monStatus := setAt q.monStatus m st, tBal := setAt q.tBal m (some (getI b 22 2)), monWatch := setAt q.monWatch m false
        watchdog := (setAt q.monWatch m false).any id
        answers := if bitAt st 0 && q.waiting && balId = q.balId then q.answers.filter (fun a => a.1 ≠ m) ++ [(m, word)] else q.answers })
  let s2 := if bitAt st 2 then log srcApp2 0x0901 2 (u16 m ++ u8 st) s1 else s1
  if bitAt st 3 then
    if nth false s2.bal.monUnres m then s2
    else s2 |> onBal (fun q => { q with
        monUnres := setAt q.monUnres m true
        pos := mapI (fun p (x : BalPos) => if placeOf p = m then { x with unresolved := true, cur := (x.old + x.cmd).tdiv 2 } else x) q.pos })
      |> log srcApp2 0x0902 1 (u16 m ++ u16 s2.bal.curId)
  else if nth false s2.bal.monUnres m then resolvePlace m cur word s2 else s2

/-- BAL_WATCHDOG: 2,500 ms without a good block; the place counts as 0 mA from the next application instant (R358). -/
def execBalWatchdog (place : Nat) (s : State) : Host.Outcome State Fault Refusal :=
  let m := monAt s place
  if !(runsRing s) || geoM s ≤ place || m.balAt = 0 || nth false s.bal.monWatch place || !(elapsed s m.balAt (msNs 2500)) then .next s
  else .next (s |> onBal (fun b => { b with monWatch := setAt b.monWatch place true, watchdog := true }) |> log srcApp2 0x0903 2 (u16 place))

/-- Running time of the campaign, ns. -/
def campaignTime (s : State) (c : Campaign) : Nat := c.ran + (match c.since with | some t => sinceNs s t | none => 0)

/-- BC_TIME_MAX_REACHED (R361). -/
def execBcTimeMaxReached (s : State) : Host.Outcome State Fault Refusal :=
  match s.bal.campaign with
  | none => .next s
  | some c => if !c.suspended && secNs (60 * c.timeMax) ≤ campaignTime s c + 50000 then .next (balZero (endCampaign 2 s)) else .next s

end Sys2Proof.Machine
end

