-- ==== Sys2Proof/Machine/Can.lean ====
section
/-! DEFINITION. CAN FD controller rows (R463 to R474). -/
namespace Sys2Proof.Machine

/-- Error counters as record data: port, `CAN_TEC`, `CAN_REC` (R474). -/
def canCounters (ctl : Nat) (c : CanCtl) : Bytes := u16 ctl ++ u16 c.tec ++ u8 c.recv

/-- Error passive while either counter exceeds 127; each change is logged and is an event of source 156 or 157 (R471). -/
def canErrState (ctl : Nat) (s : State) : State :=
  let c := canAt s ctl
  let p := decide (127 < c.tec) || decide (127 < c.recv)
  if p = c.errPassive then s
  else s |> onCtl ctl (fun c => { c with errPassive := p })
    |> log srcComm (if p then 0x0D01 else 0x0D02) (if p then 1 else 0) (canCounters ctl c) |> irqEvent (156 + ctl) true

/-- CAN_BUS_INTEGRATION: a switched-on controller joins its bus; its counters restart at 0 (R467). -/
def execCanBusIntegration (ctl : Nat) (s : State) : Host.Outcome State Fault Refusal :=
  let c := canAt s ctl
  if 2 ≤ ctl || !c.running || c.onBus then .next s
  else .next (s |> onCtl ctl fun c => CanCtl.arb { c with onBus := true, tec := 0, recv := 0 })

/-- The receive counter after a frame received well (ISO 11898-1, R471). -/
def recAfterGood (n : Nat) : Nat := if 127 < n then 127 else n - 1

/-- CAN_FRAME_RECEIVED: a valid frame is acknowledged; a data frame with `CH_STS_ID` and 8 bytes goes with its stamp to
ring 24 or 25, dropped and counted when that is full; any other is discarded and counted (R470). -/
def execCanFrameReceived (ctl : Nat) (f : CanFrame) (s : State) : Host.Outcome State Fault Refusal :=
  let c := canAt s ctl
  if 2 ≤ ctl || !c.running || !c.onBus || c.busOff then .next s
  else
    let s1 := s |> onCtl ctl (fun c => { c with recv := recAfterGood c.recv }) |> canErrState ctl
    let p := mkPacket 0 (u32 (timeNs s) ++ f.data)
    if !f.remote && f.id = s.cfg.can.chStsId && f.data.length = 8 then
      if (ringAt s1 (24 + ctl)).fits p.len then
        .next (s1 |> onCtl ctl (fun c => { c with rxCnt := satInc 32 c.rxCnt }) |> ringPut (24 + ctl) p)
      else
        let g := c.gate.pass s
        let s2 := s1 |> onCtl ctl (fun c => { c with rxOverrun := satInc 32 c.rxOverrun, gate := g.2.2 }) |> ringPut (24 + ctl) p
        .next (if g.1 then log srcComm 0x0D05 1 (u16 ctl ++ u32 g.2.1) s2 else s2)
    else .next (s1 |> onCtl ctl fun c => { c with rxDiscard := satInc 32 c.rxDiscard })

/-- CAN_TX_COMPLETE: the ACTIVE mailbox is sent and DONE, or PENDING again with the content that waited; a completion record
goes to ring 26 or 27 and the next mailbox enters arbitration (R468, R470). `delay` is the transmitter delay measured under
R465. -/
def execCanTxComplete (ctl mb : Nat) (delay : Option Nat) (s : State) : Host.Outcome State Fault Refusal :=
  let c := canAt s ctl
  let m := nth {} c.mbs mb
  if 2 ≤ ctl || m.st ≠ .active then .next s
  else
    let m1 : Mailbox := match m.next with
      | some d => { m with st := .pending, data := d, next := none }
      | none => { m with st := .done }
    .next (s |> onCtl ctl (fun c => CanCtl.arb { c with
        mbs := setAt c.mbs mb m1, txCnt := satInc 32 c.txCnt, tec := c.tec - 1, sent := (mb, m.data) :: c.sent
        tdcDelay := if (canPort s ctl).tdc then delay.orElse (fun _ => c.tdcDelay) else c.tdcDelay })
      |> ringPut (26 + ctl) (mkPacket 0 (u8 mb ++ u32 (timeNs s))) |> canErrState ctl)

/-- A transmission that failed or lost arbitration: new content goes out in its place, else it is retried (R468). -/
def retryMailbox (m : Mailbox) : Mailbox :=
  if m.st = .active then
    match m.next with | some d => { m with st := .pending, data := d, next := none } | none => { m with st := .pending }
  else m

/-- Bus-off suspends every PENDING and ACTIVE mailbox with its content (R471). -/
def suspendMailbox (m : Mailbox) : Mailbox :=
  let x := retryMailbox m
  if x.st = .pending then { x with st := .suspended } else x

/-- CAN_BUS_ERROR: an error or a lost arbitration. The counters rise by what ISO 11898-1 gives for it; the ACTIVE mailbox
returns to the order, also after the acknowledgement error of a lone node, which raises neither counter; above 255 in the
transmit counter the controller goes bus-off (R468, R471). A secondary sample point beyond its range logs CAN_TDC_RANGE
(R465). -/
def execCanBusError (ctl tecInc recInc : Nat) (arbLost : Bool) (delay : Option Nat) (s : State) : Host.Outcome State Fault Refusal :=
  let c := canAt s ctl
  if 2 ≤ ctl || !c.running || !c.onBus || c.busOff then .next s
  else
    let s0 := match delay with
      | some d => if (canPort s ctl).tdc && decide (255 < d + (canPort s ctl).tdco) then log srcComm 0x0D06 2 (u16 ctl ++ u8 d) s else s
      | none => s
    let s1 := s0 |> onCtl ctl (fun c => { c with
        tec := c.tec + tecInc, recv := min (c.recv + recInc) 255
        tdcDelay := if (canPort s ctl).tdc then delay.orElse (fun _ => c.tdcDelay) else c.tdcDelay
        mbs := if arbLost || decide (0 < tecInc) || recInc = 0 then c.mbs.map retryMailbox else c.mbs })
      |> canErrState ctl
    if 255 < c.tec + tecInc then
      let mbs := (canAt s1 ctl).mbs.map suspendMailbox
      .next (s1 |> onCtl ctl (fun c => { c with busOff := true, offSince := s.tick.now, busOffCnt := satInc 32 c.busOffCnt, mbs := mbs })
        |> log srcComm 0x0D03 2 (u16 ctl ++ i32 (mbs.filter fun m => m.st = .suspended).length) |> irqEvent (156 + ctl) true)
    else .next (s1 |> onCtl ctl CanCtl.arb)

/-- CAN_BUS_OFF_RECOVERY: counters restart at 0, SUSPENDED mailboxes become PENDING and are ordered (R471). -/
def execCanBusOffRecovery (ctl : Nat) (s : State) : Host.Outcome State Fault Refusal :=
  let c := canAt s ctl
  if 2 ≤ ctl || !c.busOff then .next s
  else
    .next (s |> onCtl ctl (fun c => CanCtl.arb { c with
        busOff := false, tec := 0, recv := 0
        mbs := c.mbs.map fun m => if m.st = .suspended then { m with st := .pending } else m })
      |> log srcComm 0x0D04 1 (u16 ctl ++ i32 (sinceNs s c.offSince / 1000)) |> irqEvent (156 + ctl) true |> canErrState ctl)

/-- TRIP_COPY_RESEND: every 1 s while a PCS trip is latched the copy is written again (R469). -/
def execTripCopyResend (s : State) : Host.Outcome State Fault Refusal :=
  .next (if tripLatched s && elapsed s s.can.copyAt (secNs 1) then writeTripCopy s else s)

end Sys2Proof.Machine
end

