-- ==== Sys2Proof/Machine/Metrology.lean ====
section
/-! DEFINITION. Metrology (R154 to R193): the words of the ΔΣ and SAR channels and their means, the coulomb counter,
references, the spare channel, sequences, the housekeeping round and system calibration. -/
namespace Sys2Proof.Machine

/-- The metrology block runs: Noon and Afternoon (R155), with power. -/
def metRuns (s : State) : Bool := decide (s.lad.rung ≤ 1) && !s.lad.unpowered

/-- It runs, and step D6 has switched the references on and given the channels their filters (R128, R159, R160). -/
def metStarted (s : State) : Bool := metRuns s && (dsAt s 0).sincN ≠ 0

def sarAt (s : State) (n : Nat) : SarCh := nth {} s.met.sar n

/-! ### Calibration (R184, R185) -/

/-- What an index runs at: without a valid set, no offset and a gain of 1. -/
def CalSet.eff (c : CalSet) : CalSet := if c.present then c else { c with offset := 0, gain := 1073741824 }

/-- A raw word through a calibration set, rounded to nearest, ties away from zero. -/
def CalSet.apply (c : CalSet) (r : Int) : Int := divRound ((r - c.offset) * c.gain) 1073741824

/-- The channel DS7 stands in for. -/
def ds7Serves (s : State) : Option Nat := match s.met.ds7 with | .substituting ch => some ch | _ => none

/-- Calibration index of a ΔΣ channel in its present use (R184). -/
def dsCalIdx (s : State) (n : Nat) : Nat :=
  if n < 2 then 2 * n + (if (dsAt s n).gain4 then 1 else 0)
  else if n < 7 then n + 2
  else 7 + ds7Input s

/-- A word clamped at full scale (R164). -/
def dsClamp (x : Int) : Int := clampI (-8388607) 8388607 x

/-! ### Physical values (R161, R174, R188) -/

/-- DS2 to DS5 counts in 10 mV. -/
def dsVolt (counts : Rat) : Rat := counts * 240000 / 8388608

/-- SAR3 counts in 10 mV; SAR0 to SAR2 counts as phase current in mA. -/
def sarVolt (counts : Rat) : Rat := counts * 240000 / 32768
def sarMa (s : State) (k : Nat) (counts : Rat) : Rat := counts * 5 / 32768 * nth 0 s.cfg.conv.sens k

/-- Frame means `V_STR`, `V_BUS`, in 10 mV; none before the first. -/
def vStr (s : State) : Option Rat := (dsAt s 2).mean.map dsVolt
def vBus (s : State) : Option Rat := (dsAt s 3).mean.map dsVolt

/-- Tick values of R304, mV: the DS2 tick word and the SAR3 tick conversion. -/
def vStrTick (s : State) : Rat := dsVolt (dsAt s 2).word * 10
def vBusTick (s : State) : Rat := sarVolt (sarAt s 3).word * 10

/-- Phase current of the tick, mA, as converted. -/
def phaseMa (s : State) (k : Nat) : Rat := sarMa s k (sarAt s k).word

/-- Sum of the phase currents' frame means, the referee of R170, mA. -/
def refereeMa (s : State) : Rat := sumR ((List.range 3).map fun k => sarMa s k ((sarAt s k).mean.getD 0))

/-! ### Settling and reference switches (R159, R162) -/

/-- The ΔΣ channels switch reference: `REF_SETTLED` clears and every channel waits for it. -/
def switchRef (s : State) : State :=
  s |> onMet fun m => { m with refSettled := false, refSwitchedAt := s.tick.now, ds := m.ds.map fun c => c.unsettle true }

/-! ### Tick words (R154, R163, R164, R173, R175) -/

/-- Words a channel delivers in a tick of `len` ns: one, two or four in a tick of 50 µs, by M (R154). In a tick of another
length (R115) a started word may count. -/
def wordsPerTick (dec len : Nat) : Nat :=
  let m := if dec = 1 then 512 else if dec = 2 then 256 else 1024
  (len * 64 / 3125 + (m - 1)) / m

/-- One decimated word enters a channel; while `REF_SETTLED` is awaited it is flagged and not counted (R155, R159). -/
def DsCh.push (c : DsCh) (r : Int) : DsCh :=
  if c.waitRef then { c with settling := true, valid := false }
  else { c with settle := c.settle - 1, hist := (dsClamp r :: c.hist).take (max 1 c.postL) }

/-- The tick word of a channel: the mean of the last L words, calibrated and clamped. -/
def DsCh.latch (c : DsCh) (cal : CalSet) : DsCh :=
  if c.settling || c.failed || c.hist = [] then { c with valid := false }
  else
    let m := roundAway (sumR (c.hist.map fun (x : Int) => (x : Rat)) / c.hist.length)
    { c with word := dsClamp (cal.apply m), haveWord := true, valid := true }

/-- A frame's sum takes the tick word, held while no valid one comes (R163). -/
def DsCh.gather (c : DsCh) : DsCh := if c.haveWord then { c with acc := c.acc + c.word, accN := c.accN + 1 } else c

/-- At tick 0 the sums of the frame before wait for its frame latch, and the new frame's begin (R27, R160). -/
def DsCh.roll (c : DsCh) : DsCh := { c with frSum := c.acc, frN := c.accN, acc := 0, accN := 0 }
def SarCh.roll (c : SarCh) : SarCh := { c with frSum := c.acc, frN := c.accN, acc := 0, accN := 0 }

/-- The ΔΣ words of a tick. While DS7 stands in for a channel its words are that channel's. -/
def latchDs (words : List (List Int)) (len : Nat) (s : State) : State :=
  let ds := mapI (fun n (c : DsCh) =>
    (((nth [] words n).take (wordsPerTick c.dec len)).foldl DsCh.push c).latch (nth {} s.met.cal (dsCalIdx s n))) s.met.ds
  let d7 := nth {} ds 7
  let ok := d7.valid && !(capturing s 7)
  let ds1 := match ds7Serves s with
    | some ch => updAt (fun (c : DsCh) =>
        { c with substituted := true, valid := ok, haveWord := c.haveWord || ok, word := if ok then d7.word else c.word }) ds ch
    | none => ds
  s |> onMet fun m => { m with ds := ds1.map fun c => (if s.tick.j = 0 then c.roll else c).gather }

/-- The words that the comparison of a dwell takes: DS7's once it has settled, and those of the channel it shadows (R172). -/
def dwellGather (s : State) : State :=
  match s.met.ds7 with
  | .shadowing ch =>
    if !((dsAt s 7).valid) || !((dsAt s ch).valid) || capturing s 7 || capturing s ch then s
    else s |> onMet fun m => { m with dwell7 := m.dwell7 + (dsAt s 7).word, dwellCh := m.dwellCh + (dsAt s ch).word, dwellN := m.dwellN + 1 }
  | _ => s

/-- Raw words enter a capture of SYS_CAL, up to its 2,000 (R186). -/
def SysCal.take (c : SysCal) (rs : List Int) : SysCal :=
  let xs := rs.take (2000 - c.n)
  { c with n := c.n + xs.length, sum := xs.foldl (· + ·) c.sum, sumSq := xs.foldl (fun a x => a + x * x) c.sumSq }

/-- The raw words of a tick for a running capture: of the ΔΣ channel once it has settled, or the SAR's tick conversion. -/
def calGather (words : List (List Int)) (sar : List (Option Int)) (s : State) : State :=
  match s.met.sysCal with
  | none => s
  | some c =>
    if c.step ≠ 3 then s
    else if 14 ≤ c.index then s |> onMet fun m => { m with sysCal := some (c.take (nth none sar (c.index - 14)).toList) }
    else if (dsAt s (calCh c.index)).settling then s
    else s |> onMet fun m => { m with sysCal := some (c.take (nth [] words (calCh c.index))) }

/-- The tick conversions of the SARs (R175). -/
def latchSar (raw : List (Option Int)) (s : State) : State :=
  s |> onMet fun m => { m with sar := mapI (fun n (c0 : SarCh) =>
    let c := if s.tick.j = 0 then c0.roll else c0
    match nth none raw n with
    | none => { c with valid := false }
    | some r =>
      let w := clampI (-32767) 32767 ((nth {} s.met.cal (14 + n)).apply r)
      { c with word := w, valid := true, overrange := decide (32767 ≤ r.natAbs), acc := c.acc + w, accN := c.accN + 1 }) m.sar }

/-! ### The coulomb counter (R167 to R169) -/

/-- Charge of a boxcar sum over a tick of `len` ns, in 2^-32 µC. -/
def boxCharge (s : State) (ch : Nat) (b : Int) (n len : Nat) : Int :=
  let cal := nth {} s.met.cal (dsCalIdx s ch)
  if n = 0 then 0
  else
    let c := ((b : Rat) / n * 8388608 - cal.offset) * cal.gain / 1073741824
    (shuntMa s ch c * len / 1000000 * 4294967296).floor

/-- A counter with an increment in 2^-32 µC; the fraction is carried. -/
def CoulombCtr.add (c : CoulombCtr) (q : Int) : CoulombCtr :=
  let t := c.q * 4294967296 + c.frac + q
  { q := t / 4294967296, frac := (t % 4294967296).toNat }

/-- The counters of one tick: each channel's own, and the published one from the source, or from the other channel while
the source is frozen. -/
def coulombTick (box0 box1 : Int) (n len : Nat) (s : State) : State :=
  let q0 := boxCharge s 0 box0 n len
  let q1 := boxCharge s 1 box1 n len
  let frozen := s.met.frozen.map (·.1)
  let src1 : Bool := if s.met.srcDs1 then frozen ≠ some 1 else frozen = some 0
  let q := if src1 then q1 else q0
  s |> onMet fun m => { m with
    c0 := if frozen = some 0 then m.c0 else m.c0.add q0
    c1 := if frozen = some 1 then m.c1 else m.c1.add q1
    qTot := m.qTot.add q
    inTot := if 0 < q then m.inTot.add q else m.inTot
    outTot := if 0 < q then m.outTot else m.outTot.add (-q) }

/-! ### The frame latch of the means (R27, R157, R170) -/

/-- The means of the 20 tick words of the frame that has ended are formed, the coulomb total is copied, and the disagreement of
DS6 with its calibrated value is counted. -/
def latchMeans (s : State) : State :=
  let s1 := s |> onMet fun m => { m with
    ds := m.ds.map fun c => { c with mean := if c.frN = 0 then c.mean else some ((c.frSum : Rat) / c.frN), frSum := 0, frN := 0 }
    sar := m.sar.map fun c => { c with mean := if c.frN = 0 then c.mean else some ((c.frSum : Rat) / c.frN), frSum := 0, frN := 0, overrunLogged := false }
    frameStart := m.coulomb, ds1Start := m.ds1Latched, ds1Latched := m.c1.q
    coulomb := m.qTot.q, chargeIn := m.inTot.q, chargeOut := m.outTot.q
    vPe := [4, 5].map fun n => let c : DsCh := nth {} m.ds n; if c.haveWord then some (roundAway (dsVolt c.word)) else none }
  s1 |> onMet fun m =>
    match (nth {} m.ds 6).mean with
    | none => m
    | some x =>
      let d := absR (x / s.idn.ds6Cal - 1)
      { m with refD := d, refBadFrames := if 1 / 500 < d && (nth {} m.ds 6).valid then m.refBadFrames + 1 else 0 }

/-- The cause of R170 is latched or active: FAULT's, or a standby's local fault. -/
def crossCause (s : State) : Bool := (s.str.causes.any fun c => c.code = 0x030B || c.code = 0x030D) || s.pair.localFault

/-- The comparison of DS0 and DS1 at a frame latch (R170); 100 agreeing frames end the cause. DESIGN CHOICE (assumption 58): a
latch at which a channel's word is not VALID counts for neither run and breaks neither. -/
def crossCheck (s : State) : State :=
  match dsMeanMa s 0, dsMeanMa s 1 with
  | some a, some b =>
    if (dsAt s 0).failed || (dsAt s 1).failed || !((dsAt s 0).valid) || !((dsAt s 1).valid) then s
    else
      let bad := decide (maxR 2000 (absR a / 100) < absR (a - b))
      let held := crossCause s && s.met.crossDecided
      let start := bad && s.met.disagree = 0
      let s1 := s |> onMet fun m => { m with
        disagree := if bad then (if held then 0 else m.disagree + 1) else 0
        agree := if bad then 0 else m.agree + 1
        crossDecided := held
        atDisagree := if start then m.frameStart else m.atDisagree
        ds1AtDisagree := if start then m.ds1Start else m.ds1AtDisagree }
      if s1.met.agree = 100 then deactivate 0x030B s1 else s1
  | _, _ => s

/-! ### Rows: references (R157 to R159) -/

/-- REF_DISAGREE: ten frames of disagreement; the references are under judgement. -/
def execRefDisagree (s : State) : Host.Outcome State Fault Refusal :=
  if s.met.refBadFrames < 10 || s.met.refSuspect then .next s
  else .next (s |> onMet (fun m => { m with refSuspect := true }) |> log srcSafety 0x0301 2 [])

/-- REF_SETTLED: the selected buffer has settled; the channels' counts of invalid words start. -/
def execRefSettled (s : State) : Host.Outcome State Fault Refusal :=
  if s.met.refSettled || !(metStarted s) then .next s
  else .next (s |> onMet fun m => { m with refSettled := true, ds := m.ds.map fun c => { c with waitRef := false } })

/-- REF_SETTLE_TIMEOUT: the flag is not set within 2 ms; a module fault (R420), else FAULT, clear class 1. -/
def execRefSettleTimeout (s : State) : Host.Outcome State Fault Refusal :=
  if s.met.refSettled || !(metStarted s) || !(elapsed s s.met.refSwitchedAt (msNs 2)) || s.str.causes.any (fun c => c.code = 0x0304 && c.active) || s.pair.localFault then .next s
  else .next (s |> log srcSafety 0x0304 3 [] |> moduleFault 0x0304 1)

/-- The judgement of R157 on the departures of VREF_A and VREF_B measured in a round. A reference judged failed is not used
again: VREF_A failing with VREF_B failed before, or with VREF_B in use, makes no switch. -/
def judgeRefs (depA depB : Rat) (s : State) : State :=
  let h := s.met.refD / 2
  let a := decide (h < depA)
  let b := decide (h < depB)
  let s1 := s |> onMet fun m => { m with refSuspect := false, refBadFrames := 0 }
  if a && !b && (s1.met.refSelB || s1.met.refBFault) then s1 |> onMet (fun m => { m with refAFault := true }) |> raiseTw 1
  else if a && !b then
    s1 |> onMet (fun m => { m with refAFault := true, refSelB := true }) |> switchRef |> log srcSafety 0x0302 2 [] |> raiseTw 1
  else if b && !a then s1 |> onMet (fun m => { m with refBFault := true }) |> raiseTw 1
  else s1 |> log srcSafety 0x0303 3 [] |> moduleFault 0x0303 1

/-- VREF_C judged in a round (R158). -/
def judgeVrefC (dep : Rat) (s : State) : State :=
  if dep ≤ 3 / 1000 then s |> onMet fun m => { m with refCBad := 0 }
  else
    let s1 := s |> onMet fun m => { m with refCBad := m.refCBad + 1 }
    if s1.met.refCBad < 2 || s1.met.sarRefFault then s1
    else s1 |> onMet (fun m => { m with sarRefFault := true }) |> log srcSafety 0x0305 3 [] |> moduleFault 0x0305 1

/-! ### Rows: settling, overrange, cross-check (R162, R164, R170, R171) -/

/-- SETTLING_END: N + L words have passed since a change, and the channel's words are valid again. -/
def execSettlingEnd (ch : Nat) (s : State) : Host.Outcome State Fault Refusal :=
  let c := dsAt s ch
  if !c.settling || c.waitRef || 0 < c.settle then .next s
  else .next (s |> onDs ch fun c => { c with settling := false, valid := !c.failed })

/-- DS_OVERRANGE: the modulator saturates; its clamped words stay valid. On DS0 and DS1 the counted charge becomes uncertain. -/
def execDsOverrange (ch : Nat) (s : State) : Host.Outcome State Fault Refusal :=
  if !(metRuns s) || 8 ≤ ch || (dsAt s ch).overrange then .next s
  else .next (s |> onDs ch (fun c => { c with overrange := true })
    |> onMet (fun m => { m with uncertain := m.uncertain || decide (ch < 2) })
    |> log srcApp1 0x0306 (if ch < 2 then 2 else 1) [])

/-- DS_OVERRANGE_END: the input is within range again, and the modulator resets into `SETTLING`. -/
def execDsOverrangeEnd (ch : Nat) (s : State) : Host.Outcome State Fault Refusal :=
  if !((dsAt s ch).overrange) then .next s
  else .next (s |> onDs ch fun c => ({ c with overrange := false } : DsCh).unsettle (!s.met.refSettled))

/-- A current channel is marked FAILED; where it is DS0, DS1 becomes the coulomb source and the count is rewritten (R171). -/
def failCurrentCh (ch : Nat) (s : State) : State :=
  let s1 := s |> onDs ch (fun c => { c with failed := true, valid := false }) |> log srcSafety 0x030C 2 []
  let q := s.met.atDisagree + (s.met.c1.q - s.met.ds1AtDisagree)
  let s2 := if ch = 0 then
      s1 |> onMet fun m => { m with srcDs1 := true, rewritten := true, coulomb := q, qTot := { q := q, frac := m.c1.frac } }
    else s1
  raiseTw 0 s2

/-- CURRENT_CH_DISAGREE: 100 consecutive frames disagree; while the converter regulates the referee judges, otherwise the
safety core decides FAULT. -/
def execCurrentChDisagree (s : State) : Host.Outcome State Fault Refusal :=
  if s.met.disagree < 100 || s.met.crossDecided || (dsAt s 0).failed || (dsAt s 1).failed then .next s
  else
    let a := (dsMeanMa s 0).getD 0
    let b := (dsMeanMa s 1).getD 0
    let s1 := s |> onMet (fun m => { m with crossDecided := true, disagree := 0, agree := 0 })
      |> log srcSafety 0x030B 2 []
    if regulatingState s.str.state then
      let r := refereeMa s
      let good := fun (x : Rat) => decide (absR (x - r) ≤ maxR 5000 (absR r * 3 / 100))
      if good a && !(good b) then .next (failCurrentCh 1 s1)
      else if good b && !(good a) then .next (failCurrentCh 0 s1)
      else .next (s1 |> log srcSafety 0x030D 3 [] |> hardwareFault 0x030D 1)
    else .next (hardwareFault 0x030B 0 s1)

/-! ### Rows: the spare channel (R172, R173, R523) -/

/-- The next channel DS7 shadows. -/
def ds7Next (ch : Nat) : Nat := if ch < 6 then ch + 1 else 2

/-- DS7_DWELL_END: the means that the rest of a 10 s dwell gave are compared; the third deviating dwell in a row on a channel leads
to the injection test. A dwell in which DS7 never settled beside a valid channel compares nothing. -/
def execDs7DwellEnd (_meanCh _mean7 : Int) (s : State) : Host.Outcome State Fault Refusal :=
  match s.met.ds7 with
  | .shadowing ch =>
    if !(metRuns s) || !(elapsed s s.met.dwellSince (secNs 10)) || capturing s 7 then .next s
    else
      let lim : Rat := if ch = 6 then 8388608 / 5000 else 8388608 / 1000
      let dev := decide (0 < s.met.dwellN) && decide (lim < absR ((s.met.dwellCh - s.met.dwell7 : Int) / (s.met.dwellN : Rat)))
      let n := if s.met.dwellN = 0 then nth 0 s.met.deviations (ch - 2) else if dev then nth 0 s.met.deviations (ch - 2) + 1 else 0
      let s1 := s |> onMet fun m => { m with deviations := setAt m.deviations (ch - 2) n, dwellSince := s.tick.now }
      let s2 := if dev then log srcApp1 0x0307 1 [] s1 else s1
      if 3 ≤ n then .next (s2 |> onMet (fun m => { m with ds7 := .injecting ch, deviations := setAt m.deviations (ch - 2) 0 }) |> ds7Move ch)
      else .next (s2 |> onMet (fun m => { m with ds7 := .shadowing (ds7Next ch) }) |> ds7Move (ds7Next ch))
  | _ => .next s

/-- DS7_INJECTION_TEST_DONE: DS7 passes and stands in for the channel, which is FAILED; or DS7 itself is. -/
def execDs7InjectionTestDone (pass : Bool) (s : State) : Host.Outcome State Fault Refusal :=
  match s.met.ds7 with
  | .injecting ch =>
    if pass then
      .next (s |> onDs ch (fun c => { c with failed := true, valid := false, substituted := true })
        |> onMet (fun m => { m with ds7 := .substituting ch }) |> ds7Move ch
        |> log srcApp1 0x0308 2 [] |> addDefect 3 1 ch 0 |> useSpare 3)
    else
      .next (s |> onDs 7 (fun c => { c with failed := true, valid := false }) |> onMet (fun m => { m with ds7 := .failed })
        |> log srcApp1 0x030A 2 [] |> addDefect 3 3 7 0 |> useSpare 3)
  | _ => .next s

/-! ### Rows: SAR sequences and captures (R176 to R179) -/

/-- Length of a SAR's user sequence, ns. -/
def seqLen (s : State) (ch : Nat) : Nat :=
  let q := nth {} s.cfg.conv.sar ch
  ((q.list.take q.entries).map fun e => 200 * 2 ^ e.2).foldl (· + ·) 0

/-- Length of the present tick, ns: 50 µs, or what a step of the counter made of it (R115). -/
def tickLen (s : State) : Nat := s.tick.oddTick.getD 50000

/-- A sequence of this length started at `at_` ends at least 100 ns before the next tick edge. -/
def seqFits (at_ len : Nat) (s : State) : Bool := decide (at_ + len + 100 ≤ tickLen s)

/-- A trigger of a kind of R176 can come at this time of the tick: at the valleys and peaks of the carriers (R303), at a multiple
of the timer's period, or at any time by a diagnostic command. -/
def trigAt (kind period at_ : Nat) : Bool :=
  match kind with
  | 1 => at_ = 0
  | 2 => at_ = 16667
  | 3 => at_ = 33333
  | 4 => at_ = 25000
  | 5 => at_ = 41667
  | 6 => at_ = 8333
  | 7 => at_ % (50 * period) = 0
  | 8 => true
  | _ => false

/-- A trigger that finds one pending already (R177). -/
def seqOverrun (ch : Nat) (s : State) : State :=
  let s1 := s |> onSar ch fun c => { c with overruns := min (c.overruns + 1) 0xFFFE, overrunLogged := true }
  if (sarAt s ch).overrunLogged then s1 else log srcApp1 0x030E 1 [] s1

/-- SAR_TRIGGER, of the kind that the SAR's sequence names: the user sequence starts, the trigger waits, or it is an overrun.
DESIGN CHOICE (assumption 58): a trigger in the first 0.4 µs after an edge, when the tick conversion runs, starts its sequence at
0.4 µs and is not latched as pending. -/
def execSarTrigger (t : SarTrig) (atNs : Nat) (s : State) : Host.Outcome State Fault Refusal :=
  let ch := t.ch
  let kind := t.kind
  let c := sarAt s ch
  let len := seqLen s ch
  let q := nth {} s.cfg.conv.sar ch
  if !(metRuns s) || 4 ≤ ch || len = 0 || q.trig ≠ kind || !(trigAt kind q.period atNs) || tickLen s ≤ atNs then .next s
  else if c.busy || c.pending || !(seqFits (max 400 atNs) len s) then
    (if c.pending then .next (seqOverrun ch s) else .next (s |> onSar ch fun c => { c with pending := true }))
  else .next (s |> onSar ch fun c => { c with busy := true, seqEnd := max 400 atNs + len })

/-- A pending trigger starts its sequence 0.4 µs after a tick edge. -/
def seqAtEdge (s : State) : State :=
  (List.range 4).foldl (fun t ch =>
    let c := sarAt t ch
    if c.pending && !c.busy && 0 < seqLen t ch then t |> onSar ch fun c => { c with pending := false, busy := true, seqEnd := 400 + seqLen t ch } else t) s

/-- The results of a sequence: of each entry the mean of its calibrated conversions, as many as its oversampling asks (R176). -/
def seqResults (raw : List (List Int)) (ch : Nat) (s : State) : List Rat :=
  let q := nth {} s.cfg.conv.sar ch
  mapI (fun k (e : Nat × Nat) =>
    let xs := ((nth [] raw k).take (2 ^ e.2)).map fun r => (((nth {} s.met.cal (14 + ch)).apply r : Int) : Rat)
    sumR xs / xs.length) (q.list.take q.entries)

/-- SAR_SEQUENCE_DONE: the sequence ends with its averaged results; a pending trigger runs it again as soon as it ends, if it fits (sources 130 to 133). -/
def execSarSequenceDone (r : SarDone) (s : State) : Host.Outcome State Fault Refusal :=
  let ch := r.ch
  let c := sarAt s ch
  if !c.busy then .next s
  else
    let again := c.pending && seqFits c.seqEnd (seqLen s ch) s
    .next (s |> onSar ch (fun c => { c with results := seqResults r.raw ch s, busy := again, pending := c.pending && !again, seqEnd := if again then c.seqEnd + seqLen s ch else c.seqEnd })
      |> irqEvent (130 + ch) true)

/-- The samples of a capture as packets of 2,048, two to a word (R488). -/
def capturePackets : Nat → List Int → List Packet
  | 0, _ => []
  | _, [] => []
  | n + 1, x :: xs => mkPacket 0 (((x :: xs).take 2048).flatMap i16) :: capturePackets n ((x :: xs).drop 2048)

/-- The conversions of a capture, leader and follower in turn, the follower's matched to the leader's (R179). -/
def captureSamples (c : CaptureResult) (raw : List Int) : List Int :=
  let m : CalSet := { offset := c.matchO, gain := c.matchG }
  mapI (fun k x => if k % 2 = 0 then x else m.apply x) (raw.take (min c.want 65536))

/-- CAPTURE_COMPLETE: an interleaved capture ends: its samples, as many as were asked for, stand in ring 58 with the gaps marked,
and its result slot is published (R179, R461, R488). -/
def execCaptureComplete (samples : List Int) (gaps : List Nat) (s : State) : Host.Outcome State Fault Refusal :=
  if !s.host.capture.running then .next s
  else
    let xs := captureSamples s.host.capture samples
    let marks := gaps.filter (· ≤ xs.length)
    .next ((capturePackets 32 xs).foldl (fun t p => ringPut 58 p t) s
      |> onHost (fun h => { h with capture := { h.capture with
          running := false, seq := h.capture.seq + 1, ready := true, samples := some xs.length, gaps := some marks.length, gapAt := marks } })
      |> onMet (fun m => { m with sar := m.sar.map fun c => { c with paired := false, partner := 0, leader := false } }))

/-! ### The housekeeping round (R181 to R183, R516 to R518) -/

/-- HOUSEKEEPING_ROUND_START: at tick 5 of frame 0 of every cycle with c mod 10 = 0. -/
def execHousekeepingRoundStart (s : State) : Host.Outcome State Fault Refusal :=
  if !(metRuns s) || s.tick.c % 10 ≠ 0 || s.tick.f ≠ 0 || s.tick.j ≠ 5 then .next s
  else .next (s |> onMet fun m => { m with hkRunning := true })

/-- Volts at the 1.8 V input for a 12-bit reading. -/
def hkVolt (raw : List Nat) (i : Nat) : Rat := ((nth 0 raw i : Nat) : Rat) * 18 / 40960

/-- Departure of a reading from its calibrated reading, as a fraction. -/
def departure (raw : List Nat) (i cal : Nat) : Rat := absR ((nth 0 raw i : Nat) / (cal : Rat) - 1)

/-- NTC resistance of R183, Ω; none at the rail. -/
def ntcOhm (raw : List Nat) (i : Nat) : Option Rat :=
  let r := nth 0 raw i
  if 4096 ≤ r then none else some (10000 * (r : Rat) / (4096 - r : Nat))

/-- Temperature of an NTC resistance, 0.01 °C (R183). -/
def ntcTemp (ohm : Rat) (beta : Nat) : Int :=
  let inv := 100 / 29815 + (if beta = 0 then 0 else lnR (ohm / 10000) / beta)
  roundAway ((1 / inv - 27315 / 100) * 100)

/-- An open or a short of an NTC input: each is logged in the round it begins, and again only after the input has read within
range. -/
def ntcOpen (k : Nat) (s : State) : State :=
  let s1 := s |> onMet fun m => { m with ntcOpen := setAt m.ntcOpen k true }
  if nth false s.met.ntcOpen k then s1 else log srcApp1 0x030F 1 [] s1
def ntcShort (k : Nat) (s : State) : State :=
  let s1 := s |> onMet fun m => { m with ntcShort := setAt m.ntcShort k true }
  if nth false s.met.ntcShort k then s1 else log srcApp1 0x0310 1 [] s1

/-- One NTC input judged: its temperature, or none. -/
def ntcRead (raw : List Nat) (input beta k : Nat) (s : State) : State × Option Int :=
  match ntcOhm raw input with
  | none => (ntcOpen k s, none)
  | some r => if 500000 < r then (ntcOpen k s, none) else if r < 50 then (ntcShort k s, none)
              else (s |> onMet fun m => { m with ntcOpen := setAt m.ntcOpen k false, ntcShort := setAt m.ntcShort k false }, some (ntcTemp r beta))

/-- The shunt NTC with its Twilight cause (R165, R380, R399 bit 11). -/
def readShunt (raw : List Nat) (s : State) : State :=
  let r := ntcRead raw 15 s.cfg.safety.shuntBeta 0 s
  match r.2 with
  | none => r.1 |> onMet (fun m => { m with tShunt := none }) |> onProt (fun p => { p with shuntValidRun := 0 }) |> raiseTw 11
  | some t =>
    let s1 := r.1 |> onMet (fun m => { m with tShunt := some t, tShuntLast := some t })
      |> onProt (fun p => { p with shuntValidRun := p.shuntValidRun + 1, shuntRun := if s.cfg.safety.shuntTMax < t then p.shuntRun + 1 else 0 })
    if 10 ≤ s1.prot.shuntValidRun then clearTw 11 s1 else s1

/-- TH0 to TH7. -/
def readNtcs (raw : List Nat) (s : State) : State :=
  (List.range 8).foldl (fun t k =>
    let r := ntcRead raw (16 + k) (nth 3435 s.cfg.therm.beta k) (k + 1) t
    r.1 |> onMet fun m => { m with tNtc := setAt m.tNtc k r.2 }) s

/-- Neighbours of a die sensor (R516). -/
def dieNeighbours (k : Nat) : List Nat := if k = 6 then [0, 1, 2, 3, 4, 5] else [(k + 5) % 6, (k + 1) % 6, 6]

/-- Deviation of a sensor from the median of its unbroken neighbours; none where fewer than two are left (R517). -/
def dieMedian (die : List Int) (broken : List Bool) (k : Nat) : Option Rat :=
  let ns := (dieNeighbours k).filter fun n => !(nth true broken n)
  if ns.length < 2 then none else medianR (ns.map fun n => ((nth 0 die n : Int) : Rat))

/-- Band of a temperature going up, and its lower edge with 3 °C going down (R518). -/
def dieBandUp (t : Int) : Nat := if t < 0 then 0 else if t ≤ 7000 then 1 else if t ≤ 9500 then 2 else if t ≤ 11000 then 3 else 4
def dieEdge (b : Nat) : Int := match b with | 0 => 0 | 1 => 7000 | 2 => 9500 | _ => 11000
def dieBandDown (t : Int) : Nat → Nat
  | 0 => 0
  | b + 1 => if t < dieEdge b - 300 then dieBandDown t b else b + 1

/-- The band that follows from the highest reading and the sensors left. -/
def dieBandNext (old : Option Nat) (mx : Option Int) (unbroken : Nat) : Nat :=
  match mx with
  | none => 4
  | some t =>
    let b := match old with | none => dieBandUp t | some o => if o < dieBandUp t then dieBandUp t else dieBandDown t o
    if unbroken < 3 then max 3 b else b

/-- The die sensors of a round: broken marks, `DIE_T_MAX`, the band and its consequences (R517, R518). -/
def judgeDie (die : List Int) (s : State) : State :=
  let was := s.hlth.broken
  let med := (List.range 7).map (dieMedian die was)
  let run := mapI (fun k (n : Nat) => match nth none med k with
    | some m => if !(nth true was k) && decide (800 < absR (((nth 0 die k : Int) : Rat) - m)) then n + 1 else 0
    | none => n) s.hlth.devRun
  let now := mapI (fun k (b : Bool) => b || decide (3 ≤ nth 0 run k)) was
  let s1 := (List.range 7).foldl (fun t k =>
    if nth false now k && !(nth true was k) then
      log srcApp3 0x1002 2 (u16 k ++ i16 (nth 0 die k) ++ i16 (roundAway ((nth none med k).getD 0))) t
    else t) s
  let live := (List.range 7).filter fun k => !(nth true now k)
  let mx := live.foldl (fun (a : Option Int) k => match a with | none => some (nth 0 die k) | some m => some (max m (nth 0 die k))) none
  let band := dieBandNext s.hlth.band mx live.length
  let s2 := s1 |> onHlth fun h => { h with die := (die.take 7).map some, devRun := run, broken := now, dieMax := mx, band := some band, refreshBand := max h.refreshBand band }
  let s3 := if s.hlth.band = some band then s2
    else log srcApp3 0x1001 (if 3 ≤ band then 2 else 1) (u8 (s.hlth.band.getD 0xFF) ++ u8 band ++ i16 (optI 16 mx)) s2
  setTw 8 (band = 4) s3

/-- Supplies of R101 from a round; `AUX_POWER` has no formula in the spec and takes a free value. -/
def readSupplies (raw : List Nat) (s : State) : State :=
  tickFresh s |> onPwr fun p => { p with
    auxVoltage := some (ratN 16 (hkVolt raw 12 * 5000)), auxPower := some (Config.freeNat s.fresh % 65535)
    holdupVoltage := some (ratN 16 (hkVolt raw 13 * 3000))
    holdupReady := decide (46 ≤ hkVolt raw 13 * 30)
    railV := (List.range 5).map fun k => some (ratN 16 (hkVolt raw (7 + k) * 10000)) }

/-- HOUSEKEEPING_ROUND_COMPLETE: at the end of frame 3 the round is published and judged: supplies, NTCs, references, die
sensors (R157, R158, R182, R183, R517). `die` are TD0 to TD6 in 0.01 °C. -/
def execHousekeepingRoundComplete (raw : List Nat) (die : List Int) (s : State) : Host.Outcome State Fault Refusal :=
  if !s.met.hkRunning || s.tick.f ≠ 3 then .next s
  else
    let s1 := s |> onMet (fun m => { m with hkRunning := false, hkRaw := (List.range 32).map fun i => some (nth 0 raw i % 4096) })
      |> readSupplies raw |> readShunt raw |> readNtcs raw
    let s2 := if s1.met.refSuspect then judgeRefs (departure raw 30 s.idn.hkVrefA) (departure raw 29 s.idn.hkVrefB) s1 else s1
    .next (s2 |> judgeVrefC (departure raw 31 s.idn.hkVrefC) |> judgeDie die |> irqEvent 176 true)

/-! ### System calibration (R186, R187) -/

/-- Range of a calibration index in nV at the connector, counts per range as a power of two, and twice the noise, nV. -/
def calRange (idx : Nat) : Nat :=
  if idx = 0 || idx = 2 then 150000000 else if idx = 1 || idx = 3 then 37500000
  else if idx = 8 || idx = 13 then 2500000000 else if idx < 14 then 2400000000000
  else if idx < 17 then 5000000000 else 2400000000000
def calBits (idx : Nat) : Nat := if idx < 14 then 23 else 15
def calNoise2 (idx : Nat) : Nat :=
  if idx = 0 || idx = 2 then 2400 else if idx = 1 || idx = 3 then 1000
  else if idx = 4 || idx = 5 || idx = 9 || idx = 10 then 12000000
  else if idx = 6 || idx = 7 || idx = 11 || idx = 12 then 2000000
  else if idx = 8 || idx = 13 then 600 else if idx < 17 then 457764 else 292968750

/-- Coefficients of R186 from the two means, in thousandths of a count; none where they cannot be formed. -/
def calCoefs (c : SysCal) (z s : Rat) : Option (Int × Int) :=
  if s = z then none
  else
    let ideal := (c.span : Rat) * 2 ^ calBits c.index / calRange c.index
    some (roundAway z, roundAway (ideal / (s - z) * 1073741824))

/-- The mean of a capture, and its σ in nV at the connector (R186). -/
def SysCal.mean (c : SysCal) : Rat := (c.sum : Rat) / c.n
def SysCal.sigmaNv (c : SysCal) : Rat :=
  sqrtR ((c.sumSq : Rat) / c.n - c.mean * c.mean) * calRange c.index / 2 ^ calBits c.index

/-- The windows of R187. -/
def calPasses (idx : Nat) (o g : Int) : Bool :=
  decide (o.natAbs ≤ if idx < 14 then 41943 else 164) && decide (97 * 1073741824 ≤ g * 100) && decide (g * 100 ≤ 103 * 1073741824)

/-- The operation ends FAULT and the stored set stays (R187). -/
def calReject (c : SysCal) (s : State) : State :=
  let r := sysCalResult c 0 none
  s |> log srcApp1 0x0312 1 (u16 c.index ++ u16 (if c.spanPhase then 2 else 1)) |> closeOp 2 stFault |> endOp 2 stFault r

/-- SYS_CAL_CAPTURE_DONE: the 2,000 words of a capture are taken. A noisy capture is repeated up to three times; after zero the
operation waits for the span; after the span the coefficients are checked and written for the next Dawn. Each capture is
published (R452). -/
def execSysCalCaptureDone (_mean _sigma : Int) (s : State) : Host.Outcome State Fault Refusal :=
  match s.met.sysCal with
  | none => .next s
  | some c =>
    if c.step ≠ 3 || c.n < 2000 then .next s
    else
      let c1 := { c with sigma := some (roundAway c.sigmaNv).toNat }
      if (calNoise2 c.index : Rat) < c.sigmaNv then
        (if 3 ≤ c.repeats then .next (calReject c1 s)
         else .next (s |> onMet (fun m => { m with sysCal := some { c1 with repeats := c.repeats + 1, n := 0, sum := 0, sumSq := 0 } })
           |> publishOp 2 (sysCalResult c1 3 none)))
      else if !c.spanPhase then
        let c2 := { c1 with step := 2, spanPhase := true, repeats := 0, z := some c.mean, since := s.tick.now }
        .next (calRelease s |> onMet (fun m => { m with sysCal := some c2 }) |> onOp 2 (fun o => { o with opState := 1 }) |> publishOp 2 (sysCalResult c2 2 none))
      else
        let c2 := { c1 with s := some c.mean }
        match calCoefs c2 (c.z.getD 0) c.mean with
        | none => .next (calReject c2 s)
        | some (o, g) =>
          if !(calPasses c.index o g) then .next (calReject c2 s)
          else
            let set : CalSet := { offset := o, gain := g.toNat, present := true, made := some s.tb.time }
            .next (s |> onMet (fun m => { m with calPendO := setAt m.calPendO c.index (some o), calPendG := setAt m.calPendG c.index (some g.toNat) })
              |> onIdn (fun i => { i with calNext := setAt i.calNext c.index set })
              |> log srcApp1 0x0311 2 (u16 c.index ++ i32 o ++ u32 g.toNat) |> closeOp 2 stOk |> endOp 2 stOk (sysCalResult c2 0 (some (o, g))))

/-- SYS_CAL_SUSPEND_TIMEOUT: not resumed within 30 min of suspending, SYS_CAL ends CANCELLED. -/
def execSysCalSuspendTimeout (s : State) : Host.Outcome State Fault Refusal :=
  match s.met.sysCal with
  | none => .next s
  | some c =>
    if c.step = 3 || !(elapsed s c.since (secNs 1800)) then .next s
    else .next (s |> closeOp 2 stCancelled |> endOp 2 stCancelled (sysCalResult c 0 none))

end Sys2Proof.Machine
end

