-- ==== Sys2Proof/Machine/Converter.lean ====
section
/-! DEFINITION. String converter control (R301 to R333): modes and the duty mapper, phase loops, outer loops, soft
start, gain scheduling, phases out of service, and the gate link. Currents in mA, voltages of the loops in mV. -/
namespace Sys2Proof.Machine

/-- Phase, gate-link port, and their changes. -/
def phaseAt (s : State) (k : Nat) : Phase := nth {} s.cnv.phases k
def onPhase (k : Nat) (g : Phase → Phase) (s : State) : State := s |> onCnv fun c => { c with phases := updAt g c.phases k }
def portAt (s : State) (n : Nat) : GlPort := nth {} s.cnv.ports n
def onPort (n : Nat) (g : GlPort → GlPort) (s : State) : State := s |> onCnv fun c => { c with ports := updAt g c.ports n }

/-- A phase that carries current: enabled, in soft start or ramping down. -/
def Phase.runs (p : Phase) : Bool := p.st = .enabled || p.st = .softStart || p.st = .rampDown

/-- Phases enabled (R309), and those that count for `CONV_I_LIMIT` (R317). -/
def enabledN (s : State) : Nat := (s.cnv.phases.filter Phase.runs).length
def limitN (s : State) : Nat := (s.cnv.phases.filter fun p => p.st = .enabled || (p.st = .softStart && !p.returning)).length

/-- The converter is called for: RUN, TWILIGHT and STOPPING before its zero current has held, or slot 5 in PRECHARGE, on the
owning module, outside a safe stop and not after AUX_LOST (R90, R308, R327); at a takeover from its first frames (R424). -/
def convWanted (s : State) : Bool :=
  owning s && s.pair.takeover.isNone && s.prot.stop.isNone && decide (s.pwr.stage = .none ∨ s.pwr.stage = .dip) && !(s.cnv.fastTrip.any id) &&
    ((regulatingState s.str.state && s.cont.opening = 0 && !(s.str.triggers.contains .stoppingDone)) ||
     (s.str.state = .precharge && s.cnv.slot5On))

/-- A converter no longer called for stops its slots (R318, R327); a module that drives none keeps the mirrored ones. -/
def convIdle (s : State) : State := if convWanted s || !(owning s) || s.pair.takeover.isSome then s else if s.cnv.regulating || s.cnv.mode.isSome || s.cnv.slot5On then stopSlots s else s

/-! ### Modes and the duty mapper (R302) -/

/-- Mode codes of R302. -/
def ConvMode.code : ConvMode → Nat | .busLeg => 0 | .strLeg => 1 | .both => 2

/-- The mode for ρ, from the present mode or directly where there is none. -/
def modeFor (s : State) (old : Option ConvMode) (r : Rat) : ConvMode :=
  let dmax : Rat := (s.cfg.conv.dMax : Rat) / 10000
  let near := fun (x : Rat) => decide (x ≤ dmax - 1 / 100)
  let inv := if r = 0 then 1000 else 1 / r
  match old with
  | none => if r ≤ dmax then .busLeg else if inv ≤ dmax then .strLeg else .both
  | some .busLeg => if dmax < r then .both else .busLeg
  | some .strLeg => if dmax < inv then .both else .strLeg
  | some .both => if near r then .busLeg else if near inv then .strLeg else .both

/-- Duty of a switching leg: the word, and whether its clamp acted from above or below. `leg` is the leg number. -/
def legDuty (s : State) (leg : Nat) (d : Rat) : Nat × Bool × Bool :=
  let mn : Rat := (2 * (nth 320 s.cfg.conv.dead leg : Nat) + 640 : Nat) / 320000
  let x := clampR mn (1 - mn) d
  ((roundAway (x * 320000)).toNat, decide (x < d), decide (d < x))

/-- The mapper's result for a phase: duty and hold of the string-side and the bus-side leg, and saturation of u. -/
structure Mapped where
  dA : Nat
  holdA : Bool
  dB : Nat
  holdB : Bool
  hi : Bool
  lo : Bool
  deriving DecidableEq, Repr

/-- The duty mapper of R302: u, V_STR and V_BUS in mV. -/
def mapDuty (s : State) (k : Nat) (m : ConvMode) (u vs vb : Rat) : Mapped :=
  match m with
  | .busLeg =>
    let b := legDuty s (2 * k + 1) ((vs + u) / vb)
    { dA := 320000, holdA := true, dB := b.1, holdB := false, hi := b.2.1, lo := b.2.2 }
  | .strLeg =>
    let a := legDuty s (2 * k) ((vb - u) / vs)
    { dA := a.1, holdA := false, dB := 320000, holdB := true, hi := a.2.2, lo := a.2.1 }
  | .both =>
    let fx : Rat := (s.cfg.conv.dFix : Rat) / 10000
    let a := legDuty s (2 * k) fx
    let b := legDuty s (2 * k + 1) ((fx * vs + u) / vb)
    { dA := a.1, holdA := false, dB := b.1, holdB := false, hi := b.2.1, lo := b.2.2 }

/-! ### Correction of the tick sample (R304) -/

/-- tau[k] of R304 in ns. -/
def tauNs (k : Nat) : Rat := match k with | 1 => -(50000 / 3) | 2 => 50000 / 3 | _ => 0

/-- Half the on-interval in force at the tick edge, ns: drivers of phase 2 apply the last transfer's words only 8.3 µs after it
(R304, R321). -/
def halfOn (k : Nat) (p : GlPort) : Rat :=
  if (if k = 2 then p.holdOld else p.holdOn) then 25000 else ((if k = 2 then p.dutyOld else p.duty : Nat) : Rat) * 25000 / 320000

/-- i_avg[k], mA: the sample less the ripple between the tick edge and the phase's valley, from the duties in force. -/
def iAvg (s : State) (k : Nat) : Int :=
  let a := portAt s (2 * k)
  let b := portAt s (2 * k + 1)
  let on := halfOn k
  let t := absR (tauNs k)
  let area := vBusTick s * minR t (on b) - vStrTick s * minR t (on a)
  let d := if (phaseAt s k).runs then area / s.cfg.conv.lPhase else 0
  roundAway (phaseMa s k - (if tauNs k < 0 then -d else d))

/-! ### Phase references and loops (R306, R309 to R311) -/

/-- Commanded reference of a phase that takes its full share, mA. -/
def shareRef (s : State) : Int :=
  let n := (s.cnv.phases.filter fun p => p.st = .enabled || p.st = .softStart).length
  if n = 0 then 0 else divRound s.cnv.y3 n

/-- Reference of a ramping phase for this tick, with its slot. -/
def rampPhase (s : State) (_k : Nat) (p : Phase) (x : Slot) : Phase × Slot :=
  match p.st with
  | .softStart =>
    let y := x.refer p.iAvg (shareRef s)
    ({ p with refPrev := if x.started then p.ref else y.ref, ref := y.ref, softTicks := p.softTicks + b2n x.started }, y)
  | .rampDown =>
    let r := x.live.rampTo p.ref 0
    ({ p with refPrev := p.ref, ref := r }, { x with ref := r })
  | _ => (p, x)

/-- The references of all phases (R309): ramping ones first, the others share the rest with a third of the excitation. -/
def phaseRefs (s : State) : State :=
  let ramped := mapI (fun k (p : Phase) => rampPhase s k p (slotAt s k)) s.cnv.phases
  let sumRamp := (ramped.filter fun r => r.1.st = .softStart || r.1.st = .rampDown).foldl (fun (a : Int) r => a + r.1.ref) 0
  let steady := (s.cnv.phases.filter fun p => p.st = .enabled).length
  let e : Rat := if enabledN s = 3 then s.imp.eTick / 3 else 0
  let lim : Int := s.cfg.conv.iPhMax
  let share : Int := if steady = 0 then 0 else roundAway (((s.cnv.y3 - sumRamp : Int) : Rat) / steady + e)
  let r := clampI (-lim) lim share
  s |> onCnv fun c => { c with
    phases := ramped.map fun x => if x.1.st = .enabled then { x.1 with refPrev := x.1.ref, ref := r } else x.1
    slots := mapI (fun i (x : Slot) => if 3 ≤ i then x
      else match ramped.drop i with
        | y :: _ => if y.1.st = .enabled then { x with ref := r } else y.2
        | [] => x) c.slots
    phaseClamp := 0 < steady && share ≠ r }

/-- One run of a phase loop (R306 to R308, R310): its slot and the duties of its two legs for the next transfer. -/
def phaseLoop (k : Nat) (s : State) : State :=
  let p := phaseAt s k
  let x := slotAt s k
  match s.cnv.mode with
  | none => s
  | some m =>
    if !p.runs then s |> onPort (2 * k) (fun q => { q with dutyNext := 0, holdNext := false }) |> onPort (2 * k + 1) (fun q => { q with dutyNext := 0, holdNext := false })
    else
      let r := x.live
      let first := !x.started
      let slope := r.mode ≠ 0 && bitAt r.ffSel 1
      let bus := (r.mode ≠ 0 && bitAt r.ffSel 0) || first
      let e := if r.mode = 0 then 0 else deadE r (p.ref - p.iAvg)
      let f := if slope && !first then shr (w64 (r.kff * (p.ref - p.refPrev))) r.shKff else 0
      let v := if r.mode = 0 then 0 else x.preset.getD (slotV x e f)
      let y := if r.mode = 0 then 0 else clampI r.yMin r.yMax v
      let vs := if bus then vStrTick s else (s.cfg.conv.vStrNom : Rat) * 10
      let vb := if bus then vBusTick s else (s.cfg.conv.vBusNom : Rat) * 10
      let d := mapDuty s k m y vs vb
      let x1 := if x.preset.isSome then x.runPreset e f y else x.commit e v y d.hi d.lo
      s |> onSlot k (fun _ => { x1 with dutyClamp := d.hi || d.lo, ffBus := bus, ffSlope := slope })
        |> onPort (2 * k) (fun q => { q with dutyNext := d.dA, holdNext := d.holdA })
        |> onPort (2 * k + 1) (fun q => { q with dutyNext := d.dB, holdNext := d.holdB })

/-- A soft start that has reached its share ends; a returning phase is recorded (R311, R316). -/
def softEnd (k : Nat) (s : State) : State :=
  let p := phaseAt s k
  if p.st ≠ .softStart || (slotAt s k).softStart || !((slotAt s k).started) then s
  else
    let s1 := s |> onPhase k fun p => { p with st := .enabled, returning := false, mayReturn := false, softTicks := 0 }
    if !p.returning then s1
    else
      let s2 := log srcSafety 0x0702 1 (u16 k ++ u32 p.softTicks) s1
      if s2.cnv.phases.any fun q => q.st = .tripped then s2 else clearTw 6 s2

/-- Ticks a ramping-down phase has held within 2 A (R314). -/
def rampCount (p : Phase) : Phase := if p.st = .rampDown then { p with lowTicks := if p.iAvg.natAbs ≤ 2000 then p.lowTicks + 1 else 0 } else p

/-- Item 0x02 of a tick: mode and references change at tick 2, then the phase loops run (R26, R27, R302, R308). -/
def phaseLoops (s0 : State) : State :=
  let s := convIdle s0
  let s1 := s |> onCnv fun c => { c with phases := mapI (fun k (p : Phase) => { p with iAvg := iAvg s k }) c.phases }
  if !(convWanted s1) then s1
  else
    let s2 := if s1.tick.j = 2 then s1 |> onCnv fun c => { c with mode := c.modeNext, y3 := c.y3Next } else s1
    if s2.cnv.mode.isNone then s2
    else
      let s3 := phaseRefs (s2 |> onCnv fun c => { c with phases := c.phases.map rampCount })
      (List.range 3).foldl (fun t k => softEnd k (phaseLoop k t)) s3

/-! ### Start, mode and limit at the frame latch (R302, R311, R316 to R318) -/

/-- V_SUM of the newest voltage bank, 0.1 mV; none while a position is missing. -/
def vSum (s : State) : Option Int :=
  match s.tab.volt.current with
  | none => none
  | some b => if geoP s = 0 then none else (List.range (geoP s)).foldl (fun (a : Option Int) p => match a, b.val p with | some x, some v => some (x + v) | _, _ => none) (some 0)

/-- Slot 5 starts (R318): active precharge, main − and precharge confirmed closed, and bus voltage enough. -/
def slot5Start (s : State) : State :=
  if s.str.state = .precharge && s.cfg.conv.preMode = 1 && !s.cnv.slot5On && owning s && s.prot.stop.isNone &&
      s.cont.c1.aux && s.cont.c1.coil && s.cont.c2.aux && s.cont.c2.coil &&
      (match vBus s with | some v => decide ((s.cfg.conv.preVBusMin : Rat) < v) | none => false) then
    s |> onCnv fun c => { c with slot5On := true }
  else s

/-- The phases start with the converter (R311, R316): in soft start at the entry from CLOSED, enabled at once when slot 5 starts, which
then starts softly alone (log entry 24). One disabled by over-temperature or by a driver fault stays so until it returns; the entry
from CLOSED lets the latter. -/
def startPhases (s : State) : State :=
  s |> onCnv fun c => { c with
    regulating := true
    slots := mapI (fun i (x : Slot) => if i < 6 then { x.halt with started := s.str.state = .precharge && i < 3 } else x) c.slots
    phases := c.phases.map fun p =>
      if p.st = .tripped then { p with mayReturn := s.str.state ≠ .precharge }
      else if p.byOt then { p with st := .disabled }
      else { p with st := if s.str.state = .precharge then .enabled else .softStart, returning := false, softTicks := 0, ref := 0, refPrev := 0, lowTicks := 0 } }

/-- Fewer than two phases enabled while the converter regulates (R309, R317). -/
def phasesLow (s : State) : State :=
  if s.cnv.regulating && regulatingState s.str.state && convWanted s && decide (enabledN s < 2) then
    s |> log srcSafety 0x0704 3 (i32 (enabledN s)) |> decideFault 0x0704 0 false 0
  else s

/-- The converter's part of the frame latch. -/
def convFrame (s0 : State) : State :=
  let s := slot5Start s0
  if !(convWanted s) then s |> onCnv fun c => { c with iLimit := 0, phaseRef := c.phases.map fun _ => none, dutyWord := List.replicate 6 0, schedEntry := none }
  else
    let s1 := if s.cnv.regulating then s else startPhases s
    let r : Rat := match vStr s1, vBus s1 with | some a, some b => if b = 0 then 1000 else a / b | _, _ => 1
    let m := modeFor s1 s1.cnv.mode r
    let s2 := s1 |> onCnv fun c => { c with
      modeNext := some m
      iLimit := min s1.cfg.conv.iRated (limitN s1 * s1.cfg.conv.iPhMax)
      phaseRef := c.phases.map fun p => if p.runs then some p.ref else none
      dutyWord := c.ports.map fun q => q.duty }
    if s2.cnv.mode = some m then s2
    else log srcApp0 0x0705 0 (u8 (match s2.cnv.mode with | some o => o.code | none => 0xFF) ++ u8 m.code ++ i32 (roundAway (r * 10000))) s2

/-! ### OUTER_LOOPS (R308) -/

/-- r3 before its clamp: the dispatch reference, the output of slot 4 and the mean excitation (R308). -/
def r3Want (s : State) (y4 : Int) : Rat := s.dsp.ref + y4 + (if enabledN s = 3 then s.imp.eMean else 0)

/-- Slot 4: bus voltage against `V_DROOP`; a clamp of r3 to its bounds counts as its saturation (R345). -/
def runSlot4 (s : State) : State :=
  let x := slotAt s 4
  if x.live.mode = 0 then s |> onCnv fun c => { c with y4 := 0 }
  else match vBus s with
  | none => s
  | some v =>
    let e := deadE x.live (roundAway v - s.cfg.conv.vDroop)
    let w := slotV x e 0
    let y := clampI x.live.yMin x.live.yMax w
    let r3 := r3Want s y
    s |> onSlot 4 (fun _ => x.commit e w y (decide (s.dsp.boundHi < r3)) (decide (r3 < s.dsp.boundLo))) |> onCnv (fun c => { c with y4 := y })

/-- Slot 3: r3 is held to the reference bounds. -/
def runSlot3 (s : State) : State :=
  let x := slotAt s 3
  let want := r3Want s s.cnv.y4
  let r3 := clampR s.dsp.boundLo s.dsp.boundHi want
  let x1 := x.refer (roundAway (iStr s)) (roundAway r3)
  let e := deadE x.live (x1.ref - roundAway (iStr s))
  let v := if x.live.mode = 0 then 0 else x.preset.getD (slotV x1 e x1.ref)
  let hi := min x.live.yMax s.cnv.iLimit
  let lo := max x.live.yMin (-s.cnv.iLimit)
  let y := if x.live.mode = 0 then 0 else clampI lo hi v
  s |> onSlot 3 (fun _ => if x.preset.isSome then x1.runPreset e x1.ref y else x1.commit e v y (s.cnv.phaseClamp && decide (0 ≤ y)) (s.cnv.phaseClamp && decide (y < 0)))
    |> onCnv (fun c => { c with y3Next := y })
    |> onDsp (fun d => { d with r3Clamped := d.r3Clamped || want ≠ r3 })

/-- Slot 5: the string's own link toward the sum of the position voltages. -/
def runSlot5 (s : State) : State :=
  match vSum s, vStr s with
  | some sum, some v =>
    let x := slotAt s 5
    let x1 := x.refer (roundAway v) (divRound sum 100)
    let e := deadE x.live (x1.ref - roundAway v)
    let w := if x.live.mode = 0 then 0 else x.preset.getD (slotV x1 e 0)
    let y := if x.live.mode = 0 then 0 else clampI x.live.yMin x.live.yMax w
    s |> onSlot 5 (fun _ => if x.preset.isSome then x1.runPreset e 0 y else x1.commit e w y false false) |> onCnv (fun c => { c with y3Next := y })
  | _, _ => s

/-- OUTER_LOOPS: in tick 1, slots 4 and then 3, or slot 5, set the references that apply from tick 2. -/
def execOuterLoops (s : State) : Host.Outcome State Fault Refusal :=
  if s.tick.j ≠ 1 || !(convWanted s) || !s.cnv.regulating then .next s
  else if s.cnv.slot5On && s.str.state = .precharge then .next (runSlot5 s)
  else .next (runSlot3 (runSlot4 s))

/-! ### Gain scheduling (R313) -/

/-- |y3| / n of R313, mA. -/
def schedAmp (s : State) : Rat := let n := enabledN s; if n = 0 then 0 else (s.cnv.y3.natAbs : Rat) / n

/-- An entry names a mode; its range holds a current, and a current lies no more than a margin outside it. -/
def SchedEntry.names (e : SchedEntry) (m : ConvMode) : Bool := bitAt e.mask m.code
def SchedEntry.holds (e : SchedEntry) (x : Rat) : Bool := decide (e.lo ≤ x) && decide (x < e.hi)
def SchedEntry.near (e : SchedEntry) (x margin : Rat) : Bool := decide (e.lo - margin ≤ x) && decide (x ≤ e.hi + margin)

/-- The entry selected now: the present one while the mode stands and its margin holds, else the first that names the mode and the
current. -/
def schedSelect (s : State) (m : ConvMode) : Option Nat :=
  let x := schedAmp s
  let keep := match s.cnv.schedEntry with
    | some i => (match s.cfg.conv.sched.drop i with | e :: _ => s.cnv.schedMode = some m && e.near x ((s.cfg.conv.iRated : Rat) / 100) | [] => false)
    | none => false
  if keep then s.cnv.schedEntry else (s.cfg.conv.sched.findIdx? fun e => e.names m && e.holds x)

/-- The words of an entry in the order of R313: place in the order, value and shift. -/
def schedWords (e : SchedEntry) : List (Nat × Int × Nat) :=
  [(0, e.ki, nth 0 e.shift 0), (1, e.ai, nth 0 e.shift 1), (2, e.kp, nth 0 e.shift 2), (3, e.kd, nth 0 e.shift 3), (4, e.ad, nth 0 e.shift 4), (5, e.yMax, 0), (6, e.yMin, 0)]

/-- A word that equals its present value needs no write. -/
def schedSame (r : SlotRec) (w : Nat × Int × Nat) : Bool :=
  match w.1 with
  | 0 => r.ki = w.2.1 && r.shKi = w.2.2
  | 1 => r.ai = w.2.1 && r.shAi = w.2.2
  | 2 => r.kp = w.2.1 && r.shKp = w.2.2
  | 3 => r.kd = w.2.1 && r.shKd = w.2.2
  | 4 => r.ad = w.2.1 && r.shAd = w.2.2
  | 5 => r.yMax = w.2.1
  | _ => r.yMin = w.2.1

/-- A word into a live record. -/
def schedPut (w : Nat × Int × Nat) (r : SlotRec) : SlotRec :=
  match w.1 with
  | 0 => { r with ki := w.2.1, shKi := w.2.2 }
  | 1 => { r with ai := w.2.1, shAi := w.2.2 }
  | 2 => { r with kp := w.2.1, shKp := w.2.2 }
  | 3 => { r with kd := w.2.1, shKd := w.2.2 }
  | 4 => { r with ad := w.2.1, shAd := w.2.2 }
  | 5 => { r with yMax := w.2.1 }
  | _ => { r with yMin := w.2.1 }

/-- A change of entry begins: the words to write, without those that stand already. -/
def schedBegin (i : Nat) (s : State) : State :=
  match s.cfg.conv.sched.drop i with
  | [] => s
  | e :: _ =>
    let r := (slotAt s 0).live
    s |> onCnv (fun c => { c with schedEntry := some i, schedMode := c.mode, schedQueue := (schedWords e).filter fun w => !(schedSame r w) })
      |> log srcApp0 0x0706 0 (u8 (s.cnv.schedEntry.getD 0xFF) ++ u8 i)

/-- Selection at each run of item 0x13; one made while a sequence runs waits for its end. -/
def schedRun (s : State) : State :=
  match s.cnv.mode with
  | none => s
  | some m =>
    match schedSelect s m with
    | none => s
    | some i =>
      if s.cnv.schedEntry = some i then s |> onCnv fun c => { c with schedWait := none, schedMode := some m }
      else if s.cnv.schedQueue = [] then schedBegin i s
      else s |> onCnv fun c => { c with schedWait := some i }

/-- SCHED_COEF_WRITE: one word a tick goes to slots 0 to 2 at the tick edge; at the end of a sequence a waiting selection begins. -/
def execSchedCoefWrite (s : State) : Host.Outcome State Fault Refusal :=
  match s.cnv.schedQueue with
  | [] => .next s
  | w :: rest =>
    if isSp s || s.cnv.schedAt = some s.tick.now then .next s
    else
    let s1 := s |> onCnv fun c => { c with
      schedQueue := rest, schedAt := some s.tick.now, schedCnt := satInc 32 c.schedCnt
      slots := mapI (fun i (x : Slot) => if i < 3 then { x with live := schedPut w x.live } else x) c.slots }
    match rest, s1.cnv.schedWait with
    | [], some i => .next (schedBegin i (s1 |> onCnv fun c => { c with schedWait := none }))
    | _, _ => .next s1

/-! ### The gate link (R319 to R327) -/

/-- A latched bit of `DRV_STATUS`: DESAT_H, DESAT_L, UVLO, DRV_FAULT (R315, R322). -/
def drvFault (st : Nat) : Bool := bitAt st 4 || bitAt st 5 || bitAt st 6 || bitAt st 8

/-- A port sends nothing: before D9 of Dawn, on a STANDBY_PAIR module, below Noon, frozen or given up (R327), and after a Dawn
that ended while it sent nothing (R131). -/
def portDark (s : State) : Bool :=
  !(owning s) || (decide (s.dawn.fail ≠ 0) && s.dawn.failDark) || s.pair.takeover.isSome || 1 ≤ s.lad.rung || s.lad.frozen || s.lad.unpowered || s.str.state = .off ||
    (s.str.state = .dawn && (match s.dawn.step with | some k => decide (k < 9) | none => false))

/-- What a port sends in the next transfer (R327): the situation furthest down its table. -/
def gateWant (s : State) (n : Nat) : GatePort :=
  if portDark s then .dark
  else if s.cnv.fastTrip.any id then .fastSafeOff
  else if s.prot.stop.isSome || !(convWanted s) || s.cnv.mode.isNone || 0 < (portAt s n).clrLeft then .safeOff
  else if (phaseAt s (n / 2)).runs then .run else .safeOff

/-- `PHASE` of R321, in steps of 156.25 ps. -/
def carrierPhase (leg : Nat) : Nat := match leg / 2 with | 0 => 153600 | 1 => 260267 | _ => 46933

/-- An outbound frame of R320. -/
def gateFrame (leg seq : Nat) (g : GatePort) (clr hold : Bool) (duty dead : Nat) : GateFrame :=
  let mode := if g = .run then 1 else 0
  let ctrl := u8 (leg * 32 + b2n clr * 16 + b2n (hold && g = .run) * 8 + mode) ++ u8 seq
  if g = .fastSafeOff then { port := leg, fast := true, bytes := ctrl ++ u16 (crc16 ctrl) }
  else
    let b := ctrl ++ toLe 3 (if g = .run then duty else 0) ++ toLe 3 (carrierPhase leg) ++ u16 dead ++ u16 0
    { port := leg, fast := false, bytes := b ++ u16 (crc16 b) }

/-- What a port sends in this transfer: where the loops were late it goes on as in the period before, and the safe stop that
follows shows in the next (R30). -/
def gateNow (s : State) (n : Nat) (q : GlPort) : GatePort :=
  let g := gateWant s n
  if s.tick.keepDuty && q.last = .run && g = .safeOff then .run else g

/-- One port's transfer: the shadow words take the mapper's, unless the loops were late (R30), and its frame leaves. -/
def transferPort (s : State) (n : Nat) (q : GlPort) : GlPort × GatePort × List GateFrame :=
  let g := gateNow s n q
  if g = .dark then ({ q with expect := none, expectClr := false, clrLeft := 8, bad := 0, duty := 0, holdOn := false, dutyOld := 0, holdOld := false, last := .dark }, .dark, [])
  else
    let clr := 0 < q.clrLeft && g = .safeOff
    let d := if s.tick.keepDuty then q.duty else q.dutyNext
    let h := if s.tick.keepDuty then q.holdOn else q.holdNext
    let run := g = .run
    ({ q with seq := (q.seq + 1) % 256, expect := some q.seq, expectClr := clr, clrLeft := if clr then q.clrLeft - 1 else q.clrLeft
              duty := if run then d else 0, holdOn := run && h, dutyOld := if run then q.duty else 0, holdOld := run && q.holdOn, last := g },
     g, [gateFrame n q.seq g clr h d (nth 320 s.cfg.conv.dead n)])

/-- DUTY_TRANSFER: at 25 µs the duty words move to the shadow registers and the frames of the six ports go out (R26 item
0x03, R320, R321, R327). -/
def dutyTransfer (s : State) : State :=
  let r := mapI (transferPort s) s.cnv.ports
  s |> onCnv (fun c => { c with ports := r.map (·.1), frames := r.flatMap (·.2.2) })
    |> onPins (fun p => { p with gate := r.map (·.2.1) })
    |> onTick fun t => { t with keepDuty := false }

/-- A phase leaves service for a driver fault (R315). -/
def tripPhase (k : Nat) (s : State) : State :=
  let p := phaseAt s k
  if p.st = .tripped || !(owning s) || s.str.state = .dawn then s
  else
    let s1 := s |> onPhase k (fun p => { p with st := .tripped, ref := 0, refPrev := 0, desat := p.desat + 1, mayReturn := false })
      |> onSlot k Slot.halt
      |> log srcSafety 0x0701 2 (u16 k ++ u16 2 ++ u16 (portAt s (2 * k)).status ++ u16 (portAt s (2 * k + 1)).status) |> raiseTw 6
    if p.desat = 0 then s1 else s1 |> log srcSafety 0x0703 3 (u16 k) |> decideFault 0x0703 2 false 0

/-- A phase ramps down for over-temperature (R314). -/
def otPhase (k : Nat) (s : State) : State :=
  let p := phaseAt s k
  if p.st = .enabled || p.st = .softStart then
    s |> onPhase k (fun p => { p with st := .rampDown, byOt := true, lowTicks := 0, returning := false, readySince := none })
      |> log srcSafety 0x0701 2 (u16 k ++ u16 1 ++ u16 (portAt s (2 * k)).status ++ u16 (portAt s (2 * k + 1)).status)
  else s

/-- Gate-link returns are lost (R326): a module fault with an admitted partner, else a demand of SF_LINK. -/
def linkLost (n : Nat) (s : State) : State :=
  if demandActive 0x0731 s || s.pair.localFault || s.str.state = .dawn then s
  else
    let s1 := log srcSafety 0x0731 3 (u16 n ++ u16 (portAt s n).status) s |> trialFails
    if s.str.role = some .active && partnerAdmitted s then giveUp 0x0731 s1 else sfDemand 8 0x0731 1 false (0x8000 + n) 0 none s1

/-- A return frame is good: length, CRC and the echo of the frame it answers (R322, R326). -/
def returnOk (b : Bytes) (seq : Nat) : Bool := decide (b.length = 10) && getN b 8 2 = crc16 (b.take 8) && getN b 1 1 = seq

/-- One port's return of this tick (R326); after a takeover a missing one is not counted at first (R425). -/
def glReturn (n : Nat) (o : Option Bytes) (s : State) : State :=
  let q := portAt s n
  match q.expect with
  | none => s
  | some seq =>
    let lost := fun (t : State) =>
      let bad := q.bad + 1
      let t1 := t |> onPort n fun q => { q with err := satInc 32 q.err, bad := bad, expect := none }
      let t2 := t1 |> onPhase (n / 2) fun p => { p with clrClean := false }
      if 3 ≤ bad then linkLost n t2 else t2
    match o with
    | none => if !q.seen && 0 < s.pair.graceTicks then s |> onPort n (fun q => { q with expect := none }) else lost s
    | some b =>
      if !(returnOk b seq) then lost s
      else
        let st := getN b 2 2
        let s1 := s |> onPort n (fun q => { q with status := st, tDrv := some (getI b 4 2), bad := 0, seen := true, expect := none
                                                   clrLeft := if drvFault st && !(drvFault q.status) then 8 else q.clrLeft })
          |> irqEvent (140 + n) true
        let s2 := if q.expectClr && (drvFault st || bitAt st 2 || bitAt st 3 || !(bitAt st 0)) then s1 |> onPhase (n / 2) fun p => { p with clrClean := false } else s1
        let s3 := if getN b 0 1 ≠ n && s.str.state ≠ .dawn && !(demandActive 0x0730 s) then
            s2 |> log srcSafety 0x0730 3 (u16 n ++ u8 (getN b 0 1)) |> decideFault 0x0730 2 false 0
          else s2
        let s4 := if bitAt st 10 && !(bitAt q.status 10) && owning s then log srcSafety 0x0733 2 (u16 n) s3 else s3
        if (bitAt st 2 || bitAt st 3) && !q.expectClr && q.clrLeft = 0 then linkLost n s4 else s4

/-- Since when both drivers of a phase have been READY with OT clear (R316). -/
def readyTrack (s : State) : State :=
  s |> onCnv fun c => { c with phases := mapI (fun k (p : Phase) =>
    let a := (nth {} c.ports (2 * k)).status
    let b := (nth {} c.ports (2 * k + 1)).status
    if bitAt a 0 && bitAt b 0 && !(bitAt a 7) && !(bitAt b 7) then { p with readySince := p.readySince.orElse fun _ => some s.tick.now }
    else { p with readySince := none }) c.phases }

/-- A phase whose CLR frames have gone out and come back clean starts softly; where one was not clean it waits again. -/
def clrDone (k : Nat) (s : State) : State :=
  let p := phaseAt s k
  if p.clrLeft = 0 || (p.st ≠ .disabled && p.st ≠ .tripped) || !(convWanted s) then s
  else if (portAt s (2 * k)).clrLeft ≠ 0 || (portAt s (2 * k + 1)).clrLeft ≠ 0 || (portAt s (2 * k)).expect.isSome || (portAt s (2 * k + 1)).expect.isSome then s
  else if !p.clrClean then s |> onPhase k fun p => { p with clrLeft := 0, readySince := none }
  else s |> onPhase k (fun p => { p with st := .softStart, returning := true, byOt := false, clrLeft := 0, softTicks := 0, ref := 0, refPrev := 0, lowTicks := 0 })
    |> onSlot k Slot.halt

/-- The gate-link part of item 0x04: every return, then what the drivers' states ask of their phases, and whether enough of them are
left (R314 to R317, R326). -/
def glReturns (gl : List (Option Bytes)) (s : State) : State :=
  let s1 := (List.range 6).foldl (fun t n => glReturn n (nth none gl n) t) s
  let s2 := readyTrack s1
  phasesLow ((List.range 3).foldl (fun t k =>
    let a := (portAt t (2 * k)).status
    let b := (portAt t (2 * k + 1)).status
    let t1 := if drvFault a || drvFault b then tripPhase k t else if bitAt a 7 || bitAt b 7 then otPhase k t else t
    clrDone k t1) s2)

/-- PHASE_RAMP_DOWN_COMPLETE: |i_avg| has held within 2 A for 20 ticks, and both legs of the phase get SAFE_OFF (R314). -/
def execPhaseRampDownComplete (phase : Nat) (s : State) : Host.Outcome State Fault Refusal :=
  let p := phaseAt s phase
  if p.st ≠ .rampDown || p.lowTicks < 20 then .next s
  else .next (s |> onPhase phase (fun p => { p with st := .disabled, ref := 0, refPrev := 0, lowTicks := 0 })
    |> onSlot phase Slot.halt)

/-- PHASE_REENABLE: a phase out of service qualifies to return: after over-temperature when both drivers have been READY
for `OT_REENABLE`; after a driver fault from the next entry from CLOSED, with no latched bit. It gets 8 SAFE_OFF frames
with `CLR` (R316). -/
def execPhaseReenable (phase : Nat) (s : State) : Host.Outcome State Fault Refusal :=
  let p := phaseAt s phase
  let a := (portAt s (2 * phase)).status
  let b := (portAt s (2 * phase + 1)).status
  let okOt := p.st = .disabled && p.byOt && (match p.readySince with | some t => elapsed s t (secNs s.cfg.conv.otReenable) | none => false)
  let okTrip := p.st = .tripped && p.mayReturn && bitAt a 0 && bitAt b 0 && !(drvFault a) && !(drvFault b)
  if 3 ≤ phase || !(convWanted s) || !(regulatingState s.str.state) || p.clrLeft ≠ 0 || !(okOt || okTrip) then .next s
  else .next (s |> onPhase phase (fun p => { p with clrLeft := 8, clrClean := true })
    |> onPort (2 * phase) (fun q => { q with clrLeft := 8 }) |> onPort (2 * phase + 1) (fun q => { q with clrLeft := 8 }))

/-! ### Overcurrent (R325, R381) -/

/-- A demand of SF_OC_FAST, unless the safe stop of an earlier one still runs; clear class 2 from the second in a Dawn. -/
def ocDemand (item : Nat) (value limit : Int) (s : State) : State :=
  if !(sfRuns s) || (s.prot.stop.isSome && demandActive 0x0A04 s) then s
  else s |> sfDemand 4 0x0A04 (if s.prot.ocFastSeen then 2 else 0) false item value (some limit) |> onProt (fun p => { p with ocFastSeen := true })

/-- The protection logic aborts the frame of a port and sends the fast SAFE_OFF frame in its place (R320, R325). -/
def fastPort (n : Nat) (q : GlPort) : GlPort × List GateFrame :=
  if q.last = .dark then (q, [])
  else ({ q with seq := (q.seq + 1) % 256, expect := some q.seq, expectClr := false, duty := 0, holdOn := false, dutyOld := 0, holdOld := false, last := .fastSafeOff },
    [gateFrame n q.seq .fastSafeOff false false 0 0])

/-- FAST_COMPARATOR_TRIP: frames in progress are aborted and every port sends the fast SAFE_OFF without a core; the crossing
stays latched; the safety core makes the demand (R180, R325, R381; sources 134 to 139). Comparator 2k is phase k over, 2k + 1
under. -/
def execFastComparatorTrip (cmp : Nat) (s : State) : Host.Outcome State Fault Refusal :=
  if 6 ≤ cmp || !(metRuns s) || nth true s.cnv.fastTrip cmp then .next s
  else
    let cur := fun (k : Nat) => roundAway (phaseMa s k)
    let r := mapI fastPort s.cnv.ports
    let s1 := s |> onCnv (fun c => { c with fastTrip := setAt c.fastTrip cmp true, ports := r.map (·.1), frames := r.flatMap (·.2) })
      |> onPins (fun p => { p with gate := p.gate.map fun g => if g = .dark then .dark else .fastSafeOff })
      |> irqEvent (134 + cmp) true
    let s2 := log srcSafety 0x0707 3 (u8 (bitsOf s1.cnv.fastTrip) ++ iLe 3 (cur 0) ++ iLe 3 (cur 1) ++ iLe 3 (cur 2)) s1
    .next (ocDemand (cmp / 2) (cur (cmp / 2)) (if cmp % 2 = 0 then s.cfg.safety.ocFast else -(s.cfg.safety.ocFast : Int)) s2)

/-- The tick check of phase currents (R381, R385): the first phase beyond `OC_SW_LIMIT` makes the demand, and so does an
invalid conversion, with clear class 1. -/
def ocTickCheck (s : State) : State :=
  if !(sfRuns s) then s
  else
    let lim : Int := s.cfg.safety.ocSw
    let isOver := (List.range 3).find? fun k => (sarAt s k).valid && decide (lim < (roundAway (phaseMa s k)).natAbs)
    let bad := (List.range 3).find? fun k => !((sarAt s k).valid)
    match isOver, bad with
    | some k, _ => if demandActive 0x0A04 s && !(s.cnv.fastTrip.any id) && s.prot.stop.isNone then s
                   else ocDemand (0x0100 + k) (roundAway (phaseMa s k)) (if 0 ≤ phaseMa s k then lim else -lim) s
    | none, some k =>
      if demandActive 0x0A04 s then s else sfDemand 4 0x0A04 1 false (0x0100 + k) (roundAway (phaseMa s k)) none s
    | none, none => s

end Sys2Proof.Machine
end

