-- ==== Sys2Proof/Machine/Skaley.lean ====
section
/-! DEFINITION. The Skaley monitor link (R194 to R220): frames, launching and return, the scan traffic of a cycle,
admission, ring break and healing, staleness, on-demand snapshots. -/
namespace Sys2Proof.Machine

/-! ### Frames (R196 to R199) -/

/-- The bytes of a frame as launched. -/
def sklBytes (f : SklFrame) : Bytes :=
  let b := u8 f.type_ ++ u8 (if f.port = 0 then 0 else 0x80) ++ u16 f.seq ++ u8 f.dest ++ u8 0 ++ u16 f.payload.length ++ f.payload
  b ++ u32 (crc32c b)

/-- A returned frame is whole and its `FCRC` good (R200). -/
def sklFrameOk (b : Bytes) : Bool :=
  let n := getN b 6 2
  decide (12 ≤ b.length) && b.length = 12 + n && getN b (8 + n) 4 = crc32c (b.take (8 + n))

/-- Block CRC of R199 over the ring place and the block's bytes. -/
def blockCrc (m : Nat) (b : Bytes) : Nat := crc32c (BitVec.ofNat 8 m :: b)

/-- A monitor's block of `n` bytes with its CRC: 0 not written, 1 failing, 2 good. -/
def blockState (m n : Nat) (b : Bytes) : Nat :=
  if b.all (· = 0) then 0 else if getN b (n - 4) 4 = blockCrc m (b.take (n - 4)) then 2 else 1

/-- Nanoseconds on the line, with preamble and delimiter (R194). -/
def lineNs (f : SklFrame) : Nat := (15 + f.payload.length) * 400

/-- The longest path a frame may take (R203): down the ring and back, by forwarding and measured delays. -/
def pathNs (s : State) : Nat :=
  let d := s.skl.mons.foldl (fun a m => max a (max (m.delayA.getD 0) (m.delayB.getD 0))) 0
  2 * max (800 * geoM s) d

/-- Launched now, its last byte reaches both ports at least 10 µs before the next SYNC (R203). -/
def sklFits (s : State) (f : SklFrame) : Bool := decide (max 12000 (s.tick.j * 50000) + lineNs f + pathNs s + 10000 ≤ 1000000)

/-- The frame leaves its port with the port's next `SEQ`. -/
def sklSend (f : SklFrame) (s : State) : State :=
  s |> onSkl fun l =>
    let q := if f.port = 0 then l.seqA else l.seqB
    let g := { f with seq := q, at_ := s.tick.now }
    { l with seqA := if f.port = 0 then (q + 1) % 65536 else l.seqA, seqB := if f.port = 0 then l.seqB else (q + 1) % 65536
             flight := l.flight ++ [g], launched := l.launched ++ [g] }

/-- Ring-state code of R214. -/
def RingState.code : RingState → Nat | .down => 0 | .closed => 1 | .split => 2 | .open_ => 3

/-- SYNC from both ports at the tick 0 edge (R198, R202); the SYNCs of the frame before are judged for R216. -/
def sklSync (s : State) : State :=
  if !(runsRing s) then s
  else
    let p := u32 (frameNo s 0) ++ u8 (b2n (isModuleB s)) ++ u8 s.skl.ring.code ++ u16 0
    s |> onSkl (fun l => { l with
        syncRun := if l.syncA && l.syncB then l.syncRun + 1 else 0, syncA := false, syncB := false
        flight := l.flight.filter fun f => f.type_ ≠ 1 || decide (s.tick.now < f.at_ + 1050000) })
      |> sklSend { type_ := 1, dest := 0xFF, payload := p } |> sklSend { type_ := 1, dest := 0xFF, payload := p, port := 1 }

/-! ### The traffic of a cycle (R206) -/

/-- A STATUS round. -/
def statusPayload (s : State) : Bytes := List.replicate (8 * geoM s) 0

/-- VREAD of a snapshot. -/
def vreadPayload (s : State) (id : Nat) : Bytes := u16 id ++ u8 (geoM s) ++ u8 0 ++ List.replicate (44 * geoM s) 0

/-- DREAD and TREAD of a set. -/
def dreadPayload (s : State) (id : Nat) : Bytes := u16 id ++ u16 0 ++ List.replicate (8 + 32 * geoS s) 0
def treadPayload (id : Nat) : Bytes := u16 id ++ u16 0 ++ List.replicate (8 + 256) 0

/-- SNAP of R198. -/
def snapPayload (id mask target : Nat) : Bytes := u16 id ++ u8 mask ++ u8 0 ++ u32 target

/-- GEOM_SET of a place (R198). -/
def geomPayload (s : State) (m : Nat) : Bytes :=
  let x := monAt s m
  u8 (placeN s m) ++ u8 (geoS s) ++ ((List.range 16).flatMap fun k => u8 (if k < placeN s m then nth 0 s.cfg.geo.mask (16 * m + k) else 0))
    ++ u16 (x.delayA.getD 0xFFFF) ++ u16 (x.delayB.getD 0xFFFF)

/-- The place is reached from a port: both on a closed ring. -/
def reachedFrom (s : State) (m port : Nat) : Bool := if s.skl.ring = .closed then true else portOf s m = port

/-- A frame to one place that repeats a read (R206). -/
def sklAgain (type_ m : Nat) (payload : Bytes) (s : State) : State :=
  sklQueue { type_ := type_, dest := m, payload := payload, port := portOf s m, retry := true } (s |> onSkl fun l => { l with retries := satInc 32 l.retries })

/-- Place of a queued frame in the order of R206: what its own frame is for comes first, then DREAD, TREAD, LOCKIN_START, LOCKIN_READ,
the on-demand snapshot, BAL, retries, admission. -/
def sklRank (s : State) (f : SklFrame) : Nat :=
  match f.type_ with
  | 2 => if bitAt (getN f.payload 2 1) 3 then 5 else 0
  | 3 => if s.skl.snapId = some (getN f.payload 0 2) then 0 else 5
  | 4 => if f.retry then 7 else 1
  | 5 => if f.retry then 7 else 2
  | 6 => 3
  | 7 => if f.retry then 7 else 4
  | 8 => 6
  | 9 => 8
  | 10 => 8
  | 11 => 8
  | _ => 0

/-- A queued frame may go in this frame of the cycle (R206): admission in frame 0, the frame 4 queue in frames 4 to 9, a VREAD of the
cycle's snapshot before its bank completes, and that of an on-demand set once it is ready (R207). -/
def sklMay (s : State) (f : SklFrame) : Bool :=
  let r := sklRank s f
  if r = 0 then f.type_ ≠ 3 || decide (s.tick.f < 4)
  else if r = 8 then s.tick.f = 0 || decide (4 ≤ s.tick.f)
  else decide (4 ≤ s.tick.f) && (f.type_ ≠ 3 || decide (s.skl.onDemandAt + 300000 ≤ s.tick.now))

/-- 16 DELAY round trips from each port that reaches the place are in (R201). -/
def delaysDone (s : State) (m : Nat) : Bool :=
  let x := monAt s m
  (!(reachedFrom s m 0) || decide (16 ≤ x.rtAn)) && (!(reachedFrom s m 1) || decide (16 ≤ x.rtBn))

/-- A frame of a type to a place is queued or in flight already. -/
def sklBusy (s : State) (type_ dest : Nat) : Bool := (s.skl.queue ++ s.skl.flight).any fun f => f.type_ = type_ && f.dest = dest

/-- Admission traffic for a place (R201, R218). -/
def admitTraffic (m : Nat) (s : State) : State :=
  let x := monAt s m
  if x.state ≠ .quarantine || !x.reachable then s
  else if x.step = 0 then (if sklBusy s 9 m then s else sklTo 9 m (List.replicate 30 0) s)
  else if x.step = 1 && !(delaysDone s m) then
    let a := if reachedFrom s m 0 && decide (x.rtAn < 16) then sklQueue { type_ := 0x0B, dest := m, payload := [], port := 0 } s else s
    if reachedFrom s m 1 && decide (x.rtBn < 16) then sklQueue { type_ := 0x0B, dest := m, payload := [], port := 1 } a else a
  else if x.step = 1 && !x.geomSent then (if sklBusy s 0x0A m then s else sklTo 0x0A m (geomPayload s m) s)
  else s

/-- Admission traffic for every place. -/
def admitAll (s : State) : State := (List.range (geoM s)).foldl (fun t m => admitTraffic m t) s

/-- Reads of the drop and temperature sets that failed are repeated in any later window of the set (R206). -/
def retryReads (s : State) : State :=
  (List.range (geoM s)).foldl (fun t m =>
    let x := monAt t m
    let t1 := if x.dAsked && !x.dDone && x.state = .admitted && x.reachable && !(sklBusy t 4 m) then sklAgain 4 m (dreadPayload t t.skl.dSnap) t else t
    if x.tAsked && !x.tDone && x.state = .admitted && x.reachable && !(sklBusy t1 5 m) then sklAgain 5 m (treadPayload t1.skl.tSnap) t1 else t1) s

/-- A lock-in's participants have all been read, have failed three reads, or are lost (R210). -/
def lockinOver (s : State) : Bool :=
  (List.range (geoM s)).all fun m => let x := monAt s m; !x.lockin || x.lockinRead || decide (3 ≤ x.lockinFails) || x.state ≠ .admitted

/-- LOCKIN_READs from one frame after the integration end, tried again up to three times; the lock-in ends with the last
(R209, R210). -/
def readLockin (s : State) : State :=
  if !s.skl.lockinOn || s.tick.now < s.imp.lockEnd + 1000000 then s
  else (List.range (geoM s)).foldl (fun t m =>
    let x := monAt t m
    if x.lockin && !x.lockinRead && x.state = .admitted && x.lockinFails < 3 && !(sklBusy t 7 m) then
      let room := List.replicate (4 + 128 * s.imp.corr.length + 4) 0
      if x.lockinFails = 0 then sklTo 7 m room t else sklAgain 7 m room t
    else t) s

/-- The lock-in ends at the frame that finds its last participant done. -/
def lockinEnds (s : State) : State :=
  if s.skl.lockinOn && decide (s.imp.lockEnd + 1000000 ≤ s.tick.now) && lockinOver s then
    s |> onSkl (fun l => { l with lockinOn := false }) |> onImp (fun i => { i with lastLockinEnd := s.tick.now })
  else s

/-- The on-demand snapshot proceeds at a frame latch (R208). Accepted, it waits for a frame 4 to 8 and sends its SNAP, which names
the next frame. At that frame's tick 0 the set is latched, paired with the tick's DS0 word (R25), and its VREAD is queued; after four
frames without its read it has failed. -/
def onDemandTraffic (s : State) : State :=
  match s.skl.onDemand with
  | none => s
  | some (id, left) =>
    if 65535 < id then
      if s.tick.f < 4 || 8 < s.tick.f then s
      else
        let n := nextSnap s
        (roundPorts s).foldl (fun t p => sklQueue { type_ := 2, dest := 0xFF, payload := snapPayload n 8 (frameNo s 1), port := p } t)
          (s |> onSkl fun l => { l with onDemand := some (n, 5), snapUsed := some n })
    else if left = 5 then
      s |> onSkl (fun l => { l with onDemand := some (id, 4), onDemandAt := s.tick.now, onDemandI := roundAway (iTick s) })
        |> sklRound 3 (vreadPayload s id)
    else if 1 < left then s |> onSkl fun l => { l with onDemand := some (id, left - 1) }
    else s |> onSkl fun l => { l with onDemand := none, queue := l.queue.filter fun f => f.type_ ≠ 3 || getN f.payload 0 2 ≠ id }

/-- Further BAL frames, answered as queries, while a place is unresolved (R358). -/
def balQueries (s : State) : State :=
  if s.bal.monUnres.any id && !(sklBusy s 8 0xFE) then sklRound 8 (balPayload s (frameNo s 0)) s else s

/-- Broadcast from every port that launches. -/
def sklAll (type_ : Nat) (payload : Bytes) (s : State) : State :=
  (roundPorts s).foldl (fun t p => sklQueue { type_ := type_, dest := 0xFF, payload := payload, port := p } t) s

/-- The tones of the block a sweep is at (R281). -/
def sweepBlock (s : State) (w : Sweep) : PlanBlock := nth { length := 20, tones := [] } (nth [] s.cfg.imp.plans w.plan) w.block

/-- LOCKIN_START of the block that has started, in frames 4 to 8 (R206, R209, R294); one not launched yet goes with its sweep (R295). -/
def lockinStart (s : State) : State :=
  let dropped := fun (t : State) => t |> onSkl fun l => { l with queue := l.queue.filter fun f => f.type_ ≠ 6 }
  match s.imp.sweep with
  | none => dropped s
  | some w =>
    if w.st = 6 then dropped s
    else if w.st ≠ 1 || w.startAt = 0 || w.lockSent || s.skl.lockinOn || 8 < s.tick.f || w.startAt ≤ s.tick.now then s
    else
      let b := sweepBlock s w
      let p := u16 ((s.skl.lockinId + 1) % 65536) ++ u8 b.tones.length ++ u8 0 ++ u32 (frameNo s ((w.startAt - s.tick.now) / 1000000))
        ++ u32 b.length ++ b.tones.flatMap fun t => u32 t.1
      s |> onImp (fun i => { i with sweep := some { w with lockSent := true }, lockEnd := w.startAt + b.length * 50000 }) |> sklAll 6 p

/-- Frames 4 to 9: the SNAP of the next frame 0, and in frame 4 the reads of the cycle's drops and temperatures (R206). -/
def planReads (id : Nat) (s : State) : State :=
  let f := s.tick.f
  let c := s.tick.c
  let ms := List.range (geoM s)
  let s0 := if f = 9 then sklAll 2 (snapPayload (nextSnap s) (bitsOf [true, (c + 1) % 10 = 0, (c + 1) % 50 = 0]) (frameNo s 1)) s
    else if f = 4 then s |> onSkl fun l => { l with queue := l.queue.filter fun q =>
      !((q.type_ = 3 && getN q.payload 0 2 = id) || (q.type_ = 4 && getN q.payload 0 2 ≠ l.dSnap) || (q.type_ = 5 && getN q.payload 0 2 ≠ l.tSnap)) }
    else s
  let s1 := if f = 4 then
      let ds := ms.filter fun m => m % 10 = c % 10 && (monAt s m).state = .admitted && (monAt s m).reachable
      let t1 := ds.foldl (fun t m => sklTo 4 m (dreadPayload s s.skl.dSnap) (onMon m (fun x => { x with dAsked := true }) t)) s0
      if c < geoM s && (monAt s c).state = .admitted && (monAt s c).reachable then
        sklTo 5 c (treadPayload s.skl.tSnap) (onMon c (fun x => { x with tAsked := true }) t1)
      else t1
    else s0
  s1

/-- What each frame of the scan cycle queues (R206, R207). -/
def sklPlan (s0 : State) : State :=
  let s := if runsRing s0 then onDemandTraffic (lockinEnds s0) else lockinEnds s0
  if !(runsRing s) || geoM s = 0 then s
  else
    let f := s.tick.f
    let c := s.tick.c
    let ms := List.range (geoM s)
    if f = 0 then admitAll (sklRound 0x0C (statusPayload s) (if s.skl.broken then s |> onSkl fun l => { l with probing := true, probeA := none, probeB := none } else s))
    else match s.skl.snapId with
    | none => if f = 9 then sklAll 2 (snapPayload (nextSnap s) (bitsOf [true, (c + 1) % 10 = 0, (c + 1) % 50 = 0]) (frameNo s 1)) s else s
    | some id =>
      if f = 1 then sklRound 3 (vreadPayload s id) s
      else if f ≤ 3 then
        if ms.any fun m => let x := monAt s m; !x.vDone && x.reachable then
          sklRound 3 (vreadPayload s id) (s |> onSkl fun l => { l with retries := satInc 32 l.retries })
        else sklRound 0x0C (statusPayload s) s
      else
        planReads id s |> lockinStart |> readLockin |> balTraffic |> balQueries |> retryReads |> admitAll

/-! ### SKALEY_FRAME_LAUNCH (R203) -/

/-- Participation in a lock-in is fixed when its LOCKIN_START goes out (R210). -/
def lockinLaunched (f : SklFrame) (s : State) : State :=
  if f.type_ ≠ 6 || s.skl.lockinOn then s
  else s |> onSkl (fun l => { l with lockinOn := true, lockinId := getN f.payload 0 2 })
    |> onMons (fun _ m => { m with lockin := m.state = .admitted, lockinRead := false, lockinFails := 0, lockinSt := 0, lockinData := [] })

/-- The first entry of a list that satisfies a test, and the list without it. -/
def takeFirst {α : Type} (p : α → Bool) : List α → Option (α × List α)
  | [] => none
  | x :: xs => if p x then some (x, xs) else (takeFirst p xs).map fun r => (r.1, x :: r.2)

/-- The queued frame of a port that goes next: the oldest of the first in the order of R206. -/
def sklNext (s : State) (port : Nat) : Option (SklFrame × List SklFrame) :=
  (List.range 9).findSome? fun r => takeFirst (fun f => f.port = port && sklRank s f = r && sklMay s f) s.skl.queue

/-- SKALEY_FRAME_LAUNCH: the next queued frame of a port leaves, if its path still fits before the next SYNC; otherwise it waits
for the next frame. -/
def execSkaleyFrameLaunch (port : Nat) (s : State) : Host.Outcome State Fault Refusal :=
  if !(runsRing s) then .next s
  else match sklNext s port with
  | none => .next s
  | some (f, rest) =>
    if sklFits s f then
      .next (s |> onSkl (fun l => { l with queue := rest }) |> ringRel (if port = 0 then 16 else 18) |> lockinLaunched f |> sklSend f)
    else .next s

/-! ### Quarantine and admission (R217 to R219) -/

/-- A monitor enters QUARANTINE with a cause of R224: its delays are measured anew, from the ports that reach it then (R201), and a
lock-in result not read yet is lost (R210). -/
def quarantine (m cause : Nat) (s : State) : State :=
  s |> onMon m (fun x => { x with state := .quarantine, step := 0, scans := 0, geomSent := false, geomOk := false, wasUnreachable := false
                                  rtA := 0, rtAn := 0, rtB := 0, rtBn := 0, delayA := none, delayB := none, clockDue := false
                                  lockin := x.lockin && x.lockinRead })
    |> log srcApp2 0x0405 1 (u16 m ++ u16 cause)

/-- A failed step makes the monitor REFUSED (R218). -/
def refuseMon (m step value : Nat) (s : State) : State :=
  s |> onMon m (fun x => { x with state := .refused, wasUnreachable := false }) |> log srcApp2 0x0407 2 (u16 m ++ u16 step ++ u32 value)

/-- Step 2 is judged on the first report after GEOM_SET came back, and step 3 follows (R218). -/
def judgeGeometry (m status : Nat) (s : State) : State :=
  let x := monAt s m
  if x.state ≠ .quarantine || x.step ≠ 1 || !x.geomSent then s
  else if !(bitAt status 5) then refuseMon m 2 status s
  else if x.calOk then s |> onMon m fun x => { x with step := 3, scans := 0 }
  else refuseMon m 3 x.calCrc s

/-- A good report of a monitor: its status and the low byte of its boot counter (R211, R219). A module that has taken the ring over
learns the boot counters from the first report (R220). -/
def monSeen (m status boot : Nat) (s : State) : State :=
  let x := monAt s m
  let s1 := s |> onMon m fun x => { x with looping := bitAt status 0 || bitAt status 1, geomOk := bitAt status 5, reachable := true }
  match x.state with
  | .notSeen => quarantine m 0 s1
  | .lost => quarantine m 1 s1
  | .refused => if x.wasUnreachable then quarantine m 4 s1 else s1
  | .quarantine => judgeGeometry m status s1
  | .admitted =>
    let old := x.bootCnt.getD boot
    if x.bootCnt.isNone then s1 |> onMon m fun y => { y with bootCnt := some boot }
    else if old % 256 ≠ boot then
      s1 |> onMon m (fun y => { y with resetSeen := true, bootCnt := some (old / 256 * 256 + boot) })
        |> log srcApp2 0x040D 2 (u16 m ++ u16 old ++ u16 (old / 256 * 256 + boot)) |> quarantine m 2
    else if !(bitAt status 5) then quarantine m 3 s1
    else s1

/-- Voltages of a VREAD block, 0.1 mV, and their sum path. -/
def blockV (b : Bytes) (k : Nat) : Nat := getN b (4 + 2 * k) 2
def blockSum (b : Bytes) (n : Nat) : Nat := ((List.range n).map (blockV b)).foldl (· + ·) 0

/-- `V_STACK` agrees with the sum of `V_POS` within max(20 mV, 0.2 %) (R218, R386). -/
def stackOk (n : Nat) (b : Bytes) : Bool := ((getN b 36 4 : Int) - blockSum b n).natAbs ≤ max 200 (blockSum b n / 500)

/-- Step 4 conditions on a block that arrived (R218): the failed one of R224, 0 for none. -/
def scanFault (s : State) (m id : Nat) (b : Bytes) : Nat :=
  let x := monAt s m
  let n := placeN s m
  if getN b 0 2 ≠ id then 2
  else if 0 < x.scans && getN b 3 1 ≠ x.firstBoot then 3
  else if (List.range n).any (fun k => decide (blockV b k < 5000) || decide (50000 < blockV b k)) then 4
  else if stackOk n b then 0
  else 5

/-- A quarantined monitor passes another scan; the tenth in a row admits it. -/
def scanPassed (m boot : Nat) (s : State) : State :=
  let x := monAt s m
  let s1 := s |> onMon m fun x => { x with scans := x.scans + 1, firstBoot := if x.scans = 0 then boot else x.firstBoot }
  if x.scans + 1 < 10 then s1
  else s1 |> onMon m (fun x => { x with state := .admitted, clockDue := true, resetSeen := false
                                        bootCnt := x.bootCnt.map fun b => b / 256 * 256 + boot })
    |> log srcApp2 0x0406 1 (u16 m ++ u32 (x.serial.getD 0xFFFFFFFF))

/-- Voltages of a good block enter the bank, and the clocks of the positions that read (R24, R205, R212). -/
def takeVoltages (m : Nat) (b : Bytes) (s : State) : State :=
  let v := fun (k : Nat) => if blockV b k = 0xFFFF then none else some ((blockV b k : Nat) : Int)
  s |> onTab (fun t => { t with volt := (List.range (placeN s m)).foldl (fun g k => g.put (16 * m + k) (v k)) t.volt })
    |> onPoss (fun p e => if placeOf p = m && (v (p % 16)).isSome then { e with vAt := some s.skl.vSnapAt } else e)
    |> onMon m (fun x => { x with vDone := true })

/-- A block whose CRC fails is missing and counted (R199). -/
def crcMiss (st : Nat) (s : State) : State := if st = 1 then s |> onSkl fun l => { l with blockCrc := satInc 32 l.blockCrc } else s

/-- A block whose sum path disagrees is a missed set, counted and not asked for again (R386). -/
def stackDisagrees (m : Nat) (s : State) : State :=
  s |> onSkl (fun l => { l with stackDisagree := satInc 32 l.stackDisagree }) |> onMon m fun x => { x with vDone := true }

/-- One place's block of a VREAD for the scheduled snapshot `id` (R204, R206, R211, R218, R386): a failing CRC, MEAS_FAULT or another
`SNAP_ID` makes it missing. -/
def voltBlock (m id : Nat) (b : Bytes) (s : State) : State :=
  let st := blockState m 44 b
  if st ≠ 2 then missedScan (crcMiss st (if st = 1 then s |> onMon m fun x => { x with vCrcErr := true } else s)) m
  else if bitAt (getN b 2 1) 4 then missedScan (log srcApp2 0x040C 2 (u16 m) s) m
  else
    let first := !(monAt s m).vAsked
    let was := (monAt s m).state = .quarantine && (monAt s m).step = 3 && first
    let s1 := monSeen m (getN b 2 1) (getN b 3 1) (s |> onMon m fun x => { x with vAsked := true })
    let scanning := was && (monAt s1 m).state = .quarantine && (monAt s1 m).step = 3
    let s2 := match (monAt s1 m).state with | .quarantine => s1 |> ringPut 20 (mkPacket 3 b) |> ringRel 20 | _ => s1
    if getN b 0 2 ≠ id then
      let s3 := s2 |> onSkl fun l => { l with mismatch := satInc 32 l.mismatch }
      if scanning then quarRestart m 2 s3 else s3
    else
      let s3 := s2 |> onMon m fun x => { x with vDone := true }
      if (monAt s3 m).state = .admitted then (if stackOk (placeN s m) b then takeVoltages m b s3 else stackDisagrees m s3)
      else if scanning then
        match scanFault s3 m id b with
        | 0 => scanPassed m (getN b 3 1) s3
        | k => quarRestart m k s3
      else s3

/-- A DREAD or TREAD block: `n` values of int16 into the group, from entry `base`. -/
def int16Vals (b : Bytes) (n : Nat) : List (Option Int) :=
  (List.range n).map fun k => let v := getN b (4 + 2 * k) 2; if v = 0x8000 then none else some (signed 16 v)
def putVals (base : Nat) (l : List (Option Int)) (g : Banked) : Banked := ((mapI (fun i v => (i, v)) l).foldl (fun a x => a.put (base + x.1) x.2) g)

/-- Check of a directed answer block: CRC, with the monitor's flag for it, then the `SNAP_ID` echo. -/
def readBlock (m n id : Nat) (flag : Monitor → Monitor) (b : Bytes) (s : State) : State × Bool :=
  let st := blockState m n b
  if st ≠ 2 then (crcMiss st (if st = 1 then onMon m flag s else s), false)
  else if getN b 0 2 ≠ id then (s |> onSkl fun l => { l with mismatch := satInc 32 l.mismatch }, false)
  else (s, true)

/-- IDENT answer: step 1, and what step 3 reads (R198, R218). -/
def identBlock (m : Nat) (b : Bytes) (s : State) : State :=
  let x := monAt s m
  if blockState m 30 b ≠ 2 then crcMiss (blockState m 30 b) s
  else if x.state ≠ .quarantine || x.step ≠ 0 then s
  else
    let serial := getN b 0 4
    let cls := getN b 4 2
    let proto := getN b 6 2
    let s1 := s |> onMon m fun x => { x with
      serial := some serial, bootCnt := some (getN b 12 2), calCrc := getN b 14 4
      calOk := getN b 14 4 ≠ 0xFFFFFFFF && getN b 18 8 ≠ 0xFFFFFFFFFFFFFFFF }
    if serial ≠ nth 0 s.cfg.geo.serials m then refuseMon m 1 serial s1
    else if proto ≠ 1 then refuseMon m 1 proto s1
    else if cls = 0 || 0xFFFE < cls then refuseMon m 1 cls s1
    else s1 |> onMon m fun x => { x with step := 1 }

/-- A DELAY frame's round trip (R201): after 16, the one-way delay. -/
def delayReturned (m port rt : Nat) (s : State) : State :=
  s |> onMon m fun x =>
    if port = 0 then
      let n := x.rtAn + 1
      { x with rtA := x.rtA + rt, rtAn := n, delayA := if n = 16 then some (((x.rtA + rt) / 16 - 800) / 2) else x.delayA }
    else
      let n := x.rtBn + 1
      { x with rtB := x.rtB + rt, rtBn := n, delayB := if n = 16 then some (((x.rtB + rt) / 16 - 800) / 2) else x.delayB }

/-- LOCKIN_READ answer (R209); a block not complete, overranged or out of SYNC counts as missing (R286). -/
def lockinBlock (m : Nat) (b : Bytes) (s : State) : State :=
  let tones := getN b 2 1
  let n := 4 + 128 * tones + 4
  let blk := blockState m n (b.take n)
  if blk ≠ 2 || getN b 0 2 ≠ s.skl.lockinId || !(monAt s m).lockin then
    crcMiss blk s |> onMon m fun x => { x with lockinFails := x.lockinFails + 1 }
  else
    let data := (List.range (placeN s m)).flatMap fun k => (List.range tones).map fun t =>
      let o := 4 + 8 * (tones * k + t)
      (k, t, getI b o 4, getI b (o + 4) 4)
    let st := getN b 3 1
    s |> onMon m fun x => { x with lockinRead := true, lockinSt := st, lockinData := if bitAt st 0 && !(bitAt st 1) && !(bitAt st 3) then data else [] }

/-! ### Ring break (R214 to R216) -/

/-- A frame launched and lost: a LOCKIN_READ has failed once more (R210), and a voltage read left its places without their block at
the first read (R218). -/
def flightLost (s : State) (f : SklFrame) : State :=
  if f.type_ = 7 then s |> onMon f.dest fun x => { x with lockinFails := x.lockinFails + 1 }
  else if f.type_ = 3 && s.skl.snapId = some (getN f.payload 0 2) then
    ((List.range (geoM s)).filter fun m => reachedFrom s m f.port).foldl missedScan s
  else s

/-- A STATUS frame that looks for the break from a port. -/
def probeFrame (s : State) (port : Nat) : SklFrame := { type_ := 0x0C, dest := 0xFE, payload := statusPayload s, port := port }

/-- The break is being located: STATUS goes out from both ports, ahead of everything waiting, and what was in flight is lost (R215). -/
def startProbe (s : State) : State :=
  if s.skl.probing || geoM s = 0 then s
  else
    let gone := s.skl.flight.filter fun g => g.type_ ≠ 1
    gone.foldl flightLost (s |> onSkl fun l => { l with
        probing := true, probeA := none, probeB := none, queue := probeFrame s 0 :: probeFrame s 1 :: l.queue
        flight := l.flight.filter fun g => g.type_ = 1 })
      |> ringPut 16 (mkPacket 0x0C (statusPayload s)) |> ringPut 18 (mkPacket 0x0C (statusPayload s))

/-- Both copies are judged by the places each reached: a, b, the ring state, and the records of R215 where a break is new, that is on a
ring not yet declared broken or where a place is reached no longer. A ring on which the copies overlap is whole again and waits for
R216. -/
def finishProbe (rA rB : List Nat) (s : State) : State :=
  let n := geoM s
  let reached := fun (m : Nat) => rA.contains m || rB.contains m
  let nA := rA.foldl (fun a m => max a (m + 1)) 0
  let nB := rB.foldl (fun a m => max a (n - m)) 0
  let all := (List.range n).all reached
  let st : RingState := if rA.isEmpty && rB.isEmpty then .down else if all && decide (n ≤ nA + nB) then .split else .open_
  let fresh := !s.skl.broken || (List.range n).any fun m => (monAt s m).reachable && !(reached m)
  let a := if n < nA + nB then s.skl.breakA else if nA = 0 then none else some (nA - 1)
  let b := if n < nA + nB then s.skl.breakB else if nB = 0 then none else some (n - nB)
  let d := u8 (a.getD 0xFF) ++ u8 (b.getD 0xFF)
  let s1 := s |> onSkl (fun l => { l with
      probing := false, probeA := none, probeB := none, ring := st, breakA := a, breakB := b, broken := true
      syncRun := if fresh then 0 else l.syncRun, brokenSince := if l.broken then l.brokenSince else s.tick.now })
    |> onMons (fun m x => { x with
        viaB := rB.contains m && !(rA.contains m), reachable := reached m
        wasUnreachable := x.wasUnreachable || (!(reached m) && x.state = .refused) })
  if !fresh then s1
  else
    let s2 := recoveryStart (log srcApp2 0x0401 2 d s1)
    if st = .split then s2 else log srcApp2 0x0403 3 d s2

/-- What one port's STATUS copy reached goes into the search. -/
def probeResult (port : Nat) (r : List Nat) (s : State) : State :=
  if !s.skl.probing then s
  else
    let s1 := s |> onSkl fun l => if port = 0 then { l with probeA := some r } else { l with probeB := some r }
    match s1.skl.probeA, s1.skl.probeB with
    | some a, some b => finishProbe a b s1
    | _, _ => s1

/-- Places whose block stands in a round, its CRC good or not. -/
def written (s : State) (size base step : Nat) (p : Bytes) : List Nat :=
  (List.range (geoM s)).filter fun m => blockState m size (slice p (base + step * m) size) ≠ 0

/-- A STATUS round returns (R198, R219); a block with MEAS_FAULT is missing and recorded (R211). -/
def statusReturned (port : Nat) (p : Bytes) (s : State) : State :=
  let mine := (List.range (geoM s)).filter fun m => s.skl.probing || reachedFrom s m port
  let s1 := mine.foldl (fun t m =>
    let b := slice p (8 * m) 8
    match blockState m 8 b with
    | 2 => if bitAt (getN b 0 1) 4 then log srcApp2 0x040C 2 (u16 m) t else monSeen m (getN b 0 1) (getN b 1 1) t
    | k =>
      let t1 := crcMiss k t
      if s.skl.probing || k = 1 then t1
      else t1 |> onMon m fun x => { x with reachable := false, wasUnreachable := x.wasUnreachable || x.state = .refused }) s
  probeResult port (written s 8 0 8 p) s1

/-- A frame turned back on a broken ring falls short of what its port is known to reach: the addressed monitor has not answered, or
the farthest place has no block in the round. A further break is looked for (R214, R215). -/
def fallsShort (s : State) (f : SklFrame) (b : Bytes) : Bool :=
  let p := (b.drop 8).take (getN b 6 2)
  let mine := (List.range (geoM s)).filter fun m => (monAt s m).reachable && portOf s m = f.port
  let far := fun (w : List Nat) => match (if f.port = 0 then mine.getLast? else mine.head?) with | some m => !(w.contains m) | none => false
  if f.dest < 40 then f.type_ ≠ 0x0B && !(bitAt (getN b 1 1) 6) && (monAt s f.dest).reachable
  else if f.type_ = 3 then far (written s 44 4 44 p)
  else if f.type_ = 0x0C then far (written s 8 0 8 p)
  else false

/-- SYNC came back at the other port; the first frame with both closes a starting ring (R214), while one declared broken takes the ten
frames of R216. -/
def syncReturned (port at_ : Nat) (s : State) : State :=
  if port = at_ then s
  else
    let s1 := s |> onSkl fun l => if port = 0 then { l with syncA := true } else { l with syncB := true }
    if s1.skl.ring = .down && !s1.skl.broken && s1.skl.syncA && s1.skl.syncB then
      s1 |> onSkl (fun l => { l with ring := .closed }) |> onMons (fun m x => if m < geoM s then { x with reachable := true } else x)
    else s1

/-- One place's block of an on-demand VREAD: a failing CRC, another `SNAP_ID` or MEAS_FAULT makes it missing; copies from both ports are
merged by place (R199, R207, R211, R215). -/
def onDemandBlock (m id : Nat) (b : Bytes) (s : State) : State :=
  let st := blockState m 44 b
  if st ≠ 2 then crcMiss st s
  else if getN b 0 2 ≠ id then s |> onSkl fun l => { l with mismatch := satInc 32 l.mismatch }
  else if bitAt (getN b 2 1) 4 then log srcApp2 0x040C 2 (u16 m) s
  else s |> onSkl fun l => { l with onDemandV := l.onDemandV.filter (fun x => x.1 ≠ m) ++ [(m, (List.range (placeN s m)).map (blockV b))] }

/-- A returned frame's blocks by type (R198, R204 to R209, R356). -/
def sklDeliver (f : SklFrame) (at_ rt : Nat) (b : Bytes) (s : State) : State :=
  let p := (b.drop 8).take (getN b 6 2)
  let mine := (List.range (geoM s)).filter fun m => reachedFrom s m f.port
  let other := fun (t : State) => t |> ringPut (17 + 2 * at_) (mkPacket f.type_ p) |> ringRel (17 + 2 * at_)
  match f.type_ with
  | 0x01 => syncReturned f.port at_ s
  | 0x03 =>
    let id := getN f.payload 0 2
    if s.skl.snapId = some id then mine.foldl (fun t m => voltBlock m id (slice p (4 + 44 * m) 44) t) s
    else
      let s1 := mine.foldl (fun t m => onDemandBlock m id (slice p (4 + 44 * m) 44) t) s
      if (s1.skl.queue ++ s1.skl.flight).any fun g => g.type_ = 3 && getN g.payload 0 2 = id then s1
      else s1 |> onSkl fun l => { l with onDemand := if l.onDemand.map (·.1) = some id then none else l.onDemand }
  | 0x04 =>
    let n := 8 + 32 * geoS s
    let blk := slice p 4 n
    let r := readBlock f.dest n s.skl.dSnap (fun x => { x with dCrcErr := true }) blk s
    if r.2 && (monAt s f.dest).state = .admitted then
      let vals := int16Vals blk (placeN s f.dest * geoS s)
      let base := 16 * f.dest * geoS s
      r.1 |> onTab (fun t => { t with drop := putVals base vals t.drop })
        |> onCells (fun c e => if decide (base ≤ c) && (nth none vals (c - base)).isSome then { e with dAt := some s.skl.dSnapAt } else e)
        |> onMon f.dest (fun x => { x with dDone := true })
    else r.1
  | 0x05 =>
    let blk := slice p 4 264
    let r := readBlock f.dest 264 s.skl.tSnap (fun x => { x with tCrcErr := true }) blk s
    if r.2 && (monAt s f.dest).state = .admitted then
      let base := 128 * f.dest
      let vals := mapI (fun i v => if (nth {} s.tab.temps (base + i)).fitted then v else none) (int16Vals blk (placeN s f.dest * 8))
      r.1 |> onTab (fun t => { t with
            temp := putVals base vals t.temp
            temps := mapI (fun i (e : TempEntry) => if decide (base ≤ i) && (nth none vals (i - base)).isSome then { e with tAt := some s.skl.tSnapAt } else e) t.temps })
        |> onMon f.dest (fun x => { x with tDone := true })
    else r.1
  | 0x07 => other (lockinBlock f.dest p s)
  | 0x08 => other (mine.foldl (fun t m =>
      let k := slice p (8 + 28 * m) 28
      if getN k 24 4 = blockCrc m (k.take 24) then balBlock m (getN f.payload 0 2) k t
      else if (k.drop 16).all (· = 0) then t
      else t |> onSkl fun l => { l with blockCrc := satInc 32 l.blockCrc }) s)
  | 0x09 => other (identBlock f.dest p s)
  | 0x0A => other (if bitAt (getN b 1 1) 6 && p.take 22 = f.payload.take 22 then s |> onMon f.dest fun x => { x with geomSent := true }
                   else if bitAt (getN b 1 1) 6 then refuseMon f.dest 2 (getN p 0 1) s else s)
  | 0x0B => other (delayReturned f.dest f.port rt s)
  | 0x0C => other (statusReturned f.port p s)
  | _ => other s

/-- A frame came back whole but bad, or is discarded for its phase margin: its launch is over and its content lost; a copy that looks
for a break goes out again. Which launch a bad frame belongs to is taken from its port and age. -/
def badReturn (port : Nat) (s : State) : State :=
  let broken := s.skl.ring = .split || s.skl.ring = .open_
  match takeFirst (fun f => f.type_ ≠ 1 && (if broken then f.port = port else f.port ≠ port)) s.skl.flight with
  | none => s
  | some (f, rest) =>
    let s1 := flightLost (s |> onSkl fun l => { l with flight := rest }) f
    if s.skl.probing && f.type_ = 0x0C then s1 |> onSkl fun l => { l with queue := f :: l.queue } else s1

/-- SKALEY_FRAME_RETURNED: a frame with a bad `FCRC`, cut short, or discarded for its phase margin is counted; one cut short is no
valid return, and its launch stays to be timed out. A good one is matched with its launch and delivered; one turned back on a ring not
known to be broken, or falling short on one that is, declares RING_BREAK (R200, R215, R518). -/
def execSkaleyFrameReturned (port : Nat) (marginOk : Bool) (rt : Nat) (bytes : Bytes) (s : State) : Host.Outcome State Fault Refusal :=
  if !(runsRing s) || 2 ≤ port then .next s
  else if !marginOk || !(sklFrameOk bytes) then
    let s1 := s |> onSkl fun l => { l with
      crcA := if port = 0 then satInc 32 l.crcA else l.crcA, crcB := if port = 1 then satInc 32 l.crcB else l.crcB }
    .next (if decide (12 ≤ bytes.length) && decide (12 + getN bytes 6 2 ≤ bytes.length) then badReturn port s1 else s1)
  else
    let dir := if bitAt (getN bytes 1 1) 7 then 1 else 0
    match takeFirst (fun f => f.type_ = getN bytes 0 1 && f.seq = getN bytes 2 2 && f.port = dir) s.skl.flight with
    | none => .next s
    | some (f, rest) =>
      let s1 := s |> onSkl fun l => { l with flight := rest }
      let looped := bitAt (getN bytes 1 1) 5 && f.type_ ≠ 0x0B
      if looped && (s.skl.ring = .closed || s.skl.ring = .down) && !s.skl.probing then .next (startProbe (flightLost s1 f))
      else
        let s2 := sklDeliver f port rt bytes s1
        .next (if looped && !s.skl.probing && fallsShort s f bytes then startProbe s2 else s2)

/-- SKALEY_FRAME_TIMEOUT: a frame launched from a port does not return within its line time plus 40 µs (R215). -/
def execSkaleyFrameTimeout (port : Nat) (s : State) : Host.Outcome State Fault Refusal :=
  if !(runsRing s) then .next s
  else match takeFirst (fun f => f.port = port && elapsed s f.at_ (lineNs f + 40000)) s.skl.flight with
  | none => .next s
  | some (f, rest) =>
    let s1 := flightLost (s |> onSkl fun l => { l with flight := rest }) f
    if s.skl.probing then .next (if f.type_ = 0x0C then probeResult port [] s1 else s1) else .next (startProbe s1)

/-- SKALEY_CARRIER_LOSS: a port has seen no transition for 2 µs (R194, R215); sources 146 and 147. -/
def execSkaleyCarrierLoss (port : Nat) (s : State) : Host.Outcome State Fault Refusal :=
  if !(runsRing s) || 2 ≤ port then .next s
  else .next (s |> onSkl (fun l => if port = 0 then { l with carrierA := false } else { l with carrierB := false })
    |> irqEvent (146 + port) true |> startProbe)

/-- RING_HEALED: both SYNCs have come back across the ring in 10 consecutive frames (R216). -/
def execRingHealed (s : State) : Host.Outcome State Fault Refusal :=
  let l := s.skl
  let run := l.syncRun + b2n (l.syncA && l.syncB)
  if !l.broken || run < 10 then .next s
  else .next (s |> onSkl (fun l => { l with ring := .closed, broken := false, probing := false, breakA := none, breakB := none, carrierA := true, carrierB := true })
    |> onMons (fun m x => if m < geoM s then { x with viaB := false } else x)
    |> irqEvent 146 false |> irqEvent 147 false
    |> log srcApp2 0x0402 1 (u32 (sinceNs s l.brokenSince / 1000000)))

/-! ### Staleness (R212, R213) -/

/-- Entries of a LOST monitor become sentinels, from the bank being filled on (R213). -/
def blankMonitor (m : Nat) (s : State) : State :=
  let n := placeN s m
  let blank := fun (base k : Nat) (g : Banked) => (List.range k).foldl (fun a i => a.blank (base + i)) g
  s |> onTab fun t => { t with
    volt := blank (16 * m) n t.volt, drop := blank (16 * m * geoS s) (n * geoS s) t.drop, temp := blank (128 * m) (8 * n) t.temp }

/-- A monitor whose voltages are stale becomes LOST; one that is REFUSED stays so (R212, R219). A lock-in result not read yet is
missing (R210). -/
def loseMonitor (m : Nat) (s : State) : State :=
  match (monAt s m).state with
  | .refused => s
  | .lost => s
  | _ => s |> onMon m (fun x => { x with state := .lost, clockDue := false, lockin := x.lockin && x.lockinRead }) |> blankMonitor m |> log srcApp2 0x0404 2 (u16 m)

/-- A clock of R212 is past its limit. -/
def pastLimit (s : State) (o : Option Nat) (ns : Nat) : Bool := match o with | some t => elapsed s t ns | none => false

/-- VOLTAGE_STALE: the newest valid voltage of a position is older than 25 ms; its monitor is LOST and SF_LINK makes its
demand (R212, R378, R559). The record names the first stale position. -/
def execVoltageStale (pos : Nat) (s : State) : Host.Outcome State Fault Refusal :=
  let m := placeOf pos
  let e := nth {} s.tab.poss pos
  if !(runsRing s) || geoP s ≤ pos || e.vStale || !(pastLimit s e.vAt (msNs 25)) then .next s
  else
    let s1 := s |> onPoss (fun p e => if placeOf p = m && pastLimit s e.vAt (msNs 25) then { e with vStale := true } else e)
      |> onMon m (fun x => { x with vStale := true }) |> loseMonitor m
    if (monAt s m).vStale then .next s1
    else .next (sfDemand 8 0x0A08 0 false pos (sinceNs s (e.vAt.getD 0) / 1000000) (some 25) (log srcApp2 0x0409 3 (u16 pos) s1))

/-- DROP_STALE: the newest valid drop of a cell is older than 310 ms; its position is left out of the share solve, and a Twilight
cause is raised (R212). The record names the first stale cell. -/
def execDropStale (cell : Nat) (s : State) : Host.Outcome State Fault Refusal :=
  let n := geoS s
  let m := placeOf (cell / n)
  let e := nth {} s.tab.cells cell
  if !(runsRing s) || n = 0 || geoP s * n ≤ cell || e.dropStale || !(pastLimit s e.dAt (msNs 310)) then .next s
  else
    let s1 := s |> onCells (fun c e => if placeOf (c / n) = m && pastLimit s e.dAt (msNs 310) then { e with dropStale := true } else e)
    let s2 := s1 |> onPoss (fun p e =>
        if placeOf p = m && (List.range n).any (fun k => (nth {} s1.tab.cells (p * n + k)).dropStale) then { e with dropStale := true } else e)
      |> onMon m (fun x => { x with dStale := true })
    .next (raiseTw 3 (if (monAt s m).dStale then s2 else log srcApp2 0x040A 2 (u16 cell) s2))

/-- TEMP_STALE: the newest valid temperature of a sensor is older than 1,510 ms; it reads its sentinel, and a Twilight cause is raised
(R212). The record names the first stale sensor. -/
def execTempStale (idx : Nat) (s : State) : Host.Outcome State Fault Refusal :=
  let m := placeOf (idx / 8)
  let e := nth {} s.tab.temps idx
  if !(runsRing s) || geoP s ≤ idx / 8 || !e.fitted || e.stale || !(pastLimit s e.tAt (msNs 1510)) then .next s
  else
    let gone := fun (i : Nat) (e : TempEntry) => placeOf (i / 8) = m && e.fitted && pastLimit s e.tAt (msNs 1510)
    let s1 := s |> onMon m (fun x => { x with tStale := true })
      |> onTab (fun q => { q with
          temps := mapI (fun i (e : TempEntry) => if gone i e then { e with stale := true, valid := false, band := none } else e) q.temps
          temp := (List.range (8 * placeN s m)).foldl (fun g i => if gone (128 * m + i) (nth {} q.temps (128 * m + i)) then g.blank (128 * m + i) else g) q.temp })
    .next (thermScan (raiseTw 4 (if (monAt s m).tStale then s1 else log srcApp2 0x040B 2 (u16 idx) s1)))

/-- ON_DEMAND_SNAPSHOT_REQUEST: accepted and scheduled, or refused with BUSY while one runs (R208). -/
def execOnDemandSnapshotRequest (r : HostReq) (s : State) : Host.Outcome State Fault Refusal :=
  if s.skl.onDemand.isSome then .next (respond r stBusy [] s)
  else if !(runsRing s) || geoM s = 0 then .next (refuseState r s)
  else .next (s |> onSkl (fun l => { l with onDemand := some (65536, 0), onDemandV := [] }) |> respond r stOk [])

/-- The ring starts in step D10 (R201, R219): transmitters on, every place NOT_SEEN, ENUM from both ports. -/
def ringStart (s : State) : State :=
  let p := u8 (geoM s) ++ List.replicate 3 0
  s |> onPins (fun x => { x with sklTx := true })
    |> onSkl (fun l => { ({} : LinkSt) with skip := l.skip })
    |> sklQueue { type_ := 0x0D, dest := 0xFF, payload := p } |> sklQueue { type_ := 0x0D, dest := 0xFF, payload := p, port := 1 }

end Sys2Proof.Machine
end

