-- ==== Sys2Proof/Machine/Impedance.lean ====
section
/-! DEFINITION. Impedance spectroscopy in service (R280 to R300): excitation, lock-in blocks, reduction, internal
temperature, resistance growth and automatic sweeps. Impedances are exact in nV per mA, which is µΩ. -/
namespace Sys2Proof.Machine

/-! ### Excitation (R283, R284) -/

/-- Sum of the amplitudes of a tone list, mA. -/
def ampSum (l : List (Nat × Nat)) : Rat := sumR (l.map fun t => (t.2 : Rat))

/-- The factor a(t) of R283 at a local time. -/
def fadeAt (x : Excite) (now : Nat) : Rat :=
  let up := if x.since + 20000000 ≤ now then 1 else ((now - x.since : Nat) : Rat) / 20000000
  match x.out with
  | none => up
  | some t => if now ≤ t then up else if t + 20000000 ≤ now then 0 else up * (1 - ((now - t : Nat) : Rat) / 20000000)

/-- e(t) of R283 at a local time, mA. -/
def exciteAt (x : Excite) (now : Nat) : Rat :=
  let t : Rat := ((now : Int) - (x.t0 : Int) : Int)
  snap (fadeAt x now * sumR (x.tones.map fun f => (f.2 : Rat) * cosTurn ((f.1 : Rat) * t / 1000000000000)))

/-- Excitation at the sample instant of a tick; it ends with its fade-out and with the converter. -/
def exciteTick (s : State) : State :=
  match s.imp.exc with
  | none => s |> onImp fun i => { i with eTick := 0 }
  | some x =>
    let isOver := match x.out with | some t => decide (t + 20000000 ≤ s.tick.now) | none => false
    if isOver || !(regulatingState s.str.state) then s |> onImp fun i => { i with exc := none, eTick := 0 }
    else
      let e := exciteAt x s.tick.now
      s |> onImp fun i => { i with eTick := e, eSum := i.eSum + e }

/-- The mean of e over the frame that has ended (R283). -/
def exciteFrame (s : State) : State := s |> onImp fun i => { i with eMean := i.eSum / 20, eSum := 0 }

/-- The interval R284 confines the DC reference to while the excitation runs. -/
def zConfine (s : State) : Option (Rat × Rat) :=
  s.imp.exc.map fun x => (-(s.dsp.appDis - ampSum x.tones), s.dsp.appChg - ampSum x.tones)

/-! ### Correlation of the current (R285) -/

/-- Tick word of the coulomb source channel, mA (R189). -/
def sourceTick (s : State) : Rat :=
  let n := if s.met.srcDs1 then 1 else 0
  shuntMa s n (dsAt s n).word

/-- The tick word of this instant enters the sums of every tone, from START_FRAME over `LENGTH` ticks (R285). -/
def corrTick (s : State) : State :=
  match s.imp.sweep with
  | none => s
  | some w =>
    let b := sweepBlock s w
    let k := (s.tick.now - w.startAt) / 50000
    if w.startAt = 0 || s.tick.now < w.startAt || b.length ≤ k || w.st = 6 then s
    else
      let i := sourceTick s
      let at_ := fun (f : Nat) => (f : Rat) * (k * 50000 : Nat) / 1000000000000
      s |> onImp fun m =>
        let old := if k = 0 then List.replicate b.tones.length ((0, 0) : Rat × Rat) else m.corr
        { m with corrN := k + 1
                 corr := List.zipWith (fun (f : Nat × Nat) a => (snap (a.1 + i * cosTurn (at_ f.1)), snap (a.2 - i * sinTurn (at_ f.1)))) b.tones old }

/-- Movement of the DC reference and the coulomb source while a block integrates (R294), at a frame latch. -/
def driftTrack (s : State) : State :=
  s |> onImp fun i => { i with sweep := i.sweep.map fun w =>
    if w.st ≠ 2 then w
    else { w with dcMoved := max w.dcMoved (roundAway s.dsp.ref - w.dc0).natAbs, srcChanged := w.srcChanged || w.src0 ≠ s.met.srcDs1 } }

/-! ### Blocks (R294) -/

/-- Blocks of a plan. -/
def planBlocks (s : State) (p : Nat) : List PlanBlock := nth [] s.cfg.imp.plans p

/-- The sweep goes on with its next block, or ends OK after its last (R294, R297). -/
def nextBlock (s : State) : State :=
  match s.imp.sweep with
  | none => s
  | some w =>
    if w.block + 1 < (planBlocks s w.plan).length then
      let w1 := { w with block := w.block + 1, st := 1, repeats := 0, startAt := 0, lockSent := false, again := false, drift := false }
      s |> onImp (fun i => { i with sweep := some w1 }) |> publishOp 3 (sweepResult w)
    else
      let due := w.started + secNs (60 * s.cfg.imp.autoPeriod)
      let counts := !w.auto && w.plan = s.cfg.imp.autoPlan
      s |> onImp (fun i => { i with
            sweep := none
            autoDue := if counts then some due else i.autoDue
            nextAuto := if counts then some (s.tb.time + due - s.tick.now) else i.nextAuto })
        |> log srcApp1 0x0620 1 (u8 w.plan ++ u8 w.blocksValid ++ u8 w.blocksSkipped) |> endOp 3 stOk (sweepResult w)

/-- Points of a tone are replaced by those of the block completed last. -/
def putPoints (tones : List Nat) (new : List ZPoint) (s : State) : State :=
  s |> onImp fun i => { i with points := (i.points.filter fun z => !(tones.contains z.tone)) ++ new }

/-- A block without headroom is skipped: its points are flagged and the sweep goes on (R284). -/
def skipBlock (s : State) : State :=
  match s.imp.sweep with
  | none => s
  | some w =>
    let tones := (sweepBlock s w).tones.map (·.1)
    let pts := (List.range (geoP s)).flatMap fun p => tones.map fun t => ({ pos := p, tone := t, headroom := true, missing := false } : ZPoint)
    let w1 := { w with blocksDone := w.blocksDone + 1, blocksSkipped := w.blocksSkipped + 1, keep := none }
    s |> onImp (fun i => { i with sweep := some w1, skipCnt := satInc 32 i.skipCnt, exc := fadeOutAt s.tick.now i.exc })
      |> onSkl (fun l => { l with queue := l.queue.filter fun f => f.type_ ≠ 6 })
      |> putPoints tones pts
      |> log srcApp1 0x0622 1 (u16 w.block ++ i32 (roundAway s.dsp.appChg) ++ i32 (roundAway s.dsp.appDis)) |> nextBlock

/-- A block that runs has lost its headroom, or one of the three phases (R284, R309). -/
def blockHeadroom (s : State) : State :=
  match s.imp.sweep, zConfine s with
  | some w, some (lo, hi) => if (w.st = 1 || w.st = 2) && w.startAt ≠ 0 && (decide (hi < lo) || decide (enabledN s < 3)) then skipBlock s else s
  | _, _ => s

/-- Settle time: the longer of two periods of the lowest tone and 100 ms (R294). -/
def settleNs (b : PlanBlock) : Nat :=
  let f := b.tones.foldl (fun a t => min a t.1) 2000000
  max 100000000 (if f = 0 then 0 else (2000000000000 + f - 1) / f)

/-- Up to the next multiple of a frame from the frame start `now`. -/
def frameUp (now t : Nat) : Nat := now + (t - now + 999999) / 1000000 * 1000000

/-- START_FRAME of a block that starts at the frame latch `now` (R294): after fade-in and settle, and no earlier than the
third frame after the previous lock-in, nor than the LOCKIN_START that announces it can arrive. -/
def startFrameAt (s : State) (b : PlanBlock) (keep : Option Nat) : Nat :=
  let now := s.tick.now
  let a := match keep with | some t => t + settleNs b | none => now + 20000000 + settleNs b
  let third := if s.imp.lastLockinEnd = 0 then now else s.imp.lastLockinEnd + 3000000
  let sent := now + 1000000 * (if s.tick.f < 4 then 5 - s.tick.f else if s.tick.f < 8 then 2 else 15 - s.tick.f)
  frameUp now (max a (max third sent))

/-- IMPEDANCE_BLOCK_START: at a frame latch the block waiting to start begins its fade-in after the headroom check, or is
skipped (R284, R294). -/
def execImpedanceBlockStart (s : State) : Host.Outcome State Fault Refusal :=
  match s.imp.sweep with
  | none => .next s
  | some w =>
    if w.st ≠ 1 || w.startAt ≠ 0 || s.str.state ≠ .run || isSp s || s.tick.j ≠ 0 || s.tick.now < w.notBefore || s.skl.lockinOn || (w.keep.isNone && s.imp.exc.isSome) then .next s
    else
      let b := sweepBlock s w
      if s.dsp.appChg + s.dsp.appDis < 2 * ampSum b.tones || enabledN s < 3 then .next (skipBlock s)
      else
        let t := startFrameAt s b w.keep
        let since := match w.keep, s.imp.exc with | some _, some x => x.since | _, _ => s.tick.now
        .next (s |> onImp fun i => { i with
          sweep := some { w with startAt := t, lockSent := false, keep := none, srcChanged := false, dcMoved := 0 }
          plan := some w.plan, exc := some { tones := b.tones, t0 := t, since := since } })

/-- LOCKIN_INTEGRATION_START: at START_FRAME the block integrates; the DC reference and the coulomb source of its start are
kept for R294. The sums of R285 run with the tick words. -/
def execLockinIntegrationStart (s : State) : Host.Outcome State Fault Refusal :=
  match s.imp.sweep with
  | none => .next s
  | some w =>
    if isSp s || w.st ≠ 1 || w.startAt = 0 || s.tick.now < w.startAt then .next s
    else .next (s |> onImp fun i => { i with
      sweep := some { w with st := 2, dc0 := roundAway s.dsp.ref, dcMoved := 0, src0 := s.met.srcDs1, srcChanged := false } })

/-- LOCKIN_INTEGRATION_END: the block is repeated where the DC reference moved or the coulomb source changed, at most twice;
otherwise its results are awaited, and the excitation fades out unless the next block has the same tones (R294). -/
def execLockinIntegrationEnd (s : State) : Host.Outcome State Fault Refusal :=
  match s.imp.sweep with
  | none => .next s
  | some w =>
    let b := sweepBlock s w
    if isSp s || w.st ≠ 2 || s.tick.now < w.startAt + b.length * 50000 then .next s
    else
      let moved := decide (s.cfg.imp.dcStepMax * s.cfg.conv.iRated < w.dcMoved * 10000)
      let bad := moved || w.srcChanged
      if bad && w.repeats < 2 then
        .next (s |> onImp (fun i => { i with
            sweep := some { w with st := 3, again := true, repeats := w.repeats + 1, keep := some s.tick.now, endAt := s.tick.now }
            retryCnt := satInc 32 i.retryCnt })
          |> log srcApp1 0x0621 0 (u16 w.block ++ u16 (if moved then 0 else 1)))
      else
        let next := (planBlocks s w.plan).drop (w.block + 1)
        let same : Bool := match next with | n :: _ => n.tones = b.tones | [] => false
        .next (s |> onImp fun i => { i with
          sweep := some { w with st := 3, drift := bad, keep := if same then some s.tick.now else none, endAt := s.tick.now, endTime := s.tb.time }
          exc := if same then i.exc else fadeOutAt s.tick.now i.exc })

/-! ### Reduction (R287 to R293) -/

/-- Product and quotient of complex numbers. -/
def cMul (a b : Rat × Rat) : Rat × Rat := (a.1 * b.1 - a.2 * b.2, a.1 * b.2 + a.2 * b.1)
def cDiv (a b : Rat × Rat) : Rat × Rat :=
  let d := b.1 * b.1 + b.2 * b.2
  if d = 0 then (0, 0) else ((a.1 * b.1 + a.2 * b.2) / d, (a.2 * b.1 - a.1 * b.2) / d)

/-- x to a whole power. -/
def powR (x : Rat) : Nat → Rat
  | 0 => 1
  | n + 1 => snap (x * powR x n)

/-- I_corr of R287 from I_raw at a tone in mHz. -/
def iCorr (s : State) (raw : Rat × Rat) (mHz : Nat) : Rat × Rat :=
  let c := dsAt s (if s.met.srcDs1 then 1 else 0)
  let f : Rat := (mHz : Rat) / 1000
  let fm : Rat := 20480000
  let m : Rat := 1024
  let l : Rat := c.postL
  let hs := powR (sinTurn (f * m / (2 * fm)) / (m * sinTurn (f / (2 * fm)))) c.sincN
  let hp := if c.postL ≤ 1 then 1 else sinTurn (f * l / 40000) / (l * sinTurn (f / 40000))
  let tau := (c.sincN : Rat) * (m - 1) / (2 * fm) + (l - 1) / 40000
  let g := hs * hp
  let r := cMul raw (cosTurn (f * tau), sinTurn (f * tau))
  if g = 0 then (0, 0) else (snap (r.1 / g), snap (r.2 / g))

/-- R_link of R289, µΩ. -/
def linkOhm (s : State) (p : Nat) (e : PosEntry) : Rat :=
  e.k * s.cfg.cell.linkRNom * (1 + (s.cfg.cell.linkTc : Rat) / 1000000 * ((tPos s p - 2500) / 100)) / nCells s e

/-- One point of R289 and R290; `tone` is the tone's place in the block. -/
def reducePoint (s : State) (w : Sweep) (i : Rat × Rat) (tone mHz amp p : Nat) : ZPoint :=
  let m := monAt s (placeOf p)
  let low := decide (4 * (i.1 * i.1 + i.2 * i.2) < (amp : Rat) * amp)
  let base : ZPoint := { pos := p, tone := mHz, lockinBusy := bitAt m.lockinSt 2, dcDrift := w.drift, currentLow := low }
  match (if m.lockin && m.lockinRead then m.lockinData.find? (fun d => d.1 = p % 16 && d.2.1 = tone) else none) with
  | none => base
  | some d =>
    let e := nth {} s.tab.poss p
    let z := cDiv ((d.2.2.1 : Int), (d.2.2.2 : Int)) i
    let n := nCells s e
    let neg := decide (z.1 ≤ 0)
    { base with
      missing := false, reNegative := neg
      zRe := some (snap z.1), zIm := some (snap z.2), cRe := some (snap (n * (z.1 - linkOhm s p e))), cIm := some (snap (n * z.2))
      valid := !neg && !low && !base.lockinBusy && !w.drift }

/-- Internal temperature from a phase in 0.01° by `TEMP_MAP`; none outside it (R291). -/
def mapTemp : List (Int × Int) → Rat → Option Int
  | a :: b :: r, x =>
    if x < a.1 then none
    else if x ≤ b.1 then some (roundAway (lerp a.1 a.2 b.1 b.2 x))
    else mapTemp (b :: r) x
  | [a], x => if x = a.1 then some a.2 else none
  | [], _ => none

/-- A VALID point at `T_TONE` sets `T_INT` of its position and its cells (R291). -/
def useTTone (z : ZPoint) (endAt : Nat) (s : State) : State :=
  let phi := atan2R (z.cIm.getD 0) (z.cRe.getD 0) * 18000 / piR
  let t := mapTemp s.cfg.imp.tempMap phi
  let tp := tPos s z.pos
  let s1 := s |> onPos z.pos (fun e => { e with tInt := t, tIntAt := endAt, fl := { e.fl with tFromSensors := t.isNone } })
    |> onCells fun c x => if isCellOf s z.pos c then { x with tInt := t, fl := { x.fl with tFromSensors := t.isNone } } else x
  match t with
  | some v => if 1500 < absR ((v : Rat) - tp) then log srcApp1 0x0623 1 (u16 z.pos ++ i16 v ++ i16 (roundAway tp)) s1 else s1
  | none => s1

/-- A VALID point at `R_TONE` moves `R_POS_REF` (R293). -/
def useRTone (z : ZPoint) (s : State) : State :=
  s |> onPos z.pos fun e =>
    let t := estT s z.pos e
    let rt := cellPar s t CellBand.rOhm
    let r := z.zRe.getD 0
    let rp := rPosAt s t e
    if rt = 0 || decide (r < rp / 2) || decide (2 * rp < r) then e
    else { e with rRef := snap (e.rRef + (r * cellPar s 2500 CellBand.rOhm / rt - e.rRef) / 20) }

/-- The points of a block take effect: events, internal temperatures and resistances. -/
def usePoint (endAt : Nat) (s : State) (z : ZPoint) : State :=
  let negFirst := z.reNegative && (match s.imp.sweep with | some w => !w.negLogged | none => false)
  let s1 := if negFirst then
      s |> onImp (fun i => { i with sweep := i.sweep.map fun w => { w with negLogged := true } }) |> log srcApp1 0x0624 2 (u16 z.pos ++ u32 z.tone)
    else s
  if !z.valid then s1
  else
    let s2 := if z.tone = s1.cfg.imp.tTone then useTTone z endAt s1 else s1
    if z.tone = s2.cfg.imp.rTone then useRTone z s2 else s2

/-- The block's I_raw and I_corr per tone. -/
def blockCurrents (s : State) (b : PlanBlock) : List (Rat × Rat) :=
  List.zipWith (fun (f : Nat × Nat) (a : Rat × Rat) =>
    let k : Rat := 2 / b.length
    iCorr s (a.1 * k, a.2 * k) f.1) b.tones s.imp.corr

/-- IMPEDANCE_REDUCTION: after the last LOCKIN_READ, impedances, internal temperature and resistance growth are computed and
the result is published; results of an integration to be repeated are dropped (R289 to R294, R452). -/
def execImpedanceReduction (s : State) : Host.Outcome State Fault Refusal :=
  match s.imp.sweep with
  | none => .next s
  | some w =>
    let b := sweepBlock s w
    if isSp s || (w.st ≠ 3 && w.st ≠ 4) || s.tick.now < w.endAt + 1000000 || (s.skl.lockinOn && !(lockinOver s)) then .next s
    else
      let s0 := if s.skl.lockinOn then s |> onSkl (fun l => { l with lockinOn := false }) |> onImp (fun i => { i with lastLockinEnd := s.tick.now }) else s
      if w.again then .next (s0 |> onImp fun i => { i with sweep := some { w with st := 1, startAt := 0, lockSent := false, again := false } })
      else
        let is := blockCurrents s0 b
        let pts := (List.range (geoP s0)).flatMap fun p =>
          mapI (fun k (f : Nat × Nat) => reducePoint s0 w (nth (0, 0) is k) k f.1 f.2 p) b.tones
        let w1 := { w with blocksDone := w.blocksDone + 1, blocksValid := if pts.any (·.valid) then w.blocksValid + 1 else w.blocksValid }
        let s1 := s0 |> putPoints (b.tones.map (·.1)) pts
          |> onImp (fun i => { i with
              sweep := some w1, lastTime := some w.endTime
              freqs := fillTo 0 (b.tones.map (·.1)), iExc := fillTo none (is.map some) })
        .next (nextBlock (pts.foldl (usePoint w.endAt) s1))
where
  fillTo {α : Type} (d : α) (l : List α) : List α := l.take 8 ++ List.replicate (8 - l.length) d

/-! ### Starting (R294, R297) -/

/-- A start would return BUSY (R294). -/
def sweepBusy (s : State) : Bool :=
  (findOp s 3).isSome || s.skl.lockinOn || (match s.est.learn with | some l => l.phase = 1 || l.phase = 3 | none => false)

/-- A sweep of a plan starts for a session, 0 for an automatic one. -/
def sweepStart (plan session : Nat) (s : State) : State :=
  let h := nextHandle s
  s |> createOp 3 session |> onImp fun i => { i with
    sweep := some { handle := h, plan := plan, auto := session = 0, started := s.tick.now }, plan := some plan }

/-- AUTO_SWEEP_DUE: the automatic sweep that falls due starts, or is deferred until it can (R297). -/
def execAutoSweepDue (s : State) : Host.Outcome State Fault Refusal :=
  match s.imp.autoDue with
  | none => .next s
  | some t =>
    if s.tick.now + 50000 < t || s.str.state ≠ .run || isSp s || sweepBusy s || s.cfg.imp.plans.length ≤ s.cfg.imp.autoPlan then .next s
    else
      let p := secNs (60 * s.cfg.imp.autoPeriod)
      .next (sweepStart s.cfg.imp.autoPlan 0 s |> onImp fun i => { i with autoDue := some (s.tick.now + p), nextAuto := some (s.tb.time + p) })

/-- T_INT_EXPIRED: `T_INT` of a position is older than `T_INT_AGE_MAX`, and estimation returns to sensor temperatures
(R292, R278). -/
def execTIntExpired (pos : Nat) (s : State) : Host.Outcome State Fault Refusal :=
  let e := nth {} s.tab.poss pos
  if isSp s || e.tInt.isNone || !(elapsed s e.tIntAt (secNs s.cfg.imp.tIntAgeMax)) then .next s
  else .next (s |> onPos pos (fun e => { e with tInt := none, fl := { e.fl with tFromSensors := true } })
    |> onCells fun c x => if isCellOf s pos c then { x with tInt := none, fl := { x.fl with tFromSensors := true } } else x)

end Sys2Proof.Machine
end

