-- ==== Sys2Proof/Machine/Envelope.lean ====
section
/-! DEFINITION. Dispatch and the current envelope (R334 to R352): window values, thermal budgets, the applied
envelope, set-points and the reference. Currents in mA, exact. -/
namespace Sys2Proof.Machine

/-- Dispatch runs: RUN, TWILIGHT and STOPPING on the owning module (R334). -/
def dispRuns (s : State) : Bool := owning s && regulatingState s.str.state

/-- `I_RATED`, mA. -/
def ratedMa (s : State) : Rat := s.cfg.conv.iRated

/-! ### Inputs of the envelope (R335 to R338) -/

/-- Per-cell limit of a band, mA: direction 0 charge, 1 discharge; window 0 to 2. Without the section, by `CAP_NOM` (R348). -/
def bandLimit (s : State) (b d w : Nat) : Rat :=
  if s.cfg.disp.present then (nth 0 s.cfg.disp.bandLim (6 * b + 3 * d + w) : Nat) * 10
  else if d = 0 then (s.cfg.cell.capNom : Rat) / 2 else s.cfg.cell.capNom

/-- L_cell of R336. -/
def cellLimit (s : State) (d w : Nat) : Rat :=
  match hottest s, coldest s with
  | some h, some c => minR (bandLimit s h.2.2 d w) (bandLimit s c.2.2 d w)
  | _, _ => (minOf ((List.range 8).map fun b => bandLimit s b d w)).getD 0

/-- A linear taper of `I_RATED` from its full value at `full` to 0 at `zero`; off where the two are equal (R337, R338). -/
def taper (s : State) (full zero x : Rat) : Rat :=
  if full = zero then ratedMa s else ratedMa s * clampR 0 1 ((zero - x) / (zero - full))

/-- Non-stale position voltages of the newest bank, 0.1 mV. -/
def liveVolts (s : State) : List Rat :=
  (mapI (fun p (e : PosEntry) => if e.vStale then none else (s.tab.volt.val p).map fun v => (v : Rat)) s.tab.poss).filterMap id

/-- L_V as the newest bank gives it. -/
def rawLv (s : State) (chg : Bool) : Rat :=
  let c := s.cfg.disp
  if chg then
    (if c.vChgLo = c.vChgHi then ratedMa s else match maxOf (liveVolts s) with | some v => taper s c.vChgLo c.vChgHi v | none => 0)
  else
    (if c.vDisHi = c.vDisLo then ratedMa s else match minOf (liveVolts s) with | some v => taper s c.vDisHi c.vDisLo v | none => 0)

/-- A limit whose rise is bounded to 1 % of `I_RATED` per voltage bank, `banks` of which came since the last frame (R337). -/
def riseLimited (s : State) (old : Option Rat) (banks : Nat) (x : Rat) : Rat :=
  match old with
  | none => x
  | some o => minR x (o + banks * ratedMa s / 100)

/-- L_SOC of R338. -/
def socLimit (s : State) (chg : Bool) : Rat :=
  let c := s.cfg.disp
  let l := s.tab.poss.filterMap fun e => e.socRep.map (· * 10000)
  if chg then (if c.socChgLo = c.socChgHi then ratedMa s else match maxOf l with | some x => taper s c.socChgLo c.socChgHi x | none => 0)
  else (if c.socDisHi = c.socDisLo then ratedMa s else match minOf l with | some x => taper s c.socDisHi c.socDisLo x | none => 0)

/-- The terms of the minimum of R335 for a direction and a window, in the order of R351, L_TW only in TWILIGHT. -/
def envTerms (s : State) (d w : Nat) (lv ls : Rat) : List (Nat × Rat) :=
  [(0, cellLimit s d w * geoS s * s.tab.shareDerate), (1, lv), (2, ls), (3, (s.cnv.iLimit : Rat))]
    ++ (match s.prot.lTw with | some x => if s.str.state = .twilight then [(4, x)] else [] | none => [])

/-- Least term; the first among equals. -/
def leastTerm (l : List (Nat × Rat)) : Nat × Rat :=
  l.foldl (fun a x => if x.2 < a.2 then x else a) (match l with | x :: _ => x | [] => (0, 0))

/-- A direction's envelope: its window values, the name of what sets the 2 s value, and whether L_TW is a least term. -/
structure EnvDir where
  e : Env3
  lim : Nat
  tw : Bool
  deriving DecidableEq, Repr

/-- R335 and R351 for a direction. -/
def envDir (s : State) (d : Nat) (lv ls : Rat) : EnvDir :=
  let k : Rat := (estFactor s : Rat) / 10000
  let cap := fun (x : Rat) => if d = 1 then (match s.est.disLimit with | some m => minR x (absR m) | none => x) else x
  let t := fun w => envTerms s d w lv ls
  let v := fun w => cap ((leastTerm (t w)).2 * k)
  let e2 := v 0
  let e30 := minR (v 1) e2
  let ec := minR (v 2) e30
  let base := leastTerm (t 0)
  let lim := if k = 0 && base.2 ≠ 0 then 6 else if e2 < base.2 * k then 5 else base.1
  let tw := (List.range 3).any fun w => (t w).any fun x => x.1 = 4 && x.2 = (leastTerm (t w)).2
  { e := { e2 := e2, e30 := e30, ec := ec }, lim := lim, tw := tw }

/-! ### Budgets and the applied envelope (R339, R340) -/

/-- One budget's step: the lower and upper window value, its time in s, and the current. -/
def budgetStep (n lo hi secs i : Rat) : Rat :=
  let den := (hi * hi - lo * lo) * secs * 1000
  let rec9 := 9 / 10 * lo
  let m := if hi = lo then n
    else if lo < i then n + (i * i - lo * lo) / den
    else if i < rec9 then n - (rec9 * rec9 - i * i) / den
    else n
  if hi = lo then 1 else clampR 0 1 (snap m)

/-- A budget while dispatch does not run: it recovers with I = 0, and is 0 at once where its two windows are equal. -/
def budgetRest (n lo hi secs : Rat) : Rat :=
  if hi = lo then 0 else clampR 0 1 (snap (n - (9 / 10 * lo) * (9 / 10 * lo) / ((hi * hi - lo * lo) * secs * 1000)))

/-- E_app of R340. -/
def appEnv (e : Env3) (n30 n2 : Rat) : Rat :=
  let l30 := sqrtR (e.ec * e.ec + (e.e2 * e.e2 - e.ec * e.ec) * minR 1 (10 * (1 - n30)))
  let l2 := sqrtR (e.e30 * e.e30 + (e.e2 * e.e2 - e.e30 * e.e30) * minR 1 (10 * (1 - n2)))
  minR e.e2 (minR l30 l2)

/-- Window values of the direction given by the sign of the string current, while dispatch runs; of the last frame in which it
ran, otherwise (R339). -/
def envNow (s : State) : Env3 := if s.dsp.budgetDis then s.dsp.dis else s.dsp.chg

/-- `ENV_WALKED` with its records (R340, R347, R352). -/
def walkStep (s : State) : State :=
  let d := s.dsp
  let hot := decide (9 / 10 < d.n30) || decide (9 / 10 < d.n2)
  let cool := decide (d.n30 ≤ 1 / 2) && decide (d.n2 ≤ 1 / 2)
  if hot && !d.walked then
    let g := d.gWalked.pass s
    let s1 := s |> onDsp fun d => { d with walked := true, walkedSince := s.tick.now, gWalked := g.2.2 }
    let dir := if iStr s < 0 then 1 else 0
    if g.1 then log srcApp0 0x0803 1 (u16 dir ++ i32 (roundAway (appEnv (envNow s) d.n30 d.n2)) ++ u16 (pct d.n30) ++ u16 (pct d.n2) ++ u16 (min g.2.1 0xFFFE)) s1 else s1
  else if cool && d.walked then
    s |> onDsp (fun d => { d with walked := false }) |> log srcApp0 0x0804 0 (u32 (sinceNs s d.walkedSince / 1000000000))
  else s

/-- The budgets at a frame latch (R339); before dispatch has first run they keep their starting value, and a standby keeps those of
the stream (R334). -/
def budgets (s0 : State) : State :=
  if !s0.dsp.ranBefore || isSp s0 then s0
  else if dispRuns s0 then
    let s := s0 |> onDsp fun d => { d with budgetDis := decide (iStr s0 < 0) }
    let e := envNow s
    let i := absR (iStr s)
    walkStep (s |> onDsp fun d => { d with n30 := budgetStep d.n30 e.ec e.e30 30 i, n2 := budgetStep d.n2 e.e30 e.e2 2 i })
  else
    let e := envNow s0
    walkStep (s0 |> onDsp fun d => { d with n30 := budgetRest d.n30 e.ec e.e30 30, n2 := budgetRest d.n2 e.e30 e.e2 2 })

/-! ### Set-points (R121 to R123, R341 to R343) -/

/-- A set-point is superseded: counted, and recorded at most once per 60 s (R342, R347). -/
def coalesced (s : State) : State :=
  let g := s.dsp.gCoalesced.pass s
  let s1 := s |> onDsp fun d => { d with overload := satInc 32 d.overload, gCoalesced := g.2.2 }
  if g.1 then log srcApp0 0x0802 0 (u16 (min g.2.1 0xFFFE)) s1 else s1

/-- The newest of the candidates. -/
def newestSp (l : List (Int × Nat)) : Option (Int × Nat) :=
  l.foldl (fun a x => match a with | none => some x | some y => if y.2 < x.2 then some x else a) none

/-- At the frame latch dispatch takes the newest qualifying set-point (R121, R342). -/
def takeSetPoint (s : State) : State :=
  if !(s.str.state = .run || s.str.state = .twilight) || !(owning s) then s
  else
    let due := s.dsp.timed.filter fun t => decide (t.launch ≤ s.tb.time)
    let cand := (match s.dsp.untimed with | some x => [x] | none => []) ++ due.map fun t => (t.current, t.order)
    match newestSp cand with
    | none => s
    | some x =>
      let s1 := s |> onDsp (fun d => { d with
          target := x.1, targetTime := some s.tb.time, spHold := 0, spTimeout := false
          timed := d.timed.filter fun t => !(decide (t.launch ≤ s.tb.time)), untimed := none })
        |> onTb fun t => { t with unsynced := if t.sync = .locked then t.unsynced else satInc 32 t.unsynced }
      (List.range (cand.length - 1)).foldl (fun t _ => coalesced t) s1

/-- Time in RUN and TWILIGHT since the last set-point (R343), one frame at a time. -/
def holdCount (s : State) : State :=
  if owning s && (s.str.state = .run || s.str.state = .twilight) then s |> onDsp fun d => { d with spHold := d.spHold + 1 } else s

/-- SETPOINT_TIMEOUT: the count reaches `SP_HOLD_MAX` and the target becomes 0 mA (R343). -/
def execSetpointTimeout (s : State) : Host.Outcome State Fault Refusal :=
  let m := s.cfg.disp.spHoldMax
  if m = 0 || s.dsp.spTimeout || s.dsp.spHold < 1000 * m || !(s.str.state = .run || s.str.state = .twilight) || !(owning s) then .next s
  else .next (s |> onDsp (fun d => { d with target := 0, spTimeout := true }) |> log srcApp0 0x0805 2 (i32 s.dsp.target))

/-! ### LIMITS_AND_DISPATCH (R335, R344 to R347) -/

/-- Sign of an exact number. -/
def sgn (x : Rat) : Int := if 0 < x then 1 else if x < 0 then -1 else 0

/-- Move toward a value by at most a step. -/
def moveTo (x to_ step : Rat) : Rat := if x < to_ then minR to_ (x + step) else maxR to_ (x - step)

/-- The ramp of R344. -/
def rampRef (ref t inc dec : Rat) : Rat :=
  if ref ≠ 0 && sgn t ≠ sgn ref then moveTo ref 0 dec
  else if absR ref < absR t then moveTo ref t inc
  else moveTo ref t dec

/-- L_TW falls at `RAMP_DEC` to its floor (R400). -/
def twilightFall (s : State) : State :=
  let floor : Rat := (s.cfg.safety.twFraction : Rat) / 10000 * ratedMa s
  s |> onProt fun p => { p with lTw := p.lTw.map fun x => maxR floor (x - (s.cfg.disp.rampDec : Rat) / 1000) }

/-- The estimator narrows the envelope (R350). -/
def estNarrows (s : State) : Bool := decide (estFactor s < 10000) || s.est.disLimit.isSome

/-- The envelopes of this frame (R335 to R338, R340). -/
def envelopes (s : State) : State :=
  let seq := match s.tab.volt.current with | some b => b.seq | none => 0
  let lvC := riseLimited s s.dsp.lvChg (seq - s.dsp.lvSeq) (rawLv s true)
  let lvD := riseLimited s s.dsp.lvDis (seq - s.dsp.lvSeq) (rawLv s false)
  let c := envDir s 0 lvC (socLimit s true)
  let d := envDir s 1 lvD (socLimit s false)
  let aC := appEnv c.e s.dsp.n30 s.dsp.n2
  let aD := appEnv d.e s.dsp.n30 s.dsp.n2
  s |> onDsp fun x => { x with
    chg := c.e, dis := d.e, appChg := aC, appDis := aD, lvChg := some lvC, lvDis := some lvD, lvSeq := seq
    limChg := some (if aC < c.e.e2 then 7 else c.lim), limDis := some (if aD < d.e.e2 then 7 else d.lim)
    twilightCap := c.tw || d.tw, estLimited := estNarrows s
    active := true, ranBefore := true }

/-- SETPOINT_LIMITED at a frame in which `LIMITED` becomes set. -/
def limitedNote (was : Bool) (target bound : Rat) (s : State) : State :=
  if was || !s.dsp.limited then s
  else
    let g := s.dsp.gLimited.pass s
    let s1 := s |> onDsp fun d => { d with gLimited := g.2.2 }
    if g.1 then log srcApp0 0x0801 0 (i32 (roundAway target) ++ i32 (roundAway bound) ++ u16 (min g.2.1 0xFFFE)) s1 else s1

/-- Target clamp, ramp and reference of R344 with the flags of R345. -/
def dispatchRef (s : State) : State :=
  let d := s.dsp
  let target : Rat := if s.str.state = .stopping then 0 else d.target
  let z := zConfine s
  let lo := match z with | some x => x.1 | none => -d.appDis
  let hi := match z with | some x => x.2 | none => d.appChg
  let t := clampR lo hi target
  let ref := clampR lo hi (rampRef d.ref t ((s.cfg.disp.rampInc : Rat) / 1000) ((s.cfg.disp.rampDec : Rat) / 1000))
  let lim := t ≠ target || z.isSome || d.r3Clamped
  s |> onDsp (fun x => { x with
      target := if s.str.state = .stopping then 0 else x.target
      ref := ref, boundLo := -d.appDis, boundHi := d.appChg
      zConfined := z.isSome, limited := lim, ramping := ref ≠ t, r3Clamped := false
      limitedFrames := if lim then satInc 32 x.limitedFrames else x.limitedFrames })
    |> limitedNote d.limited target t

/-- LIMITS_AND_DISPATCH: item 0x13 of a frame, in ticks 2 to 15 (R27); outside the states of R334 reference and bounds are 0 (R334 to R347). The gain
schedule of R313 is selected here. -/
def execLimitsAndDispatch (s : State) : Host.Outcome State Fault Refusal :=
  if !(coresRun s) || s.tick.j < 2 || 15 < s.tick.j then .next s
  else if !(dispRuns s) then
    .next (s |> onDsp fun d => { d with
      ref := 0, boundLo := 0, boundHi := 0, active := false, limited := false, zConfined := false, ramping := false
      twilightCap := false, estLimited := estNarrows s, limChg := none, limDis := none, r3Clamped := false })
  else
    let s1 := envelopes (if s.str.state = .twilight then twilightFall s else s)
    .next (schedRun (dispatchRef (blockHeadroom s1)))

end Sys2Proof.Machine
end

