-- ==== Sys2Proof/Machine/Protection.lean ====
section
/-! DEFINITION. Protection (R375 to R388, R393 to R401): the frame-rate functions on the newest banks, the external safety
inputs, the safe stop, test pulses, diagnostics and the Twilight budget. Currents in mA, θ in A². -/
namespace Sys2Proof.Machine

/-! ### Inputs held (R385) -/

/-- A word has been held for longer than a number of milliseconds. -/
def heldLong (s : State) (o : Option Nat) (ms : Nat) : Bool :=
  match o with | some t => decide (msNs ms < sinceNs s t) | none => false

/-- DS0 or DS1 counts for protection: not `FAILED` and not held beyond 5 ms. -/
def chUsable (s : State) (n : Nat) : Bool :=
  !(dsAt s n).failed && !(heldLong s (if n = 0 then s.prot.ds0Held else s.prot.ds1Held) 5)

/-- The frame mean that gives the direction of SF_OV, SF_UV and SF_OT (R379, R385). -/
def dirMa (s : State) : Rat :=
  if chUsable s 0 then (dsMeanMa s 0).getD 0 else if chUsable s 1 then (dsMeanMa s 1).getD 0 else 0

/-- The current counts as zero (R379). -/
def zeroNow (s : State) : Bool := decide (absR (dirMa s) ≤ 2000)

/-- The start of the time a word has been invalid, after this tick. -/
def heldSince (valid : Bool) (now : Nat) (o : Option Nat) : Option Nat := if valid then none else o.orElse fun _ => some now

/-- Held words after a tick, and CURRENT_CH_LOST when neither current channel is left (R385). -/
def heldTick (s : State) : State :=
  let now := s.tick.now
  let s1 := s |> onProt (fun p => { p with
      ds0Held := heldSince (dsAt s 0).valid now p.ds0Held, ds1Held := heldSince (dsAt s 1).valid now p.ds1Held })
    |> onIso (fun i => { i with dsHeld := heldSince ((dsAt s 4).valid && (dsAt s 5).valid) now i.dsHeld })
  if sfRuns s1 && !(chUsable s1 0) && !(chUsable s1 1) && !(s1.str.causes.any fun c => c.code = 0x0309) then
    s1 |> log srcSafety 0x0309 3 [] |> decideFault 0x0309 1 false 0
  else s1

/-! ### SF_OC_I2T (R382) -/

/-- I of R382: the larger magnitude of the two means, or that of the channel that is not `FAILED`. -/
def i2tMa (s : State) : Rat :=
  let m := fun (n : Nat) => if chUsable s n then absR ((dsMeanMa s n).getD 0) else 0
  maxR (m 0) (m 1)

/-- θ, I and the run above `I_STR_TRIP`, at the frame latch; on a standby θ is the owner's (R377, R418). -/
def thetaFrame (s : State) : State :=
  let i := i2tMa s
  let a := i / 1000
  if isSp s then s
  else s |> onProt fun p => { p with
    theta := snap (p.theta + (a * a - p.theta) / (1000 * s.cfg.safety.i2tTau))
    i2t := (roundAway i).toNat
    tripRun := if (s.cfg.safety.iStrTrip : Rat) < i then p.tripRun + 1 else 0 }

/-- `I2T_I_CONT`² in A². -/
def cont2 (s : State) : Rat := ((s.cfg.safety.i2tCont : Rat) / 1000) * ((s.cfg.safety.i2tCont : Rat) / 1000)

/-- The demand of SF_OC_I2T and the end of its cause (R378, R382). -/
def i2tEval (s : State) : State :=
  let isOver := decide (cont2 s < s.prot.theta)
  if demandActive 0x0A05 s then
    if s.prot.theta < cont2 s * 8 / 10 && s.prot.tripRun = 0 then s |> deactivate 0x0A05 |> demandOver 5 else s
  else if isOver then sfDemand 5 0x0A05 0 false 0 s.prot.i2t (some s.cfg.safety.i2tCont) s
  else if 3 ≤ s.prot.tripRun then sfDemand 5 0x0A05 0 false 1 s.prot.i2t (some s.cfg.safety.iStrTrip) s
  else s

/-! ### SF_OV and SF_UV (R378, R379, R386) -/

/-- Runs of banks beyond a bound after one bank: a missing value leaves its run unchanged (R386). -/
def runStep (vals : List (Option Int)) (run : List Nat) (beyond : Int → Bool) : List Nat :=
  mapI (fun i v => match v with | none => nth 0 run i | some x => if beyond x then nth 0 run i + 1 else 0) vals

/-- First entry whose run has reached `n`. -/
def firstRun (n : Nat) (run : List Nat) : Option Nat := run.findIdx? fun r => decide (max 1 n ≤ r)

/-- The runs of a new voltage bank. -/
def voltRuns (s : State) (b : Bank) : State :=
  let c := s.cfg.safety
  let i := dirMa s
  s |> onProt fun p => { p with
    vBankSeen := b.seq
    ovHardRun := runStep b.vals p.ovHardRun fun v => decide ((c.ovHard : Int) < v)
    ovRun := runStep b.vals p.ovRun fun v => decide ((c.ovLimit : Int) < v) && decide ((c.iDirTol : Rat) ≤ i)
    uvDeepRun := runStep b.vals p.uvDeepRun fun v => decide (v < (c.uvDeep : Int))
    uvRun := runStep b.vals p.uvRun fun v => decide (v < (c.uvLimit : Int)) && decide (i ≤ -(c.iDirTol : Rat)) }

/-- The demand of one of the two functions: the hard limit first, with clear class 2. -/
def voltDemand (fn : Nat) (hard soft : List Nat) (held : Bool) (hardLim softLim : Int) (b : Bank) (s : State) : State :=
  let n := s.cfg.safety.vConfirm
  match firstRun n hard, firstRun n soft with
  | some p, _ => if held then s else sfDemand fn (0x0A00 + fn) 2 false p ((b.val p).getD 0) (some hardLim) s
  | none, some p => if demandActive (0x0A00 + fn) s then s else sfDemand fn (0x0A00 + fn) 0 false p ((b.val p).getD 0) (some softLim) s
  | none, none => s

/-- SF_OV and SF_UV on the newest bank, each bank once. -/
def voltEval (s : State) : State :=
  match s.tab.volt.heldBy rdSafety with
  | none => s
  | some b =>
    if b.seq = s.prot.vBankSeen then s
    else
      let c := s.cfg.safety
      let s1 := voltRuns s b
      let s2 := s1 |> voltDemand 1 s1.prot.ovHardRun s1.prot.ovRun s.prot.ovHard c.ovHard c.ovLimit b
        |> voltDemand 2 s1.prot.uvDeepRun s1.prot.uvRun s.prot.uvDeep c.uvDeep c.uvLimit b
      s2 |> onProt fun p => { p with
        ovHard := (firstRun c.vConfirm s1.prot.ovHardRun).isSome || (s.prot.ovHard && s1.prot.ovHardRun.any fun r => decide (0 < r))
        uvDeep := (firstRun c.vConfirm s1.prot.uvDeepRun).isSome || (s.prot.uvDeep && s1.prot.uvDeepRun.any fun r => decide (0 < r)) }

/-- Causes of SF_OV and SF_UV at `OV_LIMIT` and `UV_LIMIT` end once the current is zero (R379). -/
def voltRelease (s : State) : State :=
  let s1 := if zeroNow s && !s.prot.ovHard then s |> deactivate 0x0A01 |> demandOver 1 else s
  if zeroNow s && !s.prot.uvDeep then s1 |> deactivate 0x0A02 |> demandOver 2 else s1

/-! ### SF_OT (R378 to R380) -/

/-- Readings judged of a temperature bank: valid entries, and broken ones that read high enough to be believed (R380). -/
def judgedTemps (s : State) (b : Bank) : List (Option Int) :=
  mapI (fun k v =>
    let e := nth {} s.tab.temps k
    match v with
    | none => none
    | some x => if !e.stale && (e.valid || (e.broken && decide (-4000 ≤ x) && decide (x ≤ 15000))) then some x else none) b.vals

/-- A condition of SF_OT that makes its demand, or joins the one that is present. -/
def otDemand (i : Nat) (run : List Nat) (lim : Int) (b : Bank) (s : State) : State :=
  match firstRun s.cfg.safety.tConfirm run with
  | none => s
  | some k =>
    if nth true s.prot.otBy i then s
    else
      let s1 := s |> onProt fun p => { p with otBy := setAt p.otBy i true }
      if demandActive 0x0A03 s then s1 else sfDemand 3 0x0A03 0 false k ((b.val k).getD 0) (some lim) s1

/-- Every reading judged meets a bound. -/
def allJudged (l : List (Option Int)) (ok : Int → Bool) : Bool := l.all fun v => match v with | none => true | some x => ok x

/-- SF_OT on the newest temperature bank, each bank once. -/
def tempEval (s : State) : State :=
  match s.tab.temp.heldBy rdSafety with
  | none => s
  | some b =>
    if b.seq = s.prot.tBankSeen then s
    else
      let c := s.cfg.safety
      let i := dirMa s
      let l := judgedTemps s b
      let s1 := s |> onProt fun p =>
        let was := p.otBy
        { p with
          tBankSeen := b.seq
          otRun := runStep l p.otRun fun t => decide (c.otLimit < t)
          utcRun := runStep l p.utcRun fun t => decide (t < c.utChg) && decide ((c.iDirTol : Rat) ≤ i)
          utdRun := runStep l p.utdRun fun t => decide (t < c.utDis) && decide (i ≤ -(c.iDirTol : Rat))
          otBy := [nth false was 0 && !(allJudged l fun t => decide (t ≤ c.otLimit - 200)),
                   nth false was 1 && !(allJudged l fun t => decide (c.utChg + 200 ≤ t)),
                   nth false was 2 && !(allJudged l fun t => decide (c.utDis + 200 ≤ t)), nth false was 3] }
      s1 |> otDemand 0 s1.prot.otRun c.otLimit b |> otDemand 1 s1.prot.utcRun c.utChg b |> otDemand 2 s1.prot.utdRun c.utDis b

/-- Low-temperature conditions end once the current is zero; the cause ends when no condition holds (R380). -/
def tempRelease (s : State) : State :=
  let s1 := if zeroNow s then s |> onProt fun p => { p with otBy := [nth false p.otBy 0, false, false, nth false p.otBy 3] } else s
  if s1.prot.otBy.any id then s1 else s1 |> deactivate 0x0A03 |> demandOver 3

/-- The safety core takes the newest complete banks in tick 1 and holds them until its evaluation (R24, R27 item 0x12). -/
def takeBanks (s : State) : State :=
  if sfRuns s && s.tick.j = 1 then s |> onTab fun t => { t with volt := t.volt.take rdSafety, temp := t.temp.take rdSafety } else s

/-- The safety core releases its banks. -/
def releaseBanks (s : State) : State := s |> onTab fun t => { t with volt := t.volt.release rdSafety, temp := t.temp.release rdSafety }

/-- FRAME_PROTECTION_EVALUATION, item 0x12, in ticks 1 to 9: SF_OV, SF_UV, SF_OT and SF_OC_I2T on the newest complete banks
(R27, R378). Causes end before the newest banks are judged. -/
def execFrameProtectionEvaluation (s : State) : Host.Outcome State Fault Refusal :=
  if sfRuns s && coresRun s && decide (1 ≤ s.tick.j) && decide (s.tick.j ≤ 9) then
    .next (s |> onProt (fun p => { p with evaluating := true }) |> voltRelease |> tempRelease |> voltEval |> tempEval |> releaseBanks |> i2tEval)
  else .next s

/-! ### SF_EXT (R384) -/

/-- J8 input: 0 ESTOP_A, 1 ESTOP_B, 2 DOOR_IL, 3 FIRE_IN, and its change. -/
def extAt (s : State) (n : Nat) : ExtInput :=
  match n with | 0 => s.prot.estopA | 1 => s.prot.estopB | 2 => s.prot.doorIl | _ => s.prot.fireIn
def onExt (n : Nat) (g : ExtInput → ExtInput) (s : State) : State :=
  s |> onProt fun p => match n with
    | 0 => { p with estopA := g p.estopA }
    | 1 => { p with estopB := g p.estopB }
    | 2 => { p with doorIl := g p.doorIl }
    | _ => { p with fireIn := g p.fireIn }

/-- An input after one sample: the filter runs from the first tick of STANDBY on (R384). -/
def ExtInput.sample (run : Bool) (now : Nat) (e : Bool) (x : ExtInput) : ExtInput :=
  let n := if e || !run then 0 else min 41 (x.low + 1)
  { x with
    raw := e, low := n
    energizedSince := if e then x.energizedSince.orElse (fun _ => some now) else none
    ok := if e then true else if run && decide (n < 41) then x.ok else false }

/-- The four samples of a tick (R384), with the times of the E-stop pair. -/
def extTick (j8 : List Bool) (s : State) : State :=
  let run := sfRuns s
  let now := s.tick.now
  let at_ := fun (n : Nat) => nth false j8 n
  let s1 := (List.range 4).foldl (fun t n => onExt n (ExtInput.sample run now (at_ n)) t) s
  s1 |> onProt fun p => { p with
    estopDiffSince := if run && (at_ 0 != at_ 1) then p.estopDiffSince.orElse (fun _ => some now) else none
    estopBothSince := if at_ 0 && at_ 1 then p.estopBothSince.orElse (fun _ => some now) else none }

/-- `EXT_USE` leaves the input in use; the E-stop channels always are (R384). -/
def extUsed (s : State) (n : Nat) : Bool :=
  match n with | 0 => true | 1 => true | 2 => bitAt s.cfg.safety.extUse 0 | _ => bitAt s.cfg.safety.extUse 1

/-- SAFETY_INPUT_DEENERGIZED: 41 consecutive de-energized samples make the SF_EXT demand (R378, R384). -/
def execSafetyInputDeenergized (input : Nat) (s : State) : Host.Outcome State Fault Refusal :=
  if input < 4 && sfRuns s && extUsed s input && decide (41 ≤ (extAt s input).low) && !(extAt s input).active then
    .next (s |> onExt input (fun x => { x with active := true })
      |> sfDemand 9 0x0A09 (if input = 3 then 1 else 0) (input ≠ 2) input 0 none)
  else .next s

/-- The cause of the input demands ends when none of them is active. -/
def extRelease (s : State) : State :=
  if (List.range 4).any (fun n => (extAt s n).active) then s
  else
    let s1 := deactivate 0x0A09 s
    if s1.prot.discActive then s1 else demandOver 9 s1

/-- An instant lies at least 100 ms back. -/
def heldOn (s : State) (o : Option Nat) : Bool := match o with | some t => elapsed s t 100000000 | none => false

/-- SAFETY_INPUT_RESTORED: an input energized for 100 ms ends its demand; the E-stop demands and the discrepancy need both
channels (R384). -/
def execSafetyInputRestored (input : Nat) (s : State) : Host.Outcome State Fault Refusal :=
  if input < 2 then
    if heldOn s s.prot.estopBothSince then
      .next (s |> onExt 0 (fun x => { x with active := false }) |> onExt 1 (fun x => { x with active := false })
        |> onProt (fun p => { p with discActive := false }) |> deactivate 0x0A26 |> extRelease)
    else .next s
  else if input < 4 && heldOn s (extAt s input).energizedSince then
    .next (s |> onExt input (fun x => { x with active := false }) |> extRelease)
  else .next s

/-- ESTOP_DISCREPANCY: the E-stop channels have differed for longer than `ESTOP_DISC` (R378, R384). -/
def execEstopDiscrepancy (s : State) : Host.Outcome State Fault Refusal :=
  match s.prot.estopDiffSince with
  | none => .next s
  | some t =>
    if sfRuns s && !s.prot.discActive && elapsed s t (msNs s.cfg.safety.estopDisc) then
      .next (s |> onProt (fun p => { p with discActive := true })
        |> log srcSafety 0x0A26 3 (u16 (b2n s.prot.estopA.raw) ++ u16 (b2n s.prot.estopB.raw))
        |> sfDemand 9 0x0A26 2 true 4 0 none)
    else .next s

/-! ### The safe stop (R387, R388) -/

/-- Tick words at or below 2 A since the decision, for the wait of R387. -/
def stopTick (s : State) : State :=
  s |> onProt fun p => { p with stop := p.stop.map fun x => { x with lowWords := if absR (iTick s) ≤ 2000 then x.lowWords + 1 else 0 } }

/-- Some coil is driven. -/
def coilsDriven (s : State) : Bool := s.cont.c0.coil || s.cont.c1.coil || s.cont.c2.coil

/-- CONTACTOR_BREAK_LOAD where current still flows as the coils switch off (R387). -/
def breakLoad (s : State) : State :=
  let i := roundAway (iTick s)
  if decide (absR (iTick s) ≤ 2000) || !(coilsDriven s) then s
  else
    let m0 := s.cont.c0.coil && s.cont.c0.aux
    let m1 := s.cont.c1.coil && s.cont.c1.aux
    s |> log srcSafety 0x0A11 2 (u16 (bitsOf [m0, m1]) ++ i32 i)
      |> onCont fun c => { c with
          breaks0 := if m0 then satInc 32 c.breaks0 else c.breaks0, breaks1 := if m1 then satInc 32 c.breaks1 else c.breaks1
          breakMax0 := if m0 then max c.breakMax0 i.natAbs else c.breakMax0, breakMax1 := if m1 then max c.breakMax1 i.natAbs else c.breakMax1 }

/-- The end of a safe stop that began at a local time: SAFE_STOP_DONE, `FAULT_STOP_DONE`, the comparator latches cleared,
after which every leg gets CLR frames (R325, R327, R381, R387), the recovery window (R506), and a freeze that waited for it (R535). -/
def safeStopEnd (start : Nat) (s : State) : State :=
  let us := sinceNs s start / 1000
  let i := roundAway (iTick s)
  let s1 := s |> onProt (fun p => { p with stop := none, stopLast := some us })
    |> log srcSafety 0x0A10 2 (u32 us ++ i32 i)
    |> onStr (fun x => { x with faultStopDone := x.state = .fault || x.faultStopDone })
    |> onCnv (fun c => { c with
        fastTrip := List.replicate 6 false
        ports := if c.fastTrip.any id then c.ports.map fun q => { q with clrLeft := 8 } else c.ports })
    |> onPins (fun p => { p with gate := p.gate.map fun g => if g = .fastSafeOff then .safeOff else g })
    |> deactivate 0x0A04 |> demandOver 4 |> deactivate 0x0704 |> recoveryStart
  match s1.lad.freezeReq with
  | some (trig, 2, _) => enterFreeze trig true s1
  | _ => s1

/-- Every contactor is open, and no port sends RUN words any longer (R388). -/
def alreadyOpen (s : State) : Bool :=
  !(coilsDriven s) && !s.cont.c0.aux && !s.cont.c1.aux && !s.cont.c2.aux && !(s.pins.gate.contains .run)

/-- SAFE_STOP_COILS_OFF: two low tick words, 1.5 ms, or every contactor already open with the gate link in SAFE_OFF: the coils
switch off and the safe stop ends (R387, R388). -/
def execSafeStopCoilsOff (s : State) : Host.Outcome State Fault Refusal :=
  match s.prot.stop with
  | none => .next s
  | some x =>
    if 2 ≤ x.lowWords || elapsed s x.start 1500000 || alreadyOpen s then
      .next (s |> breakLoad |> coilsOff |> safeStopEnd x.start)
    else .next s

/-! ### SAFE_OUT (R393) and the Twilight budget (R44, R400) -/

/-- SAFE_OUT takes its demanded state (R393, item 0x14). -/
def refreshSafeOut (s : State) : State :=
  if sfRuns s && running s && !(tripLatched s) && s.dawn.step.isNone && s.dawn.fail = 0 then s |> onProt fun p => { p with safeOut := true }
  else if s.prot.safeOut then openSafeOut s else s

/-- Time in TWILIGHT counted against the budget, per tick (R44). -/
def twilightTick (s : State) : State :=
  if s.str.state = .twilight then s |> onStr fun x => { x with twilightUsed := min (twBudget s) (x.twilightUsed + 50000) } else s

/-- TWILIGHT_EXHAUSTED: the budget is spent; the string goes to STOPPING at the next tick 16 (R35, R38, R400). -/
def execTwilightExhausted (s : State) : Host.Outcome State Fault Refusal :=
  if s.str.state = .twilight && twLeft s = 0 && !(s.str.triggers.contains .twilightExhausted) then
    .next (s |> log srcSafety 0x0A52 2 (u32 (bitsOf s.prot.twilight))
      |> onStr (fun x => { x with triggers := x.triggers ++ [.twilightExhausted] }))
  else .next s

/-- TWILIGHT_BUDGET_RESET: no cause armed for 10 min sets the count back to zero (R44). -/
def execTwilightBudgetReset (s : State) : Host.Outcome State Fault Refusal :=
  match s.str.unarmedSince with
  | some t => if !(twArmed s) && elapsed s t (secNs 600) then .next (s |> onStr fun x => { x with twilightUsed := 0 }) else .next s
  | none => .next s

/-! ### Test pulses (R394 to R396) -/

/-- Output `i` of R394 is demanded on. -/
def outEnergized (s : State) (i : Nat) : Bool :=
  if i < 2 then s.prot.safeOut else if i = 2 then s.prot.imdOk else (contAt s (i - 3)).coil

/-- Output `i` may be pulsed: energized, and for an LS driver not in pull-in. -/
def pulseEligible (s : State) (i : Nat) : Bool := outEnergized s i && (i < 3 || (contAt s (i - 3)).state ≠ 1)

/-- Frame of the test interval (R394). -/
def testFrame (s : State) : Nat := s.tb.time % 1000000000 / 1000000

/-- Change the test record of output `i`. -/
def onTest (i : Nat) (g : TestOut → TestOut) (s : State) : State := s |> onProt fun p => { p with tests := updAt g p.tests i }

/-- The frame is the slot of another output that may be pulsed: a retry yields to it (R395). -/
def slotTaken (s : State) (k : Nat) : Bool :=
  (List.range 6).any fun m => m ≠ k && testFrame s = 150 * m + 75 && !(nth {} s.prot.tests m).served && pulseEligible s m

/-- TEST_PULSE_START, at tick 16 (R27 item 0x14): in its slot, or as a retry in a free frame, an eligible output is switched off; a
slot that finds another pulse running is deferred (R394, R395, R425). -/
def execTestPulseStart (k : Nat) (s : State) : Host.Outcome State Fault Refusal :=
  let t := nth {} s.prot.tests k
  let inSlot : Bool := decide (testFrame s = 150 * k + 75) && !t.served
  let again : Bool := t.retry && !t.passed && !(slotTaken s k)
  if 6 ≤ k || !(owning s) || !(coresRun s) || s.tick.j ≠ 16 || s.prot.noPulses || !(inSlot || again) then .next s
  else if s.prot.pulse.isSome then .next (s |> onTest k fun t => { t with served := t.served || inSlot, retry := true })
  else if pulseEligible s k then
    .next (s |> onTest k (fun t => { t with served := t.served || inSlot, retry := false }) |> onProt fun p => { p with pulse := some (k, s.tick.now) })
  else .next (s |> onTest k fun t => { t with served := t.served || inSlot, retry := true })

/-- A diagnostic failure of R399 bit 10: output, input or HS driver `i`. -/
def diagFail (i : Nat) (s : State) : State := s |> onProt (fun p => { p with diagFailed := setAt p.diagFailed i true }) |> raiseTw 10

/-- A passing pulse (R394, R395). -/
def pulsePass (k : Nat) (s : State) : State :=
  let s1 := s |> onTest k fun t => { t with passed := true, missed := 0, overdue := false, lastPass := some s.tb.time }
  if s1.prot.tests.any (·.overdue) then s1 else clearTw 9 s1

/-- TEST_PULSE_END: 300 µs after its start, at the edge of tick 2, the read-back of the pulse is judged (R394, R396). -/
def execTestPulseEnd (showedOff cameOn : Bool) (s : State) : Host.Outcome State Fault Refusal :=
  match s.prot.pulse with
  | none => .next s
  | some (k, t) =>
    if sinceNs s t < 300000 then .next s else
    let s1 := s |> onProt fun p => { p with pulse := none }
    let s2 := if showedOff then s1
      else if nth true s.prot.diagFailed k then s1
      else s1 |> log srcSafety 0x0A30 3 (u16 k) |> diagFail k
    if !cameOn then .next (s2 |> log srcSafety 0x0A31 3 (u16 k) |> decideFault 0x0A31 1 false 0)
    else if showedOff then .next (pulsePass k s2)
    else .next s2

/-- One output at the end of an interval: missed where it is energized and no pulse passed (R395). -/
def intervalEnd (i : Nat) (s : State) : State :=
  let t := nth {} s.prot.tests i
  let miss : Bool := !s.prot.noPulses && outEnergized s i && !t.passed
  let n := if miss then satInc 8 t.missed else if s.prot.noPulses then t.missed else 0
  let s1 := s |> onTest i fun t => { t with missed := n, passed := false, retry := false, served := false, overdue := t.overdue || decide (2 ≤ n) }
  if decide (2 ≤ n) && !t.overdue then s1 |> log srcSafety 0x0A32 2 (u16 i) |> raiseTw 9 else s1

/-- Whole TAI second of the counter (R394). -/
def taiSec (s : State) : Nat := s.tb.time / 1000000000

/-- TEST_INTERVAL_END: at a whole TAI second a 1 s interval ends; the interval in which ownership was taken does not count (R394,
R395, R425). -/
def execTestIntervalEnd (s : State) : Host.Outcome State Fault Refusal :=
  if owning s && running s && taiSec s ≠ s.prot.testSec then
    .next ((List.range 6).foldl (fun t i => intervalEnd i t) s |> onProt fun p => { p with noPulses := false, testSec := taiSec s })
  else .next s

/-! ### Diagnostics (R397, R398) -/

/-- INPUT_TEST: each J8 input is forced de-energized for one sample; one that does not read so fails (R397). -/
def execInputTest (passed : List Bool) (s : State) : Host.Outcome State Fault Refusal :=
  if !(sfRuns s) || !(running s) then .next s
  else .next ((List.range 4).foldl (fun t i =>
    if nth true passed i then t else t |> log srcSafety 0x0A33 3 (u16 i) |> diagFail (6 + i)) s)

/-- CMP_TEST: one comparator's test latch (R398). -/
def execCmpTest (cmp : Nat) (passed : Bool) (s : State) : Host.Outcome State Fault Refusal :=
  if 6 ≤ cmp || !(running s) then .next s
  else
    let s1 := s |> onProt fun p => { p with cmpNext := (cmp + 1) % 6 }
    if passed then .next s1 else .next (s1 |> log srcSafety 0x0A34 3 (u16 cmp) |> raiseTw 13)

/-- CODE_CRC_CHECK: a failing CRC of code SRAM is a module fault of clear class 1 (R398, R420). The spec gives it no event
code: its cause code is open. -/
def execCodeCrcCheck (ok : Bool) (s : State) : Host.Outcome State Fault Refusal :=
  if ok || !(running s) then .next s else .next (moduleFault Config.codeCrcCause 1 s)

/-- WATCHDOG_EXPIRY: hardware reset, outputs off, Dawn of reason 8 (R398). -/
def execWatchdogExpiry (s : State) : Host.Outcome State Fault Refusal :=
  if running s then .next (newDawn 8 (outputsOff s)) else .next s

/-- LOCKSTEP_MISMATCH: hardware reset, outputs off, Dawn of reason 8 (R398). -/
def execLockstepMismatch (s : State) : Host.Outcome State Fault Refusal :=
  if running s then .next (newDawn 8 (outputsOff s)) else .next s

end Sys2Proof.Machine
end

