-- ==== Sys2Proof/Machine/Share.lean ====
section
/-! DEFINITION. The share solver (R231 to R239) with the safety core's check of it (R383). -/
namespace Sys2Proof.Machine

/-- A share ratio in 1/8,192 of 1/S, as the cell entry stores it. -/
def ratio16 (r : Rat) : Int := fitI 16 (roundAway (r * 8192))

/-- g and k in 2^−15. -/
def q15 (x : Rat) : Nat := ratN 16 (x * 32768)

/-- I_pos of a position at the snapshot of a drop bank (R231), mA. -/
def iPosAt (s : State) (b : Bank) (p : Nat) : Rat := b.iStr + balAtTime s p b.at_

/-- Every used cell of the position has a drop in the bank (R231); drops of a snapshot taken while the balancing current was
unresolved count as missing (R358). -/
def dropsPresent (s : State) (b : Bank) (p : Nat) : Bool :=
  !(b.unres.contains p) && (List.range (geoS s)).all fun k => (b.val (p * geoS s + k)).isSome

/-- The conditions of R231 but for the current; and the current. -/
def solvable (s : State) (b : Bank) (p : Nat) : Bool :=
  let e := nth {} s.tab.poss p
  dropsPresent s b p && !e.dropStale && !e.vStale
def qualified (s : State) (b : Bank) (p : Nat) : Bool :=
  decide (((s.cfg.safety.shareIMin * geoS s : Nat) : Rat) ≤ absR (iPosAt s b p))

/-- u[s] = DROP[s] / g[s] of R232, µV, with the bank's values. -/
def cellU (s : State) (b : Bank) (c : Nat) : Rat :=
  let x := nth {} s.tab.cells c
  ((b.val c).getD 0 : Int) / x.g

/-- U of a position, and its kinst (R232). -/
def posU (s : State) (b : Bank) (p : Nat) : Rat := sumR ((List.range (geoS s)).map fun k => cellU s b (p * geoS s + k))
def kInst (s : State) (b : Bank) (p : Nat) : Rat :=
  posU s b p * 1000 / (iPosAt s b p * s.cfg.cell.linkRNom * (1 + (s.cfg.cell.linkTc : Rat) / 1000000 * ((tPos s p - 2500) / 100)))

/-- The consistency test of R232. -/
def consistent (s : State) (b : Bank) (p : Nat) : Bool :=
  let e := nth {} s.tab.poss p
  let u := posU s b p
  let i := iPosAt s b p
  let k := kInst s b p
  decide (0 < u * i) && decide (e.k / 2 ≤ k) && decide (k ≤ 2 * e.k)

/-- A left-out position (R231): cells EXCLUDED, SOLVED clear, everything else kept. -/
def leaveOut (notQ : Bool) (p : Nat) (s : State) : State :=
  s |> onPos p (fun e => { e with solved := false, notQualified := notQ })
    |> onCells (fun c x => if isCellOf s p c then { x with excluded := true } else x)

/-- Marks or flags changed: the journal saves them within 1 s (R273). -/
def markDirty (s : State) : State := s |> onJrn fun j => { j with dirty := j.dirty.orElse fun _ => some s.tick.now }

/-- The position's capacity scaled with its number of working cells, its SOC unchanged (R235). -/
def rescale (a b : Nat) (p : Nat) (s : State) : State :=
  if b = 0 then s else s |> onPos p fun e => { e with cap := snap (e.cap * (a : Rat) / b), rescaled := true }

/-- A cell becomes LOST (R235): count, capacity, record. -/
def markLost (p c : Nat) (r : Rat) (s : State) : State :=
  let e := nth {} s.tab.poss p
  let n := geoS s
  s |> onCell c (fun x => { x with lost := true, probation := false })
    |> rescale (n - (e.lostN + 1)) (n - e.lostN) p
    |> onPos p (fun e => { e with lostN := e.lostN + 1 })
    |> markDirty |> log srcApp1 0x0501 2 (u16 c ++ i16 (ratio16 r))

/-- R235 and R238 for one cell of a counted position. -/
def lostRules (p c : Nat) (r : Rat) (s : State) : State :=
  let x := nth {} s.tab.cells c
  let watched := !x.lost || x.probation
  let n := if watched then (if r < 1 / 5 then min 255 (x.lowCnt + 1) else 0) else x.lowCnt
  let s1 := s |> onCell c fun x => { x with lowCnt := n }
  let s2 := if x.lost && !x.recovery && decide (1 / 5 ≤ r) then
      s1 |> onCell c (fun x => { x with recovery := true }) |> markDirty |> log srcApp1 0x0505 2 (u16 c ++ i16 (ratio16 r))
    else s1
  if watched && 3 ≤ n then
    if x.lost then s2 |> onCell c (fun x => { x with probation := false, probCnt := 0 }) |> markDirty
    else if x.weak && x.probation then
      s2 |> onCell c (fun x => { x with weak := false, probation := false, probCnt := 0 })
        |> onPos p (fun e => { e with weakN := e.weakN - 1 }) |> markLost p c r
    else markLost p c r s2
  else s2

/-- R236 for one cell, with t = 1 / (S − n). -/
def weakRules (p c : Nat) (s : State) : State :=
  let x := nth {} s.tab.cells c
  let e := nth {} s.tab.poss p
  if !e.gConverged || x.lost || x.probation then s
  else
    let rel := x.filt * nCells s e / geoS s
    let n := if rel < 3 / 4 || x.gLimit then min 600 (x.weakCnt + 1)
             else if 85 / 100 ≤ rel then x.weakCnt - 1 else x.weakCnt
    let s1 := s |> onCell c fun x => { x with weakCnt := n }
    if !x.weak && n = 600 then
      s1 |> onCell c (fun x => { x with weak := true }) |> onPos p (fun e => { e with weakN := e.weakN + 1 })
        |> markDirty |> log srcApp1 0x0503 1 (u16 c ++ i16 (ratio16 x.filt) ++ u16 (q15 x.g))
    else if x.weak && n = 0 then
      s1 |> onCell c (fun x => { x with weak := false }) |> onPos p (fun e => { e with weakN := e.weakN - 1 })
        |> markDirty |> log srcApp1 0x0504 0 (u16 c)
    else s1

/-- Probation of R238: 30 solves with a good share clear the mark. -/
def probationRules (p c : Nat) (r : Rat) (s : State) : State :=
  let x := nth {} s.tab.cells c
  let e := nth {} s.tab.poss p
  if !x.probation then s
  else
    let good := decide (8 / 10 * (geoS s : Rat) / nCells s e ≤ r)
    let n := if good then x.probCnt + 1 else 0
    if n < 30 then s |> onCell c fun x => { x with probCnt := n }
    else
      let s1 := s |> onCell c fun x => { x with lost := false, weak := false, probation := false, recovery := false, probCnt := 0, weakCnt := 0 }
      let s2 := if x.lost then
          s1 |> rescale (geoS s - e.lostN + 1) (geoS s - e.lostN) p |> onPos p (fun e => { e with lostN := e.lostN - 1 })
        else s1
      let s3 := if x.weak then s2 |> onPos p (fun e => { e with weakN := e.weakN - 1 }) else s2
      s3 |> markDirty |> log srcApp1 0x0508 2 (u16 c ++ u16 (if x.lost then 0 else 1))

/-- A cell takes part in the update of g (R233). -/
def CellEntry.active (x : CellEntry) : Bool := !x.lost && !x.weak && !x.probation

/-- g of the active cells of a position (R233): moved, clamped, scaled to mean 1 and clamped again. -/
def updateG (p : Nat) (s : State) : State :=
  let e := nth {} s.tab.poss p
  let n := nCells s e
  let inP := fun c => isCellOf s p c
  let step := fun (x : CellEntry) => clampR (9 / 10) (11 / 10) (snap (x.g * (1 + (x.ratio.getD 1 / geoS s * n - 1) / 36000)))
  let s1 := s |> onCells fun c x => if inP c && x.active then { x with g := step x } else x
  let act := (mapI (fun c (x : CellEntry) => if inP c && x.active then some x.g else none) s1.tab.cells).filterMap id
  let m := (meanR act).getD 1
  s1 |> onCells fun c x =>
    if !(inP c) then x
    else
      let g := if x.active then clampR (9 / 10) (11 / 10) (snap (x.g / m)) else x.g
      let lim := decide (g ≤ 9 / 10) || decide (11 / 10 ≤ g)
      { x with
        g := g, gLimit := lim || (x.gLimit && (decide (g < 9 / 10 + 5 / 1000) || decide (11 / 10 - 5 / 1000 < g)))
        gMin := minR x.gMin g, gMax := maxR x.gMax g }

/-- Convergence of g, by blocks of 3,000 counted solves (R234). -/
def gBlocks (p : Nat) (s : State) : State :=
  let e := nth {} s.tab.poss p
  let s1 := s |> onPos p fun e => { e with gSolves := e.gSolves + 1, gBlock := e.gBlock + 1 }
  if e.gBlock + 1 < 3000 then s1
  else
    let cells := (mapI (fun c x => (c, x)) s.tab.cells).filter fun y => isCellOf s p y.1
    let steady := cells.all fun y => decide (y.2.gMax ≤ y.2.gMin * (1005 / 1000))
    let conv := decide (36000 ≤ e.gSolves + 1) && steady
    let s2 := s1 |> onPos p (fun e => { e with gBlock := 0, gConverged := conv })
      |> onCells (fun c x => if isCellOf s p c then { x with gMin := x.g, gMax := x.g } else x)
    if conv = e.gConverged then s2 else markDirty s2

/-- k of a position and its flags (R232, R234). -/
def updateK (p : Nat) (ki : Rat) (s : State) : State :=
  let e := nth {} s.tab.poss p
  let near := decide (absR (ki - e.k) ≤ e.k / 50)
  let k := snap (e.k + (ki - e.k) / 50)
  let kIn := if near then e.kIn + 1 else 0
  let kOut := if near then 0 else e.kOut + 1
  let high := decide (3 / 2 < k) || (e.kHigh && decide (14 / 10 ≤ k))
  let s1 := s |> onPos p fun e => { e with
    k := k, kIn := kIn, kOut := kOut, kHigh := high
    kConverged := if 50 ≤ kIn then true else if 10 ≤ kOut then false else e.kConverged }
  if high && !e.kHigh then log srcApp1 0x0507 1 (u16 p ++ u16 (q15 k)) s1 else s1

/-- Shares and derating of a position after its solve (R239). -/
def updateDerate (p : Nat) (s : State) : State :=
  let e := nth {} s.tab.poss p
  let n := geoS s
  let rs := (mapI (fun c (x : CellEntry) => if isCellOf s p c && !x.lost then some (maxR (x.ratio.getD 0) x.filt) else none) s.tab.cells).filterMap id
  let m := (maxOf rs).getD 0
  let d := if n ≤ 1 then 1 else minR 1 (minR (((n - e.lostN : Nat) : Rat) / n) (if 0 < m then 1 / m else 1))
  s |> onPos p fun e => { e with shareMax := some m, derate := snap d }

/-- The ratio the engine posts for a cell: as R232 gives it, or what a faulty lane made of it. -/
def engineRatio (engine : List (Nat × Int)) (c : Nat) (r : Rat) : Rat :=
  match engine.find? (fun y => y.1 = c) with | some y => (y.2 : Rat) / 8192 | none => r

/-- A counted solve of a position (R232 to R239). -/
def solveCounted (engine : List (Nat × Int)) (b : Bank) (seq p : Nat) (s : State) : State :=
  let n := geoS s
  let u := posU s b p
  let i := iPosAt s b p
  let ki := kInst s b p
  let ratio := fun c => engineRatio engine c (if n = 1 then 1 else n * cellU s b c / u)
  let s1 := s |> onCells fun c x =>
    if !(isCellOf s p c) then x
    else { x with
      ratio := some (snap (ratio c)), iCell := some (roundAway (cellU s b c / u * i)), filt := snap (x.filt + (ratio c - x.filt) / 100)
      excluded := false, valid := true, solveSeq := some seq }
  let s2 := s1 |> onPos p (fun e => { e with
      iPos := some (roundAway i), solved := true, notQualified := false, inconsCnt := 0, solveSeq := some seq })
    |> updateK p ki
  if n = 1 then s2 |> gBlocks p |> updateDerate p
  else
    let cells := (List.range n).map fun k => p * n + k
    let s3 := cells.foldl (fun t c => lostRules p c (ratio c) t) s2
    let s4 := cells.foldl (fun t c => weakRules p c t) s3
    let s5 := cells.foldl (fun t c => probationRules p c (ratio c) t) s4
    s5 |> updateG p |> gBlocks p |> updateDerate p

/-- An inconsistent solve of a position (R232): ten in a row exclude it. -/
def solveInconsistent (ki : Rat) (p : Nat) (s : State) : State :=
  let e := nth {} s.tab.poss p
  let n := min 255 (e.inconsCnt + 1)
  let s1 := s |> onPos p fun e => { e with inconsCnt := n, consCnt := 0 }
  if n = 10 && !e.shareExcluded then
    s1 |> onPos p (fun e => { e with shareExcluded := true })
      |> log srcApp1 0x0506 2 (u16 p ++ i32 (clampI (-2147483648) 2147483647 (roundAway (ki * 32768))) ++ u16 (q15 e.k)) |> raiseTw 3
  else s1

/-- An excluded position shows a consistent solve (R232): ten in a row readmit it. -/
def solveReadmit (p : Nat) (s : State) : State :=
  let e := nth {} s.tab.poss p
  let n := e.consCnt + 1
  let s1 := s |> onPos p fun e => { e with
    inconsCnt := 0, consCnt := if n = 10 then 0 else n, shareExcluded := decide (n < 10) }
  if n = 10 && !(dropsBad s1) then clearTw 3 s1 else s1

/-- What a solve does with a position: 0 counted, 1 left out, 2 inconsistent. -/
def solveClass (s : State) (b : Bank) (p : Nat) : Nat :=
  if !(solvable s b p) || !(qualified s b p) then 1
  else if !(consistent s b p) then 2
  else if (nth {} s.tab.poss p).shareExcluded then 1 else 0

/-- One position of a solve. -/
def solvePos (engine : List (Nat × Int)) (b : Bank) (seq p : Nat) (s : State) : State :=
  if !(solvable s b p) then leaveOut false p s
  else if !(qualified s b p) then leaveOut true p s
  else
    let ex := (nth {} s.tab.poss p).shareExcluded
    if !(consistent s b p) then
      let s1 := solveInconsistent (kInst s b p) p s
      if ex then leaveOut false p s1 else s1 |> onPos p fun e => { e with solved := false, notQualified := false }
    else if ex then leaveOut false p (solveReadmit p s)
    else solveCounted engine b seq p s

/-- The safety core's check of R383 on one position: the first cell whose engine ratio differs by more than 1 % of 1/S. -/
def shareCheck (s0 s : State) (b : Bank) (p : Nat) : Option (Rat × Rat) :=
  let n := geoS s
  let u := posU s0 b p
  (List.range n).findSome? fun k =>
    let c := p * n + k
    let own := if n = 1 then 1 else n * cellU s0 b c / u
    let eng := (nth {} s.tab.cells c).ratio.getD own
    if 1 / 100 < absR (eng - own) then some (eng, own) else none

/-- Positions the safety core checks: one in rotation, and every one with a cell ratio below 0.5. -/
def checkedPos (s : State) (p : Nat) : Bool :=
  p = s.prot.shareCheckPos || (mapI (fun c (x : CellEntry) => isCellOf s p c && decide (x.ratio.getD 1 < 1 / 2)) s.tab.cells).any id

/-- LOST cells of a position. -/
def lostCells (s : State) (p : Nat) : List Nat :=
  ((List.range (geoS s)).map fun k => p * geoS s + k).filter fun c => (nth {} s.tab.cells c).lost

/-- Demands on SF_SHARE after a solve (R237, R383) for one position. -/
def shareDemands (s0 : State) (b : Bank) (p : Nat) (s : State) : State :=
  if (nth {} s.tab.poss p).solved = false || geoS s ≤ 1 then s
  else
    let s1 := match (if checkedPos s p then shareCheck s0 s b p else none) with
      | some (eng, own) =>
        s |> log srcSafety 0x0A35 3 (u16 p ++ i16 (ratio16 eng) ++ i16 (ratio16 own))
          |> sfDemand 7 0x0A35 1 false p (ratio16 eng) (some 82)
      | none => s
    let l := lostCells s p
    if 2 ≤ l.length && (lostCells s0 p).length < l.length then
      let c := (l.find? fun c => !(lostCells s0 p).contains c).getD 0
      s1 |> log srcApp1 0x0502 3 (u16 p ++ u16 (nth 0 l 0) ++ u16 (nth 0 l 1))
        |> sfDemand 7 0x0502 2 false p (ratio16 ((nth {} s.tab.cells c).ratio.getD 0)) (some 1638)
    else s1

/-- `SHARE_DERATE` and `SHARE_WORST_POS`: the least `DERATE`, positions left out with the one they keep (R239). -/
def shareTotals (s : State) : State :=
  match minOf (s.tab.poss.map (·.derate)) with
  | none => s
  | some d => s |> onTab fun t => { t with shareDerate := d, worstPos := t.poss.findIdx? fun e => e.derate = d }

/-- SHARE_SOLVE: the solver runs on the drop bank it holds: shares, k and g, marks, derating, the cell filters and the safety
core's check; then it releases the bank (R231 to R239, R383). `engine` lists cells for which a faulty lane posted another
ratio than R232 gives. -/
def execShareSolve (engine : List (Nat × Int)) (s : State) : Host.Outcome State Fault Refusal :=
  match s.tab.drop.heldBy rdShare with
  | none => .next s
  | some b =>
    if !(coresRun s) then .next s
    else if isSp s || s.est.mode = .noString || geoS s = 0 || s.tab.solvedBank = b.seq then
      .next (s |> onTab fun t => { t with drop := t.drop.release rdShare })
    else
      let seq := match s.tab.solveSeq with | none => 0 | some x => (x + 1) % 65536
      let ps := List.range (geoP s)
      let cls := ps.map (solveClass s b)
      let count := fun k => (cls.filter (· = k)).length
      let s1 := ps.foldl (fun t p => solvePos engine b seq p t) s
      let s2 := s1 |> onTab (fun t => { t with
          solveSeq := some seq, solveTime := some b.time, solvedBank := b.seq
          counted := satAdd 32 t.counted (count 0), leftOut := satAdd 32 t.leftOut (count 1), inconsistent := satAdd 32 t.inconsistent (count 2) })
        |> shareTotals
      let s3 := ps.foldl (fun t p => shareDemands s b p t) s2
      .next (s3 |> onProt (fun p => { p with shareCheckPos := if p.shareCheckPos + 1 < geoP s then p.shareCheckPos + 1 else 0 })
        |> cellFilters |> postJob 1 |> postJob 2
        |> onTab (fun t => { t with drop := t.drop.release rdShare }) |> runDone 6)

end Sys2Proof.Machine
end

