-- ==== Sys2Proof/Machine/Timebase.lean ====
section
/-! DEFINITION. The timebase (R103 to R127): PTP offset, servo and synchronization states, peer delay, steps, RTC and
launch queues. -/
namespace Sys2Proof.Machine

/-- The grandmaster is lost: HOLDOVER from LOCKED, FREE_RUN from ACQUIRING (R107). -/
def gmLost (s : State) : State :=
  let s1 := s |> onTb fun t => { t with gm := none, pendingSync := none }
  match s1.tb.sync with
  | .locked => setSync .holdover s1
  | .acquiring => setSync .freeRun s1
  | _ => s1

/-- Ports 0 ETH1, 1 ETH2, 2 pair link: the link is up. -/
def linkUpAt (s : State) (port : Nat) : Bool :=
  match port with | 0 => s.pins.eth1Up | 1 => s.pins.eth2Up | _ => s.pins.sfpUp

/-- Network services run: from Dawn step D9 on, outside OFF and freeze (R128, R528). -/
def netUp (s : State) : Bool :=
  running s && decide (s.lad.rung ≤ 1) && (match s.str.state, s.dawn.step with | .dawn, some k => decide (9 ≤ k) | _, _ => true)

/-- The PTP port is served: not on the fallback configuration (R148), link up, and not in PAIR_FOLLOW (R124). -/
def ptpOn (s : State) : Bool := netUp s && !s.cfg.fallback && linkUpAt s s.cfg.net.ptpPort && decide (s.tb.sync ≠ .pairFollow)

/-- A timebase on the holdover oscillator reports unlocked (R21). -/
def canLock (s : State) : Bool := !s.tb.refHoldover

/-! ### The counter (R104, R105) -/

/-- The counter in units of 2^-32 ns, `n` TB cycles after the latest tick edge: 2.5 ns each, modulo 2^96. -/
def counterAfter (n : Nat) (s : State) : Nat := (s.tb.time * 4294967296 + n * 10737418240) % 2 ^ 96

/-- Its integer part. -/
def counterNs (n : Nat) (s : State) : Nat := counterAfter n s / 4294967296

/-! ### Stamps (R111, R112, R117, R477) -/

/-- A 32-bit stamp extended against a reference: the nearest time with these low bits, an exact half-wrap to the past (R117). -/
def extendStamp (t v : Nat) : Int :=
  let d := (t % 4294967296 + 4294967296 - v % 4294967296) % 4294967296
  if d ≤ 2147483648 then (t : Int) - d else (t : Int) + (4294967296 - d)

/-- What a latch takes of a counter value in TB cycles: `TIME_NS`, on the grid of 2.5 ns. -/
def latchOf (cycles : Nat) : Nat := cycles * 5 / 2 % 4294967296

/-- The latch of a source freed. -/
def freeLatch (src : Nat) (s : State) : State := s |> onIrq fun q => { q with srcs := updAt (fun x => { x with latch := none }) q.srcs src }

/-- A start-of-frame at a source: it counts, and a free latch takes its time; held by a stamp not yet read, the latch keeps it. -/
def sfdEvent (src cycles : Nat) (s : State) : State :=
  let free := (nth {} s.irq.srcs src).latch.isNone
  let s1 := irqEvent src true s
  if free then s1 |> onIrq fun q => { q with srcs := updAt (fun x => { x with latch := x.latch.map fun _ => latchOf cycles }) q.srcs src } else s1

/-- The stamp of a PTP event message, extended against the extended tick time, and the latch freed by its read; none where an
unread stamp held the latch: the newer message is discarded and counted, and the held stamp is the one read (R112). -/
def sfdStamp (src cycles : Nat) (s : State) : Option Int × State :=
  let held := (nth {} s.irq.srcs src).latch.isSome
  let s1 := sfdEvent src cycles s
  if held then (none, s1 |> freeLatch src |> onTb fun t => { t with stampLost := satInc 32 t.stampLost })
  else (some (extendStamp s.tb.time (latchOf cycles)), freeLatch src s1)

/-- Start-of-frame sources of the PTP port and of the pair link (R475). -/
def rxSource (s : State) : Nat := if s.cfg.net.ptpPort = 1 then 150 else 148
def txSource (s : State) : Nat := if s.cfg.net.ptpPort = 1 then 151 else 149

/-- The frame is no PTP event message of the configured domain: the classifier frees the latch it took (R112). -/
def otherDomain (src cycles : Nat) (s : State) : State :=
  if (nth {} s.irq.srcs src).latch.isSome then sfdEvent src cycles s else s |> sfdEvent src cycles |> freeLatch src

/-! ### Peer delay (R108, R110) -/

/-- `PTP_MEAN_PATH_DELAY`: the median of the measurements held. -/
def pathDelay (s : State) : Option Int :=
  (medianR (s.tb.delays.map fun (d : Int) => (d : Rat))).map roundAway

/-- Receive and transmit corrections of the PTP port (R111). -/
def rxLatency (s : State) : Int := if s.cfg.net.ptpPort = 1 then s.idn.phyRx2 else s.idn.phyRx1
def txLatency (s : State) : Int := if s.cfg.net.ptpPort = 1 then s.idn.phyTx2 else s.idn.phyTx1

/-- A voided Sync or a discarded measurement (R109, R110). -/
def ptpDiscard (s : State) : State := s |> onTb fun t => { t with discardCnt := satInc 32 t.discardCnt }

/-- A Pdelay_Req of the configured domain, tagged where a VLAN is configured; the asymmetry is taken from its correction, as
IEEE 1588-2019 prescribes for a requester (R108, R125). -/
def ptpHead (seq : Nat) (corr : Int) (s : State) : PtpHead :=
  { seq := seq, domain := s.cfg.net.ptpDomain, tag := if s.cfg.net.ptpVlan = 0 then none else some (s.cfg.net.ptpVlan, s.cfg.net.ptpPrio), corr := corr }

/-- A PTP message leaves on its MAC. -/
def sendPtp (f : TxFrame) (s : State) : State := s |> onTb fun t => { t with sent := t.sent ++ [f] }

/-- A Pdelay_Req leaves, its start-of-frame latched: the transmit stamp of the request outstanding (R111). -/
def stampReq (h : PtpHead) (sfd : Nat) (s : State) : State :=
  let x := sfdStamp (txSource s) sfd (sendPtp (.pdelayReq h) s)
  x.2 |> onTb fun t => if t.pdelaySeq = h.seq then { t with pdelayT1 := x.1.map (· + txLatency s) } else t

/-- PDELAY_REQ_DUE: once per second a Pdelay_Req is queued for the start of the next frame; a full queue sends it untimed, with
the start-of-frame given (R108, R111, R120). -/
def execPdelayReqDue (t1 : Nat) (s : State) : Host.Outcome State Fault Refusal :=
  let due := match s.tb.pdelayAt with | none => true | some t => elapsed s t (secNs 1)
  if !(ptpOn s && due) then .next s
  else
    let seq := (s.tb.pdelaySeq + 1) % 65536
    let q := s.cfg.net.ptpPort
    let h := ptpHead seq (-s.cfg.small.asymmetry) s
    let s1 := s |> onTb fun t => { t with pdelaySeq := seq, pdelayAt := some s.tick.now, pdelayT1 := none }
    if (queueAt s q).length < 32 then
      .next (s1 |> onQueue q fun l => l ++ [{ at_ := s.tb.time + (20 - s.tick.j) * 50000, frame := .pdelayReq h }])
    else .next (s1 |> onTb (fun t => { t with untimed := t.untimed ++ [.pdelayReq h] }) |> stampReq h t1)

/-- PDELAY_RESP_RECEIVED: a peer-delay measurement is complete; one more than 1 µs from the present median is discarded (R110).
The asymmetry is added to the correction received, as IEEE 1588-2019 prescribes (R125). -/
def execPdelayRespReceived (m : PtpFrom) (t2 t3 corr : Int) (t4 : Nat) (s : State) : Host.Outcome State Fault Refusal :=
  if !(ptpOn s) then .next s
  else if m.domain ≠ s.cfg.net.ptpDomain then .next (otherDomain (rxSource s) t4 s)
  else
    let x := sfdStamp (rxSource s) t4 s
    if m.seq ≠ s.tb.pdelaySeq then .next x.2
    else
      match s.tb.pdelayT1, x.1 with
      | none, _ => .next x.2
      | some _, none => .next (x.2 |> onTb fun t => { t with pdelayT1 := none })
      | some t1, some r =>
        let d := divRound ((r - rxLatency s - t1) - (t3 - t2) - (corr + s.cfg.small.asymmetry)) 2
        let far := match pathDelay s with | none => false | some p => decide (1000 < (d - p).natAbs)
        let s1 := x.2 |> onTb fun t => { t with pdelayT1 := none }
        .next (if far then ptpDiscard s1 else s1 |> onTb fun t => { t with delays := (d :: t.delays).take 8 })

/-- PDELAY_REQ_RECEIVED: a request of the domain is answered as a two-step responder: Pdelay_Resp with the request's receive
time, Pdelay_Resp_Follow_Up with the response's transmit time and the request's correction (R108, R111, R112). -/
def execPdelayReqReceived (m : PdelayReqIn) (t2 t3 : Nat) (s : State) : Host.Outcome State Fault Refusal :=
  if !(netUp s) || s.cfg.fallback || !(linkUpAt s s.cfg.net.ptpPort) then .next s
  else if m.head.domain ≠ s.cfg.net.ptpDomain then .next (otherDomain (rxSource s) t2 s)
  else
    let x := sfdStamp (rxSource s) t2 s
    match x.1 with
    | none => .next x.2
    | some a =>
      let y := sfdStamp (txSource s) t3 (sendPtp (.pdelayResp (ptpHead m.head.seq 0 s) m.head.source (a - rxLatency s)) x.2)
      match y.1 with
      | none => .next y.2
      | some b => .next (sendPtp (.pdelayFollowUp (ptpHead m.head.seq m.corr s) m.head.source (b + txLatency s)) y.2)

/-! ### Offset, servo, step and slew (R109, R113 to R115) -/

/-- States in which the counter may be stepped (R114). -/
def stepState : StringState → Bool
  | .off => true | .dawn => true | .standby => true | .fault => true | .service => true | _ => false

/-- The PI servo on an offset, ns: sum, frequency correction in ppb, and whether it was clamped (R113). -/
def servo (sum : Rat) (o : Int) : Rat × Rat × Bool :=
  let s1 := sum + o
  let y : Rat := o / 2 + s1 / 10
  let c := clampR (-50000) 50000 y
  if c = y then (s1, y, false) else (sum, c, true)

/-- The servo runs on an offset; an offset that is not stepped away is slewed out (R113, R114; DEDUCED, assumption 32: while it
is not 0). -/
def runServo (o : Int) (s : State) : State :=
  let r := servo s.tb.sum o
  s |> onTb fun t => { t with sum := r.1, freqAdj := freqWord s r.2.1, slewing := decide (o ≠ 0) }

/-- A Sync's offset is used (R107, R109, R114): the state follows it, then the counter is stepped or the servo runs. -/
def takeOffset (t1 corr t2 : Int) (s : State) : State :=
  match (if s.tb.delays.length < 3 then none else pathDelay s) with
  | none => s
  | some d =>
    let o := t2 - t1 - corr - s.cfg.small.asymmetry - d
    let s1 := s |> onTb fun t => { t with offset := some o, unusableSince := some s.tick.now, goodSyncs := if o.natAbs ≤ 100 then t.goodSyncs + 1 else 0 }
    match s1.tb.sync with
    | .acquiring =>
      if 10000 < o.natAbs && stepState s1.str.state then s1 |> onTb fun t => { t with step := some (-o), slewing := false }
      else
        let s2 := runServo o s1
        if 8 ≤ s2.tb.goodSyncs && canLock s2 then setSync .locked s2 else s2
    | .locked =>
      let s2 := runServo o s1
      if 250 < o.natAbs then setSync .acquiring s2 else s2
    | _ => s1

/-- The Sync comes from the selected master, at an accepted interval (R108). -/
def syncWanted (s : State) (m : PtpSync) : Bool :=
  (match s.tb.gm with | some g => g.source = m.source | none => false) && decide (62500000 ≤ m.interval) && decide (m.interval ≤ secNs 2)

/-- SYNC_RECEIVED: a one-step Sync gives its offset at once, a two-step one waits for its Follow_Up (R109). DESIGN CHOICE
(assumption 32): a Sync that comes while another waits voids that one, also before its interval has passed. -/
def execSyncReceived (m : PtpSync) (s : State) : Host.Outcome State Fault Refusal :=
  if !(ptpOn s) then .next s
  else if m.domain ≠ s.cfg.net.ptpDomain then .next (otherDomain (rxSource s) m.t2 s)
  else
    let x := sfdStamp (rxSource s) m.t2 s
    match x.1 with
    | none => .next x.2
    | some raw =>
      if !(syncWanted s m) then .next x.2
      else
        let t2 := raw - rxLatency s
        let s1 := if s.tb.pendingSync.isSome then ptpDiscard (x.2 |> onTb fun t => { t with pendingSync := none }) else x.2
        if m.twoStep then .next (s1 |> onTb fun t => { t with
          pendingSync := some { source := m.source, seq := m.seq, t2 := t2, corr := m.corr, since := s.tick.now, interval := m.interval } })
        else .next (takeOffset m.t1 m.corr t2 s1)

/-- FOLLOW_UP_RECEIVED: t1 of the waiting Sync, the corrections summed (R109). -/
def execFollowUpReceived (m : PtpFrom) (t1 corr : Int) (s : State) : Host.Outcome State Fault Refusal :=
  match s.tb.pendingSync with
  | some p =>
    if p.seq = m.seq && p.source = m.source && m.domain = s.cfg.net.ptpDomain && ptpOn s then
      .next (takeOffset t1 (p.corr + corr) p.t2 (s |> onTb fun t => { t with pendingSync := none }))
    else .next s
  | none => .next s

/-- FOLLOW_UP_TIMEOUT: no Follow_Up within one Sync interval voids the Sync (R109). -/
def execFollowUpTimeout (s : State) : Host.Outcome State Fault Refusal :=
  match s.tb.pendingSync with
  | some p => if elapsed s p.since p.interval then .next (ptpDiscard (s |> onTb fun t => { t with pendingSync := none })) else .next s
  | none => .next s

/-- TIME_STEP: a waiting step takes effect at the tick edge; the tick that follows is 25 µs to 75 µs long, the counts are
taken afresh, and a bank being filled is not marked complete (R115). -/
def execTimeStep (s : State) : Host.Outcome State Fault Refusal :=
  match s.tb.step with
  | none => .next s
  | some d =>
    let t' := ((s.tb.time : Int) + d).toNat
    let rest := 50000 - t' % 50000
    let len := if rest < 25000 then rest + 50000 else rest
    let empty := fun (g : Banked) =>
      let z := fun (b : Bank) => if b.st = 1 then { b with st := 0 } else b
      { g with b0 := z g.b0, b1 := z g.b1 }
    .next (s |> onTb (fun t => { t with time := t', step := none, stepCnt := satInc 32 t.stepCnt })
      |> onTick (fun k => { k with j := t' % 1000000 / 50000, f := t' % 10000000 / 1000000, c := t' % 500000000 / 10000000, oddTick := some len })
      |> onTab (fun x => { x with volt := empty x.volt, drop := empty x.drop, temp := empty x.temp })
      |> log srcComm 0x1032 2 (i32 (fitI 32 d)))

/-! ### Announce (R107, R119) -/

/-- Order of the data sets in the best master clock algorithm: priority1, clockClass, accuracy, variance, priority2,
identity, then steps removed. -/
def Announce.key (a : Announce) : List Nat := [a.prio1, a.class_, a.accuracy, a.variance, a.prio2, beNat a.gmId, a.stepsRemoved]
def lexLt : List Nat → List Nat → Bool
  | x :: xs, y :: ys => decide (x < y) || (decide (x = y) && lexLt xs ys)
  | _, _ => false

/-- The data set an Announce carries. -/
def announceData (a : AnnounceIn) : Announce :=
  { source := a.source, gmId := a.gmId, prio1 := a.prio1, class_ := a.class_, accuracy := a.accuracy, variance := a.variance, prio2 := a.prio2
    stepsRemoved := a.stepsRemoved, ptpTimescale := a.ptpTimescale, utcOffset := a.utcOffset, utcValid := a.utcValid, interval := a.interval }

/-- A master is selected (R107): ACQUIRING where none was, and where the identity changes, with its record. -/
def selectGm (a : Announce) (s : State) : State :=
  let changed := match s.tb.gm with | some g => decide (g.gmId ≠ a.gmId) | none => false
  let fresh := s.tb.gm.isNone
  let s1 := s |> onTb fun t => { t with gm := some a, announceAt := s.tick.now, pendingSync := if fresh || changed then none else t.pendingSync }
  let s2 := if changed then log srcComm 0x1033 2 [] s1 else s1
  if fresh || changed then setSync .acquiring s2 else s2

/-- ANNOUNCE_RECEIVED: the sender of the selected master refreshes it, and a better master of the domain with the PTP
timescale takes its place (R107, R108). -/
def execAnnounceReceived (a : AnnounceIn) (s : State) : Host.Outcome State Fault Refusal :=
  if !(ptpOn s) || a.domain ≠ s.cfg.net.ptpDomain || !a.ptpTimescale || 255 ≤ a.stepsRemoved then .next s
  else
    let n := announceData a
    match s.tb.gm with
    | none => .next (selectGm n s)
    | some g => if g.source = n.source || lexLt n.key g.key then .next (selectGm n s) else .next s

/-- ANNOUNCE_RECEIPT_TIMEOUT: three announce intervals without one (R107). -/
def execAnnounceReceiptTimeout (s : State) : Host.Outcome State Fault Refusal :=
  match s.tb.gm with
  | some g => if elapsed s s.tb.announceAt (3 * g.interval) then .next (gmLost s) else .next s
  | none => .next s

/-- PTP_OFFSET_UNUSABLE: no usable offset for 3 s in ACQUIRING or LOCKED (R107). -/
def execPtpOffsetUnusable (s : State) : Host.Outcome State Fault Refusal :=
  match s.tb.unusableSince with
  | some t => if (s.tb.sync = .acquiring || s.tb.sync = .locked) && elapsed s t (secNs 3) then .next (gmLost (s |> onTb fun x => { x with offset := none })) else .next s
  | none => .next s

/-- HOLDOVER_EXPIRED: `HOLDOVER_MAX` after the grandmaster was lost (R107). -/
def execHoldoverExpired (s : State) : Host.Outcome State Fault Refusal :=
  if s.tb.sync = .holdover && elapsed s s.tb.holdoverSince (secNs s.cfg.small.holdoverMax) then
    .next (setSync .freeRun s |> onTb fun t => { t with holdoverExpired := true })
  else .next s

/-- CLK_REF_LOST: the domains run on the holdover oscillator until a restart, the timebase is FREE_RUN, and the module fault
follows (R21, R107, R420). -/
def execClkRefLost (s : State) : Host.Outcome State Fault Refusal :=
  if s.tick.refLost then .next s
  else
    .next (s |> onTick (fun t => { t with refLost := true }) |> log srcSafety 0x1011 3 []
      |> setSync .freeRun |> onTb (fun t => { t with refHoldover := true, gm := none, pendingSync := none }) |> moduleFault 0x1011 1)

/-! ### RTC (R20, R118) -/

/-- RTC_WRITEBACK: while LOCKED, plant time goes to the RTC once per minute (R118). -/
def execRtcWriteback (s : State) : Host.Outcome State Fault Refusal :=
  let due := match s.tb.rtcWroteAt with | none => true | some t => elapsed s t (secNs 60)
  if s.tb.sync = .locked && due then .next (s |> onTb fun t => { t with rtc := t.time, rtcWroteAt := some s.tick.now }) else .next s

/-- RTC_CORRECTION: once per second the RTC's measured rate error is taken, while the reference runs (R20). -/
def execRtcCorrection (ppb : Int) (s : State) : Host.Outcome State Fault Refusal :=
  let due := match s.tb.rtcCheckAt with | none => true | some t => elapsed s t (secNs 1)
  if !s.tick.refLost && running s && due then .next (s |> onTb fun t => { t with rtcPpb := ppb, rtcCheckAt := some s.tick.now }) else .next s

/-! ### Launch queues (R120) -/

/-- The entry of a queue with the earliest launch time, the first of equals, and the queue without it. -/
def takeEarliest : List LaunchEntry → Option (LaunchEntry × List LaunchEntry)
  | [] => none
  | x :: xs =>
    match takeEarliest xs with
    | some (y, ys) => if y.at_ < x.at_ then some (y, x :: ys) else some (x, xs)
    | none => some (x, xs)

/-- A launched frame leaves, its start-of-frame at `sfd` (R111, R120). -/
def launchFrame (sfd : Nat) (f : TxFrame) (s : State) : State :=
  match f with
  | .pdelayReq h => stampReq h sfd s
  | .mirror mtype mtick payload => emitMirror mtype mtick payload (sendPtp f s)
  | .notify id d => leaveNote id d (sendPtp f s)
  | .pdelayResp _ _ _ => sendPtp f s
  | .pdelayFollowUp _ _ _ => sendPtp f s
  | .response n d => s |> ringRel n |> emitDgram d

/-- A frame that a guard band held back leaves. -/
def releaseFrame (f : TxFrame) (s : State) : State :=
  match f with
  | .mirror mtype mtick payload => emitMirror mtype mtick payload s
  | .notify id d => leaveNote id d s
  | .response n d => s |> ringRel n |> emitDgram d
  | .pdelayReq _ => s
  | .pdelayResp _ _ _ => s
  | .pdelayFollowUp _ _ _ => s

/-- Once no launch of a MAC is near, the frames held back leave in their order (R120). -/
def releaseHeld (q : Nat) (s : State) : State :=
  if quiet s q then s
  else
    let l := (s.out.held.filter fun e => e.1 = q).map (·.2)
    l.foldl (fun t f => releaseFrame f t) (s |> onOut fun o => { o with held := o.held.filter fun e => e.1 ≠ q })

/-- A frame later than `LAUNCH_LATE_MAX` is dropped; a dropped notification counts as lost (R120, R455). -/
def dropLaunch (f : TxFrame) (s : State) : State :=
  let s1 := s |> onTb (fun t => { t with launchDrop := satInc 32 t.launchDrop }) |> log srcComm 0x1034 1 []
  match f with
  | .notify id _ => s1 |> ringRel (8 + (sessionIdx s id).getD 0) |> loseNote id
  | _ => s1

/-- LAUNCH_TIME_REACHED: the entry due on a queue leaves at its launch time, late within `LAUNCH_LATE_MAX`, or is dropped, which
are events of sources 169 to 171; then the frames its guard band held back leave (R120, R475). -/
def execLaunchTimeReached (queue : Nat) (sfd : Nat) (s : State) : Host.Outcome State Fault Refusal :=
  match takeEarliest (queueAt s queue) with
  | none => .next s
  | some (e, l) =>
    if !(running s) || !(linkUpAt s queue) || s.tb.time + 50000 < e.at_ then .next s
    else
      let s1 := s |> onQueue queue fun _ => l
      let late := s.tb.time - e.at_
      let s2 :=
        if late = 0 then launchFrame sfd e.frame s1
        else if late ≤ s.cfg.small.launchLateMax then
          launchFrame sfd e.frame (s1 |> onTb (fun t => { t with launchLate := satInc 32 t.launchLate }) |> irqEvent (169 + queue) true)
        else dropLaunch e.frame (irqEvent (169 + queue) true s1)
      .next (releaseHeld queue s2)

end Sys2Proof.Machine
end

