-- ==== Sys2Proof/Machine/Flags.lean ====
section
/-! DEFINITION. The status words of the object maps: each field map of the spec as one word, bit 0 first. -/
namespace Sys2Proof.Machine

/-- `STATE_FLAGS` (R50). -/
def stateFlags (s : State) : Nat :=
  bitsOf [s.str.state = .twilight, twArmed s, s.str.partnerAbsent, s.str.mirrored, s.str.faultStopDone, s.str.causes.any fun c => c.cls = 2]

/-- `SUPPLY_FLAGS` (R102). -/
def supplyFlags (s : State) : Nat :=
  bitsOf [s.pwr.stage = .dip, s.pwr.stage = .lost || s.pwr.stage = .save, s.pwr.auxOv, s.pwr.holdupReady, s.pwr.degraded, s.pwr.insufficient,
    s.pwr.sensOff, s.pwr.failed]

/-- `TIME_STATUS` (R127); `late` is `LAUNCH_LATE` of a SET_POINT response. -/
def timeStatus (s : State) (late : Bool) : Nat :=
  s.tb.sync.code + 8 * bitsOf [s.tb.timeValid, s.tb.rtcLost, s.tb.slewing, s.tb.holdoverExpired, s.tb.refHoldover,
    (match s.tb.gm with | some g => g.utcValid | none => false), late]

/-- `CONFIG_STATUS` (R153). -/
def configStatus (s : State) : Nat :=
  let d := s.dawn
  bitsOf [d.plugPresent, d.headerOk, d.sectionsOk, d.structureOk, d.rangesOk, d.digestOk, d.sealMatch, d.unknownOpt, d.journalSkipped,
    d.stringChanged, d.older, d.fallback, d.plugRemoved]

/-- `COULOMB_STATUS` (R189). -/
def coulombStatus (s : State) : Nat := bitsOf [s.met.srcDs1, s.met.uncertain, s.met.frozen.isSome, s.met.rewritten]

/-- One element of `MET_CH_STATUS` (R190). -/
def chStatus (s : State) (n : Nat) : Nat :=
  let c := dsAt s n
  bitsOf [c.valid, c.gain4, c.settling, c.overrange, c.calDefault, c.failed, c.substituted] + 128 * (c.dec % 4) + 512 * (c.sincN % 8)

/-- `REF_STATUS` (R191). -/
def refStatus (s : State) : Nat :=
  bitsOf [s.met.refSettled, s.met.refSelB, s.met.refAFault, s.met.refBFault, s.met.sarRefFault, s.met.refSuspect]

/-- One element of `SAR_STATUS` (R192). -/
def sarStatus (c : SarCh) : Nat :=
  bitsOf [c.valid, c.overrange, c.busy, c.pending, c.leader] + 32 * (c.partner % 4) + 128 * b2n c.paired

/-- `DS7_ROLE` (R193). -/
def ds7Code (s : State) : Nat :=
  match s.met.ds7 with
  | .notStarted => 0xFF | .shadowing n => 0x10 + n | .injecting n => 0x20 + n | .substituting n => 0x30 + n | .failed => 0xF0

/-- One element of `SKL_MON_FLAGS` (R223). -/
def monFlags (m : Monitor) : Nat :=
  bitsOf [m.state = .admitted, m.looping, m.vStale, m.dStale, m.tStale, m.viaB, m.vCrcErr || m.dCrcErr || m.tCrcErr, m.resetSeen]

/-- `CELL_FLAGS` (R228). -/
def cellFlags (c : CellEntry) : Nat :=
  bitsOf [c.valid, c.dropMissing, c.dropStale, c.excluded, c.lost, c.weak, c.gLimit, c.recovery, c.probation]

/-- `POS_FLAGS` (R229). -/
def posFlags (e : PosEntry) : Nat :=
  bitsOf [e.solved, e.vStale, e.notQualified, e.dropStale, e.shareExcluded, e.kConverged, e.gConverged, e.kHigh]

/-- `T_FLAGS` (R230). -/
def tFlags (t : TempEntry) : Nat := bitsOf [t.fitted, t.valid, t.stale, t.broken]

/-- `EST_STATUS` (R277). -/
def estStatus (s : State) : Nat :=
  let e := s.est
  bitsOf [s.tab.poss ≠ [] && s.tab.poss.all (fun p => p.fl.converged), e.fromHost, e.fromPartner, e.journalLoaded, e.learn.isSome, e.rested,
    s.tab.poss.any (fun p => p.fl.chargeDisagree), s.tab.poss.any (fun p => p.fl.learnDue), e.notPersisted, e.learnPending]

/-- One element of `Z_FLAGS` (R299). -/
def zFlags (z : ZPoint) : Nat := bitsOf [z.valid, z.missing, z.currentLow, z.dcDrift, z.lockinBusy, z.reNegative, z.headroom]

/-- One element of `LOOP_STATUS` (R332). -/
def loopStatus (s : State) (i : Nat) : Nat :=
  let x := slotAt s i
  bitsOf [x.enabled, x.satHi, x.satLo, x.intHeld, x.softStart, i < 3 && s.cnv.schedQueue ≠ [], x.dutyClamp, x.ffBus, x.ffSlope]

/-- `DISP_FLAGS` (R350). -/
def dispFlags (s : State) : Nat :=
  let d := s.dsp
  bitsOf [d.active, d.limited, d.ramping, d.twilightCap, d.estLimited, d.walked, d.zConfined, d.spTimeout]

/-- `BAL_FLAGS` (R372). -/
def balFlags (s : State) : Nat :=
  bitsOf [s.bal.inelig, campaignRuns s, s.bal.deferred, s.bal.capped, s.bal.monUnres.any id, s.bal.watchdog]

/-- `THERM_FLAGS` (R373). -/
def thermFlags (s : State) : Nat :=
  let t := s.thm
  bitsOf [t.loopsRun, t.slots.any (·.failsafe), t.di.any (·.leak), t.di.any (·.flowLost), t.chLost, t.chFault, t.heatReq, t.serviceHold]

/-- `SAFETY_IO` (R410). -/
def safetyIo (s : State) : Nat :=
  let p := s.prot
  bitsOf [p.estopA.ok, p.estopB.ok, p.doorIl.ok, p.fireIn.ok, p.safeOut, p.safeOut, p.imdOk, p.pulse.isSome, p.estopA.ok ≠ p.estopB.ok, tripLatched s]

/-- `ISO_STATUS` (R411). -/
def isoStatus (s : State) : Nat :=
  let i := s.iso
  let unsync : Bool := if isSp s then i.unsync else sfRuns s && !(s.tb.sync = .locked)
  bitsOf [i.valid, i.peOpen, i.warn, i.alarm, i.injecting, i.passive, i.above, i.below, unsync, i.slow]

/-- `PAIR_FLAGS` (R433). -/
def pairFlags (s : State) : Nat :=
  let p := s.pair
  bitsOf [p.ownOut, p.ownIn, p.cableSeated, p.linkUp, p.configMatch, p.keyHeld, p.givenUp, p.contestLost, p.handoverPending]

/-- One element of `CAN_STATUS` (R473). -/
def canStatus (s : State) (ctl : Nat) : Nat :=
  let c := canAt s ctl
  bitsOf [c.running, c.onBus, c.errPassive, c.busOff, c.mbs.any fun m => m.st = .suspended, c.running && (canPort s ctl).term, c.running && (canPort s ctl).tdc]

/-- `RING_FLAGS` (R497). -/
def ringFlags (r : Ring) : Nat := bitsOf [r.high, r.refused, r.relocated, r.flushed]

/-- `LOG_STATUS` (R514). -/
def logStatus (s : State) : Nat :=
  bitsOf [s.rcd.freezeSession ≠ 0, s.rcd.windowStart.isSome, (match findOp s 6 with | some o => o.opState = 0 | none => false), decide (1835008 ≤ s.rcd.shared.length),
    decide (262144 ≤ s.rcd.safety.length), s.rcd.dropped, s.rcd.crcBad]

/-- `RESET_STATUS` (R539). -/
def resetStatus (s : State) : Nat := bitsOf [s.lad.closed, s.lad.resetDisabled, s.lad.stuckAtPowerup, s.lad.holdActive, s.lad.ignoredLast]

/-- Slot A or B of the boot region. -/
def fwSlot (s : State) (k : Nat) : FwSlot := if k = 0 then s.upd.slotA else s.upd.slotB

/-- `UPD_STATUS` (R555). -/
def updStatus (s : State) : Nat :=
  let u := s.upd
  bitsOf [u.staging.isSome && !u.erasing, u.phase = 1, u.phase = 2, u.slotA.st = 2 || u.slotB.st = 2, (fwSlot s u.running).st = 3, u.fallbackLast, s.hlth.stagingReduced]

/-- Functions whose coverage a bit of R399 reduces; for bits 9 and 10 the outputs and inputs concerned decide. -/
def twReduces (s : State) (bit fn : Nat) : Bool :=
  let outFns := fun (i : Nat) => if i < 2 then fn = 9 || fn = 10 || fn = 6 else if i = 2 then fn = 6 else true
  match bit with
  | 0 => fn = 1 || fn = 2 || fn = 3 || fn = 5
  | 1 => fn = 5 || fn = 6 || fn = 10
  | 2 => fn = 1 || fn = 2 || fn = 3 || fn = 7
  | 3 => fn = 7
  | 4 => fn = 3
  | 5 => fn = 3
  | 9 => (mapI (fun i (t : TestOut) => t.overdue && outFns i) s.prot.tests).any id
  | 10 => (mapI (fun i (f : Bool) => f && (if i < 6 then outFns i else if i < 10 then fn = 9 else true)) s.prot.diagFailed).any id
  | 11 => fn = 3
  | 12 => fn = 6
  | 13 => fn = 4
  | _ => false

/-- `SF_STATE` of a function 1 to 10 (R399, R409). -/
def sfState (s : State) (fn : Nat) : Nat :=
  if !s.prot.evaluating then 4
  else if s.str.causes.any (fun c => c.fn = fn) then 2
  else if nth false s.prot.demand (fn - 1) then 1
  else if (mapI (fun b (a : Bool) => a && twReduces s b fn) s.prot.twilight).any id then 3 else 0

/-- `CONV_STATE` (R331). -/
def convState (s : State) : Nat :=
  if s.cnv.fastTrip.any id then 4
  else if s.cnv.slot5On then 1
  else if !s.cnv.regulating then 0
  else if s.cnv.phases.any (fun p => p.st = .softStart) || (slotAt s 3).softStart then 2 else 3

/-- `PHASE_STATE` of a phase (R331). -/
def PhaseState.code : PhaseState → Nat
  | .disabled => 0 | .softStart => 1 | .enabled => 2 | .rampDown => 3 | .tripped => 4

/-- `SKL_MON_STATE` (R217). -/
def MonState.code : MonState → Nat
  | .notSeen => 0 | .quarantine => 1 | .admitted => 2 | .lost => 3 | .refused => 4

/-- `EST_MODE` (R260). -/
def EstMode.code : EstMode → Nat
  | .notStarted => 0 | .waitRestore => 1 | .coldConverging => 2 | .running => 3 | .noString => 4

/-- `PARTNER_STATE` (R432). -/
def PartnerState.code : PartnerState → Nat
  | .absent => 0 | .identity => 1 | .keys => 2 | .images => 3 | .heartbeats => 4 | .admitted => 5 | .refused => 6

/-- Mailbox states (R468, R472). -/
def MbState.code : MbState → Nat
  | .empty => 0 | .pending => 1 | .active => 2 | .suspended => 3 | .done => 4

end Sys2Proof.Machine
end

