-- ==== Sys2Proof/Machine/Journal.lean ====
section
/-! DEFINITION. The journal (R269 to R275): its entries, its records in two flash slots, the staged write, loading in
step D10 and the brown-out save. -/
namespace Sys2Proof.Machine

/-! ### Entries (R272) -/

/-- Capacity in mAh and a resistance in µΩ as an entry holds them. -/
def mAh32 (x : Rat) : Nat := ratN 32 (x / mAhUc)
def uOhm32 (x : Rat) : Int := fitI 32 (roundAway x)

/-- POSITION entry. -/
def posEntryOf (p : Nat) (e : PosEntry) : JEntry :=
  { index := p, tag := 1
    body := u8 0 ++ u32 (mAh32 e.cap) ++ i32 (uOhm32 e.rRef) ++ u16 (q15 e.k)
      ++ u16 (b2n e.gConverged + 64 * b2n e.fl.learnDue + 128 * b2n e.fl.learned) }

/-- CELL entry. -/
def cellEntryOf (s : State) (c : Nat) (x : CellEntry) : JEntry :=
  { index := c, tag := 2
    body := u8 0 ++ u32 (mAh32 (cellCap s (nth {} s.tab.poss (c / geoS s)) x)) ++ i32 (uOhm32 x.r) ++ u16 (q15 x.g)
      ++ u16 (bitsOf [x.lost, x.weak, x.probation, x.recovery, x.fl.learned]) }

/-- DISAGREE entry: count and the last three times, oldest first. -/
def disagreeEntryOf (p : Nat) (e : PosEntry) : JEntry :=
  let l := e.disagrees.reverse
  { index := p, tag := 3, body := u8 l.length ++ u32 (nth 0 l 0) ++ u32 (nth 0 l 1) ++ u32 (nth 0 l 2) }

/-- STRING entry with the learn time in TAI minutes and the learn count. -/
def stringEntryOf (s : State) (time cnt : Nat) : JEntry :=
  { index := 0xFFFF, tag := 4, body := u8 (b2n (s.tab.poss.any fun e => e.fl.learnDue)) ++ u32 time ++ u16 cnt ++ List.replicate 6 0 }

/-- RESTORE entry. -/
def restoreEntryOf (s : State) : JEntry := { index := 0xFFFF, tag := 5, body := u8 0 ++ u64 s.est.lastBlob ++ u32 0 }

/-- Learn time of the last committed learn in TAI minutes. -/
def learnMinutes (s : State) : Nat := match s.est.learnTime with | some t => t / 60000000000 | none => 0

/-- Every learned value as entries: positions, cells, disagreements, string, restore. -/
def allEntries (s : State) : List JEntry :=
  mapI posEntryOf s.tab.poss ++ mapI (cellEntryOf s) s.tab.cells
    ++ (mapI (fun p (e : PosEntry) => if e.disagrees = [] then [] else [disagreeEntryOf p e]) s.tab.poss).flatMap id
    ++ [stringEntryOf s (learnMinutes s) s.est.learnCnt, restoreEntryOf s]

/-- Bytes of an entry. -/
def JEntry.bytes (e : JEntry) : Bytes := u16 e.index ++ u8 e.tag ++ fixLen 13 e.body

/-! ### Slots and chains (R270, R271, R275) -/

/-- Slot 0 or 1. -/
def slotRecs (j : JournalSt) (k : Nat) : List JRec := if k = 0 then j.slot0 else j.slot1
def setSlot (k : Nat) (l : List JRec) (j : JournalSt) : JournalSt := if k = 0 then { j with slot0 := l } else { j with slot1 := l }

/-- Bytes a record takes. -/
def JRec.size (r : JRec) : Nat := 40 + 16 * r.entries.length

/-- Erased bytes of a slot of 2 MiB (`JOURNAL_FREE`). -/
def slotFree (l : List JRec) : Nat := 2097152 - (l.map JRec.size).foldl (· + ·) 0

/-- Records of a chain until one stops the walk: VOID ones are skipped, an erased, PENDING or bad one stops it. Answers the
records to apply and the record that stopped the walk. -/
def chainGo : List JRec → List JRec × Option JRec
  | [] => ([], none)
  | r :: rs =>
    if r.st = .void then chainGo rs
    else if r.st = .pending || !r.hcrcOk || !r.pcrcOk then ([], some r)
    else let x := chainGo rs; (r :: x.1, x.2)

/-- The chain of a slot: none unless it begins with a committed good BASE. -/
def chainOf (l : List JRec) : Option (List JRec × Option JRec) :=
  match l with
  | r :: _ => if r.kind = 1 && r.st = .committed && r.hcrcOk && r.pcrcOk then some (chainGo l) else none
  | [] => none

/-- The last `JSEQ` of a chain. -/
def chainEnd (c : List JRec × Option JRec) : Nat := match c.1.getLast? with | some r => r.jseq | none => 0

/-- The entry a chain holds for an index and tag: a later one replaces an earlier one. -/
def storedEntry (rs : List JRec) (e : JEntry) : Option JEntry :=
  ((rs.flatMap (·.entries)).reverse).find? fun x => x.index = e.index && x.tag = e.tag

/-- Records of the active slot that a reader would apply. -/
def activeRecs (s : State) : List JRec := match chainOf (slotRecs s.jrn s.jrn.active) with | some c => c.1 | none => []

/-- An entry differs from what the journal holds. -/
def entryNew (s : State) (e : JEntry) : Bool := decide (storedEntry (activeRecs s) e ≠ some e)

/-- The part of an entry that R273 saves within 1 s: marks and flags, disagreements, restore; not capacities,
resistances and link values. -/
def promptPart (e : JEntry) : Bytes := if e.tag ≤ 2 then e.body.drop 11 else e.body
def entryPrompt (s : State) (e : JEntry) : Bool :=
  e.tag ≠ 4 && (match storedEntry (activeRecs s) e with
    | some x => decide (promptPart x ≠ promptPart e)
    | none => e.tag ≠ 5 || s.est.lastBlob ≠ 0)

/-! ### Writing (R273) -/

/-- A record of a kind with entries, with the next `JSEQ`. -/
def newRec (kind : Nat) (es : List JEntry) (s : State) : JRec :=
  { st := .pending, kind := kind, jseq := (s.jrn.jseq + 1) % 4294967296, stringId := s.idn.stringId, p := geoP s, s := geoS s, time := s.tb.time, entries := es }

/-- The header of a record is programmed: appended to the active slot, or, where less than 256 KiB would be left or a torn
record stands in the way, as a BASE with every learned value into the other slot, erased first. -/
def startRec (kind : Nat) (es : List JEntry) (s : State) : State :=
  let l := slotRecs s.jrn s.jrn.active
  let base := s.jrn.rebase || l = [] || decide (slotFree l < 40 + 16 * es.length + 262144)
  if base then
    let k := if l = [] then s.jrn.active else 1 - s.jrn.active
    let keep := allEntries s ++ (if kind = 3 then es.filter fun e => e.tag = 4 else [])
    let r := newRec 1 keep s
    s |> onJrn fun j => { setSlot k [r] j with writing := some (r, 0) }
  else
    let r := newRec kind es s
    s |> onJrn fun j => { setSlot j.active (l ++ [r]) j with writing := some (r, 0) }

/-- The slot that holds the record being written. -/
def writingSlot (s : State) (r : JRec) : Nat :=
  if (slotRecs s.jrn s.jrn.active).any (fun x => x.jseq = r.jseq) then s.jrn.active else 1 - s.jrn.active

/-- State of the record being written. -/
def markRec (st : JState) (r : JRec) (s : State) : State :=
  let k := writingSlot s r
  s |> onJrn fun j => setSlot k ((slotRecs j k).map fun x => if x.jseq = r.jseq then { x with st := st } else x) j

/-- Entries of a learn result: the string and every learned position and cell that the journal does not hold so (R269, R270). -/
def learnEntries (s : State) : List JEntry :=
  stringEntryOf s (taiMinutes s) (s.est.learnCnt + 1)
    :: ((mapI (fun p (e : PosEntry) => if e.fl.learned then [posEntryOf p e] else []) s.tab.poss).flatMap id
      ++ (mapI (fun c (x : CellEntry) => if x.fl.learned then [cellEntryOf s c x] else []) s.tab.cells).flatMap id).filter (entryNew s)

/-- A learn result is committed (R269): the operation ends OK. -/
def learnCommitted (s : State) : State :=
  let s1 := s |> onEst fun e => { e with learnPending := false, notPersisted := false, learnTime := some s.tb.time, learnCnt := e.learnCnt + 1 }
  match s1.est.learn with
  | some _ => let r := learnResult s1; s1 |> closeOp 1 stOk |> endOp 1 stOk r
  | none => s1

/-- A record is committed: it is the newest, and its slot is active. -/
def commitRec (r : JRec) (s : State) : State :=
  let k := writingSlot s r
  let s1 := markRec .committed r s |> onJrn fun j => { j with
    writing := none, jseq := r.jseq, active := k, rebase := if r.kind = 1 then false else j.rebase, dirty := j.dirty }
  if s1.est.learnPending && (r.kind = 3 || (r.kind = 1 && r.entries.any (fun e => e.tag = 4 && decide (e.body = (stringEntryOf s1 (r.time / 60000000000) (s1.est.learnCnt + 1)).body))))
  then learnCommitted s1 else s1

/-- A flash operation of the journal ends (R273): header, entries with their read-back, commit. A read-back that fails
voids the record, and its content is written again after it. -/
def journalAdvance (ok : Bool) (s : State) : State :=
  match s.jrn.writing with
  | none => s
  | some (r, stage) =>
    if stage = 1 && !ok then
      let s1 := markRec .void r s |> onJrn fun j => { j with writing := none, jseq := r.jseq }
      startRec r.kind r.entries s1
    else if stage < 2 then s |> onJrn fun j => { j with writing := some (r, stage + 1) }
    else commitRec r s

/-- The module writes its journal: it is mounted, owns the string and is not writing. -/
def journalReady (s : State) : Bool := s.jrn.mounted && !(isSp s) && s.jrn.writing.isNone

/-- JOURNAL_DELTA_DUE: a LEARN record for a learn result, else a DELTA with what must be saved within 1 s (R269, R273). -/
def execJournalDeltaDue (s : State) : Host.Outcome State Fault Refusal :=
  if !(journalReady s) || s.jrn.dirty.isNone then .next s
  else
    let s1 := s |> onJrn fun j => { j with dirty := none }
    if s.est.learnPending then .next (startRec 3 (learnEntries s) s1)
    else
      let es := (allEntries s).filter (entryPrompt s)
      .next (if es = [] then s1 else startRec 2 es s1)

/-- JOURNAL_PERIODIC_DELTA: every 10 min, resistances and link values that have changed (R273). -/
def execJournalPeriodicDelta (s : State) : Host.Outcome State Fault Refusal :=
  if !(journalReady s) || !(elapsed s s.jrn.periodicAt (secNs 600)) then .next s
  else
    let es := (allEntries s).filter fun e => decide (e.tag ≤ 2) && entryNew s e
    let s1 := s |> onJrn fun j => { j with periodicAt := s.tick.now }
    .next (if es = [] then s1 else startRec 2 es s1)

/-! ### Loading (R234, R275) -/

/-- A cell entry's values taken into the table. -/
def applyCell (body : Bytes) (x : CellEntry) : CellEntry :=
  let m := getN body 11 2
  { x with
    cap := getN body 1 4 * mAhUc, r := getI body 5 4, g := (getN body 9 2 : Rat) / 32768
    gMin := (getN body 9 2 : Rat) / 32768, gMax := (getN body 9 2 : Rat) / 32768
    lost := bitAt m 0, weak := bitAt m 1, probation := bitAt m 2, recovery := bitAt m 3, fl := { x.fl with learned := bitAt m 4 }
    weakCnt := if bitAt m 1 then 600 else 0 }

/-- A position entry's values. -/
def applyPos (body : Bytes) (e : PosEntry) : PosEntry :=
  let f := getN body 11 2
  { e with
    cap := getN body 1 4 * mAhUc, rRef := getI body 5 4, k := (getN body 9 2 : Rat) / 32768
    gConverged := bitAt f 0, gSolves := if bitAt f 0 then 36000 else 0, fl := { e.fl with learnDue := bitAt f 6, learned := bitAt f 7 } }

/-- One entry applied. -/
def applyEntry (s : State) (e : JEntry) : State :=
  match e.tag with
  | 1 => s |> onPos e.index (applyPos e.body)
  | 2 => s |> onCell e.index (applyCell e.body)
  | 3 =>
    let n := getN e.body 0 1
    s |> onPos e.index fun x => { x with disagrees := (([getN e.body 1 4, getN e.body 5 4, getN e.body 9 4].take n).reverse) }
  | 4 => s |> onEst fun x => { x with
      learnCnt := getN e.body 5 2, learnTime := if getN e.body 5 2 = 0 then none else some (getN e.body 1 4 * 60000000000) }
  | 5 => s |> onEst fun x => { x with lastBlob := getN e.body 1 8 }
  | _ => s

/-- Initial values of the learned fields (R234, R248, R275): capacities n × `CAP_NOM`, `R_POS_REF`, k and g 1. -/
def learnedDefaults (s : State) : State :=
  let n : Rat := max 1 (geoS s)
  let r0 := (cellPar s 2500 CellBand.rOhm + s.cfg.cell.linkRNom) / n
  s |> onPoss (fun _ e => { e with cap := geoS s * capNom s, rRef := r0, rInit := r0 })
    |> onCells (fun _ c => { c with cap := capNom s, r := cellPar s 2500 CellBand.rOhm })

/-- Cells marked LOST and WEAK counted into their positions. -/
def countMarks (s : State) : State :=
  let cells := s.tab.cells
  let cnt := fun p (f : CellEntry → Bool) => ((mapI (fun c x => isCellOf s p c && f x) cells).filter id).length
  s |> onPoss fun p e => { e with lostN := cnt p (·.lost), weakN := cnt p (·.weak) }

/-- The slots are read: which headers and payloads fail their CRC (R271). -/
def journalRead (heads payloads : List Nat) (s : State) : State :=
  let judge := fun (l : List JRec) => l.map fun r => { r with hcrcOk := r.hcrcOk && !(heads.contains r.jseq), pcrcOk := r.pcrcOk && !(payloads.contains r.jseq) }
  s |> onJrn fun j => { j with slot0 := judge j.slot0, slot1 := judge j.slot1 }

/-- The journal is loaded in step D10 (R275). -/
def journalLoad (s0 : State) : State :=
  let s := learnedDefaults s0 |> onJrn fun j => { j with mounted := true, periodicAt := s0.tick.now }
  if s.dawn.journalSkipped then s |> onJrn fun j => { j with rebase := true }
  else
    let c0 := chainOf s.jrn.slot0
    let c1 := chainOf s.jrn.slot1
    let pick : Option (Nat × (List JRec × Option JRec)) := match c0, c1 with
      | none, none => none
      | some a, none => some (0, a)
      | none, some b => some (1, b)
      | some a, some b => if chainEnd b ≤ chainEnd a then some (0, a) else some (1, b)
    match pick with
    | none => s |> onJrn (fun j => { j with active := 0, rebase := j.slot0 ≠ [] || j.slot1 ≠ [] }) |> log srcApp3 0x060D 2 []
    | some (k, c) =>
      let s1 := s |> onJrn fun j => { j with active := k, jseq := chainEnd c, rebase := c.2.isSome }
      let s2 := match c.2 with
        | some r =>
          let t := log srcApp3 0x060C 1 (u8 k ++ u32 r.jseq) s1
          if r.kind = 3 && r.hcrcOk then t |> onEst (fun e => { e with notPersisted := true }) |> log srcApp3 0x060B 2 (u32 r.entries.length ++ u32 0) else t
        | none => s1
      match c.1 with
      | [] => s2
      | b :: _ =>
        if b.stringId ≠ s.idn.stringId || b.p ≠ geoP s || b.s ≠ geoS s then
          s2 |> onDawn (fun d => { d with journalSkipped := true }) |> onJrn (fun j => { j with rebase := true })
        else
          (c.1.flatMap (·.entries)).foldl applyEntry s2 |> onEst (fun e => { e with journalLoaded := true }) |> countMarks

/-- Probation of every mark in a Dawn begun by EXIT_SERVICE (R238). -/
def probationStart (s : State) : State :=
  let marked := fun (c : CellEntry) => c.lost || c.weak
  let s1 := s |> onCells fun _ c =>
    if marked c then { c with probation := true, probCnt := 0, lowCnt := 0, weakCnt := 0, g := 1, gMin := 1, gMax := 1 } else c
  let hit := fun p => (mapI (fun c x => isCellOf s p c && marked x) s.tab.cells).any id
  s1 |> onPoss (fun p e => if hit p then { e with gConverged := false, gSolves := 0, gBlock := 0 } else e) |> markDirty

/-! ### Brown-out save (R274) -/

/-- Entry bytes that fit in the journal's share of the brown-out. -/
def brownOutBytes : Nat := 209715

/-- A record being written when the supply fails is VOID (R274). -/
def voidWriting (s : State) : State :=
  match s.jrn.writing with
  | some (r, _) => markRec .void r s |> onJrn fun j => { j with writing := none, jseq := r.jseq }
  | none => s

/-- Phase 4 of a CAP_LEARN whose rests are complete runs before the save (R274). -/
def finishLearn (s : State) : State :=
  match s.est.learn with
  | some l => if l.emptyRested && !l.computed then learnCompute s else s
  | none => s

/-- Learned values that do not fit, or find the flash busy, are not persisted (R274). -/
def learnLost (n : Nat) (s : State) : State :=
  s |> onEst (fun e => { e with notPersisted := true }) |> log srcApp3 0x060B 2 (u32 n ++ u32 brownOutBytes)

/-- What the brown-out save writes: kind, slot and entries. A learn result goes whole or not at all, then the other changes. Where no
record may be appended, the BASE that R275 asks for is written if every learned value fits and its slot is erased (DEDUCED,
assumption 15). -/
def brownOutRec (learn : List JEntry) (s : State) : Option (Nat × Nat × List JEntry) :=
  let j := s.jrn
  let kept := if 16 * learn.length ≤ brownOutBytes then learn else []
  if j.rebase || slotRecs j j.active = [] then
    let k := if slotRecs j j.active = [] then j.active else 1 - j.active
    let es := allEntries s ++ kept.filter fun e => e.tag = 4
    if 16 * es.length ≤ brownOutBytes && slotRecs j k = [] then some (1, k, es) else none
  else
    let rest := (allEntries s).filter fun e => entryNew s e && !(kept.any fun x => x.index = e.index && x.tag = e.tag)
    let es := kept ++ rest.take ((brownOutBytes - 16 * kept.length) / 16)
    if es = [] then none else some (if kept = [] then 2 else 3, j.active, es)

/-- The journal's part of the brown-out save (R274). `ready`: the flash was ready within 0.4 ms. -/
def brownOutJournal (ready : Bool) (s : State) : State :=
  if !s.jrn.mounted || isSp s then s
  else
    let s1 := finishLearn (voidWriting s)
    let learn := if s1.est.learnPending then learnEntries s1 else []
    match (if ready then brownOutRec learn s1 else none) with
    | none => if (allEntries s1).any (entryNew s1) || learn ≠ [] then learnLost learn.length s1 else s1
    | some (kind, k, es) =>
      let r := { newRec kind es s1 with st := .committed }
      let s2 := s1 |> onJrn fun j => { setSlot k (slotRecs j k ++ [r]) j with jseq := r.jseq, active := k, rebase := false, writing := none }
      if learn = [] then s2
      else if kind = 2 then learnLost learn.length s2
      else s2 |> onEst fun e => { e with learnPending := false, notPersisted := false, learnTime := some s2.tb.time, learnCnt := e.learnCnt + 1 }

end Sys2Proof.Machine
end

