-- ==== Sys2Proof/Machine/Health.lean ====
section
/-! DEFINITION. Module health: scrubbing, ECC errors, estimator lanes and flash (R516 to R526). Flash regions in the
operands are the model's own numbers: 0 boot, 1 identity, 2 journal, 3 slots, 4 staging, 5 trend history, 6 event log. -/
namespace Sys2Proof.Machine

/-- An uncorrectable error is counted and is a module fault (R398, R420, R519). -/
def uncorrectable (s : State) : State :=
  s |> onHlth (fun h => { h with eccUnc := satInc 32 h.eccUnc }) |> moduleFault Config.eccCause 1

/-- A row already stands in the map as SUSPECT, not tested since. -/
def suspectNow (s : State) (kind row : Nat) : Bool :=
  match (s.hlth.map.filter fun d => d.kind = kind && d.unit = row).getLast? with | some d => d.st = 0 | none => false

/-- Corrections of a row are counted; three within 24 h record it as SUSPECT (R519). -/
def countCorrections (row n : Nat) (s : State) : State :=
  let now := operMs s
  let l := s.hlth.rowCorr.filter (fun x => decide (now < x.2 + 86400000)) ++ List.replicate n (row, now)
  let s1 := s |> onHlth fun h => { h with eccCorr := satAdd 32 h.eccCorr n, rowCorr := l }
  let kind := if row < 2048 then 0 else 1
  let unit := if row < 2048 then row else row - 2048
  if 3 ≤ (l.filter fun x => x.1 = row).length && !(suspectNow s kind unit) then
    s1 |> addDefect kind 0 unit 0 |> log srcApp3 0x1003 1 (u16 kind ++ u16 unit)
  else s1

/-- SRAM_SCRUB_ROW: the next row of code, then data SRAM is corrected in place (R519). -/
def execSramScrubRow (corrected : Nat) (uncorr : Bool) (s : State) : Host.Outcome State Fault Refusal :=
  if !(running s) || s.lad.rung ≠ 0 then .next s
  else
    let row := s.hlth.scrubRow
    let s1 := (if corrected = 0 then s else countCorrections row corrected s) |> onHlth fun h => { h with scrubRow := (row + 1) % 6144 }
    .next (if uncorr then uncorrectable s1 else s1)

/-- ECC_ERROR: a reader meets an uncorrectable error (R519). -/
def execEccError (s : State) : Host.Outcome State Fault Refusal := .next (if running s then uncorrectable s else s)

/-- A lane is replaced by a spare, or lost; below 56 lanes the string enters FAULT (R521, R523). -/
def laneFails (lane : Nat) (s : State) : State :=
  let left := spareLeft s 2
  if 0 < left then s |> useSpare 2 |> addDefect 2 1 lane 0 |> log srcApp3 0x1005 2 (u16 lane ++ u16 (4 - left))
  else
    let n := s.hlth.lanes - 1
    let s1 := s |> onHlth (fun h => { h with lanes := n }) |> addDefect 2 3 lane 0
    if n < 56 then s1 |> log srcApp3 0x1009 3 (i32 n) |> hardwareFault 0x1009 2 else s1

/-- LANE_TEST: the lane next in rotation (R521). -/
def execLaneTest (pass : Bool) (s : State) : Host.Outcome State Fault Refusal :=
  if !(running s) || s.lad.rung ≠ 0 then .next s
  else
    let lane := s.hlth.laneNext
    let s1 := s |> onHlth fun h => { h with laneNext := (lane + 1) % 64 }
    .next (if pass then s1 else laneFails lane s1)

/-- A block is retired: its content moves to a spare, to a block of trend history or of the event log, and with none of these
left the region decides, with `fail` for FLASH_SPARES_OUT (R522, R523). -/
def retireWith (fail : State → State) (region block : Nat) (s : State) : State :=
  let s1 := s |> log srcApp3 0x1006 2 (u16 block ++ u16 region)
  if 0 < spareLeft s1 5 then s1 |> useSpare 5 |> addDefect 5 1 block 0
  else if s1.hlth.fromTrend < Config.trendBlocks / 2 then s1 |> onHlth (fun h => { h with fromTrend := h.fromTrend + 1 }) |> addDefect 5 1 block 0
  else if s1.hlth.fromLog < 256 then s1 |> onHlth (fun h => { h with fromLog := h.fromLog + 1 }) |> addDefect 5 1 block 0
  else
    let s2 := s1 |> addDefect 5 3 block 0
    if region ≤ 3 then s2 |> log srcApp3 0x100B 3 (u16 block ++ u16 region) |> fail
    else if region = 4 then s2 |> onHlth fun h => { h with stagingReduced := true }
    else s2

/-- A block retired while the module runs. -/
def retireBlock (region block : Nat) (s : State) : State := retireWith (hardwareFault 0x100B 2) region block s

/-- Refresh interval of a band, ms (R518). -/
def refreshMs (band : Nat) : Nat := if band ≤ 1 then 2592000000 else if band = 2 then 604800000 else 86400000

/-- The band that sets the interval: the highest since the last completed pass (R522). -/
def refreshBandNow (s : State) : Nat := max s.hlth.refreshBand (s.hlth.band.getD 0)

/-- FLASH_REFRESH: the next block of the pass is read, and rewritten where needed; a rewrite that fails retires it. The pass
pauses during brown-out save, a freeze and journal writes (R522). -/
def execFlashRefresh (region : Nat) (needRewrite failed : Bool) (s : State) : Host.Outcome State Fault Refusal :=
  let b := s.hlth.refreshBlock
  let due := decide (0 < b) || decide (s.hlth.refreshLast + refreshMs (refreshBandNow s) ≤ operMs s)
  if !(running s) || s.pwr.stage = .save || s.jrn.writing.isSome || !due then .next s
  else
    let s1 := if needRewrite && failed then retireBlock region b s else s
    .next (s1 |> onHlth fun h =>
      if 1023 ≤ b then { h with refreshBlock := 0, refreshLast := operMs s1, refreshBand := h.band.getD 0 }
      else { h with refreshBlock := b + 1, refreshBand := refreshBandNow s1 })

/-- FLASH_OPERATION_DONE: a stage of the journal record being written ends, or a block that failed to program or erase is
retired (R273, R522). -/
def execFlashOperationDone (region block : Nat) (ok : Bool) (s : State) : Host.Outcome State Fault Refusal :=
  if !(running s) then .next s
  else
    let s1 := if region = 2 then journalAdvance ok s else s
    .next (if ok then s1 else retireBlock region block s1)

end Sys2Proof.Machine
end

