-- ==== Sys2Proof/Machine/Contactors.lean ====
section
/-! DEFINITION. Contactors (R389 to R392): the precharge sequence, the opening order, the coil drives and the judgement of
the mirror contacts. -/
namespace Sys2Proof.Machine

/-- A demand on SF_CONT: the event of its cause, the contactor marked, and the demand (R378, R412, R559). -/
def contFail (code k cls : Nat) (trip : Bool) (data : Bytes) (value : Int) (limit : Option Int) (s : State) : State :=
  s |> onContactor k (fun c => { c with state := 4 }) |> log srcSafety code 3 data |> sfDemand 10 code cls trip k value limit

/-- The precharge sequence moves to a step (R389). -/
def preTo (p : PreStep) (s : State) : State := s |> onCont fun c => { c with step := p, stepSince := s.tick.now, windowRun := 0, peak := 0 }

/-- Main + and main − both read closed (R402 to R404). -/
def bothClosed (s : State) : Bool := s.cont.c0.aux && s.cont.c1.aux

/-- The module's insulation slot is active (R402). -/
def isoSlotActive (s : State) : Bool := s.tb.time / secNs 10 % max 1 s.cfg.safety.isoSlotN = s.cfg.safety.isoSlot

/-- The injector: its slots while both main contactors are closed, always otherwise (R402); a pause ends the pair of adjacent
half-periods. -/
def injectNow (s : State) : State :=
  let on : Bool := sfRuns s && (!(bothClosed s) || isoSlotActive s)
  s |> onIso fun i => { i with
    injecting := on, unsync := !(s.tb.sync = .locked), passive := bothClosed s && i.passive
    words := if on = i.injecting then i.words else [], halfSince := if on = i.injecting then i.halfSince else s.tick.now
    splitPos := if bothClosed s then i.splitPos else 0, splitStr := if bothClosed s then i.splitStr else 0
    splitN := if bothClosed s then i.splitN else 0, splitSince := if bothClosed s then i.splitSince else s.tick.now
    lastAsym := if on = i.injecting then i.lastAsym else none, lastInj := if on = i.injecting then i.lastInj else none }

/-- An auxiliary contact's reading taken over (R392); a closing under its coil counts (R390). -/
def auxTake (k : Nat) (closed : Bool) (s : State) : State :=
  let count : Bool := closed && (contAt s k).coil && owning s
  s |> onContactor k (fun c => { c with
        aux := closed, auxSince := s.tick.now, wasClosed := c.wasClosed || (closed && c.coil)
        state := if !closed && !c.coil && c.state = 3 then 0 else c.state })
    |> onCont fun c => { c with
        ops0 := if count && k = 0 then satInc 32 c.ops0 else c.ops0
        ops1 := if count && k = 1 then satInc 32 c.ops1 else c.ops1
        ops2 := if count && decide (2 ≤ k) then satInc 32 c.ops2 else c.ops2 }

/-- What a closing advances (R389): P1 to P2, P3 to P4, P5 to P6. -/
def auxClosed (k : Nat) (s : State) : State :=
  match s.cont.step, k with
  | .p1, 2 => preTo .p2 s
  | .p3, 1 => preTo .p4 s
  | .p5, 0 => preTo .p6 s |> onStr fun x => { x with triggers := x.triggers ++ [.prechargeDone] }
  | _, _ => s

/-- What an opening advances (R390): main − follows main +, and the transition follows main −. A weld cause ends when its
contact reads open. -/
def auxOpened (k : Nat) (s : State) : State :=
  let s1 := if (List.range 3).any (fun n => (contAt s n).aux && !(contAt s n).coil) then s else s |> deactivate 0x0A20 |> deactivate 0x0A21
  if s1.cont.opening = 1 && k = 0 then s1 |> coilOff 1 |> onCont fun c => { c with opening := 2 }
  else if s1.cont.opening = 2 && k = 1 then
    s1 |> onCont (fun c => { c with opening := 3 }) |> onStr fun x => { x with triggers := x.triggers ++ [.stoppingDone] }
  else s1

/-- AUX_CONTACT_CHANGE: an auxiliary contact changes (R389, R390, R392); one that reads closed in STANDBY without its coil is
CONT_WELDED. -/
def execAuxContactChange (k : Nat) (closed : Bool) (s : State) : Host.Outcome State Fault Refusal :=
  if 3 ≤ k || (contAt s k).aux = closed then .next s
  else
    let s1 := auxTake k closed s
    if !(sfRuns s1) || !(running s1) then .next s1
    else if closed then
      if s1.str.state = .standby && !(contAt s1 k).coil then .next (injectNow (contFail 0x0A20 k 2 true (u16 k) 0 none s1))
      else .next (injectNow (if (contAt s1 k).coil then auxClosed k s1 else s1))
    else .next (injectNow (auxOpened k s1))

/-- CONT_CLOSE_TIMEOUT: a contact has not read closed within `CONT_CLOSE_MAX` of its coil's pull-in (R389, R392). -/
def execContCloseTimeout (k : Nat) (s : State) : Host.Outcome State Fault Refusal :=
  let c := contAt s k
  if k < 3 && sfRuns s && c.coil && !c.wasClosed && c.state ≠ 4 && elapsed s c.since (msNs s.cfg.safety.closeMax) then
    .next (contFail 0x0A22 k 2 false (u16 k) 0 none s)
  else .next s

/-- CONT_OPEN_TIMEOUT: a contact still reads closed `CONT_OPEN_MAX` after its coil was switched off (R392). -/
def execContOpenTimeout (k : Nat) (s : State) : Host.Outcome State Fault Refusal :=
  let c := contAt s k
  if k < 3 && sfRuns s && !c.coil && c.aux && c.state = 3 && elapsed s c.since (msNs s.cfg.safety.openMax) then
    .next (contFail (if c.wasClosed then 0x0A20 else 0x0A21) k 2 true (u16 k) 0 none s)
  else .next s

/-- CONT_DROPPED: a held contactor's contact, once closed, reads open for longer than `CONT_CLOSE_MAX` (R392). -/
def execContDropped (k : Nat) (s : State) : Host.Outcome State Fault Refusal :=
  let c := contAt s k
  if k < 3 && sfRuns s && c.coil && c.state = 2 && c.wasClosed && !c.aux && elapsed s c.auxSince (msNs s.cfg.safety.closeMax) then
    .next (contFail 0x0A23 k 2 false (u16 k) 0 none s)
  else .next s

/-- COIL_PULL_IN_END: `COIL_PULL_MS` has passed; the coil holds (R391). -/
def execCoilPullInEnd (k : Nat) (s : State) : Host.Outcome State Fault Refusal :=
  let c := contAt s k
  if k < 3 && c.coil && c.state = 1 && elapsed s c.since (msNs (nth 20 s.cfg.safety.coilPull k)) then
    .next (s |> onContactor k fun c => { c with state := 2, badFrames := 0 })
  else .next s

/-- Bounds of the hold current, mA, exact (R391). -/
def holdWindow (s : State) (k : Nat) : Rat × Rat :=
  let h : Rat := ((nth 50 s.cfg.safety.coilHold k : Nat) : Rat)
  let t := h * s.cfg.safety.coilTol / 10000
  (h - t, h + t)

/-- COIL_CURRENT_FAULT: the hold current has been outside its window in ten consecutive frames (R391). -/
def execCoilCurrentFault (k : Nat) (_ma : Int) (s : State) : Host.Outcome State Fault Refusal :=
  let c := contAt s k
  let w := holdWindow s k
  if k < 3 && sfRuns s && c.state = 2 && decide (10 ≤ c.badFrames) then
    .next (contFail 0x0A24 k 1 false (u16 k ++ u16 c.coilMa) c.coilMa (some (roundAway (if w.2 < (c.coilMa : Rat) then w.2 else w.1))) s)
  else .next s

/-- PRECHARGE_HOLD_END: 50 ms of the precharge contactor alone; current in it shows a welded main − (R389 P2). -/
def execPrechargeHoldEnd (s : State) : Host.Outcome State Fault Refusal :=
  if s.cont.step = .p2 && sfRuns s && elapsed s s.cont.stepSince (msNs 50) then
    if 2000 < s.cont.peak then .next (s |> contFail 0x0A20 1 2 true (u16 1) 0 none)
    else .next (s |> preTo .p3 |> coilOn 1)
  else .next s

/-- Sum of each position's newest valid voltage, 0.1 mV; none while one has none (R389). -/
def vSumValid (s : State) : Option Int :=
  if geoP s = 0 then none
  else (List.range (geoP s)).foldl (fun (a : Option Int) p =>
    let v := match s.tab.volt.val p with | some x => some x | none => (nth ({} : PosEntry) s.tab.poss p).lastV
    match a, v with | some x, some y => some (x + y) | _, _ => none) (some 0)

/-- V_SUM of a bank completed since CONNECT; kept as the newest formed (R389). -/
def vSumFrame (s : State) : State :=
  match s.tab.volt.current, vSum s with
  | some b, some v => if s.str.entered ≤ b.at_ + msNs 4 then s |> onCont fun c => { c with vSum := some v.toNat } else s
  | _, _ => s

/-- Bound of the peak current in P4, mA, exact (R389). -/
def preBound (s : State) : Option Rat :=
  let v : Option Int := match s.cont.vSum with | some x => some (x : Int) | none => vSumValid s
  v.map fun x => (3 / 2 : Rat) * x / (10 * (max 1 s.cfg.safety.rPre : Nat))

/-- The link voltage lies in the precharge window (R389 P4); a held DS2 mean does not meet it (R385). -/
def inWindow (s : State) : Bool :=
  match vSum s, vStr s with
  | some v, some l => (dsAt s 2).valid && decide (absR ((v : Rat) - l * 100) ≤ (s.cfg.safety.preWindow : Rat) / 10000 * v)
  | _, _ => false

/-- The precharge sequence at the frame latch: peak current in P2 and P4, PRECHARGE_SHORT, and the run of frames in the window
that starts P5 (R389). -/
def preFrame (s : State) : State :=
  if s.str.state ≠ .precharge || !(sfRuns s) then s
  else
    let i := (roundAway (absR (iStr s))).toNat
    let s1 := vSumFrame s |> onCont fun c => { c with peak := if c.step = .p2 || c.step = .p4 then max c.peak i else c.peak }
    if s1.cont.step ≠ .p4 then s1
    else
      let short : Bool := match preBound s1 with | some b => decide (b < (s1.cont.peak : Rat)) | none => false
      if short then
        s1 |> contFail 0x0A25 2 2 false (i32 s1.cont.peak ++ u32 (s1.cont.vSum.getD ((vSumValid s1).getD 0).toNat))
          s1.cont.peak ((preBound s1).map roundAway)
      else
        let n := if inWindow s1 then s1.cont.windowRun + 1 else 0
        if 10 ≤ n then s1 |> preTo .p5 |> coilOn 0
        else s1 |> onCont fun c => { c with windowRun := n }

/-- PRECHARGE_TIMEOUT: no window within `PRE_TIMEOUT` of the start of P4; the next tick 16 opens the contactors (R35, R38,
R389). -/
def execPrechargeTimeout (s : State) : Host.Outcome State Fault Refusal :=
  if s.str.state = .precharge && s.cont.step = .p4 && elapsed s s.cont.stepSince (msNs s.cfg.safety.preTimeout) &&
      !(s.str.triggers.contains .prechargeTimeout) then
    .next (s |> onStr fun x => { x with triggers := x.triggers ++ [.prechargeTimeout] })
  else .next s

/-- The time at |I_STR| ≤ 2 A in STOPPING, per frame (R35). -/
def zeroFrame (s : State) : State :=
  s |> onCont fun c => { c with
    zeroSince := if s.str.state = .stopping && decide (absR (iStr s) ≤ 2000) then c.zeroSince.orElse (fun _ => some s.tick.now) else none }

/-- STOPPING_ZERO_CURRENT: 10 ms at zero current end STOPPING; toward STANDBY main + opens first (R35, R390). -/
def execStoppingZeroCurrent (s : State) : Host.Outcome State Fault Refusal :=
  match s.cont.zeroSince with
  | none => .next s
  | some t =>
    if s.str.state ≠ .stopping || !(owning s) || !(elapsed s t (msNs 10)) || s.cont.opening ≠ 0 || s.str.triggers.contains .stoppingDone then .next s
    else if s.str.stopTarget = some .closed then .next (s |> onStr fun x => { x with triggers := x.triggers ++ [.stoppingDone] })
    else .next (s |> coilOff 2 |> coilOff 0 |> onCont fun c => { c with opening := 1 })

/-- Time STOPPING may take: the ramp from `I_RATED` at `RAMP_DEC`, and 500 ms (R35). -/
def stopLimitNs (s : State) : Nat := s.cfg.conv.iRated * 1000000000 / max 1 s.cfg.disp.rampDec + msNs 500

/-- STOP_TIMEOUT: STOPPING is not complete in its time: FAULT, clear class 0, the cause active no longer (R35). -/
def execStopTimeout (s : State) : Host.Outcome State Fault Refusal :=
  if s.str.state = .stopping && owning s && elapsed s s.str.entered (stopLimitNs s) then
    .next (s |> log srcSafety 0x0AF2 3 [] |> decideFault 0x0AF2 0 false 0 |> deactivate 0x0AF2)
  else .next s

/-- A coil current of a tick: the samples from tick 0 to tick 19 make up the frame mean (R409). -/
def Contactor.coilSample (j x : Nat) (c : Contactor) : Contactor :=
  let full : Bool := decide (j = 0) && decide (0 < c.coilN)
  { c with
    coilMa := if full then fitN 16 (roundAway ((c.coilSum : Rat) / c.coilN)).toNat else c.coilMa
    coilSum := if full then x else c.coilSum + x
    coilN := if full then 1 else c.coilN + 1 }

/-- Coil currents and HS read-backs of a tick (R391, R409). -/
def coilTick (coil : List Nat) (hs : List Bool) (s : State) : State :=
  (List.range 3).foldl (fun t k => t |> onContactor k fun c =>
    if c.coil then { c.coilSample s.tick.j (nth 0 coil k) with hsOk := nth true hs k }
    else { c with coilMa := 0, coilSum := 0, coilN := 0, hsOk := true }) s

/-- Hold current and HS switching of one contactor per frame (R391): the run outside the window, and DRIVER_STUCK. -/
def coilFrame (k : Nat) (s : State) : State :=
  let c := contAt s k
  let w := holdWindow s k
  if !c.coil || c.state ≠ 2 then s
  else
    let out := decide ((c.coilMa : Rat) < w.1) || decide (w.2 < (c.coilMa : Rat))
    let s1 := s |> onContactor k fun c => { c with badFrames := if out then c.badFrames + 1 else 0 }
    if c.hsOk || nth true s.prot.diagFailed (10 + k) then s1
    else s1 |> log srcSafety 0x0A27 2 (u16 k) |> diagFail (10 + k)

/-- An auxiliary contact that reads closed in STANDBY with its coil off, beyond the opening time of the coil, is CONT_WELDED in
whatever frame it is read (R392). -/
def standbyAux (k : Nat) (s : State) : State :=
  let c := contAt s k
  if sfRuns s && s.str.state = .standby && c.aux && !c.coil && c.state = 0 then contFail 0x0A20 k 2 true (u16 k) 0 none s else s

end Sys2Proof.Machine
end

