-- ==== Sys2Proof/Machine/Insulation.lean ====
section
/-! DEFINITION. The insulation monitor (R402 to R405) with its exponential fit, and the PE check of R54. Resistances in kΩ,
voltages of the fit in volts. -/
namespace Sys2Proof.Machine

/-! ### The fit of a half-period (R402)

The spec names a fit of an exponential and gives no method. The model fits through the means of three equal parts of the
words, which is exact on an exponential (DESIGN CHOICE, assumption 27). -/

/-- An exponential fitted to the words: its asymptote in V, its time constant as a fraction of the half-period, and the
greatest residual in V. -/
structure IsoFit where
  asym : Rat
  tau : Rat
  resid : Rat
  deriving DecidableEq, Repr

/-- Mean of a list, 0 for none. -/
def isoMean (l : List Rat) : Rat := if l.length = 0 then 0 else sumR l / l.length

/-- The fit. The part means of A + B·exp(−t/τ) form a geometric sequence about A with ratio q = exp(−T/3τ). -/
def isoFit (words : List Int) : Option IsoFit :=
  let v : List Rat := words.map fun (c : Int) => dsVolt (c : Rat) / 100
  let n := v.length / 3
  if n = 0 then none
  else
    let m1 := isoMean (v.take n)
    let m2 := isoMean ((v.drop n).take n)
    let m3 := isoMean ((v.drop (2 * n)).take n)
    let d1 := m2 - m1
    let d2 := m3 - m2
    let q := if d1 = 0 then 0 else d2 / d1
    if d1 = 0 || decide (q ≤ 0) || decide (1 ≤ q) then
      some { asym := m3, tau := 0, resid := maxR (absR (m1 - m3)) (absR (m2 - m3)) }
    else
      let a := snap (m3 - d2 * d2 / (d2 - d1))
      let x := -(lnR q)
      let tau := if x ≤ 0 then 1000 else snap (1 / (3 * x))
      -- amplitude of the exponential at the middle of the first part, and its values at the words
      let step := x / n
      let b := m1 - a
      let fit := fun (i : Nat) => a + b * expR (-(step * ((i : Rat) - ((n : Rat) - 1) / 2)))
      some { asym := a, tau := tau
             resid := (mapI (fun i y => absR (y - fit i)) (v.take (3 * n))).foldl maxR 0 }

/-- R_ISO from the steps of two adjacent half-periods, in kΩ; none is beyond every bound (R402). -/
def isoRes (s : State) (dv du : Rat) : Option Rat :=
  if du = dv then none
  else
    let rm := 22000 * dv / (du - dv)
    if rm ≤ 0 then some 0
    else
      let g := 1 / rm - 1 / (max 1 s.idn.rOwn : Nat) - (if s.cfg.safety.isoRParallel = 0 then 0 else 1 / (s.cfg.safety.isoRParallel : Rat))
      if g ≤ 0 then none else some (1 / g)

/-- Leakage capacitance from the time constant, nF: τ in ms over the parallel of the injector and Rm in kΩ (R402). -/
def isoCap (dv du tauMs : Rat) : Nat :=
  if du = dv || decide (dv / du ≤ 0) then 0
  else
    let rm := 22000 * dv / (du - dv)
    if rm ≤ 0 then 0 else ratN 32 (tauMs * (1 / rm + 1 / 22000) * 1000)

/-! ### SF_ISO and IMD_OK (R403) -/

/-- A resistance as an object value, kΩ. -/
def kOhm (o : Option Rat) : Nat := match o with | some x => ratN 32 x | none => 0xFFFFFFFF
def kOhmN (o : Option Nat) : Nat := optN 32 o

/-- A demand of SF_ISO: item 0 active, 1 passive positive pole, 2 passive negative pole (R378, R403, R559). -/
def isoDemand (item : Nat) (r : Nat) (s : State) : State :=
  if s.iso.alarm || !(sfRuns s) then s
  else
    let lim : Int := s.cfg.safety.isoAlarm
    let s1 := s |> onIso (fun i => { i with alarm := true, highRun := 0 }) |> openImd
      |> log srcSafety 0x0A42 3 (u32 (kOhmN s.iso.r) ++ u32 (kOhm s.iso.rPos) ++ u32 (kOhm s.iso.rNeg))
    if s.cfg.safety.isoAction = 1 then sfDemand 6 0x0A42 0 true item r (some lim) s1
    else demandRecord 6 0x0A42 item r (some lim) s1

/-- The alarm ends after two results at or above 1.25 × `ISO_ALARM` (R403). -/
def isoRestore (s : State) : State :=
  s |> onIso (fun i => { i with alarm := false, highRun := 0, lowRun := 0, passivePosLow := 0, passiveNegLow := 0 })
    |> log srcSafety 0x0A43 1 (u32 (kOhmN s.iso.r)) |> deactivate 0x0A42 |> demandOver 6

/-- IMD_OK closes on a valid result at or above `ISO_ALARM` with PE_OPEN clear (R403). -/
def imdUpdate (s : State) : State :=
  if sfRuns s && s.dawn.fail = 0 && s.iso.valid && !s.iso.alarm && !s.iso.peOpen && s.iso.lowRun = 0 then s |> onProt fun p => { p with imdOk := true } else s

/-- Judgement of a new active result (R402, R403): the reading with its range flags, ISO_WARN, alarm and restoration. -/
def isoResult (r : Option Rat) (cap : Nat) (s : State) : State :=
  let x : Rat := match r with | some y => y | none => 10001
  let v := (roundAway (clampR 10 10000 x)).toNat
  let c := s.cfg.safety
  let low := decide (v < c.isoAlarm)
  let high := decide (5 * c.isoAlarm ≤ 4 * v)
  let s1 := s |> onIso (fun i => { i with
      r := some v, rp := some (clampR 10 10000 x), cPe := some cap, below := decide (x < 10), above := decide (10000 < x)
      valid := true, invalid := false, resultAt := some s.tick.now, warn := decide (v < c.isoWarn)
      lowRun := if low then i.lowRun + 1 else 0, highRun := if high then i.highRun + 1 else 0 })
    |> clearTw 12
  let s2 := if decide (v < c.isoWarn) && !s.iso.warn then log srcSafety 0x0A41 2 (u32 v) s1 else s1
  let s3 := if 2 ≤ s2.iso.lowRun then isoDemand 0 v s2 else s2
  let s4 := if s3.iso.alarm && decide (2 ≤ s3.iso.highRun) then isoRestore s3 else s3
  imdUpdate s4

/-- ISO_INVALID is decided: IMD_OK opens, a Twilight cause is raised (R403). -/
def isoInvalidate (cause : Nat) (s : State) : State :=
  if s.iso.invalid then s
  else s |> onIso (fun i => { i with invalid := true, valid := false }) |> openImd |> log srcSafety 0x0A44 2 (u16 cause) |> raiseTw 12

/-! ### INSULATION_TEST (R405) -/

/-- The test starts, or starts again, with its reference check (R405). -/
def isoTestBegin (s : State) : State :=
  s |> onIso fun i => { i with
    test := some (.reference, 0), testBase := i.r.map fun x => (x : Rat), testRef := none, lastAsym := none, lastInj := none
    words := [], halfSince := s.tick.now }

/-- 1 MΩ in parallel with the R_ISO before the test. -/
def isoTestExpect (s : State) : Rat := match s.iso.testBase with | some b => 1 / (1 / 1000 + 1 / b) | none => 1000

/-- A half-period of the running test with its resistance, where it gave one (R405). -/
def isoTestHalf (r : Option Rat) (have_ : Bool) (s : State) : State :=
  match s.iso.test with
  | none => s
  | some (.reference, n) =>
    if n = 0 || !have_ then s |> onIso fun i => { i with test := some (.reference, n + 1) }
    else
      let x : Rat := match r with | some y => y | none => 10001
      let v := ratN 32 x
      let e := isoTestExpect s
      let s1 := s |> onIso fun i => { i with testRef := some v, lastAsym := none, lastInj := none }
      if absR (x - e) ≤ e / 10 then
        s1 |> onIso fun i => { i with test := some (.measure, 0), half := max i.half 10000 }
      else
        let res := isoTestResult s1
        s1 |> log srcSafety 0x0A45 3 (u32 v) |> onIso (fun i => { i with test := none }) |> endOp 5 stFault res
  | some (.measure, n) =>
    if n + 1 < 6 then s |> onIso fun i => { i with test := some (.measure, n + 1) }
    else
      let res := isoTestResult s
      s |> log srcSafety 0x0A46 1 (u32 (kOhmN s.iso.r) ++ u32 (kOhmN s.iso.cPe))
        |> onIso (fun i => { i with test := none, half := s.cfg.safety.isoHalf }) |> endOp 5 stOk res

/-! ### The rows -/

/-- Length of the present half-period, ms: that of the test, or `ISO_HALF`, lengthened for a slow system (R402, R405). -/
def isoHalfNext (s : State) (tauMs : Rat) : Nat × Bool :=
  let base : Nat := match s.iso.test with | some (.measure, _) => max 10000 s.cfg.safety.isoHalf | _ => s.cfg.safety.isoHalf
  if (base : Rat) / 4 < tauMs then (min 60000 (max base (roundAway (4 * tauMs)).toNat), true) else (base, false)

/-- The DS5 words of a half-period, newest first, and the sums of DS4 and DS2 for the split, as each tick latches them (R402,
R404). -/
def isoGather (s : State) : State :=
  s |> onIso fun i =>
    let w := if i.injecting && (dsAt s 5).valid then (dsAt s 5).word :: i.words else i.words
    if bothClosed s && (dsAt s 4).valid && (dsAt s 2).valid then
      { i with words := w, splitPos := i.splitPos + (dsAt s 4).word, splitStr := i.splitStr + (dsAt s 2).word, splitN := i.splitN + 1 }
    else { i with words := w }

/-- ISO_HALF_PERIOD_END: the fit of the DS5 words of the half-period gives the asymptote, and the step to the one before the result
(R402, R403, R405). `inj` is the injector voltage in mV as the housekeeping SAR measures it, `injOk` whether its read-back passed
(R398). -/
def execIsoHalfPeriodEnd (_ds5 inj : Int) (injOk : Bool) (s : State) : Host.Outcome State Fault Refusal :=
  if !(sfRuns s) || !(running s) || !s.iso.injecting || !(elapsed s s.iso.halfSince (msNs s.iso.half)) then .next s
  else
    let ds5 := s.iso.words.reverse
    let s0 := s |> onIso fun i => { i with unsync := !(s.tb.sync = .locked), words := [], halfSince := s.tick.now }
    let u : Rat := (inj : Rat) / 1000
    let drop := fun (t : State) => t |> onIso fun i => { i with lastAsym := none, lastInj := none }
    if !injOk then .next (isoInvalidate 2 (drop s0))
    else if heldLong s0 s0.iso.dsHeld 1000 || (dsAt s0 5).failed then .next (drop s0)
    else match isoFit ds5 with
      | none => .next (drop s0)
      | some f =>
        let tauMs := f.tau * s0.iso.half
        let du : Rat := match s0.iso.lastInj with | some w => u - w | none => 2 * u
        if absR du * 2 / 100 < f.resid then .next (drop s0)
        else
          let h := isoHalfNext s0 tauMs
          let s1 := s0 |> onIso fun i => { i with lastAsym := some f.asym, lastInj := some u, half := h.1, slow := h.2 }
          match s0.iso.lastAsym with
          | none => .next (isoTestHalf none false s1)
          | some a0 =>
            let dv := f.asym - a0
            let r := isoRes s1 dv du
            match s1.iso.test with
            | some (.reference, _) => .next (isoTestHalf r true s1)
            | _ =>
              let s2 := if s1.iso.peOpen then s1 else isoResult r (isoCap dv du tauMs) s1
              .next (isoTestHalf r true s2)

/-- Two passive estimates in a row below `ISO_ALARM` on a pole make the demand (R404). -/
def passiveJudge (pos : Bool) (est : Rat) (s : State) : State :=
  let low := decide (est < (s.cfg.safety.isoAlarm : Rat))
  let s1 := s |> onIso fun i => if pos then { i with passivePosLow := if low then i.passivePosLow + 1 else 0 }
                                else { i with passiveNegLow := if low then i.passiveNegLow + 1 else 0 }
  let n := if pos then s1.iso.passivePosLow else s1.iso.passiveNegLow
  if 2 ≤ n then isoDemand (if pos then 1 else 2) (ratN 32 est) s1 else s1

/-- A split a of the string voltage taken: both poles' resistances from the last active result, or, when the split moved, the pole
that lost insulation against the other pole's last value (R404). -/
def passiveTake (a : Rat) (s : State) : State :=
  let s1 := s |> onIso fun i => { i with passive := true }
  let note := s1 |> onIso fun i => { i with lastSplit := some a }
  if a ≤ 0 || 1 ≤ a then note
  else match s.iso.rp with
    | none => note
    | some rp =>
      let base := note |> onIso fun i => { i with rPos := some (snap (rp / (1 - a))), rNeg := some (snap (rp / a)) }
      match s.iso.lastSplit, s.iso.rPos, s.iso.rNeg with
      | some a0, some rpos, some rneg =>
        if a0 < a then
          let e := snap (rpos * (1 - a) / a)
          note |> onIso (fun i => { i with rNeg := some e, passivePosLow := 0 }) |> passiveJudge false e
        else if a < a0 then
          let e := snap (rneg * a / (1 - a))
          note |> onIso (fun i => { i with rPos := some e, passiveNegLow := 0 }) |> passiveJudge true e
        else if 0 < s.iso.passivePosLow then passiveJudge true rpos s1
        else if 0 < s.iso.passiveNegLow then passiveJudge false rneg s1
        else base
      | _, _, _ => base

/-- ISO_PASSIVE_MEASUREMENT: once per second, with both main contactors closed and |V_STR| ≥ 100 V, the split is formed from the
means since the measurement before (R404). -/
def execIsoPassiveMeasurement (_vPos _vStr : Int) (s0 : State) : Host.Outcome State Fault Refusal :=
  let due := elapsed s0 s0.iso.splitSince (secNs 1)
  let v : Rat := if s0.iso.splitN = 0 then 0 else dsVolt ((s0.iso.splitStr : Rat) / s0.iso.splitN)
  let ok : Bool := sfRuns s0 && running s0 && bothClosed s0 && decide (10000 ≤ absR v) && !(dsAt s0 4).failed && !s0.iso.peOpen
  let s := s0 |> onIso fun i => { i with splitPos := 0, splitStr := 0, splitN := 0, splitSince := s0.tick.now }
  if !due then .next s0
  else if !ok then .next (s |> onIso fun i => { i with passive := false, lastSplit := none, passivePosLow := 0, passiveNegLow := 0 })
  else .next (passiveTake ((s0.iso.splitPos : Rat) / s0.iso.splitStr) s)

/-- Age limit of the active result, ms (R403). -/
def isoAgeMax (s : State) : Nat :=
  if bothClosed s then 10000 * s.cfg.safety.isoSlotN + 10000
  else if s.iso.slow then 2 * s.iso.half + 10000 else 20000

/-- ISO_INVALID: no valid active result within its age limit (R403, R385). -/
def execIsoInvalid (s : State) : Host.Outcome State Fault Refusal :=
  let t := s.iso.resultAt.getD s.iso.since
  if sfRuns s && running s && elapsed s t (msNs (isoAgeMax s)) then
    .next (isoInvalidate (if bothClosed s && s.iso.resultAt.isSome then 1 else 0) s)
  else .next s

/-- ISO_SLOT_BOUNDARY: the injector starts and stops with the module's slots (R402). -/
def execIsoSlotBoundary (s : State) : Host.Outcome State Fault Refusal :=
  if running s then .next (injectNow s) else .next s

/-- PE_CHECK: above 10 Ω PE_OPEN is declared, every insulation reading becomes invalid and IMD_OK opens (R54). -/
def execPeCheck (mOhm : Nat) (s : State) : Host.Outcome State Fault Refusal :=
  if !(running s) then .next s
  else
    let s1 := s |> onIso fun i => { i with peGoodSince := if mOhm < 9000 then i.peGoodSince.orElse (fun _ => some s.tick.now) else none }
    if 10000 < mOhm && !s.iso.peOpen then
      .next (s1 |> onIso (fun i => { i with peOpen := true, valid := false, passive := false, lastAsym := none, lastInj := none, lastSplit := none }) |> openImd
        |> log srcSafety 0x0A40 2 [])
    else .next s1

/-- PE_OPEN_CLEARED: 1 s below 9 Ω (R54). -/
def execPeOpenCleared (s : State) : Host.Outcome State Fault Refusal :=
  match s.iso.peGoodSince with
  | some t => if s.iso.peOpen && running s && elapsed s t (secNs 1) then .next (s |> onIso fun i => { i with peOpen := false }) else .next s
  | none => .next s

end Sys2Proof.Machine
end

