-- ==== Sys2Proof/Machine/Recorder.lean ====
section
/-! DEFINITION. Event recorder rows (R500 to R511): intake, folding, rate limiting, storage, freeze and export. -/
namespace Sys2Proof.Machine

/-- `REC_FLAGS` of R501. -/
def Rec.flags (r : Rec) : Nat :=
  b2n r.deferred * 64 + b2n r.timeValid * 32 + b2n r.tai * 16 + b2n r.summary * 8 + r.sev % 4

/-- The 32 bytes of a record (R500). -/
def Rec.encode (r : Rec) : Bytes :=
  let b := u64 r.time ++ u32 r.seq ++ u16 r.code ++ u8 r.flags ++ u8 r.src ++ u16 r.rep ++ fixLen 12 r.data
  b ++ u16 (crc16 b)

/-- Every record held: flash regions, write buffer and open record (R503, R505). -/
def heldRecords (s : State) : List Rec :=
  s.rcd.shared ++ s.rcd.safety ++ s.rcd.buffer.map (·.1) ++ (match s.rcd.openRec with | some (r, _) => [r] | none => [])

/-- Insertion by `REC_SEQ`. -/
def insertSeq (r : Rec) : List Rec → List Rec
  | [] => [r]
  | x :: xs => if r.seq ≤ x.seq then r :: x :: xs else x :: insertSeq r xs

/-- The next `n` readable records with `REC_SEQ` ≥ `a`, in order (R504, R508). -/
def recordsFrom (s : State) (a n : Nat) : List Rec :=
  (((heldRecords s).filter fun r => decide (a ≤ r.seq) && r.crcOk).foldr insertSeq []).take n

/-- The open record closes (R505). -/
def closeOpen (s : State) : State :=
  match s.rcd.openRec with
  | none => s
  | some (r, _) => s |> onRcd fun c => { c with openRec := none, buffer := c.buffer ++ [(r, s.tick.now)] }

/-- Event notifications of a record to the sessions whose `MIN_SEV` it meets (R454). -/
def notifyRecord (r : Rec) (s : State) : State :=
  (s.host.sessions.filterMap fun o => o).foldl (fun t x =>
    if x.state = 2 && decide (x.minSev ≤ r.sev) then notify x.id 1 none r.encode t else t) s

/-- A new record takes the next `REC_SEQ` and closes the open one; it stays open unless it is a summary (R505, R506). -/
def openRecord (i : Intake) (summary : Bool) (s : State) : State :=
  let s1 := closeOpen s
  let r : Rec := { time := i.time, seq := (s1.rcd.seq + 1) % 4294967296, code := i.code, sev := i.sev, src := i.src
                   data := i.data, deferred := i.deferred, timeValid := i.timeValid, tai := s1.rcd.tai, summary := summary }
  let s2 := s1 |> onRcd fun c => if summary then { c with seq := r.seq, buffer := c.buffer ++ [(r, s.tick.now)] }
                                 else { c with seq := r.seq, openRec := some (r, s.tick.now) }
  notifyRecord r s2

/-- A record the recorder itself writes in place: LOG_INTAKE_LOST and LOG_RATE_SUMMARY (R506, R507). -/
def writeOwn (code sev : Nat) (data : Bytes) (summary : Bool) (s : State) : State :=
  openRecord (Note.intake s { src := srcApp3, code := code, sev := sev, data := data }) summary s

/-- A limited period is in force (R506). -/
def limited (s : State) : Bool := s.rcd.windowStart.isSome

/-- A record of a limited period is counted in its window: whether it passes, and the counts after it (R506). -/
def rateCount (limit : Nat) (i : Intake) : List RateCount → Bool × List RateCount
  | [] => (true, [{ code := i.code, passed := 1 }])
  | c :: cs =>
    if c.code = i.code then
      if i.sev = 3 || decide (c.passed < limit) then (true, { c with passed := c.passed + 1 } :: cs)
      else (false, { c with suppressed := c.suppressed + 1, maxSev := max c.maxSev i.sev } :: cs)
    else let r := rateCount limit i cs; (r.1, c :: r.2)

/-- Merging (R505): an equal record folds into the open one, which closes at 65,535 repeats; any other opens a record. -/
def foldRecord (i : Intake) (s : State) : State :=
  match s.rcd.openRec with
  | some (r, t0) =>
    if r.code = i.code && r.sev = i.sev && r.src = i.src && r.data == i.data then
      let s1 := s |> onRcd fun c => { c with openRec := some ({ r with rep := r.rep + 1 }, t0), repeatFold := satInc 32 c.repeatFold }
      if 65535 ≤ r.rep + 1 then closeOpen s1 else s1
    else openRecord i false s
  | none => openRecord i false s

/-- The loss `x` lies before the packet just released from a ring: its mark is due (R507). -/
def lossDue (r : Ring) (x : Nat × Nat) : Bool := decide (0 < ptrDiff r.pktRd x.1) && decide (ptrDiff r.pktRd x.1 < 2147483648)

/-- The mark of what an intake ring lost between the last record received before the loss and the first received after it
(R507). -/
def markLosses (ring : Nat) (s : State) : State :=
  let r := ringAt s ring
  let n := ((r.losses.filter (lossDue r)).map (·.2)).sum
  if n = 0 then s
  else s |> onRing ring (fun r => { r with losses := r.losses.filter fun x => !(lossDue r x) })
    |> writeOwn 0x0F02 2 (u16 ring ++ i32 n) false

/-- A record of an intake ring is taken into the log (R505 to R507). -/
def takeRecord (ring : Nat) (i : Intake) (s : State) : State :=
  let s1 := markLosses ring s
  if limited s1 then
    let r := rateCount s1.cfg.small.rateLimit i s1.rcd.counts
    let s2 := s1 |> onRcd fun c => { c with counts := r.2, rateSuppr := if r.1 then c.rateSuppr else satInc 32 c.rateSuppr }
    if r.1 then foldRecord i s2 else s2
  else foldRecord i s1

/-- The recorder runs, on application core 3 and once D4 has loaded the counter (R17, R32, R502). -/
def recorderRuns (s : State) : Bool :=
  coresRun s && (match s.str.state, s.dawn.step with | .dawn, some k => s.str.mirrored || decide (4 < k) | _, _ => true)

/-- RECORD_INTAKE: the recorder takes the oldest packet of intake ring 40 to 47, unless the log is frozen (R509); a
poisoned packet is discarded (R495). -/
def execRecordIntake (ring : Nat) (s : State) : Host.Outcome State Fault Refusal :=
  if ring < 40 || 47 < ring || !(recorderRuns s) || decide (s.rcd.freezeSession ≠ 0) then .next s
  else match (ringAt s ring).pkts with
    | [] => .next s
    | p :: _ =>
      if p.poison then
        .next (s |> onRing ring (fun r => { r with poison := satInc 32 r.poison }) |> ringRel ring |> log srcHw 0x0E03 1 (u16 ring ++ u16 p.kind))
      else .next (s |> ringRel ring |> takeRecord ring (Intake.decode p.bytes))

/-- RECORD_CLOSE_TIMEOUT: the open record closes 60 s after its first occurrence (R505). -/
def execRecordCloseTimeout (s : State) : Host.Outcome State Fault Refusal :=
  match s.rcd.openRec with
  | some (_, t) => .next (if recorderRuns s && elapsed s t (secNs 60) then closeOpen s else s)
  | none => .next s

/-- RECORD_FLUSH: the oldest closed record is written from the buffer to its region (R503, R504). -/
def execRecordFlush (s : State) : Host.Outcome State Fault Refusal :=
  match s.rcd.buffer with
  | [] => .next s
  | (r, _) :: rs => .next (if s.rcd.freezeSession ≠ 0 || !(recorderRuns s) then s else s |> onRcd (fun c => { c with buffer := rs }) |> storeRecord r)

/-- The summaries of a window's suppressed codes (R506). -/
def writeSummaries (s : State) : State :=
  (s.rcd.counts.filter fun c => decide (0 < c.suppressed)).foldl (fun t c =>
    writeOwn 0x0F01 c.maxSev (u16 c.code ++ i32 c.suppressed ++ u16 c.maxSev) true t) s

/-- RATE_WINDOW_END: at the end of a rate window its suppressed codes are summarized and the next begins (R506). -/
def execRateWindowEnd (s : State) : Host.Outcome State Fault Refusal :=
  match s.rcd.windowStart with
  | none => .next s
  | some t =>
    .next (if recorderRuns s && elapsed s t (msNs s.cfg.small.rateWindow) then
      writeSummaries s |> onRcd fun c => { c with counts := [], windowStart := some (t + msNs s.cfg.small.rateWindow) }
    else s)

/-- What keeps a limited period in force (R506): DAWN, SERVICE, an insulation test, a SYS_CAL, a recovery window. -/
def limitHolds (s : State) : Bool :=
  inDawn s || s.str.state = .service || s.iso.test.isSome || s.met.sysCal.isSome ||
    (match s.rcd.recoveryEnd with | some t => decide (s.tick.now + 50000 < t) | none => false)

/-- LIMITED_PERIOD_END: with no cause left, the limited period ends with its last summaries (R506). -/
def execLimitedPeriodEnd (s : State) : Host.Outcome State Fault Refusal :=
  if recorderRuns s && limited s && !(limitHolds s) then
    .next (writeSummaries s |> onRcd fun c => { c with counts := [], windowStart := none, recoveryEnd := none })
  else .next s

/-- FREEZE_LOG_MAX_ELAPSED: the freeze of the log has lasted `FREEZE_LOG_MAX` (R509 cause 2). -/
def execFreezeLogMaxElapsed (s : State) : Host.Outcome State Fault Refusal :=
  .next (if running s && s.rcd.freezeSession ≠ 0 && elapsed s s.rcd.freezeSince (secNs s.cfg.small.freezeMax) then thawLog 2 s else s)

/-- A session freezes the log: the open record closes and the log stands (R509). -/
def freezeLog (session : Nat) (s : State) : State :=
  closeOpen s |> onRcd (fun c => { c with freezeSession := session, freezeSince := s.tick.now }) |> log srcApp3 0x0F03 1 (u16 session)

/-- The sequence numbers between where the export stood and a record it reaches that the log no longer holds. -/
def gapsTo (next : Nat) : List Rec → Nat
  | [] => 0
  | r :: rs => (r.seq - next) + gapsTo (r.seq + 1) rs

/-- LOG_EXPORT_CHUNK: once per frame, while its ring has space and the operation runs, the export queues its next chunk
of up to 40 records, or ends OK after `TO_SEQ` (R510). -/
def execLogExportChunk (s : State) : Host.Outcome State Fault Refusal :=
  match s.rcd.export_, findOp s 6 with
  | some e, some o =>
    if !(recorderRuns s) || o.opState ≠ 0 || e.frame = some (s.tb.time / 1000000) || decide (64 ≤ (ringAt s (8 + (sessionIdx s o.session).getD 0)).fillPkts) then .next s
    else
      let all := recordsFrom s e.next 2097153
      let inR := all.filter fun r => decide (r.seq ≤ e.to_)
      let out := (inR.filter fun r => decide (e.minSev ≤ r.sev)).take 40
      match out.getLast? with
      | none =>
        let e1 := { e with skipped := e.skipped + gapsTo e.next inR }
        .next (s |> closeOp 6 stOk |> endOp 6 stOk e1.result |> log srcApp3 0x0F05 1 (u32 e1.sent ++ u32 e1.skipped))
      | some l =>
        let body := u32 e.chunk ++ u16 out.length ++ u16 0 ++ out.flatMap Rec.encode
        let e1 : Export := { e with
          frame := some (s.tb.time / 1000000), next := l.seq + 1, chunk := e.chunk + 1, sent := e.sent + out.length
          firstSent := e.firstSent.orElse fun _ => out.head?.map (·.seq), lastSent := some l.seq
          skipped := e.skipped + gapsTo e.next (inR.filter fun r => decide (r.seq ≤ l.seq)) }
        .next (s |> onRcd (fun c => { c with export_ := some e1 }) |> notify o.session 3 none body)
  | _, _ => .next s

end Sys2Proof.Machine
end

