-- ==== Sys2Proof/Machine/Objects.lean ====
section
/-! DEFINITION. The object maps: what a read of every object returns (R9, R49 and the object tables of each chapter),
the READ items of R445 and R446, the result slots of R451 and R453, and the windows of the tables. -/
namespace Sys2Proof.Machine

/-- What an object is made of (R445): elements of `elem` bytes read whole or by range; a window of at most `most` of
`total` entries; or a slot or blob with a read rule of its own. -/
inductive ObjView
  | plain (elem : Nat) (data : Bytes)
  | window (most total : Nat) (entry : Nat → Bytes)
  | special

/-- Elements as bytes. -/
def each {α : Type} (f : α → Bytes) (l : List α) : Bytes := l.flatMap f

/-- A number of elements, each formed from its index. -/
def eachN (n : Nat) (f : Nat → Bytes) : Bytes := (List.range n).flatMap f

/-- One element of `n` bytes. -/
def one (b : Bytes) : ObjView := .plain b.length b

/-- Measured values with their sentinels. -/
def oRat32 (o : Option Rat) : Bytes := i32 (optI 32 (o.map roundAway))
def o16 (o : Option Nat) : Bytes := u16 (optN 16 o)
def o32 (o : Option Nat) : Bytes := u32 (optN 32 o)

/-- Identities, sequence numbers and times with their sentinels; R8 clamps measured values only. -/
def id16 (o : Option Nat) : Bytes := u16 (rawN 16 o)
def id32 (o : Option Nat) : Bytes := u32 (rawN 32 o)
def o64 (o : Option Nat) : Bytes := u64 (rawN 64 o)

def oi16 (o : Option Int) : Bytes := i16 (optI 16 o)
def oi32 (o : Option Int) : Bytes := i32 (optI 32 o)
def oPct (o : Option Rat) : Bytes := u16 (match o with | none => 0xFFFF | some x => pct x)
def r32 (x : Rat) : Bytes := i32 (fitI 32 (roundAway x))

/-! ### Table entries (R226 to R230) -/

/-- A table header (R226). -/
def bankedHdr (g : Banked) : Bytes :=
  let two := fun (f : Bank → Bytes) => f g.b0 ++ f g.b1
  two (fun b => u8 b.st) ++ two (fun b => u8 (bitsOf b.hold)) ++ two (fun b => u16 b.seq) ++ two (fun b => u16 b.snapId)
    ++ two (fun b => i32 b.iStr) ++ two (fun b => u64 b.time) ++ u8 (optN 8 g.newest) ++ List.replicate 3 0

/-- The value of an entry in each bank. -/
def bankVals (g : Banked) (i : Nat) (f : Option Int → Bytes) : Bytes := f (g.b0.val i) ++ f (g.b1.val i)

/-- Capacity in mAh; the sentinel before any capacity stands. -/
def capField (c : Rat) : Bytes := u32 (if c ≤ 0 then 0xFFFFFFFF else mAh32 c)

/-- `SOH` of a cell (R251). -/
def cellSoh (s : State) (c : CellEntry) : Option Rat :=
  if capNom s = 0 || c.cap ≤ 0 then none else some (c.cap / capNom s)

/-- A cell entry (R227). Beyond the geometry, and before the share solver has first written the cell, its fields read their
sentinels (R12, R225, R241). -/
def cellEntryBytes (s : State) (i : Nat) : Bytes :=
  let x := nth {} s.tab.cells i
  let e := nth {} s.tab.poss (i / geoS s)
  bankVals s.tab.drop i oi16 ++ i16 (match x.ratio with | none => -32768 | some r => ratio16 r) ++ i16 (if x.solveSeq.isNone then -32768 else ratio16 x.filt) ++ oi32 x.iCell
    ++ u16 (if i < s.tab.cells.length then q15 x.g else 0xFFFF) ++ u16 (cellFlags x) ++ u8 (min x.lowCnt 255) ++ u8 (min x.probCnt 255) ++ u16 x.weakCnt ++ id16 x.solveSeq
    ++ oPct (cellSocRep e x) ++ i64 (match x.soc with | none => -(2 ^ 63) | some c => roundAway (c * x.cap)) ++ capField x.cap
    ++ (if x.r ≤ 0 then i32 (-2147483648) else i32 (uOhm32 x.r)) ++ oPct (cellSoh s x) ++ oi16 x.tInt
    ++ oPct (x.soc.map fun _ => sqrtR x.var) ++ u16 x.fl.word ++ estStateBytes 16 (cellState x)

/-- A position entry (R229), with the sentinels of a cell entry. A LOST mark of the journal fixes `CAP_FACTOR` before the
first solve (R274). -/
def posEntryBytes (s : State) (p : Nat) : Bytes :=
  let e := nth {} s.tab.poss p
  let n := geoS s
  bankVals s.tab.volt p (fun v => o16 (v.map Int.toNat)) ++ oi32 e.iPos ++ u16 (if p < s.tab.poss.length then q15 e.k else 0xFFFF) ++ u16 (posFlags e) ++ u8 e.lostN ++ u8 e.weakN
    ++ u16 (if n = 0 || (e.solveSeq.isNone && e.lostN = 0) then 0xFFFF else pct (((n - e.lostN : Nat) : Rat) / n))
    ++ i16 (match e.shareMax with | none => -32768 | some r => ratio16 r) ++ u16 (if e.shareMax.isNone then 0xFFFF else pct e.derate) ++ u8 (min e.inconsCnt 255) ++ u8 (min e.consCnt 255)
    ++ id16 e.solveSeq ++ oPct e.socRep ++ oPct (e.soc.map fun _ => posSigma e)
    ++ i64 (match posQ e with | none => -(2 ^ 63) | some q => roundAway q) ++ capField e.cap
    ++ (if e.rRef ≤ 0 then i32 (-2147483648) else i32 (uOhm32 (rPosAt s (estT s p e) e)))
    ++ (if e.cap ≤ 0 then u16 0xFFFF else oPct (some (posSoh s e))) ++ oi16 e.tInt ++ u16 (match e.ocv with | none => 0xFFFF | some v => ratN 16 (v / 100))
    ++ u16 e.fl.word ++ estStateBytes 12 (posState e)

/-- A temperature entry (R230): `T` is the sentinel where the sensor is not fitted or stale. -/
def tempEntryBytes (s : State) (i : Nat) : Bytes :=
  let t := nth {} s.tab.temps i
  bankVals s.tab.temp i (fun v => oi16 (if t.fitted && !t.stale then v else none)) ++ u8 (tFlags t) ++ u8 (optN 8 t.band) ++ id16 (tempAge s t)

/-! ### Other records of the maps -/

/-- A loop-slot record (R305). -/
def slotBytes (r : SlotRec) : Bytes :=
  u8 r.mode ++ u8 r.ffSel ++ u8 r.ioIn ++ u8 r.ioOut ++ i32 r.ki ++ i32 r.ai ++ i32 r.kp ++ i32 r.kd ++ i32 r.ad ++ i32 r.kff
    ++ i32 r.yMax ++ i32 r.yMin ++ u8 r.shKi ++ u8 r.shAi ++ u8 r.shKp ++ u8 r.shKd ++ u8 r.shAd ++ u8 r.shKff ++ u16 0
    ++ u32 r.ramp ++ u32 r.deadband ++ u16 r.rate ++ List.replicate 10 0

/-- `IRQ_SRC_STATE` of a source (R484). -/
def irqStateBytes (s : State) (i : Nat) : Bytes :=
  let x := nth {} s.irq.srcs i
  let tgt := fld x.cfg 27 25
  u8 x.cnt ++ u8 (bitsOf [x.isPending i, x.deliverable i, decide (selection s tgt = some i), x.latch.isSome]) ++ u16 0 ++ u32 (x.latch.getD 0)

/-- `IRQ_TARGET` of a target (R484). -/
def irqTargetWord (s : State) (t : Nat) : Nat :=
  let g := nth {} s.irq.tgts t
  let sel := selection s t
  g.threshold % 8 + 8 * b2n sel.isSome + 16 * b2n (decide (1 ≤ s.lad.rung)) + 32 * min 8 g.claims.length + 65536 * sel.getD 0x3FF

/-- `RING_STATE` of a ring (R497). -/
def ringBytes (s : State) (n : Nat) : Bytes :=
  let r := ringAt s n
  u32 r.base ++ toLe 4 r.cfg.toNat ++ u32 r.wr ++ u32 r.wrShadow ++ u32 r.rd ++ u32 r.pktWr ++ u32 r.pktRd ++ u16 (ringFlags r) ++ u16 0

/-- A defect-map entry (R524). -/
def defectBytes (d : Defect) : Bytes := u8 d.kind ++ u8 d.st ++ u16 d.unit ++ u32 d.addr ++ u64 d.time

/-- A `SESSION_TABLE` entry (R461). -/
def sessionBytes (s : State) (i : Nat) : Bytes :=
  match nth none s.host.sessions i with
  | none => List.replicate 16 0
  | some x => u8 x.state ++ u8 x.slot ++ u8 x.port ++ u8 0 ++ u32 x.addr ++ u16 x.udp ++ u8 x.subs.length ++ u8 x.minSev
      ++ u32 (sinceNs s x.lastFrame / 1000000)

/-- Bulk buffer 1 or 2, the number of bytes written and the length of the written prefix (R449). -/
def bulkOf (s : State) (t : Nat) : Bulk := if t = 1 then s.host.bulk1 else s.host.bulk2
def bulkHas (b : Bulk) (i : Nat) : Bool := b.data.any fun x => x.1 = i
def prefixGo (b : Bulk) : Nat → Nat → Nat
  | 0, i => i
  | f + 1, i => if bulkHas b i then prefixGo b f (i + 1) else i
def bulkBytes (s : State) (t : Nat) : Bytes :=
  let b := bulkOf s t
  u16 b.owner ++ u16 0 ++ u32 b.data.length ++ u32 (prefixGo b b.data.length 0)
    ++ u32 (if b.owner = 0 then 0 else sinceNs s b.last / 1000000)

/-- An `UPD_SLOT` entry (R554). -/
def updSlotBytes (s : State) (k : Nat) : Bytes :=
  let f := fwSlot s k
  u8 f.st ++ u8 f.trialDawns ++ u16 f.man.secVer ++ u32 f.man.fwVersion ++ u64 f.installTime

/-- Pieces of a transfer, and the seconds left of a trial (R545, R547). -/
def Staging.total (x : Staging) : Nat := x.xferLen / 1024
def confirmLeft (s : State) : Option Nat :=
  s.upd.confirmFrom.map fun t => (600000 - min 600000 (sinceNs s t / 1000000)) / 1000

/-- Oldest age of a kind of scanned value, ms, from the clocks that run (R212, R222). -/
def setAge (s : State) (clocks : List (Option Nat)) : Option Nat :=
  clocks.foldl (fun a o =>
    match o with
    | none => a
    | some t => some (max (a.getD 0) (sinceNs s t / 1000000))) none

/-- Lost cells in index order. -/
def lostList (s : State) : List Nat :=
  (mapI (fun i (c : CellEntry) => if c.lost then some i else none) s.tab.cells).filterMap fun o => o

/-- The impedance point of a position at a tone index (R299). -/
def zPoint (s : State) (tone p : Nat) : ZPoint :=
  let f := nth 0 s.imp.freqs tone
  match s.imp.points.find? fun z => z.pos = p && z.tone = f && f ≠ 0 with
  | some z => z
  | none => { pos := p, tone := f }

/-- Records of a severity held. -/
def countSev (s : State) (v : Nat) : Nat := ((heldRecords s).filter fun r => r.sev = v).length

/-- The `IP_ADDR` bytes (R461). -/
def ipBytes (s : State) : Bytes :=
  let up := match s.dawn.step with | some k => decide (9 ≤ k) | none => true
  if up then eachN 2 fun i => if bitAt s.cfg.net.hostPorts i then u32 (nth 0 s.cfg.net.ip i) else u32 0
  else List.replicate 8 0xFF

/-- Ordering code. -/
def identCode : Bytes := fixLen 16 [0x4B, 0x56, 0x2D, 0x53, 0x43, 0x36, 0x34, 0x30]

/-- Frame means of SAR channels. -/
def sarMean (s : State) (k : Nat) : Option Rat := (sarAt s k).mean

/-! ### The objects -/

/-- Group 0: state, Dawn, identity, host (R49, R152, R461). -/
def viewGroup0 (s : State) (id : Nat) : Option ObjView :=
  match id with
  | 0x0000 => some (.plain 1 identCode)
  | 0x0001 => some (one (u32 s.idn.serial))
  | 0x0002 => some (one (u16 s.idn.hwRev))
  | 0x0003 => some (one (u32 s.idn.fwVersion))
  | 0x0004 => some (one (u16 1))
  | 0x0005 => some (.plain 1 (fixLen 12 s.idn.mac))
  | 0x0006 => some (.plain 1 (ipBytes s))
  | 0x0007 => some (one (u32 s.idn.dawnCnt))
  | 0x0010 => some (one (u8 s.str.state.code))
  | 0x0011 => some (one (u8 (roleCode s)))
  | 0x0012 => some (one (u16 s.str.cause))
  | 0x0013 => some (one (u64 s.str.entryTime))
  | 0x0014 => some (one (u8 (match s.str.stopTarget with | some t => t.code | none => 0xFF)))
  | 0x0015 => some (one (u16 (stateFlags s)))
  | 0x0016 => some (one (u32 (twLeft s / 1000000000)))
  | 0x0020 => some (one (u8 s.dawn.reason))
  | 0x0021 => some (one (u8 (optN 8 s.dawn.step)))
  | 0x0022 => some (one (o32 s.dawn.duration))
  | 0x0023 => some (one (u16 s.dawn.fail))
  | 0x0024 => some (one (u16 (configStatus s)))
  | 0x0025 => some (one (id32 s.dawn.imageSeq))
  | 0x0026 => some (one (id32 s.dawn.stringId))
  | 0x0027 => some (one (id16 s.dawn.digest))
  | 0x0028 => some (one (id16 s.dawn.sealSw))
  | 0x0029 => some (one (id32 s.dawn.imageLen))
  | 0x002A => some (one (o64 s.dawn.buildTime))
  | 0x0040 => some (.window 8 8 (sessionBytes s))
  | 0x0041 => some (.plain 4 (each u32 s.host.cnt))
  | 0x0042 => some (.window 2 2 fun i => bulkBytes s (i + 1))
  | 0x0050 => some (.plain 2 (fixLen 32 (each (fun o => u16 o.handle) (s.ops.ops.take 16))))
  | 0x0052 => some .special
  | _ => none

/-- Group 1: metrology and Skaley link (R188, R222, R461). -/
def viewGroup1 (s : State) (id : Nat) : Option ObjView :=
  match id with
  | 0x1000 => some (one (oRat32 (dsMeanMa s (if s.met.srcDs1 then 1 else 0))))
  | 0x1001 => some (one (oRat32 (dsMeanMa s 0)))
  | 0x1002 => some (one (oRat32 (dsMeanMa s 1)))
  | 0x1003 => some (one (oRat32 (vStr s)))
  | 0x1004 => some (one (oRat32 (vBus s)))
  | 0x1005 => some (one (oi32 (nth none s.met.vPe 0)))
  | 0x1006 => some (one (oi32 (nth none s.met.vPe 1)))
  | 0x1007 => some (.plain 4 (eachN 3 fun k => oRat32 ((sarMean s k).map (sarMa s k))))
  | 0x1008 => some (one (oRat32 ((sarMean s 3).map sarVolt)))
  | 0x1009 => some (one (oi16 s.met.tShunt))
  | 0x100A => some (.plain 2 (each oi16 s.met.tNtc))
  | 0x1010 => some (one (i64 s.met.coulomb))
  | 0x1011 => some (one (i64 s.met.chargeIn))
  | 0x1012 => some (one (i64 s.met.chargeOut))
  | 0x1013 => some (one (u16 (coulombStatus s)))
  | 0x1020 => some (.plain 2 (eachN 8 fun n => u16 (chStatus s n)))
  | 0x1021 => some (.plain 2 (eachN 8 fun n => u16 (dsAt s n).postL))
  | 0x1022 => some (one (u16 (refStatus s)))
  | 0x1023 => some (.plain 2 (each (fun c => u16 (sarStatus c)) s.met.sar))
  | 0x1024 => some (.plain 2 (each (fun c => u16 c.overruns) s.met.sar))
  | 0x1025 => some (one (u8 (ds7Code s)))
  | 0x1030 => some (.plain 2 (each o16 s.met.hkRaw))
  | 0x1040 => some (.plain 4 (each (fun c => i32 c.offset) s.met.cal))
  | 0x1041 => some (.plain 4 (each (fun c => u32 c.gain) s.met.cal))
  | 0x1042 => some (.plain 8 (each (fun c => o64 c.made) s.met.cal))
  | 0x1043 => some (.plain 4 (each oi32 s.met.calPendO))
  | 0x1044 => some (.plain 4 (each o32 s.met.calPendG))
  | 0x1045 => some (one (u8 (match s.met.sysCal with | some c => c.step | none => 0)))
  | 0x1050 => some .special
  | 0x1100 => some (one (u8 s.skl.ring.code))
  | 0x1101 => some (.plain 1 (u8 (optN 8 s.skl.breakA) ++ u8 (optN 8 s.skl.breakB)))
  | 0x1102 => some (.plain 1 (each (fun m => u8 m.state.code) s.skl.mons))
  | 0x1103 => some (.plain 2 (each (fun m => u16 (monFlags m)) s.skl.mons))
  | 0x1104 => some (.plain 4 (each (fun m => id32 m.serial) s.skl.mons))
  | 0x1105 => some (.plain 2 (each (fun m => o16 m.delayA ++ o16 m.delayB) s.skl.mons))
  | 0x1106 => some (one (id16 s.skl.snapId))
  | 0x1107 => some (.plain 4 (o32 (setAge s (s.tab.poss.map (·.vAt))) ++ o32 (setAge s (s.tab.cells.map (·.dAt))) ++ o32 (setAge s (s.tab.temps.map (·.tAt)))))
  | 0x1108 => some (.plain 4 (u32 s.skl.crcA ++ u32 s.skl.crcB))
  | 0x1109 => some (one (u32 s.skl.blockCrc))
  | 0x110A => some (one (u32 s.skl.mismatch))
  | 0x110B => some (one (u32 s.skl.retries))
  | 0x110C => some (.plain 4 (each u32 s.skl.skip))
  | _ => none

/-- Groups 2 and 3: tables, estimation, journal, impedance (R241, R276, R298). -/
def viewGroup23 (s : State) (id : Nat) : Option ObjView :=
  match id with
  | 0x2000 => some (.window 64 16384 (cellEntryBytes s))
  | 0x2001 => some (.window 64 640 (posEntryBytes s))
  | 0x2002 => some (.window 256 5120 (tempEntryBytes s))
  | 0x2003 => some (.plain 1 (bankedHdr s.tab.volt ++ bankedHdr s.tab.drop ++ bankedHdr s.tab.temp))
  | 0x2010 => some (one (u16 (pct s.tab.shareDerate)))
  | 0x2011 => some (one (id16 s.tab.worstPos))
  | 0x2012 => some (one (u16 (lostList s).length))
  | 0x2013 => some (.plain 2 (eachN 64 fun i => u16 (nth 0xFFFF (lostList s) i)))
  | 0x2014 => some (one (u16 (s.tab.cells.filter (·.weak)).length))
  | 0x2015 => some (one (id16 s.tab.solveSeq))
  | 0x2016 => some (one (o64 s.tab.solveTime))
  | 0x2017 => some (.plain 4 (u32 s.tab.counted ++ u32 s.tab.leftOut ++ u32 s.tab.inconsistent))
  | 0x3000 => some (one (u8 s.est.mode.code))
  | 0x3001 => some (one (u16 (estStatus s)))
  | 0x3002 => some (one (oPct s.est.socStr))
  | 0x3003 => some (one (oPct s.est.sigmaMax))
  | 0x3004 => some (one (match s.est.socStr with | some _ => u32 (mAh32 (capStr s)) | none => u32 0xFFFFFFFF))
  | 0x3005 => some (one (oPct s.est.sohStr))
  | 0x3006 => some (one (u32 (match s.est.eRemain with | some e => ratN 32 (e / 3600000000000000) | none => 0xFFFFFFFF)))
  | 0x3007 => some (one (id16 s.est.minPos))
  | 0x3008 => some (one (id16 s.est.maxPos))
  | 0x3009 => some (one (u16 (estFactor s)))
  | 0x300A => some (one (oRat32 s.est.disLimit))
  | 0x300B => some (one (u16 (s.tab.poss.filter (·.fl.chargeDisagree)).length))
  | 0x300C => some (one (u16 (s.tab.poss.filter (·.fl.learnDue)).length))
  | 0x300D => some (.plain 2 (eachN 640 fun p =>
      let e := nth {} s.tab.poss p
      u16 (if e.rInit ≤ 0 then 0xFFFF else pct (e.rRef / e.rInit))))
  | 0x3010 => some (one (u8 (optN 8 s.est.restoreResult)))
  | 0x3011 => some .special
  | 0x3012 => some (.plain 8 (eachN 2 fun i => o64 ((s.est.blobs[i]?).map (·.seq))))
  | 0x3020 => some (one (u8 (match s.est.learn with | some l => l.phase | none => 0)))
  | 0x3021 => some (one (i64 s.est.learnDq))
  | 0x3022 => some (one (u8 s.est.learnAbort))
  | 0x3023 => some (one (o64 s.est.learnTime))
  | 0x3030 => some (one (u32 s.jrn.jseq))
  | 0x3031 => some (one (u8 s.jrn.active))
  | 0x3032 => some (one (u32 (slotFree (slotRecs s.jrn s.jrn.active))))
  | 0x3040 => some (one (u8 (match s.imp.sweep with | some w => w.st | none => 0)))
  | 0x3041 => some (one (u8 (optN 8 s.imp.plan)))
  | 0x3042 => some (one (u8 (match s.imp.sweep with | some w => w.block | none => 0xFF)))
  | 0x3043 => some (one (o64 s.imp.lastTime))
  | 0x3044 => some (.plain 4 (eachN 8 fun i => u32 (nth 0 s.imp.freqs i)))
  | 0x3045 => some (.plain 4 (each (fun o => oRat32 (o.map (·.1)) ++ oRat32 (o.map (·.2))) s.imp.iExc))
  | 0x3046 => some .special
  | 0x3047 => some .special
  | 0x3048 => some .special
  | 0x3049 => some (one (o64 s.imp.nextAuto))
  | 0x304A => some (.plain 4 (u32 s.imp.retryCnt ++ u32 s.imp.skipCnt))
  | _ => none

/-- Group 4: dispatch and converter (R331, R349). -/
def viewGroup4 (s : State) (id : Nat) : Option ObjView :=
  let d := s.dsp
  let c := s.cnv
  match id with
  | 0x4000 => some (one (i32 d.target))
  | 0x4001 => some (one (o64 d.targetTime))
  | 0x4002 => some (one (r32 d.refNow))
  | 0x4003 => some (one (u16 (dispFlags s)))
  | 0x4004 => some (.plain 4 (r32 d.chg.e2 ++ r32 d.chg.e30 ++ r32 d.chg.ec))
  | 0x4005 => some (.plain 4 (r32 d.dis.e2 ++ r32 d.dis.e30 ++ r32 d.dis.ec))
  | 0x4006 => some (.plain 4 (r32 d.appChg ++ r32 d.appDis))
  | 0x4007 => some (.plain 2 (u16 (pct d.n30) ++ u16 (pct d.n2)))
  | 0x4008 => some (.plain 1 (u8 (optN 8 d.limChg) ++ u8 (optN 8 d.limDis)))
  | 0x4009 => some (one (u8 d.timed.length))
  | 0x400A => some (one (u32 d.overload))
  | 0x400B => some (one (u32 d.limitedFrames))
  | 0x4100 => some (one (u8 (convState s)))
  | 0x4101 => some (one (u8 (match c.mode with | some m => m.code | none => 0xFF)))
  | 0x4102 => some (.plain 1 (each (fun p => u8 p.st.code) c.phases))
  | 0x4103 => some (one (i32 c.iLimit))
  | 0x4104 => some (.plain 4 (each oi32 c.phaseRef))
  | 0x4105 => some (.plain 4 (each u32 c.dutyWord))
  | 0x4106 => some (.plain 2 (eachN 16 fun i => u16 (loopStatus s i)))
  | 0x4107 => some (.window 16 16 fun i => slotBytes (slotAt s i).live)
  | 0x4108 => some (one (u8 (optN 8 c.schedEntry)))
  | 0x4109 => some (one (u32 c.schedCnt))
  | 0x4110 => some (.plain 2 (each (fun p => u16 p.status) c.ports))
  | 0x4111 => some (.plain 2 (each (fun p => oi16 p.tDrv) c.ports))
  | 0x4112 => some (.plain 2 (each (fun p => o16 p.delay) c.ports))
  | 0x4113 => some (.plain 4 (each (fun p => u32 p.err) c.ports))
  | 0x4114 => some (.plain 1 (each (fun p => u8 (min p.desat 254)) c.phases))
  | 0x4115 => some (one (u8 (bitsOf c.fastTrip)))
  | _ => none

/-- Group 5: protection and insulation (R409). -/
def viewGroup5 (s : State) (id : Nat) : Option ObjView :=
  let p := s.prot
  let k := s.cont
  match id with
  | 0x5000 => some (.plain 1 (eachN 10 fun i => u8 (sfState s (i + 1))))
  | 0x5001 => some (.plain 4 (each u32 p.demandCnt))
  | 0x5002 => some (.plain 8 (each o64 p.lastDemand))
  | 0x5003 => some (.plain 2 (fixLen 32 (each (fun c => u16 c.code) (s.str.causes.take 16))))
  | 0x5004 => some (one (u16 (safetyIo s)))
  | 0x5005 => some (.plain 1 (u8 k.c0.state ++ u8 k.c1.state ++ u8 k.c2.state))
  | 0x5006 => some (.plain 2 (u16 k.c0.coilMa ++ u16 k.c1.coilMa ++ u16 k.c2.coilMa))
  | 0x5007 => some (.plain 4 (u32 k.ops0 ++ u32 k.ops1 ++ u32 k.ops2))
  | 0x5008 => some (.plain 4 (u32 k.breaks0 ++ u32 k.breaks1 ++ u32 k.breaks2))
  | 0x5009 => some (.plain 4 (i32 k.breakMax0 ++ i32 k.breakMax1 ++ i32 k.breakMax2))
  | 0x500A => some (one (u16 (if cont2 s = 0 then 0 else ratN 16 (p.theta / cont2 s * 10000))))
  | 0x500B => some (one (u32 p.stopCnt))
  | 0x500C => some (one (o32 p.stopLast))
  | 0x500D => some (one (u32 s.skl.stackDisagree))
  | 0x5010 => some (.plain 1 (each (fun t => u8 (min t.missed 254)) p.tests))
  | 0x5011 => some (.plain 8 (each (fun t => o64 t.lastPass) p.tests))
  | 0x5012 => some (.plain 4 (each (fun t => u32 t.aborts) p.tests))
  | 0x5020 => some (one (u32 (bitsOf p.twilight)))
  | 0x5021 => some (one (oRat32 p.lTw))
  | 0x5030 => some (one (o32 s.iso.r))
  | 0x5031 => some (one (u32 (kOhm s.iso.rPos)))
  | 0x5032 => some (one (u32 (kOhm s.iso.rNeg)))
  | 0x5033 => some (one (o32 s.iso.cPe))
  | 0x5034 => some (one (u16 (isoStatus s)))
  | 0x5035 => some (one (o32 (s.iso.resultAt.map fun t => sinceNs s t / 1000000)))
  | _ => none

/-- Group 6: balancing and thermal control (R371). -/
def viewGroup6 (s : State) (id : Nat) : Option ObjView :=
  let b := s.bal
  let t := s.thm
  match id with
  | 0x6000 => some (one (u8 (balState s)))
  | 0x6001 => some (one (u16 (balFlags s)))
  | 0x6002 => some (one (oPct b.socRef))
  | 0x6003 => some (.window 64 b.pos.length fun i => let x := nth {} b.pos i; i32 (if x.unresolved then -2147483648 else fitI 32 x.cur))
  | 0x6004 => some (.window 64 b.pos.length fun i => i32 (nth {} b.pos i).next)
  | 0x6005 => some (one (u16 (b.pos.filter fun x => x.cmd ≠ 0).length))
  | 0x6006 => some (.plain 1 (each u8 b.monStatus))
  | 0x6007 => some (.plain 2 (each oi16 b.tBal))
  | 0x6008 => some (one (o64 b.applyTime))
  | 0x6009 => let m := balMoved s; some (.plain 8 (i64 (b.chargeIn + m.1) ++ i64 (b.chargeOut + m.2)))
  | 0x600A => some (one (u8 b.result))
  | 0x6010 => some (one (oi16 t.tHot))
  | 0x6011 => some (one (id16 t.tHotIdx))
  | 0x6012 => some (one (oi16 t.tCold))
  | 0x6013 => some (one (id16 t.tColdIdx))
  | 0x6014 => some (one (u16 t.brokenCnt))
  | 0x6015 => some (one (oi16 t.coolSet))
  | 0x6016 => some (.plain 4 (each (fun x => oi32 x.input) t.slots))
  | 0x6017 => some (.plain 4 (each (fun x => oi32 x.ref) t.slots))
  | 0x6018 => some (.plain 4 (each (fun x => i32 x.out) t.slots))
  | 0x6019 => some (one (u8 (bitsOf (t.di.map (·.on)))))
  | 0x601A => some (.plain 2 (each (fun d => o16 d.flow) t.di))
  | 0x601B => some (one (u16 (thermFlags s)))
  | 0x601C => some (one (oi16 t.chTSupply))
  | 0x601D => some (one (u8 t.chFlags))
  | 0x601E => some (.plain 2 (eachN 7 fun i => i16 (nth 0 s.cfg.therm.edges i)))
  | _ => none

/-- Groups 7 to 9: pair, recorder, update (R432, R513, R554). -/
def viewGroup789 (s : State) (id : Nat) : Option ObjView :=
  let p := s.pair
  let r := s.rcd
  let u := s.upd
  match id with
  | 0x7000 => some (one (u8 (if s.cfg.accepted then s.cfg.small.member else 0xFF)))
  | 0x7001 => some (one (u8 p.partner.code))
  | 0x7002 => some (one (u16 (pairFlags s)))
  | 0x7003 => some (one (id32 p.serialSeen))
  | 0x7004 => some (one (u32 p.rxErr))
  | 0x7005 => some (one (u32 p.hbMissCnt))
  | 0x7006 => some (one (u32 p.imageCnt))
  | 0x7007 => some (one (o16 p.imageSegs))
  | 0x7008 => some (one (u32 p.cleanMs))
  | 0x7009 => some (one (u32 p.failoverCnt))
  | 0x700A => some (one (o64 p.failoverLast))
  | 0x700B => some (one (u32 p.failoverGap))
  | 0x700C => some (one (u8 (optN 8 p.failoverCause)))
  | 0x700D => some (one (u16 p.giveUpCause))
  | 0x8000 => some .special
  | 0x8001 => some (one (u16 (logStatus s)))
  | 0x8002 => some (one (u32 r.seq))
  | 0x8003 => some (.plain 4 (u32 (match r.shared with | x :: _ => x.seq | [] => 0) ++ u32 (match r.safety with | x :: _ => x.seq | [] => 0)))
  | 0x8004 => some (.plain 4 (eachN 4 fun v => u32 (countSev s v)))
  | 0x8005 => some (one (u32 r.dropCnt))
  | 0x8006 => some (one (u32 r.rateSuppr))
  | 0x8007 => some (one (u32 r.repeatFold))
  | 0x8008 => some (one (u32 r.crcCnt))
  | 0x8009 => some (one (u16 r.freezeSession))
  | 0x800A => some (one (u64 (operMs s)))
  | 0x9000 => some (one (u16 (updStatus s)))
  | 0x9001 => some (.window 2 2 (updSlotBytes s))
  | 0x9002 => some (one (u8 u.running))
  | 0x9003 => some (.plain 1 (u8 u.counter ++ u8 (bitsOf (u.keyHash.map (·.isSome)) % 16 + 16 * (u.revoked % 16))))
  | 0x9004 => some (.plain 1 (match u.staging with
      | some x => u32 x.updId ++ u32 x.xferLen ++ u16 x.pieces.length ++ u16 x.total ++ u8 x.passed.length ++ List.replicate 3 0
      | none => List.replicate 16 0))
  | 0x9005 => some (.plain 1 (match u.staging with
      | some x => eachN 1024 fun i => u8 (bitsOf ((List.range 8).map fun k => x.pieces.any fun q => q.1 = 8 * i + k))
      | none => List.replicate 1024 0))
  | 0x9006 => some (one (o32 (confirmLeft s)))
  | 0x9007 => some (.plain 1 (match u.lastReject with | some (a, b) => u8 a ++ u8 b | none => [0xFF, 0xFF]))
  | _ => none

/-- Groups 0xA to 0xD and 0xF: health, supplies, interrupts, rings, CAN, timebase, ladder. `TIME_NS` is the counter at a read
somewhere in the tick (R126, assumption 3). DESIGN CHOICE (assumption 32): `PTP_MEAN_PATH_DELAY` reads its sentinel until the
3 measurements are held that R110 asks for an offset. -/
def viewGroupAF (s : State) (id : Nat) : Option ObjView :=
  let h := s.hlth
  let w := s.pwr
  let t := s.tb
  let l := s.lad
  let both := fun (f : CanCtl → Bytes) => f s.can.c1 ++ f s.can.c2
  match id with
  | 0xA000 => some (.plain 2 (each oi16 h.die))
  | 0xA001 => some (one (oi16 h.dieMax))
  | 0xA002 => some (one (u8 (optN 8 h.band)))
  | 0xA003 => some (one (u8 (bitsOf h.broken)))
  | 0xA004 => some (.plain 4 (u32 h.eccCorr ++ u32 h.eccUnc))
  | 0xA005 => some (.plain 2 (each u16 h.spare))
  | 0xA006 => some (one (u16 h.map.length))
  | 0xA007 => some (.window 64 h.map.length fun i => match h.map[i]? with | some d => defectBytes d | none => [])
  | 0xA008 => some (one (u64 h.refreshLast))
  | 0xA040 => some (one (o16 w.auxVoltage))
  | 0xA041 => some (one (o16 w.auxPower))
  | 0xA042 => some (one (o16 w.holdupVoltage))
  | 0xA043 => some (one (o16 w.holdupCap))
  | 0xA044 => some (.plain 2 (each o16 w.railV))
  | 0xA045 => some (one (u16 (supplyFlags s)))
  | 0xA046 => some (one (u32 w.dipCnt))
  | 0xB000 => some (.window 192 192 fun i => let x := nth {} s.irq.srcs i; toLe 4 x.cfg.toNat ++ toLe 4 x.coal.toNat)
  | 0xB001 => some (.window 192 192 (irqStateBytes s))
  | 0xB002 => some (.plain 4 (eachN 6 fun i => u32 (irqTargetWord s i)))
  | 0xB003 => some (.plain 4 (each (fun g => u32 g.spurious) s.irq.tgts))
  | 0xB004 => some (.plain 4 (each (fun g => u32 g.wakes) s.irq.tgts))
  | 0xB005 => some (.plain 4 (each (fun g => u32 g.eoiErr) s.irq.tgts))
  | 0xB010 => some (.window 64 64 (ringBytes s))
  | 0xB011 => some (.plain 4 (each (fun r => u32 r.overrun) s.rings.rings))
  | 0xB012 => some (.plain 4 (each (fun r => u32 r.parity) s.rings.rings))
  | 0xB013 => some (.plain 4 (each (fun r => u32 r.poison) s.rings.rings))
  | 0xB014 => some (.plain 2 (each (fun r => u16 r.hwm) s.rings.rings))
  | 0xB015 => some (one (o32 s.rings.spare))
  | 0xC000 => some (.plain 2 (u16 (canStatus s 0) ++ u16 (canStatus s 1)))
  | 0xC001 => some (.plain 2 (both fun c => u16 c.tec))
  | 0xC002 => some (.plain 1 (both fun c => u8 (min c.recv 255)))
  | 0xC003 => some (.plain 1 (both fun c => each (fun m => u8 m.st.code) c.mbs))
  | 0xC004 => some (.plain 1 (both fun c => u8 (optN 8 c.tdcDelay)))
  | 0xC005 => some (.plain 4 (both fun c => u32 c.busOffCnt))
  | 0xC006 => some (.plain 4 (both fun c => u32 c.txCnt))
  | 0xC007 => some (.plain 4 (both fun c => u32 c.txReplaced))
  | 0xC008 => some (.plain 4 (both fun c => u32 c.rxCnt))
  | 0xC009 => some (.plain 4 (both fun c => u32 c.rxDiscard))
  | 0xC00A => some (.plain 4 (both fun c => u32 c.rxOverrun))
  | 0xD000 => some (one (u32 (counterNs (Config.readPhase s.fresh % 20000) s)))
  | 0xD001 => some (one (u64 t.time))
  | 0xD002 => some (one (u16 (timeStatus s false)))
  | 0xD003 => some (one (oi32 t.offset))
  | 0xD004 => some (one (o32 (if t.delays.length < 3 then none else (pathDelay s).map Int.toNat)))
  | 0xD005 => some (.plain 1 (match t.gm with | some g => fixLen 8 g.gmId | none => List.replicate 8 0xFF))
  | 0xD006 => some (one (i16 (match t.gm with | some g => if g.utcValid then g.utcOffset else -32768 | none => -32768)))
  | 0xD007 => some (one (i32 t.freqAdj))
  | 0xD008 => some (one (u64 s.tick.ticks))
  | 0xD009 => some (one (u32 t.stepCnt))
  | 0xD00A => some (one (u32 t.discardCnt))
  | 0xD00B => some (one (u32 t.stampLost))
  | 0xD00C => some (one (u32 t.launchLate))
  | 0xD00D => some (one (u32 t.launchDrop))
  | 0xD00E => some (one (u32 t.unsynced))
  | 0xF000 => some (one (u8 l.rung))
  | 0xF001 => some (one (u8 l.wakeCause))
  | 0xF002 => some (one (u16 (resetStatus s)))
  | 0xF003 => some (.plain 4 (each u32 l.pressCnt))
  | 0xF004 => some (.plain 1 (match l.freezeLast with
      | some f => u64 f.time ++ u8 f.trigger ++ u8 f.state ++ u8 (b2n f.forced) ++ u8 f.role ++ u32 0
      | none => List.replicate 16 0xFF))
  | 0xF005 => some (.plain 8 (each u64 (updAt (· + sinceNs s l.rungSince / 1000000) l.rungTime l.rung)))
  | _ => none

/-- The view of an object ID; none where the ID does not exist (R445). -/
def objView (s : State) (obj : Nat) : Option ObjView :=
  match obj / 4096 with
  | 0 => viewGroup0 s obj
  | 1 => viewGroup1 s obj
  | 2 => viewGroup23 s obj
  | 3 => viewGroup23 s obj
  | 4 => viewGroup4 s obj
  | 5 => viewGroup5 s obj
  | 6 => viewGroup6 s obj
  | 7 => viewGroup789 s obj
  | 8 => viewGroup789 s obj
  | 9 => viewGroup789 s obj
  | _ => viewGroupAF s obj

/-! ### READ items (R445, R446, R451) -/

/-- One item of a READ. -/
structure ReadItem where
  obj  : Nat
  form : Nat
  a    : Nat
  b    : Nat
  c    : Nat
  deriving DecidableEq, Repr

/-- What an item returns: its status, `RFLAGS` and data. -/
structure ItemAns where
  status : Nat
  rflags : Nat := 0
  data   : Bytes := []
  deriving DecidableEq, Repr

/-- Entries `a` to `a + b − 1` of a window of at most `most` of `total`; `C`, which R445 gives as 0 here, is ignored (R10). -/
def windowItem (most total : Nat) (entry : Nat → Bytes) (i : ReadItem) : ItemAns :=
  if i.form ≠ 1 || i.b = 0 || decide (most < i.b) || decide (total < i.a + i.b) then { status := stRange }
  else { status := stOk, data := eachN i.b fun k => entry (i.a + k) }

/-- A result slot (R453). -/
def opBytes (o : Op) : Bytes :=
  u16 o.handle ++ u8 o.kind ++ u8 o.opState ++ u32 o.seq ++ u8 (optN 8 o.final) ++ u8 0 ++ u16 (min o.progress 10000) ++ u64 o.start ++ o64 o.stop
    ++ fixLen 36 o.result

/-- Read of `OP_RESULT` (R445, R451, R453): form 1 names a handle, and one not in use is UNKNOWN before any RANGE (R14). -/
def opItem (s : State) (i : ReadItem) : ItemAns :=
  if i.form ≠ 1 then { status := stRange }
  else match s.ops.ops.find? fun o => o.handle = i.a with
    | none => { status := stUnknown }
    | some o =>
      if i.b ≠ 1 then { status := stRange }
      else if o.ready then
        let st := o.final.getD stOk
        { status := st, rflags := 1, data := if st = stOk then opBytes o else [] }
      else { status := if o.opState = 1 then stSuspended else stNotReady, rflags := 2, data := opBytes o }

/-- `CAPTURE_RESULT` (R461). -/
def captureBytes (c : CaptureResult) : Bytes :=
  u32 c.seq ++ u8 (b2n c.ready) ++ u8 c.leader ++ u8 c.follower ++ u8 c.input ++ o32 c.samples ++ o32 c.gaps ++ u8 58 ++ List.replicate 3 0 ++ o64 c.start ++ u32 0

/-- Read of `CAPTURE_RESULT` (R451): a capture ended before its samples were complete was CANCELLED. -/
def captureItem (s : State) (i : ReadItem) : ItemAns :=
  let c := s.host.capture
  if i.form ≠ 0 then { status := stRange }
  else if !c.exists_ then { status := stNotReady, rflags := 2, data := captureBytes {} }
  else if c.ready then
    if c.samples.isSome then { status := stOk, rflags := 1, data := captureBytes c } else { status := stCancelled, rflags := 1 }
  else { status := stNotReady, rflags := 2, data := captureBytes c }

/-- Read of `EST_SNAPSHOT`: up to 1,024 bytes of a blob held from an offset (R276, R445). -/
def blobItem (s : State) (i : ReadItem) : ItemAns :=
  if i.form ≠ 2 then { status := stRange }
  else match s.est.blobs.find? fun b => b.seq = i.a + 4294967296 * i.b with
    | none => { status := stUnknown }
    | some b => if b.bytes.length ≤ i.c then { status := stRange } else { status := stOk, data := (b.bytes.drop i.c).take 1024 }

/-- Read of `LOG_WINDOW` (R508). -/
def logItem (s : State) (i : ReadItem) : ItemAns :=
  if i.form ≠ 1 || i.b = 0 || decide (64 < i.b) then { status := stRange }
  else { status := stOk, data := each Rec.encode (recordsFrom s i.a i.b) }

/-- Read of `Z_POS`, `Z_CELL_EQ` or `Z_FLAGS` for one tone (R298, R445). -/
def zItem (s : State) (f : ZPoint → Bytes) (i : ReadItem) : ItemAns :=
  if 8 ≤ i.c then { status := stRange }
  else windowItem 64 s.tab.poss.length (fun p => f (zPoint s i.c p)) i

/-- Objects whose At Dawn entry reads "Not readable" (R276, R444, R461). -/
def notReadable (obj : Nat) : Bool := obj = 0x0052 || obj = 0x1050 || obj = 0x3011

/-- Reads with a rule of their own. -/
def specialItem (s : State) (i : ReadItem) : ItemAns :=
  match i.obj with
  | 0x0052 => opItem s i
  | 0x1050 => captureItem s i
  | 0x3011 => blobItem s i
  | 0x3046 => zItem s (fun z => oRat32 z.zRe ++ oRat32 z.zIm) i
  | 0x3047 => zItem s (fun z => oRat32 z.cRe ++ oRat32 z.cIm) i
  | 0x3048 => zItem s (fun z => u8 (zFlags z)) i
  | 0x8000 => logItem s i
  | _ => { status := stUnknown }

/-- The answer to an item by what its object is made of. -/
def viewItem (s : State) (i : ReadItem) : ItemAns :=
  match objView s i.obj with
  | none => { status := stUnknown }
  | some .special => specialItem s i
  | some (.window most total entry) => windowItem most total entry i
  | some (.plain elem data) =>
    if i.form = 0 then { status := stOk, data := data }
    else if i.form = 1 && decide (elem < data.length) && i.b ≠ 0 && decide ((i.a + i.b) * elem ≤ data.length) then
      { status := stOk, data := (data.drop (i.a * elem)).take (i.b * elem) }
    else { status := stRange }

/-- A group is open to reads without a session: its bit of `READ_OPEN`, of which bit 0xE is ignored (R11, R436, R444). -/
def groupOpen (s : State) (g : Nat) : Bool := g ≠ 0xE && bitAt s.cfg.net.readOpen g

/-- One item, judged alone (R444, R445): an open read serves open groups only, and an object that is not readable in
DAWN returns STATE there, unless UNKNOWN or RANGE applies first (R14). -/
def readItem (s : State) (openRead : Bool) (i : ReadItem) : ItemAns :=
  if openRead && !(groupOpen s (i.obj / 4096)) then { status := stAuth }
  else
    let a := viewItem s i
    if a.status = stUnknown || a.status = stRange then a
    else if notReadable i.obj && inDawn s then { status := stState }
    else a

/-- Data padded to whole words. -/
def pad4 (b : Bytes) : Bytes := fixLen ((b.length + 3) / 4 * 4) b

/-- Item header and data (R446). -/
def itemBytes (i : ReadItem) (r : ItemAns) : Bytes :=
  u16 i.obj ++ u8 r.status ++ u8 r.rflags ++ u16 r.data.length ++ u16 0 ++ pad4 r.data

/-- The items of a READ (R445), reserved bytes ignored (R10): none where the argument bytes do not hold `N` items. -/
def parseItems (b : Bytes) : Option (List ReadItem) :=
  let n := getN b 0 1
  if n = 0 || decide (32 < n) || b.length ≠ 4 + 16 * n then none
  else some ((List.range n).map fun k =>
    let o := 4 + 16 * k
    { obj := getN b o 2, form := getN b (o + 2) 1, a := getN b (o + 4) 4, b := getN b (o + 8) 4, c := getN b (o + 12) 4 })

/-- A READ: its status, and its payload (R445, R446). -/
def readAnswer (s : State) (openRead : Bool) (args : Bytes) : Nat × Bytes :=
  match parseItems args with
  | none => (stRange, [])
  | some is =>
    let as := is.map fun i => (i, readItem s openRead i)
    let body := as.flatMap fun x => itemBytes x.1 x.2
    if 8192 < body.length then (stRange, [])
    else (as.foldl (fun st x => firstStatus st x.2.status) stOk, body)

/-- An object read whole in at most 256 bytes, for a subscription (R454). -/
def wholeSize (s : State) (obj : Nat) : Option Nat :=
  match viewItem s { obj := obj, form := 0, a := 0, b := 0, c := 0 } with
  | { status := st, data := d, .. } => if st = stUnknown || st = stRange then none else some d.length

/-! ### Modbus registers (R459) -/

/-- A value as `n` registers, the high word first. -/
def toRegs (n v : Nat) : List Nat := (List.range n).map fun k => v / 65536 ^ (n - 1 - k) % 65536

/-- An object's element as registers. -/
def objRegs (s : State) (n obj off size : Nat) : List Nat :=
  toRegs n (getN (viewItem s { obj := obj, form := 0, a := 0, b := 0, c := 0 }).data off size)

/-- Registers 0 to 43. -/
def modbusRegs (s : State) : List Nat :=
  objRegs s 1 0x0010 0 1 ++ objRegs s 1 0x0011 0 1 ++ objRegs s 1 0x0012 0 2 ++ objRegs s 1 0x0015 0 2
    ++ objRegs s 2 0x1000 0 4 ++ objRegs s 2 0x1003 0 4 ++ objRegs s 2 0x1004 0 4
    ++ objRegs s 1 0x3002 0 2 ++ objRegs s 1 0x3003 0 2 ++ objRegs s 1 0x3005 0 2 ++ objRegs s 2 0x3004 0 4 ++ objRegs s 2 0x3006 0 4
    ++ objRegs s 2 0x4006 0 4 ++ objRegs s 2 0x4006 4 4 ++ objRegs s 2 0x4002 0 4 ++ objRegs s 1 0x4003 0 2
    ++ objRegs s 1 0x4008 0 1 ++ objRegs s 1 0x4008 1 1 ++ objRegs s 2 0x5020 0 4 ++ objRegs s 2 0x5030 0 4 ++ objRegs s 1 0x5034 0 2
    ++ objRegs s 1 0x6010 0 2 ++ objRegs s 1 0x6012 0 2 ++ objRegs s 1 0xD002 0 2 ++ objRegs s 1 0x3000 0 1
    ++ objRegs s 1 0x2012 0 2 ++ objRegs s 1 0x2014 0 2 ++ objRegs s 1 0x5004 0 2 ++ objRegs s 2 0x0016 0 4 ++ objRegs s 4 0xD001 0 8

end Sys2Proof.Machine
end

