-- ==== Sys2Proof/Machine/Mirror.lean ====
section
/-! DEFINITION. The mirror stream (R415 to R419): the frames an owner sends, and what a standby takes from each of them
into its own state. -/
namespace Sys2Proof.Machine

/-! ### Frames (R415) -/

/-- A mirror frame as received. -/
structure MirrorRx where
  mtype   : Nat
  sender  : Nat
  format  : Nat
  seq     : Nat
  mtick   : Nat
  role    : Nat
  state   : Nat
  payload : Bytes
  deriving DecidableEq, Repr

/-- A frame with good length and `MCRC`. -/
def parseMirror (b : Bytes) : Option MirrorRx :=
  let n := getN b 16 2
  if b.length < 24 || 1452 < n || b.length < 24 + n || getN b (20 + n) 4 ≠ crc32c (b.take (20 + n)) then none
  else some { mtype := getN b 0 1, sender := getN b 1 1, format := getN b 2 2, seq := getN b 4 4, mtick := getN b 8 8
              role := getN b 18 1, state := getN b 19 1, payload := slice b 20 n }

/-- The pair link works: the pair is configured, the link is up, the module runs and has reached step D8. -/
def pairOn (s : State) : Bool :=
  s.cfg.safety.pair && s.pins.sfpUp && running s && (match s.str.state, s.dawn.step with | .dawn, some k => decide (8 ≤ k) | _, _ => true)

/-- The owner sends its stream: ACTIVE with a partner whose address is known. -/
def mirrorOn (s : State) : Bool := pairOn s && s.str.role = some .active && s.pair.partnerMac.isSome

/-! ### HEARTBEAT (R417) -/

/-- The words sent to a leg. -/
def hbDuty (s : State) (n : Nat) : Nat :=
  let p := portAt s n
  p.duty % 16777216 + (if nth .dark s.pins.gate n = .run then 0 else 1073741824) + (if p.holdOn then 2147483648 else 0)

/-- The HEARTBEAT payload. -/
def heartbeatPayload (s : State) : Bytes :=
  let ph := fun (k : Nat) => (phaseAt s k).st
  u8 s.tick.j ++ u8 (bitsOf [!s.pair.localFault, s.pair.localFault, s.pair.handoverPending])
    ++ u8 (match s.cnv.mode with | some m => m.code | none => 0xFF)
    ++ u8 (bitsOf [(phaseAt s 0).runs, (phaseAt s 1).runs, (phaseAt s 2).runs, ph 0 = .rampDown || ph 0 = .softStart, ph 1 = .rampDown || ph 1 = .softStart,
        ph 2 = .rampDown || ph 2 = .softStart])
    ++ i64 s.met.qTot.q ++ u32 s.met.qTot.frac ++ eachN 6 (fun n => u32 (hbDuty s n))
    ++ i32 (s.cnv.phases.foldl (fun (a : Int) p => a + p.ref) 0)

/-- The HEARTBEAT of a payload, with the own counter at its receipt. -/
def parseBeat (s : State) (r : MirrorRx) : MirrorBeat :=
  let b := r.payload
  { tick := r.mtick, health := getN b 1 1, mode := getN b 2 1, phases := getN b 3 1, q := getI b 4 8, qfrac := getN b 12 4
    duty := (List.range 6).map fun n => getN b (16 + 4 * n) 4, ref := getI b 40 4, ownQ := s.met.qTot.q }

/-! ### CONTROL (R418) -/

/-- Group of a size: its fields, zero-filled. -/
def grp (n : Nat) (b : Bytes) : Bytes := fixLen n b

/-- Loop slot of the stream. -/
def ctlSlot (s : State) (i : Nat) : Bytes :=
  let x := slotAt s i
  grp 32 (i64 x.xi ++ i64 x.xd ++ i32 x.ePrev ++ i32 x.ref ++ u16 (loopStatus s i))

/-- Phase byte of an operation. -/
def opPhase (s : State) (o : Op) : Nat :=
  match o.kind with
  | 1 => (match s.est.learn with | some l => l.phase | none => 0)
  | 2 => (match s.met.sysCal with | some c => c.step | none => 0)
  | 3 => (match s.imp.sweep with | some w => w.st | none => 0)
  | 7 => s.upd.phase
  | _ => 0

/-- A long operation of the stream. -/
def ctlOp (s : State) (o : Op) : Bytes :=
  grp 16 (u16 o.handle ++ u8 o.kind ++ u8 o.opState ++ u8 (opPhase s o) ++ u16 o.progress ++ u16 o.session ++ u32 o.seq)

/-- Operations that the stream carries: running and suspended ones (R453). -/
def liveOps (s : State) : List Op := s.ops.ops.filter fun o => o.opState ≠ 2

/-- Milliseconds since a condition began, plus one; 0 where it does not hold. -/
def timerMs (s : State) (o : Option Nat) : Nat := match o with | some t => min 65535 (sinceNs s t / 1000000 + 1) | none => 0
def timerAt (s : State) (v : Nat) : Option Nat := if v = 0 then none else some (s.tick.now - (v - 1) * 1000000)

/-- The CONTROL payload. -/
def controlPayload (s : State) : Bytes :=
  let p := s.prot
  let d := s.dsp
  grp 64 (u8 s.str.state.code ++ u16 (stateFlags s) ++ u8 (match s.str.stopTarget with | some t => t.code | none => 0xFF)
      ++ u32 (twLeft s / 1000000000) ++ u32 (bitsOf p.twilight) ++ grp 32 (each (fun c => u16 c.code) (s.str.causes.take 16)))
    ++ eachN 16 (ctlSlot s)
    ++ grp 32 (each (fun x => u8 x.st.code) s.cnv.phases ++ u8 (optN 8 s.cnv.schedEntry) ++ u16 (match s.cnv.schedQueue with | w :: _ => w.1 | [] => 7) ++ i32 s.cnv.iLimit)
    ++ grp 224 (i32 d.target ++ r32 d.ref ++ u16 (dispFlags s) ++ u32 (ratN 32 (d.n30 * 4294967296)) ++ u32 (ratN 32 (d.n2 * 4294967296))
        ++ grp 192 (each (fun t => i32 t.current ++ u64 t.launch) (d.timed.take 16)))
    ++ grp 128 (u16 (if cont2 s = 0 then 0 else ratN 16 (p.theta / cont2 s * 10000))
        ++ u8 s.cont.c0.state ++ u8 s.cont.c1.state ++ u8 s.cont.c2.state ++ u16 s.cont.c0.coilMa ++ u16 s.cont.c1.coilMa ++ u16 s.cont.c2.coilMa
        ++ eachN 10 (fun i => u8 (sfState s (i + 1))) ++ each (fun t => u8 (min t.missed 254)) p.tests ++ u8 (bitsOf (p.tests.map (·.retry)))
        ++ o32 s.iso.r ++ o32 (s.iso.resultAt.map fun t => sinceNs s t / 1000000) ++ u16 (isoStatus s))
    ++ grp 64 (i64 s.met.coulomb ++ i64 s.met.chargeIn ++ i64 s.met.chargeOut ++ u16 (coulombStatus s) ++ u8 (ds7Code s) ++ u16 (refStatus s)
        ++ u8 (bitsOf (s.met.ds.map (·.failed))))
    ++ grp 128 (each (ctlOp s) ((liveOps s).take 8))
    ++ grp 64 (u8 s.skl.ring.code ++ u8 (optN 8 s.skl.breakA) ++ u8 (optN 8 s.skl.breakB) ++ u16 s.bal.balId ++ toLe 5 (bitsOf s.bal.monUnres))
    ++ grp 64 (oi16 s.thm.coolSet ++ u8 s.thm.chSeq ++ each (fun x => u16 (timerMs s x.badSince)) s.thm.di ++ u8 (b2n s.thm.heatReq))
    ++ grp 32 (u16 (timeStatus s false) ++ i32 s.tb.freqAdj ++ i64 (roundAway s.tb.sum)) ++ List.replicate 140 0

/-- String state of a code. -/
def stateOf : Nat → StringState
  | 0 => .off | 1 => .dawn | 2 => .standby | 3 => .precharge | 4 => .closed | 5 => .run | 6 => .twilight | 7 => .stopping | 8 => .fault | _ => .service

/-- Phase state of a code. -/
def phaseOf : Nat → PhaseState
  | 1 => .softStart | 2 => .enabled | 3 => .rampDown | 4 => .tripped | _ => .disabled

/-- Ring state of a code. -/
def ringOf : Nat → RingState
  | 1 => .closed | 2 => .split | 3 => .open_ | _ => .down

/-- Clear class, PCS trip and safety function of a cause known by its code alone, from the rules that define it. -/
def causeOf (code : Nat) : LatchedCause :=
  let cls := match code with
    | 0x0303 => 1 | 0x0304 => 1 | 0x0305 => 1 | 0x0309 => 1 | 0x030D => 1 | 0x0502 => 2 | 0x0703 => 2 | 0x0730 => 2 | 0x0731 => 1
    | 0x0A04 => 0 | 0x0A20 => 2 | 0x0A21 => 2 | 0x0A22 => 2 | 0x0A23 => 2 | 0x0A24 => 1 | 0x0A25 => 2 | 0x0A26 => 2 | 0x0A31 => 1 | 0x0A35 => 1
    | 0x1009 => 2 | 0x100A => 2 | 0x100B => 2 | 0x1011 => 1 | 0x1021 => 1 | _ => 0
  let fn := match code with
    | 0x0502 => 7 | 0x0731 => 8 | 0x0A20 => 10 | 0x0A21 => 10 | 0x0A22 => 10 | 0x0A23 => 10 | 0x0A24 => 10 | 0x0A25 => 10 | 0x0A26 => 9 | 0x0A35 => 7
    | 0x0A42 => 6 | c => if 0x0A01 ≤ c ∧ c ≤ 0x0A0A then c - 0x0A00 else 0
  { code := code, cls := cls, trip := code = 0x0A09 || code = 0x0A20 || code = 0x0A21 || code = 0x0A26 || code = 0x0A42, active := true, fn := fn }

/-- The latched causes of a stream: one already known keeps what is known of it. -/
def mirrorCauses (old : List LatchedCause) (b : Bytes) : List LatchedCause :=
  ((List.range 16).map fun i => getN b (2 * i) 2).filterMap fun c =>
    if c = 0 then none else some ((old.find? fun x => x.code = c).getD (causeOf c))

/-- The string group. In its own Dawn a module stays in DAWN: the mirrored state is reported from the end of that Dawn on (R35,
R41). The 10 min of R44 without an armed cause run on a standby from the receipt that shows none. -/
def takeString (b : Bytes) (s : State) : State :=
  let st := stateOf (getN b 0 1)
  let left := secNs (getN b 4 4)
  let tw := (List.range 14).map (bitAt (getN b 8 4))
  if inDawn s then s
  else s |> onStr (fun x => { x with
      state := st, mirrored := true, faultStopDone := bitAt (getN b 1 2) 4
      stopTarget := if getN b 3 1 = 0xFF then none else some (stateOf (getN b 3 1))
      twilightUsed := twBudget s - min (twBudget s) left
      entered := if x.state = st then x.entered else s.tick.now
      entryTime := if x.state = st then x.entryTime else s.tb.time
      causes := mirrorCauses x.causes (slice b 12 32)
      unarmedSince := if tw.any id then none else x.unarmedSince.orElse fun _ => some s.tick.now })
    |> onProt fun p => { p with twilight := tw }

/-- The loop slots and the converter group; the live records of slots 0 to 2 follow the schedule entry up to its write position
(R313). -/
def takeLoops (b : Bytes) (s : State) : State :=
  let entry := if getN b 579 1 = 0xFF then none else some (getN b 579 1)
  let words := match entry.map (s.cfg.conv.sched.drop ·) with | some (e :: _) => schedWords e | _ => []
  let pos := getN b 580 2
  let live := fun (r : SlotRec) => (words.take pos).foldl (fun a w => schedPut w a) r
  s |> onCnv fun c => { c with
    slots := mapI (fun i (x : Slot) => let o := 64 + 32 * i
      { x with xi := getI b o 8, xd := getI b (o + 8) 8, ePrev := getI b (o + 16) 4, ref := getI b (o + 20) 4, live := if i < 3 then live x.live else x.live }) c.slots
    phases := mapI (fun k (p : Phase) => { p with st := phaseOf (getN b (576 + k) 1), ref := getI b (64 + 32 * k + 20) 4 }) c.phases
    schedEntry := entry, schedQueue := (words.drop pos).filter fun w => !(schedSame (live (slotAt s 0).live) w)
    iLimit := getI b 582 4 }

/-- The dispatch group. -/
def takeDispatch (b : Bytes) (s : State) : State :=
  let fl := getN b 616 2
  s |> onDsp fun d => { d with
    target := getI b 608 4, ref := getI b 612 4
    spTimeout := bitAt fl 7, walked := bitAt fl 5
    walkedSince := if bitAt fl 5 && !d.walked then s.tick.now else d.walkedSince, order := max 16 d.order
    n30 := (getN b 618 4 : Rat) / 4294967296, n2 := (getN b 622 4 : Rat) / 4294967296
    timed := (List.range 16).filterMap fun i =>
      let o := 626 + 12 * i
      let t := getN b (o + 4) 8
      if t = 0 then none else some { current := getI b o 4, launch := t, order := i + 1, session := 0 } }

/-- The protection group. -/
def takeProtection (b : Bytes) (s : State) : State :=
  let o := 832
  let fl := getN b (o + 36) 2
  let age := getN b (o + 32) 4
  let cont := fun (k : Nat) (c : Contactor) => { c with state := getN b (o + 2 + k) 1, coilMa := getN b (o + 5 + 2 * k) 2 }
  s |> onProt (fun p => { p with
      theta := (getN b o 2 : Rat) / 10000 * cont2 s
      demand := (List.range 10).map fun i => getN b (o + 11 + i) 1 = 1
      tests := mapI (fun i (t : TestOut) => { t with missed := getN b (o + 21 + i) 1, retry := bitAt (getN b (o + 27) 1) i }) p.tests })
    |> onCont (fun c => { c with c0 := cont 0 c.c0, c1 := cont 1 c.c1, c2 := cont 2 c.c2 })
    |> onIso fun i => { i with
      r := if getN b (o + 28) 4 = 0xFFFFFFFF then none else some (getN b (o + 28) 4)
      resultAt := if age = 0xFFFFFFFF then none else some (s.tick.now - age * 1000000)
      valid := bitAt fl 0, peOpen := bitAt fl 1, warn := bitAt fl 2, alarm := bitAt fl 3, injecting := bitAt fl 4, passive := bitAt fl 5
      above := bitAt fl 6, below := bitAt fl 7, unsync := bitAt fl 8, slow := bitAt fl 9 }

/-- The long operations: their slots as the owner holds them. -/
def takeOps (b : Bytes) (s : State) : State :=
  let rx := (List.range 8).filterMap fun i =>
    let o := 1024 + 16 * i
    let h := getN b o 2
    if h = 0 then none
    else
      let x : Op := (s.ops.ops.find? fun x => x.handle = h).getD { handle := h, kind := getN b (o + 2) 1, start := s.tb.time, result := blankResult (getN b (o + 2) 1) }
      some { x with opState := getN b (o + 3) 1, progress := getN b (o + 5) 2, session := getN b (o + 7) 2, seq := getN b (o + 9) 4 }
  s |> onOps fun q => { q with ops := rx, lastHandle := rx.foldl (fun a o => max a o.handle) q.lastHandle }

/-- The link, balancing and thermal groups. Of the timebase group nothing enters the standby's own: its `TIME_STATUS` says whether
it has itself reached LOCKED (R118, R127), and its servo is that of R124. -/
def takeRest (b : Bytes) (s : State) : State :=
  s |> onSkl (fun l => { l with
      ring := ringOf (getN b 1152 1), broken := ringOf (getN b 1152 1) = .split || ringOf (getN b 1152 1) = .open_, breakA := if getN b 1153 1 = 0xFF then none else some (getN b 1153 1)
      breakB := if getN b 1154 1 = 0xFF then none else some (getN b 1154 1) })
    |> onBal (fun x => { x with balId := getN b 1155 2, monUnres := (List.range 40).map (bitAt (getN b 1157 5)) })
    |> onThm (fun t => { t with
      coolSet := if getI b 1216 2 = -32768 then none else some (getI b 1216 2), chSeq := getN b 1218 1
      di := mapI (fun i (x : DiIn) => { x with badSince := timerAt s (getN b (1219 + 2 * i) 2) }) t.di
      heatReq := getN b 1227 1 = 1 })

/-- Every state group of a CONTROL frame, as a standby takes it (R41, R418); the frame of tick 0 gives the counter at the snapshot
instants of its cycle (R25, R244). -/
def takeControl (b : Bytes) (s : State) : State :=
  s |> takeString b |> takeLoops b |> takeDispatch b |> takeProtection b |> takeOps b |> takeRest b |> markSnaps (getI b 960 8)

/-! ### BANK (R416) -/

/-- The group a `TABLE` code names, and its change. -/
def bankedOf (t : TableSt) (k : Nat) : Banked := match k with | 0 => t.volt | 1 => t.drop | _ => t.temp
def setBanked (k : Nat) (g : Banked) (t : TableSt) : TableSt := match k with | 0 => { t with volt := g } | 1 => { t with drop := g } | _ => { t with temp := g }

/-- The BANK frames of a completed bank, 720 values each. -/
def bankFrames (k : Nat) (b : Bank) : List Bytes :=
  let put := fun (v : Option Int) => if k = 0 then o16 (v.map Int.toNat) else oi16 v
  (List.range ((b.vals.length + 719) / 720)).map fun i =>
    let vs := (b.vals.drop (720 * i)).take 720
    u8 k ++ u8 0 ++ u16 b.seq ++ u16 b.snapId ++ u16 (720 * i) ++ u16 vs.length ++ u16 0 ++ each put vs

/-- A value of a bank frame. -/
def bankValue (k : Nat) (b : Bytes) (i : Nat) : Option Int :=
  let o := 12 + 2 * i
  if k = 0 then (if getN b o 2 = 0xFFFF then none else some (getN b o 2)) else (if getI b o 2 = -32768 then none else some (getI b o 2))

/-- Mark of the set a bank of group `k` holds: in the frames in which the next set starts, of the one before. -/
def bankMark (s : State) (k : Nat) : SnapMark :=
  let old := s.tick.f < 4 && ((k = 1 && s.tick.c % 10 = 0) || (k = 2 && s.tick.c = 0))
  nth {} (if old then s.skl.marksOld else s.skl.marks) k

/-- The clocks of R212 for the values a complete bank brings. -/
def bankClocks (k : Nat) (b : Bank) (s : State) : State :=
  let got := fun (i : Nat) => (b.val i).isSome
  s |> onTab fun t => match k with
    | 0 => { t with poss := mapI (fun i (e : PosEntry) => if got i then { e with vAt := some b.at_ } else e) t.poss }
    | 1 => { t with cells := mapI (fun i (e : CellEntry) => if got i then { e with dAt := some b.at_ } else e) t.cells }
    | _ => { t with temps := mapI (fun i (e : TempEntry) => if got i then { e with tAt := some b.at_ } else e) t.temps }

/-- A bank of the stream is complete: its clocks, and of a voltage bank the `SNAP_ID` from which the ring goes on at a fail-over
(R220), and its place in the bank log. -/
def bankTaken (k : Nat) (b : Bank) (s : State) : State :=
  let s1 := bankClocks k b s
  if k ≠ 0 then s1
  else s1 |> logBank b |> onSkl fun l => { l with
    snapId := some b.snapId, snapUsed := some b.snapId, vSnapAt := b.at_
    dSnap := if s.tick.c % 10 = 0 then b.snapId else l.dSnap, tSnap := if s.tick.c = 0 then b.snapId else l.tSnap
    dSnapAt := (nth {} l.marks 1).at_, tSnapAt := (nth {} l.marks 2).at_ }

/-- A BANK frame goes into the standby's own table: the bank is started at its first frame and complete at its last. -/
def takeBank (b : Bytes) (s : State) : State :=
  let k := getN b 0 1
  let seq := getN b 2 2
  let first := getN b 6 2
  let n := getN b 8 2
  let g0 := bankedOf s.tab k
  let total := (match k with | 0 => s.tab.poss.length | 1 => s.tab.cells.length | _ => s.tab.temps.length)
  if 2 < k || 720 < n || b.length < 12 + 2 * n || total < first + n then s
  else
    let filling := (g0.get g0.filling).st = 1
    let m := bankMark s k
    let g1 := if first = 0 || !filling then (g0.start total (getN b 4 2) m.word m.q m.time m.at_).1 else g0
    let g2 := (List.range n).foldl (fun (g : Banked) i => g.put (first + i) (bankValue k b i)) g1
    if first + n ≠ total then s |> onTab (setBanked k g2)
    else
      let g3 := { g2 with seq := (seq + 65535) % 65536 }.complete
      let s1 := s |> onTab (setBanked k g3)
      match g3.current with | some x => bankTaken k x s1 | none => s1

/-! ### IMAGE (R419) -/

/-- Segments of an image of this geometry. -/
def segN (s : State) : Nat := (128 * geoP s + 64 * geoP s * geoS s + 65536 + 1023) / 1024

/-- Monitor record of the state region. -/
def monBytes (m : Monitor) : Bytes := u8 m.state.code ++ u16 (monFlags m) ++ o32 m.serial ++ o16 m.delayA ++ o16 m.delayB

/-- Age of a local time in ms for the state region, and back; 0xFFFFFFFF for none. -/
def ageMs (s : State) (o : Option Nat) : Bytes := u32 (match o with | some t => min 0xFFFFFFFE (sinceNs s t / 1000000) | none => 0xFFFFFFFF)
def ageAt (s : State) (b : Bytes) (o : Nat) : Option Nat := if getN b o 4 = 0xFFFFFFFF then none else some (s.tick.now - msNs (getN b o 4))

/-- A fraction in 10⁻⁹, and back. -/
def nano (x : Rat) : Bytes := i32 (roundAway (x * 1000000000))
def unNano (b : Bytes) (o : Nat) : Rat := (getI b o 4 : Rat) / 1000000000

/-- What the estimator and the share solver hold of a position beside its entry of R229: 79 bytes. -/
def estRecord (s : State) (e : PosEntry) : Bytes :=
  let l := e.disagrees
  o16 (e.vRef.map Int.toNat) ++ o16 (e.lastV.map Int.toNat) ++ ageMs s (some e.vRefAt) ++ i32 (roundAway e.lastI)
    ++ nano e.restSoc ++ nano e.socFull ++ nano e.socEmpty ++ i64 (roundAway e.learnDq)
    ++ nano e.p00 ++ i32 (roundAway (e.p01 * 1000)) ++ i32 (roundAway (e.p02 * 1000))
    ++ i32 (roundAway (e.p11 / 1000)) ++ i32 (roundAway (e.p12 / 1000)) ++ i32 (roundAway (e.p22 / 1000))
    ++ u8 (bitsOf [e.rescaled, e.forced]) ++ u8 (min 255 e.kIn) ++ u8 (min 255 e.kOut) ++ u16 (min 65535 e.gSolves) ++ u16 e.gBlock
    ++ each (fun t => u32 t) (l ++ List.replicate (3 - l.length) 0) ++ ageMs s (some e.tIntAt)

/-- A position's record taken. -/
def takeEstRecord (s : State) (b : Bytes) (e : PosEntry) : PosEntry :=
  let o := fun (k : Nat) => if getN b k 2 = 0xFFFF then none else some ((getN b k 2 : Nat) : Int)
  { e with
    vRef := o 0, lastV := o 2, vRefAt := (ageAt s b 4).getD 0, lastI := getI b 8 4, restSoc := unNano b 12, socFull := unNano b 16, socEmpty := unNano b 20
    learnDq := getI b 24 8, p00 := unNano b 32, p01 := (getI b 36 4 : Rat) / 1000, p02 := (getI b 40 4 : Rat) / 1000
    p11 := (getI b 44 4 : Rat) * 1000, p12 := (getI b 48 4 : Rat) * 1000, p22 := (getI b 52 4 : Rat) * 1000
    rescaled := bitAt (getN b 56 1) 0, forced := bitAt (getN b 56 1) 1
    kIn := getN b 57 1, kOut := getN b 58 1, gSolves := getN b 59 2, gBlock := getN b 61 2
    disagrees := ((List.range 3).map fun i => getN b (63 + 4 * i) 4).filter (· ≠ 0), tIntAt := (ageAt s b 75).getD 0 }

/-- A CAP_LEARN session: 39 bytes. -/
def learnBytes (s : State) (o : Option CapLearn) : Bytes :=
  match o with
  | some l => u8 l.phase ++ u64 (sinceNs s l.start) ++ u64 (sinceNs s l.fullRestEnd) ++ i64 l.netIn ++ i64 l.q0
      ++ u8 (bitsOf [l.emptyRested, l.computed, l.resting]) ++ u16 l.learned ++ u16 l.rejected ++ u8 0
  | none => List.replicate 39 0

/-- The session of the stream. -/
def takeLearn (s : State) (b : Bytes) : Option CapLearn :=
  let fl := getN b 33 1
  if getN b 0 1 = 0 then none
  else some
    { phase := getN b 0 1, start := s.tick.now - getN b 1 8, fullRestEnd := s.tick.now - getN b 9 8, netIn := getI b 17 8, q0 := getI b 25 8
      emptyRested := bitAt fl 0, computed := bitAt fl 1, resting := bitAt fl 2, learned := getN b 34 2, rejected := getN b 36 2 }

/-- Estimator mode, figures and flags: 58 bytes. -/
def estHead (s : State) : Bytes :=
  let e := s.est
  u8 e.mode.code ++ oPct e.socStr ++ oPct e.sigmaMax ++ i32 (roundAway (e.qMin / mAhUc)) ++ i32 (roundAway (e.hMin / mAhUc)) ++ oPct e.sohStr ++ o16 e.minPos
    ++ o16 e.maxPos ++ i64 e.lastQ ++ u64 e.blobNum ++ o16 e.lastSeq ++ u64 (sinceNs s e.lastStepAt) ++ ageMs s e.lowSince ++ ageMs s e.restEnd
    ++ u8 (bitsOf [e.rested, e.learnPending, e.restDue]) ++ ageMs s (some e.coldAt)

/-- A command of the balancing table: 9 bytes. -/
def balBytes (x : BalPos) : Bytes := i16 x.cmd ++ i16 x.next ++ i16 x.cur ++ i16 x.old ++ u8 (bitsOf [x.active, x.unresolved])

/-- Content of the state region in the order of R419, for its open layout. -/
def regionContent (s : State) : Bytes :=
  bankedHdr s.tab.volt ++ bankedHdr s.tab.drop ++ bankedHdr s.tab.temp ++ each monBytes s.skl.mons
    ++ estHead s ++ learnBytes s s.est.learn
    ++ (match s.imp.sweep with
        | some w => u16 w.handle ++ u8 w.plan ++ u8 w.block ++ u8 w.st ++ u8 w.repeats ++ u8 w.blocksDone ++ u8 w.blocksValid ++ u8 w.blocksSkipped
            ++ u32 ((s.imp.lockEnd - s.tick.now) / 1000000) ++ u8 (b2n w.auto) ++ ageMs s (some w.started)
        | none => List.replicate 18 0)
    ++ u32 (match s.imp.autoDue with | some t => min 0xFFFFFFFE ((t - s.tick.now) / 1000000) | none => 0xFFFFFFFF)
    ++ u8 (bitsOf [s.jrn.dirty.isSome, s.bal.deferred, s.bal.waiting]) ++ u16 s.bal.curId ++ u64 (sinceNs s s.bal.applyAt)
    ++ each balBytes s.bal.pos ++ each (estRecord s) s.tab.poss

/-- 64-byte unit `k` of the image: a position, a cell, or eight temperature entries; none in the state region. -/
def imageUnit (s : State) (k : Nat) : Option Bytes :=
  let p := geoP s
  let c := p * geoS s
  if k < p then some (posEntryBytes s k)
  else if k < p + c then some (cellEntryBytes s (k - p))
  else if k < 2 * p + c then some (eachN 8 fun i => tempEntryBytes s (8 * (k - p - c) + i))
  else none

/-- Segment `n` of the image as it stands. -/
def imageSegment (s : State) (n : Nat) : Bytes :=
  let start := 2 * geoP s + geoP s * geoS s
  let region := fixLen 65536 (Config.regionEncode (regionContent s))
  eachN 16 fun i =>
    let k := 16 * n + i
    match imageUnit s k with
    | some b => b
    | none => slice region (64 * (k - start)) 64

/-- A position entry taken from an image (R229). `ref25` brings its `R_POS`, which holds at its temperature, back to 25 °C (R248);
`tSens` is T_p of R232. -/
def takePos (ref25 : Rat → Rat → Rat) (tSens : Rat) (b : Bytes) (e : PosEntry) : PosEntry :=
  let st := Config.estDecode (slice b 52 12)
  let fl := getN b 10 2
  let ef := getN b 50 2
  let cap : Rat := if getN b 36 4 = 0xFFFFFFFF then e.cap else getN b 36 4 * mAhUc
  let soc : Option Rat := if getN b 24 2 = 0xFFFF || cap = 0 then none else some ((getI b 28 8 : Rat) / cap)
  { e with
    iPos := if getI b 4 4 = -2147483648 then none else some (getI b 4 4)
    k := (getN b 8 2 : Rat) / 32768
    solved := bitAt fl 0, vStale := bitAt fl 1, notQualified := bitAt fl 2, dropStale := bitAt fl 3, shareExcluded := bitAt fl 4
    kConverged := bitAt fl 5, gConverged := bitAt fl 6, kHigh := bitAt fl 7
    lostN := getN b 12 1, weakN := getN b 13 1
    shareMax := if getI b 16 2 = -32768 then none else some ((getI b 16 2 : Rat) / 8192)
    derate := if getN b 18 2 = 0xFFFF then e.derate else (getN b 18 2 : Rat) / 10000, inconsCnt := getN b 20 1, consCnt := getN b 21 1
    solveSeq := if getN b 22 2 = 0xFFFF then none else some (getN b 22 2)
    soc := soc, socRep := if getN b 24 2 = 0xFFFF then none else some ((getN b 24 2 : Rat) / 10000), cap := cap
    p00 := ((getN b 26 2 : Rat) / 10000) * ((getN b 26 2 : Rat) / 10000)
    rRef := if getI b 40 4 = -2147483648 then e.rRef else ref25 (getI b 40 4) (if getI b 46 2 = -32768 then tSens else getI b 46 2)
    tInt := if getI b 46 2 = -32768 then none else some (getI b 46 2)
    ocv := if getN b 48 2 = 0xFFFF then none else some ((getN b 48 2 : Rat) * 100)
    va := getI st 0 4, vb := getI st 4 4, h := clampR (-1) 1 ((getI st 8 2 : Rat) / 32767), lastBank := getN st 10 2
    fl := { valid := bitAt ef 0, converged := bitAt ef 1, clampLo := bitAt ef 2, clampHi := bitAt ef 3, chargeDisagree := bitAt ef 4
            forcedEmpty := bitAt ef 5, learnDue := bitAt ef 6, learned := bitAt ef 7, tFromSensors := bitAt ef 8, frozen := bitAt ef 9 } }

/-- A cell entry taken from an image (R227). -/
def takeCell (b : Bytes) (c : CellEntry) : CellEntry :=
  let fl := getN b 14 2
  let ef := getN b 46 2
  let st := Config.estDecode (slice b 48 16)
  let cap : Rat := if getN b 32 4 = 0xFFFFFFFF then c.cap else getN b 32 4 * mAhUc
  { c with
    ratio := if getI b 4 2 = -32768 then none else some ((getI b 4 2 : Rat) / 8192)
    filt := if getI b 6 2 = -32768 then c.filt else (getI b 6 2 : Rat) / 8192, iCell := if getI b 8 4 = -2147483648 then none else some (getI b 8 4), g := (getN b 12 2 : Rat) / 32768
    valid := bitAt fl 0, dropMissing := bitAt fl 1, dropStale := bitAt fl 2, excluded := bitAt fl 3, lost := bitAt fl 4, weak := bitAt fl 5
    gLimit := bitAt fl 6, recovery := bitAt fl 7, probation := bitAt fl 8
    lowCnt := getN b 16 1, probCnt := getN b 17 1, weakCnt := getN b 18 2, solveSeq := if getN b 20 2 = 0xFFFF then none else some (getN b 20 2)
    soc := if getN b 22 2 = 0xFFFF || cap = 0 then none else some ((getI b 24 8 : Rat) / cap), cap := cap
    r := if getI b 36 4 = -2147483648 then c.r else getI b 36 4
    tInt := if getI b 42 2 = -32768 then none else some (getI b 42 2), var := ((getN b 44 2 : Rat) / 10000) * ((getN b 44 2 : Rat) / 10000)
    dq := getI st 0 4, learnDq := getI st 4 8, lastBank := getN st 12 2
    fl := { c.fl with valid := bitAt ef 0, converged := bitAt ef 1, learned := bitAt ef 7, frozen := bitAt ef 9 } }

/-- A temperature entry taken from an image (R230). -/
def takeTemp (b : Bytes) (t : TempEntry) : TempEntry :=
  let fl := getN b 4 1
  { t with fitted := bitAt fl 0, valid := bitAt fl 1, stale := bitAt fl 2, broken := bitAt fl 3
           band := if getN b 5 1 = 0xFF then none else some (getN b 5 1), age := if getN b 6 2 = 0xFFFF then none else some (getN b 6 2) }

/-- A 64-byte unit of the image goes into the standby's tables at its place. -/
def takeUnit (k : Nat) (b : Bytes) (s : State) : State :=
  let p := geoP s
  let c := p * geoS s
  if k < p then
    let ref := fun (r t : Rat) => let q := cellPar s t CellBand.rOhm; if q = 0 then r else snap (r * cellPar s 2500 CellBand.rOhm / q)
    onPos k (takePos ref (tPos s k) b) s
  else if k < p + c then onCell (k - p) (takeCell b) s
  else if k < 2 * p + c then
    (List.range 8).foldl (fun t i => t |> onTab fun x => { x with temps := updAt (takeTemp (slice b (8 * i) 8)) x.temps (8 * (k - p - c) + i) }) s
  else s

/-- A segment goes into the standby's tables. -/
def takeSegment (n : Nat) (b : Bytes) (s : State) : State :=
  (List.range 16).foldl (fun t i => takeUnit (16 * n + i) (slice b (64 * i) 64) t) s

/-- Bank headers of the state region, on the bank with the same sequence number. -/
def takeHdr (b : Bytes) (g : Banked) : Banked :=
  let z := fun (x : Bank) =>
    let i := if getN b 4 2 = x.seq then 0 else 1
    if getN b (4 + 2 * i) 2 = x.seq && x.st = 2 then { x with snapId := getN b (8 + 2 * i) 2, iStr := getI b (12 + 4 * i) 4, time := getN b (20 + 8 * i) 8 } else x
  { g with b0 := z g.b0, b1 := z g.b1 }

/-- Monitor record taken. -/
def takeMon (b : Bytes) (m : Monitor) : Monitor :=
  let fl := getN b 1 2
  { m with
    state := match getN b 0 1 with | 1 => .quarantine | 2 => .admitted | 3 => .lost | 4 => .refused | _ => .notSeen
    looping := bitAt fl 1, vStale := bitAt fl 2, dStale := bitAt fl 3, tStale := bitAt fl 4, viaB := bitAt fl 5, vCrcErr := bitAt fl 6, resetSeen := bitAt fl 7
    serial := if getN b 3 4 = 0xFFFFFFFF then none else some (getN b 3 4)
    delayA := if getN b 7 2 = 0xFFFF then none else some (getN b 7 2), delayB := if getN b 9 2 = 0xFFFF then none else some (getN b 9 2) }

/-- Estimator mode of a code. -/
def modeOf : Nat → EstMode
  | 1 => .waitRestore | 2 => .coldConverging | 3 => .running | 4 => .noString | _ => .notStarted

/-- Estimator mode, figures and flags taken. -/
def takeEstHead (s : State) (b : Bytes) (e : EstSt) : EstSt :=
  let frac := fun (k : Nat) => if getN b k 2 = 0xFFFF then (none : Option Rat) else some ((getN b k 2 : Rat) / 10000)
  let id16 := fun (k : Nat) => if getN b k 2 = 0xFFFF then none else some (getN b k 2)
  let fl := getN b 53 1
  { e with
    mode := modeOf (getN b 0 1), socStr := frac 1, sigmaMax := frac 3, qMin := (getI b 5 4 : Rat) * mAhUc, hMin := (getI b 9 4 : Rat) * mAhUc
    sohStr := frac 13, minPos := id16 15, maxPos := id16 17, lastQ := getI b 19 8, blobNum := getN b 27 8, lastSeq := id16 35
    lastStepAt := s.tick.now - getN b 37 8, lowSince := ageAt s b 45, restEnd := ageAt s b 49
    rested := bitAt fl 0, learnPending := bitAt fl 1, restDue := bitAt fl 2, coldAt := (ageAt s b 54).getD 0 }

/-- A command of the balancing table taken. -/
def takeBal (b : Bytes) (x : BalPos) : BalPos :=
  { x with cmd := getI b 0 2, next := getI b 2 2, cur := getI b 4 2, old := getI b 6 2, active := bitAt (getN b 8 1) 0, unresolved := bitAt (getN b 8 1) 1 }

/-- The state region of a complete image is taken (R419). -/
def takeRegion (region : Bytes) (s : State) : State :=
  let b := Config.regionDecode region
  let o := 360 + 440
  let l := o + 58
  let w := l + 39
  let f := w + 22
  let due := if getN b (w + 18) 4 = 0xFFFFFFFF then none else some (msNs (getN b (w + 18) 4))
  let t := f + 11
  let r := t + 9 * geoP s
  let fl := getN b f 1
  s |> onTab (fun x => { x with
      volt := takeHdr b x.volt, drop := takeHdr (b.drop 120) x.drop, temp := takeHdr (b.drop 240) x.temp
      poss := mapI (fun p e => takeEstRecord s (slice b (r + 79 * p) 79) e) x.poss })
    |> onSkl (fun x => { x with mons := mapI (fun i m => takeMon (slice b (360 + 11 * i) 11) m) x.mons })
    |> onEst (fun e => { takeEstHead s (slice b o 58) e with learn := takeLearn s (slice b l 39) })
    |> onImp (fun i => { i with
      lockEnd := s.tick.now + msNs (getN b (w + 9) 4)
      autoDue := due.map (s.tick.now + ·), nextAuto := due.map (s.tb.time + ·)
      sweep := if getN b w 2 = 0 then none else some
        { handle := getN b w 2, plan := getN b (w + 2) 1, block := getN b (w + 3) 1, st := getN b (w + 4) 1, repeats := getN b (w + 5) 1
          blocksDone := getN b (w + 6) 1, blocksValid := getN b (w + 7) 1, blocksSkipped := getN b (w + 8) 1
          auto := getN b (w + 13) 1 = 1, started := (ageAt s b (w + 14)).getD 0 } })
    |> onBal (fun x => { x with
      deferred := bitAt fl 1, waiting := bitAt fl 2, curId := getN b (f + 1) 2, applyAt := s.tick.now - getN b (f + 3) 8
      pos := mapI (fun p y => takeBal (slice b (t + 9 * p) 9) y) x.pos })
    |> onJrn fun j => { j with dirty := if bitAt fl 0 then j.dirty.orElse (fun _ => some s.tick.now) else j.dirty }

/-- Bytes of the state region among the segments received. -/
def regionBytes (s : State) : Bytes :=
  let start := 64 * (2 * geoP s + geoP s * geoS s)
  let all := eachN (segN s) fun n => match s.pair.image.find? fun x => x.1 = n with | some x => x.2 | none => []
  slice all start 65536

/-! ### HELLO and SB_STATUS (R416) -/

/-- The HELLO payload. -/
def helloPayload (s : State) : Bytes :=
  u32 s.idn.serial ++ u8 s.cfg.small.member ++ u8 (optN 8 s.dawn.step) ++ u8 s.pair.partner.code ++ u8 0 ++ u32 s.idn.fwVersion
    ++ u32 (s.dawn.stringId.getD s.idn.stringId) ++ u32 (s.dawn.imageSeq.getD s.idn.imageSeq) ++ eachN 12 (fun i => u32 (nth 0 s.cfg.secCrc i))
    ++ fixLen 6 s.idn.mac ++ u16 0

/-- The SB_STATUS payload. -/
def sbPayload (s : State) : Bytes :=
  u32 (s.pair.mseqRx.getD 0) ++ u16 s.pair.imageCnt ++ u16 s.pair.hbMissCnt ++ u32 s.pair.cleanMs
    ++ u8 (bitsOf [s.pair.partner = .admitted, s.pair.localFault]) ++ List.replicate 3 0

/-- A HANDOVER frame. -/
def sendHandover (tick phase : Nat) (s : State) : State :=
  sendMirror 7 s.tb.time (u64 tick ++ u8 phase ++ List.replicate 7 0) s

/-! ### What the owner sends at an edge -/

/-- A timed mirror frame goes into the pair link's launch queue; a full queue sends it untimed (R120). -/
def queueMirror (mtype at_ : Nat) (payload : Bytes) (s : State) : State :=
  if s.tb.q2.length < 32 then s |> onTb fun t => { t with q2 := t.q2 ++ [{ at_ := at_, frame := .mirror mtype s.tb.time payload }] }
  else sendMirror mtype s.tb.time payload s

/-- The HEARTBEAT of ticks 1 to 19, launched at the tick edge + 26 µs (R416). -/
def mirrorBeat (s : State) : State :=
  if mirrorOn s && s.tick.j ≠ 0 then queueMirror 1 (s.tb.time + 26000) (heartbeatPayload s) s else s

/-- The CONTROL frame of tick 0, launched at the tick edge + 10 µs, and the 30 image segments of the frame (R416, R419). -/
def mirrorFrame (s : State) : State :=
  if !(mirrorOn s) then s
  else
    let s1 := queueMirror 2 (s.tb.time + 10000) (controlPayload s) s
    (List.range 30).foldl (fun t _ =>
      let n := segN t
      let seg := t.pair.segTx
      let t1 := sendMirror 4 t.tb.time (u32 t.pair.imgSeqTx ++ u16 seg ++ u16 n ++ imageSegment t seg) t
      t1 |> onPair fun p => if n ≤ seg + 1 then { p with segTx := 0, imgSeqTx := (p.imgSeqTx + 1) % 4294967296 } else { p with segTx := seg + 1 }) s1

/-- The BANK frames of a bank just completed (R416). -/
def mirrorBank (k : Nat) (s : State) : State :=
  if !(mirrorOn s) then s
  else match (bankedOf s.tab k).current with
    | none => s
    | some b => (bankFrames k b).foldl (fun t f => sendMirror 3 t.tb.time f t) s

/-- SB_STATUS at tick 10, launched at the tick edge + 10 µs (R416). -/
def mirrorStatus (s : State) : State :=
  if pairOn s && isSp s && s.pair.partnerMac.isSome && s.tick.j = 10 then queueMirror 6 (s.tb.time + 10000) (sbPayload s) s else s

end Sys2Proof.Machine
end

