-- ==== Sys2Proof/Machine/Power.lean ====
section
/-! DEFINITION. The supply: dips and the aux-loss sequence, over-voltage, rails, the sensor supplies and the hold-up bank
(R83 to R102, R530). -/
namespace Sys2Proof.Machine

/-- AUX_LOST is declared: +24V_DI goes off and the safety core starts a safe stop (R89, R90). -/
def declareAuxLost (atOnce : Bool) (s : State) : State :=
  let s1 := s |> onPwr (fun p => { p with stage := .lost, lostAtOnce := atOnce, returned := false })
    |> onPins (fun p => { p with diOn := false }) |> log srcSafety 0x1102 2 []
  if sfRuns s1 then safeStop false s1 else s1

/-- J1 counts as below its threshold (R88, R89): a dip starts, ridden through where the bank allows it. In OFF, frozen or
while the sequence runs only the level changes (R90, R91). -/
def j1Down (s : State) : State :=
  let s1 := s |> onPwr fun p => { p with j1Ok := false }
  if !(running s1) || s1.pwr.stage ≠ .none then s1
  else
    let s2 := s1 |> onPwr fun p => { p with dipStart := s1.tick.now, dipAge := 0, returned := false }
    if s2.pwr.holdupReady && !s2.pwr.insufficient then s2 |> onPwr fun p => { p with stage := .dip } else declareAuxLost true s2

/-- A dip or its sequence has lasted for a duration (assumption 6). -/
def dipElapsed (s : State) (dur : Nat) : Bool := decide (dur ≤ dipTime s + 50000)

/-- A Dawn after OFF or power-up with its `WAKE_CAUSE` (R531). -/
def wakeDawn (reason cause : Nat) (s : State) : State := newDawn reason s |> onLad fun l => { l with wakeCause := cause }

/-- J1 counts as above its threshold: in OFF after AUX_LOST it starts Dawn (R91, R531); a dip ridden through is logged with its duration in µs (DESIGN CHOICE, assumption 11:
the spec gives the unit nowhere) and counted; a running aux-loss sequence goes on (R89, R91). -/
def j1Up (s : State) : State :=
  let s1 := s |> onPwr fun p => { p with j1Ok := true }
  match s1.pwr.stage with
  | .none => if inOff s1 && s1.lad.offByAux && !s1.lad.frozen then wakeDawn 2 4 s1 else s1
  | .dip =>
    s1 |> onPwr (fun p => { p with stage := .none, dipCnt := satInc 32 p.dipCnt })
      |> log srcAon 0x1101 1 (u32 (dipTime s1 / 1000))
  | _ => s1 |> onPwr fun p => { p with returned := true }

/-- J1_BELOW_THRESHOLD: J1 falls below 17.0 V; with the input switch open it counts as below already (R88, R89). -/
def execJ1BelowThreshold (s : State) : Host.Outcome State Fault Refusal :=
  if !s.pwr.j1High || s.lad.unpowered then .next s
  else
    let s1 := s |> onPwr fun p => { p with j1High := false }
    .next (if s1.pwr.j1Ok then j1Down s1 else s1)

/-- J1_RESTORED: J1 rises above 17.6 V; with the input switch open it still counts as below (R88, R89, R91). -/
def execJ1Restored (s : State) : Host.Outcome State Fault Refusal :=
  if s.pwr.j1High || s.lad.unpowered then .next s
  else
    let s1 := s |> onPwr fun p => { p with j1High := true }
    .next (if s1.pwr.auxOv then s1 else j1Up s1)

/-- AUX_OVERVOLTAGE: the input switch opens, and J1 counts as below threshold (R88). -/
def execAuxOvervoltage (s : State) : Host.Outcome State Fault Refusal :=
  if s.pwr.auxOv || s.lad.unpowered then .next s
  else
    let s1 := s |> onPwr (fun p => { p with auxOv := true }) |> log srcAon 0x1104 2 []
    .next (if s1.pwr.j1Ok then j1Down s1 else s1)

/-- AUX_OVERVOLTAGE_CLEARED: the switch closes, and J1 counts again by its own level (R88). -/
def execAuxOvervoltageCleared (s : State) : Host.Outcome State Fault Refusal :=
  if !s.pwr.auxOv || s.lad.unpowered then .next s
  else
    let s1 := s |> onPwr fun p => { p with auxOv := false }
    .next (if s1.pwr.j1High then j1Up s1 else s1)

/-- AUX_LOST: a dip reaches 10 ms (R89). -/
def execAuxLost (s : State) : Host.Outcome State Fault Refusal :=
  if s.pwr.stage = .dip && dipElapsed s (msNs 10) then .next (declareAuxLost false s) else .next s

/-- FULL_OPERATION_END: at 20 ms, or with the end of the safe stop where AUX_LOST was declared at once: the sensor supplies
and the SFP go off and brown-out save begins, closing the open record (R90, R505). -/
def execFullOperationEnd (s : State) : Host.Outcome State Fault Refusal :=
  let due := if s.pwr.lostAtOnce then s.prot.stop.isNone else dipElapsed s (msNs 20)
  if s.pwr.stage = .lost && due then
    .next (s |> onPins (fun p => { p with sensOn := false, sfpOn := false, sfpUp := false })
      |> onPair (fun p => { p with linkUp := false }) |> onPwr (fun p => { p with stage := .save }) |> closeOpen)
  else .next s

/-- BROWN_OUT_SAVE_COMPLETE: the save ends and the module enters OFF in Night (R90, R527). `saved` says that the flash took
the recorder's buffer and was ready for the journal; otherwise Night retains what was not written (R274, R504, R530). With
J1 back, Dawn follows (R91). -/
def execBrownOutSaveComplete (saved : Bool) (s : State) : Host.Outcome State Fault Refusal :=
  if s.pwr.stage ≠ .save then .next s
  else
    let s1 := if saved then flushBuffer s else s
    let s2 := brownOutJournal saved s1 |> enterOff 4 0x1102 true
      |> onPwr (fun p => { p with stage := .none, holdupReady := false }) |> onLad (fun l => { l with retained := !saved })
    .next (if s2.pwr.j1Ok then wakeDawn 2 4 s2 else s2)

/-- AUX_POWER_APPLIED: J1 appears on an unpowered module, with reason 0 or 1 by the RTC, or on one in OFF after AUX_LOST,
with reason 2 (R130, R531). -/
def execAuxPowerApplied (reason : Nat) (s : State) : Host.Outcome State Fault Refusal :=
  let cause := if s.lad.offByAux then 4 else 0
  let s1 := s |> onPwr fun p => { p with j1High := true, j1Ok := true, auxOv := false }
  if s.lad.unpowered then .next (wakeDawn (if reason = 0 then 0 else 1) cause s1)
  else if inOff s && s.lad.offByAux then .next (wakeDawn 2 cause s1)
  else .next s

/-- HOLDUP_BANK_BELOW_20V: without J1 the module is unpowered; retained records, ring content and pending journal entries
are lost, and operating time stops (R502, R527, R530). -/
def execHoldupBankBelow20v (s : State) : Host.Outcome State Fault Refusal :=
  if s.pwr.j1Ok || s.lad.unpowered || running s then .next s
  else
    .next (s |> onPwr (fun p => { p with stage := .none }) |> onRcd (fun r => { r with buffer := [], openRec := none, operBase := operMs s, operFrom := s.tick.now })
      |> onRings (fun q => { q with rings := q.rings.map fun r => { r with pkts := [], rd := r.wr, pktRd := r.pktWr, wrShadow := r.wr } })
      |> onJrn (fun j => { j with writing := none, dirty := none })
      |> onLad fun l => { l with unpowered := true, retained := false, frozen := false, rungTime := updAt (· + sinceNs s l.rungSince / 1000000) l.rungTime l.rung, rungSince := s.tick.now })

/-- RAIL_FAULT: outputs off in hardware and the module resets; AON keeps the rail and its value, for VAON nothing (R94). -/
def execRailFault (rail value : Nat) (s : State) : Host.Outcome State Fault Refusal :=
  if s.lad.unpowered then .next s
  else .next (newDawn 7 (outputsOff s |> onPwr fun p => { p with railFault := if rail = 2 then none else some (rail, value) }))

/-- SENS_SUPPLY_FAULT: whichever supply is in current limit, both are off until the next Dawn; a fault cause of class 1 with a safe stop,
on a standby a local fault (R100, assumption 43). -/
def execSensSupplyFault (_supply : Nat) (s : State) : Host.Outcome State Fault Refusal :=
  if !s.pins.sensOn || !(running s) then .next s
  else
    let s1 := s |> onPins (fun p => { p with sensOn := false }) |> onPwr (fun p => { p with sensOff := true }) |> log srcSafety 0x1021 2 []
    .next (hardwareFault 0x1021 1 s1)

end Sys2Proof.Machine
end

