-- ==== Sys2Proof/Machine/Pair.lean ====
section
/-! DEFINITION. Redundant pair operation (R413 to R430): roles at Dawn, the contest, admission, loss of the owner,
fail-over, handover and the blob over the pair link. -/
namespace Sys2Proof.Machine

/-! ### Admission (R428, R429) -/

/-- The module may join a partner: it has not given up or lost a contest in this Dawn. -/
def mayJoin (s : State) : Bool := !s.pair.givenUp && !s.pair.contestLost

/-- A fault of the stream while the standby is in step 3 or 4 (R428). -/
def joinFault (cause : Nat) (s : State) : State :=
  if isSp s && (s.pair.partner = .images || s.pair.partner = .heartbeats) then admissionRestart cause s else s

/-- A frame that cannot be used is counted (R415). -/
def badMirror (s : State) : State := s |> onPair (fun p => { p with rxErr := satInc 32 p.rxErr }) |> joinFault causeMcrc

/-- The `MSEQ` of a good frame, judged for a gap (R428). -/
def takeSeq (r : MirrorRx) (s : State) : State :=
  let gap := match s.pair.mseqRx with | some m => decide (r.seq ≠ (m + 1) % 4294967296) | none => false
  let s1 := s |> onPair fun p => { p with mseqRx := some r.seq }
  if gap then joinFault causeGap s1 else s1

/-- A frame of a type on the pair link: its meaning where it is good and comes from the partner. -/
def onMirror (mtype : Nat) (frame : Bytes) (f : MirrorRx → State → State) (s : State) : State :=
  if !(pairOn s) then s
  else match parseMirror frame with
    | none => badMirror s
    | some r => if r.mtype ≠ mtype || r.sender = s.cfg.small.member % 256 && mtype ≠ 5 then badMirror s else f r (takeSeq r s)

/-- The partner is refused until either module's next Dawn (R428). -/
def refusePartner (step : Nat) (s : State) : State :=
  s |> onPair (fun p => { p with partner := .refused, configMatch := false }) |> log srcComm 0x0B03 2 (u16 step ++ u32 (s.pair.serialSeen.getD 0xFFFFFFFF))

/-- Step 2 begins: the own ephemeral public bytes go out (R428). -/
def keysStart (s : State) : State :=
  let sec := Config.freeBytes s.fresh 48
  let s1 := tickFresh s |> onPair fun p => { p with partner := .keys, configMatch := true, keySecret := sec, wrapKey := none }
  sendMirror 8 s.tb.time (u8 0 ++ Config.keyxSign (Config.ecdhPublic sec)) s1

/-- Section types that must agree (R428 step 1): all but NETWORK and PAIR; the first that differs. -/
def firstDiffering (s : State) (b : Bytes) : Option Nat :=
  (List.range 12).findSome? fun i => if i ≠ 6 && i ≠ 8 && nth 0 s.cfg.secCrc i ≠ getN b (20 + 4 * i) 4 then some (i + 1) else none

/-- Step 1 on a partner's HELLO (R428). -/
def judgeIdentity (r : MirrorRx) (s : State) : State :=
  let b := r.payload
  let want := s.cfg.small.partnerSerial
  let diff := firstDiffering s b
  let ok := getN b 4 1 ≠ s.cfg.small.member && (want = 0 || want = getN b 0 4) && r.format = 1 && getN b 12 4 = s.idn.stringId && diff.isNone
  if ok then keysStart s
  else s |> log srcComm 0x0B09 2 (u16 (diff.getD 0)) |> refusePartner 1

/-- One module is ACTIVE and the other STANDBY_PAIR, with the pair cable seated: the pair can join (R413, R429). -/
def joinable (r : MirrorRx) (s : State) : Bool :=
  mayJoin s && s.pins.pairCable && s.dawn.step.isNone && ((s.str.role = some .active && r.role = 2) || (isSp s && r.role = 1)) && getN r.payload 5 1 = 0xFF

/-- A HELLO in Dusk: the first with ROLE other than ACTIVE after one with ACTIVE wakes the module (R531). -/
def helloInOff (frame : Bytes) (s : State) : State :=
  if s.str.state ≠ .off || s.lad.rung ≠ 2 || s.lad.unpowered then s
  else match parseMirror frame with
    | none => s
    | some r =>
      if r.mtype ≠ 5 then s
      else if r.role = 1 then s |> onLad fun l => { l with activeSeen := true }
      else if s.lad.activeSeen then wakeDawn 3 3 s else s

/-- A partner's HELLO: what it says is kept; a refused partner in a new Dawn is judged anew; identity is judged once both
modules have a role (R413, R416, R428). -/
def takeHello (r : MirrorRx) (s : State) : State :=
  let b := r.payload
  let step := getN b 5 1
  let s1 := s |> onPair fun p => { p with
    serialSeen := some (getN b 0 4), partnerMac := some (slice b 68 6), partnerRole := some r.role, partnerStep := if step = 0xFF then none else some step
    helloSeen := true
    partner := match p.partner with | .absent => .identity | .refused => if step ≠ 0xFF then .identity else .refused | x => x }
  match s1.pair.partner with
  | .identity => if joinable r s1 then judgeIdentity r s1 else s1
  | .keys => if joinable r s1 && !s1.pair.keyHeld then sendMirror 8 s1.tb.time (u8 0 ++ Config.keyxSign (Config.ecdhPublic s1.pair.keySecret)) s1 else s1
  | _ => s1

/-- HELLO_RECEIVED. -/
def execHelloReceived (frame : Bytes) (s : State) : Host.Outcome State Fault Refusal :=
  .next (if inOff s then helloInOff frame s else onMirror 5 frame takeHello s)

/-- HELLO_DUE: every frame in D8, every 100 ms afterwards (R416). -/
def execHelloDue (s : State) : Host.Outcome State Fault Refusal :=
  let d8 := inDawn s && s.dawn.step = some 8
  if pairOn s && (d8 || elapsed s s.pair.helloAt (msNs 100)) then
    .next (s |> onPair (fun p => { p with helloAt := s.tick.now }) |> sendMirror 5 s.tb.time (helloPayload s))
  else .next s

/-- KEYX_RECEIVED: a partner's signed public bytes give the wrapping key, under which the own estimator key goes back; its
wrapped key is kept for the present Dawn (R428 step 2). -/
def takeKeyx (r : MirrorRx) (s : State) : State :=
  if s.pair.partner ≠ .keys then s
  else
    let b := r.payload.drop 1
    match getN r.payload 0 1 with
    | 0 =>
      if !(Config.keyxValid b) then refusePartner 2 s
      else
        let k := Config.hkdfSha256 (Config.ecdhShared s.pair.keySecret (Config.keyxPublic b)) [] [] 32
        s |> onPair (fun p => { p with wrapKey := some k }) |> sendMirror 8 s.tb.time (u8 1 ++ Config.keyWrap k s.idn.estKey)
    | _ =>
      match s.pair.wrapKey with
      | none => s
      | some k =>
        match Config.keyUnwrap k b with
        | none => refusePartner 2 s
        | some key =>
          s |> onPair fun p => { p with partnerKey := some key, keyHeld := true, partner := .images, imagesInStep := 0, segsRx := [], imgSeqRx := none
                                        lastSegAt := s.tick.now, sbAt := some s.tick.now, misses := 0 }

/-- KEYX_RECEIVED. -/
def execKeyxReceived (frame : Bytes) (s : State) : Host.Outcome State Fault Refusal := .next (onMirror 8 frame takeKeyx s)

/-- The partner is admitted, on either module (R428). -/
def admitPartner (s : State) : State :=
  s |> onPair (fun p => { p with partner := .admitted, misses := 0 }) |> onStr (fun x => { x with partnerAbsent := false })
    |> log srcComm 0x0B02 1 (u32 (s.pair.serialSeen.getD 0xFFFFFFFF))

/-- ADMISSION_HEARTBEATS_COMPLETE: 10 s of step 4 without a fault, its own among them, let the standby in, which drops to Afternoon
(R428, R429). -/
def execAdmissionHeartbeatsComplete (s : State) : Host.Outcome State Fault Refusal :=
  match s.pair.step4Since with
  | some t =>
    .next (if isSp s && running s && s.pair.partner = .heartbeats && !s.pair.localFault && elapsed s t (secNs 10) then
      setRung 1 (admitPartner (s |> onPair fun p => { p with cleanMs := 10000, step4Since := none })) else s)
  | none => .next s

/-- Local time of a segment's last delivery in the present wait for segments, or of the start of that wait. -/
def segAt (s : State) (n : Nat) : Nat :=
  match s.pair.segTimes.find? fun x => x.1 = n with | some x => max x.2 s.pair.lastSegAt | none => s.pair.lastSegAt

/-- IMAGE_SEGMENT_OVERDUE: a segment not delivered within two image periods takes the module back to step 3 (R429). -/
def execImageSegmentOverdue (s : State) : Host.Outcome State Fault Refusal :=
  let period := (segN s + 29) / 30
  let due := (List.range (segN s)).any fun n => elapsed s (segAt s n) (msNs (2 * period))
  if isSp s && running s && due && (s.pair.partner = .admitted || s.pair.partner = .heartbeats || s.pair.partner = .images) then
    .next (setRung 0 (admissionRestart causeSegment s))
  else .next s

/-- The owner marks its partner lost (R429). -/
def partnerLost (frames : Nat) (s : State) : State :=
  s |> onPair (fun p => { p with partner := .absent, configMatch := false, sbAt := none })
    |> onStr (fun x => { x with partnerAbsent := true }) |> log srcComm 0x0B04 2 (i32 frames)

/-- PARTNER_LOST: 10 frames without SB_STATUS on the owner (R429). -/
def execPartnerLost (s : State) : Host.Outcome State Fault Refusal :=
  match s.pair.sbAt with
  | some t =>
    .next (if s.str.role = some .active && running s && elapsed s t (msNs 10) && (s.pair.partner = .images || s.pair.partner = .heartbeats || s.pair.partner = .admitted)
      then partnerLost 10 s else s)
  | none => .next s

/-- The standby's status on the owner (R416, R428, R429). -/
def takeSb (r : MirrorRx) (s : State) : State :=
  if s.str.role ≠ some .active then s
  else
    let fl := getN r.payload 12 1
    let s1 := s |> onPair fun p => { p with sbAt := some s.tick.now, sbFault := bitAt fl 1, cleanMs := getN r.payload 8 4 }
    match s1.pair.partner with
    | .images => if bitAt fl 0 then admitPartner s1 else if 0 < getN r.payload 8 4 then s1 |> onPair (fun p => { p with partner := .heartbeats }) else s1
    | .heartbeats => if bitAt fl 0 then admitPartner s1 else if getN r.payload 8 4 = 0 then s1 |> onPair (fun p => { p with partner := .images }) else s1
    | .admitted =>
      if bitAt fl 1 || !(bitAt fl 0) then s1 |> onPair (fun p => { p with partner := .images }) |> onStr (fun x => { x with partnerAbsent := true }) else s1
    | _ => s1

/-- SB_STATUS_RECEIVED. -/
def execSbStatusReceived (frame : Bytes) (s : State) : Host.Outcome State Fault Refusal := .next (onMirror 6 frame takeSb s)

/-! ### The contest (R414) -/

/-- An ACTIVE module yields: outputs released as R422 gives, role STANDBY_PAIR, not admitted, until its next Dawn. -/
def loseContest (s : State) : State :=
  releaseOwnership s |> onPair (fun p => { p with contestLost := true }) |> log srcSafety 0x0B07 3 (u8 (1 - min 1 s.cfg.small.member))

/-- OWN_IN_RISE: OWN_IN is active; an ACTIVE module that sees it for 20 µs yields, but where both outputs rose within the
same 20 µs (`together`) module B alone does (R414). -/
def execOwnInRise (together : Bool) (s : State) : Host.Outcome State Fault Refusal :=
  let s1 := s |> onPair fun p => { p with ownIn := true, ownInSince := s.tick.now }
  if running s1 && s1.str.role = some .active && s1.pair.ownOut && (!together || s1.cfg.small.member = 1) then .next (loseContest s1) else .next s1

/-- Module B, ACTIVE, that hears an ACTIVE partner's stream yields (R414). -/
def contested (r : MirrorRx) (s : State) : Bool := s.str.role = some .active && r.role = 1 && s.cfg.small.member = 1

/-! ### Taking ownership (R424, R425, R427) -/

/-- The standby holds the CONTROL frame of the current or the previous frame, to half a tick (R424). -/
def controlFresh (s : State) : Bool := match s.pair.control with | some c => decide (s.tb.time < c.tick + 1975000) | none => false

/-- The ring goes on where the owner left it (R220): the snapshot of the present cycle, the sets being read with what the stream
brought of them, and every read not in a bank of the stream is asked for again in its windows (R206). -/
def takeRing (s : State) : State :=
  let m := fun (k : Nat) => nth {} s.skl.marks k
  let c := s.tick.c
  let here := (match s.tab.volt.current with | some b => decide (b.at_ = (m 0).at_) | none => false) || decide (4 ≤ s.tick.f)
  let id := if here then s.skl.snapId.getD 0 else nextSnap s
  let dId := if here || c % 10 ≠ 0 then s.skl.dSnap else id
  let tId := if here || c ≠ 0 then s.skl.tSnap else id
  let start := fun (k n id : Nat) (g : Banked) => (g.start n id (m k).word (m k).q (m k).time (m k).at_).1
  s |> onSkl (fun l => { l with
      snapId := some id, snapUsed := some id, vSnapAt := (m 0).at_, dSnap := dId, dSnapAt := (m 1).at_, tSnap := tId, tSnapAt := (m 2).at_ })
    |> onTab (fun t => { t with
      volt := if here then t.volt else start 0 (geoP s) id t.volt
      drop := start 1 (geoP s * geoS s) dId t.drop, temp := start 2 (geoP s * 8) tId t.temp })
    |> onMons fun i x => { x with
      reachable := x.state = .admitted || x.state = .quarantine
      vDone := here, vAsked := here, dDone := false, dAsked := decide (i % 10 ≤ c % 10), tDone := false, tAsked := decide (i ≤ c) }

/-- Ownership is taken, at a declared loss or at H_TICK: OWN_OUT, role, Skaley side; the first frames follow. -/
def takeOwnership (cause : Nat) (s : State) : State :=
  s |> setRung 0
    |> onPair (fun p => { p with ownOut := true, takeover := some (s.tick.now, cause), partner := if cause = 2 then .admitted else .absent, hTick := none, handoverPending := false
                                 sbAt := if cause = 2 then some s.tick.now else none })
    |> onStr (fun x => { x with role := some .active, mirrored := false, partnerAbsent := decide (cause ≠ 2) })
    |> onPins (fun p => { p with sklTx := true }) |> onDsp (fun d => { d with spHold := 0, lvChg := none, lvDis := none }) |> takeRing
    |> setSync .holdover

/-- The owner is declared lost (R423, R424): the checks pass and ownership is taken, or the loss alone is logged. -/
def ownerLost (cause : Nat) (s : State) : State :=
  if s.pair.partner ≠ .admitted then log srcSafety 0x0B0B 3 (u16 1) s
  else if !(controlFresh s) then log srcSafety 0x0B0B 3 (u16 2) s
  else takeOwnership cause s

/-- OWN_IN_FALL: OWN_IN has been off for 5 µs; a standby declares the owner lost, which takes ownership only where it is admitted
(R423), unless a handover is under way. -/
def execOwnInFall (s : State) : Host.Outcome State Fault Refusal :=
  let s1 := s |> onPair fun p => { p with ownIn := false, ownInSince := s.tick.now }
  if running s1 && isSp s1 && s1.pair.hTick.isNone then .next (ownerLost 0 s1) else .next s1

/-- HEARTBEAT_DEADLINE: at the tick edge + 30 µs the tick's heartbeat has been latched, or is missed; the first two misses in a
row are counted, and the third declares the owner lost (R423). -/
def execHeartbeatDeadline (s : State) : Host.Outcome State Fault Refusal :=
  if !(isSp s) || !(running s) || s.pair.lastBeatAt.isNone then .next s
  else if s.pair.beatThisTick then
    .next (s |> onPair fun p => { p with beatThisTick := false, misses := 0, cleanMs := match p.step4Since with | some t => sinceNs s t / 1000000 | none => p.cleanMs })
  else
    let n := s.pair.misses + 1
    let s1 := s |> onPair (fun p => { p with misses := n, hbMissCnt := if n < 3 then satInc 32 p.hbMissCnt else p.hbMissCnt }) |> joinFault causeMissed
    let s2 := s1 |> onPair fun p => { p with misses := n }
    if n = 3 then .next (ownerLost 1 s2) else .next s2

/-- Duty the mapper would need for the words of the last heartbeat: the preset output of a phase loop (R312), mV. -/
def presetOut (s : State) (k : Nat) (b : MirrorBeat) (m : ConvMode) : Int :=
  let d := fun (n : Nat) => ((nth 0 b.duty n % 16777216 : Nat) : Rat) / 320000
  let vs := vStrTick s
  let vb := vBusTick s
  roundAway (match m with
    | .busLeg => d (2 * k + 1) * vb - vs
    | .strLeg => vb - d (2 * k) * vs
    | .both => d (2 * k + 1) * vb - (s.cfg.conv.dFix : Rat) / 10000 * vs)

/-- Converter mode of a code. -/
def convModeOf : Nat → Option ConvMode
  | 0 => some .busLeg | 1 => some .strLeg | 2 => some .both | _ => none

/-- The converter continues on the mirrored words (R312, R424): slots preset, ports carrying the last `HB_DUTY`. -/
def continueConv (b : MirrorBeat) (s : State) : State :=
  let mode := convModeOf b.mode
  let reg := regulatingState s.str.state && mode.isSome
  s |> onCnv fun c => { c with
    mode := mode, modeNext := mode, regulating := reg, y3 := b.ref, y3Next := b.ref
    slots := mapI (fun i (x : Slot) => { x with
      started := reg || decide (6 ≤ i), softStart := false
      preset := if !reg then none else match mode with
        | some m => if i < 3 then some (presetOut s i b m) else if i = 3 then some b.ref else none
        | none => none }) c.slots
    ports := mapI (fun n (q : GlPort) => { q with
      dutyNext := nth 0 b.duty n % 16777216, holdNext := bitAt (nth 0 b.duty n) 31, duty := nth 0 b.duty n % 16777216, holdOn := bitAt (nth 0 b.duty n) 31
      clrLeft := 0, seen := false, bad := 0 }) c.ports }

/-- The coulomb counter and its totals continue from the mirrored ones with the module's own increments (R425). -/
def continueCoulomb (b : MirrorBeat) (s : State) : State :=
  let inOut := match s.pair.control with
    | some c => (getI c.payload 968 8 + (s.met.inTot.q - c.ownIn), getI c.payload 976 8 + (s.met.outTot.q - c.ownOut))
    | none => (s.met.inTot.q, s.met.outTot.q)
  s |> onMet fun m => { m with
    qTot := { m.qTot with q := b.q + (m.qTot.q - b.ownQ) }, inTot := { m.inTot with q := inOut.1 }, outTot := { m.outTot with q := inOut.2 } }

/-- A sweep's interrupted block starts anew, not before the interrupted lock-in is over (R296); its excitation has ended. -/
def continueSweep (s : State) : State :=
  s |> onImp fun i => { i with
    exc := none, lastLockinEnd := i.lockEnd
    sweep := i.sweep.map fun w =>
      { w with st := if w.st = 6 then 6 else 1, startAt := 0, lockSent := false, again := false, keep := none, notBefore := i.lockEnd + 1000000 } }

/-- The coils the mirrored contactor states hold driven, at hold level from the first frame (R69, R424). -/
def continueCoils (s : State) : State :=
  (List.range 3).foldl (fun t k =>
    let c := contAt t k
    if c.state = 1 || c.state = 2 then t |> onContactor k fun c => { c with coil := true, state := 2, since := s.tick.now - 1000000000, wasClosed := c.aux, badFrames := 0, hsOk := true }
    else t) s

/-- FAILOVER_FIRST_FRAME: for t_ref of the tenth tick after the declaration (the second after H_TICK) the new owner's first
frames go out and it continues the owner's state (R424, R425, R427). -/
def execFailoverFirstFrame (s : State) : Host.Outcome State Fault Refusal :=
  match s.pair.takeover, s.pair.beat with
  | some (t, cause), some b =>
    if !(elapsed s t ((if cause = 2 then 2 else 10) * 50000)) then .next s
    else
      let gap := match s.pair.lastBeatAt with | some x => sinceNs s x / 1000 | none => 0
      let s1 := s |> onPair (fun p => { p with
          takeover := none, graceTicks := 40, failoverCnt := if cause = 2 then p.failoverCnt else satInc 32 p.failoverCnt
          failoverLast := some s.tb.time, failoverGap := gap, failoverCause := some cause, lastBeatAt := none, misses := 0 })
        |> continueConv b |> continueCoulomb b |> continueSweep |> continueCoils
        |> onProt (fun p => { p with noPulses := true, evaluating := true, tests := p.tests.map fun x => { x with served := true } })
        |> canOn |> refreshSafeOut
      let s2 := imdUpdate s1
      .next (s2 |> dutyTransfer |> log srcSafety 0x0B06 2 (u8 cause ++ u32 gap))
  | some (t, _), none => .next (if elapsed s t 500000 then s |> onPair (fun p => { p with takeover := none }) |> log srcSafety 0x0B0B 3 (u16 2) else s)
  | none, _ => .next s

/-! ### The stream on the standby (R417 to R419) -/

/-- The frame belongs to the module's own present tick. -/
def tickMatches (r : MirrorRx) (s : State) : Bool := ((r.mtick : Int) - (s.tb.time : Int)).natAbs ≤ 25000

/-- A HEARTBEAT latched (R417, R423). -/
def takeBeat (r : MirrorRx) (s : State) : State :=
  if contested r s then loseContest s
  else if !(isSp s) || s.pair.takeover.isSome then s
  else if tickMatches r s && bitAt (getN r.payload 1 1) 0 then
    s |> onPair fun p => { p with beat := some (parseBeat s r), beatThisTick := true, lastBeatAt := some s.tick.now }
  else s

/-- MIRROR_HEARTBEAT_RECEIVED. -/
def execMirrorHeartbeatReceived (frame : Bytes) (s : State) : Host.Outcome State Fault Refusal := .next (onMirror 1 frame takeBeat s)

/-- The servo of R124 on the tick marker, whose start-of-frame source 152 latches: the stamp on the module's own counter against
its own edge of the tick the marker names, + 10 µs. That edge is the counter value `MTICK`, since every tick edge is one of
the counter (R105) and the markers are its source (R106). The law of R113 runs on it, without a step (R114). -/
def pairServo (r : MirrorRx) (sfd : Nat) (s : State) : State :=
  let x := sfdStamp 152 sfd s
  match x.1 with
  | none => x.2
  | some l => if s.tb.sync ≠ .pairFollow then x.2 else runServo (l - s.idn.sfpRx - ((r.mtick : Int) + 10000)) x.2

/-- A CONTROL frame: the state groups, the tick marker, and the heartbeat of tick 0 (R416, R418). -/
def takeControlFrame (sfd : Nat) (r : MirrorRx) (s : State) : State :=
  if contested r s then loseContest s
  else if !(isSp s) || s.pair.takeover.isSome then s
  else
    let s1 := pairServo r sfd s
    let s2 := s1 |> takeControl r.payload |> onPair fun p => { p with
      control := some { tick := r.mtick, payload := r.payload, ownIn := s.met.inTot.q, ownOut := s.met.outTot.q } }
    if tickMatches r s2 then s2 |> onPair fun p => { p with beatThisTick := true, lastBeatAt := some s.tick.now } else s2

/-- MIRROR_CONTROL_RECEIVED. -/
def execMirrorControlReceived (frame : Bytes) (sfd : Nat) (s : State) : Host.Outcome State Fault Refusal :=
  .next (onMirror 2 frame (takeControlFrame sfd) s)

/-- MIRROR_BANK_RECEIVED (R416). -/
def execMirrorBankReceived (frame : Bytes) (s : State) : Host.Outcome State Fault Refusal :=
  .next (onMirror 3 frame (fun r t => if isSp t then takeBank r.payload t else t) s)

/-- A segment (R419): into the tables at its place; with every segment of one `IMG_SEQ` the image is complete, its state
region is taken, and two in a row end step 3 (R428). -/
def takeImage (r : MirrorRx) (s : State) : State :=
  let b := r.payload
  let img := getN b 0 4
  let seg := getN b 4 2
  let n := getN b 6 2
  if !(isSp s) || b.length < 1032 || n ≠ segN s || n ≤ seg then s
  else
    let data := slice b 8 1024
    let same := s.pair.imgSeqRx = some img
    let s1 := s |> onPair (fun p => { p with
        imgSeqRx := some img, segsRx := seg :: (if same then p.segsRx.filter (· ≠ seg) else []), imageSegs := some n, segTimes := (seg, s.tick.now) :: p.segTimes.filter fun x => x.1 ≠ seg
        image := (seg, data) :: p.image.filter fun x => x.1 ≠ seg })
      |> takeSegment seg data
    if s1.pair.segsRx.length < n then s1
    else
      let s2 := takeRegion (regionBytes s1) s1 |> onPair fun p => { p with imageCnt := satInc 32 p.imageCnt, segsRx := [], imgSeqRx := none, imagesInStep := p.imagesInStep + 1 }
      if s2.pair.partner = .images && 2 ≤ s2.pair.imagesInStep then
        s2 |> onPair fun p => { p with partner := .heartbeats, step4Since := some s2.tick.now, cleanMs := 0, misses := 0 }
      else s2

/-- MIRROR_IMAGE_SEGMENT_RECEIVED. -/
def execMirrorImageSegmentReceived (frame : Bytes) (s : State) : Host.Outcome State Fault Refusal := .next (onMirror 4 frame takeImage s)

/-! ### Handover (R422, R427, R535) -/

/-- What was waiting for a handover acts: with ownership handed over (`done`), or without (R422, R535). -/
def afterHandover (kind : Nat) (done : Bool) (s : State) : State :=
  match kind with
  | 1 => newDawn 4 s
  | 2 => enterOff 2 0 false s
  | 3 => if done then enterFreeze 2 false s else freezeOn 2 s.tick.now s
  | 4 => if done then enterFreeze 1 false s else freezeOn 1 s.tick.now s
  | 5 => if done then safeStop false s else deactivate 0x1114 (decideFault 0x1114 0 false 0 s)
  | 6 => newDawn 6 s
  | 7 => newDawn 5 s
  | _ => s

/-- A handover request goes out, with what follows it and the host request that waits for the answer. One that is already
under way serves the later request too. -/
def startHandover (kind : Nat) (req : Option HostReq) (s : State) : State :=
  let h := s.tb.time + 20000000
  if s.pair.handoverPending && s.pair.hYields then
    s |> onPair fun p => { p with hThen := if kind = 0 then p.hThen else kind, hReq := match p.hReq with | some r => some r | none => req }
  else s |> onPair (fun p => { p with hTick := some h, hYields := true, hAccepted := false, hSentAt := s.tick.now, hThen := kind, hReq := req, handoverPending := true })
    |> sendHandover h 0

/-- The handover is off. -/
def clearHandover (s : State) : State :=
  s |> onPair fun p => { p with hTick := none, hYields := false, hAccepted := false, hThen := 0, hReq := none, handoverPending := false }

/-- A refusal, or no answer within 5 ms: PAIR_HANDOVER returns STATE; anything else acts without a handover. -/
def handoverOff (s : State) : State :=
  let kind := s.pair.hThen
  let s1 := clearHandover s
  afterHandover kind false (match s.pair.hReq with | some r => refuseState r s1 | none => s1)

/-- A HANDOVER frame (R427). -/
def takeHandover (r : MirrorRx) (s : State) : State :=
  let h := getN r.payload 0 8
  match getN r.payload 8 1 with
  | 0 =>
    if isSp s && s.pair.partner = .admitted then
      s |> setRung 0 |> onPair (fun p => { p with hTick := some h, hYields := false, hAccepted := true, handoverPending := true }) |> sendHandover h 1
    else sendHandover h 2 s
  | 1 =>
    if s.pair.hYields && s.pair.hTick = some h && !s.pair.hAccepted then
      let s1 := s |> onPair fun p => { p with hAccepted := true, hReq := none }
      match s.pair.hReq with | some q => respond q stOk [] s1 | none => s1
    else s
  | _ => if s.pair.hYields && s.pair.hTick = some h then handoverOff s else s

/-- HANDOVER_RECEIVED. -/
def execHandoverReceived (frame : Bytes) (s : State) : Host.Outcome State Fault Refusal := .next (onMirror 7 frame takeHandover s)

/-- HANDOVER_ACCEPT_TIMEOUT: no answer within 5 ms. -/
def execHandoverAcceptTimeout (s : State) : Host.Outcome State Fault Refusal :=
  .next (if running s && s.pair.hYields && s.pair.hTick.isSome && !s.pair.hAccepted && elapsed s s.pair.hSentAt (msNs 5) then handoverOff s else s)

/-- The owner yields at H_TICK: outputs released, role STANDBY_PAIR, still admitted (R427). -/
def yieldOwnership (s : State) : State :=
  s |> onPins (fun p => { p with gate := List.replicate 6 .dark, sklTx := false }) |> coilsOff |> openSafeOut |> openImd
    |> onPair (fun p => { p with ownOut := false, partner := .admitted, lastBeatAt := none, misses := 0, beatThisTick := false, lastSegAt := s.tick.now })
    |> onStr (fun x => { x with role := some .standbyPair, mirrored := true }) |> thermOff |> canOff |> setSync .pairFollow

/-- HANDOVER_TICK: at H_TICK the owner releases OWN_OUT and the partner asserts it (R427). -/
def execHandoverTick (s : State) : Host.Outcome State Fault Refusal :=
  match s.pair.hTick with
  | none => .next s
  | some h =>
    if !(running s) || s.tb.time + 50000 < h || !s.pair.hAccepted then .next s
    else
      let kind := s.pair.hThen
      let done := fun (t : State) => log srcSafety 0x0B08 1 (u64 h) t
      if s.pair.hYields then .next (afterHandover kind true (done (yieldOwnership (clearHandover s))))
      else .next (done (takeOwnership 2 (clearHandover s)))

/-! ### Roles at Dawn (R413) -/

/-- The row of R413 that applies when listening ends. -/
def roleRow (s : State) : Nat :=
  if !s.cfg.safety.pair then 1
  else if s.dawn.ownInD7 || s.pair.ownIn then 2
  else if !s.pins.pairCable then 3
  else if s.pair.helloSeen && s.pair.partnerRole = some 1 then 4
  else if s.pair.helloSeen && s.pair.partnerStep = some 8 then 5
  else 6

/-- The role is taken (R41, R413). -/
def decideRole (s : State) : State :=
  let row := roleRow s
  let a := s.cfg.small.member = 0
  let role : PairRole := match row with
    | 1 => .solo | 2 => .standbyPair | 3 => if a then .active else .standbyPair | 4 => .standbyPair | 5 => if a then .active else .standbyPair | _ => .active
  let s1 := s |> onStr (fun x => { x with role := some role, mirrored := false, partnerAbsent := decide (role = .active) })
    |> onPair (fun p => { p with ownOut := decide (role = .active) })
  let s2 := log srcSafety 0x0B01 1 (u16 row ++ u8 (roleCode s1)) s1
  if role = .standbyPair then setSync .pairFollow s2 else s2

/-- HELLO_LISTEN_TIMEOUT: 300 ms of D8 have passed, and the role is decided (R413). -/
def execHelloListenTimeout (s : State) : Host.Outcome State Fault Refusal :=
  .next (if inDawn s && s.dawn.step = some 8 && s.str.role.isNone && elapsed s s.dawn.stepSince (msNs 300) then decideRole s else s)

/-! ### The blob over the pair link (R430) -/

/-- The module asks its partner for estimator state. -/
def askBlob (s : State) : State :=
  if mirrorOn s || (pairOn s && s.pair.partnerMac.isSome) then s |> onPair (fun p => { p with blobAsked := true }) |> sendMirror 9 s.tb.time [] else s

/-- A blob goes out in pieces of 1,024 bytes; an empty one says there is none. -/
def sendBlob (b : Blob) (s : State) : State :=
  let n := b.bytes.length
  if n = 0 then sendMirror 9 s.tb.time (u64 0 ++ u32 0 ++ u32 0) s
  else (List.range ((n + 1023) / 1024)).foldl (fun t i => sendMirror 9 t.tb.time (u64 b.seq ++ u32 (1024 * i) ++ u32 n ++ (b.bytes.drop (1024 * i)).take 1024) t) s

/-- The module can answer for the string's estimator state: it runs the estimator, or holds a complete image of this Dawn. -/
def holdsState (s : State) : Bool := (!(isSp s) && (s.est.mode = .running || s.est.mode = .coldConverging)) || (isSp s && decide (0 < s.pair.imageCnt))

/-- A partner's blob is judged as R430 gives and taken. -/
def judgePairBlob (b : Bytes) (s : State) : State :=
  let key := match s.pair.partnerKey with | some k => blobMacOk k b | none => false
  if restoreOpen s && blobHeaderOk b && blobCrcOk b && key && blobGeoOk s b then applyBlob true b s else s

/-- Bytes of a received blob in offset order. -/
def gatherBlob (l : List (Nat × Bytes)) (n : Nat) : Bytes :=
  (eachN ((n + 1023) / 1024) fun i => match l.find? fun x => x.1 = 1024 * i with | some x => x.2 | none => []).take n

/-- A BLOB frame: a request, a refusal, or a piece (R430). -/
def takeBlobFrame (r : MirrorRx) (s : State) : State :=
  let b := r.payload
  if b = [] then
    let blob : Blob := if holdsState s then { seq := s.est.blobNum + 1, bytes := buildBlob s (s.est.blobNum + 1) } else { seq := 0, bytes := [] }
    sendBlob blob s
  else
    let n := getN b 12 4
    if n = 0 || !s.pair.blobAsked then s |> onPair fun p => { p with blobRx := [], blobAsked := false }
    else
      let l := (getN b 8 4, b.drop 16) :: s.pair.blobRx.filter fun x => x.1 ≠ getN b 8 4
      let got := l.foldl (fun a x => a + x.2.length) 0
      if got < n then s |> onPair fun p => { p with blobRx := l, blobLen := n }
      else s |> onPair (fun p => { p with blobRx := [], blobLen := 0, blobAsked := false }) |> judgePairBlob (gatherBlob l n)

/-- BLOB_RECEIVED. -/
def execBlobReceived (frame : Bytes) (s : State) : Host.Outcome State Fault Refusal := .next (onMirror 9 frame takeBlobFrame s)

end Sys2Proof.Machine
end

