-- ==== Sys2Proof/Machine/Ladder.lean ====
section
/-! DEFINITION. Power ladder, reset input and freeze (R527 to R536): the Afternoon re-entry, the classes of a reset
closure, and FREEZE_N. -/
namespace Sys2Proof.Machine

/-! ### Afternoon (R529) -/

/-- Nothing keeps an admitted standby at Noon (R529). -/
def standbyIdle (s : State) : Bool :=
  let empty := fun n => (ringAt s n).fillPkts = 0
  let sess := s.host.sessions.filterMap fun o => o
  empty 0 && empty 1 && empty 2 && empty 3 && empty 56 && s.host.commands.isEmpty
    && sess.all (fun x => x.waiting.isEmpty && x.subs.isEmpty && x.minSev = 0xFF && x.launchOfs = 0xFFFF)
    && (mapI (fun i (_ : Option Session) => decide ((ringAt s (8 + i)).fillPkts = 0)) s.host.sessions).all (· = true)
    && (s.ops.ops.all fun o => !(o.opState = 0 && (o.kind = 6 || o.kind = 7)))
    && s.out.held.all fun x => match x.2 with | .response _ _ => false | .notify _ _ => false | _ => true

/-- The start of the idle time of R529, taken at each tick edge. -/
def idleWatch (s : State) : State :=
  s |> onLad fun l => { l with
    idleSince := if isSp s && l.rung = 0 && standbyIdle s then (match l.idleSince with | some t => some t | none => some s.tick.now) else none }

/-- AFTERNOON_REENTRY: an admitted standby idle for 10 ms at Noon goes to Afternoon (R529), but for one that a handover keeps at
Noon (R427). -/
def execAfternoonReentry (s : State) : Host.Outcome State Fault Refusal :=
  match s.lad.idleSince with
  | some t =>
    if running s && isSp s && partnerAdmitted s && !s.pair.handoverPending && s.lad.rung = 0 && standbyIdle s && elapsed s t (msNs 10) then
      .next (s |> setRung 1 |> onLad fun l => { l with idleSince := none })
    else .next s
  | none => .next s

/-- A commit to a host intake ring or ring 56 takes an admitted standby from Afternoon to Noon (R529). -/
def wakeForHost (s : State) : State := if s.lad.rung = 1 then setRung 0 s else s

/-! ### The reset input (R532 to R534) -/

/-- `RESET_PRESS_CNT`, by class: 0 bounce, 1 press, 2 hold, 3 stuck. -/
def countPress (k : Nat) (s : State) : State := s |> onLad fun l => { l with pressCnt := updAt (satInc 32) l.pressCnt k }

/-- The reset input restarts the module from the present state (R35, R531); an owner with an admitted partner hands over
first (R422). -/
def resetRestart (s : State) : State :=
  if inOff s && !s.lad.frozen then wakeDawn 5 1 s
  else if !s.lad.frozen && s.str.role = some .active && partnerAdmitted s && !(s.str.state = .dawn) then startHandover 7 none s
  else newDawn 5 s

/-- States in which a press restarts (R532). -/
def pressRestarts (s : State) : Bool :=
  s.lad.frozen || isSp s || s.str.state = .off || s.str.state = .standby || s.str.state = .fault || s.str.state = .service

/-- A closure ends after `ms` (R532): bounce, press or hold end. A frozen module restarts on any of at least 50 ms (R536). -/
def releaseAfter (ms : Nat) (s : State) : State :=
  let s1 := s |> onLad fun l => { l with holdActive := false }
  if ms < 50 then countPress 0 s1
  else if ms < 2000 then
    let s2 := s1 |> countPress 1 |> log srcAon 0x1112 1 (u32 ms)
    if pressRestarts s then s2 |> onLad (fun l => { l with ignoredLast := false }) |> resetRestart
    else s2 |> onLad (fun l => { l with ignoredLast := true }) |> log srcAon 0x1113 1 (u8 s.str.state.code)
  else if ms < 10000 then resetRestart s1
  else s1

/-- RESET_INPUT_CHANGE: the input closes, or opens after a closure that is judged by its length in ms; a disabled input acts on
nothing (R532, R534). -/
def execResetInputChange (closed : Bool) (_ms : Nat) (s : State) : Host.Outcome State Fault Refusal :=
  if s.lad.unpowered || closed = s.lad.closed then .next s
  else
    let s1 := s |> onPins (fun p => { p with resetLow := closed })
      |> onLad (fun l => { l with closed := closed, closedSince := if closed then s.tick.now else l.closedSince
                                  openSince := if closed then none else some s.tick.now })
      |> irqEvent 164 closed
    if closed || s.lad.resetDisabled then .next s1 else .next (releaseAfter (sinceNs s s.lad.closedSince / 1000000) s1)

/-- RESET_HOLD: at 2 s, active outputs make the FAULT decision with its safe stop, after a handover where a partner is
admitted; in every other state nothing happens before release (R533). -/
def execResetHold (s : State) : Host.Outcome State Fault Refusal :=
  if s.lad.unpowered || !s.lad.closed || s.lad.resetDisabled || s.lad.holdActive || !(elapsed s s.lad.closedSince (secNs 2)) then .next s
  else
    let s1 := s |> onLad (fun l => { l with holdActive := true }) |> countPress 2 |> log srcAon 0x1114 2 (u8 s.str.state.code)
    if s.lad.frozen || !(activeState s) then .next s1
    else if s.str.role = some .active && partnerAdmitted s then .next (startHandover 5 none s1)
    else .next (s1 |> decideFault 0x1114 0 false 0 |> deactivate 0x1114)

/-- The input is disabled (R534): `data` 0 at 10 s, 1 at D0. -/
def resetDisable (data : Nat) (s : State) : State :=
  s |> onLad (fun l => { l with resetDisabled := true, disabledSince := s.tick.now, holdActive := false, stuckAtPowerup := data = 1 })
    |> countPress 3 |> log srcAon 0x1115 2 (u16 data)

/-- RESET_STUCK: a closure reaches 10 s and disables the input; a freeze ends by it (R534, R536). -/
def execResetStuck (s : State) : Host.Outcome State Fault Refusal :=
  if s.lad.unpowered || !s.lad.closed || s.lad.resetDisabled || !(elapsed s s.lad.closedSince (secNs 10)) then .next s
  else if s.lad.frozen then .next (newDawn 5 (countPress 3 s))
  else .next (resetDisable 0 s)

/-- RESET_RELEASED: a disabled input that has read open for 1 s without a break acts again (R534). -/
def execResetReleased (s : State) : Host.Outcome State Fault Refusal :=
  match s.lad.openSince with
  | some t =>
    if !s.lad.unpowered && s.lad.resetDisabled && !s.lad.closed && elapsed s t (secNs 1) then
      .next (s |> onLad (fun l => { l with resetDisabled := false })
        |> log srcAon 0x1116 1 (u32 (sinceNs s s.lad.disabledSince / 1000000)))
    else .next s
  | none => .next s

/-! ### Freeze (R535) -/

/-- A freeze is accepted with a trigger, 1 FREEZE_N or 2 FREEZE (R535): an owner with an admitted partner hands over first. -/
def freezeAccept (trigger : Nat) (s : State) : State :=
  if s.lad.frozen || s.lad.freezeReq.isSome then s
  else if s.str.role = some .active && partnerAdmitted s then
    s |> startHandover (if trigger = 1 then 4 else 3) none |> onLad fun l => { l with freezeReq := some (trigger, 1, s.tick.now) }
  else freezeOn trigger s.tick.now s

/-- FREEZE_N_ASSERTED: low for 1 ms requests a freeze in every state but OFF, where it is only counted (R535). -/
def execFreezeNAsserted (s : State) : Host.Outcome State Fault Refusal :=
  if s.lad.unpowered then .next s
  else
    let s1 := s |> onPins (fun p => { p with freezeLow := true }) |> irqEvent 165 false
    if inOff s then .next s1 else .next (freezeAccept 1 s1)

end Sys2Proof.Machine
end

