-- ==== Sys2Proof/Machine/Host.lean ====
section
/-! DEFINITION. Host protocol (R435 to R462): datagrams, sessions, the SEQ window, the session commands, notifications,
ARP, ICMP and Modbus TCP. -/
namespace Sys2Proof.Machine

/-! ### Datagrams (R437 to R439) -/

/-- A datagram as received, with the binding it came from. -/
structure RxDgram where
  port : Nat
  addr : Nat
  udp : Nat
  bytes : Bytes
  /-- Its place in the order of arrival (R38). -/
  no : Nat := 0
  deriving DecidableEq, Repr

def RxDgram.kind (d : RxDgram) : Nat := getN d.bytes 5 1
def RxDgram.session (d : RxDgram) : Nat := getN d.bytes 6 2
def RxDgram.seq (d : RxDgram) : Nat := getN d.bytes 8 4
def RxDgram.code (d : RxDgram) : Nat := getN d.bytes 12 2
def RxDgram.len (d : RxDgram) : Nat := getN d.bytes 16 2
def RxDgram.payload (d : RxDgram) : Bytes := slice d.bytes 24 d.len
def RxDgram.tag (d : RxDgram) : Bytes := slice d.bytes (24 + d.len) 16

/-- Its form is right: `MAGIC`, `VER`, and `LEN` against the UDP length (R437). -/
def RxDgram.formOk (d : RxDgram) : Bool :=
  decide (40 ≤ d.bytes.length) && getN d.bytes 0 4 = 0x5053564B && getN d.bytes 4 1 = 1
    && decide (d.len ≤ 1400) && d.bytes.length = 40 + d.len

/-- As a request. -/
def RxDgram.req (d : RxDgram) : HostReq :=
  { session := d.session, port := d.port, addr := d.addr, udp := d.udp, seq := d.seq, code := d.code, args := d.payload }

/-- As a ring packet, and back. -/
def RxDgram.packet (d : RxDgram) : Packet := mkPacket 1 (u8 d.port ++ u32 d.addr ++ u16 d.udp ++ u64 d.no ++ d.bytes)
def RxDgram.ofPacket (p : Packet) : RxDgram :=
  { port := getN p.bytes 0 1, addr := getN p.bytes 1 4, udp := getN p.bytes 5 2, no := getN p.bytes 7 8, bytes := p.bytes.drop 15 }

/-- The boot ROM's recovery runs (R546). -/
def recoveryUp (s : State) : Bool := s.upd.recovery && running s

/-- Host requests are served: from D9 on (R132), or in recovery, where only sessions are (R546). -/
def serves (s : State) (r : HostReq) : Bool := netUp s || (recoveryUp s && decide (r.session ≠ 0))

/-- A port carries the host protocol: enabled in `HOST_PORTS` with its link up, or the mated service port, which alone is
served in recovery (R437, R546, R552). -/
def portServes (s : State) (port : Nat) : Bool :=
  if port < 2 then !s.upd.recovery && bitAt s.cfg.net.hostPorts port && linkUpAt s port else port = 2 && s.host.usbMated

/-- A source is admitted by `ALLOW_ADDR` and `ALLOW_MASK`; the service port has no address to judge (R436, R444). -/
def sourceOk (s : State) (port addr : Nat) : Bool :=
  port = 2 || Nat.land addr s.cfg.net.allowMask = Nat.land s.cfg.net.allowAddr s.cfg.net.allowMask

/-- Intake ring of a datagram (R456), or ring 56 of the service port (R488). -/
def RxDgram.ring (d : RxDgram) : Nat := if d.port = 2 then 56 else if d.kind = 1 then intakeRing d.code else 1

/-! ### Refusals -/

/-- AUTH_FAILED, at most once per 60 s for each source address (R462). -/
def authFailed (addr slot : Nat) (s : State) : State :=
  let g := match s.host.authGates.find? (fun x => x.1 = addr) with | some x => x.2 | none => {}
  let r := g.pass s
  let s1 := s |> onHost fun h => { h with authGates := (h.authGates.filter fun x => x.1 ≠ addr) ++ [(addr, r.2.2)] }
  if r.1 then log srcComm 0x0C03 2 (u32 addr ++ u8 slot ++ u32 r.2.1) s1 else s1

/-- AUTH, with `SESSION` 0 and a zero tag (R441, R442). -/
def answerAuth (r : HostReq) (s : State) : State := answerOnce { r with session := 0 } stAuth [] s

/-- OVERLOAD at once, formed without a ring, and HOST_OVERLOAD at most once per 60 s per ring (R456, R457). Gate 4 is that
of ring 56. -/
def answerOverload (r : HostReq) (ring : Nat) (s : State) : State :=
  let k := ring % 52
  let g := (nth {} s.host.overloadGates k).pass s
  let s1 := s |> onHost (fun h => { h with overloadGates := setAt h.overloadGates k g.2.2 }) |> countStatus stOverload
  let s2 := if g.1 then log srcComm 0x0C05 1 (u16 ring ++ u32 g.2.1) s1 else s1
  (responseDgrams s2 r stOverload []).foldl (fun t d => emitDgram d t) s2

/-- An intake ring holds 192 or more entries, or has no room for the frame: a host request is never silently dropped by its
ring, so a frame without room is answered OVERLOAD too (R457, R494). -/
def ringLoaded (s : State) (d : RxDgram) : Bool :=
  decide (192 ≤ (ringAt s d.ring).fillPkts) || !((ringAt s d.ring).fits d.packet.len)

/-- A frame enters its intake ring, and an admitted standby in Afternoon wakes (R529). -/
def queueDgram (d : RxDgram) (s : State) : State :=
  s |> onHost (fun h => { h with arrived := h.arrived + 1 }) |> ringPut d.ring { d with no := s.host.arrived + 1 }.packet |> wakeForHost

/-! ### Requests in a session (R439 to R443, R457) -/

/-- A session request whose tag and binding are right: the SEQ rules of R442, the limits of R457, then its ring. -/
def seqRequest (x : Session) (d : RxDgram) (s : State) : State :=
  let q := d.seq
  let r := d.req
  if x.cache.any (fun c => c.seq = q) then
    let again := (x.cache.filter fun c => c.seq = q).map fun c =>
      Dgram.tagged { c with flags := if c.flags % 2 = 1 then c.flags else c.flags + 1 } x.key
    again.foldl (fun t c => sendDgram (4 + d.ring) c t) (s |> onHost fun h => { h with cnt := updAt (satInc 32) h.cnt 4 })
  else if x.waiting.contains q then s
  else if x.seen.contains q || !(decide (x.highest < q) || (decide (q < x.highest) && decide (x.highest ≤ q + 63))) then
    s |> log srcComm 0x0C04 1 (u16 x.id ++ u32 q) |> answerOnce r stIntegrity []
  else if decide (16 ≤ x.waiting.length) || ringLoaded s d then answerOverload r d.ring s
  else
    let top := max x.highest q
    s |> onSession x.id (fun y => { y with
          highest := top, seen := ((q :: y.seen).filter fun v => decide (top ≤ v + 63)), waiting := y.waiting ++ [q] })
      |> onHost (fun h => { h with cnt := updAt (satInc 32) h.cnt 0 })
      |> queueDgram d

/-- A request datagram: without a session only READ; in one, the binding, then the tag (R439, R441, R444). -/
def receiveRequest (d : RxDgram) (s : State) : State :=
  let r := d.req
  if d.session = 0 then
    if d.code ≠ 0x0100 then answerAuth r s
    else if ringLoaded s d then answerOverload r d.ring s
    else queueDgram d s
  else match findSession s d.session with
    | none => s |> authFailed d.addr 0xFF |> answerAuth r
    | some x =>
      if x.state ≠ 2 || x.port ≠ d.port || x.addr ≠ d.addr || x.udp ≠ d.udp
          || d.tag ≠ fixLen 16 (Config.hmacSha256 x.key (d.bytes.take (24 + d.len))) then
        s |> authFailed d.addr x.slot |> answerAuth r
      else s |> onSession x.id (fun y => { y with lastFrame := s.tick.now }) |> seqRequest { x with lastFrame := s.tick.now } d

/-- A datagram on a port (R437, R438). -/
def receiveDgram (d : RxDgram) (s : State) : State :=
  if !(netUp s || recoveryUp s) || !(portServes s d.port) || !d.formOk || (d.session = 0 && !(sourceOk s d.port d.addr)) then s
  else if d.kind = 1 then receiveRequest d s
  else if d.kind = 0x10 || d.kind = 0x12 then
    if ringLoaded s d then answerOverload d.req d.ring s else queueDgram d s
  else s

/-- HOST_DATAGRAM_RECEIVED. -/
def execHostDatagramReceived (port addr udp : Nat) (bytes : Bytes) (s : State) : Host.Outcome State Fault Refusal :=
  .next (receiveDgram { port := port, addr := addr, udp := udp, bytes := bytes } s)

/-! ### Opening a session (R441) -/

/-- A handshake answer: `KIND` 0x11 or 0x13. -/
def handshake (d : RxDgram) (kind session status : Nat) (key payload : Bytes) (s : State) : State :=
  let g := Dgram.tagged { port := d.port, addr := d.addr, udp := d.udp, kind := kind, session := session, seq := d.seq, code := d.code
                          status := status, flags := if 128 ≤ (ringAt s 1).fillPkts then 4 else 0, rtime := timeNs s, payload := payload } key
  sendDgram 5 g (countStatus status s)

/-- The key of a slot. -/
def slotKey (s : State) (slot : Nat) : Option Bytes := nth none s.idn.keys slot

/-- The lowest session number not in use. -/
def freeSession (s : State) : Nat :=
  match (List.range 9).find? (fun k => (findSession s (k + 1)).isNone) with | some k => k + 1 | none => 9

/-- OPEN_REQ: OPEN_CHAL with a new session number and a nonce, or its refusal (R441). -/
def serveOpenReq (d : RxDgram) (s : State) : State :=
  let slot := getN d.payload 0 1
  if (slotKey s slot).isNone || (s.upd.recovery && decide (slot ≠ 3)) then s |> authFailed d.addr slot |> handshake d 0x11 0 stAuth [] []
  else if d.payload.length ≠ 20 then handshake d 0x11 0 stRange [] [] s
  else if inDawn s && !s.upd.recovery then handshake d 0x11 0 stState [] [] s
  else match s.host.sessions.findIdx? (·.isNone) with
    | none => handshake d 0x11 0 stBusy [] [] s
    | some i =>
      let n := freeSession s
      let nonce := fixLen 16 (Config.freeBytes s.fresh 16)
      let x : Session := { id := n, state := 1, slot := slot, port := d.port, addr := d.addr, udp := d.udp
                           cnonce := slice d.payload 4 16, snonce := nonce, lastFrame := s.tick.now }
      s |> tickFresh
        |> onHost (fun h => { h with sessions := setAt h.sessions i (some x), lastSession := n })
        |> handshake d 0x11 n stOk [] (nonce ++ u32 s.idn.serial)

/-- ASCII labels of the handshake. -/
def lblOpen : Bytes := [0x4B, 0x56, 0x4F, 0x50, 0x45, 0x4E]
def lblOk : Bytes := [0x4B, 0x56, 0x4F, 0x4B]
def lblSess : Bytes := [0x4B, 0x56, 0x53, 0x45, 0x53, 0x53]

/-- A session that never opened leaves its number. -/
def freeChallenged (id : Nat) (s : State) : State := endSession id 0 s

/-- OPEN_AUTH: the proof opens the session with OPEN_OK; a wrong one frees the number (R441). -/
def serveOpenAuth (d : RxDgram) (s : State) : State :=
  match findSession s d.session with
  | none => s |> authFailed d.addr 0xFF |> handshake d 0x13 d.session stAuth [] (List.replicate 16 0)
  | some x =>
    if x.state ≠ 1 || x.port ≠ d.port || x.addr ≠ d.addr || x.udp ≠ d.udp || !(decide (sinceNs s x.lastFrame ≤ secNs 2)) then
      s |> authFailed d.addr x.slot |> handshake d 0x13 d.session stAuth [] (List.replicate 16 0)
    else
      let k := (slotKey s x.slot).getD []
      let want := fixLen 16 (Config.hmacSha256 k (lblOpen ++ x.cnonce ++ x.snonce ++ u16 x.id ++ u32 s.idn.serial))
      if d.payload ≠ want then
        s |> authFailed d.addr x.slot |> freeChallenged x.id |> handshake d 0x13 x.id stAuth [] (List.replicate 16 0)
      else
        let ks := Config.hmacSha256 k (lblSess ++ x.cnonce ++ x.snonce ++ u16 x.id)
        s |> onSession x.id (fun y => { y with state := 2, key := ks, lastFrame := s.tick.now })
          |> log srcComm 0x0C01 0 (u16 x.id ++ u8 x.slot ++ u32 x.addr)
          |> handshake d 0x13 x.id stOk ks (fixLen 16 (Config.hmacSha256 k (lblOk ++ x.snonce ++ x.cnonce ++ u16 x.id)))

/-- A handshake frame that the checks of R437 pass. -/
def handshakeOk (s : State) (d : RxDgram) (kind : Nat) : Bool :=
  (netUp s || recoveryUp s) && portServes s d.port && d.formOk && d.kind = kind && !(d.session = 0 && !(sourceOk s d.port d.addr))

/-- OPEN_REQ. -/
def execOpenReq (port addr udp : Nat) (bytes : Bytes) (s : State) : Host.Outcome State Fault Refusal :=
  let d : RxDgram := { port := port, addr := addr, udp := udp, bytes := bytes }
  .next (if handshakeOk s d 0x10 then serveOpenReq d (wakeForHost s) else s)

/-- OPEN_AUTH. -/
def execOpenAuth (port addr udp : Nat) (bytes : Bytes) (s : State) : Host.Outcome State Fault Refusal :=
  let d : RxDgram := { port := port, addr := addr, udp := udp, bytes := bytes }
  .next (if handshakeOk s d 0x12 then serveOpenAuth d (wakeForHost s) else s)

/-- OPEN_AUTH_TIMEOUT: none within 2 s frees the session number (R441). -/
def execOpenAuthTimeout (session : Nat) (s : State) : Host.Outcome State Fault Refusal :=
  match findSession s session with
  | some x => .next (if running s && x.state = 1 && elapsed s x.lastFrame (secNs 2) then freeChallenged session s else s)
  | none => .next s

/-- SESSION_IDLE_TIMEOUT: `SESSION_IDLE` without a valid frame (R443). -/
def execSessionIdleTimeout (session : Nat) (s : State) : Host.Outcome State Fault Refusal :=
  match findSession s session with
  | some x => .next (if running s && x.state = 2 && elapsed s x.lastFrame (secNs s.cfg.net.idle) then endSession session 1 s else s)
  | none => .next s

/-! ### Session commands (R440, R443 to R449, R454) -/

/-- The role of a session permits a least slot (R440): slot 3 permits what slot 0 and slot 3 do. -/
def permits (slot least : Nat) : Bool := if slot = 3 then least = 0 || least = 3 else decide (least ≤ slot) && decide (least ≠ 3)

/-- The session of a request, open. -/
def openSession (s : State) (r : HostReq) : Option Session :=
  match findSession s r.session with
  | some x => if x.state = 2 then some x else none
  | none => none

/-- A request of a role with its argument check: AUTH, then RANGE, then its effect (R14, R440, R448). -/
def roleThen (least : Nat) (argsOk : Bool) (r : HostReq) (act : State → State) (s : State) : State :=
  match openSession s r with
  | none => answerAuth r s
  | some x => if !(permits x.slot least) then respond r stAuth [] s else if !argsOk then respond r stRange [] s else act s

/-- READ: open reads from admitted sources without a session, any object in one (R444, R445). -/
def evalRead (r : HostReq) (s : State) : State :=
  if r.session = 0 then
    if !(sourceOk s r.port r.addr) then s
    else
      let a := readAnswer s true r.args
      answerOnce r a.1 a.2 s
  else match openSession s r with
    | none => answerAuth r s
    | some _ =>
      let a := readAnswer s false r.args
      respond r a.1 a.2 s

/-- The entries of a SUBSCRIBE. -/
def subEntries (b : Bytes) : List SubEntry :=
  (List.range (getN b 1 1)).map fun k => { obj := getN b (4 + 4 * k) 2, period := getN b (6 + 4 * k) 2 }

/-- SUBSCRIBE: the session's subscription is replaced (R454); an object that does not exist is UNKNOWN before any RANGE (R14). -/
def evalSubscribe (r : HostReq) (s : State) : State :=
  let b := r.args
  let n := getN b 1 1
  let sev := getN b 0 1
  let ofs := getN b 2 2
  let es := subEntries b
  let shape := decide (4 ≤ b.length) && b.length = 4 + 4 * n && decide (n ≤ 16)
  roleThen 0 true r (fun t =>
    if (es.take ((b.length - 4) / 4)).any fun e => (objView t e.obj).isNone then respond r stUnknown [] t
    else if !shape || (decide (3 < sev) && decide (sev ≠ 0xFF)) || (decide (999 < ofs) && decide (ofs ≠ 0xFFFF))
        || es.any (fun e => decide (e.period < 10) || decide (60000 < e.period)
          || (match wholeSize t e.obj with | some k => decide (256 < k) | none => true)) then respond r stRange [] t
    else t |> onSession r.session (fun x => { x with minSev := sev, launchOfs := ofs, subs := es }) |> respond r stOk []) s

/-- KEEPALIVE counts as a valid frame (R443). -/
def evalKeepalive (r : HostReq) (s : State) : State :=
  roleThen 0 r.args.isEmpty r (fun t => t |> onSession r.session (fun x => { x with lastFrame := t.tick.now }) |> respond r stOk []) s

/-- CLOSE ends the session after its response (R443). -/
def evalClose (r : HostReq) (s : State) : State :=
  roleThen 0 r.args.isEmpty r (fun t => t |> respond r stOk [] |> endSession r.session 0) s

/-- Bytes written over a buffer's record. -/
def Bulk.write (b : Bulk) (session off now : Nat) (data : Bytes) : Bulk :=
  { owner := session, last := now
    data := (b.data.filter fun x => decide (x.1 < off) || decide (off + data.length ≤ x.1)) ++ mapI (fun i v => (off + i, v)) data }

/-- A bulk target changed. -/
def onBulk (t : Nat) (g : Bulk → Bulk) (s : State) : State :=
  s |> onHost fun h => if t = 1 then { h with bulk1 := g h.bulk1 } else { h with bulk2 := g h.bulk2 }

/-- BULK_WRITE (R449). -/
def evalBulkWrite (r : HostReq) (s : State) : State :=
  let t := getN r.args 0 1
  let off := getN r.args 4 4
  let data := r.args.drop 8
  let cap := if t = 1 then 544404 else 65536
  let okArgs := decide (9 ≤ r.args.length) && decide (data.length ≤ 1024) && (t = 1 || t = 2) && decide (off + data.length ≤ cap)
  roleThen (if t = 2 then 2 else 1) okArgs r (fun u =>
    let b := bulkOf u t
    if b.owner ≠ 0 && b.owner ≠ r.session then respond r stBusy [] u
    else if off = 0 then u |> onBulk t (fun _ => Bulk.write {} r.session off u.tick.now data) |> respond r stOk []
    else if b.owner = 0 then respond r stState [] u
    else u |> onBulk t (fun x => x.write r.session off u.tick.now data) |> respond r stOk []) s

/-- KEY_SET, legal in SERVICE only: the key is unwrapped and stored, and every session of its slot ends after the
response (R448). -/
def evalKeySet (r : HostReq) (s : State) : State :=
  let slot := getN r.args 0 1
  roleThen 2 (r.args.length = 44 && decide (slot < 4)) r (fun t =>
    if t.str.state ≠ .service || isSp t then refuseState r t
    else
      let ks := match findSession t r.session with | some x => x.key | none => []
      match Config.keyUnwrap ks (slice r.args 4 40) with
      | none => respond r stIntegrity [] t
      | some k =>
        let t1 := t |> onIdn (fun i => { i with keys := setAt i.keys slot (some (fixLen 32 k)) })
          |> log srcComm 0x0C07 2 (u8 slot ++ u16 r.session) |> respond r stOk []
        (t1.host.sessions.filterMap fun o => o).foldl (fun u x => if x.slot = slot then endSession x.id 3 u else u) t1) s

/-- The row's request with the row's code. -/
def withCode (code : Nat) (r : HostReq) : HostReq := { r with code := code }

/-- READ. -/
def execRead (r : HostReq) (s : State) : Host.Outcome State Fault Refusal :=
  .next (if serves s r then evalRead (withCode 0x0100 r) s else s)

/-- SUBSCRIBE. -/
def execSubscribe (r : HostReq) (s : State) : Host.Outcome State Fault Refusal :=
  .next (if serves s r then evalSubscribe (withCode 0x0101 r) s else s)

/-- KEEPALIVE. -/
def execKeepalive (r : HostReq) (s : State) : Host.Outcome State Fault Refusal :=
  .next (if serves s r then evalKeepalive (withCode 0x0102 r) s else s)

/-- CLOSE. -/
def execClose (r : HostReq) (s : State) : Host.Outcome State Fault Refusal :=
  .next (if serves s r then evalClose (withCode 0x0103 r) s else s)

/-- BULK_WRITE. -/
def execBulkWrite (r : HostReq) (s : State) : Host.Outcome State Fault Refusal :=
  .next (if serves s r then evalBulkWrite (withCode 0x0104 r) s else s)

/-- KEY_SET. -/
def execKeySet (r : HostReq) (s : State) : Host.Outcome State Fault Refusal :=
  .next (if serves s r then evalKeySet (withCode 0x0105 r) s else s)

/-- BULK_ABANDONED: 60 s without a BULK_WRITE from the holder (R449). -/
def execBulkAbandoned (target : Nat) (s : State) : Host.Outcome State Fault Refusal :=
  let b := bulkOf s target
  if running s && (target = 1 || target = 2) && b.owner ≠ 0 && elapsed s b.last (secNs 60) then
    .next (s |> onBulk target (fun _ => {}) |> log srcComm 0x0C08 0 (u16 target ++ u16 b.owner ++ u32 b.data.length))
  else .next s

/-! ### Object notifications (R454) -/

/-- OBJECT_NOTIFICATION_DUE: at the frame latch of a period boundary on plant time the entry's item response is queued,
launched at the frame start plus `LAUNCH_OFS` (R454, R455). -/
def execObjectNotificationDue (session entry : Nat) (s : State) : Host.Outcome State Fault Refusal :=
  match findSession s session with
  | none => .next s
  | some x =>
    match x.subs[entry]? with
    | none => .next s
    | some e =>
      let frame := s.tb.time / 1000000
      if !(netUp s) || s.tick.j ≠ 0 || e.period = 0 || frame % e.period ≠ 0 then .next s
      else
        let i : ReadItem := { obj := e.obj, form := 0, a := 0, b := 0, c := 0 }
        .next (notify session 2 (if x.launchOfs = 0xFFFF then none else some (frame * 1000000 + x.launchOfs * 1000)) (itemBytes i (readItem s false i)) s)

/-! ### ARP, ICMP and Modbus TCP (R435, R458, R459) -/

/-- A port's IPv4 services run. -/
def ipUp (s : State) (port : Nat) : Bool := netUp s && decide (port < 2) && portServes s port

/-- ARP_REQUEST for the port's address. -/
def execArpRequest (port target : Nat) (s : State) : Host.Outcome State Fault Refusal :=
  .next (if ipUp s port && target = nth 0 s.cfg.net.ip port then s |> onOut fun o => { o with net := o.net ++ [.arp port target] } else s)

/-- ICMP_ECHO_REQUEST to the port's address. -/
def execIcmpEchoRequest (port src dst : Nat) (payload : Bytes) (s : State) : Host.Outcome State Fault Refusal :=
  .next (if ipUp s port && dst = nth 0 s.cfg.net.ip port then s |> onOut fun o => { o with net := o.net ++ [.echo port src payload] } else s)

/-- Modbus TCP is served on a port (R444, R458): not in DAWN. -/
def modbusServes (s : State) (port : Nat) : Bool := ipUp s port && bitAt s.cfg.net.modbusEn port && !(inDawn s)

/-- The lowest connection number not in use. -/
def freeConn (s : State) : Nat :=
  match (List.range 4).find? (fun k => !(s.host.modbus.any fun c => c.id = k)) with | some k => k | none => 4

/-- MODBUS_CONNECT: accepted from an admitted source, or reset beyond four (R458). -/
def execModbusConnect (port addr : Nat) (s : State) : Host.Outcome State Fault Refusal :=
  if !(modbusServes s port && sourceOk s port addr) then .next s
  else if 4 ≤ s.host.modbus.length then .next (s |> onOut fun o => { o with net := o.net ++ [.reset port addr] })
  else .next (s |> onHost fun h => { h with modbus := h.modbus ++ [{ id := freeConn s, port := port, addr := addr, last := s.tick.now }] })

/-- A Modbus request (unit, function, first register, quantity): the exception it meets first, or its registers (R458). -/
def modbusAnswer (s : State) (pdu : Bytes) : Nat × List Nat :=
  let unit := getN pdu 0 1
  let func := getN pdu 1 1
  let first := beNat (slice pdu 2 2)
  let n := beNat (slice pdu 4 2)
  if unit ≠ s.cfg.net.modbusUnit && unit ≠ 0xFF then (0x0B, [])
  else if func ≠ 3 && func ≠ 4 then (0x01, [])
  else if pdu.length ≠ 6 || n = 0 || decide (125 < n) then (0x03, [])
  else if 44 < first + n then (0x02, [])
  else (0, ((modbusRegs s).drop first).take n)

/-- MODBUS_READ: served through rings 3 and 7 (R456, R458). -/
def execModbusRead (conn : Nat) (pdu : Bytes) (s : State) : Host.Outcome State Fault Refusal :=
  match s.host.modbus.find? (fun c => c.id = conn) with
  | none => .next s
  | some c =>
    if !(modbusServes s c.port) then .next s
    else
      let s1 := s |> ringPut 3 (mkPacket 3 pdu) |> wakeForHost |> ringRel 3
        |> onHost fun h => { h with modbus := h.modbus.map fun x => if x.id = conn then { x with last := s.tick.now } else x }
      let a := modbusAnswer s pdu
      let s2 := if a.1 = 0 then s1 else s1 |> onHost fun h => { h with cnt := updAt (satInc 32) h.cnt 7 }
      .next (s2 |> ringPut 7 (mkPacket 3 (a.2.flatMap fun v => toBe 2 v)) |> ringRel 7
        |> onOut fun o => { o with modbus := o.modbus ++ [{ conn := conn, func := getN pdu 1 1, exc := a.1, regs := a.2 }] })

/-- MODBUS_IDLE_TIMEOUT: `SESSION_IDLE` without a request (R458). -/
def execModbusIdleTimeout (conn : Nat) (s : State) : Host.Outcome State Fault Refusal :=
  .next (if running s then
    s |> onHost fun h => { h with modbus := h.modbus.filter fun c => !(c.id = conn && elapsed s c.last (secNs s.cfg.net.idle)) }
  else s)

end Sys2Proof.Machine
end

