-- ==== Sys2Proof/Machine/Jtag.lean ====
section
/-! DEFINITION. The JTAG port (R537). -/
namespace Sys2Proof.Machine

/-- One scan of an instruction by a probe that drives TRST_N (R80, assumption 60): its opcode, the length of its data register
and the value captured. -/
def jtagScan (ir len dr : Nat) (s : State) : State :=
  s |> onPins (fun p => { p with trstDriven := true }) |> onJtag fun j => { j with ir := ir, drLen := len, dr := dr }

/-- TRST_N is no longer driven: the TAP is held reset, where IEEE 1149.1 selects IDCODE (R80, R537). -/
def tapReset (s : State) : State :=
  s |> onPins (fun p => { p with trstDriven := false }) |> onJtag fun j => { j with ir := 0x01, drLen := 32, dr := 0x2C640A5B }

/-- JTAG_BYPASS. -/
def execJtagBypass (s : State) : Host.Outcome State Fault Refusal := .next (jtagScan 0xFF 1 0 s)

/-- JTAG_IDCODE. -/
def execJtagIdcode (s : State) : Host.Outcome State Fault Refusal := .next (jtagScan 0x01 32 0x2C640A5B s)

/-- JTAG_FRZ_STATUS: the freeze status word; outside a freeze it reads 0. -/
def execJtagFrzStatus (s : State) : Host.Outcome State Fault Refusal :=
  let v := match s.lad.frozen, s.lad.freezeLast with
    | true, some f => 1 + f.trigger % 256 * 2 ^ 8 + f.state % 256 * 2 ^ 16 + b2n f.forced * 2 ^ 24 + f.time % 2 ^ 32 * 2 ^ 32
    | _, _ => 0
  .next (jtagScan 0x10 64 v s)

/-- JTAG_MEM_ADDR: the word address of the dump. -/
def execJtagMemAddr (addr : Nat) (s : State) : Host.Outcome State Fault Refusal :=
  .next (jtagScan 0x11 32 (addr % 2 ^ 32) s |> onJtag fun j => { j with addr := addr % 2 ^ 32 })

/-- The readable address map. -/
def memMapped (a : Nat) : Bool :=
  decide (a < 0x00300000) || (decide (0x00400000 ≤ a) && decide (a < 0x00440000)) || (decide (0x01000000 ≤ a) && decide (a < 0x01010000))

/-- The ring-memory word `off` words into a row of packets: a header (R491) or four payload bytes, the lowest first (assumption 3).
A poisoned packet gives none: which of its words are bad is not kept. -/
def packetWord : Nat → List Packet → Option Nat
  | _, [] => none
  | off, p :: ps =>
    if off ≤ p.len ∧ p.poison then none
    else if off = 0 then some (p.kind % 128 * 2 ^ 24 + p.len % 2 ^ 16)
    else if off ≤ p.len then some (leNat (fixLen 4 (p.bytes.drop (4 * (off - 1)))))
    else packetWord (off - 1 - p.len) ps

/-- The word at an index of the ring memory, where it lies in a packet of a ring (R489, R490). -/
def ringWord (s : State) (a : Nat) : Option Nat :=
  (s.rings.rings.filterMap fun r =>
    if r.enabled && decide (r.base ≤ a) && decide (a < r.base + r.size)
    then packetWord ((a - r.base + r.size - r.rd % r.size) % r.size) r.pkts else none).head?

/-- What MEM_DATA captures at a readable address in a freeze: a word of a ring's packet, with no ECC mark, or an open word. -/
def dumpWord (s : State) (a : Nat) : Nat :=
  let open_ := Config.memWord ((s.lad.freezeLast.map (·.time)).getD 0) a % 2 ^ 34
  if 0x00400000 ≤ a ∧ a < 0x00440000 then (ringWord s (a - 0x00400000)).getD open_ else open_

/-- JTAG_MEM_DATA: captures one word with its ECC marks and advances the address; outside a freeze all bits read 0 and the
address has no effect. -/
def execJtagMemData (s : State) : Host.Outcome State Fault Refusal :=
  if s.lad.frozen then
    let v := if memMapped s.jtag.addr then dumpWord s s.jtag.addr else 2 ^ 33
    .next (jtagScan 0x12 34 v s |> onJtag fun j => { j with addr := (j.addr + 1) % 2 ^ 32 })
  else .next (jtagScan 0x12 34 0 s |> onJtag fun j => { j with addr := (j.addr + 1) % 2 ^ 32 })

end Sys2Proof.Machine
end

