-- ==== Sys2Proof/Machine/Connectors.lean ====
section
/-! DEFINITION. Connectors mated and unmated in operation (R75 to R82), the service port (R552) and the front panel
(R81). -/
namespace Sys2Proof.Machine

/-- PLUG_DET_CHANGE: logged while the module is powered, and without effect before the next Dawn; a removal shows until then
(R153); in OFF it starts Dawn (R82, R531). During Dawn the reads of step D5 judge it. -/
def execPlugDetChange (low : Bool) (s : State) : Host.Outcome State Fault Refusal :=
  if s.lad.unpowered || low = s.pins.plugDet then .next s
  else
    let s1 := s |> onPins (fun p => { p with plugDet := low }) |> irqEvent 166 (!low)
    let s2 := if low then log srcAon 0x0211 1 [] s1 else s1 |> onDawn (fun d => { d with plugRemoved := true }) |> log srcAon 0x0210 1 []
    .next (if inOff s && !s.lad.frozen then wakeDawn 3 2 s2 else s2)

/-- The pair cable goes while a partner is joined or joining: admission is lost altogether (R429), the standby leaves
Afternoon (R40), and the owner runs on with `PARTNER_ABSENT` (R77). A handover under way is off: the owner goes on as after a
refusal, and the standby never takes the outputs by it (R427). -/
def pairCableLost (s : State) : State :=
  let s0 := if s.pair.hYields then handoverOff s else clearHandover s
  let s1 := s0 |> onPair fun p => { p with partner := .absent, configMatch := false, sbAt := none, segsRx := [], imagesInStep := 0, step4Since := none, cleanMs := 0 }
  if isSp s1 then setRung 0 s1 else s1 |> onStr fun x => { x with partnerAbsent := true }

/-- PAIR_PRESENT_CHANGE: a configured pair member that reads it high logs PAIR_CABLE_ABSENT; an admission is withdrawn with
the cable (R77, R428). -/
def execPairPresentChange (low : Bool) (s : State) : Host.Outcome State Fault Refusal :=
  if s.lad.unpowered || low = s.pins.pairCable then .next s
  else
    let s1 := s |> onPins (fun p => { p with pairCable := low }) |> onPair (fun p => { p with cableSeated := low }) |> irqEvent 163 (!low)
    if !(running s) || low || !(s.cfg.safety.pair) then .next s1
    else
      let s2 := log srcSafety 0x0B10 2 [] s1
      .next (if s.pair.partner = .absent || s.pair.partner = .refused then s2 else pairCableLost s2)

/-- A link goes down: every session of its port ends with cause 2, its Modbus connections close, and a grandmaster reached
over it is lost (R82, R107, R443). -/
def portDown (port : Nat) (s : State) : State :=
  let s1 := (s.host.sessions.filterMap fun o => o).foldl (fun t x => if x.port = port then endSession x.id 2 t else t) s
  let s2 := s1 |> onHost fun h => { h with modbus := h.modbus.filter fun c => c.port ≠ port }
  if port = s.cfg.net.ptpPort && s.tb.gm.isSome then gmLost s2 else s2

/-- LINK_CHANGE of ETH1, ETH2 or the SFP (ports 0 to 2). -/
def execLinkChange (port : Nat) (up : Bool) (s : State) : Host.Outcome State Fault Refusal :=
  if 3 ≤ port || up = linkUpAt s port || (port = 2 && up && s.pins.sfpBad) then .next s
  else
    let s1 := s |> onPins (fun p => match port with
        | 0 => { p with eth1Up := up }
        | 1 => { p with eth2Up := up }
        | _ => { p with sfpUp := up })
      |> onPair (fun p => if port = 2 then { p with linkUp := up } else p) |> irqEvent (153 + port) up
    .next (if up || !(running s) || port = 2 then s1 else portDown port s1)

/-- USB_FRAME_RECEIVED: a COBS frame, ended by its 0x00 or without it, is a datagram on the service port; one that does not
decode is discarded (R552). -/
def execUsbFrameReceived (cobs : Bytes) (s : State) : Host.Outcome State Fault Refusal :=
  let body := if cobs.getLast? = some 0 then cobs.dropLast else cobs
  match cobsDec (body.length + 1) body with
  | some b => .next (receiveDgram { port := 2, addr := 0, udp := 0, bytes := b } s)
  | none => .next s

/-- J16_USB_MATE_CHANGE: USB enumerates; or the USB session closes and, with the probe gone from the same connector, the TAP is
held reset (R80, R82). -/
def execJ16UsbMateChange (mated : Bool) (s : State) : Host.Outcome State Fault Refusal :=
  if s.lad.unpowered || mated = s.host.usbMated then .next s
  else
    let s1 := s |> onHost (fun h => { h with usbMated := mated }) |> (if mated then id else tapReset)
    .next (if mated || s.lad.frozen then s1
      else (s1.host.sessions.filterMap fun o => o).foldl (fun t x => if x.port = 2 then endSession x.id 2 t else t) s1)

/-! ### The plug's supply and write protection (R78, R86, R149) -/

/-- VPLUG: on while the plug is read in D5; a plug write in SERVICE has it on, and WP low, within its one command alone. -/
def vplugOn (s : State) : Bool := inDawn s && running s && s.dawn.step = some 5

/-! ### Front panel (R81, R131) -/

/-- LED_PWR. -/
def ledPwr (s : State) : Led := if s.lad.unpowered then .off else if s.lad.rung = 0 then .greenSteady else .greenPulse

/-- LED_RUN. -/
def ledRun (s : State) : Led :=
  match s.str.state with
  | .run => .greenSteady
  | .precharge | .closed | .stopping => .greenBlink
  | .twilight => .amber
  | .off | .dawn | .standby | .fault | .service => .off

/-- LED_FAULT. Where several of its lines hold, SERVICE outranks the blink and the blink the steady FAULT (DEDUCED,
assumption 53). -/
def ledFault (s : State) : Led :=
  if s.str.state = .service then .amber
  else if s.lad.resetDisabled || !s.idn.class2.isEmpty || s.str.causes.any (fun c => c.cls = 2) then .redBlink
  else if s.str.state = .fault then .red
  else .off

/-- LED_PAIR. -/
def ledPair (s : State) : Led :=
  match s.str.role with
  | some .active => if partnerAdmitted s then .greenSteady else if s.str.partnerAbsent then .amber else .off
  | some .standbyPair => .greenBlink
  | some .solo | none => .off

/-- The LEDs PWR, RUN, FAULT and PAIR: amber in the lamp test and in a freeze, PWR green and FAULT red in recovery, and in Dawn
PWR alone (R81, R131, R546). -/
def leds (s : State) : List Led :=
  if s.lad.unpowered then List.replicate 4 .off
  else if s.lad.frozen || s.pins.lampTest then List.replicate 4 .amber
  else if s.upd.recovery then [.greenSteady, .off, .red, .off]
  else if inDawn s then [ledPwr s, .off, .off, .off]
  else [ledPwr s, ledRun s, ledFault s, ledPair s]

end Sys2Proof.Machine
end

