-- ==== Sys2Proof/Machine/Image.lean ====
section
/-! DEFINITION. The configuration image (R136 to R144, R558 and the section layouts of the chapters): its sections, the
checks of R142 in order, and the configuration an accepted image gives. -/
namespace Sys2Proof.Machine

/-- A field and whether it holds: its offset in the section value. -/
abbrev Chk := Nat × Bool

/-- The first field that fails: the least offset (R142). -/
def firstBad (l : List Chk) : Option Nat :=
  l.foldl (fun a c => if c.2 then a else match a with | none => some c.1 | some o => some (min o c.1)) none

/-- An unsigned field of `w` bytes lies in a range. -/
def inN (v : Bytes) (o w lo hi : Nat) : Chk := (o, decide (lo ≤ getN v o w) && decide (getN v o w ≤ hi))

/-- A signed field lies in a range. -/
def inI (v : Bytes) (o w : Nat) (lo hi : Int) : Chk := (o, decide (lo ≤ getI v o w) && decide (getI v o w ≤ hi))

/-- A reserved field of `n` bytes is 0 (R558), reported at its own offset. -/
def zeros (v : Bytes) (o n : Nat) : List Chk := [(o, getN v o n = 0)]

/-- Checks of a record at an offset. -/
def shift (o : Nat) (l : List Chk) : List Chk := l.map fun c => (o + c.1, c.2)

/-! ### Sections (R137, R138) -/

/-- A section as framed: its type, the offset of its first byte, its value, and its CRC's outcome. -/
structure Section where
  type_ : Nat
  start : Nat
  value : Bytes
  crcOk : Bool
  deriving DecidableEq, Repr

/-- Sections up to END or to the first that breaks the framing: the sections, the offset of the break, the end. -/
def walkSections (img : Bytes) (limit : Nat) : Nat → Nat → List Section × Option Nat × Nat
  | 0, pos => ([], some pos, pos)
  | f + 1, pos =>
    let t := getN img pos 2
    let n := getN img (pos + 2) 2
    if limit < pos + 8 || n % 4 ≠ 0 || decide (65000 < n) || decide (limit < pos + 8 + n) then ([], some pos, pos)
    else
      let x : Section := { type_ := t, start := pos, value := slice img (pos + 4) n
                           crcOk := getN img (pos + 4 + n) 4 = crc32c (slice img pos (4 + n)) }
      if t = 0 then ([x], none, pos + 8 + n)
      else
        let r := walkSections img limit f (pos + 8 + n)
        (x :: r.1, r.2)

/-- A section of a type. -/
def sectionOf (l : List Section) (t : Nat) : Option Section := l.find? fun x => x.type_ = t

/-- Its value, empty where it is absent. -/
def valueOf (l : List Section) (t : Nat) : Bytes := match sectionOf l t with | some x => x.value | none => []

/-- Types that R139 assigns. -/
def knownType (t : Nat) : Bool := decide (t ≤ 12) || t = 16
def requiredTypes : List Nat := [0, 1, 2, 3, 4, 7]

/-! ### Check 6 by section (R558 and the layouts) -/

/-- `LEN` fixed by a layout; none where it depends on the content or another section. -/
def fixedLen (v : Bytes) : Nat → Option Nat
  | 1 => some 1536
  | 3 => some (156 + 48 * getN v 24 1)
  | 4 => some (528 + 48 * getN v 53 1)
  | 5 => some 124
  | 6 => some 828
  | 7 => some 64
  | 8 => some 40
  | 9 => some 8
  | 10 => some 8
  | 11 => some (84 + 580 * getN v 0 1)
  | 12 => some 24
  | 16 => some 12
  | _ => none

/-- A `DS_FILTER` entry: all 0, or within the limits of R160; the DS7 entry all 0. -/
def dsEntryOk (v : Bytes) (k : Nat) : Bool :=
  let o := 106 + 4 * k
  let n := getN v o 1
  let m := getN v (o + 1) 1
  let l := getN v (o + 2) 2
  let within := fun (nLo mHi lHi : Nat) => decide (nLo ≤ n) && decide (n ≤ 5) && decide (m ≤ mHi) && decide (1 ≤ l) && decide (l ≤ lHi)
  (n = 0 && m = 0 && l = 0) ||
    (match k with | 0 => within 2 0 20 | 1 => within 2 0 20 | 2 => within 1 2 400 | 3 => within 1 2 400 | 7 => false | _ => within 1 2 4000)

/-- SAFETY (R141, R406). -/
def checkSafety (v : Bytes) : List Chk :=
  [inN v 0 2 1 640, inN v 2 1 1 32, (2, decide (getN v 0 2 * getN v 2 1 ≤ 16384)), inN v 3 1 0 8, inN v 4 1 1 40, inN v 5 1 0 1,
    inN v 6 2 100 5000, inN v 8 2 1 240] ++ zeros v 10 2
  ++ [(12, decide (getN v 16 2 < getN v 12 2)), (14, decide (getN v 12 2 < getN v 14 2)), (18, decide (getN v 18 2 < getN v 16 2)),
    inN v 20 1 1 10, inN v 21 1 1 4, inN v 22 2 500 20000, (26, decide (getI v 26 2 < getI v 24 2)), (28, decide (getI v 28 2 < getI v 24 2)),
    inN v 32 4 10000 10000000, inI v 36 2 (-200) 200, inN v 38 2 2000 6000, inN v 40 1 0 1, inN v 41 1 0 25, inN v 42 2 200 20000]
  ++ [inN v 60 2 10 3600, inN v 62 2 50 1000, inN v 64 1 0 3, inN v 65 1 0 1, (66, decide (getN v 66 1 < getN v 67 1)), inN v 67 1 1 16,
    inN v 68 2 10 10000, (70, decide (getN v 68 2 ≤ getN v 70 2) && decide (getN v 70 2 ≤ 10000)),
    (72, getN v 72 4 = 0 || decide (10 ≤ getN v 72 4) && decide (getN v 72 4 ≤ 1000000)), inN v 76 2 1 10000, inN v 78 2 50 1000,
    inN v 80 4 1 1000000, inN v 84 2 100 60000, inN v 86 2 20 500, inN v 88 2 20 500, inN v 90 2 500 5000]
  ++ (List.range 3).map (fun k => inN v (92 + 2 * k) 2 20 300) ++ (List.range 3).map (fun k => inN v (98 + 2 * k) 2 50 1000)
  ++ [inN v 104 2 1000 10000] ++ (List.range 8).map (fun k => (106 + 4 * k, dsEntryOk v k)) ++ zeros v 138 1394 ++ zeros v 1534 2

/-- GEOMETRY: the reserved bytes and, where the length is that of R221, its padding. -/
def checkGeometry (p : Nat) (v : Bytes) : List Chk :=
  let n := 4 + 4 * getN v 0 1 + p
  zeros v 1 3 ++ (if v.length = (n + 3) / 4 * 4 then zeros v n (v.length - n) else [])

/-- One OCV table (R249): `SOC` rises strictly from 0 to 10,000, neither curve falls, discharge at most charge. -/
def checkOcv (v : Bytes) (base n : Nat) : List Chk :=
  (List.range n).map fun i =>
    let o := base + 6 * i
    let at_ := fun (k : Nat) => getN v (o + 2 * k) 2
    let was := fun (k : Nat) => getN v (o - 6 + 2 * k) 2
    (o, (i ≠ 0 || at_ 0 = 0) && (i + 1 ≠ n || at_ 0 = 10000) && decide (at_ 2 ≤ at_ 1)
      && (i = 0 || decide (was 0 < at_ 0) && decide (was 1 ≤ at_ 1) && decide (was 2 ≤ at_ 2)))

/-- CELL (R249). -/
def checkCell (v : Bytes) : List Chk :=
  let n := getN v 24 1
  [inN v 0 4 1000 2000000, inN v 6 2 10 500, inN v 8 2 1 10000, inI v 10 2 (-1000) 10000, inN v 12 2 10 240, inN v 14 2 1 720,
    inN v 16 2 1000 10000, inN v 18 2 1 600, (22, decide (getI v 20 2 < getI v 22 2)), inN v 24 1 16 64] ++ zeros v 25 3
  ++ (List.range 8).flatMap (fun b => [(28 + 16 * b, b = 0 || decide (getI v (12 + 16 * b) 2 < getI v (28 + 16 * b) 2))] ++ zeros v (42 + 16 * b) 2)
  ++ (List.range 8).flatMap (fun b => checkOcv v (156 + 6 * n * b) n)

/-- A coefficient and its shift give a pole from 0 inclusive to 1 exclusive. -/
def poleOk (v : Bytes) (o sh : Nat) : Bool := decide (0 ≤ getI v o 4) && decide (getI v o 4 < 2 ^ getN v sh 1)

/-- What every enabled slot record shares (R305). -/
def checkRecord (v : Bytes) (o : Nat) : List Chk :=
  [(o + 8, poleOk v (o + 8) (o + 37)), (o + 20, poleOk v (o + 20) (o + 40)), (o + 32, decide (getI v (o + 32) 4 < getI v (o + 28) 4))]
  ++ (List.range 6).map (fun k => inN v (o + 36 + k) 1 0 31) ++ [inN v (o + 44) 4 1 0xFFFFFFFF]

/-- The reserved bytes of a slot record (R305, R558). -/
def recordZeros (v : Bytes) (o : Nat) : List Chk := zeros v (o + 42) 2 ++ zeros v (o + 54) 10

/-- A converter slot record (R305). -/
def checkConvSlot (v : Bytes) (k : Nat) : List Chk :=
  let o := 64 + 64 * k
  [inN v o 1 0 2] ++ (if getN v o 1 = 0 then [] else
    [inN v (o + 1) 1 0 (if k < 3 then 3 else 0), inN v (o + 2) 2 0 0] ++ checkRecord v o ++ [inN v (o + 52) 2 0 0]) ++ recordZeros v o

/-- A SAR sequence record (R329). -/
def checkSar (v : Bytes) (k : Nat) : List Chk :=
  let o := 448 + 20 * k
  let n := getN v (o + 1) 1
  [inN v (o + 1) 1 0 8, (o + 2, getN v o 1 ≠ 7 || decide (20 ≤ getN v (o + 2) 2) && decide (getN v (o + 2) 2 ≤ 1000))]
  ++ (List.range 8).flatMap (fun i => if i < n then [inN v (o + 4 + 2 * i) 1 0 3, inN v (o + 5 + 2 * i) 1 0 4] else zeros v (o + 4 + 2 * i) 1 ++ zeros v (o + 5 + 2 * i) 1)

/-- A schedule entry (R330). -/
def checkSched (v : Bytes) (k : Nat) : List Chk :=
  let o := 528 + 48 * k
  [inN v o 1 0 7] ++ zeros v (o + 1) 3
  ++ [(o + 16, poleOk v (o + 16) (o + 41)), (o + 28, poleOk v (o + 28) (o + 44)), (o + 36, decide (getI v (o + 36) 4 < getI v (o + 32) 4))]
  ++ (List.range 5).map (fun i => inN v (o + 40 + i) 1 0 31) ++ zeros v (o + 45) 3

/-- CONVERTER (R328). -/
def checkConverter (v : Bytes) : List Chk :=
  [(4, decide (getN v 0 4 ≤ 3 * getN v 4 4)), inN v 20 4 10000 10000000, inN v 36 2 8000 9800, inN v 38 2 5000 9500]
  ++ (List.range 6).map (fun k => inN v (40 + 2 * k) 2 320 32000) ++ [inN v 52 1 0 1, inN v 53 1 0 8, inN v 54 2 1 600] ++ zeros v 60 4
  ++ (List.range 6).flatMap (checkConvSlot v) ++ (List.range 4).flatMap (checkSar v) ++ (List.range (getN v 53 1)).flatMap (checkSched v)

/-- DISPATCH (R348). -/
def checkDispatch (v : Bytes) : List Chk :=
  let le := fun (a b : Nat) => decide (getN v a 2 ≤ getN v b 2)
  [inN v 0 4 1000 100000000, inN v 4 4 1000 100000000, (8, le 8 10), (12, le 14 12), (16, le 16 18), inN v 18 2 0 10000, (20, le 22 20),
    inN v 24 2 0 3600] ++ zeros v 26 2
  ++ (List.range 16).map (fun k => (28 + 6 * k, le (30 + 6 * k) (28 + 6 * k) && le (32 + 6 * k) (30 + 6 * k)))

/-- Inputs and outputs that R364 lists, with the output's range. -/
def ioInOk (x : Nat) : Bool := decide (x ≤ 10) || (decide (0x10 ≤ x) && decide (x ≤ 0x13)) || (decide (0x18 ≤ x) && decide (x ≤ 0x1B))
def ioRange (x : Nat) : Option (Int × Int) :=
  if x ≤ 3 || x = 0x10 || x = 0x11 then some (0, 10000)
  else if x = 0x20 then some (-10000, 10000)
  else if x = 0x30 then some (-2147483648, 2147483647)
  else none

/-- `RATE` of slots 6 to 15 (R363). -/
def rateOk (k r : Nat) : Bool := if k < 4 then [10, 20, 50, 100, 250, 500].contains r else decide (0 < r) && 500 % r = 0

/-- A thermal slot record and its extension (R305, R363 to R365). -/
def checkThermSlot (v : Bytes) (k : Nat) : List Chk :=
  let o := 68 + 64 * k
  let e := 708 + 12 * k
  let lim := ioRange (getN v (o + 3) 1)
  [inN v o 1 0 2] ++ (if getN v o 1 = 0 then [] else
    [inN v (o + 1) 1 0 0, (o + 2, ioInOk (getN v (o + 2) 1)), (o + 3, lim.isSome)] ++ checkRecord v o
    ++ [(o + 28, match lim with | some l => decide (getI v (o + 28) 4 ≤ l.2) | none => false),
        (o + 32, match lim with | some l => decide (l.1 ≤ getI v (o + 32) 4) | none => false), (o + 52, rateOk k (getN v (o + 52) 2))])
  ++ recordZeros v o
  ++ [(e, let x := getN v e 1; decide (x ≤ 1) || (decide (0x16 ≤ x) && decide (x ≤ 0x1F)))] ++ zeros v (e + 1) 3

/-- THERMAL (R370). -/
def checkThermal (v : Bytes) : List Chk :=
  (List.range 6).map (fun k => (2 + 2 * k, decide (getI v (2 * k) 2 < getI v (2 + 2 * k) 2)))
  ++ [inN v 14 2 200 3000] ++ (List.range 8).map (fun k => inN v (16 + 2 * k) 2 2000 6000) ++ (List.range 4).map (fun k => inN v (32 + k) 1 0 3)
  ++ (List.range 4).map (fun k => inN v (44 + 2 * k) 2 25 25000)
  ++ [inN v 54 2 0 1000, (58, decide (getI v 56 2 < getI v 58 2)), inN v 62 2 20 1000, (64, decide (3 * getN v 62 2 ≤ getN v 64 2))] ++ zeros v 66 2
  ++ (List.range 10).flatMap (checkThermSlot v)

/-- NETWORK (R436). -/
def checkNetwork (v : Bytes) : List Chk :=
  [inN v 24 1 1 3, inN v 25 1 0 1, inN v 26 1 0 127, inN v 27 1 0 7, inN v 28 2 0 4094, inN v 30 2 0 0x7FFF, inN v 32 1 0 3, inN v 33 1 1 247,
    inN v 34 2 10 3600, inN v 44 1 0 3] ++ zeros v 45 19

/-- A CAN port block (R464, R466). -/
def checkCanPort (v : Bytes) (o : Nat) : List Chk :=
  [inN v o 1 0 1, inN v (o + 1) 1 0 1, inN v (o + 2) 1 1 32, inN v (o + 3) 1 1 128, (o + 3, decide (getN v (o + 3) 1 ≤ getN v (o + 6) 1)),
    inN v (o + 4) 2 2 256, inN v (o + 6) 1 2 128, inN v (o + 7) 1 1 32, inN v (o + 8) 1 1 16, inN v (o + 9) 1 1 16,
    (o + 9, decide (getN v (o + 9) 1 ≤ getN v (o + 8) 1)), inN v (o + 10) 1 0 1, inN v (o + 11) 1 0 127]

/-- CAN (R466). -/
def checkCan (v : Bytes) : List Chk :=
  let port := fun (o : Nat) => (o, let x := getN v o 1; decide (x ≤ 1) || x = 0xFF)
  let fmt := fun (o : Nat) => (o, let x := getN v o 1; decide (x ≤ 1) || x = 3)
  let ident := fun (o : Nat) => (o, decide (getN v o 4 / 0x20000000 % 4 = 0))
  checkCanPort v 0 ++ checkCanPort v 12 ++ [port 24, port 25, fmt 26, fmt 27, ident 28, ident 32, ident 36]

/-- PAIR, RECORDER, BALANCING and HOLDOVER (R431, R512, R362, R125). -/
def checkPair (v : Bytes) : List Chk := [inN v 0 1 0 1] ++ zeros v 1 3
def checkRecorder (v : Bytes) : List Chk := [inN v 0 1 0 1, inN v 1 1 1 255, inN v 2 2 100 60000, inN v 4 2 1 600, inN v 6 2 1 60]
def checkBalancing (v : Bytes) : List Chk :=
  [inN v 0 1 0 1] ++ zeros v 1 1 ++ [inN v 2 2 50 5000, inN v 4 4 50 80000, inN v 8 2 10 1000, inN v 10 2 50 300, inN v 12 2 10 1440,
    (20, decide (getI v 18 2 < getI v 20 2))] ++ zeros v 22 2
def checkHoldover (v : Bytes) : List Chk := [inN v 0 2 10 3600] ++ zeros v 2 2 ++ [inI v 4 4 (-100000) 100000, inN v 8 4 1000 1000000]

/-- A tone lies within 2 × f0 of a non-zero multiple of a mains frequency (R282), all in mHz. -/
def nearMains (f len b : Nat) : Bool :=
  let m := max 1 ((2 * f + b) / (2 * b))
  let d := if f ≤ m * b then m * b - f else f - m * b
  decide (d * len ≤ 40000000)

/-- A block record of a plan (R281, R282). DESIGN CHOICE (assumption 62): `AMP` entries beyond `TONES` must be 0, as R281 says of
`FREQ` only. -/
def checkBlock (v : Bytes) (o : Nat) (used : Bool) : List Chk :=
  if !used then zeros v o 4 ++ zeros v (o + 4) 1 ++ zeros v (o + 5) 3 ++ (List.range 16).flatMap (fun k => zeros v (o + 8 + 4 * k) 4)
  else
    let len := getN v o 4
    let n := getN v (o + 4) 1
    let f := fun (k : Nat) => getN v (o + 8 + 4 * k) 4
    let toneOk := fun (k : Nat) =>
      decide (100 ≤ f k) && decide (f k ≤ 2000000) && f k * len % 20000000 = 0 && !(nearMains (f k) len 50000) && !(nearMains (f k) len 60000)
        && (List.range n).all fun j => j = k || (f j ≠ f k && f k ≠ 2 * f j && f k ≠ 3 * f j)
    [(o, len % 20 = 0 && decide (20 ≤ len) && decide (len ≤ 12000000)), inN v (o + 4) 1 1 8] ++ zeros v (o + 5) 3
    ++ (List.range 8).flatMap (fun k => if k < n then [(o + 8 + 4 * k, toneOk k)] else zeros v (o + 8 + 4 * k) 4)
    ++ (List.range 8).flatMap (fun k => if k < n then [] else zeros v (o + 40 + 4 * k) 4)

/-- A plan (R281). -/
def checkPlan (v : Bytes) (p : Nat) : List Chk :=
  let o := 84 + 580 * p
  [inN v o 1 1 8] ++ zeros v (o + 1) 3 ++ (List.range 8).flatMap fun k => checkBlock v (o + 4 + 72 * k) (k < getN v o 1)

/-- IMPEDANCE (R280). -/
def checkImpedance (v : Bytes) : List Chk :=
  let n := getN v 16 1
  [inN v 0 1 1 8, (1, getN v 1 1 = 0xFF || decide (getN v 1 1 < getN v 0 1)), inN v 2 2 10 1440, inN v 12 2 60 3600, inN v 14 2 10 1000, inN v 16 1 2 16]
  ++ zeros v 17 3
  ++ (List.range 16).flatMap (fun k =>
      let o := 20 + 4 * k
      if n ≤ k then zeros v o 2 ++ zeros v (o + 2) 2
      else if k = 0 then []
      else [(o, decide (getI v (o - 4) 2 < getI v o 2)), (o + 2, decide (getI v (o - 2) 2 < getI v (o + 2) 2))])
  ++ (List.range (getN v 0 1)).flatMap (checkPlan v)

/-- Check 6 of a section: the image offset of its first offending field. -/
def check6 (p : Nat) (x : Section) : Option Nat :=
  let v := x.value
  match fixedLen v x.type_ with
  | some n => if v.length ≠ n then some (x.start + 2) else
    (firstBad (match x.type_ with
      | 1 => checkSafety v | 3 => checkCell v | 4 => checkConverter v | 5 => checkDispatch v | 6 => checkThermal v | 7 => checkNetwork v
      | 8 => checkCan v | 9 => checkPair v | 10 => checkRecorder v | 11 => checkImpedance v | 12 => checkBalancing v | _ => checkHoldover v)).map (x.start + 4 + ·)
  | none => if x.type_ = 2 then (firstBad (checkGeometry p v)).map (x.start + 4 + ·) else none

/-! ### Check 7: rules across fields and sections -/

/-- A rule across fields: the section type and offset it is reported at, and whether it holds. -/
abbrev Chk7 := Nat × Nat × Bool

/-- Geometry (R141, R142, R221). -/
def checkSerials (sv gv : Bytes) : List Chk7 :=
  let p := getN sv 0 2
  let n := getN gv 0 1
  let ser := (List.range n).map fun m => getN gv (4 + 4 * m) 4
  [(1, 4, decide (getN sv 4 1 = (p + 15) / 16)), (2, 0, decide (n = getN sv 4 1))]
  ++ (List.range n).map (fun m => (2, 4 + 4 * m, !((ser.take m).contains (nth 0 ser m))))
  ++ [(2, 0, decide (gv.length = (4 + 4 * n + p + 3) / 4 * 4))]
  ++ (List.range p).map (fun q => (2, 4 + 4 * n + q,
      decide (((List.range 8).filter fun k => bitAt (getN gv (4 + 4 * n + q) 1) k).length ≤ getN sv 3 1)))

/-- Pins of J15 that an enabled thermal slot names: the offset of the name in its record, the pin, and the `DI_MODE` its input
needs (R364, R367). -/
def slotPins (tv : Bytes) (k : Nat) : List (Nat × Nat × Option Nat) :=
  let o := 68 + 64 * k
  let i := getN tv (o + 2) 1
  let u := getN tv (o + 3) 1
  if getN tv o 1 = 0 then []
  else
    (if i < 8 then [(o + 2, i, none)] else if 0x10 ≤ i && i ≤ 0x13 then [(o + 2, 0x10 + (i - 0x10), some 1)]
      else if 0x18 ≤ i && i ≤ 0x1B then [(o + 2, 0x10 + (i - 0x18), some 2)] else [])
    ++ (if u < 4 then [(o + 3, 0x20 + u, none)] else if u = 0x10 || u = 0x11 then [(o + 3, 0x20 + u, none)] else [])

/-- J15 pins (R142, R364). -/
def checkPins (tv : Bytes) : List Chk7 :=
  let ps := (List.range 10).flatMap (slotPins tv)
  mapI (fun i (x : Nat × Nat × Option Nat) =>
    (6, x.1, !((ps.take i).any fun y => y.2.1 = x.2.1) && (match x.2.2 with | some m => getN tv (32 + (x.2.1 - 0x10)) 1 = m | none => true))) ps

/-- Network (R436). -/
def checkPorts (v : Bytes) : List Chk7 :=
  (List.range 2).map fun k => (7, 8 * k, !(bitAt (getN v 24 1) k) || (getN v (8 * k) 4 ≠ 0 && getN v (8 * k + 4) 4 ≠ 0))

/-- `I_LO` and `I_HI` of the schedule entries that name a mode cover 0 to `I_RATED` without a gap (R330): how far they reach. -/
def coverGo (es : List (Nat × Nat)) : Nat → Nat → Nat
  | 0, cur => cur
  | f + 1, cur => coverGo es f ((es.filter fun e => decide (e.1 ≤ cur)).foldl (fun a e => max a e.2) cur)
def covered (es : List (Nat × Nat)) (rated : Nat) : Bool := !es.isEmpty && decide (rated ≤ coverGo es es.length 0)

/-- Converter: R166, R176, R328 and R330. -/
def checkConvCross (sv cv : Bytes) : List Chk7 :=
  let rated := getN cv 0 4
  let rec_ := fun (k : Nat) => slice cv (64 + 64 * k) 64
  let span := if getN sv 40 1 = 0 then 150000000000 else 37500000000
  let n := getN cv 53 1
  let es := (List.range n).map fun k => (getN cv (528 + 48 * k) 1, getN cv (532 + 48 * k) 4, getN cv (536 + 48 * k) 4)
  [(4, 128, decide (rec_ 1 = rec_ 0)), (4, 192, decide (rec_ 2 = rec_ 0)), (1, 40, decide (3 * rated * getN sv 32 4 ≤ 2 * span))]
  ++ (List.range 4).map (fun k =>
      let o := 448 + 20 * k
      let dur := ((List.range (getN cv (o + 1) 1)).map fun i => 2 ^ getN cv (o + 5 + 2 * i) 1).foldl (· + ·) 0
      (4, o, decide (getN cv o 1 ≤ 8) && decide (dur * 200 ≤ 10000)))
  ++ (if n = 0 then [] else (List.range 3).map fun m =>
      (4, 528, covered ((es.filter fun e => bitAt e.1 m).map fun e => e.2) rated))

/-- The rules of R406. -/
def checkLimits (sv cl cv dv : Bytes) : List Chk7 :=
  let rated := getN cv 0 4
  let ph := getN cv 4 4
  let fast := getN sv 44 4
  let nom := getN sv 32 4
  let span := if getN sv 40 1 = 0 then 150000000000 else 37500000000
  let trip := getN sv 52 4
  let disp := !dv.isEmpty
  [(3, 4, decide (getN sv 16 2 < getN cl 4 2)),
    (5, 10, !disp || getN dv 8 2 = getN dv 10 2 || decide (getN dv 10 2 ≤ getN sv 12 2)),
    (5, 14, !disp || getN dv 12 2 = getN dv 14 2 || decide (getN sv 16 2 ≤ getN dv 14 2)),
    (1, 44, decide (11 * ph ≤ 10 * fast) && (List.range 3).all fun k => decide (100 * fast ≤ 475 * getN cv (8 + 4 * k) 4)),
    (1, 48, decide (ph ≤ getN sv 48 4) && decide (getN sv 48 4 ≤ fast)),
    (1, 56, decide (rated ≤ getN sv 56 4)),
    (1, 52, decide (11 * rated ≤ 10 * trip) && decide (100 * trip * nom ≤ 95 * span)),
    (1, 84, getN cv 52 1 ≠ 0 || decide (5 * getN sv 76 2 * getN sv 80 4 ≤ 1000 * getN sv 84 2))]

/-- The default edges of R370, or those of a THERMAL section. -/
def bandEdges (tv : Bytes) : List Int :=
  if tv.isEmpty then [-1000, 0, 1000, 2000, 3500, 4500, 5500] else (List.range 7).map fun k => getI tv (2 * k) 2

/-- `T_REF` of CELL band b lies within band b (R353). -/
def checkBands (cl tv : Bytes) : List Chk7 :=
  (List.range 8).map fun b =>
    let t := getI cl (28 + 16 * b) 2
    (3, 28 + 16 * b, decide (((bandEdges tv).filter fun e => decide (e ≤ t)).length = b))

/-- CAN rates and message fields (R464 to R466). -/
def checkCanCross (v : Bytes) : List Chk7 :=
  let port := fun (o : Nat) => (
    let nom := getN v (o + 2) 1 * (1 + getN v (o + 4) 2 + getN v (o + 6) 1)
    let dat := getN v (o + 2) 1 * (1 + getN v (o + 7) 1 + getN v (o + 8) 1)
    [(8, o + 4, decide (80 ≤ nom)), (8, o + 7, decide (16 ≤ dat) && decide (dat ≤ nom)), (8, o + 10, decide (80 ≤ dat) || getN v (o + 10) 1 = 1)] : List Chk7)
  let ch := getN v 24 1
  let tp := getN v 25 1
  let en := fun (p : Nat) => decide (2 ≤ p) || getN v (12 * p) 1 = 1
  port 0 ++ port 12 ++ [(8, 24, en ch), (8, 25, en tp),
    (8, 36, !(decide (ch < 2) && ch = tp) || decide (arbKey (getN v 36 4) < arbKey (getN v 28 4))),
    (8, 32, !(decide (ch < 2)) || (getN v 32 4 ≠ getN v 28 4 && (decide (2 ≤ tp) || getN v 32 4 ≠ getN v 36 4)))]

/-- Impedance plans against the converter, and the tones of the automatic plan (R282). -/
def checkPlans (v cv : Bytes) : List Chk7 :=
  let blk := fun (p k : Nat) => 88 + 580 * p + 72 * k
  let amps := fun (o : Nat) => ((List.range (getN v (o + 4) 1)).map fun i => getN v (o + 40 + 4 * i) 4).foldl (· + ·) 0
  let auto := getN v 1 1
  let has := fun (f : Nat) => (List.range (getN v (84 + 580 * auto) 1)).any fun k =>
    (List.range (getN v (blk auto k + 4) 1)).any fun i => getN v (blk auto k + 8 + 4 * i) 4 = f
  (List.range (getN v 0 1)).flatMap (fun p => (List.range (getN v (84 + 580 * p) 1)).map fun k =>
    (11, blk p k + 40, decide (20 * amps (blk p k) ≤ getN cv 0 4)))
  ++ (if auto = 0xFF then [] else [(11, 4, has (getN v 4 4)), (11, 8, has (getN v 8 4))])

/-- Check 7 in the order R142 names its rules. -/
def check7 (l : List Section) : Option (Nat × Nat) :=
  let sv := valueOf l 1
  let cv := valueOf l 4
  let all := checkSerials sv (valueOf l 2)
    ++ (if (sectionOf l 6).isSome then checkPins (valueOf l 6) else [])
    ++ checkPorts (valueOf l 7)
    ++ [(1, 5, decide (getN sv 5 1 = 1) == (sectionOf l 9).isSome)]
    ++ checkConvCross sv cv ++ checkLimits sv (valueOf l 3) cv (valueOf l 5) ++ checkBands (valueOf l 3) (valueOf l 6)
    ++ (if (sectionOf l 8).isSome then checkCanCross (valueOf l 8) else [])
    ++ (if (sectionOf l 11).isSome then checkPlans (valueOf l 11) cv else [])
  match all.find? fun c => !c.2.2 with
  | none => none
  | some c => some (c.1, (match sectionOf l c.1 with | some x => x.start + 4 | none => 0) + c.2.1)

/-! ### Validation (R142) -/

/-- What the checks find: the first that fails with the data of its record, and what the objects of R152 report. -/
structure PlugResult where
  fail : Option Nat := none
  data : Bytes := []
  /-- Checks passed, from the first. -/
  passed : Nat := 0
  secs : List Section := []
  ignored : List Nat := []
  digest : Option Nat := none
  seal_ : Option Nat := none
  imageLen : Option Nat := none
  buildTime : Option Nat := none
  deriving DecidableEq, Repr

/-- Data of a failure record: section type (0xFFFF for the header) and image offset. -/
def failData (t o : Nat) : Bytes := u16 t ++ u32 o

/-- Section CRCs and framing (check 4): the first failure. -/
def check4 (l : List Section) (brk : Option Nat) (fin len : Nat) (img : Bytes) : Option (Nat × Nat) :=
  match l.find? (fun x => !x.crcOk) with
  | some x => some (x.type_, x.start + 4 + x.value.length)
  | none =>
    match brk with
    | some o => some (getN img o 2, o)
    | none =>
      match sectionOf l 0 with
      | some e => if !e.value.isEmpty then some (0, e.start + 2) else if fin ≠ len then some (0, fin) else none
      | none => some (0, fin)

/-- Structure (check 5): an unassigned or repeated type, then a required section that is missing. -/
def check5 (l : List Section) : Option (Nat × Nat) :=
  let bad := (List.range l.length).findSome? fun i =>
    match l[i]? with
    | none => none
    | some x =>
      if x.type_ = 0xFFFF || (decide (x.type_ < 0x8000) && !(knownType x.type_)) || (l.take i).any (fun y => y.type_ = x.type_)
      then some (x.type_, x.start) else none
  match bad with
  | some b => some b
  | none => (requiredTypes.find? fun t => (sectionOf l t).isNone).map fun t => (t, 0)

/-- Header (check 3): the offset of the first field that fails. -/
def check3 (img : Bytes) : Option Nat :=
  firstBad [(0, getN img 0 4 = 0x4643564B), (4, getN img 4 2 = 1), (6, getN img 6 2 = 32), (28, getN img 28 4 = crc32c (slice img 0 28)), inN img 8 4 64 65536]

/-- Checks 1 to 8 on an image as read, with the second read of R136 where one was made. -/
def judgeImage (present ack : Bool) (img : Bytes) (reread : Option Bytes) : PlugResult :=
  if !present then { fail := some 1 }
  else if !ack then { fail := some 2, passed := 1 }
  else
    let len := getN img 8 4
    let w := walkSections img (min len 65536) 8192 32
    let dig := match sectionOf w.1 1 with | some x => some (safetyDigest x.value) | none => none
    let again := slice img 0 32 ++ (match sectionOf w.1 1 with | some x => slice img x.start (8 + x.value.length) | none => [])
    let base : PlugResult := { digest := dig, imageLen := some len, buildTime := some (getN img 20 8), secs := w.1 }
    if (match reread with | some r => decide (r ≠ again) | none => false) then { base with fail := some 2, passed := 1 }
    else match check3 img with
    | some o => { base with fail := some 3, passed := 2, data := failData 0xFFFF o }
    | none =>
      match check4 w.1 w.2.1 w.2.2 len img with
      | some d => { base with fail := some 4, passed := 3, data := failData d.1 d.2 }
      | none =>
        match check5 w.1 with
        | some d => { base with fail := some 5, passed := 4, data := failData d.1 d.2 }
        | none =>
          let p := getN (valueOf w.1 1) 0 2
          let b5 := { base with ignored := (w.1.filter fun (x : Section) => decide (0x8000 ≤ x.type_)).map fun (x : Section) => x.type_ }
          match w.1.findSome? (fun (x : Section) => (check6 p x).map fun o => (x.type_, o)) with
          | some d => { b5 with fail := some 6, passed := 5, data := failData d.1 d.2 }
          | none =>
            match check7 w.1 with
            | some d => { b5 with fail := some 7, passed := 6, data := failData d.1 d.2 }
            | none =>
              if dig = some (getN (valueOf w.1 1) 1532 2) then { b5 with passed := 8 }
              else { b5 with fail := some 8, passed := 7, data := failData 1 ((match sectionOf w.1 1 with | some x => x.start | none => 0) + 1536) }

/-- Checks 9 and 10 after the others: the seal switches (R144). -/
def judgeSeal (r : PlugResult) (seals : List Nat) : PlugResult :=
  let r1 := { r with seal_ := seals.head?.map (· % 65536) }
  match r.fail with
  | some _ => r1
  | none =>
    if seals.any (fun x => x ≠ nth 0 seals 0) then { r1 with fail := some 9 }
    else if r.digest = some (nth 0 seals 0) then { r1 with passed := 10 }
    else { r1 with fail := some 10, passed := 9 }

/-- Event code and severity of a failing check (R142). -/
def checkCode (n : Nat) : Nat := 0x0200 + n
def checkSev (n : Nat) : Nat := if n < 8 then 2 else 3

/-! ### The configuration an image gives -/

/-- A slot record (R305). -/
def readSlot (v : Bytes) (o : Nat) : SlotRec :=
  { mode := getN v o 1, ffSel := getN v (o + 1) 1, ioIn := getN v (o + 2) 1, ioOut := getN v (o + 3) 1
    ki := getI v (o + 4) 4, ai := getI v (o + 8) 4, kp := getI v (o + 12) 4, kd := getI v (o + 16) 4, ad := getI v (o + 20) 4
    kff := getI v (o + 24) 4, yMax := getI v (o + 28) 4, yMin := getI v (o + 32) 4
    shKi := getN v (o + 36) 1, shAi := getN v (o + 37) 1, shKp := getN v (o + 38) 1, shKd := getN v (o + 39) 1, shAd := getN v (o + 40) 1
    shKff := getN v (o + 41) 1, ramp := getN v (o + 44) 4, deadband := getN v (o + 48) 4, rate := getN v (o + 52) 2 }

/-- `n` fields of `w` bytes. -/
def fields (v : Bytes) (o w n : Nat) : List Nat := (List.range n).map fun k => getN v (o + w * k) w

def readSafety (v : Bytes) : CfgSafety :=
  { p := getN v 0 2, s := getN v 2 1, sensors := getN v 3 1, monN := getN v 4 1, pair := getN v 5 1 = 1
    twFraction := getN v 6 2, twDuration := getN v 8 2, ovLimit := getN v 12 2, ovHard := getN v 14 2, uvLimit := getN v 16 2
    uvDeep := getN v 18 2, vConfirm := getN v 20 1, tConfirm := getN v 21 1, iDirTol := getN v 22 2, otLimit := getI v 24 2
    utChg := getI v 26 2, utDis := getI v 28 2, shuntTMax := getI v 30 2, shuntNom := getN v 32 4, shuntTc := getI v 36 2
    shuntBeta := getN v 38 2, shuntGain := getN v 40 1, cmpFilter := getN v 41 1, shareIMin := getN v 42 2, ocFast := getN v 44 4
    ocSw := getN v 48 4, iStrTrip := getN v 52 4, i2tCont := getN v 56 4, i2tTau := getN v 60 2, estopDisc := getN v 62 2
    extUse := getN v 64 1, isoAction := getN v 65 1, isoSlot := getN v 66 1, isoSlotN := getN v 67 1, isoAlarm := getN v 68 2
    isoWarn := getN v 70 2, isoRParallel := getN v 72 4, rPre := getN v 76 2, preWindow := getN v 78 2, cLink := getN v 80 4
    preTimeout := getN v 84 2, closeMax := getN v 86 2, openMax := getN v 88 2, coilTol := getN v 90 2
    coilPull := fields v 92 2 3, coilHold := fields v 98 2 3, isoHalf := getN v 104 2
    dsFilter := (List.range 8).map fun k => { n := getN v (106 + 4 * k) 1, m := getN v (107 + 4 * k) 1, l := getN v (108 + 4 * k) 2 } }

def readCell (v : Bytes) : CfgCell :=
  let n := getN v 24 1
  { capNom := getN v 0 4, vCutoff := getN v 4 2, epsV := getN v 6 2, linkRNom := getN v 8 2, linkTc := getI v 10 2, restMin := getN v 12 2
    restoreAgeMax := getN v 14 2, capLearnWeight := getN v 16 2, exportPeriod := getN v 18 2, learnTMin := getI v 20 2, learnTMax := getI v 22 2
    bands := (List.range 8).map fun b =>
      let o := 28 + 16 * b
      { tRef := getI v o 2, rOhm := getN v (o + 2) 2, rA := getN v (o + 4) 2, tauA := getN v (o + 6) 2, rB := getN v (o + 8) 2
        tauB := getN v (o + 10) 2, hQ := getN v (o + 12) 2 }
    ocv := (List.range 8).map fun b => (List.range n).map fun i =>
      let o := 156 + (b * n + i) * 6
      { soc := getN v o 2, chg := getN v (o + 2) 2, dis := getN v (o + 4) 2 } }

def readConverter (v : Bytes) : CfgConverter :=
  { iRated := getN v 0 4, iPhMax := getN v 4 4, sens := fields v 8 4 3, lPhase := getN v 20 4, vStrNom := getI v 24 4, vBusNom := getI v 28 4
    vDroop := getI v 32 4, dMax := getN v 36 2, dFix := getN v 38 2, dead := fields v 40 2 6, preMode := getN v 52 1
    otReenable := getN v 54 2, preVBusMin := getI v 56 4
    slots := (List.range 6).map fun k => readSlot v (64 + 64 * k)
    sar := (List.range 4).map fun k =>
      let o := 448 + 20 * k
      { trig := getN v o 1, entries := getN v (o + 1) 1, period := getN v (o + 2) 2
        list := (List.range (getN v (o + 1) 1)).map fun i => (getN v (o + 4 + 2 * i) 1, getN v (o + 5 + 2 * i) 1) }
    sched := (List.range (getN v 53 1)).map fun k =>
      let o := 528 + 48 * k
      { mask := getN v o 1, lo := getN v (o + 4) 4, hi := getN v (o + 8) 4, ki := getI v (o + 12) 4, ai := getI v (o + 16) 4, kp := getI v (o + 20) 4
        kd := getI v (o + 24) 4, ad := getI v (o + 28) 4, yMax := getI v (o + 32) 4, yMin := getI v (o + 36) 4, shift := fields v (o + 40) 1 5 } }

def readDispatch (v : Bytes) : CfgDispatch :=
  if v.isEmpty then {}
  else
    { present := true, rampInc := getN v 0 4, rampDec := getN v 4 4, vChgLo := getN v 8 2, vChgHi := getN v 10 2, vDisHi := getN v 12 2
      vDisLo := getN v 14 2, socChgLo := getN v 16 2, socChgHi := getN v 18 2, socDisHi := getN v 20 2, socDisLo := getN v 22 2
      spHoldMax := getN v 24 2, bandLim := fields v 28 2 48 }

def readThermal (v : Bytes) : CfgThermal :=
  if v.isEmpty then {}
  else
    { present := true, edges := (List.range 7).map fun k => getI v (2 * k) 2
      tBrokenDev := getN v 14 2, beta := fields v 16 2 8, diMode := fields v 32 1 4
      flowMin := fields v 36 2 4, pwmFreq := fields v 44 2 4, cellTarget := getI v 52 2, coolGain := getN v 54 2, coolMin := getI v 56 2
      coolMax := getI v 58 2, heatOn := getI v 60 2, chPeriod := getN v 62 2, chTimeout := getN v 64 2
      slots := (List.range 10).map fun k => readSlot v (68 + 64 * k)
      ext := (List.range 10).map fun k =>
        let o := 708 + 12 * k
        { refSrc := getN v o 1, refValue := getI v (o + 4) 4, failsafe := getI v (o + 8) 4 } }

def readNetwork (v : Bytes) : CfgNetwork :=
  { ip := [getN v 0 4, getN v 8 4], mask := [getN v 4 4, getN v 12 4], gw := fields v 16 4 2, hostPorts := getN v 24 1, ptpPort := getN v 25 1
    ptpDomain := getN v 26 1, ptpPrio := getN v 27 1, ptpVlan := getN v 28 2, readOpen := getN v 30 2, modbusEn := getN v 32 1
    modbusUnit := getN v 33 1, idle := getN v 34 2, allowAddr := getN v 36 4, allowMask := getN v 40 4, eeeEn := getN v 44 1 }

def readCanPort (v : Bytes) (o : Nat) : CfgCanPort :=
  { en := getN v o 1 = 1, term := getN v (o + 1) 1 = 1, brp := getN v (o + 2) 1, nsjw := getN v (o + 3) 1, ntseg1 := getN v (o + 4) 2
    ntseg2 := getN v (o + 6) 1, dtseg1 := getN v (o + 7) 1, dtseg2 := getN v (o + 8) 1, dsjw := getN v (o + 9) 1
    tdc := getN v (o + 10) 1 = 1, tdco := getN v (o + 11) 1 }

def readCan (v : Bytes) : CfgCan :=
  if v.isEmpty then {}
  else
    { p1 := readCanPort v 0, p2 := readCanPort v 12, chPort := getN v 24 1, tripPort := getN v 25 1, chFmt := getN v 26 1, tripFmt := getN v 27 1
      chReqId := getN v 28 4, chStsId := getN v 32 4, tripId := getN v 36 4 }

def readImpedance (v : Bytes) : CfgImpedance :=
  if v.isEmpty then {}
  else
    { plans := (List.range (getN v 0 1)).map fun p =>
        let o := 84 + 580 * p
        (List.range (getN v o 1)).map fun k =>
          let b := o + 4 + 72 * k
          { length := getN v b 4, tones := (List.range (getN v (b + 4) 1)).map fun i => (getN v (b + 8 + 4 * i) 4, getN v (b + 40 + 4 * i) 4) }
      autoPlan := getN v 1 1, autoPeriod := getN v 2 2, tTone := getN v 4 4, rTone := getN v 8 4, tIntAgeMax := getN v 12 2, dcStepMax := getN v 14 2
      tempMap := (List.range (getN v 16 1)).map fun k => (getI v (20 + 4 * k) 2, getI v (22 + 4 * k) 2) }

def readBalancing (v : Bytes) : CfgBalancing :=
  if v.isEmpty then {}
  else
    { mode := getN v 0 1, iMax := getN v 2 2, monMax := getN v 4 4, deadband := getN v 8 2, sigmaMax := getN v 10 2, horizon := getN v 12 2
      vMin := getN v 14 2, vMax := getN v 16 2, tMin := getI v 18 2, tMax := getI v 20 2 }

/-- PAIR, RECORDER and HOLDOVER, each with its defaults where it is absent. -/
def readSmall (pv rv hv : Bytes) : CfgSmall :=
  let c0 : CfgSmall := {}
  let c1 := if pv.isEmpty then c0 else { c0 with member := getN pv 0 1, partnerSerial := getN pv 4 4 }
  let c2 := if rv.isEmpty then c1 else
    { c1 with timeMode := getN rv 0 1, rateLimit := getN rv 1 1, rateWindow := getN rv 2 2, recovery := getN rv 4 2, freezeMax := getN rv 6 2 }
  if hv.isEmpty then c2 else { c2 with holdoverMax := getN hv 0 2, asymmetry := getI hv 4 4, launchLateMax := getN hv 8 4 }

/-- `SEC_CRC` of types 0x0001 to 0x000C (R416). -/
def readCrcs (img : Bytes) (l : List Section) : List Nat :=
  (List.range 12).map fun k => match sectionOf l (k + 1) with | some x => getN img (x.start + 4 + x.value.length) 4 | none => 0

/-- The configuration of an accepted image. -/
def readConfig (img : Bytes) (l : List Section) : PlugCfg :=
  let sv := valueOf l 1
  let gv := valueOf l 2
  let n := getN gv 0 1
  { accepted := true, fallback := false, secCrc := readCrcs img l, safety := readSafety sv
    geo := { serials := fields gv 4 4 n, mask := fields gv (4 + 4 * n) 1 (getN sv 0 2) }
    cell := readCell (valueOf l 3), conv := readConverter (valueOf l 4), disp := readDispatch (valueOf l 5), therm := readThermal (valueOf l 6)
    net := readNetwork (valueOf l 7), can := readCan (valueOf l 8), imp := readImpedance (valueOf l 11), bal := readBalancing (valueOf l 12)
    small := readSmall (valueOf l 9) (valueOf l 10) (valueOf l 16) }

end Sys2Proof.Machine
end

