-- ==== Sys2Proof/Machine/Dawn.lean ====
section
/-! DEFINITION. Dawn (R128 to R148): the work of each step and its failures, the boot decision (R544 to R546), the
placement of the rings (R488, R489), and the lamp test (R81). The operands of a step that ends carry what its tests
and reads found; the steps follow one another, each starting when the one before has ended. -/
namespace Sys2Proof.Machine

/-! ### The ring fabric (R488, R489) -/

/-- What `RING_CFG` gives a ring (R488): size code, `PKT_MAX`, DROP; none for an unused ring. -/
def ringUse (n : Nat) : Option (Nat × Nat × Bool) :=
  if n ≤ 3 then some (4, 256, true) else if n ≤ 7 then some (4, 256, false) else if n ≤ 15 then some (7, 64, true)
  else if n = 16 || n = 18 then some (6, 16, false) else if n = 17 || n = 19 then some (7, 32, true)
  else if n = 20 then some (6, 64, true) else if n = 24 || n = 25 then some (3, 64, true) else if n = 26 || n = 27 then some (2, 32, true)
  else if n = 32 then some (7, 32, false) else if n = 33 then some (7, 32, true) else if n = 34 then some (5, 16, true)
  else if 40 ≤ n && n ≤ 47 then some (6, 256, true) else if 48 ≤ n && n ≤ 55 then some (5, 128, false)
  else if n = 56 then some (5, 64, true) else if n = 57 then some (5, 64, false) else if n = 58 then some (10, 64, true)
  else if n = 59 then some (7, 16, false) else if n = 60 then some (7, 64, false) else if n = 61 then some (4, 64, true)
  else none

/-- Water marks: R494 for rings 0 to 3, half full for the event intake (R509); the others have none. -/
def ringMarks (n : Nat) : Nat × Nat := if n ≤ 3 || (40 ≤ n && n ≤ 47) then (128, 96) else (0, 0)

/-- `RING_CFG` of a ring (R496). -/
def ringCfg (n : Nat) : Word :=
  match ringUse n with
  | none => 0x00020000
  | some (size, pkt, drop) =>
    BitVec.ofNat 32 (size * 2 ^ 28 + 2 ^ 27 + b2n drop * 2 ^ 26 + pkt * 2 ^ 17 + (ringMarks n).1 * 2 ^ 8 + (ringMarks n).2)

/-- Where a ring of `n` words starts at or after `pos`, past every failing word inside its span (R489). -/
def placeAt (bad : List Nat) (n : Nat) : Nat → Nat → Nat
  | 0, pos => pos
  | f + 1, pos =>
    match bad.find? fun w => decide (pos ≤ w) && decide (w < pos + n) with
    | some w => placeAt bad n f (w + 1)
    | none => pos

/-- Words of the ring SRAM. -/
def ringWords : Nat := 262144

/-- The rings placed in index order: configuration, base, whether it moved, and the word after the last. -/
def placeRings (bad : List Nat) : List (Nat × Word × Nat × Bool) × Nat :=
  (List.range 64).foldl (fun a k =>
    let c := ringCfg k
    let n := 2 ^ (6 + fld c 31 28)
    let b := placeAt bad n (bad.length + 1) a.2
    (a.1 ++ [(k, c, b, decide (b ≠ a.2))], b + n)) ([], 0)

/-- The fabric takes its configuration and its places. -/
def placeFabric (bad : List Nat) (s : State) : State :=
  let p := placeRings bad
  s |> onRings fun q =>
    { q with rings := p.1.map fun x => { base := x.2.2.1, cfg := x.2.1, relocated := x.2.2.2 }, spare := some (ringWords - p.2) }

/-- Failing words of the defect map. -/
def knownRingWords (s : State) : List Nat := (s.hlth.map.filter fun d => d.kind = 4).map (·.addr)

/-! ### How Dawn ends in FAULT (R146 to R148) -/

/-- The fallback configuration of the identity region (R148). -/
def fallbackCfg (s : State) : PlugCfg :=
  let net : CfgNetwork := {}
  { fallback := true, net := { net with ip := [s.idn.fallbackIp, 0], mask := [s.idn.fallbackMask, 0] } }

/-- The module runs on the fallback configuration: no string, SOLO; CAN, the pair link and PTP are off, and nothing is driven
toward the ring or the partner. -/
def useFallback (s : State) : State :=
  { s with cfg := fallbackCfg s }
    |> onDawn (fun d => { d with fallback := true }) |> canOff |> setSync .freeRun
    |> onTb (fun t => { t with gm := none, pendingSync := none })
    |> onPins (fun p => { p with sfpOn := false, sfpUp := false, sklTx := false })
    |> onPair (fun p => { p with ownOut := false, linkUp := false, partner := .absent })
    |> onStr (fun x => { x with role := some .solo, mirrored := false, partnerAbsent := false })
    |> onEst (fun e => { e with mode := .noString })
    |> onTab (fun t => { t with cells := [], poss := [], temps := [] })

/-- Dawn ends in FAULT with a cause: latched, reported, and the fallback configuration taken up where no image is accepted
or the cause is one of R142. Its host protocol needs the rings: a Dawn that ends before D3 has placed them does so here. -/
def dawnFail (code cls : Nat) (s : State) : State :=
  let step := s.dawn.step.getD 0xFF
  let s1 := s |> onStr (fun x => { x with causes := latchCause { code := code, cls := cls } x.causes }) |> latchClass2 code cls
    |> onDawn (fun d => { d with fail := code, failDark := !(owning s) || decide (step < 9), step := none, duration := some (s.tick.now / 1000000) })
  let s2 := if s1.cfg.accepted && !(decide (0x0201 ≤ code) && decide (code ≤ 0x020A)) then s1 else useFallback s1
  let s3 := if s2.rings.spare.isSome then s2 else placeFabric (knownRingWords s2) s2
  s3 |> log srcSafety 0x0103 3 (u8 step ++ u16 code) |> setState .fault code

/-- The next step starts. -/
def dawnNext (s : State) : State :=
  s |> onDawn fun d => { d with step := d.step.map (· + 1), stepSince := s.tick.now }

/-- The work of steps D1 to D11 goes on only while none has failed. -/
def unlessFailed (g : State → State) (s : State) : State := if s.dawn.step.isSome then g s else s

/-! ### D0, D1 and D3: reset, SRAM, rings and lanes (R128, R133, R489, R520, R521) -/

/-- D0: the reason of a power-on follows the RTC (R130), and a closed reset input is disabled (R534). -/
def dawnD0 (d : DawnIn) (s : State) : State :=
  let s1 := s |> onDawn (fun x => { x with reason := if x.reason ≤ 1 then (if d.rtcIntact then 0 else 1) else x.reason })
    |> onTb fun t => { t with rtcLost := s.dawn.reason ≤ 1 && !d.rtcIntact }
  if d.resetClosed then s1 |> onLad (fun l => { l with closed := true, closedSince := s.tick.now }) |> onPins (fun p => { p with resetLow := true }) |> resetDisable 1
  else s1

/-- An entry for the defect map, kept until flash is mounted in D4. -/
def noteRepair (kind st unit addr : Nat) (s : State) : State :=
  s |> onDawn fun d => { d with repairs := d.repairs ++ [(kind, st, unit, addr)] }

/-- A row fails its march test: a spare row takes its place, or none is left (R133, R523). -/
def rowFails (kind row : Nat) (s : State) : State :=
  if 0 < spareLeft s kind then s |> useSpare kind |> noteRepair kind 1 row 0 |> log srcAon 0x1004 2 (u16 kind ++ u16 row)
  else s |> noteRepair kind 3 row 0 |> log srcAon 0x1008 3 (u16 kind ++ u16 row) |> dawnFail 0x1008 2

/-- The march test of one array: failing rows are replaced, suspect rows that pass are cleared (R520). -/
def testRows (kind : Nat) (bad : List (Nat × Nat)) (s : State) : State :=
  let rows := (bad.filter fun b => b.1 = kind).map (·.2)
  let suspects := ((s.hlth.map.filter fun d => d.kind = kind).map (·.unit)).eraseDups.filter fun r => suspectNow s kind r && !(rows.contains r)
  let s1 := suspects.foldl (fun t r => noteRepair kind 2 r 0 t) s
  rows.foldl (fun t r => unlessFailed (rowFails kind r) t) s1

/-- The fabric is configured and placed; every failing word stands in the defect map (R133, R489). -/
def setRings (badNow : List Nat) (s : State) : State :=
  let known := knownRingWords s
  let fresh := badNow.eraseDups.filter fun w => !(known.contains w)
  let s0 := fresh.foldl (fun t w => noteRepair 4 1 0 w t) s
  let p := placeRings (known ++ fresh)
  let s1 := placeFabric (known ++ fresh) s0
  let s2 := p.1.foldl (fun t x => if x.2.2.2 then log srcAon 0x0E05 1 (u16 x.1 ++ u32 x.2.2.1) t else t) s1
  if p.2 ≤ ringWords then s2
  else
    let first := match p.1.find? fun x => decide (ringWords < x.2.2.1 + 2 ^ (6 + fld x.2.1 31 28)) with | some x => x.1 | none => 0
    s2 |> log srcAon 0x0E07 3 (u16 first ++ u32 (p.2 - ringWords)) |> dawnFail 0x0E07 2

/-- A lane fails its vector set in D3: a spare takes its place, or the engine runs on fewer (R521, R523). -/
def dawnLane (lane : Nat) (s : State) : State :=
  let left := spareLeft s 2
  if 0 < left then s |> useSpare 2 |> noteRepair 2 1 lane 0 |> log srcAon 0x1005 2 (u16 lane ++ u16 (4 - left))
  else
    let n := s.hlth.lanes - 1
    let s1 := s |> onHlth (fun h => { h with lanes := n }) |> noteRepair 2 3 lane 0
    if n < 56 then s1 |> log srcAon 0x1009 3 (i32 n) |> dawnFail 0x1009 2 else s1

/-- D3: data SRAM, ring SRAM, lanes. -/
def dawnD3 (d : DawnIn) (s : State) : State :=
  let s1 := s |> testRows 1 d.badRows |> unlessFailed (setRings d.badRingWords)
  d.badLanes.foldl (fun t l => unlessFailed (dawnLane l) t) s1

/-! ### D2: the boot decision (R544 to R546) -/

/-- Change slot A (0) or B (1). -/
def onFwSlot (k : Nat) (g : FwSlot → FwSlot) (s : State) : State :=
  s |> onUpd fun u => if k = 0 then { u with slotA := g u.slotA } else { u with slotB := g u.slotB }

/-- The first failing check of a slot: those the operand reports, and the revoked keys and the counter of the fuses. -/
def slotReason (d : DawnIn) (s : State) (k : Nat) : Nat :=
  let j := if k = 0 then d.slotJudge.1 else d.slotJudge.2
  let m := (fwSlot s k).man
  let own := if bitAt s.upd.revoked m.keyIdx then 3 else if m.secVer < s.upd.counter then 5 else 0
  if j = 0 then own else if own = 0 then j else min j own

/-- A slot is REJECTED with a reason. -/
def rejectSlot (k reason : Nat) (s : State) : State :=
  s |> onFwSlot k (fun f => { f with st := 6 }) |> onUpd (fun u => { u with lastReject := some (k, reason) })
    |> log srcAon 0x1206 3 (u8 k ++ u8 reason)

/-- A slot is booted. -/
def bootSlot (k : Nat) (s : State) : State :=
  s |> onUpd (fun u => { u with running := k, recovery := false }) |> onIdn fun i => { i with fwVersion := (fwSlot s k).man.fwVersion }

/-- The boot ROM has left a slot it first chose: reason 9, and UPD_FALLBACK. -/
def bootFallback (left k : Nat) (s : State) : State :=
  bootSlot k s |> onUpd (fun u => { u with failNext := false, fallbackLast := true }) |> onDawn (fun d => { d with reason := 9 })
    |> log srcAon 0x1207 3 (u8 left ++ u8 k)

/-- No slot passes: recovery (R546). The boot ROM serves the service port through rings of its own placement; Dawn goes no
further. -/
def enterRecovery (s : State) : State :=
  s |> placeFabric (knownRingWords s) |> onUpd fun u => { u with recovery := true, recoveryOwed := true, failNext := false }

/-- A slot in a state of R543. -/
def slotIn (s : State) (st : Nat) : Option Nat := if s.upd.slotA.st = st then some 0 else if s.upd.slotB.st = st then some 1 else none

/-- Row 3 of R544: the ACTIVE slot, else the PREVIOUS one, which becomes ACTIVE, else recovery. `left` is the slot a failed
trial has left. -/
def bootActive (d : DawnIn) (left : Option Nat) (s : State) : State :=
  let good := fun (t : State) (st : Nat) => match slotIn t st with | some k => if slotReason d t k = 0 then some k else none | none => none
  match good s 4 with
  | some k => match left with | some x => bootFallback x k s | none => bootSlot k s
  | none =>
    let s1 := match slotIn s 4 with | some k => rejectSlot k (slotReason d s k) s | none => s
    match good s1 5 with
    | some k => bootFallback (match slotIn s 4 with | some x => x | none => 1 - k) k (s1 |> onFwSlot k fun f => { f with st := 4 })
    | none =>
      enterRecovery (match slotIn s1 5 with | some k => rejectSlot k (slotReason d s1 k) s1 | none => s1)

/-- A slot on trial boots: a candidate that fails its checks is REJECTED and the module resets (R544 rows 1 and 2). -/
def bootTrial (d : DawnIn) (k : Nat) (first : Bool) (s : State) : State :=
  let r := slotReason d s k
  if r ≠ 0 then
    let s1 := s |> rejectSlot k r |> onUpd (fun u => { u with failNext := true })
    newDawn s1.dawn.reason s1
  else
    let s1 := bootSlot k s |> onFwSlot k fun f => { f with st := 3, trialDawns := if first then 1 else f.trialDawns + 1 }
    let s2 := if first then log srcAon 0x1204 2 (u8 k ++ u32 (fwSlot s k).man.fwVersion) s1 else s1
    dawnNext s2

/-- D2: the candidate of R544. A third Dawn in TRIAL fails the trial (R545). -/
def dawnD2 (d : DawnIn) (s : State) : State :=
  let other := match slotIn s 4 with | some k => 1 - k | none => 0
  let active := fun (left : Option Nat) (t : State) => let u := bootActive d left t; if u.upd.recovery then u else dawnNext u
  if s.upd.failNext then active (some other) s
  else match slotIn s 3 with
    | some k =>
      if 2 ≤ (fwSlot s k).trialDawns then active (some k) (rejectSlot k 7 s) else bootTrial d k false s
    | none => match slotIn s 2 with
      | some k => bootTrial d k true s
      | none => active none s

/-! ### D4: flash, time and the records owed (R118, R130, R502) -/

/-- Time of the newest event record in ns: its TAI time, or its operating time in mode 0 (DESIGN CHOICE, assumption 37,
the lost RTC). -/
def newestRecordNs (s : State) : Nat :=
  match (((s.rcd.shared ++ s.rcd.safety).filter (·.crcOk)).foldl (fun (a : Option Rec) r => match a with | none => some r | some x => if x.seq < r.seq then some r else some x) none) with
  | some r => if r.tai then r.time * 1000 else r.time / 16777216 * 1000000
  | none => 0

/-- Records made before this Dawn, and those of its own first steps, into the Dawn intake. In mode 1 the latter carry the
counter value just loaded and are marked. -/
def writeDeferred (s : State) : State :=
  let own := s.dawn.deferred.map fun (i : Intake) => if s.rcd.tai then { i with time := s.tb.time / 1000, deferred := true } else i
  (s.dawn.carried ++ own).foldl (fun t i => ringPut 47 (mkPacket 0 i.encode) t)
    (s |> onDawn fun d => { d with deferred := [], carried := [] })

/-- A record owed by something kept across the reset. -/
def owed (c : Bool) (code sev : Nat) (data : Bytes) (s : State) : State := if c then log srcAon code sev data s else s

/-- The log is read: records whose CRC fails are skipped from then on, and counted; LOG_CRC_BAD is owed with the first of
them (R504). -/
def locateLog (bad : List Nat) (s : State) : State :=
  let judge := fun (l : List Rec) => l.map fun r => if bad.contains r.seq then { r with crcOk := false } else r
  let n := ((judge s.rcd.shared ++ judge s.rcd.safety).filter fun r => !r.crcOk).length
  if n = 0 then s
  else s |> onRcd fun c => { c with shared := judge c.shared, safety := judge c.safety, crcBad := true, crcCnt := satAdd 32 c.crcCnt n }

/-- The first record, by `REC_SEQ`, whose CRC failed. -/
def firstBadRec (s : State) : Nat := 
  match ((s.rcd.shared ++ s.rcd.safety).filter fun r => !r.crcOk).map (·.seq) with
  | [] => 0
  | x :: xs => xs.foldl min x

/-- A block that the check of D4 finds bad is retired unless it was before; with no block left in its region's stead Dawn ends
(R133, R522, R523). -/
def dawnBlock (region block : Nat) (s : State) : State :=
  if s.hlth.map.any fun d => d.kind = 5 && d.unit = block then s else retireWith (dawnFail 0x100B 2) region block s

/-- D4 but for the flash row: the log is located, the clock set, and what is owed written. -/
def dawnLog (d : DawnIn) (s00 : State) : State :=
  let s := locateLog d.badRecs s00
  let t := if s.tb.rtcLost then newestRecordNs s + secNs 1 else ((s.tb.rtc + d.rtcGap).floor.toNat)
  let s1 := s |> onTb (fun x => { x with time := t, rtc := if s.tb.rtcLost then (t : Rat) else s.tb.rtc + d.rtcGap })
    |> onTick (fun k => { k with oddTick := some (50000 - t % 50000) }) |> onStr (fun x => { x with entryTime := t - s.tick.now })
    |> onDawn (fun x => { x with mounted := true }) |> writeDeferred
  let s2 := (s1.dawn.repairs.foldl (fun u r => addDefect r.1 r.2.1 r.2.2.1 r.2.2.2 u) s1) |> onDawn fun x => { x with repairs := [] }
  let fz := s2.lad.freezeLast
  s2 |> owed (s2.lad.wakeRung ≠ 0) 0x1110 0 (u8 s2.lad.wakeRung ++ u8 0)
    |> owed s2.pwr.railFault.isSome 0x1020 3 (match s2.pwr.railFault with | some r => u16 r.1 ++ u16 r.2 | none => [])
    |> onPwr (fun p => { p with railFault := none })
    |> owed s2.lad.freezeOwed 0x1117 2 (match fz with | some f => u8 f.trigger ++ u8 f.state ++ u8 (b2n f.forced) | none => [])
    |> onLad (fun l => { l with freezeOwed := false })
    |> owed s2.upd.recoveryOwed 0x1208 3 [] |> onUpd (fun u => { u with recoveryOwed := false })
    |> log srcAon 0x0101 1 (u8 s2.dawn.reason)
    |> owed (s2.lad.wakeCause ≠ 0) 0x1111 1 (u8 s2.lad.wakeCause ++ u8 s2.lad.wakeRung)
    |> owed s2.rcd.crcBad 0x0F06 2 (u32 (firstBadRec s2))

/-- D4, with the bad-block table checked last (R133). -/
def dawnD4 (d : DawnIn) (s : State) : State :=
  d.badBlocks.foldl (fun t b => unlessFailed (dawnBlock b.1 b.2) t) (dawnLog d s)

/-! ### D5: the plug (R136 to R145) -/

/-- What the checks of R142 found, as `CONFIG_STATUS` and the objects show it (R152, R153). -/
def showPlug (r : PlugResult) (s : State) : State :=
  r.ignored.foldl (fun t x => log srcSafety 0x020D 0 (u16 x) t) s |> onDawn fun d => { d with
    plugPresent := decide (1 ≤ r.passed), headerOk := decide (3 ≤ r.passed), sectionsOk := decide (4 ≤ r.passed)
    structureOk := decide (5 ≤ r.passed), rangesOk := decide (7 ≤ r.passed), digestOk := decide (8 ≤ r.passed)
    sealMatch := decide (10 ≤ r.passed), unknownOpt := !r.ignored.isEmpty
    digest := r.digest, sealSw := r.seal_, imageLen := r.imageLen, buildTime := r.buildTime }

/-- An accepted image: compared with the last one, which it replaces (R145). -/
def acceptImage (img : Bytes) (r : PlugResult) (s : State) : State :=
  let c := readConfig img r.secs
  let seq := getN img 12 4
  let sid := getN img 16 4
  let i := s.idn
  let older := i.hasImage && decide (i.stringId = sid) && decide (seq < i.imageSeq)
  let changed := !i.hasImage || decide (i.stringId ≠ sid) || decide (i.stringP ≠ c.safety.p) || decide (i.stringS ≠ c.safety.s)
  let live := mapI (fun k (x : Slot) => { x with live := if k < 6 then nth {} c.conv.slots k else nth {} c.therm.slots (k - 6) }) s.cnv.slots
  let s1 := { s with cfg := c }
    |> onDawn (fun d => { d with imageSeq := some seq, stringId := some sid, older := older, stringChanged := changed, journalSkipped := changed })
    |> onCnv (fun v => { v with slots := live }) |> onPins (fun p => { p with sfpOn := c.safety.pair })
    |> log srcSafety 0x0200 1 (u32 seq ++ u16 (r.digest.getD 0))
  let s2 := if older then log srcSafety 0x020B 2 [] s1 else s1
  let s3 := if changed then log srcSafety 0x020C 2 [] s2 else s2
  s3 |> onIdn fun x => { x with hasImage := true, stringId := sid, imageSeq := seq, stringP := c.safety.p, stringS := c.safety.s, timeModeTai := decide (c.small.timeMode = 1) }

/-- D5. -/
def dawnD5 (d : DawnIn) (s : State) : State :=
  let r := judgeSeal (judgeImage d.plugDet d.plugAck d.image (some d.reread)) d.seals
  let s1 := showPlug r s |> onPins fun p => { p with plugDet := d.plugDet }
  match r.fail with
  | some n => s1 |> log srcSafety (checkCode n) (checkSev n) r.data |> dawnFail (checkCode n) 2
  | none => acceptImage d.image r s1

/-! ### D6: metrology (R133, R159, R160, R173, R185) -/

/-- Every channel with its filter settings and its settling count, and the calibration sets of the identity region. -/
def startMetrology (s : State) : State :=
  s |> onMet fun m => { m with
    refSettled := true, cal := s.idn.cal.map CalSet.eff
    ds := mapI (fun n (c : DsCh) =>
      let f := filterOf s n
      let x4 := decide (n < 2) && s.cfg.safety.shuntGain = 1
      let idx := if n < 2 then 2 * n + s.cfg.safety.shuntGain else n + 2
      { c.configure f x4 false with calDefault := !((nth {} s.idn.cal idx).present) }) m.ds }

/-- CAL_MISSING of each index without a set (R185). -/
def calMissing (s : State) : State :=
  (List.range 18).foldl (fun t k => if (nth {} t.idn.cal k).present then t else log srcApp1 0x0313 2 [] t) s

/-- A ΔΣ entry for the defect map that does not stand there yet: the channels are tested afresh in every Dawn. -/
def noteDs (st ch : Nat) (s : State) : State :=
  if s.hlth.map.any fun d => d.kind = 3 && d.st = st && d.unit = ch then s
  else s |> addDefect 3 st ch 0 |> (fun t => if 0 < spareLeft t 3 then useSpare 3 t else t)

/-- A failing channel of DS2 to DS6: DS7 stands in for it, settled before Dawn goes on (R173), or the outcome of R523. -/
def dawnDs (ch : Nat) (s : State) : State :=
  if s.met.ds7 = .notStarted then
    s |> onDs ch (fun c => { c with failed := true, valid := false, substituted := true })
      |> onMet (fun m => { m with ds7 := .substituting ch }) |> ds7Move ch |> onDs 7 (fun c => { c with settling := false, settle := 0 })
      |> log srcApp1 0x0308 2 [] |> noteDs 1 ch
  else
    let s1 := s |> onDs ch (fun c => { c with failed := true, valid := false }) |> noteDs 3 ch
    if ch = 2 || ch = 3 || ch = 6 then s1 |> log srcApp3 0x100A 3 (u16 ch) |> dawnFail 0x100A 2 else s1

/-- The channel checks: DS7 itself first, so that no failing channel is given to it. -/
def dawnChannels (bad : List Nat) (s : State) : State :=
  let s1 := if bad.contains 7 then
      s |> onDs 7 (fun c => { c with failed := true, valid := false }) |> onMet (fun m => { m with ds7 := .failed })
        |> log srcApp1 0x030A 2 [] |> noteDs 3 7
    else s
  let s2 := [2, 3, 4, 5, 6].foldl (fun t ch => if bad.contains ch then unlessFailed (dawnDs ch) t else t) s1
  let s3 := if s2.met.ds7 = .notStarted then s2 |> onMet (fun m => { m with ds7 := .shadowing 2, dwellSince := s.tick.now }) |> ds7Move 2 else s2
  if !s3.dawn.step.isSome then s3
  else if bad.contains 0 && bad.contains 1 then s3 |> log srcSafety 0x0309 3 [] |> dawnFail 0x0309 1
  else if bad.contains 0 || bad.contains 1 then
    let ch := if bad.contains 0 then 0 else 1
    s3 |> onDs ch (fun c => { c with failed := true, valid := false }) |> onMet (fun m => { m with srcDs1 := decide (ch = 0) }) |> raiseTw 0
  else s3

/-- D6. -/
def dawnD6 (d : DawnIn) (s : State) : State :=
  if !d.refSettled then s |> log srcSafety 0x0304 3 [] |> dawnFail 0x0304 1
  else s |> startMetrology |> calMissing |> onPins (fun p => { p with sensOn := true, diOn := decide (s.pwr.stage = .none ∨ s.pwr.stage = .dip) }) |> dawnChannels d.badDs

/-! ### D7 to D11 -/

/-- D8: the role, where listening has not decided it already (R413), and the pair cable of a configured pair (R77). -/
def dawnD8 (s : State) : State :=
  let s1 := if s.str.role.isNone then decideRole s else s
  if s1.cfg.safety.pair && !s1.pins.pairCable then log srcSafety 0x0B10 2 [] s1 else s1


/-- D7: lockstep and output self-tests (R134), then the contactor checks unless the partner may drive the coils (R135). -/
def dawnD7 (d : DawnIn) (s : State) : State :=
  if !d.lockstepOk || !d.contactsOk then s |> log srcSafety 0x0111 3 [] |> dawnFail 0x0111 2
  else if d.ownIn || s.pair.ownIn then s |> onDawn fun x => { x with ownInD7 := true }
  else match d.auxClosed.findIdx? (· = true) with
    | some _ => s |> log srcSafety 0x0112 3 [] |> dawnFail 0x0112 2
    | none => match d.coilMa.findIdx? fun (i : Nat) => decide (i < 50) || decide (3000 ≤ i) with
      | some k =>
        let i := nth 0 d.coilMa k
        let code := if i < 50 then 0x0113 else 0x0114
        s |> log srcSafety code 3 [] |> dawnFail code 2
      | none => s

/-- D9, gate link (R66, R321): addresses of all six ports, then their delays; a module that owns nothing sends nothing. -/
def dawnGate (d : DawnIn) (s : State) : State :=
  if !(owning s) then s
  else match (List.range 6).find? fun n => nth 0xFF d.glAddr n ≠ n with
    | some n => s |> log srcSafety 0x0730 3 (u16 n ++ u8 (nth 0xFF d.glAddr n)) |> dawnFail 0x0730 2
    | none =>
      let s1 := s |> onCnv fun c => { c with ports := mapI (fun n (q : GlPort) => { q with delay := nth none d.glDelay n }) c.ports }
      match (List.range 6).find? fun n => match nth none d.glDelay n with | some x => decide (150 < x) | none => false with
      | some n => s1 |> log srcSafety 0x0732 2 (u16 n ++ u16 ((nth none d.glDelay n).getD 0)) |> dawnFail 0x0732 2
      | none => s1

/-- D9: the SFP's identification is read. With an unsupported type a configured pair member runs as ACTIVE with
`PARTNER_ABSENT`, whatever D8 decided (R75); a module that no pair configures stays SOLO (R40, assumption 44). -/
def dawnSfp (d : DawnIn) (s : State) : State :=
  if d.sfpOk then s
  else
    let s1 := s |> onPins (fun p => { p with sfpBad := true, sfpOn := false, sfpUp := false }) |> onPair (fun p => { p with linkUp := false })
      |> log srcSafety 0x0B11 2 []
    if !s.cfg.safety.pair then s1
    else
      s1 |> onStr (fun x => { x with role := some .active, mirrored := false, partnerAbsent := true })
        |> onPair (fun p => { p with ownOut := true, partner := .absent }) |> (if isSp s then setSync .freeRun else id)

/-- D9: gate link, SFP, and the controllers started: CAN by the module that owns the outputs. A standby that the SFP makes
ACTIVE has its gate link checked then. -/
def dawnNetwork (d : DawnIn) (s : State) : State :=
  let s1 := unlessFailed (dawnSfp d) (dawnGate d s)
  let s2 := if !(owning s) && owning s1 then unlessFailed (dawnGate d) s1 else s1
  if owning s2 then unlessFailed canOn s2 else s2

/-- D10: tables at their sentinels for the geometry, learned values, the ring started (R128, R145, R234, R238). -/
def dawnD10 (d : DawnIn) (s : State) : State :=
  let p := geoP s
  let mask := s.cfg.geo.mask
  let s1 := s |> onTab (fun t => { t with
      poss := List.replicate p {}, cells := List.replicate (p * geoS s) {}
      temps := (List.range (p * 8)).map fun i => { fitted := bitAt (nth 0 mask (i / 8)) (i % 8) } })
    |> onBal (fun b => { b with pos := List.replicate p {} })
    |> journalRead d.badHeads d.badPayloads |> journalLoad
  let s2 := if s.dawn.reason = 6 then probationStart s1 else s1
  if owning s2 then ringStart s2 else s2

/-- Dawn completes (R128): STANDBY follows at the next tick 16. A Dawn begun by EXIT_SERVICE in which every check passed
clears the class 2 latch; any other ends in FAULT with it (R147). -/
def dawnComplete (s : State) : State :=
  let latched := match s.idn.class2 with | c :: _ => if s.dawn.reason = 6 then none else some c | [] => none
  match latched with
  | some c => dawnFail c 2 s
  | none =>
    let ms := s.tick.now / 1000000
    s |> onIdn (fun i => { i with class2 := [] })
      |> onStr (fun x => { x with causes := x.causes.filter (fun c => c.cls < 2), triggers := x.triggers ++ [.dawnDone] })
      |> onUpd (fun u => if (fwSlot s u.running).st = 3 then { u with confirmFrom := some s.tick.now } else u)
      |> onDawn (fun d => { d with step := none, duration := some ms }) |> log srcSafety 0x0102 1 (u32 ms)

/-- D11: the hold-up bank is judged and `HOLDUP_READY` awaited (R91, R92, R146). -/
def dawnD11 (d : DawnIn) (s : State) : State :=
  let c := match d.holdupCap with | some x => x | none => 0xFFFF
  let s1 := s |> onPwr fun p => { p with
    holdupCap := d.holdupCap, degraded := decide (c < 1350), insufficient := decide (c < 1260), failed := decide (c < 570), holdupReady := d.holdupReady }
  let s2 := if c < 1350 then log srcSafety 0x1103 2 [] s1 else s1
  if c < 570 then s2 |> log srcSafety 0x1105 3 [] |> dawnFail 0x1105 2
  else if !d.holdupReady then s2 |> log srcSafety 0x0115 2 [] |> dawnFail 0x0115 1
  else dawnComplete s2

/-! ### The rows -/

/-- The step's work, and the next step where it did not fail. -/
def dawnWork (d : DawnIn) (k : Nat) (s : State) : State :=
  match k with
  | 0 => dawnNext (dawnD0 d s)
  | 1 => unlessFailed dawnNext (testRows 0 d.badRows s)
  | 2 => dawnD2 d s
  | 3 => unlessFailed dawnNext (dawnD3 d s)
  | 4 => unlessFailed dawnNext (dawnD4 d s)
  | 5 => unlessFailed dawnNext (dawnD5 d s)
  | 6 => unlessFailed dawnNext (dawnD6 d s)
  | 7 => unlessFailed dawnNext (dawnD7 d s)
  | 8 => dawnNext (dawnD8 s)
  | 9 => unlessFailed dawnNext (dawnNetwork d s)
  | 10 => dawnNext (dawnD10 d s)
  | _ => dawnD11 d s

/-- Dawn goes on: in DAWN, outside recovery, powered and not frozen. -/
def dawnRuns (s : State) : Bool := inDawn s && running s && !s.upd.recovery

/-- DAWN_STEP_END: the present step's work has ended with what `d` says (R128). -/
def execDawnStepEnd (d : DawnIn) (s : State) : Host.Outcome State Fault Refusal :=
  match s.dawn.step with
  | some k => if dawnRuns s then .next (dawnWork d k s) else .next s
  | none => .next s

/-- Budgets of R128, ms. -/
def dawnBudget (k : Nat) : Nat := nth 1000 [30, 60, 450, 150, 300, 1700, 50, 100, 500, 100, 50, 1000] k

/-- DAWN_STEP_TIMEOUT: a step overruns its budget; in D11 that is HOLDUP_TIMEOUT (R129, R146). -/
def execDawnStepTimeout (s : State) : Host.Outcome State Fault Refusal :=
  match s.dawn.step with
  | some k =>
    if !(dawnRuns s) || !(elapsed s s.dawn.stepSince (msNs (dawnBudget k))) then .next s
    else if k = 11 && !s.pwr.holdupReady then .next (s |> log srcSafety 0x0115 2 [] |> dawnFail 0x0115 1)
    else .next (s |> log srcSafety 0x0110 2 (u8 k) |> dawnFail 0x0110 1)
  | none => .next s

/-- LAMP_TEST_END: 500 ms from reset release (R81). -/
def execLampTestEnd (s : State) : Host.Outcome State Fault Refusal :=
  if s.pins.lampTest && elapsed s 0 (msNs 500) then .next (s |> onPins fun p => { p with lampTest := false }) else .next s

end Sys2Proof.Machine
end

