-- ==== Sys2Proof/Machine/Commands.lean ====
section
/-! DEFINITION. The host's commands 0x0200 to 0x020F as the safety core evaluates them (R36 to R47, R121 to R123, R149,
R179, R263, R341, R342, R427, R448, R449, R509, R535). A row's request is judged in the order of R14: role, arguments,
legality in the string state, then its own conditions. -/
namespace Sys2Proof.Machine

/-! ### Legality (R46, R47) -/

/-- States in which a command of a module that owns the string is legal (R47; CAPTURE under R179). -/
def legalState (code : Nat) (st : StringState) : Bool :=
  match code, st with
  | 0x0200, .standby => true
  | 0x0201, .closed => true
  | 0x0202, .run => true | 0x0202, .twilight => true
  | 0x0203, .run => true | 0x0203, .twilight => true
  | 0x0204, .precharge => true | 0x0204, .closed => true | 0x0204, .run => true | 0x0204, .twilight => true | 0x0204, .stopping => true
  | 0x0205, .fault => true
  | 0x0206, .standby => true | 0x0206, .fault => true | 0x0206, .service => true
  | 0x0207, .standby => true | 0x0207, .fault => true
  | 0x0208, .standby => true | 0x0208, .fault => true
  | 0x0209, .service => true
  | 0x020A, .standby => true | 0x020A, .closed => true | 0x020A, .service => true
  | 0x020B, .dawn => false | 0x020B, .off => false | 0x020B, _ => true
  | 0x020C, .dawn => false | 0x020C, .off => false | 0x020C, _ => true
  | 0x020D, .standby => true | 0x020D, .closed => true | 0x020D, .run => true | 0x020D, .twilight => true
  | 0x020E, .service => true
  | 0x020F, .standby => true | 0x020F, .fault => true | 0x020F, .service => true
  | _, _ => false

/-- Commands the SP column allows (R47, R179). -/
def legalSp (code : Nat) : Bool := code = 0x0206 || code = 0x0207 || code = 0x020B || code = 0x020C || code = 0x020F

/-- A command is legal now: not in the module's own Dawn, by the SP column on a STANDBY_PAIR module whatever the mirrored state,
else by the string state. PAIR_HANDOVER also needs an ACTIVE module with an admitted partner (R47). -/
def legalCmd (code : Nat) (s : State) : Bool :=
  if inDawn s then false
  else if isSp s then legalSp code
  else legalState code s.str.state && (code ≠ 0x020D || (s.str.role = some .active && partnerAdmitted s))

/-- A command with its role, argument check, legality and effect. -/
def command (least : Nat) (argsOk : Bool) (act : State → State) (r : HostReq) (s : State) : State :=
  roleThen least argsOk r (fun t => if legalCmd r.code t then act t else refuseState r t) s

/-- A row's outcome: the request evaluated where requests are served. -/
def evalRow (code : Nat) (eval : HostReq → State → State) (r : HostReq) (s : State) : Host.Outcome State Fault Refusal :=
  .next (if serves s r then eval (withCode code r) s else s)

/-! ### CONNECT (R36) -/

/-- Every configured monitor is admitted. -/
def allAdmitted (s : State) : Bool := (List.range (geoM s)).all (admittedAt s)

/-- No position voltage is beyond its staleness limit, and each has been read (R212). -/
def voltagesFresh (s : State) : Bool :=
  s.tab.poss.all fun e => e.vAt.isSome && !e.vStale

/-- No fitted sensor's temperature is beyond it. -/
def tempsFresh (s : State) : Bool :=
  s.tab.temps.all fun e => !e.fitted || (!e.stale && e.tAt.isSome)

/-- Both E-stop channels, DOOR_IL and FIRE_IN read healthy, whatever `EXT_USE` says of their demands (R36, R531). -/
def inputsHealthy (s : State) : Bool := (List.range 4).all fun n => (extAt s n).ok

/-- The first unmet condition of R36, as `STATE_CAUSE` names it. -/
def connectUnmet (s : State) : Option Nat :=
  match s.str.causes.find? (·.active) with
  | some c => some c.code
  | none =>
    if !s.prot.imdOk then some (if s.iso.peOpen then 0x0A40 else if s.iso.alarm then 0x0A42 else 0x0A44)
    else if !(inputsHealthy s) then some 0x0A09
    else if !(allAdmitted s) then some 0x0405
    else if !(voltagesFresh s) then some 0x0409
    else if !(tempsFresh s) then some 0x040B
    else none

/-- The precharge sequence starts at P1 (R389). -/
def connectStart (s : State) : State := s |> setState .precharge 0 |> onCont (fun c => { c with vSum := none }) |> preTo .p1 |> coilOn 2

/-- CONNECT. -/
def evalConnect (r : HostReq) (s : State) : State :=
  command 1 r.args.isEmpty (fun t =>
    match connectUnmet t with
    | some c => t |> onStr (fun x => { x with cause := c }) |> respond r stFault []
    | none => t |> connectStart |> respond r stOk []) r s

/-! ### START, STOP, DISCONNECT (R35, R45) -/

/-- START: RUN, or TWILIGHT with a cause armed and budget left. -/
def evalStart (r : HostReq) (s : State) : State :=
  command 1 r.args.isEmpty (fun t =>
    if !(twArmed t) then t |> setState .run 0 |> respond r stOk []
    else if twLeft t = 0 then respond r stFault [] t
    else t |> setState .twilight 0 |> respond r stOk []) r s

/-- STOPPING begins, toward a target. -/
def stopToward (target : StringState) (s : State) : State :=
  s |> onStr (fun x => { x with stopTarget := some target }) |> setState .stopping 0
    |> onCont fun c => { c with opening := 0, zeroSince := none }

/-- STOP. -/
def evalStop (r : HostReq) (s : State) : State :=
  command 1 r.args.isEmpty (fun t => t |> stopToward .closed |> respond r stOk []) r s

/-- DISCONNECT by state; a second stop keeps the time of the first (R35). -/
def disconnect (s : State) : State :=
  match s.str.state with
  | .precharge => s |> coilsOff |> setState .standby 0
  | .stopping =>
    if s.str.stopTarget = some .closed then
      s |> onStr (fun x => { x with stopTarget := some .standby }) |> setState .stopping 0
        |> onStr fun x => { x with entered := s.str.entered, triggers := x.triggers.filter (· ≠ .stoppingDone) }
    else s
  | _ => stopToward .standby s

/-- DISCONNECT. -/
def evalDisconnect (r : HostReq) (s : State) : State :=
  command 1 r.args.isEmpty (fun t => t |> disconnect |> respond r stOk []) r s

/-! ### CLEAR_FAULT, ENTER_SERVICE (R35, R43) -/

/-- The conditions of R43. -/
def clearable (s : State) : Bool :=
  s.str.causes.all (fun c => c.cls = 0 && !c.active) && s.str.faultStopDone && !s.cont.c0.aux && !s.cont.c1.aux && !s.cont.c2.aux

/-- CLEAR_FAULT; a cleared PCS-trip cause is told in the trip copy (R469). -/
def evalClearFault (r : HostReq) (s : State) : State :=
  command 1 r.args.isEmpty (fun t =>
    if clearable t then
      let u := t |> onStr (fun x => { x with causes := [] }) |> setState .standby 0
      respond r stOk [] (if tripLatched t then tripCleared u else u)
    else respond r stFault [] t) r s

/-- ENTER_SERVICE. -/
def evalEnterService (r : HostReq) (s : State) : State :=
  command 2 r.args.isEmpty (fun t => t |> setState .service 0 |> respond r stOk []) r s

/-! ### RESTART, SHUTDOWN, EXIT_SERVICE (R35, R422, R527) -/

/-- What ends the module's work: at once, or after the handover that an owner with an admitted partner asks for (R422). -/
def leaveWith (kind : Nat) (act : State → State) (s : State) : State :=
  if s.str.role = some .active && partnerAdmitted s then startHandover kind none s else act s

/-- RESTART. -/
def evalRestart (r : HostReq) (s : State) : State :=
  command 1 r.args.isEmpty (fun t => t |> respond r stOk [] |> leaveWith 1 (newDawn 4)) r s

/-- SHUTDOWN: OFF at Dusk where a pair is configured, else at Midnight. -/
def evalShutdown (r : HostReq) (s : State) : State :=
  command 1 r.args.isEmpty (fun t => t |> respond r stOk [] |> leaveWith 2 (enterOff (if t.cfg.safety.pair then 2 else 5) 0 false)) r s

/-- EXIT_SERVICE. -/
def evalExitService (r : HostReq) (s : State) : State :=
  command 2 r.args.isEmpty (fun t => t |> respond r stOk [] |> leaveWith 6 (newDawn 6)) r s

/-! ### SET_POINT (R121 to R123, R341, R342) -/

/-- `TIME_STATUS` and `DISP_FLAGS` at evaluation. -/
def spPayload (s : State) (late : Bool) : Bytes := u16 (timeStatus s late) ++ u16 (dispFlags s)

/-- The arguments have their length and a current that exists, and the launch lies at most 60 s ahead. -/
def spArgsOk (s : State) (b : Bytes) : Bool :=
  b.length = 12 && getN b 0 4 ≠ 0x80000000 && decide (getN b 4 8 ≤ s.tb.time + secNs 60)

/-- An untimed set-point: the one of this tick 16 before it is superseded; its own answer waits for the end of the
evaluation. -/
def takeUntimed (r : HostReq) (current : Int) (s : State) : State :=
  let p := spPayload s false
  let s1 := match s.dsp.spReq with
    | some (q, b) => s |> respond q stOverload b |> coalesced
    | none => s
  s1 |> onDsp fun d => { d with order := d.order + 1, untimed := some (current, d.order + 1), spReq := some (r, p) }

/-- A timed set-point: BUSY beyond 16; one whose launch time has passed is taken at the next frame latch. -/
def takeTimed (r : HostReq) (current : Int) (launch : Nat) (s : State) : State :=
  if 16 ≤ s.dsp.timed.length then respond r stBusy (spPayload s false) s
  else
    let late : Bool := decide (launch < s.tb.time)
    s |> onDsp (fun d => { d with order := d.order + 1
                                  timed := d.timed ++ [{ current := current, launch := launch, order := d.order + 1, session := r.session }] })
      |> onTb (fun t => { t with launchLate := if late then satInc 32 t.launchLate else t.launchLate })
      |> respond r stOk (spPayload s late)

/-- SET_POINT: every evaluated answer carries the payload (R341). -/
def evalSetPoint (r : HostReq) (s : State) : State :=
  roleThen 1 true r (fun t =>
    if !(spArgsOk t r.args) then respond r stRange (spPayload t false) t
    else if !(legalCmd r.code t) then
      t |> log srcComm 0x0CF0 1 (u16 r.code ++ u8 t.str.state.code ++ u8 (roleCode t)) |> respond r stState (spPayload t false)
    else if getN r.args 4 8 = 0 then takeUntimed r (getI r.args 0 4) t
    else takeTimed r (getI r.args 0 4) (getN r.args 4 8) t) s

/-- The last untimed set-point of a tick 16 returns OK (R342). -/
def spAnswer (s : State) : State :=
  match s.dsp.spReq with
  | some (q, b) => s |> onDsp (fun d => { d with spReq := none }) |> respond q stOk b
  | none => s

/-! ### RESTORE_STATE and PLUG_WRITE (R149, R263, R449) -/

/-- Every byte of a consuming command's length has been written (R449). -/
def bulkFilled (t len cap : Nat) (s : State) : Bool :=
  decide (1 ≤ len) && decide (len ≤ cap) && (List.range len).all fun i => bulkHas (bulkOf s t) i

/-- Another session holds the target. -/
def bulkOther (t : Nat) (r : HostReq) (s : State) : Bool := (bulkOf s t).owner ≠ 0 && (bulkOf s t).owner ≠ r.session

/-- The first bytes of a buffer. -/
def bulkData (t len : Nat) (s : State) : Bytes :=
  (List.range len).map fun i => match (bulkOf s t).data.find? fun x => x.1 = i with | some x => x.2 | none => 0

/-- The claim ends unless another session holds the target. -/
def releaseBulk (t : Nat) (r : HostReq) (s : State) : State :=
  if (bulkOf s t).owner = r.session then onBulk t (fun _ => {}) s else s

/-- A consuming command in the order of R14: role, length and written bytes (RANGE), legality (STATE), another session's claim
(BUSY), then its judgement of the content. The claim ends with every evaluation but a refusal for state, which has no side
effect (R46, R449). -/
def consuming (least t cap : Nat) (payload : State → Bytes) (act : Bytes → State → State) (r : HostReq) (s : State) : State :=
  let len := getN r.args 0 4
  roleThen least (r.args.length = 4) r (fun u =>
    if !(bulkFilled t len cap u) then (let v := releaseBulk t r u; respond r stRange (payload v) v)
    else if !(legalCmd r.code u) then refuseState r u
    else if bulkOther t r u then respond r stBusy (payload u) u
    else act (bulkData t len u) u) s

/-- RESTORE_STATE: the payload is `RESTORE_RESULT` as it then stands. -/
def evalRestoreState (r : HostReq) (s : State) : State :=
  let shown := fun (u : State) => u8 (optN 8 u.est.restoreResult)
  let answer := fun (st : Nat) (u : State) => u |> releaseBulk 1 r |> respond r st (shown u)
  consuming 1 1 544404 shown (fun b t => match judgeBlob t b with
    | some (st, reason) => answer st (rejectBlob reason t)
    | none => answer stOk (applyBlob false b t)) r s

/-- The plug written, WP low for the write only, read back and judged by checks 1 to 8 of R142. What the EEPROM answers is
open: none stands for a missing acknowledge (assumption 3). -/
def writePlug (img : Bytes) (s : State) : State × Nat :=
  let back := Config.plugEcho s.fresh img
  let s1 := if s.pins.plugDet then s |> tickFresh |> onPins fun p => { p with plugWritten := some img } else s
  let res := (judgeImage s.pins.plugDet back.isSome (back.getD []) none).fail.getD 0
  (s1 |> log srcSafety 0x0212 2 (u8 res), res)

/-- PLUG_WRITE: the payload is the first failing check, 0 for none. -/
def evalPlugWrite (r : HostReq) (s : State) : State :=
  consuming 2 2 65536 (fun _ => []) (fun b t =>
    let w := writePlug b t
    w.1 |> releaseBulk 2 r |> respond r (if w.2 = 0 then stOk else stIntegrity) (u8 w.2)) r s

/-! ### FREEZE, FREEZE_LOG, PAIR_HANDOVER, CAPTURE (R179, R427, R451, R509, R535) -/

/-- FREEZE: accepted, then the freeze sequence. -/
def evalFreeze (r : HostReq) (s : State) : State :=
  command 2 r.args.isEmpty (fun t => t |> respond r stOk [] |> freezeAccept 2) r s

/-- `LOG_NEWEST_SEQ` and the two elements of `LOG_OLDEST_SEQ` (R513). -/
def freezeLogPayload (s : State) : Bytes :=
  let first := fun (l : List Rec) => match l with | x :: _ => x.seq | [] => 0
  u32 s.rcd.seq ++ u32 (first s.rcd.shared) ++ u32 (first s.rcd.safety)

/-- FREEZE_LOG: `act` for the session that holds the freeze or where none does, BUSY for any other. -/
def evalFreezeLog (r : HostReq) (s : State) : State :=
  let a := getN r.args 0 1
  command 1 (r.args.length = 4 && decide (a ≤ 1)) (fun t =>
    let h := t.rcd.freezeSession
    if h ≠ 0 && h ≠ r.session then respond r stBusy [] t
    else
      let u := if a = 1 then (if h = 0 then freezeLog r.session t else t) else thawLog 0 t
      respond r stOk (freezeLogPayload u) u) r s

/-- PAIR_HANDOVER: answered when the partner accepts or refuses (R427). -/
def evalPairHandover (r : HostReq) (s : State) : State := command 1 r.args.isEmpty (startHandover 0 (some r)) r s

/-- Arguments of CAPTURE (R448). -/
def captureArgsOk (b : Bytes) : Bool :=
  b.length = 8 && decide (getN b 0 1 < 4) && decide (getN b 1 1 < 4) && getN b 0 1 ≠ getN b 1 1 && decide (getN b 2 1 < 4)
    && decide (1 ≤ getN b 4 4) && decide (getN b 4 4 ≤ 65536)

/-- CAPTURE: the pair is formed, the follower matched to the leader by what the spec gives no formula for (a free value), and `CAPTURE_RESULT` created anew; BUSY while one runs. -/
def evalCapture (r : HostReq) (s : State) : State :=
  command 2 (captureArgsOk r.args) (fun t =>
    if t.host.capture.running then respond r stBusy [] t
    else
      let a := getN r.args 0 1
      let b := getN r.args 1 1
      let x := Config.captureMatch t.fresh
      tickFresh t |> onHost (fun h => { h with capture := {
          leader := a, follower := b, input := getN r.args 2 1, start := some t.tb.time, running := true, exists_ := true
          want := getN r.args 4 4, matchO := x.1, matchG := x.2.1, skew := clampI (-100) 100 x.2.2 * 10 } })
        |> onMet (fun m => { m with sar := mapI (fun i c => if i = a then { c with paired := true, partner := b, leader := true }
            else if i = b then { c with paired := true, partner := a, leader := false } else c) m.sar })
        |> respond r stOk []) r s

/-! ### The rows -/

/-- CONNECT. -/
def execConnect (r : HostReq) (s : State) : Host.Outcome State Fault Refusal := evalRow 0x0200 evalConnect r s
/-- START. -/
def execStart (r : HostReq) (s : State) : Host.Outcome State Fault Refusal := evalRow 0x0201 evalStart r s
/-- SET_POINT. -/
def execSetPoint (r : HostReq) (s : State) : Host.Outcome State Fault Refusal := evalRow 0x0202 evalSetPoint r s
/-- STOP. -/
def execStop (r : HostReq) (s : State) : Host.Outcome State Fault Refusal := evalRow 0x0203 evalStop r s
/-- DISCONNECT. -/
def execDisconnect (r : HostReq) (s : State) : Host.Outcome State Fault Refusal := evalRow 0x0204 evalDisconnect r s
/-- CLEAR_FAULT. -/
def execClearFault (r : HostReq) (s : State) : Host.Outcome State Fault Refusal := evalRow 0x0205 evalClearFault r s
/-- RESTART. -/
def execRestart (r : HostReq) (s : State) : Host.Outcome State Fault Refusal := evalRow 0x0206 evalRestart r s
/-- SHUTDOWN. -/
def execShutdown (r : HostReq) (s : State) : Host.Outcome State Fault Refusal := evalRow 0x0207 evalShutdown r s
/-- ENTER_SERVICE. -/
def execEnterService (r : HostReq) (s : State) : Host.Outcome State Fault Refusal := evalRow 0x0208 evalEnterService r s
/-- EXIT_SERVICE. -/
def execExitService (r : HostReq) (s : State) : Host.Outcome State Fault Refusal := evalRow 0x0209 evalExitService r s
/-- RESTORE_STATE. -/
def execRestoreState (r : HostReq) (s : State) : Host.Outcome State Fault Refusal := evalRow 0x020A evalRestoreState r s
/-- FREEZE. -/
def execFreeze (r : HostReq) (s : State) : Host.Outcome State Fault Refusal := evalRow 0x020B evalFreeze r s
/-- FREEZE_LOG with action 1. -/
def execFreezeLogFreeze (r : HostReq) (s : State) : Host.Outcome State Fault Refusal :=
  evalRow 0x020C evalFreezeLog { r with args := setAt r.args 0 1 } s
/-- FREEZE_LOG with action 0. -/
def execFreezeLogThaw (r : HostReq) (s : State) : Host.Outcome State Fault Refusal :=
  evalRow 0x020C evalFreezeLog { r with args := setAt r.args 0 0 } s
/-- PAIR_HANDOVER. -/
def execPairHandover (r : HostReq) (s : State) : Host.Outcome State Fault Refusal := evalRow 0x020D evalPairHandover r s
/-- PLUG_WRITE. -/
def execPlugWrite (r : HostReq) (s : State) : Host.Outcome State Fault Refusal := evalRow 0x020E evalPlugWrite r s
/-- CAPTURE. -/
def execCapture (r : HostReq) (s : State) : Host.Outcome State Fault Refusal := evalRow 0x020F evalCapture r s

end Sys2Proof.Machine
end

