-- ==== Sys2Proof/Machine/Interrupts.lean ====
section
/-! DEFINITION. Interrupt controller rows (R475 to R486): source events, coalescing, claim and EOI, configuration. -/
namespace Sys2Proof.Machine

/-- A start-of-frame latch that was free is released by the MAC's classifier, unless the frame is a PTP event message for the
configured domain, whose stamp then waits to be read (R112). -/
def classify (src : Nat) (was s : State) : State :=
  if 148 ≤ src ∧ src ≤ 152 ∧ sensed was src = true then
    let s1 := tickFresh s
    if (nth {} was.irq.srcs src).latch.isSome || Config.ptpFrame s.fresh then s1
    else s1 |> onIrq fun q => { q with srcs := updAt (fun x => { x with latch := none }) q.srcs src }
  else s

/-- IRQ_SOURCE_EVENT: the input of source `src` goes high (`rising`) or low; it counts and latches when that is an
event of its `SENSE`, and may become deliverable and wake the module (R476 to R478, R482). -/
def execIrqSourceEvent (src : Nat) (rising : Bool) (s : State) : Host.Outcome State Fault Refusal :=
  .next (classify src s (irqEvent src rising s))

/-- A source that has become deliverable wakes the module, with the record of the change of rung (R482, R528). -/
def wakes (src : Nat) (s : State) : State :=
  let t := wakeOnDeliver src s
  ringNotes (wakeNotes s t) t

/-- IRQ_COALESCE_TIMEOUT: the coalescing timer of an edge source that has counted runs out (R478); during a freeze the
timers stand still (R483). -/
def execIrqCoalesceTimeout (src : Nat) (s : State) : Host.Outcome State Fault Refusal :=
  let x := nth {} s.irq.srcs src
  let due := match x.timer with | some t => elapsed s t (fld x.coal 15 0 * 1000) | none => false
  if 192 ≤ src || s.lad.frozen || isLevel src x.cfg || fld x.coal 15 0 = 0 || x.cnt = 0 || !due then .next s
  else .next (wakes src (reselect s |> onIrq fun q => { q with srcs := updAt (fun y => { y with expired := true, timer := none }) q.srcs src }))

/-- The `CLAIM` word of a claimed source (R486). -/
def claimWordOf (v : Nat) (x : IrqSrc) : Word := BitVec.ofNat 32 (x.cnt * 65536 + fld x.cfg 30 28 * 1024 + v)

/-- Change of one target. -/
def onTgt (tgt : Nat) (g : IrqTgt → IrqTgt) (s : State) : State := s |> onIrq fun q => { q with tgts := updAt g q.tgts tgt }

/-- IRQ_CLAIM: the selection with its count, which is taken from the counter; with 8 claims held, or without a
selection, the word 0x3FF with count 0, counted as spurious in the second case (R480, R481). -/
def execIrqClaim (tgt : Nat) (s : State) : Host.Outcome State Fault Refusal :=
  if 6 ≤ tgt then .next s
  else if 8 ≤ (nth {} s.irq.tgts tgt).claims.length then .next (s |> onTgt tgt fun t => { t with claimWord := 0x3FF })
  else match selection s tgt with
    | none => .next (s |> onTgt tgt fun t => { t with claimWord := 0x3FF, spurious := satInc 32 t.spurious, retracted := false })
    | some v =>
      let x := nth {} s.irq.srcs v
      .next (s |> onIrq (fun q => { q with srcs := setAt q.srcs v { x with cnt := 0, timer := none, expired := false } })
        |> onTgt tgt fun t => { t with claimWord := claimWordOf v x, claims := t.claims ++ [v] })

/-- IRQ_EOI: a held claim completes and frees its source's latch, but for latches 148 to 152, which R112 frees (R477);
any other vector is ignored and counted (R480). -/
def execIrqEoi (tgt : Nat) (value : Word) (s : State) : Host.Outcome State Fault Refusal :=
  let v := fld value 9 0
  if 6 ≤ tgt then .next s
  else if (nth {} s.irq.tgts tgt).claims.contains v then
    .next (s |> onTgt tgt (fun t => { t with claims := t.claims.erase v })
      |> onIrq fun q => { q with srcs := updAt (fun x => if 148 ≤ v && v ≤ 152 then x else { x with latch := none }) q.srcs v })
  else .next (s |> onTgt tgt fun t => { t with eoiErr := satInc 32 t.eoiErr })

/-- A source is offered to a target (R479). -/
def offered (s : State) (tgt v : Nat) : Bool :=
  let x := nth {} s.irq.srcs v
  x.deliverable v && decide (fld x.cfg 27 25 = tgt) && decide ((nth {} s.irq.tgts tgt).threshold < fld x.cfg 30 28)

/-- After a register write: a target whose selection is offered no longer has its delivery retracted (R481). -/
def retract (old : State) (s : State) : State :=
  let g := fun i (t : IrqTgt) =>
    match selection old i with
    | some v => if offered s i v then t else { t with retracted := true }
    | none => t
  s |> onIrq fun q => { q with tgts := mapI g q.tgts }

/-- IRQ_SRC_CFG_WRITE: `SRC_CFG` (`coal` false) or `SRC_COAL` of a source, reserved and read-only bits ignored (R10,
R484, R485); the selection is made anew or retracted (R481). -/
def execIrqSrcCfgWrite (src : Nat) (coal : Bool) (value : Word) (s : State) : Host.Outcome State Fault Refusal :=
  if 192 ≤ src then .next s
  else
    let old := reselect s
    let g := fun (x : IrqSrc) =>
      if coal then { x with coal := value &&& 0x00FFFFFF } else { x with cfg := (value &&& 0xFFC00000) ||| (x.cfg &&& 1) }
    .next (old |> onIrq (fun q => { q with srcs := updAt g q.srcs src }) |> retract old |> wakes src)

/-- IRQ_THRESHOLD_WRITE: the threshold of a target, 0 to 7 (R479, R481). -/
def execIrqThresholdWrite (tgt : Nat) (value : Word) (s : State) : Host.Outcome State Fault Refusal :=
  if 6 ≤ tgt then .next s
  else
    let old := reselect s
    .next (old |> onTgt tgt (fun t => { t with threshold := fld value 2 0 }) |> retract old)

/-- REGISTER_WRITE: a register without behaviour of its own is written (R10). The spec gives one such register a write
access, `RING_CFG` of each ring (R496), which has no reserved bit. -/
def execRegisterWrite (ring : Nat) (value : Word) (s : State) : Host.Outcome State Fault Refusal :=
  .next (s |> onRing ring fun r => { r with cfg := value })

end Sys2Proof.Machine
end

