-- ==== Sys2Proof/Machine/Update.lean ====
section
/-! DEFINITION. Firmware update (R541 to R556): the transfer of pieces, the staging region, the install phase, and the
confirmation of a trial. -/
namespace Sys2Proof.Machine

/-! ### Chunks (R547) -/

/-- Pieces of chunk `n`, of 128 but for the last. -/
def chunkPieces (x : Staging) (n : Nat) : List Nat := (List.range (min 128 (x.xferLen / 1024 - 128 * n))).map fun i => 128 * n + i

/-- Chunks of a transfer. -/
def chunkN (x : Staging) : Nat := (x.xferLen / 1024 + 127) / 128

/-- A piece is held. -/
def Staging.holds (x : Staging) (k : Nat) : Bool := x.pieces.any fun p => p.1 = k

/-- Every piece of a chunk is held, its tag among them. -/
def chunkHeld (x : Staging) (n : Nat) : Bool := (chunkPieces x n).all x.holds && x.tags.any fun t => t.1 = n

/-- Ciphertext of a chunk. -/
def chunkBytes (x : Staging) (n : Nat) : Bytes :=
  (chunkPieces x n).flatMap fun k => match x.pieces.find? fun p => p.1 = k with | some p => p.2 | none => []

/-- K_u, the nonce and the additional data of a chunk. -/
def updKey (s : State) (x : Staging) : Bytes := Config.hkdfSha256 ((slotKey s 3).getD []) (u32 x.updId) [0x4B, 0x56, 0x49, 0x4D, 0x47] 32
def chunkNonce (x : Staging) (n : Nat) : Bytes := u32 x.updId ++ u32 n ++ u32 0
def chunkAad (x : Staging) (n : Nat) : Bytes := u32 x.updId ++ u32 x.xferLen ++ u32 n

/-- The tag of a chunk is right. -/
def tagOk (s : State) (x : Staging) (n : Nat) : Bool :=
  match x.tags.find? fun t => t.1 = n with
  | some t => t.2 = fixLen 16 (Config.gcmTag (updKey s x) (chunkNonce x n) (chunkAad x n) (chunkBytes x n))
  | none => false

/-- A chunk's bits are cleared and its block erased. -/
def Staging.drop (x : Staging) (n : Nat) : Staging :=
  { x with pieces := x.pieces.filter fun p => p.1 / 128 ≠ n, tags := x.tags.filter fun t => t.1 ≠ n, passed := x.passed.filter (· ≠ n) }

/-- A piece, and the tag where it is its chunk's last, enter the region. -/
def Staging.put (x : Staging) (k : Nat) (data tag : Bytes) : Staging :=
  { x with pieces := x.pieces ++ [(k, data)], tags := if tag = [] then x.tags else (x.tags.filter fun t => t.1 ≠ k / 128) ++ [(k / 128, tag)] }

/-! ### The install phase (R550) -/

/-- The install begins: the target slot is INSTALLING. -/
def installBegin (s : State) : State :=
  let k := updTarget s
  s |> onUpd (fun u => { u with phase := 2, installStart := s.tick.now }) |> onFwSlot k fun _ => { st := 1 }

/-- Where every chunk has passed, the install begins. -/
def installReady (s : State) : State :=
  match s.upd.staging with
  | some x => if s.upd.phase = 1 && !s.upd.erasing && (List.range (chunkN x)).all (fun n => x.passed.contains n) then installBegin s else s
  | none => s

/-- The manifest in a plaintext (R541). -/
def manifestOf (b : Bytes) : Manifest :=
  { keyIdx := getN b 6 1, revoke := getN b 7 1, fwVersion := getN b 16 4, secVer := getN b 20 2, mformat := getN b 22 2 }

/-- The slot is INSTALLED and the operation ends OK; in recovery the boot ROM restarts the module (R546). -/
def installDone (x : Staging) (s : State) : State :=
  let k := updTarget s
  let man := manifestOf (Config.gcmOpen (updKey s x) (chunkNonce x 0) (chunkBytes x 0))
  let s1 := s |> onFwSlot k (fun _ => { st := 2, man := man, installTime := operMs s })
    |> onUpd (fun u => { u with phase := 3, installMs := sinceNs s u.installStart / 1000000 })
    |> log srcApp3 0x1203 1 (u8 k ++ u32 man.fwVersion)
  let res := updResult s1
  let s2 := endOp 7 stOk res s1
  if s.upd.recovery then newDawn 4 s2 else s2

/-- A tag fails in the install: the chunk's bits are cleared, the slot is EMPTY and the operation ends FAULT. -/
def installFails (x : Staging) (n : Nat) (s : State) : State :=
  let k := updTarget s
  let s1 := s |> onUpd (fun u => { u with staging := some (x.drop n), chunksFailed := u.chunksFailed + 1 })
    |> onFwSlot k (fun _ => {}) |> log srcApp3 0x1202 2 (u16 n ++ u16 2)
  let res := updResult s1
  s1 |> endOp 7 stFault res |> onUpd fun u => { u with phase := 0 }

/-- UPD_INSTALL_DONE: the install phase ends; `badChunk` is the chunk whose tag failed on the second check. A suspended
operation pauses (R551). -/
def execUpdInstallDone (badChunk : Option Nat) (s : State) : Host.Outcome State Fault Refusal :=
  match s.upd.staging, findOp s 7 with
  | some x, some o =>
    if !(running s) || s.upd.phase ≠ 2 || o.opState ≠ 0 then .next s
    else match badChunk with
      | none => .next (installDone x s)
      | some n => .next (installFails x n s)
  | _, _ => .next s

/-! ### UPDATE_STAGE starts (R548) -/

/-- Arguments of a start. -/
def updArgsOk (b : Bytes) : Bool :=
  b.length = 12 && decide (1 ≤ getN b 4 4) && decide (getN b 4 4 ≤ 0xFFFFFFFE) && decide (1024 ≤ getN b 8 4) && decide (getN b 8 4 ≤ 8388608)
    && getN b 8 4 % 1024 = 0

/-- The transfer resumes with its bitmap, or the region is erased first. -/
def updStart (id len session : Nat) (s : State) : State :=
  let same := match s.upd.staging with | some x => x.updId = id && x.xferLen = len | none => false
  let held := match s.upd.staging with | some x => if same then x.pieces.length else 0 | none => 0
  s |> onUpd (fun u => { u with
        phase := 1, chunksFailed := 0, dupes := 0, installMs := 0, erasing := !same
        staging := if same then u.staging else some { updId := id, xferLen := len } })
    |> createOp 7 session |> log srcApp3 0x1201 1 (u32 id ++ u16 held) |> installReady

/-- STAGING_ERASE_DONE: the region is erased and takes pieces. -/
def execStagingEraseDone (s : State) : Host.Outcome State Fault Refusal :=
  .next (if running s && s.upd.erasing then s |> onUpd fun u => { u with erasing := false } else s)

/-- CANCEL: the staging record and any INSTALLING slot are erased (R551). -/
def updCancel (s : State) : State :=
  let id := match s.upd.staging with | some x => x.updId | none => 0
  s |> onUpd (fun u => { u with
        staging := none, phase := 0, erasing := false
        slotA := if u.slotA.st = 1 then {} else u.slotA, slotB := if u.slotB.st = 1 then {} else u.slotB })
    |> log srcApp3 0x1209 1 (u32 id)

/-! ### UPD_PIECE (R549) -/

/-- A chunk has passed: the result is published, and the install begins with the last. -/
def chunkPassed (n : Nat) (s : State) : State :=
  let s1 := s |> onUpd fun u => { u with staging := u.staging.map fun y => { y with passed := y.passed ++ [n] } }
  installReady (publishOp 7 (updResult s1) s1)

/-- A chunk's tag fails in the transfer. -/
def chunkBad (n : Nat) (s : State) : State :=
  s |> onUpd (fun u => { u with staging := u.staging.map fun y => y.drop n, chunksFailed := u.chunksFailed + 1 })
    |> log srcApp3 0x1202 2 (u16 n ++ u16 1)

/-- A piece for the operation that exists, in the order of R14. -/
def pieceTo (x : Staging) (o : Op) (r : HostReq) (s : State) : State :=
  let n := getN r.args 4 1
  let k := 128 * n + getN r.args 5 1
  let last := (chunkPieces x n).getLast? = some k
  let y := x.put k (slice r.args 8 1024) (if last then r.args.drop 1032 else [])
  if getN r.args 0 4 ≠ x.updId || 128 ≤ getN r.args 5 1 || x.xferLen / 1024 ≤ k || r.args.length ≠ (if last then 1048 else 1032) then respond r stRange [] s
  else if s.upd.phase = 1 && !s.upd.erasing && !(x.holds k) && chunkHeld y n && !(tagOk s y n) then s |> chunkBad n |> respond r stIntegrity []
  else if s.upd.phase ≠ 1 || s.upd.erasing then respond r stBusy [] s
  else if o.opState = 1 then respond r stSuspended [] s
  else if x.holds k then s |> onUpd (fun u => { u with dupes := satInc 32 u.dupes }) |> respond r stOk []
  else
    let s1 := s |> onUpd fun u => { u with staging := some y }
    respond r stOk [] (if chunkHeld y n then chunkPassed n s1 else s1)

/-- UPD_PIECE: role UPDATE; the length, then the operation. A piece passes ring 59 on its way to the staging (R488). -/
def evalUpdPiece (r : HostReq) (s : State) : State :=
  roleThen 3 (r.args.length = 1032 || r.args.length = 1048) r (fun t =>
    match t.upd.staging, findOp t 7 with
    | some x, some o => t |> ringPut 59 (mkPacket 1 r.args) |> ringRel 59 |> pieceTo x o r
    | _, _ => refuseState r t) s

/-- UPD_PIECE. -/
def execUpdPiece (r : HostReq) (s : State) : Host.Outcome State Fault Refusal := evalRow 0x0400 evalUpdPiece r s

/-! ### Confirmation (R542, R545) -/

/-- UPD_TRIAL_CONFIRM: 600 s after DAWN_COMPLETE without a cause of R420 the TRIAL slot becomes ACTIVE, the former ACTIVE one
PREVIOUS, and the fuses follow the manifest. -/
def execUpdTrialConfirm (s : State) : Host.Outcome State Fault Refusal :=
  match s.upd.confirmFrom with
  | none => .next s
  | some t =>
    let k := s.upd.running
    let f := fwSlot s k
    if !(running s) || f.st ≠ 3 || !(elapsed s t (secNs 600)) then .next s
    else
      let cnt := max s.upd.counter (min 64 f.man.secVer)
      .next (s |> onFwSlot k (fun f => { f with st := 4 })
        |> onFwSlot (1 - k) (fun f => if f.st = 4 then { f with st := 5 } else if f.st = 5 then {} else f)
        |> onUpd (fun u => { u with confirmFrom := none, counter := cnt, revoked := Nat.lor u.revoked (f.man.revoke % 16) })
        |> log srcApp3 0x1205 2 (u8 k ++ u16 f.man.secVer ++ u8 cnt))

end Sys2Proof.Machine
end

