-- ==== Sys2Proof/Machine/LongOps.lean ====
section
/-! DEFINITION. Long operations (R15, R48, R186, R265 to R267, R294 to R297, R361, R405, R450 to R453, R510, R548, R551):
their starts, SUSPEND, RESUME and CANCEL. -/
namespace Sys2Proof.Machine

/-! ### Starting -/

/-- Least role of a kind (R450). -/
def opRole (kind : Nat) : Nat := if kind = 7 then 3 else if kind = 2 then 2 else 1

/-- A kind may start or be resumed now (R47); recovery runs staging alone (R546). -/
def opLegal (kind : Nat) (s : State) : Bool :=
  if s.upd.recovery then kind = 7
  else if inDawn s then false
  else if isSp s then kind = 6 || kind = 7
  else opStartStates kind s.str.state

/-- The handle of the operation just created answers its start. -/
def answerHandle (r : HostReq) (s : State) : State := respond r stOk (u16 s.ops.lastHandle) s

/-- A start: role, arguments, legality; FAULT or BUSY of its own; then its effect and its handle. -/
def opStart (kind : Nat) (argsOk : State → Bool) (fault busy : State → Bool) (act : State → State) (r : HostReq) (s : State) : State :=
  roleThen (opRole kind) (argsOk s) r (fun t =>
    if !(opLegal kind t) then refuseState r t
    else if fault t then respond r stFault [] t
    else if (findOp t kind).isSome || busy t then respond r stBusy [] t
    else t |> act |> answerHandle r) s

/-- No refusal of the kind's own. -/
def never : State → Bool := fun _ => false

/-- CAP_LEARN: phase 1, which a full rest that ended in the last 60 min has already fulfilled (R265). -/
def learnStart (session : Nat) (s : State) : State :=
  let s1 := s |> createOp 1 session |> onEst (fun e => { e with learn := some { start := s.tick.now }, learnAbort := 0, learnDq := 0 })
    |> onPoss fun _ e => { e with rescaled := false }
  match s.est.restEnd with
  | some t => if !s.est.rested && fullRested s && decide (sinceNs s t ≤ secNs 3600) then learnDischarge t s1 else s1
  | none => s1

def evalCapLearn (r : HostReq) (s : State) : State := opStart 1 (fun _ => r.args.length = 4) never never (learnStart r.session) r s

/-- SYS_CAL arguments: an index of R184 and a span of 20 % to 95 % of its range (R186). -/
def calArgsOk (b : Bytes) : Bool :=
  let i := getN b 4 1
  let x := (getI b 8 8).natAbs
  b.length = 16 && decide (i ≤ 17) && decide (20 * calRange i ≤ 100 * x) && decide (100 * x ≤ 95 * calRange i)

/-- SYS_CAL suspends itself in its zero wait; the counter of DS0 or DS1 under calibration freezes (R169). -/
def calStart (index : Nat) (span : Int) (session : Nat) (s : State) : State :=
  s |> createOp 2 session |> onOp 2 (fun o => { o with opState := 1 }) |> limitedStart
    |> onMet fun m => { m with
      sysCal := some { index := index, span := span, since := s.tick.now }
      frozen := if index ≤ 3 then some (index / 2, s.tick.now) else m.frozen }

def evalSysCal (r : HostReq) (s : State) : State :=
  opStart 2 (fun _ => calArgsOk r.args) never never (calStart (getN r.args 4 1) (getI r.args 8 8) r.session) r s

/-- IMPEDANCE_SWEEP (R294). -/
def evalSweep (r : HostReq) (s : State) : State :=
  opStart 3 (fun t => r.args.length = 5 && decide (getN r.args 4 1 < t.cfg.imp.plans.length)) never sweepBusy
    (sweepStart (getN r.args 4 1) r.session) r s

/-- BALANCE_CAMPAIGN (R361). -/
def campaignStart (deadband timeMax session : Nat) (s : State) : State :=
  s |> createOp 4 session
    |> onBal fun b => { b with campaign := some { deadband := deadband, timeMax := timeMax, since := some s.tick.now }, result := 0 }

def evalCampaign (r : HostReq) (s : State) : State :=
  let d := getN r.args 4 2
  let m := getN r.args 6 2
  opStart 4 (fun _ => r.args.length = 8 && decide (10 ≤ d) && decide (d ≤ 1000) && decide (1 ≤ m) && decide (m ≤ 10080)) never never
    (campaignStart d m r.session) r s

/-- INSULATION_TEST (R405). -/
def evalIsoTest (r : HostReq) (s : State) : State :=
  opStart 5 (fun _ => r.args.length = 4) never never (fun t => t |> createOp 5 r.session |> limitedStart |> isoTestBegin) r s

/-- LOG_EXPORT (R510). -/
def exportTo (b : Bytes) (s : State) : Nat := if getN b 8 4 = 0xFFFFFFFF then s.rcd.seq else getN b 8 4
def evalExport (r : HostReq) (s : State) : State :=
  opStart 6 (fun t => r.args.length = 16 && decide (getN r.args 4 4 ≤ exportTo r.args t) && decide (getN r.args 12 1 ≤ 3)) never never
    (fun t => t |> createOp 6 r.session
      |> onRcd fun c => { c with export_ := some { next := getN r.args 4 4, to_ := exportTo r.args t, minSev := getN r.args 12 1 } }) r s

/-- UPDATE_STAGE (R548). -/
def evalUpdStage (r : HostReq) (s : State) : State :=
  opStart 7 (fun _ => updArgsOk r.args) (fun t => t.hlth.stagingReduced) (fun t => t.upd.slotA.st = 3 || t.upd.slotB.st = 3)
    (updStart (getN r.args 4 4) (getN r.args 8 4) r.session) r s

/-- OP_START by its kind; a kind that does not exist is out of range. -/
def evalOpStart (r : HostReq) (s : State) : State :=
  match getN r.args 0 1 with
  | 1 => evalCapLearn r s
  | 2 => evalSysCal r s
  | 3 => evalSweep r s
  | 4 => evalCampaign r s
  | 5 => evalIsoTest r s
  | 6 => evalExport r s
  | 7 => evalUpdStage r s
  | _ => roleThen 1 false r (fun t => t) s

/-! ### SUSPEND, RESUME, CANCEL (R450) -/

/-- A command on a handle in the order of R14: its role is that of the operation's kind; a handle not in use is UNKNOWN; a
length other than two bytes is RANGE. -/
def onHandle (r : HostReq) (act : Op → State → State) (s : State) : State :=
  match openSession s r with
  | none => answerAuth r s
  | some x =>
    if x.slot = 0 then respond r stAuth [] s
    else if r.args.length < 2 then respond r stRange [] s
    else match s.ops.ops.find? fun o => o.handle = getN r.args 0 2 with
      | none => respond r stUnknown [] s
      | some o =>
        if !(permits x.slot (opRole o.kind)) then respond r stAuth [] s
        else if r.args.length ≠ 2 then respond r stRange [] s
        else if o.opState = 2 || (inDawn s && !s.upd.recovery) then refuseState r s
        else act o s

/-- SUSPEND. -/
def evalSuspend (r : HostReq) (s : State) : State :=
  onHandle r (fun o t =>
    if o.opState = 1 then respond r stOk [] t
    else t |> suspendPart o.kind |> onOp o.kind (fun x => { x with opState := 1 }) |> (fun u => if o.kind = 4 then balZero u else u)
      |> respond r stOk []) s

/-- A resumed operation goes on: CAP_LEARN computes an empty rest it has passed, SYS_CAL captures, a sweep restarts its
block, a campaign runs again, an insulation test restarts (R186, R267, R295, R361, R405). -/
def resumePart (kind : Nat) (s : State) : State :=
  match kind with
  | 1 => (match s.est.learn with | some l => if l.emptyRested && !l.computed then learnCompute s else s | none => s)
  | 2 => calCapture s
  | 3 => s |> onImp fun i => { i with sweep := i.sweep.map fun w => { w with st := 1, startAt := 0, lockSent := false, again := false, keep := none } }
  | 4 => s |> onBal fun b => { b with campaign := b.campaign.map fun c => { c with suspended := false, since := some s.tick.now } }
  | 5 => s |> limitedStart |> isoTestBegin
  | 7 => installReady s
  | _ => s

/-- RESUME: legal only where the operation could start (R47). -/
def evalResume (r : HostReq) (s : State) : State :=
  onHandle r (fun o t =>
    if !(opLegal o.kind t) then refuseState r t
    else if o.opState = 0 then respond r stOk [] t
    else t |> onOp o.kind (fun x => { x with opState := 0 }) |> resumePart o.kind |> respond r stOk []) s

/-- CANCEL: the operation ends CANCELLED with its result. -/
def evalCancel (r : HostReq) (s : State) : State :=
  onHandle r (fun o t =>
    let res := opResultNow t o stCancelled
    let u := t |> closeOp o.kind stCancelled |> endOp o.kind stCancelled res
    respond r stOk [] (if o.kind = 4 then balZero u else if o.kind = 7 then updCancel u else u)) s

/-! ### The rows -/

/-- A start of one kind: the row names the kind. -/
def kindRow (kind : Nat) (eval : HostReq → State → State) (r : HostReq) (s : State) : Host.Outcome State Fault Refusal :=
  evalRow 0x0300 eval { r with args := setAt r.args 0 (BitVec.ofNat 8 kind) } s

/-- OP_START, kind 1. -/
def execOpStartCapLearn (r : HostReq) (s : State) : Host.Outcome State Fault Refusal := kindRow 1 evalCapLearn r s
/-- OP_START, kind 2. -/
def execOpStartSysCal (r : HostReq) (s : State) : Host.Outcome State Fault Refusal := kindRow 2 evalSysCal r s
/-- OP_START, kind 3. -/
def execOpStartImpedanceSweep (r : HostReq) (s : State) : Host.Outcome State Fault Refusal := kindRow 3 evalSweep r s
/-- OP_START, kind 4. -/
def execOpStartBalanceCampaign (r : HostReq) (s : State) : Host.Outcome State Fault Refusal := kindRow 4 evalCampaign r s
/-- OP_START, kind 5. -/
def execOpStartInsulationTest (r : HostReq) (s : State) : Host.Outcome State Fault Refusal := kindRow 5 evalIsoTest r s
/-- OP_START, kind 6. -/
def execOpStartLogExport (r : HostReq) (s : State) : Host.Outcome State Fault Refusal := kindRow 6 evalExport r s
/-- OP_START, kind 7. -/
def execOpStartUpdateStage (r : HostReq) (s : State) : Host.Outcome State Fault Refusal := kindRow 7 evalUpdStage r s
/-- SUSPEND. -/
def execSuspend (r : HostReq) (s : State) : Host.Outcome State Fault Refusal := evalRow 0x0301 evalSuspend r s
/-- RESUME. -/
def execResume (r : HostReq) (s : State) : Host.Outcome State Fault Refusal := evalRow 0x0302 evalResume r s
/-- CANCEL. -/
def execCancel (r : HostReq) (s : State) : Host.Outcome State Fault Refusal := evalRow 0x0303 evalCancel r s

end Sys2Proof.Machine
end

