-- ==== Sys2Proof/Machine/Rings.lean ====
section
/-! DEFINITION. Ring fabric rows (R487 to R497): reserve, commit, rewind, release, and the parity check of a read. -/
namespace Sys2Proof.Machine

/-- RING_RESERVE: `len` payload words and a header, or the ring's policy (R492, R494). -/
def execRingReserve (ring len : Nat) (s : State) : Host.Outcome State Fault Refusal :=
  if (ringAt s ring).fits len then
    .next (s |> onRing ring fun r => { r with wrShadow := ptrAdd r.wrShadow (1 + len), refused := false })
  else let r := refuseCore ring s; .next (ringNotes r.2 r.1)

/-- RING_COMMIT: the reserved packet with its final length becomes visible and raises the ring's source; without a
reservation that holds it nothing changes (R492). -/
def execRingCommit (ring kind : Nat) (poison : Bool) (data : Bytes) (s : State) : Host.Outcome State Fault Refusal :=
  let r := ringAt s ring
  let p : Packet := { kind := kind % 128, poison := poison, len := wordsOf data, bytes := data }
  if 1 + p.len ≤ ptrDiff r.wrShadow r.wr then let c := commitCore ring p s; .next (ringNotes c.2 c.1)
  else .next s

/-- RING_REWIND: the uncommitted packet is discarded without a trace (R492). -/
def execRingRewind (ring : Nat) (s : State) : Host.Outcome State Fault Refusal :=
  .next (s |> onRing ring fun r => { r with wrShadow := r.wr })

/-- Rings that carry requests in sessions: intake rings 0 to 2 and the service port's ring 56 (R456, R488). -/
def requestRing (ring : Nat) : Bool := decide (ring < 3) || ring = 56

/-- A request's number was never received: it may come again (R442). -/
def Session.forget (x : Session) (q : Nat) : Session :=
  let rest := x.seen.filter (· ≠ q)
  { x with waiting := x.waiting.filter (· ≠ q), seen := rest
           highest := if x.highest = q then rest.foldl max (if rest = [] then q - 1 else 0) else x.highest }

/-- Packets lost to parity are missing to the host protocol (R495): a host packet is its binding of 15 bytes and the
datagram of R437. -/
def loseRequests (ring : Nat) (ps : List Packet) (s : State) : State :=
  if requestRing ring then ps.foldl (fun t p => onSession (getN p.bytes 21 2) (fun x => x.forget (getN p.bytes 23 4)) t) s else s

/-- A poisoned packet is counted and logged as its consumer discards it, and is missing to its chapter (R495). -/
def discardPoisoned (ring : Nat) (s : State) : State :=
  match (ringAt s ring).pkts with
  | p :: _ => if p.poison then s |> onRing ring (fun r => { r with poison := satInc 32 r.poison })
      |> loseRequests ring [p] |> log srcHw 0x0E03 1 (u16 ring ++ u16 p.kind) else s
  | [] => s

/-- RING_RELEASE: the oldest packet is released and its space freed (R493). -/
def execRingRelease (ring : Nat) (s : State) : Host.Outcome State Fault Refusal :=
  .next (s |> discardPoisoned ring |> ringRel ring)

/-- What the word `off` words beyond `RD` is: the header (none) or a payload word (its packet's place) of a packet. -/
def findWord : Nat → Nat → List Packet → Option (Option Nat)
  | _, _, [] => none
  | i, off, p :: ps =>
    if off = 0 then some none
    else if off ≤ p.len then some (some i)
    else findWord (i + 1) (off - 1 - p.len) ps

/-- Storage address of the word `off` words beyond `RD` (R490). -/
def wordAddr (r : Ring) (off : Nat) : Nat := r.base + ptrAdd r.rd off % r.size

/-- RING_WORD_READ: a consumer reads the word `off` words beyond `RD`. Good parity changes nothing. A bad payload word
poisons its packet, is counted, logged and recorded as suspect; a bad header word flushes the ring (R495). -/
def execRingWordRead (ring off : Nat) (parityOk : Bool) (s : State) : Host.Outcome State Fault Refusal :=
  let r := ringAt s ring
  if parityOk then .next s
  else match findWord 0 off r.pkts with
    | none => .next s
    | some (some i) =>
      .next (s |> onRing ring (fun r => { r with pkts := updAt (fun p => { p with poison := true }) r.pkts i, parity := satInc 32 r.parity })
        |> irqEvent 191 true |> log srcHw 0x0E02 2 (u16 ring ++ u32 (wordAddr r off)) |> addDefect 4 0 0 (wordAddr r off))
    | some none =>
      let n := r.fillPkts
      let s1 := s |> onRing ring fun r =>
        { r with rd := r.wr, wrShadow := r.wr, pktRd := r.pktWr, pkts := [], flushed := true, high := false }
      let w := waterIrq ring r.high s1
      .next (w.1 |> loseRequests ring r.pkts |> log srcHw 0x0E04 2 (u16 ring ++ u32 n))

end Sys2Proof.Machine
end

