-- ==== Sys2Proof/Machine/Requests.lean ====
section
/-! DEFINITION. The communication core's drain of the host rings in every tick (R456), and the safety core's evaluation of
the decoded commands in tick 16 (R38). -/
namespace Sys2Proof.Machine

/-- Codes the safety core evaluates in tick 16: 0x0200 to 0x020F and 0x0300 to 0x0303 (R38, R448, R450). -/
def tickCode (code : Nat) : Bool := (decide (0x0200 ≤ code) && decide (code ≤ 0x020F)) || (decide (0x0300 ≤ code) && decide (code ≤ 0x0303))

/-- A decoded command evaluated (R38). -/
def evalCommand (r : HostReq) (s : State) : State :=
  match r.code with
  | 0x0200 => evalConnect r s
  | 0x0201 => evalStart r s
  | 0x0202 => evalSetPoint r s
  | 0x0203 => evalStop r s
  | 0x0204 => evalDisconnect r s
  | 0x0205 => evalClearFault r s
  | 0x0206 => evalRestart r s
  | 0x0207 => evalShutdown r s
  | 0x0208 => evalEnterService r s
  | 0x0209 => evalExitService r s
  | 0x020A => evalRestoreState r s
  | 0x020B => evalFreeze r s
  | 0x020C => evalFreezeLog r s
  | 0x020D => evalPairHandover r s
  | 0x020E => evalPlugWrite r s
  | 0x020F => evalCapture r s
  | 0x0300 => evalOpStart r s
  | 0x0301 => evalSuspend r s
  | 0x0302 => evalResume r s
  | _ => evalCancel r s

/-- A request with a code that does not exist (R13, R441). -/
def evalUnknown (r : HostReq) (s : State) : State :=
  match openSession s r with
  | none => answerAuth r s
  | some _ => respond r stUnknown [] s

/-- A decoded command takes its place in the order of arrival on the command rings (R38). -/
def queueCommand (no : Nat) (r : HostReq) (l : List (Nat × HostReq)) : List (Nat × HostReq) :=
  (l.filter fun x => decide (x.1 ≤ no)) ++ [(no, r)] ++ l.filter fun x => decide (no < x.1)

/-- A request taken from its ring, the `no`-th frame to arrive: evaluated at once, or decoded and queued for tick 16. -/
def serveRequest (no : Nat) (r : HostReq) (s : State) : State :=
  if !(serves s r) then s
  else if tickCode r.code then s |> onHost fun h => { h with commands := queueCommand no r h.commands }
  else match r.code with
    | 0x0100 => evalRead r s
    | 0x0101 => evalSubscribe r s
    | 0x0102 => evalKeepalive r s
    | 0x0103 => evalClose r s
    | 0x0104 => evalBulkWrite r s
    | 0x0105 => evalKeySet r s
    | 0x0400 => evalUpdPiece r s
    | _ => evalUnknown r s

/-- A frame taken from its ring. -/
def serveFrame (p : Packet) (s : State) : State :=
  let d := RxDgram.ofPacket p
  if d.kind = 0x10 then serveOpenReq d s
  else if d.kind = 0x12 then serveOpenAuth d s
  else serveRequest d.no d.req s

/-- Read items a frame costs: those of a READ, one for any other (R456). -/
def frameCost (p : Packet) : Nat :=
  let d := RxDgram.ofPacket p
  if d.kind = 1 && d.code = 0x0100 then max 1 (min 32 (getN d.payload 0 1)) else 1

/-- The oldest packet of a ring taken: a poisoned one is discarded. -/
def takeFrame (ring : Nat) (p : Packet) (s : State) : State :=
  let s1 := s |> discardPoisoned ring |> ringRel ring
  if p.poison then s1 else serveFrame p s1

/-- Up to `n` packets of a ring within a budget of items (R456). -/
def drainRing (ring : Nat) : Nat → Nat → State → State
  | 0, _, s => s
  | n + 1, items, s =>
    match (ringAt s ring).pkts with
    | [] => s
    | p :: _ => if frameCost p ≤ items then drainRing ring n (items - frameCost p) (takeFrame ring p s) else s

/-- The communication core's tick (R456): ring 0, then ring 2, then the reads; the service port's ring 56 like ring 1. -/
def drainHost (s : State) : State :=
  if (netUp s || recoveryUp s) && s.lad.rung = 0 then
    s |> drainRing 0 16 16 |> drainRing 2 2 2 |> drainRing 56 32 32 |> drainRing 1 32 32
  else s

/-- The decoded commands in their order of arrival (R38); one that restarts or stops the module ends the evaluation. -/
def evalCommands : Nat → State → State
  | 0, s => s
  | n + 1, s =>
    match s.host.commands with
    | [] => s
    | r :: rs => if running s then evalCommands n (evalCommand r.2 (s |> onHost fun h => { h with commands := rs })) else s

end Sys2Proof.Machine
end

