-- ==== Sys2Proof/Machine/Tick.lean ====
section
/-! DEFINITION. The schedule's own rows (R26 to R32, R37, R38, R105, R115): the sample instant of each tick, the duty
transfer, the frame latch, tick 16, and deadlines missed. -/
namespace Sys2Proof.Machine

/-! ### SAMPLE_INSTANT (R26, R105, R115) -/

/-- What the RTC counts over `len` ns: AON runs with an error of its own, and the RTC is corrected with the newest measurement of
it (R20). -/
def rtcAdvance (s : State) (len : Nat) : Rat := (len : Rat) * (1000000000 + Config.aonPpb s.tick.ticks) / (1000000000 + s.tb.rtcPpb)

/-- Local time and the counter at the next tick edge, with j, f and c taken afresh: the counter advances by its TB cycles to the
next multiple of 50,000 ns (R104, R105), after the odd tick that follows a step or the load of the counter (R115). -/
def nextEdge (s : State) : State :=
  let len := s.tick.oddTick.getD 50000
  let t := counterNs ((len * 2 + 4) / 5) s / 50000 * 50000
  s |> onTick (fun k => { k with
        now := k.now + len, ticks := k.ticks + 1, oddTick := none
        j := t % 1000000 / 50000, f := t % 10000000 / 1000000, c := t % 500000000 / 10000000 })
    |> onTb fun b => { b with time := t, rtc := b.rtc + rtcAdvance s len }

/-- Start slots of the scan items with a place in the cycle (R28); a run that falls due behind a late one is skipped (R31). The
share solve falls due with its set. -/
def scanDue (s : State) : State :=
  let at_ := fun (f j : Nat) => decide (s.tick.f = f ∧ s.tick.j = j)
  let due := [at_ 0 0, at_ 0 0 && s.tick.c % 10 = 0, at_ 0 0 && s.tick.c = 0, at_ 0 0, at_ 4 0, at_ 4 0 && s.tick.c % 10 = 9, false, at_ 5 3]
  (List.range 8).foldl (fun t k => if nth false due k then runDue k t else t) s

/-- The metrology of a tick, which runs at Noon and in Afternoon (R26 item 0x01, R155). -/
def tickMetrology (t : TickIn) (len : Nat) (s : State) : State :=
  s |> latchDs t.words len |> dwellGather |> calGather t.words t.sar |> latchSar t.sar |> coulombTick t.box0 t.box1 t.n len |> seqAtEdge

/-- The control engine and the safety core of a tick (R26 items 0x02 and 0x04), and the counts taken per tick. -/
def tickControl (t : TickIn) (s : State) : State :=
  s |> takeBanks |> exciteTick |> corrTick |> phaseLoops |> glReturns t.gl |> ocTickCheck |> extTick t.j8 |> heldTick |> isoGather |> stopTick
    |> twilightTick |> coilTick t.coil t.hs |> onPair fun p => { p with graceTicks := p.graceTicks - 1 }

/-- SAMPLE_INSTANT: a tick edge. Local time advances in every powered state; metrology runs down to Afternoon, and the cores
at Noon. -/
def execSampleInstant (t : TickIn) (s : State) : Host.Outcome State Fault Refusal :=
  if s.lad.unpowered then .next s
  else
    let len := s.tick.oddTick.getD 50000
    let s1 := nextEdge s
    if !(running s1) || 1 < s1.lad.rung then .next s1
    else
      let s2 := s1 |> irqEvent 128 true |> tickMetrology t len
      let s3 := if s1.lad.rung = 0 then s2 |> scanDue |> tickControl t else s2
      .next (s3 |> mirrorStatus |> releaseHeld 0 |> releaseHeld 1 |> releaseHeld 2 |> drainHost |> idleWatch)

/-- DUTY_TRANSFER: at 25 µs the duty words move to the PWM shadow registers and the gate-link frames go out; the HEARTBEAT that
carries them is queued (R26 item 0x03, R320, R321, R416). -/
def execDutyTransfer (s : State) : Host.Outcome State Fault Refusal :=
  if !(running s) || s.lad.rung ≠ 0 then .next s else .next (s |> dutyTransfer |> mirrorBeat)

/-! ### FRAME_LATCH (R27) -/

/-- The BANK frames of a table whose newest complete bank the partner has not been sent (R416). -/
def bankNews (k : Nat) (s : State) : State :=
  match (bankedOf s.tab k).current with
  | none => s
  | some b =>
    if nth none s.pair.bankTx k = some b.seq then s
    else s |> mirrorBank k |> onPair fun p => { p with bankTx := setAt p.bankTx k (some b.seq) }

/-- The reference formed in the frame before applies from now on; 0 where dispatch does not run (R334, R344). -/
def refLatch (s : State) : State := s |> onDsp fun d => { d with refNow := if owning s && !(dispRuns s) then 0 else d.ref }

/-- What the cores do with the frame's means (R27 items 0x10, 0x12): dispatch takes its set-point, budgets, the converter's mode,
precharge and rest follow, and the ring's frame is planned. -/
def frameControl (s : State) : State :=
  s |> exciteFrame |> driftTrack |> thetaFrame |> holdCount |> takeSetPoint |> refLatch |> budgets |> convFrame |> preFrame |> zeroFrame
    |> (fun t => if isSp t then t else restTrack t) |> sklSync |> balTakes |> sklPlan |> mirrorFrame |> bankNews 0 |> bankNews 1 |> bankNews 2

/-- FRAME_LATCH: tick 0 of a frame. -/
def execFrameLatch (s : State) : Host.Outcome State Fault Refusal :=
  if !(running s) || s.tick.j ≠ 0 || 1 < s.lad.rung then .next s
  else
    let s1 := s |> irqEvent 129 true |> latchMeans |> crossCheck
    .next (if s1.lad.rung = 0 then frameControl s1 else s1)

/-! ### TICK16 (R35, R38) -/

/-- A precharge timeout: the contactors open; the third in a row is a fault (R35). DESIGN CHOICE (assumption 58): only a completed
precharge and the third timeout end a run of timeouts; a DISCONNECT in between leaves the count. -/
def preTimedOut (s : State) : State :=
  let s1 := s |> coilsOff |> onStr (fun x => { x with prechargeTimeouts := x.prechargeTimeouts + 1 }) |> log srcSafety 0x0AF1 2 []
  if 3 ≤ s1.str.prechargeTimeouts then
    s1 |> decideFault 0x0AF1 0 false 0 |> deactivate 0x0AF1 |> onStr fun x => { x with prechargeTimeouts := 0 }
  else setState .standby 0x0AF1 s1

/-- One internal trigger, judged against the state that holds (R35, R38); a STANDBY_PAIR module makes no transition but the end
of its own Dawn (R41). DESIGN CHOICE (assumption 58): a Twilight cause raised in RUN that has cleared again before tick 16 makes
no transition. -/
def applyTrigger (s : State) (t : Trigger) : State :=
  if isSp s && t ≠ .dawnDone then s
  else match t, s.str.state with
  | .dawnDone, .dawn =>
    let s1 := s |> setState .standby 0 |> estWait |> injectNow
    if s1.str.role = some .active && s1.est.mode = .waitRestore then askBlob s1 else s1
  | .prechargeDone, .precharge =>
    s |> coilOff 2 |> onCont (fun c => { c with step := .idle }) |> onStr (fun x => { x with prechargeTimeouts := 0 }) |> setState .closed 0
  | .prechargeTimeout, .precharge => preTimedOut s
  | .stoppingDone, .stopping => s |> setState (s.str.stopTarget.getD .standby) 0 |> onCont fun c => { c with opening := 0, zeroSince := none }
  | .twilightRaised, .run => if twArmed s then setState .twilight 0x0A50 s else s
  | .twilightExhausted, .twilight => s |> onStr (fun x => { x with stopTarget := some .standby }) |> setState .stopping 0x0A52
      |> onCont fun c => { c with opening := 0, zeroSince := none }
  | _, _ => s

/-- The triggers waiting, in their order. -/
def applyTriggers (s : State) : State := s.str.triggers.foldl applyTrigger (s |> onStr fun x => { x with triggers := [] })

/-- Item 0x14 of a frame (R391 to R393, R361): the coil drives and mirror contacts are judged, SAFE_OUT takes its demanded state, and balancing
commands nothing in the states that do not balance. -/
def driveUpdate (s : State) : State :=
  s |> coilFrame 0 |> coilFrame 1 |> coilFrame 2 |> standbyAux 0 |> standbyAux 1 |> standbyAux 2 |> refreshSafeOut |> balZero

/-- TICK16_EVALUATION: internal triggers, then the decoded commands in their order of arrival, then item 0x14; the last untimed
set-point is answered at the end (R27, R37, R38, R342). -/
def execTick16Evaluation (s : State) : Host.Outcome State Fault Refusal :=
  if !(running s) || s.lad.rung ≠ 0 || s.tick.j ≠ 16 then .next s
  else
    let s1 := applyTriggers s
    let s2 := spAnswer (evalCommands s1.host.commands.length s1)
    .next (if running s2 then driveUpdate s2 else s2)

/-! ### TICK_OVERRUN (R29 to R32) -/

/-- The item's block runs in the present state and rung; otherwise it raises no TICK_OVERRUN (R32). -/
def itemRuns (item : Nat) (s : State) : Bool :=
  running s && decide (s.lad.rung = 0) && (match item with
    | 0x01 => metRuns s
    | 0x02 => convWanted s
    | 0x03 => s.pins.gate.any (· ≠ .dark)
    | 0x04 => sfRuns s
    | 0x10 => metRuns s
    | 0x11 => convWanted s
    | 0x12 => sfRuns s
    | 0x13 => dispRuns s
    | 0x14 => sfRuns s
    | 0x20 => runsRing s
    | 0x21 => runsRing s
    | 0x22 => runsRing s
    | 0x23 => runsRing s
    | 0x24 => !(isSp s) && s.est.mode ≠ .noString
    | 0x25 => runsRing s
    | 0x26 => !(isSp s) && s.est.mode ≠ .noString
    | 0x27 => thermalRuns s
    | _ => false)

/-- A scan item's run is late: it enters the history, and the runs behind it are skipped (R31). -/
def scanLate (k : Nat) (s : State) : State :=
  if nth true s.tick.late k then s
  else s |> onTick (fun t => { t with late := setAt t.late k true }) |> log srcSafety 0x1010 2 (u16 (0x20 + k)) |> recordRun k false

/-- TICK_OVERRUN: control work is a module fault, with the previous duty words kept where item 0x02 is late; a scan item's late
run is counted (R29 to R32). -/
def execTickOverrun (item : Nat) (s : State) : Host.Outcome State Fault Refusal :=
  if !(itemRuns item s) then .next s
  else if item < 0x20 then
    .next (s |> onTick (fun t => { t with keepDuty := t.keepDuty || item = 0x02 }) |> log srcSafety 0x1010 3 (u16 item) |> moduleFault 0x1010 1)
  else .next (scanLate (item - 0x20) s)

end Sys2Proof.Machine
end

