-- ==== Sys2Proof/Machine/Dispatch.lean ====
section
/-! DEFINITION. The dispatch: one arm per command, one direct call of its meaning. -/
namespace Sys2Proof.Machine

/-- The effect of a command on everything but the queue. -/
def exec (i : Instr) (s : State) : Host.Outcome State Fault Refusal :=
  match i with
  | .sampleInstant t => Sys2Proof.Machine.execSampleInstant t s
  | .dutyTransfer => Sys2Proof.Machine.execDutyTransfer s
  | .fastComparatorTrip cmp => Sys2Proof.Machine.execFastComparatorTrip cmp s
  | .frameLatch => Sys2Proof.Machine.execFrameLatch s
  | .outerLoops => Sys2Proof.Machine.execOuterLoops s
  | .frameProtectionEvaluation => Sys2Proof.Machine.execFrameProtectionEvaluation s
  | .limitsAndDispatch => Sys2Proof.Machine.execLimitsAndDispatch s
  | .tick16Evaluation => Sys2Proof.Machine.execTick16Evaluation s
  | .snapshotInstant => Sys2Proof.Machine.execSnapshotInstant s
  | .voltageBankComplete => Sys2Proof.Machine.execVoltageBankComplete s
  | .positionFilters => Sys2Proof.Machine.execPositionFilters s
  | .dropSetComplete => Sys2Proof.Machine.execDropSetComplete s
  | .temperatureSetComplete => Sys2Proof.Machine.execTemperatureSetComplete s
  | .shareSolve engine => Sys2Proof.Machine.execShareSolve engine s
  | .thermalLoops di flow => Sys2Proof.Machine.execThermalLoops di flow s
  | .tickOverrun item => Sys2Proof.Machine.execTickOverrun item s
  | .clkRefLost => Sys2Proof.Machine.execClkRefLost s
  | .railFault rail value => Sys2Proof.Machine.execRailFault rail value s
  | .auxPowerApplied reason => Sys2Proof.Machine.execAuxPowerApplied reason s
  | .j1BelowThreshold => Sys2Proof.Machine.execJ1BelowThreshold s
  | .j1Restored => Sys2Proof.Machine.execJ1Restored s
  | .auxLost => Sys2Proof.Machine.execAuxLost s
  | .fullOperationEnd => Sys2Proof.Machine.execFullOperationEnd s
  | .brownOutSaveComplete saved => Sys2Proof.Machine.execBrownOutSaveComplete saved s
  | .auxOvervoltage => Sys2Proof.Machine.execAuxOvervoltage s
  | .auxOvervoltageCleared => Sys2Proof.Machine.execAuxOvervoltageCleared s
  | .peCheck mOhm => Sys2Proof.Machine.execPeCheck mOhm s
  | .peOpenCleared => Sys2Proof.Machine.execPeOpenCleared s
  | .sensSupplyFault supply => Sys2Proof.Machine.execSensSupplyFault supply s
  | .syncReceived m => Sys2Proof.Machine.execSyncReceived m s
  | .followUpReceived m t1 corr => Sys2Proof.Machine.execFollowUpReceived m t1 corr s
  | .followUpTimeout => Sys2Proof.Machine.execFollowUpTimeout s
  | .pdelayReqDue t1 => Sys2Proof.Machine.execPdelayReqDue t1 s
  | .pdelayRespReceived m t2 t3 corr t4 => Sys2Proof.Machine.execPdelayRespReceived m t2 t3 corr t4 s
  | .pdelayReqReceived m t2 t3 => Sys2Proof.Machine.execPdelayReqReceived m t2 t3 s
  | .announceReceived a => Sys2Proof.Machine.execAnnounceReceived a s
  | .announceReceiptTimeout => Sys2Proof.Machine.execAnnounceReceiptTimeout s
  | .ptpOffsetUnusable => Sys2Proof.Machine.execPtpOffsetUnusable s
  | .holdoverExpired => Sys2Proof.Machine.execHoldoverExpired s
  | .timeStep => Sys2Proof.Machine.execTimeStep s
  | .rtcWriteback => Sys2Proof.Machine.execRtcWriteback s
  | .rtcCorrection ppb => Sys2Proof.Machine.execRtcCorrection ppb s
  | .launchTimeReached queue sfd => Sys2Proof.Machine.execLaunchTimeReached queue sfd s
  | .dawnStepEnd d => Sys2Proof.Machine.execDawnStepEnd d s
  | .dawnStepTimeout => Sys2Proof.Machine.execDawnStepTimeout s
  | .lampTestEnd => Sys2Proof.Machine.execLampTestEnd s
  | .refDisagree => Sys2Proof.Machine.execRefDisagree s
  | .refSettled => Sys2Proof.Machine.execRefSettled s
  | .refSettleTimeout => Sys2Proof.Machine.execRefSettleTimeout s
  | .settlingEnd ch => Sys2Proof.Machine.execSettlingEnd ch s
  | .dsOverrange ch => Sys2Proof.Machine.execDsOverrange ch s
  | .dsOverrangeEnd ch => Sys2Proof.Machine.execDsOverrangeEnd ch s
  | .currentChDisagree => Sys2Proof.Machine.execCurrentChDisagree s
  | .ds7DwellEnd meanCh mean7 => Sys2Proof.Machine.execDs7DwellEnd meanCh mean7 s
  | .ds7InjectionTestDone pass => Sys2Proof.Machine.execDs7InjectionTestDone pass s
  | .sarTrigger t atNs => Sys2Proof.Machine.execSarTrigger t atNs s
  | .sarSequenceDone r => Sys2Proof.Machine.execSarSequenceDone r s
  | .housekeepingRoundStart => Sys2Proof.Machine.execHousekeepingRoundStart s
  | .housekeepingRoundComplete raw die => Sys2Proof.Machine.execHousekeepingRoundComplete raw die s
  | .sysCalCaptureDone mean sigma => Sys2Proof.Machine.execSysCalCaptureDone mean sigma s
  | .sysCalSuspendTimeout => Sys2Proof.Machine.execSysCalSuspendTimeout s
  | .captureComplete samples gaps => Sys2Proof.Machine.execCaptureComplete samples gaps s
  | .skaleyFrameLaunch port => Sys2Proof.Machine.execSkaleyFrameLaunch port s
  | .skaleyFrameReturned port marginOk rt bytes => Sys2Proof.Machine.execSkaleyFrameReturned port marginOk rt bytes s
  | .skaleyFrameTimeout port => Sys2Proof.Machine.execSkaleyFrameTimeout port s
  | .skaleyCarrierLoss port => Sys2Proof.Machine.execSkaleyCarrierLoss port s
  | .ringHealed => Sys2Proof.Machine.execRingHealed s
  | .voltageStale pos => Sys2Proof.Machine.execVoltageStale pos s
  | .dropStale cell => Sys2Proof.Machine.execDropStale cell s
  | .tempStale idx => Sys2Proof.Machine.execTempStale idx s
  | .onDemandSnapshotRequest r => Sys2Proof.Machine.execOnDemandSnapshotRequest r s
  | .impedanceBlockStart => Sys2Proof.Machine.execImpedanceBlockStart s
  | .lockinIntegrationStart => Sys2Proof.Machine.execLockinIntegrationStart s
  | .lockinIntegrationEnd => Sys2Proof.Machine.execLockinIntegrationEnd s
  | .impedanceReduction => Sys2Proof.Machine.execImpedanceReduction s
  | .autoSweepDue => Sys2Proof.Machine.execAutoSweepDue s
  | .tIntExpired pos => Sys2Proof.Machine.execTIntExpired pos s
  | .phaseRampDownComplete phase => Sys2Proof.Machine.execPhaseRampDownComplete phase s
  | .phaseReenable phase => Sys2Proof.Machine.execPhaseReenable phase s
  | .schedCoefWrite => Sys2Proof.Machine.execSchedCoefWrite s
  | .setpointTimeout => Sys2Proof.Machine.execSetpointTimeout s
  | .balSchedule => Sys2Proof.Machine.execBalSchedule s
  | .balApplicationInstant => Sys2Proof.Machine.execBalApplicationInstant s
  | .balWatchdog place => Sys2Proof.Machine.execBalWatchdog place s
  | .bcTimeMaxReached => Sys2Proof.Machine.execBcTimeMaxReached s
  | .flowLost di => Sys2Proof.Machine.execFlowLost di s
  | .flowRestored di => Sys2Proof.Machine.execFlowRestored di s
  | .leakDetected di => Sys2Proof.Machine.execLeakDetected di s
  | .leakCleared di => Sys2Proof.Machine.execLeakCleared di s
  | .chillerRequest => Sys2Proof.Machine.execChillerRequest s
  | .chillerStatusReceived => Sys2Proof.Machine.execChillerStatusReceived s
  | .chillerLost => Sys2Proof.Machine.execChillerLost s
  | .safetyInputDeenergized input => Sys2Proof.Machine.execSafetyInputDeenergized input s
  | .safetyInputRestored input => Sys2Proof.Machine.execSafetyInputRestored input s
  | .estopDiscrepancy => Sys2Proof.Machine.execEstopDiscrepancy s
  | .safeStopCoilsOff => Sys2Proof.Machine.execSafeStopCoilsOff s
  | .auxContactChange k closed => Sys2Proof.Machine.execAuxContactChange k closed s
  | .contCloseTimeout k => Sys2Proof.Machine.execContCloseTimeout k s
  | .contOpenTimeout k => Sys2Proof.Machine.execContOpenTimeout k s
  | .contDropped k => Sys2Proof.Machine.execContDropped k s
  | .coilPullInEnd k => Sys2Proof.Machine.execCoilPullInEnd k s
  | .coilCurrentFault k ma => Sys2Proof.Machine.execCoilCurrentFault k ma s
  | .prechargeHoldEnd => Sys2Proof.Machine.execPrechargeHoldEnd s
  | .prechargeTimeout => Sys2Proof.Machine.execPrechargeTimeout s
  | .stoppingZeroCurrent => Sys2Proof.Machine.execStoppingZeroCurrent s
  | .stopTimeout => Sys2Proof.Machine.execStopTimeout s
  | .twilightExhausted => Sys2Proof.Machine.execTwilightExhausted s
  | .twilightBudgetReset => Sys2Proof.Machine.execTwilightBudgetReset s
  | .testPulseStart k => Sys2Proof.Machine.execTestPulseStart k s
  | .testPulseEnd showedOff cameOn => Sys2Proof.Machine.execTestPulseEnd showedOff cameOn s
  | .testIntervalEnd => Sys2Proof.Machine.execTestIntervalEnd s
  | .inputTest passed => Sys2Proof.Machine.execInputTest passed s
  | .cmpTest cmp passed => Sys2Proof.Machine.execCmpTest cmp passed s
  | .codeCrcCheck ok => Sys2Proof.Machine.execCodeCrcCheck ok s
  | .watchdogExpiry => Sys2Proof.Machine.execWatchdogExpiry s
  | .lockstepMismatch => Sys2Proof.Machine.execLockstepMismatch s
  | .isoHalfPeriodEnd ds5 inj injOk => Sys2Proof.Machine.execIsoHalfPeriodEnd ds5 inj injOk s
  | .isoPassiveMeasurement vPos vStr => Sys2Proof.Machine.execIsoPassiveMeasurement vPos vStr s
  | .isoInvalid => Sys2Proof.Machine.execIsoInvalid s
  | .helloDue => Sys2Proof.Machine.execHelloDue s
  | .helloReceived frame => Sys2Proof.Machine.execHelloReceived frame s
  | .helloListenTimeout => Sys2Proof.Machine.execHelloListenTimeout s
  | .ownInRise together => Sys2Proof.Machine.execOwnInRise together s
  | .ownInFall => Sys2Proof.Machine.execOwnInFall s
  | .heartbeatDeadline => Sys2Proof.Machine.execHeartbeatDeadline s
  | .failoverFirstFrame => Sys2Proof.Machine.execFailoverFirstFrame s
  | .mirrorHeartbeatReceived frame => Sys2Proof.Machine.execMirrorHeartbeatReceived frame s
  | .mirrorControlReceived frame sfd => Sys2Proof.Machine.execMirrorControlReceived frame sfd s
  | .mirrorBankReceived frame => Sys2Proof.Machine.execMirrorBankReceived frame s
  | .mirrorImageSegmentReceived frame => Sys2Proof.Machine.execMirrorImageSegmentReceived frame s
  | .sbStatusReceived frame => Sys2Proof.Machine.execSbStatusReceived frame s
  | .handoverReceived frame => Sys2Proof.Machine.execHandoverReceived frame s
  | .handoverAcceptTimeout => Sys2Proof.Machine.execHandoverAcceptTimeout s
  | .handoverTick => Sys2Proof.Machine.execHandoverTick s
  | .keyxReceived frame => Sys2Proof.Machine.execKeyxReceived frame s
  | .blobReceived frame => Sys2Proof.Machine.execBlobReceived frame s
  | .admissionHeartbeatsComplete => Sys2Proof.Machine.execAdmissionHeartbeatsComplete s
  | .imageSegmentOverdue => Sys2Proof.Machine.execImageSegmentOverdue s
  | .partnerLost => Sys2Proof.Machine.execPartnerLost s
  | .hostDatagramReceived port addr udp bytes => Sys2Proof.Machine.execHostDatagramReceived port addr udp bytes s
  | .openReq port addr udp bytes => Sys2Proof.Machine.execOpenReq port addr udp bytes s
  | .openAuth port addr udp bytes => Sys2Proof.Machine.execOpenAuth port addr udp bytes s
  | .openAuthTimeout session => Sys2Proof.Machine.execOpenAuthTimeout session s
  | .sessionIdleTimeout session => Sys2Proof.Machine.execSessionIdleTimeout session s
  | .objectNotificationDue session entry => Sys2Proof.Machine.execObjectNotificationDue session entry s
  | .bulkAbandoned target => Sys2Proof.Machine.execBulkAbandoned target s
  | .arpRequest port target => Sys2Proof.Machine.execArpRequest port target s
  | .icmpEchoRequest port src dst payload => Sys2Proof.Machine.execIcmpEchoRequest port src dst payload s
  | .modbusConnect port addr => Sys2Proof.Machine.execModbusConnect port addr s
  | .modbusRead conn pdu => Sys2Proof.Machine.execModbusRead conn pdu s
  | .modbusIdleTimeout conn => Sys2Proof.Machine.execModbusIdleTimeout conn s
  | .read r => Sys2Proof.Machine.execRead r s
  | .subscribe r => Sys2Proof.Machine.execSubscribe r s
  | .keepalive r => Sys2Proof.Machine.execKeepalive r s
  | .close r => Sys2Proof.Machine.execClose r s
  | .bulkWrite r => Sys2Proof.Machine.execBulkWrite r s
  | .keySet r => Sys2Proof.Machine.execKeySet r s
  | .connect r => Sys2Proof.Machine.execConnect r s
  | .start r => Sys2Proof.Machine.execStart r s
  | .setPoint r => Sys2Proof.Machine.execSetPoint r s
  | .stop r => Sys2Proof.Machine.execStop r s
  | .disconnect r => Sys2Proof.Machine.execDisconnect r s
  | .clearFault r => Sys2Proof.Machine.execClearFault r s
  | .restart r => Sys2Proof.Machine.execRestart r s
  | .shutdown r => Sys2Proof.Machine.execShutdown r s
  | .enterService r => Sys2Proof.Machine.execEnterService r s
  | .exitService r => Sys2Proof.Machine.execExitService r s
  | .restoreState r => Sys2Proof.Machine.execRestoreState r s
  | .freeze r => Sys2Proof.Machine.execFreeze r s
  | .freezeLogFreeze r => Sys2Proof.Machine.execFreezeLogFreeze r s
  | .freezeLogThaw r => Sys2Proof.Machine.execFreezeLogThaw r s
  | .pairHandover r => Sys2Proof.Machine.execPairHandover r s
  | .plugWrite r => Sys2Proof.Machine.execPlugWrite r s
  | .capture r => Sys2Proof.Machine.execCapture r s
  | .opStartCapLearn r => Sys2Proof.Machine.execOpStartCapLearn r s
  | .opStartSysCal r => Sys2Proof.Machine.execOpStartSysCal r s
  | .opStartImpedanceSweep r => Sys2Proof.Machine.execOpStartImpedanceSweep r s
  | .opStartBalanceCampaign r => Sys2Proof.Machine.execOpStartBalanceCampaign r s
  | .opStartInsulationTest r => Sys2Proof.Machine.execOpStartInsulationTest r s
  | .opStartLogExport r => Sys2Proof.Machine.execOpStartLogExport r s
  | .opStartUpdateStage r => Sys2Proof.Machine.execOpStartUpdateStage r s
  | .suspend r => Sys2Proof.Machine.execSuspend r s
  | .resume r => Sys2Proof.Machine.execResume r s
  | .cancel r => Sys2Proof.Machine.execCancel r s
  | .updPiece r => Sys2Proof.Machine.execUpdPiece r s
  | .stagingEraseDone => Sys2Proof.Machine.execStagingEraseDone s
  | .updInstallDone badChunk => Sys2Proof.Machine.execUpdInstallDone badChunk s
  | .updTrialConfirm => Sys2Proof.Machine.execUpdTrialConfirm s
  | .canFrameReceived ctl f => Sys2Proof.Machine.execCanFrameReceived ctl f s
  | .canTxComplete ctl mb delay => Sys2Proof.Machine.execCanTxComplete ctl mb delay s
  | .canBusError ctl tecInc recInc arbLost delay => Sys2Proof.Machine.execCanBusError ctl tecInc recInc arbLost delay s
  | .canBusOffRecovery ctl => Sys2Proof.Machine.execCanBusOffRecovery ctl s
  | .tripCopyResend => Sys2Proof.Machine.execTripCopyResend s
  | .irqSourceEvent src rising => Sys2Proof.Machine.execIrqSourceEvent src rising s
  | .irqCoalesceTimeout src => Sys2Proof.Machine.execIrqCoalesceTimeout src s
  | .irqClaim tgt => Sys2Proof.Machine.execIrqClaim tgt s
  | .irqEoi tgt value => Sys2Proof.Machine.execIrqEoi tgt value s
  | .irqSrcCfgWrite src coal value => Sys2Proof.Machine.execIrqSrcCfgWrite src coal value s
  | .irqThresholdWrite tgt value => Sys2Proof.Machine.execIrqThresholdWrite tgt value s
  | .registerWrite ring value => Sys2Proof.Machine.execRegisterWrite ring value s
  | .ringReserve ring len => Sys2Proof.Machine.execRingReserve ring len s
  | .ringCommit ring kind poison data => Sys2Proof.Machine.execRingCommit ring kind poison data s
  | .ringRewind ring => Sys2Proof.Machine.execRingRewind ring s
  | .ringRelease ring => Sys2Proof.Machine.execRingRelease ring s
  | .ringWordRead ring off parityOk => Sys2Proof.Machine.execRingWordRead ring off parityOk s
  | .recordIntake ring => Sys2Proof.Machine.execRecordIntake ring s
  | .recordCloseTimeout => Sys2Proof.Machine.execRecordCloseTimeout s
  | .recordFlush => Sys2Proof.Machine.execRecordFlush s
  | .rateWindowEnd => Sys2Proof.Machine.execRateWindowEnd s
  | .limitedPeriodEnd => Sys2Proof.Machine.execLimitedPeriodEnd s
  | .freezeLogMaxElapsed => Sys2Proof.Machine.execFreezeLogMaxElapsed s
  | .logExportChunk => Sys2Proof.Machine.execLogExportChunk s
  | .sramScrubRow corrected uncorrectable => Sys2Proof.Machine.execSramScrubRow corrected uncorrectable s
  | .eccError => Sys2Proof.Machine.execEccError s
  | .laneTest pass => Sys2Proof.Machine.execLaneTest pass s
  | .flashRefresh region needRewrite failed => Sys2Proof.Machine.execFlashRefresh region needRewrite failed s
  | .flashOperationDone region block ok => Sys2Proof.Machine.execFlashOperationDone region block ok s
  | .estimationJobDone job => Sys2Proof.Machine.execEstimationJobDone job s
  | .restoreBlobBuild => Sys2Proof.Machine.execRestoreBlobBuild s
  | .restoreWaitTimeout => Sys2Proof.Machine.execRestoreWaitTimeout s
  | .restMinReached => Sys2Proof.Machine.execRestMinReached s
  | .capLearnTimeout => Sys2Proof.Machine.execCapLearnTimeout s
  | .journalDeltaDue => Sys2Proof.Machine.execJournalDeltaDue s
  | .journalPeriodicDelta => Sys2Proof.Machine.execJournalPeriodicDelta s
  | .afternoonReentry => Sys2Proof.Machine.execAfternoonReentry s
  | .resetInputChange closed ms => Sys2Proof.Machine.execResetInputChange closed ms s
  | .resetHold => Sys2Proof.Machine.execResetHold s
  | .resetStuck => Sys2Proof.Machine.execResetStuck s
  | .resetReleased => Sys2Proof.Machine.execResetReleased s
  | .freezeNAsserted => Sys2Proof.Machine.execFreezeNAsserted s
  | .plugDetChange low => Sys2Proof.Machine.execPlugDetChange low s
  | .pairPresentChange low => Sys2Proof.Machine.execPairPresentChange low s
  | .linkChange port up => Sys2Proof.Machine.execLinkChange port up s
  | .usbFrameReceived cobs => Sys2Proof.Machine.execUsbFrameReceived cobs s
  | .jtagBypass => Sys2Proof.Machine.execJtagBypass s
  | .jtagIdcode => Sys2Proof.Machine.execJtagIdcode s
  | .jtagFrzStatus => Sys2Proof.Machine.execJtagFrzStatus s
  | .jtagMemAddr addr => Sys2Proof.Machine.execJtagMemAddr addr s
  | .jtagMemData => Sys2Proof.Machine.execJtagMemData s
  | .holdupBankBelow20v => Sys2Proof.Machine.execHoldupBankBelow20v s
  | .j16UsbMateChange mated => Sys2Proof.Machine.execJ16UsbMateChange mated s
  | .isoSlotBoundary => Sys2Proof.Machine.execIsoSlotBoundary s
  | .canBusIntegration ctl => Sys2Proof.Machine.execCanBusIntegration ctl s

end Sys2Proof.Machine
end

