-- ==== Sys2Proof/Safety.lean ====
section
/-! DEFINITION. The terms statements are made in: the parts of the state, what it means that a command leaves all but
some of them alone, and which parts each command may change. -/
namespace Sys2Proof.Machine

/-- The parts of the state; four of them name apart what operations of the whole model touch. -/
inductive Part where
  /-- Schedule. -/
  | tick
  /-- String state machine. -/
  | str
  /-- Pins and connectors. -/
  | pins
  /-- Supplies. -/
  | pwr
  /-- Timebase. -/
  | tb
  /-- Dawn. -/
  | dawn
  /-- Records kept for step D4 (`dawn.deferred`). -/
  | deferred
  /-- Identity region. -/
  | idn
  /-- Accepted image. -/
  | cfg
  /-- Metrology. -/
  | met
  /-- Skaley link. -/
  | skl
  /-- Tables. -/
  | tab
  /-- Estimator. -/
  | est
  /-- Journal. -/
  | jrn
  /-- Impedance. -/
  | imp
  /-- Converter. -/
  | cnv
  /-- Dispatch. -/
  | dsp
  /-- Balancing. -/
  | bal
  /-- Thermal control. -/
  | thm
  /-- Protection. -/
  | prot
  /-- Contactors. -/
  | cont
  /-- Insulation monitor. -/
  | iso
  /-- Redundant pair. -/
  | pair
  /-- Host protocol. -/
  | host
  /-- Long operations. -/
  | ops
  /-- Interrupt controller. -/
  | irq
  /-- Ring fabric. -/
  | rings
  /-- Recorder. -/
  | rcd
  /-- The holder of the log freeze (`rcd.freezeSession`). -/
  | logFreeze
  /-- CAN controllers. -/
  | can
  /-- Module health. -/
  | hlth
  /-- Power ladder. -/
  | lad
  /-- The rung of the ladder, the time of its entry and the times spent in each (`lad.rung`, `lad.rungSince`, `lad.rungTime`). -/
  | rung
  /-- Firmware update. -/
  | upd
  /-- The fuses of R542: anti-rollback counter, revoked bits, key hashes. -/
  | fuses
  /-- JTAG port. -/
  | jtag
  /-- What left the module. -/
  | out
  /-- The queue of waiting commands. -/
  | pending
  /-- The model's free-value counter. -/
  | fresh
  deriving DecidableEq, Repr

/-- Two states hold the same in a part. -/
def Part.same (s t : State) : Part → Prop
  | .tick => t.tick = s.tick
  | .str => t.str = s.str
  | .pins => t.pins = s.pins
  | .pwr => t.pwr = s.pwr
  | .tb => t.tb = s.tb
  | .dawn => { t.dawn with deferred := [] } = { s.dawn with deferred := [] }
  | .deferred => t.dawn.deferred = s.dawn.deferred
  | .idn => t.idn = s.idn
  | .cfg => t.cfg = s.cfg
  | .met => t.met = s.met
  | .skl => t.skl = s.skl
  | .tab => t.tab = s.tab
  | .est => t.est = s.est
  | .jrn => t.jrn = s.jrn
  | .imp => t.imp = s.imp
  | .cnv => t.cnv = s.cnv
  | .dsp => t.dsp = s.dsp
  | .bal => t.bal = s.bal
  | .thm => t.thm = s.thm
  | .prot => t.prot = s.prot
  | .cont => t.cont = s.cont
  | .iso => t.iso = s.iso
  | .pair => t.pair = s.pair
  | .host => t.host = s.host
  | .ops => t.ops = s.ops
  | .irq => t.irq = s.irq
  | .rings => t.rings = s.rings
  | .rcd => { t.rcd with freezeSession := 0 } = { s.rcd with freezeSession := 0 }
  | .logFreeze => t.rcd.freezeSession = s.rcd.freezeSession
  | .can => t.can = s.can
  | .hlth => t.hlth = s.hlth
  | .lad => { t.lad with rung := 0, rungSince := 0, rungTime := [] } = { s.lad with rung := 0, rungSince := 0, rungTime := [] }
  | .rung => t.lad.rung = s.lad.rung ∧ t.lad.rungSince = s.lad.rungSince ∧ t.lad.rungTime = s.lad.rungTime
  | .upd => { t.upd with counter := 0, revoked := 0, keyHash := [] } = { s.upd with counter := 0, revoked := 0, keyHash := [] }
  | .fuses => t.upd.counter = s.upd.counter ∧ t.upd.revoked = s.upd.revoked ∧ t.upd.keyHash = s.upd.keyHash
  | .jtag => t.jtag = s.jtag
  | .out => t.out = s.out
  | .pending => t.pending = s.pending
  | .fresh => t.fresh = s.fresh

/-- Every part of `t` but those of `l` is that of `s`. -/
def Frame (l : List Part) (s t : State) : Prop := ∀ p, l.contains p = false → p.same s t

/-- Every part of the one list is in the other. -/
def within (l m : List Part) : Bool := l.all m.contains

/-- What a record may change (R16, R500 to R509): its intake ring, the ring's interrupt sources, the wake of a stopped core,
the records kept before D4, and a log freeze that a full ring ends. -/
def recordParts : List Part := [.deferred, .irq, .rings, .logFreeze, .rung]

/-- What an answer to a host may change (R439, R456): the session, its rings and sources, and what leaves. -/
def answerParts : List Part := [.host, .irq, .rings, .rung, .out]

/-- What a demand of a safety function may change (R35, R42, R48, R375 to R393): the cause and the safe stop, the outputs and
slots it stops, the operations and captures it ends, the class 2 latch, the trip copy, and its records. -/
def demandParts : List Part :=
  [.str, .pins, .deferred, .idn, .met, .est, .imp, .cnv, .dsp, .bal, .prot, .iso, .host, .ops, .irq, .rings, .rcd, .logFreeze, .can, .rung]

/-- What a module fault may change (R420, R422): a demand's parts, or the giving up to an admitted partner. -/
def moduleFaultParts : List Part := [.tb, .thm, .cont, .pair, .upd] ++ demandParts

/-- A command completes: it answers a next state, of which `p` holds. -/
def Completes (o : Host.Outcome State Fault Refusal) (p : State → Prop) : Prop := ∃ t, o = .next t ∧ p t

/-- Every part but the queue and the fuses: a new Dawn (R128) puts the whole module back. -/
def everyPart : List Part :=
  [.tick, .str, .pins, .pwr, .tb, .dawn, .deferred, .idn, .cfg, .met, .skl, .tab, .est, .jrn, .imp, .cnv, .dsp, .bal, .thm, .prot, .cont, .iso, .pair, .host, .ops, .irq, .rings, .rcd, .logFreeze, .can, .hlth, .lad, .rung, .upd, .jtag, .out, .fresh]

/-- The parts of the state each command may change; all others keep what they hold. -/
def mayChange : Instr → List Part
  | .sampleInstant _ => [.tick, .tab, .lad, .fresh] ++ moduleFaultParts ++ answerParts
  | .dutyTransfer => [.tick, .pins, .tb, .cnv, .pair, .out]
  | .fastComparatorTrip _ => demandParts
  | .frameLatch => [.tb, .skl, .tab, .cont, .pair] ++ demandParts ++ answerParts
  | .outerLoops => [.cnv, .dsp]
  | .frameProtectionEvaluation => [.tab] ++ demandParts
  | .limitsAndDispatch => [.skl, .imp, .cnv, .dsp, .prot, .ops] ++ recordParts
  | .tick16Evaluation => everyPart
  | .snapshotInstant => [.tick, .str, .met, .skl, .tab, .prot] ++ recordParts
  | .voltageBankComplete => [.tick, .str, .skl, .tab, .prot] ++ recordParts
  | .positionFilters => [.tick, .str, .met, .tab, .est, .jrn, .imp, .bal, .prot, .iso, .ops, .rcd] ++ recordParts
  | .dropSetComplete => [.tick, .str, .skl, .tab, .prot] ++ recordParts
  | .temperatureSetComplete => [.tick, .str, .skl, .tab, .thm, .prot] ++ recordParts
  | .shareSolve _ => [.tick, .tab, .jrn] ++ demandParts
  | .thermalLoops _ _ => [.tick, .str, .tab, .cnv, .thm, .prot] ++ recordParts
  | .tickOverrun _ => [.tick] ++ moduleFaultParts
  | .clkRefLost => [.tick] ++ moduleFaultParts
  | .railFault _ _ => everyPart
  | .auxPowerApplied _ => everyPart
  | .j1BelowThreshold => [.str, .pins, .pwr, .cnv, .dsp, .prot] ++ recordParts
  | .j1Restored => everyPart
  | .auxLost => [.str, .pins, .pwr, .cnv, .dsp, .prot] ++ recordParts
  | .fullOperationEnd => [.pins, .pwr, .pair, .rcd, .logFreeze]
  | .brownOutSaveComplete _ => everyPart
  | .auxOvervoltage => [.str, .pins, .pwr, .cnv, .dsp, .prot] ++ recordParts
  | .auxOvervoltageCleared => everyPart
  | .peCheck _ => [.prot, .iso] ++ recordParts
  | .peOpenCleared => [.iso]
  | .sensSupplyFault _ => [.pwr, .pair] ++ demandParts
  | .syncReceived _ => [.tb] ++ recordParts
  | .followUpReceived _ _ _ => [.tb] ++ recordParts
  | .followUpTimeout => [.tb]
  | .pdelayReqDue _ => [.tb, .irq, .rings, .rung]
  | .pdelayRespReceived _ _ _ _ _ => [.tb, .irq, .rings, .rung]
  | .pdelayReqReceived _ _ _ => [.tb, .irq, .rings, .rung]
  | .announceReceived _ => [.tb] ++ recordParts
  | .announceReceiptTimeout => [.tb] ++ recordParts
  | .ptpOffsetUnusable => [.tb] ++ recordParts
  | .holdoverExpired => [.tb] ++ recordParts
  | .timeStep => [.tick, .tb, .tab] ++ recordParts
  | .rtcWriteback => [.tb]
  | .rtcCorrection _ => [.tb]
  | .launchTimeReached _ _ => [.tb, .pair] ++ recordParts ++ answerParts
  | .dawnStepEnd _ => everyPart
  | .dawnStepTimeout => [.str, .pins, .tb, .dawn, .idn, .cfg, .met, .tab, .est, .imp, .dsp, .bal, .prot, .iso, .pair, .host, .ops, .rcd, .can] ++ recordParts
  | .lampTestEnd => [.pins]
  | .refDisagree => [.met] ++ recordParts
  | .refSettled => [.met]
  | .refSettleTimeout => moduleFaultParts
  | .settlingEnd _ => [.met]
  | .dsOverrange _ => [.met] ++ recordParts
  | .dsOverrangeEnd _ => [.met]
  | .currentChDisagree => [.pair] ++ demandParts
  | .ds7DwellEnd _ _ => [.met] ++ recordParts
  | .ds7InjectionTestDone _ => [.met, .hlth] ++ recordParts
  | .sarTrigger _ _ => [.met] ++ recordParts
  | .sarSequenceDone _ => [.met, .irq, .rings, .rung]
  | .housekeepingRoundStart => [.met]
  | .housekeepingRoundComplete _ _ => [.pwr, .hlth, .fresh] ++ moduleFaultParts
  | .sysCalCaptureDone _ _ => [.idn, .met, .est, .imp, .bal, .iso, .ops, .rcd] ++ recordParts
  | .sysCalSuspendTimeout => [.met, .est, .imp, .bal, .iso, .ops, .rcd] ++ recordParts
  | .captureComplete _ _ => [.met, .host, .irq, .rings, .rung]
  | .skaleyFrameLaunch _ => [.skl, .irq, .rings, .rung]
  | .skaleyFrameReturned _ _ _ _ => [.skl, .tab, .bal, .rcd] ++ recordParts
  | .skaleyFrameTimeout _ => [.skl, .rcd] ++ recordParts
  | .skaleyCarrierLoss _ => [.skl] ++ recordParts
  | .ringHealed => [.skl] ++ recordParts
  | .voltageStale _ => [.skl, .tab] ++ demandParts
  | .dropStale _ => [.str, .skl, .tab, .prot] ++ recordParts
  | .tempStale _ => [.str, .skl, .tab, .thm, .prot] ++ recordParts
  | .onDemandSnapshotRequest _ => [.skl] ++ recordParts ++ answerParts
  | .impedanceBlockStart => [.skl, .imp, .ops] ++ recordParts
  | .lockinIntegrationStart => [.imp]
  | .lockinIntegrationEnd => [.imp] ++ recordParts
  | .impedanceReduction => [.skl, .tab, .imp, .ops] ++ recordParts
  | .autoSweepDue => [.imp, .ops]
  | .tIntExpired _ => [.tab]
  | .phaseRampDownComplete _ => [.cnv]
  | .phaseReenable _ => [.cnv]
  | .schedCoefWrite => [.cnv] ++ recordParts
  | .setpointTimeout => [.dsp] ++ recordParts
  | .balSchedule => [.met, .tab, .est, .imp, .bal, .iso, .ops, .rcd] ++ recordParts
  | .balApplicationInstant => [.bal] ++ recordParts
  | .balWatchdog _ => [.bal] ++ recordParts
  | .bcTimeMaxReached => [.met, .skl, .est, .imp, .bal, .iso, .ops, .rcd] ++ recordParts
  | .flowLost _ => [.str, .thm, .prot] ++ recordParts
  | .flowRestored _ => [.str, .thm, .prot] ++ recordParts
  | .leakDetected _ => [.str, .cnv, .thm, .prot] ++ recordParts
  | .leakCleared _ => [.str, .thm, .prot] ++ recordParts
  | .chillerRequest => [.thm, .can]
  | .chillerStatusReceived => [.thm] ++ recordParts
  | .chillerLost => [.thm] ++ recordParts
  | .safetyInputDeenergized _ => demandParts
  | .safetyInputRestored _ => [.str, .prot]
  | .estopDiscrepancy => demandParts
  | .safeStopCoilsOff => [.str, .pins, .cnv, .thm, .prot, .cont, .pair, .host, .rcd, .lad] ++ recordParts
  | .auxContactChange _ _ => [.cont] ++ demandParts
  | .contCloseTimeout _ => [.cont] ++ demandParts
  | .contOpenTimeout _ => [.cont] ++ demandParts
  | .contDropped _ => [.cont] ++ demandParts
  | .coilPullInEnd _ => [.cont]
  | .coilCurrentFault _ _ => [.cont] ++ demandParts
  | .prechargeHoldEnd => [.cont] ++ demandParts
  | .prechargeTimeout => [.str]
  | .stoppingZeroCurrent => [.str, .prot, .cont]
  | .stopTimeout => demandParts
  | .twilightExhausted => [.str] ++ recordParts
  | .twilightBudgetReset => [.str]
  | .testPulseStart _ => [.prot]
  | .testPulseEnd _ _ => demandParts
  | .testIntervalEnd => [.str, .prot] ++ recordParts
  | .inputTest _ => [.str, .prot] ++ recordParts
  | .cmpTest _ _ => [.str, .prot] ++ recordParts
  | .codeCrcCheck _ => moduleFaultParts
  | .watchdogExpiry => everyPart
  | .lockstepMismatch => everyPart
  | .isoHalfPeriodEnd _ _ _ => demandParts
  | .isoPassiveMeasurement _ _ => demandParts
  | .isoInvalid => [.str, .prot, .iso] ++ recordParts
  | .helloDue => [.pair, .out]
  | .helloReceived _ => everyPart
  | .helloListenTimeout => [.str, .tb, .pair] ++ recordParts
  | .ownInRise _ => [.str, .pins, .tb, .cnv, .thm, .prot, .cont, .pair, .can] ++ recordParts
  | .ownInFall => [.str, .pins, .tb, .skl, .tab, .dsp, .pair, .lad] ++ recordParts
  | .heartbeatDeadline => [.str, .pins, .tb, .skl, .tab, .dsp, .pair, .lad] ++ recordParts
  | .failoverFirstFrame => [.tick, .pins, .met, .imp, .cnv, .prot, .cont, .pair, .can] ++ recordParts
  | .mirrorHeartbeatReceived _ => [.str, .pins, .tb, .cnv, .thm, .prot, .cont, .pair, .can] ++ recordParts
  | .mirrorControlReceived _ _ => [.str, .pins, .tb, .skl, .cnv, .dsp, .bal, .thm, .prot, .cont, .iso, .pair, .ops, .can] ++ recordParts
  | .mirrorBankReceived _ => [.skl, .tab, .pair] ++ recordParts
  | .mirrorImageSegmentReceived _ => [.skl, .tab, .est, .jrn, .imp, .bal, .pair] ++ recordParts
  | .sbStatusReceived _ => [.str, .pair] ++ recordParts
  | .handoverReceived _ => everyPart
  | .handoverAcceptTimeout => everyPart
  | .handoverTick => everyPart
  | .keyxReceived _ => [.pair, .out] ++ recordParts
  | .blobReceived _ => [.met, .tab, .est, .jrn, .pair, .out] ++ recordParts
  | .admissionHeartbeatsComplete => [.str, .pair, .lad] ++ recordParts
  | .imageSegmentOverdue => [.pair, .lad] ++ recordParts
  | .partnerLost => [.str, .pair] ++ recordParts
  | .hostDatagramReceived _ _ _ _ => [.lad] ++ recordParts ++ answerParts
  | .openReq _ _ _ _ => [.lad, .fresh] ++ recordParts ++ answerParts
  | .openAuth _ _ _ _ => [.tb, .met, .est, .imp, .bal, .iso, .ops, .rcd, .lad] ++ recordParts ++ answerParts
  | .openAuthTimeout _ => [.tb, .met, .est, .imp, .bal, .iso, .ops, .rcd] ++ recordParts ++ answerParts
  | .sessionIdleTimeout _ => [.tb, .met, .est, .imp, .bal, .iso, .ops, .rcd] ++ recordParts ++ answerParts
  | .objectNotificationDue _ _ => [.tb] ++ recordParts ++ answerParts
  | .bulkAbandoned _ => [.host] ++ recordParts
  | .arpRequest _ _ => [.out]
  | .icmpEchoRequest _ _ _ _ => [.out]
  | .modbusConnect _ _ => [.host, .out]
  | .modbusRead _ _ => [.lad] ++ recordParts ++ answerParts
  | .modbusIdleTimeout _ => [.host]
  | .read _ => answerParts
  | .subscribe _ => answerParts
  | .keepalive _ => answerParts
  | .close _ => [.tb, .met, .est, .imp, .bal, .iso, .ops, .rcd] ++ recordParts ++ answerParts
  | .bulkWrite _ => answerParts
  | .keySet _ => [.tb, .idn, .met, .est, .imp, .bal, .iso, .ops, .rcd] ++ recordParts ++ answerParts
  | .connect _ => [.str, .met, .est, .imp, .dsp, .bal, .prot, .cont, .iso, .ops, .rcd] ++ recordParts ++ answerParts
  | .start _ => [.str, .met, .est, .imp, .dsp, .bal, .prot, .iso, .ops, .rcd] ++ recordParts ++ answerParts
  | .setPoint _ => [.tb, .dsp] ++ recordParts ++ answerParts
  | .stop _ => [.str, .met, .est, .imp, .dsp, .bal, .prot, .cont, .iso, .ops, .rcd] ++ recordParts ++ answerParts
  | .disconnect _ => [.str, .met, .est, .imp, .dsp, .bal, .prot, .cont, .iso, .ops, .rcd] ++ recordParts ++ answerParts
  | .clearFault _ => [.str, .met, .est, .imp, .dsp, .bal, .prot, .iso, .ops, .rcd, .can] ++ recordParts ++ answerParts
  | .restart _ => everyPart
  | .shutdown _ => [.str, .pins, .met, .est, .imp, .dsp, .bal, .thm, .prot, .cont, .iso, .pair, .ops, .rcd, .can, .lad] ++ recordParts ++ answerParts
  | .enterService _ => [.str, .met, .est, .imp, .dsp, .bal, .prot, .iso, .ops, .rcd] ++ recordParts ++ answerParts
  | .exitService _ => everyPart
  | .restoreState _ => [.met, .tab, .est, .jrn] ++ recordParts ++ answerParts
  | .freeze _ => [.str, .pins, .cnv, .dsp, .thm, .prot, .cont, .pair, .lad] ++ recordParts ++ answerParts
  | .freezeLogFreeze _ => [.rcd] ++ recordParts ++ answerParts
  | .freezeLogThaw _ => [.rcd] ++ recordParts ++ answerParts
  | .pairHandover _ => [.pair] ++ recordParts ++ answerParts
  | .plugWrite _ => [.pins, .fresh] ++ recordParts ++ answerParts
  | .capture _ => [.met, .fresh] ++ recordParts ++ answerParts
  | .opStartCapLearn _ => [.met, .tab, .est, .imp, .bal, .iso, .ops, .rcd] ++ recordParts ++ answerParts
  | .opStartSysCal _ => [.met, .ops, .rcd] ++ recordParts ++ answerParts
  | .opStartImpedanceSweep _ => [.imp, .ops] ++ recordParts ++ answerParts
  | .opStartBalanceCampaign _ => [.bal, .ops] ++ recordParts ++ answerParts
  | .opStartInsulationTest _ => [.iso, .ops, .rcd] ++ recordParts ++ answerParts
  | .opStartLogExport _ => [.ops, .rcd] ++ recordParts ++ answerParts
  | .opStartUpdateStage _ => [.ops, .upd] ++ recordParts ++ answerParts
  | .suspend _ => [.met, .skl, .imp, .bal, .iso, .ops] ++ recordParts ++ answerParts
  | .resume _ => [.met, .tab, .est, .jrn, .imp, .bal, .iso, .ops, .rcd, .upd] ++ recordParts ++ answerParts
  | .cancel _ => [.met, .skl, .est, .imp, .bal, .iso, .ops, .rcd, .upd] ++ recordParts ++ answerParts
  | .updPiece _ => [.ops, .upd] ++ recordParts ++ answerParts
  | .stagingEraseDone => [.upd]
  | .updInstallDone _ => everyPart
  | .updTrialConfirm => [.upd, .fuses] ++ recordParts
  | .canFrameReceived _ _ => [.can] ++ recordParts
  | .canTxComplete _ _ _ => [.can] ++ recordParts
  | .canBusError _ _ _ _ _ => [.can] ++ recordParts
  | .canBusOffRecovery _ => [.can] ++ recordParts
  | .tripCopyResend => [.can]
  | .irqSourceEvent _ _ => [.irq, .rings, .rung, .fresh]
  | .irqCoalesceTimeout _ => [.irq, .rings, .rung]
  | .irqClaim _ => [.irq]
  | .irqEoi _ _ => [.irq]
  | .irqSrcCfgWrite _ _ _ => [.irq, .rings, .rung]
  | .irqThresholdWrite _ _ => [.irq]
  | .registerWrite _ _ => [.rings]
  | .ringReserve _ _ => [.irq, .rings, .rung]
  | .ringCommit _ _ _ _ => [.irq, .rings, .rung]
  | .ringRewind _ => [.rings]
  | .ringRelease _ => [.host] ++ recordParts
  | .ringWordRead _ _ _ => [.host, .hlth] ++ recordParts
  | .recordIntake _ => [.tb, .rcd] ++ recordParts ++ answerParts
  | .recordCloseTimeout => [.rcd, .logFreeze]
  | .recordFlush => [.rcd, .logFreeze]
  | .rateWindowEnd => [.tb, .rcd] ++ recordParts ++ answerParts
  | .limitedPeriodEnd => [.tb, .rcd] ++ recordParts ++ answerParts
  | .freezeLogMaxElapsed => recordParts
  | .logExportChunk => [.tb, .met, .est, .imp, .bal, .iso, .ops, .rcd] ++ recordParts ++ answerParts
  | .sramScrubRow _ _ => [.hlth] ++ moduleFaultParts
  | .eccError => [.hlth] ++ moduleFaultParts
  | .laneTest _ => [.pair, .hlth] ++ demandParts
  | .flashRefresh _ _ _ => [.pair, .hlth] ++ demandParts
  | .flashOperationDone _ _ _ => [.jrn, .pair, .hlth] ++ demandParts
  | .estimationJobDone _ => [.est, .irq, .rings, .rung]
  | .restoreBlobBuild => [.est]
  | .restoreWaitTimeout => [.tab, .est] ++ recordParts
  | .restMinReached => [.met, .tab, .est, .jrn, .imp, .bal, .iso, .ops, .rcd] ++ recordParts
  | .capLearnTimeout => [.met, .est, .imp, .bal, .iso, .ops, .rcd] ++ recordParts
  | .journalDeltaDue => [.jrn]
  | .journalPeriodicDelta => [.jrn]
  | .afternoonReentry => [.lad] ++ recordParts
  | .resetInputChange _ _ => everyPart
  | .resetHold => [.pair, .lad] ++ demandParts ++ answerParts
  | .resetStuck => everyPart
  | .resetReleased => [.lad] ++ recordParts
  | .freezeNAsserted => [.str, .pins, .cnv, .dsp, .thm, .prot, .cont, .pair, .lad] ++ recordParts ++ answerParts
  | .plugDetChange _ => everyPart
  | .pairPresentChange _ => everyPart
  | .linkChange _ _ => [.pins, .tb, .met, .est, .imp, .bal, .iso, .pair, .ops, .rcd] ++ recordParts ++ answerParts
  | .usbFrameReceived _ => [.lad] ++ recordParts ++ answerParts
  | .jtagBypass => [.pins, .jtag]
  | .jtagIdcode => [.pins, .jtag]
  | .jtagFrzStatus => [.pins, .jtag]
  | .jtagMemAddr _ => [.pins, .jtag]
  | .jtagMemData => [.pins, .jtag]
  | .holdupBankBelow20v => [.pwr, .jrn, .rings, .rcd, .logFreeze, .lad, .rung]
  | .j16UsbMateChange _ => [.pins, .tb, .met, .est, .imp, .bal, .iso, .ops, .rcd, .jtag] ++ recordParts ++ answerParts
  | .isoSlotBoundary => [.iso]
  | .canBusIntegration _ => [.can]

/-- A cause is latched, active, with at least a clear class (R41, R43). -/
def Latched (code cls : Nat) (t : State) : Prop := ∃ c ∈ t.str.causes, c.code = code ∧ c.active = true ∧ cls ≤ c.cls

/-- FAULT was decided (R35, R42, R387): the cause is latched, a safe stop runs, and from a state of R35 the string is in FAULT
with the cause. -/
def FaultedBy (code cls : Nat) (s t : State) : Prop :=
  Latched code cls t ∧ t.prot.stop ≠ none ∧ (faultable s.str.state = true → t.str.state = .fault ∧ t.str.cause = code)

/-- A safety function was demanded (R378, R379, R409, R559): counted, with the time of the demand, and FAULT decided; a trip also
opens the safety outputs. -/
def Demanded (fn code cls : Nat) (trip : Bool) (s t : State) : Prop :=
  FaultedBy code cls s t ∧ t.prot.demandCnt = updAt (satInc 32) s.prot.demandCnt (fn - 1) ∧
    t.prot.lastDemand = setAt s.prot.lastDemand (fn - 1) (some s.tb.time) ∧ t.prot.demand = setAt s.prot.demand (fn - 1) true ∧
    (trip = true → t.prot.safeOut = false)

/-- The owner gave up (R422): the outputs are released, the module stands by, the string's state stays. -/
def GaveUp (code : Nat) (s t : State) : Prop :=
  t.pair.givenUp = true ∧ t.pair.giveUpCause = code ∧ t.pair.ownOut = false ∧ t.str.role = some .standbyPair ∧
    t.str.state = s.str.state ∧ t.pins.sklTx = false ∧ (∀ g ∈ t.pins.gate, g = .dark)

/-- A standby holds a fault of its own as a local fault, its admission back at step 3; the string is not touched (R41, R429). -/
def LocalFaulted (s t : State) : Prop :=
  t.pair.localFault = true ∧ t.str = s.str ∧ t.prot = s.prot ∧
    (s.pair.partner = .images ∨ s.pair.partner = .heartbeats ∨ s.pair.partner = .admitted → t.pair.partner = .images)

/-- A fault of the module's hardware: a standby holds it as a local fault, any other module decided FAULT. -/
def HardwareFaulted (code cls : Nat) (s t : State) : Prop :=
  if s.str.role = some .standbyPair then LocalFaulted s t else FaultedBy code cls s t

/-- A module fault (R420): the owner of an admitted pair gave up, any other module decided FAULT or holds a local fault. -/
def ModuleFaulted (code cls : Nat) (s t : State) : Prop :=
  if s.str.role = some .active ∧ s.pair.partner = .admitted then GaveUp code s t else HardwareFaulted code cls s t

/-- A request may be served: its port is served, and its session is open with a role that permits the least one (R440, R441). -/
def Admitted (least : Nat) (r : HostReq) (s : State) : Prop :=
  serves s r = true ∧ ∃ x, openSession s r = some x ∧ permits x.slot least = true

/-- A response left the module after all others; in the guard band of a launch on its port it waits, the last that does there
(R120). -/
def Sent (d : Dgram) (s t : State) : Prop :=
  if d.port < 2 ∧ quiet s d.port = true then ∃ n, (t.out.held.filter fun x => x.1 = d.port).getLast? = some (d.port, .response n d)
  else t.out.host = s.out.host ++ [d]

/-- One response was sent, to a request, with a status and a payload of at most one fragment (R437 to R439). -/
def Answered (r : HostReq) (code status : Nat) (payload : Bytes) (s t : State) : Prop :=
  ∃ d, Sent d s t ∧ d.port = r.port ∧ d.addr = r.addr ∧ d.udp = r.udp ∧ d.kind = 2 ∧ d.session = r.session ∧
    d.seq = r.seq ∧ d.code = code ∧ d.status = status ∧ d.payload = payload

/-- A good frame of a type came over the working pair link from the partner, next in its sequence (R415, R428). -/
def Partnered (mtype : Nat) (frame : Bytes) (r : MirrorRx) (s : State) : Prop :=
  pairOn s = true ∧ parseMirror frame = some r ∧ r.mtype = mtype ∧ (r.sender ≠ s.cfg.small.member % 256 ∨ mtype = 5) ∧
    (∀ m, s.pair.mseqRx = some m → r.seq = (m + 1) % 4294967296)

/-- The fuses hold what they can: four SHA-384 key hashes, each blown or not, four revoke bits and a counter of 64 bits (R542). -/
def FusesOk (s : State) : Prop :=
  s.upd.keyHash.length = 4 ∧ (∀ h, some h ∈ s.upd.keyHash → h.length = 48) ∧ s.upd.revoked < 16 ∧ s.upd.counter ≤ 64

end Sys2Proof.Machine
end

