-- ==== Sys2Proof/Certificates/Slice0/Obligations.lean ====
section
/-! DEFINITION. The statements for the provers. -/
open Sys2Proof Sys2Proof.Machine

/-- A step takes the command at the front of the queue and runs it on the state with the rest; on an empty queue the block
idles. -/
def Obligations.StepRunsTheFrontCommand : Prop :=
  (∀ (c : Instr) (cs : List Instr) (s : State), step { s with pending := c :: cs } = exec c { s with pending := cs }) ∧
  (∀ s : State, s.pending = [] → step s = .next s)


/-- R109 to R112: the start-of-frame of a Sync of the configured domain gives its stamp. A Sync of the selected master gives
its offset at once where it is one-step, and with its Follow_Up where it is two-step; the correction fields are summed, the path
delay is the median of at least three measurements. A two-step Sync waits, and one that waits past its interval is void and
counted. Where an unread stamp holds the latch, the Sync is discarded and counted, and the latch is free again. -/
def Obligations.SyncOffset : Prop :=
  (∀ (s : State) (m : PtpSync) (d : Int), ptpOn s = true → m.domain = s.cfg.net.ptpDomain → syncWanted s m = true → m.twoStep = false →
    (nth {} s.irq.srcs (rxSource s)).latch = none → 3 ≤ s.tb.delays.length → pathDelay s = some d →
    Completes (exec (.syncReceived m) s) fun t => t.tb.pendingSync = none ∧
      t.tb.offset = some (extendStamp s.tb.time (latchOf m.t2) - rxLatency s - m.t1 - m.corr - s.cfg.small.asymmetry - d)) ∧
  (∀ (s : State) (m : PtpSync), ptpOn s = true → m.domain = s.cfg.net.ptpDomain → syncWanted s m = true → m.twoStep = true →
    (nth {} s.irq.srcs (rxSource s)).latch = none →
    Completes (exec (.syncReceived m) s) fun t => t.tb.offset = s.tb.offset ∧ t.tb.pendingSync =
      some { source := m.source, seq := m.seq, t2 := extendStamp s.tb.time (latchOf m.t2) - rxLatency s, corr := m.corr, since := s.tick.now, interval := m.interval }) ∧
  (∀ (s : State) (p : PendingSync) (t1 corr d : Int), ptpOn s = true → s.tb.pendingSync = some p →
    3 ≤ s.tb.delays.length → pathDelay s = some d →
    Completes (exec (.followUpReceived ({ domain := s.cfg.net.ptpDomain, source := p.source, seq := p.seq }) t1 corr) s) fun t =>
      t.tb.offset = some (p.t2 - t1 - (p.corr + corr) - s.cfg.small.asymmetry - d) ∧ t.tb.pendingSync = none) ∧
  (∀ (s : State) (p : PendingSync), s.tb.pendingSync = some p → elapsed s p.since p.interval = true →
    Completes (exec .followUpTimeout s) fun t =>
      t.tb.pendingSync = none ∧ t.tb.discardCnt = satInc 32 s.tb.discardCnt ∧ t.tb.offset = s.tb.offset) ∧
  (∀ (s : State) (m : PtpSync), ptpOn s = true → m.domain = s.cfg.net.ptpDomain → (nth {} s.irq.srcs (rxSource s)).latch ≠ none →
    Completes (exec (.syncReceived m) s) fun t => t.tb.stampLost = satInc 32 s.tb.stampLost ∧ t.tb.offset = s.tb.offset ∧
      t.tb.pendingSync = s.tb.pendingSync ∧ (nth {} t.irq.srcs (rxSource s)).latch = none)

/-- R108, R110, R111, R120, R125: each second a Pdelay_Req of the configured domain goes to the launch queue of the PTP port for the
start of the next frame, and untimed where the queue is full. A response completes a measurement, which is kept among the last eight
unless it lies more than 1 µs from the present median, and is then counted. A request is answered with a Pdelay_Resp and its Follow_Up,
which carry its corrected stamps. The asymmetry is taken from a request's correction and added to a response's. -/
def Obligations.PeerDelay : Prop :=
  (∀ (s : State) (sfd : Nat), ptpOn s = true → s.tb.pdelayAt = none → (queueAt s s.cfg.net.ptpPort).length < 32 →
    Completes (exec (.pdelayReqDue sfd) s) fun t => t.tb.pdelaySeq = (s.tb.pdelaySeq + 1) % 65536 ∧ t.tb.pdelayAt = some s.tick.now ∧
      queueAt t s.cfg.net.ptpPort = queueAt s s.cfg.net.ptpPort ++
        [{ at_ := s.tb.time + (20 - s.tick.j) * 50000, frame := .pdelayReq (ptpHead ((s.tb.pdelaySeq + 1) % 65536) (-s.cfg.small.asymmetry) s) }]) ∧
  (∀ (s : State) (sfd : Nat), ptpOn s = true → s.tb.pdelayAt = none → 32 ≤ (queueAt s s.cfg.net.ptpPort).length →
    (nth {} s.irq.srcs (txSource s)).latch = none →
    Completes (exec (.pdelayReqDue sfd) s) fun t => queueAt t s.cfg.net.ptpPort = queueAt s s.cfg.net.ptpPort ∧
      t.tb.untimed = s.tb.untimed ++ [.pdelayReq (ptpHead ((s.tb.pdelaySeq + 1) % 65536) (-s.cfg.small.asymmetry) s)] ∧
      t.tb.pdelayT1 = some (extendStamp s.tb.time (latchOf sfd) + txLatency s)) ∧
  (∀ (s : State) (m : PtpFrom) (t1 t2 t3 corr d : Int) (t4 : Nat), ptpOn s = true → m.domain = s.cfg.net.ptpDomain → m.seq = s.tb.pdelaySeq →
    s.tb.pdelayT1 = some t1 → (nth {} s.irq.srcs (rxSource s)).latch = none →
    d = divRound ((extendStamp s.tb.time (latchOf t4) - rxLatency s - t1) - (t3 - t2) - (corr + s.cfg.small.asymmetry)) 2 →
    Completes (exec (.pdelayRespReceived m t2 t3 corr t4) s) fun t => t.tb.pdelayT1 = none ∧
      ((∃ p, pathDelay s = some p ∧ 1000 < (d - p).natAbs) → t.tb.delays = s.tb.delays ∧ t.tb.discardCnt = satInc 32 s.tb.discardCnt) ∧
      ((∀ p ∈ pathDelay s, (d - p).natAbs ≤ 1000) → t.tb.delays = (d :: s.tb.delays).take 8 ∧ t.tb.discardCnt = s.tb.discardCnt)) ∧
  (∀ (s : State) (m : PdelayReqIn) (t2 t3 : Nat), netUp s = true → s.cfg.fallback = false → linkUpAt s s.cfg.net.ptpPort = true →
    m.head.domain = s.cfg.net.ptpDomain → (nth {} s.irq.srcs (rxSource s)).latch = none → (nth {} s.irq.srcs (txSource s)).latch = none →
    Completes (exec (.pdelayReqReceived m t2 t3) s) fun t => t.tb.sent = s.tb.sent ++
      [.pdelayResp (ptpHead m.head.seq 0 s) m.head.source (extendStamp s.tb.time (latchOf t2) - rxLatency s),
       .pdelayFollowUp (ptpHead m.head.seq m.corr s) m.head.source (extendStamp s.tb.time (latchOf t3) + txLatency s)])

/-- R107, R108: an Announce of the configured domain with the PTP timescale selects its sender where there was none and the
timebase acquires; three intervals without one, or 3 s without a usable offset, lose it: HOLDOVER from LOCKED, FREE_RUN from
ACQUIRING; HOLDOVER ends after `HOLDOVER_MAX` in FREE_RUN with its flag set. -/
def Obligations.Grandmaster : Prop :=
  (∀ (s : State) (a : AnnounceIn), ptpOn s = true → a.domain = s.cfg.net.ptpDomain → a.ptpTimescale = true → a.stepsRemoved < 255 →
    s.tb.gm = none →
    Completes (exec (.announceReceived a) s) fun t => t.tb.gm = some (announceData a) ∧ t.tb.announceAt = s.tick.now ∧ t.tb.sync = .acquiring) ∧
  (∀ (s : State) (g : Announce), s.tb.gm = some g → elapsed s s.tb.announceAt (3 * g.interval) = true →
    Completes (exec .announceReceiptTimeout s) fun t => t.tb.gm = none ∧
      t.tb.sync = (match s.tb.sync with | .locked => .holdover | .acquiring => .freeRun | x => x)) ∧
  (∀ (s : State) (t0 : Nat), s.tb.unusableSince = some t0 → (s.tb.sync = .acquiring ∨ s.tb.sync = .locked) →
    elapsed s t0 (secNs 3) = true →
    Completes (exec .ptpOffsetUnusable s) fun t => t.tb.offset = none ∧ t.tb.gm = none ∧
      t.tb.sync = (if s.tb.sync = .locked then .holdover else .freeRun)) ∧
  (∀ s : State, s.tb.sync = .holdover → elapsed s s.tb.holdoverSince (secNs s.cfg.small.holdoverMax) = true →
    Completes (exec .holdoverExpired s) fun t => t.tb.sync = .freeRun ∧ t.tb.holdoverExpired = true)

/-- R20, R21, R115, R117, R118, R120: a waiting step moves the counter and the counts j, f and c are taken afresh from it, the bank
being filled is emptied and the step counted; while LOCKED plant time goes to the RTC; the RTC's rate error is taken once per
second; the loss of the reference marks it lost and is a module fault; a frame leaves at its launch time, its start-of-frame
stamped, and is dropped and counted beyond the latest; a 32-bit stamp is extended to the nearest time with its bits. -/
def Obligations.ClockEvents : Prop :=
  (∀ (s : State) (d : Int), s.tb.step = some d →
    Completes (exec .timeStep s) fun t => t.tb.time = ((s.tb.time : Int) + d).toNat ∧ t.tb.step = none ∧
      t.tb.stepCnt = satInc 32 s.tb.stepCnt ∧ t.tick.j = t.tb.time % 1000000 / 50000 ∧ t.tick.f = t.tb.time % 10000000 / 1000000 ∧
      t.tick.c = t.tb.time % 500000000 / 10000000 ∧ (∃ n, t.tick.oddTick = some n ∧ 25000 ≤ n ∧ n ≤ 75000 ∧ (t.tb.time + n) % 50000 = 0) ∧
      t.tab.volt.b0.st ≠ 1 ∧ t.tab.volt.b1.st ≠ 1) ∧
  (∀ s : State, s.tb.sync = .locked → (∀ x ∈ s.tb.rtcWroteAt, elapsed s x (secNs 60) = true) →
    Completes (exec .rtcWriteback s) fun t => t.tb.rtc = s.tb.time ∧ t.tb.rtcWroteAt = some s.tick.now) ∧
  (∀ (s : State) (ppb : Int), s.tick.refLost = false → running s = true →
    (∀ x ∈ s.tb.rtcCheckAt, elapsed s x (secNs 1) = true) →
    Completes (exec (.rtcCorrection ppb) s) fun t => t.tb.rtcPpb = ppb ∧ t.tb.rtcCheckAt = some s.tick.now) ∧
  (∀ s : State, s.tick.refLost = false →
    Completes (exec .clkRefLost s) fun t => t.tick.refLost = true ∧ t.tb.refHoldover = true ∧ ModuleFaulted 0x1011 1 s t) ∧
  (∀ (s : State) (sfd : Nat) (h : PtpHead) (l : List LaunchEntry) (q : Nat), q < 3 → running s = true → linkUpAt s q = true →
    takeEarliest (queueAt s q) = some ({ at_ := s.tb.time, frame := .pdelayReq h }, l) → h.seq = s.tb.pdelaySeq →
    (nth {} s.irq.srcs (txSource s)).latch = none →
    Completes (exec (.launchTimeReached q sfd) s) fun t => queueAt t q = l ∧ t.tb.sent = s.tb.sent ++ [.pdelayReq h] ∧
      t.tb.pdelayT1 = some (extendStamp s.tb.time (latchOf sfd) + txLatency s) ∧
      t.tb.launchLate = s.tb.launchLate ∧ t.tb.launchDrop = s.tb.launchDrop) ∧
  (∀ (s : State) (sfd : Nat) (h : PtpHead) (e : LaunchEntry) (l : List LaunchEntry) (q : Nat), q < 3 → running s = true → linkUpAt s q = true →
    takeEarliest (queueAt s q) = some (e, l) → e.frame = .pdelayReq h → e.at_ + s.cfg.small.launchLateMax < s.tb.time →
    Completes (exec (.launchTimeReached q sfd) s) fun t => queueAt t q = l ∧ t.tb.sent = s.tb.sent ∧
      t.tb.launchDrop = satInc 32 s.tb.launchDrop) ∧
  (∀ t v : Nat, (extendStamp t v - v) % 4294967296 = 0 ∧ (t : Int) - 2147483648 ≤ extendStamp t v ∧ extendStamp t v < (t : Int) + 2147483648)

/-- R80, R537: a probe drives TRST_N; BYPASS, IDCODE, FRZ_STATUS, MEM_ADDR and MEM_DATA select their data registers. Outside a freeze the
status and the data read 0; in one, the status holds trigger, string state, forced stop and time, MEM_DATA captures the addressed word (bit 33
alone where the map has none; of a ring's packet its header) and the address counts on; nothing but the port and TRST_N changes. -/
def Obligations.JtagPort : Prop :=
  (∀ s : State, Completes (exec .jtagBypass s) fun t => t.jtag = { s.jtag with ir := 0xFF, drLen := 1, dr := 0 } ∧
    t.pins = { s.pins with trstDriven := true } ∧ Frame [.pins, .jtag] s t) ∧
  (∀ s : State, Completes (exec .jtagIdcode s) fun t => t.jtag = { s.jtag with ir := 0x01, drLen := 32, dr := 0x2C640A5B } ∧
    t.pins = { s.pins with trstDriven := true } ∧ Frame [.pins, .jtag] s t) ∧
  (∀ s : State, s.lad.frozen = false →
    Completes (exec .jtagFrzStatus s) fun t => t.jtag = { s.jtag with ir := 0x10, drLen := 64, dr := 0 } ∧
      t.pins = { s.pins with trstDriven := true } ∧ Frame [.pins, .jtag] s t) ∧
  (∀ (s : State) (f : FreezeLast), s.lad.frozen = true → s.lad.freezeLast = some f → f.trigger < 128 → f.state < 256 → f.time < 2 ^ 32 →
    Completes (exec .jtagFrzStatus s) fun t => t.jtag.dr % 2 = 1 ∧ t.jtag.dr / 2 ^ 8 % 256 = f.trigger ∧
      t.jtag.dr / 2 ^ 16 % 256 = f.state ∧ t.jtag.dr / 2 ^ 24 % 256 = b2n f.forced ∧ t.jtag.dr / 2 ^ 32 = f.time ∧
      t.pins = { s.pins with trstDriven := true } ∧ Frame [.pins, .jtag] s t) ∧
  (∀ (s : State) (a : Nat), Completes (exec (.jtagMemAddr a) s) fun t => t.jtag.ir = 0x11 ∧ t.jtag.drLen = 32 ∧ t.jtag.addr = a % 2 ^ 32 ∧
    t.pins = { s.pins with trstDriven := true } ∧ Frame [.pins, .jtag] s t) ∧
  (∀ s : State, s.lad.frozen = false →
    Completes (exec .jtagMemData s) fun t => t.jtag.drLen = 34 ∧ t.jtag.dr = 0 ∧ t.pins = { s.pins with trstDriven := true } ∧ Frame [.pins, .jtag] s t) ∧
  (∀ s : State, s.lad.frozen = true →
    Completes (exec .jtagMemData s) fun t => t.jtag.drLen = 34 ∧ t.jtag.addr = (s.jtag.addr + 1) % 2 ^ 32 ∧
      (memMapped s.jtag.addr = false → t.jtag.dr = 2 ^ 33) ∧
      (memMapped s.jtag.addr = true → t.jtag.dr = dumpWord s s.jtag.addr) ∧ t.pins = { s.pins with trstDriven := true } ∧ Frame [.pins, .jtag] s t) ∧
  (∀ (s : State) (r : Ring) (p : Packet) (ps : List Packet), s.lad.frozen = true → s.jtag.addr = 0x00400000 →
    s.rings.rings.head? = some r → r.enabled = true → r.base = 0 → r.rd = 0 → r.pkts = p :: ps → p.poison = false →
    p.kind < 128 → p.len < 65536 →
    Completes (exec .jtagMemData s) fun t => t.jtag.dr = p.kind * 2 ^ 24 + p.len)

/-- R24, R25, R28, R206, R207: the snapshot instant opens a new set, paired with the shunt word of its tick: in the bank that is not the
newest where no reader holds it, and empty. Drops join every tenth set and temperatures the first of a cycle. A complete set gets the
next sequence number, keeps its values and is the newest; the reader it is for takes it unless it still holds one. -/
def Obligations.ScanBanks : Prop :=
  (∀ s : State, runsRing s = true → coresRun s = true → s.tick.f = 0 → s.tick.j = 0 → geoP s ≠ 0 → lateRun 3 s = false → lateRun 5 s = false →
    Completes (exec .snapshotInstant s) fun t =>
      t.skl.snapId = some (nextSnap s) ∧ t.skl.snapUsed = some (nextSnap s) ∧ t.skl.vSnapAt = s.tick.now ∧ t.met.snapWord = roundAway (iTick s) ∧
      t.tab.volt = (s.tab.volt.start (geoP s) (nextSnap s) (roundAway (iTick s)) s.met.coulomb s.tb.time s.tick.now).1 ∧
      (∀ k, s.tab.volt.newest = some k → k < 2 → (s.tab.volt.get (1 - k)).held = false →
        t.tab.volt.filling = 1 - k ∧ (t.tab.volt.get (1 - k)).st = 1 ∧ (t.tab.volt.get (1 - k)).snapId = nextSnap s ∧
        (t.tab.volt.get (1 - k)).iStr = roundAway (iTick s) ∧ (t.tab.volt.get (1 - k)).vals = List.replicate (geoP s) none) ∧
      (s.tick.c % 10 ≠ 0 → t.tab.drop = s.tab.drop) ∧ (s.tick.c ≠ 0 → t.tab.temp = s.tab.temp) ∧
      (s.tick.c % 10 = 0 → t.skl.dSnap = nextSnap s ∧
        t.tab.drop = ((s.tab.drop.start (geoP s * geoS s) (nextSnap s) (roundAway (iTick s)) s.met.coulomb s.tb.time s.tick.now).1).mark
          ((List.range (geoP s)).filter fun p => (nth {} s.bal.pos p).unresolved)) ∧
      (s.tick.c = 0 → t.skl.tSnap = nextSnap s ∧
        t.tab.temp = (s.tab.temp.start (geoP s * 8) (nextSnap s) (roundAway (iTick s)) s.met.coulomb s.tb.time s.tick.now).1)) ∧
  (∀ s : State, (s.tab.volt.get s.tab.volt.filling).st = 1 → isSp s = false → coresRun s = true → s.tick.f ≤ 3 →
    Completes (exec .voltageBankComplete s) fun t => t.tab.volt.newest = some s.tab.volt.filling ∧
      t.tab.volt.seq = (s.tab.volt.seq + 1) % 65536 ∧ (t.tab.volt.get s.tab.volt.filling).st = 2 ∧
      (t.tab.volt.get s.tab.volt.filling).seq = (s.tab.volt.seq + 1) % 65536 ∧
      (t.tab.volt.get s.tab.volt.filling).vals = (s.tab.volt.get s.tab.volt.filling).vals ∧
      (nth false s.tab.volt.b0.hold rdEst = false → nth false s.tab.volt.b1.hold rdEst = false → rdEst < (s.tab.volt.get s.tab.volt.filling).hold.length →
        nth false (t.tab.volt.get s.tab.volt.filling).hold rdEst = true)) ∧
  (∀ s : State, (s.tab.drop.get s.tab.drop.filling).st = 1 → isSp s = false → coresRun s = true → s.tick.c % 10 = 9 → 4 ≤ s.tick.f →
    Completes (exec .dropSetComplete s) fun t => t.tab.drop.newest = some s.tab.drop.filling ∧
      t.tab.drop.seq = (s.tab.drop.seq + 1) % 65536 ∧ (t.tab.drop.get s.tab.drop.filling).st = 2 ∧
      (t.tab.drop.get s.tab.drop.filling).vals = (s.tab.drop.get s.tab.drop.filling).vals ∧
      (nth false s.tab.drop.b0.hold rdShare = false → nth false s.tab.drop.b1.hold rdShare = false → rdShare < (s.tab.drop.get s.tab.drop.filling).hold.length →
        nth false (t.tab.drop.get s.tab.drop.filling).hold rdShare = true)) ∧
  (∀ s : State, (s.tab.temp.get s.tab.temp.filling).st = 1 → isSp s = false → coresRun s = true → s.tick.c = 49 → 4 ≤ s.tick.f →
    Completes (exec .temperatureSetComplete s) fun t => t.tab.temp.newest = some s.tab.temp.filling ∧
      t.tab.temp.seq = (s.tab.temp.seq + 1) % 65536 ∧ (t.tab.temp.get s.tab.temp.filling).st = 2 ∧
      (t.tab.temp.get s.tab.temp.filling).vals = (s.tab.temp.get s.tab.temp.filling).vals ∧
      (rdThermal < (s.tab.temp.get s.tab.temp.filling).hold.length → nth false (t.tab.temp.get s.tab.temp.filling).hold rdThermal = true))

/-- R28, R243, R244, R258, R261, R262, R264, R266, R488: in frames 4 to 7 the position filters step once on each new voltage bank, and
the engine releases its banks; a rest long enough takes the anchored step and `RESTED` sets, on a bank already applied with the next
one; a CAP_LEARN whose first phase passes 24 h ends with reason 5; a job's completion is counted; 60 s without a restore start the
estimator cold; a due restore blob is numbered and kept with the one before. -/
def Obligations.Estimator : Prop :=
  (∀ (s : State) (b : Bank), s.tab.volt.heldBy rdEst = some b → isSp s = false → s.est.mode ≠ .noString → coresRun s = true →
    4 ≤ s.tick.f → s.tick.f ≤ 7 → s.est.lastSeq ≠ some b.seq →
    Completes (exec .positionFilters s) fun t => t.est.lastSeq = some b.seq ∧ t.est.lastQ = b.q ∧ t.est.lastStepAt = b.at_ ∧
      t.tab.volt = s.tab.volt.release rdEst) ∧
  (∀ (s : State) (b : Bank), s.tab.volt.current = some b → isSp s = false → coresRun s = true → s.est.rested = false → restHolds s = true →
    Completes (exec .restMinReached s) fun t =>
      (s.est.lastSeq = some b.seq → t = { s with est := { s.est with restDue := true } }) ∧
      (s.est.lastSeq ≠ some b.seq → t.est.lastSeq = some b.seq ∧ t.est.lastQ = b.q ∧
        ((∀ p e x r, s.tab.poss[p]? = some e → e.vStale = false → b.val p = some x → e.vRef = some r → (x - r).natAbs ≤ 5) →
          t.est.rested = true ∧ t.est.restDue = false))) ∧
  (∀ (s : State) (l : CapLearn), s.est.learn = some l → l.phase = 1 → elapsed s l.start (secNs 86400) = true →
    Completes (exec .capLearnTimeout s) fun t => t.est.learn = none ∧ t.est.learnAbort = 5) ∧
  (∀ (s : State) (job : Nat), job < 4 →
    Completes (exec (.estimationJobDone job) s) fun t => t.est.jobsDone = updAt (· + 1) s.est.jobsDone job) ∧
  (∀ s : State, s.est.mode = .waitRestore → elapsed s s.est.modeSince (secNs 60) = true →
    Completes (exec .restoreWaitTimeout s) fun t => (t.est.mode = .coldConverging ∨ t.est.mode = .running) ∧ t.est.coldAt = s.tick.now ∧
      (∀ e ∈ t.tab.poss, e.h = 0 ∧ e.va = 0 ∧ e.vb = 0 ∧ e.soc = some ((e.socLo + e.socHi) / 2))) ∧
  (∀ s : State, isSp s = false → s.tick.j = 0 → elapsed s s.est.blobAt (secNs s.cfg.cell.exportPeriod) = true → s.tab.poss ≠ [] →
    (∀ e ∈ s.tab.poss, e.soc ≠ none) →
    Completes (exec .restoreBlobBuild s) fun t => t.est.blobNum = s.est.blobNum + 1 ∧ t.est.blobAt = s.tick.now ∧
      (∃ x, t.est.blobs = (x :: s.est.blobs).take 2 ∧ x.seq = s.idn.dawnCnt * 4294967296 + (s.est.blobNum + 1)))

/-- R269, R273: a change that must be saved within 1 s is written as a record, a learn result before anything else; every
10 min the periodic record falls due. -/
def Obligations.JournalRecords : Prop :=
  (∀ s : State, journalReady s = true → s.jrn.dirty ≠ none →
    Completes (exec .journalDeltaDue s) fun t => t.jrn.dirty = none ∧
      (t.jrn.writing = none ↔ s.est.learnPending = false ∧ (allEntries s).filter (entryPrompt s) = [])) ∧
  (∀ s : State, journalReady s = true → elapsed s s.jrn.periodicAt (secNs 600) = true →
    Completes (exec .journalPeriodicDelta s) fun t => t.jrn.periodicAt = s.tick.now ∧
      (t.jrn.writing = none ↔ ((allEntries s).filter fun e => decide (e.tag ≤ 2) && entryNew s e) = []))

/-- R20, R26, R27, R104, R105, R115, R167, R175, R320, R327: a tick edge advances local time by a tick, or by the odd tick after a step, and
the counter to a multiple of 50,000 ns, from which j, f and c are taken; while the module does not run, nothing else. Where it
runs, each SAR's tick conversion is calibrated and each tick's charge counted, of DS0 where that is the source. At 25 µs each port that
is not dark takes its duty word and sends a frame with the next sequence number. The frame latch publishes charge and the means of the frame. -/
def Obligations.ScheduleEdges : Prop :=
  (∀ (s : State) (i : TickIn), s.lad.unpowered = false → (∀ k ∈ s.tick.oddTick, (s.tb.time + k) % 50000 = 0 ∧ s.tb.time + k < 2 ^ 64) →
    Completes (exec (.sampleInstant i) s) fun t =>
      t.tick.now = s.tick.now + s.tick.oddTick.getD 50000 ∧ t.tick.ticks = s.tick.ticks + 1 ∧ t.tick.oddTick = none ∧
      t.tb.time = (s.tb.time + s.tick.oddTick.getD 50000) % 2 ^ 64 / 50000 * 50000 ∧ t.tb.rtc = s.tb.rtc + rtcAdvance s (s.tick.oddTick.getD 50000) ∧
      t.tick.j = t.tb.time % 1000000 / 50000 ∧ t.tick.f = t.tb.time % 10000000 / 1000000 ∧ t.tick.c = t.tb.time % 500000000 / 10000000 ∧
      (running s = false → Frame [.tick, .tb] s t)) ∧
  (∀ (s : State) (i : TickIn), running s = true → s.lad.rung ≤ 1 →
    Completes (exec (.sampleInstant i) s) fun t =>
      (∀ k c r, s.met.sar[k]? = some c → nth none i.sar k = some r → ∃ d, t.met.sar[k]? = some d ∧ d.valid = true ∧
        d.word = clampI (-32767) 32767 ((nth {} s.met.cal (14 + k)).apply r)) ∧
      (s.met.frozen = none → s.met.srcDs1 = false →
        t.met.qTot = s.met.qTot.add (boxCharge s 0 i.box0 i.n (s.tick.oddTick.getD 50000)))) ∧
  (∀ s : State, running s = true → s.lad.rung = 0 →
    Completes (exec .dutyTransfer s) fun t => t.tick.keepDuty = false ∧ t.pins.gate.length = s.cnv.ports.length ∧
      (∀ (n : Nat) (q : GlPort), s.cnv.ports[n]? = some q → ∃ r, t.cnv.ports[n]? = some r ∧ t.pins.gate[n]? = some (gateWant s n) ∧
        (gateWant s n ≠ .dark → r.seq = (q.seq + 1) % 256 ∧ r.expect = some q.seq) ∧
        (gateWant s n = .run → r.duty = if s.tick.keepDuty then q.duty else q.dutyNext) ∧
        (gateWant s n ≠ .run → r.duty = 0)) ∧ Frame [.tick, .pins, .cnv, .tb, .pair, .out] s t) ∧
  (∀ s : State, running s = true → s.tick.j = 0 → s.lad.rung ≤ 1 → s.met.sysCal = none →
    Completes (exec .frameLatch s) fun t => t.met.coulomb = s.met.qTot.q ∧ t.met.chargeIn = s.met.inTot.q ∧
      t.met.chargeOut = s.met.outTot.q ∧
      (∀ (n : Nat) (c : DsCh), s.met.ds[n]? = some c → ∃ d, t.met.ds[n]? = some d ∧ d.frN = 0 ∧ (c.frN ≠ 0 → d.mean = some ((c.frSum : Rat) / c.frN))) ∧
      (∀ (n : Nat) (c : SarCh), s.met.sar[n]? = some c → ∃ d, t.met.sar[n]? = some d ∧ d.frN = 0 ∧ (c.frN ≠ 0 → d.mean = some ((c.frSum : Rat) / c.frN))))

/-- R27, R30, R31, R35, R38: at tick 16 the waiting triggers are judged against the state that holds: precharge done closes the
string, an armed Twilight cause takes RUN to TWILIGHT, a completed opening goes to its target. A late control item is a module
fault and keeps the duty words where it is the loops'; a late scan item is entered in its history. -/
def Obligations.Tick16AndOverrun : Prop :=
  (∀ s : State, running s = true → s.lad.rung = 0 → s.tick.j = 16 → s.host.commands = [] → s.dsp.spReq = none → isSp s = false →
    (∀ k, (contAt s k).hsOk = true) → (∀ k, (contAt s k).aux = true → (contAt s k).coil = true ∨ (contAt s k).state ≠ 0) →
    Completes (exec .tick16Evaluation s) fun t => (s.str.triggers = [] → t.str = s.str) ∧
      (s.str.triggers = [.prechargeDone] → s.str.state = .precharge →
        t.str.state = .closed ∧ t.str.prechargeTimeouts = 0 ∧ t.str.triggers = []) ∧
      (s.str.triggers = [.stoppingDone] → s.str.state = .stopping →
        t.str.state = s.str.stopTarget.getD .standby ∧ t.str.triggers = []) ∧
      (s.str.triggers = [.twilightRaised] → s.str.state = .run → twArmed s = true →
        t.str.state = .twilight ∧ t.str.cause = 0x0A50 ∧ t.str.triggers = [])) ∧
  (∀ (s : State) (item : Nat), itemRuns item s = true → item < 0x20 →
    Completes (exec (.tickOverrun item) s) fun t => ModuleFaulted 0x1010 1 s t ∧
      t.tick.keepDuty = (s.tick.keepDuty || decide (item = 0x02))) ∧
  (∀ (s : State) (k : Nat), k < 8 → itemRuns (0x20 + k) s = true → nth false s.tick.late k = false → s.tick.late.length = 8 → s.tick.runs.length = 8 →
    Completes (exec (.tickOverrun (0x20 + k)) s) fun t => nth false t.tick.late k = true ∧
      nth [] t.tick.runs k = (false :: nth [] s.tick.runs k).take 10)

/-- R112, R476, R477, R478: an event of a sensed source raises its counter, up to its saturation, latches the first instant and leaves its configuration; a
source that is not sensed changes nothing. The coalescing timer of an edge source that has counted expires. In Afternoon a source that so
becomes deliverable wakes the module to Noon (R482, R528). A start-of-frame latch that was free is free again unless its frame is a
PTP event message of the domain, which the model leaves to a free value (R112). -/
def Obligations.InterruptSources : Prop :=
  (∀ (s : State) (src : Nat) (up : Bool), src < 192 → src < s.irq.srcs.length → sensed s src = true →
    isEvent src (nth {} s.irq.srcs src).cfg up = true → (nth {} s.irq.srcs src).cnt < 254 →
    (s.lad.rung = 1 → (((nth {} s.irq.srcs src).setLevel src up).bump (timeNs s) s.tick.now).deliverable src = false) →
    Completes (exec (.irqSourceEvent src up) s) fun t =>
      (nth {} t.irq.srcs src).cnt = (nth {} s.irq.srcs src).cnt + 1 ∧
      (nth {} t.irq.srcs src).latch = (if 148 ≤ src ∧ src ≤ 152 ∧ (nth {} s.irq.srcs src).latch = none ∧ Config.ptpFrame s.fresh = false
        then none else some ((nth {} s.irq.srcs src).latch.getD (timeNs s))) ∧
      (nth {} t.irq.srcs src).cfg = (nth {} s.irq.srcs src).cfg ∧ (nth {} t.irq.srcs src).coal = (nth {} s.irq.srcs src).coal ∧
      (∀ k, k ≠ src → nth {} t.irq.srcs k = nth {} s.irq.srcs k) ∧ Frame [.irq, .fresh] s t) ∧
  (∀ (s : State) (src : Nat) (up : Bool), src < 192 → src < s.irq.srcs.length → sensed s src = true →
    isEvent src (nth {} s.irq.srcs src).cfg up = true → s.lad.rung = 1 → fld (nth {} s.irq.srcs src).cfg 27 25 < 6 →
    (((nth {} s.irq.srcs src).setLevel src up).bump (timeNs s) s.tick.now).deliverable src = true →
    Completes (exec (.irqSourceEvent src up) s) fun t => t.lad.rung = 0 ∧ t.lad.rungSince = s.tick.now ∧
      t.lad.rungTime = updAt (· + sinceNs s s.lad.rungSince / 1000000) s.lad.rungTime 1 ∧ Frame [.irq, .rings, .rung, .fresh] s t) ∧
  (∀ (s : State) (src : Nat) (up : Bool), sensed s src = false → Completes (exec (.irqSourceEvent src up) s) fun t => t = s) ∧
  (∀ (s : State) (src t0 : Nat), src < 192 → src < s.irq.srcs.length → s.lad.frozen = false →
    isLevel src (nth {} s.irq.srcs src).cfg = false → fld (nth {} s.irq.srcs src).coal 15 0 ≠ 0 →
    (nth {} s.irq.srcs src).cnt ≠ 0 → (nth {} s.irq.srcs src).timer = some t0 →
    elapsed s t0 (fld (nth {} s.irq.srcs src).coal 15 0 * 1000) = true →
    (s.lad.rung = 1 → fld (nth {} s.irq.srcs src).cfg 31 31 = 0) →
    Completes (exec (.irqCoalesceTimeout src) s) fun t =>
      nth {} t.irq.srcs src = { nth {} s.irq.srcs src with expired := true, timer := none } ∧
      (∀ k, k ≠ src → nth {} t.irq.srcs k = nth {} s.irq.srcs k) ∧ Frame [.irq] s t) ∧
  (∀ (s : State) (src t0 : Nat), src < 192 → src < s.irq.srcs.length → s.lad.frozen = false →
    isLevel src (nth {} s.irq.srcs src).cfg = false → fld (nth {} s.irq.srcs src).coal 15 0 ≠ 0 →
    (nth {} s.irq.srcs src).cnt ≠ 0 → (nth {} s.irq.srcs src).timer = some t0 →
    elapsed s t0 (fld (nth {} s.irq.srcs src).coal 15 0 * 1000) = true →
    s.lad.rung = 1 → fld (nth {} s.irq.srcs src).cfg 31 31 = 1 → fld (nth {} s.irq.srcs src).cfg 27 25 < 6 →
    Completes (exec (.irqCoalesceTimeout src) s) fun t => t.lad.rung = 0 ∧ Frame [.irq, .rings, .rung] s t)

/-- R479, R480, R481: a claim answers the selected source with its count, which it takes, and holds it; without a selection it
answers 0x3FF and is spurious; with eight held it answers 0x3FF. EOI ends a held claim and frees the source's latch, but for
sources 148 to 152; an EOI of anything else is counted. -/
def Obligations.ClaimAndEoi : Prop :=
  (∀ (s : State) (tgt v : Nat), tgt < 6 → tgt < s.irq.tgts.length → (nth {} s.irq.tgts tgt).claims.length < 8 → selection s tgt = some v →
    Completes (exec (.irqClaim tgt) s) fun t =>
      (nth {} t.irq.tgts tgt).claimWord =
        BitVec.ofNat 32 ((nth {} s.irq.srcs v).cnt * 65536 + fld (nth {} s.irq.srcs v).cfg 30 28 * 1024 + v) ∧
      (nth {} t.irq.tgts tgt).claims = (nth {} s.irq.tgts tgt).claims ++ [v] ∧ (nth {} t.irq.srcs v).cnt = 0 ∧
      (∀ k, k ≠ v → nth {} t.irq.srcs k = nth {} s.irq.srcs k) ∧ (∀ k, k ≠ tgt → nth {} t.irq.tgts k = nth {} s.irq.tgts k) ∧
      Frame [.irq] s t) ∧
  (∀ (s : State) (tgt : Nat), tgt < 6 → tgt < s.irq.tgts.length → (nth {} s.irq.tgts tgt).claims.length < 8 → selection s tgt = none →
    Completes (exec (.irqClaim tgt) s) fun t => (nth {} t.irq.tgts tgt).claimWord = 0x3FF ∧
      (nth {} t.irq.tgts tgt).spurious = satInc 32 (nth {} s.irq.tgts tgt).spurious ∧ t.irq.srcs = s.irq.srcs ∧ Frame [.irq] s t) ∧
  (∀ (s : State) (tgt : Nat), tgt < 6 → tgt < s.irq.tgts.length → 8 ≤ (nth {} s.irq.tgts tgt).claims.length →
    Completes (exec (.irqClaim tgt) s) fun t => (nth {} t.irq.tgts tgt).claimWord = 0x3FF ∧
      (nth {} t.irq.tgts tgt).spurious = (nth {} s.irq.tgts tgt).spurious ∧ t.irq.srcs = s.irq.srcs ∧ Frame [.irq] s t) ∧
  (∀ (s : State) (tgt : Nat) (w : Word), tgt < 6 → tgt < s.irq.tgts.length → fld w 9 0 ∈ (nth {} s.irq.tgts tgt).claims →
    Completes (exec (.irqEoi tgt w) s) fun t =>
      (nth {} t.irq.tgts tgt).claims = (nth {} s.irq.tgts tgt).claims.erase (fld w 9 0) ∧
      (nth {} t.irq.tgts tgt).eoiErr = (nth {} s.irq.tgts tgt).eoiErr ∧
      (nth {} t.irq.srcs (fld w 9 0)).latch = (if 148 ≤ fld w 9 0 ∧ fld w 9 0 ≤ 152 then (nth {} s.irq.srcs (fld w 9 0)).latch else none) ∧
      (∀ k, k ≠ fld w 9 0 → nth {} t.irq.srcs k = nth {} s.irq.srcs k) ∧ Frame [.irq] s t) ∧
  (∀ (s : State) (tgt : Nat) (w : Word), tgt < 6 → tgt < s.irq.tgts.length → fld w 9 0 ∉ (nth {} s.irq.tgts tgt).claims →
    Completes (exec (.irqEoi tgt w) s) fun t => t.irq.srcs = s.irq.srcs ∧
      (nth {} t.irq.tgts tgt).claims = (nth {} s.irq.tgts tgt).claims ∧
      (nth {} t.irq.tgts tgt).eoiErr = satInc 32 (nth {} s.irq.tgts tgt).eoiErr ∧ Frame [.irq] s t)

/-- R10, R479, R484, R485, R496: a write of `SRC_CFG` takes bits 31 to 22 and keeps the saturation bit; of `SRC_COAL` bits 23 to 0;
of a threshold its low three bits; of `RING_CFG` the whole word. -/
def Obligations.ControllerWrites : Prop :=
  (∀ (s : State) (src : Nat) (w : Word), src < 192 → src < s.irq.srcs.length →
    (s.lad.rung = 1 → ({ nth {} s.irq.srcs src with cfg := (w &&& 0xFFC00000) ||| ((nth {} s.irq.srcs src).cfg &&& 1) } : IrqSrc).deliverable src = false) →
    Completes (exec (.irqSrcCfgWrite src false w) s) fun t =>
      nth {} t.irq.srcs src = { nth {} s.irq.srcs src with cfg := (w &&& 0xFFC00000) ||| ((nth {} s.irq.srcs src).cfg &&& 1) } ∧
      (∀ k, k ≠ src → nth {} t.irq.srcs k = nth {} s.irq.srcs k) ∧ Frame [.irq] s t) ∧
  (∀ (s : State) (src : Nat) (w : Word), src < 192 → src < s.irq.srcs.length →
    (s.lad.rung = 1 → ({ nth {} s.irq.srcs src with coal := w &&& 0x00FFFFFF } : IrqSrc).deliverable src = false) →
    Completes (exec (.irqSrcCfgWrite src true w) s) fun t =>
      nth {} t.irq.srcs src = { nth {} s.irq.srcs src with coal := w &&& 0x00FFFFFF } ∧
      (∀ k, k ≠ src → nth {} t.irq.srcs k = nth {} s.irq.srcs k) ∧ Frame [.irq] s t) ∧
  (∀ (s : State) (tgt : Nat) (w : Word), tgt < 6 → tgt < s.irq.tgts.length →
    Completes (exec (.irqThresholdWrite tgt w) s) fun t => (nth {} t.irq.tgts tgt).threshold = w.toNat % 8 ∧
      (nth {} t.irq.tgts tgt).claims = (nth {} s.irq.tgts tgt).claims ∧ t.irq.srcs = s.irq.srcs ∧ Frame [.irq] s t) ∧
  (∀ (s : State) (ring : Nat) (w : Word), ring < s.rings.rings.length →
    Completes (exec (.registerWrite ring w) s) fun t => ringAt t ring = { ringAt s ring with cfg := w } ∧
      (∀ k, k ≠ ring → ringAt t k = ringAt s k) ∧ Frame [.rings] s t)

/-- R490, R492 to R495: a reservation that fits advances the write shadow by the payload and a header; one that does not is counted
in a dropping ring and refused in a blocking one. A commit within the reservation appends its packet; a rewind takes the
shadow back; a release takes the oldest packet away. A bad payload word poisons its packet, a bad header word empties the ring.
(The intake rings of the hardware and of the always-on controller may take the records that such an event makes.) -/
def Obligations.RingTraffic : Prop :=
  (∀ (s : State) (ring len : Nat), ring < s.rings.rings.length → (ringAt s ring).fits len = true →
    Completes (exec (.ringReserve ring len) s) fun t =>
      ringAt t ring = { ringAt s ring with wrShadow := ptrAdd (ringAt s ring).wrShadow (1 + len), refused := false } ∧
      (∀ k, k ≠ ring → ringAt t k = ringAt s k) ∧ Frame [.rings] s t) ∧
  (∀ (s : State) (ring len : Nat), ring ≠ 46 → ring ≠ 47 → ring < s.rings.rings.length → (ringAt s ring).fits len = false →
    Completes (exec (.ringReserve ring len) s) fun t => (ringAt t ring).pkts = (ringAt s ring).pkts ∧
      (ringAt t ring).wrShadow = (ringAt s ring).wrShadow ∧ (ringAt t ring).refused = true ∧
      (ringAt t ring).overrun = (if (ringAt s ring).enabled = true ∧ (ringAt s ring).drops = true
        then satInc 32 (ringAt s ring).overrun else (ringAt s ring).overrun)) ∧
  (∀ (s : State) (ring kind : Nat) (poison : Bool) (data : Bytes), ring ≠ 46 → ring ≠ 47 → ring < s.rings.rings.length →
    1 + wordsOf data ≤ ptrDiff (ringAt s ring).wrShadow (ringAt s ring).wr →
    Completes (exec (.ringCommit ring kind poison data) s) fun t =>
      (ringAt t ring).pkts = (ringAt s ring).pkts ++ [{ kind := kind % 128, poison := poison, len := wordsOf data, bytes := data }] ∧
      (ringAt t ring).wr = ptrAdd (ringAt s ring).wr (1 + wordsOf data) ∧ (ringAt t ring).pktWr = ptrAdd (ringAt s ring).pktWr 1 ∧
      (ringAt t ring).rd = (ringAt s ring).rd) ∧
  (∀ (s : State) (ring : Nat), ring < s.rings.rings.length →
    Completes (exec (.ringRewind ring) s) fun t => ringAt t ring = { ringAt s ring with wrShadow := (ringAt s ring).wr } ∧
      (∀ k, k ≠ ring → ringAt t k = ringAt s k) ∧ Frame [.rings] s t) ∧
  (∀ (s : State) (ring : Nat) (p : Packet) (ps : List Packet), ring ≠ 46 → ring ≠ 47 → ring < s.rings.rings.length → (ringAt s ring).pkts = p :: ps →
    Completes (exec (.ringRelease ring) s) fun t => (ringAt t ring).pkts = ps ∧
      (ringAt t ring).rd = ptrAdd (ringAt s ring).rd (1 + p.len) ∧ (ringAt t ring).pktRd = ptrAdd (ringAt s ring).pktRd 1 ∧
      (ringAt t ring).poison = (if p.poison = true then satInc 32 (ringAt s ring).poison else (ringAt s ring).poison)) ∧
  (∀ (s : State) (ring off : Nat), Completes (exec (.ringWordRead ring off true) s) fun t => t = s) ∧
  (∀ (s : State) (ring off i : Nat), ring ≠ 46 → ring ≠ 47 → ring < s.rings.rings.length → findWord 0 off (ringAt s ring).pkts = some (some i) →
    Completes (exec (.ringWordRead ring off false) s) fun t => (ringAt t ring).parity = satInc 32 (ringAt s ring).parity ∧
      (ringAt t ring).pkts = updAt (fun p => { p with poison := true }) (ringAt s ring).pkts i ∧
      (ringAt t ring).rd = (ringAt s ring).rd) ∧
  (∀ (s : State) (ring off : Nat), ring ≠ 46 → ring ≠ 47 → ring < s.rings.rings.length → findWord 0 off (ringAt s ring).pkts = some none →
    Completes (exec (.ringWordRead ring off false) s) fun t => (ringAt t ring).pkts = [] ∧
      (ringAt t ring).rd = (ringAt s ring).wr ∧ (ringAt t ring).wrShadow = (ringAt s ring).wr ∧ (ringAt t ring).flushed = true)

/-- R503, R505, R506: while it runs, the recorder takes the oldest record of its intake ring: equal to the open one it is folded, else it opens
with the next sequence number; one over its rate limit is counted as suppressed and opens none. A record closes 60 s after it opened
and moves to its region. -/
def Obligations.RecordFolding : Prop :=
  (∀ (s : State) (ring : Nat) (p : Packet) (ps : List Packet), 40 ≤ ring → ring ≤ 47 → recorderRuns s = true → s.rcd.freezeSession = 0 →
    (ring ≠ 46 ∨ (nth {} s.irq.srcs 110).cnt < 254) → (ringAt s ring).pkts = p :: ps → p.poison = false →
    (ringAt s ring).losses = [] → s.rcd.windowStart = none →
    s.rcd.openRec = none →
    Completes (exec (.recordIntake ring) s) fun t => t.rcd.seq = (s.rcd.seq + 1) % 4294967296 ∧ t.rcd.buffer = s.rcd.buffer ∧
      ∃ r, t.rcd.openRec = some (r, s.tick.now) ∧ r.seq = (s.rcd.seq + 1) % 4294967296 ∧ r.code = (Intake.decode p.bytes).code ∧
        r.sev = (Intake.decode p.bytes).sev ∧ r.src = (Intake.decode p.bytes).src ∧ r.data = (Intake.decode p.bytes).data ∧
        r.time = (Intake.decode p.bytes).time) ∧
  (∀ (s : State) (ring : Nat) (p : Packet) (ps : List Packet) (r : Rec) (t0 : Nat), 40 ≤ ring → ring ≤ 47 → recorderRuns s = true → s.rcd.freezeSession = 0 →
    (ring ≠ 46 ∨ (nth {} s.irq.srcs 110).cnt < 254) → (ringAt s ring).pkts = p :: ps → p.poison = false →
    (ringAt s ring).losses = [] → s.rcd.windowStart = none →
    s.rcd.openRec = some (r, t0) → r.code = (Intake.decode p.bytes).code → r.sev = (Intake.decode p.bytes).sev →
    r.src = (Intake.decode p.bytes).src → r.data = (Intake.decode p.bytes).data → r.rep < 65534 →
    Completes (exec (.recordIntake ring) s) fun t => t.rcd.openRec = some ({ r with rep := r.rep + 1 }, t0) ∧ t.rcd.seq = s.rcd.seq ∧
      t.rcd.repeatFold = satInc 32 s.rcd.repeatFold) ∧
  (∀ (s : State) (ring t0 : Nat) (p : Packet) (ps : List Packet), 40 ≤ ring → ring ≤ 47 → recorderRuns s = true → s.rcd.freezeSession = 0 →
    (ring ≠ 46 ∨ (nth {} s.irq.srcs 110).cnt < 254) → (ringAt s ring).pkts = p :: ps → p.poison = false →
    (ringAt s ring).losses = [] → s.rcd.windowStart = some t0 →
    (rateCount s.cfg.small.rateLimit (Intake.decode p.bytes) s.rcd.counts).1 = false →
    Completes (exec (.recordIntake ring) s) fun t => t.rcd.openRec = s.rcd.openRec ∧ t.rcd.seq = s.rcd.seq ∧
      t.rcd.counts = (rateCount s.cfg.small.rateLimit (Intake.decode p.bytes) s.rcd.counts).2 ∧ t.rcd.rateSuppr = satInc 32 s.rcd.rateSuppr) ∧
  (∀ (s : State) (r : Rec) (t0 : Nat), s.rcd.openRec = some (r, t0) → recorderRuns s = true → elapsed s t0 (secNs 60) = true →
    Completes (exec .recordCloseTimeout s) fun t => t.rcd.openRec = none ∧ t.rcd.buffer = s.rcd.buffer ++ [(r, s.tick.now)] ∧
      Frame [.rcd] s t) ∧
  (∀ (s : State) (r : Rec) (n : Nat) (rs : List (Rec × Nat)), recorderRuns s = true → s.rcd.freezeSession = 0 → s.rcd.buffer = (r, n) :: rs →
    s.rcd.safety.length < 262144 → s.rcd.shared.length < 1835008 →
    Completes (exec .recordFlush s) fun t => t.rcd.buffer = rs ∧
      t.rcd.safety = (if r.sev = 3 then s.rcd.safety ++ [r] else s.rcd.safety) ∧
      t.rcd.shared = (if r.sev = 3 then s.rcd.shared else s.rcd.shared ++ [r]) ∧ Frame [.rcd] s t)

/-- R506, R509, R510: while the recorder runs, each rate window ends with one sequence number per suppressed code, which its summary
record takes, and the next begins; so does the limited period once nothing holds it. The log's freeze ends at its time limit; an
export, once per frame and while its ring has room, counts its next chunk of up to 40 records, and ends with its operation when no
record of its range is left. -/
def Obligations.LogWindowsAndExport : Prop :=
  (∀ (s : State) (t0 : Nat), recorderRuns s = true → s.rcd.windowStart = some t0 → elapsed s t0 (msNs s.cfg.small.rateWindow) = true → s.rcd.seq < 4294967296 →
    Completes (exec .rateWindowEnd s) fun t => t.rcd.counts = [] ∧ t.rcd.windowStart = some (t0 + msNs s.cfg.small.rateWindow) ∧
      t.rcd.seq = (s.rcd.seq + (s.rcd.counts.filter fun c => decide (0 < c.suppressed)).length) % 4294967296) ∧
  (∀ s : State, recorderRuns s = true → limited s = true → limitHolds s = false → s.rcd.seq < 4294967296 →
    Completes (exec .limitedPeriodEnd s) fun t => t.rcd.counts = [] ∧ t.rcd.windowStart = none ∧ t.rcd.recoveryEnd = none ∧
      t.rcd.seq = (s.rcd.seq + (s.rcd.counts.filter fun c => decide (0 < c.suppressed)).length) % 4294967296) ∧
  (∀ s : State, running s = true → s.rcd.freezeSession ≠ 0 → elapsed s s.rcd.freezeSince (secNs s.cfg.small.freezeMax) = true →
    Completes (exec .freezeLogMaxElapsed s) fun t => t.rcd.freezeSession = 0) ∧
  (∀ (s : State) (e : Export) (o : Op), recorderRuns s = true → e.frame ≠ some (s.tb.time / 1000000) → s.rcd.export_ = some e → findOp s 6 = some o → o.opState = 0 →
    (ringAt s (8 + (sessionIdx s o.session).getD 0)).fillPkts < 64 →
    (∀ r ∈ recordsFrom s e.next 2097153, e.to_ < r.seq) →
    Completes (exec .logExportChunk s) fun t => t.rcd.export_ = none ∧ findOp t 6 = none) ∧
  (∀ (s : State) (e : Export) (o : Op), recorderRuns s = true → e.frame ≠ some (s.tb.time / 1000000) → s.rcd.export_ = some e → findOp s 6 = some o → o.opState = 0 →
    (ringAt s (8 + (sessionIdx s o.session).getD 0)).fillPkts < 64 →
    (((recordsFrom s e.next 2097153).filter fun r => decide (r.seq ≤ e.to_)).filter fun r => decide (e.minSev ≤ r.sev)) ≠ [] →
    Completes (exec .logExportChunk s) fun t => ∃ x, t.rcd.export_ = some x ∧ x.chunk = e.chunk + 1 ∧
      x.sent = e.sent + min 40 (((recordsFrom s e.next 2097153).filter fun r => decide (r.seq ≤ e.to_)).filter fun r => decide (e.minSev ≤ r.sev)).length ∧
      x.to_ = e.to_ ∧ x.minSev = e.minSev)


/-- R88 to R91: J1 below its threshold starts a dip where the hold-up bank allows it, else declares AUX_LOST at once; J1 back in
time ends and counts the dip; over-voltage counts as a loss until it clears, and then J1 counts by its level; at 10 ms AUX_LOST stops the string and the
digital inputs' supply; at the end of full operation the sensor supplies go off and the save begins. In OFF after an aux loss J1's return starts Dawn. -/
def Obligations.SupplyDips : Prop :=
  (∀ s : State, s.pwr.j1High = true → s.pwr.j1Ok = true → s.lad.unpowered = false → running s = true → s.pwr.stage = .none → s.pwr.holdupReady = true →
    s.pwr.insufficient = false →
    Completes (exec .j1BelowThreshold s) fun t => t.pwr.j1Ok = false ∧ t.pwr.stage = .dip ∧ t.pwr.dipStart = s.tick.now ∧ Frame [.pwr] s t) ∧
  (∀ s : State, s.pwr.j1High = true → s.pwr.j1Ok = true → s.lad.unpowered = false → running s = true → s.pwr.stage = .none → s.pwr.holdupReady = false →
    Completes (exec .j1BelowThreshold s) fun t => t.pwr.j1Ok = false ∧ t.pwr.stage = .lost ∧ t.pwr.lostAtOnce = true ∧
      t.pins.diOn = false ∧ (sfRuns s = true → t.prot.stop ≠ none)) ∧
  (∀ s : State, s.pwr.j1High = false → s.pwr.auxOv = false → s.lad.unpowered = false → s.pwr.stage = .dip →
    Completes (exec .j1Restored s) fun t => t.pwr.j1Ok = true ∧ t.pwr.stage = .none ∧ t.pwr.dipCnt = satInc 32 s.pwr.dipCnt) ∧
  (∀ s : State, s.pwr.j1High = false → s.pwr.auxOv = false → s.lad.unpowered = false → (s.pwr.stage = .lost ∨ s.pwr.stage = .save) →
    Completes (exec .j1Restored s) fun t => t.pwr.j1Ok = true ∧ t.pwr.returned = true ∧ t.pwr.stage = s.pwr.stage ∧ Frame [.pwr] s t) ∧
  (∀ s : State, s.pwr.auxOv = false → s.lad.unpowered = false → s.pwr.j1Ok = true → running s = true → s.pwr.stage = .none →
    s.pwr.holdupReady = true → s.pwr.insufficient = false →
    Completes (exec .auxOvervoltage s) fun t => t.pwr.auxOv = true ∧ t.pwr.j1Ok = false ∧ t.pwr.stage = .dip) ∧
  (∀ s : State, s.pwr.auxOv = true → s.lad.unpowered = false → s.pwr.stage = .none → inOff s = false →
    Completes (exec .auxOvervoltageCleared s) fun t => t.pwr.auxOv = false ∧ t.pwr.j1Ok = (s.pwr.j1Ok || s.pwr.j1High) ∧ Frame [.pwr] s t) ∧
  (∀ s : State, s.pwr.stage = .dip → dipElapsed s (msNs 10) = true →
    Completes (exec .auxLost s) fun t => t.pwr.stage = .lost ∧ t.pwr.lostAtOnce = false ∧ t.pins.diOn = false ∧
      (sfRuns s = true → t.prot.stop ≠ none)) ∧
  (∀ s : State, s.pwr.stage = .lost → (if s.pwr.lostAtOnce = true then s.prot.stop = none else dipElapsed s (msNs 20) = true) →
    Completes (exec .fullOperationEnd s) fun t => t.pwr.stage = .save ∧ t.pins.sensOn = false ∧ t.pins.sfpOn = false ∧
      t.rcd.openRec = none ∧ t.rcd.buffer.length = s.rcd.buffer.length + (if s.rcd.openRec = none then 0 else 1)) ∧
  (∀ s : State, s.pwr.j1High = false → s.pwr.auxOv = false → s.lad.unpowered = false → s.pwr.stage = .none → inOff s = true →
    s.lad.offByAux = true → s.lad.frozen = false →
    Completes (exec .j1Restored s) fun t => t.str.state = .dawn ∧ t.dawn.reason = 2 ∧ t.lad.wakeCause = 4)

/-- R90, R91, R94, R100, R130, R527, R530, R531: a completed save leaves the module in OFF at Night, or, with J1 back, in a Dawn of
reason 2; J1 on an unpowered module, or on one OFF by AUX_LOST, starts a Dawn; the bank's end loses what is not in flash; a
rail fault restarts with reason 7 and keeps the rail; a fault of the sensor supplies decides FAULT where the module owns, and is
a local fault of a standby. -/
def Obligations.SupplyLossAndReturn : Prop :=
  (∀ s : State, s.pwr.stage = .save → s.pwr.j1Ok = false →
    Completes (exec (.brownOutSaveComplete true) s) fun t => t.str.state = .off ∧ t.str.cause = 0x1102 ∧ t.lad.rung = 4 ∧
      t.lad.offByAux = true ∧ t.lad.retained = false ∧ t.pwr.stage = .none ∧ t.rcd.buffer = [] ∧ t.rcd.openRec = none ∧
      (∀ g ∈ t.pins.gate, g = .dark) ∧ t.prot.safeOut = false ∧ t.pair.ownOut = false) ∧
  (∀ s : State, s.pwr.stage = .save → s.pwr.j1Ok = false →
    Completes (exec (.brownOutSaveComplete false) s) fun t => t.str.state = .off ∧ t.lad.rung = 4 ∧ t.lad.retained = true ∧
      t.rcd.buffer = s.rcd.buffer ∧ t.rcd.openRec = s.rcd.openRec) ∧
  (∀ (s : State) (saved : Bool), s.pwr.stage = .save → s.pwr.j1Ok = true →
    Completes (exec (.brownOutSaveComplete saved) s) fun t => t.str.state = .dawn ∧ t.dawn.reason = 2 ∧ t.lad.wakeCause = 4 ∧ t.lad.rung = 0) ∧
  (∀ (s : State) (reason : Nat), s.lad.unpowered = true →
    Completes (exec (.auxPowerApplied reason) s) fun t => t.lad.unpowered = false ∧ t.str.state = .dawn ∧ t.pwr.j1Ok = true ∧
      t.dawn.reason = (if reason = 0 then 0 else 1) ∧ t.idn.dawnCnt = (s.idn.dawnCnt + 1) % 4294967296) ∧
  (∀ (s : State) (reason : Nat), s.lad.unpowered = false → inOff s = true → s.lad.offByAux = true →
    Completes (exec (.auxPowerApplied reason) s) fun t => t.str.state = .dawn ∧ t.dawn.reason = 2 ∧ t.lad.wakeCause = 4) ∧
  (∀ s : State, s.pwr.j1Ok = false → s.lad.unpowered = false → running s = false →
    Completes (exec .holdupBankBelow20v s) fun t => t.lad.unpowered = true ∧ t.lad.retained = false ∧ t.rcd.buffer = [] ∧
      t.rcd.openRec = none ∧ t.jrn.writing = none ∧ (∀ r ∈ t.rings.rings, r.pkts = [] ∧ r.rd = r.wr) ∧
      t.rcd.shared = s.rcd.shared ∧ t.rcd.safety = s.rcd.safety ∧ Frame [.pwr, .rcd, .rings, .jrn, .lad, .rung] s t) ∧
  (∀ (s : State) (rail value : Nat), s.lad.unpowered = false →
    Completes (exec (.railFault rail value) s) fun t => t.str.state = .dawn ∧ t.dawn.reason = 7 ∧
      t.pwr.railFault = (if rail = 2 then none else some (rail, value))) ∧
  (∀ (s : State) (supply : Nat), s.pins.sensOn = true → running s = true →
    Completes (exec (.sensSupplyFault supply) s) fun t => t.pins.sensOn = false ∧ t.pwr.sensOff = true ∧ HardwareFaulted 0x1021 1 s t)

/-- R529, R532 to R536: an idle standby returns to Afternoon; a press of 50 ms to 2 s restarts where it may, a shorter closure is
a bounce; at 2 s active outputs are stopped and FAULT decided; at 10 s the input is disabled, and acts again after 1 s
open; FREEZE_N starts a freeze. -/
def Obligations.ResetAndFreeze : Prop :=
  (∀ (s : State) (t0 : Nat), s.lad.idleSince = some t0 → running s = true → isSp s = true → partnerAdmitted s = true → s.pair.handoverPending = false → s.lad.rung = 0 →
    standbyIdle s = true → elapsed s t0 (msNs 10) = true →
    Completes (exec .afternoonReentry s) fun t => t.lad.rung = 1 ∧ t.lad.idleSince = none ∧ t.lad.rungTime = updAt (· + sinceNs s s.lad.rungSince / 1000000) s.lad.rungTime 0) ∧
  (∀ (s : State) (d : Nat), s.lad.unpowered = false → s.lad.closed = false →
    Completes (exec (.resetInputChange true d) s) fun t => t.lad.closed = true ∧ t.lad.closedSince = s.tick.now ∧ t.lad.openSince = none ∧
      t.pins.resetLow = true ∧ t.str = s.str) ∧
  (∀ (s : State) (ms d : Nat), ms = sinceNs s s.lad.closedSince / 1000000 → s.lad.unpowered = false → s.lad.closed = true → s.lad.resetDisabled = false → ms < 50 →
    Completes (exec (.resetInputChange false d) s) fun t => t.lad.closed = false ∧ t.lad.openSince = some s.tick.now ∧
      t.lad.pressCnt = updAt (satInc 32) s.lad.pressCnt 0 ∧ t.str = s.str) ∧
  (∀ (s : State) (ms d : Nat), ms = sinceNs s s.lad.closedSince / 1000000 → s.lad.unpowered = false → s.lad.closed = true → s.lad.resetDisabled = false → 50 ≤ ms → ms < 2000 →
    s.str.role = some .solo → s.lad.frozen = false → (s.str.state = .standby ∨ s.str.state = .fault ∨ s.str.state = .service) →
    Completes (exec (.resetInputChange false d) s) fun t => t.str.state = .dawn ∧ t.dawn.reason = 5 ∧
      t.lad.pressCnt = updAt (satInc 32) s.lad.pressCnt 1) ∧
  (∀ (s : State) (ms d : Nat), ms = sinceNs s s.lad.closedSince / 1000000 → s.lad.unpowered = false → s.lad.closed = true → s.lad.resetDisabled = false → 50 ≤ ms → ms < 2000 →
    s.str.role = some .solo → s.lad.frozen = false → (s.str.state = .run ∨ s.str.state = .closed) →
    Completes (exec (.resetInputChange false d) s) fun t => t.str = s.str ∧ t.lad.ignoredLast = true) ∧
  (∀ s : State, s.lad.unpowered = false → s.lad.closed = true → s.lad.resetDisabled = false → s.lad.holdActive = false →
    elapsed s s.lad.closedSince (secNs 2) = true → s.lad.frozen = false → activeState s = true → s.str.role = some .solo →
    Completes (exec .resetHold s) fun t => t.lad.holdActive = true ∧ t.str.state = .fault ∧ t.str.cause = 0x1114 ∧ t.prot.stop ≠ none ∧
      (∃ c ∈ t.str.causes, c.code = 0x1114 ∧ c.active = false)) ∧
  (∀ s : State, s.lad.unpowered = false → s.lad.closed = true → s.lad.resetDisabled = false →
    elapsed s s.lad.closedSince (secNs 10) = true → s.lad.frozen = false →
    Completes (exec .resetStuck s) fun t => t.lad.resetDisabled = true ∧ t.lad.disabledSince = s.tick.now ∧ t.lad.holdActive = false ∧
      t.str = s.str ∧ t.lad.pressCnt = updAt (satInc 32) s.lad.pressCnt 3) ∧
  (∀ (s : State) (t0 : Nat), s.lad.openSince = some t0 → s.lad.unpowered = false → s.lad.resetDisabled = true → s.lad.closed = false →
    elapsed s t0 (secNs 1) = true → Completes (exec .resetReleased s) fun t => t.lad.resetDisabled = false ∧ t.str = s.str) ∧
  (∀ s : State, s.lad.unpowered = false → s.lad.frozen = false → s.lad.freezeReq = none → s.str.state = .standby → s.str.role = some .solo →
    Completes (exec .freezeNAsserted s) fun t => t.pins.freezeLow = true ∧ t.lad.frozen = true ∧ t.lad.rung = 3 ∧ t.pair.ownOut = false ∧
      (∃ f, t.lad.freezeLast = some f ∧ f.trigger = 1 ∧ f.time = s.tb.time ∧ f.state = 2 ∧ f.forced = false) ∧
      (∀ x, some x ∈ t.host.sessions → x.key = List.replicate 32 0)) ∧
  (∀ s : State, s.lad.unpowered = false → s.lad.frozen = false → s.lad.freezeReq = none → s.str.state = .run → s.str.role = some .solo →
    Completes (exec .freezeNAsserted s) fun t => t.lad.frozen = false ∧ t.lad.freezeReq = some (1, 2, s.tick.now) ∧ t.prot.stop ≠ none)

/-- R82, R428, R437, R531, R552: a change of the plug's presence shows, a removal until the next Dawn, and starts
a Dawn out of OFF; a configured pair withdraws the admission
with its cable; a link that falls or rises shows at its pin; a COBS frame of the service port is received like a datagram; the
end of USB ends its session and holds the TAP reset. -/
def Obligations.ConnectorEvents : Prop :=
  (∀ s : State, s.lad.unpowered = false → s.pins.plugDet = true → s.str.state ≠ .off →
    Completes (exec (.plugDetChange false) s) fun t => t.pins.plugDet = false ∧ t.dawn.plugRemoved = true ∧ t.str = s.str ∧ t.cfg = s.cfg) ∧
  (∀ s : State, s.lad.unpowered = false → s.pins.plugDet = false → s.str.state ≠ .off →
    Completes (exec (.plugDetChange true) s) fun t => t.pins.plugDet = true ∧ t.dawn.plugRemoved = s.dawn.plugRemoved ∧ t.str = s.str ∧ t.cfg = s.cfg) ∧
  (∀ (s : State) (low : Bool), s.lad.unpowered = false → s.pins.plugDet ≠ low → s.lad.frozen = false → inOff s = true →
    Completes (exec (.plugDetChange low) s) fun t => t.pins.plugDet = low ∧ t.str.state = .dawn ∧ t.dawn.reason = 3 ∧ t.lad.wakeCause = 2) ∧
  (∀ s : State, s.lad.unpowered = false → s.pins.pairCable = true → running s = true → s.cfg.safety.pair = true → s.pair.partner = .admitted →
    Completes (exec (.pairPresentChange false) s) fun t => t.pins.pairCable = false ∧ t.pair.cableSeated = false ∧ t.pair.partner = .absent ∧
      t.pair.configMatch = false ∧ (isSp s = false → t.str.partnerAbsent = true)) ∧
  (∀ s : State, s.pins.sfpUp = false → s.pins.sfpBad = false → Completes (exec (.linkChange 2 true) s) fun t =>
      t.pins.sfpUp = true ∧ t.pair.linkUp = true ∧ t.str = s.str ∧ t.host = s.host) ∧
  (∀ s : State, s.pins.eth1Up = true →
    Completes (exec (.linkChange 0 false) s) fun t => t.pins.eth1Up = false ∧ t.pins.eth2Up = s.pins.eth2Up ∧ t.pair.linkUp = s.pair.linkUp) ∧
  (∀ (s : State) (f body b : Bytes), body = (if f.getLast? = some 0 then f.dropLast else f) → cobsDec (body.length + 1) body = some b →
    Completes (exec (.usbFrameReceived f) s) fun t => t = receiveDgram { port := 2, addr := 0, udp := 0, bytes := b } s) ∧
  (∀ (s : State) (f body : Bytes), body = (if f.getLast? = some 0 then f.dropLast else f) → cobsDec (body.length + 1) body = none →
    Completes (exec (.usbFrameReceived f) s) fun t => t = s) ∧
  (∀ s : State, s.lad.unpowered = false → s.host.usbMated = false →
    Completes (exec (.j16UsbMateChange true) s) fun t => t.host.usbMated = true ∧ Frame [.host] s t) ∧
  (∀ (s : State) (x : Session), s.lad.unpowered = false → s.host.usbMated = true → s.lad.frozen = false → s.host.sessions = [some x] →
    x.port = 2 → Completes (exec (.j16UsbMateChange false) s) fun t => t.host.usbMated = false ∧ t.host.sessions = [none] ∧
      t.pins.trstDriven = false ∧ t.jtag.ir = 0x01)


/-- R519, R521, R522, R523: scrubbing goes on row by row; three corrections of a row record it; an uncorrectable error is
counted and is a module fault; a failed lane takes a spare or is lost, and below 56 lanes FAULT is decided; the refresh pass
reads block after block; a flash block that fails takes a spare. -/
def Obligations.ModuleHealth : Prop :=
  (∀ s : State, running s = true → s.lad.rung = 0 →
    Completes (exec (.sramScrubRow 0 false) s) fun t => t.hlth = { s.hlth with scrubRow := (s.hlth.scrubRow + 1) % 6144 } ∧ Frame [.hlth] s t) ∧
  (∀ (s : State) (n : Nat), running s = true → s.lad.rung = 0 → 3 ≤ n → s.hlth.scrubRow < 2048 → suspectNow s 0 s.hlth.scrubRow = false →
    s.hlth.map.length < 4096 →
    Completes (exec (.sramScrubRow n false) s) fun t => t.hlth.eccCorr = satAdd 32 s.hlth.eccCorr n ∧ t.hlth.map = s.hlth.map ++
      [{ kind := 0, st := 0, unit := s.hlth.scrubRow, addr := 0, time := operMs s }]) ∧
  (∀ (s : State) (n : Nat), running s = true → s.lad.rung = 0 →
    Completes (exec (.sramScrubRow n true) s) fun t => t.hlth.eccUnc = satInc 32 s.hlth.eccUnc ∧ ModuleFaulted Config.eccCause 1 s t) ∧
  (∀ s : State, running s = true →
    Completes (exec .eccError s) fun t => t.hlth.eccUnc = satInc 32 s.hlth.eccUnc ∧ ModuleFaulted Config.eccCause 1 s t) ∧
  (∀ s : State, running s = true → s.lad.rung = 0 →
    Completes (exec (.laneTest true) s) fun t => t.hlth = { s.hlth with laneNext := (s.hlth.laneNext + 1) % 64 } ∧ Frame [.hlth] s t) ∧
  (∀ s : State, running s = true → s.lad.rung = 0 → 0 < spareLeft s 2 → 2 < s.hlth.spare.length →
    Completes (exec (.laneTest false) s) fun t => spareLeft t 2 = spareLeft s 2 - 1 ∧ t.hlth.lanes = s.hlth.lanes ∧ t.str = s.str) ∧
  (∀ s : State, running s = true → s.lad.rung = 0 → spareLeft s 2 = 0 →
    Completes (exec (.laneTest false) s) fun t => t.hlth.lanes = s.hlth.lanes - 1 ∧
      (s.hlth.lanes - 1 < 56 → HardwareFaulted 0x1009 2 s t) ∧ (56 ≤ s.hlth.lanes - 1 → t.str = s.str)) ∧
  (∀ (s : State) (region : Nat), running s = true → s.pwr.stage ≠ .save → s.jrn.writing = none →
    (0 < s.hlth.refreshBlock ∨ s.hlth.refreshLast + refreshMs (refreshBandNow s) ≤ operMs s) →
    Completes (exec (.flashRefresh region false false) s) fun t => Frame [.hlth] s t ∧
      t.hlth.refreshBlock = (if 1023 ≤ s.hlth.refreshBlock then 0 else s.hlth.refreshBlock + 1) ∧
      t.hlth.refreshLast = (if 1023 ≤ s.hlth.refreshBlock then operMs s else s.hlth.refreshLast)) ∧
  (∀ (s : State) (block : Nat) (r : JRec), running s = true → s.jrn.writing = some (r, 0) →
    Completes (exec (.flashOperationDone 2 block true) s) fun t => t.jrn.writing = some (r, 1) ∧ Frame [.jrn] s t) ∧
  (∀ (s : State) (region block : Nat), running s = true → region ≠ 2 → 0 < spareLeft s 5 → 4 < s.hlth.spare.length →
    Completes (exec (.flashOperationDone region block false) s) fun t => spareLeft t 5 = spareLeft s 5 - 1 ∧ t.str = s.str)

/-- R542, R545, R548 to R551: the erased region takes pieces; a piece of the transfer is stored and answered OK, one held already
is counted; the end of the install leaves the slot INSTALLED or, with a bad tag, empty; a confirmed trial becomes ACTIVE, the
fuses follow its manifest and never go back. -/
def Obligations.UpdateStaging : Prop :=
  (∀ s : State, running s = true → s.upd.erasing = true →
    Completes (exec .stagingEraseDone s) fun t => t.upd = { s.upd with erasing := false } ∧ Frame [.upd] s t) ∧
  (∀ (s : State) (r : HostReq) (x : Staging) (o : Op), Admitted 3 r s → r.args.length = 1032 → s.upd.staging = some x →
    findOp s 7 = some o → o.opState = 0 → s.upd.phase = 1 → s.upd.erasing = false → getN r.args 0 4 = x.updId → getN r.args 5 1 < 128 →
    128 * getN r.args 4 1 + getN r.args 5 1 < x.xferLen / 1024 →
    (chunkPieces x (getN r.args 4 1)).getLast? ≠ some (128 * getN r.args 4 1 + getN r.args 5 1) →
    x.holds (128 * getN r.args 4 1 + getN r.args 5 1) = false →
    chunkHeld (x.put (128 * getN r.args 4 1 + getN r.args 5 1) (slice r.args 8 1024) []) (getN r.args 4 1) = false →
    Completes (exec (.updPiece r) s) fun t => Answered r 0x0400 stOk [] s t ∧
      t.upd.staging = some (x.put (128 * getN r.args 4 1 + getN r.args 5 1) (slice r.args 8 1024) []) ∧ t.upd.phase = 1) ∧
  (∀ (s : State) (r : HostReq) (x : Staging) (o : Op), Admitted 3 r s → r.args.length = 1032 → s.upd.staging = some x →
    findOp s 7 = some o → o.opState = 0 → s.upd.phase = 1 → s.upd.erasing = false → getN r.args 0 4 = x.updId → getN r.args 5 1 < 128 →
    128 * getN r.args 4 1 + getN r.args 5 1 < x.xferLen / 1024 →
    (chunkPieces x (getN r.args 4 1)).getLast? ≠ some (128 * getN r.args 4 1 + getN r.args 5 1) →
    x.holds (128 * getN r.args 4 1 + getN r.args 5 1) = true →
    Completes (exec (.updPiece r) s) fun t => Answered r 0x0400 stOk [] s t ∧ t.upd.staging = some x ∧ t.upd.dupes = satInc 32 s.upd.dupes) ∧
  (∀ (s : State) (x : Staging) (o : Op), s.upd.staging = some x → findOp s 7 = some o → running s = true → s.upd.phase = 2 →
    o.opState = 0 → s.upd.recovery = false →
    Completes (exec (.updInstallDone none) s) fun t => t.upd.phase = 3 ∧ (fwSlot t (updTarget s)).st = 2 ∧
      (fwSlot t (updTarget s)).man = manifestOf (Config.gcmOpen (updKey s x) (chunkNonce x 0) (chunkBytes x 0)) ∧
      fwSlot t (1 - updTarget s) = fwSlot s (1 - updTarget s) ∧ findOp t 7 = none) ∧
  (∀ (s : State) (x : Staging) (o : Op) (n : Nat), s.upd.staging = some x → findOp s 7 = some o → running s = true → s.upd.phase = 2 →
    o.opState = 0 →
    Completes (exec (.updInstallDone (some n)) s) fun t => t.upd.phase = 0 ∧ fwSlot t (updTarget s) = {} ∧
      fwSlot t (1 - updTarget s) = fwSlot s (1 - updTarget s) ∧ t.upd.staging = some (x.drop n) ∧ findOp t 7 = none) ∧
  (∀ (s : State) (t0 : Nat), s.upd.confirmFrom = some t0 → running s = true → s.upd.running < 2 → (fwSlot s s.upd.running).st = 3 →
    elapsed s t0 (secNs 600) = true →
    Completes (exec .updTrialConfirm s) fun t => t.upd.confirmFrom = none ∧ (fwSlot t s.upd.running).st = 4 ∧
      ((fwSlot s (1 - s.upd.running)).st = 4 → (fwSlot t (1 - s.upd.running)).st = 5) ∧
      ((fwSlot s (1 - s.upd.running)).st = 5 → (fwSlot t (1 - s.upd.running)).st = 0) ∧
      t.upd.counter = max s.upd.counter (min 64 (fwSlot s s.upd.running).man.secVer) ∧
      t.upd.revoked = Nat.lor s.upd.revoked ((fwSlot s s.upd.running).man.revoke % 16) ∧ t.upd.keyHash = s.upd.keyHash)

/-- R467 to R471: a switched-on controller joins its bus with its counters at 0; a status frame goes stamped to its ring, any other is
counted; a transmission that ends is DONE, or waits again, PENDING or ACTIVE, with the content that waited; errors raise the counters and above 255 go bus-off,
which suspends the mailboxes; recovery returns them; the trip copy is written again each second while a trip is latched. -/
def Obligations.CanControllers : Prop :=
  (∀ (s : State) (ctl : Nat), ctl < 2 → (canAt s ctl).running = true → (canAt s ctl).onBus = false →
    Completes (exec (.canBusIntegration ctl) s) fun t => (canAt t ctl).onBus = true ∧ (canAt t ctl).tec = 0 ∧ (canAt t ctl).recv = 0 ∧
      canAt t (1 - ctl) = canAt s (1 - ctl) ∧ Frame [.can] s t) ∧
  (∀ (s : State) (ctl : Nat) (f : CanFrame), ctl < 2 → (canAt s ctl).running = true → (canAt s ctl).onBus = true → (canAt s ctl).busOff = false →
    f.remote = false → f.id = s.cfg.can.chStsId → f.data.length = 8 → 24 + ctl < s.rings.rings.length →
    (ringAt s (24 + ctl)).fits (mkPacket 0 (u32 (timeNs s) ++ f.data)).len = true →
    Completes (exec (.canFrameReceived ctl f) s) fun t => (canAt t ctl).rxCnt = satInc 32 (canAt s ctl).rxCnt ∧
      (canAt t ctl).recv = recAfterGood (canAt s ctl).recv ∧
      (ringAt t (24 + ctl)).pkts = (ringAt s (24 + ctl)).pkts ++ [mkPacket 0 (u32 (timeNs s) ++ f.data)]) ∧
  (∀ (s : State) (ctl : Nat) (f : CanFrame), ctl < 2 → (canAt s ctl).running = true → (canAt s ctl).onBus = true → (canAt s ctl).busOff = false →
    (f.remote = true ∨ f.id ≠ s.cfg.can.chStsId ∨ f.data.length ≠ 8) →
    Completes (exec (.canFrameReceived ctl f) s) fun t => (canAt t ctl).rxDiscard = satInc 32 (canAt s ctl).rxDiscard ∧
      (canAt t ctl).rxCnt = (canAt s ctl).rxCnt ∧ ringAt t (24 + ctl) = ringAt s (24 + ctl)) ∧
  (∀ (s : State) (ctl mb : Nat) (delay : Option Nat), ctl < 2 → mb < (canAt s ctl).mbs.length → (nth {} (canAt s ctl).mbs mb).st = .active →
    (nth {} (canAt s ctl).mbs mb).next = none →
    Completes (exec (.canTxComplete ctl mb delay) s) fun t => (nth {} (canAt t ctl).mbs mb).st = .done ∧
      (canAt t ctl).txCnt = satInc 32 (canAt s ctl).txCnt ∧ (canAt t ctl).tec = (canAt s ctl).tec - 1 ∧
      (canAt t ctl).sent = (mb, (nth {} (canAt s ctl).mbs mb).data) :: (canAt s ctl).sent) ∧
  (∀ (s : State) (ctl mb : Nat) (delay : Option Nat) (d : Bytes), ctl < 2 → mb < (canAt s ctl).mbs.length →
    (nth {} (canAt s ctl).mbs mb).st = .active → (nth {} (canAt s ctl).mbs mb).next = some d →
    Completes (exec (.canTxComplete ctl mb delay) s) fun t => (nth {} (canAt t ctl).mbs mb).data = d ∧
      (nth {} (canAt t ctl).mbs mb).next = none ∧
      ((nth {} (canAt t ctl).mbs mb).st = .pending ∨ (nth {} (canAt t ctl).mbs mb).st = .active)) ∧
  (∀ (s : State) (ctl a b : Nat) (lost : Bool) (delay : Option Nat), ctl < 2 → (canAt s ctl).running = true → (canAt s ctl).onBus = true → (canAt s ctl).busOff = false →
    (canAt s ctl).tec + a ≤ 255 →
    Completes (exec (.canBusError ctl a b lost delay) s) fun t => (canAt t ctl).tec = (canAt s ctl).tec + a ∧
      (canAt t ctl).recv = min ((canAt s ctl).recv + b) 255 ∧ (canAt t ctl).busOff = false) ∧
  (∀ (s : State) (ctl a b : Nat) (lost : Bool) (delay : Option Nat), ctl < 2 → (canAt s ctl).running = true → (canAt s ctl).onBus = true → (canAt s ctl).busOff = false →
    255 < (canAt s ctl).tec + a →
    Completes (exec (.canBusError ctl a b lost delay) s) fun t => (canAt t ctl).busOff = true ∧ (canAt t ctl).offSince = s.tick.now ∧
      (canAt t ctl).busOffCnt = satInc 32 (canAt s ctl).busOffCnt ∧ (∀ m ∈ (canAt t ctl).mbs, m.st ≠ .pending ∧ (lost = true ∨ 0 < a → m.st ≠ .active))) ∧
  (∀ (s : State) (ctl : Nat), ctl < 2 → (canAt s ctl).busOff = true →
    Completes (exec (.canBusOffRecovery ctl) s) fun t => (canAt t ctl).busOff = false ∧ (canAt t ctl).tec = 0 ∧ (canAt t ctl).recv = 0 ∧
      (∀ m ∈ (canAt t ctl).mbs, m.st ≠ .suspended)) ∧
  (∀ s : State, tripLatched s = true → elapsed s s.can.copyAt (secNs 1) = true → s.cfg.can.tripPort < 2 → (canAt s s.cfg.can.tripPort).running = true →
    (nth {} (canAt s s.cfg.can.tripPort).mbs 0).st ≠ .active → 0 < (canAt s s.cfg.can.tripPort).mbs.length →
    Completes (exec .tripCopyResend s) fun t => (nth {} (canAt t s.cfg.can.tripPort).mbs 0).data =
      u8 1 ++ u8 s.can.tripFn ++ u16 s.can.tripCause ++ u32 s.can.tripTime ∧
      (nth {} (canAt t s.cfg.can.tripPort).mbs 0).id = s.cfg.can.tripId ∧ t.can.copyAt = s.tick.now ∧ Frame [.can] s t)


/-- R27, R378, R379, R382, R384, R386, R559: in ticks 1 to 9, on the banks the safety core holds, a position that completes its run above `OV_HARD` demands SF_OV, a run of three frame means above
`I_STR_TRIP` SF_OC_I2T; a safety input de-energized for 41 samples, or the E-stop channels differing beyond `ESTOP_DISC`, demands
SF_EXT, with a trip but for the door; inputs restored for 100 ms end the demand. -/
def Obligations.SafetyFunctionDemands : Prop :=
  (∀ (s : State) (b : Bank) (p : Nat), sfRuns s = true → coresRun s = true → 1 ≤ s.tick.j → s.tick.j ≤ 9 → s.tab.volt.heldBy rdSafety = some b → b.seq ≠ s.prot.vBankSeen →
    s.tab.temp.heldBy rdSafety = none → firstRun s.cfg.safety.vConfirm (voltRuns s b).prot.ovHardRun = some p → s.prot.ovHard = false →
    firstRun s.cfg.safety.vConfirm (voltRuns s b).prot.uvDeepRun = none → firstRun s.cfg.safety.vConfirm (voltRuns s b).prot.uvRun = none →
    demandActive 0x0A05 s = false → s.prot.theta ≤ cont2 s → s.prot.tripRun < 3 →
    Completes (exec .frameProtectionEvaluation s) fun t => FaultedBy 0x0A01 1 s t ∧ t.prot.ovHard = true ∧ t.prot.vBankSeen = b.seq ∧
      t.prot.demandCnt = updAt (satInc 32) s.prot.demandCnt 0) ∧
  (∀ s : State, sfRuns s = true → coresRun s = true → 1 ≤ s.tick.j → s.tick.j ≤ 9 → s.tab.volt.heldBy rdSafety = none → s.tab.temp.heldBy rdSafety = none →
    demandActive 0x0A05 s = false → 3 ≤ s.prot.tripRun →
    Completes (exec .frameProtectionEvaluation s) fun t => FaultedBy 0x0A05 0 s t ∧ t.prot.evaluating = true ∧
      t.prot.demandCnt = updAt (satInc 32) s.prot.demandCnt 4) ∧
  (∀ s : State, sfRuns s = true → coresRun s = true → 1 ≤ s.tick.j → s.tick.j ≤ 9 → s.tab.volt.heldBy rdSafety = none → s.tab.temp.heldBy rdSafety = none →
    demandActive 0x0A05 s = false → s.prot.theta ≤ cont2 s → s.prot.tripRun < 3 →
    Completes (exec .frameProtectionEvaluation s) fun t => t.prot.evaluating = true ∧ t.str.state = s.str.state ∧
      t.prot.stop = s.prot.stop ∧ t.prot.demandCnt = s.prot.demandCnt) ∧
  (∀ (s : State) (input : Nat), input < 4 → sfRuns s = true → extUsed s input = true → 41 ≤ (extAt s input).low → (extAt s input).active = false →
    Completes (exec (.safetyInputDeenergized input) s) fun t =>
      Demanded 9 0x0A09 (if input = 3 then 1 else 0) (decide (input ≠ 2)) s t ∧ (extAt t input).active = true) ∧
  (∀ (s : State) (input : Nat), input < 2 → heldOn s s.prot.estopBothSince = true →
    Completes (exec (.safetyInputRestored input) s) fun t => t.prot.estopA.active = false ∧ t.prot.estopB.active = false ∧
      t.prot.discActive = false ∧ (∀ c ∈ t.str.causes, c.code = 0x0A26 → c.active = false) ∧
      (s.prot.doorIl.active = false → s.prot.fireIn.active = false → ∀ c ∈ t.str.causes, c.code = 0x0A09 → c.active = false) ∧
      Frame [.prot, .str] s t) ∧
  (∀ (s : State) (input : Nat), 2 ≤ input → input < 4 → heldOn s (extAt s input).energizedSince = true →
    Completes (exec (.safetyInputRestored input) s) fun t => (extAt t input).active = false ∧ Frame [.prot, .str] s t) ∧
  (∀ (s : State) (t0 : Nat), s.prot.estopDiffSince = some t0 → sfRuns s = true → s.prot.discActive = false →
    elapsed s t0 (msNs s.cfg.safety.estopDisc) = true →
    Completes (exec .estopDiscrepancy s) fun t => Demanded 9 0x0A26 2 true s t ∧ t.prot.discActive = true)

/-- R44, R381, R387, R388, R400: the safe stop ends with the coils off, its time kept and the comparator latches cleared; a spent
Twilight budget asks for STOPPING at the next tick 16; ten minutes without a cause set the budget back. -/
def Obligations.SafeStopAndTwilight : Prop :=
  (∀ (s : State) (x : SafeStop), s.prot.stop = some x → (2 ≤ x.lowWords ∨ elapsed s x.start 1500000 = true ∨ alreadyOpen s = true) →
    s.lad.freezeReq = none →
    Completes (exec .safeStopCoilsOff s) fun t => t.prot.stop = none ∧ t.prot.stopLast = some (sinceNs s x.start / 1000) ∧
      coilsDriven t = false ∧ t.cnv.fastTrip = List.replicate 6 false ∧ (s.str.state = .fault → t.str.faultStopDone = true) ∧
      t.str.state = s.str.state ∧ (∀ c ∈ t.str.causes, c.code = 0x0A04 → c.active = false)) ∧
  (∀ s : State, s.str.state = .twilight → twLeft s = 0 → Trigger.twilightExhausted ∉ s.str.triggers →
    Completes (exec .twilightExhausted s) fun t => t.str.triggers = s.str.triggers ++ [.twilightExhausted] ∧ t.str.state = .twilight) ∧
  (∀ (s : State) (t0 : Nat), s.str.unarmedSince = some t0 → twArmed s = false → elapsed s t0 (secNs 600) = true →
    Completes (exec .twilightBudgetReset s) fun t => t.str = { s.str with twilightUsed := 0 } ∧ Frame [.str] s t)

/-- R394 to R398, R420: a test pulse starts in its slot, and 300 µs on it is judged: a pass is kept, an output that does not come on again decides
FAULT; a whole TAI second starts every output's next interval; input and comparator tests mark what fails; a bad code CRC is a
module fault; a watchdog expiry or a lockstep mismatch restarts with reason 8. -/
def Obligations.Diagnostics : Prop :=
  (∀ (s : State) (k : Nat), k < 6 → owning s = true → coresRun s = true → s.tick.j = 16 → s.prot.noPulses = false →
    testFrame s = 150 * k + 75 → (nth {} s.prot.tests k).served = false → s.prot.pulse = none → pulseEligible s k = true → k < s.prot.tests.length →
    Completes (exec (.testPulseStart k) s) fun t => t.prot.pulse = some (k, s.tick.now) ∧ (nth {} t.prot.tests k).served = true ∧
      (nth {} t.prot.tests k).retry = false ∧ Frame [.prot] s t) ∧
  (∀ (s : State) (k t0 : Nat), s.prot.pulse = some (k, t0) → 300000 ≤ sinceNs s t0 → k < s.prot.tests.length →
    Completes (exec (.testPulseEnd true true) s) fun t => t.prot.pulse = none ∧ (nth {} t.prot.tests k).passed = true ∧
      (nth {} t.prot.tests k).missed = 0 ∧ (nth {} t.prot.tests k).lastPass = some s.tb.time ∧ t.str.state = s.str.state) ∧
  (∀ (s : State) (k t0 : Nat), s.prot.pulse = some (k, t0) → 300000 ≤ sinceNs s t0 →
    Completes (exec (.testPulseEnd true false) s) fun t => t.prot.pulse = none ∧ FaultedBy 0x0A31 1 s t) ∧
  (∀ s : State, owning s = true → running s = true → taiSec s ≠ s.prot.testSec →
    Completes (exec .testIntervalEnd s) fun t => t.prot.testSec = taiSec s ∧ t.prot.noPulses = false ∧ (∀ k < 6, (nth {} t.prot.tests k).passed = false ∧
      (nth {} t.prot.tests k).retry = false ∧ (nth {} t.prot.tests k).served = false) ∧ t.str.state = s.str.state) ∧
  (∀ s : State, sfRuns s = true → running s = true →
    Completes (exec (.inputTest [true, true, true, true]) s) fun t => t = s) ∧
  (∀ s : State, sfRuns s = true → running s = true → 7 < s.prot.diagFailed.length →
    Completes (exec (.inputTest [true, false, true, true]) s) fun t => nth false t.prot.diagFailed 7 = true ∧ nth true t.prot.twilight 10 = true) ∧
  (∀ (s : State) (cmp : Nat), cmp < 6 → running s = true →
    Completes (exec (.cmpTest cmp true) s) fun t => t.prot = { s.prot with cmpNext := (cmp + 1) % 6 } ∧ Frame [.prot] s t) ∧
  (∀ (s : State) (cmp : Nat), cmp < 6 → running s = true →
    Completes (exec (.cmpTest cmp false) s) fun t => t.prot.cmpNext = (cmp + 1) % 6 ∧ nth true t.prot.twilight 13 = true) ∧
  (∀ s : State, running s = true → Completes (exec (.codeCrcCheck false) s) fun t => ModuleFaulted Config.codeCrcCause 1 s t) ∧
  (∀ s : State, Completes (exec (.codeCrcCheck true) s) fun t => t = s) ∧
  (∀ s : State, running s = true → Completes (exec .watchdogExpiry s) fun t => t.str.state = .dawn ∧ t.dawn.reason = 8 ∧
      t.prot.safeOut = false ∧ t.pair.ownOut = false ∧ t.idn.dawnCnt = (s.idn.dawnCnt + 1) % 4294967296) ∧
  (∀ s : State, running s = true → Completes (exec .lockstepMismatch s) fun t => t.str.state = .dawn ∧ t.dawn.reason = 8 ∧
      t.prot.safeOut = false ∧ t.pair.ownOut = false ∧ t.idn.dawnCnt = (s.idn.dawnCnt + 1) % 4294967296)

/-- R389 to R392, R412: the precharge sequence advances with its contacts, STOPPING opens main + and then main −; a contact that
reads closed in STANDBY without its coil is welded; a pull-in ends in hold; a contact or coil that fails demands SF_CONT with
the contactor marked. -/
def Obligations.ContactorSequences : Prop :=
  (∀ s : State, sfRuns s = true → running s = true → s.cont.c2.aux = false → s.cont.c2.coil = true → s.cont.step = .p1 →
    Completes (exec (.auxContactChange 2 true) s) fun t => t.cont.c2.aux = true ∧ t.cont.step = .p2 ∧ t.cont.stepSince = s.tick.now ∧
      t.cont.ops2 = satInc 32 s.cont.ops2 ∧ t.str = s.str) ∧
  (∀ s : State, sfRuns s = true → running s = true → s.cont.c0.aux = false → s.cont.c0.coil = true → s.cont.step = .p5 →
    Completes (exec (.auxContactChange 0 true) s) fun t => t.cont.c0.aux = true ∧ t.cont.step = .p6 ∧
      t.str.triggers = s.str.triggers ++ [.prechargeDone]) ∧
  (∀ s : State, sfRuns s = true → running s = true → s.cont.c0.aux = true → s.cont.opening = 1 →
    Completes (exec (.auxContactChange 0 false) s) fun t => t.cont.c0.aux = false ∧ t.cont.c1.coil = false ∧ t.cont.opening = 2) ∧
  (∀ s : State, sfRuns s = true → running s = true → s.cont.c1.aux = true → s.cont.opening = 2 →
    Completes (exec (.auxContactChange 1 false) s) fun t => t.cont.c1.aux = false ∧ t.cont.opening = 3 ∧
      t.str.triggers = s.str.triggers ++ [.stoppingDone]) ∧
  (∀ (s : State) (k : Nat), k < 3 → sfRuns s = true → running s = true → s.str.state = .standby → (contAt s k).aux = false → (contAt s k).coil = false →
    Completes (exec (.auxContactChange k true) s) fun t => (contAt t k).aux = true ∧ (contAt t k).state = 4 ∧ Demanded 10 0x0A20 2 true s t) ∧
  (∀ (s : State) (k : Nat), k < 3 → sfRuns s = true → (contAt s k).coil = true → (contAt s k).wasClosed = false → (contAt s k).state ≠ 4 →
    elapsed s (contAt s k).since (msNs s.cfg.safety.closeMax) = true →
    Completes (exec (.contCloseTimeout k) s) fun t => (contAt t k).state = 4 ∧ Demanded 10 0x0A22 2 false s t) ∧
  (∀ (s : State) (k : Nat), k < 3 → sfRuns s = true → (contAt s k).coil = false → (contAt s k).aux = true → (contAt s k).state = 3 →
    elapsed s (contAt s k).since (msNs s.cfg.safety.openMax) = true →
    Completes (exec (.contOpenTimeout k) s) fun t => (contAt t k).state = 4 ∧
      Demanded 10 (if (contAt s k).wasClosed = true then 0x0A20 else 0x0A21) 2 true s t) ∧
  (∀ (s : State) (k : Nat), k < 3 → sfRuns s = true → (contAt s k).coil = true → (contAt s k).state = 2 → (contAt s k).wasClosed = true →
    (contAt s k).aux = false → elapsed s (contAt s k).auxSince (msNs s.cfg.safety.closeMax) = true →
    Completes (exec (.contDropped k) s) fun t => (contAt t k).state = 4 ∧ Demanded 10 0x0A23 2 false s t) ∧
  (∀ (s : State) (k : Nat), k < 3 → (contAt s k).coil = true → (contAt s k).state = 1 →
    elapsed s (contAt s k).since (msNs (nth 20 s.cfg.safety.coilPull k)) = true →
    Completes (exec (.coilPullInEnd k) s) fun t => contAt t k = { contAt s k with state := 2, badFrames := 0 } ∧ Frame [.cont] s t) ∧
  (∀ (s : State) (k : Nat) (ma : Int), k < 3 → sfRuns s = true → (contAt s k).state = 2 → 10 ≤ (contAt s k).badFrames →
    Completes (exec (.coilCurrentFault k ma) s) fun t => (contAt t k).state = 4 ∧ (contAt t k).coilMa = (contAt s k).coilMa ∧ Demanded 10 0x0A24 1 false s t)

/-- R35, R389, R390: 50 ms of the precharge contactor alone start main −, or show it welded; no window in time asks for the opening;
10 ms at zero current end STOPPING toward CLOSED, and open main + first toward STANDBY; STOPPING that lasts too long
decides FAULT with a cause that is active no longer. -/
def Obligations.PrechargeAndStopping : Prop :=
  (∀ s : State, s.cont.step = .p2 → sfRuns s = true → elapsed s s.cont.stepSince (msNs 50) = true → s.cont.peak ≤ 2000 →
    Completes (exec .prechargeHoldEnd s) fun t => t.cont.step = .p3 ∧ t.cont.stepSince = s.tick.now ∧ t.cont.c1.coil = true ∧
      t.cont.c0 = s.cont.c0 ∧ t.cont.c2 = s.cont.c2 ∧ Frame [.cont] s t) ∧
  (∀ s : State, s.cont.step = .p2 → sfRuns s = true → elapsed s s.cont.stepSince (msNs 50) = true → 2000 < s.cont.peak →
    Completes (exec .prechargeHoldEnd s) fun t => Demanded 10 0x0A20 2 true s t ∧ t.cont.c1.state = 4) ∧
  (∀ s : State, s.str.state = .precharge → s.cont.step = .p4 → elapsed s s.cont.stepSince (msNs s.cfg.safety.preTimeout) = true →
    Trigger.prechargeTimeout ∉ s.str.triggers →
    Completes (exec .prechargeTimeout s) fun t => t.str.triggers = s.str.triggers ++ [.prechargeTimeout] ∧ Frame [.str] s t) ∧
  (∀ (s : State) (t0 : Nat), s.cont.zeroSince = some t0 → s.str.state = .stopping → owning s = true → elapsed s t0 (msNs 10) = true →
    s.cont.opening = 0 → Trigger.stoppingDone ∉ s.str.triggers → s.str.stopTarget = some .closed →
    Completes (exec .stoppingZeroCurrent s) fun t => t.str.triggers = s.str.triggers ++ [.stoppingDone] ∧ t.cont = s.cont) ∧
  (∀ (s : State) (t0 : Nat), s.cont.zeroSince = some t0 → s.str.state = .stopping → owning s = true → elapsed s t0 (msNs 10) = true →
    s.cont.opening = 0 → Trigger.stoppingDone ∉ s.str.triggers → s.str.stopTarget = some .standby →
    Completes (exec .stoppingZeroCurrent s) fun t => t.cont.opening = 1 ∧ t.cont.c0.coil = false ∧ t.cont.c2.coil = false ∧
      t.cont.c1 = s.cont.c1 ∧ t.str = s.str) ∧
  (∀ s : State, s.str.state = .stopping → owning s = true → elapsed s s.str.entered (stopLimitNs s) = true →
    Completes (exec .stopTimeout s) fun t => t.str.state = .fault ∧ t.str.cause = 0x0AF2 ∧ t.prot.stop ≠ none ∧
      (∃ c ∈ t.str.causes, c.code = 0x0AF2) ∧ (∀ c ∈ t.str.causes, c.code = 0x0AF2 → c.active = false))


/-- R305 to R308, R313 to R316, R325, R327, R381: a comparator trip latches, turns every lit port to the fast SAFE_OFF and demands
SF_OC_FAST; the outer loop's output stays within the limits in force; a phase that has ramped down is disabled; one that
qualifies to return after over-temperature gets eight clearing frames; one gain word a tick goes to the three phase slots. -/
def Obligations.ConverterEvents : Prop :=
  (∀ (s : State) (cmp : Nat), cmp < 6 → metRuns s = true → nth true s.cnv.fastTrip cmp = false → s.prot.stop = none →
    Completes (exec (.fastComparatorTrip cmp) s) fun t => nth true t.cnv.fastTrip cmp = true ∧
      (∀ g ∈ t.pins.gate, g = .dark ∨ g = .fastSafeOff) ∧
      (sfRuns s = true → Demanded 4 0x0A04 (if s.prot.ocFastSeen = true then 2 else 0) false s t ∧ t.prot.ocFastSeen = true)) ∧
  (∀ s : State, s.tick.j = 1 → convWanted s = true → s.cnv.regulating = true → s.cnv.slot5On = false →
    max (slotAt s 3).live.yMin (-s.cnv.iLimit) ≤ min (slotAt s 3).live.yMax s.cnv.iLimit → 4 < s.cnv.slots.length → (slotAt s 3).live.mode ≠ 0 →
    Completes (exec .outerLoops s) fun t => max (slotAt s 3).live.yMin (-s.cnv.iLimit) ≤ t.cnv.y3Next ∧
      t.cnv.y3Next ≤ min (slotAt s 3).live.yMax s.cnv.iLimit ∧ (slotAt t 3).y = t.cnv.y3Next ∧ (slotAt t 3).live = (slotAt s 3).live ∧
      Frame [.cnv, .dsp] s t) ∧
  (∀ s : State, s.tick.j = 1 → convWanted s = true → s.cnv.regulating = true → s.cnv.slot5On = false → (slotAt s 3).live.mode = 0 →
    Completes (exec .outerLoops s) fun t => t.cnv.y3Next = 0) ∧
  (∀ (s : State) (k : Nat), (phaseAt s k).st = .rampDown → 20 ≤ (phaseAt s k).lowTicks → k < s.cnv.phases.length →
    Completes (exec (.phaseRampDownComplete k) s) fun t => (phaseAt t k).st = .disabled ∧ (phaseAt t k).ref = 0 ∧
      (∀ i, i ≠ k → phaseAt t i = phaseAt s i) ∧ (∀ i, i ≠ k → slotAt t i = slotAt s i) ∧ Frame [.cnv] s t) ∧
  (∀ (s : State) (k t0 : Nat), k < 3 → k < s.cnv.phases.length → 2 * k + 1 < s.cnv.ports.length → convWanted s = true →
    regulatingState s.str.state = true → (phaseAt s k).clrLeft = 0 → (phaseAt s k).st = .disabled → (phaseAt s k).byOt = true →
    (phaseAt s k).readySince = some t0 → elapsed s t0 (secNs s.cfg.conv.otReenable) = true →
    Completes (exec (.phaseReenable k) s) fun t => (phaseAt t k).clrLeft = 8 ∧ (phaseAt t k).clrClean = true ∧
      (portAt t (2 * k)).clrLeft = 8 ∧ (portAt t (2 * k + 1)).clrLeft = 8 ∧ (phaseAt t k).st = .disabled ∧ Frame [.cnv] s t) ∧
  (∀ (s : State) (w : Nat × Int × Nat) (rest : List (Nat × Int × Nat)), isSp s = false → s.cnv.schedQueue = w :: rest → s.cnv.schedAt ≠ some s.tick.now → s.cnv.schedWait = none → 2 < s.cnv.slots.length →
    Completes (exec .schedCoefWrite s) fun t => t.cnv.schedQueue = rest ∧ t.cnv.schedAt = some s.tick.now ∧ t.cnv.schedCnt = satInc 32 s.cnv.schedCnt ∧
      (∀ i < 3, (slotAt t i).live = schedPut w (slotAt s i).live) ∧ (∀ i, 3 ≤ i → slotAt t i = slotAt s i) ∧ Frame [.cnv] s t)

/-- R157, R159, R162, R164, R170, R171: ten frames of disagreement put the references under judgement; a reference that does not settle in
2 ms is a module fault; a channel that has settled is valid again; overrange makes the charge uncertain and its end settles
anew; a current disagreement without a referee decides FAULT, and with one fails the channel that departs. -/
def Obligations.ReferencesAndChannels : Prop :=
  (∀ s : State, 10 ≤ s.met.refBadFrames → s.met.refSuspect = false →
    Completes (exec .refDisagree s) fun t => t.met = { s.met with refSuspect := true } ∧ Frame ([.met] ++ recordParts) s t) ∧
  (∀ s : State, s.met.refSettled = false → metStarted s = true →
    Completes (exec .refSettled s) fun t => t.met.refSettled = true ∧ (∀ c ∈ t.met.ds, c.waitRef = false) ∧ Frame [.met] s t) ∧
  (∀ s : State, s.met.refSettled = false → metStarted s = true → elapsed s s.met.refSwitchedAt (msNs 2) = true →
    (∀ c ∈ s.str.causes, c.code = 0x0304 → c.active = false) → s.pair.localFault = false →
    Completes (exec .refSettleTimeout s) fun t => ModuleFaulted 0x0304 1 s t) ∧
  (∀ (s : State) (ch : Nat), (dsAt s ch).settling = true → (dsAt s ch).waitRef = false → (dsAt s ch).settle = 0 → ch < s.met.ds.length →
    Completes (exec (.settlingEnd ch) s) fun t =>
      dsAt t ch = { dsAt s ch with settling := false, valid := !(dsAt s ch).failed } ∧ (∀ i, i ≠ ch → dsAt t i = dsAt s i) ∧ Frame [.met] s t) ∧
  (∀ (s : State) (ch : Nat), metRuns s = true → ch < 8 → ch < s.met.ds.length → (dsAt s ch).overrange = false →
    Completes (exec (.dsOverrange ch) s) fun t => (dsAt t ch).overrange = true ∧ (dsAt t ch).valid = (dsAt s ch).valid ∧
      t.met.uncertain = (s.met.uncertain || decide (ch < 2)) ∧ Frame ([.met] ++ recordParts) s t) ∧
  (∀ (s : State) (ch : Nat), (dsAt s ch).overrange = true → ch < s.met.ds.length →
    Completes (exec (.dsOverrangeEnd ch) s) fun t => (dsAt t ch).overrange = false ∧ (dsAt t ch).settling = true ∧ (dsAt t ch).valid = false ∧
      (dsAt t ch).settle = (dsAt s ch).sincN + (dsAt s ch).postL ∧ Frame [.met] s t) ∧
  (∀ s : State, 100 ≤ s.met.disagree → s.met.crossDecided = false → (dsAt s 0).failed = false → (dsAt s 1).failed = false →
    regulatingState s.str.state = false →
    Completes (exec .currentChDisagree s) fun t => HardwareFaulted 0x030B 0 s t) ∧
  (∀ (s : State) (a b : Rat), 100 ≤ s.met.disagree → s.met.crossDecided = false → (dsAt s 0).failed = false → (dsAt s 1).failed = false →
    regulatingState s.str.state = true → dsMeanMa s 0 = some a → dsMeanMa s 1 = some b → 1 < s.met.ds.length →
    absR (a - refereeMa s) ≤ maxR 5000 (absR (refereeMa s) * 3 / 100) → maxR 5000 (absR (refereeMa s) * 3 / 100) < absR (b - refereeMa s) →
    Completes (exec .currentChDisagree s) fun t => (dsAt t 1).failed = true ∧ (dsAt t 0).failed = false ∧ nth true t.prot.twilight 0 = true ∧
      t.met.coulomb = s.met.coulomb ∧ t.str.state = s.str.state) ∧
  (∀ (s : State) (a b : Rat), 100 ≤ s.met.disagree → s.met.crossDecided = false → (dsAt s 0).failed = false → (dsAt s 1).failed = false →
    regulatingState s.str.state = true → dsMeanMa s 0 = some a → dsMeanMa s 1 = some b → 1 < s.met.ds.length →
    absR (b - refereeMa s) ≤ maxR 5000 (absR (refereeMa s) * 3 / 100) → maxR 5000 (absR (refereeMa s) * 3 / 100) < absR (a - refereeMa s) →
    Completes (exec .currentChDisagree s) fun t => (dsAt t 0).failed = true ∧ t.met.srcDs1 = true ∧ t.met.rewritten = true ∧
      t.met.coulomb = s.met.atDisagree + (s.met.c1.q - s.met.ds1AtDisagree))

/-- R172, R173, R176 to R179, R186, R187: a dwell of the spare channel that agrees moves it on; a passed injection test lets it stand in;
a SAR trigger of the configured kind starts its sequence or waits, and is an overrun where one waits; a sequence ends with its
averaged results; a capture publishes its count and gaps; a quiet capture of zero waits for the span, and one of the span writes
coefficients within their windows for the next Dawn, a noisy one is repeated; an unresumed calibration ends. -/
def Obligations.SpareCapturesCalibration : Prop :=
  (∀ (s : State) (ch : Nat) (x y : Int), s.met.ds7 = .shadowing ch → metRuns s = true → elapsed s s.met.dwellSince (secNs 10) = true →
    capturing s 7 = false → 0 < s.met.dwellN →
    absR ((s.met.dwellCh - s.met.dwell7 : Int) / (s.met.dwellN : Rat)) ≤ (if ch = 6 then 8388608 / 5000 else 8388608 / 1000 : Rat) →
    Completes (exec (.ds7DwellEnd x y) s) fun t => t.met.ds7 = .shadowing (ds7Next ch) ∧ t.met.dwellSince = s.tick.now ∧ t.met.dwellN = 0 ∧
      t.met.deviations = setAt s.met.deviations (ch - 2) 0 ∧ (7 < s.met.ds.length → (dsAt t 7).settling = true) ∧ Frame [.met] s t) ∧
  (∀ (s : State) (ch : Nat) (x y : Int), s.met.ds7 = .shadowing ch → metRuns s = true → elapsed s s.met.dwellSince (secNs 10) = true →
    capturing s 7 = false → 0 < s.met.dwellN → nth 0 s.met.deviations (ch - 2) = 2 →
    (if ch = 6 then 8388608 / 5000 else 8388608 / 1000 : Rat) < absR ((s.met.dwellCh - s.met.dwell7 : Int) / (s.met.dwellN : Rat)) →
    Completes (exec (.ds7DwellEnd x y) s) fun t => t.met.ds7 = .injecting ch ∧ t.met.dwellSince = s.tick.now) ∧
  (∀ (s : State) (ch : Nat), s.met.ds7 = .injecting ch → ch < 7 → ch < s.met.ds.length →
    Completes (exec (.ds7InjectionTestDone true) s) fun t => t.met.ds7 = .substituting ch ∧ (dsAt t ch).failed = true ∧
      (dsAt t ch).substituted = true) ∧
  (∀ (s : State) (ch : Nat), s.met.ds7 = .injecting ch → Completes (exec (.ds7InjectionTestDone false) s) fun t => t.met.ds7 = .failed) ∧
  (∀ (s : State) (ch kind n : Nat), metRuns s = true → ch < 4 → ch < s.met.sar.length → seqLen s ch ≠ 0 → (nth {} s.cfg.conv.sar ch).trig = kind →
    trigAt kind (nth {} s.cfg.conv.sar ch).period n = true → n < tickLen s → (sarAt s ch).busy = false → (sarAt s ch).pending = false →
    Completes (exec (.sarTrigger ({ ch := ch, kind := kind }) n) s) fun t => (sarAt t ch).busy = seqFits (max 400 n) (seqLen s ch) s ∧
      (sarAt t ch).pending = !(seqFits (max 400 n) (seqLen s ch) s) ∧ Frame [.met] s t) ∧
  (∀ (s : State) (ch kind n : Nat), metRuns s = true → ch < 4 → ch < s.met.sar.length → seqLen s ch ≠ 0 → (nth {} s.cfg.conv.sar ch).trig = kind →
    trigAt kind (nth {} s.cfg.conv.sar ch).period n = true → n < tickLen s → (sarAt s ch).pending = true →
    Completes (exec (.sarTrigger ({ ch := ch, kind := kind }) n) s) fun t => (sarAt t ch).overruns = min ((sarAt s ch).overruns + 1) 0xFFFE) ∧
  (∀ (s : State) (ch : Nat) (raw : List (List Int)), (sarAt s ch).busy = true → ch < s.met.sar.length →
    Completes (exec (.sarSequenceDone ({ ch := ch, raw := raw })) s) fun t => (sarAt t ch).results = seqResults raw ch s ∧
      ((sarAt s ch).pending = false → (sarAt t ch).busy = false ∧ (sarAt t ch).pending = false) ∧
      ((sarAt s ch).pending = true → (sarAt t ch).busy = seqFits (sarAt s ch).seqEnd (seqLen s ch) s)) ∧
  (∀ (s : State) (l : List Int) (gaps : List Nat), s.host.capture.running = true →
    Completes (exec (.captureComplete l gaps) s) fun t => t.host.capture.running = false ∧ t.host.capture.ready = true ∧
      t.host.capture.seq = s.host.capture.seq + 1 ∧ t.host.capture.samples = some (captureSamples s.host.capture l).length ∧
      t.host.capture.gapAt = gaps.filter (· ≤ (captureSamples s.host.capture l).length) ∧ (∀ c ∈ t.met.sar, c.paired = false)) ∧
  (∀ (s : State) (c : SysCal) (x y : Int), s.met.sysCal = some c → c.step = 3 → c.spanPhase = false → 2000 ≤ c.n → c.sigmaNv ≤ calNoise2 c.index →
    Completes (exec (.sysCalCaptureDone x y) s) fun t => t.met.sysCal = some { c with
      sigma := some (roundAway c.sigmaNv).toNat, step := 2, spanPhase := true, repeats := 0, z := some c.mean, since := s.tick.now } ∧
      (∀ o ∈ t.ops.ops, o.kind = 2 → o.opState ≠ 0) ∧ t.idn = s.idn) ∧
  (∀ (s : State) (c : SysCal) (o g x y : Int), s.met.sysCal = some c → c.step = 3 → c.spanPhase = true → 2000 ≤ c.n →
    c.sigmaNv ≤ calNoise2 c.index → calCoefs c (c.z.getD 0) c.mean = some (o, g) → calPasses c.index o g = true →
    Completes (exec (.sysCalCaptureDone x y) s) fun t => t.met.sysCal = none ∧ findOp t 2 = none ∧ t.met.cal = s.met.cal ∧
      t.idn.calNext = setAt s.idn.calNext c.index { offset := o, gain := g.toNat, present := true, made := some s.tb.time }) ∧
  (∀ (s : State) (c : SysCal) (x y : Int), s.met.sysCal = some c → c.step = 3 → 2000 ≤ c.n → (calNoise2 c.index : Rat) < c.sigmaNv → c.repeats < 3 →
    Completes (exec (.sysCalCaptureDone x y) s) fun t => t.met.sysCal = some { c with
      sigma := some (roundAway c.sigmaNv).toNat, repeats := c.repeats + 1, n := 0, sum := 0, sumSq := 0 } ∧ t.idn = s.idn) ∧
  (∀ (s : State) (c : SysCal), s.met.sysCal = some c → c.step ≠ 3 → elapsed s c.since (secNs 1800) = true →
    Completes (exec .sysCalSuspendTimeout s) fun t => t.met.sysCal = none ∧ t.met.frozen = none ∧ findOp t 2 = none ∧ t.idn = s.idn)

/-- R101, R181 to R183, R516, R517: a housekeeping round runs at tick 5 of frame 0 of each tenth cycle; at its end the readings, the
supplies and the die temperatures are published; the auxiliary power, which has no formula, is some value. -/
def Obligations.Housekeeping : Prop :=
  (∀ s : State, metRuns s = true → s.tick.c % 10 = 0 → s.tick.f = 0 → s.tick.j = 5 →
    Completes (exec .housekeepingRoundStart s) fun t => t.met = { s.met with hkRunning := true } ∧ Frame [.met] s t) ∧
  (∀ (s : State) (raw : List Nat) (die : List Int), s.met.hkRunning = true → s.tick.f = 3 → s.met.refSuspect = false →
    departure raw 31 s.idn.hkVrefC ≤ 3 / 1000 →
    Completes (exec (.housekeepingRoundComplete raw die) s) fun t => t.met.hkRunning = false ∧
      t.met.hkRaw = ((List.range 32).map fun i => some (nth 0 raw i % 4096)) ∧
      t.pwr.auxVoltage = some (ratN 16 (hkVolt raw 12 * 5000)) ∧ t.pwr.holdupVoltage = some (ratN 16 (hkVolt raw 13 * 3000)) ∧
      t.pwr.holdupReady = decide (46 ≤ hkVolt raw 13 * 30) ∧ (∃ x, t.pwr.auxPower = some x) ∧
      t.hlth.die = (die.take 7).map some ∧ t.str.state = s.str.state)


/-- R334, R335, R340, R343 to R345: outside its states dispatch gives 0 mA and no bounds; in them the bounds are the applied envelope
and, without an excitation, the reference lies within them; a set-point too old is replaced by 0 mA. -/
def Obligations.DispatchReference : Prop :=
  (∀ s : State, dispRuns s = false → coresRun s = true → 2 ≤ s.tick.j → s.tick.j ≤ 15 →
    Completes (exec .limitsAndDispatch s) fun t => t.dsp.ref = 0 ∧ t.dsp.boundLo = 0 ∧ t.dsp.boundHi = 0 ∧ t.dsp.active = false ∧
      Frame [.dsp] s t) ∧
  (∀ s : State, dispRuns s = true → coresRun s = true → 2 ≤ s.tick.j → s.tick.j ≤ 15 →
    Completes (exec .limitsAndDispatch s) fun t => t.dsp.active = true ∧ t.dsp.boundLo = -t.dsp.appDis ∧ t.dsp.boundHi = t.dsp.appChg ∧
      t.dsp.target = (if s.str.state = .stopping then 0 else s.dsp.target) ∧
      (t.dsp.zConfined = false → t.dsp.boundLo ≤ t.dsp.boundHi → t.dsp.boundLo ≤ t.dsp.ref ∧ t.dsp.ref ≤ t.dsp.boundHi)) ∧
  (∀ s : State, 0 < s.cfg.disp.spHoldMax → s.dsp.spTimeout = false → 1000 * s.cfg.disp.spHoldMax ≤ s.dsp.spHold →
    (s.str.state = .run ∨ s.str.state = .twilight) → owning s = true →
    Completes (exec .setpointTimeout s) fun t => t.dsp = { s.dsp with target := 0, spTimeout := true } ∧ Frame ([.dsp] ++ recordParts) s t)

/-- R231, R233, R239: the solver takes each drop bank once, keeps its time, numbers its solutions and counts each position once. A bank
it has solved, or one that comes to a standby module, is released and nothing else. -/
def Obligations.ShareSolution : Prop :=
  (∀ (s : State) (b : Bank) (l : List (Nat × Int)), s.tab.drop.heldBy rdShare = some b → isSp s = false → s.est.mode ≠ .noString →
    coresRun s = true → geoS s ≠ 0 → s.tab.solvedBank ≠ b.seq →
    Completes (exec (.shareSolve l) s) fun t => t.tab.solvedBank = b.seq ∧ t.tab.solveTime = some b.time ∧
      t.tab.solveSeq = some (match s.tab.solveSeq with | none => 0 | some x => (x + 1) % 65536) ∧
      t.tab.counted = satAdd 32 s.tab.counted (((List.range (geoP s)).map (solveClass s b)).filter (· = 0)).length ∧
      t.tab.volt = s.tab.volt ∧ t.tab.temp = s.tab.temp) ∧
  (∀ (s : State) (b : Bank) (l : List (Nat × Int)), s.tab.drop.heldBy rdShare = some b → coresRun s = true → (isSp s = true ∨ s.tab.solvedBank = b.seq) →
    Completes (exec (.shareSolve l) s) fun t => t.tab = { s.tab with drop := s.tab.drop.release rdShare } ∧ Frame [.tab] s t)

/-- R363, R365 to R368, R399, R468: in tick 3, in their states the thermal loops run, in SERVICE every configured output holds its FAILSAFE; a flow lost
for 5 s or a leak of 1 s raises Twilight bit 7, and the bit clears with the last of them; chiller requests are numbered and go
to mailbox 1, a new status is kept, and silence marks the chiller lost. -/
def Obligations.ThermalControl : Prop :=
  (∀ (s : State) (di : List Bool) (flow : List Nat), coresRun s = true → s.tick.j = 3 → thermalRuns s = true →
    Completes (exec (.thermalLoops di flow) s) fun t => t.thm.loopsRun = true ∧ t.thm.serviceHold = false ∧
      t.thm.coolSet = some (coolSet (takeDi di flow s)) ∧ t.thm.heatReq = heatReq (takeDi di flow s) ∧ t.str = s.str) ∧
  (∀ (s : State) (di : List Bool) (flow : List Nat), coresRun s = true → s.tick.j = 3 → s.str.state = .service → s.cfg.therm.present = true →
    s.dawn.fail = 0 → isSp s = false →
    s.thm.slots.length = 10 →
    Completes (exec (.thermalLoops di flow) s) fun t => t.thm.loopsRun = false ∧ t.thm.serviceHold = true ∧
      (∀ k < 10, (nth {} s.cfg.therm.slots k).mode ≠ 0 → (nth {} t.thm.slots k).out = (nth {} s.cfg.therm.ext k).failsafe ∧
        (nth {} t.thm.slots k).failsafe = true)) ∧
  (∀ (s : State) (di : List Bool) (flow : List Nat), coresRun s = true → s.tick.j = 3 → thermalRuns s = false → s.str.state ≠ .service →
    Completes (exec (.thermalLoops di flow) s) fun t => t.thm.loopsRun = false ∧ t.thm.pwm = [0, 0, 0, 0] ∧ t.thm.ao = [0, 0] ∧
      t.thm.aoHiZ = isSp s ∧ t.thm.demand = 0) ∧
  (∀ (s : State) (di : Nat), di < 4 → di < s.thm.di.length → isSp s = false → coresRun s = true → diIsFlow s di = true → (nth {} s.thm.di di).flowLost = false →
    heldFor s (nth {} s.thm.di di).badSince (secNs 5) = true →
    Completes (exec (.flowLost di) s) fun t => (nth {} t.thm.di di).flowLost = true ∧ nth true t.prot.twilight 7 = true) ∧
  (∀ (s : State) (di : Nat), isSp s = false → (nth {} s.thm.di di).flowLost = true → heldFor s (nth {} s.thm.di di).goodSince (secNs 30) = true →
    Completes (exec (.flowRestored di) s) fun t => (nth {} t.thm.di di).flowLost = false ∧
      ((∀ d ∈ t.thm.di, d.flowLost = false ∧ d.leak = false) → nth false t.prot.twilight 7 = false)) ∧
  (∀ (s : State) (di : Nat), di < 4 → di < s.thm.di.length → isSp s = false → coresRun s = true → nth 0 s.cfg.therm.diMode di = 3 → (nth {} s.thm.di di).leak = false →
    heldFor s (nth {} s.thm.di di).badSince (secNs 1) = true →
    Completes (exec (.leakDetected di) s) fun t => (nth {} t.thm.di di).leak = true ∧ nth true t.prot.twilight 7 = true ∧
      (thermalRuns s = true → ∀ k < 10, k < s.thm.slots.length → (nth {} s.cfg.therm.slots k).mode ≠ 0 → flowSlot (nth {} s.cfg.therm.slots k) = true →
        (nth {} t.thm.slots k).out = (nth {} s.cfg.therm.ext k).failsafe)) ∧
  (∀ (s : State) (di : Nat), isSp s = false → (nth {} s.thm.di di).leak = true → heldFor s (nth {} s.thm.di di).goodSince (secNs 60) = true →
    Completes (exec (.leakCleared di) s) fun t => (nth {} t.thm.di di).leak = false ∧
      ((∀ d ∈ t.thm.di, d.flowLost = false ∧ d.leak = false) → nth false t.prot.twilight 7 = false)) ∧
  (∀ s : State, chillerOn s = true → elapsed s s.thm.chReqAt (msNs s.cfg.therm.chPeriod) = true →
    Completes (exec .chillerRequest s) fun t => t.thm.chSeq = (s.thm.chSeq + 1) % 256 ∧ t.thm.chReqAt = s.tick.now ∧
      ((canAt s s.cfg.can.chPort).running = true → 1 < (canAt s s.cfg.can.chPort).mbs.length → s.cfg.can.chPort < 2 →
        (nth {} (canAt s s.cfg.can.chPort).mbs 1).st ≠ .active → (nth {} (canAt t s.cfg.can.chPort).mbs 1).id = s.cfg.can.chReqId ∧
        (nth {} (canAt t s.cfg.can.chPort).mbs 1).data = i16 s.thm.demand ++ i16 (optI 16 s.thm.coolSet) ++
          u8 (bitsOf [mainsClosed s, leakNow s, s.prot.fireIn.active, s.thm.slots.any (·.failsafe), s.thm.heatReq]) ++
          u8 ((s.thm.chSeq + 1) % 256) ++ u16 0) ∧
      canAt t (1 - s.cfg.can.chPort) = canAt s (1 - s.cfg.can.chPort) ∧ Frame [.thm, .can] s t) ∧
  (∀ (s : State) (p : Packet) (l : List Packet), (ringAt s (24 + s.cfg.can.chPort)).pkts = p :: l → chillerOn s = true →
    s.thm.chsSeq ≠ some (getN (p.bytes.drop 4) 5 1) →
    Completes (exec .chillerStatusReceived s) fun t => t.thm.chsSeq = some (getN (p.bytes.drop 4) 5 1) ∧
      t.thm.chTSupply = some (getI (p.bytes.drop 4) 0 2) ∧ t.thm.chFlags = getN (p.bytes.drop 4) 4 1 ∧ t.thm.chAt = s.tick.now ∧
      t.thm.chLost = false ∧ t.thm.chFault = bitAt (getN (p.bytes.drop 4) 4 1) 1) ∧
  (∀ s : State, chillerOn s = true → s.thm.chLost = false → elapsed s s.thm.chAt (msNs s.cfg.therm.chTimeout) = true →
    Completes (exec .chillerLost s) fun t => t.thm.chLost = true ∧ Frame ([.thm] ++ recordParts) s t)

/-- R54, R402 to R404, R378: the end of a good half-period gives the step's resistance, held between 10 kΩ and 10 MΩ; a second result in a row below
ISO_ALARM demands SF_ISO; a bad injector read-back, an old result or an open PE connection makes the reading invalid and opens IMD_OK;
with the string connected the split of the poles is measured each second from the means since the one before, and without it no passive
reading stands. -/
def Obligations.InsulationMonitor : Prop :=
  (∀ (s : State) (x inj : Int), sfRuns s = true → running s = true → s.iso.injecting = true →
    elapsed s s.iso.halfSince (msNs s.iso.half) = true → s.iso.invalid = false →
    Completes (exec (.isoHalfPeriodEnd x inj false) s) fun t => t.iso.valid = false ∧ t.iso.invalid = true ∧ t.prot.imdOk = false ∧
      t.iso.lastAsym = none ∧ t.iso.words = [] ∧ nth true t.prot.twilight 12 = true) ∧
  (∀ (s : State) (x inj : Int) (f : IsoFit) (a0 w : Rat), sfRuns s = true → running s = true → s.iso.injecting = true →
    elapsed s s.iso.halfSince (msNs s.iso.half) = true → heldLong s s.iso.dsHeld 1000 = false → (dsAt s 5).failed = false →
    isoFit s.iso.words.reverse = some f → s.iso.lastAsym = some a0 → s.iso.lastInj = some w →
    f.resid ≤ absR ((inj : Rat) / 1000 - w) * 2 / 100 → s.iso.test = none → s.iso.peOpen = false →
    s.cfg.safety.isoAlarm ≤ (roundAway (clampR 10 10000 ((isoRes s (f.asym - a0) ((inj : Rat) / 1000 - w)).getD 10001))).toNat →
    Completes (exec (.isoHalfPeriodEnd x inj true) s) fun t => t.iso.lastAsym = some f.asym ∧ t.iso.lastInj = some ((inj : Rat) / 1000) ∧
      t.iso.r = some (roundAway (clampR 10 10000 ((isoRes s (f.asym - a0) ((inj : Rat) / 1000 - w)).getD 10001))).toNat ∧
      t.iso.valid = true ∧ t.iso.resultAt = some s.tick.now ∧ t.iso.halfSince = s.tick.now ∧ t.iso.lowRun = 0 ∧ t.str.state = s.str.state) ∧
  (∀ (s : State) (x inj : Int) (f : IsoFit) (a0 w : Rat), sfRuns s = true → running s = true → s.iso.injecting = true →
    elapsed s s.iso.halfSince (msNs s.iso.half) = true → heldLong s s.iso.dsHeld 1000 = false → (dsAt s 5).failed = false →
    isoFit s.iso.words.reverse = some f → s.iso.lastAsym = some a0 → s.iso.lastInj = some w →
    f.resid ≤ absR ((inj : Rat) / 1000 - w) * 2 / 100 → s.iso.test = none → s.iso.peOpen = false →
    (roundAway (clampR 10 10000 ((isoRes s (f.asym - a0) ((inj : Rat) / 1000 - w)).getD 10001))).toNat < s.cfg.safety.isoAlarm →
    0 < s.iso.lowRun → s.iso.alarm = false → s.cfg.safety.isoAction = 1 →
    Completes (exec (.isoHalfPeriodEnd x inj true) s) fun t => Demanded 6 0x0A42 0 true s t ∧ t.iso.alarm = true ∧ t.prot.imdOk = false) ∧
  (∀ (s : State) (x y : Int) (a rp : Rat), sfRuns s = true → running s = true → bothClosed s = true → elapsed s s.iso.splitSince (secNs 1) = true →
    s.iso.splitN ≠ 0 → 10000 ≤ absR (dsVolt ((s.iso.splitStr : Rat) / s.iso.splitN)) → (dsAt s 4).failed = false → s.iso.peOpen = false →
    a = (s.iso.splitPos : Rat) / s.iso.splitStr → 0 < a → a < 1 → s.iso.rp = some rp → s.iso.lastSplit = none →
    Completes (exec (.isoPassiveMeasurement x y) s) fun t => t.iso.passive = true ∧ t.iso.lastSplit = some a ∧
      t.iso.rPos = some (snap (rp / (1 - a))) ∧ t.iso.rNeg = some (snap (rp / a)) ∧ t.iso.splitN = 0 ∧ t.iso.splitSince = s.tick.now ∧
      Frame [.iso] s t) ∧
  (∀ (s : State) (x y : Int), bothClosed s = false → elapsed s s.iso.splitSince (secNs 1) = true →
    Completes (exec (.isoPassiveMeasurement x y) s) fun t => t.iso.passive = false ∧ t.iso.lastSplit = none ∧ Frame [.iso] s t) ∧
  (∀ s : State, sfRuns s = true → running s = true → s.iso.invalid = false → elapsed s (s.iso.resultAt.getD s.iso.since) (msNs (isoAgeMax s)) = true →
    Completes (exec .isoInvalid s) fun t => t.iso.valid = false ∧ t.iso.invalid = true ∧ t.prot.imdOk = false ∧ nth true t.prot.twilight 12 = true) ∧
  (∀ s : State, running s = true →
    Completes (exec .isoSlotBoundary s) fun t => t.iso.injecting = (sfRuns s && (!(bothClosed s) || isoSlotActive s)) ∧ Frame [.iso] s t) ∧
  (∀ (s : State) (r : Nat), running s = true → s.iso.peOpen = false → 10000 < r →
    Completes (exec (.peCheck r) s) fun t => t.iso.peOpen = true ∧ t.iso.valid = false ∧ t.iso.passive = false ∧ t.prot.imdOk = false ∧ t.str = s.str) ∧
  (∀ (s : State) (r : Nat), running s = true → r ≤ 10000 →
    Completes (exec (.peCheck r) s) fun t => t.iso.peOpen = s.iso.peOpen ∧ Frame [.iso] s t) ∧
  (∀ (s : State) (t0 : Nat), s.iso.peGoodSince = some t0 → s.iso.peOpen = true → running s = true → elapsed s t0 (secNs 1) = true →
    Completes (exec .peOpenCleared s) fun t => t.iso = { s.iso with peOpen := false } ∧ Frame [.iso] s t)

/-- R81, R128, R129, R133, R142, R146, R147: a step that ends well starts the next, the last asks for STANDBY; a failed check or a step over
its budget ends Dawn in FAULT with its cause latched; the lamp test lasts 500 ms. -/
def Obligations.DawnSteps : Prop :=
  (∀ (s : State) (d : DawnIn), dawnRuns s = true → s.dawn.step = some 1 → d.badRows = [] →
    Completes (exec (.dawnStepEnd d) s) fun t => t.dawn.step = some 2 ∧ t.dawn.stepSince = s.tick.now ∧ Frame [.dawn] s t) ∧
  (∀ (s : State) (d : DawnIn), dawnRuns s = true → s.dawn.step = some 8 → s.str.role = some .solo → s.cfg.safety.pair = false →
    Completes (exec (.dawnStepEnd d) s) fun t => t.dawn.step = some 9 ∧ t.str.role = some .solo ∧ Frame [.dawn] s t) ∧
  (∀ (s : State) (d : DawnIn), dawnRuns s = true → s.dawn.step = some 6 → d.refSettled = false →
    Completes (exec (.dawnStepEnd d) s) fun t => t.dawn.step = none ∧ t.dawn.fail = 0x0304 ∧ t.str.state = .fault ∧ t.str.cause = 0x0304 ∧
      Latched 0x0304 1 t) ∧
  (∀ (s : State) (d : DawnIn) (n : Nat), dawnRuns s = true → s.dawn.step = some 5 →
    (judgeSeal (judgeImage d.plugDet d.plugAck d.image (some d.reread)) d.seals).fail = some n →
    Completes (exec (.dawnStepEnd d) s) fun t => t.dawn.step = none ∧ t.dawn.fail = checkCode n ∧ t.str.state = .fault ∧
      t.str.cause = checkCode n ∧ Latched (checkCode n) 2 t) ∧
  (∀ (s : State) (d : DawnIn) (c : Nat), dawnRuns s = true → s.dawn.step = some 11 → d.holdupCap = some c → 1350 ≤ c → d.holdupReady = true →
    s.idn.class2 = [] →
    Completes (exec (.dawnStepEnd d) s) fun t => t.dawn.step = none ∧ t.pwr.holdupReady = true ∧ t.pwr.holdupCap = some c ∧
      t.str.state = .dawn ∧ t.str.triggers = s.str.triggers ++ [.dawnDone]) ∧
  (∀ (s : State) (k : Nat), dawnRuns s = true → s.dawn.step = some k → k < 11 → elapsed s s.dawn.stepSince (msNs (dawnBudget k)) = true →
    Completes (exec .dawnStepTimeout s) fun t => t.dawn.step = none ∧ t.dawn.fail = 0x0110 ∧ t.str.state = .fault ∧ t.str.cause = 0x0110 ∧
      Latched 0x0110 1 t) ∧
  (∀ s : State, dawnRuns s = true → s.dawn.step = some 11 → s.pwr.holdupReady = false → elapsed s s.dawn.stepSince (msNs 1000) = true →
    Completes (exec .dawnStepTimeout s) fun t => t.dawn.fail = 0x0115 ∧ t.str.state = .fault ∧ t.str.cause = 0x0115 ∧ Latched 0x0115 1 t) ∧
  (∀ s : State, s.pins.lampTest = true → elapsed s 0 (msNs 500) = true →
    Completes (exec .lampTestEnd s) fun t => t.pins = { s.pins with lampTest := false } ∧ Frame [.pins] s t)

/-- R194 to R203, R206, R214 to R216: the frame whose turn it is leaves where its path still fits, numbered by its port; a bad frame that
comes back is counted, and one cut short leaves its launch to be timed out; a SYNC at the other port is noted, a DELAY round trip summed; a frame turned back, late, or a port without
carrier starts the search for the break; ten frames with both SYNCs heal the ring. -/
def Obligations.SkaleyLink : Prop :=
  (∀ (s : State) (port : Nat) (f : SklFrame) (rest : List SklFrame), runsRing s = true → sklNext s port = some (f, rest) →
    f.port = port → sklFits s f = true →
    Completes (exec (.skaleyFrameLaunch port) s) fun t => t.skl.queue = rest ∧
      t.skl.flight = s.skl.flight ++ [{ f with seq := if f.port = 0 then s.skl.seqA else s.skl.seqB, at_ := s.tick.now }] ∧
      (f.port = 0 → t.skl.seqA = (s.skl.seqA + 1) % 65536 ∧ t.skl.seqB = s.skl.seqB) ∧
      (f.port ≠ 0 → t.skl.seqB = (s.skl.seqB + 1) % 65536 ∧ t.skl.seqA = s.skl.seqA) ∧ (f.type_ = 6 → t.skl.lockinOn = true)) ∧
  (∀ (s : State) (port : Nat) (f : SklFrame) (rest : List SklFrame), sklNext s port = some (f, rest) →
    sklFits s f = false → Completes (exec (.skaleyFrameLaunch port) s) fun t => t = s) ∧
  (∀ (s : State) (ok : Bool) (rt : Nat) (b : Bytes), runsRing s = true → (ok = false ∨ sklFrameOk b = false) →
    Completes (exec (.skaleyFrameReturned 0 ok rt b) s) fun t => t.skl.crcA = satInc 32 s.skl.crcA ∧ t.skl.crcB = s.skl.crcB ∧
      (b.length < 12 ∨ b.length < 12 + getN b 6 2 → t.skl.flight = s.skl.flight ∧ Frame [.skl] s t)) ∧
  (∀ (s : State) (rt : Nat) (b : Bytes) (f : SklFrame) (rest : List SklFrame), runsRing s = true → sklFrameOk b = true →
    takeFirst (fun g => g.type_ = getN b 0 1 && g.seq = getN b 2 2 && g.port = if bitAt (getN b 1 1) 7 then 1 else 0) s.skl.flight = some (f, rest) →
    f.type_ = 1 → f.port = 0 → bitAt (getN b 1 1) 5 = false → s.skl.ring ≠ .down →
    Completes (exec (.skaleyFrameReturned 1 true rt b) s) fun t => t.skl = { s.skl with flight := rest, syncA := true } ∧ Frame [.skl] s t) ∧
  (∀ (s : State) (port rt : Nat) (b : Bytes) (f : SklFrame) (rest : List SklFrame), runsRing s = true → port < 2 → sklFrameOk b = true →
    takeFirst (fun g => g.type_ = getN b 0 1 && g.seq = getN b 2 2 && g.port = if bitAt (getN b 1 1) 7 then 1 else 0) s.skl.flight = some (f, rest) →
    f.type_ = 0x0B → f.port = 0 → f.dest < s.skl.mons.length →
    Completes (exec (.skaleyFrameReturned port true rt b) s) fun t => t.skl.flight = rest ∧
      (monAt t f.dest).rtA = (monAt s f.dest).rtA + rt ∧ (monAt t f.dest).rtAn = (monAt s f.dest).rtAn + 1 ∧
      ((monAt s f.dest).rtAn = 15 → (monAt t f.dest).delayA = some ((((monAt s f.dest).rtA + rt) / 16 - 800) / 2)) ∧ Frame ([.skl] ++ recordParts) s t) ∧
  (∀ (s : State) (port rt : Nat) (b : Bytes) (f : SklFrame) (rest : List SklFrame), runsRing s = true → port < 2 → sklFrameOk b = true →
    takeFirst (fun g => g.type_ = getN b 0 1 && g.seq = getN b 2 2 && g.port = if bitAt (getN b 1 1) 7 then 1 else 0) s.skl.flight = some (f, rest) →
    f.type_ ≠ 0x0B → bitAt (getN b 1 1) 5 = true → (s.skl.ring = .closed ∨ s.skl.ring = .down) → s.skl.probing = false → geoM s ≠ 0 →
    Completes (exec (.skaleyFrameReturned port true rt b) s) fun t => t.skl.probing = true ∧ t.skl.ring = s.skl.ring) ∧
  (∀ (s : State) (port : Nat) (f : SklFrame) (rest : List SklFrame), runsRing s = true → s.skl.probing = false → geoM s ≠ 0 →
    takeFirst (fun g => g.port = port && elapsed s g.at_ (lineNs g + 40000)) s.skl.flight = some (f, rest) →
    Completes (exec (.skaleyFrameTimeout port) s) fun t => t.skl.probing = true ∧ t.skl.flight = rest.filter (fun g => g.type_ = 1) ∧
      (f.type_ = 7 → f.dest < s.skl.mons.length → (monAt s f.dest).lockinFails + 1 ≤ (monAt t f.dest).lockinFails)) ∧
  (∀ s : State, runsRing s = true → geoM s ≠ 0 →
    Completes (exec (.skaleyCarrierLoss 0) s) fun t => t.skl.carrierA = false ∧ t.skl.carrierB = s.skl.carrierB ∧ t.skl.probing = true) ∧
  (∀ s : State, runsRing s = true → geoM s ≠ 0 →
    Completes (exec (.skaleyCarrierLoss 1) s) fun t => t.skl.carrierB = false ∧ t.skl.carrierA = s.skl.carrierA ∧ t.skl.probing = true) ∧
  (∀ s : State, s.skl.broken = true → 10 ≤ s.skl.syncRun + b2n (s.skl.syncA && s.skl.syncB) →
    Completes (exec .ringHealed s) fun t => t.skl.ring = .closed ∧ t.skl.broken = false ∧ t.skl.breakA = none ∧ t.skl.breakB = none ∧
      (∀ m < geoM s, (monAt t m).viaB = false) ∧ t.tab = s.tab)

/-- R208, R212, R213, R219, R378, R399: a position whose voltage is older than 25 ms is stale, with those of its monitor that are, and its
monitor, but for one that is REFUSED, is LOST; the first of a monitor demands SF_LINK. Older drops or temperatures turn stale and raise
Twilight bits 3 and 4, the temperatures become sentinels; an on-demand snapshot is accepted unless one runs. -/
def Obligations.SkaleyStaleness : Prop :=
  (∀ (s : State) (pos t0 : Nat), (nth {} s.tab.poss pos).vAt = some t0 → placeOf pos < s.skl.mons.length → runsRing s = true → pos < geoP s →
    (nth {} s.tab.poss pos).vStale = false → (monAt s (placeOf pos)).vStale = false → elapsed s t0 (msNs 25) = true →
    Completes (exec (.voltageStale pos) s) fun t => Demanded 8 0x0A08 0 false s t ∧ (monAt t (placeOf pos)).vStale = true ∧
      (monAt t (placeOf pos)).state = (if (monAt s (placeOf pos)).state = .refused then .refused else .lost) ∧
      (∀ p < s.tab.poss.length, placeOf p = placeOf pos → pastLimit s (nth {} s.tab.poss p).vAt (msNs 25) = true → (nth {} t.tab.poss p).vStale = true) ∧
      (∀ p, placeOf p ≠ placeOf pos → nth {} t.tab.poss p = nth {} s.tab.poss p)) ∧
  (∀ (s : State) (cell n t0 : Nat), n = geoS s → n ≠ 0 → (nth {} s.tab.cells cell).dAt = some t0 → runsRing s = true → cell < geoP s * n →
    (nth {} s.tab.cells cell).dropStale = false → cell < s.tab.cells.length → cell / n < s.tab.poss.length → elapsed s t0 (msNs 310) = true →
    Completes (exec (.dropStale cell) s) fun t => (nth {} t.tab.cells cell).dropStale = true ∧ (nth {} t.tab.poss (cell / n)).dropStale = true ∧
      (monAt t (placeOf (cell / n))).state = (monAt s (placeOf (cell / n))).state ∧ nth true t.prot.twilight 3 = true ∧ t.str.state = s.str.state) ∧
  (∀ (s : State) (i t0 : Nat), (nth {} s.tab.temps i).tAt = some t0 → (nth {} s.tab.temps i).fitted = true → runsRing s = true → i / 8 < geoP s →
    (nth {} s.tab.temps i).stale = false → i < s.tab.temps.length → elapsed s t0 (msNs 1510) = true →
    Completes (exec (.tempStale i) s) fun t => nth true t.prot.twilight 4 = true ∧ (nth {} t.tab.temps i).stale = true ∧
      (nth {} t.tab.temps i).valid = false ∧ (nth {} t.tab.temps i).band = none) ∧
  (∀ (s : State) (r : HostReq), s.skl.onDemand = none → runsRing s = true → geoM s ≠ 0 →
    Completes (exec (.onDemandSnapshotRequest r) s) fun t => Answered r r.code stOk [] s t ∧ t.skl.onDemand = some (65536, 0) ∧ t.skl.onDemandV = []) ∧
  (∀ (s : State) (r : HostReq) (x : Nat × Nat), s.skl.onDemand = some x →
    Completes (exec (.onDemandSnapshotRequest r) s) fun t => Answered r r.code stBusy [] s t ∧ t.skl = s.skl)

/-- R356 to R361: the schedule's currents are multiples of 50 mA, numbered, and wait for their instant; at the application instant the set takes effect,
inside a lock-in integration it is deferred; a silent monitor counts as 0 mA; a campaign that has run its time ends with
result 2. -/
def Obligations.BalancingCycle : Prop :=
  (∀ s : State, runsRing s = true → s.tick.c = 3 → 8 ≤ s.tick.f → s.tb.time % 1000000000 < 500000000 → geoP s ≠ 0 →
    Completes (exec .balSchedule s) fun t => t.bal.balId = (s.bal.balId + 1) % 65536 ∧ t.bal.waiting = true ∧ t.bal.answers = [] ∧ t.tab.volt = s.tab.volt.release rdBal ∧
      (∀ x ∈ t.bal.pos, x.next % 50 = 0) ∧ (balRuns s = false → ∀ x ∈ t.bal.pos, x.next = 0)) ∧
  (∀ s : State, runsRing s = true → s.tick.c % 10 = 5 → s.tick.f = 5 → lockinIntegrates s = false → s.bal.waiting = true →
    Completes (exec .balApplicationInstant s) fun t => t.bal.curId = s.bal.balId ∧ t.bal.waiting = false ∧ t.bal.deferred = false ∧
      t.bal.applyTime = some s.tb.time ∧
      (∀ p < s.bal.pos.length, nth false s.bal.monWatch (placeOf p) = true → (nth {} t.bal.pos p).cur = 0)) ∧
  (∀ s : State, runsRing s = true → s.tick.c % 10 = 5 → s.tick.f = 5 → lockinIntegrates s = true →
    Completes (exec .balApplicationInstant s) fun t => t.bal = { s.bal with deferred := true } ∧ Frame ([.bal] ++ recordParts) s t) ∧
  (∀ (s : State) (m : Nat), runsRing s = true → m < geoM s → (monAt s m).balAt ≠ 0 → nth false s.bal.monWatch m = false → m < s.bal.monWatch.length →
    elapsed s (monAt s m).balAt (msNs 2500) = true →
    Completes (exec (.balWatchdog m) s) fun t => nth false t.bal.monWatch m = true ∧ t.bal.watchdog = true ∧ t.bal.pos = s.bal.pos ∧
      Frame ([.bal] ++ recordParts) s t) ∧
  (∀ (s : State) (c : Campaign), s.bal.campaign = some c → c.suspended = false → secNs (60 * c.timeMax) ≤ campaignTime s c →
    Completes (exec .bcTimeMaxReached s) fun t => t.bal.campaign = none ∧ t.bal.result = 2 ∧ t.str = s.str)

/-- R284, R287 to R297: a block starts its excitation, or is skipped for want of headroom; its integration starts at START_FRAME and ends
after its length, again where the current moved; the points reduced replace those of its tones; an automatic sweep that is due
starts and falls due again a period later; an old internal temperature is dropped. -/
def Obligations.ImpedanceSweeps : Prop :=
  (∀ (s : State) (w : Sweep), s.imp.sweep = some w → w.st = 1 → w.startAt = 0 → w.notBefore ≤ s.tick.now → s.str.state = .run → isSp s = false → s.tick.j = 0 →
    s.skl.lockinOn = false → s.imp.exc = none → 2 * ampSum (sweepBlock s w).tones ≤ s.dsp.appChg + s.dsp.appDis → 3 ≤ enabledN s → w.keep = none →
    Completes (exec .impedanceBlockStart s) fun t => t.imp.plan = some w.plan ∧
      t.imp.exc = some { tones := (sweepBlock s w).tones, t0 := startFrameAt s (sweepBlock s w) none, since := s.tick.now } ∧
      t.imp.sweep = some { w with startAt := startFrameAt s (sweepBlock s w) none, lockSent := false, keep := none, srcChanged := false, dcMoved := 0 } ∧
      s.tick.now + 20000000 + settleNs (sweepBlock s w) ≤ startFrameAt s (sweepBlock s w) none ∧ Frame [.imp] s t) ∧
  (∀ (s : State) (w : Sweep), s.imp.sweep = some w → w.st = 1 → w.startAt = 0 → w.notBefore ≤ s.tick.now → s.str.state = .run → isSp s = false → s.tick.j = 0 →
    s.skl.lockinOn = false → s.imp.exc = none → w.keep = none → (s.dsp.appChg + s.dsp.appDis < 2 * ampSum (sweepBlock s w).tones ∨ enabledN s < 3) →
    Completes (exec .impedanceBlockStart s) fun t => t.imp.exc = none ∧ t.imp.skipCnt = satInc 32 s.imp.skipCnt ∧
      (∀ z ∈ t.imp.points, z.tone ∈ (sweepBlock s w).tones.map (·.1) → z.headroom = true ∧ z.valid = false)) ∧
  (∀ (s : State) (w : Sweep), isSp s = false → s.imp.sweep = some w → w.st = 1 → w.startAt ≠ 0 → w.startAt ≤ s.tick.now →
    Completes (exec .lockinIntegrationStart s) fun t => Frame [.imp] s t ∧
      t.imp.sweep = some { w with st := 2, dc0 := roundAway s.dsp.ref, dcMoved := 0, src0 := s.met.srcDs1, srcChanged := false }) ∧
  (∀ (s : State) (w : Sweep), isSp s = false → s.imp.sweep = some w → w.st = 2 → w.startAt + (sweepBlock s w).length * 50000 ≤ s.tick.now →
    (s.cfg.imp.dcStepMax * s.cfg.conv.iRated < w.dcMoved * 10000 ∨ w.srcChanged = true) → w.repeats < 2 →
    Completes (exec .lockinIntegrationEnd s) fun t => t.imp.retryCnt = satInc 32 s.imp.retryCnt ∧ t.imp.exc = s.imp.exc ∧
      t.imp.sweep = some { w with st := 3, again := true, repeats := w.repeats + 1, keep := some s.tick.now, endAt := s.tick.now }) ∧
  (∀ (s : State) (w : Sweep), isSp s = false → s.imp.sweep = some w → w.st = 2 → w.startAt + (sweepBlock s w).length * 50000 ≤ s.tick.now →
    w.dcMoved * 10000 ≤ s.cfg.imp.dcStepMax * s.cfg.conv.iRated → w.srcChanged = false →
    (planBlocks s w.plan).drop (w.block + 1) = [] →
    Completes (exec .lockinIntegrationEnd s) fun t => Frame [.imp] s t ∧ t.imp.exc = fadeOutAt s.tick.now s.imp.exc ∧
      t.imp.sweep = some { w with st := 3, drift := false, keep := none, endAt := s.tick.now, endTime := s.tb.time }) ∧
  (∀ (s : State) (w : Sweep), isSp s = false → s.imp.sweep = some w → (w.st = 3 ∨ w.st = 4) → w.endAt + 1000000 ≤ s.tick.now →
    (s.skl.lockinOn = true → lockinOver s = true) → w.again = true →
    Completes (exec .impedanceReduction s) fun t => Frame [.skl, .imp] s t ∧ t.skl.lockinOn = false ∧ t.imp.points = s.imp.points ∧
      t.imp.sweep = some { w with st := 1, startAt := 0, lockSent := false, again := false }) ∧
  (∀ (s : State) (w : Sweep), isSp s = false → s.imp.sweep = some w → (w.st = 3 ∨ w.st = 4) → w.endAt + 1000000 ≤ s.tick.now →
    (s.skl.lockinOn = true → lockinOver s = true) → w.again = false →
    Completes (exec .impedanceReduction s) fun t => t.skl.lockinOn = false ∧ t.imp.lastTime = some w.endTime ∧
      t.imp.points = (s.imp.points.filter fun z => !(((sweepBlock s w).tones.map (·.1)).contains z.tone)) ++
        ((List.range (geoP s)).flatMap fun p => mapI (fun k (f : Nat × Nat) =>
          reducePoint s w (nth (0, 0) (blockCurrents s (sweepBlock s w)) k) k f.1 f.2 p) (sweepBlock s w).tones)) ∧
  (∀ (s : State) (t0 : Nat), s.imp.autoDue = some t0 → t0 ≤ s.tick.now + 50000 → s.str.state = .run → isSp s = false → sweepBusy s = false →
    s.cfg.imp.autoPlan < s.cfg.imp.plans.length →
    Completes (exec .autoSweepDue s) fun t => t.imp.autoDue = some (s.tick.now + secNs (60 * s.cfg.imp.autoPeriod)) ∧
      t.imp.sweep = some { handle := nextHandle s, plan := s.cfg.imp.autoPlan, auto := true, started := s.tick.now } ∧
      Frame [.imp, .ops] s t) ∧
  (∀ (s : State) (p : Nat), isSp s = false → (nth {} s.tab.poss p).tInt ≠ none → p < s.tab.poss.length →
    elapsed s (nth {} s.tab.poss p).tIntAt (secNs s.cfg.imp.tIntAgeMax) = true →
    Completes (exec (.tIntExpired p) s) fun t => (nth {} t.tab.poss p).tInt = none ∧ (nth {} t.tab.poss p).fl.tFromSensors = true ∧
      (∀ q, q ≠ p → nth {} t.tab.poss q = nth {} s.tab.poss q) ∧ Frame [.tab] s t)

/-- R437 to R439, R442, R444, R456, R457: a request in an open session from its bound peer whose tag is right and whose SEQ is new waits in its intake
ring and advances the window; a wrong tag is answered AUTH and changes no session; without a session every request but READ
is answered AUTH; one of a wrong form, or from a source not admitted that names no session, changes nothing. -/
def Obligations.HostDatagrams : Prop :=
  (∀ (s : State) (d : RxDgram) (x : Session), netUp s = true → portServes s d.port = true → d.formOk = true → d.kind = 1 → d.no = 0 → d.session ≠ 0 →
    findSession s d.session = some x → x.state = 2 → x.port = d.port → x.addr = d.addr → x.udp = d.udp →
    x.cache.any (fun c => c.seq = d.seq) = false → x.waiting.contains d.seq = false → x.seen.contains d.seq = false → x.highest < d.seq →
    x.waiting.length < 16 → ringLoaded s d = false → d.ring < s.rings.rings.length →
    Completes (exec (.hostDatagramReceived d.port d.addr d.udp d.bytes) s) fun t =>
      if d.tag = fixLen 16 (Config.hmacSha256 x.key (d.bytes.take (24 + d.len))) then
        (∃ y, findSession t d.session = some y ∧ y.highest = d.seq ∧ y.waiting = x.waiting ++ [d.seq] ∧ y.lastFrame = s.tick.now) ∧
        t.host.arrived = s.host.arrived + 1 ∧
        (ringAt t d.ring).pkts = (ringAt s d.ring).pkts ++ [{ d with no := s.host.arrived + 1 }.packet] ∧ t.out = s.out
      else Answered { d.req with session := 0 } d.code stAuth [] s t ∧ t.host.sessions = s.host.sessions) ∧
  (∀ (s : State) (d : RxDgram), netUp s = true → portServes s d.port = true → d.formOk = true → d.kind = 1 → d.session = 0 →
    sourceOk s d.port d.addr = true → d.code ≠ 0x0100 →
    Completes (exec (.hostDatagramReceived d.port d.addr d.udp d.bytes) s) fun t => Answered { d.req with session := 0 } d.code stAuth [] s t ∧
      t.host.sessions = s.host.sessions) ∧
  (∀ (s : State) (d : RxDgram), (d.formOk = false ∨ portServes s d.port = false ∨ (d.session = 0 ∧ sourceOk s d.port d.addr = false)) →
    Completes (exec (.hostDatagramReceived d.port d.addr d.udp d.bytes) s) fun t => t = s)

/-- R441, R443: OPEN_REQ for a slot with a key takes the first free entry and a number, the right proof opens it with the session key, a
wrong one frees it; two seconds without a proof, or SESSION_IDLE without a valid frame, end the session. -/
def Obligations.HostSessions : Prop :=
  (∀ (s : State) (d : RxDgram) (i : Nat), handshakeOk s d 0x10 = true → (slotKey s (getN d.payload 0 1)).isSome = true →
    s.upd.recovery = false → d.payload.length = 20 → inDawn s = false → s.host.sessions.findIdx? (·.isNone) = some i →
    Completes (exec (.openReq d.port d.addr d.udp d.bytes) s) fun t =>
      (∃ x, nth none t.host.sessions i = some x ∧ x.id = freeSession s ∧ x.state = 1 ∧ x.slot = getN d.payload 0 1 ∧ x.port = d.port ∧
        x.addr = d.addr ∧ x.udp = d.udp ∧ x.cnonce = slice d.payload 4 16 ∧ x.lastFrame = s.tick.now) ∧
      (∃ g, Sent g s t ∧ g.kind = 0x11 ∧ g.status = stOk ∧ g.session = freeSession s)) ∧
  (∀ (s : State) (d : RxDgram), handshakeOk s d 0x10 = true → slotKey s (getN d.payload 0 1) = none →
    Completes (exec (.openReq d.port d.addr d.udp d.bytes) s) fun t => t.host.sessions = s.host.sessions ∧
      (∃ g, Sent g s t ∧ g.kind = 0x11 ∧ g.status = stAuth ∧ g.session = 0)) ∧
  (∀ (s : State) (d : RxDgram) (x : Session), handshakeOk s d 0x12 = true → findSession s d.session = some x → x.state = 1 → x.port = d.port →
    x.addr = d.addr → x.udp = d.udp → sinceNs s x.lastFrame ≤ secNs 2 →
    Completes (exec (.openAuth d.port d.addr d.udp d.bytes) s) fun t =>
      if d.payload = fixLen 16 (Config.hmacSha256 ((slotKey s x.slot).getD []) (lblOpen ++ x.cnonce ++ x.snonce ++ u16 x.id ++ u32 s.idn.serial)) then
        findSession t d.session = some { x with state := 2, lastFrame := s.tick.now
                                                key := Config.hmacSha256 ((slotKey s x.slot).getD []) (lblSess ++ x.cnonce ++ x.snonce ++ u16 x.id) } ∧
        (∃ g, Sent g s t ∧ g.kind = 0x13 ∧ g.status = stOk ∧ g.session = x.id)
      else findSession t d.session = none ∧ (∃ g, Sent g s t ∧ g.kind = 0x13 ∧ g.status = stAuth)) ∧
  (∀ (s : State) (id : Nat) (x : Session), findSession s id = some x → running s = true → x.state = 1 → elapsed s x.lastFrame (secNs 2) = true →
    Completes (exec (.openAuthTimeout id) s) fun t => findSession t id = none ∧ (∀ k, k ≠ id → findSession t k = findSession s k)) ∧
  (∀ (s : State) (id : Nat) (x : Session), findSession s id = some x → running s = true → x.state = 2 →
    elapsed s x.lastFrame (secNs s.cfg.net.idle) = true →
    Completes (exec (.sessionIdleTimeout id) s) fun t => findSession t id = none ∧ (∀ k, k ≠ id → findSession t k = findSession s k))

/-- R440, R441, R443 to R445, R448, R449, R454: READ answers what is read, with or without a session; SUBSCRIBE replaces the subscription, KEEPALIVE keeps
the session, CLOSE answers and ends it; BULK_WRITE takes a free buffer from offset 0; KEY_SET stores the key it unwraps and ends
the slot's sessions; a role that does not permit a request is answered AUTH. -/
def Obligations.SessionCommands : Prop :=
  (∀ (s : State) (r : HostReq), serves s r = true → r.session = 0 → sourceOk s r.port r.addr = true → (readAnswer s true r.args).2.length ≤ 1400 →
    Completes (exec (.read r) s) fun t => Answered r 0x0100 (readAnswer s true r.args).1 (readAnswer s true r.args).2 s t) ∧
  (∀ (s : State) (r : HostReq) (x : Session), serves s r = true → r.session ≠ 0 → openSession s r = some x →
    (readAnswer s false r.args).2.length ≤ 1400 →
    Completes (exec (.read r) s) fun t => Answered r 0x0100 (readAnswer s false r.args).1 (readAnswer s false r.args).2 s t) ∧
  (∀ (s : State) (r : HostReq), Admitted 0 r s → 4 ≤ r.args.length → r.args.length = 4 + 4 * getN r.args 1 1 → getN r.args 1 1 ≤ 16 →
    (∀ e ∈ subEntries r.args, (objView s e.obj).isSome = true ∧ 10 ≤ e.period ∧ e.period ≤ 60000 ∧ ∃ k, wholeSize s e.obj = some k ∧ k ≤ 256) →
    (getN r.args 0 1 ≤ 3 ∨ getN r.args 0 1 = 0xFF) → (getN r.args 2 2 ≤ 999 ∨ getN r.args 2 2 = 0xFFFF) →
    Completes (exec (.subscribe r) s) fun t => Answered r 0x0101 stOk [] s t ∧ (r.session ≠ 0 → ∃ y, findSession t r.session = some y ∧
      y.minSev = getN r.args 0 1 ∧ y.launchOfs = getN r.args 2 2 ∧ y.subs = subEntries r.args)) ∧
  (∀ (s : State) (r : HostReq), Admitted 0 r s → r.args = [] →
    Completes (exec (.keepalive r) s) fun t => Answered r 0x0102 stOk [] s t ∧
      ∃ y, findSession t r.session = some y ∧ y.lastFrame = s.tick.now) ∧
  (∀ (s : State) (r : HostReq), Admitted 0 r s → r.args = [] →
    Completes (exec (.close r) s) fun t => Answered r 0x0103 stOk [] s t ∧ findSession t r.session = none) ∧
  (∀ (s : State) (r : HostReq), Admitted 1 r s → 9 ≤ r.args.length → (r.args.drop 8).length ≤ 1024 → getN r.args 0 1 = 1 → getN r.args 4 4 = 0 →
    s.host.bulk1.owner = 0 →
    Completes (exec (.bulkWrite r) s) fun t => Answered r 0x0104 stOk [] s t ∧
      t.host.bulk1 = Bulk.write {} r.session 0 s.tick.now (r.args.drop 8) ∧ t.host.bulk2 = s.host.bulk2) ∧
  (∀ (s : State) (r : HostReq), Admitted 1 r s → 9 ≤ r.args.length → (r.args.drop 8).length ≤ 1024 → getN r.args 0 1 = 1 →
    getN r.args 4 4 + (r.args.drop 8).length ≤ 544404 → s.host.bulk1.owner ≠ 0 → s.host.bulk1.owner ≠ r.session →
    Completes (exec (.bulkWrite r) s) fun t => Answered r 0x0104 stBusy [] s t ∧ t.host.bulk1 = s.host.bulk1) ∧
  (∀ (s : State) (target : Nat), running s = true → (target = 1 ∨ target = 2) → (bulkOf s target).owner ≠ 0 →
    elapsed s (bulkOf s target).last (secNs 60) = true →
    Completes (exec (.bulkAbandoned target) s) fun t => bulkOf t target = {} ∧ bulkOf t (3 - target) = bulkOf s (3 - target)) ∧
  (∀ (s : State) (r : HostReq) (x : Session), Admitted 2 r s → r.args.length = 44 → getN r.args 0 1 < 4 → s.str.state = .service → isSp s = false →
    findSession s r.session = some x → getN r.args 0 1 < s.idn.keys.length →
    Completes (exec (.keySet r) s) fun t => match Config.keyUnwrap x.key (slice r.args 4 40) with
      | none => Answered r 0x0105 stIntegrity [] s t ∧ t.idn = s.idn
      | some k => Answered r 0x0105 stOk [] s t ∧ nth none t.idn.keys (getN r.args 0 1) = some (fixLen 32 k) ∧
          (∀ y, some y ∈ t.host.sessions → y.slot ≠ getN r.args 0 1)) ∧
  (∀ (s : State) (r : HostReq) (x : Session), serves s r = true → openSession s r = some x → x.slot = 0 →
    Completes (exec (.keySet r) s) fun t => Answered r 0x0105 stAuth [] s t ∧ t.idn = s.idn)

/-- R435, R436, R454, R455, R458, R459: ARP and ICMP answer for the port's own address; Modbus takes four connections, resets a fifth, answers
registers or an exception code, and drops a connection idle too long; a subscribed object is notified at its period. -/
def Obligations.NetworkServices : Prop :=
  (∀ (s : State) (port : Nat), ipUp s port = true →
    Completes (exec (.arpRequest port (nth 0 s.cfg.net.ip port)) s) fun t => Frame [.out] s t ∧
      t.out = { s.out with net := s.out.net ++ [.arp port (nth 0 s.cfg.net.ip port)] }) ∧
  (∀ (s : State) (port src : Nat) (b : Bytes), ipUp s port = true →
    Completes (exec (.icmpEchoRequest port src (nth 0 s.cfg.net.ip port) b) s) fun t => Frame [.out] s t ∧
      t.out = { s.out with net := s.out.net ++ [.echo port src b] }) ∧
  (∀ (s : State) (port addr : Nat), modbusServes s port = true → sourceOk s port addr = true → s.host.modbus.length < 4 →
    Completes (exec (.modbusConnect port addr) s) fun t => Frame [.host] s t ∧
      t.host.modbus = s.host.modbus ++ [{ id := freeConn s, port := port, addr := addr, last := s.tick.now }]) ∧
  (∀ (s : State) (port addr : Nat), modbusServes s port = true → sourceOk s port addr = true → 4 ≤ s.host.modbus.length →
    Completes (exec (.modbusConnect port addr) s) fun t => Frame [.out] s t ∧ t.out.net = s.out.net ++ [.reset port addr]) ∧
  (∀ (s : State) (conn : Nat) (pdu : Bytes) (c : ModbusConn), s.host.modbus.find? (fun y => y.id = conn) = some c → modbusServes s c.port = true →
    Completes (exec (.modbusRead conn pdu) s) fun t => t.out.modbus = s.out.modbus ++
        [{ conn := conn, func := getN pdu 1 1, exc := (modbusAnswer s pdu).1, regs := (modbusAnswer s pdu).2 }] ∧
      (∃ k, t.host.modbus.find? (fun c => c.id = conn) = some k ∧ k.last = s.tick.now)) ∧
  (∀ (s : State) (conn : Nat), running s = true →
    Completes (exec (.modbusIdleTimeout conn) s) fun t => Frame [.host] s t ∧ (∀ c ∈ t.host.modbus, c.id = conn →
      elapsed s c.last (secNs s.cfg.net.idle) = false) ∧ (∀ c ∈ s.host.modbus, c.id ≠ conn → c ∈ t.host.modbus)) ∧
  (∀ (s : State) (id entry : Nat) (x : Session) (e : SubEntry), findSession s id = some x → x.subs[entry]? = some e → netUp s = true →
    s.tick.j = 0 → e.period ≠ 0 → s.tb.time / 1000000 % e.period = 0 → (ringAt s (8 + (sessionIdx s id).getD 0)).fillPkts < 64 →
    Completes (exec (.objectNotificationDue id entry) s) fun t => ∃ y, findSession t id = some y ∧ y.noteSeq = x.noteSeq + 1 ∧ y.subs = x.subs)

/-- R35, R36, R45, R46, R389: CONNECT from STANDBY begins the precharge where nothing is unmet, else it is answered FAULT with the first
cause; START goes to RUN, or to TWILIGHT with a cause armed; STOP and DISCONNECT go to STOPPING with their target,
DISCONNECT from PRECHARGE opens at once; a command that is not legal is answered STATE and changes no state of the string. -/
def Obligations.StringCommands : Prop :=
  (∀ (s : State) (r : HostReq), Admitted 1 r s → r.args = [] → legalCmd 0x0200 s = true → connectUnmet s = none →
    Completes (exec (.connect r) s) fun t => Answered r 0x0200 stOk [] s t ∧ t.str.state = .precharge ∧ t.cont.step = .p1 ∧ t.cont.c2.coil = true) ∧
  (∀ (s : State) (r : HostReq) (c : Nat), Admitted 1 r s → r.args = [] → legalCmd 0x0200 s = true → connectUnmet s = some c →
    Completes (exec (.connect r) s) fun t => Answered r 0x0200 stFault [] s t ∧ t.str = { s.str with cause := c } ∧ t.cont = s.cont) ∧
  (∀ (s : State) (r : HostReq), Admitted 1 r s → r.args = [] → legalCmd 0x0201 s = true → twArmed s = false →
    Completes (exec (.start r) s) fun t => Answered r 0x0201 stOk [] s t ∧ t.str.state = .run) ∧
  (∀ (s : State) (r : HostReq), Admitted 1 r s → r.args = [] → legalCmd 0x0201 s = true → twArmed s = true → twLeft s ≠ 0 →
    Completes (exec (.start r) s) fun t => Answered r 0x0201 stOk [] s t ∧ t.str.state = .twilight) ∧
  (∀ (s : State) (r : HostReq), Admitted 1 r s → r.args = [] → legalCmd 0x0201 s = true → twArmed s = true → twLeft s = 0 →
    Completes (exec (.start r) s) fun t => Answered r 0x0201 stFault [] s t ∧ t.str = s.str) ∧
  (∀ (s : State) (r : HostReq), Admitted 1 r s → r.args = [] → legalCmd 0x0203 s = true →
    Completes (exec (.stop r) s) fun t => Answered r 0x0203 stOk [] s t ∧ t.str.state = .stopping ∧ t.str.stopTarget = some .closed) ∧
  (∀ (s : State) (r : HostReq), Admitted 1 r s → r.args = [] → legalCmd 0x0204 s = true → s.str.state ≠ .precharge →
    Completes (exec (.disconnect r) s) fun t => Answered r 0x0204 stOk [] s t ∧ t.str.state = .stopping ∧
      (s.str.state ≠ .stopping → t.str.stopTarget = some .standby) ∧ (s.str.stopTarget = some .closed → t.str.stopTarget = some .standby) ∧
      (s.str.state = .stopping → t.str.entered = s.str.entered)) ∧
  (∀ (s : State) (r : HostReq), Admitted 1 r s → r.args = [] → legalCmd 0x0204 s = true → s.str.state = .precharge →
    Completes (exec (.disconnect r) s) fun t => Answered r 0x0204 stOk [] s t ∧ t.str.state = .standby ∧ coilsDriven t = false) ∧
  (∀ (s : State) (r : HostReq), Admitted 1 r s → r.args = [] →
    (legalCmd 0x0200 s = false → Completes (exec (.connect r) s) fun t => Answered r 0x0200 stState [] s t ∧ t.str = s.str) ∧
    (legalCmd 0x0201 s = false → Completes (exec (.start r) s) fun t => Answered r 0x0201 stState [] s t ∧ t.str = s.str) ∧
    (legalCmd 0x0203 s = false → Completes (exec (.stop r) s) fun t => Answered r 0x0203 stState [] s t ∧ t.str = s.str) ∧
    (legalCmd 0x0204 s = false → Completes (exec (.disconnect r) s) fun t => Answered r 0x0204 stState [] s t ∧ t.str = s.str))

/-- R35, R43, R130, R422, R427, R527, R535: CLEAR_FAULT needs every cause clearable; SERVICE is entered; RESTART and EXIT_SERVICE begin a new
Dawn with reasons 4 and 6, SHUTDOWN goes OFF, FREEZE freezes, each after a handover where an ACTIVE module has an admitted partner;
the answer leaves first. PAIR_HANDOVER asks the partner and its answer waits. -/
def Obligations.LifecycleCommands : Prop :=
  (∀ (s : State) (r : HostReq), Admitted 1 r s → r.args = [] → legalCmd 0x0205 s = true → clearable s = true →
    Completes (exec (.clearFault r) s) fun t => Answered r 0x0205 stOk [] s t ∧ t.str.state = .standby ∧ t.str.causes = [] ∧
      (tripLatched s = true → t.can.tripFn = 0 ∧ t.can.tripCause = 0)) ∧
  (∀ (s : State) (r : HostReq), Admitted 1 r s → r.args = [] → legalCmd 0x0205 s = true → clearable s = false →
    Completes (exec (.clearFault r) s) fun t => Answered r 0x0205 stFault [] s t ∧ t.str = s.str) ∧
  (∀ (s : State) (r : HostReq), Admitted 2 r s → r.args = [] → legalCmd 0x0208 s = true →
    Completes (exec (.enterService r) s) fun t => Answered r 0x0208 stOk [] s t ∧ t.str.state = .service) ∧
  (∀ (s : State) (r : HostReq), Admitted 1 r s → r.args = [] → legalCmd 0x0206 s = true → (s.str.role ≠ some .active ∨ partnerAdmitted s = false) →
    Completes (exec (.restart r) s) fun t => Answered r 0x0206 stOk [] s t ∧ t.str.state = .dawn ∧ t.dawn.reason = 4 ∧
      t.idn.dawnCnt = (s.idn.dawnCnt + 1) % 4294967296 ∧ t.host.sessions = State.reset.host.sessions) ∧
  (∀ (s : State) (r : HostReq), Admitted 1 r s → r.args = [] → legalCmd 0x0206 s = true → s.str.role = some .active → partnerAdmitted s = true →
    s.pair.handoverPending = false →
    Completes (exec (.restart r) s) fun t => Answered r 0x0206 stOk [] s t ∧ t.str = s.str ∧ t.pair.hTick = some (s.tb.time + 20000000) ∧
      t.pair.hYields = true ∧ t.pair.hThen = 1) ∧
  (∀ (s : State) (r : HostReq), Admitted 1 r s → r.args = [] → legalCmd 0x0207 s = true → (s.str.role ≠ some .active ∨ partnerAdmitted s = false) →
    Completes (exec (.shutdown r) s) fun t => Answered r 0x0207 stOk [] s t ∧ t.str.state = .off ∧
      t.lad.rung = (if s.cfg.safety.pair = true then 2 else 5) ∧ coilsDriven t = false ∧ t.pair.ownOut = false) ∧
  (∀ (s : State) (r : HostReq), Admitted 2 r s → r.args = [] → legalCmd 0x0209 s = true → (s.str.role ≠ some .active ∨ partnerAdmitted s = false) →
    Completes (exec (.exitService r) s) fun t => Answered r 0x0209 stOk [] s t ∧ t.str.state = .dawn ∧ t.dawn.reason = 6) ∧
  (∀ (s : State) (r : HostReq), Admitted 2 r s → r.args = [] → legalCmd 0x020B s = true → (s.str.role ≠ some .active ∨ partnerAdmitted s = false) →
    activeState s = false → s.lad.freezeReq = none →
    Completes (exec (.freeze r) s) fun t => Answered r 0x020B stOk [] s t ∧ t.lad.frozen = true ∧ t.lad.rung = 3 ∧ t.pair.ownOut = false ∧
      t.str.state = s.str.state ∧ (∀ x, some x ∈ t.host.sessions → x.key = List.replicate 32 0)) ∧
  (∀ (s : State) (r : HostReq), Admitted 2 r s → r.args = [] → legalCmd 0x020B s = true → (s.str.role ≠ some .active ∨ partnerAdmitted s = false) →
    activeState s = true → s.lad.freezeReq = none →
    Completes (exec (.freeze r) s) fun t => Answered r 0x020B stOk [] s t ∧ t.lad.freezeReq = some (2, 2, s.tick.now) ∧ t.prot.stop ≠ none ∧
      t.lad.frozen = s.lad.frozen) ∧
  (∀ (s : State) (r : HostReq), Admitted 1 r s → r.args = [] → legalCmd 0x020D s = true → s.pair.handoverPending = false →
    Completes (exec (.pairHandover r) s) fun t => t.pair.hTick = some (s.tb.time + 20000000) ∧ t.pair.hYields = true ∧ t.pair.hAccepted = false ∧
      t.pair.hReq = some { r with code := 0x020D } ∧ t.pair.handoverPending = true ∧ t.str = s.str ∧ t.out.host = s.out.host)

/-- R121 to R123, R149, R179, R263, R341, R342, R448, R449, R509: an untimed set-point waits for the evaluation's end, a timed one is answered
and kept, a bad one is answered RANGE; a log freeze is held by its session until it thaws it; RESTORE_STATE and PLUG_WRITE take the
bytes of their bulk target, which the session holds or nobody, and answer what they found; a write that the plug does not acknowledge
fails check 2; CAPTURE forms the pair for the samples asked for. -/
def Obligations.DataCommands : Prop :=
  (∀ (s : State) (r : HostReq), Admitted 1 r s → spArgsOk s r.args = true → legalCmd 0x0202 s = true → getN r.args 4 8 = 0 → s.dsp.spReq = none →
    Completes (exec (.setPoint r) s) fun t => t.dsp.untimed = some (getI r.args 0 4, s.dsp.order + 1) ∧
      t.dsp.spReq = some ({ r with code := 0x0202 }, spPayload s false) ∧ t.dsp.order = s.dsp.order + 1 ∧ t.dsp.target = s.dsp.target ∧
      Frame [.dsp] s t) ∧
  (∀ (s : State) (r : HostReq), Admitted 1 r s → spArgsOk s r.args = true → legalCmd 0x0202 s = true → getN r.args 4 8 ≠ 0 →
    s.dsp.timed.length < 16 →
    Completes (exec (.setPoint r) s) fun t => Answered r 0x0202 stOk (spPayload s (decide (getN r.args 4 8 < s.tb.time))) s t ∧
      t.dsp.timed = s.dsp.timed ++ [{ current := getI r.args 0 4, launch := getN r.args 4 8, order := s.dsp.order + 1, session := r.session }] ∧
      t.dsp.target = s.dsp.target) ∧
  (∀ (s : State) (r : HostReq), Admitted 1 r s → spArgsOk s r.args = false →
    Completes (exec (.setPoint r) s) fun t => Answered r 0x0202 stRange (spPayload s false) s t ∧ t.dsp = s.dsp) ∧
  (∀ (s : State) (r : HostReq), Admitted 1 r s → r.args.length = 4 → legalCmd 0x020C s = true → s.rcd.freezeSession = 0 →
    Completes (exec (.freezeLogFreeze r) s) fun t => Answered r 0x020C stOk (freezeLogPayload t) s t ∧
      (t.rcd.freezeSession = r.session ∨ (ringAt t (40 + srcApp3)).high = true)) ∧
  (∀ (s : State) (r : HostReq), Admitted 1 r s → r.args.length = 4 → legalCmd 0x020C s = true → s.rcd.freezeSession = r.session →
    Completes (exec (.freezeLogThaw r) s) fun t => Answered r 0x020C stOk (freezeLogPayload t) s t ∧ t.rcd.freezeSession = 0) ∧
  (∀ (s : State) (r : HostReq), Admitted 1 r s → r.args.length = 4 → legalCmd 0x020C s = true → s.rcd.freezeSession ≠ 0 →
    s.rcd.freezeSession ≠ r.session →
    Completes (exec (.freezeLogThaw r) s) fun t => Answered r 0x020C stBusy [] s t ∧ t.rcd = s.rcd) ∧
  (∀ (s : State) (r : HostReq) (b : Bytes), Admitted 1 r s → r.args.length = 4 → legalCmd 0x020A s = true →
    bulkFilled 1 (getN r.args 0 4) 544404 s = true → bulkOther 1 r s = false → b = bulkData 1 (getN r.args 0 4) s →
    Completes (exec (.restoreState r) s) fun t => (bulkOf t 1).owner = 0 ∧ (bulkOf t 1).data = [] ∧ match judgeBlob s b with
      | some (st, reason) => Answered r 0x020A st (u8 (optN 8 (some reason))) s t ∧ t.est.restoreResult = some reason ∧ t.est.mode = s.est.mode ∧
          t.tab = s.tab
      | none => Answered r 0x020A stOk (u8 0) s t ∧ t.est.restoreResult = some 0 ∧ t.est.mode = .running ∧ t.est.lastBlob = getN b 20 8) ∧
  (∀ (s : State) (r : HostReq) (b : Bytes), Admitted 2 r s → r.args.length = 4 → legalCmd 0x020E s = true → s.pins.plugDet = true →
    bulkFilled 2 (getN r.args 0 4) 65536 s = true → bulkOther 2 r s = false → b = bulkData 2 (getN r.args 0 4) s →
    Completes (exec (.plugWrite r) s) fun t => t.pins.plugWritten = some b ∧ t.cfg = s.cfg ∧ match Config.plugEcho s.fresh b with
      | some back => Answered r 0x020E (if (judgeImage true true back none).fail = none then stOk else stIntegrity)
          (u8 ((judgeImage true true back none).fail.getD 0)) s t
      | none => Answered r 0x020E stIntegrity (u8 2) s t) ∧
  (∀ (s : State) (r : HostReq), Admitted 2 r s → captureArgsOk r.args = true → legalCmd 0x020F s = true → s.host.capture.running = false →
    s.met.sar.length = 4 →
    Completes (exec (.capture r) s) fun t => Answered r 0x020F stOk [] s t ∧ t.host.capture.running = true ∧ t.host.capture.leader = getN r.args 0 1 ∧
      t.host.capture.follower = getN r.args 1 1 ∧ t.host.capture.start = some s.tb.time ∧ t.host.capture.want = getN r.args 4 4 ∧
      -1000 ≤ t.host.capture.skew ∧ t.host.capture.skew ≤ 1000 ∧ (nth {} t.met.sar (getN r.args 0 1)).paired = true ∧
      (nth {} t.met.sar (getN r.args 1 1)).partner = getN r.args 0 1) ∧
  (∀ (s : State) (r : HostReq), Admitted 2 r s → captureArgsOk r.args = true → legalCmd 0x020F s = true → s.host.capture.running = true →
    Completes (exec (.capture r) s) fun t => Answered r 0x020F stBusy [] s t ∧ t.host.capture = s.host.capture ∧ t.met = s.met)

/-- R15, R47, R450: a long operation of a kind that may start, with its own arguments right and nothing in its way, takes the next
handle, which answers its start, and its work begins; a second of its kind is answered BUSY, and where it may not start the answer
is STATE. -/
def Obligations.LongOperationStarts : Prop :=
  (∀ (s : State) (r : HostReq), Admitted 1 r s → r.args.length = 4 → opLegal 1 s = true → findOp s 1 = none → s.est.restEnd = none →
    Completes (exec (.opStartCapLearn r) s) fun t => Answered r 0x0300 stOk (u16 (nextHandle s)) s t ∧ t.ops.lastHandle = nextHandle s ∧
      t.est.learn = some { start := s.tick.now }) ∧
  (∀ (s : State) (r : HostReq), Admitted 2 r s → calArgsOk r.args = true → opLegal 2 s = true → findOp s 2 = none →
    Completes (exec (.opStartSysCal r) s) fun t => Answered r 0x0300 stOk (u16 (nextHandle s)) s t ∧
      t.met.sysCal = some { index := getN r.args 4 1, span := getI r.args 8 8, since := s.tick.now } ∧
      (getN r.args 4 1 ≤ 3 → t.met.frozen = some (getN r.args 4 1 / 2, s.tick.now))) ∧
  (∀ (s : State) (r : HostReq), Admitted 1 r s → r.args.length = 5 → getN r.args 4 1 < s.cfg.imp.plans.length → opLegal 3 s = true →
    findOp s 3 = none → sweepBusy s = false →
    Completes (exec (.opStartImpedanceSweep r) s) fun t => Answered r 0x0300 stOk (u16 (nextHandle s)) s t ∧
      t.imp.sweep = some { handle := nextHandle s, plan := getN r.args 4 1, auto := decide (r.session = 0), started := s.tick.now }) ∧
  (∀ (s : State) (r : HostReq), Admitted 1 r s → r.args.length = 8 → 10 ≤ getN r.args 4 2 → getN r.args 4 2 ≤ 1000 → 1 ≤ getN r.args 6 2 →
    getN r.args 6 2 ≤ 10080 → opLegal 4 s = true → findOp s 4 = none →
    Completes (exec (.opStartBalanceCampaign r) s) fun t => Answered r 0x0300 stOk (u16 (nextHandle s)) s t ∧
      t.bal.campaign = some { deadband := getN r.args 4 2, timeMax := getN r.args 6 2, since := some s.tick.now } ∧ t.bal.result = 0) ∧
  (∀ (s : State) (r : HostReq), Admitted 1 r s → r.args.length = 4 → opLegal 5 s = true → findOp s 5 = none →
    Completes (exec (.opStartInsulationTest r) s) fun t => Answered r 0x0300 stOk (u16 (nextHandle s)) s t ∧
      t.iso.test = some (.reference, 0) ∧ t.iso.lastAsym = none) ∧
  (∀ (s : State) (r : HostReq), Admitted 1 r s → r.args.length = 16 → getN r.args 4 4 ≤ exportTo r.args s → getN r.args 12 1 ≤ 3 →
    opLegal 6 s = true → findOp s 6 = none →
    Completes (exec (.opStartLogExport r) s) fun t => Answered r 0x0300 stOk (u16 (nextHandle s)) s t ∧
      t.rcd.export_ = some { next := getN r.args 4 4, to_ := exportTo r.args s, minSev := getN r.args 12 1 }) ∧
  (∀ (s : State) (r : HostReq), Admitted 3 r s → updArgsOk r.args = true → opLegal 7 s = true → findOp s 7 = none → s.hlth.stagingReduced = false → s.upd.staging = none →
    s.upd.slotA.st ≠ 3 → s.upd.slotB.st ≠ 3 →
    Completes (exec (.opStartUpdateStage r) s) fun t => Answered r 0x0300 stOk (u16 (nextHandle s)) s t ∧ (findOp t 7).isSome = true ∧
      t.upd.phase = 1 ∧ t.upd.erasing = true ∧ t.upd.staging = some { updId := getN r.args 4 4, xferLen := getN r.args 8 4 }) ∧
  (∀ (s : State) (r : HostReq), Admitted 1 r s → r.args.length = 4 → opLegal 5 s = false →
    Completes (exec (.opStartInsulationTest r) s) fun t => Answered r 0x0300 stState [] s t ∧ t.ops = s.ops ∧ t.iso = s.iso) ∧
  (∀ (s : State) (r : HostReq), Admitted 1 r s → r.args.length = 4 → opLegal 5 s = true → (findOp s 5).isSome = true →
    Completes (exec (.opStartInsulationTest r) s) fun t => Answered r 0x0300 stBusy [] s t ∧ t.ops = s.ops ∧ t.iso = s.iso)

/-- R361, R405, R450: SUSPEND suspends the operation a handle names, RESUME continues it where its kind may start, CANCEL ends it; a handle
not in use is answered UNKNOWN. -/
def Obligations.LongOperationHandles : Prop :=
  (∀ (s : State) (r : HostReq) (o : Op), serves s r = true → r.args.length = 2 → (∃ x, openSession s r = some x ∧ permits x.slot (opRole o.kind) = true) →
    s.ops.ops.find? (fun p => p.handle = getN r.args 0 2) = some o → o.opState = 0 → (inDawn s = false ∨ s.upd.recovery = true) →
    Completes (exec (.suspend r) s) fun t => Answered r 0x0301 stOk [] s t ∧
      (∀ q ∈ (findOp t o.kind), q.opState = 1) ∧ (findOp t o.kind).isSome = true ∧
      (o.kind = 4 → ∀ c ∈ t.bal.campaign, c.suspended = true)) ∧
  (∀ (s : State) (r : HostReq) (o : Op), serves s r = true → r.args.length = 2 → (∃ x, openSession s r = some x ∧ permits x.slot (opRole o.kind) = true) →
    s.ops.ops.find? (fun p => p.handle = getN r.args 0 2) = some o → o.opState = 1 → (inDawn s = false ∨ s.upd.recovery = true) →
    opLegal o.kind s = true → o.kind = 5 →
    Completes (exec (.resume r) s) fun t => Answered r 0x0302 stOk [] s t ∧ (∀ q ∈ (findOp t 5), q.opState = 0) ∧
      t.iso.test = some (.reference, 0)) ∧
  (∀ (s : State) (r : HostReq) (o : Op), serves s r = true → r.args.length = 2 → (∃ x, openSession s r = some x ∧ permits x.slot (opRole o.kind) = true) →
    s.ops.ops.find? (fun p => p.handle = getN r.args 0 2) = some o → o.opState ≠ 2 → (inDawn s = false ∨ s.upd.recovery = true) →
    Completes (exec (.cancel r) s) fun t => Answered r 0x0303 stOk [] s t ∧ findOp t o.kind = none ∧
      (o.kind = 3 → t.imp.sweep = none) ∧ (o.kind = 4 → t.bal.campaign = none) ∧ (o.kind = 5 → t.iso.test = none)) ∧
  (∀ (s : State) (r : HostReq) (x : Session), serves s r = true → openSession s r = some x → x.slot ≠ 0 → r.args.length = 2 →
    s.ops.ops.find? (fun p => p.handle = getN r.args 0 2) = none →
    Completes (exec (.suspend r) s) (fun t => Answered r 0x0301 stUnknown [] s t ∧ t.ops = s.ops) ∧
    Completes (exec (.resume r) s) (fun t => Answered r 0x0302 stUnknown [] s t ∧ t.ops = s.ops) ∧
    Completes (exec (.cancel r) s) (fun t => Answered r 0x0303 stUnknown [] s t ∧ t.ops = s.ops))

/-- R413, R415, R416, R419, R428 to R430, R531: HELLOs are sent, after a guard band where one stands, and kept, or wake a module in Dusk; the
role falls when listening ends; the keys are exchanged, images and statuses followed until the standby is admitted; a bad frame
counts and sets step 4 back, as an overdue segment does, and a silent standby is lost; a piece of a blob asked for is kept. -/
def Obligations.PairAdmission : Prop :=
  (∀ s : State, pairOn s = true → elapsed s s.pair.helloAt (msNs 100) = true →
    Completes (exec .helloDue s) fun t => t.pair.helloAt = s.tick.now ∧ Frame [.pair, .out] s t ∧
      (quiet s 2 = false → t.pair.mseqTx = (s.pair.mseqTx + 1) % 4294967296 ∧ t.out.mirror.length = s.out.mirror.length + 1) ∧
      (quiet s 2 = true → t.out.held = s.out.held ++ [(2, .mirror 5 s.tb.time (helloPayload s))])) ∧
  (∀ (s : State) (b : Bytes) (r : MirrorRx), Partnered 5 b r s →
    Completes (exec (.helloReceived b) s) fun t => t.pair.helloSeen = true ∧ t.pair.serialSeen = some (getN r.payload 0 4) ∧
      t.pair.partnerRole = some r.role ∧ t.pair.mseqRx = some r.seq ∧
      (s.pair.partner = .absent → joinable r s = false → t.pair.partner = .identity)) ∧
  (∀ (s : State) (b : Bytes) (r : MirrorRx), inOff s = true → s.lad.rung = 2 → s.lad.unpowered = false → parseMirror b = some r → r.mtype = 5 →
    s.lad.activeSeen = true → r.role ≠ 1 →
    Completes (exec (.helloReceived b) s) fun t => t.str.state = .dawn ∧ t.dawn.reason = 3 ∧ t.lad.wakeCause = 3) ∧
  (∀ (s : State) (b : Bytes), pairOn s = true → parseMirror b = none → s.str.role = some .active →
    Completes (exec (.mirrorHeartbeatReceived b) s) fun t => t.pair = { s.pair with rxErr := satInc 32 s.pair.rxErr } ∧ Frame [.pair] s t) ∧
  (∀ (s : State) (b : Bytes), pairOn s = true → parseMirror b = none → isSp s = true → s.pair.partner = .heartbeats →
    Completes (exec (.mirrorHeartbeatReceived b) s) fun t => t.pair.rxErr = satInc 32 s.pair.rxErr ∧ t.pair.partner = .images ∧
      t.pair.imagesInStep = 0 ∧ t.pair.step4Since = none) ∧
  (∀ s : State, inDawn s = true → s.dawn.step = some 8 → s.str.role = none → elapsed s s.dawn.stepSince (msNs 300) = true →
    Completes (exec .helloListenTimeout s) fun t =>
      (roleRow s = 1 → t.str.role = some .solo) ∧ (roleRow s = 2 ∨ roleRow s = 4 → t.str.role = some .standbyPair) ∧
      (roleRow s = 3 ∨ roleRow s = 5 → t.str.role = some (if s.cfg.small.member = 0 then .active else .standbyPair)) ∧
      (roleRow s = 6 → t.str.role = some .active) ∧ (t.pair.ownOut = true ↔ t.str.role = some .active) ∧
      (t.str.partnerAbsent = true ↔ t.str.role = some .active) ∧ t.str.mirrored = false) ∧
  (∀ (s : State) (b : Bytes) (r : MirrorRx), Partnered 8 b r s → s.pair.partner = .keys → getN r.payload 0 1 = 0 → s.pair.partnerMac ≠ none →
    Completes (exec (.keyxReceived b) s) fun t => if Config.keyxValid (r.payload.drop 1) = true then t.pair.partner = .keys ∧
        t.pair.wrapKey = some (Config.hkdfSha256 (Config.ecdhShared s.pair.keySecret (Config.keyxPublic (r.payload.drop 1))) [] [] 32) ∧
        (quiet s 2 = false → t.out.mirror.length = s.out.mirror.length + 1)
      else t.pair.partner = .refused ∧ t.pair.wrapKey = s.pair.wrapKey) ∧
  (∀ (s : State) (b : Bytes) (r : MirrorRx) (k : Bytes), Partnered 8 b r s → s.pair.partner = .keys → getN r.payload 0 1 = 1 →
    s.pair.wrapKey = some k →
    Completes (exec (.keyxReceived b) s) fun t => match Config.keyUnwrap k (r.payload.drop 1) with
      | some key => t.pair.partnerKey = some key ∧ t.pair.keyHeld = true ∧ t.pair.partner = .images ∧ t.pair.imagesInStep = 0 ∧ Frame [.pair] s t
      | none => t.pair.partner = .refused ∧ t.pair.partnerKey = s.pair.partnerKey) ∧
  (∀ (s : State) (b : Bytes) (r : MirrorRx), Partnered 6 b r s → s.str.role = some .active → s.pair.partner = .heartbeats →
    bitAt (getN r.payload 12 1) 0 = true →
    Completes (exec (.sbStatusReceived b) s) fun t => t.pair.partner = .admitted ∧ t.pair.sbAt = some s.tick.now ∧ t.str.partnerAbsent = false) ∧
  (∀ (s : State) (t0 : Nat), s.pair.step4Since = some t0 → isSp s = true → running s = true → s.pair.partner = .heartbeats → s.pair.localFault = false →
    elapsed s t0 (secNs 10) = true →
    Completes (exec .admissionHeartbeatsComplete s) fun t => t.pair.partner = .admitted ∧ t.lad.rung = 1 ∧ t.str.partnerAbsent = false ∧
      t.pair.step4Since = none) ∧
  (∀ s : State, isSp s = true → running s = true → s.pair.partner = .admitted → 
    (∃ n, n < segN s ∧ elapsed s (segAt s n) (msNs (2 * ((segN s + 29) / 30))) = true) →
    Completes (exec .imageSegmentOverdue s) fun t => t.pair.partner = .images ∧ t.pair.imagesInStep = 0 ∧ t.pair.lastSegAt = s.tick.now ∧ t.lad.rung = 0) ∧
  (∀ (s : State) (t0 : Nat), s.pair.sbAt = some t0 → s.str.role = some .active → running s = true → elapsed s t0 (msNs 10) = true →
    s.pair.partner = .admitted →
    Completes (exec .partnerLost s) fun t => t.pair.partner = .absent ∧ t.str.partnerAbsent = true ∧ t.pair.sbAt = none ∧ t.str.state = s.str.state) ∧
  (∀ (s : State) (b : Bytes) (r : MirrorRx), Partnered 4 b r s → isSp s = true → 1032 ≤ r.payload.length → getN r.payload 6 2 = segN s →
    getN r.payload 4 2 < segN s → 1 < segN s → s.pair.imgSeqRx ≠ some (getN r.payload 0 4) →
    Completes (exec (.mirrorImageSegmentReceived b) s) fun t => t.pair.segsRx = [getN r.payload 4 2] ∧ t.pair.imgSeqRx = some (getN r.payload 0 4) ∧
      (getN r.payload 4 2, s.tick.now) ∈ t.pair.segTimes ∧ t.pair.imageCnt = s.pair.imageCnt ∧
      (getN r.payload 4 2, slice r.payload 8 1024) ∈ t.pair.image) ∧
  (∀ (s : State) (b : Bytes) (r : MirrorRx), Partnered 4 b r s → isSp s = true → 1032 ≤ r.payload.length → getN r.payload 6 2 = segN s →
    getN r.payload 4 2 < segN s → s.pair.imgSeqRx = some (getN r.payload 0 4) → getN r.payload 4 2 ∉ s.pair.segsRx →
    s.pair.segsRx.length + 1 = segN s → s.pair.partner = .images → s.pair.imagesInStep = 1 →
    Completes (exec (.mirrorImageSegmentReceived b) s) fun t => t.pair.imageCnt = satInc 32 s.pair.imageCnt ∧ t.pair.segsRx = [] ∧
      t.pair.partner = .heartbeats ∧ t.pair.step4Since = some s.tick.now) ∧
  (∀ (s : State) (b : Bytes) (r : MirrorRx), Partnered 3 b r s → isSp s = true →
    Completes (exec (.mirrorBankReceived b) s) fun t => t.tab = (takeBank r.payload s).tab ∧ t.pair = { s.pair with mseqRx := some r.seq } ∧
      Frame ([.skl, .tab, .pair] ++ recordParts) s t) ∧
  (∀ (s : State) (b : Bytes) (r : MirrorRx), Partnered 9 b r s → 16 ≤ r.payload.length →
    s.pair.blobAsked = true → s.pair.blobRx = [] → r.payload.length - 16 < getN r.payload 12 4 →
    Completes (exec (.blobReceived b) s) fun t => t.pair.blobRx = [(getN r.payload 8 4, r.payload.drop 16)] ∧ t.pair.blobLen = getN r.payload 12 4 ∧
      t.est = s.est)

/-- R41, R414, R417, R418, R423 to R427: an owner that sees OWN_IN yields; an admitted standby that loses the owner's output or three
heartbeats takes ownership, one that is not admitted only logs the loss; its first frames continue what the owner did; a CONTROL frame
gives the string's state to a standby outside its own Dawn; a handover passes ownership at H_TICK, and a request without an answer is
answered STATE. -/
def Obligations.PairOwnership : Prop :=
  (∀ (s : State) (together : Bool), running s = true → s.str.role = some .active → s.pair.ownOut = true → (together = false ∨ s.cfg.small.member = 1) →
    Completes (exec (.ownInRise together) s) fun t => t.pair.ownIn = true ∧ t.pair.ownOut = false ∧ t.pair.contestLost = true ∧
      t.str.role = some .standbyPair ∧ t.str.state = s.str.state ∧ t.pins.sklTx = false ∧ (∀ g ∈ t.pins.gate, g = .dark) ∧ coilsDriven t = false) ∧
  (∀ (s : State) (together : Bool), s.str.role ≠ some .active →
    Completes (exec (.ownInRise together) s) fun t => t.pair = { s.pair with ownIn := true, ownInSince := s.tick.now } ∧ Frame [.pair] s t) ∧
  (∀ s : State, running s = true → isSp s = true → s.pair.partner = .admitted → s.pair.hTick = none → controlFresh s = true →
    Completes (exec .ownInFall s) fun t => t.pair.ownIn = false ∧ t.pair.ownOut = true ∧ t.str.role = some .active ∧
      t.pair.takeover = some (s.tick.now, 0) ∧ t.str.partnerAbsent = true ∧ t.pins.sklTx = true ∧ t.lad.rung = 0) ∧
  (∀ s : State, running s = true → isSp s = true → s.pair.partner ≠ .admitted → s.pair.hTick = none →
    Completes (exec .ownInFall s) fun t => t.pair = { s.pair with ownIn := false, ownInSince := s.tick.now } ∧ t.str = s.str ∧
      Frame ([.pair] ++ recordParts) s t) ∧
  (∀ s : State, isSp s = false →
    Completes (exec .ownInFall s) fun t => t.pair = { s.pair with ownIn := false, ownInSince := s.tick.now } ∧ Frame [.pair] s t) ∧
  (∀ s : State, isSp s = true → running s = true → s.pair.lastBeatAt ≠ none → s.pair.beatThisTick = true →
    Completes (exec .heartbeatDeadline s) fun t => t.pair.misses = 0 ∧ t.pair.beatThisTick = false ∧ t.pair.hbMissCnt = s.pair.hbMissCnt ∧ Frame [.pair] s t) ∧
  (∀ s : State, isSp s = true → running s = true → s.pair.lastBeatAt ≠ none → s.pair.beatThisTick = false → s.pair.misses < 2 → s.pair.partner = .admitted →
    Completes (exec .heartbeatDeadline s) fun t => t.pair.misses = s.pair.misses + 1 ∧ t.pair.hbMissCnt = satInc 32 s.pair.hbMissCnt ∧
      t.str.role = s.str.role ∧ Frame [.pair] s t) ∧
  (∀ s : State, isSp s = true → running s = true → s.pair.lastBeatAt ≠ none → s.pair.beatThisTick = false → s.pair.misses = 2 → s.pair.partner = .admitted →
    controlFresh s = true →
    Completes (exec .heartbeatDeadline s) fun t => t.str.role = some .active ∧ t.pair.ownOut = true ∧ t.pair.takeover = some (s.tick.now, 1)) ∧
  (∀ (s : State) (t0 cause : Nat) (b : MirrorBeat), s.pair.takeover = some (t0, cause) → s.pair.beat = some b →
    elapsed s t0 ((if cause = 2 then 2 else 10) * 50000) = true →
    Completes (exec .failoverFirstFrame s) fun t => t.pair.takeover = none ∧ t.pair.failoverCause = some cause ∧ t.pair.failoverLast = some s.tb.time ∧
      t.pair.failoverCnt = (if cause = 2 then s.pair.failoverCnt else satInc 32 s.pair.failoverCnt) ∧ t.cnv.y3 = b.ref ∧ t.cnv.mode = convModeOf b.mode ∧
      t.met.qTot.q = b.q + (s.met.qTot.q - b.ownQ) ∧ t.imp.exc = none) ∧
  (∀ (s : State) (b : Bytes) (r : MirrorRx), Partnered 1 b r s → isSp s = true → s.pair.takeover = none → tickMatches r s = true →
    bitAt (getN r.payload 1 1) 0 = true →
    Completes (exec (.mirrorHeartbeatReceived b) s) fun t => t.pair.beatThisTick = true ∧ t.pair.lastBeatAt = some s.tick.now ∧ t.pair.beat ≠ none ∧
      Frame [.pair] s t) ∧
  (∀ (s : State) (b : Bytes) (sfd : Nat) (r : MirrorRx), Partnered 2 b r s → isSp s = true → s.pair.takeover = none →
    Completes (exec (.mirrorControlReceived b sfd) s) fun t => (∃ c, t.pair.control = some c ∧ c.tick = r.mtick ∧ c.payload = r.payload) ∧
      (tickMatches r s = true → t.pair.beatThisTick = true ∧ t.pair.lastBeatAt = some s.tick.now) ∧
      (inDawn s = false → t.str.state = stateOf (getN r.payload 0 1) ∧ t.str.mirrored = true) ∧ (inDawn s = true → t.str = s.str)) ∧
  (∀ (s : State) (b : Bytes) (r : MirrorRx), Partnered 1 b r s → s.str.role = some .active → r.role = 1 → s.cfg.small.member = 1 →
    Completes (exec (.mirrorHeartbeatReceived b) s) fun t => t.str.role = some .standbyPair ∧ t.pair.ownOut = false ∧ t.pair.contestLost = true) ∧
  (∀ (s : State) (b : Bytes) (r : MirrorRx), Partnered 7 b r s → isSp s = true → s.pair.partner = .admitted → getN r.payload 8 1 = 0 →
    Completes (exec (.handoverReceived b) s) fun t => t.pair.hTick = some (getN r.payload 0 8) ∧ t.pair.hYields = false ∧ t.pair.hAccepted = true ∧
      t.str.role = s.str.role ∧ t.pair.ownOut = s.pair.ownOut) ∧
  (∀ (s : State) (b : Bytes) (r : MirrorRx) (q : HostReq), Partnered 7 b r s → getN r.payload 8 1 = 1 → s.pair.hYields = true →
    s.pair.hTick = some (getN r.payload 0 8) → s.pair.hAccepted = false → s.pair.hReq = some q → isSp s = false →
    Completes (exec (.handoverReceived b) s) fun t => Answered q q.code stOk [] s t ∧ t.pair.hAccepted = true ∧ t.pair.hReq = none) ∧
  (∀ (s : State) (q : HostReq), running s = true → s.pair.hYields = true → s.pair.hTick ≠ none → s.pair.hAccepted = false →
    elapsed s s.pair.hSentAt (msNs 5) = true → s.pair.hThen = 0 → s.pair.hReq = some q →
    Completes (exec .handoverAcceptTimeout s) fun t => Answered q q.code stState [] s t ∧ t.pair.hTick = none ∧ t.pair.hYields = false ∧
      t.pair.hReq = none ∧ t.str = s.str) ∧
  (∀ (s : State) (h : Nat), s.pair.hTick = some h → running s = true → h ≤ s.tb.time → s.pair.hAccepted = true → s.pair.hYields = true → s.pair.hThen = 0 →
    Completes (exec .handoverTick s) fun t => t.pair.hTick = none ∧ t.pair.ownOut = false ∧ t.str.role = some .standbyPair ∧ t.pair.partner = .admitted ∧
      t.str.mirrored = true ∧ (∀ g ∈ t.pins.gate, g = .dark) ∧ coilsDriven t = false ∧ t.str.state = s.str.state) ∧
  (∀ (s : State) (h : Nat), s.pair.hTick = some h → running s = true → h ≤ s.tb.time → s.pair.hAccepted = true → s.pair.hYields = false →
    Completes (exec .handoverTick s) fun t => t.pair.hTick = none ∧ t.pair.ownOut = true ∧ t.str.role = some .active ∧ t.pair.partner = .admitted ∧
      t.pair.takeover = some (s.tick.now, 2) ∧ t.str.state = s.str.state)

/-- R35, R128, R131, R441, R542: after reset the string is in DAWN at its first step with every output off, no session, no
latched cause, no command waiting, the memories in order, and the fuses within their bounds. -/
def Obligations.ResetState : Prop :=
  State.reset.str.state = .dawn ∧ State.reset.dawn.step = some 0 ∧ State.reset.str.causes = [] ∧ coilsDriven State.reset = false ∧
    (∀ g ∈ State.reset.pins.gate, g = .dark) ∧ State.reset.pins.sklTx = false ∧ State.reset.prot.safeOut = false ∧
    State.reset.prot.imdOk = false ∧ State.reset.pair.ownOut = false ∧ (∀ x, some x ∉ State.reset.host.sessions) ∧
    State.reset.pending = [] ∧ FusesOk State.reset

/-- Every command has an effect the spec gives it, so every step answers a next state, and it takes one command from the front of
the queue and none is added (the queue is the model's: assumption 1). -/
def Obligations.EveryStepTakesOneCommand : Prop :=
  ∀ s : State, ∃ t, step s = .next t ∧ t.pending = s.pending.tail

/-- What each command leaves alone: every part of the state that `mayChange` does not list for it. -/
def Obligations.CommandsKeepTheirParts : Prop :=
  ∀ (i : Instr) (s t : State), exec i s = .next t → Frame (mayChange i) s t

/-- R542: the fuses hold four key hashes, four revoke bits and a counter of 0 to 64; a fuse is blown only at the confirmation of a trial, and none is ever
restored; every step keeps this. -/
def Obligations.FusesAreBlownOnlyAtConfirmation : Prop :=
  (∀ (i : Instr) (s t : State), exec i s = .next t → i ≠ .updTrialConfirm →
    t.upd.counter = s.upd.counter ∧ t.upd.revoked = s.upd.revoked ∧ t.upd.keyHash = s.upd.keyHash) ∧
  (∀ s t : State, exec .updTrialConfirm s = .next t → s.upd.counter ≤ t.upd.counter ∧
    (∀ k, bitAt s.upd.revoked k = true → bitAt t.upd.revoked k = true) ∧ t.upd.keyHash = s.upd.keyHash ∧
    ((fwSlot s s.upd.running).st ≠ 3 → t.upd.counter = s.upd.counter ∧ t.upd.revoked = s.upd.revoked)) ∧
  (∀ s t : State, FusesOk s → step s = .next t → FusesOk t)

/-- R151: outside Dawn no command changes a parameter of the accepted image; a command that begins a new Dawn drops the image, which
only D5 of that Dawn reads again. -/
def Obligations.ConfigurationIsKeptOrDropped : Prop :=
  ∀ (i : Instr) (s t : State), exec i s = .next t → inDawn s = false → t.cfg = s.cfg ∨ t.cfg = State.reset.cfg

/-- R45: a Twilight cause raised outside RUN and TWILIGHT arms and leaves the state; START with one armed and no count remaining is
answered FAULT. -/
def Obligations.TwilightCauseOutsideRun : Prop :=
  (∀ (s : State) (bit : Nat), bit < s.prot.twilight.length → s.str.state ≠ .run → s.str.state ≠ .twilight →
    twArmed (raiseTw bit s) = true ∧ (raiseTw bit s).str.state = s.str.state ∧ (raiseTw bit s).str.triggers = s.str.triggers) ∧
  (∀ (s : State) (r : HostReq), Admitted 1 r s → r.args = [] → legalCmd 0x0201 s = true → twArmed s = true → twLeft s = 0 →
    Completes (exec (.start r) s) fun t => Answered r 0x0201 stFault [] s t ∧ t.str = s.str)

/-- R178: a snapshot request while a snapshot runs is answered BUSY and changes neither the snapshot nor the schedule. -/
def Obligations.SnapshotRequestWhileBusy : Prop :=
  ∀ (s : State) (r : HostReq) (x : Nat × Nat), s.skl.onDemand = some x →
    Completes (exec (.onDemandSnapshotRequest r) s) fun t => Answered r r.code stBusy [] s t ∧ t.skl = s.skl ∧ t.tick = s.tick
end

