-- ==== Sys2Proof/Laws/State.lean ====
section
/-! SUPPORT. One lemma per part of the state and per update of a part: the updated part is the function of the old
one, every other part is the old one. All hold by unfolding. -/
namespace Sys2Proof.Machine

section
variable (g : TickSt → TickSt) (s : State)
@[simp] theorem onTick_tick : (onTick g s).tick = g s.tick := rfl
@[simp] theorem onTick_str : (onTick g s).str = s.str := rfl
@[simp] theorem onTick_pins : (onTick g s).pins = s.pins := rfl
@[simp] theorem onTick_pwr : (onTick g s).pwr = s.pwr := rfl
@[simp] theorem onTick_tb : (onTick g s).tb = s.tb := rfl
@[simp] theorem onTick_dawn : (onTick g s).dawn = s.dawn := rfl
@[simp] theorem onTick_idn : (onTick g s).idn = s.idn := rfl
@[simp] theorem onTick_cfg : (onTick g s).cfg = s.cfg := rfl
@[simp] theorem onTick_met : (onTick g s).met = s.met := rfl
@[simp] theorem onTick_skl : (onTick g s).skl = s.skl := rfl
@[simp] theorem onTick_tab : (onTick g s).tab = s.tab := rfl
@[simp] theorem onTick_est : (onTick g s).est = s.est := rfl
@[simp] theorem onTick_jrn : (onTick g s).jrn = s.jrn := rfl
@[simp] theorem onTick_imp : (onTick g s).imp = s.imp := rfl
@[simp] theorem onTick_cnv : (onTick g s).cnv = s.cnv := rfl
@[simp] theorem onTick_dsp : (onTick g s).dsp = s.dsp := rfl
@[simp] theorem onTick_bal : (onTick g s).bal = s.bal := rfl
@[simp] theorem onTick_thm : (onTick g s).thm = s.thm := rfl
@[simp] theorem onTick_prot : (onTick g s).prot = s.prot := rfl
@[simp] theorem onTick_cont : (onTick g s).cont = s.cont := rfl
@[simp] theorem onTick_iso : (onTick g s).iso = s.iso := rfl
@[simp] theorem onTick_pair : (onTick g s).pair = s.pair := rfl
@[simp] theorem onTick_host : (onTick g s).host = s.host := rfl
@[simp] theorem onTick_ops : (onTick g s).ops = s.ops := rfl
@[simp] theorem onTick_irq : (onTick g s).irq = s.irq := rfl
@[simp] theorem onTick_rings : (onTick g s).rings = s.rings := rfl
@[simp] theorem onTick_rcd : (onTick g s).rcd = s.rcd := rfl
@[simp] theorem onTick_can : (onTick g s).can = s.can := rfl
@[simp] theorem onTick_hlth : (onTick g s).hlth = s.hlth := rfl
@[simp] theorem onTick_lad : (onTick g s).lad = s.lad := rfl
@[simp] theorem onTick_upd : (onTick g s).upd = s.upd := rfl
@[simp] theorem onTick_jtag : (onTick g s).jtag = s.jtag := rfl
@[simp] theorem onTick_out : (onTick g s).out = s.out := rfl
@[simp] theorem onTick_pending : (onTick g s).pending = s.pending := rfl
@[simp] theorem onTick_fresh : (onTick g s).fresh = s.fresh := rfl
end

section
variable (g : StringSt → StringSt) (s : State)
@[simp] theorem onStr_tick : (onStr g s).tick = s.tick := rfl
@[simp] theorem onStr_str : (onStr g s).str = g s.str := rfl
@[simp] theorem onStr_pins : (onStr g s).pins = s.pins := rfl
@[simp] theorem onStr_pwr : (onStr g s).pwr = s.pwr := rfl
@[simp] theorem onStr_tb : (onStr g s).tb = s.tb := rfl
@[simp] theorem onStr_dawn : (onStr g s).dawn = s.dawn := rfl
@[simp] theorem onStr_idn : (onStr g s).idn = s.idn := rfl
@[simp] theorem onStr_cfg : (onStr g s).cfg = s.cfg := rfl
@[simp] theorem onStr_met : (onStr g s).met = s.met := rfl
@[simp] theorem onStr_skl : (onStr g s).skl = s.skl := rfl
@[simp] theorem onStr_tab : (onStr g s).tab = s.tab := rfl
@[simp] theorem onStr_est : (onStr g s).est = s.est := rfl
@[simp] theorem onStr_jrn : (onStr g s).jrn = s.jrn := rfl
@[simp] theorem onStr_imp : (onStr g s).imp = s.imp := rfl
@[simp] theorem onStr_cnv : (onStr g s).cnv = s.cnv := rfl
@[simp] theorem onStr_dsp : (onStr g s).dsp = s.dsp := rfl
@[simp] theorem onStr_bal : (onStr g s).bal = s.bal := rfl
@[simp] theorem onStr_thm : (onStr g s).thm = s.thm := rfl
@[simp] theorem onStr_prot : (onStr g s).prot = s.prot := rfl
@[simp] theorem onStr_cont : (onStr g s).cont = s.cont := rfl
@[simp] theorem onStr_iso : (onStr g s).iso = s.iso := rfl
@[simp] theorem onStr_pair : (onStr g s).pair = s.pair := rfl
@[simp] theorem onStr_host : (onStr g s).host = s.host := rfl
@[simp] theorem onStr_ops : (onStr g s).ops = s.ops := rfl
@[simp] theorem onStr_irq : (onStr g s).irq = s.irq := rfl
@[simp] theorem onStr_rings : (onStr g s).rings = s.rings := rfl
@[simp] theorem onStr_rcd : (onStr g s).rcd = s.rcd := rfl
@[simp] theorem onStr_can : (onStr g s).can = s.can := rfl
@[simp] theorem onStr_hlth : (onStr g s).hlth = s.hlth := rfl
@[simp] theorem onStr_lad : (onStr g s).lad = s.lad := rfl
@[simp] theorem onStr_upd : (onStr g s).upd = s.upd := rfl
@[simp] theorem onStr_jtag : (onStr g s).jtag = s.jtag := rfl
@[simp] theorem onStr_out : (onStr g s).out = s.out := rfl
@[simp] theorem onStr_pending : (onStr g s).pending = s.pending := rfl
@[simp] theorem onStr_fresh : (onStr g s).fresh = s.fresh := rfl
end

section
variable (g : PinSt → PinSt) (s : State)
@[simp] theorem onPins_tick : (onPins g s).tick = s.tick := rfl
@[simp] theorem onPins_str : (onPins g s).str = s.str := rfl
@[simp] theorem onPins_pins : (onPins g s).pins = g s.pins := rfl
@[simp] theorem onPins_pwr : (onPins g s).pwr = s.pwr := rfl
@[simp] theorem onPins_tb : (onPins g s).tb = s.tb := rfl
@[simp] theorem onPins_dawn : (onPins g s).dawn = s.dawn := rfl
@[simp] theorem onPins_idn : (onPins g s).idn = s.idn := rfl
@[simp] theorem onPins_cfg : (onPins g s).cfg = s.cfg := rfl
@[simp] theorem onPins_met : (onPins g s).met = s.met := rfl
@[simp] theorem onPins_skl : (onPins g s).skl = s.skl := rfl
@[simp] theorem onPins_tab : (onPins g s).tab = s.tab := rfl
@[simp] theorem onPins_est : (onPins g s).est = s.est := rfl
@[simp] theorem onPins_jrn : (onPins g s).jrn = s.jrn := rfl
@[simp] theorem onPins_imp : (onPins g s).imp = s.imp := rfl
@[simp] theorem onPins_cnv : (onPins g s).cnv = s.cnv := rfl
@[simp] theorem onPins_dsp : (onPins g s).dsp = s.dsp := rfl
@[simp] theorem onPins_bal : (onPins g s).bal = s.bal := rfl
@[simp] theorem onPins_thm : (onPins g s).thm = s.thm := rfl
@[simp] theorem onPins_prot : (onPins g s).prot = s.prot := rfl
@[simp] theorem onPins_cont : (onPins g s).cont = s.cont := rfl
@[simp] theorem onPins_iso : (onPins g s).iso = s.iso := rfl
@[simp] theorem onPins_pair : (onPins g s).pair = s.pair := rfl
@[simp] theorem onPins_host : (onPins g s).host = s.host := rfl
@[simp] theorem onPins_ops : (onPins g s).ops = s.ops := rfl
@[simp] theorem onPins_irq : (onPins g s).irq = s.irq := rfl
@[simp] theorem onPins_rings : (onPins g s).rings = s.rings := rfl
@[simp] theorem onPins_rcd : (onPins g s).rcd = s.rcd := rfl
@[simp] theorem onPins_can : (onPins g s).can = s.can := rfl
@[simp] theorem onPins_hlth : (onPins g s).hlth = s.hlth := rfl
@[simp] theorem onPins_lad : (onPins g s).lad = s.lad := rfl
@[simp] theorem onPins_upd : (onPins g s).upd = s.upd := rfl
@[simp] theorem onPins_jtag : (onPins g s).jtag = s.jtag := rfl
@[simp] theorem onPins_out : (onPins g s).out = s.out := rfl
@[simp] theorem onPins_pending : (onPins g s).pending = s.pending := rfl
@[simp] theorem onPins_fresh : (onPins g s).fresh = s.fresh := rfl
end

section
variable (g : PowerSt → PowerSt) (s : State)
@[simp] theorem onPwr_tick : (onPwr g s).tick = s.tick := rfl
@[simp] theorem onPwr_str : (onPwr g s).str = s.str := rfl
@[simp] theorem onPwr_pins : (onPwr g s).pins = s.pins := rfl
@[simp] theorem onPwr_pwr : (onPwr g s).pwr = g s.pwr := rfl
@[simp] theorem onPwr_tb : (onPwr g s).tb = s.tb := rfl
@[simp] theorem onPwr_dawn : (onPwr g s).dawn = s.dawn := rfl
@[simp] theorem onPwr_idn : (onPwr g s).idn = s.idn := rfl
@[simp] theorem onPwr_cfg : (onPwr g s).cfg = s.cfg := rfl
@[simp] theorem onPwr_met : (onPwr g s).met = s.met := rfl
@[simp] theorem onPwr_skl : (onPwr g s).skl = s.skl := rfl
@[simp] theorem onPwr_tab : (onPwr g s).tab = s.tab := rfl
@[simp] theorem onPwr_est : (onPwr g s).est = s.est := rfl
@[simp] theorem onPwr_jrn : (onPwr g s).jrn = s.jrn := rfl
@[simp] theorem onPwr_imp : (onPwr g s).imp = s.imp := rfl
@[simp] theorem onPwr_cnv : (onPwr g s).cnv = s.cnv := rfl
@[simp] theorem onPwr_dsp : (onPwr g s).dsp = s.dsp := rfl
@[simp] theorem onPwr_bal : (onPwr g s).bal = s.bal := rfl
@[simp] theorem onPwr_thm : (onPwr g s).thm = s.thm := rfl
@[simp] theorem onPwr_prot : (onPwr g s).prot = s.prot := rfl
@[simp] theorem onPwr_cont : (onPwr g s).cont = s.cont := rfl
@[simp] theorem onPwr_iso : (onPwr g s).iso = s.iso := rfl
@[simp] theorem onPwr_pair : (onPwr g s).pair = s.pair := rfl
@[simp] theorem onPwr_host : (onPwr g s).host = s.host := rfl
@[simp] theorem onPwr_ops : (onPwr g s).ops = s.ops := rfl
@[simp] theorem onPwr_irq : (onPwr g s).irq = s.irq := rfl
@[simp] theorem onPwr_rings : (onPwr g s).rings = s.rings := rfl
@[simp] theorem onPwr_rcd : (onPwr g s).rcd = s.rcd := rfl
@[simp] theorem onPwr_can : (onPwr g s).can = s.can := rfl
@[simp] theorem onPwr_hlth : (onPwr g s).hlth = s.hlth := rfl
@[simp] theorem onPwr_lad : (onPwr g s).lad = s.lad := rfl
@[simp] theorem onPwr_upd : (onPwr g s).upd = s.upd := rfl
@[simp] theorem onPwr_jtag : (onPwr g s).jtag = s.jtag := rfl
@[simp] theorem onPwr_out : (onPwr g s).out = s.out := rfl
@[simp] theorem onPwr_pending : (onPwr g s).pending = s.pending := rfl
@[simp] theorem onPwr_fresh : (onPwr g s).fresh = s.fresh := rfl
end

section
variable (g : TimeSt → TimeSt) (s : State)
@[simp] theorem onTb_tick : (onTb g s).tick = s.tick := rfl
@[simp] theorem onTb_str : (onTb g s).str = s.str := rfl
@[simp] theorem onTb_pins : (onTb g s).pins = s.pins := rfl
@[simp] theorem onTb_pwr : (onTb g s).pwr = s.pwr := rfl
@[simp] theorem onTb_tb : (onTb g s).tb = g s.tb := rfl
@[simp] theorem onTb_dawn : (onTb g s).dawn = s.dawn := rfl
@[simp] theorem onTb_idn : (onTb g s).idn = s.idn := rfl
@[simp] theorem onTb_cfg : (onTb g s).cfg = s.cfg := rfl
@[simp] theorem onTb_met : (onTb g s).met = s.met := rfl
@[simp] theorem onTb_skl : (onTb g s).skl = s.skl := rfl
@[simp] theorem onTb_tab : (onTb g s).tab = s.tab := rfl
@[simp] theorem onTb_est : (onTb g s).est = s.est := rfl
@[simp] theorem onTb_jrn : (onTb g s).jrn = s.jrn := rfl
@[simp] theorem onTb_imp : (onTb g s).imp = s.imp := rfl
@[simp] theorem onTb_cnv : (onTb g s).cnv = s.cnv := rfl
@[simp] theorem onTb_dsp : (onTb g s).dsp = s.dsp := rfl
@[simp] theorem onTb_bal : (onTb g s).bal = s.bal := rfl
@[simp] theorem onTb_thm : (onTb g s).thm = s.thm := rfl
@[simp] theorem onTb_prot : (onTb g s).prot = s.prot := rfl
@[simp] theorem onTb_cont : (onTb g s).cont = s.cont := rfl
@[simp] theorem onTb_iso : (onTb g s).iso = s.iso := rfl
@[simp] theorem onTb_pair : (onTb g s).pair = s.pair := rfl
@[simp] theorem onTb_host : (onTb g s).host = s.host := rfl
@[simp] theorem onTb_ops : (onTb g s).ops = s.ops := rfl
@[simp] theorem onTb_irq : (onTb g s).irq = s.irq := rfl
@[simp] theorem onTb_rings : (onTb g s).rings = s.rings := rfl
@[simp] theorem onTb_rcd : (onTb g s).rcd = s.rcd := rfl
@[simp] theorem onTb_can : (onTb g s).can = s.can := rfl
@[simp] theorem onTb_hlth : (onTb g s).hlth = s.hlth := rfl
@[simp] theorem onTb_lad : (onTb g s).lad = s.lad := rfl
@[simp] theorem onTb_upd : (onTb g s).upd = s.upd := rfl
@[simp] theorem onTb_jtag : (onTb g s).jtag = s.jtag := rfl
@[simp] theorem onTb_out : (onTb g s).out = s.out := rfl
@[simp] theorem onTb_pending : (onTb g s).pending = s.pending := rfl
@[simp] theorem onTb_fresh : (onTb g s).fresh = s.fresh := rfl
end

section
variable (g : DawnSt → DawnSt) (s : State)
@[simp] theorem onDawn_tick : (onDawn g s).tick = s.tick := rfl
@[simp] theorem onDawn_str : (onDawn g s).str = s.str := rfl
@[simp] theorem onDawn_pins : (onDawn g s).pins = s.pins := rfl
@[simp] theorem onDawn_pwr : (onDawn g s).pwr = s.pwr := rfl
@[simp] theorem onDawn_tb : (onDawn g s).tb = s.tb := rfl
@[simp] theorem onDawn_dawn : (onDawn g s).dawn = g s.dawn := rfl
@[simp] theorem onDawn_idn : (onDawn g s).idn = s.idn := rfl
@[simp] theorem onDawn_cfg : (onDawn g s).cfg = s.cfg := rfl
@[simp] theorem onDawn_met : (onDawn g s).met = s.met := rfl
@[simp] theorem onDawn_skl : (onDawn g s).skl = s.skl := rfl
@[simp] theorem onDawn_tab : (onDawn g s).tab = s.tab := rfl
@[simp] theorem onDawn_est : (onDawn g s).est = s.est := rfl
@[simp] theorem onDawn_jrn : (onDawn g s).jrn = s.jrn := rfl
@[simp] theorem onDawn_imp : (onDawn g s).imp = s.imp := rfl
@[simp] theorem onDawn_cnv : (onDawn g s).cnv = s.cnv := rfl
@[simp] theorem onDawn_dsp : (onDawn g s).dsp = s.dsp := rfl
@[simp] theorem onDawn_bal : (onDawn g s).bal = s.bal := rfl
@[simp] theorem onDawn_thm : (onDawn g s).thm = s.thm := rfl
@[simp] theorem onDawn_prot : (onDawn g s).prot = s.prot := rfl
@[simp] theorem onDawn_cont : (onDawn g s).cont = s.cont := rfl
@[simp] theorem onDawn_iso : (onDawn g s).iso = s.iso := rfl
@[simp] theorem onDawn_pair : (onDawn g s).pair = s.pair := rfl
@[simp] theorem onDawn_host : (onDawn g s).host = s.host := rfl
@[simp] theorem onDawn_ops : (onDawn g s).ops = s.ops := rfl
@[simp] theorem onDawn_irq : (onDawn g s).irq = s.irq := rfl
@[simp] theorem onDawn_rings : (onDawn g s).rings = s.rings := rfl
@[simp] theorem onDawn_rcd : (onDawn g s).rcd = s.rcd := rfl
@[simp] theorem onDawn_can : (onDawn g s).can = s.can := rfl
@[simp] theorem onDawn_hlth : (onDawn g s).hlth = s.hlth := rfl
@[simp] theorem onDawn_lad : (onDawn g s).lad = s.lad := rfl
@[simp] theorem onDawn_upd : (onDawn g s).upd = s.upd := rfl
@[simp] theorem onDawn_jtag : (onDawn g s).jtag = s.jtag := rfl
@[simp] theorem onDawn_out : (onDawn g s).out = s.out := rfl
@[simp] theorem onDawn_pending : (onDawn g s).pending = s.pending := rfl
@[simp] theorem onDawn_fresh : (onDawn g s).fresh = s.fresh := rfl
end

section
variable (g : IdentSt → IdentSt) (s : State)
@[simp] theorem onIdn_tick : (onIdn g s).tick = s.tick := rfl
@[simp] theorem onIdn_str : (onIdn g s).str = s.str := rfl
@[simp] theorem onIdn_pins : (onIdn g s).pins = s.pins := rfl
@[simp] theorem onIdn_pwr : (onIdn g s).pwr = s.pwr := rfl
@[simp] theorem onIdn_tb : (onIdn g s).tb = s.tb := rfl
@[simp] theorem onIdn_dawn : (onIdn g s).dawn = s.dawn := rfl
@[simp] theorem onIdn_idn : (onIdn g s).idn = g s.idn := rfl
@[simp] theorem onIdn_cfg : (onIdn g s).cfg = s.cfg := rfl
@[simp] theorem onIdn_met : (onIdn g s).met = s.met := rfl
@[simp] theorem onIdn_skl : (onIdn g s).skl = s.skl := rfl
@[simp] theorem onIdn_tab : (onIdn g s).tab = s.tab := rfl
@[simp] theorem onIdn_est : (onIdn g s).est = s.est := rfl
@[simp] theorem onIdn_jrn : (onIdn g s).jrn = s.jrn := rfl
@[simp] theorem onIdn_imp : (onIdn g s).imp = s.imp := rfl
@[simp] theorem onIdn_cnv : (onIdn g s).cnv = s.cnv := rfl
@[simp] theorem onIdn_dsp : (onIdn g s).dsp = s.dsp := rfl
@[simp] theorem onIdn_bal : (onIdn g s).bal = s.bal := rfl
@[simp] theorem onIdn_thm : (onIdn g s).thm = s.thm := rfl
@[simp] theorem onIdn_prot : (onIdn g s).prot = s.prot := rfl
@[simp] theorem onIdn_cont : (onIdn g s).cont = s.cont := rfl
@[simp] theorem onIdn_iso : (onIdn g s).iso = s.iso := rfl
@[simp] theorem onIdn_pair : (onIdn g s).pair = s.pair := rfl
@[simp] theorem onIdn_host : (onIdn g s).host = s.host := rfl
@[simp] theorem onIdn_ops : (onIdn g s).ops = s.ops := rfl
@[simp] theorem onIdn_irq : (onIdn g s).irq = s.irq := rfl
@[simp] theorem onIdn_rings : (onIdn g s).rings = s.rings := rfl
@[simp] theorem onIdn_rcd : (onIdn g s).rcd = s.rcd := rfl
@[simp] theorem onIdn_can : (onIdn g s).can = s.can := rfl
@[simp] theorem onIdn_hlth : (onIdn g s).hlth = s.hlth := rfl
@[simp] theorem onIdn_lad : (onIdn g s).lad = s.lad := rfl
@[simp] theorem onIdn_upd : (onIdn g s).upd = s.upd := rfl
@[simp] theorem onIdn_jtag : (onIdn g s).jtag = s.jtag := rfl
@[simp] theorem onIdn_out : (onIdn g s).out = s.out := rfl
@[simp] theorem onIdn_pending : (onIdn g s).pending = s.pending := rfl
@[simp] theorem onIdn_fresh : (onIdn g s).fresh = s.fresh := rfl
end

section
variable (g : PlugCfg → PlugCfg) (s : State)
@[simp] theorem onCfg_tick : (onCfg g s).tick = s.tick := rfl
@[simp] theorem onCfg_str : (onCfg g s).str = s.str := rfl
@[simp] theorem onCfg_pins : (onCfg g s).pins = s.pins := rfl
@[simp] theorem onCfg_pwr : (onCfg g s).pwr = s.pwr := rfl
@[simp] theorem onCfg_tb : (onCfg g s).tb = s.tb := rfl
@[simp] theorem onCfg_dawn : (onCfg g s).dawn = s.dawn := rfl
@[simp] theorem onCfg_idn : (onCfg g s).idn = s.idn := rfl
@[simp] theorem onCfg_cfg : (onCfg g s).cfg = g s.cfg := rfl
@[simp] theorem onCfg_met : (onCfg g s).met = s.met := rfl
@[simp] theorem onCfg_skl : (onCfg g s).skl = s.skl := rfl
@[simp] theorem onCfg_tab : (onCfg g s).tab = s.tab := rfl
@[simp] theorem onCfg_est : (onCfg g s).est = s.est := rfl
@[simp] theorem onCfg_jrn : (onCfg g s).jrn = s.jrn := rfl
@[simp] theorem onCfg_imp : (onCfg g s).imp = s.imp := rfl
@[simp] theorem onCfg_cnv : (onCfg g s).cnv = s.cnv := rfl
@[simp] theorem onCfg_dsp : (onCfg g s).dsp = s.dsp := rfl
@[simp] theorem onCfg_bal : (onCfg g s).bal = s.bal := rfl
@[simp] theorem onCfg_thm : (onCfg g s).thm = s.thm := rfl
@[simp] theorem onCfg_prot : (onCfg g s).prot = s.prot := rfl
@[simp] theorem onCfg_cont : (onCfg g s).cont = s.cont := rfl
@[simp] theorem onCfg_iso : (onCfg g s).iso = s.iso := rfl
@[simp] theorem onCfg_pair : (onCfg g s).pair = s.pair := rfl
@[simp] theorem onCfg_host : (onCfg g s).host = s.host := rfl
@[simp] theorem onCfg_ops : (onCfg g s).ops = s.ops := rfl
@[simp] theorem onCfg_irq : (onCfg g s).irq = s.irq := rfl
@[simp] theorem onCfg_rings : (onCfg g s).rings = s.rings := rfl
@[simp] theorem onCfg_rcd : (onCfg g s).rcd = s.rcd := rfl
@[simp] theorem onCfg_can : (onCfg g s).can = s.can := rfl
@[simp] theorem onCfg_hlth : (onCfg g s).hlth = s.hlth := rfl
@[simp] theorem onCfg_lad : (onCfg g s).lad = s.lad := rfl
@[simp] theorem onCfg_upd : (onCfg g s).upd = s.upd := rfl
@[simp] theorem onCfg_jtag : (onCfg g s).jtag = s.jtag := rfl
@[simp] theorem onCfg_out : (onCfg g s).out = s.out := rfl
@[simp] theorem onCfg_pending : (onCfg g s).pending = s.pending := rfl
@[simp] theorem onCfg_fresh : (onCfg g s).fresh = s.fresh := rfl
end

section
variable (g : MetSt → MetSt) (s : State)
@[simp] theorem onMet_tick : (onMet g s).tick = s.tick := rfl
@[simp] theorem onMet_str : (onMet g s).str = s.str := rfl
@[simp] theorem onMet_pins : (onMet g s).pins = s.pins := rfl
@[simp] theorem onMet_pwr : (onMet g s).pwr = s.pwr := rfl
@[simp] theorem onMet_tb : (onMet g s).tb = s.tb := rfl
@[simp] theorem onMet_dawn : (onMet g s).dawn = s.dawn := rfl
@[simp] theorem onMet_idn : (onMet g s).idn = s.idn := rfl
@[simp] theorem onMet_cfg : (onMet g s).cfg = s.cfg := rfl
@[simp] theorem onMet_met : (onMet g s).met = g s.met := rfl
@[simp] theorem onMet_skl : (onMet g s).skl = s.skl := rfl
@[simp] theorem onMet_tab : (onMet g s).tab = s.tab := rfl
@[simp] theorem onMet_est : (onMet g s).est = s.est := rfl
@[simp] theorem onMet_jrn : (onMet g s).jrn = s.jrn := rfl
@[simp] theorem onMet_imp : (onMet g s).imp = s.imp := rfl
@[simp] theorem onMet_cnv : (onMet g s).cnv = s.cnv := rfl
@[simp] theorem onMet_dsp : (onMet g s).dsp = s.dsp := rfl
@[simp] theorem onMet_bal : (onMet g s).bal = s.bal := rfl
@[simp] theorem onMet_thm : (onMet g s).thm = s.thm := rfl
@[simp] theorem onMet_prot : (onMet g s).prot = s.prot := rfl
@[simp] theorem onMet_cont : (onMet g s).cont = s.cont := rfl
@[simp] theorem onMet_iso : (onMet g s).iso = s.iso := rfl
@[simp] theorem onMet_pair : (onMet g s).pair = s.pair := rfl
@[simp] theorem onMet_host : (onMet g s).host = s.host := rfl
@[simp] theorem onMet_ops : (onMet g s).ops = s.ops := rfl
@[simp] theorem onMet_irq : (onMet g s).irq = s.irq := rfl
@[simp] theorem onMet_rings : (onMet g s).rings = s.rings := rfl
@[simp] theorem onMet_rcd : (onMet g s).rcd = s.rcd := rfl
@[simp] theorem onMet_can : (onMet g s).can = s.can := rfl
@[simp] theorem onMet_hlth : (onMet g s).hlth = s.hlth := rfl
@[simp] theorem onMet_lad : (onMet g s).lad = s.lad := rfl
@[simp] theorem onMet_upd : (onMet g s).upd = s.upd := rfl
@[simp] theorem onMet_jtag : (onMet g s).jtag = s.jtag := rfl
@[simp] theorem onMet_out : (onMet g s).out = s.out := rfl
@[simp] theorem onMet_pending : (onMet g s).pending = s.pending := rfl
@[simp] theorem onMet_fresh : (onMet g s).fresh = s.fresh := rfl
end

section
variable (g : LinkSt → LinkSt) (s : State)
@[simp] theorem onSkl_tick : (onSkl g s).tick = s.tick := rfl
@[simp] theorem onSkl_str : (onSkl g s).str = s.str := rfl
@[simp] theorem onSkl_pins : (onSkl g s).pins = s.pins := rfl
@[simp] theorem onSkl_pwr : (onSkl g s).pwr = s.pwr := rfl
@[simp] theorem onSkl_tb : (onSkl g s).tb = s.tb := rfl
@[simp] theorem onSkl_dawn : (onSkl g s).dawn = s.dawn := rfl
@[simp] theorem onSkl_idn : (onSkl g s).idn = s.idn := rfl
@[simp] theorem onSkl_cfg : (onSkl g s).cfg = s.cfg := rfl
@[simp] theorem onSkl_met : (onSkl g s).met = s.met := rfl
@[simp] theorem onSkl_skl : (onSkl g s).skl = g s.skl := rfl
@[simp] theorem onSkl_tab : (onSkl g s).tab = s.tab := rfl
@[simp] theorem onSkl_est : (onSkl g s).est = s.est := rfl
@[simp] theorem onSkl_jrn : (onSkl g s).jrn = s.jrn := rfl
@[simp] theorem onSkl_imp : (onSkl g s).imp = s.imp := rfl
@[simp] theorem onSkl_cnv : (onSkl g s).cnv = s.cnv := rfl
@[simp] theorem onSkl_dsp : (onSkl g s).dsp = s.dsp := rfl
@[simp] theorem onSkl_bal : (onSkl g s).bal = s.bal := rfl
@[simp] theorem onSkl_thm : (onSkl g s).thm = s.thm := rfl
@[simp] theorem onSkl_prot : (onSkl g s).prot = s.prot := rfl
@[simp] theorem onSkl_cont : (onSkl g s).cont = s.cont := rfl
@[simp] theorem onSkl_iso : (onSkl g s).iso = s.iso := rfl
@[simp] theorem onSkl_pair : (onSkl g s).pair = s.pair := rfl
@[simp] theorem onSkl_host : (onSkl g s).host = s.host := rfl
@[simp] theorem onSkl_ops : (onSkl g s).ops = s.ops := rfl
@[simp] theorem onSkl_irq : (onSkl g s).irq = s.irq := rfl
@[simp] theorem onSkl_rings : (onSkl g s).rings = s.rings := rfl
@[simp] theorem onSkl_rcd : (onSkl g s).rcd = s.rcd := rfl
@[simp] theorem onSkl_can : (onSkl g s).can = s.can := rfl
@[simp] theorem onSkl_hlth : (onSkl g s).hlth = s.hlth := rfl
@[simp] theorem onSkl_lad : (onSkl g s).lad = s.lad := rfl
@[simp] theorem onSkl_upd : (onSkl g s).upd = s.upd := rfl
@[simp] theorem onSkl_jtag : (onSkl g s).jtag = s.jtag := rfl
@[simp] theorem onSkl_out : (onSkl g s).out = s.out := rfl
@[simp] theorem onSkl_pending : (onSkl g s).pending = s.pending := rfl
@[simp] theorem onSkl_fresh : (onSkl g s).fresh = s.fresh := rfl
end

section
variable (g : TableSt → TableSt) (s : State)
@[simp] theorem onTab_tick : (onTab g s).tick = s.tick := rfl
@[simp] theorem onTab_str : (onTab g s).str = s.str := rfl
@[simp] theorem onTab_pins : (onTab g s).pins = s.pins := rfl
@[simp] theorem onTab_pwr : (onTab g s).pwr = s.pwr := rfl
@[simp] theorem onTab_tb : (onTab g s).tb = s.tb := rfl
@[simp] theorem onTab_dawn : (onTab g s).dawn = s.dawn := rfl
@[simp] theorem onTab_idn : (onTab g s).idn = s.idn := rfl
@[simp] theorem onTab_cfg : (onTab g s).cfg = s.cfg := rfl
@[simp] theorem onTab_met : (onTab g s).met = s.met := rfl
@[simp] theorem onTab_skl : (onTab g s).skl = s.skl := rfl
@[simp] theorem onTab_tab : (onTab g s).tab = g s.tab := rfl
@[simp] theorem onTab_est : (onTab g s).est = s.est := rfl
@[simp] theorem onTab_jrn : (onTab g s).jrn = s.jrn := rfl
@[simp] theorem onTab_imp : (onTab g s).imp = s.imp := rfl
@[simp] theorem onTab_cnv : (onTab g s).cnv = s.cnv := rfl
@[simp] theorem onTab_dsp : (onTab g s).dsp = s.dsp := rfl
@[simp] theorem onTab_bal : (onTab g s).bal = s.bal := rfl
@[simp] theorem onTab_thm : (onTab g s).thm = s.thm := rfl
@[simp] theorem onTab_prot : (onTab g s).prot = s.prot := rfl
@[simp] theorem onTab_cont : (onTab g s).cont = s.cont := rfl
@[simp] theorem onTab_iso : (onTab g s).iso = s.iso := rfl
@[simp] theorem onTab_pair : (onTab g s).pair = s.pair := rfl
@[simp] theorem onTab_host : (onTab g s).host = s.host := rfl
@[simp] theorem onTab_ops : (onTab g s).ops = s.ops := rfl
@[simp] theorem onTab_irq : (onTab g s).irq = s.irq := rfl
@[simp] theorem onTab_rings : (onTab g s).rings = s.rings := rfl
@[simp] theorem onTab_rcd : (onTab g s).rcd = s.rcd := rfl
@[simp] theorem onTab_can : (onTab g s).can = s.can := rfl
@[simp] theorem onTab_hlth : (onTab g s).hlth = s.hlth := rfl
@[simp] theorem onTab_lad : (onTab g s).lad = s.lad := rfl
@[simp] theorem onTab_upd : (onTab g s).upd = s.upd := rfl
@[simp] theorem onTab_jtag : (onTab g s).jtag = s.jtag := rfl
@[simp] theorem onTab_out : (onTab g s).out = s.out := rfl
@[simp] theorem onTab_pending : (onTab g s).pending = s.pending := rfl
@[simp] theorem onTab_fresh : (onTab g s).fresh = s.fresh := rfl
end

section
variable (g : EstSt → EstSt) (s : State)
@[simp] theorem onEst_tick : (onEst g s).tick = s.tick := rfl
@[simp] theorem onEst_str : (onEst g s).str = s.str := rfl
@[simp] theorem onEst_pins : (onEst g s).pins = s.pins := rfl
@[simp] theorem onEst_pwr : (onEst g s).pwr = s.pwr := rfl
@[simp] theorem onEst_tb : (onEst g s).tb = s.tb := rfl
@[simp] theorem onEst_dawn : (onEst g s).dawn = s.dawn := rfl
@[simp] theorem onEst_idn : (onEst g s).idn = s.idn := rfl
@[simp] theorem onEst_cfg : (onEst g s).cfg = s.cfg := rfl
@[simp] theorem onEst_met : (onEst g s).met = s.met := rfl
@[simp] theorem onEst_skl : (onEst g s).skl = s.skl := rfl
@[simp] theorem onEst_tab : (onEst g s).tab = s.tab := rfl
@[simp] theorem onEst_est : (onEst g s).est = g s.est := rfl
@[simp] theorem onEst_jrn : (onEst g s).jrn = s.jrn := rfl
@[simp] theorem onEst_imp : (onEst g s).imp = s.imp := rfl
@[simp] theorem onEst_cnv : (onEst g s).cnv = s.cnv := rfl
@[simp] theorem onEst_dsp : (onEst g s).dsp = s.dsp := rfl
@[simp] theorem onEst_bal : (onEst g s).bal = s.bal := rfl
@[simp] theorem onEst_thm : (onEst g s).thm = s.thm := rfl
@[simp] theorem onEst_prot : (onEst g s).prot = s.prot := rfl
@[simp] theorem onEst_cont : (onEst g s).cont = s.cont := rfl
@[simp] theorem onEst_iso : (onEst g s).iso = s.iso := rfl
@[simp] theorem onEst_pair : (onEst g s).pair = s.pair := rfl
@[simp] theorem onEst_host : (onEst g s).host = s.host := rfl
@[simp] theorem onEst_ops : (onEst g s).ops = s.ops := rfl
@[simp] theorem onEst_irq : (onEst g s).irq = s.irq := rfl
@[simp] theorem onEst_rings : (onEst g s).rings = s.rings := rfl
@[simp] theorem onEst_rcd : (onEst g s).rcd = s.rcd := rfl
@[simp] theorem onEst_can : (onEst g s).can = s.can := rfl
@[simp] theorem onEst_hlth : (onEst g s).hlth = s.hlth := rfl
@[simp] theorem onEst_lad : (onEst g s).lad = s.lad := rfl
@[simp] theorem onEst_upd : (onEst g s).upd = s.upd := rfl
@[simp] theorem onEst_jtag : (onEst g s).jtag = s.jtag := rfl
@[simp] theorem onEst_out : (onEst g s).out = s.out := rfl
@[simp] theorem onEst_pending : (onEst g s).pending = s.pending := rfl
@[simp] theorem onEst_fresh : (onEst g s).fresh = s.fresh := rfl
end

section
variable (g : JournalSt → JournalSt) (s : State)
@[simp] theorem onJrn_tick : (onJrn g s).tick = s.tick := rfl
@[simp] theorem onJrn_str : (onJrn g s).str = s.str := rfl
@[simp] theorem onJrn_pins : (onJrn g s).pins = s.pins := rfl
@[simp] theorem onJrn_pwr : (onJrn g s).pwr = s.pwr := rfl
@[simp] theorem onJrn_tb : (onJrn g s).tb = s.tb := rfl
@[simp] theorem onJrn_dawn : (onJrn g s).dawn = s.dawn := rfl
@[simp] theorem onJrn_idn : (onJrn g s).idn = s.idn := rfl
@[simp] theorem onJrn_cfg : (onJrn g s).cfg = s.cfg := rfl
@[simp] theorem onJrn_met : (onJrn g s).met = s.met := rfl
@[simp] theorem onJrn_skl : (onJrn g s).skl = s.skl := rfl
@[simp] theorem onJrn_tab : (onJrn g s).tab = s.tab := rfl
@[simp] theorem onJrn_est : (onJrn g s).est = s.est := rfl
@[simp] theorem onJrn_jrn : (onJrn g s).jrn = g s.jrn := rfl
@[simp] theorem onJrn_imp : (onJrn g s).imp = s.imp := rfl
@[simp] theorem onJrn_cnv : (onJrn g s).cnv = s.cnv := rfl
@[simp] theorem onJrn_dsp : (onJrn g s).dsp = s.dsp := rfl
@[simp] theorem onJrn_bal : (onJrn g s).bal = s.bal := rfl
@[simp] theorem onJrn_thm : (onJrn g s).thm = s.thm := rfl
@[simp] theorem onJrn_prot : (onJrn g s).prot = s.prot := rfl
@[simp] theorem onJrn_cont : (onJrn g s).cont = s.cont := rfl
@[simp] theorem onJrn_iso : (onJrn g s).iso = s.iso := rfl
@[simp] theorem onJrn_pair : (onJrn g s).pair = s.pair := rfl
@[simp] theorem onJrn_host : (onJrn g s).host = s.host := rfl
@[simp] theorem onJrn_ops : (onJrn g s).ops = s.ops := rfl
@[simp] theorem onJrn_irq : (onJrn g s).irq = s.irq := rfl
@[simp] theorem onJrn_rings : (onJrn g s).rings = s.rings := rfl
@[simp] theorem onJrn_rcd : (onJrn g s).rcd = s.rcd := rfl
@[simp] theorem onJrn_can : (onJrn g s).can = s.can := rfl
@[simp] theorem onJrn_hlth : (onJrn g s).hlth = s.hlth := rfl
@[simp] theorem onJrn_lad : (onJrn g s).lad = s.lad := rfl
@[simp] theorem onJrn_upd : (onJrn g s).upd = s.upd := rfl
@[simp] theorem onJrn_jtag : (onJrn g s).jtag = s.jtag := rfl
@[simp] theorem onJrn_out : (onJrn g s).out = s.out := rfl
@[simp] theorem onJrn_pending : (onJrn g s).pending = s.pending := rfl
@[simp] theorem onJrn_fresh : (onJrn g s).fresh = s.fresh := rfl
end

section
variable (g : ImpSt → ImpSt) (s : State)
@[simp] theorem onImp_tick : (onImp g s).tick = s.tick := rfl
@[simp] theorem onImp_str : (onImp g s).str = s.str := rfl
@[simp] theorem onImp_pins : (onImp g s).pins = s.pins := rfl
@[simp] theorem onImp_pwr : (onImp g s).pwr = s.pwr := rfl
@[simp] theorem onImp_tb : (onImp g s).tb = s.tb := rfl
@[simp] theorem onImp_dawn : (onImp g s).dawn = s.dawn := rfl
@[simp] theorem onImp_idn : (onImp g s).idn = s.idn := rfl
@[simp] theorem onImp_cfg : (onImp g s).cfg = s.cfg := rfl
@[simp] theorem onImp_met : (onImp g s).met = s.met := rfl
@[simp] theorem onImp_skl : (onImp g s).skl = s.skl := rfl
@[simp] theorem onImp_tab : (onImp g s).tab = s.tab := rfl
@[simp] theorem onImp_est : (onImp g s).est = s.est := rfl
@[simp] theorem onImp_jrn : (onImp g s).jrn = s.jrn := rfl
@[simp] theorem onImp_imp : (onImp g s).imp = g s.imp := rfl
@[simp] theorem onImp_cnv : (onImp g s).cnv = s.cnv := rfl
@[simp] theorem onImp_dsp : (onImp g s).dsp = s.dsp := rfl
@[simp] theorem onImp_bal : (onImp g s).bal = s.bal := rfl
@[simp] theorem onImp_thm : (onImp g s).thm = s.thm := rfl
@[simp] theorem onImp_prot : (onImp g s).prot = s.prot := rfl
@[simp] theorem onImp_cont : (onImp g s).cont = s.cont := rfl
@[simp] theorem onImp_iso : (onImp g s).iso = s.iso := rfl
@[simp] theorem onImp_pair : (onImp g s).pair = s.pair := rfl
@[simp] theorem onImp_host : (onImp g s).host = s.host := rfl
@[simp] theorem onImp_ops : (onImp g s).ops = s.ops := rfl
@[simp] theorem onImp_irq : (onImp g s).irq = s.irq := rfl
@[simp] theorem onImp_rings : (onImp g s).rings = s.rings := rfl
@[simp] theorem onImp_rcd : (onImp g s).rcd = s.rcd := rfl
@[simp] theorem onImp_can : (onImp g s).can = s.can := rfl
@[simp] theorem onImp_hlth : (onImp g s).hlth = s.hlth := rfl
@[simp] theorem onImp_lad : (onImp g s).lad = s.lad := rfl
@[simp] theorem onImp_upd : (onImp g s).upd = s.upd := rfl
@[simp] theorem onImp_jtag : (onImp g s).jtag = s.jtag := rfl
@[simp] theorem onImp_out : (onImp g s).out = s.out := rfl
@[simp] theorem onImp_pending : (onImp g s).pending = s.pending := rfl
@[simp] theorem onImp_fresh : (onImp g s).fresh = s.fresh := rfl
end

section
variable (g : ConvSt → ConvSt) (s : State)
@[simp] theorem onCnv_tick : (onCnv g s).tick = s.tick := rfl
@[simp] theorem onCnv_str : (onCnv g s).str = s.str := rfl
@[simp] theorem onCnv_pins : (onCnv g s).pins = s.pins := rfl
@[simp] theorem onCnv_pwr : (onCnv g s).pwr = s.pwr := rfl
@[simp] theorem onCnv_tb : (onCnv g s).tb = s.tb := rfl
@[simp] theorem onCnv_dawn : (onCnv g s).dawn = s.dawn := rfl
@[simp] theorem onCnv_idn : (onCnv g s).idn = s.idn := rfl
@[simp] theorem onCnv_cfg : (onCnv g s).cfg = s.cfg := rfl
@[simp] theorem onCnv_met : (onCnv g s).met = s.met := rfl
@[simp] theorem onCnv_skl : (onCnv g s).skl = s.skl := rfl
@[simp] theorem onCnv_tab : (onCnv g s).tab = s.tab := rfl
@[simp] theorem onCnv_est : (onCnv g s).est = s.est := rfl
@[simp] theorem onCnv_jrn : (onCnv g s).jrn = s.jrn := rfl
@[simp] theorem onCnv_imp : (onCnv g s).imp = s.imp := rfl
@[simp] theorem onCnv_cnv : (onCnv g s).cnv = g s.cnv := rfl
@[simp] theorem onCnv_dsp : (onCnv g s).dsp = s.dsp := rfl
@[simp] theorem onCnv_bal : (onCnv g s).bal = s.bal := rfl
@[simp] theorem onCnv_thm : (onCnv g s).thm = s.thm := rfl
@[simp] theorem onCnv_prot : (onCnv g s).prot = s.prot := rfl
@[simp] theorem onCnv_cont : (onCnv g s).cont = s.cont := rfl
@[simp] theorem onCnv_iso : (onCnv g s).iso = s.iso := rfl
@[simp] theorem onCnv_pair : (onCnv g s).pair = s.pair := rfl
@[simp] theorem onCnv_host : (onCnv g s).host = s.host := rfl
@[simp] theorem onCnv_ops : (onCnv g s).ops = s.ops := rfl
@[simp] theorem onCnv_irq : (onCnv g s).irq = s.irq := rfl
@[simp] theorem onCnv_rings : (onCnv g s).rings = s.rings := rfl
@[simp] theorem onCnv_rcd : (onCnv g s).rcd = s.rcd := rfl
@[simp] theorem onCnv_can : (onCnv g s).can = s.can := rfl
@[simp] theorem onCnv_hlth : (onCnv g s).hlth = s.hlth := rfl
@[simp] theorem onCnv_lad : (onCnv g s).lad = s.lad := rfl
@[simp] theorem onCnv_upd : (onCnv g s).upd = s.upd := rfl
@[simp] theorem onCnv_jtag : (onCnv g s).jtag = s.jtag := rfl
@[simp] theorem onCnv_out : (onCnv g s).out = s.out := rfl
@[simp] theorem onCnv_pending : (onCnv g s).pending = s.pending := rfl
@[simp] theorem onCnv_fresh : (onCnv g s).fresh = s.fresh := rfl
end

section
variable (g : DispSt → DispSt) (s : State)
@[simp] theorem onDsp_tick : (onDsp g s).tick = s.tick := rfl
@[simp] theorem onDsp_str : (onDsp g s).str = s.str := rfl
@[simp] theorem onDsp_pins : (onDsp g s).pins = s.pins := rfl
@[simp] theorem onDsp_pwr : (onDsp g s).pwr = s.pwr := rfl
@[simp] theorem onDsp_tb : (onDsp g s).tb = s.tb := rfl
@[simp] theorem onDsp_dawn : (onDsp g s).dawn = s.dawn := rfl
@[simp] theorem onDsp_idn : (onDsp g s).idn = s.idn := rfl
@[simp] theorem onDsp_cfg : (onDsp g s).cfg = s.cfg := rfl
@[simp] theorem onDsp_met : (onDsp g s).met = s.met := rfl
@[simp] theorem onDsp_skl : (onDsp g s).skl = s.skl := rfl
@[simp] theorem onDsp_tab : (onDsp g s).tab = s.tab := rfl
@[simp] theorem onDsp_est : (onDsp g s).est = s.est := rfl
@[simp] theorem onDsp_jrn : (onDsp g s).jrn = s.jrn := rfl
@[simp] theorem onDsp_imp : (onDsp g s).imp = s.imp := rfl
@[simp] theorem onDsp_cnv : (onDsp g s).cnv = s.cnv := rfl
@[simp] theorem onDsp_dsp : (onDsp g s).dsp = g s.dsp := rfl
@[simp] theorem onDsp_bal : (onDsp g s).bal = s.bal := rfl
@[simp] theorem onDsp_thm : (onDsp g s).thm = s.thm := rfl
@[simp] theorem onDsp_prot : (onDsp g s).prot = s.prot := rfl
@[simp] theorem onDsp_cont : (onDsp g s).cont = s.cont := rfl
@[simp] theorem onDsp_iso : (onDsp g s).iso = s.iso := rfl
@[simp] theorem onDsp_pair : (onDsp g s).pair = s.pair := rfl
@[simp] theorem onDsp_host : (onDsp g s).host = s.host := rfl
@[simp] theorem onDsp_ops : (onDsp g s).ops = s.ops := rfl
@[simp] theorem onDsp_irq : (onDsp g s).irq = s.irq := rfl
@[simp] theorem onDsp_rings : (onDsp g s).rings = s.rings := rfl
@[simp] theorem onDsp_rcd : (onDsp g s).rcd = s.rcd := rfl
@[simp] theorem onDsp_can : (onDsp g s).can = s.can := rfl
@[simp] theorem onDsp_hlth : (onDsp g s).hlth = s.hlth := rfl
@[simp] theorem onDsp_lad : (onDsp g s).lad = s.lad := rfl
@[simp] theorem onDsp_upd : (onDsp g s).upd = s.upd := rfl
@[simp] theorem onDsp_jtag : (onDsp g s).jtag = s.jtag := rfl
@[simp] theorem onDsp_out : (onDsp g s).out = s.out := rfl
@[simp] theorem onDsp_pending : (onDsp g s).pending = s.pending := rfl
@[simp] theorem onDsp_fresh : (onDsp g s).fresh = s.fresh := rfl
end

section
variable (g : BalSt → BalSt) (s : State)
@[simp] theorem onBal_tick : (onBal g s).tick = s.tick := rfl
@[simp] theorem onBal_str : (onBal g s).str = s.str := rfl
@[simp] theorem onBal_pins : (onBal g s).pins = s.pins := rfl
@[simp] theorem onBal_pwr : (onBal g s).pwr = s.pwr := rfl
@[simp] theorem onBal_tb : (onBal g s).tb = s.tb := rfl
@[simp] theorem onBal_dawn : (onBal g s).dawn = s.dawn := rfl
@[simp] theorem onBal_idn : (onBal g s).idn = s.idn := rfl
@[simp] theorem onBal_cfg : (onBal g s).cfg = s.cfg := rfl
@[simp] theorem onBal_met : (onBal g s).met = s.met := rfl
@[simp] theorem onBal_skl : (onBal g s).skl = s.skl := rfl
@[simp] theorem onBal_tab : (onBal g s).tab = s.tab := rfl
@[simp] theorem onBal_est : (onBal g s).est = s.est := rfl
@[simp] theorem onBal_jrn : (onBal g s).jrn = s.jrn := rfl
@[simp] theorem onBal_imp : (onBal g s).imp = s.imp := rfl
@[simp] theorem onBal_cnv : (onBal g s).cnv = s.cnv := rfl
@[simp] theorem onBal_dsp : (onBal g s).dsp = s.dsp := rfl
@[simp] theorem onBal_bal : (onBal g s).bal = g s.bal := rfl
@[simp] theorem onBal_thm : (onBal g s).thm = s.thm := rfl
@[simp] theorem onBal_prot : (onBal g s).prot = s.prot := rfl
@[simp] theorem onBal_cont : (onBal g s).cont = s.cont := rfl
@[simp] theorem onBal_iso : (onBal g s).iso = s.iso := rfl
@[simp] theorem onBal_pair : (onBal g s).pair = s.pair := rfl
@[simp] theorem onBal_host : (onBal g s).host = s.host := rfl
@[simp] theorem onBal_ops : (onBal g s).ops = s.ops := rfl
@[simp] theorem onBal_irq : (onBal g s).irq = s.irq := rfl
@[simp] theorem onBal_rings : (onBal g s).rings = s.rings := rfl
@[simp] theorem onBal_rcd : (onBal g s).rcd = s.rcd := rfl
@[simp] theorem onBal_can : (onBal g s).can = s.can := rfl
@[simp] theorem onBal_hlth : (onBal g s).hlth = s.hlth := rfl
@[simp] theorem onBal_lad : (onBal g s).lad = s.lad := rfl
@[simp] theorem onBal_upd : (onBal g s).upd = s.upd := rfl
@[simp] theorem onBal_jtag : (onBal g s).jtag = s.jtag := rfl
@[simp] theorem onBal_out : (onBal g s).out = s.out := rfl
@[simp] theorem onBal_pending : (onBal g s).pending = s.pending := rfl
@[simp] theorem onBal_fresh : (onBal g s).fresh = s.fresh := rfl
end

section
variable (g : ThermSt → ThermSt) (s : State)
@[simp] theorem onThm_tick : (onThm g s).tick = s.tick := rfl
@[simp] theorem onThm_str : (onThm g s).str = s.str := rfl
@[simp] theorem onThm_pins : (onThm g s).pins = s.pins := rfl
@[simp] theorem onThm_pwr : (onThm g s).pwr = s.pwr := rfl
@[simp] theorem onThm_tb : (onThm g s).tb = s.tb := rfl
@[simp] theorem onThm_dawn : (onThm g s).dawn = s.dawn := rfl
@[simp] theorem onThm_idn : (onThm g s).idn = s.idn := rfl
@[simp] theorem onThm_cfg : (onThm g s).cfg = s.cfg := rfl
@[simp] theorem onThm_met : (onThm g s).met = s.met := rfl
@[simp] theorem onThm_skl : (onThm g s).skl = s.skl := rfl
@[simp] theorem onThm_tab : (onThm g s).tab = s.tab := rfl
@[simp] theorem onThm_est : (onThm g s).est = s.est := rfl
@[simp] theorem onThm_jrn : (onThm g s).jrn = s.jrn := rfl
@[simp] theorem onThm_imp : (onThm g s).imp = s.imp := rfl
@[simp] theorem onThm_cnv : (onThm g s).cnv = s.cnv := rfl
@[simp] theorem onThm_dsp : (onThm g s).dsp = s.dsp := rfl
@[simp] theorem onThm_bal : (onThm g s).bal = s.bal := rfl
@[simp] theorem onThm_thm : (onThm g s).thm = g s.thm := rfl
@[simp] theorem onThm_prot : (onThm g s).prot = s.prot := rfl
@[simp] theorem onThm_cont : (onThm g s).cont = s.cont := rfl
@[simp] theorem onThm_iso : (onThm g s).iso = s.iso := rfl
@[simp] theorem onThm_pair : (onThm g s).pair = s.pair := rfl
@[simp] theorem onThm_host : (onThm g s).host = s.host := rfl
@[simp] theorem onThm_ops : (onThm g s).ops = s.ops := rfl
@[simp] theorem onThm_irq : (onThm g s).irq = s.irq := rfl
@[simp] theorem onThm_rings : (onThm g s).rings = s.rings := rfl
@[simp] theorem onThm_rcd : (onThm g s).rcd = s.rcd := rfl
@[simp] theorem onThm_can : (onThm g s).can = s.can := rfl
@[simp] theorem onThm_hlth : (onThm g s).hlth = s.hlth := rfl
@[simp] theorem onThm_lad : (onThm g s).lad = s.lad := rfl
@[simp] theorem onThm_upd : (onThm g s).upd = s.upd := rfl
@[simp] theorem onThm_jtag : (onThm g s).jtag = s.jtag := rfl
@[simp] theorem onThm_out : (onThm g s).out = s.out := rfl
@[simp] theorem onThm_pending : (onThm g s).pending = s.pending := rfl
@[simp] theorem onThm_fresh : (onThm g s).fresh = s.fresh := rfl
end

section
variable (g : ProtSt → ProtSt) (s : State)
@[simp] theorem onProt_tick : (onProt g s).tick = s.tick := rfl
@[simp] theorem onProt_str : (onProt g s).str = s.str := rfl
@[simp] theorem onProt_pins : (onProt g s).pins = s.pins := rfl
@[simp] theorem onProt_pwr : (onProt g s).pwr = s.pwr := rfl
@[simp] theorem onProt_tb : (onProt g s).tb = s.tb := rfl
@[simp] theorem onProt_dawn : (onProt g s).dawn = s.dawn := rfl
@[simp] theorem onProt_idn : (onProt g s).idn = s.idn := rfl
@[simp] theorem onProt_cfg : (onProt g s).cfg = s.cfg := rfl
@[simp] theorem onProt_met : (onProt g s).met = s.met := rfl
@[simp] theorem onProt_skl : (onProt g s).skl = s.skl := rfl
@[simp] theorem onProt_tab : (onProt g s).tab = s.tab := rfl
@[simp] theorem onProt_est : (onProt g s).est = s.est := rfl
@[simp] theorem onProt_jrn : (onProt g s).jrn = s.jrn := rfl
@[simp] theorem onProt_imp : (onProt g s).imp = s.imp := rfl
@[simp] theorem onProt_cnv : (onProt g s).cnv = s.cnv := rfl
@[simp] theorem onProt_dsp : (onProt g s).dsp = s.dsp := rfl
@[simp] theorem onProt_bal : (onProt g s).bal = s.bal := rfl
@[simp] theorem onProt_thm : (onProt g s).thm = s.thm := rfl
@[simp] theorem onProt_prot : (onProt g s).prot = g s.prot := rfl
@[simp] theorem onProt_cont : (onProt g s).cont = s.cont := rfl
@[simp] theorem onProt_iso : (onProt g s).iso = s.iso := rfl
@[simp] theorem onProt_pair : (onProt g s).pair = s.pair := rfl
@[simp] theorem onProt_host : (onProt g s).host = s.host := rfl
@[simp] theorem onProt_ops : (onProt g s).ops = s.ops := rfl
@[simp] theorem onProt_irq : (onProt g s).irq = s.irq := rfl
@[simp] theorem onProt_rings : (onProt g s).rings = s.rings := rfl
@[simp] theorem onProt_rcd : (onProt g s).rcd = s.rcd := rfl
@[simp] theorem onProt_can : (onProt g s).can = s.can := rfl
@[simp] theorem onProt_hlth : (onProt g s).hlth = s.hlth := rfl
@[simp] theorem onProt_lad : (onProt g s).lad = s.lad := rfl
@[simp] theorem onProt_upd : (onProt g s).upd = s.upd := rfl
@[simp] theorem onProt_jtag : (onProt g s).jtag = s.jtag := rfl
@[simp] theorem onProt_out : (onProt g s).out = s.out := rfl
@[simp] theorem onProt_pending : (onProt g s).pending = s.pending := rfl
@[simp] theorem onProt_fresh : (onProt g s).fresh = s.fresh := rfl
end

section
variable (g : ContSt → ContSt) (s : State)
@[simp] theorem onCont_tick : (onCont g s).tick = s.tick := rfl
@[simp] theorem onCont_str : (onCont g s).str = s.str := rfl
@[simp] theorem onCont_pins : (onCont g s).pins = s.pins := rfl
@[simp] theorem onCont_pwr : (onCont g s).pwr = s.pwr := rfl
@[simp] theorem onCont_tb : (onCont g s).tb = s.tb := rfl
@[simp] theorem onCont_dawn : (onCont g s).dawn = s.dawn := rfl
@[simp] theorem onCont_idn : (onCont g s).idn = s.idn := rfl
@[simp] theorem onCont_cfg : (onCont g s).cfg = s.cfg := rfl
@[simp] theorem onCont_met : (onCont g s).met = s.met := rfl
@[simp] theorem onCont_skl : (onCont g s).skl = s.skl := rfl
@[simp] theorem onCont_tab : (onCont g s).tab = s.tab := rfl
@[simp] theorem onCont_est : (onCont g s).est = s.est := rfl
@[simp] theorem onCont_jrn : (onCont g s).jrn = s.jrn := rfl
@[simp] theorem onCont_imp : (onCont g s).imp = s.imp := rfl
@[simp] theorem onCont_cnv : (onCont g s).cnv = s.cnv := rfl
@[simp] theorem onCont_dsp : (onCont g s).dsp = s.dsp := rfl
@[simp] theorem onCont_bal : (onCont g s).bal = s.bal := rfl
@[simp] theorem onCont_thm : (onCont g s).thm = s.thm := rfl
@[simp] theorem onCont_prot : (onCont g s).prot = s.prot := rfl
@[simp] theorem onCont_cont : (onCont g s).cont = g s.cont := rfl
@[simp] theorem onCont_iso : (onCont g s).iso = s.iso := rfl
@[simp] theorem onCont_pair : (onCont g s).pair = s.pair := rfl
@[simp] theorem onCont_host : (onCont g s).host = s.host := rfl
@[simp] theorem onCont_ops : (onCont g s).ops = s.ops := rfl
@[simp] theorem onCont_irq : (onCont g s).irq = s.irq := rfl
@[simp] theorem onCont_rings : (onCont g s).rings = s.rings := rfl
@[simp] theorem onCont_rcd : (onCont g s).rcd = s.rcd := rfl
@[simp] theorem onCont_can : (onCont g s).can = s.can := rfl
@[simp] theorem onCont_hlth : (onCont g s).hlth = s.hlth := rfl
@[simp] theorem onCont_lad : (onCont g s).lad = s.lad := rfl
@[simp] theorem onCont_upd : (onCont g s).upd = s.upd := rfl
@[simp] theorem onCont_jtag : (onCont g s).jtag = s.jtag := rfl
@[simp] theorem onCont_out : (onCont g s).out = s.out := rfl
@[simp] theorem onCont_pending : (onCont g s).pending = s.pending := rfl
@[simp] theorem onCont_fresh : (onCont g s).fresh = s.fresh := rfl
end

section
variable (g : IsoSt → IsoSt) (s : State)
@[simp] theorem onIso_tick : (onIso g s).tick = s.tick := rfl
@[simp] theorem onIso_str : (onIso g s).str = s.str := rfl
@[simp] theorem onIso_pins : (onIso g s).pins = s.pins := rfl
@[simp] theorem onIso_pwr : (onIso g s).pwr = s.pwr := rfl
@[simp] theorem onIso_tb : (onIso g s).tb = s.tb := rfl
@[simp] theorem onIso_dawn : (onIso g s).dawn = s.dawn := rfl
@[simp] theorem onIso_idn : (onIso g s).idn = s.idn := rfl
@[simp] theorem onIso_cfg : (onIso g s).cfg = s.cfg := rfl
@[simp] theorem onIso_met : (onIso g s).met = s.met := rfl
@[simp] theorem onIso_skl : (onIso g s).skl = s.skl := rfl
@[simp] theorem onIso_tab : (onIso g s).tab = s.tab := rfl
@[simp] theorem onIso_est : (onIso g s).est = s.est := rfl
@[simp] theorem onIso_jrn : (onIso g s).jrn = s.jrn := rfl
@[simp] theorem onIso_imp : (onIso g s).imp = s.imp := rfl
@[simp] theorem onIso_cnv : (onIso g s).cnv = s.cnv := rfl
@[simp] theorem onIso_dsp : (onIso g s).dsp = s.dsp := rfl
@[simp] theorem onIso_bal : (onIso g s).bal = s.bal := rfl
@[simp] theorem onIso_thm : (onIso g s).thm = s.thm := rfl
@[simp] theorem onIso_prot : (onIso g s).prot = s.prot := rfl
@[simp] theorem onIso_cont : (onIso g s).cont = s.cont := rfl
@[simp] theorem onIso_iso : (onIso g s).iso = g s.iso := rfl
@[simp] theorem onIso_pair : (onIso g s).pair = s.pair := rfl
@[simp] theorem onIso_host : (onIso g s).host = s.host := rfl
@[simp] theorem onIso_ops : (onIso g s).ops = s.ops := rfl
@[simp] theorem onIso_irq : (onIso g s).irq = s.irq := rfl
@[simp] theorem onIso_rings : (onIso g s).rings = s.rings := rfl
@[simp] theorem onIso_rcd : (onIso g s).rcd = s.rcd := rfl
@[simp] theorem onIso_can : (onIso g s).can = s.can := rfl
@[simp] theorem onIso_hlth : (onIso g s).hlth = s.hlth := rfl
@[simp] theorem onIso_lad : (onIso g s).lad = s.lad := rfl
@[simp] theorem onIso_upd : (onIso g s).upd = s.upd := rfl
@[simp] theorem onIso_jtag : (onIso g s).jtag = s.jtag := rfl
@[simp] theorem onIso_out : (onIso g s).out = s.out := rfl
@[simp] theorem onIso_pending : (onIso g s).pending = s.pending := rfl
@[simp] theorem onIso_fresh : (onIso g s).fresh = s.fresh := rfl
end

section
variable (g : PairSt → PairSt) (s : State)
@[simp] theorem onPair_tick : (onPair g s).tick = s.tick := rfl
@[simp] theorem onPair_str : (onPair g s).str = s.str := rfl
@[simp] theorem onPair_pins : (onPair g s).pins = s.pins := rfl
@[simp] theorem onPair_pwr : (onPair g s).pwr = s.pwr := rfl
@[simp] theorem onPair_tb : (onPair g s).tb = s.tb := rfl
@[simp] theorem onPair_dawn : (onPair g s).dawn = s.dawn := rfl
@[simp] theorem onPair_idn : (onPair g s).idn = s.idn := rfl
@[simp] theorem onPair_cfg : (onPair g s).cfg = s.cfg := rfl
@[simp] theorem onPair_met : (onPair g s).met = s.met := rfl
@[simp] theorem onPair_skl : (onPair g s).skl = s.skl := rfl
@[simp] theorem onPair_tab : (onPair g s).tab = s.tab := rfl
@[simp] theorem onPair_est : (onPair g s).est = s.est := rfl
@[simp] theorem onPair_jrn : (onPair g s).jrn = s.jrn := rfl
@[simp] theorem onPair_imp : (onPair g s).imp = s.imp := rfl
@[simp] theorem onPair_cnv : (onPair g s).cnv = s.cnv := rfl
@[simp] theorem onPair_dsp : (onPair g s).dsp = s.dsp := rfl
@[simp] theorem onPair_bal : (onPair g s).bal = s.bal := rfl
@[simp] theorem onPair_thm : (onPair g s).thm = s.thm := rfl
@[simp] theorem onPair_prot : (onPair g s).prot = s.prot := rfl
@[simp] theorem onPair_cont : (onPair g s).cont = s.cont := rfl
@[simp] theorem onPair_iso : (onPair g s).iso = s.iso := rfl
@[simp] theorem onPair_pair : (onPair g s).pair = g s.pair := rfl
@[simp] theorem onPair_host : (onPair g s).host = s.host := rfl
@[simp] theorem onPair_ops : (onPair g s).ops = s.ops := rfl
@[simp] theorem onPair_irq : (onPair g s).irq = s.irq := rfl
@[simp] theorem onPair_rings : (onPair g s).rings = s.rings := rfl
@[simp] theorem onPair_rcd : (onPair g s).rcd = s.rcd := rfl
@[simp] theorem onPair_can : (onPair g s).can = s.can := rfl
@[simp] theorem onPair_hlth : (onPair g s).hlth = s.hlth := rfl
@[simp] theorem onPair_lad : (onPair g s).lad = s.lad := rfl
@[simp] theorem onPair_upd : (onPair g s).upd = s.upd := rfl
@[simp] theorem onPair_jtag : (onPair g s).jtag = s.jtag := rfl
@[simp] theorem onPair_out : (onPair g s).out = s.out := rfl
@[simp] theorem onPair_pending : (onPair g s).pending = s.pending := rfl
@[simp] theorem onPair_fresh : (onPair g s).fresh = s.fresh := rfl
end

section
variable (g : HostSt → HostSt) (s : State)
@[simp] theorem onHost_tick : (onHost g s).tick = s.tick := rfl
@[simp] theorem onHost_str : (onHost g s).str = s.str := rfl
@[simp] theorem onHost_pins : (onHost g s).pins = s.pins := rfl
@[simp] theorem onHost_pwr : (onHost g s).pwr = s.pwr := rfl
@[simp] theorem onHost_tb : (onHost g s).tb = s.tb := rfl
@[simp] theorem onHost_dawn : (onHost g s).dawn = s.dawn := rfl
@[simp] theorem onHost_idn : (onHost g s).idn = s.idn := rfl
@[simp] theorem onHost_cfg : (onHost g s).cfg = s.cfg := rfl
@[simp] theorem onHost_met : (onHost g s).met = s.met := rfl
@[simp] theorem onHost_skl : (onHost g s).skl = s.skl := rfl
@[simp] theorem onHost_tab : (onHost g s).tab = s.tab := rfl
@[simp] theorem onHost_est : (onHost g s).est = s.est := rfl
@[simp] theorem onHost_jrn : (onHost g s).jrn = s.jrn := rfl
@[simp] theorem onHost_imp : (onHost g s).imp = s.imp := rfl
@[simp] theorem onHost_cnv : (onHost g s).cnv = s.cnv := rfl
@[simp] theorem onHost_dsp : (onHost g s).dsp = s.dsp := rfl
@[simp] theorem onHost_bal : (onHost g s).bal = s.bal := rfl
@[simp] theorem onHost_thm : (onHost g s).thm = s.thm := rfl
@[simp] theorem onHost_prot : (onHost g s).prot = s.prot := rfl
@[simp] theorem onHost_cont : (onHost g s).cont = s.cont := rfl
@[simp] theorem onHost_iso : (onHost g s).iso = s.iso := rfl
@[simp] theorem onHost_pair : (onHost g s).pair = s.pair := rfl
@[simp] theorem onHost_host : (onHost g s).host = g s.host := rfl
@[simp] theorem onHost_ops : (onHost g s).ops = s.ops := rfl
@[simp] theorem onHost_irq : (onHost g s).irq = s.irq := rfl
@[simp] theorem onHost_rings : (onHost g s).rings = s.rings := rfl
@[simp] theorem onHost_rcd : (onHost g s).rcd = s.rcd := rfl
@[simp] theorem onHost_can : (onHost g s).can = s.can := rfl
@[simp] theorem onHost_hlth : (onHost g s).hlth = s.hlth := rfl
@[simp] theorem onHost_lad : (onHost g s).lad = s.lad := rfl
@[simp] theorem onHost_upd : (onHost g s).upd = s.upd := rfl
@[simp] theorem onHost_jtag : (onHost g s).jtag = s.jtag := rfl
@[simp] theorem onHost_out : (onHost g s).out = s.out := rfl
@[simp] theorem onHost_pending : (onHost g s).pending = s.pending := rfl
@[simp] theorem onHost_fresh : (onHost g s).fresh = s.fresh := rfl
end

section
variable (g : OpsSt → OpsSt) (s : State)
@[simp] theorem onOps_tick : (onOps g s).tick = s.tick := rfl
@[simp] theorem onOps_str : (onOps g s).str = s.str := rfl
@[simp] theorem onOps_pins : (onOps g s).pins = s.pins := rfl
@[simp] theorem onOps_pwr : (onOps g s).pwr = s.pwr := rfl
@[simp] theorem onOps_tb : (onOps g s).tb = s.tb := rfl
@[simp] theorem onOps_dawn : (onOps g s).dawn = s.dawn := rfl
@[simp] theorem onOps_idn : (onOps g s).idn = s.idn := rfl
@[simp] theorem onOps_cfg : (onOps g s).cfg = s.cfg := rfl
@[simp] theorem onOps_met : (onOps g s).met = s.met := rfl
@[simp] theorem onOps_skl : (onOps g s).skl = s.skl := rfl
@[simp] theorem onOps_tab : (onOps g s).tab = s.tab := rfl
@[simp] theorem onOps_est : (onOps g s).est = s.est := rfl
@[simp] theorem onOps_jrn : (onOps g s).jrn = s.jrn := rfl
@[simp] theorem onOps_imp : (onOps g s).imp = s.imp := rfl
@[simp] theorem onOps_cnv : (onOps g s).cnv = s.cnv := rfl
@[simp] theorem onOps_dsp : (onOps g s).dsp = s.dsp := rfl
@[simp] theorem onOps_bal : (onOps g s).bal = s.bal := rfl
@[simp] theorem onOps_thm : (onOps g s).thm = s.thm := rfl
@[simp] theorem onOps_prot : (onOps g s).prot = s.prot := rfl
@[simp] theorem onOps_cont : (onOps g s).cont = s.cont := rfl
@[simp] theorem onOps_iso : (onOps g s).iso = s.iso := rfl
@[simp] theorem onOps_pair : (onOps g s).pair = s.pair := rfl
@[simp] theorem onOps_host : (onOps g s).host = s.host := rfl
@[simp] theorem onOps_ops : (onOps g s).ops = g s.ops := rfl
@[simp] theorem onOps_irq : (onOps g s).irq = s.irq := rfl
@[simp] theorem onOps_rings : (onOps g s).rings = s.rings := rfl
@[simp] theorem onOps_rcd : (onOps g s).rcd = s.rcd := rfl
@[simp] theorem onOps_can : (onOps g s).can = s.can := rfl
@[simp] theorem onOps_hlth : (onOps g s).hlth = s.hlth := rfl
@[simp] theorem onOps_lad : (onOps g s).lad = s.lad := rfl
@[simp] theorem onOps_upd : (onOps g s).upd = s.upd := rfl
@[simp] theorem onOps_jtag : (onOps g s).jtag = s.jtag := rfl
@[simp] theorem onOps_out : (onOps g s).out = s.out := rfl
@[simp] theorem onOps_pending : (onOps g s).pending = s.pending := rfl
@[simp] theorem onOps_fresh : (onOps g s).fresh = s.fresh := rfl
end

section
variable (g : IrqSt → IrqSt) (s : State)
@[simp] theorem onIrq_tick : (onIrq g s).tick = s.tick := rfl
@[simp] theorem onIrq_str : (onIrq g s).str = s.str := rfl
@[simp] theorem onIrq_pins : (onIrq g s).pins = s.pins := rfl
@[simp] theorem onIrq_pwr : (onIrq g s).pwr = s.pwr := rfl
@[simp] theorem onIrq_tb : (onIrq g s).tb = s.tb := rfl
@[simp] theorem onIrq_dawn : (onIrq g s).dawn = s.dawn := rfl
@[simp] theorem onIrq_idn : (onIrq g s).idn = s.idn := rfl
@[simp] theorem onIrq_cfg : (onIrq g s).cfg = s.cfg := rfl
@[simp] theorem onIrq_met : (onIrq g s).met = s.met := rfl
@[simp] theorem onIrq_skl : (onIrq g s).skl = s.skl := rfl
@[simp] theorem onIrq_tab : (onIrq g s).tab = s.tab := rfl
@[simp] theorem onIrq_est : (onIrq g s).est = s.est := rfl
@[simp] theorem onIrq_jrn : (onIrq g s).jrn = s.jrn := rfl
@[simp] theorem onIrq_imp : (onIrq g s).imp = s.imp := rfl
@[simp] theorem onIrq_cnv : (onIrq g s).cnv = s.cnv := rfl
@[simp] theorem onIrq_dsp : (onIrq g s).dsp = s.dsp := rfl
@[simp] theorem onIrq_bal : (onIrq g s).bal = s.bal := rfl
@[simp] theorem onIrq_thm : (onIrq g s).thm = s.thm := rfl
@[simp] theorem onIrq_prot : (onIrq g s).prot = s.prot := rfl
@[simp] theorem onIrq_cont : (onIrq g s).cont = s.cont := rfl
@[simp] theorem onIrq_iso : (onIrq g s).iso = s.iso := rfl
@[simp] theorem onIrq_pair : (onIrq g s).pair = s.pair := rfl
@[simp] theorem onIrq_host : (onIrq g s).host = s.host := rfl
@[simp] theorem onIrq_ops : (onIrq g s).ops = s.ops := rfl
@[simp] theorem onIrq_irq : (onIrq g s).irq = g s.irq := rfl
@[simp] theorem onIrq_rings : (onIrq g s).rings = s.rings := rfl
@[simp] theorem onIrq_rcd : (onIrq g s).rcd = s.rcd := rfl
@[simp] theorem onIrq_can : (onIrq g s).can = s.can := rfl
@[simp] theorem onIrq_hlth : (onIrq g s).hlth = s.hlth := rfl
@[simp] theorem onIrq_lad : (onIrq g s).lad = s.lad := rfl
@[simp] theorem onIrq_upd : (onIrq g s).upd = s.upd := rfl
@[simp] theorem onIrq_jtag : (onIrq g s).jtag = s.jtag := rfl
@[simp] theorem onIrq_out : (onIrq g s).out = s.out := rfl
@[simp] theorem onIrq_pending : (onIrq g s).pending = s.pending := rfl
@[simp] theorem onIrq_fresh : (onIrq g s).fresh = s.fresh := rfl
end

section
variable (g : RingSt → RingSt) (s : State)
@[simp] theorem onRings_tick : (onRings g s).tick = s.tick := rfl
@[simp] theorem onRings_str : (onRings g s).str = s.str := rfl
@[simp] theorem onRings_pins : (onRings g s).pins = s.pins := rfl
@[simp] theorem onRings_pwr : (onRings g s).pwr = s.pwr := rfl
@[simp] theorem onRings_tb : (onRings g s).tb = s.tb := rfl
@[simp] theorem onRings_dawn : (onRings g s).dawn = s.dawn := rfl
@[simp] theorem onRings_idn : (onRings g s).idn = s.idn := rfl
@[simp] theorem onRings_cfg : (onRings g s).cfg = s.cfg := rfl
@[simp] theorem onRings_met : (onRings g s).met = s.met := rfl
@[simp] theorem onRings_skl : (onRings g s).skl = s.skl := rfl
@[simp] theorem onRings_tab : (onRings g s).tab = s.tab := rfl
@[simp] theorem onRings_est : (onRings g s).est = s.est := rfl
@[simp] theorem onRings_jrn : (onRings g s).jrn = s.jrn := rfl
@[simp] theorem onRings_imp : (onRings g s).imp = s.imp := rfl
@[simp] theorem onRings_cnv : (onRings g s).cnv = s.cnv := rfl
@[simp] theorem onRings_dsp : (onRings g s).dsp = s.dsp := rfl
@[simp] theorem onRings_bal : (onRings g s).bal = s.bal := rfl
@[simp] theorem onRings_thm : (onRings g s).thm = s.thm := rfl
@[simp] theorem onRings_prot : (onRings g s).prot = s.prot := rfl
@[simp] theorem onRings_cont : (onRings g s).cont = s.cont := rfl
@[simp] theorem onRings_iso : (onRings g s).iso = s.iso := rfl
@[simp] theorem onRings_pair : (onRings g s).pair = s.pair := rfl
@[simp] theorem onRings_host : (onRings g s).host = s.host := rfl
@[simp] theorem onRings_ops : (onRings g s).ops = s.ops := rfl
@[simp] theorem onRings_irq : (onRings g s).irq = s.irq := rfl
@[simp] theorem onRings_rings : (onRings g s).rings = g s.rings := rfl
@[simp] theorem onRings_rcd : (onRings g s).rcd = s.rcd := rfl
@[simp] theorem onRings_can : (onRings g s).can = s.can := rfl
@[simp] theorem onRings_hlth : (onRings g s).hlth = s.hlth := rfl
@[simp] theorem onRings_lad : (onRings g s).lad = s.lad := rfl
@[simp] theorem onRings_upd : (onRings g s).upd = s.upd := rfl
@[simp] theorem onRings_jtag : (onRings g s).jtag = s.jtag := rfl
@[simp] theorem onRings_out : (onRings g s).out = s.out := rfl
@[simp] theorem onRings_pending : (onRings g s).pending = s.pending := rfl
@[simp] theorem onRings_fresh : (onRings g s).fresh = s.fresh := rfl
end

section
variable (g : RecSt → RecSt) (s : State)
@[simp] theorem onRcd_tick : (onRcd g s).tick = s.tick := rfl
@[simp] theorem onRcd_str : (onRcd g s).str = s.str := rfl
@[simp] theorem onRcd_pins : (onRcd g s).pins = s.pins := rfl
@[simp] theorem onRcd_pwr : (onRcd g s).pwr = s.pwr := rfl
@[simp] theorem onRcd_tb : (onRcd g s).tb = s.tb := rfl
@[simp] theorem onRcd_dawn : (onRcd g s).dawn = s.dawn := rfl
@[simp] theorem onRcd_idn : (onRcd g s).idn = s.idn := rfl
@[simp] theorem onRcd_cfg : (onRcd g s).cfg = s.cfg := rfl
@[simp] theorem onRcd_met : (onRcd g s).met = s.met := rfl
@[simp] theorem onRcd_skl : (onRcd g s).skl = s.skl := rfl
@[simp] theorem onRcd_tab : (onRcd g s).tab = s.tab := rfl
@[simp] theorem onRcd_est : (onRcd g s).est = s.est := rfl
@[simp] theorem onRcd_jrn : (onRcd g s).jrn = s.jrn := rfl
@[simp] theorem onRcd_imp : (onRcd g s).imp = s.imp := rfl
@[simp] theorem onRcd_cnv : (onRcd g s).cnv = s.cnv := rfl
@[simp] theorem onRcd_dsp : (onRcd g s).dsp = s.dsp := rfl
@[simp] theorem onRcd_bal : (onRcd g s).bal = s.bal := rfl
@[simp] theorem onRcd_thm : (onRcd g s).thm = s.thm := rfl
@[simp] theorem onRcd_prot : (onRcd g s).prot = s.prot := rfl
@[simp] theorem onRcd_cont : (onRcd g s).cont = s.cont := rfl
@[simp] theorem onRcd_iso : (onRcd g s).iso = s.iso := rfl
@[simp] theorem onRcd_pair : (onRcd g s).pair = s.pair := rfl
@[simp] theorem onRcd_host : (onRcd g s).host = s.host := rfl
@[simp] theorem onRcd_ops : (onRcd g s).ops = s.ops := rfl
@[simp] theorem onRcd_irq : (onRcd g s).irq = s.irq := rfl
@[simp] theorem onRcd_rings : (onRcd g s).rings = s.rings := rfl
@[simp] theorem onRcd_rcd : (onRcd g s).rcd = g s.rcd := rfl
@[simp] theorem onRcd_can : (onRcd g s).can = s.can := rfl
@[simp] theorem onRcd_hlth : (onRcd g s).hlth = s.hlth := rfl
@[simp] theorem onRcd_lad : (onRcd g s).lad = s.lad := rfl
@[simp] theorem onRcd_upd : (onRcd g s).upd = s.upd := rfl
@[simp] theorem onRcd_jtag : (onRcd g s).jtag = s.jtag := rfl
@[simp] theorem onRcd_out : (onRcd g s).out = s.out := rfl
@[simp] theorem onRcd_pending : (onRcd g s).pending = s.pending := rfl
@[simp] theorem onRcd_fresh : (onRcd g s).fresh = s.fresh := rfl
end

section
variable (g : CanSt → CanSt) (s : State)
@[simp] theorem onCan_tick : (onCan g s).tick = s.tick := rfl
@[simp] theorem onCan_str : (onCan g s).str = s.str := rfl
@[simp] theorem onCan_pins : (onCan g s).pins = s.pins := rfl
@[simp] theorem onCan_pwr : (onCan g s).pwr = s.pwr := rfl
@[simp] theorem onCan_tb : (onCan g s).tb = s.tb := rfl
@[simp] theorem onCan_dawn : (onCan g s).dawn = s.dawn := rfl
@[simp] theorem onCan_idn : (onCan g s).idn = s.idn := rfl
@[simp] theorem onCan_cfg : (onCan g s).cfg = s.cfg := rfl
@[simp] theorem onCan_met : (onCan g s).met = s.met := rfl
@[simp] theorem onCan_skl : (onCan g s).skl = s.skl := rfl
@[simp] theorem onCan_tab : (onCan g s).tab = s.tab := rfl
@[simp] theorem onCan_est : (onCan g s).est = s.est := rfl
@[simp] theorem onCan_jrn : (onCan g s).jrn = s.jrn := rfl
@[simp] theorem onCan_imp : (onCan g s).imp = s.imp := rfl
@[simp] theorem onCan_cnv : (onCan g s).cnv = s.cnv := rfl
@[simp] theorem onCan_dsp : (onCan g s).dsp = s.dsp := rfl
@[simp] theorem onCan_bal : (onCan g s).bal = s.bal := rfl
@[simp] theorem onCan_thm : (onCan g s).thm = s.thm := rfl
@[simp] theorem onCan_prot : (onCan g s).prot = s.prot := rfl
@[simp] theorem onCan_cont : (onCan g s).cont = s.cont := rfl
@[simp] theorem onCan_iso : (onCan g s).iso = s.iso := rfl
@[simp] theorem onCan_pair : (onCan g s).pair = s.pair := rfl
@[simp] theorem onCan_host : (onCan g s).host = s.host := rfl
@[simp] theorem onCan_ops : (onCan g s).ops = s.ops := rfl
@[simp] theorem onCan_irq : (onCan g s).irq = s.irq := rfl
@[simp] theorem onCan_rings : (onCan g s).rings = s.rings := rfl
@[simp] theorem onCan_rcd : (onCan g s).rcd = s.rcd := rfl
@[simp] theorem onCan_can : (onCan g s).can = g s.can := rfl
@[simp] theorem onCan_hlth : (onCan g s).hlth = s.hlth := rfl
@[simp] theorem onCan_lad : (onCan g s).lad = s.lad := rfl
@[simp] theorem onCan_upd : (onCan g s).upd = s.upd := rfl
@[simp] theorem onCan_jtag : (onCan g s).jtag = s.jtag := rfl
@[simp] theorem onCan_out : (onCan g s).out = s.out := rfl
@[simp] theorem onCan_pending : (onCan g s).pending = s.pending := rfl
@[simp] theorem onCan_fresh : (onCan g s).fresh = s.fresh := rfl
end

section
variable (g : HealthSt → HealthSt) (s : State)
@[simp] theorem onHlth_tick : (onHlth g s).tick = s.tick := rfl
@[simp] theorem onHlth_str : (onHlth g s).str = s.str := rfl
@[simp] theorem onHlth_pins : (onHlth g s).pins = s.pins := rfl
@[simp] theorem onHlth_pwr : (onHlth g s).pwr = s.pwr := rfl
@[simp] theorem onHlth_tb : (onHlth g s).tb = s.tb := rfl
@[simp] theorem onHlth_dawn : (onHlth g s).dawn = s.dawn := rfl
@[simp] theorem onHlth_idn : (onHlth g s).idn = s.idn := rfl
@[simp] theorem onHlth_cfg : (onHlth g s).cfg = s.cfg := rfl
@[simp] theorem onHlth_met : (onHlth g s).met = s.met := rfl
@[simp] theorem onHlth_skl : (onHlth g s).skl = s.skl := rfl
@[simp] theorem onHlth_tab : (onHlth g s).tab = s.tab := rfl
@[simp] theorem onHlth_est : (onHlth g s).est = s.est := rfl
@[simp] theorem onHlth_jrn : (onHlth g s).jrn = s.jrn := rfl
@[simp] theorem onHlth_imp : (onHlth g s).imp = s.imp := rfl
@[simp] theorem onHlth_cnv : (onHlth g s).cnv = s.cnv := rfl
@[simp] theorem onHlth_dsp : (onHlth g s).dsp = s.dsp := rfl
@[simp] theorem onHlth_bal : (onHlth g s).bal = s.bal := rfl
@[simp] theorem onHlth_thm : (onHlth g s).thm = s.thm := rfl
@[simp] theorem onHlth_prot : (onHlth g s).prot = s.prot := rfl
@[simp] theorem onHlth_cont : (onHlth g s).cont = s.cont := rfl
@[simp] theorem onHlth_iso : (onHlth g s).iso = s.iso := rfl
@[simp] theorem onHlth_pair : (onHlth g s).pair = s.pair := rfl
@[simp] theorem onHlth_host : (onHlth g s).host = s.host := rfl
@[simp] theorem onHlth_ops : (onHlth g s).ops = s.ops := rfl
@[simp] theorem onHlth_irq : (onHlth g s).irq = s.irq := rfl
@[simp] theorem onHlth_rings : (onHlth g s).rings = s.rings := rfl
@[simp] theorem onHlth_rcd : (onHlth g s).rcd = s.rcd := rfl
@[simp] theorem onHlth_can : (onHlth g s).can = s.can := rfl
@[simp] theorem onHlth_hlth : (onHlth g s).hlth = g s.hlth := rfl
@[simp] theorem onHlth_lad : (onHlth g s).lad = s.lad := rfl
@[simp] theorem onHlth_upd : (onHlth g s).upd = s.upd := rfl
@[simp] theorem onHlth_jtag : (onHlth g s).jtag = s.jtag := rfl
@[simp] theorem onHlth_out : (onHlth g s).out = s.out := rfl
@[simp] theorem onHlth_pending : (onHlth g s).pending = s.pending := rfl
@[simp] theorem onHlth_fresh : (onHlth g s).fresh = s.fresh := rfl
end

section
variable (g : LadderSt → LadderSt) (s : State)
@[simp] theorem onLad_tick : (onLad g s).tick = s.tick := rfl
@[simp] theorem onLad_str : (onLad g s).str = s.str := rfl
@[simp] theorem onLad_pins : (onLad g s).pins = s.pins := rfl
@[simp] theorem onLad_pwr : (onLad g s).pwr = s.pwr := rfl
@[simp] theorem onLad_tb : (onLad g s).tb = s.tb := rfl
@[simp] theorem onLad_dawn : (onLad g s).dawn = s.dawn := rfl
@[simp] theorem onLad_idn : (onLad g s).idn = s.idn := rfl
@[simp] theorem onLad_cfg : (onLad g s).cfg = s.cfg := rfl
@[simp] theorem onLad_met : (onLad g s).met = s.met := rfl
@[simp] theorem onLad_skl : (onLad g s).skl = s.skl := rfl
@[simp] theorem onLad_tab : (onLad g s).tab = s.tab := rfl
@[simp] theorem onLad_est : (onLad g s).est = s.est := rfl
@[simp] theorem onLad_jrn : (onLad g s).jrn = s.jrn := rfl
@[simp] theorem onLad_imp : (onLad g s).imp = s.imp := rfl
@[simp] theorem onLad_cnv : (onLad g s).cnv = s.cnv := rfl
@[simp] theorem onLad_dsp : (onLad g s).dsp = s.dsp := rfl
@[simp] theorem onLad_bal : (onLad g s).bal = s.bal := rfl
@[simp] theorem onLad_thm : (onLad g s).thm = s.thm := rfl
@[simp] theorem onLad_prot : (onLad g s).prot = s.prot := rfl
@[simp] theorem onLad_cont : (onLad g s).cont = s.cont := rfl
@[simp] theorem onLad_iso : (onLad g s).iso = s.iso := rfl
@[simp] theorem onLad_pair : (onLad g s).pair = s.pair := rfl
@[simp] theorem onLad_host : (onLad g s).host = s.host := rfl
@[simp] theorem onLad_ops : (onLad g s).ops = s.ops := rfl
@[simp] theorem onLad_irq : (onLad g s).irq = s.irq := rfl
@[simp] theorem onLad_rings : (onLad g s).rings = s.rings := rfl
@[simp] theorem onLad_rcd : (onLad g s).rcd = s.rcd := rfl
@[simp] theorem onLad_can : (onLad g s).can = s.can := rfl
@[simp] theorem onLad_hlth : (onLad g s).hlth = s.hlth := rfl
@[simp] theorem onLad_lad : (onLad g s).lad = g s.lad := rfl
@[simp] theorem onLad_upd : (onLad g s).upd = s.upd := rfl
@[simp] theorem onLad_jtag : (onLad g s).jtag = s.jtag := rfl
@[simp] theorem onLad_out : (onLad g s).out = s.out := rfl
@[simp] theorem onLad_pending : (onLad g s).pending = s.pending := rfl
@[simp] theorem onLad_fresh : (onLad g s).fresh = s.fresh := rfl
end

section
variable (g : UpdSt → UpdSt) (s : State)
@[simp] theorem onUpd_tick : (onUpd g s).tick = s.tick := rfl
@[simp] theorem onUpd_str : (onUpd g s).str = s.str := rfl
@[simp] theorem onUpd_pins : (onUpd g s).pins = s.pins := rfl
@[simp] theorem onUpd_pwr : (onUpd g s).pwr = s.pwr := rfl
@[simp] theorem onUpd_tb : (onUpd g s).tb = s.tb := rfl
@[simp] theorem onUpd_dawn : (onUpd g s).dawn = s.dawn := rfl
@[simp] theorem onUpd_idn : (onUpd g s).idn = s.idn := rfl
@[simp] theorem onUpd_cfg : (onUpd g s).cfg = s.cfg := rfl
@[simp] theorem onUpd_met : (onUpd g s).met = s.met := rfl
@[simp] theorem onUpd_skl : (onUpd g s).skl = s.skl := rfl
@[simp] theorem onUpd_tab : (onUpd g s).tab = s.tab := rfl
@[simp] theorem onUpd_est : (onUpd g s).est = s.est := rfl
@[simp] theorem onUpd_jrn : (onUpd g s).jrn = s.jrn := rfl
@[simp] theorem onUpd_imp : (onUpd g s).imp = s.imp := rfl
@[simp] theorem onUpd_cnv : (onUpd g s).cnv = s.cnv := rfl
@[simp] theorem onUpd_dsp : (onUpd g s).dsp = s.dsp := rfl
@[simp] theorem onUpd_bal : (onUpd g s).bal = s.bal := rfl
@[simp] theorem onUpd_thm : (onUpd g s).thm = s.thm := rfl
@[simp] theorem onUpd_prot : (onUpd g s).prot = s.prot := rfl
@[simp] theorem onUpd_cont : (onUpd g s).cont = s.cont := rfl
@[simp] theorem onUpd_iso : (onUpd g s).iso = s.iso := rfl
@[simp] theorem onUpd_pair : (onUpd g s).pair = s.pair := rfl
@[simp] theorem onUpd_host : (onUpd g s).host = s.host := rfl
@[simp] theorem onUpd_ops : (onUpd g s).ops = s.ops := rfl
@[simp] theorem onUpd_irq : (onUpd g s).irq = s.irq := rfl
@[simp] theorem onUpd_rings : (onUpd g s).rings = s.rings := rfl
@[simp] theorem onUpd_rcd : (onUpd g s).rcd = s.rcd := rfl
@[simp] theorem onUpd_can : (onUpd g s).can = s.can := rfl
@[simp] theorem onUpd_hlth : (onUpd g s).hlth = s.hlth := rfl
@[simp] theorem onUpd_lad : (onUpd g s).lad = s.lad := rfl
@[simp] theorem onUpd_upd : (onUpd g s).upd = g s.upd := rfl
@[simp] theorem onUpd_jtag : (onUpd g s).jtag = s.jtag := rfl
@[simp] theorem onUpd_out : (onUpd g s).out = s.out := rfl
@[simp] theorem onUpd_pending : (onUpd g s).pending = s.pending := rfl
@[simp] theorem onUpd_fresh : (onUpd g s).fresh = s.fresh := rfl
end

section
variable (g : JtagSt → JtagSt) (s : State)
@[simp] theorem onJtag_tick : (onJtag g s).tick = s.tick := rfl
@[simp] theorem onJtag_str : (onJtag g s).str = s.str := rfl
@[simp] theorem onJtag_pins : (onJtag g s).pins = s.pins := rfl
@[simp] theorem onJtag_pwr : (onJtag g s).pwr = s.pwr := rfl
@[simp] theorem onJtag_tb : (onJtag g s).tb = s.tb := rfl
@[simp] theorem onJtag_dawn : (onJtag g s).dawn = s.dawn := rfl
@[simp] theorem onJtag_idn : (onJtag g s).idn = s.idn := rfl
@[simp] theorem onJtag_cfg : (onJtag g s).cfg = s.cfg := rfl
@[simp] theorem onJtag_met : (onJtag g s).met = s.met := rfl
@[simp] theorem onJtag_skl : (onJtag g s).skl = s.skl := rfl
@[simp] theorem onJtag_tab : (onJtag g s).tab = s.tab := rfl
@[simp] theorem onJtag_est : (onJtag g s).est = s.est := rfl
@[simp] theorem onJtag_jrn : (onJtag g s).jrn = s.jrn := rfl
@[simp] theorem onJtag_imp : (onJtag g s).imp = s.imp := rfl
@[simp] theorem onJtag_cnv : (onJtag g s).cnv = s.cnv := rfl
@[simp] theorem onJtag_dsp : (onJtag g s).dsp = s.dsp := rfl
@[simp] theorem onJtag_bal : (onJtag g s).bal = s.bal := rfl
@[simp] theorem onJtag_thm : (onJtag g s).thm = s.thm := rfl
@[simp] theorem onJtag_prot : (onJtag g s).prot = s.prot := rfl
@[simp] theorem onJtag_cont : (onJtag g s).cont = s.cont := rfl
@[simp] theorem onJtag_iso : (onJtag g s).iso = s.iso := rfl
@[simp] theorem onJtag_pair : (onJtag g s).pair = s.pair := rfl
@[simp] theorem onJtag_host : (onJtag g s).host = s.host := rfl
@[simp] theorem onJtag_ops : (onJtag g s).ops = s.ops := rfl
@[simp] theorem onJtag_irq : (onJtag g s).irq = s.irq := rfl
@[simp] theorem onJtag_rings : (onJtag g s).rings = s.rings := rfl
@[simp] theorem onJtag_rcd : (onJtag g s).rcd = s.rcd := rfl
@[simp] theorem onJtag_can : (onJtag g s).can = s.can := rfl
@[simp] theorem onJtag_hlth : (onJtag g s).hlth = s.hlth := rfl
@[simp] theorem onJtag_lad : (onJtag g s).lad = s.lad := rfl
@[simp] theorem onJtag_upd : (onJtag g s).upd = s.upd := rfl
@[simp] theorem onJtag_jtag : (onJtag g s).jtag = g s.jtag := rfl
@[simp] theorem onJtag_out : (onJtag g s).out = s.out := rfl
@[simp] theorem onJtag_pending : (onJtag g s).pending = s.pending := rfl
@[simp] theorem onJtag_fresh : (onJtag g s).fresh = s.fresh := rfl
end

section
variable (g : OutSt → OutSt) (s : State)
@[simp] theorem onOut_tick : (onOut g s).tick = s.tick := rfl
@[simp] theorem onOut_str : (onOut g s).str = s.str := rfl
@[simp] theorem onOut_pins : (onOut g s).pins = s.pins := rfl
@[simp] theorem onOut_pwr : (onOut g s).pwr = s.pwr := rfl
@[simp] theorem onOut_tb : (onOut g s).tb = s.tb := rfl
@[simp] theorem onOut_dawn : (onOut g s).dawn = s.dawn := rfl
@[simp] theorem onOut_idn : (onOut g s).idn = s.idn := rfl
@[simp] theorem onOut_cfg : (onOut g s).cfg = s.cfg := rfl
@[simp] theorem onOut_met : (onOut g s).met = s.met := rfl
@[simp] theorem onOut_skl : (onOut g s).skl = s.skl := rfl
@[simp] theorem onOut_tab : (onOut g s).tab = s.tab := rfl
@[simp] theorem onOut_est : (onOut g s).est = s.est := rfl
@[simp] theorem onOut_jrn : (onOut g s).jrn = s.jrn := rfl
@[simp] theorem onOut_imp : (onOut g s).imp = s.imp := rfl
@[simp] theorem onOut_cnv : (onOut g s).cnv = s.cnv := rfl
@[simp] theorem onOut_dsp : (onOut g s).dsp = s.dsp := rfl
@[simp] theorem onOut_bal : (onOut g s).bal = s.bal := rfl
@[simp] theorem onOut_thm : (onOut g s).thm = s.thm := rfl
@[simp] theorem onOut_prot : (onOut g s).prot = s.prot := rfl
@[simp] theorem onOut_cont : (onOut g s).cont = s.cont := rfl
@[simp] theorem onOut_iso : (onOut g s).iso = s.iso := rfl
@[simp] theorem onOut_pair : (onOut g s).pair = s.pair := rfl
@[simp] theorem onOut_host : (onOut g s).host = s.host := rfl
@[simp] theorem onOut_ops : (onOut g s).ops = s.ops := rfl
@[simp] theorem onOut_irq : (onOut g s).irq = s.irq := rfl
@[simp] theorem onOut_rings : (onOut g s).rings = s.rings := rfl
@[simp] theorem onOut_rcd : (onOut g s).rcd = s.rcd := rfl
@[simp] theorem onOut_can : (onOut g s).can = s.can := rfl
@[simp] theorem onOut_hlth : (onOut g s).hlth = s.hlth := rfl
@[simp] theorem onOut_lad : (onOut g s).lad = s.lad := rfl
@[simp] theorem onOut_upd : (onOut g s).upd = s.upd := rfl
@[simp] theorem onOut_jtag : (onOut g s).jtag = s.jtag := rfl
@[simp] theorem onOut_out : (onOut g s).out = g s.out := rfl
@[simp] theorem onOut_pending : (onOut g s).pending = s.pending := rfl
@[simp] theorem onOut_fresh : (onOut g s).fresh = s.fresh := rfl
end

section
variable (s : State)
@[simp] theorem tickFresh_tick : (tickFresh s).tick = s.tick := rfl
@[simp] theorem tickFresh_str : (tickFresh s).str = s.str := rfl
@[simp] theorem tickFresh_pins : (tickFresh s).pins = s.pins := rfl
@[simp] theorem tickFresh_pwr : (tickFresh s).pwr = s.pwr := rfl
@[simp] theorem tickFresh_tb : (tickFresh s).tb = s.tb := rfl
@[simp] theorem tickFresh_dawn : (tickFresh s).dawn = s.dawn := rfl
@[simp] theorem tickFresh_idn : (tickFresh s).idn = s.idn := rfl
@[simp] theorem tickFresh_cfg : (tickFresh s).cfg = s.cfg := rfl
@[simp] theorem tickFresh_met : (tickFresh s).met = s.met := rfl
@[simp] theorem tickFresh_skl : (tickFresh s).skl = s.skl := rfl
@[simp] theorem tickFresh_tab : (tickFresh s).tab = s.tab := rfl
@[simp] theorem tickFresh_est : (tickFresh s).est = s.est := rfl
@[simp] theorem tickFresh_jrn : (tickFresh s).jrn = s.jrn := rfl
@[simp] theorem tickFresh_imp : (tickFresh s).imp = s.imp := rfl
@[simp] theorem tickFresh_cnv : (tickFresh s).cnv = s.cnv := rfl
@[simp] theorem tickFresh_dsp : (tickFresh s).dsp = s.dsp := rfl
@[simp] theorem tickFresh_bal : (tickFresh s).bal = s.bal := rfl
@[simp] theorem tickFresh_thm : (tickFresh s).thm = s.thm := rfl
@[simp] theorem tickFresh_prot : (tickFresh s).prot = s.prot := rfl
@[simp] theorem tickFresh_cont : (tickFresh s).cont = s.cont := rfl
@[simp] theorem tickFresh_iso : (tickFresh s).iso = s.iso := rfl
@[simp] theorem tickFresh_pair : (tickFresh s).pair = s.pair := rfl
@[simp] theorem tickFresh_host : (tickFresh s).host = s.host := rfl
@[simp] theorem tickFresh_ops : (tickFresh s).ops = s.ops := rfl
@[simp] theorem tickFresh_irq : (tickFresh s).irq = s.irq := rfl
@[simp] theorem tickFresh_rings : (tickFresh s).rings = s.rings := rfl
@[simp] theorem tickFresh_rcd : (tickFresh s).rcd = s.rcd := rfl
@[simp] theorem tickFresh_can : (tickFresh s).can = s.can := rfl
@[simp] theorem tickFresh_hlth : (tickFresh s).hlth = s.hlth := rfl
@[simp] theorem tickFresh_lad : (tickFresh s).lad = s.lad := rfl
@[simp] theorem tickFresh_upd : (tickFresh s).upd = s.upd := rfl
@[simp] theorem tickFresh_jtag : (tickFresh s).jtag = s.jtag := rfl
@[simp] theorem tickFresh_out : (tickFresh s).out = s.out := rfl
@[simp] theorem tickFresh_pending : (tickFresh s).pending = s.pending := rfl
@[simp] theorem tickFresh_fresh : (tickFresh s).fresh = s.fresh + 1 := rfl
end

end Sys2Proof.Machine
end

