-- ==== Sys2Proof/Laws/Frame.lean ====
section
/-! SUPPORT. Part frames: for every shared operation and every meaning, the parts of the state it may change. A frame is an
equation between the two states with those parts blanked, so that one rewriting composes it; `Frame.of_blank` gives the
frame statement back. -/
set_option linter.unusedTactic false
set_option linter.unreachableTactic false
namespace Sys2Proof.Machine
set_option linter.unusedVariables false
set_option linter.unusedSimpArgs false

/-- A state with the parts of a list put back to their reset values. -/
def blank (l : List Part) (s : State) : State where
  tick := if l.contains .tick then State.reset.tick else s.tick
  str := if l.contains .str then State.reset.str else s.str
  pins := if l.contains .pins then State.reset.pins else s.pins
  pwr := if l.contains .pwr then State.reset.pwr else s.pwr
  tb := if l.contains .tb then State.reset.tb else s.tb
  dawn := { (if l.contains .dawn then State.reset.dawn else s.dawn) with deferred := if l.contains .deferred then [] else s.dawn.deferred }
  idn := if l.contains .idn then State.reset.idn else s.idn
  cfg := if l.contains .cfg then State.reset.cfg else s.cfg
  met := if l.contains .met then State.reset.met else s.met
  skl := if l.contains .skl then State.reset.skl else s.skl
  tab := if l.contains .tab then State.reset.tab else s.tab
  est := if l.contains .est then State.reset.est else s.est
  jrn := if l.contains .jrn then State.reset.jrn else s.jrn
  imp := if l.contains .imp then State.reset.imp else s.imp
  cnv := if l.contains .cnv then State.reset.cnv else s.cnv
  dsp := if l.contains .dsp then State.reset.dsp else s.dsp
  bal := if l.contains .bal then State.reset.bal else s.bal
  thm := if l.contains .thm then State.reset.thm else s.thm
  prot := if l.contains .prot then State.reset.prot else s.prot
  cont := if l.contains .cont then State.reset.cont else s.cont
  iso := if l.contains .iso then State.reset.iso else s.iso
  pair := if l.contains .pair then State.reset.pair else s.pair
  host := if l.contains .host then State.reset.host else s.host
  ops := if l.contains .ops then State.reset.ops else s.ops
  irq := if l.contains .irq then State.reset.irq else s.irq
  rings := if l.contains .rings then State.reset.rings else s.rings
  rcd := { (if l.contains .rcd then State.reset.rcd else s.rcd) with freezeSession := if l.contains .logFreeze then 0 else s.rcd.freezeSession }
  can := if l.contains .can then State.reset.can else s.can
  hlth := if l.contains .hlth then State.reset.hlth else s.hlth
  lad := { (if l.contains .lad then State.reset.lad else s.lad) with rung := if l.contains .rung then 0 else s.lad.rung, rungSince := if l.contains .rung then 0 else s.lad.rungSince, rungTime := if l.contains .rung then [] else s.lad.rungTime }
  upd := { (if l.contains .upd then State.reset.upd else s.upd) with counter := if l.contains .fuses then 0 else s.upd.counter, revoked := if l.contains .fuses then 0 else s.upd.revoked, keyHash := if l.contains .fuses then [] else s.upd.keyHash }
  jtag := if l.contains .jtag then State.reset.jtag else s.jtag
  out := if l.contains .out then State.reset.out else s.out
  fresh := if l.contains .fresh then State.reset.fresh else s.fresh
  pending := if l.contains .pending then State.reset.pending else s.pending

theorem Frame.of_blank {l : List Part} {s t : State} (h : blank l t = blank l s) : Frame l s t := by
  intro p hp
  cases p
  · have k := congrArg State.tick h; simp only [blank, hp, Bool.false_eq_true, if_false] at k; exact k
  · have k := congrArg State.str h; simp only [blank, hp, Bool.false_eq_true, if_false] at k; exact k
  · have k := congrArg State.pins h; simp only [blank, hp, Bool.false_eq_true, if_false] at k; exact k
  · have k := congrArg State.pwr h; simp only [blank, hp, Bool.false_eq_true, if_false] at k; exact k
  · have k := congrArg State.tb h; simp only [blank, hp, Bool.false_eq_true, if_false] at k; exact k
  · have k := congrArg (fun x : State => { x.dawn with deferred := [] }) h; simp only [blank, hp, Bool.false_eq_true, if_false] at k; exact k
  · have k := congrArg (fun x : State => x.dawn.deferred) h; simp only [blank, hp, Bool.false_eq_true, if_false] at k; exact k
  · have k := congrArg State.idn h; simp only [blank, hp, Bool.false_eq_true, if_false] at k; exact k
  · have k := congrArg State.cfg h; simp only [blank, hp, Bool.false_eq_true, if_false] at k; exact k
  · have k := congrArg State.met h; simp only [blank, hp, Bool.false_eq_true, if_false] at k; exact k
  · have k := congrArg State.skl h; simp only [blank, hp, Bool.false_eq_true, if_false] at k; exact k
  · have k := congrArg State.tab h; simp only [blank, hp, Bool.false_eq_true, if_false] at k; exact k
  · have k := congrArg State.est h; simp only [blank, hp, Bool.false_eq_true, if_false] at k; exact k
  · have k := congrArg State.jrn h; simp only [blank, hp, Bool.false_eq_true, if_false] at k; exact k
  · have k := congrArg State.imp h; simp only [blank, hp, Bool.false_eq_true, if_false] at k; exact k
  · have k := congrArg State.cnv h; simp only [blank, hp, Bool.false_eq_true, if_false] at k; exact k
  · have k := congrArg State.dsp h; simp only [blank, hp, Bool.false_eq_true, if_false] at k; exact k
  · have k := congrArg State.bal h; simp only [blank, hp, Bool.false_eq_true, if_false] at k; exact k
  · have k := congrArg State.thm h; simp only [blank, hp, Bool.false_eq_true, if_false] at k; exact k
  · have k := congrArg State.prot h; simp only [blank, hp, Bool.false_eq_true, if_false] at k; exact k
  · have k := congrArg State.cont h; simp only [blank, hp, Bool.false_eq_true, if_false] at k; exact k
  · have k := congrArg State.iso h; simp only [blank, hp, Bool.false_eq_true, if_false] at k; exact k
  · have k := congrArg State.pair h; simp only [blank, hp, Bool.false_eq_true, if_false] at k; exact k
  · have k := congrArg State.host h; simp only [blank, hp, Bool.false_eq_true, if_false] at k; exact k
  · have k := congrArg State.ops h; simp only [blank, hp, Bool.false_eq_true, if_false] at k; exact k
  · have k := congrArg State.irq h; simp only [blank, hp, Bool.false_eq_true, if_false] at k; exact k
  · have k := congrArg State.rings h; simp only [blank, hp, Bool.false_eq_true, if_false] at k; exact k
  · have k := congrArg (fun x : State => { x.rcd with freezeSession := 0 }) h; simp only [blank, hp, Bool.false_eq_true, if_false] at k; exact k
  · have k := congrArg (fun x : State => x.rcd.freezeSession) h; simp only [blank, hp, Bool.false_eq_true, if_false] at k; exact k
  · have k := congrArg State.can h; simp only [blank, hp, Bool.false_eq_true, if_false] at k; exact k
  · have k := congrArg State.hlth h; simp only [blank, hp, Bool.false_eq_true, if_false] at k; exact k
  · have k := congrArg (fun x : State => { x.lad with rung := 0, rungSince := 0, rungTime := [] }) h; simp only [blank, hp, Bool.false_eq_true, if_false] at k; exact k
  · have k := congrArg (fun x : State => (x.lad.rung, x.lad.rungSince, x.lad.rungTime)) h; simp only [blank, hp, Bool.false_eq_true, if_false] at k
    exact ⟨congrArg Prod.fst k, congrArg (fun y => y.2.1) k, congrArg (fun y => y.2.2) k⟩
  · have k := congrArg (fun x : State => { x.upd with counter := 0, revoked := 0, keyHash := [] }) h; simp only [blank, hp, Bool.false_eq_true, if_false] at k; exact k
  · have k := congrArg (fun x : State => (x.upd.counter, x.upd.revoked, x.upd.keyHash)) h; simp only [blank, hp, Bool.false_eq_true, if_false] at k; exact ⟨congrArg Prod.fst k, congrArg (·.2.1) k, congrArg (·.2.2) k⟩
  · have k := congrArg State.jtag h; simp only [blank, hp, Bool.false_eq_true, if_false] at k; exact k
  · have k := congrArg State.out h; simp only [blank, hp, Bool.false_eq_true, if_false] at k; exact k
  · have k := congrArg State.pending h; simp only [blank, hp, Bool.false_eq_true, if_false] at k; exact k
  · have k := congrArg State.fresh h; simp only [blank, hp, Bool.false_eq_true, if_false] at k; exact k

theorem blank_of {l : List Part} {s t : State} (h : Frame l s t) : blank l t = blank l s := by
  have k : ∀ p : Part, l.contains p = true ∨ p.same s t := fun p => (Bool.eq_false_or_eq_true (l.contains p)).imp_right (h p)
  simp only [blank]
  congr 1
  · rcases k .tick with e | e
    · simp only [e, if_true]
    · rw [show t.tick = s.tick from e]
  · rcases k .str with e | e
    · simp only [e, if_true]
    · rw [show t.str = s.str from e]
  · rcases k .pins with e | e
    · simp only [e, if_true]
    · rw [show t.pins = s.pins from e]
  · rcases k .pwr with e | e
    · simp only [e, if_true]
    · rw [show t.pwr = s.pwr from e]
  · rcases k .tb with e | e
    · simp only [e, if_true]
    · rw [show t.tb = s.tb from e]
  · rcases k .dawn with a | a <;> rcases k .deferred with b | b
    · simp only [a, b, if_true]
    · replace b : t.dawn.deferred = s.dawn.deferred := b; simp only [a, if_true, b]
    · simp only [b, if_true]; split
      · rfl
      · exact a
    · replace b : t.dawn.deferred = s.dawn.deferred := b; simp only [b]; rcases Bool.eq_false_or_eq_true (l.contains .dawn) with c | c
      · simp only [c, if_true]
      · simp only [c, Bool.false_eq_true, if_false]; exact congrArg (fun x : DawnSt => { x with deferred := if l.contains .deferred then [] else s.dawn.deferred }) a
  · rcases k .idn with e | e
    · simp only [e, if_true]
    · rw [show t.idn = s.idn from e]
  · rcases k .cfg with e | e
    · simp only [e, if_true]
    · rw [show t.cfg = s.cfg from e]
  · rcases k .met with e | e
    · simp only [e, if_true]
    · rw [show t.met = s.met from e]
  · rcases k .skl with e | e
    · simp only [e, if_true]
    · rw [show t.skl = s.skl from e]
  · rcases k .tab with e | e
    · simp only [e, if_true]
    · rw [show t.tab = s.tab from e]
  · rcases k .est with e | e
    · simp only [e, if_true]
    · rw [show t.est = s.est from e]
  · rcases k .jrn with e | e
    · simp only [e, if_true]
    · rw [show t.jrn = s.jrn from e]
  · rcases k .imp with e | e
    · simp only [e, if_true]
    · rw [show t.imp = s.imp from e]
  · rcases k .cnv with e | e
    · simp only [e, if_true]
    · rw [show t.cnv = s.cnv from e]
  · rcases k .dsp with e | e
    · simp only [e, if_true]
    · rw [show t.dsp = s.dsp from e]
  · rcases k .bal with e | e
    · simp only [e, if_true]
    · rw [show t.bal = s.bal from e]
  · rcases k .thm with e | e
    · simp only [e, if_true]
    · rw [show t.thm = s.thm from e]
  · rcases k .prot with e | e
    · simp only [e, if_true]
    · rw [show t.prot = s.prot from e]
  · rcases k .cont with e | e
    · simp only [e, if_true]
    · rw [show t.cont = s.cont from e]
  · rcases k .iso with e | e
    · simp only [e, if_true]
    · rw [show t.iso = s.iso from e]
  · rcases k .pair with e | e
    · simp only [e, if_true]
    · rw [show t.pair = s.pair from e]
  · rcases k .host with e | e
    · simp only [e, if_true]
    · rw [show t.host = s.host from e]
  · rcases k .ops with e | e
    · simp only [e, if_true]
    · rw [show t.ops = s.ops from e]
  · rcases k .irq with e | e
    · simp only [e, if_true]
    · rw [show t.irq = s.irq from e]
  · rcases k .rings with e | e
    · simp only [e, if_true]
    · rw [show t.rings = s.rings from e]
  · rcases k .rcd with a | a <;> rcases k .logFreeze with b | b
    · simp only [a, b, if_true]
    · replace b : t.rcd.freezeSession = s.rcd.freezeSession := b; simp only [a, if_true, b]
    · simp only [b, if_true]; split
      · rfl
      · exact a
    · replace b : t.rcd.freezeSession = s.rcd.freezeSession := b; simp only [b]; rcases Bool.eq_false_or_eq_true (l.contains .rcd) with c | c
      · simp only [c, if_true]
      · simp only [c, Bool.false_eq_true, if_false]; exact congrArg (fun x : RecSt => { x with freezeSession := if l.contains .logFreeze then 0 else s.rcd.freezeSession }) a
  · rcases k .can with e | e
    · simp only [e, if_true]
    · rw [show t.can = s.can from e]
  · rcases k .hlth with e | e
    · simp only [e, if_true]
    · rw [show t.hlth = s.hlth from e]
  · rcases k .lad with a | a <;> rcases k .rung with b | ⟨b, b2, b3⟩
    · simp only [a, b, if_true]
    · simp only [a, if_true, b, b2, b3]
    · simp only [b, if_true]; split
      · rfl
      · exact a
    · simp only [b, b2, b3]; rcases Bool.eq_false_or_eq_true (l.contains .lad) with c | c
      · simp only [c, if_true]
      · simp only [c, Bool.false_eq_true, if_false]; exact congrArg (fun x : LadderSt => { x with rung := if l.contains .rung then 0 else s.lad.rung, rungSince := if l.contains .rung then 0 else s.lad.rungSince, rungTime := if l.contains .rung then [] else s.lad.rungTime }) a
  · rcases k .upd with a | a <;> rcases k .fuses with b | ⟨b, b2, b3⟩
    · simp only [a, b, if_true]
    · simp only [a, if_true, b, b2, b3]
    · simp only [b, if_true]; split
      · rfl
      · exact a
    · simp only [b, b2, b3]; rcases Bool.eq_false_or_eq_true (l.contains .upd) with c | c
      · simp only [c, if_true]
      · simp only [c, Bool.false_eq_true, if_false]; exact congrArg (fun x : UpdSt => { x with counter := if l.contains .fuses then 0 else s.upd.counter, revoked := if l.contains .fuses then 0 else s.upd.revoked, keyHash := if l.contains .fuses then [] else s.upd.keyHash }) a
  · rcases k .jtag with e | e
    · simp only [e, if_true]
    · rw [show t.jtag = s.jtag from e]
  · rcases k .out with e | e
    · simp only [e, if_true]
    · rw [show t.out = s.out from e]
  · rcases k .fresh with e | e
    · simp only [e, if_true]
    · rw [show t.fresh = s.fresh from e]
  · rcases k .pending with e | e
    · simp only [e, if_true]
    · rw [show t.pending = s.pending from e]

theorem within_out {l m : List Part} (h : within l m = true) {p : Part} (hp : m.contains p = false) : l.contains p = false := by
  rcases hl : l.contains p with _ | _
  · rfl
  · have := List.all_eq_true.1 h p (by simpa using hl)
    rw [this] at hp; exact absurd hp (by decide)

/-- A smaller frame is a frame. -/
theorem Frame.mono {l m : List Part} {s t : State} (h : Frame l s t) (k : within l m = true) : Frame m s t :=
  fun p hp => h p (within_out k hp)

theorem widen {l m : List Part} {s t : State} (h : blank l t = blank l s) (k : within l m = true) : blank m t = blank m s :=
  blank_of ((Frame.of_blank h).mono k)

theorem within_refl (l : List Part) : within l l = true := List.all_eq_true.2 fun x hx => by simpa using hx

theorem within_trans {l m n : List Part} (h : within l m = true) (k : within m n = true) : within l n = true :=
  List.all_eq_true.2 fun x hx => List.all_eq_true.1 k x (by simpa using List.all_eq_true.1 h x hx)

/-- The frame of an outcome. -/
def Frames (l : List Part) (s : State) (o : Host.Outcome State Fault Refusal) : Prop := ∀ t, o = .next t → blank l t = blank l s

theorem frames_next (l : List Part) (s t : State) : Frames l s (.next t) ↔ blank l t = blank l s :=
  ⟨fun h => h t rfl, fun h _ e => by cases e; exact h⟩

theorem widens {l m : List Part} {s : State} {o : Host.Outcome State Fault Refusal} (h : Frames l s o) (k : within l m = true) :
    Frames m s o := fun t e => widen (h t e) k

theorem foldl_blank {α : Type} {l : List Part} (f : State → α → State) (xs : List α) (s : State)
    (h : ∀ t a, blank l (f t a) = blank l t) : blank l (xs.foldl f s) = blank l s := by
  induction xs generalizing s with
  | nil => rfl
  | cons a xs ih => exact (ih (f s a)).trans (h s a)

theorem ite_blank {l : List Part} {c : Prop} [Decidable c] {a b s : State} (ha : blank l a = blank l s) (hb : blank l b = blank l s) :
    blank l (if c then a else b) = blank l s := by split <;> assumption

theorem cfg_blank {l : List Part} (w : within [.cfg] l = true) (c : PlugCfg) (s : State) : blank l { s with cfg := c } = blank l s :=
  blank_of (Frame.mono (fun p hp => by cases p <;> first | rfl | exact ⟨rfl, rfl⟩ | exact ⟨rfl, rfl, rfl⟩ | cases hp) w)

/-- An update of the firmware-update part that leaves the fuses alone. -/
theorem onUpd_blank {l : List Part} (w : within [.upd] l = true) (g : UpdSt → UpdSt) (s : State)
    (h : ∀ u, (g u).counter = u.counter ∧ (g u).revoked = u.revoked ∧ (g u).keyHash = u.keyHash) :
    blank l (onUpd g s) = blank l s :=
  blank_of (Frame.mono (fun p hp => by cases p <;> first | rfl | exact ⟨rfl, rfl⟩ | exact ⟨rfl, rfl, rfl⟩ | exact h _ | cases hp) w)

/-- Any update of it. -/
theorem onUpd_fuses_blank {l : List Part} (w : within [.upd, .fuses] l = true) (g : UpdSt → UpdSt) (s : State) :
    blank l (onUpd g s) = blank l s :=
  blank_of (Frame.mono (fun p hp => by cases p <;> first | rfl | exact ⟨rfl, rfl⟩ | exact ⟨rfl, rfl, rfl⟩ | cases hp) w)

theorem deferred_blank {l : List Part} (w : within [.deferred] l = true) (x : DawnSt → List Intake) (s : State) :
    blank l (onDawn (fun d => { d with deferred := x d }) s) = blank l s :=
  blank_of (Frame.mono (fun p hp => by cases p <;> first | rfl | exact ⟨rfl, rfl⟩ | exact ⟨rfl, rfl, rfl⟩ | cases hp) w)

theorem logFreeze_blank {l : List Part} (w : within [.logFreeze] l = true) (x : RecSt → Nat) (s : State) :
    blank l (onRcd (fun d => { d with freezeSession := x d }) s) = blank l s :=
  blank_of (Frame.mono (fun p hp => by cases p <;> first | rfl | exact ⟨rfl, rfl⟩ | exact ⟨rfl, rfl, rfl⟩ | cases hp) w)

theorem rung_blank {l : List Part} (w : within [.rung] l = true) (x y : LadderSt → Nat) (z : LadderSt → List Nat) (s : State) :
    blank l (onLad (fun d => { d with rung := x d, rungSince := y d, rungTime := z d }) s) = blank l s :=
  blank_of (Frame.mono (fun p hp => by cases p <;> first | rfl | exact ⟨rfl, rfl⟩ | exact ⟨rfl, rfl, rfl⟩ | cases hp) w)

theorem onTick_blank {l : List Part} (w : within [.tick] l = true) (g : TickSt → TickSt) (s : State) : blank l (onTick g s) = blank l s :=
  blank_of (Frame.mono (fun p hp => by cases p <;> first | rfl | exact ⟨rfl, rfl⟩ | exact ⟨rfl, rfl, rfl⟩ | cases hp) w)
theorem onStr_blank {l : List Part} (w : within [.str] l = true) (g : StringSt → StringSt) (s : State) : blank l (onStr g s) = blank l s :=
  blank_of (Frame.mono (fun p hp => by cases p <;> first | rfl | exact ⟨rfl, rfl⟩ | exact ⟨rfl, rfl, rfl⟩ | cases hp) w)
theorem onPins_blank {l : List Part} (w : within [.pins] l = true) (g : PinSt → PinSt) (s : State) : blank l (onPins g s) = blank l s :=
  blank_of (Frame.mono (fun p hp => by cases p <;> first | rfl | exact ⟨rfl, rfl⟩ | exact ⟨rfl, rfl, rfl⟩ | cases hp) w)
theorem onPwr_blank {l : List Part} (w : within [.pwr] l = true) (g : PowerSt → PowerSt) (s : State) : blank l (onPwr g s) = blank l s :=
  blank_of (Frame.mono (fun p hp => by cases p <;> first | rfl | exact ⟨rfl, rfl⟩ | exact ⟨rfl, rfl, rfl⟩ | cases hp) w)
theorem onTb_blank {l : List Part} (w : within [.tb] l = true) (g : TimeSt → TimeSt) (s : State) : blank l (onTb g s) = blank l s :=
  blank_of (Frame.mono (fun p hp => by cases p <;> first | rfl | exact ⟨rfl, rfl⟩ | exact ⟨rfl, rfl, rfl⟩ | cases hp) w)
theorem onDawn_blank {l : List Part} (w : within [.dawn, .deferred] l = true) (g : DawnSt → DawnSt) (s : State) : blank l (onDawn g s) = blank l s :=
  blank_of (Frame.mono (fun p hp => by cases p <;> first | rfl | exact ⟨rfl, rfl⟩ | exact ⟨rfl, rfl, rfl⟩ | cases hp) w)
theorem onIdn_blank {l : List Part} (w : within [.idn] l = true) (g : IdentSt → IdentSt) (s : State) : blank l (onIdn g s) = blank l s :=
  blank_of (Frame.mono (fun p hp => by cases p <;> first | rfl | exact ⟨rfl, rfl⟩ | exact ⟨rfl, rfl, rfl⟩ | cases hp) w)
theorem onCfg_blank {l : List Part} (w : within [.cfg] l = true) (g : PlugCfg → PlugCfg) (s : State) : blank l (onCfg g s) = blank l s :=
  blank_of (Frame.mono (fun p hp => by cases p <;> first | rfl | exact ⟨rfl, rfl⟩ | exact ⟨rfl, rfl, rfl⟩ | cases hp) w)
theorem onMet_blank {l : List Part} (w : within [.met] l = true) (g : MetSt → MetSt) (s : State) : blank l (onMet g s) = blank l s :=
  blank_of (Frame.mono (fun p hp => by cases p <;> first | rfl | exact ⟨rfl, rfl⟩ | exact ⟨rfl, rfl, rfl⟩ | cases hp) w)
theorem onSkl_blank {l : List Part} (w : within [.skl] l = true) (g : LinkSt → LinkSt) (s : State) : blank l (onSkl g s) = blank l s :=
  blank_of (Frame.mono (fun p hp => by cases p <;> first | rfl | exact ⟨rfl, rfl⟩ | exact ⟨rfl, rfl, rfl⟩ | cases hp) w)
theorem onTab_blank {l : List Part} (w : within [.tab] l = true) (g : TableSt → TableSt) (s : State) : blank l (onTab g s) = blank l s :=
  blank_of (Frame.mono (fun p hp => by cases p <;> first | rfl | exact ⟨rfl, rfl⟩ | exact ⟨rfl, rfl, rfl⟩ | cases hp) w)
theorem onEst_blank {l : List Part} (w : within [.est] l = true) (g : EstSt → EstSt) (s : State) : blank l (onEst g s) = blank l s :=
  blank_of (Frame.mono (fun p hp => by cases p <;> first | rfl | exact ⟨rfl, rfl⟩ | exact ⟨rfl, rfl, rfl⟩ | cases hp) w)
theorem onJrn_blank {l : List Part} (w : within [.jrn] l = true) (g : JournalSt → JournalSt) (s : State) : blank l (onJrn g s) = blank l s :=
  blank_of (Frame.mono (fun p hp => by cases p <;> first | rfl | exact ⟨rfl, rfl⟩ | exact ⟨rfl, rfl, rfl⟩ | cases hp) w)
theorem onImp_blank {l : List Part} (w : within [.imp] l = true) (g : ImpSt → ImpSt) (s : State) : blank l (onImp g s) = blank l s :=
  blank_of (Frame.mono (fun p hp => by cases p <;> first | rfl | exact ⟨rfl, rfl⟩ | exact ⟨rfl, rfl, rfl⟩ | cases hp) w)
theorem onCnv_blank {l : List Part} (w : within [.cnv] l = true) (g : ConvSt → ConvSt) (s : State) : blank l (onCnv g s) = blank l s :=
  blank_of (Frame.mono (fun p hp => by cases p <;> first | rfl | exact ⟨rfl, rfl⟩ | exact ⟨rfl, rfl, rfl⟩ | cases hp) w)
theorem onDsp_blank {l : List Part} (w : within [.dsp] l = true) (g : DispSt → DispSt) (s : State) : blank l (onDsp g s) = blank l s :=
  blank_of (Frame.mono (fun p hp => by cases p <;> first | rfl | exact ⟨rfl, rfl⟩ | exact ⟨rfl, rfl, rfl⟩ | cases hp) w)
theorem onBal_blank {l : List Part} (w : within [.bal] l = true) (g : BalSt → BalSt) (s : State) : blank l (onBal g s) = blank l s :=
  blank_of (Frame.mono (fun p hp => by cases p <;> first | rfl | exact ⟨rfl, rfl⟩ | exact ⟨rfl, rfl, rfl⟩ | cases hp) w)
theorem onThm_blank {l : List Part} (w : within [.thm] l = true) (g : ThermSt → ThermSt) (s : State) : blank l (onThm g s) = blank l s :=
  blank_of (Frame.mono (fun p hp => by cases p <;> first | rfl | exact ⟨rfl, rfl⟩ | exact ⟨rfl, rfl, rfl⟩ | cases hp) w)
theorem onProt_blank {l : List Part} (w : within [.prot] l = true) (g : ProtSt → ProtSt) (s : State) : blank l (onProt g s) = blank l s :=
  blank_of (Frame.mono (fun p hp => by cases p <;> first | rfl | exact ⟨rfl, rfl⟩ | exact ⟨rfl, rfl, rfl⟩ | cases hp) w)
theorem onCont_blank {l : List Part} (w : within [.cont] l = true) (g : ContSt → ContSt) (s : State) : blank l (onCont g s) = blank l s :=
  blank_of (Frame.mono (fun p hp => by cases p <;> first | rfl | exact ⟨rfl, rfl⟩ | exact ⟨rfl, rfl, rfl⟩ | cases hp) w)
theorem onIso_blank {l : List Part} (w : within [.iso] l = true) (g : IsoSt → IsoSt) (s : State) : blank l (onIso g s) = blank l s :=
  blank_of (Frame.mono (fun p hp => by cases p <;> first | rfl | exact ⟨rfl, rfl⟩ | exact ⟨rfl, rfl, rfl⟩ | cases hp) w)
theorem onPair_blank {l : List Part} (w : within [.pair] l = true) (g : PairSt → PairSt) (s : State) : blank l (onPair g s) = blank l s :=
  blank_of (Frame.mono (fun p hp => by cases p <;> first | rfl | exact ⟨rfl, rfl⟩ | exact ⟨rfl, rfl, rfl⟩ | cases hp) w)
theorem onHost_blank {l : List Part} (w : within [.host] l = true) (g : HostSt → HostSt) (s : State) : blank l (onHost g s) = blank l s :=
  blank_of (Frame.mono (fun p hp => by cases p <;> first | rfl | exact ⟨rfl, rfl⟩ | exact ⟨rfl, rfl, rfl⟩ | cases hp) w)
theorem onOps_blank {l : List Part} (w : within [.ops] l = true) (g : OpsSt → OpsSt) (s : State) : blank l (onOps g s) = blank l s :=
  blank_of (Frame.mono (fun p hp => by cases p <;> first | rfl | exact ⟨rfl, rfl⟩ | exact ⟨rfl, rfl, rfl⟩ | cases hp) w)
theorem onIrq_blank {l : List Part} (w : within [.irq] l = true) (g : IrqSt → IrqSt) (s : State) : blank l (onIrq g s) = blank l s :=
  blank_of (Frame.mono (fun p hp => by cases p <;> first | rfl | exact ⟨rfl, rfl⟩ | exact ⟨rfl, rfl, rfl⟩ | cases hp) w)
theorem onRings_blank {l : List Part} (w : within [.rings] l = true) (g : RingSt → RingSt) (s : State) : blank l (onRings g s) = blank l s :=
  blank_of (Frame.mono (fun p hp => by cases p <;> first | rfl | exact ⟨rfl, rfl⟩ | exact ⟨rfl, rfl, rfl⟩ | cases hp) w)
theorem onRcd_blank {l : List Part} (w : within [.rcd, .logFreeze] l = true) (g : RecSt → RecSt) (s : State) : blank l (onRcd g s) = blank l s :=
  blank_of (Frame.mono (fun p hp => by cases p <;> first | rfl | exact ⟨rfl, rfl⟩ | exact ⟨rfl, rfl, rfl⟩ | cases hp) w)
theorem onCan_blank {l : List Part} (w : within [.can] l = true) (g : CanSt → CanSt) (s : State) : blank l (onCan g s) = blank l s :=
  blank_of (Frame.mono (fun p hp => by cases p <;> first | rfl | exact ⟨rfl, rfl⟩ | exact ⟨rfl, rfl, rfl⟩ | cases hp) w)
theorem onHlth_blank {l : List Part} (w : within [.hlth] l = true) (g : HealthSt → HealthSt) (s : State) : blank l (onHlth g s) = blank l s :=
  blank_of (Frame.mono (fun p hp => by cases p <;> first | rfl | exact ⟨rfl, rfl⟩ | exact ⟨rfl, rfl, rfl⟩ | cases hp) w)
theorem onLad_blank {l : List Part} (w : within [.lad, .rung] l = true) (g : LadderSt → LadderSt) (s : State) : blank l (onLad g s) = blank l s :=
  blank_of (Frame.mono (fun p hp => by cases p <;> first | rfl | exact ⟨rfl, rfl⟩ | exact ⟨rfl, rfl, rfl⟩ | cases hp) w)
theorem onJtag_blank {l : List Part} (w : within [.jtag] l = true) (g : JtagSt → JtagSt) (s : State) : blank l (onJtag g s) = blank l s :=
  blank_of (Frame.mono (fun p hp => by cases p <;> first | rfl | exact ⟨rfl, rfl⟩ | exact ⟨rfl, rfl, rfl⟩ | cases hp) w)
theorem onOut_blank {l : List Part} (w : within [.out] l = true) (g : OutSt → OutSt) (s : State) : blank l (onOut g s) = blank l s :=
  blank_of (Frame.mono (fun p hp => by cases p <;> first | rfl | exact ⟨rfl, rfl⟩ | exact ⟨rfl, rfl, rfl⟩ | cases hp) w)
theorem tickFresh_blank {l : List Part} (w : within [.fresh] l = true) (s : State) : blank l (tickFresh s) = blank l s :=
  blank_of (Frame.mono (fun p hp => by cases p <;> first | rfl | exact ⟨rfl, rfl⟩ | exact ⟨rfl, rfl, rfl⟩ | cases hp) w)

theorem reselect_blank {pl : List Part} (w : within [.irq] pl = true) (s : State) : blank pl (reselect s) = blank pl s := by
  refine widen (l := [.irq]) ?_ w
  simp (disch := decide) only [reselect, onIrq_blank]
theorem leaveAfternoon_blank {pl : List Part} (w : within [.rung] pl = true) (s : State) : blank pl (leaveAfternoon s) = blank pl s :=
  rung_blank w _ _ _ s
theorem wakeOnDeliver_blank {pl : List Part} (w : within [.irq, .rung] pl = true) (src : Nat) (s : State) : blank pl (wakeOnDeliver src s) = blank pl s := by
  refine widen (l := [.irq, .rung]) ?_ w
  simp (disch := decide) only [wakeOnDeliver, apply_ite (blank [.irq, .rung]), ite_self, onIrq_blank, leaveAfternoon_blank]
theorem irqCore_blank {pl : List Part} (w : within [.irq, .rung] pl = true) (src : Nat) (rising : Bool) (s : State) : blank pl (irqCore src rising s).1 = blank pl s := by
  refine widen (l := [.irq, .rung]) ?_ w
  unfold irqCore
  repeat' (first | (with_reducible rfl) | (simp (disch := decide) only [apply_ite (blank [.irq, .rung]), ite_self, onIrq_blank, reselect_blank, wakeOnDeliver_blank]; done) | (with_reducible refine ite_blank ?_ ?_) | split | (with_reducible refine (foldl_blank _ _ _ (fun _ _ => ?_)).trans ?_) | (dsimp only))
theorem onRing_blank {pl : List Part} (w : within [.rings] pl = true) (n : Nat) (g : Ring → Ring) (s : State) : blank pl (onRing n g s) = blank pl s := by
  refine widen (l := [.rings]) ?_ w
  simp (disch := decide) only [onRing, onRings_blank]
theorem waterIrq_blank {pl : List Part} (w : within [.irq, .rung] pl = true) (n : Nat) (was : Bool) (s : State) : blank pl (waterIrq n was s).1 = blank pl s := by
  refine widen (l := [.irq, .rung]) ?_ w
  unfold waterIrq
  repeat' (first | (with_reducible rfl) | (simp (disch := decide) only [apply_ite (blank [.irq, .rung]), ite_self, irqCore_blank]; done) | (with_reducible refine ite_blank ?_ ?_) | split | (with_reducible refine (foldl_blank _ _ _ (fun _ _ => ?_)).trans ?_) | (dsimp only))
theorem refuseCore_blank {pl : List Part} (w : within [.rings] pl = true) (n : Nat) (s : State) : blank pl (refuseCore n s).1 = blank pl s := by
  refine widen (l := [.rings]) ?_ w
  unfold refuseCore
  repeat' (first | (with_reducible rfl) | (simp (disch := decide) only [apply_ite (blank [.rings]), ite_self, onRing_blank]; done) | (with_reducible refine ite_blank ?_ ?_) | split | (with_reducible refine (foldl_blank _ _ _ (fun _ _ => ?_)).trans ?_) | (dsimp only))
theorem commitCore_blank {pl : List Part} (w : within [.irq, .rings, .rung] pl = true) (n : Nat) (p : Packet) (s : State) : blank pl (commitCore n p s).1 = blank pl s := by
  refine widen (l := [.irq, .rings, .rung]) ?_ w
  simp (disch := decide) only [commitCore, irqCore_blank, onRing_blank, waterIrq_blank]
theorem pushCore_blank {pl : List Part} (w : within [.irq, .rings, .rung] pl = true) (n : Nat) (p : Packet) (s : State) : blank pl (pushCore n p s).1 = blank pl s := by
  refine widen (l := [.irq, .rings, .rung]) ?_ w
  unfold pushCore
  split <;> simp (disch := decide) only [apply_ite (blank [.irq, .rings, .rung]), ite_self, commitCore_blank, refuseCore_blank]
theorem ringPutN_blank {pl : List Part} (w : within [.irq, .rings, .rung] pl = true) (f n : Nat) (p : Packet) (s : State) : blank pl (ringPutN f n p s) = blank pl s := by
  refine widen (l := [.irq, .rings, .rung]) ?_ w
  induction f generalizing n p s with
  | zero => exact pushCore_blank (by decide) n p s
  | succ f ih => exact (foldl_blank _ _ _ fun _ _ => ih ..).trans (pushCore_blank (by decide) ..)
theorem ringPut_blank {pl : List Part} (w : within [.irq, .rings, .rung] pl = true) (n : Nat) (p : Packet) (s : State) : blank pl (ringPut n p s) = blank pl s := by
  refine widen (l := [.irq, .rings, .rung]) ?_ w
  simp (disch := decide) only [ringPut, ringPutN_blank]
theorem ringNotes_blank {pl : List Part} (w : within [.irq, .rings, .rung] pl = true) (ms : List Note) (s : State) : blank pl (ringNotes ms s) = blank pl s := by
  refine widen (l := [.irq, .rings, .rung]) ?_ w
  unfold ringNotes
  repeat' (first | (with_reducible rfl) | (simp (disch := decide) only [apply_ite (blank [.irq, .rings, .rung]), ite_self, ringPut_blank]; done) | (with_reducible refine ite_blank ?_ ?_) | split | (with_reducible refine (foldl_blank _ _ _ (fun _ _ => ?_)).trans ?_) | (dsimp only))
theorem irqEvent_blank {pl : List Part} (w : within [.irq, .rings, .rung] pl = true) (src : Nat) (rising : Bool) (s : State) : blank pl (irqEvent src rising s) = blank pl s := by
  refine widen (l := [.irq, .rings, .rung]) ?_ w
  simp (disch := decide) only [irqEvent, irqCore_blank, ringNotes_blank]
theorem ringRel_blank {pl : List Part} (w : within [.irq, .rings, .rung] pl = true) (n : Nat) (s : State) : blank pl (ringRel n s) = blank pl s := by
  refine widen (l := [.irq, .rings, .rung]) ?_ w
  simp (disch := decide) only [ringRel, onRing_blank, ringNotes_blank, waterIrq_blank]
theorem logOnly_blank {pl : List Part} (w : within [.deferred, .irq, .rings, .rung] pl = true) (src : Nat) (code : Nat) (sev : Nat) (data : Bytes) (s : State) : blank pl (logOnly src code sev data s) = blank pl s := by
  refine widen (l := [.deferred, .irq, .rings, .rung]) ?_ w
  simp (disch := decide) only [logOnly, apply_ite (blank [.deferred, .irq, .rings, .rung]), ite_self, deferred_blank, ringPut_blank]
theorem thawLog_blank {pl : List Part} (w : within [.deferred, .irq, .rings, .logFreeze, .rung] pl = true) (cause : Nat) (s : State) : blank pl (thawLog cause s) = blank pl s := by
  refine widen (l := [.deferred, .irq, .rings, .logFreeze, .rung]) ?_ w
  simp (disch := decide) only [thawLog, apply_ite (blank [.deferred, .irq, .rings, .logFreeze, .rung]), ite_self, logOnly_blank, logFreeze_blank]
theorem log_blank {pl : List Part} (w : within [.deferred, .irq, .rings, .logFreeze, .rung] pl = true) (src : Nat) (code : Nat) (sev : Nat) (data : Bytes) (s : State) : blank pl (log src code sev data s) = blank pl s := by
  refine widen (l := [.deferred, .irq, .rings, .logFreeze, .rung]) ?_ w
  simp (disch := decide) only [log, apply_ite (blank [.deferred, .irq, .rings, .logFreeze, .rung]), ite_self, logOnly_blank, thawLog_blank]
theorem onDs_blank {pl : List Part} (w : within [.met] pl = true) (n : Nat) (g : DsCh → DsCh) (s : State) : blank pl (onDs n g s) = blank pl s := by
  refine widen (l := [.met]) ?_ w
  simp (disch := decide) only [onDs, onMet_blank]
theorem onSar_blank {pl : List Part} (w : within [.met] pl = true) (n : Nat) (g : SarCh → SarCh) (s : State) : blank pl (onSar n g s) = blank pl s := by
  refine widen (l := [.met]) ?_ w
  simp (disch := decide) only [onSar, onMet_blank]
theorem ds7Move_blank {pl : List Part} (w : within [.met] pl = true) (ch : Nat) (s : State) : blank pl (ds7Move ch s) = blank pl s := by
  refine widen (l := [.met]) ?_ w
  simp (disch := decide) only [ds7Move, onMet_blank]
theorem calCapture_blank {pl : List Part} (w : within [.met] pl = true) (s : State) : blank pl (calCapture s) = blank pl s := by
  refine widen (l := [.met]) ?_ w
  unfold calCapture
  split <;> simp (disch := decide) only [apply_ite (blank [.met]), ite_self, onDs_blank, onMet_blank]
theorem calRelease_blank {pl : List Part} (w : within [.met] pl = true) (s : State) : blank pl (calRelease s) = blank pl s := by
  refine widen (l := [.met]) ?_ w
  unfold calRelease
  split <;> simp (disch := decide) only [apply_ite (blank [.met]), ite_self, ds7Move_blank, onDs_blank, onMet_blank]
theorem onOp_blank {pl : List Part} (w : within [.ops] pl = true) (kind : Nat) (g : Op → Op) (s : State) : blank pl (onOp kind g s) = blank pl s := by
  refine widen (l := [.ops]) ?_ w
  simp (disch := decide) only [onOp, onOps_blank]
theorem endOp_blank {pl : List Part} (w : within [.ops] pl = true) (kind : Nat) (status : Nat) (result : Bytes) (s : State) : blank pl (endOp kind status result s) = blank pl s := by
  refine widen (l := [.ops]) ?_ w
  simp (disch := decide) only [endOp, onOp_blank, onOps_blank]
theorem publishOp_blank {pl : List Part} (w : within [.ops] pl = true) (kind : Nat) (result : Bytes) (s : State) : blank pl (publishOp kind result s) = blank pl s := by
  refine widen (l := [.ops]) ?_ w
  simp (disch := decide) only [publishOp, onOp_blank]
theorem closeOp_blank {pl : List Part} (w : within [.deferred, .met, .est, .imp, .bal, .iso, .irq, .rings, .rcd, .logFreeze, .rung] pl = true) (kind : Nat) (status : Nat) (s : State) : blank pl (closeOp kind status s) = blank pl s := by
  refine widen (l := [.deferred, .met, .est, .imp, .bal, .iso, .irq, .rings, .rcd, .logFreeze, .rung]) ?_ w
  unfold closeOp
  repeat' (first | (with_reducible rfl) | (simp (disch := decide) only [apply_ite (blank [.deferred, .met, .est, .imp, .bal, .iso, .irq, .rings, .rcd, .logFreeze, .rung]), ite_self, calRelease_blank, log_blank, onBal_blank, onEst_blank, onImp_blank, onIso_blank, onMet_blank, onRcd_blank]; done) | (with_reducible refine ite_blank ?_ ?_) | split | (with_reducible refine (foldl_blank _ _ _ (fun _ _ => ?_)).trans ?_) | (dsimp only))
theorem suspendPart_blank {pl : List Part} (w : within [.met, .imp, .bal, .iso] pl = true) (kind : Nat) (s : State) : blank pl (suspendPart kind s) = blank pl s := by
  refine widen (l := [.met, .imp, .bal, .iso]) ?_ w
  unfold suspendPart
  split <;> simp (disch := decide) only [apply_ite (blank [.met, .imp, .bal, .iso]), ite_self, calRelease_blank, onBal_blank, onImp_blank, onIso_blank, onMet_blank]
theorem opsAfter_blank {pl : List Part} (w : within [.deferred, .met, .est, .imp, .bal, .iso, .ops, .irq, .rings, .rcd, .logFreeze, .rung] pl = true) (st : StringState) (s : State) : blank pl (opsAfter st s) = blank pl s := by
  refine widen (l := [.deferred, .met, .est, .imp, .bal, .iso, .ops, .irq, .rings, .rcd, .logFreeze, .rung]) ?_ w
  unfold opsAfter
  repeat' (first | (with_reducible rfl) | (simp (disch := decide) only [apply_ite (blank [.deferred, .met, .est, .imp, .bal, .iso, .ops, .irq, .rings, .rcd, .logFreeze, .rung]), ite_self, closeOp_blank, endOp_blank, onOp_blank, suspendPart_blank]; done) | (with_reducible refine ite_blank ?_ ?_) | split | (with_reducible refine (foldl_blank _ _ _ (fun _ _ => ?_)).trans ?_) | (dsimp only))
theorem discardTimed_blank {pl : List Part} (w : within [.deferred, .dsp, .irq, .rings, .logFreeze, .rung] pl = true) (s : State) : blank pl (discardTimed s) = blank pl s := by
  refine widen (l := [.deferred, .dsp, .irq, .rings, .logFreeze, .rung]) ?_ w
  simp (disch := decide) only [discardTimed, apply_ite (blank [.deferred, .dsp, .irq, .rings, .logFreeze, .rung]), ite_self, log_blank, onDsp_blank]
theorem limitedStart_blank {pl : List Part} (w : within [.rcd, .logFreeze] pl = true) (s : State) : blank pl (limitedStart s) = blank pl s := by
  refine widen (l := [.rcd, .logFreeze]) ?_ w
  simp (disch := decide) only [limitedStart, onRcd_blank]
theorem recoveryStart_blank {pl : List Part} (w : within [.rcd, .logFreeze] pl = true) (s : State) : blank pl (recoveryStart s) = blank pl s := by
  refine widen (l := [.rcd, .logFreeze]) ?_ w
  simp (disch := decide) only [recoveryStart, limitedStart_blank, onRcd_blank]
theorem captureAfter_blank {pl : List Part} (w : within [.met, .host] pl = true) (st : StringState) (s : State) : blank pl (captureAfter st s) = blank pl s := by
  refine widen (l := [.met, .host]) ?_ w
  simp (disch := decide) only [captureAfter, apply_ite (blank [.met, .host]), ite_self, onHost_blank, onMet_blank]
theorem twLimitAfter_blank {pl : List Part} (w : within [.prot] pl = true) (st : StringState) (s : State) : blank pl (twLimitAfter st s) = blank pl s := by
  refine widen (l := [.prot]) ?_ w
  simp (disch := decide) only [twLimitAfter, apply_ite (blank [.prot]), ite_self, onProt_blank]
theorem dispatchAfter_blank {pl : List Part} (w : within [.dsp] pl = true) (old : StringState) (st : StringState) (s : State) : blank pl (dispatchAfter old st s) = blank pl s := by
  refine widen (l := [.dsp]) ?_ w
  simp (disch := decide) only [dispatchAfter, apply_ite (blank [.dsp]), ite_self, onDsp_blank]
theorem autoSweepAfter_blank {pl : List Part} (w : within [.imp] pl = true) (st : StringState) (s : State) : blank pl (autoSweepAfter st s) = blank pl s := by
  refine widen (l := [.imp]) ?_ w
  simp (disch := decide) only [autoSweepAfter, apply_ite (blank [.imp]), ite_self, onImp_blank]
theorem setState_blank {pl : List Part} (w : within [.str, .deferred, .met, .est, .imp, .dsp, .bal, .prot, .iso, .host, .ops, .irq, .rings, .rcd, .logFreeze, .rung] pl = true) (st : StringState) (cause : Nat) (s : State) : blank pl (setState st cause s) = blank pl s := by
  refine widen (l := [.str, .deferred, .met, .est, .imp, .dsp, .bal, .prot, .iso, .host, .ops, .irq, .rings, .rcd, .logFreeze, .rung]) ?_ w
  simp (disch := decide) only [setState, apply_ite (blank [.str, .deferred, .met, .est, .imp, .dsp, .bal, .prot, .iso, .host, .ops, .irq, .rings, .rcd, .logFreeze, .rung]), ite_self, autoSweepAfter_blank, captureAfter_blank, discardTimed_blank, dispatchAfter_blank, limitedStart_blank, log_blank, onIso_blank, onStr_blank, opsAfter_blank, twLimitAfter_blank]
theorem onCtl_blank {pl : List Part} (w : within [.can] pl = true) (ctl : Nat) (g : CanCtl → CanCtl) (s : State) : blank pl (onCtl ctl g s) = blank pl s := by
  refine widen (l := [.can]) ?_ w
  simp (disch := decide) only [onCtl, onCan_blank]
theorem canOff_blank {pl : List Part} (w : within [.can] pl = true) (s : State) : blank pl (canOff s) = blank pl s := by
  refine widen (l := [.can]) ?_ w
  simp (disch := decide) only [canOff, onCan_blank]
theorem canOn_blank {pl : List Part} (w : within [.can] pl = true) (s : State) : blank pl (canOn s) = blank pl s := by
  refine widen (l := [.can]) ?_ w
  simp (disch := decide) only [canOn, onCan_blank]
theorem abortPulse_blank {pl : List Part} (w : within [.prot] pl = true) (i : Nat) (s : State) : blank pl (abortPulse i s) = blank pl s := by
  refine widen (l := [.prot]) ?_ w
  unfold abortPulse
  split <;> simp (disch := decide) only [apply_ite (blank [.prot]), ite_self, onProt_blank]
theorem openSafeOut_blank {pl : List Part} (w : within [.prot] pl = true) (s : State) : blank pl (openSafeOut s) = blank pl s := by
  refine widen (l := [.prot]) ?_ w
  simp (disch := decide) only [openSafeOut, abortPulse_blank, onProt_blank]
theorem openImd_blank {pl : List Part} (w : within [.prot] pl = true) (s : State) : blank pl (openImd s) = blank pl s := by
  refine widen (l := [.prot]) ?_ w
  simp (disch := decide) only [openImd, abortPulse_blank, onProt_blank]
theorem onContactor_blank {pl : List Part} (w : within [.cont] pl = true) (k : Nat) (g : Contactor → Contactor) (s : State) : blank pl (onContactor k g s) = blank pl s := by
  refine widen (l := [.cont]) ?_ w
  simp (disch := decide) only [onContactor, onCont_blank]
theorem coilOff_blank {pl : List Part} (w : within [.prot, .cont] pl = true) (k : Nat) (s : State) : blank pl (coilOff k s) = blank pl s := by
  refine widen (l := [.prot, .cont]) ?_ w
  simp (disch := decide) only [coilOff, abortPulse_blank, onContactor_blank]
theorem coilsOff_blank {pl : List Part} (w : within [.prot, .cont] pl = true) (s : State) : blank pl (coilsOff s) = blank pl s := by
  refine widen (l := [.prot, .cont]) ?_ w
  simp (disch := decide) only [coilsOff, coilOff_blank, onCont_blank]
theorem coilOn_blank {pl : List Part} (w : within [.cont] pl = true) (k : Nat) (s : State) : blank pl (coilOn k s) = blank pl s := by
  refine widen (l := [.cont]) ?_ w
  simp (disch := decide) only [coilOn, onContactor_blank]
theorem gateSafeOff_blank {pl : List Part} (w : within [.pins] pl = true) (s : State) : blank pl (gateSafeOff s) = blank pl s := by
  refine widen (l := [.pins]) ?_ w
  simp (disch := decide) only [gateSafeOff, onPins_blank]
theorem stopSlots_blank {pl : List Part} (w : within [.cnv] pl = true) (s : State) : blank pl (stopSlots s) = blank pl s := by
  refine widen (l := [.cnv]) ?_ w
  simp (disch := decide) only [stopSlots, onCnv_blank]
theorem safeStop_blank {pl : List Part} (w : within [.str, .pins, .cnv, .dsp, .prot] pl = true) (trip : Bool) (s : State) : blank pl (safeStop trip s) = blank pl s := by
  refine widen (l := [.str, .pins, .cnv, .dsp, .prot]) ?_ w
  unfold safeStop
  repeat' (first | (with_reducible rfl) | (simp (disch := decide) only [apply_ite (blank [.str, .pins, .cnv, .dsp, .prot]), ite_self, gateSafeOff_blank, onDsp_blank, onProt_blank, onStr_blank, openSafeOut_blank, stopSlots_blank]; done) | (with_reducible refine ite_blank ?_ ?_) | split | (with_reducible refine (foldl_blank _ _ _ (fun _ _ => ?_)).trans ?_) | (dsimp only))
theorem tripNote_blank {pl : List Part} (w : within [.can] pl = true) (fn : Nat) (code : Nat) (s : State) : blank pl (tripNote fn code s) = blank pl s := by
  refine widen (l := [.can]) ?_ w
  simp (disch := decide) only [tripNote, onCan_blank]
theorem writeTripCopy_blank {pl : List Part} (w : within [.can] pl = true) (s : State) : blank pl (writeTripCopy s) = blank pl s := by
  refine widen (l := [.can]) ?_ w
  simp (disch := decide) only [writeTripCopy, apply_ite (blank [.can]), ite_self, onCan_blank, onCtl_blank]
theorem tripCleared_blank {pl : List Part} (w : within [.can] pl = true) (s : State) : blank pl (tripCleared s) = blank pl s := by
  refine widen (l := [.can]) ?_ w
  simp (disch := decide) only [tripCleared, onCan_blank, writeTripCopy_blank]
theorem latchClass2_blank {pl : List Part} (w : within [.idn] pl = true) (code : Nat) (cls : Nat) (s : State) : blank pl (latchClass2 code cls s) = blank pl s := by
  refine widen (l := [.idn]) ?_ w
  simp (disch := decide) only [latchClass2, apply_ite (blank [.idn]), ite_self, onIdn_blank]
theorem decideFault_blank {pl : List Part} (w : within [.str, .pins, .deferred, .idn, .met, .est, .imp, .cnv, .dsp, .bal, .prot, .iso, .host, .ops, .irq, .rings, .rcd, .logFreeze, .can, .rung] pl = true) (code : Nat) (cls : Nat) (trip : Bool) (fn : Nat) (s : State) : blank pl (decideFault code cls trip fn s) = blank pl s := by
  refine widen (l := [.str, .pins, .deferred, .idn, .met, .est, .imp, .cnv, .dsp, .bal, .prot, .iso, .host, .ops, .irq, .rings, .rcd, .logFreeze, .can, .rung]) ?_ w
  simp (disch := decide) only [decideFault, apply_ite (blank [.str, .pins, .deferred, .idn, .met, .est, .imp, .cnv, .dsp, .bal, .prot, .iso, .host, .ops, .irq, .rings, .rcd, .logFreeze, .can, .rung]), ite_self, latchClass2_blank, onStr_blank, safeStop_blank, setState_blank, tripNote_blank, writeTripCopy_blank]
theorem deactivate_blank {pl : List Part} (w : within [.str] pl = true) (code : Nat) (s : State) : blank pl (deactivate code s) = blank pl s := by
  refine widen (l := [.str]) ?_ w
  simp (disch := decide) only [deactivate, onStr_blank]
theorem demandRecord_blank {pl : List Part} (w : within [.deferred, .prot, .irq, .rings, .logFreeze, .rung] pl = true) (fn : Nat) (cause : Nat) (item : Nat) (value : Int) (limit : Option Int) (s : State) : blank pl (demandRecord fn cause item value limit s) = blank pl s := by
  refine widen (l := [.deferred, .prot, .irq, .rings, .logFreeze, .rung]) ?_ w
  simp (disch := decide) only [demandRecord, log_blank, onProt_blank]
theorem sfDemand_blank {pl : List Part} (w : within [.str, .pins, .deferred, .idn, .met, .est, .imp, .cnv, .dsp, .bal, .prot, .iso, .host, .ops, .irq, .rings, .rcd, .logFreeze, .can, .rung] pl = true) (fn : Nat) (cause : Nat) (cls : Nat) (trip : Bool) (item : Nat) (value : Int) (limit : Option Int) (s : State) : blank pl (sfDemand fn cause cls trip item value limit s) = blank pl s := by
  refine widen (l := [.str, .pins, .deferred, .idn, .met, .est, .imp, .cnv, .dsp, .bal, .prot, .iso, .host, .ops, .irq, .rings, .rcd, .logFreeze, .can, .rung]) ?_ w
  simp (disch := decide) only [sfDemand, decideFault_blank, demandRecord_blank]
theorem demandOver_blank {pl : List Part} (w : within [.prot] pl = true) (fn : Nat) (s : State) : blank pl (demandOver fn s) = blank pl s := by
  refine widen (l := [.prot]) ?_ w
  simp (disch := decide) only [demandOver, onProt_blank]
theorem setSync_blank {pl : List Part} (w : within [.tb, .deferred, .irq, .rings, .logFreeze, .rung] pl = true) (n : SyncState) (s : State) : blank pl (setSync n s) = blank pl s := by
  refine widen (l := [.tb, .deferred, .irq, .rings, .logFreeze, .rung]) ?_ w
  simp (disch := decide) only [setSync, apply_ite (blank [.tb, .deferred, .irq, .rings, .logFreeze, .rung]), ite_self, log_blank, onTb_blank]
theorem onQueue_blank {pl : List Part} (w : within [.tb] pl = true) (q : Nat) (g : List LaunchEntry → List LaunchEntry) (s : State) : blank pl (onQueue q g s) = blank pl s := by
  refine widen (l := [.tb]) ?_ w
  simp (disch := decide) only [onQueue, onTb_blank]
theorem holdFrame_blank {pl : List Part} (w : within [.out] pl = true) (q : Nat) (f : TxFrame) (s : State) : blank pl (holdFrame q f s) = blank pl s := by
  refine widen (l := [.out]) ?_ w
  simp (disch := decide) only [holdFrame, onOut_blank]
theorem emitMirror_blank {pl : List Part} (w : within [.pair, .out] pl = true) (mtype : Nat) (mtick : Nat) (payload : Bytes) (s : State) : blank pl (emitMirror mtype mtick payload s) = blank pl s := by
  refine widen (l := [.pair, .out]) ?_ w
  unfold emitMirror
  repeat' (first | (with_reducible rfl) | (simp (disch := decide) only [apply_ite (blank [.pair, .out]), ite_self, onOut_blank, onPair_blank]; done) | (with_reducible refine ite_blank ?_ ?_) | split | (with_reducible refine (foldl_blank _ _ _ (fun _ _ => ?_)).trans ?_) | (dsimp only))
theorem sendMirror_blank {pl : List Part} (w : within [.pair, .out] pl = true) (mtype : Nat) (mtick : Nat) (payload : Bytes) (s : State) : blank pl (sendMirror mtype mtick payload s) = blank pl s := by
  refine widen (l := [.pair, .out]) ?_ w
  simp (disch := decide) only [sendMirror, apply_ite (blank [.pair, .out]), ite_self, emitMirror_blank, holdFrame_blank]
theorem thermOff_blank {pl : List Part} (w : within [.cnv, .thm] pl = true) (s : State) : blank pl (thermOff s) = blank pl s := by
  refine widen (l := [.cnv, .thm]) ?_ w
  simp (disch := decide) only [thermOff, onCnv_blank, onThm_blank]
theorem releaseOwnership_blank {pl : List Part} (w : within [.str, .pins, .tb, .deferred, .cnv, .thm, .prot, .cont, .pair, .irq, .rings, .logFreeze, .can, .rung] pl = true) (s : State) : blank pl (releaseOwnership s) = blank pl s := by
  refine widen (l := [.str, .pins, .tb, .deferred, .cnv, .thm, .prot, .cont, .pair, .irq, .rings, .logFreeze, .can, .rung]) ?_ w
  simp (disch := decide) only [releaseOwnership, canOff_blank, coilsOff_blank, onPair_blank, onPins_blank, onProt_blank, onStr_blank, openImd_blank, openSafeOut_blank, setSync_blank, thermOff_blank]
theorem giveUp_blank {pl : List Part} (w : within [.str, .pins, .tb, .deferred, .cnv, .thm, .prot, .cont, .pair, .irq, .rings, .logFreeze, .can, .rung] pl = true) (code : Nat) (s : State) : blank pl (giveUp code s) = blank pl s := by
  refine widen (l := [.str, .pins, .tb, .deferred, .cnv, .thm, .prot, .cont, .pair, .irq, .rings, .logFreeze, .can, .rung]) ?_ w
  simp (disch := decide) only [giveUp, log_blank, onPair_blank, releaseOwnership_blank]
theorem trialFails_blank {pl : List Part} (w : within [.deferred, .irq, .rings, .logFreeze, .rung, .upd] pl = true) (s : State) : blank pl (trialFails s) = blank pl s := by
  refine widen (l := [.deferred, .irq, .rings, .logFreeze, .rung, .upd]) ?_ w
  unfold trialFails
  split <;> simp (disch := first | decide | (intro _; exact ⟨rfl, rfl, rfl⟩)) only [apply_ite (blank [.deferred, .irq, .rings, .logFreeze, .rung, .upd]), ite_self, log_blank, onUpd_blank]
theorem admissionRestart_blank {pl : List Part} (w : within [.deferred, .pair, .irq, .rings, .logFreeze, .rung] pl = true) (cause : Nat) (s : State) : blank pl (admissionRestart cause s) = blank pl s := by
  refine widen (l := [.deferred, .pair, .irq, .rings, .logFreeze, .rung]) ?_ w
  simp (disch := decide) only [admissionRestart, log_blank, onPair_blank]
theorem standbyFault_blank {pl : List Part} (w : within [.deferred, .pair, .irq, .rings, .logFreeze, .rung] pl = true) (s : State) : blank pl (standbyFault s) = blank pl s := by
  refine widen (l := [.deferred, .pair, .irq, .rings, .logFreeze, .rung]) ?_ w
  unfold standbyFault
  repeat' (first | (with_reducible rfl) | (simp (disch := decide) only [apply_ite (blank [.deferred, .pair, .irq, .rings, .logFreeze, .rung]), ite_self, admissionRestart_blank, onPair_blank, leaveAfternoon_blank, ringNotes_blank]; done) | (with_reducible refine ite_blank ?_ ?_) | split | (dsimp only))
theorem hardwareFault_blank {pl : List Part} (w : within [.str, .pins, .deferred, .idn, .met, .est, .imp, .cnv, .dsp, .bal, .prot, .iso, .pair, .host, .ops, .irq, .rings, .rcd, .logFreeze, .can, .rung] pl = true) (code : Nat) (cls : Nat) (s : State) : blank pl (hardwareFault code cls s) = blank pl s := by
  refine widen (l := [.str, .pins, .deferred, .idn, .met, .est, .imp, .cnv, .dsp, .bal, .prot, .iso, .pair, .host, .ops, .irq, .rings, .rcd, .logFreeze, .can, .rung]) ?_ w
  simp (disch := decide) only [hardwareFault, apply_ite (blank [.str, .pins, .deferred, .idn, .met, .est, .imp, .cnv, .dsp, .bal, .prot, .iso, .pair, .host, .ops, .irq, .rings, .rcd, .logFreeze, .can, .rung]), ite_self, decideFault_blank, latchClass2_blank, standbyFault_blank]
theorem moduleFault_blank {pl : List Part} (w : within [.str, .pins, .tb, .deferred, .idn, .met, .est, .imp, .cnv, .dsp, .bal, .thm, .prot, .cont, .iso, .pair, .host, .ops, .irq, .rings, .rcd, .logFreeze, .can, .rung, .upd] pl = true) (code : Nat) (cls : Nat) (s0 : State) : blank pl (moduleFault code cls s0) = blank pl s0 := by
  refine widen (l := [.str, .pins, .tb, .deferred, .idn, .met, .est, .imp, .cnv, .dsp, .bal, .thm, .prot, .cont, .iso, .pair, .host, .ops, .irq, .rings, .rcd, .logFreeze, .can, .rung, .upd]) ?_ w
  simp (disch := decide) only [moduleFault, apply_ite (blank [.str, .pins, .tb, .deferred, .idn, .met, .est, .imp, .cnv, .dsp, .bal, .thm, .prot, .cont, .iso, .pair, .host, .ops, .irq, .rings, .rcd, .logFreeze, .can, .rung, .upd]), ite_self, giveUp_blank, hardwareFault_blank, trialFails_blank]
theorem raiseTw_blank {pl : List Part} (w : within [.str, .deferred, .prot, .irq, .rings, .logFreeze, .rung] pl = true) (bit : Nat) (s : State) : blank pl (raiseTw bit s) = blank pl s := by
  refine widen (l := [.str, .deferred, .prot, .irq, .rings, .logFreeze, .rung]) ?_ w
  simp (disch := decide) only [raiseTw, apply_ite (blank [.str, .deferred, .prot, .irq, .rings, .logFreeze, .rung]), ite_self, log_blank, onProt_blank, onStr_blank]
theorem clearTw_blank {pl : List Part} (w : within [.str, .deferred, .prot, .irq, .rings, .logFreeze, .rung] pl = true) (bit : Nat) (s : State) : blank pl (clearTw bit s) = blank pl s := by
  refine widen (l := [.str, .deferred, .prot, .irq, .rings, .logFreeze, .rung]) ?_ w
  simp (disch := decide) only [clearTw, apply_ite (blank [.str, .deferred, .prot, .irq, .rings, .logFreeze, .rung]), ite_self, log_blank, onProt_blank, onStr_blank]
theorem setTw_blank {pl : List Part} (w : within [.str, .deferred, .prot, .irq, .rings, .logFreeze, .rung] pl = true) (bit : Nat) (cond : Bool) (s : State) : blank pl (setTw bit cond s) = blank pl s := by
  refine widen (l := [.str, .deferred, .prot, .irq, .rings, .logFreeze, .rung]) ?_ w
  simp (disch := decide) only [setTw, apply_ite (blank [.str, .deferred, .prot, .irq, .rings, .logFreeze, .rung]), ite_self, clearTw_blank, raiseTw_blank]
theorem recordRun_blank {pl : List Part} (w : within [.tick, .str, .deferred, .prot, .irq, .rings, .logFreeze, .rung] pl = true) (k : Nat) (onTime : Bool) (s : State) : blank pl (recordRun k onTime s) = blank pl s := by
  refine widen (l := [.tick, .str, .deferred, .prot, .irq, .rings, .logFreeze, .rung]) ?_ w
  simp (disch := decide) only [recordRun, onTick_blank, setTw_blank]
theorem runDone_blank {pl : List Part} (w : within [.tick, .str, .deferred, .prot, .irq, .rings, .logFreeze, .rung] pl = true) (k : Nat) (s : State) : blank pl (runDone k s) = blank pl s := by
  refine widen (l := [.tick, .str, .deferred, .prot, .irq, .rings, .logFreeze, .rung]) ?_ w
  simp (disch := decide) only [runDone, apply_ite (blank [.tick, .str, .deferred, .prot, .irq, .rings, .logFreeze, .rung]), ite_self, onTick_blank, recordRun_blank]
theorem runDue_blank {pl : List Part} (w : within [.tick] pl = true) (k : Nat) (s : State) : blank pl (runDue k s) = blank pl s := by
  refine widen (l := [.tick]) ?_ w
  simp (disch := decide) only [runDue, apply_ite (blank [.tick]), ite_self, onTick_blank]
theorem onSession_blank {pl : List Part} (w : within [.host] pl = true) (id : Nat) (g : Session → Session) (s : State) : blank pl (onSession id g s) = blank pl s := by
  refine widen (l := [.host]) ?_ w
  simp (disch := decide) only [onSession, onHost_blank]
theorem emitDgram_blank {pl : List Part} (w : within [.out] pl = true) (d : Dgram) (s : State) : blank pl (emitDgram d s) = blank pl s := by
  refine widen (l := [.out]) ?_ w
  simp (disch := decide) only [emitDgram, onOut_blank]
theorem sendDgram_blank {pl : List Part} (w : within [.irq, .rings, .rung, .out] pl = true) (ring : Nat) (d : Dgram) (s : State) : blank pl (sendDgram ring d s) = blank pl s := by
  refine widen (l := [.irq, .rings, .rung, .out]) ?_ w
  simp (disch := decide) only [sendDgram, apply_ite (blank [.irq, .rings, .rung, .out]), ite_self, emitDgram_blank, holdFrame_blank, ringPut_blank, ringRel_blank]
theorem countStatus_blank {pl : List Part} (w : within [.host] pl = true) (status : Nat) (s : State) : blank pl (countStatus status s) = blank pl s := by
  refine widen (l := [.host]) ?_ w
  simp (disch := decide) only [countStatus, apply_ite (blank [.host]), ite_self, onHost_blank]
theorem answerOnce_blank {pl : List Part} (w : within [.host, .irq, .rings, .rung, .out] pl = true) (r : HostReq) (status : Nat) (payload : Bytes) (s : State) : blank pl (answerOnce r status payload s) = blank pl s := by
  refine widen (l := [.host, .irq, .rings, .rung, .out]) ?_ w
  unfold answerOnce
  repeat' (first | (with_reducible rfl) | (simp (disch := decide) only [apply_ite (blank [.host, .irq, .rings, .rung, .out]), ite_self, countStatus_blank, sendDgram_blank]; done) | (with_reducible refine ite_blank ?_ ?_) | split | (with_reducible refine (foldl_blank _ _ _ (fun _ _ => ?_)).trans ?_) | (dsimp only))
theorem respond_blank {pl : List Part} (w : within [.host, .irq, .rings, .rung, .out] pl = true) (r : HostReq) (status : Nat) (payload : Bytes) (s : State) : blank pl (respond r status payload s) = blank pl s := by
  refine widen (l := [.host, .irq, .rings, .rung, .out]) ?_ w
  simp (disch := decide) only [respond, apply_ite (blank [.host, .irq, .rings, .rung, .out]), ite_self, answerOnce_blank, onSession_blank]
theorem onPortQueue_blank {pl : List Part} (w : within [.tb] pl = true) (port : Nat) (g : List LaunchEntry → List LaunchEntry) (s : State) : blank pl (onPortQueue port g s) = blank pl s := by
  refine widen (l := [.tb]) ?_ w
  simp (disch := decide) only [onPortQueue, onTb_blank]
theorem leaveNote_blank {pl : List Part} (w : within [.host, .irq, .rings, .rung, .out] pl = true) (id : Nat) (d : Dgram) (s : State) : blank pl (leaveNote id d s) = blank pl s := by
  refine widen (l := [.host, .irq, .rings, .rung, .out]) ?_ w
  unfold leaveNote
  split <;> simp (disch := decide) only [apply_ite (blank [.host, .irq, .rings, .rung, .out]), ite_self, emitDgram_blank, onHost_blank, onSession_blank, ringRel_blank]
theorem loseNote_blank {pl : List Part} (w : within [.deferred, .host, .irq, .rings, .logFreeze, .rung] pl = true) (id : Nat) (s : State) : blank pl (loseNote id s) = blank pl s := by
  refine widen (l := [.deferred, .host, .irq, .rings, .logFreeze, .rung]) ?_ w
  unfold loseNote
  split <;> simp (disch := decide) only [apply_ite (blank [.deferred, .host, .irq, .rings, .logFreeze, .rung]), ite_self, log_blank, onHost_blank, onSession_blank]
theorem leaveUntimed_blank {pl : List Part} (w : within [.host, .irq, .rings, .rung, .out] pl = true) (id : Nat) (d : Dgram) (s : State) : blank pl (leaveUntimed id d s) = blank pl s := by
  refine widen (l := [.host, .irq, .rings, .rung, .out]) ?_ w
  simp (disch := decide) only [leaveUntimed, apply_ite (blank [.host, .irq, .rings, .rung, .out]), ite_self, holdFrame_blank, leaveNote_blank]
theorem notify_blank {pl : List Part} (w : within [.tb, .deferred, .host, .irq, .rings, .logFreeze, .rung, .out] pl = true) (id : Nat) (code : Nat) (launch : Option Nat) (body : Bytes) (s : State) : blank pl (notify id code launch body s) = blank pl s := by
  refine widen (l := [.tb, .deferred, .host, .irq, .rings, .logFreeze, .rung, .out]) ?_ w
  unfold notify
  repeat' (first | (with_reducible rfl) | (simp (disch := decide) only [apply_ite (blank [.tb, .deferred, .host, .irq, .rings, .logFreeze, .rung, .out]), ite_self, holdFrame_blank, leaveUntimed_blank, loseNote_blank, onPortQueue_blank, onSession_blank, ringPut_blank]; done) | (with_reducible refine ite_blank ?_ ?_) | split | (with_reducible refine (foldl_blank _ _ _ (fun _ _ => ?_)).trans ?_) | (dsimp only))
theorem refuseState_blank {pl : List Part} (w : within [.deferred, .host, .irq, .rings, .logFreeze, .rung, .out] pl = true) (r : HostReq) (s : State) : blank pl (refuseState r s) = blank pl s := by
  refine widen (l := [.deferred, .host, .irq, .rings, .logFreeze, .rung, .out]) ?_ w
  simp (disch := decide) only [refuseState, log_blank, respond_blank]
theorem createOp_blank {pl : List Part} (w : within [.ops] pl = true) (kind : Nat) (session : Nat) (s : State) : blank pl (createOp kind session s) = blank pl s := by
  refine widen (l := [.ops]) ?_ w
  simp (disch := decide) only [createOp, onOps_blank]
theorem endSession_blank {pl : List Part} (w : within [.tb, .deferred, .met, .est, .imp, .bal, .iso, .host, .ops, .irq, .rings, .rcd, .logFreeze, .rung, .out] pl = true) (id : Nat) (cause : Nat) (s : State) : blank pl (endSession id cause s) = blank pl s := by
  refine widen (l := [.tb, .deferred, .met, .est, .imp, .bal, .iso, .host, .ops, .irq, .rings, .rcd, .logFreeze, .rung, .out]) ?_ w
  unfold endSession
  repeat' (first | (with_reducible rfl) | (simp (disch := decide) only [apply_ite (blank [.tb, .deferred, .met, .est, .imp, .bal, .iso, .host, .ops, .irq, .rings, .rcd, .logFreeze, .rung, .out]), ite_self, closeOp_blank, endOp_blank, log_blank, notify_blank, onHost_blank, onOut_blank, onRing_blank, onTb_blank, thawLog_blank]; done) | (with_reducible refine ite_blank ?_ ?_) | split | (with_reducible refine (foldl_blank _ _ _ (fun _ _ => ?_)).trans ?_) | (dsimp only))
theorem endAllSessions_blank {pl : List Part} (w : within [.tb, .deferred, .met, .est, .imp, .bal, .iso, .host, .ops, .irq, .rings, .rcd, .logFreeze, .rung, .out] pl = true) (cause : Nat) (s : State) : blank pl (endAllSessions cause s) = blank pl s := by
  refine widen (l := [.tb, .deferred, .met, .est, .imp, .bal, .iso, .host, .ops, .irq, .rings, .rcd, .logFreeze, .rung, .out]) ?_ w
  unfold endAllSessions
  repeat' (first | (with_reducible rfl) | (simp (disch := decide) only [apply_ite (blank [.tb, .deferred, .met, .est, .imp, .bal, .iso, .host, .ops, .irq, .rings, .rcd, .logFreeze, .rung, .out]), ite_self, endSession_blank]; done) | (with_reducible refine ite_blank ?_ ?_) | split | (with_reducible refine (foldl_blank _ _ _ (fun _ _ => ?_)).trans ?_) | (dsimp only))
theorem storeRecord_blank {pl : List Part} (w : within [.rcd, .logFreeze] pl = true) (r : Rec) (s : State) : blank pl (storeRecord r s) = blank pl s := by
  refine widen (l := [.rcd, .logFreeze]) ?_ w
  unfold storeRecord
  repeat' (first | (with_reducible rfl) | (simp (disch := decide) only [apply_ite (blank [.rcd, .logFreeze]), ite_self, onRcd_blank]; done) | (with_reducible refine ite_blank ?_ ?_) | split | (with_reducible refine (foldl_blank _ _ _ (fun _ _ => ?_)).trans ?_) | (dsimp only))
theorem flushBuffer_blank {pl : List Part} (w : within [.rcd, .logFreeze] pl = true) (s : State) : blank pl (flushBuffer s) = blank pl s := by
  refine widen (l := [.rcd, .logFreeze]) ?_ w
  unfold flushBuffer
  repeat' (first | (with_reducible rfl) | (simp (disch := decide) only [apply_ite (blank [.rcd, .logFreeze]), ite_self, onRcd_blank, storeRecord_blank]; done) | (with_reducible refine ite_blank ?_ ?_) | split | (with_reducible refine (foldl_blank _ _ _ (fun _ _ => ?_)).trans ?_) | (dsimp only))
theorem beforeDawn_blank {pl : List Part} (w : within [.tb, .deferred, .met, .est, .imp, .bal, .iso, .host, .ops, .irq, .rings, .rcd, .logFreeze, .rung, .upd, .out] pl = true) (reason : Nat) (s : State) : blank pl (beforeDawn reason s) = blank pl s := by
  refine widen (l := [.tb, .deferred, .met, .est, .imp, .bal, .iso, .host, .ops, .irq, .rings, .rcd, .logFreeze, .rung, .upd, .out]) ?_ w
  simp (disch := decide) only [beforeDawn, apply_ite (blank [.tb, .deferred, .met, .est, .imp, .bal, .iso, .host, .ops, .irq, .rings, .rcd, .logFreeze, .rung, .upd, .out]), ite_self, endAllSessions_blank, flushBuffer_blank, log_blank, trialFails_blank]
theorem newDawn_blank {pl : List Part} (w : within [.tick, .str, .pins, .pwr, .tb, .dawn, .deferred, .idn, .cfg, .met, .skl, .tab, .est, .jrn, .imp, .cnv, .dsp, .bal, .thm, .prot, .cont, .iso, .pair, .host, .ops, .irq, .rings, .rcd, .logFreeze, .can, .hlth, .lad, .rung, .upd, .jtag, .out, .fresh] pl = true) (reason : Nat) (s0 : State) : blank pl (newDawn reason s0) = blank pl s0 := by
  refine widen (l := [.tick, .str, .pins, .pwr, .tb, .dawn, .deferred, .idn, .cfg, .met, .skl, .tab, .est, .jrn, .imp, .cnv, .dsp, .bal, .thm, .prot, .cont, .iso, .pair, .host, .ops, .irq, .rings, .rcd, .logFreeze, .can, .hlth, .lad, .rung, .upd, .jtag, .out, .fresh]) ?_ w
  have h : (newDawn reason s0).pending = (beforeDawn reason s0).pending := by
    unfold newDawn; generalize beforeDawn reason s0 = s; rfl
  have h2 : Part.fuses.same (beforeDawn reason s0) (newDawn reason s0) := by
    unfold newDawn; generalize beforeDawn reason s0 = s; exact ⟨rfl, rfl, rfl⟩
  have k : blank [.tick, .str, .pins, .pwr, .tb, .dawn, .deferred, .idn, .cfg, .met, .skl, .tab, .est, .jrn, .imp, .cnv, .dsp, .bal, .thm, .prot, .cont, .iso, .pair, .host, .ops, .irq, .rings, .rcd, .logFreeze, .can, .hlth, .lad, .rung, .upd, .jtag, .out, .fresh] (beforeDawn reason s0) = blank [.tick, .str, .pins, .pwr, .tb, .dawn, .deferred, .idn, .cfg, .met, .skl, .tab, .est, .jrn, .imp, .cnv, .dsp, .bal, .thm, .prot, .cont, .iso, .pair, .host, .ops, .irq, .rings, .rcd, .logFreeze, .can, .hlth, .lad, .rung, .upd, .jtag, .out, .fresh] s0 :=
    beforeDawn_blank (by decide) reason s0
  have k2 := Frame.of_blank k .fuses (by decide)
  refine blank_of fun p hp => ?_
  cases p
  case pending => exact h.trans (Frame.of_blank k .pending (by decide))
  case fuses => exact ⟨h2.1.trans k2.1, h2.2.1.trans k2.2.1, h2.2.2.trans k2.2.2⟩
  all_goals cases hp
theorem addDefect_blank {pl : List Part} (w : within [.deferred, .irq, .rings, .logFreeze, .hlth, .rung] pl = true) (kind : Nat) (st : Nat) (unit : Nat) (addr : Nat) (s : State) : blank pl (addDefect kind st unit addr s) = blank pl s := by
  refine widen (l := [.deferred, .irq, .rings, .logFreeze, .hlth, .rung]) ?_ w
  simp (disch := decide) only [addDefect, apply_ite (blank [.deferred, .irq, .rings, .logFreeze, .hlth, .rung]), ite_self, log_blank, onHlth_blank]
theorem useSpare_blank {pl : List Part} (w : within [.deferred, .irq, .rings, .logFreeze, .hlth, .rung] pl = true) (kind : Nat) (s : State) : blank pl (useSpare kind s) = blank pl s := by
  refine widen (l := [.deferred, .irq, .rings, .logFreeze, .hlth, .rung]) ?_ w
  unfold useSpare
  split <;> simp (disch := decide) only [apply_ite (blank [.deferred, .irq, .rings, .logFreeze, .hlth, .rung]), ite_self, log_blank, onHlth_blank]
theorem setRung_blank {pl : List Part} (w : within [.deferred, .irq, .rings, .logFreeze, .lad, .rung] pl = true) (n : Nat) (s : State) : blank pl (setRung n s) = blank pl s := by
  refine widen (l := [.deferred, .irq, .rings, .logFreeze, .lad, .rung]) ?_ w
  simp (disch := decide) only [setRung, apply_ite (blank [.deferred, .irq, .rings, .logFreeze, .lad, .rung]), ite_self, log_blank, onLad_blank]
theorem outputsOff_blank {pl : List Part} (w : within [.pins, .thm, .prot, .cont, .pair] pl = true) (s : State) : blank pl (outputsOff s) = blank pl s := by
  refine widen (l := [.pins, .thm, .prot, .cont, .pair]) ?_ w
  simp (disch := decide) only [outputsOff, coilsOff_blank, onPair_blank, onPins_blank, onThm_blank, openImd_blank, openSafeOut_blank]
theorem loadsOff_blank {pl : List Part} (w : within [.pins, .pair] pl = true) (keepSfp : Bool) (s : State) : blank pl (loadsOff keepSfp s) = blank pl s := by
  refine widen (l := [.pins, .pair]) ?_ w
  simp (disch := decide) only [loadsOff, onPair_blank, onPins_blank]
theorem enterOff_blank {pl : List Part} (w : within [.str, .pins, .deferred, .met, .est, .imp, .dsp, .bal, .thm, .prot, .cont, .iso, .pair, .host, .ops, .irq, .rings, .rcd, .logFreeze, .can, .lad, .rung] pl = true) (rung : Nat) (cause : Nat) (aux : Bool) (s : State) : blank pl (enterOff rung cause aux s) = blank pl s := by
  refine widen (l := [.str, .pins, .deferred, .met, .est, .imp, .dsp, .bal, .thm, .prot, .cont, .iso, .pair, .host, .ops, .irq, .rings, .rcd, .logFreeze, .can, .lad, .rung]) ?_ w
  simp (disch := decide) only [enterOff, canOff_blank, loadsOff_blank, onLad_blank, onProt_blank, onStr_blank, outputsOff_blank, setRung_blank, setState_blank]
theorem enterFreeze_blank {pl : List Part} (w : within [.pins, .deferred, .thm, .prot, .cont, .pair, .host, .irq, .rings, .logFreeze, .lad, .rung] pl = true) (trigger : Nat) (forced : Bool) (s : State) : blank pl (enterFreeze trigger forced s) = blank pl s := by
  refine widen (l := [.pins, .deferred, .thm, .prot, .cont, .pair, .host, .irq, .rings, .logFreeze, .lad, .rung]) ?_ w
  simp (disch := decide) only [enterFreeze, loadsOff_blank, onHost_blank, onLad_blank, onPair_blank, outputsOff_blank, setRung_blank, thawLog_blank]
theorem freezeOn_blank {pl : List Part} (w : within [.str, .pins, .deferred, .cnv, .dsp, .thm, .prot, .cont, .pair, .host, .irq, .rings, .logFreeze, .lad, .rung] pl = true) (trigger : Nat) (t : Nat) (s : State) : blank pl (freezeOn trigger t s) = blank pl s := by
  refine widen (l := [.str, .pins, .deferred, .cnv, .dsp, .thm, .prot, .cont, .pair, .host, .irq, .rings, .logFreeze, .lad, .rung]) ?_ w
  simp (disch := decide) only [freezeOn, apply_ite (blank [.str, .pins, .deferred, .cnv, .dsp, .thm, .prot, .cont, .pair, .host, .irq, .rings, .logFreeze, .lad, .rung]), ite_self, enterFreeze_blank, log_blank, onLad_blank, safeStop_blank]
theorem gmLost_blank {pl : List Part} (w : within [.tb, .deferred, .irq, .rings, .logFreeze, .rung] pl = true) (s : State) : blank pl (gmLost s) = blank pl s := by
  refine widen (l := [.tb, .deferred, .irq, .rings, .logFreeze, .rung]) ?_ w
  unfold gmLost
  repeat' (first | (with_reducible rfl) | (simp (disch := decide) only [apply_ite (blank [.tb, .deferred, .irq, .rings, .logFreeze, .rung]), ite_self, onTb_blank, setSync_blank]; done) | (with_reducible refine ite_blank ?_ ?_) | split | (with_reducible refine (foldl_blank _ _ _ (fun _ _ => ?_)).trans ?_) | (dsimp only))
theorem freeLatch_blank {pl : List Part} (w : within [.irq] pl = true) (src : Nat) (s : State) : blank pl (freeLatch src s) = blank pl s := by
  refine widen (l := [.irq]) ?_ w
  simp (disch := decide) only [freeLatch, onIrq_blank]
theorem sfdEvent_blank {pl : List Part} (w : within [.irq, .rings, .rung] pl = true) (src : Nat) (cycles : Nat) (s : State) : blank pl (sfdEvent src cycles s) = blank pl s := by
  refine widen (l := [.irq, .rings, .rung]) ?_ w
  simp (disch := decide) only [sfdEvent, apply_ite (blank [.irq, .rings, .rung]), ite_self, irqEvent_blank, onIrq_blank]
theorem sfdStamp_blank {pl : List Part} (w : within [.tb, .irq, .rings, .rung] pl = true) (src : Nat) (cycles : Nat) (s : State) : blank pl (sfdStamp src cycles s).2 = blank pl s := by
  refine widen (l := [.tb, .irq, .rings, .rung]) ?_ w
  unfold sfdStamp
  repeat' (first | (with_reducible rfl) | (simp (disch := decide) only [apply_ite (blank [.tb, .irq, .rings, .rung]), ite_self, freeLatch_blank, onTb_blank, sfdEvent_blank]; done) | (with_reducible refine ite_blank ?_ ?_) | split | (with_reducible refine (foldl_blank _ _ _ (fun _ _ => ?_)).trans ?_) | (dsimp only))
theorem otherDomain_blank {pl : List Part} (w : within [.irq, .rings, .rung] pl = true) (src : Nat) (cycles : Nat) (s : State) : blank pl (otherDomain src cycles s) = blank pl s := by
  refine widen (l := [.irq, .rings, .rung]) ?_ w
  simp (disch := decide) only [otherDomain, apply_ite (blank [.irq, .rings, .rung]), ite_self, freeLatch_blank, sfdEvent_blank]
theorem ptpDiscard_blank {pl : List Part} (w : within [.tb] pl = true) (s : State) : blank pl (ptpDiscard s) = blank pl s := by
  refine widen (l := [.tb]) ?_ w
  simp (disch := decide) only [ptpDiscard, onTb_blank]
theorem sendPtp_blank {pl : List Part} (w : within [.tb] pl = true) (f : TxFrame) (s : State) : blank pl (sendPtp f s) = blank pl s := by
  refine widen (l := [.tb]) ?_ w
  simp (disch := decide) only [sendPtp, onTb_blank]
theorem stampReq_blank {pl : List Part} (w : within [.tb, .irq, .rings, .rung] pl = true) (h : PtpHead) (sfd : Nat) (s : State) : blank pl (stampReq h sfd s) = blank pl s := by
  refine widen (l := [.tb, .irq, .rings, .rung]) ?_ w
  simp (disch := decide) only [stampReq, onTb_blank, sendPtp_blank, sfdStamp_blank]
theorem execPdelayReqDue_blank {pl : List Part} (w : within [.tb, .irq, .rings, .rung] pl = true) (t1 : Nat) (s : State) : Frames pl s (execPdelayReqDue t1 s) := by
  refine widens (l := [.tb, .irq, .rings, .rung]) ?_ w
  unfold execPdelayReqDue
  repeat' (first | (with_reducible rfl) | (simp (disch := decide) only [frames_next, apply_ite (blank [.tb, .irq, .rings, .rung]), ite_self, onQueue_blank, onTb_blank, stampReq_blank]; done) | (with_reducible refine ite_blank ?_ ?_) | split | (with_reducible refine (foldl_blank _ _ _ (fun _ _ => ?_)).trans ?_) | (dsimp only))
theorem execPdelayRespReceived_blank {pl : List Part} (w : within [.tb, .irq, .rings, .rung] pl = true) (m : PtpFrom) (t2 : Int) (t3 : Int) (corr : Int) (t4 : Nat) (s : State) : Frames pl s (execPdelayRespReceived m t2 t3 corr t4 s) := by
  refine widens (l := [.tb, .irq, .rings, .rung]) ?_ w
  unfold execPdelayRespReceived
  repeat' (first | (with_reducible rfl) | (simp (disch := decide) only [frames_next, apply_ite (blank [.tb, .irq, .rings, .rung]), ite_self, onTb_blank, otherDomain_blank, ptpDiscard_blank, sfdStamp_blank]; done) | (with_reducible refine ite_blank ?_ ?_) | split | (with_reducible refine (foldl_blank _ _ _ (fun _ _ => ?_)).trans ?_) | (dsimp only))
theorem execPdelayReqReceived_blank {pl : List Part} (w : within [.tb, .irq, .rings, .rung] pl = true) (m : PdelayReqIn) (t2 : Nat) (t3 : Nat) (s : State) : Frames pl s (execPdelayReqReceived m t2 t3 s) := by
  refine widens (l := [.tb, .irq, .rings, .rung]) ?_ w
  unfold execPdelayReqReceived
  repeat' (first | (with_reducible rfl) | (simp (disch := decide) only [frames_next, apply_ite (blank [.tb, .irq, .rings, .rung]), ite_self, otherDomain_blank, sendPtp_blank, sfdStamp_blank]; done) | (with_reducible refine ite_blank ?_ ?_) | split | (with_reducible refine (foldl_blank _ _ _ (fun _ _ => ?_)).trans ?_) | (dsimp only))
theorem runServo_blank {pl : List Part} (w : within [.tb] pl = true) (o : Int) (s : State) : blank pl (runServo o s) = blank pl s := by
  refine widen (l := [.tb]) ?_ w
  simp (disch := decide) only [runServo, onTb_blank]
theorem takeOffset_blank {pl : List Part} (w : within [.tb, .deferred, .irq, .rings, .logFreeze, .rung] pl = true) (t1 : Int) (corr : Int) (t2 : Int) (s : State) : blank pl (takeOffset t1 corr t2 s) = blank pl s := by
  refine widen (l := [.tb, .deferred, .irq, .rings, .logFreeze, .rung]) ?_ w
  unfold takeOffset
  repeat' (first | (with_reducible rfl) | (simp (disch := decide) only [apply_ite (blank [.tb, .deferred, .irq, .rings, .logFreeze, .rung]), ite_self, onTb_blank, runServo_blank, setSync_blank]; done) | (with_reducible refine ite_blank ?_ ?_) | split | (with_reducible refine (foldl_blank _ _ _ (fun _ _ => ?_)).trans ?_) | (dsimp only))
theorem execSyncReceived_blank {pl : List Part} (w : within [.tb, .deferred, .irq, .rings, .logFreeze, .rung] pl = true) (m : PtpSync) (s : State) : Frames pl s (execSyncReceived m s) := by
  refine widens (l := [.tb, .deferred, .irq, .rings, .logFreeze, .rung]) ?_ w
  unfold execSyncReceived
  repeat' (first | (with_reducible rfl) | (simp (disch := decide) only [frames_next, apply_ite (blank [.tb, .deferred, .irq, .rings, .logFreeze, .rung]), ite_self, onTb_blank, otherDomain_blank, ptpDiscard_blank, sfdStamp_blank, takeOffset_blank]; done) | (with_reducible refine ite_blank ?_ ?_) | split | (with_reducible refine (foldl_blank _ _ _ (fun _ _ => ?_)).trans ?_) | (dsimp only))
theorem execFollowUpReceived_blank {pl : List Part} (w : within [.tb, .deferred, .irq, .rings, .logFreeze, .rung] pl = true) (m : PtpFrom) (t1 : Int) (corr : Int) (s : State) : Frames pl s (execFollowUpReceived m t1 corr s) := by
  refine widens (l := [.tb, .deferred, .irq, .rings, .logFreeze, .rung]) ?_ w
  unfold execFollowUpReceived
  repeat' (first | (with_reducible rfl) | (simp (disch := decide) only [frames_next, apply_ite (blank [.tb, .deferred, .irq, .rings, .logFreeze, .rung]), ite_self, onTb_blank, takeOffset_blank]; done) | (with_reducible refine ite_blank ?_ ?_) | split | (with_reducible refine (foldl_blank _ _ _ (fun _ _ => ?_)).trans ?_) | (dsimp only))
theorem execFollowUpTimeout_blank {pl : List Part} (w : within [.tb] pl = true) (s : State) : Frames pl s (execFollowUpTimeout s) := by
  refine widens (l := [.tb]) ?_ w
  unfold execFollowUpTimeout
  repeat' (first | (with_reducible rfl) | (simp (disch := decide) only [frames_next, apply_ite (blank [.tb]), ite_self, onTb_blank, ptpDiscard_blank]; done) | (with_reducible refine ite_blank ?_ ?_) | split | (with_reducible refine (foldl_blank _ _ _ (fun _ _ => ?_)).trans ?_) | (dsimp only))
theorem execTimeStep_blank {pl : List Part} (w : within [.tick, .tb, .deferred, .tab, .irq, .rings, .logFreeze, .rung] pl = true) (s : State) : Frames pl s (execTimeStep s) := by
  refine widens (l := [.tick, .tb, .deferred, .tab, .irq, .rings, .logFreeze, .rung]) ?_ w
  unfold execTimeStep
  split <;> simp (disch := decide) only [frames_next, apply_ite (blank [.tick, .tb, .deferred, .tab, .irq, .rings, .logFreeze, .rung]), ite_self, log_blank, onTab_blank, onTb_blank, onTick_blank]
theorem selectGm_blank {pl : List Part} (w : within [.tb, .deferred, .irq, .rings, .logFreeze, .rung] pl = true) (a : Announce) (s : State) : blank pl (selectGm a s) = blank pl s := by
  refine widen (l := [.tb, .deferred, .irq, .rings, .logFreeze, .rung]) ?_ w
  simp (disch := decide) only [selectGm, apply_ite (blank [.tb, .deferred, .irq, .rings, .logFreeze, .rung]), ite_self, log_blank, onTb_blank, setSync_blank]
theorem execAnnounceReceived_blank {pl : List Part} (w : within [.tb, .deferred, .irq, .rings, .logFreeze, .rung] pl = true) (a : AnnounceIn) (s : State) : Frames pl s (execAnnounceReceived a s) := by
  refine widens (l := [.tb, .deferred, .irq, .rings, .logFreeze, .rung]) ?_ w
  unfold execAnnounceReceived
  repeat' (first | (with_reducible rfl) | (simp (disch := decide) only [frames_next, apply_ite (blank [.tb, .deferred, .irq, .rings, .logFreeze, .rung]), ite_self, selectGm_blank]; done) | (with_reducible refine ite_blank ?_ ?_) | split | (with_reducible refine (foldl_blank _ _ _ (fun _ _ => ?_)).trans ?_) | (dsimp only))
theorem execAnnounceReceiptTimeout_blank {pl : List Part} (w : within [.tb, .deferred, .irq, .rings, .logFreeze, .rung] pl = true) (s : State) : Frames pl s (execAnnounceReceiptTimeout s) := by
  refine widens (l := [.tb, .deferred, .irq, .rings, .logFreeze, .rung]) ?_ w
  unfold execAnnounceReceiptTimeout
  repeat' (first | (with_reducible rfl) | (simp (disch := decide) only [frames_next, apply_ite (blank [.tb, .deferred, .irq, .rings, .logFreeze, .rung]), ite_self, gmLost_blank]; done) | (with_reducible refine ite_blank ?_ ?_) | split | (with_reducible refine (foldl_blank _ _ _ (fun _ _ => ?_)).trans ?_) | (dsimp only))
theorem execPtpOffsetUnusable_blank {pl : List Part} (w : within [.tb, .deferred, .irq, .rings, .logFreeze, .rung] pl = true) (s : State) : Frames pl s (execPtpOffsetUnusable s) := by
  refine widens (l := [.tb, .deferred, .irq, .rings, .logFreeze, .rung]) ?_ w
  unfold execPtpOffsetUnusable
  repeat' (first | (with_reducible rfl) | (simp (disch := decide) only [frames_next, apply_ite (blank [.tb, .deferred, .irq, .rings, .logFreeze, .rung]), ite_self, gmLost_blank, onTb_blank]; done) | (with_reducible refine ite_blank ?_ ?_) | split | (with_reducible refine (foldl_blank _ _ _ (fun _ _ => ?_)).trans ?_) | (dsimp only))
theorem execHoldoverExpired_blank {pl : List Part} (w : within [.tb, .deferred, .irq, .rings, .logFreeze, .rung] pl = true) (s : State) : Frames pl s (execHoldoverExpired s) := by
  refine widens (l := [.tb, .deferred, .irq, .rings, .logFreeze, .rung]) ?_ w
  unfold execHoldoverExpired
  split <;> simp (disch := decide) only [frames_next, apply_ite (blank [.tb, .deferred, .irq, .rings, .logFreeze, .rung]), ite_self, onTb_blank, setSync_blank]
theorem execClkRefLost_blank {pl : List Part} (w : within [.tick, .str, .pins, .tb, .deferred, .idn, .met, .est, .imp, .cnv, .dsp, .bal, .thm, .prot, .cont, .iso, .pair, .host, .ops, .irq, .rings, .rcd, .logFreeze, .can, .rung, .upd] pl = true) (s : State) : Frames pl s (execClkRefLost s) := by
  refine widens (l := [.tick, .str, .pins, .tb, .deferred, .idn, .met, .est, .imp, .cnv, .dsp, .bal, .thm, .prot, .cont, .iso, .pair, .host, .ops, .irq, .rings, .rcd, .logFreeze, .can, .rung, .upd]) ?_ w
  unfold execClkRefLost
  split <;> simp (disch := decide) only [frames_next, apply_ite (blank [.tick, .str, .pins, .tb, .deferred, .idn, .met, .est, .imp, .cnv, .dsp, .bal, .thm, .prot, .cont, .iso, .pair, .host, .ops, .irq, .rings, .rcd, .logFreeze, .can, .rung, .upd]), ite_self, log_blank, moduleFault_blank, onTb_blank, onTick_blank, setSync_blank]
theorem execRtcWriteback_blank {pl : List Part} (w : within [.tb] pl = true) (s : State) : Frames pl s (execRtcWriteback s) := by
  refine widens (l := [.tb]) ?_ w
  unfold execRtcWriteback
  repeat' (first | (with_reducible rfl) | (simp (disch := decide) only [frames_next, apply_ite (blank [.tb]), ite_self, onTb_blank]; done) | (with_reducible refine ite_blank ?_ ?_) | split | (with_reducible refine (foldl_blank _ _ _ (fun _ _ => ?_)).trans ?_) | (dsimp only))
theorem execRtcCorrection_blank {pl : List Part} (w : within [.tb] pl = true) (ppb : Int) (s : State) : Frames pl s (execRtcCorrection ppb s) := by
  refine widens (l := [.tb]) ?_ w
  unfold execRtcCorrection
  repeat' (first | (with_reducible rfl) | (simp (disch := decide) only [frames_next, apply_ite (blank [.tb]), ite_self, onTb_blank]; done) | (with_reducible refine ite_blank ?_ ?_) | split | (with_reducible refine (foldl_blank _ _ _ (fun _ _ => ?_)).trans ?_) | (dsimp only))
theorem launchFrame_blank {pl : List Part} (w : within [.tb, .pair, .host, .irq, .rings, .rung, .out] pl = true) (sfd : Nat) (f : TxFrame) (s : State) : blank pl (launchFrame sfd f s) = blank pl s := by
  refine widen (l := [.tb, .pair, .host, .irq, .rings, .rung, .out]) ?_ w
  unfold launchFrame
  split <;> simp (disch := decide) only [apply_ite (blank [.tb, .pair, .host, .irq, .rings, .rung, .out]), ite_self, emitDgram_blank, emitMirror_blank, leaveNote_blank, notify_blank, ringRel_blank, sendPtp_blank, stampReq_blank]
theorem releaseFrame_blank {pl : List Part} (w : within [.pair, .host, .irq, .rings, .rung, .out] pl = true) (f : TxFrame) (s : State) : blank pl (releaseFrame f s) = blank pl s := by
  refine widen (l := [.pair, .host, .irq, .rings, .rung, .out]) ?_ w
  unfold releaseFrame
  split <;> simp (disch := decide) only [apply_ite (blank [.pair, .host, .irq, .rings, .rung, .out]), ite_self, emitDgram_blank, emitMirror_blank, leaveNote_blank, notify_blank, ringRel_blank]
theorem releaseHeld_blank {pl : List Part} (w : within [.pair, .host, .irq, .rings, .rung, .out] pl = true) (q : Nat) (s : State) : blank pl (releaseHeld q s) = blank pl s := by
  refine widen (l := [.pair, .host, .irq, .rings, .rung, .out]) ?_ w
  unfold releaseHeld
  repeat' (first | (with_reducible rfl) | (simp (disch := decide) only [apply_ite (blank [.pair, .host, .irq, .rings, .rung, .out]), ite_self, onOut_blank, releaseFrame_blank]; done) | (with_reducible refine ite_blank ?_ ?_) | split | (with_reducible refine (foldl_blank _ _ _ (fun _ _ => ?_)).trans ?_) | (dsimp only))
theorem dropLaunch_blank {pl : List Part} (w : within [.tb, .deferred, .host, .irq, .rings, .logFreeze, .rung] pl = true) (f : TxFrame) (s : State) : blank pl (dropLaunch f s) = blank pl s := by
  refine widen (l := [.tb, .deferred, .host, .irq, .rings, .logFreeze, .rung]) ?_ w
  unfold dropLaunch
  split <;> simp (disch := decide) only [apply_ite (blank [.tb, .deferred, .host, .irq, .rings, .logFreeze, .rung]), ite_self, log_blank, loseNote_blank, notify_blank, onTb_blank, ringRel_blank]
theorem execLaunchTimeReached_blank {pl : List Part} (w : within [.tb, .deferred, .pair, .host, .irq, .rings, .logFreeze, .rung, .out] pl = true) (queue : Nat) (sfd : Nat) (s : State) : Frames pl s (execLaunchTimeReached queue sfd s) := by
  refine widens (l := [.tb, .deferred, .pair, .host, .irq, .rings, .logFreeze, .rung, .out]) ?_ w
  unfold execLaunchTimeReached
  repeat' (first | (with_reducible rfl) | (simp (disch := decide) only [frames_next, apply_ite (blank [.tb, .deferred, .pair, .host, .irq, .rings, .logFreeze, .rung, .out]), ite_self, dropLaunch_blank, irqEvent_blank, launchFrame_blank, onQueue_blank, onTb_blank, releaseHeld_blank]; done) | (with_reducible refine ite_blank ?_ ?_) | split | (with_reducible refine (foldl_blank _ _ _ (fun _ _ => ?_)).trans ?_) | (dsimp only))
theorem jtagScan_blank {pl : List Part} (w : within [.pins, .jtag] pl = true) (ir : Nat) (len : Nat) (dr : Nat) (s : State) : blank pl (jtagScan ir len dr s) = blank pl s := by
  refine widen (l := [.pins, .jtag]) ?_ w
  simp (disch := decide) only [jtagScan, onJtag_blank, onPins_blank]
theorem tapReset_blank {pl : List Part} (w : within [.pins, .jtag] pl = true) (s : State) : blank pl (tapReset s) = blank pl s := by
  refine widen (l := [.pins, .jtag]) ?_ w
  simp (disch := decide) only [tapReset, onJtag_blank, onPins_blank]
theorem execJtagBypass_blank {pl : List Part} (w : within [.pins, .jtag] pl = true) (s : State) : Frames pl s (execJtagBypass s) := by
  refine widens (l := [.pins, .jtag]) ?_ w
  simp (disch := decide) only [execJtagBypass, frames_next, jtagScan_blank]
theorem execJtagIdcode_blank {pl : List Part} (w : within [.pins, .jtag] pl = true) (s : State) : Frames pl s (execJtagIdcode s) := by
  refine widens (l := [.pins, .jtag]) ?_ w
  simp (disch := decide) only [execJtagIdcode, frames_next, jtagScan_blank]
theorem execJtagFrzStatus_blank {pl : List Part} (w : within [.pins, .jtag] pl = true) (s : State) : Frames pl s (execJtagFrzStatus s) := by
  refine widens (l := [.pins, .jtag]) ?_ w
  simp (disch := decide) only [execJtagFrzStatus, frames_next, jtagScan_blank]
theorem execJtagMemAddr_blank {pl : List Part} (w : within [.pins, .jtag] pl = true) (addr : Nat) (s : State) : Frames pl s (execJtagMemAddr addr s) := by
  refine widens (l := [.pins, .jtag]) ?_ w
  simp (disch := decide) only [execJtagMemAddr, frames_next, jtagScan_blank, onJtag_blank]
theorem execJtagMemData_blank {pl : List Part} (w : within [.pins, .jtag] pl = true) (s : State) : Frames pl s (execJtagMemData s) := by
  refine widens (l := [.pins, .jtag]) ?_ w
  unfold execJtagMemData
  split <;> simp (disch := decide) only [frames_next, apply_ite (blank [.pins, .jtag]), ite_self, jtagScan_blank, onJtag_blank]
theorem onMon_blank {pl : List Part} (w : within [.skl] pl = true) (m : Nat) (g : Monitor → Monitor) (s : State) : blank pl (onMon m g s) = blank pl s := by
  refine widen (l := [.skl]) ?_ w
  simp (disch := decide) only [onMon, onSkl_blank]
theorem onMons_blank {pl : List Part} (w : within [.skl] pl = true) (g : Nat → Monitor → Monitor) (s : State) : blank pl (onMons g s) = blank pl s := by
  refine widen (l := [.skl]) ?_ w
  simp (disch := decide) only [onMons, onSkl_blank]
theorem onPos_blank {pl : List Part} (w : within [.tab] pl = true) (p : Nat) (g : PosEntry → PosEntry) (s : State) : blank pl (onPos p g s) = blank pl s := by
  refine widen (l := [.tab]) ?_ w
  simp (disch := decide) only [onPos, onTab_blank]
theorem onPoss_blank {pl : List Part} (w : within [.tab] pl = true) (g : Nat → PosEntry → PosEntry) (s : State) : blank pl (onPoss g s) = blank pl s := by
  refine widen (l := [.tab]) ?_ w
  simp (disch := decide) only [onPoss, onTab_blank]
theorem onCell_blank {pl : List Part} (w : within [.tab] pl = true) (c : Nat) (g : CellEntry → CellEntry) (s : State) : blank pl (onCell c g s) = blank pl s := by
  refine widen (l := [.tab]) ?_ w
  simp (disch := decide) only [onCell, onTab_blank]
theorem onCells_blank {pl : List Part} (w : within [.tab] pl = true) (g : Nat → CellEntry → CellEntry) (s : State) : blank pl (onCells g s) = blank pl s := by
  refine widen (l := [.tab]) ?_ w
  simp (disch := decide) only [onCells, onTab_blank]
theorem countSkips_blank {pl : List Part} (w : within [.skl] pl = true) (l : List Bool) (s : State) : blank pl (countSkips l s) = blank pl s := by
  refine widen (l := [.skl]) ?_ w
  simp (disch := decide) only [countSkips, onSkl_blank]
theorem quarRestart_blank {pl : List Part} (w : within [.deferred, .skl, .irq, .rings, .logFreeze, .rung] pl = true) (m : Nat) (cond : Nat) (s : State) : blank pl (quarRestart m cond s) = blank pl s := by
  refine widen (l := [.deferred, .skl, .irq, .rings, .logFreeze, .rung]) ?_ w
  simp (disch := decide) only [quarRestart, log_blank, onMon_blank]
theorem missedScan_blank {pl : List Part} (w : within [.deferred, .skl, .irq, .rings, .logFreeze, .rung] pl = true) (s : State) (m : Nat) : blank pl (missedScan s m) = blank pl s := by
  refine widen (l := [.deferred, .skl, .irq, .rings, .logFreeze, .rung]) ?_ w
  simp (disch := decide) only [missedScan, apply_ite (blank [.deferred, .skl, .irq, .rings, .logFreeze, .rung]), ite_self, onMon_blank, quarRestart_blank]
theorem unreadScans_blank {pl : List Part} (w : within [.deferred, .skl, .irq, .rings, .logFreeze, .rung] pl = true) (s : State) : blank pl (unreadScans s) = blank pl s := by
  refine widen (l := [.deferred, .skl, .irq, .rings, .logFreeze, .rung]) ?_ w
  unfold unreadScans
  repeat' (first | (with_reducible rfl) | (simp (disch := decide) only [apply_ite (blank [.deferred, .skl, .irq, .rings, .logFreeze, .rung]), ite_self, missedScan_blank]; done) | (with_reducible refine ite_blank ?_ ?_) | split | (with_reducible refine (foldl_blank _ _ _ (fun _ _ => ?_)).trans ?_) | (dsimp only))
theorem startClocks_blank {pl : List Part} (w : within [.skl, .tab] pl = true) (s : State) : blank pl (startClocks s) = blank pl s := by
  refine widen (l := [.skl, .tab]) ?_ w
  simp (disch := decide) only [startClocks, apply_ite (blank [.skl, .tab]), ite_self, onCells_blank, onMons_blank, onPoss_blank, onTab_blank]
theorem markSnaps_blank {pl : List Part} (w : within [.skl] pl = true) (q : Int) (s : State) : blank pl (markSnaps q s) = blank pl s := by
  refine widen (l := [.skl]) ?_ w
  simp (disch := decide) only [markSnaps, apply_ite (blank [.skl]), ite_self, onSkl_blank]
theorem logBank_blank {pl : List Part} (w : within [.skl] pl = true) (b : Bank) (s : State) : blank pl (logBank b s) = blank pl s := by
  refine widen (l := [.skl]) ?_ w
  simp (disch := decide) only [logBank, onSkl_blank]
theorem execSnapshotInstant_blank {pl : List Part} (w : within [.tick, .str, .deferred, .met, .skl, .tab, .prot, .irq, .rings, .logFreeze, .rung] pl = true) (s : State) : Frames pl s (execSnapshotInstant s) := by
  refine widens (l := [.tick, .str, .deferred, .met, .skl, .tab, .prot, .irq, .rings, .logFreeze, .rung]) ?_ w
  unfold execSnapshotInstant
  split <;> simp (disch := decide) only [frames_next, apply_ite (blank [.tick, .str, .deferred, .met, .skl, .tab, .prot, .irq, .rings, .logFreeze, .rung]), ite_self, countSkips_blank, markSnaps_blank, onMet_blank, onMons_blank, onSkl_blank, onTab_blank, runDone_blank, startClocks_blank, unreadScans_blank]
theorem execVoltageBankComplete_blank {pl : List Part} (w : within [.tick, .str, .deferred, .skl, .tab, .prot, .irq, .rings, .logFreeze, .rung] pl = true) (s : State) : Frames pl s (execVoltageBankComplete s) := by
  refine widens (l := [.tick, .str, .deferred, .skl, .tab, .prot, .irq, .rings, .logFreeze, .rung]) ?_ w
  unfold execVoltageBankComplete
  repeat' (first | (with_reducible rfl) | (simp (disch := decide) only [frames_next, apply_ite (blank [.tick, .str, .deferred, .skl, .tab, .prot, .irq, .rings, .logFreeze, .rung]), ite_self, deactivate_blank, demandOver_blank, logBank_blank, onMons_blank, onPoss_blank, onTab_blank, runDone_blank]; done) | (with_reducible refine ite_blank ?_ ?_) | split | (with_reducible refine (foldl_blank _ _ _ (fun _ _ => ?_)).trans ?_) | (dsimp only))
theorem execDropSetComplete_blank {pl : List Part} (w : within [.tick, .str, .deferred, .skl, .tab, .prot, .irq, .rings, .logFreeze, .rung] pl = true) (s : State) : Frames pl s (execDropSetComplete s) := by
  refine widens (l := [.tick, .str, .deferred, .skl, .tab, .prot, .irq, .rings, .logFreeze, .rung]) ?_ w
  unfold execDropSetComplete
  split <;> simp (disch := decide) only [frames_next, apply_ite (blank [.tick, .str, .deferred, .skl, .tab, .prot, .irq, .rings, .logFreeze, .rung]), ite_self, clearTw_blank, onCells_blank, onMons_blank, onPoss_blank, onTab_blank, runDone_blank, runDue_blank]
theorem countDisagree_blank {pl : List Part} (w : within [.deferred, .tab, .jrn, .irq, .rings, .logFreeze, .rung] pl = true) (p : Nat) (s : State) : blank pl (countDisagree p s) = blank pl s := by
  refine widen (l := [.deferred, .tab, .jrn, .irq, .rings, .logFreeze, .rung]) ?_ w
  simp (disch := decide) only [countDisagree, apply_ite (blank [.deferred, .tab, .jrn, .irq, .rings, .logFreeze, .rung]), ite_self, log_blank, onJrn_blank, onPos_blank]
theorem decidePos_blank {pl : List Part} (w : within [.deferred, .tab, .jrn, .irq, .rings, .logFreeze, .rung] pl = true) (p : Nat) (v : Option Int) (lo : Rat) (hi : Rat) (s : State) : blank pl (decidePos p v lo hi s) = blank pl s := by
  refine widen (l := [.deferred, .tab, .jrn, .irq, .rings, .logFreeze, .rung]) ?_ w
  unfold decidePos
  repeat' (first | (with_reducible rfl) | (simp (disch := decide) only [apply_ite (blank [.deferred, .tab, .jrn, .irq, .rings, .logFreeze, .rung]), ite_self, countDisagree_blank, log_blank, onCells_blank, onPos_blank]; done) | (with_reducible refine ite_blank ?_ ?_) | split | (with_reducible refine (foldl_blank _ _ _ (fun _ _ => ?_)).trans ?_) | (dsimp only))
theorem posStep_blank {pl : List Part} (w : within [.deferred, .tab, .jrn, .irq, .rings, .logFreeze, .rung] pl = true) (b : Bank) (anchor : Bool) (p : Nat) (s : State) : blank pl (posStep b anchor p s) = blank pl s := by
  refine widen (l := [.deferred, .tab, .jrn, .irq, .rings, .logFreeze, .rung]) ?_ w
  simp (disch := decide) only [posStep, decidePos_blank, onCells_blank, onPos_blank]
theorem stringFigures_blank {pl : List Part} (w : within [.est] pl = true) (s : State) : blank pl (stringFigures s) = blank pl s := by
  refine widen (l := [.est]) ?_ w
  simp (disch := decide) only [stringFigures, apply_ite (blank [.est]), ite_self, onEst_blank]
theorem unrest_blank {pl : List Part} (w : within [.est] pl = true) (s : State) : blank pl (unrest s) = blank pl s := by
  refine widen (l := [.est]) ?_ w
  simp (disch := decide) only [unrest, apply_ite (blank [.est]), ite_self, onEst_blank]
theorem restTrack_blank {pl : List Part} (w : within [.est] pl = true) (s : State) : blank pl (restTrack s) = blank pl s := by
  refine widen (l := [.est]) ?_ w
  simp (disch := decide) only [restTrack, apply_ite (blank [.est]), ite_self, onEst_blank, unrest_blank]
theorem restRefs_blank {pl : List Part} (w : within [.tab, .est] pl = true) (b : Bank) (s : State) : blank pl (restRefs b s) = blank pl s := by
  refine widen (l := [.tab, .est]) ?_ w
  simp (disch := decide) only [restRefs, apply_ite (blank [.tab, .est]), ite_self, onPoss_blank, unrest_blank]
theorem learnAbort_blank {pl : List Part} (w : within [.deferred, .met, .est, .imp, .bal, .iso, .ops, .irq, .rings, .rcd, .logFreeze, .rung] pl = true) (reason : Nat) (s : State) : blank pl (learnAbort reason s) = blank pl s := by
  refine widen (l := [.deferred, .met, .est, .imp, .bal, .iso, .ops, .irq, .rings, .rcd, .logFreeze, .rung]) ?_ w
  simp (disch := decide) only [learnAbort, closeOp_blank, endOp_blank, log_blank, onEst_blank]
theorem learnPhase_blank {pl : List Part} (w : within [.est, .ops] pl = true) (n : Nat) (s : State) : blank pl (learnPhase n s) = blank pl s := by
  refine widen (l := [.est, .ops]) ?_ w
  simp (disch := decide) only [learnPhase, onEst_blank, publishOp_blank]
theorem learnDischarge_blank {pl : List Part} (w : within [.tab, .est, .ops] pl = true) (at_ : Nat) (s : State) : blank pl (learnDischarge at_ s) = blank pl s := by
  refine widen (l := [.tab, .est, .ops]) ?_ w
  simp (disch := decide) only [learnDischarge, learnPhase_blank, onCells_blank, onEst_blank, onPoss_blank]
theorem learnPos_blank {pl : List Part} (w : within [.deferred, .tab, .est, .irq, .rings, .logFreeze, .rung] pl = true) (p : Nat) (s : State) : blank pl (learnPos p s) = blank pl s := by
  refine widen (l := [.deferred, .tab, .est, .irq, .rings, .logFreeze, .rung]) ?_ w
  simp (disch := decide) only [learnPos, apply_ite (blank [.deferred, .tab, .est, .irq, .rings, .logFreeze, .rung]), ite_self, log_blank, onCells_blank, onEst_blank, onPos_blank]
theorem learnCompute_blank {pl : List Part} (w : within [.deferred, .tab, .est, .jrn, .ops, .irq, .rings, .logFreeze, .rung] pl = true) (s : State) : blank pl (learnCompute s) = blank pl s := by
  refine widen (l := [.deferred, .tab, .est, .jrn, .ops, .irq, .rings, .logFreeze, .rung]) ?_ w
  unfold learnCompute
  repeat' (first | (with_reducible rfl) | (simp (disch := decide) only [apply_ite (blank [.deferred, .tab, .est, .jrn, .ops, .irq, .rings, .logFreeze, .rung]), ite_self, learnPhase_blank, learnPos_blank, log_blank, onEst_blank, onJrn_blank, publishOp_blank]; done) | (with_reducible refine ite_blank ?_ ?_) | split | (with_reducible refine (foldl_blank _ _ _ (fun _ _ => ?_)).trans ?_) | (dsimp only) | (simp (disch := decide) only [apply_ite (blank [.deferred, .tab, .est, .jrn, .ops, .irq, .rings, .logFreeze, .rung]), ite_self, learnPhase_blank, learnPos_blank, log_blank, onEst_blank, onJrn_blank, publishOp_blank]))
theorem learnEmptyRest_blank {pl : List Part} (w : within [.deferred, .tab, .est, .jrn, .ops, .irq, .rings, .logFreeze, .rung] pl = true) (s : State) : blank pl (learnEmptyRest s) = blank pl s := by
  refine widen (l := [.deferred, .tab, .est, .jrn, .ops, .irq, .rings, .logFreeze, .rung]) ?_ w
  unfold learnEmptyRest
  repeat' (first | (with_reducible rfl) | (simp (disch := decide) only [apply_ite (blank [.deferred, .tab, .est, .jrn, .ops, .irq, .rings, .logFreeze, .rung]), ite_self, learnCompute_blank, onEst_blank, onPoss_blank]; done) | (with_reducible refine ite_blank ?_ ?_) | split | (with_reducible refine (foldl_blank _ _ _ (fun _ _ => ?_)).trans ?_) | (dsimp only))
theorem learnWatch_blank {pl : List Part} (w : within [.deferred, .met, .tab, .est, .jrn, .imp, .bal, .iso, .ops, .irq, .rings, .rcd, .logFreeze, .rung] pl = true) (b : Bank) (s : State) : blank pl (learnWatch b s) = blank pl s := by
  refine widen (l := [.deferred, .met, .tab, .est, .jrn, .imp, .bal, .iso, .ops, .irq, .rings, .rcd, .logFreeze, .rung]) ?_ w
  unfold learnWatch
  repeat' (first | (with_reducible rfl) | (simp (disch := decide) only [apply_ite (blank [.deferred, .met, .tab, .est, .jrn, .imp, .bal, .iso, .ops, .irq, .rings, .rcd, .logFreeze, .rung]), ite_self, learnAbort_blank, learnDischarge_blank, learnEmptyRest_blank, learnPhase_blank, onEst_blank]; done) | (with_reducible refine ite_blank ?_ ?_) | split | (with_reducible refine (foldl_blank _ _ _ (fun _ _ => ?_)).trans ?_) | (dsimp only))
theorem learnCharge_blank {pl : List Part} (w : within [.est] pl = true) (s : State) : blank pl (learnCharge s) = blank pl s := by
  refine widen (l := [.est]) ?_ w
  unfold learnCharge
  split <;> simp (disch := decide) only [apply_ite (blank [.est]), ite_self, onEst_blank]
theorem convergeCheck_blank {pl : List Part} (w : within [.deferred, .est, .irq, .rings, .logFreeze, .rung] pl = true) (s : State) : blank pl (convergeCheck s) = blank pl s := by
  refine widen (l := [.deferred, .est, .irq, .rings, .logFreeze, .rung]) ?_ w
  simp (disch := decide) only [convergeCheck, apply_ite (blank [.deferred, .est, .irq, .rings, .logFreeze, .rung]), ite_self, log_blank, onEst_blank]
theorem filterStep_blank {pl : List Part} (w : within [.deferred, .met, .tab, .est, .jrn, .imp, .bal, .iso, .ops, .irq, .rings, .rcd, .logFreeze, .rung] pl = true) (b : Bank) (s : State) : blank pl (filterStep b s) = blank pl s := by
  refine widen (l := [.deferred, .met, .tab, .est, .jrn, .imp, .bal, .iso, .ops, .irq, .rings, .rcd, .logFreeze, .rung]) ?_ w
  unfold filterStep
  repeat' (first | (with_reducible rfl) | (simp (disch := decide) only [apply_ite (blank [.deferred, .met, .tab, .est, .jrn, .imp, .bal, .iso, .ops, .irq, .rings, .rcd, .logFreeze, .rung]), ite_self, convergeCheck_blank, learnCharge_blank, learnWatch_blank, onEst_blank, onPoss_blank, posStep_blank, restRefs_blank, stringFigures_blank]; done) | (with_reducible refine ite_blank ?_ ?_) | split | (with_reducible refine (foldl_blank _ _ _ (fun _ _ => ?_)).trans ?_) | (dsimp only) | (simp (disch := decide) only [apply_ite (blank [.deferred, .met, .tab, .est, .jrn, .imp, .bal, .iso, .ops, .irq, .rings, .rcd, .logFreeze, .rung]), ite_self, convergeCheck_blank, learnCharge_blank, learnWatch_blank, onEst_blank, onPoss_blank, posStep_blank, restRefs_blank, stringFigures_blank]))
theorem postJob_blank {pl : List Part} (w : within [.irq, .rings, .rung] pl = true) (n : Nat) (s : State) : blank pl (postJob n s) = blank pl s := by
  refine widen (l := [.irq, .rings, .rung]) ?_ w
  simp (disch := decide) only [postJob, ringPut_blank]
theorem execPositionFilters_blank {pl : List Part} (w : within [.tick, .str, .deferred, .met, .tab, .est, .jrn, .imp, .bal, .prot, .iso, .ops, .irq, .rings, .rcd, .logFreeze, .rung] pl = true) (s : State) : Frames pl s (execPositionFilters s) := by
  refine widens (l := [.tick, .str, .deferred, .met, .tab, .est, .jrn, .imp, .bal, .prot, .iso, .ops, .irq, .rings, .rcd, .logFreeze, .rung]) ?_ w
  unfold execPositionFilters
  repeat' (first | (with_reducible rfl) | (simp (disch := decide) only [frames_next, apply_ite (blank [.tick, .str, .deferred, .met, .tab, .est, .jrn, .imp, .bal, .prot, .iso, .ops, .irq, .rings, .rcd, .logFreeze, .rung]), ite_self, filterStep_blank, onTab_blank, postJob_blank, runDone_blank]; done) | (with_reducible refine ite_blank ?_ ?_) | split | (with_reducible refine (foldl_blank _ _ _ (fun _ _ => ?_)).trans ?_) | (dsimp only))
theorem execRestMinReached_blank {pl : List Part} (w : within [.deferred, .met, .tab, .est, .jrn, .imp, .bal, .iso, .ops, .irq, .rings, .rcd, .logFreeze, .rung] pl = true) (s : State) : Frames pl s (execRestMinReached s) := by
  refine widens (l := [.deferred, .met, .tab, .est, .jrn, .imp, .bal, .iso, .ops, .irq, .rings, .rcd, .logFreeze, .rung]) ?_ w
  unfold execRestMinReached
  repeat' (first | (with_reducible rfl) | (simp (disch := decide) only [frames_next, apply_ite (blank [.deferred, .met, .tab, .est, .jrn, .imp, .bal, .iso, .ops, .irq, .rings, .rcd, .logFreeze, .rung]), ite_self, filterStep_blank, onEst_blank]; done) | (with_reducible refine ite_blank ?_ ?_) | split | (with_reducible refine (foldl_blank _ _ _ (fun _ _ => ?_)).trans ?_) | (dsimp only))
theorem execCapLearnTimeout_blank {pl : List Part} (w : within [.deferred, .met, .est, .imp, .bal, .iso, .ops, .irq, .rings, .rcd, .logFreeze, .rung] pl = true) (s : State) : Frames pl s (execCapLearnTimeout s) := by
  refine widens (l := [.deferred, .met, .est, .imp, .bal, .iso, .ops, .irq, .rings, .rcd, .logFreeze, .rung]) ?_ w
  unfold execCapLearnTimeout
  repeat' (first | (with_reducible rfl) | (simp (disch := decide) only [frames_next, apply_ite (blank [.deferred, .met, .est, .imp, .bal, .iso, .ops, .irq, .rings, .rcd, .logFreeze, .rung]), ite_self, learnAbort_blank]; done) | (with_reducible refine ite_blank ?_ ?_) | split | (with_reducible refine (foldl_blank _ _ _ (fun _ _ => ?_)).trans ?_) | (dsimp only))
theorem execEstimationJobDone_blank {pl : List Part} (w : within [.est, .irq, .rings, .rung] pl = true) (job : Nat) (s : State) : Frames pl s (execEstimationJobDone job s) := by
  refine widens (l := [.est, .irq, .rings, .rung]) ?_ w
  unfold execEstimationJobDone
  split <;> simp (disch := decide) only [frames_next, apply_ite (blank [.est, .irq, .rings, .rung]), ite_self, irqEvent_blank, onEst_blank, ringPut_blank, ringRel_blank]
theorem cellFilters_blank {pl : List Part} (w : within [.tab] pl = true) (s : State) : blank pl (cellFilters s) = blank pl s := by
  refine widen (l := [.tab]) ?_ w
  simp (disch := decide) only [cellFilters, onCells_blank]
theorem estWait_blank {pl : List Part} (w : within [.est] pl = true) (s : State) : blank pl (estWait s) = blank pl s := by
  refine widen (l := [.est]) ?_ w
  simp (disch := decide) only [estWait, apply_ite (blank [.est]), ite_self, onEst_blank]
theorem coldStart_blank {pl : List Part} (w : within [.deferred, .tab, .est, .irq, .rings, .logFreeze, .rung] pl = true) (s : State) : blank pl (coldStart s) = blank pl s := by
  refine widen (l := [.deferred, .tab, .est, .irq, .rings, .logFreeze, .rung]) ?_ w
  simp (disch := decide) only [coldStart, log_blank, onCells_blank, onEst_blank, onPoss_blank, stringFigures_blank]
theorem execRestoreWaitTimeout_blank {pl : List Part} (w : within [.deferred, .tab, .est, .irq, .rings, .logFreeze, .rung] pl = true) (s : State) : Frames pl s (execRestoreWaitTimeout s) := by
  refine widens (l := [.deferred, .tab, .est, .irq, .rings, .logFreeze, .rung]) ?_ w
  unfold execRestoreWaitTimeout
  split <;> simp (disch := decide) only [frames_next, apply_ite (blank [.deferred, .tab, .est, .irq, .rings, .logFreeze, .rung]), ite_self, coldStart_blank, convergeCheck_blank]
theorem execRestoreBlobBuild_blank {pl : List Part} (w : within [.est] pl = true) (s : State) : Frames pl s (execRestoreBlobBuild s) := by
  refine widens (l := [.est]) ?_ w
  unfold execRestoreBlobBuild
  repeat' (first | (with_reducible rfl) | (simp (disch := decide) only [frames_next, apply_ite (blank [.est]), ite_self, onEst_blank]; done) | (with_reducible refine ite_blank ?_ ?_) | split | (with_reducible refine (foldl_blank _ _ _ (fun _ _ => ?_)).trans ?_) | (dsimp only))
theorem applyBlob_blank {pl : List Part} (w : within [.deferred, .met, .tab, .est, .jrn, .irq, .rings, .logFreeze, .rung] pl = true) (fromPartner : Bool) (b : Bytes) (s : State) : blank pl (applyBlob fromPartner b s) = blank pl s := by
  refine widen (l := [.deferred, .met, .tab, .est, .jrn, .irq, .rings, .logFreeze, .rung]) ?_ w
  simp (disch := decide) only [applyBlob, log_blank, onCells_blank, onEst_blank, onJrn_blank, onMet_blank, onPoss_blank, stringFigures_blank]
theorem rejectBlob_blank {pl : List Part} (w : within [.deferred, .est, .irq, .rings, .logFreeze, .rung] pl = true) (reason : Nat) (s : State) : blank pl (rejectBlob reason s) = blank pl s := by
  refine widen (l := [.deferred, .est, .irq, .rings, .logFreeze, .rung]) ?_ w
  simp (disch := decide) only [rejectBlob, log_blank, onEst_blank]
theorem leaveOut_blank {pl : List Part} (w : within [.tab] pl = true) (notQ : Bool) (p : Nat) (s : State) : blank pl (leaveOut notQ p s) = blank pl s := by
  refine widen (l := [.tab]) ?_ w
  simp (disch := decide) only [leaveOut, onCells_blank, onPos_blank]
theorem markDirty_blank {pl : List Part} (w : within [.jrn] pl = true) (s : State) : blank pl (markDirty s) = blank pl s := by
  refine widen (l := [.jrn]) ?_ w
  simp (disch := decide) only [markDirty, onJrn_blank]
theorem rescale_blank {pl : List Part} (w : within [.tab] pl = true) (a : Nat) (b : Nat) (p : Nat) (s : State) : blank pl (rescale a b p s) = blank pl s := by
  refine widen (l := [.tab]) ?_ w
  simp (disch := decide) only [rescale, apply_ite (blank [.tab]), ite_self, onPos_blank]
theorem markLost_blank {pl : List Part} (w : within [.deferred, .tab, .jrn, .irq, .rings, .logFreeze, .rung] pl = true) (p : Nat) (c : Nat) (r : Rat) (s : State) : blank pl (markLost p c r s) = blank pl s := by
  refine widen (l := [.deferred, .tab, .jrn, .irq, .rings, .logFreeze, .rung]) ?_ w
  simp (disch := decide) only [markLost, log_blank, markDirty_blank, onCell_blank, onPos_blank, rescale_blank]
theorem lostRules_blank {pl : List Part} (w : within [.deferred, .tab, .jrn, .irq, .rings, .logFreeze, .rung] pl = true) (p : Nat) (c : Nat) (r : Rat) (s : State) : blank pl (lostRules p c r s) = blank pl s := by
  refine widen (l := [.deferred, .tab, .jrn, .irq, .rings, .logFreeze, .rung]) ?_ w
  simp (disch := decide) only [lostRules, apply_ite (blank [.deferred, .tab, .jrn, .irq, .rings, .logFreeze, .rung]), ite_self, log_blank, markDirty_blank, markLost_blank, onCell_blank, onPos_blank]
theorem weakRules_blank {pl : List Part} (w : within [.deferred, .tab, .jrn, .irq, .rings, .logFreeze, .rung] pl = true) (p : Nat) (c : Nat) (s : State) : blank pl (weakRules p c s) = blank pl s := by
  refine widen (l := [.deferred, .tab, .jrn, .irq, .rings, .logFreeze, .rung]) ?_ w
  simp (disch := decide) only [weakRules, apply_ite (blank [.deferred, .tab, .jrn, .irq, .rings, .logFreeze, .rung]), ite_self, log_blank, markDirty_blank, onCell_blank, onPos_blank]
theorem probationRules_blank {pl : List Part} (w : within [.deferred, .tab, .jrn, .irq, .rings, .logFreeze, .rung] pl = true) (p : Nat) (c : Nat) (r : Rat) (s : State) : blank pl (probationRules p c r s) = blank pl s := by
  refine widen (l := [.deferred, .tab, .jrn, .irq, .rings, .logFreeze, .rung]) ?_ w
  simp (disch := decide) only [probationRules, apply_ite (blank [.deferred, .tab, .jrn, .irq, .rings, .logFreeze, .rung]), ite_self, log_blank, markDirty_blank, onCell_blank, onPos_blank, rescale_blank]
theorem updateG_blank {pl : List Part} (w : within [.tab] pl = true) (p : Nat) (s : State) : blank pl (updateG p s) = blank pl s := by
  refine widen (l := [.tab]) ?_ w
  simp (disch := decide) only [updateG, onCells_blank]
theorem gBlocks_blank {pl : List Part} (w : within [.tab, .jrn] pl = true) (p : Nat) (s : State) : blank pl (gBlocks p s) = blank pl s := by
  refine widen (l := [.tab, .jrn]) ?_ w
  simp (disch := decide) only [gBlocks, apply_ite (blank [.tab, .jrn]), ite_self, markDirty_blank, onCells_blank, onPos_blank]
theorem updateK_blank {pl : List Part} (w : within [.deferred, .tab, .irq, .rings, .logFreeze, .rung] pl = true) (p : Nat) (ki : Rat) (s : State) : blank pl (updateK p ki s) = blank pl s := by
  refine widen (l := [.deferred, .tab, .irq, .rings, .logFreeze, .rung]) ?_ w
  simp (disch := decide) only [updateK, apply_ite (blank [.deferred, .tab, .irq, .rings, .logFreeze, .rung]), ite_self, log_blank, onPos_blank]
theorem updateDerate_blank {pl : List Part} (w : within [.tab] pl = true) (p : Nat) (s : State) : blank pl (updateDerate p s) = blank pl s := by
  refine widen (l := [.tab]) ?_ w
  simp (disch := decide) only [updateDerate, onPos_blank]
theorem solveCounted_blank {pl : List Part} (w : within [.deferred, .tab, .jrn, .irq, .rings, .logFreeze, .rung] pl = true) (engine : List (Nat × Int)) (b : Bank) (seq : Nat) (p : Nat) (s : State) : blank pl (solveCounted engine b seq p s) = blank pl s := by
  refine widen (l := [.deferred, .tab, .jrn, .irq, .rings, .logFreeze, .rung]) ?_ w
  unfold solveCounted
  repeat' (first | (with_reducible rfl) | (simp (disch := decide) only [apply_ite (blank [.deferred, .tab, .jrn, .irq, .rings, .logFreeze, .rung]), ite_self, gBlocks_blank, lostRules_blank, onCells_blank, onPos_blank, probationRules_blank, updateDerate_blank, updateG_blank, updateK_blank, weakRules_blank]; done) | (with_reducible refine ite_blank ?_ ?_) | split | (with_reducible refine (foldl_blank _ _ _ (fun _ _ => ?_)).trans ?_) | (dsimp only) | (simp (disch := decide) only [apply_ite (blank [.deferred, .tab, .jrn, .irq, .rings, .logFreeze, .rung]), ite_self, gBlocks_blank, lostRules_blank, onCells_blank, onPos_blank, probationRules_blank, updateDerate_blank, updateG_blank, updateK_blank, weakRules_blank]))
theorem solveInconsistent_blank {pl : List Part} (w : within [.str, .deferred, .tab, .prot, .irq, .rings, .logFreeze, .rung] pl = true) (ki : Rat) (p : Nat) (s : State) : blank pl (solveInconsistent ki p s) = blank pl s := by
  refine widen (l := [.str, .deferred, .tab, .prot, .irq, .rings, .logFreeze, .rung]) ?_ w
  simp (disch := decide) only [solveInconsistent, apply_ite (blank [.str, .deferred, .tab, .prot, .irq, .rings, .logFreeze, .rung]), ite_self, log_blank, onPos_blank, raiseTw_blank]
theorem solveReadmit_blank {pl : List Part} (w : within [.str, .deferred, .tab, .prot, .irq, .rings, .logFreeze, .rung] pl = true) (p : Nat) (s : State) : blank pl (solveReadmit p s) = blank pl s := by
  refine widen (l := [.str, .deferred, .tab, .prot, .irq, .rings, .logFreeze, .rung]) ?_ w
  simp (disch := decide) only [solveReadmit, apply_ite (blank [.str, .deferred, .tab, .prot, .irq, .rings, .logFreeze, .rung]), ite_self, clearTw_blank, onPos_blank]
theorem solvePos_blank {pl : List Part} (w : within [.str, .deferred, .tab, .jrn, .prot, .irq, .rings, .logFreeze, .rung] pl = true) (engine : List (Nat × Int)) (b : Bank) (seq : Nat) (p : Nat) (s : State) : blank pl (solvePos engine b seq p s) = blank pl s := by
  refine widen (l := [.str, .deferred, .tab, .jrn, .prot, .irq, .rings, .logFreeze, .rung]) ?_ w
  simp (disch := decide) only [solvePos, apply_ite (blank [.str, .deferred, .tab, .jrn, .prot, .irq, .rings, .logFreeze, .rung]), ite_self, leaveOut_blank, onPos_blank, solveCounted_blank, solveInconsistent_blank, solveReadmit_blank]
theorem shareDemands_blank {pl : List Part} (w : within [.str, .pins, .deferred, .idn, .met, .est, .imp, .cnv, .dsp, .bal, .prot, .iso, .host, .ops, .irq, .rings, .rcd, .logFreeze, .can, .rung] pl = true) (s0 : State) (b : Bank) (p : Nat) (s : State) : blank pl (shareDemands s0 b p s) = blank pl s := by
  refine widen (l := [.str, .pins, .deferred, .idn, .met, .est, .imp, .cnv, .dsp, .bal, .prot, .iso, .host, .ops, .irq, .rings, .rcd, .logFreeze, .can, .rung]) ?_ w
  unfold shareDemands
  repeat' (first | (with_reducible rfl) | (simp (disch := decide) only [apply_ite (blank [.str, .pins, .deferred, .idn, .met, .est, .imp, .cnv, .dsp, .bal, .prot, .iso, .host, .ops, .irq, .rings, .rcd, .logFreeze, .can, .rung]), ite_self, log_blank, sfDemand_blank]; done) | (with_reducible refine ite_blank ?_ ?_) | split | (with_reducible refine (foldl_blank _ _ _ (fun _ _ => ?_)).trans ?_) | (dsimp only))
theorem shareTotals_blank {pl : List Part} (w : within [.tab] pl = true) (s : State) : blank pl (shareTotals s) = blank pl s := by
  refine widen (l := [.tab]) ?_ w
  unfold shareTotals
  split <;> simp (disch := decide) only [apply_ite (blank [.tab]), ite_self, onTab_blank]
theorem execShareSolve_blank {pl : List Part} (w : within [.tick, .str, .pins, .deferred, .idn, .met, .tab, .est, .jrn, .imp, .cnv, .dsp, .bal, .prot, .iso, .host, .ops, .irq, .rings, .rcd, .logFreeze, .can, .rung] pl = true) (engine : List (Nat × Int)) (s : State) : Frames pl s (execShareSolve engine s) := by
  refine widens (l := [.tick, .str, .pins, .deferred, .idn, .met, .tab, .est, .jrn, .imp, .cnv, .dsp, .bal, .prot, .iso, .host, .ops, .irq, .rings, .rcd, .logFreeze, .can, .rung]) ?_ w
  unfold execShareSolve
  repeat' (first | (with_reducible rfl) | (simp (disch := decide) only [frames_next, apply_ite (blank [.tick, .str, .pins, .deferred, .idn, .met, .tab, .est, .jrn, .imp, .cnv, .dsp, .bal, .prot, .iso, .host, .ops, .irq, .rings, .rcd, .logFreeze, .can, .rung]), ite_self, cellFilters_blank, onProt_blank, onTab_blank, postJob_blank, runDone_blank, shareDemands_blank, shareTotals_blank, solvePos_blank]; done) | (with_reducible refine ite_blank ?_ ?_) | split | (with_reducible refine (foldl_blank _ _ _ (fun _ _ => ?_)).trans ?_) | (dsimp only) | (simp (disch := decide) only [frames_next, apply_ite (blank [.tick, .str, .pins, .deferred, .idn, .met, .tab, .est, .jrn, .imp, .cnv, .dsp, .bal, .prot, .iso, .host, .ops, .irq, .rings, .rcd, .logFreeze, .can, .rung]), ite_self, cellFilters_blank, onProt_blank, onTab_blank, postJob_blank, runDone_blank, shareDemands_blank, shareTotals_blank, solvePos_blank]))
theorem startRec_blank {pl : List Part} (w : within [.jrn] pl = true) (kind : Nat) (es : List JEntry) (s : State) : blank pl (startRec kind es s) = blank pl s := by
  refine widen (l := [.jrn]) ?_ w
  simp (disch := decide) only [startRec, apply_ite (blank [.jrn]), ite_self, onJrn_blank]
theorem markRec_blank {pl : List Part} (w : within [.jrn] pl = true) (st : JState) (r : JRec) (s : State) : blank pl (markRec st r s) = blank pl s := by
  refine widen (l := [.jrn]) ?_ w
  simp (disch := decide) only [markRec, onJrn_blank]
theorem learnCommitted_blank {pl : List Part} (w : within [.deferred, .met, .est, .imp, .bal, .iso, .ops, .irq, .rings, .rcd, .logFreeze, .rung] pl = true) (s : State) : blank pl (learnCommitted s) = blank pl s := by
  refine widen (l := [.deferred, .met, .est, .imp, .bal, .iso, .ops, .irq, .rings, .rcd, .logFreeze, .rung]) ?_ w
  unfold learnCommitted
  repeat' (first | (with_reducible rfl) | (simp (disch := decide) only [apply_ite (blank [.deferred, .met, .est, .imp, .bal, .iso, .ops, .irq, .rings, .rcd, .logFreeze, .rung]), ite_self, closeOp_blank, endOp_blank, onEst_blank]; done) | (with_reducible refine ite_blank ?_ ?_) | split | (with_reducible refine (foldl_blank _ _ _ (fun _ _ => ?_)).trans ?_) | (dsimp only))
theorem commitRec_blank {pl : List Part} (w : within [.deferred, .met, .est, .jrn, .imp, .bal, .iso, .ops, .irq, .rings, .rcd, .logFreeze, .rung] pl = true) (r : JRec) (s : State) : blank pl (commitRec r s) = blank pl s := by
  refine widen (l := [.deferred, .met, .est, .jrn, .imp, .bal, .iso, .ops, .irq, .rings, .rcd, .logFreeze, .rung]) ?_ w
  simp (disch := decide) only [commitRec, apply_ite (blank [.deferred, .met, .est, .jrn, .imp, .bal, .iso, .ops, .irq, .rings, .rcd, .logFreeze, .rung]), ite_self, learnCommitted_blank, markRec_blank, onJrn_blank]
theorem journalAdvance_blank {pl : List Part} (w : within [.deferred, .met, .est, .jrn, .imp, .bal, .iso, .ops, .irq, .rings, .rcd, .logFreeze, .rung] pl = true) (ok : Bool) (s : State) : blank pl (journalAdvance ok s) = blank pl s := by
  refine widen (l := [.deferred, .met, .est, .jrn, .imp, .bal, .iso, .ops, .irq, .rings, .rcd, .logFreeze, .rung]) ?_ w
  unfold journalAdvance
  split <;> simp (disch := decide) only [apply_ite (blank [.deferred, .met, .est, .jrn, .imp, .bal, .iso, .ops, .irq, .rings, .rcd, .logFreeze, .rung]), ite_self, commitRec_blank, markRec_blank, onJrn_blank, startRec_blank]
theorem execJournalDeltaDue_blank {pl : List Part} (w : within [.jrn] pl = true) (s : State) : Frames pl s (execJournalDeltaDue s) := by
  refine widens (l := [.jrn]) ?_ w
  unfold execJournalDeltaDue
  repeat' (first | (with_reducible rfl) | (simp (disch := decide) only [frames_next, apply_ite (blank [.jrn]), ite_self, onJrn_blank, startRec_blank]; done) | (with_reducible refine ite_blank ?_ ?_) | split | (with_reducible refine (foldl_blank _ _ _ (fun _ _ => ?_)).trans ?_) | (dsimp only))
theorem execJournalPeriodicDelta_blank {pl : List Part} (w : within [.jrn] pl = true) (s : State) : Frames pl s (execJournalPeriodicDelta s) := by
  refine widens (l := [.jrn]) ?_ w
  unfold execJournalPeriodicDelta
  split <;> simp (disch := decide) only [frames_next, apply_ite (blank [.jrn]), ite_self, onJrn_blank, startRec_blank]
theorem applyEntry_blank {pl : List Part} (w : within [.tab, .est] pl = true) (s : State) (e : JEntry) : blank pl (applyEntry s e) = blank pl s := by
  refine widen (l := [.tab, .est]) ?_ w
  unfold applyEntry
  split <;> simp (disch := decide) only [apply_ite (blank [.tab, .est]), ite_self, onCell_blank, onEst_blank, onPos_blank]
theorem learnedDefaults_blank {pl : List Part} (w : within [.tab] pl = true) (s : State) : blank pl (learnedDefaults s) = blank pl s := by
  refine widen (l := [.tab]) ?_ w
  simp (disch := decide) only [learnedDefaults, onCells_blank, onPoss_blank]
theorem countMarks_blank {pl : List Part} (w : within [.tab] pl = true) (s : State) : blank pl (countMarks s) = blank pl s := by
  refine widen (l := [.tab]) ?_ w
  simp (disch := decide) only [countMarks, onPoss_blank]
theorem journalRead_blank {pl : List Part} (w : within [.jrn] pl = true) (heads : List Nat) (payloads : List Nat) (s : State) : blank pl (journalRead heads payloads s) = blank pl s := by
  refine widen (l := [.jrn]) ?_ w
  simp (disch := decide) only [journalRead, onJrn_blank]
theorem journalLoad_blank {pl : List Part} (w : within [.dawn, .deferred, .tab, .est, .jrn, .irq, .rings, .logFreeze, .rung] pl = true) (s0 : State) : blank pl (journalLoad s0) = blank pl s0 := by
  refine widen (l := [.dawn, .deferred, .tab, .est, .jrn, .irq, .rings, .logFreeze, .rung]) ?_ w
  unfold journalLoad
  repeat' (first | (with_reducible rfl) | (simp (disch := decide) only [apply_ite (blank [.dawn, .deferred, .tab, .est, .jrn, .irq, .rings, .logFreeze, .rung]), ite_self, applyEntry_blank, countMarks_blank, learnedDefaults_blank, log_blank, onDawn_blank, onEst_blank, onJrn_blank]; done) | (with_reducible refine ite_blank ?_ ?_) | split | (with_reducible refine (foldl_blank _ _ _ (fun _ _ => ?_)).trans ?_) | (dsimp only) | (simp (disch := decide) only [apply_ite (blank [.dawn, .deferred, .tab, .est, .jrn, .irq, .rings, .logFreeze, .rung]), ite_self, applyEntry_blank, countMarks_blank, learnedDefaults_blank, log_blank, onDawn_blank, onEst_blank, onJrn_blank]))
theorem probationStart_blank {pl : List Part} (w : within [.tab, .jrn] pl = true) (s : State) : blank pl (probationStart s) = blank pl s := by
  refine widen (l := [.tab, .jrn]) ?_ w
  simp (disch := decide) only [probationStart, markDirty_blank, onCells_blank, onPoss_blank]
theorem voidWriting_blank {pl : List Part} (w : within [.jrn] pl = true) (s : State) : blank pl (voidWriting s) = blank pl s := by
  refine widen (l := [.jrn]) ?_ w
  unfold voidWriting
  split <;> simp (disch := decide) only [apply_ite (blank [.jrn]), ite_self, markRec_blank, onJrn_blank]
theorem finishLearn_blank {pl : List Part} (w : within [.deferred, .tab, .est, .jrn, .ops, .irq, .rings, .logFreeze, .rung] pl = true) (s : State) : blank pl (finishLearn s) = blank pl s := by
  refine widen (l := [.deferred, .tab, .est, .jrn, .ops, .irq, .rings, .logFreeze, .rung]) ?_ w
  unfold finishLearn
  split <;> simp (disch := decide) only [apply_ite (blank [.deferred, .tab, .est, .jrn, .ops, .irq, .rings, .logFreeze, .rung]), ite_self, learnCompute_blank]
theorem learnLost_blank {pl : List Part} (w : within [.deferred, .est, .irq, .rings, .logFreeze, .rung] pl = true) (n : Nat) (s : State) : blank pl (learnLost n s) = blank pl s := by
  refine widen (l := [.deferred, .est, .irq, .rings, .logFreeze, .rung]) ?_ w
  simp (disch := decide) only [learnLost, log_blank, onEst_blank]
theorem brownOutJournal_blank {pl : List Part} (w : within [.deferred, .tab, .est, .jrn, .ops, .irq, .rings, .logFreeze, .rung] pl = true) (ready : Bool) (s : State) : blank pl (brownOutJournal ready s) = blank pl s := by
  refine widen (l := [.deferred, .tab, .est, .jrn, .ops, .irq, .rings, .logFreeze, .rung]) ?_ w
  unfold brownOutJournal
  repeat' (first | (with_reducible rfl) | (simp (disch := decide) only [apply_ite (blank [.deferred, .tab, .est, .jrn, .ops, .irq, .rings, .logFreeze, .rung]), ite_self, finishLearn_blank, learnLost_blank, onEst_blank, onJrn_blank, voidWriting_blank]; done) | (with_reducible refine ite_blank ?_ ?_) | split | (with_reducible refine (foldl_blank _ _ _ (fun _ _ => ?_)).trans ?_) | (dsimp only))
theorem uncorrectable_blank {pl : List Part} (w : within [.str, .pins, .tb, .deferred, .idn, .met, .est, .imp, .cnv, .dsp, .bal, .thm, .prot, .cont, .iso, .pair, .host, .ops, .irq, .rings, .rcd, .logFreeze, .can, .hlth, .rung, .upd] pl = true) (s : State) : blank pl (uncorrectable s) = blank pl s := by
  refine widen (l := [.str, .pins, .tb, .deferred, .idn, .met, .est, .imp, .cnv, .dsp, .bal, .thm, .prot, .cont, .iso, .pair, .host, .ops, .irq, .rings, .rcd, .logFreeze, .can, .hlth, .rung, .upd]) ?_ w
  simp (disch := decide) only [uncorrectable, moduleFault_blank, onHlth_blank]
theorem countCorrections_blank {pl : List Part} (w : within [.deferred, .irq, .rings, .logFreeze, .hlth, .rung] pl = true) (row : Nat) (n : Nat) (s : State) : blank pl (countCorrections row n s) = blank pl s := by
  refine widen (l := [.deferred, .irq, .rings, .logFreeze, .hlth, .rung]) ?_ w
  simp (disch := decide) only [countCorrections, apply_ite (blank [.deferred, .irq, .rings, .logFreeze, .hlth, .rung]), ite_self, addDefect_blank, log_blank, onHlth_blank]
theorem execSramScrubRow_blank {pl : List Part} (w : within [.str, .pins, .tb, .deferred, .idn, .met, .est, .imp, .cnv, .dsp, .bal, .thm, .prot, .cont, .iso, .pair, .host, .ops, .irq, .rings, .rcd, .logFreeze, .can, .hlth, .rung, .upd] pl = true) (corrected : Nat) (uncorr : Bool) (s : State) : Frames pl s (execSramScrubRow corrected uncorr s) := by
  refine widens (l := [.str, .pins, .tb, .deferred, .idn, .met, .est, .imp, .cnv, .dsp, .bal, .thm, .prot, .cont, .iso, .pair, .host, .ops, .irq, .rings, .rcd, .logFreeze, .can, .hlth, .rung, .upd]) ?_ w
  unfold execSramScrubRow
  split <;> simp (disch := decide) only [frames_next, apply_ite (blank [.str, .pins, .tb, .deferred, .idn, .met, .est, .imp, .cnv, .dsp, .bal, .thm, .prot, .cont, .iso, .pair, .host, .ops, .irq, .rings, .rcd, .logFreeze, .can, .hlth, .rung, .upd]), ite_self, countCorrections_blank, onHlth_blank, uncorrectable_blank]
theorem execEccError_blank {pl : List Part} (w : within [.str, .pins, .tb, .deferred, .idn, .met, .est, .imp, .cnv, .dsp, .bal, .thm, .prot, .cont, .iso, .pair, .host, .ops, .irq, .rings, .rcd, .logFreeze, .can, .hlth, .rung, .upd] pl = true) (s : State) : Frames pl s (execEccError s) := by
  refine widens (l := [.str, .pins, .tb, .deferred, .idn, .met, .est, .imp, .cnv, .dsp, .bal, .thm, .prot, .cont, .iso, .pair, .host, .ops, .irq, .rings, .rcd, .logFreeze, .can, .hlth, .rung, .upd]) ?_ w
  simp (disch := decide) only [execEccError, frames_next, apply_ite (blank [.str, .pins, .tb, .deferred, .idn, .met, .est, .imp, .cnv, .dsp, .bal, .thm, .prot, .cont, .iso, .pair, .host, .ops, .irq, .rings, .rcd, .logFreeze, .can, .hlth, .rung, .upd]), ite_self, uncorrectable_blank]
theorem laneFails_blank {pl : List Part} (w : within [.str, .pins, .deferred, .idn, .met, .est, .imp, .cnv, .dsp, .bal, .prot, .iso, .pair, .host, .ops, .irq, .rings, .rcd, .logFreeze, .can, .hlth, .rung] pl = true) (lane : Nat) (s : State) : blank pl (laneFails lane s) = blank pl s := by
  refine widen (l := [.str, .pins, .deferred, .idn, .met, .est, .imp, .cnv, .dsp, .bal, .prot, .iso, .pair, .host, .ops, .irq, .rings, .rcd, .logFreeze, .can, .hlth, .rung]) ?_ w
  simp (disch := decide) only [laneFails, apply_ite (blank [.str, .pins, .deferred, .idn, .met, .est, .imp, .cnv, .dsp, .bal, .prot, .iso, .pair, .host, .ops, .irq, .rings, .rcd, .logFreeze, .can, .hlth, .rung]), ite_self, addDefect_blank, hardwareFault_blank, log_blank, onHlth_blank, useSpare_blank]
theorem execLaneTest_blank {pl : List Part} (w : within [.str, .pins, .deferred, .idn, .met, .est, .imp, .cnv, .dsp, .bal, .prot, .iso, .pair, .host, .ops, .irq, .rings, .rcd, .logFreeze, .can, .hlth, .rung] pl = true) (pass : Bool) (s : State) : Frames pl s (execLaneTest pass s) := by
  refine widens (l := [.str, .pins, .deferred, .idn, .met, .est, .imp, .cnv, .dsp, .bal, .prot, .iso, .pair, .host, .ops, .irq, .rings, .rcd, .logFreeze, .can, .hlth, .rung]) ?_ w
  unfold execLaneTest
  split <;> simp (disch := decide) only [frames_next, apply_ite (blank [.str, .pins, .deferred, .idn, .met, .est, .imp, .cnv, .dsp, .bal, .prot, .iso, .pair, .host, .ops, .irq, .rings, .rcd, .logFreeze, .can, .hlth, .rung]), ite_self, laneFails_blank, onHlth_blank]
theorem retireWith_blank {pl : List Part} (w : within [.deferred, .irq, .rings, .logFreeze, .hlth, .rung] pl = true) (fail : State → State) (region : Nat) (block : Nat) (s : State) (h : ∀ t, blank pl (fail t) = blank pl t) : blank pl (retireWith fail region block s) = blank pl s := by
  simp (disch := first | decide | exact within_trans (by decide) w) only [retireWith, apply_ite (blank pl), ite_self, addDefect_blank, log_blank, onHlth_blank, useSpare_blank, h]
theorem retireBlock_blank {pl : List Part} (w : within [.str, .pins, .deferred, .idn, .met, .est, .imp, .cnv, .dsp, .bal, .prot, .iso, .pair, .host, .ops, .irq, .rings, .rcd, .logFreeze, .can, .hlth, .rung] pl = true) (region : Nat) (block : Nat) (s : State) : blank pl (retireBlock region block s) = blank pl s := by
  refine widen (l := [.str, .pins, .deferred, .idn, .met, .est, .imp, .cnv, .dsp, .bal, .prot, .iso, .pair, .host, .ops, .irq, .rings, .rcd, .logFreeze, .can, .hlth, .rung]) ?_ w
  unfold retireBlock
  repeat' (first | (with_reducible rfl) | (simp (disch := decide) only [apply_ite (blank [.str, .pins, .deferred, .idn, .met, .est, .imp, .cnv, .dsp, .bal, .prot, .iso, .pair, .host, .ops, .irq, .rings, .rcd, .logFreeze, .can, .hlth, .rung]), ite_self, hardwareFault_blank, retireWith_blank]; done) | (with_reducible refine ite_blank ?_ ?_) | split | (with_reducible refine (foldl_blank _ _ _ (fun _ _ => ?_)).trans ?_) | (with_reducible refine (retireWith_blank (by decide) _ _ _ _ (fun _ => ?_)).trans ?_) | (dsimp only))
theorem execFlashRefresh_blank {pl : List Part} (w : within [.str, .pins, .deferred, .idn, .met, .est, .imp, .cnv, .dsp, .bal, .prot, .iso, .pair, .host, .ops, .irq, .rings, .rcd, .logFreeze, .can, .hlth, .rung] pl = true) (region : Nat) (needRewrite : Bool) (failed : Bool) (s : State) : Frames pl s (execFlashRefresh region needRewrite failed s) := by
  refine widens (l := [.str, .pins, .deferred, .idn, .met, .est, .imp, .cnv, .dsp, .bal, .prot, .iso, .pair, .host, .ops, .irq, .rings, .rcd, .logFreeze, .can, .hlth, .rung]) ?_ w
  unfold execFlashRefresh
  repeat' (first | (with_reducible rfl) | (simp (disch := decide) only [frames_next, apply_ite (blank [.str, .pins, .deferred, .idn, .met, .est, .imp, .cnv, .dsp, .bal, .prot, .iso, .pair, .host, .ops, .irq, .rings, .rcd, .logFreeze, .can, .hlth, .rung]), ite_self, onHlth_blank, retireBlock_blank]; done) | (with_reducible refine ite_blank ?_ ?_) | split | (with_reducible refine (foldl_blank _ _ _ (fun _ _ => ?_)).trans ?_) | (dsimp only))
theorem execFlashOperationDone_blank {pl : List Part} (w : within [.str, .pins, .deferred, .idn, .met, .est, .jrn, .imp, .cnv, .dsp, .bal, .prot, .iso, .pair, .host, .ops, .irq, .rings, .rcd, .logFreeze, .can, .hlth, .rung] pl = true) (region : Nat) (block : Nat) (ok : Bool) (s : State) : Frames pl s (execFlashOperationDone region block ok s) := by
  refine widens (l := [.str, .pins, .deferred, .idn, .met, .est, .jrn, .imp, .cnv, .dsp, .bal, .prot, .iso, .pair, .host, .ops, .irq, .rings, .rcd, .logFreeze, .can, .hlth, .rung]) ?_ w
  unfold execFlashOperationDone
  split <;> simp (disch := decide) only [frames_next, apply_ite (blank [.str, .pins, .deferred, .idn, .met, .est, .jrn, .imp, .cnv, .dsp, .bal, .prot, .iso, .pair, .host, .ops, .irq, .rings, .rcd, .logFreeze, .can, .hlth, .rung]), ite_self, journalAdvance_blank, retireBlock_blank]
theorem onSlot_blank {pl : List Part} (w : within [.cnv] pl = true) (i : Nat) (g : Slot → Slot) (s : State) : blank pl (onSlot i g s) = blank pl s := by
  refine widen (l := [.cnv]) ?_ w
  simp (disch := decide) only [onSlot, onCnv_blank]
theorem switchRef_blank {pl : List Part} (w : within [.met] pl = true) (s : State) : blank pl (switchRef s) = blank pl s := by
  refine widen (l := [.met]) ?_ w
  simp (disch := decide) only [switchRef, onMet_blank]
theorem latchDs_blank {pl : List Part} (w : within [.met] pl = true) (words : List (List Int)) (len : Nat) (s : State) : blank pl (latchDs words len s) = blank pl s := by
  refine widen (l := [.met]) ?_ w
  simp (disch := decide) only [latchDs, onMet_blank]
theorem dwellGather_blank {pl : List Part} (w : within [.met] pl = true) (s : State) : blank pl (dwellGather s) = blank pl s := by
  refine widen (l := [.met]) ?_ w
  unfold dwellGather
  split <;> simp (disch := decide) only [apply_ite (blank [.met]), ite_self, onMet_blank]
theorem calGather_blank {pl : List Part} (w : within [.met] pl = true) (words : List (List Int)) (sar : List (Option Int)) (s : State) : blank pl (calGather words sar s) = blank pl s := by
  refine widen (l := [.met]) ?_ w
  unfold calGather
  split <;> simp (disch := decide) only [apply_ite (blank [.met]), ite_self, onMet_blank]
theorem latchSar_blank {pl : List Part} (w : within [.met] pl = true) (raw : List (Option Int)) (s : State) : blank pl (latchSar raw s) = blank pl s := by
  refine widen (l := [.met]) ?_ w
  simp (disch := decide) only [latchSar, onMet_blank]
theorem coulombTick_blank {pl : List Part} (w : within [.met] pl = true) (box0 : Int) (box1 : Int) (n : Nat) (len : Nat) (s : State) : blank pl (coulombTick box0 box1 n len s) = blank pl s := by
  refine widen (l := [.met]) ?_ w
  simp (disch := decide) only [coulombTick, onMet_blank]
theorem latchMeans_blank {pl : List Part} (w : within [.met] pl = true) (s : State) : blank pl (latchMeans s) = blank pl s := by
  refine widen (l := [.met]) ?_ w
  simp (disch := decide) only [latchMeans, onMet_blank]
theorem crossCheck_blank {pl : List Part} (w : within [.str, .met] pl = true) (s : State) : blank pl (crossCheck s) = blank pl s := by
  refine widen (l := [.str, .met]) ?_ w
  unfold crossCheck
  split <;> simp (disch := decide) only [apply_ite (blank [.str, .met]), ite_self, deactivate_blank, onMet_blank]
theorem execRefDisagree_blank {pl : List Part} (w : within [.deferred, .met, .irq, .rings, .logFreeze, .rung] pl = true) (s : State) : Frames pl s (execRefDisagree s) := by
  refine widens (l := [.deferred, .met, .irq, .rings, .logFreeze, .rung]) ?_ w
  unfold execRefDisagree
  split <;> simp (disch := decide) only [frames_next, apply_ite (blank [.deferred, .met, .irq, .rings, .logFreeze, .rung]), ite_self, log_blank, onMet_blank]
theorem execRefSettled_blank {pl : List Part} (w : within [.met] pl = true) (s : State) : Frames pl s (execRefSettled s) := by
  refine widens (l := [.met]) ?_ w
  unfold execRefSettled
  split <;> simp (disch := decide) only [frames_next, apply_ite (blank [.met]), ite_self, onMet_blank]
theorem execRefSettleTimeout_blank {pl : List Part} (w : within [.str, .pins, .tb, .deferred, .idn, .met, .est, .imp, .cnv, .dsp, .bal, .thm, .prot, .cont, .iso, .pair, .host, .ops, .irq, .rings, .rcd, .logFreeze, .can, .rung, .upd] pl = true) (s : State) : Frames pl s (execRefSettleTimeout s) := by
  refine widens (l := [.str, .pins, .tb, .deferred, .idn, .met, .est, .imp, .cnv, .dsp, .bal, .thm, .prot, .cont, .iso, .pair, .host, .ops, .irq, .rings, .rcd, .logFreeze, .can, .rung, .upd]) ?_ w
  unfold execRefSettleTimeout
  split <;> simp (disch := decide) only [frames_next, apply_ite (blank [.str, .pins, .tb, .deferred, .idn, .met, .est, .imp, .cnv, .dsp, .bal, .thm, .prot, .cont, .iso, .pair, .host, .ops, .irq, .rings, .rcd, .logFreeze, .can, .rung, .upd]), ite_self, log_blank, moduleFault_blank]
theorem judgeRefs_blank {pl : List Part} (w : within [.str, .pins, .tb, .deferred, .idn, .met, .est, .imp, .cnv, .dsp, .bal, .thm, .prot, .cont, .iso, .pair, .host, .ops, .irq, .rings, .rcd, .logFreeze, .can, .rung, .upd] pl = true) (depA : Rat) (depB : Rat) (s : State) : blank pl (judgeRefs depA depB s) = blank pl s := by
  refine widen (l := [.str, .pins, .tb, .deferred, .idn, .met, .est, .imp, .cnv, .dsp, .bal, .thm, .prot, .cont, .iso, .pair, .host, .ops, .irq, .rings, .rcd, .logFreeze, .can, .rung, .upd]) ?_ w
  simp (disch := decide) only [judgeRefs, apply_ite (blank [.str, .pins, .tb, .deferred, .idn, .met, .est, .imp, .cnv, .dsp, .bal, .thm, .prot, .cont, .iso, .pair, .host, .ops, .irq, .rings, .rcd, .logFreeze, .can, .rung, .upd]), ite_self, log_blank, moduleFault_blank, onMet_blank, raiseTw_blank, switchRef_blank]
theorem judgeVrefC_blank {pl : List Part} (w : within [.str, .pins, .tb, .deferred, .idn, .met, .est, .imp, .cnv, .dsp, .bal, .thm, .prot, .cont, .iso, .pair, .host, .ops, .irq, .rings, .rcd, .logFreeze, .can, .rung, .upd] pl = true) (dep : Rat) (s : State) : blank pl (judgeVrefC dep s) = blank pl s := by
  refine widen (l := [.str, .pins, .tb, .deferred, .idn, .met, .est, .imp, .cnv, .dsp, .bal, .thm, .prot, .cont, .iso, .pair, .host, .ops, .irq, .rings, .rcd, .logFreeze, .can, .rung, .upd]) ?_ w
  simp (disch := decide) only [judgeVrefC, apply_ite (blank [.str, .pins, .tb, .deferred, .idn, .met, .est, .imp, .cnv, .dsp, .bal, .thm, .prot, .cont, .iso, .pair, .host, .ops, .irq, .rings, .rcd, .logFreeze, .can, .rung, .upd]), ite_self, log_blank, moduleFault_blank, onMet_blank]
theorem execSettlingEnd_blank {pl : List Part} (w : within [.met] pl = true) (ch : Nat) (s : State) : Frames pl s (execSettlingEnd ch s) := by
  refine widens (l := [.met]) ?_ w
  unfold execSettlingEnd
  repeat' (first | (with_reducible rfl) | (simp (disch := decide) only [frames_next, apply_ite (blank [.met]), ite_self, onDs_blank]; done) | (with_reducible refine ite_blank ?_ ?_) | split | (with_reducible refine (foldl_blank _ _ _ (fun _ _ => ?_)).trans ?_) | (dsimp only))
theorem execDsOverrange_blank {pl : List Part} (w : within [.deferred, .met, .irq, .rings, .logFreeze, .rung] pl = true) (ch : Nat) (s : State) : Frames pl s (execDsOverrange ch s) := by
  refine widens (l := [.deferred, .met, .irq, .rings, .logFreeze, .rung]) ?_ w
  unfold execDsOverrange
  split <;> simp (disch := decide) only [frames_next, apply_ite (blank [.deferred, .met, .irq, .rings, .logFreeze, .rung]), ite_self, log_blank, onDs_blank, onMet_blank]
theorem execDsOverrangeEnd_blank {pl : List Part} (w : within [.met] pl = true) (ch : Nat) (s : State) : Frames pl s (execDsOverrangeEnd ch s) := by
  refine widens (l := [.met]) ?_ w
  unfold execDsOverrangeEnd
  split <;> simp (disch := decide) only [frames_next, apply_ite (blank [.met]), ite_self, onDs_blank]
theorem failCurrentCh_blank {pl : List Part} (w : within [.str, .deferred, .met, .prot, .irq, .rings, .logFreeze, .rung] pl = true) (ch : Nat) (s : State) : blank pl (failCurrentCh ch s) = blank pl s := by
  refine widen (l := [.str, .deferred, .met, .prot, .irq, .rings, .logFreeze, .rung]) ?_ w
  simp (disch := decide) only [failCurrentCh, apply_ite (blank [.str, .deferred, .met, .prot, .irq, .rings, .logFreeze, .rung]), ite_self, log_blank, onDs_blank, onMet_blank, raiseTw_blank]
theorem execCurrentChDisagree_blank {pl : List Part} (w : within [.str, .pins, .deferred, .idn, .met, .est, .imp, .cnv, .dsp, .bal, .prot, .iso, .pair, .host, .ops, .irq, .rings, .rcd, .logFreeze, .can, .rung] pl = true) (s : State) : Frames pl s (execCurrentChDisagree s) := by
  refine widens (l := [.str, .pins, .deferred, .idn, .met, .est, .imp, .cnv, .dsp, .bal, .prot, .iso, .pair, .host, .ops, .irq, .rings, .rcd, .logFreeze, .can, .rung]) ?_ w
  unfold execCurrentChDisagree
  repeat' (first | (with_reducible rfl) | (simp (disch := decide) only [frames_next, apply_ite (blank [.str, .pins, .deferred, .idn, .met, .est, .imp, .cnv, .dsp, .bal, .prot, .iso, .pair, .host, .ops, .irq, .rings, .rcd, .logFreeze, .can, .rung]), ite_self, hardwareFault_blank, failCurrentCh_blank, log_blank, onMet_blank]; done) | (with_reducible refine ite_blank ?_ ?_) | split | (with_reducible refine (foldl_blank _ _ _ (fun _ _ => ?_)).trans ?_) | (dsimp only))
theorem execDs7DwellEnd_blank {pl : List Part} (w : within [.deferred, .met, .irq, .rings, .logFreeze, .rung] pl = true) (_meanCh : Int) (_mean7 : Int) (s : State) : Frames pl s (execDs7DwellEnd _meanCh _mean7 s) := by
  refine widens (l := [.deferred, .met, .irq, .rings, .logFreeze, .rung]) ?_ w
  unfold execDs7DwellEnd
  repeat' (first | (with_reducible rfl) | (simp (disch := decide) only [frames_next, apply_ite (blank [.deferred, .met, .irq, .rings, .logFreeze, .rung]), ite_self, ds7Move_blank, log_blank, onMet_blank]; done) | (with_reducible refine ite_blank ?_ ?_) | split | (with_reducible refine (foldl_blank _ _ _ (fun _ _ => ?_)).trans ?_) | (dsimp only))
theorem execDs7InjectionTestDone_blank {pl : List Part} (w : within [.deferred, .met, .irq, .rings, .logFreeze, .hlth, .rung] pl = true) (pass : Bool) (s : State) : Frames pl s (execDs7InjectionTestDone pass s) := by
  refine widens (l := [.deferred, .met, .irq, .rings, .logFreeze, .hlth, .rung]) ?_ w
  unfold execDs7InjectionTestDone
  repeat' (first | (with_reducible rfl) | (simp (disch := decide) only [frames_next, apply_ite (blank [.deferred, .met, .irq, .rings, .logFreeze, .hlth, .rung]), ite_self, addDefect_blank, ds7Move_blank, log_blank, onDs_blank, onMet_blank, useSpare_blank]; done) | (with_reducible refine ite_blank ?_ ?_) | split | (with_reducible refine (foldl_blank _ _ _ (fun _ _ => ?_)).trans ?_) | (dsimp only))
theorem seqOverrun_blank {pl : List Part} (w : within [.deferred, .met, .irq, .rings, .logFreeze, .rung] pl = true) (ch : Nat) (s : State) : blank pl (seqOverrun ch s) = blank pl s := by
  refine widen (l := [.deferred, .met, .irq, .rings, .logFreeze, .rung]) ?_ w
  simp (disch := decide) only [seqOverrun, apply_ite (blank [.deferred, .met, .irq, .rings, .logFreeze, .rung]), ite_self, log_blank, onSar_blank]
theorem execSarTrigger_blank {pl : List Part} (w : within [.deferred, .met, .irq, .rings, .logFreeze, .rung] pl = true) (t : SarTrig) (atNs : Nat) (s : State) : Frames pl s (execSarTrigger t atNs s) := by
  refine widens (l := [.deferred, .met, .irq, .rings, .logFreeze, .rung]) ?_ w
  unfold execSarTrigger
  repeat' (first | (with_reducible rfl) | (simp (disch := decide) only [frames_next, apply_ite (blank [.deferred, .met, .irq, .rings, .logFreeze, .rung]), ite_self, onSar_blank, seqOverrun_blank]; done) | (with_reducible refine ite_blank ?_ ?_) | split | (with_reducible refine (foldl_blank _ _ _ (fun _ _ => ?_)).trans ?_) | (dsimp only))
theorem seqAtEdge_blank {pl : List Part} (w : within [.met] pl = true) (s : State) : blank pl (seqAtEdge s) = blank pl s := by
  refine widen (l := [.met]) ?_ w
  unfold seqAtEdge
  repeat' (first | (with_reducible rfl) | (simp (disch := decide) only [apply_ite (blank [.met]), ite_self, onSar_blank]; done) | (with_reducible refine ite_blank ?_ ?_) | split | (with_reducible refine (foldl_blank _ _ _ (fun _ _ => ?_)).trans ?_) | (dsimp only))
theorem execSarSequenceDone_blank {pl : List Part} (w : within [.met, .irq, .rings, .rung] pl = true) (r : SarDone) (s : State) : Frames pl s (execSarSequenceDone r s) := by
  refine widens (l := [.met, .irq, .rings, .rung]) ?_ w
  unfold execSarSequenceDone
  repeat' (first | (with_reducible rfl) | (simp (disch := decide) only [frames_next, apply_ite (blank [.met, .irq, .rings, .rung]), ite_self, irqEvent_blank, onSar_blank]; done) | (with_reducible refine ite_blank ?_ ?_) | split | (with_reducible refine (foldl_blank _ _ _ (fun _ _ => ?_)).trans ?_) | (dsimp only))
theorem execCaptureComplete_blank {pl : List Part} (w : within [.met, .host, .irq, .rings, .rung] pl = true) (samples : List Int) (gaps : List Nat) (s : State) : Frames pl s (execCaptureComplete samples gaps s) := by
  refine widens (l := [.met, .host, .irq, .rings, .rung]) ?_ w
  unfold execCaptureComplete
  repeat' (first | (with_reducible rfl) | (simp (disch := decide) only [frames_next, apply_ite (blank [.met, .host, .irq, .rings, .rung]), ite_self, onHost_blank, onMet_blank, ringPut_blank]; done) | (with_reducible refine ite_blank ?_ ?_) | split | (with_reducible refine (foldl_blank _ _ _ (fun _ _ => ?_)).trans ?_) | (dsimp only) | (simp (disch := decide) only [frames_next, apply_ite (blank [.met, .host, .irq, .rings, .rung]), ite_self, onHost_blank, onMet_blank, ringPut_blank]))
theorem execHousekeepingRoundStart_blank {pl : List Part} (w : within [.met] pl = true) (s : State) : Frames pl s (execHousekeepingRoundStart s) := by
  refine widens (l := [.met]) ?_ w
  unfold execHousekeepingRoundStart
  split <;> simp (disch := decide) only [frames_next, apply_ite (blank [.met]), ite_self, onMet_blank]
theorem ntcOpen_blank {pl : List Part} (w : within [.deferred, .met, .irq, .rings, .logFreeze, .rung] pl = true) (k : Nat) (s : State) : blank pl (ntcOpen k s) = blank pl s := by
  refine widen (l := [.deferred, .met, .irq, .rings, .logFreeze, .rung]) ?_ w
  simp (disch := decide) only [ntcOpen, apply_ite (blank [.deferred, .met, .irq, .rings, .logFreeze, .rung]), ite_self, log_blank, onMet_blank]
theorem ntcShort_blank {pl : List Part} (w : within [.deferred, .met, .irq, .rings, .logFreeze, .rung] pl = true) (k : Nat) (s : State) : blank pl (ntcShort k s) = blank pl s := by
  refine widen (l := [.deferred, .met, .irq, .rings, .logFreeze, .rung]) ?_ w
  simp (disch := decide) only [ntcShort, apply_ite (blank [.deferred, .met, .irq, .rings, .logFreeze, .rung]), ite_self, log_blank, onMet_blank]
theorem ntcRead_blank {pl : List Part} (w : within [.deferred, .met, .irq, .rings, .logFreeze, .rung] pl = true) (raw : List Nat) (input : Nat) (beta : Nat) (k : Nat) (s : State) : blank pl (ntcRead raw input beta k s).1 = blank pl s := by
  refine widen (l := [.deferred, .met, .irq, .rings, .logFreeze, .rung]) ?_ w
  unfold ntcRead
  repeat' (first | (with_reducible rfl) | (simp (disch := decide) only [apply_ite (blank [.deferred, .met, .irq, .rings, .logFreeze, .rung]), ite_self, ntcOpen_blank, ntcShort_blank, onMet_blank]; done) | (with_reducible refine ite_blank ?_ ?_) | split | (with_reducible refine (foldl_blank _ _ _ (fun _ _ => ?_)).trans ?_) | (dsimp only))
theorem readShunt_blank {pl : List Part} (w : within [.str, .deferred, .met, .prot, .irq, .rings, .logFreeze, .rung] pl = true) (raw : List Nat) (s : State) : blank pl (readShunt raw s) = blank pl s := by
  refine widen (l := [.str, .deferred, .met, .prot, .irq, .rings, .logFreeze, .rung]) ?_ w
  unfold readShunt
  repeat' (first | (with_reducible rfl) | (simp (disch := decide) only [apply_ite (blank [.str, .deferred, .met, .prot, .irq, .rings, .logFreeze, .rung]), ite_self, clearTw_blank, ntcRead_blank, onMet_blank, onProt_blank, raiseTw_blank]; done) | (with_reducible refine ite_blank ?_ ?_) | split | (with_reducible refine (foldl_blank _ _ _ (fun _ _ => ?_)).trans ?_) | (dsimp only))
theorem readNtcs_blank {pl : List Part} (w : within [.deferred, .met, .irq, .rings, .logFreeze, .rung] pl = true) (raw : List Nat) (s : State) : blank pl (readNtcs raw s) = blank pl s := by
  refine widen (l := [.deferred, .met, .irq, .rings, .logFreeze, .rung]) ?_ w
  unfold readNtcs
  repeat' (first | (with_reducible rfl) | (simp (disch := decide) only [apply_ite (blank [.deferred, .met, .irq, .rings, .logFreeze, .rung]), ite_self, ntcRead_blank, onMet_blank]; done) | (with_reducible refine ite_blank ?_ ?_) | split | (with_reducible refine (foldl_blank _ _ _ (fun _ _ => ?_)).trans ?_) | (dsimp only))
theorem judgeDie_blank {pl : List Part} (w : within [.str, .deferred, .prot, .irq, .rings, .logFreeze, .hlth, .rung] pl = true) (die : List Int) (s : State) : blank pl (judgeDie die s) = blank pl s := by
  refine widen (l := [.str, .deferred, .prot, .irq, .rings, .logFreeze, .hlth, .rung]) ?_ w
  unfold judgeDie
  repeat' (first | (with_reducible rfl) | (simp (disch := decide) only [apply_ite (blank [.str, .deferred, .prot, .irq, .rings, .logFreeze, .hlth, .rung]), ite_self, log_blank, onHlth_blank, setTw_blank]; done) | (with_reducible refine ite_blank ?_ ?_) | split | (with_reducible refine (foldl_blank _ _ _ (fun _ _ => ?_)).trans ?_) | (dsimp only) | (simp (disch := decide) only [apply_ite (blank [.str, .deferred, .prot, .irq, .rings, .logFreeze, .hlth, .rung]), ite_self, log_blank, onHlth_blank, setTw_blank]))
theorem readSupplies_blank {pl : List Part} (w : within [.pwr, .fresh] pl = true) (raw : List Nat) (s : State) : blank pl (readSupplies raw s) = blank pl s := by
  refine widen (l := [.pwr, .fresh]) ?_ w
  simp (disch := decide) only [readSupplies, onPwr_blank, tickFresh_blank]
theorem execHousekeepingRoundComplete_blank {pl : List Part} (w : within [.str, .pins, .pwr, .tb, .deferred, .idn, .met, .est, .imp, .cnv, .dsp, .bal, .thm, .prot, .cont, .iso, .pair, .host, .ops, .irq, .rings, .rcd, .logFreeze, .can, .hlth, .rung, .upd, .fresh] pl = true) (raw : List Nat) (die : List Int) (s : State) : Frames pl s (execHousekeepingRoundComplete raw die s) := by
  refine widens (l := [.str, .pins, .pwr, .tb, .deferred, .idn, .met, .est, .imp, .cnv, .dsp, .bal, .thm, .prot, .cont, .iso, .pair, .host, .ops, .irq, .rings, .rcd, .logFreeze, .can, .hlth, .rung, .upd, .fresh]) ?_ w
  unfold execHousekeepingRoundComplete
  split <;> simp (disch := decide) only [frames_next, apply_ite (blank [.str, .pins, .pwr, .tb, .deferred, .idn, .met, .est, .imp, .cnv, .dsp, .bal, .thm, .prot, .cont, .iso, .pair, .host, .ops, .irq, .rings, .rcd, .logFreeze, .can, .hlth, .rung, .upd, .fresh]), ite_self, irqEvent_blank, judgeDie_blank, judgeRefs_blank, judgeVrefC_blank, onMet_blank, readNtcs_blank, readShunt_blank, readSupplies_blank]
theorem calReject_blank {pl : List Part} (w : within [.deferred, .met, .est, .imp, .bal, .iso, .ops, .irq, .rings, .rcd, .logFreeze, .rung] pl = true) (c : SysCal) (s : State) : blank pl (calReject c s) = blank pl s := by
  refine widen (l := [.deferred, .met, .est, .imp, .bal, .iso, .ops, .irq, .rings, .rcd, .logFreeze, .rung]) ?_ w
  simp (disch := decide) only [calReject, closeOp_blank, endOp_blank, log_blank]
theorem execSysCalCaptureDone_blank {pl : List Part} (w : within [.deferred, .idn, .met, .est, .imp, .bal, .iso, .ops, .irq, .rings, .rcd, .logFreeze, .rung] pl = true) (_mean : Int) (_sigma : Int) (s : State) : Frames pl s (execSysCalCaptureDone _mean _sigma s) := by
  refine widens (l := [.deferred, .idn, .met, .est, .imp, .bal, .iso, .ops, .irq, .rings, .rcd, .logFreeze, .rung]) ?_ w
  unfold execSysCalCaptureDone
  repeat' (first | (with_reducible rfl) | (simp (disch := decide) only [frames_next, apply_ite (blank [.deferred, .idn, .met, .est, .imp, .bal, .iso, .ops, .irq, .rings, .rcd, .logFreeze, .rung]), ite_self, calReject_blank, calRelease_blank, closeOp_blank, endOp_blank, log_blank, onIdn_blank, onMet_blank, onOp_blank, publishOp_blank]; done) | (with_reducible refine ite_blank ?_ ?_) | split | (with_reducible refine (foldl_blank _ _ _ (fun _ _ => ?_)).trans ?_) | (dsimp only))
theorem execSysCalSuspendTimeout_blank {pl : List Part} (w : within [.deferred, .met, .est, .imp, .bal, .iso, .ops, .irq, .rings, .rcd, .logFreeze, .rung] pl = true) (s : State) : Frames pl s (execSysCalSuspendTimeout s) := by
  refine widens (l := [.deferred, .met, .est, .imp, .bal, .iso, .ops, .irq, .rings, .rcd, .logFreeze, .rung]) ?_ w
  unfold execSysCalSuspendTimeout
  repeat' (first | (with_reducible rfl) | (simp (disch := decide) only [frames_next, apply_ite (blank [.deferred, .met, .est, .imp, .bal, .iso, .ops, .irq, .rings, .rcd, .logFreeze, .rung]), ite_self, closeOp_blank, endOp_blank]; done) | (with_reducible refine ite_blank ?_ ?_) | split | (with_reducible refine (foldl_blank _ _ _ (fun _ _ => ?_)).trans ?_) | (dsimp only))
theorem onPhase_blank {pl : List Part} (w : within [.cnv] pl = true) (k : Nat) (g : Phase → Phase) (s : State) : blank pl (onPhase k g s) = blank pl s := by
  refine widen (l := [.cnv]) ?_ w
  simp (disch := decide) only [onPhase, onCnv_blank]
theorem onPort_blank {pl : List Part} (w : within [.cnv] pl = true) (n : Nat) (g : GlPort → GlPort) (s : State) : blank pl (onPort n g s) = blank pl s := by
  refine widen (l := [.cnv]) ?_ w
  simp (disch := decide) only [onPort, onCnv_blank]
theorem convIdle_blank {pl : List Part} (w : within [.cnv] pl = true) (s : State) : blank pl (convIdle s) = blank pl s := by
  refine widen (l := [.cnv]) ?_ w
  simp (disch := decide) only [convIdle, apply_ite (blank [.cnv]), ite_self, stopSlots_blank]
theorem phaseRefs_blank {pl : List Part} (w : within [.cnv] pl = true) (s : State) : blank pl (phaseRefs s) = blank pl s := by
  refine widen (l := [.cnv]) ?_ w
  simp (disch := decide) only [phaseRefs, onCnv_blank]
theorem phaseLoop_blank {pl : List Part} (w : within [.cnv] pl = true) (k : Nat) (s : State) : blank pl (phaseLoop k s) = blank pl s := by
  refine widen (l := [.cnv]) ?_ w
  unfold phaseLoop
  split <;> simp (disch := decide) only [apply_ite (blank [.cnv]), ite_self, onPort_blank, onSlot_blank]
theorem softEnd_blank {pl : List Part} (w : within [.str, .deferred, .cnv, .prot, .irq, .rings, .logFreeze, .rung] pl = true) (k : Nat) (s : State) : blank pl (softEnd k s) = blank pl s := by
  refine widen (l := [.str, .deferred, .cnv, .prot, .irq, .rings, .logFreeze, .rung]) ?_ w
  simp (disch := decide) only [softEnd, apply_ite (blank [.str, .deferred, .cnv, .prot, .irq, .rings, .logFreeze, .rung]), ite_self, clearTw_blank, log_blank, onPhase_blank]
theorem phaseLoops_blank {pl : List Part} (w : within [.str, .deferred, .cnv, .prot, .irq, .rings, .logFreeze, .rung] pl = true) (s0 : State) : blank pl (phaseLoops s0) = blank pl s0 := by
  refine widen (l := [.str, .deferred, .cnv, .prot, .irq, .rings, .logFreeze, .rung]) ?_ w
  unfold phaseLoops
  repeat' (first | (with_reducible rfl) | (simp (disch := decide) only [apply_ite (blank [.str, .deferred, .cnv, .prot, .irq, .rings, .logFreeze, .rung]), ite_self, convIdle_blank, onCnv_blank, phaseLoop_blank, phaseRefs_blank, softEnd_blank]; done) | (with_reducible refine ite_blank ?_ ?_) | split | (with_reducible refine (foldl_blank _ _ _ (fun _ _ => ?_)).trans ?_) | (dsimp only))
theorem slot5Start_blank {pl : List Part} (w : within [.cnv] pl = true) (s : State) : blank pl (slot5Start s) = blank pl s := by
  refine widen (l := [.cnv]) ?_ w
  simp (disch := decide) only [slot5Start, apply_ite (blank [.cnv]), ite_self, onCnv_blank]
theorem startPhases_blank {pl : List Part} (w : within [.cnv] pl = true) (s : State) : blank pl (startPhases s) = blank pl s := by
  refine widen (l := [.cnv]) ?_ w
  simp (disch := decide) only [startPhases, onCnv_blank]
theorem phasesLow_blank {pl : List Part} (w : within [.str, .pins, .deferred, .idn, .met, .est, .imp, .cnv, .dsp, .bal, .prot, .iso, .host, .ops, .irq, .rings, .rcd, .logFreeze, .can, .rung] pl = true) (s : State) : blank pl (phasesLow s) = blank pl s := by
  refine widen (l := [.str, .pins, .deferred, .idn, .met, .est, .imp, .cnv, .dsp, .bal, .prot, .iso, .host, .ops, .irq, .rings, .rcd, .logFreeze, .can, .rung]) ?_ w
  simp (disch := decide) only [phasesLow, apply_ite (blank [.str, .pins, .deferred, .idn, .met, .est, .imp, .cnv, .dsp, .bal, .prot, .iso, .host, .ops, .irq, .rings, .rcd, .logFreeze, .can, .rung]), ite_self, decideFault_blank, log_blank]
theorem convFrame_blank {pl : List Part} (w : within [.deferred, .cnv, .irq, .rings, .logFreeze, .rung] pl = true) (s0 : State) : blank pl (convFrame s0) = blank pl s0 := by
  refine widen (l := [.deferred, .cnv, .irq, .rings, .logFreeze, .rung]) ?_ w
  simp (disch := decide) only [convFrame, apply_ite (blank [.deferred, .cnv, .irq, .rings, .logFreeze, .rung]), ite_self, log_blank, onCnv_blank, slot5Start_blank, startPhases_blank]
theorem runSlot4_blank {pl : List Part} (w : within [.cnv] pl = true) (s : State) : blank pl (runSlot4 s) = blank pl s := by
  refine widen (l := [.cnv]) ?_ w
  unfold runSlot4
  split <;> simp (disch := decide) only [apply_ite (blank [.cnv]), ite_self, onCnv_blank, onSlot_blank]
theorem runSlot3_blank {pl : List Part} (w : within [.cnv, .dsp] pl = true) (s : State) : blank pl (runSlot3 s) = blank pl s := by
  refine widen (l := [.cnv, .dsp]) ?_ w
  simp (disch := decide) only [runSlot3, onCnv_blank, onDsp_blank, onSlot_blank]
theorem runSlot5_blank {pl : List Part} (w : within [.cnv] pl = true) (s : State) : blank pl (runSlot5 s) = blank pl s := by
  refine widen (l := [.cnv]) ?_ w
  unfold runSlot5
  split <;> simp (disch := decide) only [apply_ite (blank [.cnv]), ite_self, onCnv_blank, onSlot_blank]
theorem execOuterLoops_blank {pl : List Part} (w : within [.cnv, .dsp] pl = true) (s : State) : Frames pl s (execOuterLoops s) := by
  refine widens (l := [.cnv, .dsp]) ?_ w
  unfold execOuterLoops
  repeat' (first | (with_reducible rfl) | (simp (disch := decide) only [frames_next, apply_ite (blank [.cnv, .dsp]), ite_self, runSlot3_blank, runSlot4_blank, runSlot5_blank]; done) | (with_reducible refine ite_blank ?_ ?_) | split | (with_reducible refine (foldl_blank _ _ _ (fun _ _ => ?_)).trans ?_) | (dsimp only))
theorem schedBegin_blank {pl : List Part} (w : within [.deferred, .cnv, .irq, .rings, .logFreeze, .rung] pl = true) (i : Nat) (s : State) : blank pl (schedBegin i s) = blank pl s := by
  refine widen (l := [.deferred, .cnv, .irq, .rings, .logFreeze, .rung]) ?_ w
  unfold schedBegin
  split <;> simp (disch := decide) only [apply_ite (blank [.deferred, .cnv, .irq, .rings, .logFreeze, .rung]), ite_self, log_blank, onCnv_blank]
theorem schedRun_blank {pl : List Part} (w : within [.deferred, .cnv, .irq, .rings, .logFreeze, .rung] pl = true) (s : State) : blank pl (schedRun s) = blank pl s := by
  refine widen (l := [.deferred, .cnv, .irq, .rings, .logFreeze, .rung]) ?_ w
  unfold schedRun
  repeat' (first | (with_reducible rfl) | (simp (disch := decide) only [apply_ite (blank [.deferred, .cnv, .irq, .rings, .logFreeze, .rung]), ite_self, onCnv_blank, schedBegin_blank]; done) | (with_reducible refine ite_blank ?_ ?_) | split | (with_reducible refine (foldl_blank _ _ _ (fun _ _ => ?_)).trans ?_) | (dsimp only))
theorem execSchedCoefWrite_blank {pl : List Part} (w : within [.deferred, .cnv, .irq, .rings, .logFreeze, .rung] pl = true) (s : State) : Frames pl s (execSchedCoefWrite s) := by
  refine widens (l := [.deferred, .cnv, .irq, .rings, .logFreeze, .rung]) ?_ w
  unfold execSchedCoefWrite
  repeat' (first | (with_reducible rfl) | (simp (disch := decide) only [frames_next, apply_ite (blank [.deferred, .cnv, .irq, .rings, .logFreeze, .rung]), ite_self, onCnv_blank, schedBegin_blank]; done) | (with_reducible refine ite_blank ?_ ?_) | split | (with_reducible refine (foldl_blank _ _ _ (fun _ _ => ?_)).trans ?_) | (dsimp only))
theorem dutyTransfer_blank {pl : List Part} (w : within [.tick, .pins, .cnv] pl = true) (s : State) : blank pl (dutyTransfer s) = blank pl s := by
  refine widen (l := [.tick, .pins, .cnv]) ?_ w
  simp (disch := decide) only [dutyTransfer, onCnv_blank, onPins_blank, onTick_blank]
theorem tripPhase_blank {pl : List Part} (w : within [.str, .pins, .deferred, .idn, .met, .est, .imp, .cnv, .dsp, .bal, .prot, .iso, .host, .ops, .irq, .rings, .rcd, .logFreeze, .can, .rung] pl = true) (k : Nat) (s : State) : blank pl (tripPhase k s) = blank pl s := by
  refine widen (l := [.str, .pins, .deferred, .idn, .met, .est, .imp, .cnv, .dsp, .bal, .prot, .iso, .host, .ops, .irq, .rings, .rcd, .logFreeze, .can, .rung]) ?_ w
  simp (disch := decide) only [tripPhase, apply_ite (blank [.str, .pins, .deferred, .idn, .met, .est, .imp, .cnv, .dsp, .bal, .prot, .iso, .host, .ops, .irq, .rings, .rcd, .logFreeze, .can, .rung]), ite_self, decideFault_blank, log_blank, onPhase_blank, onSlot_blank, raiseTw_blank]
theorem otPhase_blank {pl : List Part} (w : within [.deferred, .cnv, .irq, .rings, .logFreeze, .rung] pl = true) (k : Nat) (s : State) : blank pl (otPhase k s) = blank pl s := by
  refine widen (l := [.deferred, .cnv, .irq, .rings, .logFreeze, .rung]) ?_ w
  simp (disch := decide) only [otPhase, apply_ite (blank [.deferred, .cnv, .irq, .rings, .logFreeze, .rung]), ite_self, log_blank, onPhase_blank]
theorem linkLost_blank {pl : List Part} (w : within [.str, .pins, .tb, .deferred, .idn, .met, .est, .imp, .cnv, .dsp, .bal, .thm, .prot, .cont, .iso, .pair, .host, .ops, .irq, .rings, .rcd, .logFreeze, .can, .rung, .upd] pl = true) (n : Nat) (s : State) : blank pl (linkLost n s) = blank pl s := by
  refine widen (l := [.str, .pins, .tb, .deferred, .idn, .met, .est, .imp, .cnv, .dsp, .bal, .thm, .prot, .cont, .iso, .pair, .host, .ops, .irq, .rings, .rcd, .logFreeze, .can, .rung, .upd]) ?_ w
  simp (disch := decide) only [linkLost, apply_ite (blank [.str, .pins, .tb, .deferred, .idn, .met, .est, .imp, .cnv, .dsp, .bal, .thm, .prot, .cont, .iso, .pair, .host, .ops, .irq, .rings, .rcd, .logFreeze, .can, .rung, .upd]), ite_self, giveUp_blank, log_blank, sfDemand_blank, trialFails_blank]
theorem glReturn_blank {pl : List Part} (w : within [.str, .pins, .tb, .deferred, .idn, .met, .est, .imp, .cnv, .dsp, .bal, .thm, .prot, .cont, .iso, .pair, .host, .ops, .irq, .rings, .rcd, .logFreeze, .can, .rung, .upd] pl = true) (n : Nat) (o : Option Bytes) (s : State) : blank pl (glReturn n o s) = blank pl s := by
  refine widen (l := [.str, .pins, .tb, .deferred, .idn, .met, .est, .imp, .cnv, .dsp, .bal, .thm, .prot, .cont, .iso, .pair, .host, .ops, .irq, .rings, .rcd, .logFreeze, .can, .rung, .upd]) ?_ w
  unfold glReturn
  repeat' (first | (with_reducible rfl) | (simp (disch := decide) only [apply_ite (blank [.str, .pins, .tb, .deferred, .idn, .met, .est, .imp, .cnv, .dsp, .bal, .thm, .prot, .cont, .iso, .pair, .host, .ops, .irq, .rings, .rcd, .logFreeze, .can, .rung, .upd]), ite_self, decideFault_blank, irqEvent_blank, linkLost_blank, log_blank, onPhase_blank, onPort_blank]; done) | (with_reducible refine ite_blank ?_ ?_) | split | (with_reducible refine (foldl_blank _ _ _ (fun _ _ => ?_)).trans ?_) | (dsimp only))
theorem readyTrack_blank {pl : List Part} (w : within [.cnv] pl = true) (s : State) : blank pl (readyTrack s) = blank pl s := by
  refine widen (l := [.cnv]) ?_ w
  simp (disch := decide) only [readyTrack, onCnv_blank]
theorem clrDone_blank {pl : List Part} (w : within [.cnv] pl = true) (k : Nat) (s : State) : blank pl (clrDone k s) = blank pl s := by
  refine widen (l := [.cnv]) ?_ w
  simp (disch := decide) only [clrDone, apply_ite (blank [.cnv]), ite_self, onPhase_blank, onSlot_blank]
theorem glReturns_blank {pl : List Part} (w : within [.str, .pins, .tb, .deferred, .idn, .met, .est, .imp, .cnv, .dsp, .bal, .thm, .prot, .cont, .iso, .pair, .host, .ops, .irq, .rings, .rcd, .logFreeze, .can, .rung, .upd] pl = true) (gl : List (Option Bytes)) (s : State) : blank pl (glReturns gl s) = blank pl s := by
  refine widen (l := [.str, .pins, .tb, .deferred, .idn, .met, .est, .imp, .cnv, .dsp, .bal, .thm, .prot, .cont, .iso, .pair, .host, .ops, .irq, .rings, .rcd, .logFreeze, .can, .rung, .upd]) ?_ w
  unfold glReturns
  repeat' (first | (with_reducible rfl) | (simp (disch := decide) only [apply_ite (blank [.str, .pins, .tb, .deferred, .idn, .met, .est, .imp, .cnv, .dsp, .bal, .thm, .prot, .cont, .iso, .pair, .host, .ops, .irq, .rings, .rcd, .logFreeze, .can, .rung, .upd]), ite_self, clrDone_blank, glReturn_blank, otPhase_blank, phasesLow_blank, readyTrack_blank, tripPhase_blank]; done) | (with_reducible refine ite_blank ?_ ?_) | split | (with_reducible refine (foldl_blank _ _ _ (fun _ _ => ?_)).trans ?_) | (dsimp only) | (simp (disch := decide) only [apply_ite (blank [.str, .pins, .tb, .deferred, .idn, .met, .est, .imp, .cnv, .dsp, .bal, .thm, .prot, .cont, .iso, .pair, .host, .ops, .irq, .rings, .rcd, .logFreeze, .can, .rung, .upd]), ite_self, clrDone_blank, glReturn_blank, otPhase_blank, phasesLow_blank, readyTrack_blank, tripPhase_blank]))
theorem execPhaseRampDownComplete_blank {pl : List Part} (w : within [.cnv] pl = true) (phase : Nat) (s : State) : Frames pl s (execPhaseRampDownComplete phase s) := by
  refine widens (l := [.cnv]) ?_ w
  unfold execPhaseRampDownComplete
  repeat' (first | (with_reducible rfl) | (simp (disch := decide) only [frames_next, apply_ite (blank [.cnv]), ite_self, onPhase_blank, onSlot_blank]; done) | (with_reducible refine ite_blank ?_ ?_) | split | (with_reducible refine (foldl_blank _ _ _ (fun _ _ => ?_)).trans ?_) | (dsimp only))
theorem execPhaseReenable_blank {pl : List Part} (w : within [.cnv] pl = true) (phase : Nat) (s : State) : Frames pl s (execPhaseReenable phase s) := by
  refine widens (l := [.cnv]) ?_ w
  unfold execPhaseReenable
  repeat' (first | (with_reducible rfl) | (simp (disch := decide) only [frames_next, apply_ite (blank [.cnv]), ite_self, onPhase_blank, onPort_blank]; done) | (with_reducible refine ite_blank ?_ ?_) | split | (with_reducible refine (foldl_blank _ _ _ (fun _ _ => ?_)).trans ?_) | (dsimp only))
theorem ocDemand_blank {pl : List Part} (w : within [.str, .pins, .deferred, .idn, .met, .est, .imp, .cnv, .dsp, .bal, .prot, .iso, .host, .ops, .irq, .rings, .rcd, .logFreeze, .can, .rung] pl = true) (item : Nat) (value : Int) (limit : Int) (s : State) : blank pl (ocDemand item value limit s) = blank pl s := by
  refine widen (l := [.str, .pins, .deferred, .idn, .met, .est, .imp, .cnv, .dsp, .bal, .prot, .iso, .host, .ops, .irq, .rings, .rcd, .logFreeze, .can, .rung]) ?_ w
  simp (disch := decide) only [ocDemand, apply_ite (blank [.str, .pins, .deferred, .idn, .met, .est, .imp, .cnv, .dsp, .bal, .prot, .iso, .host, .ops, .irq, .rings, .rcd, .logFreeze, .can, .rung]), ite_self, onProt_blank, sfDemand_blank]
theorem execFastComparatorTrip_blank {pl : List Part} (w : within [.str, .pins, .deferred, .idn, .met, .est, .imp, .cnv, .dsp, .bal, .prot, .iso, .host, .ops, .irq, .rings, .rcd, .logFreeze, .can, .rung] pl = true) (cmp : Nat) (s : State) : Frames pl s (execFastComparatorTrip cmp s) := by
  refine widens (l := [.str, .pins, .deferred, .idn, .met, .est, .imp, .cnv, .dsp, .bal, .prot, .iso, .host, .ops, .irq, .rings, .rcd, .logFreeze, .can, .rung]) ?_ w
  unfold execFastComparatorTrip
  split <;> simp (disch := decide) only [frames_next, apply_ite (blank [.str, .pins, .deferred, .idn, .met, .est, .imp, .cnv, .dsp, .bal, .prot, .iso, .host, .ops, .irq, .rings, .rcd, .logFreeze, .can, .rung]), ite_self, irqEvent_blank, log_blank, ocDemand_blank, onCnv_blank, onPins_blank]
theorem ocTickCheck_blank {pl : List Part} (w : within [.str, .pins, .deferred, .idn, .met, .est, .imp, .cnv, .dsp, .bal, .prot, .iso, .host, .ops, .irq, .rings, .rcd, .logFreeze, .can, .rung] pl = true) (s : State) : blank pl (ocTickCheck s) = blank pl s := by
  refine widen (l := [.str, .pins, .deferred, .idn, .met, .est, .imp, .cnv, .dsp, .bal, .prot, .iso, .host, .ops, .irq, .rings, .rcd, .logFreeze, .can, .rung]) ?_ w
  unfold ocTickCheck
  repeat' (first | (with_reducible rfl) | (simp (disch := decide) only [apply_ite (blank [.str, .pins, .deferred, .idn, .met, .est, .imp, .cnv, .dsp, .bal, .prot, .iso, .host, .ops, .irq, .rings, .rcd, .logFreeze, .can, .rung]), ite_self, ocDemand_blank, sfDemand_blank]; done) | (with_reducible refine ite_blank ?_ ?_) | split | (with_reducible refine (foldl_blank _ _ _ (fun _ _ => ?_)).trans ?_) | (dsimp only))
theorem heldTick_blank {pl : List Part} (w : within [.str, .pins, .deferred, .idn, .met, .est, .imp, .cnv, .dsp, .bal, .prot, .iso, .host, .ops, .irq, .rings, .rcd, .logFreeze, .can, .rung] pl = true) (s : State) : blank pl (heldTick s) = blank pl s := by
  refine widen (l := [.str, .pins, .deferred, .idn, .met, .est, .imp, .cnv, .dsp, .bal, .prot, .iso, .host, .ops, .irq, .rings, .rcd, .logFreeze, .can, .rung]) ?_ w
  simp (disch := decide) only [heldTick, apply_ite (blank [.str, .pins, .deferred, .idn, .met, .est, .imp, .cnv, .dsp, .bal, .prot, .iso, .host, .ops, .irq, .rings, .rcd, .logFreeze, .can, .rung]), ite_self, decideFault_blank, log_blank, onIso_blank, onProt_blank]
theorem thetaFrame_blank {pl : List Part} (w : within [.prot] pl = true) (s : State) : blank pl (thetaFrame s) = blank pl s := by
  refine widen (l := [.prot]) ?_ w
  simp (disch := decide) only [thetaFrame, apply_ite (blank [.prot]), ite_self, onProt_blank]
theorem i2tEval_blank {pl : List Part} (w : within [.str, .pins, .deferred, .idn, .met, .est, .imp, .cnv, .dsp, .bal, .prot, .iso, .host, .ops, .irq, .rings, .rcd, .logFreeze, .can, .rung] pl = true) (s : State) : blank pl (i2tEval s) = blank pl s := by
  refine widen (l := [.str, .pins, .deferred, .idn, .met, .est, .imp, .cnv, .dsp, .bal, .prot, .iso, .host, .ops, .irq, .rings, .rcd, .logFreeze, .can, .rung]) ?_ w
  simp (disch := decide) only [i2tEval, apply_ite (blank [.str, .pins, .deferred, .idn, .met, .est, .imp, .cnv, .dsp, .bal, .prot, .iso, .host, .ops, .irq, .rings, .rcd, .logFreeze, .can, .rung]), ite_self, deactivate_blank, demandOver_blank, sfDemand_blank]
theorem voltRuns_blank {pl : List Part} (w : within [.prot] pl = true) (s : State) (b : Bank) : blank pl (voltRuns s b) = blank pl s := by
  refine widen (l := [.prot]) ?_ w
  simp (disch := decide) only [voltRuns, onProt_blank]
theorem voltDemand_blank {pl : List Part} (w : within [.str, .pins, .deferred, .idn, .met, .est, .imp, .cnv, .dsp, .bal, .prot, .iso, .host, .ops, .irq, .rings, .rcd, .logFreeze, .can, .rung] pl = true) (fn : Nat) (hard : List Nat) (soft : List Nat) (held : Bool) (hardLim : Int) (softLim : Int) (b : Bank) (s : State) : blank pl (voltDemand fn hard soft held hardLim softLim b s) = blank pl s := by
  refine widen (l := [.str, .pins, .deferred, .idn, .met, .est, .imp, .cnv, .dsp, .bal, .prot, .iso, .host, .ops, .irq, .rings, .rcd, .logFreeze, .can, .rung]) ?_ w
  unfold voltDemand
  repeat' (first | (with_reducible rfl) | (simp (disch := decide) only [apply_ite (blank [.str, .pins, .deferred, .idn, .met, .est, .imp, .cnv, .dsp, .bal, .prot, .iso, .host, .ops, .irq, .rings, .rcd, .logFreeze, .can, .rung]), ite_self, sfDemand_blank]; done) | (with_reducible refine ite_blank ?_ ?_) | split | (with_reducible refine (foldl_blank _ _ _ (fun _ _ => ?_)).trans ?_) | (dsimp only))
theorem voltEval_blank {pl : List Part} (w : within [.str, .pins, .deferred, .idn, .met, .est, .imp, .cnv, .dsp, .bal, .prot, .iso, .host, .ops, .irq, .rings, .rcd, .logFreeze, .can, .rung] pl = true) (s : State) : blank pl (voltEval s) = blank pl s := by
  refine widen (l := [.str, .pins, .deferred, .idn, .met, .est, .imp, .cnv, .dsp, .bal, .prot, .iso, .host, .ops, .irq, .rings, .rcd, .logFreeze, .can, .rung]) ?_ w
  unfold voltEval
  split <;> simp (disch := decide) only [apply_ite (blank [.str, .pins, .deferred, .idn, .met, .est, .imp, .cnv, .dsp, .bal, .prot, .iso, .host, .ops, .irq, .rings, .rcd, .logFreeze, .can, .rung]), ite_self, onProt_blank, voltDemand_blank, voltRuns_blank]
theorem voltRelease_blank {pl : List Part} (w : within [.str, .prot] pl = true) (s : State) : blank pl (voltRelease s) = blank pl s := by
  refine widen (l := [.str, .prot]) ?_ w
  simp (disch := decide) only [voltRelease, apply_ite (blank [.str, .prot]), ite_self, deactivate_blank, demandOver_blank]
theorem otDemand_blank {pl : List Part} (w : within [.str, .pins, .deferred, .idn, .met, .est, .imp, .cnv, .dsp, .bal, .prot, .iso, .host, .ops, .irq, .rings, .rcd, .logFreeze, .can, .rung] pl = true) (i : Nat) (run : List Nat) (lim : Int) (b : Bank) (s : State) : blank pl (otDemand i run lim b s) = blank pl s := by
  refine widen (l := [.str, .pins, .deferred, .idn, .met, .est, .imp, .cnv, .dsp, .bal, .prot, .iso, .host, .ops, .irq, .rings, .rcd, .logFreeze, .can, .rung]) ?_ w
  unfold otDemand
  split <;> simp (disch := decide) only [apply_ite (blank [.str, .pins, .deferred, .idn, .met, .est, .imp, .cnv, .dsp, .bal, .prot, .iso, .host, .ops, .irq, .rings, .rcd, .logFreeze, .can, .rung]), ite_self, onProt_blank, sfDemand_blank]
theorem tempEval_blank {pl : List Part} (w : within [.str, .pins, .deferred, .idn, .met, .est, .imp, .cnv, .dsp, .bal, .prot, .iso, .host, .ops, .irq, .rings, .rcd, .logFreeze, .can, .rung] pl = true) (s : State) : blank pl (tempEval s) = blank pl s := by
  refine widen (l := [.str, .pins, .deferred, .idn, .met, .est, .imp, .cnv, .dsp, .bal, .prot, .iso, .host, .ops, .irq, .rings, .rcd, .logFreeze, .can, .rung]) ?_ w
  unfold tempEval
  split <;> simp (disch := decide) only [apply_ite (blank [.str, .pins, .deferred, .idn, .met, .est, .imp, .cnv, .dsp, .bal, .prot, .iso, .host, .ops, .irq, .rings, .rcd, .logFreeze, .can, .rung]), ite_self, onProt_blank, otDemand_blank]
theorem tempRelease_blank {pl : List Part} (w : within [.str, .prot] pl = true) (s : State) : blank pl (tempRelease s) = blank pl s := by
  refine widen (l := [.str, .prot]) ?_ w
  simp (disch := decide) only [tempRelease, apply_ite (blank [.str, .prot]), ite_self, deactivate_blank, demandOver_blank, onProt_blank]
theorem takeBanks_blank {pl : List Part} (w : within [.tab] pl = true) (s : State) : blank pl (takeBanks s) = blank pl s := by
  refine widen (l := [.tab]) ?_ w
  simp (disch := decide) only [takeBanks, apply_ite (blank [.tab]), ite_self, onTab_blank]
theorem releaseBanks_blank {pl : List Part} (w : within [.tab] pl = true) (s : State) : blank pl (releaseBanks s) = blank pl s := by
  refine widen (l := [.tab]) ?_ w
  simp (disch := decide) only [releaseBanks, onTab_blank]
theorem execFrameProtectionEvaluation_blank {pl : List Part} (w : within [.str, .pins, .deferred, .idn, .met, .tab, .est, .imp, .cnv, .dsp, .bal, .prot, .iso, .host, .ops, .irq, .rings, .rcd, .logFreeze, .can, .rung] pl = true) (s : State) : Frames pl s (execFrameProtectionEvaluation s) := by
  refine widens (l := [.str, .pins, .deferred, .idn, .met, .tab, .est, .imp, .cnv, .dsp, .bal, .prot, .iso, .host, .ops, .irq, .rings, .rcd, .logFreeze, .can, .rung]) ?_ w
  unfold execFrameProtectionEvaluation
  split <;> simp (disch := decide) only [frames_next, apply_ite (blank [.str, .pins, .deferred, .idn, .met, .tab, .est, .imp, .cnv, .dsp, .bal, .prot, .iso, .host, .ops, .irq, .rings, .rcd, .logFreeze, .can, .rung]), ite_self, i2tEval_blank, onProt_blank, releaseBanks_blank, tempEval_blank, tempRelease_blank, voltEval_blank, voltRelease_blank]
theorem onExt_blank {pl : List Part} (w : within [.prot] pl = true) (n : Nat) (g : ExtInput → ExtInput) (s : State) : blank pl (onExt n g s) = blank pl s := by
  refine widen (l := [.prot]) ?_ w
  simp (disch := decide) only [onExt, onProt_blank]
theorem extTick_blank {pl : List Part} (w : within [.prot] pl = true) (j8 : List Bool) (s : State) : blank pl (extTick j8 s) = blank pl s := by
  refine widen (l := [.prot]) ?_ w
  unfold extTick
  repeat' (first | (with_reducible rfl) | (simp (disch := decide) only [apply_ite (blank [.prot]), ite_self, onExt_blank, onProt_blank]; done) | (with_reducible refine ite_blank ?_ ?_) | split | (with_reducible refine (foldl_blank _ _ _ (fun _ _ => ?_)).trans ?_) | (dsimp only) | (simp (disch := decide) only [apply_ite (blank [.prot]), ite_self, onExt_blank, onProt_blank]))
theorem execSafetyInputDeenergized_blank {pl : List Part} (w : within [.str, .pins, .deferred, .idn, .met, .est, .imp, .cnv, .dsp, .bal, .prot, .iso, .host, .ops, .irq, .rings, .rcd, .logFreeze, .can, .rung] pl = true) (input : Nat) (s : State) : Frames pl s (execSafetyInputDeenergized input s) := by
  refine widens (l := [.str, .pins, .deferred, .idn, .met, .est, .imp, .cnv, .dsp, .bal, .prot, .iso, .host, .ops, .irq, .rings, .rcd, .logFreeze, .can, .rung]) ?_ w
  unfold execSafetyInputDeenergized
  split <;> simp (disch := decide) only [frames_next, apply_ite (blank [.str, .pins, .deferred, .idn, .met, .est, .imp, .cnv, .dsp, .bal, .prot, .iso, .host, .ops, .irq, .rings, .rcd, .logFreeze, .can, .rung]), ite_self, onExt_blank, sfDemand_blank]
theorem extRelease_blank {pl : List Part} (w : within [.str, .prot] pl = true) (s : State) : blank pl (extRelease s) = blank pl s := by
  refine widen (l := [.str, .prot]) ?_ w
  simp (disch := decide) only [extRelease, apply_ite (blank [.str, .prot]), ite_self, deactivate_blank, demandOver_blank]
theorem execSafetyInputRestored_blank {pl : List Part} (w : within [.str, .prot] pl = true) (input : Nat) (s : State) : Frames pl s (execSafetyInputRestored input s) := by
  refine widens (l := [.str, .prot]) ?_ w
  unfold execSafetyInputRestored
  repeat' (first | (with_reducible rfl) | (simp (disch := decide) only [frames_next, apply_ite (blank [.str, .prot]), ite_self, deactivate_blank, extRelease_blank, onExt_blank, onProt_blank]; done) | (with_reducible refine ite_blank ?_ ?_) | split | (with_reducible refine (foldl_blank _ _ _ (fun _ _ => ?_)).trans ?_) | (dsimp only))
theorem execEstopDiscrepancy_blank {pl : List Part} (w : within [.str, .pins, .deferred, .idn, .met, .est, .imp, .cnv, .dsp, .bal, .prot, .iso, .host, .ops, .irq, .rings, .rcd, .logFreeze, .can, .rung] pl = true) (s : State) : Frames pl s (execEstopDiscrepancy s) := by
  refine widens (l := [.str, .pins, .deferred, .idn, .met, .est, .imp, .cnv, .dsp, .bal, .prot, .iso, .host, .ops, .irq, .rings, .rcd, .logFreeze, .can, .rung]) ?_ w
  unfold execEstopDiscrepancy
  repeat' (first | (with_reducible rfl) | (simp (disch := decide) only [frames_next, apply_ite (blank [.str, .pins, .deferred, .idn, .met, .est, .imp, .cnv, .dsp, .bal, .prot, .iso, .host, .ops, .irq, .rings, .rcd, .logFreeze, .can, .rung]), ite_self, log_blank, onProt_blank, sfDemand_blank]; done) | (with_reducible refine ite_blank ?_ ?_) | split | (with_reducible refine (foldl_blank _ _ _ (fun _ _ => ?_)).trans ?_) | (dsimp only))
theorem stopTick_blank {pl : List Part} (w : within [.prot] pl = true) (s : State) : blank pl (stopTick s) = blank pl s := by
  refine widen (l := [.prot]) ?_ w
  simp (disch := decide) only [stopTick, onProt_blank]
theorem breakLoad_blank {pl : List Part} (w : within [.deferred, .cont, .irq, .rings, .logFreeze, .rung] pl = true) (s : State) : blank pl (breakLoad s) = blank pl s := by
  refine widen (l := [.deferred, .cont, .irq, .rings, .logFreeze, .rung]) ?_ w
  simp (disch := decide) only [breakLoad, apply_ite (blank [.deferred, .cont, .irq, .rings, .logFreeze, .rung]), ite_self, log_blank, onCont_blank]
theorem safeStopEnd_blank {pl : List Part} (w : within [.str, .pins, .deferred, .cnv, .thm, .prot, .cont, .pair, .host, .irq, .rings, .rcd, .logFreeze, .lad, .rung] pl = true) (start : Nat) (s : State) : blank pl (safeStopEnd start s) = blank pl s := by
  refine widen (l := [.str, .pins, .deferred, .cnv, .thm, .prot, .cont, .pair, .host, .irq, .rings, .rcd, .logFreeze, .lad, .rung]) ?_ w
  unfold safeStopEnd
  repeat' (first | (with_reducible rfl) | (simp (disch := decide) only [apply_ite (blank [.str, .pins, .deferred, .cnv, .thm, .prot, .cont, .pair, .host, .irq, .rings, .rcd, .logFreeze, .lad, .rung]), ite_self, deactivate_blank, demandOver_blank, enterFreeze_blank, log_blank, onCnv_blank, onPins_blank, onProt_blank, onStr_blank, recoveryStart_blank]; done) | (with_reducible refine ite_blank ?_ ?_) | split | (with_reducible refine (foldl_blank _ _ _ (fun _ _ => ?_)).trans ?_) | (dsimp only))
theorem execSafeStopCoilsOff_blank {pl : List Part} (w : within [.str, .pins, .deferred, .cnv, .thm, .prot, .cont, .pair, .host, .irq, .rings, .rcd, .logFreeze, .lad, .rung] pl = true) (s : State) : Frames pl s (execSafeStopCoilsOff s) := by
  refine widens (l := [.str, .pins, .deferred, .cnv, .thm, .prot, .cont, .pair, .host, .irq, .rings, .rcd, .logFreeze, .lad, .rung]) ?_ w
  unfold execSafeStopCoilsOff
  repeat' (first | (with_reducible rfl) | (simp (disch := decide) only [frames_next, apply_ite (blank [.str, .pins, .deferred, .cnv, .thm, .prot, .cont, .pair, .host, .irq, .rings, .rcd, .logFreeze, .lad, .rung]), ite_self, breakLoad_blank, coilsOff_blank, safeStopEnd_blank]; done) | (with_reducible refine ite_blank ?_ ?_) | split | (with_reducible refine (foldl_blank _ _ _ (fun _ _ => ?_)).trans ?_) | (dsimp only))
theorem refreshSafeOut_blank {pl : List Part} (w : within [.prot] pl = true) (s : State) : blank pl (refreshSafeOut s) = blank pl s := by
  refine widen (l := [.prot]) ?_ w
  simp (disch := decide) only [refreshSafeOut, apply_ite (blank [.prot]), ite_self, onProt_blank, openSafeOut_blank]
theorem twilightTick_blank {pl : List Part} (w : within [.str] pl = true) (s : State) : blank pl (twilightTick s) = blank pl s := by
  refine widen (l := [.str]) ?_ w
  exact ite_blank (onStr_blank (by decide) _ _) rfl
theorem execTwilightExhausted_blank {pl : List Part} (w : within [.str, .deferred, .irq, .rings, .logFreeze, .rung] pl = true) (s : State) : Frames pl s (execTwilightExhausted s) := by
  refine widens (l := [.str, .deferred, .irq, .rings, .logFreeze, .rung]) ?_ w
  unfold execTwilightExhausted
  split <;> simp (disch := decide) only [frames_next, apply_ite (blank [.str, .deferred, .irq, .rings, .logFreeze, .rung]), ite_self, log_blank, onStr_blank]
theorem execTwilightBudgetReset_blank {pl : List Part} (w : within [.str] pl = true) (s : State) : Frames pl s (execTwilightBudgetReset s) := by
  refine widens (l := [.str]) ?_ w
  unfold execTwilightBudgetReset
  repeat' (first | (with_reducible rfl) | (simp (disch := decide) only [frames_next, apply_ite (blank [.str]), ite_self, onStr_blank]; done) | (with_reducible refine ite_blank ?_ ?_) | split | (with_reducible refine (foldl_blank _ _ _ (fun _ _ => ?_)).trans ?_) | (dsimp only))
theorem onTest_blank {pl : List Part} (w : within [.prot] pl = true) (i : Nat) (g : TestOut → TestOut) (s : State) : blank pl (onTest i g s) = blank pl s := by
  refine widen (l := [.prot]) ?_ w
  simp (disch := decide) only [onTest, onProt_blank]
theorem execTestPulseStart_blank {pl : List Part} (w : within [.prot] pl = true) (k : Nat) (s : State) : Frames pl s (execTestPulseStart k s) := by
  refine widens (l := [.prot]) ?_ w
  unfold execTestPulseStart
  repeat' (first | (with_reducible rfl) | (simp (disch := decide) only [frames_next, apply_ite (blank [.prot]), ite_self, onProt_blank, onTest_blank]; done) | (with_reducible refine ite_blank ?_ ?_) | split | (with_reducible refine (foldl_blank _ _ _ (fun _ _ => ?_)).trans ?_) | (dsimp only))
theorem diagFail_blank {pl : List Part} (w : within [.str, .deferred, .prot, .irq, .rings, .logFreeze, .rung] pl = true) (i : Nat) (s : State) : blank pl (diagFail i s) = blank pl s := by
  refine widen (l := [.str, .deferred, .prot, .irq, .rings, .logFreeze, .rung]) ?_ w
  simp (disch := decide) only [diagFail, onProt_blank, raiseTw_blank]
theorem pulsePass_blank {pl : List Part} (w : within [.str, .deferred, .prot, .irq, .rings, .logFreeze, .rung] pl = true) (k : Nat) (s : State) : blank pl (pulsePass k s) = blank pl s := by
  refine widen (l := [.str, .deferred, .prot, .irq, .rings, .logFreeze, .rung]) ?_ w
  simp (disch := decide) only [pulsePass, apply_ite (blank [.str, .deferred, .prot, .irq, .rings, .logFreeze, .rung]), ite_self, clearTw_blank, onTest_blank]
theorem execTestPulseEnd_blank {pl : List Part} (w : within [.str, .pins, .deferred, .idn, .met, .est, .imp, .cnv, .dsp, .bal, .prot, .iso, .host, .ops, .irq, .rings, .rcd, .logFreeze, .can, .rung] pl = true) (showedOff : Bool) (cameOn : Bool) (s : State) : Frames pl s (execTestPulseEnd showedOff cameOn s) := by
  refine widens (l := [.str, .pins, .deferred, .idn, .met, .est, .imp, .cnv, .dsp, .bal, .prot, .iso, .host, .ops, .irq, .rings, .rcd, .logFreeze, .can, .rung]) ?_ w
  unfold execTestPulseEnd
  repeat' (first | (with_reducible rfl) | (simp (disch := decide) only [frames_next, apply_ite (blank [.str, .pins, .deferred, .idn, .met, .est, .imp, .cnv, .dsp, .bal, .prot, .iso, .host, .ops, .irq, .rings, .rcd, .logFreeze, .can, .rung]), ite_self, decideFault_blank, diagFail_blank, log_blank, onProt_blank, pulsePass_blank]; done) | (with_reducible refine ite_blank ?_ ?_) | split | (with_reducible refine (foldl_blank _ _ _ (fun _ _ => ?_)).trans ?_) | (dsimp only))
theorem intervalEnd_blank {pl : List Part} (w : within [.str, .deferred, .prot, .irq, .rings, .logFreeze, .rung] pl = true) (i : Nat) (s : State) : blank pl (intervalEnd i s) = blank pl s := by
  refine widen (l := [.str, .deferred, .prot, .irq, .rings, .logFreeze, .rung]) ?_ w
  simp (disch := decide) only [intervalEnd, apply_ite (blank [.str, .deferred, .prot, .irq, .rings, .logFreeze, .rung]), ite_self, log_blank, onTest_blank, raiseTw_blank]
theorem execTestIntervalEnd_blank {pl : List Part} (w : within [.str, .deferred, .prot, .irq, .rings, .logFreeze, .rung] pl = true) (s : State) : Frames pl s (execTestIntervalEnd s) := by
  refine widens (l := [.str, .deferred, .prot, .irq, .rings, .logFreeze, .rung]) ?_ w
  unfold execTestIntervalEnd
  repeat' (first | (with_reducible rfl) | (simp (disch := decide) only [frames_next, apply_ite (blank [.str, .deferred, .prot, .irq, .rings, .logFreeze, .rung]), ite_self, intervalEnd_blank, onProt_blank]; done) | (with_reducible refine ite_blank ?_ ?_) | split | (with_reducible refine (foldl_blank _ _ _ (fun _ _ => ?_)).trans ?_) | (dsimp only) | (simp (disch := decide) only [frames_next, apply_ite (blank [.str, .deferred, .prot, .irq, .rings, .logFreeze, .rung]), ite_self, intervalEnd_blank, onProt_blank]))
theorem execInputTest_blank {pl : List Part} (w : within [.str, .deferred, .prot, .irq, .rings, .logFreeze, .rung] pl = true) (passed : List Bool) (s : State) : Frames pl s (execInputTest passed s) := by
  refine widens (l := [.str, .deferred, .prot, .irq, .rings, .logFreeze, .rung]) ?_ w
  unfold execInputTest
  repeat' (first | (with_reducible rfl) | (simp (disch := decide) only [frames_next, apply_ite (blank [.str, .deferred, .prot, .irq, .rings, .logFreeze, .rung]), ite_self, diagFail_blank, log_blank]; done) | (with_reducible refine ite_blank ?_ ?_) | split | (with_reducible refine (foldl_blank _ _ _ (fun _ _ => ?_)).trans ?_) | (dsimp only) | (simp (disch := decide) only [frames_next, apply_ite (blank [.str, .deferred, .prot, .irq, .rings, .logFreeze, .rung]), ite_self, diagFail_blank, log_blank]))
theorem execCmpTest_blank {pl : List Part} (w : within [.str, .deferred, .prot, .irq, .rings, .logFreeze, .rung] pl = true) (cmp : Nat) (passed : Bool) (s : State) : Frames pl s (execCmpTest cmp passed s) := by
  refine widens (l := [.str, .deferred, .prot, .irq, .rings, .logFreeze, .rung]) ?_ w
  unfold execCmpTest
  repeat' (first | (with_reducible rfl) | (simp (disch := decide) only [frames_next, apply_ite (blank [.str, .deferred, .prot, .irq, .rings, .logFreeze, .rung]), ite_self, log_blank, onProt_blank, raiseTw_blank]; done) | (with_reducible refine ite_blank ?_ ?_) | split | (with_reducible refine (foldl_blank _ _ _ (fun _ _ => ?_)).trans ?_) | (dsimp only))
theorem execCodeCrcCheck_blank {pl : List Part} (w : within [.str, .pins, .tb, .deferred, .idn, .met, .est, .imp, .cnv, .dsp, .bal, .thm, .prot, .cont, .iso, .pair, .host, .ops, .irq, .rings, .rcd, .logFreeze, .can, .rung, .upd] pl = true) (ok : Bool) (s : State) : Frames pl s (execCodeCrcCheck ok s) := by
  refine widens (l := [.str, .pins, .tb, .deferred, .idn, .met, .est, .imp, .cnv, .dsp, .bal, .thm, .prot, .cont, .iso, .pair, .host, .ops, .irq, .rings, .rcd, .logFreeze, .can, .rung, .upd]) ?_ w
  unfold execCodeCrcCheck
  split <;> simp (disch := decide) only [frames_next, apply_ite (blank [.str, .pins, .tb, .deferred, .idn, .met, .est, .imp, .cnv, .dsp, .bal, .thm, .prot, .cont, .iso, .pair, .host, .ops, .irq, .rings, .rcd, .logFreeze, .can, .rung, .upd]), ite_self, moduleFault_blank]
theorem execWatchdogExpiry_blank {pl : List Part} (w : within [.tick, .str, .pins, .pwr, .tb, .dawn, .deferred, .idn, .cfg, .met, .skl, .tab, .est, .jrn, .imp, .cnv, .dsp, .bal, .thm, .prot, .cont, .iso, .pair, .host, .ops, .irq, .rings, .rcd, .logFreeze, .can, .hlth, .lad, .rung, .upd, .jtag, .out, .fresh] pl = true) (s : State) : Frames pl s (execWatchdogExpiry s) := by
  refine widens (l := [.tick, .str, .pins, .pwr, .tb, .dawn, .deferred, .idn, .cfg, .met, .skl, .tab, .est, .jrn, .imp, .cnv, .dsp, .bal, .thm, .prot, .cont, .iso, .pair, .host, .ops, .irq, .rings, .rcd, .logFreeze, .can, .hlth, .lad, .rung, .upd, .jtag, .out, .fresh]) ?_ w
  unfold execWatchdogExpiry
  split <;> simp (disch := decide) only [frames_next, apply_ite (blank [.tick, .str, .pins, .pwr, .tb, .dawn, .deferred, .idn, .cfg, .met, .skl, .tab, .est, .jrn, .imp, .cnv, .dsp, .bal, .thm, .prot, .cont, .iso, .pair, .host, .ops, .irq, .rings, .rcd, .logFreeze, .can, .hlth, .lad, .rung, .upd, .jtag, .out, .fresh]), ite_self, newDawn_blank, outputsOff_blank]
theorem execLockstepMismatch_blank {pl : List Part} (w : within [.tick, .str, .pins, .pwr, .tb, .dawn, .deferred, .idn, .cfg, .met, .skl, .tab, .est, .jrn, .imp, .cnv, .dsp, .bal, .thm, .prot, .cont, .iso, .pair, .host, .ops, .irq, .rings, .rcd, .logFreeze, .can, .hlth, .lad, .rung, .upd, .jtag, .out, .fresh] pl = true) (s : State) : Frames pl s (execLockstepMismatch s) := by
  refine widens (l := [.tick, .str, .pins, .pwr, .tb, .dawn, .deferred, .idn, .cfg, .met, .skl, .tab, .est, .jrn, .imp, .cnv, .dsp, .bal, .thm, .prot, .cont, .iso, .pair, .host, .ops, .irq, .rings, .rcd, .logFreeze, .can, .hlth, .lad, .rung, .upd, .jtag, .out, .fresh]) ?_ w
  unfold execLockstepMismatch
  split <;> simp (disch := decide) only [frames_next, apply_ite (blank [.tick, .str, .pins, .pwr, .tb, .dawn, .deferred, .idn, .cfg, .met, .skl, .tab, .est, .jrn, .imp, .cnv, .dsp, .bal, .thm, .prot, .cont, .iso, .pair, .host, .ops, .irq, .rings, .rcd, .logFreeze, .can, .hlth, .lad, .rung, .upd, .jtag, .out, .fresh]), ite_self, newDawn_blank, outputsOff_blank]
theorem contFail_blank {pl : List Part} (w : within [.str, .pins, .deferred, .idn, .met, .est, .imp, .cnv, .dsp, .bal, .prot, .cont, .iso, .host, .ops, .irq, .rings, .rcd, .logFreeze, .can, .rung] pl = true) (code : Nat) (k : Nat) (cls : Nat) (trip : Bool) (data : Bytes) (value : Int) (limit : Option Int) (s : State) : blank pl (contFail code k cls trip data value limit s) = blank pl s := by
  refine widen (l := [.str, .pins, .deferred, .idn, .met, .est, .imp, .cnv, .dsp, .bal, .prot, .cont, .iso, .host, .ops, .irq, .rings, .rcd, .logFreeze, .can, .rung]) ?_ w
  simp (disch := decide) only [contFail, log_blank, onContactor_blank, sfDemand_blank]
theorem preTo_blank {pl : List Part} (w : within [.cont] pl = true) (p : PreStep) (s : State) : blank pl (preTo p s) = blank pl s := by
  refine widen (l := [.cont]) ?_ w
  simp (disch := decide) only [preTo, onCont_blank]
theorem injectNow_blank {pl : List Part} (w : within [.iso] pl = true) (s : State) : blank pl (injectNow s) = blank pl s := by
  refine widen (l := [.iso]) ?_ w
  simp (disch := decide) only [injectNow, onIso_blank]
theorem auxTake_blank {pl : List Part} (w : within [.cont] pl = true) (k : Nat) (closed : Bool) (s : State) : blank pl (auxTake k closed s) = blank pl s := by
  refine widen (l := [.cont]) ?_ w
  simp (disch := decide) only [auxTake, onCont_blank, onContactor_blank]
theorem auxClosed_blank {pl : List Part} (w : within [.str, .cont] pl = true) (k : Nat) (s : State) : blank pl (auxClosed k s) = blank pl s := by
  refine widen (l := [.str, .cont]) ?_ w
  unfold auxClosed
  split <;> simp (disch := decide) only [apply_ite (blank [.str, .cont]), ite_self, onStr_blank, preTo_blank]
theorem auxOpened_blank {pl : List Part} (w : within [.str, .prot, .cont] pl = true) (k : Nat) (s : State) : blank pl (auxOpened k s) = blank pl s := by
  refine widen (l := [.str, .prot, .cont]) ?_ w
  simp (disch := decide) only [auxOpened, apply_ite (blank [.str, .prot, .cont]), ite_self, coilOff_blank, deactivate_blank, onCont_blank, onStr_blank]
theorem execAuxContactChange_blank {pl : List Part} (w : within [.str, .pins, .deferred, .idn, .met, .est, .imp, .cnv, .dsp, .bal, .prot, .cont, .iso, .host, .ops, .irq, .rings, .rcd, .logFreeze, .can, .rung] pl = true) (k : Nat) (closed : Bool) (s : State) : Frames pl s (execAuxContactChange k closed s) := by
  refine widens (l := [.str, .pins, .deferred, .idn, .met, .est, .imp, .cnv, .dsp, .bal, .prot, .cont, .iso, .host, .ops, .irq, .rings, .rcd, .logFreeze, .can, .rung]) ?_ w
  unfold execAuxContactChange
  repeat' (first | (with_reducible rfl) | (simp (disch := decide) only [frames_next, apply_ite (blank [.str, .pins, .deferred, .idn, .met, .est, .imp, .cnv, .dsp, .bal, .prot, .cont, .iso, .host, .ops, .irq, .rings, .rcd, .logFreeze, .can, .rung]), ite_self, auxClosed_blank, auxOpened_blank, auxTake_blank, contFail_blank, injectNow_blank]; done) | (with_reducible refine ite_blank ?_ ?_) | split | (with_reducible refine (foldl_blank _ _ _ (fun _ _ => ?_)).trans ?_) | (dsimp only))
theorem execContCloseTimeout_blank {pl : List Part} (w : within [.str, .pins, .deferred, .idn, .met, .est, .imp, .cnv, .dsp, .bal, .prot, .cont, .iso, .host, .ops, .irq, .rings, .rcd, .logFreeze, .can, .rung] pl = true) (k : Nat) (s : State) : Frames pl s (execContCloseTimeout k s) := by
  refine widens (l := [.str, .pins, .deferred, .idn, .met, .est, .imp, .cnv, .dsp, .bal, .prot, .cont, .iso, .host, .ops, .irq, .rings, .rcd, .logFreeze, .can, .rung]) ?_ w
  unfold execContCloseTimeout
  repeat' (first | (with_reducible rfl) | (simp (disch := decide) only [frames_next, apply_ite (blank [.str, .pins, .deferred, .idn, .met, .est, .imp, .cnv, .dsp, .bal, .prot, .cont, .iso, .host, .ops, .irq, .rings, .rcd, .logFreeze, .can, .rung]), ite_self, contFail_blank]; done) | (with_reducible refine ite_blank ?_ ?_) | split | (with_reducible refine (foldl_blank _ _ _ (fun _ _ => ?_)).trans ?_) | (dsimp only))
theorem execContOpenTimeout_blank {pl : List Part} (w : within [.str, .pins, .deferred, .idn, .met, .est, .imp, .cnv, .dsp, .bal, .prot, .cont, .iso, .host, .ops, .irq, .rings, .rcd, .logFreeze, .can, .rung] pl = true) (k : Nat) (s : State) : Frames pl s (execContOpenTimeout k s) := by
  refine widens (l := [.str, .pins, .deferred, .idn, .met, .est, .imp, .cnv, .dsp, .bal, .prot, .cont, .iso, .host, .ops, .irq, .rings, .rcd, .logFreeze, .can, .rung]) ?_ w
  unfold execContOpenTimeout
  repeat' (first | (with_reducible rfl) | (simp (disch := decide) only [frames_next, apply_ite (blank [.str, .pins, .deferred, .idn, .met, .est, .imp, .cnv, .dsp, .bal, .prot, .cont, .iso, .host, .ops, .irq, .rings, .rcd, .logFreeze, .can, .rung]), ite_self, contFail_blank]; done) | (with_reducible refine ite_blank ?_ ?_) | split | (with_reducible refine (foldl_blank _ _ _ (fun _ _ => ?_)).trans ?_) | (dsimp only))
theorem execContDropped_blank {pl : List Part} (w : within [.str, .pins, .deferred, .idn, .met, .est, .imp, .cnv, .dsp, .bal, .prot, .cont, .iso, .host, .ops, .irq, .rings, .rcd, .logFreeze, .can, .rung] pl = true) (k : Nat) (s : State) : Frames pl s (execContDropped k s) := by
  refine widens (l := [.str, .pins, .deferred, .idn, .met, .est, .imp, .cnv, .dsp, .bal, .prot, .cont, .iso, .host, .ops, .irq, .rings, .rcd, .logFreeze, .can, .rung]) ?_ w
  unfold execContDropped
  repeat' (first | (with_reducible rfl) | (simp (disch := decide) only [frames_next, apply_ite (blank [.str, .pins, .deferred, .idn, .met, .est, .imp, .cnv, .dsp, .bal, .prot, .cont, .iso, .host, .ops, .irq, .rings, .rcd, .logFreeze, .can, .rung]), ite_self, contFail_blank]; done) | (with_reducible refine ite_blank ?_ ?_) | split | (with_reducible refine (foldl_blank _ _ _ (fun _ _ => ?_)).trans ?_) | (dsimp only))
theorem execCoilPullInEnd_blank {pl : List Part} (w : within [.cont] pl = true) (k : Nat) (s : State) : Frames pl s (execCoilPullInEnd k s) := by
  refine widens (l := [.cont]) ?_ w
  unfold execCoilPullInEnd
  repeat' (first | (with_reducible rfl) | (simp (disch := decide) only [frames_next, apply_ite (blank [.cont]), ite_self, onContactor_blank]; done) | (with_reducible refine ite_blank ?_ ?_) | split | (with_reducible refine (foldl_blank _ _ _ (fun _ _ => ?_)).trans ?_) | (dsimp only))
theorem execCoilCurrentFault_blank {pl : List Part} (w : within [.str, .pins, .deferred, .idn, .met, .est, .imp, .cnv, .dsp, .bal, .prot, .cont, .iso, .host, .ops, .irq, .rings, .rcd, .logFreeze, .can, .rung] pl = true) (k : Nat) (_ma : Int) (s : State) : Frames pl s (execCoilCurrentFault k _ma s) := by
  refine widens (l := [.str, .pins, .deferred, .idn, .met, .est, .imp, .cnv, .dsp, .bal, .prot, .cont, .iso, .host, .ops, .irq, .rings, .rcd, .logFreeze, .can, .rung]) ?_ w
  unfold execCoilCurrentFault
  repeat' (first | (with_reducible rfl) | (simp (disch := decide) only [frames_next, apply_ite (blank [.str, .pins, .deferred, .idn, .met, .est, .imp, .cnv, .dsp, .bal, .prot, .cont, .iso, .host, .ops, .irq, .rings, .rcd, .logFreeze, .can, .rung]), ite_self, contFail_blank]; done) | (with_reducible refine ite_blank ?_ ?_) | split | (with_reducible refine (foldl_blank _ _ _ (fun _ _ => ?_)).trans ?_) | (dsimp only))
theorem execPrechargeHoldEnd_blank {pl : List Part} (w : within [.str, .pins, .deferred, .idn, .met, .est, .imp, .cnv, .dsp, .bal, .prot, .cont, .iso, .host, .ops, .irq, .rings, .rcd, .logFreeze, .can, .rung] pl = true) (s : State) : Frames pl s (execPrechargeHoldEnd s) := by
  refine widens (l := [.str, .pins, .deferred, .idn, .met, .est, .imp, .cnv, .dsp, .bal, .prot, .cont, .iso, .host, .ops, .irq, .rings, .rcd, .logFreeze, .can, .rung]) ?_ w
  unfold execPrechargeHoldEnd
  repeat' (first | (with_reducible rfl) | (simp (disch := decide) only [frames_next, apply_ite (blank [.str, .pins, .deferred, .idn, .met, .est, .imp, .cnv, .dsp, .bal, .prot, .cont, .iso, .host, .ops, .irq, .rings, .rcd, .logFreeze, .can, .rung]), ite_self, coilOn_blank, contFail_blank, preTo_blank]; done) | (with_reducible refine ite_blank ?_ ?_) | split | (with_reducible refine (foldl_blank _ _ _ (fun _ _ => ?_)).trans ?_) | (dsimp only))
theorem vSumFrame_blank {pl : List Part} (w : within [.cont] pl = true) (s : State) : blank pl (vSumFrame s) = blank pl s := by
  refine widen (l := [.cont]) ?_ w
  unfold vSumFrame
  split <;> simp (disch := decide) only [apply_ite (blank [.cont]), ite_self, onCont_blank]
theorem preFrame_blank {pl : List Part} (w : within [.str, .pins, .deferred, .idn, .met, .est, .imp, .cnv, .dsp, .bal, .prot, .cont, .iso, .host, .ops, .irq, .rings, .rcd, .logFreeze, .can, .rung] pl = true) (s : State) : blank pl (preFrame s) = blank pl s := by
  refine widen (l := [.str, .pins, .deferred, .idn, .met, .est, .imp, .cnv, .dsp, .bal, .prot, .cont, .iso, .host, .ops, .irq, .rings, .rcd, .logFreeze, .can, .rung]) ?_ w
  simp (disch := decide) only [preFrame, apply_ite (blank [.str, .pins, .deferred, .idn, .met, .est, .imp, .cnv, .dsp, .bal, .prot, .cont, .iso, .host, .ops, .irq, .rings, .rcd, .logFreeze, .can, .rung]), ite_self, coilOn_blank, contFail_blank, onCont_blank, preTo_blank, vSumFrame_blank]
theorem execPrechargeTimeout_blank {pl : List Part} (w : within [.str] pl = true) (s : State) : Frames pl s (execPrechargeTimeout s) := by
  refine widens (l := [.str]) ?_ w
  unfold execPrechargeTimeout
  split <;> simp (disch := decide) only [frames_next, apply_ite (blank [.str]), ite_self, onStr_blank]
theorem zeroFrame_blank {pl : List Part} (w : within [.cont] pl = true) (s : State) : blank pl (zeroFrame s) = blank pl s := by
  refine widen (l := [.cont]) ?_ w
  simp (disch := decide) only [zeroFrame, onCont_blank]
theorem execStoppingZeroCurrent_blank {pl : List Part} (w : within [.str, .prot, .cont] pl = true) (s : State) : Frames pl s (execStoppingZeroCurrent s) := by
  refine widens (l := [.str, .prot, .cont]) ?_ w
  unfold execStoppingZeroCurrent
  repeat' (first | (with_reducible rfl) | (simp (disch := decide) only [frames_next, apply_ite (blank [.str, .prot, .cont]), ite_self, coilOff_blank, onCont_blank, onStr_blank]; done) | (with_reducible refine ite_blank ?_ ?_) | split | (with_reducible refine (foldl_blank _ _ _ (fun _ _ => ?_)).trans ?_) | (dsimp only))
theorem execStopTimeout_blank {pl : List Part} (w : within [.str, .pins, .deferred, .idn, .met, .est, .imp, .cnv, .dsp, .bal, .prot, .iso, .host, .ops, .irq, .rings, .rcd, .logFreeze, .can, .rung] pl = true) (s : State) : Frames pl s (execStopTimeout s) := by
  refine widens (l := [.str, .pins, .deferred, .idn, .met, .est, .imp, .cnv, .dsp, .bal, .prot, .iso, .host, .ops, .irq, .rings, .rcd, .logFreeze, .can, .rung]) ?_ w
  unfold execStopTimeout
  split <;> simp (disch := decide) only [frames_next, apply_ite (blank [.str, .pins, .deferred, .idn, .met, .est, .imp, .cnv, .dsp, .bal, .prot, .iso, .host, .ops, .irq, .rings, .rcd, .logFreeze, .can, .rung]), ite_self, deactivate_blank, decideFault_blank, log_blank]
theorem coilTick_blank {pl : List Part} (w : within [.cont] pl = true) (coil : List Nat) (hs : List Bool) (s : State) : blank pl (coilTick coil hs s) = blank pl s := by
  refine widen (l := [.cont]) ?_ w
  unfold coilTick
  repeat' (first | (with_reducible rfl) | (simp (disch := decide) only [apply_ite (blank [.cont]), ite_self, onContactor_blank]; done) | (with_reducible refine ite_blank ?_ ?_) | split | (with_reducible refine (foldl_blank _ _ _ (fun _ _ => ?_)).trans ?_) | (dsimp only))
theorem coilFrame_blank {pl : List Part} (w : within [.str, .deferred, .prot, .cont, .irq, .rings, .logFreeze, .rung] pl = true) (k : Nat) (s : State) : blank pl (coilFrame k s) = blank pl s := by
  refine widen (l := [.str, .deferred, .prot, .cont, .irq, .rings, .logFreeze, .rung]) ?_ w
  simp (disch := decide) only [coilFrame, apply_ite (blank [.str, .deferred, .prot, .cont, .irq, .rings, .logFreeze, .rung]), ite_self, diagFail_blank, log_blank, onContactor_blank]
theorem standbyAux_blank {pl : List Part} (w : within [.str, .pins, .deferred, .idn, .met, .est, .imp, .cnv, .dsp, .bal, .prot, .cont, .iso, .host, .ops, .irq, .rings, .rcd, .logFreeze, .can, .rung] pl = true) (k : Nat) (s : State) : blank pl (standbyAux k s) = blank pl s := by
  refine widen (l := [.str, .pins, .deferred, .idn, .met, .est, .imp, .cnv, .dsp, .bal, .prot, .cont, .iso, .host, .ops, .irq, .rings, .rcd, .logFreeze, .can, .rung]) ?_ w
  simp (disch := decide) only [standbyAux, apply_ite (blank [.str, .pins, .deferred, .idn, .met, .est, .imp, .cnv, .dsp, .bal, .prot, .cont, .iso, .host, .ops, .irq, .rings, .rcd, .logFreeze, .can, .rung]), ite_self, contFail_blank]
theorem isoDemand_blank {pl : List Part} (w : within [.str, .pins, .deferred, .idn, .met, .est, .imp, .cnv, .dsp, .bal, .prot, .iso, .host, .ops, .irq, .rings, .rcd, .logFreeze, .can, .rung] pl = true) (item : Nat) (r : Nat) (s : State) : blank pl (isoDemand item r s) = blank pl s := by
  refine widen (l := [.str, .pins, .deferred, .idn, .met, .est, .imp, .cnv, .dsp, .bal, .prot, .iso, .host, .ops, .irq, .rings, .rcd, .logFreeze, .can, .rung]) ?_ w
  simp (disch := decide) only [isoDemand, apply_ite (blank [.str, .pins, .deferred, .idn, .met, .est, .imp, .cnv, .dsp, .bal, .prot, .iso, .host, .ops, .irq, .rings, .rcd, .logFreeze, .can, .rung]), ite_self, demandRecord_blank, log_blank, onIso_blank, openImd_blank, sfDemand_blank]
theorem isoRestore_blank {pl : List Part} (w : within [.str, .deferred, .prot, .iso, .irq, .rings, .logFreeze, .rung] pl = true) (s : State) : blank pl (isoRestore s) = blank pl s := by
  refine widen (l := [.str, .deferred, .prot, .iso, .irq, .rings, .logFreeze, .rung]) ?_ w
  simp (disch := decide) only [isoRestore, deactivate_blank, demandOver_blank, log_blank, onIso_blank]
theorem imdUpdate_blank {pl : List Part} (w : within [.prot] pl = true) (s : State) : blank pl (imdUpdate s) = blank pl s := by
  refine widen (l := [.prot]) ?_ w
  simp (disch := decide) only [imdUpdate, apply_ite (blank [.prot]), ite_self, onProt_blank]
theorem isoResult_blank {pl : List Part} (w : within [.str, .pins, .deferred, .idn, .met, .est, .imp, .cnv, .dsp, .bal, .prot, .iso, .host, .ops, .irq, .rings, .rcd, .logFreeze, .can, .rung] pl = true) (r : Option Rat) (cap : Nat) (s : State) : blank pl (isoResult r cap s) = blank pl s := by
  refine widen (l := [.str, .pins, .deferred, .idn, .met, .est, .imp, .cnv, .dsp, .bal, .prot, .iso, .host, .ops, .irq, .rings, .rcd, .logFreeze, .can, .rung]) ?_ w
  simp (disch := decide) only [isoResult, apply_ite (blank [.str, .pins, .deferred, .idn, .met, .est, .imp, .cnv, .dsp, .bal, .prot, .iso, .host, .ops, .irq, .rings, .rcd, .logFreeze, .can, .rung]), ite_self, clearTw_blank, imdUpdate_blank, isoDemand_blank, isoRestore_blank, log_blank, onIso_blank]
theorem isoInvalidate_blank {pl : List Part} (w : within [.str, .deferred, .prot, .iso, .irq, .rings, .logFreeze, .rung] pl = true) (cause : Nat) (s : State) : blank pl (isoInvalidate cause s) = blank pl s := by
  refine widen (l := [.str, .deferred, .prot, .iso, .irq, .rings, .logFreeze, .rung]) ?_ w
  simp (disch := decide) only [isoInvalidate, apply_ite (blank [.str, .deferred, .prot, .iso, .irq, .rings, .logFreeze, .rung]), ite_self, log_blank, onIso_blank, openImd_blank, raiseTw_blank]
theorem isoTestBegin_blank {pl : List Part} (w : within [.iso] pl = true) (s : State) : blank pl (isoTestBegin s) = blank pl s := by
  refine widen (l := [.iso]) ?_ w
  simp (disch := decide) only [isoTestBegin, onIso_blank]
theorem isoTestHalf_blank {pl : List Part} (w : within [.deferred, .iso, .ops, .irq, .rings, .logFreeze, .rung] pl = true) (r : Option Rat) (have_ : Bool) (s : State) : blank pl (isoTestHalf r have_ s) = blank pl s := by
  refine widen (l := [.deferred, .iso, .ops, .irq, .rings, .logFreeze, .rung]) ?_ w
  unfold isoTestHalf
  split <;> simp (disch := decide) only [apply_ite (blank [.deferred, .iso, .ops, .irq, .rings, .logFreeze, .rung]), ite_self, endOp_blank, log_blank, onIso_blank]
theorem isoGather_blank {pl : List Part} (w : within [.iso] pl = true) (s : State) : blank pl (isoGather s) = blank pl s := by
  refine widen (l := [.iso]) ?_ w
  simp (disch := decide) only [isoGather, onIso_blank]
theorem execIsoHalfPeriodEnd_blank {pl : List Part} (w : within [.str, .pins, .deferred, .idn, .met, .est, .imp, .cnv, .dsp, .bal, .prot, .iso, .host, .ops, .irq, .rings, .rcd, .logFreeze, .can, .rung] pl = true) (_ds5 : Int) (inj : Int) (injOk : Bool) (s : State) : Frames pl s (execIsoHalfPeriodEnd _ds5 inj injOk s) := by
  refine widens (l := [.str, .pins, .deferred, .idn, .met, .est, .imp, .cnv, .dsp, .bal, .prot, .iso, .host, .ops, .irq, .rings, .rcd, .logFreeze, .can, .rung]) ?_ w
  unfold execIsoHalfPeriodEnd
  repeat' (first | (with_reducible rfl) | (simp (disch := decide) only [frames_next, apply_ite (blank [.str, .pins, .deferred, .idn, .met, .est, .imp, .cnv, .dsp, .bal, .prot, .iso, .host, .ops, .irq, .rings, .rcd, .logFreeze, .can, .rung]), ite_self, isoInvalidate_blank, isoResult_blank, isoTestHalf_blank, onIso_blank]; done) | (with_reducible refine ite_blank ?_ ?_) | split | (with_reducible refine (foldl_blank _ _ _ (fun _ _ => ?_)).trans ?_) | (dsimp only))
theorem passiveJudge_blank {pl : List Part} (w : within [.str, .pins, .deferred, .idn, .met, .est, .imp, .cnv, .dsp, .bal, .prot, .iso, .host, .ops, .irq, .rings, .rcd, .logFreeze, .can, .rung] pl = true) (pos : Bool) (est : Rat) (s : State) : blank pl (passiveJudge pos est s) = blank pl s := by
  refine widen (l := [.str, .pins, .deferred, .idn, .met, .est, .imp, .cnv, .dsp, .bal, .prot, .iso, .host, .ops, .irq, .rings, .rcd, .logFreeze, .can, .rung]) ?_ w
  simp (disch := decide) only [passiveJudge, apply_ite (blank [.str, .pins, .deferred, .idn, .met, .est, .imp, .cnv, .dsp, .bal, .prot, .iso, .host, .ops, .irq, .rings, .rcd, .logFreeze, .can, .rung]), ite_self, isoDemand_blank, onIso_blank]
theorem passiveTake_blank {pl : List Part} (w : within [.str, .pins, .deferred, .idn, .met, .est, .imp, .cnv, .dsp, .bal, .prot, .iso, .host, .ops, .irq, .rings, .rcd, .logFreeze, .can, .rung] pl = true) (a : Rat) (s : State) : blank pl (passiveTake a s) = blank pl s := by
  refine widen (l := [.str, .pins, .deferred, .idn, .met, .est, .imp, .cnv, .dsp, .bal, .prot, .iso, .host, .ops, .irq, .rings, .rcd, .logFreeze, .can, .rung]) ?_ w
  unfold passiveTake
  repeat' (first | (with_reducible rfl) | (simp (disch := decide) only [apply_ite (blank [.str, .pins, .deferred, .idn, .met, .est, .imp, .cnv, .dsp, .bal, .prot, .iso, .host, .ops, .irq, .rings, .rcd, .logFreeze, .can, .rung]), ite_self, onIso_blank, passiveJudge_blank]; done) | (with_reducible refine ite_blank ?_ ?_) | split | (with_reducible refine (foldl_blank _ _ _ (fun _ _ => ?_)).trans ?_) | (dsimp only))
theorem execIsoPassiveMeasurement_blank {pl : List Part} (w : within [.str, .pins, .deferred, .idn, .met, .est, .imp, .cnv, .dsp, .bal, .prot, .iso, .host, .ops, .irq, .rings, .rcd, .logFreeze, .can, .rung] pl = true) (_vPos : Int) (_vStr : Int) (s0 : State) : Frames pl s0 (execIsoPassiveMeasurement _vPos _vStr s0) := by
  refine widens (l := [.str, .pins, .deferred, .idn, .met, .est, .imp, .cnv, .dsp, .bal, .prot, .iso, .host, .ops, .irq, .rings, .rcd, .logFreeze, .can, .rung]) ?_ w
  unfold execIsoPassiveMeasurement
  repeat' (first | (with_reducible rfl) | (simp (disch := decide) only [frames_next, apply_ite (blank [.str, .pins, .deferred, .idn, .met, .est, .imp, .cnv, .dsp, .bal, .prot, .iso, .host, .ops, .irq, .rings, .rcd, .logFreeze, .can, .rung]), ite_self, onIso_blank, passiveTake_blank]; done) | (with_reducible refine ite_blank ?_ ?_) | split | (with_reducible refine (foldl_blank _ _ _ (fun _ _ => ?_)).trans ?_) | (dsimp only))
theorem execIsoInvalid_blank {pl : List Part} (w : within [.str, .deferred, .prot, .iso, .irq, .rings, .logFreeze, .rung] pl = true) (s : State) : Frames pl s (execIsoInvalid s) := by
  refine widens (l := [.str, .deferred, .prot, .iso, .irq, .rings, .logFreeze, .rung]) ?_ w
  unfold execIsoInvalid
  repeat' (first | (with_reducible rfl) | (simp (disch := decide) only [frames_next, apply_ite (blank [.str, .deferred, .prot, .iso, .irq, .rings, .logFreeze, .rung]), ite_self, isoInvalidate_blank]; done) | (with_reducible refine ite_blank ?_ ?_) | split | (with_reducible refine (foldl_blank _ _ _ (fun _ _ => ?_)).trans ?_) | (dsimp only))
theorem execIsoSlotBoundary_blank {pl : List Part} (w : within [.iso] pl = true) (s : State) : Frames pl s (execIsoSlotBoundary s) := by
  refine widens (l := [.iso]) ?_ w
  unfold execIsoSlotBoundary
  split <;> simp (disch := decide) only [frames_next, apply_ite (blank [.iso]), ite_self, injectNow_blank]
theorem execPeCheck_blank {pl : List Part} (w : within [.deferred, .prot, .iso, .irq, .rings, .logFreeze, .rung] pl = true) (mOhm : Nat) (s : State) : Frames pl s (execPeCheck mOhm s) := by
  refine widens (l := [.deferred, .prot, .iso, .irq, .rings, .logFreeze, .rung]) ?_ w
  unfold execPeCheck
  repeat' (first | (with_reducible rfl) | (simp (disch := decide) only [frames_next, apply_ite (blank [.deferred, .prot, .iso, .irq, .rings, .logFreeze, .rung]), ite_self, log_blank, onIso_blank, openImd_blank]; done) | (with_reducible refine ite_blank ?_ ?_) | split | (with_reducible refine (foldl_blank _ _ _ (fun _ _ => ?_)).trans ?_) | (dsimp only))
theorem execPeOpenCleared_blank {pl : List Part} (w : within [.iso] pl = true) (s : State) : Frames pl s (execPeOpenCleared s) := by
  refine widens (l := [.iso]) ?_ w
  unfold execPeOpenCleared
  repeat' (first | (with_reducible rfl) | (simp (disch := decide) only [frames_next, apply_ite (blank [.iso]), ite_self, onIso_blank]; done) | (with_reducible refine ite_blank ?_ ?_) | split | (with_reducible refine (foldl_blank _ _ _ (fun _ _ => ?_)).trans ?_) | (dsimp only))
theorem thermScan_blank {pl : List Part} (w : within [.thm] pl = true) (s : State) : blank pl (thermScan s) = blank pl s := by
  refine widen (l := [.thm]) ?_ w
  simp (disch := decide) only [thermScan, onThm_blank]
theorem judgeSensor_blank {pl : List Part} (w : within [.str, .deferred, .tab, .prot, .irq, .rings, .logFreeze, .rung] pl = true) (s0 : State) (g : Bank) (got : Nat → Bool) (i : Nat) (s : State) : blank pl (judgeSensor s0 g got i s) = blank pl s := by
  refine widen (l := [.str, .deferred, .tab, .prot, .irq, .rings, .logFreeze, .rung]) ?_ w
  simp (disch := decide) only [judgeSensor, apply_ite (blank [.str, .deferred, .tab, .prot, .irq, .rings, .logFreeze, .rung]), ite_self, log_blank, onTab_blank, raiseTw_blank]
theorem execTemperatureSetComplete_blank {pl : List Part} (w : within [.tick, .str, .deferred, .skl, .tab, .thm, .prot, .irq, .rings, .logFreeze, .rung] pl = true) (s : State) : Frames pl s (execTemperatureSetComplete s) := by
  refine widens (l := [.tick, .str, .deferred, .skl, .tab, .thm, .prot, .irq, .rings, .logFreeze, .rung]) ?_ w
  unfold execTemperatureSetComplete
  repeat' (first | (with_reducible rfl) | (simp (disch := decide) only [frames_next, apply_ite (blank [.tick, .str, .deferred, .skl, .tab, .thm, .prot, .irq, .rings, .logFreeze, .rung]), ite_self, clearTw_blank, judgeSensor_blank, onMons_blank, onTab_blank, runDone_blank, thermScan_blank]; done) | (with_reducible refine ite_blank ?_ ?_) | split | (with_reducible refine (foldl_blank _ _ _ (fun _ _ => ?_)).trans ?_) | (dsimp only) | (simp (disch := decide) only [frames_next, apply_ite (blank [.tick, .str, .deferred, .skl, .tab, .thm, .prot, .irq, .rings, .logFreeze, .rung]), ite_self, clearTw_blank, judgeSensor_blank, onMons_blank, onTab_blank, runDone_blank, thermScan_blank]))
theorem onTherm_blank {pl : List Part} (w : within [.thm] pl = true) (k : Nat) (g : ThermSlot → ThermSlot) (s : State) : blank pl (onTherm k g s) = blank pl s := by
  refine widen (l := [.thm]) ?_ w
  simp (disch := decide) only [onTherm, onThm_blank]
theorem thermHold_blank {pl : List Part} (w : within [.cnv, .thm] pl = true) (k : Nat) (s : State) : blank pl (thermHold k s) = blank pl s := by
  refine widen (l := [.cnv, .thm]) ?_ w
  simp (disch := decide) only [thermHold, onSlot_blank, onTherm_blank]
theorem thermSlotRun_blank {pl : List Part} (w : within [.deferred, .cnv, .thm, .irq, .rings, .logFreeze, .rung] pl = true) (k : Nat) (s : State) : blank pl (thermSlotRun k s) = blank pl s := by
  refine widen (l := [.deferred, .cnv, .thm, .irq, .rings, .logFreeze, .rung]) ?_ w
  unfold thermSlotRun
  repeat' (first | (with_reducible rfl) | (simp (disch := decide) only [apply_ite (blank [.deferred, .cnv, .thm, .irq, .rings, .logFreeze, .rung]), ite_self, log_blank, onSlot_blank, onTherm_blank, thermHold_blank]; done) | (with_reducible refine ite_blank ?_ ?_) | split | (with_reducible refine (foldl_blank _ _ _ (fun _ _ => ?_)).trans ?_) | (dsimp only))
theorem thermOutputs_blank {pl : List Part} (w : within [.thm] pl = true) (s : State) : blank pl (thermOutputs s) = blank pl s := by
  refine widen (l := [.thm]) ?_ w
  simp (disch := decide) only [thermOutputs, onThm_blank]
theorem takeDi_blank {pl : List Part} (w : within [.thm, .irq, .rings, .rung] pl = true) (di : List Bool) (flow : List Nat) (s : State) : blank pl (takeDi di flow s) = blank pl s := by
  refine widen (l := [.thm, .irq, .rings, .rung]) ?_ w
  unfold takeDi
  repeat' (first | (with_reducible rfl) | (simp (disch := decide) only [apply_ite (blank [.thm, .irq, .rings, .rung]), ite_self, irqEvent_blank, onThm_blank]; done) | (with_reducible refine ite_blank ?_ ?_) | split | (with_reducible refine (foldl_blank _ _ _ (fun _ _ => ?_)).trans ?_) | (dsimp only))
theorem releaseTherm_blank {pl : List Part} (w : within [.tab] pl = true) (s : State) : blank pl (releaseTherm s) = blank pl s := by
  refine widen (l := [.tab]) ?_ w
  simp (disch := decide) only [releaseTherm, onTab_blank]
theorem execThermalLoops_blank {pl : List Part} (w : within [.tick, .str, .deferred, .tab, .cnv, .thm, .prot, .irq, .rings, .logFreeze, .rung] pl = true) (di : List Bool) (flow : List Nat) (s : State) : Frames pl s (execThermalLoops di flow s) := by
  refine widens (l := [.tick, .str, .deferred, .tab, .cnv, .thm, .prot, .irq, .rings, .logFreeze, .rung]) ?_ w
  unfold execThermalLoops
  repeat' (first | (with_reducible rfl) | (simp (disch := decide) only [frames_next, apply_ite (blank [.tick, .str, .deferred, .tab, .cnv, .thm, .prot, .irq, .rings, .logFreeze, .rung]), ite_self, onThm_blank, releaseTherm_blank, runDone_blank, takeDi_blank, thermHold_blank, thermOff_blank, thermOutputs_blank, thermSlotRun_blank]; done) | (with_reducible refine ite_blank ?_ ?_) | split | (with_reducible refine (foldl_blank _ _ _ (fun _ _ => ?_)).trans ?_) | (dsimp only) | (simp (disch := decide) only [frames_next, apply_ite (blank [.tick, .str, .deferred, .tab, .cnv, .thm, .prot, .irq, .rings, .logFreeze, .rung]), ite_self, onThm_blank, releaseTherm_blank, runDone_blank, takeDi_blank, thermHold_blank, thermOff_blank, thermOutputs_blank, thermSlotRun_blank]))
theorem flowTw_blank {pl : List Part} (w : within [.str, .deferred, .prot, .irq, .rings, .logFreeze, .rung] pl = true) (s : State) : blank pl (flowTw s) = blank pl s := by
  refine widen (l := [.str, .deferred, .prot, .irq, .rings, .logFreeze, .rung]) ?_ w
  simp (disch := decide) only [flowTw, apply_ite (blank [.str, .deferred, .prot, .irq, .rings, .logFreeze, .rung]), ite_self, clearTw_blank]
theorem onDi_blank {pl : List Part} (w : within [.thm] pl = true) (k : Nat) (g : DiIn → DiIn) (s : State) : blank pl (onDi k g s) = blank pl s := by
  refine widen (l := [.thm]) ?_ w
  simp (disch := decide) only [onDi, onThm_blank]
theorem execFlowLost_blank {pl : List Part} (w : within [.str, .deferred, .thm, .prot, .irq, .rings, .logFreeze, .rung] pl = true) (di : Nat) (s : State) : Frames pl s (execFlowLost di s) := by
  refine widens (l := [.str, .deferred, .thm, .prot, .irq, .rings, .logFreeze, .rung]) ?_ w
  unfold execFlowLost
  repeat' (first | (with_reducible rfl) | (simp (disch := decide) only [frames_next, apply_ite (blank [.str, .deferred, .thm, .prot, .irq, .rings, .logFreeze, .rung]), ite_self, log_blank, onDi_blank, raiseTw_blank]; done) | (with_reducible refine ite_blank ?_ ?_) | split | (with_reducible refine (foldl_blank _ _ _ (fun _ _ => ?_)).trans ?_) | (dsimp only))
theorem execFlowRestored_blank {pl : List Part} (w : within [.str, .deferred, .thm, .prot, .irq, .rings, .logFreeze, .rung] pl = true) (di : Nat) (s : State) : Frames pl s (execFlowRestored di s) := by
  refine widens (l := [.str, .deferred, .thm, .prot, .irq, .rings, .logFreeze, .rung]) ?_ w
  unfold execFlowRestored
  repeat' (first | (with_reducible rfl) | (simp (disch := decide) only [frames_next, apply_ite (blank [.str, .deferred, .thm, .prot, .irq, .rings, .logFreeze, .rung]), ite_self, flowTw_blank, onDi_blank]; done) | (with_reducible refine ite_blank ?_ ?_) | split | (with_reducible refine (foldl_blank _ _ _ (fun _ _ => ?_)).trans ?_) | (dsimp only))
theorem execLeakDetected_blank {pl : List Part} (w : within [.str, .deferred, .cnv, .thm, .prot, .irq, .rings, .logFreeze, .rung] pl = true) (di : Nat) (s : State) : Frames pl s (execLeakDetected di s) := by
  refine widens (l := [.str, .deferred, .cnv, .thm, .prot, .irq, .rings, .logFreeze, .rung]) ?_ w
  unfold execLeakDetected
  repeat' (first | (with_reducible rfl) | (simp (disch := decide) only [frames_next, apply_ite (blank [.str, .deferred, .cnv, .thm, .prot, .irq, .rings, .logFreeze, .rung]), ite_self, log_blank, onDi_blank, raiseTw_blank, thermHold_blank, thermOutputs_blank]; done) | (with_reducible refine ite_blank ?_ ?_) | split | (with_reducible refine (foldl_blank _ _ _ (fun _ _ => ?_)).trans ?_) | (dsimp only) | (simp (disch := decide) only [frames_next, apply_ite (blank [.str, .deferred, .cnv, .thm, .prot, .irq, .rings, .logFreeze, .rung]), ite_self, log_blank, onDi_blank, raiseTw_blank, thermHold_blank, thermOutputs_blank]))
theorem execLeakCleared_blank {pl : List Part} (w : within [.str, .deferred, .thm, .prot, .irq, .rings, .logFreeze, .rung] pl = true) (di : Nat) (s : State) : Frames pl s (execLeakCleared di s) := by
  refine widens (l := [.str, .deferred, .thm, .prot, .irq, .rings, .logFreeze, .rung]) ?_ w
  unfold execLeakCleared
  repeat' (first | (with_reducible rfl) | (simp (disch := decide) only [frames_next, apply_ite (blank [.str, .deferred, .thm, .prot, .irq, .rings, .logFreeze, .rung]), ite_self, flowTw_blank, onDi_blank]; done) | (with_reducible refine ite_blank ?_ ?_) | split | (with_reducible refine (foldl_blank _ _ _ (fun _ _ => ?_)).trans ?_) | (dsimp only))
theorem execChillerRequest_blank {pl : List Part} (w : within [.thm, .can] pl = true) (s : State) : Frames pl s (execChillerRequest s) := by
  refine widens (l := [.thm, .can]) ?_ w
  unfold execChillerRequest
  split <;> simp (disch := decide) only [frames_next, apply_ite (blank [.thm, .can]), ite_self, onCtl_blank, onThm_blank]
theorem execChillerStatusReceived_blank {pl : List Part} (w : within [.deferred, .thm, .irq, .rings, .logFreeze, .rung] pl = true) (s : State) : Frames pl s (execChillerStatusReceived s) := by
  refine widens (l := [.deferred, .thm, .irq, .rings, .logFreeze, .rung]) ?_ w
  unfold execChillerStatusReceived
  repeat' (first | (with_reducible rfl) | (simp (disch := decide) only [frames_next, apply_ite (blank [.deferred, .thm, .irq, .rings, .logFreeze, .rung]), ite_self, log_blank, onThm_blank, ringRel_blank]; done) | (with_reducible refine ite_blank ?_ ?_) | split | (with_reducible refine (foldl_blank _ _ _ (fun _ _ => ?_)).trans ?_) | (dsimp only))
theorem execChillerLost_blank {pl : List Part} (w : within [.deferred, .thm, .irq, .rings, .logFreeze, .rung] pl = true) (s : State) : Frames pl s (execChillerLost s) := by
  refine widens (l := [.deferred, .thm, .irq, .rings, .logFreeze, .rung]) ?_ w
  unfold execChillerLost
  split <;> simp (disch := decide) only [frames_next, apply_ite (blank [.deferred, .thm, .irq, .rings, .logFreeze, .rung]), ite_self, log_blank, onThm_blank]
theorem sklQueue_blank {pl : List Part} (w : within [.skl, .irq, .rings, .rung] pl = true) (f : SklFrame) (s : State) : blank pl (sklQueue f s) = blank pl s := by
  refine widen (l := [.skl, .irq, .rings, .rung]) ?_ w
  simp (disch := decide) only [sklQueue, onSkl_blank, ringPut_blank]
theorem sklRound_blank {pl : List Part} (w : within [.skl, .irq, .rings, .rung] pl = true) (type_ : Nat) (payload : Bytes) (s : State) : blank pl (sklRound type_ payload s) = blank pl s := by
  refine widen (l := [.skl, .irq, .rings, .rung]) ?_ w
  unfold sklRound
  repeat' (first | (with_reducible rfl) | (simp (disch := decide) only [apply_ite (blank [.skl, .irq, .rings, .rung]), ite_self, sklQueue_blank]; done) | (with_reducible refine ite_blank ?_ ?_) | split | (with_reducible refine (foldl_blank _ _ _ (fun _ _ => ?_)).trans ?_) | (dsimp only))
theorem sklTo_blank {pl : List Part} (w : within [.skl, .irq, .rings, .rung] pl = true) (type_ : Nat) (m : Nat) (payload : Bytes) (s : State) : blank pl (sklTo type_ m payload s) = blank pl s := by
  refine widen (l := [.skl, .irq, .rings, .rung]) ?_ w
  simp (disch := decide) only [sklTo, sklQueue_blank]
theorem newSet_blank {pl : List Part} (w : within [.bal] pl = true) (s : State) : blank pl (newSet s) = blank pl s := by
  refine widen (l := [.bal]) ?_ w
  simp (disch := decide) only [newSet, onBal_blank]
theorem queueBal_blank {pl : List Part} (w : within [.skl, .irq, .rings, .rung] pl = true) (s : State) : blank pl (queueBal s) = blank pl s := by
  refine widen (l := [.skl, .irq, .rings, .rung]) ?_ w
  simp (disch := decide) only [queueBal, sklRound_blank]
theorem sendBal_blank {pl : List Part} (w : within [.skl, .bal, .irq, .rings, .rung] pl = true) (s : State) : blank pl (sendBal s) = blank pl s := by
  refine widen (l := [.skl, .bal, .irq, .rings, .rung]) ?_ w
  simp (disch := decide) only [sendBal, newSet_blank, queueBal_blank]
theorem balTraffic_blank {pl : List Part} (w : within [.skl, .irq, .rings, .rung] pl = true) (s : State) : blank pl (balTraffic s) = blank pl s := by
  refine widen (l := [.skl, .irq, .rings, .rung]) ?_ w
  simp (disch := decide) only [balTraffic, apply_ite (blank [.skl, .irq, .rings, .rung]), ite_self, queueBal_blank]
theorem balTakes_blank {pl : List Part} (w : within [.tab] pl = true) (s : State) : blank pl (balTakes s) = blank pl s := by
  refine widen (l := [.tab]) ?_ w
  simp (disch := decide) only [balTakes, apply_ite (blank [.tab]), ite_self, onTab_blank]
theorem balCompute_blank {pl : List Part} (w : within [.bal] pl = true) (s : State) : blank pl (balCompute s) = blank pl s := by
  refine widen (l := [.bal]) ?_ w
  simp (disch := decide) only [balCompute, onBal_blank]
theorem endCampaign_blank {pl : List Part} (w : within [.deferred, .met, .est, .imp, .bal, .iso, .ops, .irq, .rings, .rcd, .logFreeze, .rung] pl = true) (res : Nat) (s : State) : blank pl (endCampaign res s) = blank pl s := by
  refine widen (l := [.deferred, .met, .est, .imp, .bal, .iso, .ops, .irq, .rings, .rcd, .logFreeze, .rung]) ?_ w
  simp (disch := decide) only [endCampaign, closeOp_blank, endOp_blank, onBal_blank]
theorem judgeCampaign_blank {pl : List Part} (w : within [.deferred, .met, .est, .imp, .bal, .iso, .ops, .irq, .rings, .rcd, .logFreeze, .rung] pl = true) (s : State) : blank pl (judgeCampaign s) = blank pl s := by
  refine widen (l := [.deferred, .met, .est, .imp, .bal, .iso, .ops, .irq, .rings, .rcd, .logFreeze, .rung]) ?_ w
  unfold judgeCampaign
  split <;> simp (disch := decide) only [apply_ite (blank [.deferred, .met, .est, .imp, .bal, .iso, .ops, .irq, .rings, .rcd, .logFreeze, .rung]), ite_self, endCampaign_blank, onBal_blank]
theorem execBalSchedule_blank {pl : List Part} (w : within [.deferred, .met, .tab, .est, .imp, .bal, .iso, .ops, .irq, .rings, .rcd, .logFreeze, .rung] pl = true) (s : State) : Frames pl s (execBalSchedule s) := by
  refine widens (l := [.deferred, .met, .tab, .est, .imp, .bal, .iso, .ops, .irq, .rings, .rcd, .logFreeze, .rung]) ?_ w
  unfold execBalSchedule
  split <;> simp (disch := decide) only [frames_next, apply_ite (blank [.deferred, .met, .tab, .est, .imp, .bal, .iso, .ops, .irq, .rings, .rcd, .logFreeze, .rung]), ite_self, balCompute_blank, judgeCampaign_blank, newSet_blank, onTab_blank]
theorem balZero_blank {pl : List Part} (w : within [.skl, .bal, .irq, .rings, .rung] pl = true) (s : State) : blank pl (balZero s) = blank pl s := by
  refine widen (l := [.skl, .bal, .irq, .rings, .rung]) ?_ w
  simp (disch := decide) only [balZero, apply_ite (blank [.skl, .bal, .irq, .rings, .rung]), ite_self, onBal_blank, sendBal_blank]
theorem applyBal_blank {pl : List Part} (w : within [.deferred, .bal, .irq, .rings, .logFreeze, .rung] pl = true) (s : State) : blank pl (applyBal s) = blank pl s := by
  refine widen (l := [.deferred, .bal, .irq, .rings, .logFreeze, .rung]) ?_ w
  unfold applyBal
  repeat' (first | (with_reducible rfl) | (simp (disch := decide) only [apply_ite (blank [.deferred, .bal, .irq, .rings, .logFreeze, .rung]), ite_self, log_blank, onBal_blank]; done) | (with_reducible refine ite_blank ?_ ?_) | split | (with_reducible refine (foldl_blank _ _ _ (fun _ _ => ?_)).trans ?_) | (dsimp only))
theorem execBalApplicationInstant_blank {pl : List Part} (w : within [.deferred, .bal, .irq, .rings, .logFreeze, .rung] pl = true) (s : State) : Frames pl s (execBalApplicationInstant s) := by
  refine widens (l := [.deferred, .bal, .irq, .rings, .logFreeze, .rung]) ?_ w
  unfold execBalApplicationInstant
  repeat' (first | (with_reducible rfl) | (simp (disch := decide) only [frames_next, apply_ite (blank [.deferred, .bal, .irq, .rings, .logFreeze, .rung]), ite_self, applyBal_blank, log_blank, onBal_blank]; done) | (with_reducible refine ite_blank ?_ ?_) | split | (with_reducible refine (foldl_blank _ _ _ (fun _ _ => ?_)).trans ?_) | (dsimp only))
theorem resolvePlace_blank {pl : List Part} (w : within [.bal] pl = true) (m : Nat) (curId : Nat) (word : Nat) (s : State) : blank pl (resolvePlace m curId word s) = blank pl s := by
  refine widen (l := [.bal]) ?_ w
  simp (disch := decide) only [resolvePlace, onBal_blank]
theorem balBlock_blank {pl : List Part} (w : within [.deferred, .skl, .bal, .irq, .rings, .logFreeze, .rung] pl = true) (m : Nat) (balId : Nat) (b : Bytes) (s : State) : blank pl (balBlock m balId b s) = blank pl s := by
  refine widen (l := [.deferred, .skl, .bal, .irq, .rings, .logFreeze, .rung]) ?_ w
  simp (disch := decide) only [balBlock, apply_ite (blank [.deferred, .skl, .bal, .irq, .rings, .logFreeze, .rung]), ite_self, log_blank, onBal_blank, onMon_blank, resolvePlace_blank]
theorem execBalWatchdog_blank {pl : List Part} (w : within [.deferred, .bal, .irq, .rings, .logFreeze, .rung] pl = true) (place : Nat) (s : State) : Frames pl s (execBalWatchdog place s) := by
  refine widens (l := [.deferred, .bal, .irq, .rings, .logFreeze, .rung]) ?_ w
  unfold execBalWatchdog
  repeat' (first | (with_reducible rfl) | (simp (disch := decide) only [frames_next, apply_ite (blank [.deferred, .bal, .irq, .rings, .logFreeze, .rung]), ite_self, log_blank, onBal_blank]; done) | (with_reducible refine ite_blank ?_ ?_) | split | (with_reducible refine (foldl_blank _ _ _ (fun _ _ => ?_)).trans ?_) | (dsimp only))
theorem execBcTimeMaxReached_blank {pl : List Part} (w : within [.deferred, .met, .skl, .est, .imp, .bal, .iso, .ops, .irq, .rings, .rcd, .logFreeze, .rung] pl = true) (s : State) : Frames pl s (execBcTimeMaxReached s) := by
  refine widens (l := [.deferred, .met, .skl, .est, .imp, .bal, .iso, .ops, .irq, .rings, .rcd, .logFreeze, .rung]) ?_ w
  unfold execBcTimeMaxReached
  repeat' (first | (with_reducible rfl) | (simp (disch := decide) only [frames_next, apply_ite (blank [.deferred, .met, .skl, .est, .imp, .bal, .iso, .ops, .irq, .rings, .rcd, .logFreeze, .rung]), ite_self, balZero_blank, endCampaign_blank]; done) | (with_reducible refine ite_blank ?_ ?_) | split | (with_reducible refine (foldl_blank _ _ _ (fun _ _ => ?_)).trans ?_) | (dsimp only))
theorem sklSend_blank {pl : List Part} (w : within [.skl] pl = true) (f : SklFrame) (s : State) : blank pl (sklSend f s) = blank pl s := by
  refine widen (l := [.skl]) ?_ w
  simp (disch := decide) only [sklSend, onSkl_blank]
theorem sklSync_blank {pl : List Part} (w : within [.skl] pl = true) (s : State) : blank pl (sklSync s) = blank pl s := by
  refine widen (l := [.skl]) ?_ w
  simp (disch := decide) only [sklSync, apply_ite (blank [.skl]), ite_self, onSkl_blank, sklSend_blank]
theorem sklAgain_blank {pl : List Part} (w : within [.skl, .irq, .rings, .rung] pl = true) (type_ : Nat) (m : Nat) (payload : Bytes) (s : State) : blank pl (sklAgain type_ m payload s) = blank pl s := by
  refine widen (l := [.skl, .irq, .rings, .rung]) ?_ w
  simp (disch := decide) only [sklAgain, onSkl_blank, sklQueue_blank]
theorem admitTraffic_blank {pl : List Part} (w : within [.skl, .irq, .rings, .rung] pl = true) (m : Nat) (s : State) : blank pl (admitTraffic m s) = blank pl s := by
  refine widen (l := [.skl, .irq, .rings, .rung]) ?_ w
  simp (disch := decide) only [admitTraffic, apply_ite (blank [.skl, .irq, .rings, .rung]), ite_self, sklQueue_blank, sklTo_blank]
theorem admitAll_blank {pl : List Part} (w : within [.skl, .irq, .rings, .rung] pl = true) (s : State) : blank pl (admitAll s) = blank pl s := by
  refine widen (l := [.skl, .irq, .rings, .rung]) ?_ w
  unfold admitAll
  repeat' (first | (with_reducible rfl) | (simp (disch := decide) only [apply_ite (blank [.skl, .irq, .rings, .rung]), ite_self, admitTraffic_blank]; done) | (with_reducible refine ite_blank ?_ ?_) | split | (with_reducible refine (foldl_blank _ _ _ (fun _ _ => ?_)).trans ?_) | (dsimp only))
theorem retryReads_blank {pl : List Part} (w : within [.skl, .irq, .rings, .rung] pl = true) (s : State) : blank pl (retryReads s) = blank pl s := by
  refine widen (l := [.skl, .irq, .rings, .rung]) ?_ w
  unfold retryReads
  repeat' (first | (with_reducible rfl) | (simp (disch := decide) only [apply_ite (blank [.skl, .irq, .rings, .rung]), ite_self, sklAgain_blank]; done) | (with_reducible refine ite_blank ?_ ?_) | split | (with_reducible refine (foldl_blank _ _ _ (fun _ _ => ?_)).trans ?_) | (dsimp only))
theorem readLockin_blank {pl : List Part} (w : within [.skl, .irq, .rings, .rung] pl = true) (s : State) : blank pl (readLockin s) = blank pl s := by
  refine widen (l := [.skl, .irq, .rings, .rung]) ?_ w
  unfold readLockin
  repeat' (first | (with_reducible rfl) | (simp (disch := decide) only [apply_ite (blank [.skl, .irq, .rings, .rung]), ite_self, sklAgain_blank, sklTo_blank]; done) | (with_reducible refine ite_blank ?_ ?_) | split | (with_reducible refine (foldl_blank _ _ _ (fun _ _ => ?_)).trans ?_) | (dsimp only))
theorem lockinEnds_blank {pl : List Part} (w : within [.skl, .imp] pl = true) (s : State) : blank pl (lockinEnds s) = blank pl s := by
  refine widen (l := [.skl, .imp]) ?_ w
  simp (disch := decide) only [lockinEnds, apply_ite (blank [.skl, .imp]), ite_self, onImp_blank, onSkl_blank]
theorem onDemandTraffic_blank {pl : List Part} (w : within [.skl, .irq, .rings, .rung] pl = true) (s : State) : blank pl (onDemandTraffic s) = blank pl s := by
  refine widen (l := [.skl, .irq, .rings, .rung]) ?_ w
  unfold onDemandTraffic
  repeat' (first | (with_reducible rfl) | (simp (disch := decide) only [apply_ite (blank [.skl, .irq, .rings, .rung]), ite_self, onSkl_blank, sklQueue_blank, sklRound_blank]; done) | (with_reducible refine ite_blank ?_ ?_) | split | (with_reducible refine (foldl_blank _ _ _ (fun _ _ => ?_)).trans ?_) | (dsimp only))
theorem balQueries_blank {pl : List Part} (w : within [.skl, .irq, .rings, .rung] pl = true) (s : State) : blank pl (balQueries s) = blank pl s := by
  refine widen (l := [.skl, .irq, .rings, .rung]) ?_ w
  simp (disch := decide) only [balQueries, apply_ite (blank [.skl, .irq, .rings, .rung]), ite_self, sklRound_blank]
theorem sklAll_blank {pl : List Part} (w : within [.skl, .irq, .rings, .rung] pl = true) (type_ : Nat) (payload : Bytes) (s : State) : blank pl (sklAll type_ payload s) = blank pl s := by
  refine widen (l := [.skl, .irq, .rings, .rung]) ?_ w
  unfold sklAll
  repeat' (first | (with_reducible rfl) | (simp (disch := decide) only [apply_ite (blank [.skl, .irq, .rings, .rung]), ite_self, sklQueue_blank]; done) | (with_reducible refine ite_blank ?_ ?_) | split | (with_reducible refine (foldl_blank _ _ _ (fun _ _ => ?_)).trans ?_) | (dsimp only))
theorem lockinStart_blank {pl : List Part} (w : within [.skl, .imp, .irq, .rings, .rung] pl = true) (s : State) : blank pl (lockinStart s) = blank pl s := by
  refine widen (l := [.skl, .imp, .irq, .rings, .rung]) ?_ w
  unfold lockinStart
  split <;> simp (disch := decide) only [apply_ite (blank [.skl, .imp, .irq, .rings, .rung]), ite_self, onImp_blank, onSkl_blank, sklAll_blank]
theorem planReads_blank {pl : List Part} (w : within [.skl, .irq, .rings, .rung] pl = true) (id : Nat) (s : State) : blank pl (planReads id s) = blank pl s := by
  refine widen (l := [.skl, .irq, .rings, .rung]) ?_ w
  unfold planReads
  repeat' (first | (with_reducible rfl) | (simp (disch := decide) only [apply_ite (blank [.skl, .irq, .rings, .rung]), ite_self, onMon_blank, onSkl_blank, sklAll_blank, sklTo_blank]; done) | (with_reducible refine ite_blank ?_ ?_) | split | (with_reducible refine (foldl_blank _ _ _ (fun _ _ => ?_)).trans ?_) | (dsimp only) | (simp (disch := decide) only [apply_ite (blank [.skl, .irq, .rings, .rung]), ite_self, onMon_blank, onSkl_blank, sklAll_blank, sklTo_blank]))
theorem sklPlan_blank {pl : List Part} (w : within [.skl, .imp, .irq, .rings, .rung] pl = true) (s0 : State) : blank pl (sklPlan s0) = blank pl s0 := by
  refine widen (l := [.skl, .imp, .irq, .rings, .rung]) ?_ w
  unfold sklPlan
  repeat' (first | (with_reducible rfl) | (simp (disch := decide) only [apply_ite (blank [.skl, .imp, .irq, .rings, .rung]), ite_self, admitAll_blank, balQueries_blank, balTraffic_blank, lockinEnds_blank, lockinStart_blank, onDemandTraffic_blank, onSkl_blank, planReads_blank, readLockin_blank, retryReads_blank, sklAll_blank, sklRound_blank]; done) | (with_reducible refine ite_blank ?_ ?_) | split | (with_reducible refine (foldl_blank _ _ _ (fun _ _ => ?_)).trans ?_) | (dsimp only))
theorem lockinLaunched_blank {pl : List Part} (w : within [.skl] pl = true) (f : SklFrame) (s : State) : blank pl (lockinLaunched f s) = blank pl s := by
  refine widen (l := [.skl]) ?_ w
  simp (disch := decide) only [lockinLaunched, apply_ite (blank [.skl]), ite_self, onMons_blank, onSkl_blank]
theorem execSkaleyFrameLaunch_blank {pl : List Part} (w : within [.skl, .irq, .rings, .rung] pl = true) (port : Nat) (s : State) : Frames pl s (execSkaleyFrameLaunch port s) := by
  refine widens (l := [.skl, .irq, .rings, .rung]) ?_ w
  unfold execSkaleyFrameLaunch
  repeat' (first | (with_reducible rfl) | (simp (disch := decide) only [frames_next, apply_ite (blank [.skl, .irq, .rings, .rung]), ite_self, lockinLaunched_blank, onSkl_blank, ringRel_blank, sklSend_blank]; done) | (with_reducible refine ite_blank ?_ ?_) | split | (with_reducible refine (foldl_blank _ _ _ (fun _ _ => ?_)).trans ?_) | (dsimp only))
theorem quarantine_blank {pl : List Part} (w : within [.deferred, .skl, .irq, .rings, .logFreeze, .rung] pl = true) (m : Nat) (cause : Nat) (s : State) : blank pl (quarantine m cause s) = blank pl s := by
  refine widen (l := [.deferred, .skl, .irq, .rings, .logFreeze, .rung]) ?_ w
  simp (disch := decide) only [quarantine, log_blank, onMon_blank]
theorem refuseMon_blank {pl : List Part} (w : within [.deferred, .skl, .irq, .rings, .logFreeze, .rung] pl = true) (m : Nat) (step : Nat) (value : Nat) (s : State) : blank pl (refuseMon m step value s) = blank pl s := by
  refine widen (l := [.deferred, .skl, .irq, .rings, .logFreeze, .rung]) ?_ w
  simp (disch := decide) only [refuseMon, log_blank, onMon_blank]
theorem judgeGeometry_blank {pl : List Part} (w : within [.deferred, .skl, .irq, .rings, .logFreeze, .rung] pl = true) (m : Nat) (status : Nat) (s : State) : blank pl (judgeGeometry m status s) = blank pl s := by
  refine widen (l := [.deferred, .skl, .irq, .rings, .logFreeze, .rung]) ?_ w
  simp (disch := decide) only [judgeGeometry, apply_ite (blank [.deferred, .skl, .irq, .rings, .logFreeze, .rung]), ite_self, onMon_blank, quarantine_blank, refuseMon_blank]
theorem monSeen_blank {pl : List Part} (w : within [.deferred, .skl, .irq, .rings, .logFreeze, .rung] pl = true) (m : Nat) (status : Nat) (boot : Nat) (s : State) : blank pl (monSeen m status boot s) = blank pl s := by
  refine widen (l := [.deferred, .skl, .irq, .rings, .logFreeze, .rung]) ?_ w
  unfold monSeen
  repeat' (first | (with_reducible rfl) | (simp (disch := decide) only [apply_ite (blank [.deferred, .skl, .irq, .rings, .logFreeze, .rung]), ite_self, judgeGeometry_blank, log_blank, onMon_blank, quarantine_blank]; done) | (with_reducible refine ite_blank ?_ ?_) | split | (with_reducible refine (foldl_blank _ _ _ (fun _ _ => ?_)).trans ?_) | (dsimp only))
theorem scanPassed_blank {pl : List Part} (w : within [.deferred, .skl, .irq, .rings, .logFreeze, .rung] pl = true) (m : Nat) (boot : Nat) (s : State) : blank pl (scanPassed m boot s) = blank pl s := by
  refine widen (l := [.deferred, .skl, .irq, .rings, .logFreeze, .rung]) ?_ w
  simp (disch := decide) only [scanPassed, apply_ite (blank [.deferred, .skl, .irq, .rings, .logFreeze, .rung]), ite_self, log_blank, onMon_blank]
theorem takeVoltages_blank {pl : List Part} (w : within [.skl, .tab] pl = true) (m : Nat) (b : Bytes) (s : State) : blank pl (takeVoltages m b s) = blank pl s := by
  refine widen (l := [.skl, .tab]) ?_ w
  simp (disch := decide) only [takeVoltages, onMon_blank, onPoss_blank, onTab_blank]
theorem crcMiss_blank {pl : List Part} (w : within [.skl] pl = true) (st : Nat) (s : State) : blank pl (crcMiss st s) = blank pl s := by
  refine widen (l := [.skl]) ?_ w
  simp (disch := decide) only [crcMiss, apply_ite (blank [.skl]), ite_self, onSkl_blank]
theorem stackDisagrees_blank {pl : List Part} (w : within [.skl] pl = true) (m : Nat) (s : State) : blank pl (stackDisagrees m s) = blank pl s := by
  refine widen (l := [.skl]) ?_ w
  simp (disch := decide) only [stackDisagrees, onSkl_blank, onMon_blank]
theorem voltBlock_blank {pl : List Part} (w : within [.deferred, .skl, .tab, .irq, .rings, .logFreeze, .rung] pl = true) (m : Nat) (id : Nat) (b : Bytes) (s : State) : blank pl (voltBlock m id b s) = blank pl s := by
  refine widen (l := [.deferred, .skl, .tab, .irq, .rings, .logFreeze, .rung]) ?_ w
  unfold voltBlock
  repeat' (first | (with_reducible rfl) | (simp (disch := decide) only [apply_ite (blank [.deferred, .skl, .tab, .irq, .rings, .logFreeze, .rung]), ite_self, crcMiss_blank, log_blank, missedScan_blank, monSeen_blank, onMon_blank, onSkl_blank, quarRestart_blank, quarantine_blank, ringPut_blank, ringRel_blank, scanPassed_blank, stackDisagrees_blank, takeVoltages_blank]; done) | (with_reducible refine ite_blank ?_ ?_) | split | (with_reducible refine (foldl_blank _ _ _ (fun _ _ => ?_)).trans ?_) | (dsimp only))
theorem readBlock_blank {pl : List Part} (w : within [.skl] pl = true) (m : Nat) (n : Nat) (id : Nat) (flag : Monitor → Monitor) (b : Bytes) (s : State) : blank pl (readBlock m n id flag b s).1 = blank pl s := by
  refine widen (l := [.skl]) ?_ w
  unfold readBlock
  repeat' (first | (with_reducible rfl) | (simp (disch := decide) only [apply_ite (blank [.skl]), ite_self, crcMiss_blank, onMon_blank, onSkl_blank]; done) | (with_reducible refine ite_blank ?_ ?_) | split | (with_reducible refine (foldl_blank _ _ _ (fun _ _ => ?_)).trans ?_) | (dsimp only))
theorem identBlock_blank {pl : List Part} (w : within [.deferred, .skl, .irq, .rings, .logFreeze, .rung] pl = true) (m : Nat) (b : Bytes) (s : State) : blank pl (identBlock m b s) = blank pl s := by
  refine widen (l := [.deferred, .skl, .irq, .rings, .logFreeze, .rung]) ?_ w
  simp (disch := decide) only [identBlock, apply_ite (blank [.deferred, .skl, .irq, .rings, .logFreeze, .rung]), ite_self, crcMiss_blank, onMon_blank, quarantine_blank, refuseMon_blank]
theorem delayReturned_blank {pl : List Part} (w : within [.skl] pl = true) (m : Nat) (port : Nat) (rt : Nat) (s : State) : blank pl (delayReturned m port rt s) = blank pl s := by
  refine widen (l := [.skl]) ?_ w
  simp (disch := decide) only [delayReturned, onMon_blank]
theorem lockinBlock_blank {pl : List Part} (w : within [.skl] pl = true) (m : Nat) (b : Bytes) (s : State) : blank pl (lockinBlock m b s) = blank pl s := by
  refine widen (l := [.skl]) ?_ w
  simp (disch := decide) only [lockinBlock, apply_ite (blank [.skl]), ite_self, crcMiss_blank, onMon_blank]
theorem flightLost_blank {pl : List Part} (w : within [.deferred, .skl, .irq, .rings, .logFreeze, .rung] pl = true) (s : State) (f : SklFrame) : blank pl (flightLost s f) = blank pl s := by
  refine widen (l := [.deferred, .skl, .irq, .rings, .logFreeze, .rung]) ?_ w
  unfold flightLost
  repeat' (first | (with_reducible rfl) | (simp (disch := decide) only [apply_ite (blank [.deferred, .skl, .irq, .rings, .logFreeze, .rung]), ite_self, missedScan_blank, onMon_blank]; done) | (with_reducible refine ite_blank ?_ ?_) | split | (with_reducible refine (foldl_blank _ _ _ (fun _ _ => ?_)).trans ?_) | (dsimp only))
theorem startProbe_blank {pl : List Part} (w : within [.deferred, .skl, .irq, .rings, .logFreeze, .rung] pl = true) (s : State) : blank pl (startProbe s) = blank pl s := by
  refine widen (l := [.deferred, .skl, .irq, .rings, .logFreeze, .rung]) ?_ w
  unfold startProbe
  repeat' (first | (with_reducible rfl) | (simp (disch := decide) only [apply_ite (blank [.deferred, .skl, .irq, .rings, .logFreeze, .rung]), ite_self, flightLost_blank, onSkl_blank, ringPut_blank]; done) | (with_reducible refine ite_blank ?_ ?_) | split | (with_reducible refine (foldl_blank _ _ _ (fun _ _ => ?_)).trans ?_) | (dsimp only) | (simp (disch := decide) only [apply_ite (blank [.deferred, .skl, .irq, .rings, .logFreeze, .rung]), ite_self, flightLost_blank, onSkl_blank, ringPut_blank]))
theorem finishProbe_blank {pl : List Part} (w : within [.deferred, .skl, .irq, .rings, .rcd, .logFreeze, .rung] pl = true) (rA : List Nat) (rB : List Nat) (s : State) : blank pl (finishProbe rA rB s) = blank pl s := by
  refine widen (l := [.deferred, .skl, .irq, .rings, .rcd, .logFreeze, .rung]) ?_ w
  simp (disch := decide) only [finishProbe, apply_ite (blank [.deferred, .skl, .irq, .rings, .rcd, .logFreeze, .rung]), ite_self, log_blank, onMons_blank, onSkl_blank, recoveryStart_blank]
theorem probeResult_blank {pl : List Part} (w : within [.deferred, .skl, .irq, .rings, .rcd, .logFreeze, .rung] pl = true) (port : Nat) (r : List Nat) (s : State) : blank pl (probeResult port r s) = blank pl s := by
  refine widen (l := [.deferred, .skl, .irq, .rings, .rcd, .logFreeze, .rung]) ?_ w
  unfold probeResult
  repeat' (first | (with_reducible rfl) | (simp (disch := decide) only [apply_ite (blank [.deferred, .skl, .irq, .rings, .rcd, .logFreeze, .rung]), ite_self, finishProbe_blank, onSkl_blank]; done) | (with_reducible refine ite_blank ?_ ?_) | split | (with_reducible refine (foldl_blank _ _ _ (fun _ _ => ?_)).trans ?_) | (dsimp only))
theorem statusReturned_blank {pl : List Part} (w : within [.deferred, .skl, .irq, .rings, .rcd, .logFreeze, .rung] pl = true) (port : Nat) (p : Bytes) (s : State) : blank pl (statusReturned port p s) = blank pl s := by
  refine widen (l := [.deferred, .skl, .irq, .rings, .rcd, .logFreeze, .rung]) ?_ w
  unfold statusReturned
  repeat' (first | (with_reducible rfl) | (simp (disch := decide) only [apply_ite (blank [.deferred, .skl, .irq, .rings, .rcd, .logFreeze, .rung]), ite_self, crcMiss_blank, log_blank, monSeen_blank, onMon_blank, probeResult_blank]; done) | (with_reducible refine ite_blank ?_ ?_) | split | (with_reducible refine (foldl_blank _ _ _ (fun _ _ => ?_)).trans ?_) | (dsimp only) | (simp (disch := decide) only [apply_ite (blank [.deferred, .skl, .irq, .rings, .rcd, .logFreeze, .rung]), ite_self, crcMiss_blank, log_blank, monSeen_blank, onMon_blank, probeResult_blank]))
theorem syncReturned_blank {pl : List Part} (w : within [.skl] pl = true) (port : Nat) (at_ : Nat) (s : State) : blank pl (syncReturned port at_ s) = blank pl s := by
  refine widen (l := [.skl]) ?_ w
  simp (disch := decide) only [syncReturned, apply_ite (blank [.skl]), ite_self, onMons_blank, onSkl_blank]
theorem onDemandBlock_blank {pl : List Part} (w : within [.deferred, .skl, .irq, .rings, .logFreeze, .rung] pl = true) (m : Nat) (id : Nat) (b : Bytes) (s : State) : blank pl (onDemandBlock m id b s) = blank pl s := by
  refine widen (l := [.deferred, .skl, .irq, .rings, .logFreeze, .rung]) ?_ w
  simp (disch := decide) only [onDemandBlock, apply_ite (blank [.deferred, .skl, .irq, .rings, .logFreeze, .rung]), ite_self, crcMiss_blank, log_blank, onSkl_blank]
theorem sklDeliver_blank {pl : List Part} (w : within [.deferred, .skl, .tab, .bal, .irq, .rings, .rcd, .logFreeze, .rung] pl = true) (f : SklFrame) (at_ : Nat) (rt : Nat) (b : Bytes) (s : State) : blank pl (sklDeliver f at_ rt b s) = blank pl s := by
  refine widen (l := [.deferred, .skl, .tab, .bal, .irq, .rings, .rcd, .logFreeze, .rung]) ?_ w
  unfold sklDeliver
  repeat' (first | (with_reducible rfl) | (simp (disch := decide) only [apply_ite (blank [.deferred, .skl, .tab, .bal, .irq, .rings, .rcd, .logFreeze, .rung]), ite_self, balBlock_blank, delayReturned_blank, identBlock_blank, lockinBlock_blank, onCells_blank, onDemandBlock_blank, onMon_blank, onSkl_blank, onTab_blank, readBlock_blank, refuseMon_blank, ringPut_blank, ringRel_blank, statusReturned_blank, syncReturned_blank, voltBlock_blank]; done) | (with_reducible refine ite_blank ?_ ?_) | split | (with_reducible refine (foldl_blank _ _ _ (fun _ _ => ?_)).trans ?_) | (dsimp only) | (simp (disch := decide) only [apply_ite (blank [.deferred, .skl, .tab, .bal, .irq, .rings, .rcd, .logFreeze, .rung]), ite_self, balBlock_blank, delayReturned_blank, identBlock_blank, lockinBlock_blank, onCells_blank, onDemandBlock_blank, onMon_blank, onSkl_blank, onTab_blank, readBlock_blank, refuseMon_blank, ringPut_blank, ringRel_blank, statusReturned_blank, syncReturned_blank, voltBlock_blank]))
theorem badReturn_blank {pl : List Part} (w : within [.deferred, .skl, .irq, .rings, .logFreeze, .rung] pl = true) (port : Nat) (s : State) : blank pl (badReturn port s) = blank pl s := by
  refine widen (l := [.deferred, .skl, .irq, .rings, .logFreeze, .rung]) ?_ w
  unfold badReturn
  repeat' (first | (with_reducible rfl) | (simp (disch := decide) only [apply_ite (blank [.deferred, .skl, .irq, .rings, .logFreeze, .rung]), ite_self, flightLost_blank, onSkl_blank]; done) | (with_reducible refine ite_blank ?_ ?_) | split | (with_reducible refine (foldl_blank _ _ _ (fun _ _ => ?_)).trans ?_) | (dsimp only))
theorem execSkaleyFrameReturned_blank {pl : List Part} (w : within [.deferred, .skl, .tab, .bal, .irq, .rings, .rcd, .logFreeze, .rung] pl = true) (port : Nat) (marginOk : Bool) (rt : Nat) (bytes : Bytes) (s : State) : Frames pl s (execSkaleyFrameReturned port marginOk rt bytes s) := by
  refine widens (l := [.deferred, .skl, .tab, .bal, .irq, .rings, .rcd, .logFreeze, .rung]) ?_ w
  unfold execSkaleyFrameReturned
  repeat' (first | (with_reducible rfl) | (simp (disch := decide) only [frames_next, apply_ite (blank [.deferred, .skl, .tab, .bal, .irq, .rings, .rcd, .logFreeze, .rung]), ite_self, badReturn_blank, flightLost_blank, onSkl_blank, sklDeliver_blank, startProbe_blank]; done) | (with_reducible refine ite_blank ?_ ?_) | split | (with_reducible refine (foldl_blank _ _ _ (fun _ _ => ?_)).trans ?_) | (dsimp only))
theorem execSkaleyFrameTimeout_blank {pl : List Part} (w : within [.deferred, .skl, .irq, .rings, .rcd, .logFreeze, .rung] pl = true) (port : Nat) (s : State) : Frames pl s (execSkaleyFrameTimeout port s) := by
  refine widens (l := [.deferred, .skl, .irq, .rings, .rcd, .logFreeze, .rung]) ?_ w
  unfold execSkaleyFrameTimeout
  repeat' (first | (with_reducible rfl) | (simp (disch := decide) only [frames_next, apply_ite (blank [.deferred, .skl, .irq, .rings, .rcd, .logFreeze, .rung]), ite_self, flightLost_blank, onSkl_blank, probeResult_blank, startProbe_blank]; done) | (with_reducible refine ite_blank ?_ ?_) | split | (with_reducible refine (foldl_blank _ _ _ (fun _ _ => ?_)).trans ?_) | (dsimp only))
theorem execSkaleyCarrierLoss_blank {pl : List Part} (w : within [.deferred, .skl, .irq, .rings, .logFreeze, .rung] pl = true) (port : Nat) (s : State) : Frames pl s (execSkaleyCarrierLoss port s) := by
  refine widens (l := [.deferred, .skl, .irq, .rings, .logFreeze, .rung]) ?_ w
  unfold execSkaleyCarrierLoss
  split <;> simp (disch := decide) only [frames_next, apply_ite (blank [.deferred, .skl, .irq, .rings, .logFreeze, .rung]), ite_self, irqEvent_blank, onSkl_blank, startProbe_blank]
theorem execRingHealed_blank {pl : List Part} (w : within [.deferred, .skl, .irq, .rings, .logFreeze, .rung] pl = true) (s : State) : Frames pl s (execRingHealed s) := by
  refine widens (l := [.deferred, .skl, .irq, .rings, .logFreeze, .rung]) ?_ w
  unfold execRingHealed
  repeat' (first | (with_reducible rfl) | (simp (disch := decide) only [frames_next, apply_ite (blank [.deferred, .skl, .irq, .rings, .logFreeze, .rung]), ite_self, irqEvent_blank, log_blank, onMons_blank, onSkl_blank]; done) | (with_reducible refine ite_blank ?_ ?_) | split | (with_reducible refine (foldl_blank _ _ _ (fun _ _ => ?_)).trans ?_) | (dsimp only))
theorem blankMonitor_blank {pl : List Part} (w : within [.tab] pl = true) (m : Nat) (s : State) : blank pl (blankMonitor m s) = blank pl s := by
  refine widen (l := [.tab]) ?_ w
  simp (disch := decide) only [blankMonitor, onTab_blank]
theorem loseMonitor_blank {pl : List Part} (w : within [.deferred, .skl, .tab, .irq, .rings, .logFreeze, .rung] pl = true) (m : Nat) (s : State) : blank pl (loseMonitor m s) = blank pl s := by
  refine widen (l := [.deferred, .skl, .tab, .irq, .rings, .logFreeze, .rung]) ?_ w
  unfold loseMonitor
  split <;> simp (disch := decide) only [apply_ite (blank [.deferred, .skl, .tab, .irq, .rings, .logFreeze, .rung]), ite_self, blankMonitor_blank, log_blank, onMon_blank]
theorem execVoltageStale_blank {pl : List Part} (w : within [.str, .pins, .deferred, .idn, .met, .skl, .tab, .est, .imp, .cnv, .dsp, .bal, .prot, .iso, .host, .ops, .irq, .rings, .rcd, .logFreeze, .can, .rung] pl = true) (pos : Nat) (s : State) : Frames pl s (execVoltageStale pos s) := by
  refine widens (l := [.str, .pins, .deferred, .idn, .met, .skl, .tab, .est, .imp, .cnv, .dsp, .bal, .prot, .iso, .host, .ops, .irq, .rings, .rcd, .logFreeze, .can, .rung]) ?_ w
  unfold execVoltageStale
  repeat' (first | (with_reducible rfl) | (simp (disch := decide) only [frames_next, apply_ite (blank [.str, .pins, .deferred, .idn, .met, .skl, .tab, .est, .imp, .cnv, .dsp, .bal, .prot, .iso, .host, .ops, .irq, .rings, .rcd, .logFreeze, .can, .rung]), ite_self, log_blank, loseMonitor_blank, onMon_blank, onPoss_blank, sfDemand_blank]; done) | (with_reducible refine ite_blank ?_ ?_) | split | (with_reducible refine (foldl_blank _ _ _ (fun _ _ => ?_)).trans ?_) | (dsimp only))
theorem execDropStale_blank {pl : List Part} (w : within [.str, .deferred, .skl, .tab, .prot, .irq, .rings, .logFreeze, .rung] pl = true) (cell : Nat) (s : State) : Frames pl s (execDropStale cell s) := by
  refine widens (l := [.str, .deferred, .skl, .tab, .prot, .irq, .rings, .logFreeze, .rung]) ?_ w
  unfold execDropStale
  repeat' (first | (with_reducible rfl) | (simp (disch := decide) only [frames_next, apply_ite (blank [.str, .deferred, .skl, .tab, .prot, .irq, .rings, .logFreeze, .rung]), ite_self, log_blank, onCells_blank, onMon_blank, onPoss_blank, raiseTw_blank]; done) | (with_reducible refine ite_blank ?_ ?_) | split | (with_reducible refine (foldl_blank _ _ _ (fun _ _ => ?_)).trans ?_) | (dsimp only))
theorem execTempStale_blank {pl : List Part} (w : within [.str, .deferred, .skl, .tab, .thm, .prot, .irq, .rings, .logFreeze, .rung] pl = true) (idx : Nat) (s : State) : Frames pl s (execTempStale idx s) := by
  refine widens (l := [.str, .deferred, .skl, .tab, .thm, .prot, .irq, .rings, .logFreeze, .rung]) ?_ w
  unfold execTempStale
  repeat' (first | (with_reducible rfl) | (simp (disch := decide) only [frames_next, apply_ite (blank [.str, .deferred, .skl, .tab, .thm, .prot, .irq, .rings, .logFreeze, .rung]), ite_self, log_blank, onMon_blank, onTab_blank, raiseTw_blank, thermScan_blank]; done) | (with_reducible refine ite_blank ?_ ?_) | split | (with_reducible refine (foldl_blank _ _ _ (fun _ _ => ?_)).trans ?_) | (dsimp only))
theorem execOnDemandSnapshotRequest_blank {pl : List Part} (w : within [.deferred, .skl, .host, .irq, .rings, .logFreeze, .rung, .out] pl = true) (r : HostReq) (s : State) : Frames pl s (execOnDemandSnapshotRequest r s) := by
  refine widens (l := [.deferred, .skl, .host, .irq, .rings, .logFreeze, .rung, .out]) ?_ w
  unfold execOnDemandSnapshotRequest
  repeat' (first | (with_reducible rfl) | (simp (disch := decide) only [frames_next, apply_ite (blank [.deferred, .skl, .host, .irq, .rings, .logFreeze, .rung, .out]), ite_self, onSkl_blank, refuseState_blank, respond_blank]; done) | (with_reducible refine ite_blank ?_ ?_) | split | (with_reducible refine (foldl_blank _ _ _ (fun _ _ => ?_)).trans ?_) | (dsimp only))
theorem ringStart_blank {pl : List Part} (w : within [.pins, .skl, .irq, .rings, .rung] pl = true) (s : State) : blank pl (ringStart s) = blank pl s := by
  refine widen (l := [.pins, .skl, .irq, .rings, .rung]) ?_ w
  simp (disch := decide) only [ringStart, onPins_blank, onSkl_blank, sklQueue_blank]
theorem exciteTick_blank {pl : List Part} (w : within [.imp] pl = true) (s : State) : blank pl (exciteTick s) = blank pl s := by
  refine widen (l := [.imp]) ?_ w
  unfold exciteTick
  split <;> simp (disch := decide) only [apply_ite (blank [.imp]), ite_self, onImp_blank]
theorem exciteFrame_blank {pl : List Part} (w : within [.imp] pl = true) (s : State) : blank pl (exciteFrame s) = blank pl s := by
  refine widen (l := [.imp]) ?_ w
  simp (disch := decide) only [exciteFrame, onImp_blank]
theorem corrTick_blank {pl : List Part} (w : within [.imp] pl = true) (s : State) : blank pl (corrTick s) = blank pl s := by
  refine widen (l := [.imp]) ?_ w
  unfold corrTick
  split <;> simp (disch := decide) only [apply_ite (blank [.imp]), ite_self, onImp_blank]
theorem driftTrack_blank {pl : List Part} (w : within [.imp] pl = true) (s : State) : blank pl (driftTrack s) = blank pl s := by
  refine widen (l := [.imp]) ?_ w
  simp (disch := decide) only [driftTrack, onImp_blank]
theorem nextBlock_blank {pl : List Part} (w : within [.deferred, .imp, .ops, .irq, .rings, .logFreeze, .rung] pl = true) (s : State) : blank pl (nextBlock s) = blank pl s := by
  refine widen (l := [.deferred, .imp, .ops, .irq, .rings, .logFreeze, .rung]) ?_ w
  unfold nextBlock
  split <;> simp (disch := decide) only [apply_ite (blank [.deferred, .imp, .ops, .irq, .rings, .logFreeze, .rung]), ite_self, endOp_blank, log_blank, onImp_blank, publishOp_blank]
theorem putPoints_blank {pl : List Part} (w : within [.imp] pl = true) (tones : List Nat) (new : List ZPoint) (s : State) : blank pl (putPoints tones new s) = blank pl s := by
  refine widen (l := [.imp]) ?_ w
  simp (disch := decide) only [putPoints, onImp_blank]
theorem skipBlock_blank {pl : List Part} (w : within [.deferred, .skl, .imp, .ops, .irq, .rings, .logFreeze, .rung] pl = true) (s : State) : blank pl (skipBlock s) = blank pl s := by
  refine widen (l := [.deferred, .skl, .imp, .ops, .irq, .rings, .logFreeze, .rung]) ?_ w
  unfold skipBlock
  split <;> simp (disch := decide) only [apply_ite (blank [.deferred, .skl, .imp, .ops, .irq, .rings, .logFreeze, .rung]), ite_self, log_blank, nextBlock_blank, onImp_blank, onSkl_blank, putPoints_blank]
theorem blockHeadroom_blank {pl : List Part} (w : within [.deferred, .skl, .imp, .ops, .irq, .rings, .logFreeze, .rung] pl = true) (s : State) : blank pl (blockHeadroom s) = blank pl s := by
  refine widen (l := [.deferred, .skl, .imp, .ops, .irq, .rings, .logFreeze, .rung]) ?_ w
  unfold blockHeadroom
  split <;> simp (disch := decide) only [apply_ite (blank [.deferred, .skl, .imp, .ops, .irq, .rings, .logFreeze, .rung]), ite_self, skipBlock_blank]
theorem execImpedanceBlockStart_blank {pl : List Part} (w : within [.deferred, .skl, .imp, .ops, .irq, .rings, .logFreeze, .rung] pl = true) (s : State) : Frames pl s (execImpedanceBlockStart s) := by
  refine widens (l := [.deferred, .skl, .imp, .ops, .irq, .rings, .logFreeze, .rung]) ?_ w
  unfold execImpedanceBlockStart
  repeat' (first | (with_reducible rfl) | (simp (disch := decide) only [frames_next, apply_ite (blank [.deferred, .skl, .imp, .ops, .irq, .rings, .logFreeze, .rung]), ite_self, onImp_blank, skipBlock_blank]; done) | (with_reducible refine ite_blank ?_ ?_) | split | (with_reducible refine (foldl_blank _ _ _ (fun _ _ => ?_)).trans ?_) | (dsimp only))
theorem execLockinIntegrationStart_blank {pl : List Part} (w : within [.imp] pl = true) (s : State) : Frames pl s (execLockinIntegrationStart s) := by
  refine widens (l := [.imp]) ?_ w
  unfold execLockinIntegrationStart
  repeat' (first | (with_reducible rfl) | (simp (disch := decide) only [frames_next, apply_ite (blank [.imp]), ite_self, onImp_blank]; done) | (with_reducible refine ite_blank ?_ ?_) | split | (with_reducible refine (foldl_blank _ _ _ (fun _ _ => ?_)).trans ?_) | (dsimp only))
theorem execLockinIntegrationEnd_blank {pl : List Part} (w : within [.deferred, .imp, .irq, .rings, .logFreeze, .rung] pl = true) (s : State) : Frames pl s (execLockinIntegrationEnd s) := by
  refine widens (l := [.deferred, .imp, .irq, .rings, .logFreeze, .rung]) ?_ w
  unfold execLockinIntegrationEnd
  repeat' (first | (with_reducible rfl) | (simp (disch := decide) only [frames_next, apply_ite (blank [.deferred, .imp, .irq, .rings, .logFreeze, .rung]), ite_self, log_blank, onImp_blank]; done) | (with_reducible refine ite_blank ?_ ?_) | split | (with_reducible refine (foldl_blank _ _ _ (fun _ _ => ?_)).trans ?_) | (dsimp only))
theorem useTTone_blank {pl : List Part} (w : within [.deferred, .tab, .irq, .rings, .logFreeze, .rung] pl = true) (z : ZPoint) (endAt : Nat) (s : State) : blank pl (useTTone z endAt s) = blank pl s := by
  refine widen (l := [.deferred, .tab, .irq, .rings, .logFreeze, .rung]) ?_ w
  unfold useTTone
  repeat' (first | (with_reducible rfl) | (simp (disch := decide) only [apply_ite (blank [.deferred, .tab, .irq, .rings, .logFreeze, .rung]), ite_self, log_blank, onCells_blank, onPos_blank]; done) | (with_reducible refine ite_blank ?_ ?_) | split | (with_reducible refine (foldl_blank _ _ _ (fun _ _ => ?_)).trans ?_) | (dsimp only))
theorem useRTone_blank {pl : List Part} (w : within [.tab] pl = true) (z : ZPoint) (s : State) : blank pl (useRTone z s) = blank pl s := by
  refine widen (l := [.tab]) ?_ w
  simp (disch := decide) only [useRTone, onPos_blank]
theorem usePoint_blank {pl : List Part} (w : within [.deferred, .tab, .imp, .irq, .rings, .logFreeze, .rung] pl = true) (endAt : Nat) (s : State) (z : ZPoint) : blank pl (usePoint endAt s z) = blank pl s := by
  refine widen (l := [.deferred, .tab, .imp, .irq, .rings, .logFreeze, .rung]) ?_ w
  simp (disch := decide) only [usePoint, apply_ite (blank [.deferred, .tab, .imp, .irq, .rings, .logFreeze, .rung]), ite_self, log_blank, onImp_blank, useRTone_blank, useTTone_blank]
theorem execImpedanceReduction_blank {pl : List Part} (w : within [.deferred, .skl, .tab, .imp, .ops, .irq, .rings, .logFreeze, .rung] pl = true) (s : State) : Frames pl s (execImpedanceReduction s) := by
  refine widens (l := [.deferred, .skl, .tab, .imp, .ops, .irq, .rings, .logFreeze, .rung]) ?_ w
  unfold execImpedanceReduction
  repeat' (first | (with_reducible rfl) | (simp (disch := decide) only [frames_next, apply_ite (blank [.deferred, .skl, .tab, .imp, .ops, .irq, .rings, .logFreeze, .rung]), ite_self, nextBlock_blank, onImp_blank, onSkl_blank, putPoints_blank, usePoint_blank]; done) | (with_reducible refine ite_blank ?_ ?_) | split | (with_reducible refine (foldl_blank _ _ _ (fun _ _ => ?_)).trans ?_) | (dsimp only) | (simp (disch := decide) only [frames_next, apply_ite (blank [.deferred, .skl, .tab, .imp, .ops, .irq, .rings, .logFreeze, .rung]), ite_self, nextBlock_blank, onImp_blank, onSkl_blank, putPoints_blank, usePoint_blank]))
theorem sweepStart_blank {pl : List Part} (w : within [.imp, .ops] pl = true) (plan : Nat) (session : Nat) (s : State) : blank pl (sweepStart plan session s) = blank pl s := by
  refine widen (l := [.imp, .ops]) ?_ w
  simp (disch := decide) only [sweepStart, createOp_blank, onImp_blank]
theorem execAutoSweepDue_blank {pl : List Part} (w : within [.imp, .ops] pl = true) (s : State) : Frames pl s (execAutoSweepDue s) := by
  refine widens (l := [.imp, .ops]) ?_ w
  unfold execAutoSweepDue
  repeat' (first | (with_reducible rfl) | (simp (disch := decide) only [frames_next, apply_ite (blank [.imp, .ops]), ite_self, onImp_blank, sweepStart_blank]; done) | (with_reducible refine ite_blank ?_ ?_) | split | (with_reducible refine (foldl_blank _ _ _ (fun _ _ => ?_)).trans ?_) | (dsimp only))
theorem execTIntExpired_blank {pl : List Part} (w : within [.tab] pl = true) (pos : Nat) (s : State) : Frames pl s (execTIntExpired pos s) := by
  refine widens (l := [.tab]) ?_ w
  unfold execTIntExpired
  repeat' (first | (with_reducible rfl) | (simp (disch := decide) only [frames_next, apply_ite (blank [.tab]), ite_self, onCells_blank, onPos_blank]; done) | (with_reducible refine ite_blank ?_ ?_) | split | (with_reducible refine (foldl_blank _ _ _ (fun _ _ => ?_)).trans ?_) | (dsimp only))
theorem walkStep_blank {pl : List Part} (w : within [.deferred, .dsp, .irq, .rings, .logFreeze, .rung] pl = true) (s : State) : blank pl (walkStep s) = blank pl s := by
  refine widen (l := [.deferred, .dsp, .irq, .rings, .logFreeze, .rung]) ?_ w
  simp (disch := decide) only [walkStep, apply_ite (blank [.deferred, .dsp, .irq, .rings, .logFreeze, .rung]), ite_self, log_blank, onDsp_blank]
theorem budgets_blank {pl : List Part} (w : within [.deferred, .dsp, .irq, .rings, .logFreeze, .rung] pl = true) (s0 : State) : blank pl (budgets s0) = blank pl s0 := by
  refine widen (l := [.deferred, .dsp, .irq, .rings, .logFreeze, .rung]) ?_ w
  simp (disch := decide) only [budgets, apply_ite (blank [.deferred, .dsp, .irq, .rings, .logFreeze, .rung]), ite_self, onDsp_blank, walkStep_blank]
theorem coalesced_blank {pl : List Part} (w : within [.deferred, .dsp, .irq, .rings, .logFreeze, .rung] pl = true) (s : State) : blank pl (coalesced s) = blank pl s := by
  refine widen (l := [.deferred, .dsp, .irq, .rings, .logFreeze, .rung]) ?_ w
  simp (disch := decide) only [coalesced, apply_ite (blank [.deferred, .dsp, .irq, .rings, .logFreeze, .rung]), ite_self, log_blank, onDsp_blank]
theorem takeSetPoint_blank {pl : List Part} (w : within [.tb, .deferred, .dsp, .irq, .rings, .logFreeze, .rung] pl = true) (s : State) : blank pl (takeSetPoint s) = blank pl s := by
  refine widen (l := [.tb, .deferred, .dsp, .irq, .rings, .logFreeze, .rung]) ?_ w
  unfold takeSetPoint
  repeat' (first | (with_reducible rfl) | (simp (disch := decide) only [apply_ite (blank [.tb, .deferred, .dsp, .irq, .rings, .logFreeze, .rung]), ite_self, coalesced_blank, onDsp_blank, onTb_blank]; done) | (with_reducible refine ite_blank ?_ ?_) | split | (with_reducible refine (foldl_blank _ _ _ (fun _ _ => ?_)).trans ?_) | (dsimp only))
theorem holdCount_blank {pl : List Part} (w : within [.dsp] pl = true) (s : State) : blank pl (holdCount s) = blank pl s := by
  refine widen (l := [.dsp]) ?_ w
  simp (disch := decide) only [holdCount, apply_ite (blank [.dsp]), ite_self, onDsp_blank]
theorem execSetpointTimeout_blank {pl : List Part} (w : within [.deferred, .dsp, .irq, .rings, .logFreeze, .rung] pl = true) (s : State) : Frames pl s (execSetpointTimeout s) := by
  refine widens (l := [.deferred, .dsp, .irq, .rings, .logFreeze, .rung]) ?_ w
  unfold execSetpointTimeout
  repeat' (first | (with_reducible rfl) | (simp (disch := decide) only [frames_next, apply_ite (blank [.deferred, .dsp, .irq, .rings, .logFreeze, .rung]), ite_self, log_blank, onDsp_blank]; done) | (with_reducible refine ite_blank ?_ ?_) | split | (with_reducible refine (foldl_blank _ _ _ (fun _ _ => ?_)).trans ?_) | (dsimp only))
theorem twilightFall_blank {pl : List Part} (w : within [.prot] pl = true) (s : State) : blank pl (twilightFall s) = blank pl s := by
  refine widen (l := [.prot]) ?_ w
  simp (disch := decide) only [twilightFall, onProt_blank]
theorem envelopes_blank {pl : List Part} (w : within [.dsp] pl = true) (s : State) : blank pl (envelopes s) = blank pl s := by
  refine widen (l := [.dsp]) ?_ w
  simp (disch := decide) only [envelopes, onDsp_blank]
theorem limitedNote_blank {pl : List Part} (w : within [.deferred, .dsp, .irq, .rings, .logFreeze, .rung] pl = true) (was : Bool) (target : Rat) (bound : Rat) (s : State) : blank pl (limitedNote was target bound s) = blank pl s := by
  refine widen (l := [.deferred, .dsp, .irq, .rings, .logFreeze, .rung]) ?_ w
  simp (disch := decide) only [limitedNote, apply_ite (blank [.deferred, .dsp, .irq, .rings, .logFreeze, .rung]), ite_self, log_blank, onDsp_blank]
theorem dispatchRef_blank {pl : List Part} (w : within [.deferred, .dsp, .irq, .rings, .logFreeze, .rung] pl = true) (s : State) : blank pl (dispatchRef s) = blank pl s := by
  refine widen (l := [.deferred, .dsp, .irq, .rings, .logFreeze, .rung]) ?_ w
  simp (disch := decide) only [dispatchRef, limitedNote_blank, onDsp_blank]
theorem execLimitsAndDispatch_blank {pl : List Part} (w : within [.deferred, .skl, .imp, .cnv, .dsp, .prot, .ops, .irq, .rings, .logFreeze, .rung] pl = true) (s : State) : Frames pl s (execLimitsAndDispatch s) := by
  refine widens (l := [.deferred, .skl, .imp, .cnv, .dsp, .prot, .ops, .irq, .rings, .logFreeze, .rung]) ?_ w
  unfold execLimitsAndDispatch
  repeat' (first | (with_reducible rfl) | (simp (disch := decide) only [frames_next, apply_ite (blank [.deferred, .skl, .imp, .cnv, .dsp, .prot, .ops, .irq, .rings, .logFreeze, .rung]), ite_self, blockHeadroom_blank, dispatchRef_blank, envelopes_blank, onDsp_blank, schedRun_blank, twilightFall_blank]; done) | (with_reducible refine ite_blank ?_ ?_) | split | (with_reducible refine (foldl_blank _ _ _ (fun _ _ => ?_)).trans ?_) | (dsimp only))
theorem classify_blank {pl : List Part} (w : within [.irq, .fresh] pl = true) (src : Nat) (was : State) (s : State) : blank pl (classify src was s) = blank pl s := by
  refine widen (l := [.irq, .fresh]) ?_ w
  simp (disch := decide) only [classify, apply_ite (blank [.irq, .fresh]), ite_self, onIrq_blank, tickFresh_blank]
theorem execIrqSourceEvent_blank {pl : List Part} (w : within [.irq, .rings, .rung, .fresh] pl = true) (src : Nat) (rising : Bool) (s : State) : Frames pl s (execIrqSourceEvent src rising s) := by
  refine widens (l := [.irq, .rings, .rung, .fresh]) ?_ w
  simp (disch := decide) only [execIrqSourceEvent, frames_next, classify_blank, irqEvent_blank]
theorem wakes_blank {pl : List Part} (w : within [.irq, .rings, .rung] pl = true) (src : Nat) (s : State) : blank pl (wakes src s) = blank pl s := by
  refine widen (l := [.irq, .rings, .rung]) ?_ w
  simp (disch := decide) only [wakes, ringNotes_blank, wakeOnDeliver_blank]
theorem execIrqCoalesceTimeout_blank {pl : List Part} (w : within [.irq, .rings, .rung] pl = true) (src : Nat) (s : State) : Frames pl s (execIrqCoalesceTimeout src s) := by
  refine widens (l := [.irq, .rings, .rung]) ?_ w
  unfold execIrqCoalesceTimeout
  repeat' (first | (with_reducible rfl) | (simp (disch := decide) only [frames_next, apply_ite (blank [.irq, .rings, .rung]), ite_self, onIrq_blank, reselect_blank, wakes_blank]; done) | (with_reducible refine ite_blank ?_ ?_) | split | (with_reducible refine (foldl_blank _ _ _ (fun _ _ => ?_)).trans ?_) | (dsimp only))
theorem onTgt_blank {pl : List Part} (w : within [.irq] pl = true) (tgt : Nat) (g : IrqTgt → IrqTgt) (s : State) : blank pl (onTgt tgt g s) = blank pl s := by
  refine widen (l := [.irq]) ?_ w
  simp (disch := decide) only [onTgt, onIrq_blank]
theorem execIrqClaim_blank {pl : List Part} (w : within [.irq] pl = true) (tgt : Nat) (s : State) : Frames pl s (execIrqClaim tgt s) := by
  refine widens (l := [.irq]) ?_ w
  unfold execIrqClaim
  repeat' (first | (with_reducible rfl) | (simp (disch := decide) only [frames_next, apply_ite (blank [.irq]), ite_self, onIrq_blank, onTgt_blank]; done) | (with_reducible refine ite_blank ?_ ?_) | split | (with_reducible refine (foldl_blank _ _ _ (fun _ _ => ?_)).trans ?_) | (dsimp only))
theorem execIrqEoi_blank {pl : List Part} (w : within [.irq] pl = true) (tgt : Nat) (value : Word) (s : State) : Frames pl s (execIrqEoi tgt value s) := by
  refine widens (l := [.irq]) ?_ w
  unfold execIrqEoi
  repeat' (first | (with_reducible rfl) | (simp (disch := decide) only [frames_next, apply_ite (blank [.irq]), ite_self, onIrq_blank, onTgt_blank]; done) | (with_reducible refine ite_blank ?_ ?_) | split | (with_reducible refine (foldl_blank _ _ _ (fun _ _ => ?_)).trans ?_) | (dsimp only))
theorem retract_blank {pl : List Part} (w : within [.irq] pl = true) (old : State) (s : State) : blank pl (retract old s) = blank pl s := by
  refine widen (l := [.irq]) ?_ w
  simp (disch := decide) only [retract, onIrq_blank]
theorem execIrqSrcCfgWrite_blank {pl : List Part} (w : within [.irq, .rings, .rung] pl = true) (src : Nat) (coal : Bool) (value : Word) (s : State) : Frames pl s (execIrqSrcCfgWrite src coal value s) := by
  refine widens (l := [.irq, .rings, .rung]) ?_ w
  unfold execIrqSrcCfgWrite
  split <;> simp (disch := decide) only [frames_next, apply_ite (blank [.irq, .rings, .rung]), ite_self, onIrq_blank, reselect_blank, retract_blank, wakes_blank]
theorem execIrqThresholdWrite_blank {pl : List Part} (w : within [.irq] pl = true) (tgt : Nat) (value : Word) (s : State) : Frames pl s (execIrqThresholdWrite tgt value s) := by
  refine widens (l := [.irq]) ?_ w
  unfold execIrqThresholdWrite
  split <;> simp (disch := decide) only [frames_next, apply_ite (blank [.irq]), ite_self, onTgt_blank, reselect_blank, retract_blank]
theorem execRegisterWrite_blank {pl : List Part} (w : within [.rings] pl = true) (ring : Nat) (value : Word) (s : State) : Frames pl s (execRegisterWrite ring value s) := by
  refine widens (l := [.rings]) ?_ w
  simp (disch := decide) only [execRegisterWrite, frames_next, onRing_blank]
theorem execRingReserve_blank {pl : List Part} (w : within [.irq, .rings, .rung] pl = true) (ring : Nat) (len : Nat) (s : State) : Frames pl s (execRingReserve ring len s) := by
  refine widens (l := [.irq, .rings, .rung]) ?_ w
  unfold execRingReserve
  split <;> simp (disch := decide) only [frames_next, apply_ite (blank [.irq, .rings, .rung]), ite_self, onRing_blank, refuseCore_blank, ringNotes_blank]
theorem execRingCommit_blank {pl : List Part} (w : within [.irq, .rings, .rung] pl = true) (ring : Nat) (kind : Nat) (poison : Bool) (data : Bytes) (s : State) : Frames pl s (execRingCommit ring kind poison data s) := by
  refine widens (l := [.irq, .rings, .rung]) ?_ w
  unfold execRingCommit
  repeat' (first | (with_reducible rfl) | (simp (disch := decide) only [frames_next, apply_ite (blank [.irq, .rings, .rung]), ite_self, commitCore_blank, ringNotes_blank]; done) | (with_reducible refine ite_blank ?_ ?_) | split | (with_reducible refine (foldl_blank _ _ _ (fun _ _ => ?_)).trans ?_) | (dsimp only))
theorem execRingRewind_blank {pl : List Part} (w : within [.rings] pl = true) (ring : Nat) (s : State) : Frames pl s (execRingRewind ring s) := by
  refine widens (l := [.rings]) ?_ w
  simp (disch := decide) only [execRingRewind, frames_next, onRing_blank]
theorem loseRequests_blank {pl : List Part} (w : within [.host] pl = true) (ring : Nat) (ps : List Packet) (s : State) : blank pl (loseRequests ring ps s) = blank pl s := by
  refine widen (l := [.host]) ?_ w
  unfold loseRequests
  repeat' (first | (with_reducible rfl) | (simp (disch := decide) only [apply_ite (blank [.host]), ite_self, onSession_blank]; done) | (with_reducible refine ite_blank ?_ ?_) | split | (with_reducible refine (foldl_blank _ _ _ (fun _ _ => ?_)).trans ?_) | (dsimp only))
theorem discardPoisoned_blank {pl : List Part} (w : within [.deferred, .host, .irq, .rings, .logFreeze, .rung] pl = true) (ring : Nat) (s : State) : blank pl (discardPoisoned ring s) = blank pl s := by
  refine widen (l := [.deferred, .host, .irq, .rings, .logFreeze, .rung]) ?_ w
  unfold discardPoisoned
  split <;> simp (disch := decide) only [apply_ite (blank [.deferred, .host, .irq, .rings, .logFreeze, .rung]), ite_self, log_blank, loseRequests_blank, onRing_blank]
theorem execRingRelease_blank {pl : List Part} (w : within [.deferred, .host, .irq, .rings, .logFreeze, .rung] pl = true) (ring : Nat) (s : State) : Frames pl s (execRingRelease ring s) := by
  refine widens (l := [.deferred, .host, .irq, .rings, .logFreeze, .rung]) ?_ w
  simp (disch := decide) only [execRingRelease, frames_next, discardPoisoned_blank, ringRel_blank]
theorem execRingWordRead_blank {pl : List Part} (w : within [.deferred, .host, .irq, .rings, .logFreeze, .hlth, .rung] pl = true) (ring : Nat) (off : Nat) (parityOk : Bool) (s : State) : Frames pl s (execRingWordRead ring off parityOk s) := by
  refine widens (l := [.deferred, .host, .irq, .rings, .logFreeze, .hlth, .rung]) ?_ w
  unfold execRingWordRead
  repeat' (first | (with_reducible rfl) | (simp (disch := decide) only [frames_next, apply_ite (blank [.deferred, .host, .irq, .rings, .logFreeze, .hlth, .rung]), ite_self, addDefect_blank, irqEvent_blank, log_blank, loseRequests_blank, onRing_blank, waterIrq_blank]; done) | (with_reducible refine ite_blank ?_ ?_) | split | (with_reducible refine (foldl_blank _ _ _ (fun _ _ => ?_)).trans ?_) | (dsimp only))
theorem closeOpen_blank {pl : List Part} (w : within [.rcd, .logFreeze] pl = true) (s : State) : blank pl (closeOpen s) = blank pl s := by
  refine widen (l := [.rcd, .logFreeze]) ?_ w
  unfold closeOpen
  split <;> simp (disch := decide) only [apply_ite (blank [.rcd, .logFreeze]), ite_self, onRcd_blank]
theorem notifyRecord_blank {pl : List Part} (w : within [.tb, .deferred, .host, .irq, .rings, .logFreeze, .rung, .out] pl = true) (r : Rec) (s : State) : blank pl (notifyRecord r s) = blank pl s := by
  refine widen (l := [.tb, .deferred, .host, .irq, .rings, .logFreeze, .rung, .out]) ?_ w
  unfold notifyRecord
  repeat' (first | (with_reducible rfl) | (simp (disch := decide) only [apply_ite (blank [.tb, .deferred, .host, .irq, .rings, .logFreeze, .rung, .out]), ite_self, notify_blank]; done) | (with_reducible refine ite_blank ?_ ?_) | split | (with_reducible refine (foldl_blank _ _ _ (fun _ _ => ?_)).trans ?_) | (dsimp only))
theorem openRecord_blank {pl : List Part} (w : within [.tb, .deferred, .host, .irq, .rings, .rcd, .logFreeze, .rung, .out] pl = true) (i : Intake) (summary : Bool) (s : State) : blank pl (openRecord i summary s) = blank pl s := by
  refine widen (l := [.tb, .deferred, .host, .irq, .rings, .rcd, .logFreeze, .rung, .out]) ?_ w
  simp (disch := decide) only [openRecord, closeOpen_blank, notifyRecord_blank, onRcd_blank]
theorem writeOwn_blank {pl : List Part} (w : within [.tb, .deferred, .host, .irq, .rings, .rcd, .logFreeze, .rung, .out] pl = true) (code : Nat) (sev : Nat) (data : Bytes) (summary : Bool) (s : State) : blank pl (writeOwn code sev data summary s) = blank pl s := by
  refine widen (l := [.tb, .deferred, .host, .irq, .rings, .rcd, .logFreeze, .rung, .out]) ?_ w
  simp (disch := decide) only [writeOwn, openRecord_blank]
theorem foldRecord_blank {pl : List Part} (w : within [.tb, .deferred, .host, .irq, .rings, .rcd, .logFreeze, .rung, .out] pl = true) (i : Intake) (s : State) : blank pl (foldRecord i s) = blank pl s := by
  refine widen (l := [.tb, .deferred, .host, .irq, .rings, .rcd, .logFreeze, .rung, .out]) ?_ w
  unfold foldRecord
  split <;> simp (disch := decide) only [apply_ite (blank [.tb, .deferred, .host, .irq, .rings, .rcd, .logFreeze, .rung, .out]), ite_self, closeOpen_blank, onRcd_blank, openRecord_blank]
theorem markLosses_blank {pl : List Part} (w : within [.tb, .deferred, .host, .irq, .rings, .rcd, .logFreeze, .rung, .out] pl = true) (ring : Nat) (s : State) : blank pl (markLosses ring s) = blank pl s := by
  refine widen (l := [.tb, .deferred, .host, .irq, .rings, .rcd, .logFreeze, .rung, .out]) ?_ w
  simp (disch := decide) only [markLosses, apply_ite (blank [.tb, .deferred, .host, .irq, .rings, .rcd, .logFreeze, .rung, .out]), ite_self, onRing_blank, writeOwn_blank]
theorem takeRecord_blank {pl : List Part} (w : within [.tb, .deferred, .host, .irq, .rings, .rcd, .logFreeze, .rung, .out] pl = true) (ring : Nat) (i : Intake) (s : State) : blank pl (takeRecord ring i s) = blank pl s := by
  refine widen (l := [.tb, .deferred, .host, .irq, .rings, .rcd, .logFreeze, .rung, .out]) ?_ w
  simp (disch := decide) only [takeRecord, apply_ite (blank [.tb, .deferred, .host, .irq, .rings, .rcd, .logFreeze, .rung, .out]), ite_self, foldRecord_blank, markLosses_blank, onRcd_blank]
theorem execRecordIntake_blank {pl : List Part} (w : within [.tb, .deferred, .host, .irq, .rings, .rcd, .logFreeze, .rung, .out] pl = true) (ring : Nat) (s : State) : Frames pl s (execRecordIntake ring s) := by
  refine widens (l := [.tb, .deferred, .host, .irq, .rings, .rcd, .logFreeze, .rung, .out]) ?_ w
  unfold execRecordIntake
  repeat' (first | (with_reducible rfl) | (simp (disch := decide) only [frames_next, apply_ite (blank [.tb, .deferred, .host, .irq, .rings, .rcd, .logFreeze, .rung, .out]), ite_self, log_blank, onRing_blank, ringRel_blank, takeRecord_blank]; done) | (with_reducible refine ite_blank ?_ ?_) | split | (with_reducible refine (foldl_blank _ _ _ (fun _ _ => ?_)).trans ?_) | (dsimp only))
theorem execRecordCloseTimeout_blank {pl : List Part} (w : within [.rcd, .logFreeze] pl = true) (s : State) : Frames pl s (execRecordCloseTimeout s) := by
  refine widens (l := [.rcd, .logFreeze]) ?_ w
  unfold execRecordCloseTimeout
  split <;> simp (disch := decide) only [frames_next, apply_ite (blank [.rcd, .logFreeze]), ite_self, closeOpen_blank]
theorem execRecordFlush_blank {pl : List Part} (w : within [.rcd, .logFreeze] pl = true) (s : State) : Frames pl s (execRecordFlush s) := by
  refine widens (l := [.rcd, .logFreeze]) ?_ w
  unfold execRecordFlush
  split <;> simp (disch := decide) only [frames_next, apply_ite (blank [.rcd, .logFreeze]), ite_self, onRcd_blank, storeRecord_blank]
theorem writeSummaries_blank {pl : List Part} (w : within [.tb, .deferred, .host, .irq, .rings, .rcd, .logFreeze, .rung, .out] pl = true) (s : State) : blank pl (writeSummaries s) = blank pl s := by
  refine widen (l := [.tb, .deferred, .host, .irq, .rings, .rcd, .logFreeze, .rung, .out]) ?_ w
  unfold writeSummaries
  repeat' (first | (with_reducible rfl) | (simp (disch := decide) only [apply_ite (blank [.tb, .deferred, .host, .irq, .rings, .rcd, .logFreeze, .rung, .out]), ite_self, writeOwn_blank]; done) | (with_reducible refine ite_blank ?_ ?_) | split | (with_reducible refine (foldl_blank _ _ _ (fun _ _ => ?_)).trans ?_) | (dsimp only))
theorem execRateWindowEnd_blank {pl : List Part} (w : within [.tb, .deferred, .host, .irq, .rings, .rcd, .logFreeze, .rung, .out] pl = true) (s : State) : Frames pl s (execRateWindowEnd s) := by
  refine widens (l := [.tb, .deferred, .host, .irq, .rings, .rcd, .logFreeze, .rung, .out]) ?_ w
  unfold execRateWindowEnd
  split <;> simp (disch := decide) only [frames_next, apply_ite (blank [.tb, .deferred, .host, .irq, .rings, .rcd, .logFreeze, .rung, .out]), ite_self, onRcd_blank, writeSummaries_blank]
theorem execLimitedPeriodEnd_blank {pl : List Part} (w : within [.tb, .deferred, .host, .irq, .rings, .rcd, .logFreeze, .rung, .out] pl = true) (s : State) : Frames pl s (execLimitedPeriodEnd s) := by
  refine widens (l := [.tb, .deferred, .host, .irq, .rings, .rcd, .logFreeze, .rung, .out]) ?_ w
  unfold execLimitedPeriodEnd
  split <;> simp (disch := decide) only [frames_next, apply_ite (blank [.tb, .deferred, .host, .irq, .rings, .rcd, .logFreeze, .rung, .out]), ite_self, onRcd_blank, writeSummaries_blank]
theorem execFreezeLogMaxElapsed_blank {pl : List Part} (w : within [.deferred, .irq, .rings, .logFreeze, .rung] pl = true) (s : State) : Frames pl s (execFreezeLogMaxElapsed s) := by
  refine widens (l := [.deferred, .irq, .rings, .logFreeze, .rung]) ?_ w
  simp (disch := decide) only [execFreezeLogMaxElapsed, frames_next, apply_ite (blank [.deferred, .irq, .rings, .logFreeze, .rung]), ite_self, thawLog_blank]
theorem freezeLog_blank {pl : List Part} (w : within [.deferred, .irq, .rings, .rcd, .logFreeze, .rung] pl = true) (session : Nat) (s : State) : blank pl (freezeLog session s) = blank pl s := by
  refine widen (l := [.deferred, .irq, .rings, .rcd, .logFreeze, .rung]) ?_ w
  simp (disch := decide) only [freezeLog, closeOpen_blank, log_blank, onRcd_blank]
theorem execLogExportChunk_blank {pl : List Part} (w : within [.tb, .deferred, .met, .est, .imp, .bal, .iso, .host, .ops, .irq, .rings, .rcd, .logFreeze, .rung, .out] pl = true) (s : State) : Frames pl s (execLogExportChunk s) := by
  refine widens (l := [.tb, .deferred, .met, .est, .imp, .bal, .iso, .host, .ops, .irq, .rings, .rcd, .logFreeze, .rung, .out]) ?_ w
  unfold execLogExportChunk
  repeat' (first | (with_reducible rfl) | (simp (disch := decide) only [frames_next, apply_ite (blank [.tb, .deferred, .met, .est, .imp, .bal, .iso, .host, .ops, .irq, .rings, .rcd, .logFreeze, .rung, .out]), ite_self, closeOp_blank, endOp_blank, log_blank, notify_blank, onRcd_blank]; done) | (with_reducible refine ite_blank ?_ ?_) | split | (with_reducible refine (foldl_blank _ _ _ (fun _ _ => ?_)).trans ?_) | (dsimp only))
theorem canErrState_blank {pl : List Part} (w : within [.deferred, .irq, .rings, .logFreeze, .can, .rung] pl = true) (ctl : Nat) (s : State) : blank pl (canErrState ctl s) = blank pl s := by
  refine widen (l := [.deferred, .irq, .rings, .logFreeze, .can, .rung]) ?_ w
  simp (disch := decide) only [canErrState, apply_ite (blank [.deferred, .irq, .rings, .logFreeze, .can, .rung]), ite_self, irqEvent_blank, log_blank, onCtl_blank]
theorem execCanBusIntegration_blank {pl : List Part} (w : within [.can] pl = true) (ctl : Nat) (s : State) : Frames pl s (execCanBusIntegration ctl s) := by
  refine widens (l := [.can]) ?_ w
  unfold execCanBusIntegration
  repeat' (first | (with_reducible rfl) | (simp (disch := decide) only [frames_next, apply_ite (blank [.can]), ite_self, onCtl_blank]; done) | (with_reducible refine ite_blank ?_ ?_) | split | (with_reducible refine (foldl_blank _ _ _ (fun _ _ => ?_)).trans ?_) | (dsimp only))
theorem execCanFrameReceived_blank {pl : List Part} (w : within [.deferred, .irq, .rings, .logFreeze, .can, .rung] pl = true) (ctl : Nat) (f : CanFrame) (s : State) : Frames pl s (execCanFrameReceived ctl f s) := by
  refine widens (l := [.deferred, .irq, .rings, .logFreeze, .can, .rung]) ?_ w
  unfold execCanFrameReceived
  repeat' (first | (with_reducible rfl) | (simp (disch := decide) only [frames_next, apply_ite (blank [.deferred, .irq, .rings, .logFreeze, .can, .rung]), ite_self, canErrState_blank, log_blank, onCtl_blank, ringPut_blank]; done) | (with_reducible refine ite_blank ?_ ?_) | split | (with_reducible refine (foldl_blank _ _ _ (fun _ _ => ?_)).trans ?_) | (dsimp only))
theorem execCanTxComplete_blank {pl : List Part} (w : within [.deferred, .irq, .rings, .logFreeze, .can, .rung] pl = true) (ctl : Nat) (mb : Nat) (delay : Option Nat) (s : State) : Frames pl s (execCanTxComplete ctl mb delay s) := by
  refine widens (l := [.deferred, .irq, .rings, .logFreeze, .can, .rung]) ?_ w
  unfold execCanTxComplete
  repeat' (first | (with_reducible rfl) | (simp (disch := decide) only [frames_next, apply_ite (blank [.deferred, .irq, .rings, .logFreeze, .can, .rung]), ite_self, canErrState_blank, onCtl_blank, ringPut_blank]; done) | (with_reducible refine ite_blank ?_ ?_) | split | (with_reducible refine (foldl_blank _ _ _ (fun _ _ => ?_)).trans ?_) | (dsimp only))
theorem execCanBusError_blank {pl : List Part} (w : within [.deferred, .irq, .rings, .logFreeze, .can, .rung] pl = true) (ctl : Nat) (tecInc : Nat) (recInc : Nat) (arbLost : Bool) (delay : Option Nat) (s : State) : Frames pl s (execCanBusError ctl tecInc recInc arbLost delay s) := by
  refine widens (l := [.deferred, .irq, .rings, .logFreeze, .can, .rung]) ?_ w
  unfold execCanBusError
  repeat' (first | (with_reducible rfl) | (simp (disch := decide) only [frames_next, apply_ite (blank [.deferred, .irq, .rings, .logFreeze, .can, .rung]), ite_self, canErrState_blank, irqEvent_blank, log_blank, onCtl_blank]; done) | (with_reducible refine ite_blank ?_ ?_) | split | (with_reducible refine (foldl_blank _ _ _ (fun _ _ => ?_)).trans ?_) | (dsimp only))
theorem execCanBusOffRecovery_blank {pl : List Part} (w : within [.deferred, .irq, .rings, .logFreeze, .can, .rung] pl = true) (ctl : Nat) (s : State) : Frames pl s (execCanBusOffRecovery ctl s) := by
  refine widens (l := [.deferred, .irq, .rings, .logFreeze, .can, .rung]) ?_ w
  unfold execCanBusOffRecovery
  repeat' (first | (with_reducible rfl) | (simp (disch := decide) only [frames_next, apply_ite (blank [.deferred, .irq, .rings, .logFreeze, .can, .rung]), ite_self, canErrState_blank, irqEvent_blank, log_blank, onCtl_blank]; done) | (with_reducible refine ite_blank ?_ ?_) | split | (with_reducible refine (foldl_blank _ _ _ (fun _ _ => ?_)).trans ?_) | (dsimp only))
theorem execTripCopyResend_blank {pl : List Part} (w : within [.can] pl = true) (s : State) : Frames pl s (execTripCopyResend s) := by
  refine widens (l := [.can]) ?_ w
  simp (disch := decide) only [execTripCopyResend, frames_next, apply_ite (blank [.can]), ite_self, writeTripCopy_blank]
theorem declareAuxLost_blank {pl : List Part} (w : within [.str, .pins, .pwr, .deferred, .cnv, .dsp, .prot, .irq, .rings, .logFreeze, .rung] pl = true) (atOnce : Bool) (s : State) : blank pl (declareAuxLost atOnce s) = blank pl s := by
  refine widen (l := [.str, .pins, .pwr, .deferred, .cnv, .dsp, .prot, .irq, .rings, .logFreeze, .rung]) ?_ w
  simp (disch := decide) only [declareAuxLost, apply_ite (blank [.str, .pins, .pwr, .deferred, .cnv, .dsp, .prot, .irq, .rings, .logFreeze, .rung]), ite_self, log_blank, onPins_blank, onPwr_blank, safeStop_blank]
theorem j1Down_blank {pl : List Part} (w : within [.str, .pins, .pwr, .deferred, .cnv, .dsp, .prot, .irq, .rings, .logFreeze, .rung] pl = true) (s : State) : blank pl (j1Down s) = blank pl s := by
  refine widen (l := [.str, .pins, .pwr, .deferred, .cnv, .dsp, .prot, .irq, .rings, .logFreeze, .rung]) ?_ w
  simp (disch := decide) only [j1Down, apply_ite (blank [.str, .pins, .pwr, .deferred, .cnv, .dsp, .prot, .irq, .rings, .logFreeze, .rung]), ite_self, declareAuxLost_blank, onPwr_blank]
theorem wakeDawn_blank {pl : List Part} (w : within [.tick, .str, .pins, .pwr, .tb, .dawn, .deferred, .idn, .cfg, .met, .skl, .tab, .est, .jrn, .imp, .cnv, .dsp, .bal, .thm, .prot, .cont, .iso, .pair, .host, .ops, .irq, .rings, .rcd, .logFreeze, .can, .hlth, .lad, .rung, .upd, .jtag, .out, .fresh] pl = true) (reason : Nat) (cause : Nat) (s : State) : blank pl (wakeDawn reason cause s) = blank pl s := by
  refine widen (l := [.tick, .str, .pins, .pwr, .tb, .dawn, .deferred, .idn, .cfg, .met, .skl, .tab, .est, .jrn, .imp, .cnv, .dsp, .bal, .thm, .prot, .cont, .iso, .pair, .host, .ops, .irq, .rings, .rcd, .logFreeze, .can, .hlth, .lad, .rung, .upd, .jtag, .out, .fresh]) ?_ w
  simp (disch := decide) only [wakeDawn, newDawn_blank, onLad_blank]
theorem j1Up_blank {pl : List Part} (w : within [.tick, .str, .pins, .pwr, .tb, .dawn, .deferred, .idn, .cfg, .met, .skl, .tab, .est, .jrn, .imp, .cnv, .dsp, .bal, .thm, .prot, .cont, .iso, .pair, .host, .ops, .irq, .rings, .rcd, .logFreeze, .can, .hlth, .lad, .rung, .upd, .jtag, .out, .fresh] pl = true) (s : State) : blank pl (j1Up s) = blank pl s := by
  refine widen (l := [.tick, .str, .pins, .pwr, .tb, .dawn, .deferred, .idn, .cfg, .met, .skl, .tab, .est, .jrn, .imp, .cnv, .dsp, .bal, .thm, .prot, .cont, .iso, .pair, .host, .ops, .irq, .rings, .rcd, .logFreeze, .can, .hlth, .lad, .rung, .upd, .jtag, .out, .fresh]) ?_ w
  unfold j1Up
  repeat' (first | (with_reducible rfl) | (simp (disch := decide) only [apply_ite (blank [.tick, .str, .pins, .pwr, .tb, .dawn, .deferred, .idn, .cfg, .met, .skl, .tab, .est, .jrn, .imp, .cnv, .dsp, .bal, .thm, .prot, .cont, .iso, .pair, .host, .ops, .irq, .rings, .rcd, .logFreeze, .can, .hlth, .lad, .rung, .upd, .jtag, .out, .fresh]), ite_self, log_blank, onPwr_blank, wakeDawn_blank]; done) | (with_reducible refine ite_blank ?_ ?_) | split | (with_reducible refine (foldl_blank _ _ _ (fun _ _ => ?_)).trans ?_) | (dsimp only))
theorem execJ1BelowThreshold_blank {pl : List Part} (w : within [.str, .pins, .pwr, .deferred, .cnv, .dsp, .prot, .irq, .rings, .logFreeze, .rung] pl = true) (s : State) : Frames pl s (execJ1BelowThreshold s) := by
  refine widens (l := [.str, .pins, .pwr, .deferred, .cnv, .dsp, .prot, .irq, .rings, .logFreeze, .rung]) ?_ w
  unfold execJ1BelowThreshold
  split <;> simp (disch := decide) only [frames_next, apply_ite (blank [.str, .pins, .pwr, .deferred, .cnv, .dsp, .prot, .irq, .rings, .logFreeze, .rung]), ite_self, j1Down_blank, onPwr_blank]
theorem execJ1Restored_blank {pl : List Part} (w : within [.tick, .str, .pins, .pwr, .tb, .dawn, .deferred, .idn, .cfg, .met, .skl, .tab, .est, .jrn, .imp, .cnv, .dsp, .bal, .thm, .prot, .cont, .iso, .pair, .host, .ops, .irq, .rings, .rcd, .logFreeze, .can, .hlth, .lad, .rung, .upd, .jtag, .out, .fresh] pl = true) (s : State) : Frames pl s (execJ1Restored s) := by
  refine widens (l := [.tick, .str, .pins, .pwr, .tb, .dawn, .deferred, .idn, .cfg, .met, .skl, .tab, .est, .jrn, .imp, .cnv, .dsp, .bal, .thm, .prot, .cont, .iso, .pair, .host, .ops, .irq, .rings, .rcd, .logFreeze, .can, .hlth, .lad, .rung, .upd, .jtag, .out, .fresh]) ?_ w
  unfold execJ1Restored
  split <;> simp (disch := decide) only [frames_next, apply_ite (blank [.tick, .str, .pins, .pwr, .tb, .dawn, .deferred, .idn, .cfg, .met, .skl, .tab, .est, .jrn, .imp, .cnv, .dsp, .bal, .thm, .prot, .cont, .iso, .pair, .host, .ops, .irq, .rings, .rcd, .logFreeze, .can, .hlth, .lad, .rung, .upd, .jtag, .out, .fresh]), ite_self, j1Up_blank, onPwr_blank]
theorem execAuxOvervoltage_blank {pl : List Part} (w : within [.str, .pins, .pwr, .deferred, .cnv, .dsp, .prot, .irq, .rings, .logFreeze, .rung] pl = true) (s : State) : Frames pl s (execAuxOvervoltage s) := by
  refine widens (l := [.str, .pins, .pwr, .deferred, .cnv, .dsp, .prot, .irq, .rings, .logFreeze, .rung]) ?_ w
  unfold execAuxOvervoltage
  split <;> simp (disch := decide) only [frames_next, apply_ite (blank [.str, .pins, .pwr, .deferred, .cnv, .dsp, .prot, .irq, .rings, .logFreeze, .rung]), ite_self, j1Down_blank, log_blank, onPwr_blank]
theorem execAuxOvervoltageCleared_blank {pl : List Part} (w : within [.tick, .str, .pins, .pwr, .tb, .dawn, .deferred, .idn, .cfg, .met, .skl, .tab, .est, .jrn, .imp, .cnv, .dsp, .bal, .thm, .prot, .cont, .iso, .pair, .host, .ops, .irq, .rings, .rcd, .logFreeze, .can, .hlth, .lad, .rung, .upd, .jtag, .out, .fresh] pl = true) (s : State) : Frames pl s (execAuxOvervoltageCleared s) := by
  refine widens (l := [.tick, .str, .pins, .pwr, .tb, .dawn, .deferred, .idn, .cfg, .met, .skl, .tab, .est, .jrn, .imp, .cnv, .dsp, .bal, .thm, .prot, .cont, .iso, .pair, .host, .ops, .irq, .rings, .rcd, .logFreeze, .can, .hlth, .lad, .rung, .upd, .jtag, .out, .fresh]) ?_ w
  unfold execAuxOvervoltageCleared
  split <;> simp (disch := decide) only [frames_next, apply_ite (blank [.tick, .str, .pins, .pwr, .tb, .dawn, .deferred, .idn, .cfg, .met, .skl, .tab, .est, .jrn, .imp, .cnv, .dsp, .bal, .thm, .prot, .cont, .iso, .pair, .host, .ops, .irq, .rings, .rcd, .logFreeze, .can, .hlth, .lad, .rung, .upd, .jtag, .out, .fresh]), ite_self, j1Up_blank, onPwr_blank]
theorem execAuxLost_blank {pl : List Part} (w : within [.str, .pins, .pwr, .deferred, .cnv, .dsp, .prot, .irq, .rings, .logFreeze, .rung] pl = true) (s : State) : Frames pl s (execAuxLost s) := by
  refine widens (l := [.str, .pins, .pwr, .deferred, .cnv, .dsp, .prot, .irq, .rings, .logFreeze, .rung]) ?_ w
  unfold execAuxLost
  split <;> simp (disch := decide) only [frames_next, apply_ite (blank [.str, .pins, .pwr, .deferred, .cnv, .dsp, .prot, .irq, .rings, .logFreeze, .rung]), ite_self, declareAuxLost_blank]
theorem execFullOperationEnd_blank {pl : List Part} (w : within [.pins, .pwr, .pair, .rcd, .logFreeze] pl = true) (s : State) : Frames pl s (execFullOperationEnd s) := by
  refine widens (l := [.pins, .pwr, .pair, .rcd, .logFreeze]) ?_ w
  unfold execFullOperationEnd
  repeat' (first | (with_reducible rfl) | (simp (disch := decide) only [frames_next, apply_ite (blank [.pins, .pwr, .pair, .rcd, .logFreeze]), ite_self, closeOpen_blank, onPair_blank, onPins_blank, onPwr_blank]; done) | (with_reducible refine ite_blank ?_ ?_) | split | (with_reducible refine (foldl_blank _ _ _ (fun _ _ => ?_)).trans ?_) | (dsimp only))
theorem execBrownOutSaveComplete_blank {pl : List Part} (w : within [.tick, .str, .pins, .pwr, .tb, .dawn, .deferred, .idn, .cfg, .met, .skl, .tab, .est, .jrn, .imp, .cnv, .dsp, .bal, .thm, .prot, .cont, .iso, .pair, .host, .ops, .irq, .rings, .rcd, .logFreeze, .can, .hlth, .lad, .rung, .upd, .jtag, .out, .fresh] pl = true) (saved : Bool) (s : State) : Frames pl s (execBrownOutSaveComplete saved s) := by
  refine widens (l := [.tick, .str, .pins, .pwr, .tb, .dawn, .deferred, .idn, .cfg, .met, .skl, .tab, .est, .jrn, .imp, .cnv, .dsp, .bal, .thm, .prot, .cont, .iso, .pair, .host, .ops, .irq, .rings, .rcd, .logFreeze, .can, .hlth, .lad, .rung, .upd, .jtag, .out, .fresh]) ?_ w
  unfold execBrownOutSaveComplete
  split <;> simp (disch := decide) only [frames_next, apply_ite (blank [.tick, .str, .pins, .pwr, .tb, .dawn, .deferred, .idn, .cfg, .met, .skl, .tab, .est, .jrn, .imp, .cnv, .dsp, .bal, .thm, .prot, .cont, .iso, .pair, .host, .ops, .irq, .rings, .rcd, .logFreeze, .can, .hlth, .lad, .rung, .upd, .jtag, .out, .fresh]), ite_self, brownOutJournal_blank, enterOff_blank, flushBuffer_blank, onLad_blank, onPwr_blank, wakeDawn_blank]
theorem execAuxPowerApplied_blank {pl : List Part} (w : within [.tick, .str, .pins, .pwr, .tb, .dawn, .deferred, .idn, .cfg, .met, .skl, .tab, .est, .jrn, .imp, .cnv, .dsp, .bal, .thm, .prot, .cont, .iso, .pair, .host, .ops, .irq, .rings, .rcd, .logFreeze, .can, .hlth, .lad, .rung, .upd, .jtag, .out, .fresh] pl = true) (reason : Nat) (s : State) : Frames pl s (execAuxPowerApplied reason s) := by
  refine widens (l := [.tick, .str, .pins, .pwr, .tb, .dawn, .deferred, .idn, .cfg, .met, .skl, .tab, .est, .jrn, .imp, .cnv, .dsp, .bal, .thm, .prot, .cont, .iso, .pair, .host, .ops, .irq, .rings, .rcd, .logFreeze, .can, .hlth, .lad, .rung, .upd, .jtag, .out, .fresh]) ?_ w
  unfold execAuxPowerApplied
  repeat' (first | (with_reducible rfl) | (simp (disch := decide) only [frames_next, apply_ite (blank [.tick, .str, .pins, .pwr, .tb, .dawn, .deferred, .idn, .cfg, .met, .skl, .tab, .est, .jrn, .imp, .cnv, .dsp, .bal, .thm, .prot, .cont, .iso, .pair, .host, .ops, .irq, .rings, .rcd, .logFreeze, .can, .hlth, .lad, .rung, .upd, .jtag, .out, .fresh]), ite_self, onPwr_blank, wakeDawn_blank]; done) | (with_reducible refine ite_blank ?_ ?_) | split | (with_reducible refine (foldl_blank _ _ _ (fun _ _ => ?_)).trans ?_) | (dsimp only))
theorem execHoldupBankBelow20v_blank {pl : List Part} (w : within [.pwr, .jrn, .rings, .rcd, .logFreeze, .lad, .rung] pl = true) (s : State) : Frames pl s (execHoldupBankBelow20v s) := by
  refine widens (l := [.pwr, .jrn, .rings, .rcd, .logFreeze, .lad, .rung]) ?_ w
  unfold execHoldupBankBelow20v
  split <;> simp (disch := decide) only [frames_next, apply_ite (blank [.pwr, .jrn, .rings, .rcd, .logFreeze, .lad, .rung]), ite_self, onJrn_blank, onLad_blank, onPwr_blank, onRcd_blank, onRings_blank]
theorem execRailFault_blank {pl : List Part} (w : within [.tick, .str, .pins, .pwr, .tb, .dawn, .deferred, .idn, .cfg, .met, .skl, .tab, .est, .jrn, .imp, .cnv, .dsp, .bal, .thm, .prot, .cont, .iso, .pair, .host, .ops, .irq, .rings, .rcd, .logFreeze, .can, .hlth, .lad, .rung, .upd, .jtag, .out, .fresh] pl = true) (rail : Nat) (value : Nat) (s : State) : Frames pl s (execRailFault rail value s) := by
  refine widens (l := [.tick, .str, .pins, .pwr, .tb, .dawn, .deferred, .idn, .cfg, .met, .skl, .tab, .est, .jrn, .imp, .cnv, .dsp, .bal, .thm, .prot, .cont, .iso, .pair, .host, .ops, .irq, .rings, .rcd, .logFreeze, .can, .hlth, .lad, .rung, .upd, .jtag, .out, .fresh]) ?_ w
  unfold execRailFault
  split <;> simp (disch := decide) only [frames_next, apply_ite (blank [.tick, .str, .pins, .pwr, .tb, .dawn, .deferred, .idn, .cfg, .met, .skl, .tab, .est, .jrn, .imp, .cnv, .dsp, .bal, .thm, .prot, .cont, .iso, .pair, .host, .ops, .irq, .rings, .rcd, .logFreeze, .can, .hlth, .lad, .rung, .upd, .jtag, .out, .fresh]), ite_self, newDawn_blank, onPwr_blank, outputsOff_blank]
theorem execSensSupplyFault_blank {pl : List Part} (w : within [.str, .pins, .pwr, .deferred, .idn, .met, .est, .imp, .cnv, .dsp, .bal, .prot, .iso, .pair, .host, .ops, .irq, .rings, .rcd, .logFreeze, .can, .rung] pl = true) (_supply : Nat) (s : State) : Frames pl s (execSensSupplyFault _supply s) := by
  refine widens (l := [.str, .pins, .pwr, .deferred, .idn, .met, .est, .imp, .cnv, .dsp, .bal, .prot, .iso, .pair, .host, .ops, .irq, .rings, .rcd, .logFreeze, .can, .rung]) ?_ w
  unfold execSensSupplyFault
  split <;> simp (disch := decide) only [frames_next, apply_ite (blank [.str, .pins, .pwr, .deferred, .idn, .met, .est, .imp, .cnv, .dsp, .bal, .prot, .iso, .pair, .host, .ops, .irq, .rings, .rcd, .logFreeze, .can, .rung]), ite_self, hardwareFault_blank, log_blank, onPins_blank, onPwr_blank]
theorem takeString_blank {pl : List Part} (w : within [.str, .prot] pl = true) (b : Bytes) (s : State) : blank pl (takeString b s) = blank pl s := by
  refine widen (l := [.str, .prot]) ?_ w
  simp (disch := decide) only [takeString, apply_ite (blank [.str, .prot]), ite_self, onProt_blank, onStr_blank]
theorem takeLoops_blank {pl : List Part} (w : within [.cnv] pl = true) (b : Bytes) (s : State) : blank pl (takeLoops b s) = blank pl s := by
  refine widen (l := [.cnv]) ?_ w
  simp (disch := decide) only [takeLoops, onCnv_blank]
theorem takeDispatch_blank {pl : List Part} (w : within [.dsp] pl = true) (b : Bytes) (s : State) : blank pl (takeDispatch b s) = blank pl s := by
  refine widen (l := [.dsp]) ?_ w
  simp (disch := decide) only [takeDispatch, onDsp_blank]
theorem takeProtection_blank {pl : List Part} (w : within [.prot, .cont, .iso] pl = true) (b : Bytes) (s : State) : blank pl (takeProtection b s) = blank pl s := by
  refine widen (l := [.prot, .cont, .iso]) ?_ w
  simp (disch := decide) only [takeProtection, onCont_blank, onIso_blank, onProt_blank]
theorem takeOps_blank {pl : List Part} (w : within [.ops] pl = true) (b : Bytes) (s : State) : blank pl (takeOps b s) = blank pl s := by
  refine widen (l := [.ops]) ?_ w
  simp (disch := decide) only [takeOps, onOps_blank]
theorem takeRest_blank {pl : List Part} (w : within [.skl, .bal, .thm] pl = true) (b : Bytes) (s : State) : blank pl (takeRest b s) = blank pl s := by
  refine widen (l := [.skl, .bal, .thm]) ?_ w
  simp (disch := decide) only [takeRest, onBal_blank, onSkl_blank, onTb_blank, onThm_blank]
theorem takeControl_blank {pl : List Part} (w : within [.str, .skl, .cnv, .dsp, .bal, .thm, .prot, .cont, .iso, .ops] pl = true) (b : Bytes) (s : State) : blank pl (takeControl b s) = blank pl s := by
  refine widen (l := [.str, .skl, .cnv, .dsp, .bal, .thm, .prot, .cont, .iso, .ops]) ?_ w
  simp (disch := decide) only [takeControl, markSnaps_blank, takeDispatch_blank, takeLoops_blank, takeOps_blank, takeProtection_blank, takeRest_blank, takeString_blank]
theorem bankClocks_blank {pl : List Part} (w : within [.tab] pl = true) (k : Nat) (b : Bank) (s : State) : blank pl (bankClocks k b s) = blank pl s := by
  refine widen (l := [.tab]) ?_ w
  simp (disch := decide) only [bankClocks, onTab_blank]
theorem bankTaken_blank {pl : List Part} (w : within [.skl, .tab] pl = true) (k : Nat) (b : Bank) (s : State) : blank pl (bankTaken k b s) = blank pl s := by
  refine widen (l := [.skl, .tab]) ?_ w
  simp (disch := decide) only [bankTaken, apply_ite (blank [.skl, .tab]), ite_self, bankClocks_blank, logBank_blank, onSkl_blank]
theorem takeBank_blank {pl : List Part} (w : within [.skl, .tab] pl = true) (b : Bytes) (s : State) : blank pl (takeBank b s) = blank pl s := by
  refine widen (l := [.skl, .tab]) ?_ w
  unfold takeBank
  repeat' (first | (with_reducible rfl) | (simp (disch := decide) only [apply_ite (blank [.skl, .tab]), ite_self, bankTaken_blank, onTab_blank]; done) | (with_reducible refine ite_blank ?_ ?_) | split | (with_reducible refine (foldl_blank _ _ _ (fun _ _ => ?_)).trans ?_) | (dsimp only))
theorem takeUnit_blank {pl : List Part} (w : within [.tab] pl = true) (k : Nat) (b : Bytes) (s : State) : blank pl (takeUnit k b s) = blank pl s := by
  refine widen (l := [.tab]) ?_ w
  unfold takeUnit
  repeat' (first | (with_reducible rfl) | (simp (disch := decide) only [apply_ite (blank [.tab]), ite_self, onCell_blank, onPos_blank, onTab_blank]; done) | (with_reducible refine ite_blank ?_ ?_) | split | (with_reducible refine (foldl_blank _ _ _ (fun _ _ => ?_)).trans ?_) | (dsimp only))
theorem takeSegment_blank {pl : List Part} (w : within [.tab] pl = true) (n : Nat) (b : Bytes) (s : State) : blank pl (takeSegment n b s) = blank pl s := by
  refine widen (l := [.tab]) ?_ w
  unfold takeSegment
  repeat' (first | (with_reducible rfl) | (simp (disch := decide) only [apply_ite (blank [.tab]), ite_self, takeUnit_blank]; done) | (with_reducible refine ite_blank ?_ ?_) | split | (with_reducible refine (foldl_blank _ _ _ (fun _ _ => ?_)).trans ?_) | (dsimp only))
theorem takeRegion_blank {pl : List Part} (w : within [.skl, .tab, .est, .jrn, .imp, .bal] pl = true) (region : Bytes) (s : State) : blank pl (takeRegion region s) = blank pl s := by
  refine widen (l := [.skl, .tab, .est, .jrn, .imp, .bal]) ?_ w
  simp (disch := decide) only [takeRegion, onBal_blank, onEst_blank, onImp_blank, onJrn_blank, onSkl_blank, onTab_blank]
theorem sendHandover_blank {pl : List Part} (w : within [.pair, .out] pl = true) (tick : Nat) (phase : Nat) (s : State) : blank pl (sendHandover tick phase s) = blank pl s := by
  refine widen (l := [.pair, .out]) ?_ w
  simp (disch := decide) only [sendHandover, sendMirror_blank]
theorem queueMirror_blank {pl : List Part} (w : within [.tb, .pair, .out] pl = true) (mtype : Nat) (at_ : Nat) (payload : Bytes) (s : State) : blank pl (queueMirror mtype at_ payload s) = blank pl s := by
  refine widen (l := [.tb, .pair, .out]) ?_ w
  simp (disch := decide) only [queueMirror, apply_ite (blank [.tb, .pair, .out]), ite_self, onTb_blank, sendMirror_blank]
theorem mirrorBeat_blank {pl : List Part} (w : within [.tb, .pair, .out] pl = true) (s : State) : blank pl (mirrorBeat s) = blank pl s := by
  refine widen (l := [.tb, .pair, .out]) ?_ w
  simp (disch := decide) only [mirrorBeat, apply_ite (blank [.tb, .pair, .out]), ite_self, queueMirror_blank]
theorem mirrorFrame_blank {pl : List Part} (w : within [.tb, .pair, .out] pl = true) (s : State) : blank pl (mirrorFrame s) = blank pl s := by
  refine widen (l := [.tb, .pair, .out]) ?_ w
  unfold mirrorFrame
  repeat' (first | (with_reducible rfl) | (simp (disch := decide) only [apply_ite (blank [.tb, .pair, .out]), ite_self, onPair_blank, queueMirror_blank, sendMirror_blank]; done) | (with_reducible refine ite_blank ?_ ?_) | split | (with_reducible refine (foldl_blank _ _ _ (fun _ _ => ?_)).trans ?_) | (dsimp only))
theorem mirrorBank_blank {pl : List Part} (w : within [.pair, .out] pl = true) (k : Nat) (s : State) : blank pl (mirrorBank k s) = blank pl s := by
  refine widen (l := [.pair, .out]) ?_ w
  unfold mirrorBank
  repeat' (first | (with_reducible rfl) | (simp (disch := decide) only [apply_ite (blank [.pair, .out]), ite_self, sendMirror_blank]; done) | (with_reducible refine ite_blank ?_ ?_) | split | (with_reducible refine (foldl_blank _ _ _ (fun _ _ => ?_)).trans ?_) | (dsimp only))
theorem mirrorStatus_blank {pl : List Part} (w : within [.tb, .pair, .out] pl = true) (s : State) : blank pl (mirrorStatus s) = blank pl s := by
  refine widen (l := [.tb, .pair, .out]) ?_ w
  simp (disch := decide) only [mirrorStatus, apply_ite (blank [.tb, .pair, .out]), ite_self, queueMirror_blank]
theorem joinFault_blank {pl : List Part} (w : within [.deferred, .pair, .irq, .rings, .logFreeze, .rung] pl = true) (cause : Nat) (s : State) : blank pl (joinFault cause s) = blank pl s := by
  refine widen (l := [.deferred, .pair, .irq, .rings, .logFreeze, .rung]) ?_ w
  simp (disch := decide) only [joinFault, apply_ite (blank [.deferred, .pair, .irq, .rings, .logFreeze, .rung]), ite_self, admissionRestart_blank]
theorem badMirror_blank {pl : List Part} (w : within [.deferred, .pair, .irq, .rings, .logFreeze, .rung] pl = true) (s : State) : blank pl (badMirror s) = blank pl s := by
  refine widen (l := [.deferred, .pair, .irq, .rings, .logFreeze, .rung]) ?_ w
  simp (disch := decide) only [badMirror, joinFault_blank, onPair_blank]
theorem takeSeq_blank {pl : List Part} (w : within [.deferred, .pair, .irq, .rings, .logFreeze, .rung] pl = true) (r : MirrorRx) (s : State) : blank pl (takeSeq r s) = blank pl s := by
  refine widen (l := [.deferred, .pair, .irq, .rings, .logFreeze, .rung]) ?_ w
  simp (disch := decide) only [takeSeq, apply_ite (blank [.deferred, .pair, .irq, .rings, .logFreeze, .rung]), ite_self, joinFault_blank, onPair_blank]
theorem onMirror_blank {pl : List Part} (w : within [.deferred, .pair, .irq, .rings, .logFreeze, .rung] pl = true) (mtype : Nat) (frame : Bytes) (f : MirrorRx → State → State) (s : State) (h : ∀ a t, blank pl (f a t) = blank pl t) : blank pl (onMirror mtype frame f s) = blank pl s := by
  unfold onMirror
  repeat' (first | (with_reducible rfl) | (simp (disch := first | decide | exact within_trans (by decide) w) only [apply_ite (blank pl), ite_self, badMirror_blank, takeSeq_blank, h]; done) | (with_reducible refine ite_blank ?_ ?_) | split | (with_reducible refine (foldl_blank _ _ _ (fun _ _ => ?_)).trans ?_) | (dsimp only))
theorem refusePartner_blank {pl : List Part} (w : within [.deferred, .pair, .irq, .rings, .logFreeze, .rung] pl = true) (step : Nat) (s : State) : blank pl (refusePartner step s) = blank pl s := by
  refine widen (l := [.deferred, .pair, .irq, .rings, .logFreeze, .rung]) ?_ w
  simp (disch := decide) only [refusePartner, log_blank, onPair_blank]
theorem keysStart_blank {pl : List Part} (w : within [.pair, .out, .fresh] pl = true) (s : State) : blank pl (keysStart s) = blank pl s := by
  refine widen (l := [.pair, .out, .fresh]) ?_ w
  simp (disch := decide) only [keysStart, onPair_blank, sendMirror_blank, tickFresh_blank]
theorem judgeIdentity_blank {pl : List Part} (w : within [.deferred, .pair, .irq, .rings, .logFreeze, .rung, .out, .fresh] pl = true) (r : MirrorRx) (s : State) : blank pl (judgeIdentity r s) = blank pl s := by
  refine widen (l := [.deferred, .pair, .irq, .rings, .logFreeze, .rung, .out, .fresh]) ?_ w
  simp (disch := decide) only [judgeIdentity, apply_ite (blank [.deferred, .pair, .irq, .rings, .logFreeze, .rung, .out, .fresh]), ite_self, keysStart_blank, log_blank, refusePartner_blank]
theorem helloInOff_blank {pl : List Part} (w : within [.tick, .str, .pins, .pwr, .tb, .dawn, .deferred, .idn, .cfg, .met, .skl, .tab, .est, .jrn, .imp, .cnv, .dsp, .bal, .thm, .prot, .cont, .iso, .pair, .host, .ops, .irq, .rings, .rcd, .logFreeze, .can, .hlth, .lad, .rung, .upd, .jtag, .out, .fresh] pl = true) (frame : Bytes) (s : State) : blank pl (helloInOff frame s) = blank pl s := by
  refine widen (l := [.tick, .str, .pins, .pwr, .tb, .dawn, .deferred, .idn, .cfg, .met, .skl, .tab, .est, .jrn, .imp, .cnv, .dsp, .bal, .thm, .prot, .cont, .iso, .pair, .host, .ops, .irq, .rings, .rcd, .logFreeze, .can, .hlth, .lad, .rung, .upd, .jtag, .out, .fresh]) ?_ w
  unfold helloInOff
  repeat' (first | (with_reducible rfl) | (simp (disch := decide) only [apply_ite (blank [.tick, .str, .pins, .pwr, .tb, .dawn, .deferred, .idn, .cfg, .met, .skl, .tab, .est, .jrn, .imp, .cnv, .dsp, .bal, .thm, .prot, .cont, .iso, .pair, .host, .ops, .irq, .rings, .rcd, .logFreeze, .can, .hlth, .lad, .rung, .upd, .jtag, .out, .fresh]), ite_self, onLad_blank, wakeDawn_blank]; done) | (with_reducible refine ite_blank ?_ ?_) | split | (with_reducible refine (foldl_blank _ _ _ (fun _ _ => ?_)).trans ?_) | (dsimp only))
theorem takeHello_blank {pl : List Part} (w : within [.deferred, .pair, .irq, .rings, .logFreeze, .rung, .out, .fresh] pl = true) (r : MirrorRx) (s : State) : blank pl (takeHello r s) = blank pl s := by
  refine widen (l := [.deferred, .pair, .irq, .rings, .logFreeze, .rung, .out, .fresh]) ?_ w
  unfold takeHello
  repeat' (first | (with_reducible rfl) | (simp (disch := decide) only [apply_ite (blank [.deferred, .pair, .irq, .rings, .logFreeze, .rung, .out, .fresh]), ite_self, judgeIdentity_blank, onPair_blank, sendMirror_blank]; done) | (with_reducible refine ite_blank ?_ ?_) | split | (with_reducible refine (foldl_blank _ _ _ (fun _ _ => ?_)).trans ?_) | (dsimp only))
theorem execHelloReceived_blank {pl : List Part} (w : within [.tick, .str, .pins, .pwr, .tb, .dawn, .deferred, .idn, .cfg, .met, .skl, .tab, .est, .jrn, .imp, .cnv, .dsp, .bal, .thm, .prot, .cont, .iso, .pair, .host, .ops, .irq, .rings, .rcd, .logFreeze, .can, .hlth, .lad, .rung, .upd, .jtag, .out, .fresh] pl = true) (frame : Bytes) (s : State) : Frames pl s (execHelloReceived frame s) := by
  refine widens (l := [.tick, .str, .pins, .pwr, .tb, .dawn, .deferred, .idn, .cfg, .met, .skl, .tab, .est, .jrn, .imp, .cnv, .dsp, .bal, .thm, .prot, .cont, .iso, .pair, .host, .ops, .irq, .rings, .rcd, .logFreeze, .can, .hlth, .lad, .rung, .upd, .jtag, .out, .fresh]) ?_ w
  unfold execHelloReceived
  repeat' (first | (with_reducible rfl) | (simp (disch := decide) only [frames_next, apply_ite (blank [.tick, .str, .pins, .pwr, .tb, .dawn, .deferred, .idn, .cfg, .met, .skl, .tab, .est, .jrn, .imp, .cnv, .dsp, .bal, .thm, .prot, .cont, .iso, .pair, .host, .ops, .irq, .rings, .rcd, .logFreeze, .can, .hlth, .lad, .rung, .upd, .jtag, .out, .fresh]), ite_self, helloInOff_blank, onMirror_blank, takeHello_blank]; done) | (with_reducible refine ite_blank ?_ ?_) | split | (with_reducible refine (foldl_blank _ _ _ (fun _ _ => ?_)).trans ?_) | (with_reducible refine (onMirror_blank (by decide) _ _ _ _ (fun _ _ => ?_)).trans ?_) | (dsimp only) | (simp (disch := decide) only [frames_next, apply_ite (blank [.tick, .str, .pins, .pwr, .tb, .dawn, .deferred, .idn, .cfg, .met, .skl, .tab, .est, .jrn, .imp, .cnv, .dsp, .bal, .thm, .prot, .cont, .iso, .pair, .host, .ops, .irq, .rings, .rcd, .logFreeze, .can, .hlth, .lad, .rung, .upd, .jtag, .out, .fresh]), ite_self, helloInOff_blank, onMirror_blank, takeHello_blank]))
theorem execHelloDue_blank {pl : List Part} (w : within [.pair, .out] pl = true) (s : State) : Frames pl s (execHelloDue s) := by
  refine widens (l := [.pair, .out]) ?_ w
  unfold execHelloDue
  repeat' (first | (with_reducible rfl) | (simp (disch := decide) only [frames_next, apply_ite (blank [.pair, .out]), ite_self, onPair_blank, sendMirror_blank]; done) | (with_reducible refine ite_blank ?_ ?_) | split | (with_reducible refine (foldl_blank _ _ _ (fun _ _ => ?_)).trans ?_) | (dsimp only))
theorem takeKeyx_blank {pl : List Part} (w : within [.deferred, .pair, .irq, .rings, .logFreeze, .rung, .out] pl = true) (r : MirrorRx) (s : State) : blank pl (takeKeyx r s) = blank pl s := by
  refine widen (l := [.deferred, .pair, .irq, .rings, .logFreeze, .rung, .out]) ?_ w
  unfold takeKeyx
  repeat' (first | (with_reducible rfl) | (simp (disch := decide) only [apply_ite (blank [.deferred, .pair, .irq, .rings, .logFreeze, .rung, .out]), ite_self, onPair_blank, refusePartner_blank, sendMirror_blank]; done) | (with_reducible refine ite_blank ?_ ?_) | split | (with_reducible refine (foldl_blank _ _ _ (fun _ _ => ?_)).trans ?_) | (dsimp only))
theorem execKeyxReceived_blank {pl : List Part} (w : within [.deferred, .pair, .irq, .rings, .logFreeze, .rung, .out] pl = true) (frame : Bytes) (s : State) : Frames pl s (execKeyxReceived frame s) := by
  refine widens (l := [.deferred, .pair, .irq, .rings, .logFreeze, .rung, .out]) ?_ w
  unfold execKeyxReceived
  repeat' (first | (with_reducible rfl) | (simp (disch := decide) only [frames_next, apply_ite (blank [.deferred, .pair, .irq, .rings, .logFreeze, .rung, .out]), ite_self, onMirror_blank, takeKeyx_blank]; done) | (with_reducible refine ite_blank ?_ ?_) | split | (with_reducible refine (foldl_blank _ _ _ (fun _ _ => ?_)).trans ?_) | (with_reducible refine (onMirror_blank (by decide) _ _ _ _ (fun _ _ => ?_)).trans ?_) | (dsimp only) | (simp (disch := decide) only [frames_next, apply_ite (blank [.deferred, .pair, .irq, .rings, .logFreeze, .rung, .out]), ite_self, onMirror_blank, takeKeyx_blank]))
theorem admitPartner_blank {pl : List Part} (w : within [.str, .deferred, .pair, .irq, .rings, .logFreeze, .rung] pl = true) (s : State) : blank pl (admitPartner s) = blank pl s := by
  refine widen (l := [.str, .deferred, .pair, .irq, .rings, .logFreeze, .rung]) ?_ w
  simp (disch := decide) only [admitPartner, log_blank, onPair_blank, onStr_blank]
theorem execAdmissionHeartbeatsComplete_blank {pl : List Part} (w : within [.str, .deferred, .pair, .irq, .rings, .logFreeze, .lad, .rung] pl = true) (s : State) : Frames pl s (execAdmissionHeartbeatsComplete s) := by
  refine widens (l := [.str, .deferred, .pair, .irq, .rings, .logFreeze, .lad, .rung]) ?_ w
  unfold execAdmissionHeartbeatsComplete
  split <;> simp (disch := decide) only [frames_next, apply_ite (blank [.str, .deferred, .pair, .irq, .rings, .logFreeze, .lad, .rung]), ite_self, admitPartner_blank, onPair_blank, setRung_blank]
theorem execImageSegmentOverdue_blank {pl : List Part} (w : within [.deferred, .pair, .irq, .rings, .logFreeze, .lad, .rung] pl = true) (s : State) : Frames pl s (execImageSegmentOverdue s) := by
  refine widens (l := [.deferred, .pair, .irq, .rings, .logFreeze, .lad, .rung]) ?_ w
  unfold execImageSegmentOverdue
  repeat' (first | (with_reducible rfl) | (simp (disch := decide) only [frames_next, apply_ite (blank [.deferred, .pair, .irq, .rings, .logFreeze, .lad, .rung]), ite_self, admissionRestart_blank, setRung_blank]; done) | (with_reducible refine ite_blank ?_ ?_) | split | (with_reducible refine (foldl_blank _ _ _ (fun _ _ => ?_)).trans ?_) | (dsimp only))
theorem partnerLost_blank {pl : List Part} (w : within [.str, .deferred, .pair, .irq, .rings, .logFreeze, .rung] pl = true) (frames : Nat) (s : State) : blank pl (partnerLost frames s) = blank pl s := by
  refine widen (l := [.str, .deferred, .pair, .irq, .rings, .logFreeze, .rung]) ?_ w
  simp (disch := decide) only [partnerLost, log_blank, onPair_blank, onStr_blank]
theorem execPartnerLost_blank {pl : List Part} (w : within [.str, .deferred, .pair, .irq, .rings, .logFreeze, .rung] pl = true) (s : State) : Frames pl s (execPartnerLost s) := by
  refine widens (l := [.str, .deferred, .pair, .irq, .rings, .logFreeze, .rung]) ?_ w
  unfold execPartnerLost
  split <;> simp (disch := decide) only [frames_next, apply_ite (blank [.str, .deferred, .pair, .irq, .rings, .logFreeze, .rung]), ite_self, partnerLost_blank]
theorem takeSb_blank {pl : List Part} (w : within [.str, .deferred, .pair, .irq, .rings, .logFreeze, .rung] pl = true) (r : MirrorRx) (s : State) : blank pl (takeSb r s) = blank pl s := by
  refine widen (l := [.str, .deferred, .pair, .irq, .rings, .logFreeze, .rung]) ?_ w
  unfold takeSb
  repeat' (first | (with_reducible rfl) | (simp (disch := decide) only [apply_ite (blank [.str, .deferred, .pair, .irq, .rings, .logFreeze, .rung]), ite_self, admitPartner_blank, onPair_blank, onStr_blank]; done) | (with_reducible refine ite_blank ?_ ?_) | split | (with_reducible refine (foldl_blank _ _ _ (fun _ _ => ?_)).trans ?_) | (dsimp only))
theorem execSbStatusReceived_blank {pl : List Part} (w : within [.str, .deferred, .pair, .irq, .rings, .logFreeze, .rung] pl = true) (frame : Bytes) (s : State) : Frames pl s (execSbStatusReceived frame s) := by
  refine widens (l := [.str, .deferred, .pair, .irq, .rings, .logFreeze, .rung]) ?_ w
  unfold execSbStatusReceived
  repeat' (first | (with_reducible rfl) | (simp (disch := decide) only [frames_next, apply_ite (blank [.str, .deferred, .pair, .irq, .rings, .logFreeze, .rung]), ite_self, onMirror_blank, takeSb_blank]; done) | (with_reducible refine ite_blank ?_ ?_) | split | (with_reducible refine (foldl_blank _ _ _ (fun _ _ => ?_)).trans ?_) | (with_reducible refine (onMirror_blank (by decide) _ _ _ _ (fun _ _ => ?_)).trans ?_) | (dsimp only) | (simp (disch := decide) only [frames_next, apply_ite (blank [.str, .deferred, .pair, .irq, .rings, .logFreeze, .rung]), ite_self, onMirror_blank, takeSb_blank]))
theorem loseContest_blank {pl : List Part} (w : within [.str, .pins, .tb, .deferred, .cnv, .thm, .prot, .cont, .pair, .irq, .rings, .logFreeze, .can, .rung] pl = true) (s : State) : blank pl (loseContest s) = blank pl s := by
  refine widen (l := [.str, .pins, .tb, .deferred, .cnv, .thm, .prot, .cont, .pair, .irq, .rings, .logFreeze, .can, .rung]) ?_ w
  simp (disch := decide) only [loseContest, log_blank, onPair_blank, releaseOwnership_blank]
theorem execOwnInRise_blank {pl : List Part} (w : within [.str, .pins, .tb, .deferred, .cnv, .thm, .prot, .cont, .pair, .irq, .rings, .logFreeze, .can, .rung] pl = true) (together : Bool) (s : State) : Frames pl s (execOwnInRise together s) := by
  refine widens (l := [.str, .pins, .tb, .deferred, .cnv, .thm, .prot, .cont, .pair, .irq, .rings, .logFreeze, .can, .rung]) ?_ w
  unfold execOwnInRise
  repeat' (first | (with_reducible rfl) | (simp (disch := decide) only [frames_next, apply_ite (blank [.str, .pins, .tb, .deferred, .cnv, .thm, .prot, .cont, .pair, .irq, .rings, .logFreeze, .can, .rung]), ite_self, loseContest_blank, onPair_blank]; done) | (with_reducible refine ite_blank ?_ ?_) | split | (with_reducible refine (foldl_blank _ _ _ (fun _ _ => ?_)).trans ?_) | (dsimp only))
theorem takeRing_blank {pl : List Part} (w : within [.skl, .tab] pl = true) (s : State) : blank pl (takeRing s) = blank pl s := by
  refine widen (l := [.skl, .tab]) ?_ w
  simp (disch := decide) only [takeRing, onMons_blank, onSkl_blank, onTab_blank, quarantine_blank]
theorem takeOwnership_blank {pl : List Part} (w : within [.str, .pins, .tb, .deferred, .skl, .tab, .dsp, .pair, .irq, .rings, .logFreeze, .lad, .rung] pl = true) (cause : Nat) (s : State) : blank pl (takeOwnership cause s) = blank pl s := by
  refine widen (l := [.str, .pins, .tb, .deferred, .skl, .tab, .dsp, .pair, .irq, .rings, .logFreeze, .lad, .rung]) ?_ w
  simp (disch := decide) only [takeOwnership, onDsp_blank, onPair_blank, onPins_blank, onStr_blank, setRung_blank, setSync_blank, takeRing_blank]
theorem ownerLost_blank {pl : List Part} (w : within [.str, .pins, .tb, .deferred, .skl, .tab, .dsp, .pair, .irq, .rings, .logFreeze, .lad, .rung] pl = true) (cause : Nat) (s : State) : blank pl (ownerLost cause s) = blank pl s := by
  refine widen (l := [.str, .pins, .tb, .deferred, .skl, .tab, .dsp, .pair, .irq, .rings, .logFreeze, .lad, .rung]) ?_ w
  simp (disch := decide) only [ownerLost, apply_ite (blank [.str, .pins, .tb, .deferred, .skl, .tab, .dsp, .pair, .irq, .rings, .logFreeze, .lad, .rung]), ite_self, log_blank, takeOwnership_blank]
theorem execOwnInFall_blank {pl : List Part} (w : within [.str, .pins, .tb, .deferred, .skl, .tab, .dsp, .pair, .irq, .rings, .logFreeze, .lad, .rung] pl = true) (s : State) : Frames pl s (execOwnInFall s) := by
  refine widens (l := [.str, .pins, .tb, .deferred, .skl, .tab, .dsp, .pair, .irq, .rings, .logFreeze, .lad, .rung]) ?_ w
  unfold execOwnInFall
  repeat' (first | (with_reducible rfl) | (simp (disch := decide) only [frames_next, apply_ite (blank [.str, .pins, .tb, .deferred, .skl, .tab, .dsp, .pair, .irq, .rings, .logFreeze, .lad, .rung]), ite_self, onPair_blank, ownerLost_blank]; done) | (with_reducible refine ite_blank ?_ ?_) | split | (with_reducible refine (foldl_blank _ _ _ (fun _ _ => ?_)).trans ?_) | (dsimp only))
theorem execHeartbeatDeadline_blank {pl : List Part} (w : within [.str, .pins, .tb, .deferred, .skl, .tab, .dsp, .pair, .irq, .rings, .logFreeze, .lad, .rung] pl = true) (s : State) : Frames pl s (execHeartbeatDeadline s) := by
  refine widens (l := [.str, .pins, .tb, .deferred, .skl, .tab, .dsp, .pair, .irq, .rings, .logFreeze, .lad, .rung]) ?_ w
  unfold execHeartbeatDeadline
  repeat' (first | (with_reducible rfl) | (simp (disch := decide) only [frames_next, apply_ite (blank [.str, .pins, .tb, .deferred, .skl, .tab, .dsp, .pair, .irq, .rings, .logFreeze, .lad, .rung]), ite_self, joinFault_blank, onPair_blank, ownerLost_blank]; done) | (with_reducible refine ite_blank ?_ ?_) | split | (with_reducible refine (foldl_blank _ _ _ (fun _ _ => ?_)).trans ?_) | (dsimp only))
theorem continueConv_blank {pl : List Part} (w : within [.cnv] pl = true) (b : MirrorBeat) (s : State) : blank pl (continueConv b s) = blank pl s := by
  refine widen (l := [.cnv]) ?_ w
  simp (disch := decide) only [continueConv, onCnv_blank]
theorem continueCoulomb_blank {pl : List Part} (w : within [.met] pl = true) (b : MirrorBeat) (s : State) : blank pl (continueCoulomb b s) = blank pl s := by
  refine widen (l := [.met]) ?_ w
  simp (disch := decide) only [continueCoulomb, onMet_blank]
theorem continueSweep_blank {pl : List Part} (w : within [.imp] pl = true) (s : State) : blank pl (continueSweep s) = blank pl s := by
  refine widen (l := [.imp]) ?_ w
  simp (disch := decide) only [continueSweep, onImp_blank]
theorem continueCoils_blank {pl : List Part} (w : within [.cont] pl = true) (s : State) : blank pl (continueCoils s) = blank pl s := by
  refine widen (l := [.cont]) ?_ w
  unfold continueCoils
  repeat' (first | (with_reducible rfl) | (simp (disch := decide) only [apply_ite (blank [.cont]), ite_self, onContactor_blank]; done) | (with_reducible refine ite_blank ?_ ?_) | split | (with_reducible refine (foldl_blank _ _ _ (fun _ _ => ?_)).trans ?_) | (dsimp only))
theorem execFailoverFirstFrame_blank {pl : List Part} (w : within [.tick, .pins, .deferred, .met, .imp, .cnv, .prot, .cont, .pair, .irq, .rings, .logFreeze, .can, .rung] pl = true) (s : State) : Frames pl s (execFailoverFirstFrame s) := by
  refine widens (l := [.tick, .pins, .deferred, .met, .imp, .cnv, .prot, .cont, .pair, .irq, .rings, .logFreeze, .can, .rung]) ?_ w
  unfold execFailoverFirstFrame
  repeat' (first | (with_reducible rfl) | (simp (disch := decide) only [frames_next, apply_ite (blank [.tick, .pins, .deferred, .met, .imp, .cnv, .prot, .cont, .pair, .irq, .rings, .logFreeze, .can, .rung]), ite_self, canOn_blank, continueCoils_blank, continueConv_blank, continueCoulomb_blank, continueSweep_blank, dutyTransfer_blank, imdUpdate_blank, log_blank, onPair_blank, onProt_blank, refreshSafeOut_blank]; done) | (with_reducible refine ite_blank ?_ ?_) | split | (with_reducible refine (foldl_blank _ _ _ (fun _ _ => ?_)).trans ?_) | (dsimp only))
theorem takeBeat_blank {pl : List Part} (w : within [.str, .pins, .tb, .deferred, .cnv, .thm, .prot, .cont, .pair, .irq, .rings, .logFreeze, .can, .rung] pl = true) (r : MirrorRx) (s : State) : blank pl (takeBeat r s) = blank pl s := by
  refine widen (l := [.str, .pins, .tb, .deferred, .cnv, .thm, .prot, .cont, .pair, .irq, .rings, .logFreeze, .can, .rung]) ?_ w
  simp (disch := decide) only [takeBeat, apply_ite (blank [.str, .pins, .tb, .deferred, .cnv, .thm, .prot, .cont, .pair, .irq, .rings, .logFreeze, .can, .rung]), ite_self, loseContest_blank, onPair_blank]
theorem execMirrorHeartbeatReceived_blank {pl : List Part} (w : within [.str, .pins, .tb, .deferred, .cnv, .thm, .prot, .cont, .pair, .irq, .rings, .logFreeze, .can, .rung] pl = true) (frame : Bytes) (s : State) : Frames pl s (execMirrorHeartbeatReceived frame s) := by
  refine widens (l := [.str, .pins, .tb, .deferred, .cnv, .thm, .prot, .cont, .pair, .irq, .rings, .logFreeze, .can, .rung]) ?_ w
  unfold execMirrorHeartbeatReceived
  repeat' (first | (with_reducible rfl) | (simp (disch := decide) only [frames_next, apply_ite (blank [.str, .pins, .tb, .deferred, .cnv, .thm, .prot, .cont, .pair, .irq, .rings, .logFreeze, .can, .rung]), ite_self, onMirror_blank, takeBeat_blank]; done) | (with_reducible refine ite_blank ?_ ?_) | split | (with_reducible refine (foldl_blank _ _ _ (fun _ _ => ?_)).trans ?_) | (with_reducible refine (onMirror_blank (by decide) _ _ _ _ (fun _ _ => ?_)).trans ?_) | (dsimp only) | (simp (disch := decide) only [frames_next, apply_ite (blank [.str, .pins, .tb, .deferred, .cnv, .thm, .prot, .cont, .pair, .irq, .rings, .logFreeze, .can, .rung]), ite_self, onMirror_blank, takeBeat_blank]))
theorem pairServo_blank {pl : List Part} (w : within [.tb, .irq, .rings, .rung] pl = true) (r : MirrorRx) (sfd : Nat) (s : State) : blank pl (pairServo r sfd s) = blank pl s := by
  refine widen (l := [.tb, .irq, .rings, .rung]) ?_ w
  unfold pairServo
  repeat' (first | (with_reducible rfl) | (simp (disch := decide) only [apply_ite (blank [.tb, .irq, .rings, .rung]), ite_self, runServo_blank, sfdStamp_blank]; done) | (with_reducible refine ite_blank ?_ ?_) | split | (with_reducible refine (foldl_blank _ _ _ (fun _ _ => ?_)).trans ?_) | (dsimp only))
theorem takeControlFrame_blank {pl : List Part} (w : within [.str, .pins, .tb, .deferred, .skl, .cnv, .dsp, .bal, .thm, .prot, .cont, .iso, .pair, .ops, .irq, .rings, .logFreeze, .can, .rung] pl = true) (sfd : Nat) (r : MirrorRx) (s : State) : blank pl (takeControlFrame sfd r s) = blank pl s := by
  refine widen (l := [.str, .pins, .tb, .deferred, .skl, .cnv, .dsp, .bal, .thm, .prot, .cont, .iso, .pair, .ops, .irq, .rings, .logFreeze, .can, .rung]) ?_ w
  simp (disch := decide) only [takeControlFrame, apply_ite (blank [.str, .pins, .tb, .deferred, .skl, .cnv, .dsp, .bal, .thm, .prot, .cont, .iso, .pair, .ops, .irq, .rings, .logFreeze, .can, .rung]), ite_self, loseContest_blank, onPair_blank, pairServo_blank, takeControl_blank]
theorem execMirrorControlReceived_blank {pl : List Part} (w : within [.str, .pins, .tb, .deferred, .skl, .cnv, .dsp, .bal, .thm, .prot, .cont, .iso, .pair, .ops, .irq, .rings, .logFreeze, .can, .rung] pl = true) (frame : Bytes) (sfd : Nat) (s : State) : Frames pl s (execMirrorControlReceived frame sfd s) := by
  refine widens (l := [.str, .pins, .tb, .deferred, .skl, .cnv, .dsp, .bal, .thm, .prot, .cont, .iso, .pair, .ops, .irq, .rings, .logFreeze, .can, .rung]) ?_ w
  unfold execMirrorControlReceived
  repeat' (first | (with_reducible rfl) | (simp (disch := decide) only [frames_next, apply_ite (blank [.str, .pins, .tb, .deferred, .skl, .cnv, .dsp, .bal, .thm, .prot, .cont, .iso, .pair, .ops, .irq, .rings, .logFreeze, .can, .rung]), ite_self, onMirror_blank, takeControlFrame_blank]; done) | (with_reducible refine ite_blank ?_ ?_) | split | (with_reducible refine (foldl_blank _ _ _ (fun _ _ => ?_)).trans ?_) | (with_reducible refine (onMirror_blank (by decide) _ _ _ _ (fun _ _ => ?_)).trans ?_) | (dsimp only) | (simp (disch := decide) only [frames_next, apply_ite (blank [.str, .pins, .tb, .deferred, .skl, .cnv, .dsp, .bal, .thm, .prot, .cont, .iso, .pair, .ops, .irq, .rings, .logFreeze, .can, .rung]), ite_self, onMirror_blank, takeControlFrame_blank]))
theorem execMirrorBankReceived_blank {pl : List Part} (w : within [.deferred, .skl, .tab, .pair, .irq, .rings, .logFreeze, .rung] pl = true) (frame : Bytes) (s : State) : Frames pl s (execMirrorBankReceived frame s) := by
  refine widens (l := [.deferred, .skl, .tab, .pair, .irq, .rings, .logFreeze, .rung]) ?_ w
  unfold execMirrorBankReceived
  repeat' (first | (with_reducible rfl) | (simp (disch := decide) only [frames_next, apply_ite (blank [.deferred, .skl, .tab, .pair, .irq, .rings, .logFreeze, .rung]), ite_self, onMirror_blank, takeBank_blank]; done) | (with_reducible refine ite_blank ?_ ?_) | split | (with_reducible refine (foldl_blank _ _ _ (fun _ _ => ?_)).trans ?_) | (with_reducible refine (onMirror_blank (by decide) _ _ _ _ (fun _ _ => ?_)).trans ?_) | (dsimp only) | (simp (disch := decide) only [frames_next, apply_ite (blank [.deferred, .skl, .tab, .pair, .irq, .rings, .logFreeze, .rung]), ite_self, onMirror_blank, takeBank_blank]))
theorem takeImage_blank {pl : List Part} (w : within [.skl, .tab, .est, .jrn, .imp, .bal, .pair] pl = true) (r : MirrorRx) (s : State) : blank pl (takeImage r s) = blank pl s := by
  refine widen (l := [.skl, .tab, .est, .jrn, .imp, .bal, .pair]) ?_ w
  simp (disch := decide) only [takeImage, apply_ite (blank [.skl, .tab, .est, .jrn, .imp, .bal, .pair]), ite_self, onPair_blank, takeRegion_blank, takeSegment_blank]
theorem execMirrorImageSegmentReceived_blank {pl : List Part} (w : within [.deferred, .skl, .tab, .est, .jrn, .imp, .bal, .pair, .irq, .rings, .logFreeze, .rung] pl = true) (frame : Bytes) (s : State) : Frames pl s (execMirrorImageSegmentReceived frame s) := by
  refine widens (l := [.deferred, .skl, .tab, .est, .jrn, .imp, .bal, .pair, .irq, .rings, .logFreeze, .rung]) ?_ w
  unfold execMirrorImageSegmentReceived
  repeat' (first | (with_reducible rfl) | (simp (disch := decide) only [frames_next, apply_ite (blank [.deferred, .skl, .tab, .est, .jrn, .imp, .bal, .pair, .irq, .rings, .logFreeze, .rung]), ite_self, onMirror_blank, takeImage_blank]; done) | (with_reducible refine ite_blank ?_ ?_) | split | (with_reducible refine (foldl_blank _ _ _ (fun _ _ => ?_)).trans ?_) | (with_reducible refine (onMirror_blank (by decide) _ _ _ _ (fun _ _ => ?_)).trans ?_) | (dsimp only) | (simp (disch := decide) only [frames_next, apply_ite (blank [.deferred, .skl, .tab, .est, .jrn, .imp, .bal, .pair, .irq, .rings, .logFreeze, .rung]), ite_self, onMirror_blank, takeImage_blank]))
theorem afterHandover_blank {pl : List Part} (w : within [.tick, .str, .pins, .pwr, .tb, .dawn, .deferred, .idn, .cfg, .met, .skl, .tab, .est, .jrn, .imp, .cnv, .dsp, .bal, .thm, .prot, .cont, .iso, .pair, .host, .ops, .irq, .rings, .rcd, .logFreeze, .can, .hlth, .lad, .rung, .upd, .jtag, .out, .fresh] pl = true) (kind : Nat) (done : Bool) (s : State) : blank pl (afterHandover kind done s) = blank pl s := by
  refine widen (l := [.tick, .str, .pins, .pwr, .tb, .dawn, .deferred, .idn, .cfg, .met, .skl, .tab, .est, .jrn, .imp, .cnv, .dsp, .bal, .thm, .prot, .cont, .iso, .pair, .host, .ops, .irq, .rings, .rcd, .logFreeze, .can, .hlth, .lad, .rung, .upd, .jtag, .out, .fresh]) ?_ w
  unfold afterHandover
  split <;> simp (disch := decide) only [apply_ite (blank [.tick, .str, .pins, .pwr, .tb, .dawn, .deferred, .idn, .cfg, .met, .skl, .tab, .est, .jrn, .imp, .cnv, .dsp, .bal, .thm, .prot, .cont, .iso, .pair, .host, .ops, .irq, .rings, .rcd, .logFreeze, .can, .hlth, .lad, .rung, .upd, .jtag, .out, .fresh]), ite_self, deactivate_blank, decideFault_blank, enterFreeze_blank, enterOff_blank, freezeOn_blank, newDawn_blank, safeStop_blank]
theorem startHandover_blank {pl : List Part} (w : within [.pair, .out] pl = true) (kind : Nat) (req : Option HostReq) (s : State) : blank pl (startHandover kind req s) = blank pl s := by
  refine widen (l := [.pair, .out]) ?_ w
  simp (disch := decide) only [startHandover, apply_ite (blank [.pair, .out]), ite_self, onPair_blank, sendHandover_blank]
theorem clearHandover_blank {pl : List Part} (w : within [.pair] pl = true) (s : State) : blank pl (clearHandover s) = blank pl s := by
  refine widen (l := [.pair]) ?_ w
  simp (disch := decide) only [clearHandover, onPair_blank]
theorem handoverOff_blank {pl : List Part} (w : within [.tick, .str, .pins, .pwr, .tb, .dawn, .deferred, .idn, .cfg, .met, .skl, .tab, .est, .jrn, .imp, .cnv, .dsp, .bal, .thm, .prot, .cont, .iso, .pair, .host, .ops, .irq, .rings, .rcd, .logFreeze, .can, .hlth, .lad, .rung, .upd, .jtag, .out, .fresh] pl = true) (s : State) : blank pl (handoverOff s) = blank pl s := by
  refine widen (l := [.tick, .str, .pins, .pwr, .tb, .dawn, .deferred, .idn, .cfg, .met, .skl, .tab, .est, .jrn, .imp, .cnv, .dsp, .bal, .thm, .prot, .cont, .iso, .pair, .host, .ops, .irq, .rings, .rcd, .logFreeze, .can, .hlth, .lad, .rung, .upd, .jtag, .out, .fresh]) ?_ w
  unfold handoverOff
  split <;> simp (disch := decide) only [apply_ite (blank [.tick, .str, .pins, .pwr, .tb, .dawn, .deferred, .idn, .cfg, .met, .skl, .tab, .est, .jrn, .imp, .cnv, .dsp, .bal, .thm, .prot, .cont, .iso, .pair, .host, .ops, .irq, .rings, .rcd, .logFreeze, .can, .hlth, .lad, .rung, .upd, .jtag, .out, .fresh]), ite_self, afterHandover_blank, clearHandover_blank, refuseState_blank]
theorem takeHandover_blank {pl : List Part} (w : within [.tick, .str, .pins, .pwr, .tb, .dawn, .deferred, .idn, .cfg, .met, .skl, .tab, .est, .jrn, .imp, .cnv, .dsp, .bal, .thm, .prot, .cont, .iso, .pair, .host, .ops, .irq, .rings, .rcd, .logFreeze, .can, .hlth, .lad, .rung, .upd, .jtag, .out, .fresh] pl = true) (r : MirrorRx) (s : State) : blank pl (takeHandover r s) = blank pl s := by
  refine widen (l := [.tick, .str, .pins, .pwr, .tb, .dawn, .deferred, .idn, .cfg, .met, .skl, .tab, .est, .jrn, .imp, .cnv, .dsp, .bal, .thm, .prot, .cont, .iso, .pair, .host, .ops, .irq, .rings, .rcd, .logFreeze, .can, .hlth, .lad, .rung, .upd, .jtag, .out, .fresh]) ?_ w
  unfold takeHandover
  repeat' (first | (with_reducible rfl) | (simp (disch := decide) only [apply_ite (blank [.tick, .str, .pins, .pwr, .tb, .dawn, .deferred, .idn, .cfg, .met, .skl, .tab, .est, .jrn, .imp, .cnv, .dsp, .bal, .thm, .prot, .cont, .iso, .pair, .host, .ops, .irq, .rings, .rcd, .logFreeze, .can, .hlth, .lad, .rung, .upd, .jtag, .out, .fresh]), ite_self, handoverOff_blank, onPair_blank, respond_blank, sendHandover_blank, setRung_blank]; done) | (with_reducible refine ite_blank ?_ ?_) | split | (with_reducible refine (foldl_blank _ _ _ (fun _ _ => ?_)).trans ?_) | (dsimp only))
theorem execHandoverReceived_blank {pl : List Part} (w : within [.tick, .str, .pins, .pwr, .tb, .dawn, .deferred, .idn, .cfg, .met, .skl, .tab, .est, .jrn, .imp, .cnv, .dsp, .bal, .thm, .prot, .cont, .iso, .pair, .host, .ops, .irq, .rings, .rcd, .logFreeze, .can, .hlth, .lad, .rung, .upd, .jtag, .out, .fresh] pl = true) (frame : Bytes) (s : State) : Frames pl s (execHandoverReceived frame s) := by
  refine widens (l := [.tick, .str, .pins, .pwr, .tb, .dawn, .deferred, .idn, .cfg, .met, .skl, .tab, .est, .jrn, .imp, .cnv, .dsp, .bal, .thm, .prot, .cont, .iso, .pair, .host, .ops, .irq, .rings, .rcd, .logFreeze, .can, .hlth, .lad, .rung, .upd, .jtag, .out, .fresh]) ?_ w
  unfold execHandoverReceived
  repeat' (first | (with_reducible rfl) | (simp (disch := decide) only [frames_next, apply_ite (blank [.tick, .str, .pins, .pwr, .tb, .dawn, .deferred, .idn, .cfg, .met, .skl, .tab, .est, .jrn, .imp, .cnv, .dsp, .bal, .thm, .prot, .cont, .iso, .pair, .host, .ops, .irq, .rings, .rcd, .logFreeze, .can, .hlth, .lad, .rung, .upd, .jtag, .out, .fresh]), ite_self, onMirror_blank, takeHandover_blank]; done) | (with_reducible refine ite_blank ?_ ?_) | split | (with_reducible refine (foldl_blank _ _ _ (fun _ _ => ?_)).trans ?_) | (with_reducible refine (onMirror_blank (by decide) _ _ _ _ (fun _ _ => ?_)).trans ?_) | (dsimp only) | (simp (disch := decide) only [frames_next, apply_ite (blank [.tick, .str, .pins, .pwr, .tb, .dawn, .deferred, .idn, .cfg, .met, .skl, .tab, .est, .jrn, .imp, .cnv, .dsp, .bal, .thm, .prot, .cont, .iso, .pair, .host, .ops, .irq, .rings, .rcd, .logFreeze, .can, .hlth, .lad, .rung, .upd, .jtag, .out, .fresh]), ite_self, onMirror_blank, takeHandover_blank]))
theorem execHandoverAcceptTimeout_blank {pl : List Part} (w : within [.tick, .str, .pins, .pwr, .tb, .dawn, .deferred, .idn, .cfg, .met, .skl, .tab, .est, .jrn, .imp, .cnv, .dsp, .bal, .thm, .prot, .cont, .iso, .pair, .host, .ops, .irq, .rings, .rcd, .logFreeze, .can, .hlth, .lad, .rung, .upd, .jtag, .out, .fresh] pl = true) (s : State) : Frames pl s (execHandoverAcceptTimeout s) := by
  refine widens (l := [.tick, .str, .pins, .pwr, .tb, .dawn, .deferred, .idn, .cfg, .met, .skl, .tab, .est, .jrn, .imp, .cnv, .dsp, .bal, .thm, .prot, .cont, .iso, .pair, .host, .ops, .irq, .rings, .rcd, .logFreeze, .can, .hlth, .lad, .rung, .upd, .jtag, .out, .fresh]) ?_ w
  simp (disch := decide) only [execHandoverAcceptTimeout, frames_next, apply_ite (blank [.tick, .str, .pins, .pwr, .tb, .dawn, .deferred, .idn, .cfg, .met, .skl, .tab, .est, .jrn, .imp, .cnv, .dsp, .bal, .thm, .prot, .cont, .iso, .pair, .host, .ops, .irq, .rings, .rcd, .logFreeze, .can, .hlth, .lad, .rung, .upd, .jtag, .out, .fresh]), ite_self, handoverOff_blank]
theorem yieldOwnership_blank {pl : List Part} (w : within [.str, .pins, .tb, .deferred, .cnv, .thm, .prot, .cont, .pair, .irq, .rings, .logFreeze, .can, .rung] pl = true) (s : State) : blank pl (yieldOwnership s) = blank pl s := by
  refine widen (l := [.str, .pins, .tb, .deferred, .cnv, .thm, .prot, .cont, .pair, .irq, .rings, .logFreeze, .can, .rung]) ?_ w
  simp (disch := decide) only [yieldOwnership, canOff_blank, coilsOff_blank, onPair_blank, onPins_blank, onStr_blank, openImd_blank, openSafeOut_blank, setSync_blank, thermOff_blank]
theorem execHandoverTick_blank {pl : List Part} (w : within [.tick, .str, .pins, .pwr, .tb, .dawn, .deferred, .idn, .cfg, .met, .skl, .tab, .est, .jrn, .imp, .cnv, .dsp, .bal, .thm, .prot, .cont, .iso, .pair, .host, .ops, .irq, .rings, .rcd, .logFreeze, .can, .hlth, .lad, .rung, .upd, .jtag, .out, .fresh] pl = true) (s : State) : Frames pl s (execHandoverTick s) := by
  refine widens (l := [.tick, .str, .pins, .pwr, .tb, .dawn, .deferred, .idn, .cfg, .met, .skl, .tab, .est, .jrn, .imp, .cnv, .dsp, .bal, .thm, .prot, .cont, .iso, .pair, .host, .ops, .irq, .rings, .rcd, .logFreeze, .can, .hlth, .lad, .rung, .upd, .jtag, .out, .fresh]) ?_ w
  unfold execHandoverTick
  repeat' (first | (with_reducible rfl) | (simp (disch := decide) only [frames_next, apply_ite (blank [.tick, .str, .pins, .pwr, .tb, .dawn, .deferred, .idn, .cfg, .met, .skl, .tab, .est, .jrn, .imp, .cnv, .dsp, .bal, .thm, .prot, .cont, .iso, .pair, .host, .ops, .irq, .rings, .rcd, .logFreeze, .can, .hlth, .lad, .rung, .upd, .jtag, .out, .fresh]), ite_self, afterHandover_blank, clearHandover_blank, log_blank, takeOwnership_blank, yieldOwnership_blank]; done) | (with_reducible refine ite_blank ?_ ?_) | split | (with_reducible refine (foldl_blank _ _ _ (fun _ _ => ?_)).trans ?_) | (dsimp only))
theorem decideRole_blank {pl : List Part} (w : within [.str, .tb, .deferred, .pair, .irq, .rings, .logFreeze, .rung] pl = true) (s : State) : blank pl (decideRole s) = blank pl s := by
  refine widen (l := [.str, .tb, .deferred, .pair, .irq, .rings, .logFreeze, .rung]) ?_ w
  simp (disch := decide) only [decideRole, apply_ite (blank [.str, .tb, .deferred, .pair, .irq, .rings, .logFreeze, .rung]), ite_self, log_blank, onPair_blank, onStr_blank, setSync_blank]
theorem execHelloListenTimeout_blank {pl : List Part} (w : within [.str, .tb, .deferred, .pair, .irq, .rings, .logFreeze, .rung] pl = true) (s : State) : Frames pl s (execHelloListenTimeout s) := by
  refine widens (l := [.str, .tb, .deferred, .pair, .irq, .rings, .logFreeze, .rung]) ?_ w
  simp (disch := decide) only [execHelloListenTimeout, frames_next, apply_ite (blank [.str, .tb, .deferred, .pair, .irq, .rings, .logFreeze, .rung]), ite_self, decideRole_blank]
theorem askBlob_blank {pl : List Part} (w : within [.pair, .out] pl = true) (s : State) : blank pl (askBlob s) = blank pl s := by
  refine widen (l := [.pair, .out]) ?_ w
  simp (disch := decide) only [askBlob, apply_ite (blank [.pair, .out]), ite_self, onPair_blank, sendMirror_blank]
theorem sendBlob_blank {pl : List Part} (w : within [.pair, .out] pl = true) (b : Blob) (s : State) : blank pl (sendBlob b s) = blank pl s := by
  refine widen (l := [.pair, .out]) ?_ w
  unfold sendBlob
  repeat' (first | (with_reducible rfl) | (simp (disch := decide) only [apply_ite (blank [.pair, .out]), ite_self, sendMirror_blank]; done) | (with_reducible refine ite_blank ?_ ?_) | split | (with_reducible refine (foldl_blank _ _ _ (fun _ _ => ?_)).trans ?_) | (dsimp only))
theorem judgePairBlob_blank {pl : List Part} (w : within [.deferred, .met, .tab, .est, .jrn, .irq, .rings, .logFreeze, .rung] pl = true) (b : Bytes) (s : State) : blank pl (judgePairBlob b s) = blank pl s := by
  refine widen (l := [.deferred, .met, .tab, .est, .jrn, .irq, .rings, .logFreeze, .rung]) ?_ w
  simp (disch := decide) only [judgePairBlob, apply_ite (blank [.deferred, .met, .tab, .est, .jrn, .irq, .rings, .logFreeze, .rung]), ite_self, applyBlob_blank]
theorem takeBlobFrame_blank {pl : List Part} (w : within [.deferred, .met, .tab, .est, .jrn, .pair, .irq, .rings, .logFreeze, .rung, .out] pl = true) (r : MirrorRx) (s : State) : blank pl (takeBlobFrame r s) = blank pl s := by
  refine widen (l := [.deferred, .met, .tab, .est, .jrn, .pair, .irq, .rings, .logFreeze, .rung, .out]) ?_ w
  simp (disch := decide) only [takeBlobFrame, apply_ite (blank [.deferred, .met, .tab, .est, .jrn, .pair, .irq, .rings, .logFreeze, .rung, .out]), ite_self, judgePairBlob_blank, onPair_blank, sendBlob_blank]
theorem execBlobReceived_blank {pl : List Part} (w : within [.deferred, .met, .tab, .est, .jrn, .pair, .irq, .rings, .logFreeze, .rung, .out] pl = true) (frame : Bytes) (s : State) : Frames pl s (execBlobReceived frame s) := by
  refine widens (l := [.deferred, .met, .tab, .est, .jrn, .pair, .irq, .rings, .logFreeze, .rung, .out]) ?_ w
  unfold execBlobReceived
  repeat' (first | (with_reducible rfl) | (simp (disch := decide) only [frames_next, apply_ite (blank [.deferred, .met, .tab, .est, .jrn, .pair, .irq, .rings, .logFreeze, .rung, .out]), ite_self, onMirror_blank, takeBlobFrame_blank]; done) | (with_reducible refine ite_blank ?_ ?_) | split | (with_reducible refine (foldl_blank _ _ _ (fun _ _ => ?_)).trans ?_) | (with_reducible refine (onMirror_blank (by decide) _ _ _ _ (fun _ _ => ?_)).trans ?_) | (dsimp only) | (simp (disch := decide) only [frames_next, apply_ite (blank [.deferred, .met, .tab, .est, .jrn, .pair, .irq, .rings, .logFreeze, .rung, .out]), ite_self, onMirror_blank, takeBlobFrame_blank]))
theorem idleWatch_blank {pl : List Part} (w : within [.lad, .rung] pl = true) (s : State) : blank pl (idleWatch s) = blank pl s := by
  refine widen (l := [.lad, .rung]) ?_ w
  simp (disch := decide) only [idleWatch, onLad_blank]
theorem execAfternoonReentry_blank {pl : List Part} (w : within [.deferred, .irq, .rings, .logFreeze, .lad, .rung] pl = true) (s : State) : Frames pl s (execAfternoonReentry s) := by
  refine widens (l := [.deferred, .irq, .rings, .logFreeze, .lad, .rung]) ?_ w
  unfold execAfternoonReentry
  repeat' (first | (with_reducible rfl) | (simp (disch := decide) only [frames_next, apply_ite (blank [.deferred, .irq, .rings, .logFreeze, .lad, .rung]), ite_self, onLad_blank, setRung_blank]; done) | (with_reducible refine ite_blank ?_ ?_) | split | (with_reducible refine (foldl_blank _ _ _ (fun _ _ => ?_)).trans ?_) | (dsimp only))
theorem wakeForHost_blank {pl : List Part} (w : within [.deferred, .irq, .rings, .logFreeze, .lad, .rung] pl = true) (s : State) : blank pl (wakeForHost s) = blank pl s := by
  refine widen (l := [.deferred, .irq, .rings, .logFreeze, .lad, .rung]) ?_ w
  simp (disch := decide) only [wakeForHost, apply_ite (blank [.deferred, .irq, .rings, .logFreeze, .lad, .rung]), ite_self, setRung_blank]
theorem countPress_blank {pl : List Part} (w : within [.lad, .rung] pl = true) (k : Nat) (s : State) : blank pl (countPress k s) = blank pl s := by
  refine widen (l := [.lad, .rung]) ?_ w
  simp (disch := decide) only [countPress, onLad_blank]
theorem resetRestart_blank {pl : List Part} (w : within [.tick, .str, .pins, .pwr, .tb, .dawn, .deferred, .idn, .cfg, .met, .skl, .tab, .est, .jrn, .imp, .cnv, .dsp, .bal, .thm, .prot, .cont, .iso, .pair, .host, .ops, .irq, .rings, .rcd, .logFreeze, .can, .hlth, .lad, .rung, .upd, .jtag, .out, .fresh] pl = true) (s : State) : blank pl (resetRestart s) = blank pl s := by
  refine widen (l := [.tick, .str, .pins, .pwr, .tb, .dawn, .deferred, .idn, .cfg, .met, .skl, .tab, .est, .jrn, .imp, .cnv, .dsp, .bal, .thm, .prot, .cont, .iso, .pair, .host, .ops, .irq, .rings, .rcd, .logFreeze, .can, .hlth, .lad, .rung, .upd, .jtag, .out, .fresh]) ?_ w
  simp (disch := decide) only [resetRestart, apply_ite (blank [.tick, .str, .pins, .pwr, .tb, .dawn, .deferred, .idn, .cfg, .met, .skl, .tab, .est, .jrn, .imp, .cnv, .dsp, .bal, .thm, .prot, .cont, .iso, .pair, .host, .ops, .irq, .rings, .rcd, .logFreeze, .can, .hlth, .lad, .rung, .upd, .jtag, .out, .fresh]), ite_self, newDawn_blank, startHandover_blank, wakeDawn_blank]
theorem releaseAfter_blank {pl : List Part} (w : within [.tick, .str, .pins, .pwr, .tb, .dawn, .deferred, .idn, .cfg, .met, .skl, .tab, .est, .jrn, .imp, .cnv, .dsp, .bal, .thm, .prot, .cont, .iso, .pair, .host, .ops, .irq, .rings, .rcd, .logFreeze, .can, .hlth, .lad, .rung, .upd, .jtag, .out, .fresh] pl = true) (ms : Nat) (s : State) : blank pl (releaseAfter ms s) = blank pl s := by
  refine widen (l := [.tick, .str, .pins, .pwr, .tb, .dawn, .deferred, .idn, .cfg, .met, .skl, .tab, .est, .jrn, .imp, .cnv, .dsp, .bal, .thm, .prot, .cont, .iso, .pair, .host, .ops, .irq, .rings, .rcd, .logFreeze, .can, .hlth, .lad, .rung, .upd, .jtag, .out, .fresh]) ?_ w
  simp (disch := decide) only [releaseAfter, apply_ite (blank [.tick, .str, .pins, .pwr, .tb, .dawn, .deferred, .idn, .cfg, .met, .skl, .tab, .est, .jrn, .imp, .cnv, .dsp, .bal, .thm, .prot, .cont, .iso, .pair, .host, .ops, .irq, .rings, .rcd, .logFreeze, .can, .hlth, .lad, .rung, .upd, .jtag, .out, .fresh]), ite_self, countPress_blank, log_blank, onLad_blank, resetRestart_blank]
theorem execResetInputChange_blank {pl : List Part} (w : within [.tick, .str, .pins, .pwr, .tb, .dawn, .deferred, .idn, .cfg, .met, .skl, .tab, .est, .jrn, .imp, .cnv, .dsp, .bal, .thm, .prot, .cont, .iso, .pair, .host, .ops, .irq, .rings, .rcd, .logFreeze, .can, .hlth, .lad, .rung, .upd, .jtag, .out, .fresh] pl = true) (closed : Bool) (_ms : Nat) (s : State) : Frames pl s (execResetInputChange closed _ms s) := by
  refine widens (l := [.tick, .str, .pins, .pwr, .tb, .dawn, .deferred, .idn, .cfg, .met, .skl, .tab, .est, .jrn, .imp, .cnv, .dsp, .bal, .thm, .prot, .cont, .iso, .pair, .host, .ops, .irq, .rings, .rcd, .logFreeze, .can, .hlth, .lad, .rung, .upd, .jtag, .out, .fresh]) ?_ w
  unfold execResetInputChange
  repeat' (first | (with_reducible rfl) | (simp (disch := decide) only [frames_next, apply_ite (blank [.tick, .str, .pins, .pwr, .tb, .dawn, .deferred, .idn, .cfg, .met, .skl, .tab, .est, .jrn, .imp, .cnv, .dsp, .bal, .thm, .prot, .cont, .iso, .pair, .host, .ops, .irq, .rings, .rcd, .logFreeze, .can, .hlth, .lad, .rung, .upd, .jtag, .out, .fresh]), ite_self, irqEvent_blank, onLad_blank, onPins_blank, releaseAfter_blank]; done) | (with_reducible refine ite_blank ?_ ?_) | split | (with_reducible refine (foldl_blank _ _ _ (fun _ _ => ?_)).trans ?_) | (dsimp only))
theorem execResetHold_blank {pl : List Part} (w : within [.str, .pins, .deferred, .idn, .met, .est, .imp, .cnv, .dsp, .bal, .prot, .iso, .pair, .host, .ops, .irq, .rings, .rcd, .logFreeze, .can, .lad, .rung, .out] pl = true) (s : State) : Frames pl s (execResetHold s) := by
  refine widens (l := [.str, .pins, .deferred, .idn, .met, .est, .imp, .cnv, .dsp, .bal, .prot, .iso, .pair, .host, .ops, .irq, .rings, .rcd, .logFreeze, .can, .lad, .rung, .out]) ?_ w
  unfold execResetHold
  repeat' (first | (with_reducible rfl) | (simp (disch := decide) only [frames_next, apply_ite (blank [.str, .pins, .deferred, .idn, .met, .est, .imp, .cnv, .dsp, .bal, .prot, .iso, .pair, .host, .ops, .irq, .rings, .rcd, .logFreeze, .can, .lad, .rung, .out]), ite_self, countPress_blank, deactivate_blank, decideFault_blank, log_blank, onLad_blank, startHandover_blank]; done) | (with_reducible refine ite_blank ?_ ?_) | split | (with_reducible refine (foldl_blank _ _ _ (fun _ _ => ?_)).trans ?_) | (dsimp only))
theorem resetDisable_blank {pl : List Part} (w : within [.deferred, .irq, .rings, .logFreeze, .lad, .rung] pl = true) (data : Nat) (s : State) : blank pl (resetDisable data s) = blank pl s := by
  refine widen (l := [.deferred, .irq, .rings, .logFreeze, .lad, .rung]) ?_ w
  simp (disch := decide) only [resetDisable, countPress_blank, log_blank, onLad_blank]
theorem execResetStuck_blank {pl : List Part} (w : within [.tick, .str, .pins, .pwr, .tb, .dawn, .deferred, .idn, .cfg, .met, .skl, .tab, .est, .jrn, .imp, .cnv, .dsp, .bal, .thm, .prot, .cont, .iso, .pair, .host, .ops, .irq, .rings, .rcd, .logFreeze, .can, .hlth, .lad, .rung, .upd, .jtag, .out, .fresh] pl = true) (s : State) : Frames pl s (execResetStuck s) := by
  refine widens (l := [.tick, .str, .pins, .pwr, .tb, .dawn, .deferred, .idn, .cfg, .met, .skl, .tab, .est, .jrn, .imp, .cnv, .dsp, .bal, .thm, .prot, .cont, .iso, .pair, .host, .ops, .irq, .rings, .rcd, .logFreeze, .can, .hlth, .lad, .rung, .upd, .jtag, .out, .fresh]) ?_ w
  unfold execResetStuck
  repeat' (first | (with_reducible rfl) | (simp (disch := decide) only [frames_next, apply_ite (blank [.tick, .str, .pins, .pwr, .tb, .dawn, .deferred, .idn, .cfg, .met, .skl, .tab, .est, .jrn, .imp, .cnv, .dsp, .bal, .thm, .prot, .cont, .iso, .pair, .host, .ops, .irq, .rings, .rcd, .logFreeze, .can, .hlth, .lad, .rung, .upd, .jtag, .out, .fresh]), ite_self, countPress_blank, newDawn_blank, resetDisable_blank]; done) | (with_reducible refine ite_blank ?_ ?_) | split | (with_reducible refine (foldl_blank _ _ _ (fun _ _ => ?_)).trans ?_) | (dsimp only))
theorem execResetReleased_blank {pl : List Part} (w : within [.deferred, .irq, .rings, .logFreeze, .lad, .rung] pl = true) (s : State) : Frames pl s (execResetReleased s) := by
  refine widens (l := [.deferred, .irq, .rings, .logFreeze, .lad, .rung]) ?_ w
  unfold execResetReleased
  repeat' (first | (with_reducible rfl) | (simp (disch := decide) only [frames_next, apply_ite (blank [.deferred, .irq, .rings, .logFreeze, .lad, .rung]), ite_self, log_blank, onLad_blank]; done) | (with_reducible refine ite_blank ?_ ?_) | split | (with_reducible refine (foldl_blank _ _ _ (fun _ _ => ?_)).trans ?_) | (dsimp only))
theorem freezeAccept_blank {pl : List Part} (w : within [.str, .pins, .deferred, .cnv, .dsp, .thm, .prot, .cont, .pair, .host, .irq, .rings, .logFreeze, .lad, .rung, .out] pl = true) (trigger : Nat) (s : State) : blank pl (freezeAccept trigger s) = blank pl s := by
  refine widen (l := [.str, .pins, .deferred, .cnv, .dsp, .thm, .prot, .cont, .pair, .host, .irq, .rings, .logFreeze, .lad, .rung, .out]) ?_ w
  simp (disch := decide) only [freezeAccept, apply_ite (blank [.str, .pins, .deferred, .cnv, .dsp, .thm, .prot, .cont, .pair, .host, .irq, .rings, .logFreeze, .lad, .rung, .out]), ite_self, freezeOn_blank, onLad_blank, startHandover_blank]
theorem execFreezeNAsserted_blank {pl : List Part} (w : within [.str, .pins, .deferred, .cnv, .dsp, .thm, .prot, .cont, .pair, .host, .irq, .rings, .logFreeze, .lad, .rung, .out] pl = true) (s : State) : Frames pl s (execFreezeNAsserted s) := by
  refine widens (l := [.str, .pins, .deferred, .cnv, .dsp, .thm, .prot, .cont, .pair, .host, .irq, .rings, .logFreeze, .lad, .rung, .out]) ?_ w
  unfold execFreezeNAsserted
  repeat' (first | (with_reducible rfl) | (simp (disch := decide) only [frames_next, apply_ite (blank [.str, .pins, .deferred, .cnv, .dsp, .thm, .prot, .cont, .pair, .host, .irq, .rings, .logFreeze, .lad, .rung, .out]), ite_self, freezeAccept_blank, irqEvent_blank, onPins_blank]; done) | (with_reducible refine ite_blank ?_ ?_) | split | (with_reducible refine (foldl_blank _ _ _ (fun _ _ => ?_)).trans ?_) | (dsimp only))
theorem authFailed_blank {pl : List Part} (w : within [.deferred, .host, .irq, .rings, .logFreeze, .rung] pl = true) (addr : Nat) (slot : Nat) (s : State) : blank pl (authFailed addr slot s) = blank pl s := by
  refine widen (l := [.deferred, .host, .irq, .rings, .logFreeze, .rung]) ?_ w
  simp (disch := decide) only [authFailed, apply_ite (blank [.deferred, .host, .irq, .rings, .logFreeze, .rung]), ite_self, log_blank, onHost_blank]
theorem answerAuth_blank {pl : List Part} (w : within [.host, .irq, .rings, .rung, .out] pl = true) (r : HostReq) (s : State) : blank pl (answerAuth r s) = blank pl s := by
  refine widen (l := [.host, .irq, .rings, .rung, .out]) ?_ w
  simp (disch := decide) only [answerAuth, answerOnce_blank]
theorem answerOverload_blank {pl : List Part} (w : within [.deferred, .host, .irq, .rings, .logFreeze, .rung, .out] pl = true) (r : HostReq) (ring : Nat) (s : State) : blank pl (answerOverload r ring s) = blank pl s := by
  refine widen (l := [.deferred, .host, .irq, .rings, .logFreeze, .rung, .out]) ?_ w
  unfold answerOverload
  repeat' (first | (with_reducible rfl) | (simp (disch := decide) only [apply_ite (blank [.deferred, .host, .irq, .rings, .logFreeze, .rung, .out]), ite_self, countStatus_blank, emitDgram_blank, log_blank, onHost_blank]; done) | (with_reducible refine ite_blank ?_ ?_) | split | (with_reducible refine (foldl_blank _ _ _ (fun _ _ => ?_)).trans ?_) | (dsimp only))
theorem queueDgram_blank {pl : List Part} (w : within [.deferred, .host, .irq, .rings, .logFreeze, .lad, .rung] pl = true) (d : RxDgram) (s : State) : blank pl (queueDgram d s) = blank pl s := by
  refine widen (l := [.deferred, .host, .irq, .rings, .logFreeze, .lad, .rung]) ?_ w
  simp (disch := decide) only [queueDgram, onHost_blank, ringPut_blank, wakeForHost_blank]
theorem seqRequest_blank {pl : List Part} (w : within [.deferred, .host, .irq, .rings, .logFreeze, .lad, .rung, .out] pl = true) (x : Session) (d : RxDgram) (s : State) : blank pl (seqRequest x d s) = blank pl s := by
  refine widen (l := [.deferred, .host, .irq, .rings, .logFreeze, .lad, .rung, .out]) ?_ w
  unfold seqRequest
  repeat' (first | (with_reducible rfl) | (simp (disch := decide) only [apply_ite (blank [.deferred, .host, .irq, .rings, .logFreeze, .lad, .rung, .out]), ite_self, answerOnce_blank, answerOverload_blank, log_blank, onHost_blank, onSession_blank, queueDgram_blank, sendDgram_blank]; done) | (with_reducible refine ite_blank ?_ ?_) | split | (with_reducible refine (foldl_blank _ _ _ (fun _ _ => ?_)).trans ?_) | (dsimp only))
theorem receiveRequest_blank {pl : List Part} (w : within [.deferred, .host, .irq, .rings, .logFreeze, .lad, .rung, .out] pl = true) (d : RxDgram) (s : State) : blank pl (receiveRequest d s) = blank pl s := by
  refine widen (l := [.deferred, .host, .irq, .rings, .logFreeze, .lad, .rung, .out]) ?_ w
  unfold receiveRequest
  repeat' (first | (with_reducible rfl) | (simp (disch := decide) only [apply_ite (blank [.deferred, .host, .irq, .rings, .logFreeze, .lad, .rung, .out]), ite_self, answerAuth_blank, answerOverload_blank, authFailed_blank, onSession_blank, queueDgram_blank, seqRequest_blank]; done) | (with_reducible refine ite_blank ?_ ?_) | split | (with_reducible refine (foldl_blank _ _ _ (fun _ _ => ?_)).trans ?_) | (dsimp only))
theorem receiveDgram_blank {pl : List Part} (w : within [.deferred, .host, .irq, .rings, .logFreeze, .lad, .rung, .out] pl = true) (d : RxDgram) (s : State) : blank pl (receiveDgram d s) = blank pl s := by
  refine widen (l := [.deferred, .host, .irq, .rings, .logFreeze, .lad, .rung, .out]) ?_ w
  simp (disch := decide) only [receiveDgram, apply_ite (blank [.deferred, .host, .irq, .rings, .logFreeze, .lad, .rung, .out]), ite_self, answerOverload_blank, queueDgram_blank, receiveRequest_blank]
theorem execHostDatagramReceived_blank {pl : List Part} (w : within [.deferred, .host, .irq, .rings, .logFreeze, .lad, .rung, .out] pl = true) (port : Nat) (addr : Nat) (udp : Nat) (bytes : Bytes) (s : State) : Frames pl s (execHostDatagramReceived port addr udp bytes s) := by
  refine widens (l := [.deferred, .host, .irq, .rings, .logFreeze, .lad, .rung, .out]) ?_ w
  simp (disch := decide) only [execHostDatagramReceived, frames_next, receiveDgram_blank]
theorem handshake_blank {pl : List Part} (w : within [.host, .irq, .rings, .rung, .out] pl = true) (d : RxDgram) (kind : Nat) (session : Nat) (status : Nat) (key : Bytes) (payload : Bytes) (s : State) : blank pl (handshake d kind session status key payload s) = blank pl s := by
  refine widen (l := [.host, .irq, .rings, .rung, .out]) ?_ w
  simp (disch := decide) only [handshake, countStatus_blank, sendDgram_blank]
theorem serveOpenReq_blank {pl : List Part} (w : within [.deferred, .host, .irq, .rings, .logFreeze, .rung, .out, .fresh] pl = true) (d : RxDgram) (s : State) : blank pl (serveOpenReq d s) = blank pl s := by
  refine widen (l := [.deferred, .host, .irq, .rings, .logFreeze, .rung, .out, .fresh]) ?_ w
  unfold serveOpenReq
  repeat' (first | (with_reducible rfl) | (simp (disch := decide) only [apply_ite (blank [.deferred, .host, .irq, .rings, .logFreeze, .rung, .out, .fresh]), ite_self, authFailed_blank, handshake_blank, onHost_blank, tickFresh_blank]; done) | (with_reducible refine ite_blank ?_ ?_) | split | (with_reducible refine (foldl_blank _ _ _ (fun _ _ => ?_)).trans ?_) | (dsimp only))
theorem freeChallenged_blank {pl : List Part} (w : within [.tb, .deferred, .met, .est, .imp, .bal, .iso, .host, .ops, .irq, .rings, .rcd, .logFreeze, .rung, .out] pl = true) (id : Nat) (s : State) : blank pl (freeChallenged id s) = blank pl s := by
  refine widen (l := [.tb, .deferred, .met, .est, .imp, .bal, .iso, .host, .ops, .irq, .rings, .rcd, .logFreeze, .rung, .out]) ?_ w
  simp (disch := decide) only [freeChallenged, endSession_blank]
theorem serveOpenAuth_blank {pl : List Part} (w : within [.tb, .deferred, .met, .est, .imp, .bal, .iso, .host, .ops, .irq, .rings, .rcd, .logFreeze, .rung, .out] pl = true) (d : RxDgram) (s : State) : blank pl (serveOpenAuth d s) = blank pl s := by
  refine widen (l := [.tb, .deferred, .met, .est, .imp, .bal, .iso, .host, .ops, .irq, .rings, .rcd, .logFreeze, .rung, .out]) ?_ w
  unfold serveOpenAuth
  split <;> simp (disch := decide) only [apply_ite (blank [.tb, .deferred, .met, .est, .imp, .bal, .iso, .host, .ops, .irq, .rings, .rcd, .logFreeze, .rung, .out]), ite_self, authFailed_blank, freeChallenged_blank, handshake_blank, log_blank, onSession_blank]
theorem execOpenReq_blank {pl : List Part} (w : within [.deferred, .host, .irq, .rings, .logFreeze, .lad, .rung, .out, .fresh] pl = true) (port : Nat) (addr : Nat) (udp : Nat) (bytes : Bytes) (s : State) : Frames pl s (execOpenReq port addr udp bytes s) := by
  refine widens (l := [.deferred, .host, .irq, .rings, .logFreeze, .lad, .rung, .out, .fresh]) ?_ w
  simp (disch := decide) only [execOpenReq, frames_next, apply_ite (blank [.deferred, .host, .irq, .rings, .logFreeze, .lad, .rung, .out, .fresh]), ite_self, serveOpenReq_blank, wakeForHost_blank]
theorem execOpenAuth_blank {pl : List Part} (w : within [.tb, .deferred, .met, .est, .imp, .bal, .iso, .host, .ops, .irq, .rings, .rcd, .logFreeze, .lad, .rung, .out] pl = true) (port : Nat) (addr : Nat) (udp : Nat) (bytes : Bytes) (s : State) : Frames pl s (execOpenAuth port addr udp bytes s) := by
  refine widens (l := [.tb, .deferred, .met, .est, .imp, .bal, .iso, .host, .ops, .irq, .rings, .rcd, .logFreeze, .lad, .rung, .out]) ?_ w
  simp (disch := decide) only [execOpenAuth, frames_next, apply_ite (blank [.tb, .deferred, .met, .est, .imp, .bal, .iso, .host, .ops, .irq, .rings, .rcd, .logFreeze, .lad, .rung, .out]), ite_self, serveOpenAuth_blank, wakeForHost_blank]
theorem execOpenAuthTimeout_blank {pl : List Part} (w : within [.tb, .deferred, .met, .est, .imp, .bal, .iso, .host, .ops, .irq, .rings, .rcd, .logFreeze, .rung, .out] pl = true) (session : Nat) (s : State) : Frames pl s (execOpenAuthTimeout session s) := by
  refine widens (l := [.tb, .deferred, .met, .est, .imp, .bal, .iso, .host, .ops, .irq, .rings, .rcd, .logFreeze, .rung, .out]) ?_ w
  unfold execOpenAuthTimeout
  split <;> simp (disch := decide) only [frames_next, apply_ite (blank [.tb, .deferred, .met, .est, .imp, .bal, .iso, .host, .ops, .irq, .rings, .rcd, .logFreeze, .rung, .out]), ite_self, freeChallenged_blank]
theorem execSessionIdleTimeout_blank {pl : List Part} (w : within [.tb, .deferred, .met, .est, .imp, .bal, .iso, .host, .ops, .irq, .rings, .rcd, .logFreeze, .rung, .out] pl = true) (session : Nat) (s : State) : Frames pl s (execSessionIdleTimeout session s) := by
  refine widens (l := [.tb, .deferred, .met, .est, .imp, .bal, .iso, .host, .ops, .irq, .rings, .rcd, .logFreeze, .rung, .out]) ?_ w
  unfold execSessionIdleTimeout
  split <;> simp (disch := decide) only [frames_next, apply_ite (blank [.tb, .deferred, .met, .est, .imp, .bal, .iso, .host, .ops, .irq, .rings, .rcd, .logFreeze, .rung, .out]), ite_self, endSession_blank]
theorem roleThen_blank {pl : List Part} (w : within [.host, .irq, .rings, .rung, .out] pl = true) (least : Nat) (argsOk : Bool) (r : HostReq) (act : State → State) (s : State) (h : ∀ t, blank pl (act t) = blank pl t) : blank pl (roleThen least argsOk r act s) = blank pl s := by
  unfold roleThen
  split <;> simp (disch := first | decide | exact within_trans (by decide) w) only [apply_ite (blank pl), ite_self, answerAuth_blank, respond_blank, h]
theorem evalRead_blank {pl : List Part} (w : within [.host, .irq, .rings, .rung, .out] pl = true) (r : HostReq) (s : State) : blank pl (evalRead r s) = blank pl s := by
  refine widen (l := [.host, .irq, .rings, .rung, .out]) ?_ w
  unfold evalRead
  repeat' (first | (with_reducible rfl) | (simp (disch := decide) only [apply_ite (blank [.host, .irq, .rings, .rung, .out]), ite_self, answerAuth_blank, answerOnce_blank, respond_blank]; done) | (with_reducible refine ite_blank ?_ ?_) | split | (with_reducible refine (foldl_blank _ _ _ (fun _ _ => ?_)).trans ?_) | (dsimp only))
theorem evalSubscribe_blank {pl : List Part} (w : within [.host, .irq, .rings, .rung, .out] pl = true) (r : HostReq) (s : State) : blank pl (evalSubscribe r s) = blank pl s := by
  refine widen (l := [.host, .irq, .rings, .rung, .out]) ?_ w
  unfold evalSubscribe
  repeat' (first | (with_reducible rfl) | (simp (disch := decide) only [apply_ite (blank [.host, .irq, .rings, .rung, .out]), ite_self, onSession_blank, respond_blank, roleThen_blank]; done) | (with_reducible refine ite_blank ?_ ?_) | split | (with_reducible refine (foldl_blank _ _ _ (fun _ _ => ?_)).trans ?_) | (with_reducible refine (roleThen_blank (by decide) _ _ _ _ _ (fun _ => ?_)).trans ?_) | (dsimp only))
theorem evalKeepalive_blank {pl : List Part} (w : within [.host, .irq, .rings, .rung, .out] pl = true) (r : HostReq) (s : State) : blank pl (evalKeepalive r s) = blank pl s := by
  refine widen (l := [.host, .irq, .rings, .rung, .out]) ?_ w
  unfold evalKeepalive
  repeat' (first | (with_reducible rfl) | (simp (disch := decide) only [apply_ite (blank [.host, .irq, .rings, .rung, .out]), ite_self, onSession_blank, respond_blank, roleThen_blank]; done) | (with_reducible refine ite_blank ?_ ?_) | split | (with_reducible refine (foldl_blank _ _ _ (fun _ _ => ?_)).trans ?_) | (with_reducible refine (roleThen_blank (by decide) _ _ _ _ _ (fun _ => ?_)).trans ?_) | (dsimp only))
theorem evalClose_blank {pl : List Part} (w : within [.tb, .deferred, .met, .est, .imp, .bal, .iso, .host, .ops, .irq, .rings, .rcd, .logFreeze, .rung, .out] pl = true) (r : HostReq) (s : State) : blank pl (evalClose r s) = blank pl s := by
  refine widen (l := [.tb, .deferred, .met, .est, .imp, .bal, .iso, .host, .ops, .irq, .rings, .rcd, .logFreeze, .rung, .out]) ?_ w
  unfold evalClose
  repeat' (first | (with_reducible rfl) | (simp (disch := decide) only [apply_ite (blank [.tb, .deferred, .met, .est, .imp, .bal, .iso, .host, .ops, .irq, .rings, .rcd, .logFreeze, .rung, .out]), ite_self, endSession_blank, respond_blank, roleThen_blank]; done) | (with_reducible refine ite_blank ?_ ?_) | split | (with_reducible refine (foldl_blank _ _ _ (fun _ _ => ?_)).trans ?_) | (with_reducible refine (roleThen_blank (by decide) _ _ _ _ _ (fun _ => ?_)).trans ?_) | (dsimp only))
theorem onBulk_blank {pl : List Part} (w : within [.host] pl = true) (t : Nat) (g : Bulk → Bulk) (s : State) : blank pl (onBulk t g s) = blank pl s := by
  refine widen (l := [.host]) ?_ w
  simp (disch := decide) only [onBulk, onHost_blank]
theorem evalBulkWrite_blank {pl : List Part} (w : within [.host, .irq, .rings, .rung, .out] pl = true) (r : HostReq) (s : State) : blank pl (evalBulkWrite r s) = blank pl s := by
  refine widen (l := [.host, .irq, .rings, .rung, .out]) ?_ w
  unfold evalBulkWrite
  repeat' (first | (with_reducible rfl) | (simp (disch := decide) only [apply_ite (blank [.host, .irq, .rings, .rung, .out]), ite_self, onBulk_blank, respond_blank, roleThen_blank]; done) | (with_reducible refine ite_blank ?_ ?_) | split | (with_reducible refine (foldl_blank _ _ _ (fun _ _ => ?_)).trans ?_) | (with_reducible refine (roleThen_blank (by decide) _ _ _ _ _ (fun _ => ?_)).trans ?_) | (dsimp only))
theorem evalKeySet_blank {pl : List Part} (w : within [.tb, .deferred, .idn, .met, .est, .imp, .bal, .iso, .host, .ops, .irq, .rings, .rcd, .logFreeze, .rung, .out] pl = true) (r : HostReq) (s : State) : blank pl (evalKeySet r s) = blank pl s := by
  refine widen (l := [.tb, .deferred, .idn, .met, .est, .imp, .bal, .iso, .host, .ops, .irq, .rings, .rcd, .logFreeze, .rung, .out]) ?_ w
  unfold evalKeySet
  repeat' (first | (with_reducible rfl) | (simp (disch := decide) only [apply_ite (blank [.tb, .deferred, .idn, .met, .est, .imp, .bal, .iso, .host, .ops, .irq, .rings, .rcd, .logFreeze, .rung, .out]), ite_self, endSession_blank, log_blank, onIdn_blank, refuseState_blank, respond_blank, roleThen_blank]; done) | (with_reducible refine ite_blank ?_ ?_) | split | (with_reducible refine (foldl_blank _ _ _ (fun _ _ => ?_)).trans ?_) | (with_reducible refine (roleThen_blank (by decide) _ _ _ _ _ (fun _ => ?_)).trans ?_) | (dsimp only))
theorem execRead_blank {pl : List Part} (w : within [.host, .irq, .rings, .rung, .out] pl = true) (r : HostReq) (s : State) : Frames pl s (execRead r s) := by
  refine widens (l := [.host, .irq, .rings, .rung, .out]) ?_ w
  simp (disch := decide) only [execRead, frames_next, apply_ite (blank [.host, .irq, .rings, .rung, .out]), ite_self, evalRead_blank]
theorem execSubscribe_blank {pl : List Part} (w : within [.host, .irq, .rings, .rung, .out] pl = true) (r : HostReq) (s : State) : Frames pl s (execSubscribe r s) := by
  refine widens (l := [.host, .irq, .rings, .rung, .out]) ?_ w
  simp (disch := decide) only [execSubscribe, frames_next, apply_ite (blank [.host, .irq, .rings, .rung, .out]), ite_self, evalSubscribe_blank]
theorem execKeepalive_blank {pl : List Part} (w : within [.host, .irq, .rings, .rung, .out] pl = true) (r : HostReq) (s : State) : Frames pl s (execKeepalive r s) := by
  refine widens (l := [.host, .irq, .rings, .rung, .out]) ?_ w
  simp (disch := decide) only [execKeepalive, frames_next, apply_ite (blank [.host, .irq, .rings, .rung, .out]), ite_self, evalKeepalive_blank]
theorem execClose_blank {pl : List Part} (w : within [.tb, .deferred, .met, .est, .imp, .bal, .iso, .host, .ops, .irq, .rings, .rcd, .logFreeze, .rung, .out] pl = true) (r : HostReq) (s : State) : Frames pl s (execClose r s) := by
  refine widens (l := [.tb, .deferred, .met, .est, .imp, .bal, .iso, .host, .ops, .irq, .rings, .rcd, .logFreeze, .rung, .out]) ?_ w
  simp (disch := decide) only [execClose, frames_next, apply_ite (blank [.tb, .deferred, .met, .est, .imp, .bal, .iso, .host, .ops, .irq, .rings, .rcd, .logFreeze, .rung, .out]), ite_self, evalClose_blank]
theorem execBulkWrite_blank {pl : List Part} (w : within [.host, .irq, .rings, .rung, .out] pl = true) (r : HostReq) (s : State) : Frames pl s (execBulkWrite r s) := by
  refine widens (l := [.host, .irq, .rings, .rung, .out]) ?_ w
  simp (disch := decide) only [execBulkWrite, frames_next, apply_ite (blank [.host, .irq, .rings, .rung, .out]), ite_self, evalBulkWrite_blank]
theorem execKeySet_blank {pl : List Part} (w : within [.tb, .deferred, .idn, .met, .est, .imp, .bal, .iso, .host, .ops, .irq, .rings, .rcd, .logFreeze, .rung, .out] pl = true) (r : HostReq) (s : State) : Frames pl s (execKeySet r s) := by
  refine widens (l := [.tb, .deferred, .idn, .met, .est, .imp, .bal, .iso, .host, .ops, .irq, .rings, .rcd, .logFreeze, .rung, .out]) ?_ w
  simp (disch := decide) only [execKeySet, frames_next, apply_ite (blank [.tb, .deferred, .idn, .met, .est, .imp, .bal, .iso, .host, .ops, .irq, .rings, .rcd, .logFreeze, .rung, .out]), ite_self, evalKeySet_blank]
theorem execBulkAbandoned_blank {pl : List Part} (w : within [.deferred, .host, .irq, .rings, .logFreeze, .rung] pl = true) (target : Nat) (s : State) : Frames pl s (execBulkAbandoned target s) := by
  refine widens (l := [.deferred, .host, .irq, .rings, .logFreeze, .rung]) ?_ w
  unfold execBulkAbandoned
  repeat' (first | (with_reducible rfl) | (simp (disch := decide) only [frames_next, apply_ite (blank [.deferred, .host, .irq, .rings, .logFreeze, .rung]), ite_self, log_blank, onBulk_blank]; done) | (with_reducible refine ite_blank ?_ ?_) | split | (with_reducible refine (foldl_blank _ _ _ (fun _ _ => ?_)).trans ?_) | (dsimp only))
theorem execObjectNotificationDue_blank {pl : List Part} (w : within [.tb, .deferred, .host, .irq, .rings, .logFreeze, .rung, .out] pl = true) (session : Nat) (entry : Nat) (s : State) : Frames pl s (execObjectNotificationDue session entry s) := by
  refine widens (l := [.tb, .deferred, .host, .irq, .rings, .logFreeze, .rung, .out]) ?_ w
  unfold execObjectNotificationDue
  repeat' (first | (with_reducible rfl) | (simp (disch := decide) only [frames_next, apply_ite (blank [.tb, .deferred, .host, .irq, .rings, .logFreeze, .rung, .out]), ite_self, notify_blank]; done) | (with_reducible refine ite_blank ?_ ?_) | split | (with_reducible refine (foldl_blank _ _ _ (fun _ _ => ?_)).trans ?_) | (dsimp only))
theorem execArpRequest_blank {pl : List Part} (w : within [.out] pl = true) (port : Nat) (target : Nat) (s : State) : Frames pl s (execArpRequest port target s) := by
  refine widens (l := [.out]) ?_ w
  simp (disch := decide) only [execArpRequest, frames_next, apply_ite (blank [.out]), ite_self, onOut_blank]
theorem execIcmpEchoRequest_blank {pl : List Part} (w : within [.out] pl = true) (port : Nat) (src : Nat) (dst : Nat) (payload : Bytes) (s : State) : Frames pl s (execIcmpEchoRequest port src dst payload s) := by
  refine widens (l := [.out]) ?_ w
  simp (disch := decide) only [execIcmpEchoRequest, frames_next, apply_ite (blank [.out]), ite_self, onOut_blank]
theorem execModbusConnect_blank {pl : List Part} (w : within [.host, .out] pl = true) (port : Nat) (addr : Nat) (s : State) : Frames pl s (execModbusConnect port addr s) := by
  refine widens (l := [.host, .out]) ?_ w
  unfold execModbusConnect
  repeat' (first | (with_reducible rfl) | (simp (disch := decide) only [frames_next, apply_ite (blank [.host, .out]), ite_self, onHost_blank, onOut_blank]; done) | (with_reducible refine ite_blank ?_ ?_) | split | (with_reducible refine (foldl_blank _ _ _ (fun _ _ => ?_)).trans ?_) | (dsimp only))
theorem execModbusRead_blank {pl : List Part} (w : within [.deferred, .host, .irq, .rings, .logFreeze, .lad, .rung, .out] pl = true) (conn : Nat) (pdu : Bytes) (s : State) : Frames pl s (execModbusRead conn pdu s) := by
  refine widens (l := [.deferred, .host, .irq, .rings, .logFreeze, .lad, .rung, .out]) ?_ w
  unfold execModbusRead
  repeat' (first | (with_reducible rfl) | (simp (disch := decide) only [frames_next, apply_ite (blank [.deferred, .host, .irq, .rings, .logFreeze, .lad, .rung, .out]), ite_self, onHost_blank, onOut_blank, ringPut_blank, ringRel_blank, wakeForHost_blank]; done) | (with_reducible refine ite_blank ?_ ?_) | split | (with_reducible refine (foldl_blank _ _ _ (fun _ _ => ?_)).trans ?_) | (dsimp only))
theorem execModbusIdleTimeout_blank {pl : List Part} (w : within [.host] pl = true) (conn : Nat) (s : State) : Frames pl s (execModbusIdleTimeout conn s) := by
  refine widens (l := [.host]) ?_ w
  simp (disch := decide) only [execModbusIdleTimeout, frames_next, apply_ite (blank [.host]), ite_self, onHost_blank]
theorem execPlugDetChange_blank {pl : List Part} (w : within [.tick, .str, .pins, .pwr, .tb, .dawn, .deferred, .idn, .cfg, .met, .skl, .tab, .est, .jrn, .imp, .cnv, .dsp, .bal, .thm, .prot, .cont, .iso, .pair, .host, .ops, .irq, .rings, .rcd, .logFreeze, .can, .hlth, .lad, .rung, .upd, .jtag, .out, .fresh] pl = true) (low : Bool) (s : State) : Frames pl s (execPlugDetChange low s) := by
  refine widens (l := [.tick, .str, .pins, .pwr, .tb, .dawn, .deferred, .idn, .cfg, .met, .skl, .tab, .est, .jrn, .imp, .cnv, .dsp, .bal, .thm, .prot, .cont, .iso, .pair, .host, .ops, .irq, .rings, .rcd, .logFreeze, .can, .hlth, .lad, .rung, .upd, .jtag, .out, .fresh]) ?_ w
  unfold execPlugDetChange
  repeat' (first | (with_reducible rfl) | (simp (disch := decide) only [frames_next, apply_ite (blank [.tick, .str, .pins, .pwr, .tb, .dawn, .deferred, .idn, .cfg, .met, .skl, .tab, .est, .jrn, .imp, .cnv, .dsp, .bal, .thm, .prot, .cont, .iso, .pair, .host, .ops, .irq, .rings, .rcd, .logFreeze, .can, .hlth, .lad, .rung, .upd, .jtag, .out, .fresh]), ite_self, irqEvent_blank, log_blank, onDawn_blank, onPins_blank, wakeDawn_blank]; done) | (with_reducible refine ite_blank ?_ ?_) | split | (with_reducible refine (foldl_blank _ _ _ (fun _ _ => ?_)).trans ?_) | (dsimp only))
theorem pairCableLost_blank {pl : List Part} (w : within [.tick, .str, .pins, .pwr, .tb, .dawn, .deferred, .idn, .cfg, .met, .skl, .tab, .est, .jrn, .imp, .cnv, .dsp, .bal, .thm, .prot, .cont, .iso, .pair, .host, .ops, .irq, .rings, .rcd, .logFreeze, .can, .hlth, .lad, .rung, .upd, .jtag, .out, .fresh] pl = true) (s : State) : blank pl (pairCableLost s) = blank pl s := by
  refine widen (l := [.tick, .str, .pins, .pwr, .tb, .dawn, .deferred, .idn, .cfg, .met, .skl, .tab, .est, .jrn, .imp, .cnv, .dsp, .bal, .thm, .prot, .cont, .iso, .pair, .host, .ops, .irq, .rings, .rcd, .logFreeze, .can, .hlth, .lad, .rung, .upd, .jtag, .out, .fresh]) ?_ w
  simp (disch := decide) only [pairCableLost, apply_ite (blank [.tick, .str, .pins, .pwr, .tb, .dawn, .deferred, .idn, .cfg, .met, .skl, .tab, .est, .jrn, .imp, .cnv, .dsp, .bal, .thm, .prot, .cont, .iso, .pair, .host, .ops, .irq, .rings, .rcd, .logFreeze, .can, .hlth, .lad, .rung, .upd, .jtag, .out, .fresh]), ite_self, clearHandover_blank, handoverOff_blank, onPair_blank, onStr_blank, setRung_blank]
theorem execPairPresentChange_blank {pl : List Part} (w : within [.tick, .str, .pins, .pwr, .tb, .dawn, .deferred, .idn, .cfg, .met, .skl, .tab, .est, .jrn, .imp, .cnv, .dsp, .bal, .thm, .prot, .cont, .iso, .pair, .host, .ops, .irq, .rings, .rcd, .logFreeze, .can, .hlth, .lad, .rung, .upd, .jtag, .out, .fresh] pl = true) (low : Bool) (s : State) : Frames pl s (execPairPresentChange low s) := by
  refine widens (l := [.tick, .str, .pins, .pwr, .tb, .dawn, .deferred, .idn, .cfg, .met, .skl, .tab, .est, .jrn, .imp, .cnv, .dsp, .bal, .thm, .prot, .cont, .iso, .pair, .host, .ops, .irq, .rings, .rcd, .logFreeze, .can, .hlth, .lad, .rung, .upd, .jtag, .out, .fresh]) ?_ w
  unfold execPairPresentChange
  repeat' (first | (with_reducible rfl) | (simp (disch := decide) only [frames_next, apply_ite (blank [.tick, .str, .pins, .pwr, .tb, .dawn, .deferred, .idn, .cfg, .met, .skl, .tab, .est, .jrn, .imp, .cnv, .dsp, .bal, .thm, .prot, .cont, .iso, .pair, .host, .ops, .irq, .rings, .rcd, .logFreeze, .can, .hlth, .lad, .rung, .upd, .jtag, .out, .fresh]), ite_self, irqEvent_blank, log_blank, onPair_blank, onPins_blank, pairCableLost_blank]; done) | (with_reducible refine ite_blank ?_ ?_) | split | (with_reducible refine (foldl_blank _ _ _ (fun _ _ => ?_)).trans ?_) | (dsimp only))
theorem portDown_blank {pl : List Part} (w : within [.tb, .deferred, .met, .est, .imp, .bal, .iso, .host, .ops, .irq, .rings, .rcd, .logFreeze, .rung, .out] pl = true) (port : Nat) (s : State) : blank pl (portDown port s) = blank pl s := by
  refine widen (l := [.tb, .deferred, .met, .est, .imp, .bal, .iso, .host, .ops, .irq, .rings, .rcd, .logFreeze, .rung, .out]) ?_ w
  unfold portDown
  repeat' (first | (with_reducible rfl) | (simp (disch := decide) only [apply_ite (blank [.tb, .deferred, .met, .est, .imp, .bal, .iso, .host, .ops, .irq, .rings, .rcd, .logFreeze, .rung, .out]), ite_self, endSession_blank, gmLost_blank, onHost_blank]; done) | (with_reducible refine ite_blank ?_ ?_) | split | (with_reducible refine (foldl_blank _ _ _ (fun _ _ => ?_)).trans ?_) | (dsimp only) | (simp (disch := decide) only [apply_ite (blank [.tb, .deferred, .met, .est, .imp, .bal, .iso, .host, .ops, .irq, .rings, .rcd, .logFreeze, .rung, .out]), ite_self, endSession_blank, gmLost_blank, onHost_blank]))
theorem execLinkChange_blank {pl : List Part} (w : within [.pins, .tb, .deferred, .met, .est, .imp, .bal, .iso, .pair, .host, .ops, .irq, .rings, .rcd, .logFreeze, .rung, .out] pl = true) (port : Nat) (up : Bool) (s : State) : Frames pl s (execLinkChange port up s) := by
  refine widens (l := [.pins, .tb, .deferred, .met, .est, .imp, .bal, .iso, .pair, .host, .ops, .irq, .rings, .rcd, .logFreeze, .rung, .out]) ?_ w
  unfold execLinkChange
  split <;> simp (disch := decide) only [frames_next, apply_ite (blank [.pins, .tb, .deferred, .met, .est, .imp, .bal, .iso, .pair, .host, .ops, .irq, .rings, .rcd, .logFreeze, .rung, .out]), ite_self, irqEvent_blank, onPair_blank, onPins_blank, portDown_blank]
theorem execUsbFrameReceived_blank {pl : List Part} (w : within [.deferred, .host, .irq, .rings, .logFreeze, .lad, .rung, .out] pl = true) (cobs : Bytes) (s : State) : Frames pl s (execUsbFrameReceived cobs s) := by
  refine widens (l := [.deferred, .host, .irq, .rings, .logFreeze, .lad, .rung, .out]) ?_ w
  unfold execUsbFrameReceived
  repeat' (first | (with_reducible rfl) | (simp (disch := decide) only [frames_next, apply_ite (blank [.deferred, .host, .irq, .rings, .logFreeze, .lad, .rung, .out]), ite_self, receiveDgram_blank]; done) | (with_reducible refine ite_blank ?_ ?_) | split | (with_reducible refine (foldl_blank _ _ _ (fun _ _ => ?_)).trans ?_) | (dsimp only))
theorem execJ16UsbMateChange_blank {pl : List Part} (w : within [.pins, .tb, .deferred, .met, .est, .imp, .bal, .iso, .host, .ops, .irq, .rings, .rcd, .logFreeze, .rung, .jtag, .out] pl = true) (mated : Bool) (s : State) : Frames pl s (execJ16UsbMateChange mated s) := by
  refine widens (l := [.pins, .tb, .deferred, .met, .est, .imp, .bal, .iso, .host, .ops, .irq, .rings, .rcd, .logFreeze, .rung, .jtag, .out]) ?_ w
  unfold execJ16UsbMateChange
  repeat' (first | (with_reducible rfl) | (simp (disch := decide) only [frames_next, apply_ite (blank [.pins, .tb, .deferred, .met, .est, .imp, .bal, .iso, .host, .ops, .irq, .rings, .rcd, .logFreeze, .rung, .jtag, .out]), ite_self, id_eq, endSession_blank, onHost_blank, tapReset_blank]; done) | (with_reducible refine ite_blank ?_ ?_) | split | (with_reducible refine (foldl_blank _ _ _ (fun _ _ => ?_)).trans ?_) | (dsimp only) | (simp (disch := decide) only [frames_next, apply_ite (blank [.pins, .tb, .deferred, .met, .est, .imp, .bal, .iso, .host, .ops, .irq, .rings, .rcd, .logFreeze, .rung, .jtag, .out]), ite_self, id_eq, endSession_blank, onHost_blank, tapReset_blank]))
theorem placeFabric_blank {pl : List Part} (w : within [.rings] pl = true) (bad : List Nat) (s : State) : blank pl (placeFabric bad s) = blank pl s := by
  refine widen (l := [.rings]) ?_ w
  simp (disch := decide) only [placeFabric, onRings_blank]
theorem useFallback_blank {pl : List Part} (w : within [.str, .pins, .tb, .dawn, .deferred, .cfg, .tab, .est, .pair, .irq, .rings, .logFreeze, .can, .rung] pl = true) (s : State) : blank pl (useFallback s) = blank pl s := by
  refine widen (l := [.str, .pins, .tb, .dawn, .deferred, .cfg, .tab, .est, .pair, .irq, .rings, .logFreeze, .can, .rung]) ?_ w
  simp (disch := decide) only [useFallback, canOff_blank, onDawn_blank, onEst_blank, onPair_blank, onPins_blank, onStr_blank, onTab_blank, onTb_blank, setSync_blank, cfg_blank]
theorem dawnFail_blank {pl : List Part} (w : within [.str, .pins, .tb, .dawn, .deferred, .idn, .cfg, .met, .tab, .est, .imp, .dsp, .bal, .prot, .iso, .pair, .host, .ops, .irq, .rings, .rcd, .logFreeze, .can, .rung] pl = true) (code : Nat) (cls : Nat) (s : State) : blank pl (dawnFail code cls s) = blank pl s := by
  refine widen (l := [.str, .pins, .tb, .dawn, .deferred, .idn, .cfg, .met, .tab, .est, .imp, .dsp, .bal, .prot, .iso, .pair, .host, .ops, .irq, .rings, .rcd, .logFreeze, .can, .rung]) ?_ w
  simp (disch := decide) only [dawnFail, apply_ite (blank [.str, .pins, .tb, .dawn, .deferred, .idn, .cfg, .met, .tab, .est, .imp, .dsp, .bal, .prot, .iso, .pair, .host, .ops, .irq, .rings, .rcd, .logFreeze, .can, .rung]), ite_self, latchClass2_blank, log_blank, onDawn_blank, onStr_blank, placeFabric_blank, setState_blank, useFallback_blank]
theorem dawnNext_blank {pl : List Part} (w : within [.dawn, .deferred] pl = true) (s : State) : blank pl (dawnNext s) = blank pl s := by
  refine widen (l := [.dawn, .deferred]) ?_ w
  simp (disch := decide) only [dawnNext, onDawn_blank]
theorem unlessFailed_blank {pl : List Part} (w : within [] pl = true) (g : State → State) (s : State) (h : ∀ t, blank pl (g t) = blank pl t) : blank pl (unlessFailed g s) = blank pl s := by
  simp (disch := first | decide | exact within_trans (by decide) w) only [unlessFailed, apply_ite (blank pl), ite_self, h]
theorem dawnD0_blank {pl : List Part} (w : within [.pins, .tb, .dawn, .deferred, .irq, .rings, .logFreeze, .lad, .rung] pl = true) (d : DawnIn) (s : State) : blank pl (dawnD0 d s) = blank pl s := by
  refine widen (l := [.pins, .tb, .dawn, .deferred, .irq, .rings, .logFreeze, .lad, .rung]) ?_ w
  simp (disch := decide) only [dawnD0, apply_ite (blank [.pins, .tb, .dawn, .deferred, .irq, .rings, .logFreeze, .lad, .rung]), ite_self, onDawn_blank, onLad_blank, onPins_blank, onTb_blank, resetDisable_blank]
theorem noteRepair_blank {pl : List Part} (w : within [.dawn, .deferred] pl = true) (kind : Nat) (st : Nat) (unit : Nat) (addr : Nat) (s : State) : blank pl (noteRepair kind st unit addr s) = blank pl s := by
  refine widen (l := [.dawn, .deferred]) ?_ w
  simp (disch := decide) only [noteRepair, onDawn_blank]
theorem rowFails_blank {pl : List Part} (w : within [.str, .pins, .tb, .dawn, .deferred, .idn, .cfg, .met, .tab, .est, .imp, .dsp, .bal, .prot, .iso, .pair, .host, .ops, .irq, .rings, .rcd, .logFreeze, .can, .hlth, .rung] pl = true) (kind : Nat) (row : Nat) (s : State) : blank pl (rowFails kind row s) = blank pl s := by
  refine widen (l := [.str, .pins, .tb, .dawn, .deferred, .idn, .cfg, .met, .tab, .est, .imp, .dsp, .bal, .prot, .iso, .pair, .host, .ops, .irq, .rings, .rcd, .logFreeze, .can, .hlth, .rung]) ?_ w
  simp (disch := decide) only [rowFails, apply_ite (blank [.str, .pins, .tb, .dawn, .deferred, .idn, .cfg, .met, .tab, .est, .imp, .dsp, .bal, .prot, .iso, .pair, .host, .ops, .irq, .rings, .rcd, .logFreeze, .can, .hlth, .rung]), ite_self, dawnFail_blank, log_blank, noteRepair_blank, useSpare_blank]
theorem testRows_blank {pl : List Part} (w : within [.str, .pins, .tb, .dawn, .deferred, .idn, .cfg, .met, .tab, .est, .imp, .dsp, .bal, .prot, .iso, .pair, .host, .ops, .irq, .rings, .rcd, .logFreeze, .can, .hlth, .rung] pl = true) (kind : Nat) (bad : List (Nat × Nat)) (s : State) : blank pl (testRows kind bad s) = blank pl s := by
  refine widen (l := [.str, .pins, .tb, .dawn, .deferred, .idn, .cfg, .met, .tab, .est, .imp, .dsp, .bal, .prot, .iso, .pair, .host, .ops, .irq, .rings, .rcd, .logFreeze, .can, .hlth, .rung]) ?_ w
  unfold testRows
  repeat' (first | (with_reducible rfl) | (simp (disch := decide) only [apply_ite (blank [.str, .pins, .tb, .dawn, .deferred, .idn, .cfg, .met, .tab, .est, .imp, .dsp, .bal, .prot, .iso, .pair, .host, .ops, .irq, .rings, .rcd, .logFreeze, .can, .hlth, .rung]), ite_self, noteRepair_blank, rowFails_blank, unlessFailed_blank]; done) | (with_reducible refine ite_blank ?_ ?_) | split | (with_reducible refine (foldl_blank _ _ _ (fun _ _ => ?_)).trans ?_) | (with_reducible refine (unlessFailed_blank (by decide) _ _ (fun _ => ?_)).trans ?_) | (dsimp only))
theorem setRings_blank {pl : List Part} (w : within [.str, .pins, .tb, .dawn, .deferred, .idn, .cfg, .met, .tab, .est, .imp, .dsp, .bal, .prot, .iso, .pair, .host, .ops, .irq, .rings, .rcd, .logFreeze, .can, .rung] pl = true) (badNow : List Nat) (s : State) : blank pl (setRings badNow s) = blank pl s := by
  refine widen (l := [.str, .pins, .tb, .dawn, .deferred, .idn, .cfg, .met, .tab, .est, .imp, .dsp, .bal, .prot, .iso, .pair, .host, .ops, .irq, .rings, .rcd, .logFreeze, .can, .rung]) ?_ w
  unfold setRings
  repeat' (first | (with_reducible rfl) | (simp (disch := decide) only [apply_ite (blank [.str, .pins, .tb, .dawn, .deferred, .idn, .cfg, .met, .tab, .est, .imp, .dsp, .bal, .prot, .iso, .pair, .host, .ops, .irq, .rings, .rcd, .logFreeze, .can, .rung]), ite_self, dawnFail_blank, log_blank, noteRepair_blank, placeFabric_blank]; done) | (with_reducible refine ite_blank ?_ ?_) | split | (with_reducible refine (foldl_blank _ _ _ (fun _ _ => ?_)).trans ?_) | (dsimp only) | (simp (disch := decide) only [apply_ite (blank [.str, .pins, .tb, .dawn, .deferred, .idn, .cfg, .met, .tab, .est, .imp, .dsp, .bal, .prot, .iso, .pair, .host, .ops, .irq, .rings, .rcd, .logFreeze, .can, .rung]), ite_self, dawnFail_blank, log_blank, noteRepair_blank, placeFabric_blank]))
theorem dawnLane_blank {pl : List Part} (w : within [.str, .pins, .tb, .dawn, .deferred, .idn, .cfg, .met, .tab, .est, .imp, .dsp, .bal, .prot, .iso, .pair, .host, .ops, .irq, .rings, .rcd, .logFreeze, .can, .hlth, .rung] pl = true) (lane : Nat) (s : State) : blank pl (dawnLane lane s) = blank pl s := by
  refine widen (l := [.str, .pins, .tb, .dawn, .deferred, .idn, .cfg, .met, .tab, .est, .imp, .dsp, .bal, .prot, .iso, .pair, .host, .ops, .irq, .rings, .rcd, .logFreeze, .can, .hlth, .rung]) ?_ w
  simp (disch := decide) only [dawnLane, apply_ite (blank [.str, .pins, .tb, .dawn, .deferred, .idn, .cfg, .met, .tab, .est, .imp, .dsp, .bal, .prot, .iso, .pair, .host, .ops, .irq, .rings, .rcd, .logFreeze, .can, .hlth, .rung]), ite_self, dawnFail_blank, log_blank, noteRepair_blank, onHlth_blank, useSpare_blank]
theorem dawnD3_blank {pl : List Part} (w : within [.str, .pins, .tb, .dawn, .deferred, .idn, .cfg, .met, .tab, .est, .imp, .dsp, .bal, .prot, .iso, .pair, .host, .ops, .irq, .rings, .rcd, .logFreeze, .can, .hlth, .rung] pl = true) (d : DawnIn) (s : State) : blank pl (dawnD3 d s) = blank pl s := by
  refine widen (l := [.str, .pins, .tb, .dawn, .deferred, .idn, .cfg, .met, .tab, .est, .imp, .dsp, .bal, .prot, .iso, .pair, .host, .ops, .irq, .rings, .rcd, .logFreeze, .can, .hlth, .rung]) ?_ w
  unfold dawnD3
  repeat' (first | (with_reducible rfl) | (simp (disch := decide) only [apply_ite (blank [.str, .pins, .tb, .dawn, .deferred, .idn, .cfg, .met, .tab, .est, .imp, .dsp, .bal, .prot, .iso, .pair, .host, .ops, .irq, .rings, .rcd, .logFreeze, .can, .hlth, .rung]), ite_self, dawnLane_blank, setRings_blank, testRows_blank, unlessFailed_blank]; done) | (with_reducible refine ite_blank ?_ ?_) | split | (with_reducible refine (foldl_blank _ _ _ (fun _ _ => ?_)).trans ?_) | (with_reducible refine (unlessFailed_blank (by decide) _ _ (fun _ => ?_)).trans ?_) | (dsimp only))
theorem onFwSlot_blank {pl : List Part} (w : within [.upd] pl = true) (k : Nat) (g : FwSlot → FwSlot) (s : State) : blank pl (onFwSlot k g s) = blank pl s := by
  refine widen (l := [.upd]) ?_ w
  unfold onFwSlot
  split <;> simp (disch := first | decide | (intro _; exact ⟨rfl, rfl, rfl⟩)) only [apply_ite (blank [.upd]), ite_self, onUpd_blank]
theorem rejectSlot_blank {pl : List Part} (w : within [.deferred, .irq, .rings, .logFreeze, .rung, .upd] pl = true) (k : Nat) (reason : Nat) (s : State) : blank pl (rejectSlot k reason s) = blank pl s := by
  refine widen (l := [.deferred, .irq, .rings, .logFreeze, .rung, .upd]) ?_ w
  simp (disch := first | decide | (intro _; exact ⟨rfl, rfl, rfl⟩)) only [rejectSlot, log_blank, onFwSlot_blank, onUpd_blank]
theorem bootSlot_blank {pl : List Part} (w : within [.idn, .upd] pl = true) (k : Nat) (s : State) : blank pl (bootSlot k s) = blank pl s := by
  refine widen (l := [.idn, .upd]) ?_ w
  simp (disch := first | decide | (intro _; exact ⟨rfl, rfl, rfl⟩)) only [bootSlot, onIdn_blank, onUpd_blank]
theorem bootFallback_blank {pl : List Part} (w : within [.dawn, .deferred, .idn, .irq, .rings, .logFreeze, .rung, .upd] pl = true) (left : Nat) (k : Nat) (s : State) : blank pl (bootFallback left k s) = blank pl s := by
  refine widen (l := [.dawn, .deferred, .idn, .irq, .rings, .logFreeze, .rung, .upd]) ?_ w
  simp (disch := first | decide | (intro _; exact ⟨rfl, rfl, rfl⟩)) only [bootFallback, bootSlot_blank, log_blank, onDawn_blank, onUpd_blank]
theorem enterRecovery_blank {pl : List Part} (w : within [.rings, .upd] pl = true) (s : State) : blank pl (enterRecovery s) = blank pl s := by
  refine widen (l := [.rings, .upd]) ?_ w
  simp (disch := first | decide | (intro _; exact ⟨rfl, rfl, rfl⟩)) only [enterRecovery, onUpd_blank, placeFabric_blank]
theorem bootActive_blank {pl : List Part} (w : within [.dawn, .deferred, .idn, .irq, .rings, .logFreeze, .rung, .upd] pl = true) (d : DawnIn) (left : Option Nat) (s : State) : blank pl (bootActive d left s) = blank pl s := by
  refine widen (l := [.dawn, .deferred, .idn, .irq, .rings, .logFreeze, .rung, .upd]) ?_ w
  unfold bootActive
  repeat' (first | (with_reducible rfl) | (simp (disch := decide) only [apply_ite (blank [.dawn, .deferred, .idn, .irq, .rings, .logFreeze, .rung, .upd]), ite_self, bootFallback_blank, bootSlot_blank, enterRecovery_blank, onFwSlot_blank, rejectSlot_blank]; done) | (with_reducible refine ite_blank ?_ ?_) | split | (with_reducible refine (foldl_blank _ _ _ (fun _ _ => ?_)).trans ?_) | (dsimp only))
theorem bootTrial_blank {pl : List Part} (w : within [.tick, .str, .pins, .pwr, .tb, .dawn, .deferred, .idn, .cfg, .met, .skl, .tab, .est, .jrn, .imp, .cnv, .dsp, .bal, .thm, .prot, .cont, .iso, .pair, .host, .ops, .irq, .rings, .rcd, .logFreeze, .can, .hlth, .lad, .rung, .upd, .jtag, .out, .fresh] pl = true) (d : DawnIn) (k : Nat) (first : Bool) (s : State) : blank pl (bootTrial d k first s) = blank pl s := by
  refine widen (l := [.tick, .str, .pins, .pwr, .tb, .dawn, .deferred, .idn, .cfg, .met, .skl, .tab, .est, .jrn, .imp, .cnv, .dsp, .bal, .thm, .prot, .cont, .iso, .pair, .host, .ops, .irq, .rings, .rcd, .logFreeze, .can, .hlth, .lad, .rung, .upd, .jtag, .out, .fresh]) ?_ w
  simp (disch := first | decide | (intro _; exact ⟨rfl, rfl, rfl⟩)) only [bootTrial, apply_ite (blank [.tick, .str, .pins, .pwr, .tb, .dawn, .deferred, .idn, .cfg, .met, .skl, .tab, .est, .jrn, .imp, .cnv, .dsp, .bal, .thm, .prot, .cont, .iso, .pair, .host, .ops, .irq, .rings, .rcd, .logFreeze, .can, .hlth, .lad, .rung, .upd, .jtag, .out, .fresh]), ite_self, bootSlot_blank, dawnNext_blank, log_blank, newDawn_blank, onFwSlot_blank, onUpd_blank, rejectSlot_blank]
theorem dawnD2_blank {pl : List Part} (w : within [.tick, .str, .pins, .pwr, .tb, .dawn, .deferred, .idn, .cfg, .met, .skl, .tab, .est, .jrn, .imp, .cnv, .dsp, .bal, .thm, .prot, .cont, .iso, .pair, .host, .ops, .irq, .rings, .rcd, .logFreeze, .can, .hlth, .lad, .rung, .upd, .jtag, .out, .fresh] pl = true) (d : DawnIn) (s : State) : blank pl (dawnD2 d s) = blank pl s := by
  refine widen (l := [.tick, .str, .pins, .pwr, .tb, .dawn, .deferred, .idn, .cfg, .met, .skl, .tab, .est, .jrn, .imp, .cnv, .dsp, .bal, .thm, .prot, .cont, .iso, .pair, .host, .ops, .irq, .rings, .rcd, .logFreeze, .can, .hlth, .lad, .rung, .upd, .jtag, .out, .fresh]) ?_ w
  unfold dawnD2
  repeat' (first | (with_reducible rfl) | (simp (disch := decide) only [apply_ite (blank [.tick, .str, .pins, .pwr, .tb, .dawn, .deferred, .idn, .cfg, .met, .skl, .tab, .est, .jrn, .imp, .cnv, .dsp, .bal, .thm, .prot, .cont, .iso, .pair, .host, .ops, .irq, .rings, .rcd, .logFreeze, .can, .hlth, .lad, .rung, .upd, .jtag, .out, .fresh]), ite_self, bootActive_blank, bootTrial_blank, dawnNext_blank, rejectSlot_blank]; done) | (with_reducible refine ite_blank ?_ ?_) | split | (with_reducible refine (foldl_blank _ _ _ (fun _ _ => ?_)).trans ?_) | (dsimp only))
theorem writeDeferred_blank {pl : List Part} (w : within [.dawn, .deferred, .irq, .rings, .rung] pl = true) (s : State) : blank pl (writeDeferred s) = blank pl s := by
  refine widen (l := [.dawn, .deferred, .irq, .rings, .rung]) ?_ w
  unfold writeDeferred
  repeat' (first | (with_reducible rfl) | (simp (disch := decide) only [apply_ite (blank [.dawn, .deferred, .irq, .rings, .rung]), ite_self, onDawn_blank, ringPut_blank]; done) | (with_reducible refine ite_blank ?_ ?_) | split | (with_reducible refine (foldl_blank _ _ _ (fun _ _ => ?_)).trans ?_) | (dsimp only))
theorem owed_blank {pl : List Part} (w : within [.deferred, .irq, .rings, .logFreeze, .rung] pl = true) (c : Bool) (code : Nat) (sev : Nat) (data : Bytes) (s : State) : blank pl (owed c code sev data s) = blank pl s := by
  refine widen (l := [.deferred, .irq, .rings, .logFreeze, .rung]) ?_ w
  simp (disch := decide) only [owed, apply_ite (blank [.deferred, .irq, .rings, .logFreeze, .rung]), ite_self, log_blank]
theorem locateLog_blank {pl : List Part} (w : within [.rcd, .logFreeze] pl = true) (bad : List Nat) (s : State) : blank pl (locateLog bad s) = blank pl s := by
  refine widen (l := [.rcd, .logFreeze]) ?_ w
  simp (disch := decide) only [locateLog, apply_ite (blank [.rcd, .logFreeze]), ite_self, onRcd_blank]
theorem dawnBlock_blank {pl : List Part} (w : within [.str, .pins, .tb, .dawn, .deferred, .idn, .cfg, .met, .tab, .est, .imp, .dsp, .bal, .prot, .iso, .pair, .host, .ops, .irq, .rings, .rcd, .logFreeze, .can, .hlth, .rung] pl = true) (region : Nat) (block : Nat) (s : State) : blank pl (dawnBlock region block s) = blank pl s := by
  refine widen (l := [.str, .pins, .tb, .dawn, .deferred, .idn, .cfg, .met, .tab, .est, .imp, .dsp, .bal, .prot, .iso, .pair, .host, .ops, .irq, .rings, .rcd, .logFreeze, .can, .hlth, .rung]) ?_ w
  unfold dawnBlock
  repeat' (first | (with_reducible rfl) | (simp (disch := decide) only [apply_ite (blank [.str, .pins, .tb, .dawn, .deferred, .idn, .cfg, .met, .tab, .est, .imp, .dsp, .bal, .prot, .iso, .pair, .host, .ops, .irq, .rings, .rcd, .logFreeze, .can, .hlth, .rung]), ite_self, dawnFail_blank, retireWith_blank]; done) | (with_reducible refine ite_blank ?_ ?_) | split | (with_reducible refine (foldl_blank _ _ _ (fun _ _ => ?_)).trans ?_) | (with_reducible refine (retireWith_blank (by decide) _ _ _ _ (fun _ => ?_)).trans ?_) | (dsimp only))
theorem dawnLog_blank {pl : List Part} (w : within [.tick, .str, .pwr, .tb, .dawn, .deferred, .irq, .rings, .rcd, .logFreeze, .hlth, .lad, .rung, .upd] pl = true) (d : DawnIn) (s00 : State) : blank pl (dawnLog d s00) = blank pl s00 := by
  refine widen (l := [.tick, .str, .pwr, .tb, .dawn, .deferred, .irq, .rings, .rcd, .logFreeze, .hlth, .lad, .rung, .upd]) ?_ w
  unfold dawnLog
  repeat' (first | (with_reducible rfl) | (simp (disch := first | decide | (intro _; exact ⟨rfl, rfl, rfl⟩)) only [apply_ite (blank [.tick, .str, .pwr, .tb, .dawn, .deferred, .irq, .rings, .rcd, .logFreeze, .hlth, .lad, .rung, .upd]), ite_self, addDefect_blank, locateLog_blank, log_blank, onDawn_blank, onLad_blank, onPwr_blank, onStr_blank, onTb_blank, onTick_blank, onUpd_blank, owed_blank, writeDeferred_blank]; done) | (with_reducible refine ite_blank ?_ ?_) | split | (with_reducible refine (foldl_blank _ _ _ (fun _ _ => ?_)).trans ?_) | (with_reducible refine (onUpd_blank (by decide) _ _ (fun _ => ?_)).trans ?_) | (exact ⟨rfl, rfl, rfl⟩) | (dsimp only) | (simp (disch := first | decide | (intro _; exact ⟨rfl, rfl, rfl⟩)) only [apply_ite (blank [.tick, .str, .pwr, .tb, .dawn, .deferred, .irq, .rings, .rcd, .logFreeze, .hlth, .lad, .rung, .upd]), ite_self, addDefect_blank, locateLog_blank, log_blank, onDawn_blank, onLad_blank, onPwr_blank, onStr_blank, onTb_blank, onTick_blank, onUpd_blank, owed_blank, writeDeferred_blank]))
theorem dawnD4_blank {pl : List Part} (w : within [.tick, .str, .pins, .pwr, .tb, .dawn, .deferred, .idn, .cfg, .met, .tab, .est, .imp, .dsp, .bal, .prot, .iso, .pair, .host, .ops, .irq, .rings, .rcd, .logFreeze, .can, .hlth, .lad, .rung, .upd] pl = true) (d : DawnIn) (s : State) : blank pl (dawnD4 d s) = blank pl s := by
  refine widen (l := [.tick, .str, .pins, .pwr, .tb, .dawn, .deferred, .idn, .cfg, .met, .tab, .est, .imp, .dsp, .bal, .prot, .iso, .pair, .host, .ops, .irq, .rings, .rcd, .logFreeze, .can, .hlth, .lad, .rung, .upd]) ?_ w
  unfold dawnD4
  repeat' (first | (with_reducible rfl) | (simp (disch := decide) only [apply_ite (blank [.tick, .str, .pins, .pwr, .tb, .dawn, .deferred, .idn, .cfg, .met, .tab, .est, .imp, .dsp, .bal, .prot, .iso, .pair, .host, .ops, .irq, .rings, .rcd, .logFreeze, .can, .hlth, .lad, .rung, .upd]), ite_self, dawnBlock_blank, dawnLog_blank, unlessFailed_blank]; done) | (with_reducible refine ite_blank ?_ ?_) | split | (with_reducible refine (foldl_blank _ _ _ (fun _ _ => ?_)).trans ?_) | (with_reducible refine (unlessFailed_blank (by decide) _ _ (fun _ => ?_)).trans ?_) | (dsimp only))
theorem showPlug_blank {pl : List Part} (w : within [.dawn, .deferred, .irq, .rings, .logFreeze, .rung] pl = true) (r : PlugResult) (s : State) : blank pl (showPlug r s) = blank pl s := by
  refine widen (l := [.dawn, .deferred, .irq, .rings, .logFreeze, .rung]) ?_ w
  unfold showPlug
  repeat' (first | (with_reducible rfl) | (simp (disch := decide) only [apply_ite (blank [.dawn, .deferred, .irq, .rings, .logFreeze, .rung]), ite_self, log_blank, onDawn_blank]; done) | (with_reducible refine ite_blank ?_ ?_) | split | (with_reducible refine (foldl_blank _ _ _ (fun _ _ => ?_)).trans ?_) | (dsimp only) | (simp (disch := decide) only [apply_ite (blank [.dawn, .deferred, .irq, .rings, .logFreeze, .rung]), ite_self, log_blank, onDawn_blank]))
theorem acceptImage_blank {pl : List Part} (w : within [.pins, .dawn, .deferred, .idn, .cfg, .cnv, .irq, .rings, .logFreeze, .rung] pl = true) (img : Bytes) (r : PlugResult) (s : State) : blank pl (acceptImage img r s) = blank pl s := by
  refine widen (l := [.pins, .dawn, .deferred, .idn, .cfg, .cnv, .irq, .rings, .logFreeze, .rung]) ?_ w
  simp (disch := decide) only [acceptImage, apply_ite (blank [.pins, .dawn, .deferred, .idn, .cfg, .cnv, .irq, .rings, .logFreeze, .rung]), ite_self, log_blank, onCnv_blank, onDawn_blank, onIdn_blank, onPins_blank, cfg_blank]
theorem dawnD5_blank {pl : List Part} (w : within [.str, .pins, .tb, .dawn, .deferred, .idn, .cfg, .met, .tab, .est, .imp, .cnv, .dsp, .bal, .prot, .iso, .pair, .host, .ops, .irq, .rings, .rcd, .logFreeze, .can, .rung] pl = true) (d : DawnIn) (s : State) : blank pl (dawnD5 d s) = blank pl s := by
  refine widen (l := [.str, .pins, .tb, .dawn, .deferred, .idn, .cfg, .met, .tab, .est, .imp, .cnv, .dsp, .bal, .prot, .iso, .pair, .host, .ops, .irq, .rings, .rcd, .logFreeze, .can, .rung]) ?_ w
  unfold dawnD5
  repeat' (first | (with_reducible rfl) | (simp (disch := decide) only [apply_ite (blank [.str, .pins, .tb, .dawn, .deferred, .idn, .cfg, .met, .tab, .est, .imp, .cnv, .dsp, .bal, .prot, .iso, .pair, .host, .ops, .irq, .rings, .rcd, .logFreeze, .can, .rung]), ite_self, acceptImage_blank, dawnFail_blank, log_blank, onPins_blank, showPlug_blank]; done) | (with_reducible refine ite_blank ?_ ?_) | split | (with_reducible refine (foldl_blank _ _ _ (fun _ _ => ?_)).trans ?_) | (dsimp only))
theorem startMetrology_blank {pl : List Part} (w : within [.met] pl = true) (s : State) : blank pl (startMetrology s) = blank pl s := by
  refine widen (l := [.met]) ?_ w
  simp (disch := decide) only [startMetrology, onMet_blank]
theorem calMissing_blank {pl : List Part} (w : within [.deferred, .irq, .rings, .logFreeze, .rung] pl = true) (s : State) : blank pl (calMissing s) = blank pl s := by
  refine widen (l := [.deferred, .irq, .rings, .logFreeze, .rung]) ?_ w
  unfold calMissing
  repeat' (first | (with_reducible rfl) | (simp (disch := decide) only [apply_ite (blank [.deferred, .irq, .rings, .logFreeze, .rung]), ite_self, log_blank]; done) | (with_reducible refine ite_blank ?_ ?_) | split | (with_reducible refine (foldl_blank _ _ _ (fun _ _ => ?_)).trans ?_) | (dsimp only))
theorem noteDs_blank {pl : List Part} (w : within [.deferred, .irq, .rings, .logFreeze, .hlth, .rung] pl = true) (st : Nat) (ch : Nat) (s : State) : blank pl (noteDs st ch s) = blank pl s := by
  refine widen (l := [.deferred, .irq, .rings, .logFreeze, .hlth, .rung]) ?_ w
  simp (disch := decide) only [noteDs, apply_ite (blank [.deferred, .irq, .rings, .logFreeze, .hlth, .rung]), ite_self, addDefect_blank, useSpare_blank]
theorem dawnDs_blank {pl : List Part} (w : within [.str, .pins, .tb, .dawn, .deferred, .idn, .cfg, .met, .tab, .est, .imp, .dsp, .bal, .prot, .iso, .pair, .host, .ops, .irq, .rings, .rcd, .logFreeze, .can, .hlth, .rung] pl = true) (ch : Nat) (s : State) : blank pl (dawnDs ch s) = blank pl s := by
  refine widen (l := [.str, .pins, .tb, .dawn, .deferred, .idn, .cfg, .met, .tab, .est, .imp, .dsp, .bal, .prot, .iso, .pair, .host, .ops, .irq, .rings, .rcd, .logFreeze, .can, .hlth, .rung]) ?_ w
  simp (disch := decide) only [dawnDs, apply_ite (blank [.str, .pins, .tb, .dawn, .deferred, .idn, .cfg, .met, .tab, .est, .imp, .dsp, .bal, .prot, .iso, .pair, .host, .ops, .irq, .rings, .rcd, .logFreeze, .can, .hlth, .rung]), ite_self, dawnFail_blank, ds7Move_blank, log_blank, noteDs_blank, onDs_blank, onMet_blank]
theorem dawnChannels_blank {pl : List Part} (w : within [.str, .pins, .tb, .dawn, .deferred, .idn, .cfg, .met, .tab, .est, .imp, .dsp, .bal, .prot, .iso, .pair, .host, .ops, .irq, .rings, .rcd, .logFreeze, .can, .hlth, .rung] pl = true) (bad : List Nat) (s : State) : blank pl (dawnChannels bad s) = blank pl s := by
  refine widen (l := [.str, .pins, .tb, .dawn, .deferred, .idn, .cfg, .met, .tab, .est, .imp, .dsp, .bal, .prot, .iso, .pair, .host, .ops, .irq, .rings, .rcd, .logFreeze, .can, .hlth, .rung]) ?_ w
  unfold dawnChannels
  repeat' (first | (with_reducible rfl) | (simp (disch := decide) only [apply_ite (blank [.str, .pins, .tb, .dawn, .deferred, .idn, .cfg, .met, .tab, .est, .imp, .dsp, .bal, .prot, .iso, .pair, .host, .ops, .irq, .rings, .rcd, .logFreeze, .can, .hlth, .rung]), ite_self, dawnDs_blank, dawnFail_blank, ds7Move_blank, log_blank, noteDs_blank, onDs_blank, onMet_blank, raiseTw_blank, unlessFailed_blank]; done) | (with_reducible refine ite_blank ?_ ?_) | split | (with_reducible refine (foldl_blank _ _ _ (fun _ _ => ?_)).trans ?_) | (with_reducible refine (unlessFailed_blank (by decide) _ _ (fun _ => ?_)).trans ?_) | (dsimp only) | (simp (disch := decide) only [apply_ite (blank [.str, .pins, .tb, .dawn, .deferred, .idn, .cfg, .met, .tab, .est, .imp, .dsp, .bal, .prot, .iso, .pair, .host, .ops, .irq, .rings, .rcd, .logFreeze, .can, .hlth, .rung]), ite_self, dawnDs_blank, dawnFail_blank, ds7Move_blank, log_blank, noteDs_blank, onDs_blank, onMet_blank, raiseTw_blank, unlessFailed_blank]))
theorem dawnD6_blank {pl : List Part} (w : within [.str, .pins, .tb, .dawn, .deferred, .idn, .cfg, .met, .tab, .est, .imp, .dsp, .bal, .prot, .iso, .pair, .host, .ops, .irq, .rings, .rcd, .logFreeze, .can, .hlth, .rung] pl = true) (d : DawnIn) (s : State) : blank pl (dawnD6 d s) = blank pl s := by
  refine widen (l := [.str, .pins, .tb, .dawn, .deferred, .idn, .cfg, .met, .tab, .est, .imp, .dsp, .bal, .prot, .iso, .pair, .host, .ops, .irq, .rings, .rcd, .logFreeze, .can, .hlth, .rung]) ?_ w
  simp (disch := decide) only [dawnD6, apply_ite (blank [.str, .pins, .tb, .dawn, .deferred, .idn, .cfg, .met, .tab, .est, .imp, .dsp, .bal, .prot, .iso, .pair, .host, .ops, .irq, .rings, .rcd, .logFreeze, .can, .hlth, .rung]), ite_self, calMissing_blank, dawnChannels_blank, dawnFail_blank, log_blank, onPins_blank, startMetrology_blank]
theorem dawnD8_blank {pl : List Part} (w : within [.str, .tb, .deferred, .pair, .irq, .rings, .logFreeze, .rung] pl = true) (s : State) : blank pl (dawnD8 s) = blank pl s := by
  refine widen (l := [.str, .tb, .deferred, .pair, .irq, .rings, .logFreeze, .rung]) ?_ w
  simp (disch := decide) only [dawnD8, apply_ite (blank [.str, .tb, .deferred, .pair, .irq, .rings, .logFreeze, .rung]), ite_self, decideRole_blank, log_blank]
theorem dawnD7_blank {pl : List Part} (w : within [.str, .pins, .tb, .dawn, .deferred, .idn, .cfg, .met, .tab, .est, .imp, .dsp, .bal, .prot, .iso, .pair, .host, .ops, .irq, .rings, .rcd, .logFreeze, .can, .rung] pl = true) (d : DawnIn) (s : State) : blank pl (dawnD7 d s) = blank pl s := by
  refine widen (l := [.str, .pins, .tb, .dawn, .deferred, .idn, .cfg, .met, .tab, .est, .imp, .dsp, .bal, .prot, .iso, .pair, .host, .ops, .irq, .rings, .rcd, .logFreeze, .can, .rung]) ?_ w
  unfold dawnD7
  repeat' (first | (with_reducible rfl) | (simp (disch := decide) only [apply_ite (blank [.str, .pins, .tb, .dawn, .deferred, .idn, .cfg, .met, .tab, .est, .imp, .dsp, .bal, .prot, .iso, .pair, .host, .ops, .irq, .rings, .rcd, .logFreeze, .can, .rung]), ite_self, dawnFail_blank, log_blank, onDawn_blank]; done) | (with_reducible refine ite_blank ?_ ?_) | split | (with_reducible refine (foldl_blank _ _ _ (fun _ _ => ?_)).trans ?_) | (dsimp only))
theorem dawnGate_blank {pl : List Part} (w : within [.str, .pins, .tb, .dawn, .deferred, .idn, .cfg, .met, .tab, .est, .imp, .cnv, .dsp, .bal, .prot, .iso, .pair, .host, .ops, .irq, .rings, .rcd, .logFreeze, .can, .rung] pl = true) (d : DawnIn) (s : State) : blank pl (dawnGate d s) = blank pl s := by
  refine widen (l := [.str, .pins, .tb, .dawn, .deferred, .idn, .cfg, .met, .tab, .est, .imp, .cnv, .dsp, .bal, .prot, .iso, .pair, .host, .ops, .irq, .rings, .rcd, .logFreeze, .can, .rung]) ?_ w
  unfold dawnGate
  repeat' (first | (with_reducible rfl) | (simp (disch := decide) only [apply_ite (blank [.str, .pins, .tb, .dawn, .deferred, .idn, .cfg, .met, .tab, .est, .imp, .cnv, .dsp, .bal, .prot, .iso, .pair, .host, .ops, .irq, .rings, .rcd, .logFreeze, .can, .rung]), ite_self, dawnFail_blank, log_blank, onCnv_blank]; done) | (with_reducible refine ite_blank ?_ ?_) | split | (with_reducible refine (foldl_blank _ _ _ (fun _ _ => ?_)).trans ?_) | (dsimp only))
theorem dawnSfp_blank {pl : List Part} (w : within [.str, .pins, .tb, .deferred, .pair, .irq, .rings, .logFreeze, .rung] pl = true) (d : DawnIn) (s : State) : blank pl (dawnSfp d s) = blank pl s := by
  refine widen (l := [.str, .pins, .tb, .deferred, .pair, .irq, .rings, .logFreeze, .rung]) ?_ w
  unfold dawnSfp
  repeat' (first | (with_reducible rfl) | (simp (disch := decide) only [apply_ite (blank [.str, .pins, .tb, .deferred, .pair, .irq, .rings, .logFreeze, .rung]), ite_self, id_eq, log_blank, onPair_blank, onPins_blank, onStr_blank, setSync_blank]; done) | (with_reducible refine ite_blank ?_ ?_) | split | (with_reducible refine (foldl_blank _ _ _ (fun _ _ => ?_)).trans ?_) | (dsimp only))
theorem dawnNetwork_blank {pl : List Part} (w : within [.str, .pins, .tb, .dawn, .deferred, .idn, .cfg, .met, .tab, .est, .imp, .cnv, .dsp, .bal, .prot, .iso, .pair, .host, .ops, .irq, .rings, .rcd, .logFreeze, .can, .rung] pl = true) (d : DawnIn) (s : State) : blank pl (dawnNetwork d s) = blank pl s := by
  refine widen (l := [.str, .pins, .tb, .dawn, .deferred, .idn, .cfg, .met, .tab, .est, .imp, .cnv, .dsp, .bal, .prot, .iso, .pair, .host, .ops, .irq, .rings, .rcd, .logFreeze, .can, .rung]) ?_ w
  unfold dawnNetwork
  repeat' (first | (with_reducible rfl) | (simp (disch := decide) only [apply_ite (blank [.str, .pins, .tb, .dawn, .deferred, .idn, .cfg, .met, .tab, .est, .imp, .cnv, .dsp, .bal, .prot, .iso, .pair, .host, .ops, .irq, .rings, .rcd, .logFreeze, .can, .rung]), ite_self, canOn_blank, dawnGate_blank, dawnSfp_blank, unlessFailed_blank]; done) | (with_reducible refine ite_blank ?_ ?_) | split | (with_reducible refine (foldl_blank _ _ _ (fun _ _ => ?_)).trans ?_) | (with_reducible refine (unlessFailed_blank (by decide) _ _ (fun _ => ?_)).trans ?_) | (dsimp only))
theorem dawnD10_blank {pl : List Part} (w : within [.pins, .dawn, .deferred, .skl, .tab, .est, .jrn, .bal, .irq, .rings, .logFreeze, .rung] pl = true) (d : DawnIn) (s : State) : blank pl (dawnD10 d s) = blank pl s := by
  refine widen (l := [.pins, .dawn, .deferred, .skl, .tab, .est, .jrn, .bal, .irq, .rings, .logFreeze, .rung]) ?_ w
  simp (disch := decide) only [dawnD10, apply_ite (blank [.pins, .dawn, .deferred, .skl, .tab, .est, .jrn, .bal, .irq, .rings, .logFreeze, .rung]), ite_self, journalLoad_blank, journalRead_blank, onBal_blank, onTab_blank, probationStart_blank, ringStart_blank]
theorem dawnComplete_blank {pl : List Part} (w : within [.str, .pins, .tb, .dawn, .deferred, .idn, .cfg, .met, .tab, .est, .imp, .dsp, .bal, .prot, .iso, .pair, .host, .ops, .irq, .rings, .rcd, .logFreeze, .can, .rung, .upd] pl = true) (s : State) : blank pl (dawnComplete s) = blank pl s := by
  refine widen (l := [.str, .pins, .tb, .dawn, .deferred, .idn, .cfg, .met, .tab, .est, .imp, .dsp, .bal, .prot, .iso, .pair, .host, .ops, .irq, .rings, .rcd, .logFreeze, .can, .rung, .upd]) ?_ w
  unfold dawnComplete
  repeat' (first | (with_reducible rfl) | (simp (disch := first | decide | (intro _; exact ⟨rfl, rfl, rfl⟩)) only [apply_ite (blank [.str, .pins, .tb, .dawn, .deferred, .idn, .cfg, .met, .tab, .est, .imp, .dsp, .bal, .prot, .iso, .pair, .host, .ops, .irq, .rings, .rcd, .logFreeze, .can, .rung, .upd]), ite_self, dawnFail_blank, log_blank, onDawn_blank, onIdn_blank, onStr_blank, onUpd_blank]; done) | (with_reducible refine ite_blank ?_ ?_) | split | (with_reducible refine (foldl_blank _ _ _ (fun _ _ => ?_)).trans ?_) | (with_reducible refine (onUpd_blank (by decide) _ _ (fun _ => ?_)).trans ?_) | (exact ⟨rfl, rfl, rfl⟩) | (dsimp only) | (simp (disch := first | decide | (intro _; exact ⟨rfl, rfl, rfl⟩)) only [apply_ite (blank [.str, .pins, .tb, .dawn, .deferred, .idn, .cfg, .met, .tab, .est, .imp, .dsp, .bal, .prot, .iso, .pair, .host, .ops, .irq, .rings, .rcd, .logFreeze, .can, .rung, .upd]), ite_self, dawnFail_blank, log_blank, onDawn_blank, onIdn_blank, onStr_blank, onUpd_blank]))
theorem dawnD11_blank {pl : List Part} (w : within [.str, .pins, .pwr, .tb, .dawn, .deferred, .idn, .cfg, .met, .tab, .est, .imp, .dsp, .bal, .prot, .iso, .pair, .host, .ops, .irq, .rings, .rcd, .logFreeze, .can, .rung, .upd] pl = true) (d : DawnIn) (s : State) : blank pl (dawnD11 d s) = blank pl s := by
  refine widen (l := [.str, .pins, .pwr, .tb, .dawn, .deferred, .idn, .cfg, .met, .tab, .est, .imp, .dsp, .bal, .prot, .iso, .pair, .host, .ops, .irq, .rings, .rcd, .logFreeze, .can, .rung, .upd]) ?_ w
  simp (disch := decide) only [dawnD11, apply_ite (blank [.str, .pins, .pwr, .tb, .dawn, .deferred, .idn, .cfg, .met, .tab, .est, .imp, .dsp, .bal, .prot, .iso, .pair, .host, .ops, .irq, .rings, .rcd, .logFreeze, .can, .rung, .upd]), ite_self, dawnComplete_blank, dawnFail_blank, log_blank, onPwr_blank]
theorem dawnWork_blank {pl : List Part} (w : within [.tick, .str, .pins, .pwr, .tb, .dawn, .deferred, .idn, .cfg, .met, .skl, .tab, .est, .jrn, .imp, .cnv, .dsp, .bal, .thm, .prot, .cont, .iso, .pair, .host, .ops, .irq, .rings, .rcd, .logFreeze, .can, .hlth, .lad, .rung, .upd, .jtag, .out, .fresh] pl = true) (d : DawnIn) (k : Nat) (s : State) : blank pl (dawnWork d k s) = blank pl s := by
  refine widen (l := [.tick, .str, .pins, .pwr, .tb, .dawn, .deferred, .idn, .cfg, .met, .skl, .tab, .est, .jrn, .imp, .cnv, .dsp, .bal, .thm, .prot, .cont, .iso, .pair, .host, .ops, .irq, .rings, .rcd, .logFreeze, .can, .hlth, .lad, .rung, .upd, .jtag, .out, .fresh]) ?_ w
  unfold dawnWork
  repeat' (first | (with_reducible rfl) | (simp (disch := decide) only [apply_ite (blank [.tick, .str, .pins, .pwr, .tb, .dawn, .deferred, .idn, .cfg, .met, .skl, .tab, .est, .jrn, .imp, .cnv, .dsp, .bal, .thm, .prot, .cont, .iso, .pair, .host, .ops, .irq, .rings, .rcd, .logFreeze, .can, .hlth, .lad, .rung, .upd, .jtag, .out, .fresh]), ite_self, dawnD0_blank, dawnD10_blank, dawnD11_blank, dawnD2_blank, dawnD3_blank, dawnD4_blank, dawnD5_blank, dawnD6_blank, dawnD7_blank, dawnD8_blank, dawnGate_blank, dawnNetwork_blank, dawnNext_blank, testRows_blank, unlessFailed_blank]; done) | (with_reducible refine ite_blank ?_ ?_) | split | (with_reducible refine (foldl_blank _ _ _ (fun _ _ => ?_)).trans ?_) | (with_reducible refine (unlessFailed_blank (by decide) _ _ (fun _ => ?_)).trans ?_) | (dsimp only))
theorem execDawnStepEnd_blank {pl : List Part} (w : within [.tick, .str, .pins, .pwr, .tb, .dawn, .deferred, .idn, .cfg, .met, .skl, .tab, .est, .jrn, .imp, .cnv, .dsp, .bal, .thm, .prot, .cont, .iso, .pair, .host, .ops, .irq, .rings, .rcd, .logFreeze, .can, .hlth, .lad, .rung, .upd, .jtag, .out, .fresh] pl = true) (d : DawnIn) (s : State) : Frames pl s (execDawnStepEnd d s) := by
  refine widens (l := [.tick, .str, .pins, .pwr, .tb, .dawn, .deferred, .idn, .cfg, .met, .skl, .tab, .est, .jrn, .imp, .cnv, .dsp, .bal, .thm, .prot, .cont, .iso, .pair, .host, .ops, .irq, .rings, .rcd, .logFreeze, .can, .hlth, .lad, .rung, .upd, .jtag, .out, .fresh]) ?_ w
  unfold execDawnStepEnd
  repeat' (first | (with_reducible rfl) | (simp (disch := decide) only [frames_next, apply_ite (blank [.tick, .str, .pins, .pwr, .tb, .dawn, .deferred, .idn, .cfg, .met, .skl, .tab, .est, .jrn, .imp, .cnv, .dsp, .bal, .thm, .prot, .cont, .iso, .pair, .host, .ops, .irq, .rings, .rcd, .logFreeze, .can, .hlth, .lad, .rung, .upd, .jtag, .out, .fresh]), ite_self, dawnWork_blank]; done) | (with_reducible refine ite_blank ?_ ?_) | split | (with_reducible refine (foldl_blank _ _ _ (fun _ _ => ?_)).trans ?_) | (dsimp only))
theorem execDawnStepTimeout_blank {pl : List Part} (w : within [.str, .pins, .tb, .dawn, .deferred, .idn, .cfg, .met, .tab, .est, .imp, .dsp, .bal, .prot, .iso, .pair, .host, .ops, .irq, .rings, .rcd, .logFreeze, .can, .rung] pl = true) (s : State) : Frames pl s (execDawnStepTimeout s) := by
  refine widens (l := [.str, .pins, .tb, .dawn, .deferred, .idn, .cfg, .met, .tab, .est, .imp, .dsp, .bal, .prot, .iso, .pair, .host, .ops, .irq, .rings, .rcd, .logFreeze, .can, .rung]) ?_ w
  unfold execDawnStepTimeout
  repeat' (first | (with_reducible rfl) | (simp (disch := decide) only [frames_next, apply_ite (blank [.str, .pins, .tb, .dawn, .deferred, .idn, .cfg, .met, .tab, .est, .imp, .dsp, .bal, .prot, .iso, .pair, .host, .ops, .irq, .rings, .rcd, .logFreeze, .can, .rung]), ite_self, dawnFail_blank, log_blank]; done) | (with_reducible refine ite_blank ?_ ?_) | split | (with_reducible refine (foldl_blank _ _ _ (fun _ _ => ?_)).trans ?_) | (dsimp only))
theorem execLampTestEnd_blank {pl : List Part} (w : within [.pins] pl = true) (s : State) : Frames pl s (execLampTestEnd s) := by
  refine widens (l := [.pins]) ?_ w
  unfold execLampTestEnd
  split <;> simp (disch := decide) only [frames_next, apply_ite (blank [.pins]), ite_self, onPins_blank]
theorem command_blank {pl : List Part} (w : within [.deferred, .host, .irq, .rings, .logFreeze, .rung, .out] pl = true) (least : Nat) (argsOk : Bool) (act : State → State) (r : HostReq) (s : State) (h : ∀ t, blank pl (act t) = blank pl t) : blank pl (command least argsOk act r s) = blank pl s := by
  unfold command
  repeat' (first | (with_reducible rfl) | (simp (disch := first | decide | exact within_trans (by decide) w) only [apply_ite (blank pl), ite_self, refuseState_blank, roleThen_blank, h]; done) | (with_reducible refine ite_blank ?_ ?_) | split | (with_reducible refine (foldl_blank _ _ _ (fun _ _ => ?_)).trans ?_) | (with_reducible refine (roleThen_blank (within_trans (by decide) w) _ _ _ _ _ (fun _ => ?_)).trans ?_) | (dsimp only))
theorem evalRow_blank {pl : List Part} (w : within [] pl = true) (code : Nat) (eval : HostReq → State → State) (r : HostReq) (s : State) (h : ∀ a t, blank pl (eval a t) = blank pl t) : Frames pl s (evalRow code eval r s) := by
  simp (disch := first | decide | exact within_trans (by decide) w) only [evalRow, frames_next, apply_ite (blank pl), ite_self, h]
theorem connectStart_blank {pl : List Part} (w : within [.str, .deferred, .met, .est, .imp, .dsp, .bal, .prot, .cont, .iso, .host, .ops, .irq, .rings, .rcd, .logFreeze, .rung] pl = true) (s : State) : blank pl (connectStart s) = blank pl s := by
  refine widen (l := [.str, .deferred, .met, .est, .imp, .dsp, .bal, .prot, .cont, .iso, .host, .ops, .irq, .rings, .rcd, .logFreeze, .rung]) ?_ w
  simp (disch := decide) only [connectStart, coilOn_blank, onCont_blank, preTo_blank, setState_blank]
theorem evalConnect_blank {pl : List Part} (w : within [.str, .deferred, .met, .est, .imp, .dsp, .bal, .prot, .cont, .iso, .host, .ops, .irq, .rings, .rcd, .logFreeze, .rung, .out] pl = true) (r : HostReq) (s : State) : blank pl (evalConnect r s) = blank pl s := by
  refine widen (l := [.str, .deferred, .met, .est, .imp, .dsp, .bal, .prot, .cont, .iso, .host, .ops, .irq, .rings, .rcd, .logFreeze, .rung, .out]) ?_ w
  unfold evalConnect
  repeat' (first | (with_reducible rfl) | (simp (disch := decide) only [apply_ite (blank [.str, .deferred, .met, .est, .imp, .dsp, .bal, .prot, .cont, .iso, .host, .ops, .irq, .rings, .rcd, .logFreeze, .rung, .out]), ite_self, command_blank, connectStart_blank, onStr_blank, respond_blank]; done) | (with_reducible refine ite_blank ?_ ?_) | split | (with_reducible refine (foldl_blank _ _ _ (fun _ _ => ?_)).trans ?_) | (with_reducible refine (command_blank (by decide) _ _ _ _ _ (fun _ => ?_)).trans ?_) | (dsimp only))
theorem evalStart_blank {pl : List Part} (w : within [.str, .deferred, .met, .est, .imp, .dsp, .bal, .prot, .iso, .host, .ops, .irq, .rings, .rcd, .logFreeze, .rung, .out] pl = true) (r : HostReq) (s : State) : blank pl (evalStart r s) = blank pl s := by
  refine widen (l := [.str, .deferred, .met, .est, .imp, .dsp, .bal, .prot, .iso, .host, .ops, .irq, .rings, .rcd, .logFreeze, .rung, .out]) ?_ w
  unfold evalStart
  repeat' (first | (with_reducible rfl) | (simp (disch := decide) only [apply_ite (blank [.str, .deferred, .met, .est, .imp, .dsp, .bal, .prot, .iso, .host, .ops, .irq, .rings, .rcd, .logFreeze, .rung, .out]), ite_self, command_blank, respond_blank, setState_blank]; done) | (with_reducible refine ite_blank ?_ ?_) | split | (with_reducible refine (foldl_blank _ _ _ (fun _ _ => ?_)).trans ?_) | (with_reducible refine (command_blank (by decide) _ _ _ _ _ (fun _ => ?_)).trans ?_) | (dsimp only))
theorem stopToward_blank {pl : List Part} (w : within [.str, .deferred, .met, .est, .imp, .dsp, .bal, .prot, .cont, .iso, .host, .ops, .irq, .rings, .rcd, .logFreeze, .rung] pl = true) (target : StringState) (s : State) : blank pl (stopToward target s) = blank pl s := by
  refine widen (l := [.str, .deferred, .met, .est, .imp, .dsp, .bal, .prot, .cont, .iso, .host, .ops, .irq, .rings, .rcd, .logFreeze, .rung]) ?_ w
  simp (disch := decide) only [stopToward, onCont_blank, onStr_blank, setState_blank]
theorem evalStop_blank {pl : List Part} (w : within [.str, .deferred, .met, .est, .imp, .dsp, .bal, .prot, .cont, .iso, .host, .ops, .irq, .rings, .rcd, .logFreeze, .rung, .out] pl = true) (r : HostReq) (s : State) : blank pl (evalStop r s) = blank pl s := by
  refine widen (l := [.str, .deferred, .met, .est, .imp, .dsp, .bal, .prot, .cont, .iso, .host, .ops, .irq, .rings, .rcd, .logFreeze, .rung, .out]) ?_ w
  unfold evalStop
  repeat' (first | (with_reducible rfl) | (simp (disch := decide) only [apply_ite (blank [.str, .deferred, .met, .est, .imp, .dsp, .bal, .prot, .cont, .iso, .host, .ops, .irq, .rings, .rcd, .logFreeze, .rung, .out]), ite_self, command_blank, respond_blank, stopToward_blank]; done) | (with_reducible refine ite_blank ?_ ?_) | split | (with_reducible refine (foldl_blank _ _ _ (fun _ _ => ?_)).trans ?_) | (with_reducible refine (command_blank (by decide) _ _ _ _ _ (fun _ => ?_)).trans ?_) | (dsimp only))
theorem disconnect_blank {pl : List Part} (w : within [.str, .deferred, .met, .est, .imp, .dsp, .bal, .prot, .cont, .iso, .host, .ops, .irq, .rings, .rcd, .logFreeze, .rung] pl = true) (s : State) : blank pl (disconnect s) = blank pl s := by
  refine widen (l := [.str, .deferred, .met, .est, .imp, .dsp, .bal, .prot, .cont, .iso, .host, .ops, .irq, .rings, .rcd, .logFreeze, .rung]) ?_ w
  unfold disconnect
  split <;> simp (disch := decide) only [apply_ite (blank [.str, .deferred, .met, .est, .imp, .dsp, .bal, .prot, .cont, .iso, .host, .ops, .irq, .rings, .rcd, .logFreeze, .rung]), ite_self, coilsOff_blank, onStr_blank, setState_blank, stopToward_blank]
theorem evalDisconnect_blank {pl : List Part} (w : within [.str, .deferred, .met, .est, .imp, .dsp, .bal, .prot, .cont, .iso, .host, .ops, .irq, .rings, .rcd, .logFreeze, .rung, .out] pl = true) (r : HostReq) (s : State) : blank pl (evalDisconnect r s) = blank pl s := by
  refine widen (l := [.str, .deferred, .met, .est, .imp, .dsp, .bal, .prot, .cont, .iso, .host, .ops, .irq, .rings, .rcd, .logFreeze, .rung, .out]) ?_ w
  unfold evalDisconnect
  repeat' (first | (with_reducible rfl) | (simp (disch := decide) only [apply_ite (blank [.str, .deferred, .met, .est, .imp, .dsp, .bal, .prot, .cont, .iso, .host, .ops, .irq, .rings, .rcd, .logFreeze, .rung, .out]), ite_self, command_blank, disconnect_blank, respond_blank]; done) | (with_reducible refine ite_blank ?_ ?_) | split | (with_reducible refine (foldl_blank _ _ _ (fun _ _ => ?_)).trans ?_) | (with_reducible refine (command_blank (by decide) _ _ _ _ _ (fun _ => ?_)).trans ?_) | (dsimp only))
theorem evalClearFault_blank {pl : List Part} (w : within [.str, .deferred, .met, .est, .imp, .dsp, .bal, .prot, .iso, .host, .ops, .irq, .rings, .rcd, .logFreeze, .can, .rung, .out] pl = true) (r : HostReq) (s : State) : blank pl (evalClearFault r s) = blank pl s := by
  refine widen (l := [.str, .deferred, .met, .est, .imp, .dsp, .bal, .prot, .iso, .host, .ops, .irq, .rings, .rcd, .logFreeze, .can, .rung, .out]) ?_ w
  unfold evalClearFault
  repeat' (first | (with_reducible rfl) | (simp (disch := decide) only [apply_ite (blank [.str, .deferred, .met, .est, .imp, .dsp, .bal, .prot, .iso, .host, .ops, .irq, .rings, .rcd, .logFreeze, .can, .rung, .out]), ite_self, command_blank, onStr_blank, respond_blank, setState_blank, tripCleared_blank]; done) | (with_reducible refine ite_blank ?_ ?_) | split | (with_reducible refine (foldl_blank _ _ _ (fun _ _ => ?_)).trans ?_) | (with_reducible refine (command_blank (by decide) _ _ _ _ _ (fun _ => ?_)).trans ?_) | (dsimp only))
theorem evalEnterService_blank {pl : List Part} (w : within [.str, .deferred, .met, .est, .imp, .dsp, .bal, .prot, .iso, .host, .ops, .irq, .rings, .rcd, .logFreeze, .rung, .out] pl = true) (r : HostReq) (s : State) : blank pl (evalEnterService r s) = blank pl s := by
  refine widen (l := [.str, .deferred, .met, .est, .imp, .dsp, .bal, .prot, .iso, .host, .ops, .irq, .rings, .rcd, .logFreeze, .rung, .out]) ?_ w
  unfold evalEnterService
  repeat' (first | (with_reducible rfl) | (simp (disch := decide) only [apply_ite (blank [.str, .deferred, .met, .est, .imp, .dsp, .bal, .prot, .iso, .host, .ops, .irq, .rings, .rcd, .logFreeze, .rung, .out]), ite_self, command_blank, respond_blank, setState_blank]; done) | (with_reducible refine ite_blank ?_ ?_) | split | (with_reducible refine (foldl_blank _ _ _ (fun _ _ => ?_)).trans ?_) | (with_reducible refine (command_blank (by decide) _ _ _ _ _ (fun _ => ?_)).trans ?_) | (dsimp only))
theorem leaveWith_blank {pl : List Part} (w : within [.pair, .out] pl = true) (kind : Nat) (act : State → State) (s : State) (h : ∀ t, blank pl (act t) = blank pl t) : blank pl (leaveWith kind act s) = blank pl s := by
  simp (disch := first | decide | exact within_trans (by decide) w) only [leaveWith, apply_ite (blank pl), ite_self, startHandover_blank, h]
theorem evalRestart_blank {pl : List Part} (w : within [.tick, .str, .pins, .pwr, .tb, .dawn, .deferred, .idn, .cfg, .met, .skl, .tab, .est, .jrn, .imp, .cnv, .dsp, .bal, .thm, .prot, .cont, .iso, .pair, .host, .ops, .irq, .rings, .rcd, .logFreeze, .can, .hlth, .lad, .rung, .upd, .jtag, .out, .fresh] pl = true) (r : HostReq) (s : State) : blank pl (evalRestart r s) = blank pl s := by
  refine widen (l := [.tick, .str, .pins, .pwr, .tb, .dawn, .deferred, .idn, .cfg, .met, .skl, .tab, .est, .jrn, .imp, .cnv, .dsp, .bal, .thm, .prot, .cont, .iso, .pair, .host, .ops, .irq, .rings, .rcd, .logFreeze, .can, .hlth, .lad, .rung, .upd, .jtag, .out, .fresh]) ?_ w
  unfold evalRestart
  repeat' (first | (with_reducible rfl) | (simp (disch := decide) only [apply_ite (blank [.tick, .str, .pins, .pwr, .tb, .dawn, .deferred, .idn, .cfg, .met, .skl, .tab, .est, .jrn, .imp, .cnv, .dsp, .bal, .thm, .prot, .cont, .iso, .pair, .host, .ops, .irq, .rings, .rcd, .logFreeze, .can, .hlth, .lad, .rung, .upd, .jtag, .out, .fresh]), ite_self, command_blank, leaveWith_blank, newDawn_blank, respond_blank]; done) | (with_reducible refine ite_blank ?_ ?_) | split | (with_reducible refine (foldl_blank _ _ _ (fun _ _ => ?_)).trans ?_) | (with_reducible refine (command_blank (by decide) _ _ _ _ _ (fun _ => ?_)).trans ?_) | (with_reducible refine (leaveWith_blank (by decide) _ _ _ (fun _ => ?_)).trans ?_) | (dsimp only))
theorem evalShutdown_blank {pl : List Part} (w : within [.str, .pins, .deferred, .met, .est, .imp, .dsp, .bal, .thm, .prot, .cont, .iso, .pair, .host, .ops, .irq, .rings, .rcd, .logFreeze, .can, .lad, .rung, .out] pl = true) (r : HostReq) (s : State) : blank pl (evalShutdown r s) = blank pl s := by
  refine widen (l := [.str, .pins, .deferred, .met, .est, .imp, .dsp, .bal, .thm, .prot, .cont, .iso, .pair, .host, .ops, .irq, .rings, .rcd, .logFreeze, .can, .lad, .rung, .out]) ?_ w
  unfold evalShutdown
  repeat' (first | (with_reducible rfl) | (simp (disch := decide) only [apply_ite (blank [.str, .pins, .deferred, .met, .est, .imp, .dsp, .bal, .thm, .prot, .cont, .iso, .pair, .host, .ops, .irq, .rings, .rcd, .logFreeze, .can, .lad, .rung, .out]), ite_self, command_blank, enterOff_blank, leaveWith_blank, respond_blank]; done) | (with_reducible refine ite_blank ?_ ?_) | split | (with_reducible refine (foldl_blank _ _ _ (fun _ _ => ?_)).trans ?_) | (with_reducible refine (command_blank (by decide) _ _ _ _ _ (fun _ => ?_)).trans ?_) | (with_reducible refine (leaveWith_blank (by decide) _ _ _ (fun _ => ?_)).trans ?_) | (dsimp only))
theorem evalExitService_blank {pl : List Part} (w : within [.tick, .str, .pins, .pwr, .tb, .dawn, .deferred, .idn, .cfg, .met, .skl, .tab, .est, .jrn, .imp, .cnv, .dsp, .bal, .thm, .prot, .cont, .iso, .pair, .host, .ops, .irq, .rings, .rcd, .logFreeze, .can, .hlth, .lad, .rung, .upd, .jtag, .out, .fresh] pl = true) (r : HostReq) (s : State) : blank pl (evalExitService r s) = blank pl s := by
  refine widen (l := [.tick, .str, .pins, .pwr, .tb, .dawn, .deferred, .idn, .cfg, .met, .skl, .tab, .est, .jrn, .imp, .cnv, .dsp, .bal, .thm, .prot, .cont, .iso, .pair, .host, .ops, .irq, .rings, .rcd, .logFreeze, .can, .hlth, .lad, .rung, .upd, .jtag, .out, .fresh]) ?_ w
  unfold evalExitService
  repeat' (first | (with_reducible rfl) | (simp (disch := decide) only [apply_ite (blank [.tick, .str, .pins, .pwr, .tb, .dawn, .deferred, .idn, .cfg, .met, .skl, .tab, .est, .jrn, .imp, .cnv, .dsp, .bal, .thm, .prot, .cont, .iso, .pair, .host, .ops, .irq, .rings, .rcd, .logFreeze, .can, .hlth, .lad, .rung, .upd, .jtag, .out, .fresh]), ite_self, command_blank, leaveWith_blank, newDawn_blank, respond_blank]; done) | (with_reducible refine ite_blank ?_ ?_) | split | (with_reducible refine (foldl_blank _ _ _ (fun _ _ => ?_)).trans ?_) | (with_reducible refine (command_blank (by decide) _ _ _ _ _ (fun _ => ?_)).trans ?_) | (with_reducible refine (leaveWith_blank (by decide) _ _ _ (fun _ => ?_)).trans ?_) | (dsimp only))
theorem takeUntimed_blank {pl : List Part} (w : within [.deferred, .dsp, .host, .irq, .rings, .logFreeze, .rung, .out] pl = true) (r : HostReq) (current : Int) (s : State) : blank pl (takeUntimed r current s) = blank pl s := by
  refine widen (l := [.deferred, .dsp, .host, .irq, .rings, .logFreeze, .rung, .out]) ?_ w
  unfold takeUntimed
  split <;> simp (disch := decide) only [apply_ite (blank [.deferred, .dsp, .host, .irq, .rings, .logFreeze, .rung, .out]), ite_self, coalesced_blank, onDsp_blank, respond_blank]
theorem takeTimed_blank {pl : List Part} (w : within [.tb, .dsp, .host, .irq, .rings, .rung, .out] pl = true) (r : HostReq) (current : Int) (launch : Nat) (s : State) : blank pl (takeTimed r current launch s) = blank pl s := by
  refine widen (l := [.tb, .dsp, .host, .irq, .rings, .rung, .out]) ?_ w
  simp (disch := decide) only [takeTimed, apply_ite (blank [.tb, .dsp, .host, .irq, .rings, .rung, .out]), ite_self, onDsp_blank, onTb_blank, respond_blank]
theorem evalSetPoint_blank {pl : List Part} (w : within [.tb, .deferred, .dsp, .host, .irq, .rings, .logFreeze, .rung, .out] pl = true) (r : HostReq) (s : State) : blank pl (evalSetPoint r s) = blank pl s := by
  refine widen (l := [.tb, .deferred, .dsp, .host, .irq, .rings, .logFreeze, .rung, .out]) ?_ w
  unfold evalSetPoint
  repeat' (first | (with_reducible rfl) | (simp (disch := decide) only [apply_ite (blank [.tb, .deferred, .dsp, .host, .irq, .rings, .logFreeze, .rung, .out]), ite_self, log_blank, respond_blank, roleThen_blank, takeTimed_blank, takeUntimed_blank]; done) | (with_reducible refine ite_blank ?_ ?_) | split | (with_reducible refine (foldl_blank _ _ _ (fun _ _ => ?_)).trans ?_) | (with_reducible refine (roleThen_blank (by decide) _ _ _ _ _ (fun _ => ?_)).trans ?_) | (dsimp only))
theorem spAnswer_blank {pl : List Part} (w : within [.dsp, .host, .irq, .rings, .rung, .out] pl = true) (s : State) : blank pl (spAnswer s) = blank pl s := by
  refine widen (l := [.dsp, .host, .irq, .rings, .rung, .out]) ?_ w
  unfold spAnswer
  split <;> simp (disch := decide) only [apply_ite (blank [.dsp, .host, .irq, .rings, .rung, .out]), ite_self, onDsp_blank, respond_blank]
theorem releaseBulk_blank {pl : List Part} (w : within [.host] pl = true) (t : Nat) (r : HostReq) (s : State) : blank pl (releaseBulk t r s) = blank pl s := by
  refine widen (l := [.host]) ?_ w
  simp (disch := decide) only [releaseBulk, apply_ite (blank [.host]), ite_self, onBulk_blank]
theorem consuming_blank {pl : List Part} (w : within [.deferred, .host, .irq, .rings, .logFreeze, .rung, .out] pl = true) (least : Nat) (t : Nat) (cap : Nat) (payload : State → Bytes) (act : Bytes → State → State) (r : HostReq) (s : State) (h : ∀ a t, blank pl (act a t) = blank pl t) : blank pl (consuming least t cap payload act r s) = blank pl s := by
  unfold consuming
  repeat' (first | (with_reducible rfl) | (simp (disch := first | decide | exact within_trans (by decide) w) only [apply_ite (blank pl), ite_self, refuseState_blank, releaseBulk_blank, respond_blank, roleThen_blank, h]; done) | (with_reducible refine ite_blank ?_ ?_) | split | (with_reducible refine (foldl_blank _ _ _ (fun _ _ => ?_)).trans ?_) | (with_reducible refine (roleThen_blank (within_trans (by decide) w) _ _ _ _ _ (fun _ => ?_)).trans ?_) | (dsimp only))
theorem evalRestoreState_blank {pl : List Part} (w : within [.deferred, .met, .tab, .est, .jrn, .host, .irq, .rings, .logFreeze, .rung, .out] pl = true) (r : HostReq) (s : State) : blank pl (evalRestoreState r s) = blank pl s := by
  refine widen (l := [.deferred, .met, .tab, .est, .jrn, .host, .irq, .rings, .logFreeze, .rung, .out]) ?_ w
  unfold evalRestoreState
  repeat' (first | (with_reducible rfl) | (simp (disch := decide) only [apply_ite (blank [.deferred, .met, .tab, .est, .jrn, .host, .irq, .rings, .logFreeze, .rung, .out]), ite_self, applyBlob_blank, consuming_blank, rejectBlob_blank, releaseBulk_blank, respond_blank]; done) | (with_reducible refine ite_blank ?_ ?_) | split | (with_reducible refine (foldl_blank _ _ _ (fun _ _ => ?_)).trans ?_) | (with_reducible refine (consuming_blank (by decide) _ _ _ _ _ _ _ (fun _ _ => ?_)).trans ?_) | (dsimp only))
theorem writePlug_blank {pl : List Part} (w : within [.pins, .deferred, .irq, .rings, .logFreeze, .rung, .fresh] pl = true) (img : Bytes) (s : State) : blank pl (writePlug img s).1 = blank pl s := by
  refine widen (l := [.pins, .deferred, .irq, .rings, .logFreeze, .rung, .fresh]) ?_ w
  simp (disch := decide) only [writePlug, apply_ite (blank [.pins, .deferred, .irq, .rings, .logFreeze, .rung, .fresh]), ite_self, log_blank, onPins_blank, tickFresh_blank]
theorem evalPlugWrite_blank {pl : List Part} (w : within [.pins, .deferred, .host, .irq, .rings, .logFreeze, .rung, .out, .fresh] pl = true) (r : HostReq) (s : State) : blank pl (evalPlugWrite r s) = blank pl s := by
  refine widen (l := [.pins, .deferred, .host, .irq, .rings, .logFreeze, .rung, .out, .fresh]) ?_ w
  unfold evalPlugWrite
  repeat' (first | (with_reducible rfl) | (simp (disch := decide) only [apply_ite (blank [.pins, .deferred, .host, .irq, .rings, .logFreeze, .rung, .out, .fresh]), ite_self, consuming_blank, releaseBulk_blank, respond_blank, writePlug_blank]; done) | (with_reducible refine ite_blank ?_ ?_) | split | (with_reducible refine (foldl_blank _ _ _ (fun _ _ => ?_)).trans ?_) | (with_reducible refine (consuming_blank (by decide) _ _ _ _ _ _ _ (fun _ _ => ?_)).trans ?_) | (dsimp only))
theorem evalFreeze_blank {pl : List Part} (w : within [.str, .pins, .deferred, .cnv, .dsp, .thm, .prot, .cont, .pair, .host, .irq, .rings, .logFreeze, .lad, .rung, .out] pl = true) (r : HostReq) (s : State) : blank pl (evalFreeze r s) = blank pl s := by
  refine widen (l := [.str, .pins, .deferred, .cnv, .dsp, .thm, .prot, .cont, .pair, .host, .irq, .rings, .logFreeze, .lad, .rung, .out]) ?_ w
  unfold evalFreeze
  repeat' (first | (with_reducible rfl) | (simp (disch := decide) only [apply_ite (blank [.str, .pins, .deferred, .cnv, .dsp, .thm, .prot, .cont, .pair, .host, .irq, .rings, .logFreeze, .lad, .rung, .out]), ite_self, command_blank, freezeAccept_blank, respond_blank]; done) | (with_reducible refine ite_blank ?_ ?_) | split | (with_reducible refine (foldl_blank _ _ _ (fun _ _ => ?_)).trans ?_) | (with_reducible refine (command_blank (by decide) _ _ _ _ _ (fun _ => ?_)).trans ?_) | (dsimp only))
theorem evalFreezeLog_blank {pl : List Part} (w : within [.deferred, .host, .irq, .rings, .rcd, .logFreeze, .rung, .out] pl = true) (r : HostReq) (s : State) : blank pl (evalFreezeLog r s) = blank pl s := by
  refine widen (l := [.deferred, .host, .irq, .rings, .rcd, .logFreeze, .rung, .out]) ?_ w
  unfold evalFreezeLog
  repeat' (first | (with_reducible rfl) | (simp (disch := decide) only [apply_ite (blank [.deferred, .host, .irq, .rings, .rcd, .logFreeze, .rung, .out]), ite_self, command_blank, freezeLog_blank, respond_blank, thawLog_blank]; done) | (with_reducible refine ite_blank ?_ ?_) | split | (with_reducible refine (foldl_blank _ _ _ (fun _ _ => ?_)).trans ?_) | (with_reducible refine (command_blank (by decide) _ _ _ _ _ (fun _ => ?_)).trans ?_) | (dsimp only))
theorem evalPairHandover_blank {pl : List Part} (w : within [.deferred, .pair, .host, .irq, .rings, .logFreeze, .rung, .out] pl = true) (r : HostReq) (s : State) : blank pl (evalPairHandover r s) = blank pl s := by
  refine widen (l := [.deferred, .pair, .host, .irq, .rings, .logFreeze, .rung, .out]) ?_ w
  unfold evalPairHandover
  repeat' (first | (with_reducible rfl) | (simp (disch := decide) only [apply_ite (blank [.deferred, .pair, .host, .irq, .rings, .logFreeze, .rung, .out]), ite_self, command_blank, startHandover_blank]; done) | (with_reducible refine ite_blank ?_ ?_) | split | (with_reducible refine (foldl_blank _ _ _ (fun _ _ => ?_)).trans ?_) | (with_reducible refine (command_blank (by decide) _ _ _ _ _ (fun _ => ?_)).trans ?_) | (dsimp only))
theorem evalCapture_blank {pl : List Part} (w : within [.deferred, .met, .host, .irq, .rings, .logFreeze, .rung, .out, .fresh] pl = true) (r : HostReq) (s : State) : blank pl (evalCapture r s) = blank pl s := by
  refine widen (l := [.deferred, .met, .host, .irq, .rings, .logFreeze, .rung, .out, .fresh]) ?_ w
  unfold evalCapture
  repeat' (first | (with_reducible rfl) | (simp (disch := decide) only [apply_ite (blank [.deferred, .met, .host, .irq, .rings, .logFreeze, .rung, .out, .fresh]), ite_self, command_blank, onHost_blank, onMet_blank, respond_blank, tickFresh_blank]; done) | (with_reducible refine ite_blank ?_ ?_) | split | (with_reducible refine (foldl_blank _ _ _ (fun _ _ => ?_)).trans ?_) | (with_reducible refine (command_blank (by decide) _ _ _ _ _ (fun _ => ?_)).trans ?_) | (dsimp only))
theorem execConnect_blank {pl : List Part} (w : within [.str, .deferred, .met, .est, .imp, .dsp, .bal, .prot, .cont, .iso, .host, .ops, .irq, .rings, .rcd, .logFreeze, .rung, .out] pl = true) (r : HostReq) (s : State) : Frames pl s (execConnect r s) := by
  refine widens (l := [.str, .deferred, .met, .est, .imp, .dsp, .bal, .prot, .cont, .iso, .host, .ops, .irq, .rings, .rcd, .logFreeze, .rung, .out]) ?_ w
  unfold execConnect
  repeat' (first | (with_reducible rfl) | (simp (disch := decide) only [frames_next, apply_ite (blank [.str, .deferred, .met, .est, .imp, .dsp, .bal, .prot, .cont, .iso, .host, .ops, .irq, .rings, .rcd, .logFreeze, .rung, .out]), ite_self, evalConnect_blank, evalRow_blank]; done) | (with_reducible refine ite_blank ?_ ?_) | split | (with_reducible refine (foldl_blank _ _ _ (fun _ _ => ?_)).trans ?_) | (with_reducible refine evalRow_blank (by decide) _ _ _ _ (fun _ _ => ?_)) | (dsimp only))
theorem execStart_blank {pl : List Part} (w : within [.str, .deferred, .met, .est, .imp, .dsp, .bal, .prot, .iso, .host, .ops, .irq, .rings, .rcd, .logFreeze, .rung, .out] pl = true) (r : HostReq) (s : State) : Frames pl s (execStart r s) := by
  refine widens (l := [.str, .deferred, .met, .est, .imp, .dsp, .bal, .prot, .iso, .host, .ops, .irq, .rings, .rcd, .logFreeze, .rung, .out]) ?_ w
  unfold execStart
  repeat' (first | (with_reducible rfl) | (simp (disch := decide) only [frames_next, apply_ite (blank [.str, .deferred, .met, .est, .imp, .dsp, .bal, .prot, .iso, .host, .ops, .irq, .rings, .rcd, .logFreeze, .rung, .out]), ite_self, evalRow_blank, evalStart_blank]; done) | (with_reducible refine ite_blank ?_ ?_) | split | (with_reducible refine (foldl_blank _ _ _ (fun _ _ => ?_)).trans ?_) | (with_reducible refine evalRow_blank (by decide) _ _ _ _ (fun _ _ => ?_)) | (dsimp only))
theorem execSetPoint_blank {pl : List Part} (w : within [.tb, .deferred, .dsp, .host, .irq, .rings, .logFreeze, .rung, .out] pl = true) (r : HostReq) (s : State) : Frames pl s (execSetPoint r s) := by
  refine widens (l := [.tb, .deferred, .dsp, .host, .irq, .rings, .logFreeze, .rung, .out]) ?_ w
  unfold execSetPoint
  repeat' (first | (with_reducible rfl) | (simp (disch := decide) only [frames_next, apply_ite (blank [.tb, .deferred, .dsp, .host, .irq, .rings, .logFreeze, .rung, .out]), ite_self, evalRow_blank, evalSetPoint_blank]; done) | (with_reducible refine ite_blank ?_ ?_) | split | (with_reducible refine (foldl_blank _ _ _ (fun _ _ => ?_)).trans ?_) | (with_reducible refine evalRow_blank (by decide) _ _ _ _ (fun _ _ => ?_)) | (dsimp only))
theorem execStop_blank {pl : List Part} (w : within [.str, .deferred, .met, .est, .imp, .dsp, .bal, .prot, .cont, .iso, .host, .ops, .irq, .rings, .rcd, .logFreeze, .rung, .out] pl = true) (r : HostReq) (s : State) : Frames pl s (execStop r s) := by
  refine widens (l := [.str, .deferred, .met, .est, .imp, .dsp, .bal, .prot, .cont, .iso, .host, .ops, .irq, .rings, .rcd, .logFreeze, .rung, .out]) ?_ w
  unfold execStop
  repeat' (first | (with_reducible rfl) | (simp (disch := decide) only [frames_next, apply_ite (blank [.str, .deferred, .met, .est, .imp, .dsp, .bal, .prot, .cont, .iso, .host, .ops, .irq, .rings, .rcd, .logFreeze, .rung, .out]), ite_self, evalRow_blank, evalStop_blank]; done) | (with_reducible refine ite_blank ?_ ?_) | split | (with_reducible refine (foldl_blank _ _ _ (fun _ _ => ?_)).trans ?_) | (with_reducible refine evalRow_blank (by decide) _ _ _ _ (fun _ _ => ?_)) | (dsimp only))
theorem execDisconnect_blank {pl : List Part} (w : within [.str, .deferred, .met, .est, .imp, .dsp, .bal, .prot, .cont, .iso, .host, .ops, .irq, .rings, .rcd, .logFreeze, .rung, .out] pl = true) (r : HostReq) (s : State) : Frames pl s (execDisconnect r s) := by
  refine widens (l := [.str, .deferred, .met, .est, .imp, .dsp, .bal, .prot, .cont, .iso, .host, .ops, .irq, .rings, .rcd, .logFreeze, .rung, .out]) ?_ w
  unfold execDisconnect
  repeat' (first | (with_reducible rfl) | (simp (disch := decide) only [frames_next, apply_ite (blank [.str, .deferred, .met, .est, .imp, .dsp, .bal, .prot, .cont, .iso, .host, .ops, .irq, .rings, .rcd, .logFreeze, .rung, .out]), ite_self, evalDisconnect_blank, evalRow_blank]; done) | (with_reducible refine ite_blank ?_ ?_) | split | (with_reducible refine (foldl_blank _ _ _ (fun _ _ => ?_)).trans ?_) | (with_reducible refine evalRow_blank (by decide) _ _ _ _ (fun _ _ => ?_)) | (dsimp only))
theorem execClearFault_blank {pl : List Part} (w : within [.str, .deferred, .met, .est, .imp, .dsp, .bal, .prot, .iso, .host, .ops, .irq, .rings, .rcd, .logFreeze, .can, .rung, .out] pl = true) (r : HostReq) (s : State) : Frames pl s (execClearFault r s) := by
  refine widens (l := [.str, .deferred, .met, .est, .imp, .dsp, .bal, .prot, .iso, .host, .ops, .irq, .rings, .rcd, .logFreeze, .can, .rung, .out]) ?_ w
  unfold execClearFault
  repeat' (first | (with_reducible rfl) | (simp (disch := decide) only [frames_next, apply_ite (blank [.str, .deferred, .met, .est, .imp, .dsp, .bal, .prot, .iso, .host, .ops, .irq, .rings, .rcd, .logFreeze, .can, .rung, .out]), ite_self, evalClearFault_blank, evalRow_blank]; done) | (with_reducible refine ite_blank ?_ ?_) | split | (with_reducible refine (foldl_blank _ _ _ (fun _ _ => ?_)).trans ?_) | (with_reducible refine evalRow_blank (by decide) _ _ _ _ (fun _ _ => ?_)) | (dsimp only))
theorem execRestart_blank {pl : List Part} (w : within [.tick, .str, .pins, .pwr, .tb, .dawn, .deferred, .idn, .cfg, .met, .skl, .tab, .est, .jrn, .imp, .cnv, .dsp, .bal, .thm, .prot, .cont, .iso, .pair, .host, .ops, .irq, .rings, .rcd, .logFreeze, .can, .hlth, .lad, .rung, .upd, .jtag, .out, .fresh] pl = true) (r : HostReq) (s : State) : Frames pl s (execRestart r s) := by
  refine widens (l := [.tick, .str, .pins, .pwr, .tb, .dawn, .deferred, .idn, .cfg, .met, .skl, .tab, .est, .jrn, .imp, .cnv, .dsp, .bal, .thm, .prot, .cont, .iso, .pair, .host, .ops, .irq, .rings, .rcd, .logFreeze, .can, .hlth, .lad, .rung, .upd, .jtag, .out, .fresh]) ?_ w
  unfold execRestart
  repeat' (first | (with_reducible rfl) | (simp (disch := decide) only [frames_next, apply_ite (blank [.tick, .str, .pins, .pwr, .tb, .dawn, .deferred, .idn, .cfg, .met, .skl, .tab, .est, .jrn, .imp, .cnv, .dsp, .bal, .thm, .prot, .cont, .iso, .pair, .host, .ops, .irq, .rings, .rcd, .logFreeze, .can, .hlth, .lad, .rung, .upd, .jtag, .out, .fresh]), ite_self, evalRestart_blank, evalRow_blank]; done) | (with_reducible refine ite_blank ?_ ?_) | split | (with_reducible refine (foldl_blank _ _ _ (fun _ _ => ?_)).trans ?_) | (with_reducible refine evalRow_blank (by decide) _ _ _ _ (fun _ _ => ?_)) | (dsimp only))
theorem execShutdown_blank {pl : List Part} (w : within [.str, .pins, .deferred, .met, .est, .imp, .dsp, .bal, .thm, .prot, .cont, .iso, .pair, .host, .ops, .irq, .rings, .rcd, .logFreeze, .can, .lad, .rung, .out] pl = true) (r : HostReq) (s : State) : Frames pl s (execShutdown r s) := by
  refine widens (l := [.str, .pins, .deferred, .met, .est, .imp, .dsp, .bal, .thm, .prot, .cont, .iso, .pair, .host, .ops, .irq, .rings, .rcd, .logFreeze, .can, .lad, .rung, .out]) ?_ w
  unfold execShutdown
  repeat' (first | (with_reducible rfl) | (simp (disch := decide) only [frames_next, apply_ite (blank [.str, .pins, .deferred, .met, .est, .imp, .dsp, .bal, .thm, .prot, .cont, .iso, .pair, .host, .ops, .irq, .rings, .rcd, .logFreeze, .can, .lad, .rung, .out]), ite_self, evalRow_blank, evalShutdown_blank]; done) | (with_reducible refine ite_blank ?_ ?_) | split | (with_reducible refine (foldl_blank _ _ _ (fun _ _ => ?_)).trans ?_) | (with_reducible refine evalRow_blank (by decide) _ _ _ _ (fun _ _ => ?_)) | (dsimp only))
theorem execEnterService_blank {pl : List Part} (w : within [.str, .deferred, .met, .est, .imp, .dsp, .bal, .prot, .iso, .host, .ops, .irq, .rings, .rcd, .logFreeze, .rung, .out] pl = true) (r : HostReq) (s : State) : Frames pl s (execEnterService r s) := by
  refine widens (l := [.str, .deferred, .met, .est, .imp, .dsp, .bal, .prot, .iso, .host, .ops, .irq, .rings, .rcd, .logFreeze, .rung, .out]) ?_ w
  unfold execEnterService
  repeat' (first | (with_reducible rfl) | (simp (disch := decide) only [frames_next, apply_ite (blank [.str, .deferred, .met, .est, .imp, .dsp, .bal, .prot, .iso, .host, .ops, .irq, .rings, .rcd, .logFreeze, .rung, .out]), ite_self, evalEnterService_blank, evalRow_blank]; done) | (with_reducible refine ite_blank ?_ ?_) | split | (with_reducible refine (foldl_blank _ _ _ (fun _ _ => ?_)).trans ?_) | (with_reducible refine evalRow_blank (by decide) _ _ _ _ (fun _ _ => ?_)) | (dsimp only))
theorem execExitService_blank {pl : List Part} (w : within [.tick, .str, .pins, .pwr, .tb, .dawn, .deferred, .idn, .cfg, .met, .skl, .tab, .est, .jrn, .imp, .cnv, .dsp, .bal, .thm, .prot, .cont, .iso, .pair, .host, .ops, .irq, .rings, .rcd, .logFreeze, .can, .hlth, .lad, .rung, .upd, .jtag, .out, .fresh] pl = true) (r : HostReq) (s : State) : Frames pl s (execExitService r s) := by
  refine widens (l := [.tick, .str, .pins, .pwr, .tb, .dawn, .deferred, .idn, .cfg, .met, .skl, .tab, .est, .jrn, .imp, .cnv, .dsp, .bal, .thm, .prot, .cont, .iso, .pair, .host, .ops, .irq, .rings, .rcd, .logFreeze, .can, .hlth, .lad, .rung, .upd, .jtag, .out, .fresh]) ?_ w
  unfold execExitService
  repeat' (first | (with_reducible rfl) | (simp (disch := decide) only [frames_next, apply_ite (blank [.tick, .str, .pins, .pwr, .tb, .dawn, .deferred, .idn, .cfg, .met, .skl, .tab, .est, .jrn, .imp, .cnv, .dsp, .bal, .thm, .prot, .cont, .iso, .pair, .host, .ops, .irq, .rings, .rcd, .logFreeze, .can, .hlth, .lad, .rung, .upd, .jtag, .out, .fresh]), ite_self, evalExitService_blank, evalRow_blank]; done) | (with_reducible refine ite_blank ?_ ?_) | split | (with_reducible refine (foldl_blank _ _ _ (fun _ _ => ?_)).trans ?_) | (with_reducible refine evalRow_blank (by decide) _ _ _ _ (fun _ _ => ?_)) | (dsimp only))
theorem execRestoreState_blank {pl : List Part} (w : within [.deferred, .met, .tab, .est, .jrn, .host, .irq, .rings, .logFreeze, .rung, .out] pl = true) (r : HostReq) (s : State) : Frames pl s (execRestoreState r s) := by
  refine widens (l := [.deferred, .met, .tab, .est, .jrn, .host, .irq, .rings, .logFreeze, .rung, .out]) ?_ w
  unfold execRestoreState
  repeat' (first | (with_reducible rfl) | (simp (disch := decide) only [frames_next, apply_ite (blank [.deferred, .met, .tab, .est, .jrn, .host, .irq, .rings, .logFreeze, .rung, .out]), ite_self, evalRestoreState_blank, evalRow_blank]; done) | (with_reducible refine ite_blank ?_ ?_) | split | (with_reducible refine (foldl_blank _ _ _ (fun _ _ => ?_)).trans ?_) | (with_reducible refine evalRow_blank (by decide) _ _ _ _ (fun _ _ => ?_)) | (dsimp only))
theorem execFreeze_blank {pl : List Part} (w : within [.str, .pins, .deferred, .cnv, .dsp, .thm, .prot, .cont, .pair, .host, .irq, .rings, .logFreeze, .lad, .rung, .out] pl = true) (r : HostReq) (s : State) : Frames pl s (execFreeze r s) := by
  refine widens (l := [.str, .pins, .deferred, .cnv, .dsp, .thm, .prot, .cont, .pair, .host, .irq, .rings, .logFreeze, .lad, .rung, .out]) ?_ w
  unfold execFreeze
  repeat' (first | (with_reducible rfl) | (simp (disch := decide) only [frames_next, apply_ite (blank [.str, .pins, .deferred, .cnv, .dsp, .thm, .prot, .cont, .pair, .host, .irq, .rings, .logFreeze, .lad, .rung, .out]), ite_self, evalFreeze_blank, evalRow_blank]; done) | (with_reducible refine ite_blank ?_ ?_) | split | (with_reducible refine (foldl_blank _ _ _ (fun _ _ => ?_)).trans ?_) | (with_reducible refine evalRow_blank (by decide) _ _ _ _ (fun _ _ => ?_)) | (dsimp only))
theorem execFreezeLogFreeze_blank {pl : List Part} (w : within [.deferred, .host, .irq, .rings, .rcd, .logFreeze, .rung, .out] pl = true) (r : HostReq) (s : State) : Frames pl s (execFreezeLogFreeze r s) := by
  refine widens (l := [.deferred, .host, .irq, .rings, .rcd, .logFreeze, .rung, .out]) ?_ w
  unfold execFreezeLogFreeze
  repeat' (first | (with_reducible rfl) | (simp (disch := decide) only [frames_next, apply_ite (blank [.deferred, .host, .irq, .rings, .rcd, .logFreeze, .rung, .out]), ite_self, evalFreezeLog_blank, evalRow_blank]; done) | (with_reducible refine ite_blank ?_ ?_) | split | (with_reducible refine (foldl_blank _ _ _ (fun _ _ => ?_)).trans ?_) | (with_reducible refine evalRow_blank (by decide) _ _ _ _ (fun _ _ => ?_)) | (dsimp only))
theorem execFreezeLogThaw_blank {pl : List Part} (w : within [.deferred, .host, .irq, .rings, .rcd, .logFreeze, .rung, .out] pl = true) (r : HostReq) (s : State) : Frames pl s (execFreezeLogThaw r s) := by
  refine widens (l := [.deferred, .host, .irq, .rings, .rcd, .logFreeze, .rung, .out]) ?_ w
  unfold execFreezeLogThaw
  repeat' (first | (with_reducible rfl) | (simp (disch := decide) only [frames_next, apply_ite (blank [.deferred, .host, .irq, .rings, .rcd, .logFreeze, .rung, .out]), ite_self, evalFreezeLog_blank, evalRow_blank]; done) | (with_reducible refine ite_blank ?_ ?_) | split | (with_reducible refine (foldl_blank _ _ _ (fun _ _ => ?_)).trans ?_) | (with_reducible refine evalRow_blank (by decide) _ _ _ _ (fun _ _ => ?_)) | (dsimp only))
theorem execPairHandover_blank {pl : List Part} (w : within [.deferred, .pair, .host, .irq, .rings, .logFreeze, .rung, .out] pl = true) (r : HostReq) (s : State) : Frames pl s (execPairHandover r s) := by
  refine widens (l := [.deferred, .pair, .host, .irq, .rings, .logFreeze, .rung, .out]) ?_ w
  unfold execPairHandover
  repeat' (first | (with_reducible rfl) | (simp (disch := decide) only [frames_next, apply_ite (blank [.deferred, .pair, .host, .irq, .rings, .logFreeze, .rung, .out]), ite_self, evalPairHandover_blank, evalRow_blank]; done) | (with_reducible refine ite_blank ?_ ?_) | split | (with_reducible refine (foldl_blank _ _ _ (fun _ _ => ?_)).trans ?_) | (with_reducible refine evalRow_blank (by decide) _ _ _ _ (fun _ _ => ?_)) | (dsimp only))
theorem execPlugWrite_blank {pl : List Part} (w : within [.pins, .deferred, .host, .irq, .rings, .logFreeze, .rung, .out, .fresh] pl = true) (r : HostReq) (s : State) : Frames pl s (execPlugWrite r s) := by
  refine widens (l := [.pins, .deferred, .host, .irq, .rings, .logFreeze, .rung, .out, .fresh]) ?_ w
  unfold execPlugWrite
  repeat' (first | (with_reducible rfl) | (simp (disch := decide) only [frames_next, apply_ite (blank [.pins, .deferred, .host, .irq, .rings, .logFreeze, .rung, .out, .fresh]), ite_self, evalPlugWrite_blank, evalRow_blank]; done) | (with_reducible refine ite_blank ?_ ?_) | split | (with_reducible refine (foldl_blank _ _ _ (fun _ _ => ?_)).trans ?_) | (with_reducible refine evalRow_blank (by decide) _ _ _ _ (fun _ _ => ?_)) | (dsimp only))
theorem execCapture_blank {pl : List Part} (w : within [.deferred, .met, .host, .irq, .rings, .logFreeze, .rung, .out, .fresh] pl = true) (r : HostReq) (s : State) : Frames pl s (execCapture r s) := by
  refine widens (l := [.deferred, .met, .host, .irq, .rings, .logFreeze, .rung, .out, .fresh]) ?_ w
  unfold execCapture
  repeat' (first | (with_reducible rfl) | (simp (disch := decide) only [frames_next, apply_ite (blank [.deferred, .met, .host, .irq, .rings, .logFreeze, .rung, .out, .fresh]), ite_self, evalCapture_blank, evalRow_blank]; done) | (with_reducible refine ite_blank ?_ ?_) | split | (with_reducible refine (foldl_blank _ _ _ (fun _ _ => ?_)).trans ?_) | (with_reducible refine evalRow_blank (by decide) _ _ _ _ (fun _ _ => ?_)) | (dsimp only))
theorem installBegin_blank {pl : List Part} (w : within [.upd] pl = true) (s : State) : blank pl (installBegin s) = blank pl s := by
  refine widen (l := [.upd]) ?_ w
  simp (disch := first | decide | (intro _; exact ⟨rfl, rfl, rfl⟩)) only [installBegin, onFwSlot_blank, onUpd_blank]
theorem installReady_blank {pl : List Part} (w : within [.upd] pl = true) (s : State) : blank pl (installReady s) = blank pl s := by
  refine widen (l := [.upd]) ?_ w
  unfold installReady
  split <;> simp (disch := decide) only [apply_ite (blank [.upd]), ite_self, installBegin_blank]
theorem installDone_blank {pl : List Part} (w : within [.tick, .str, .pins, .pwr, .tb, .dawn, .deferred, .idn, .cfg, .met, .skl, .tab, .est, .jrn, .imp, .cnv, .dsp, .bal, .thm, .prot, .cont, .iso, .pair, .host, .ops, .irq, .rings, .rcd, .logFreeze, .can, .hlth, .lad, .rung, .upd, .jtag, .out, .fresh] pl = true) (x : Staging) (s : State) : blank pl (installDone x s) = blank pl s := by
  refine widen (l := [.tick, .str, .pins, .pwr, .tb, .dawn, .deferred, .idn, .cfg, .met, .skl, .tab, .est, .jrn, .imp, .cnv, .dsp, .bal, .thm, .prot, .cont, .iso, .pair, .host, .ops, .irq, .rings, .rcd, .logFreeze, .can, .hlth, .lad, .rung, .upd, .jtag, .out, .fresh]) ?_ w
  simp (disch := first | decide | (intro _; exact ⟨rfl, rfl, rfl⟩)) only [installDone, apply_ite (blank [.tick, .str, .pins, .pwr, .tb, .dawn, .deferred, .idn, .cfg, .met, .skl, .tab, .est, .jrn, .imp, .cnv, .dsp, .bal, .thm, .prot, .cont, .iso, .pair, .host, .ops, .irq, .rings, .rcd, .logFreeze, .can, .hlth, .lad, .rung, .upd, .jtag, .out, .fresh]), ite_self, endOp_blank, log_blank, newDawn_blank, onFwSlot_blank, onUpd_blank]
theorem installFails_blank {pl : List Part} (w : within [.deferred, .ops, .irq, .rings, .logFreeze, .rung, .upd] pl = true) (x : Staging) (n : Nat) (s : State) : blank pl (installFails x n s) = blank pl s := by
  refine widen (l := [.deferred, .ops, .irq, .rings, .logFreeze, .rung, .upd]) ?_ w
  simp (disch := first | decide | (intro _; exact ⟨rfl, rfl, rfl⟩)) only [installFails, endOp_blank, log_blank, onFwSlot_blank, onUpd_blank]
theorem execUpdInstallDone_blank {pl : List Part} (w : within [.tick, .str, .pins, .pwr, .tb, .dawn, .deferred, .idn, .cfg, .met, .skl, .tab, .est, .jrn, .imp, .cnv, .dsp, .bal, .thm, .prot, .cont, .iso, .pair, .host, .ops, .irq, .rings, .rcd, .logFreeze, .can, .hlth, .lad, .rung, .upd, .jtag, .out, .fresh] pl = true) (badChunk : Option Nat) (s : State) : Frames pl s (execUpdInstallDone badChunk s) := by
  refine widens (l := [.tick, .str, .pins, .pwr, .tb, .dawn, .deferred, .idn, .cfg, .met, .skl, .tab, .est, .jrn, .imp, .cnv, .dsp, .bal, .thm, .prot, .cont, .iso, .pair, .host, .ops, .irq, .rings, .rcd, .logFreeze, .can, .hlth, .lad, .rung, .upd, .jtag, .out, .fresh]) ?_ w
  unfold execUpdInstallDone
  repeat' (first | (with_reducible rfl) | (simp (disch := decide) only [frames_next, apply_ite (blank [.tick, .str, .pins, .pwr, .tb, .dawn, .deferred, .idn, .cfg, .met, .skl, .tab, .est, .jrn, .imp, .cnv, .dsp, .bal, .thm, .prot, .cont, .iso, .pair, .host, .ops, .irq, .rings, .rcd, .logFreeze, .can, .hlth, .lad, .rung, .upd, .jtag, .out, .fresh]), ite_self, installDone_blank, installFails_blank]; done) | (with_reducible refine ite_blank ?_ ?_) | split | (with_reducible refine (foldl_blank _ _ _ (fun _ _ => ?_)).trans ?_) | (dsimp only))
theorem updStart_blank {pl : List Part} (w : within [.deferred, .ops, .irq, .rings, .logFreeze, .rung, .upd] pl = true) (id : Nat) (len : Nat) (session : Nat) (s : State) : blank pl (updStart id len session s) = blank pl s := by
  refine widen (l := [.deferred, .ops, .irq, .rings, .logFreeze, .rung, .upd]) ?_ w
  simp (disch := first | decide | (intro _; exact ⟨rfl, rfl, rfl⟩)) only [updStart, createOp_blank, installReady_blank, log_blank, onUpd_blank]
theorem execStagingEraseDone_blank {pl : List Part} (w : within [.upd] pl = true) (s : State) : Frames pl s (execStagingEraseDone s) := by
  refine widens (l := [.upd]) ?_ w
  simp (disch := first | decide | (intro _; exact ⟨rfl, rfl, rfl⟩)) only [execStagingEraseDone, frames_next, apply_ite (blank [.upd]), ite_self, onUpd_blank]
theorem updCancel_blank {pl : List Part} (w : within [.deferred, .irq, .rings, .logFreeze, .rung, .upd] pl = true) (s : State) : blank pl (updCancel s) = blank pl s := by
  refine widen (l := [.deferred, .irq, .rings, .logFreeze, .rung, .upd]) ?_ w
  simp (disch := first | decide | (intro _; exact ⟨rfl, rfl, rfl⟩)) only [updCancel, log_blank, onUpd_blank]
theorem chunkPassed_blank {pl : List Part} (w : within [.ops, .upd] pl = true) (n : Nat) (s : State) : blank pl (chunkPassed n s) = blank pl s := by
  refine widen (l := [.ops, .upd]) ?_ w
  simp (disch := first | decide | (intro _; exact ⟨rfl, rfl, rfl⟩)) only [chunkPassed, installReady_blank, onUpd_blank, publishOp_blank]
theorem chunkBad_blank {pl : List Part} (w : within [.deferred, .irq, .rings, .logFreeze, .rung, .upd] pl = true) (n : Nat) (s : State) : blank pl (chunkBad n s) = blank pl s := by
  refine widen (l := [.deferred, .irq, .rings, .logFreeze, .rung, .upd]) ?_ w
  simp (disch := first | decide | (intro _; exact ⟨rfl, rfl, rfl⟩)) only [chunkBad, log_blank, onUpd_blank]
theorem pieceTo_blank {pl : List Part} (w : within [.deferred, .host, .ops, .irq, .rings, .logFreeze, .rung, .upd, .out] pl = true) (x : Staging) (o : Op) (r : HostReq) (s : State) : blank pl (pieceTo x o r s) = blank pl s := by
  refine widen (l := [.deferred, .host, .ops, .irq, .rings, .logFreeze, .rung, .upd, .out]) ?_ w
  simp (disch := first | decide | (intro _; exact ⟨rfl, rfl, rfl⟩)) only [pieceTo, apply_ite (blank [.deferred, .host, .ops, .irq, .rings, .logFreeze, .rung, .upd, .out]), ite_self, chunkBad_blank, chunkPassed_blank, onUpd_blank, respond_blank]
theorem evalUpdPiece_blank {pl : List Part} (w : within [.deferred, .host, .ops, .irq, .rings, .logFreeze, .rung, .upd, .out] pl = true) (r : HostReq) (s : State) : blank pl (evalUpdPiece r s) = blank pl s := by
  refine widen (l := [.deferred, .host, .ops, .irq, .rings, .logFreeze, .rung, .upd, .out]) ?_ w
  unfold evalUpdPiece
  repeat' (first | (with_reducible rfl) | (simp (disch := decide) only [apply_ite (blank [.deferred, .host, .ops, .irq, .rings, .logFreeze, .rung, .upd, .out]), ite_self, pieceTo_blank, refuseState_blank, ringPut_blank, ringRel_blank, roleThen_blank]; done) | (with_reducible refine ite_blank ?_ ?_) | split | (with_reducible refine (foldl_blank _ _ _ (fun _ _ => ?_)).trans ?_) | (with_reducible refine (roleThen_blank (by decide) _ _ _ _ _ (fun _ => ?_)).trans ?_) | (dsimp only))
theorem execUpdPiece_blank {pl : List Part} (w : within [.deferred, .host, .ops, .irq, .rings, .logFreeze, .rung, .upd, .out] pl = true) (r : HostReq) (s : State) : Frames pl s (execUpdPiece r s) := by
  refine widens (l := [.deferred, .host, .ops, .irq, .rings, .logFreeze, .rung, .upd, .out]) ?_ w
  unfold execUpdPiece
  repeat' (first | (with_reducible rfl) | (simp (disch := decide) only [frames_next, apply_ite (blank [.deferred, .host, .ops, .irq, .rings, .logFreeze, .rung, .upd, .out]), ite_self, evalRow_blank, evalUpdPiece_blank]; done) | (with_reducible refine ite_blank ?_ ?_) | split | (with_reducible refine (foldl_blank _ _ _ (fun _ _ => ?_)).trans ?_) | (with_reducible refine evalRow_blank (by decide) _ _ _ _ (fun _ _ => ?_)) | (dsimp only))
theorem execUpdTrialConfirm_blank {pl : List Part} (w : within [.deferred, .irq, .rings, .logFreeze, .rung, .upd, .fuses] pl = true) (s : State) : Frames pl s (execUpdTrialConfirm s) := by
  refine widens (l := [.deferred, .irq, .rings, .logFreeze, .rung, .upd, .fuses]) ?_ w
  unfold execUpdTrialConfirm
  split
  · exact (frames_next _ _ _).2 rfl
  · dsimp only
    split
    · exact (frames_next _ _ _).2 rfl
    · exact (frames_next _ _ _).2 (by simp (disch := decide) only [log_blank, onUpd_fuses_blank, onFwSlot_blank])
theorem answerHandle_blank {pl : List Part} (w : within [.host, .irq, .rings, .rung, .out] pl = true) (r : HostReq) (s : State) : blank pl (answerHandle r s) = blank pl s := by
  refine widen (l := [.host, .irq, .rings, .rung, .out]) ?_ w
  simp (disch := decide) only [answerHandle, respond_blank]
theorem opStart_blank {pl : List Part} (w : within [.deferred, .host, .irq, .rings, .logFreeze, .rung, .out] pl = true) (kind : Nat) (argsOk : State → Bool) (fault : State → Bool) (busy : State → Bool) (act : State → State) (r : HostReq) (s : State) (h : ∀ t, blank pl (act t) = blank pl t) : blank pl (opStart kind argsOk fault busy act r s) = blank pl s := by
  unfold opStart
  repeat' (first | (with_reducible rfl) | (simp (disch := first | decide | exact within_trans (by decide) w) only [apply_ite (blank pl), ite_self, answerHandle_blank, refuseState_blank, respond_blank, roleThen_blank, h]; done) | (with_reducible refine ite_blank ?_ ?_) | split | (with_reducible refine (foldl_blank _ _ _ (fun _ _ => ?_)).trans ?_) | (with_reducible refine (roleThen_blank (within_trans (by decide) w) _ _ _ _ _ (fun _ => ?_)).trans ?_) | (dsimp only))
theorem learnStart_blank {pl : List Part} (w : within [.deferred, .met, .tab, .est, .imp, .bal, .iso, .ops, .irq, .rings, .rcd, .logFreeze, .rung] pl = true) (session : Nat) (s : State) : blank pl (learnStart session s) = blank pl s := by
  refine widen (l := [.deferred, .met, .tab, .est, .imp, .bal, .iso, .ops, .irq, .rings, .rcd, .logFreeze, .rung]) ?_ w
  unfold learnStart
  split <;> simp (disch := decide) only [apply_ite (blank [.deferred, .met, .tab, .est, .imp, .bal, .iso, .ops, .irq, .rings, .rcd, .logFreeze, .rung]), ite_self, createOp_blank, learnAbort_blank, learnDischarge_blank, onEst_blank, onPoss_blank]
theorem evalCapLearn_blank {pl : List Part} (w : within [.deferred, .met, .tab, .est, .imp, .bal, .iso, .host, .ops, .irq, .rings, .rcd, .logFreeze, .rung, .out] pl = true) (r : HostReq) (s : State) : blank pl (evalCapLearn r s) = blank pl s := by
  refine widen (l := [.deferred, .met, .tab, .est, .imp, .bal, .iso, .host, .ops, .irq, .rings, .rcd, .logFreeze, .rung, .out]) ?_ w
  unfold evalCapLearn
  repeat' (first | (with_reducible rfl) | (simp (disch := decide) only [apply_ite (blank [.deferred, .met, .tab, .est, .imp, .bal, .iso, .host, .ops, .irq, .rings, .rcd, .logFreeze, .rung, .out]), ite_self, learnStart_blank, opStart_blank]; done) | (with_reducible refine ite_blank ?_ ?_) | split | (with_reducible refine (foldl_blank _ _ _ (fun _ _ => ?_)).trans ?_) | (with_reducible refine (opStart_blank (by decide) _ _ _ _ _ _ _ (fun _ => ?_)).trans ?_) | (dsimp only))
theorem calStart_blank {pl : List Part} (w : within [.met, .ops, .rcd, .logFreeze] pl = true) (index : Nat) (span : Int) (session : Nat) (s : State) : blank pl (calStart index span session s) = blank pl s := by
  refine widen (l := [.met, .ops, .rcd, .logFreeze]) ?_ w
  simp (disch := decide) only [calStart, createOp_blank, limitedStart_blank, onMet_blank, onOp_blank]
theorem evalSysCal_blank {pl : List Part} (w : within [.deferred, .met, .host, .ops, .irq, .rings, .rcd, .logFreeze, .rung, .out] pl = true) (r : HostReq) (s : State) : blank pl (evalSysCal r s) = blank pl s := by
  refine widen (l := [.deferred, .met, .host, .ops, .irq, .rings, .rcd, .logFreeze, .rung, .out]) ?_ w
  unfold evalSysCal
  repeat' (first | (with_reducible rfl) | (simp (disch := decide) only [apply_ite (blank [.deferred, .met, .host, .ops, .irq, .rings, .rcd, .logFreeze, .rung, .out]), ite_self, calStart_blank, opStart_blank]; done) | (with_reducible refine ite_blank ?_ ?_) | split | (with_reducible refine (foldl_blank _ _ _ (fun _ _ => ?_)).trans ?_) | (with_reducible refine (opStart_blank (by decide) _ _ _ _ _ _ _ (fun _ => ?_)).trans ?_) | (dsimp only))
theorem evalSweep_blank {pl : List Part} (w : within [.deferred, .imp, .host, .ops, .irq, .rings, .logFreeze, .rung, .out] pl = true) (r : HostReq) (s : State) : blank pl (evalSweep r s) = blank pl s := by
  refine widen (l := [.deferred, .imp, .host, .ops, .irq, .rings, .logFreeze, .rung, .out]) ?_ w
  unfold evalSweep
  repeat' (first | (with_reducible rfl) | (simp (disch := decide) only [apply_ite (blank [.deferred, .imp, .host, .ops, .irq, .rings, .logFreeze, .rung, .out]), ite_self, opStart_blank, sweepStart_blank]; done) | (with_reducible refine ite_blank ?_ ?_) | split | (with_reducible refine (foldl_blank _ _ _ (fun _ _ => ?_)).trans ?_) | (with_reducible refine (opStart_blank (by decide) _ _ _ _ _ _ _ (fun _ => ?_)).trans ?_) | (dsimp only))
theorem campaignStart_blank {pl : List Part} (w : within [.bal, .ops] pl = true) (deadband : Nat) (timeMax : Nat) (session : Nat) (s : State) : blank pl (campaignStart deadband timeMax session s) = blank pl s := by
  refine widen (l := [.bal, .ops]) ?_ w
  simp (disch := decide) only [campaignStart, createOp_blank, onBal_blank]
theorem evalCampaign_blank {pl : List Part} (w : within [.deferred, .bal, .host, .ops, .irq, .rings, .logFreeze, .rung, .out] pl = true) (r : HostReq) (s : State) : blank pl (evalCampaign r s) = blank pl s := by
  refine widen (l := [.deferred, .bal, .host, .ops, .irq, .rings, .logFreeze, .rung, .out]) ?_ w
  unfold evalCampaign
  repeat' (first | (with_reducible rfl) | (simp (disch := decide) only [apply_ite (blank [.deferred, .bal, .host, .ops, .irq, .rings, .logFreeze, .rung, .out]), ite_self, campaignStart_blank, opStart_blank]; done) | (with_reducible refine ite_blank ?_ ?_) | split | (with_reducible refine (foldl_blank _ _ _ (fun _ _ => ?_)).trans ?_) | (with_reducible refine (opStart_blank (by decide) _ _ _ _ _ _ _ (fun _ => ?_)).trans ?_) | (dsimp only))
theorem evalIsoTest_blank {pl : List Part} (w : within [.deferred, .iso, .host, .ops, .irq, .rings, .rcd, .logFreeze, .rung, .out] pl = true) (r : HostReq) (s : State) : blank pl (evalIsoTest r s) = blank pl s := by
  refine widen (l := [.deferred, .iso, .host, .ops, .irq, .rings, .rcd, .logFreeze, .rung, .out]) ?_ w
  unfold evalIsoTest
  repeat' (first | (with_reducible rfl) | (simp (disch := decide) only [apply_ite (blank [.deferred, .iso, .host, .ops, .irq, .rings, .rcd, .logFreeze, .rung, .out]), ite_self, createOp_blank, isoTestBegin_blank, limitedStart_blank, opStart_blank]; done) | (with_reducible refine ite_blank ?_ ?_) | split | (with_reducible refine (foldl_blank _ _ _ (fun _ _ => ?_)).trans ?_) | (with_reducible refine (opStart_blank (by decide) _ _ _ _ _ _ _ (fun _ => ?_)).trans ?_) | (dsimp only))
theorem evalExport_blank {pl : List Part} (w : within [.deferred, .host, .ops, .irq, .rings, .rcd, .logFreeze, .rung, .out] pl = true) (r : HostReq) (s : State) : blank pl (evalExport r s) = blank pl s := by
  refine widen (l := [.deferred, .host, .ops, .irq, .rings, .rcd, .logFreeze, .rung, .out]) ?_ w
  unfold evalExport
  repeat' (first | (with_reducible rfl) | (simp (disch := decide) only [apply_ite (blank [.deferred, .host, .ops, .irq, .rings, .rcd, .logFreeze, .rung, .out]), ite_self, createOp_blank, onRcd_blank, opStart_blank]; done) | (with_reducible refine ite_blank ?_ ?_) | split | (with_reducible refine (foldl_blank _ _ _ (fun _ _ => ?_)).trans ?_) | (with_reducible refine (opStart_blank (by decide) _ _ _ _ _ _ _ (fun _ => ?_)).trans ?_) | (dsimp only))
theorem evalUpdStage_blank {pl : List Part} (w : within [.deferred, .host, .ops, .irq, .rings, .logFreeze, .rung, .upd, .out] pl = true) (r : HostReq) (s : State) : blank pl (evalUpdStage r s) = blank pl s := by
  refine widen (l := [.deferred, .host, .ops, .irq, .rings, .logFreeze, .rung, .upd, .out]) ?_ w
  unfold evalUpdStage
  repeat' (first | (with_reducible rfl) | (simp (disch := decide) only [apply_ite (blank [.deferred, .host, .ops, .irq, .rings, .logFreeze, .rung, .upd, .out]), ite_self, opStart_blank, updStart_blank]; done) | (with_reducible refine ite_blank ?_ ?_) | split | (with_reducible refine (foldl_blank _ _ _ (fun _ _ => ?_)).trans ?_) | (with_reducible refine (opStart_blank (by decide) _ _ _ _ _ _ _ (fun _ => ?_)).trans ?_) | (dsimp only))
theorem evalOpStart_blank {pl : List Part} (w : within [.deferred, .met, .tab, .est, .imp, .bal, .iso, .host, .ops, .irq, .rings, .rcd, .logFreeze, .rung, .upd, .out] pl = true) (r : HostReq) (s : State) : blank pl (evalOpStart r s) = blank pl s := by
  refine widen (l := [.deferred, .met, .tab, .est, .imp, .bal, .iso, .host, .ops, .irq, .rings, .rcd, .logFreeze, .rung, .upd, .out]) ?_ w
  unfold evalOpStart
  repeat' (first | (with_reducible rfl) | (simp (disch := decide) only [apply_ite (blank [.deferred, .met, .tab, .est, .imp, .bal, .iso, .host, .ops, .irq, .rings, .rcd, .logFreeze, .rung, .upd, .out]), ite_self, evalCampaign_blank, evalCapLearn_blank, evalExport_blank, evalIsoTest_blank, evalSweep_blank, evalSysCal_blank, evalUpdStage_blank, roleThen_blank]; done) | (with_reducible refine ite_blank ?_ ?_) | split | (with_reducible refine (foldl_blank _ _ _ (fun _ _ => ?_)).trans ?_) | (with_reducible refine (roleThen_blank (by decide) _ _ _ _ _ (fun _ => ?_)).trans ?_) | (dsimp only))
theorem onHandle_blank {pl : List Part} (w : within [.deferred, .host, .irq, .rings, .logFreeze, .rung, .out] pl = true) (r : HostReq) (act : Op → State → State) (s : State) (h : ∀ a t, blank pl (act a t) = blank pl t) : blank pl (onHandle r act s) = blank pl s := by
  unfold onHandle
  repeat' (first | (with_reducible rfl) | (simp (disch := first | decide | exact within_trans (by decide) w) only [apply_ite (blank pl), ite_self, answerAuth_blank, refuseState_blank, respond_blank, h]; done) | (with_reducible refine ite_blank ?_ ?_) | split | (with_reducible refine (foldl_blank _ _ _ (fun _ _ => ?_)).trans ?_) | (dsimp only))
theorem evalSuspend_blank {pl : List Part} (w : within [.deferred, .met, .skl, .imp, .bal, .iso, .host, .ops, .irq, .rings, .logFreeze, .rung, .out] pl = true) (r : HostReq) (s : State) : blank pl (evalSuspend r s) = blank pl s := by
  refine widen (l := [.deferred, .met, .skl, .imp, .bal, .iso, .host, .ops, .irq, .rings, .logFreeze, .rung, .out]) ?_ w
  unfold evalSuspend
  repeat' (first | (with_reducible rfl) | (simp (disch := decide) only [apply_ite (blank [.deferred, .met, .skl, .imp, .bal, .iso, .host, .ops, .irq, .rings, .logFreeze, .rung, .out]), ite_self, balZero_blank, onHandle_blank, onOp_blank, respond_blank, suspendPart_blank]; done) | (with_reducible refine ite_blank ?_ ?_) | split | (with_reducible refine (foldl_blank _ _ _ (fun _ _ => ?_)).trans ?_) | (with_reducible refine (onHandle_blank (by decide) _ _ _ (fun _ _ => ?_)).trans ?_) | (dsimp only))
theorem resumePart_blank {pl : List Part} (w : within [.deferred, .met, .tab, .est, .jrn, .imp, .bal, .iso, .ops, .irq, .rings, .rcd, .logFreeze, .rung, .upd] pl = true) (kind : Nat) (s : State) : blank pl (resumePart kind s) = blank pl s := by
  refine widen (l := [.deferred, .met, .tab, .est, .jrn, .imp, .bal, .iso, .ops, .irq, .rings, .rcd, .logFreeze, .rung, .upd]) ?_ w
  unfold resumePart
  repeat' (first | (with_reducible rfl) | (simp (disch := decide) only [apply_ite (blank [.deferred, .met, .tab, .est, .jrn, .imp, .bal, .iso, .ops, .irq, .rings, .rcd, .logFreeze, .rung, .upd]), ite_self, calCapture_blank, installReady_blank, isoTestBegin_blank, learnCompute_blank, limitedStart_blank, onBal_blank, onImp_blank]; done) | (with_reducible refine ite_blank ?_ ?_) | split | (with_reducible refine (foldl_blank _ _ _ (fun _ _ => ?_)).trans ?_) | (dsimp only))
theorem evalResume_blank {pl : List Part} (w : within [.deferred, .met, .tab, .est, .jrn, .imp, .bal, .iso, .host, .ops, .irq, .rings, .rcd, .logFreeze, .rung, .upd, .out] pl = true) (r : HostReq) (s : State) : blank pl (evalResume r s) = blank pl s := by
  refine widen (l := [.deferred, .met, .tab, .est, .jrn, .imp, .bal, .iso, .host, .ops, .irq, .rings, .rcd, .logFreeze, .rung, .upd, .out]) ?_ w
  unfold evalResume
  repeat' (first | (with_reducible rfl) | (simp (disch := decide) only [apply_ite (blank [.deferred, .met, .tab, .est, .jrn, .imp, .bal, .iso, .host, .ops, .irq, .rings, .rcd, .logFreeze, .rung, .upd, .out]), ite_self, onHandle_blank, onOp_blank, refuseState_blank, respond_blank, resumePart_blank]; done) | (with_reducible refine ite_blank ?_ ?_) | split | (with_reducible refine (foldl_blank _ _ _ (fun _ _ => ?_)).trans ?_) | (with_reducible refine (onHandle_blank (by decide) _ _ _ (fun _ _ => ?_)).trans ?_) | (dsimp only))
theorem evalCancel_blank {pl : List Part} (w : within [.deferred, .met, .skl, .est, .imp, .bal, .iso, .host, .ops, .irq, .rings, .rcd, .logFreeze, .rung, .upd, .out] pl = true) (r : HostReq) (s : State) : blank pl (evalCancel r s) = blank pl s := by
  refine widen (l := [.deferred, .met, .skl, .est, .imp, .bal, .iso, .host, .ops, .irq, .rings, .rcd, .logFreeze, .rung, .upd, .out]) ?_ w
  unfold evalCancel
  repeat' (first | (with_reducible rfl) | (simp (disch := decide) only [apply_ite (blank [.deferred, .met, .skl, .est, .imp, .bal, .iso, .host, .ops, .irq, .rings, .rcd, .logFreeze, .rung, .upd, .out]), ite_self, balZero_blank, closeOp_blank, endOp_blank, onHandle_blank, respond_blank, updCancel_blank]; done) | (with_reducible refine ite_blank ?_ ?_) | split | (with_reducible refine (foldl_blank _ _ _ (fun _ _ => ?_)).trans ?_) | (with_reducible refine (onHandle_blank (by decide) _ _ _ (fun _ _ => ?_)).trans ?_) | (dsimp only))
theorem kindRow_blank {pl : List Part} (w : within [] pl = true) (kind : Nat) (eval : HostReq → State → State) (r : HostReq) (s : State) (h : ∀ a t, blank pl (eval a t) = blank pl t) : Frames pl s (kindRow kind eval r s) := by
  unfold kindRow
  repeat' (first | (with_reducible rfl) | (simp (disch := first | decide | exact within_trans (by decide) w) only [frames_next, apply_ite (blank pl), ite_self, evalRow_blank, h]; done) | (with_reducible refine ite_blank ?_ ?_) | split | (with_reducible refine (foldl_blank _ _ _ (fun _ _ => ?_)).trans ?_) | (with_reducible refine evalRow_blank (within_trans (by decide) w) _ _ _ _ (fun _ _ => ?_)) | (dsimp only))
theorem execOpStartCapLearn_blank {pl : List Part} (w : within [.deferred, .met, .tab, .est, .imp, .bal, .iso, .host, .ops, .irq, .rings, .rcd, .logFreeze, .rung, .out] pl = true) (r : HostReq) (s : State) : Frames pl s (execOpStartCapLearn r s) := by
  refine widens (l := [.deferred, .met, .tab, .est, .imp, .bal, .iso, .host, .ops, .irq, .rings, .rcd, .logFreeze, .rung, .out]) ?_ w
  unfold execOpStartCapLearn
  repeat' (first | (with_reducible rfl) | (simp (disch := decide) only [frames_next, apply_ite (blank [.deferred, .met, .tab, .est, .imp, .bal, .iso, .host, .ops, .irq, .rings, .rcd, .logFreeze, .rung, .out]), ite_self, evalCapLearn_blank, kindRow_blank]; done) | (with_reducible refine ite_blank ?_ ?_) | split | (with_reducible refine (foldl_blank _ _ _ (fun _ _ => ?_)).trans ?_) | (with_reducible refine kindRow_blank (by decide) _ _ _ _ (fun _ _ => ?_)) | (dsimp only))
theorem execOpStartSysCal_blank {pl : List Part} (w : within [.deferred, .met, .host, .ops, .irq, .rings, .rcd, .logFreeze, .rung, .out] pl = true) (r : HostReq) (s : State) : Frames pl s (execOpStartSysCal r s) := by
  refine widens (l := [.deferred, .met, .host, .ops, .irq, .rings, .rcd, .logFreeze, .rung, .out]) ?_ w
  unfold execOpStartSysCal
  repeat' (first | (with_reducible rfl) | (simp (disch := decide) only [frames_next, apply_ite (blank [.deferred, .met, .host, .ops, .irq, .rings, .rcd, .logFreeze, .rung, .out]), ite_self, evalSysCal_blank, kindRow_blank]; done) | (with_reducible refine ite_blank ?_ ?_) | split | (with_reducible refine (foldl_blank _ _ _ (fun _ _ => ?_)).trans ?_) | (with_reducible refine kindRow_blank (by decide) _ _ _ _ (fun _ _ => ?_)) | (dsimp only))
theorem execOpStartImpedanceSweep_blank {pl : List Part} (w : within [.deferred, .imp, .host, .ops, .irq, .rings, .logFreeze, .rung, .out] pl = true) (r : HostReq) (s : State) : Frames pl s (execOpStartImpedanceSweep r s) := by
  refine widens (l := [.deferred, .imp, .host, .ops, .irq, .rings, .logFreeze, .rung, .out]) ?_ w
  unfold execOpStartImpedanceSweep
  repeat' (first | (with_reducible rfl) | (simp (disch := decide) only [frames_next, apply_ite (blank [.deferred, .imp, .host, .ops, .irq, .rings, .logFreeze, .rung, .out]), ite_self, evalSweep_blank, kindRow_blank]; done) | (with_reducible refine ite_blank ?_ ?_) | split | (with_reducible refine (foldl_blank _ _ _ (fun _ _ => ?_)).trans ?_) | (with_reducible refine kindRow_blank (by decide) _ _ _ _ (fun _ _ => ?_)) | (dsimp only))
theorem execOpStartBalanceCampaign_blank {pl : List Part} (w : within [.deferred, .bal, .host, .ops, .irq, .rings, .logFreeze, .rung, .out] pl = true) (r : HostReq) (s : State) : Frames pl s (execOpStartBalanceCampaign r s) := by
  refine widens (l := [.deferred, .bal, .host, .ops, .irq, .rings, .logFreeze, .rung, .out]) ?_ w
  unfold execOpStartBalanceCampaign
  repeat' (first | (with_reducible rfl) | (simp (disch := decide) only [frames_next, apply_ite (blank [.deferred, .bal, .host, .ops, .irq, .rings, .logFreeze, .rung, .out]), ite_self, evalCampaign_blank, kindRow_blank]; done) | (with_reducible refine ite_blank ?_ ?_) | split | (with_reducible refine (foldl_blank _ _ _ (fun _ _ => ?_)).trans ?_) | (with_reducible refine kindRow_blank (by decide) _ _ _ _ (fun _ _ => ?_)) | (dsimp only))
theorem execOpStartInsulationTest_blank {pl : List Part} (w : within [.deferred, .iso, .host, .ops, .irq, .rings, .rcd, .logFreeze, .rung, .out] pl = true) (r : HostReq) (s : State) : Frames pl s (execOpStartInsulationTest r s) := by
  refine widens (l := [.deferred, .iso, .host, .ops, .irq, .rings, .rcd, .logFreeze, .rung, .out]) ?_ w
  unfold execOpStartInsulationTest
  repeat' (first | (with_reducible rfl) | (simp (disch := decide) only [frames_next, apply_ite (blank [.deferred, .iso, .host, .ops, .irq, .rings, .rcd, .logFreeze, .rung, .out]), ite_self, evalIsoTest_blank, kindRow_blank]; done) | (with_reducible refine ite_blank ?_ ?_) | split | (with_reducible refine (foldl_blank _ _ _ (fun _ _ => ?_)).trans ?_) | (with_reducible refine kindRow_blank (by decide) _ _ _ _ (fun _ _ => ?_)) | (dsimp only))
theorem execOpStartLogExport_blank {pl : List Part} (w : within [.deferred, .host, .ops, .irq, .rings, .rcd, .logFreeze, .rung, .out] pl = true) (r : HostReq) (s : State) : Frames pl s (execOpStartLogExport r s) := by
  refine widens (l := [.deferred, .host, .ops, .irq, .rings, .rcd, .logFreeze, .rung, .out]) ?_ w
  unfold execOpStartLogExport
  repeat' (first | (with_reducible rfl) | (simp (disch := decide) only [frames_next, apply_ite (blank [.deferred, .host, .ops, .irq, .rings, .rcd, .logFreeze, .rung, .out]), ite_self, evalExport_blank, kindRow_blank]; done) | (with_reducible refine ite_blank ?_ ?_) | split | (with_reducible refine (foldl_blank _ _ _ (fun _ _ => ?_)).trans ?_) | (with_reducible refine kindRow_blank (by decide) _ _ _ _ (fun _ _ => ?_)) | (dsimp only))
theorem execOpStartUpdateStage_blank {pl : List Part} (w : within [.deferred, .host, .ops, .irq, .rings, .logFreeze, .rung, .upd, .out] pl = true) (r : HostReq) (s : State) : Frames pl s (execOpStartUpdateStage r s) := by
  refine widens (l := [.deferred, .host, .ops, .irq, .rings, .logFreeze, .rung, .upd, .out]) ?_ w
  unfold execOpStartUpdateStage
  repeat' (first | (with_reducible rfl) | (simp (disch := decide) only [frames_next, apply_ite (blank [.deferred, .host, .ops, .irq, .rings, .logFreeze, .rung, .upd, .out]), ite_self, evalUpdStage_blank, kindRow_blank]; done) | (with_reducible refine ite_blank ?_ ?_) | split | (with_reducible refine (foldl_blank _ _ _ (fun _ _ => ?_)).trans ?_) | (with_reducible refine kindRow_blank (by decide) _ _ _ _ (fun _ _ => ?_)) | (dsimp only))
theorem execSuspend_blank {pl : List Part} (w : within [.deferred, .met, .skl, .imp, .bal, .iso, .host, .ops, .irq, .rings, .logFreeze, .rung, .out] pl = true) (r : HostReq) (s : State) : Frames pl s (execSuspend r s) := by
  refine widens (l := [.deferred, .met, .skl, .imp, .bal, .iso, .host, .ops, .irq, .rings, .logFreeze, .rung, .out]) ?_ w
  unfold execSuspend
  repeat' (first | (with_reducible rfl) | (simp (disch := decide) only [frames_next, apply_ite (blank [.deferred, .met, .skl, .imp, .bal, .iso, .host, .ops, .irq, .rings, .logFreeze, .rung, .out]), ite_self, evalRow_blank, evalSuspend_blank]; done) | (with_reducible refine ite_blank ?_ ?_) | split | (with_reducible refine (foldl_blank _ _ _ (fun _ _ => ?_)).trans ?_) | (with_reducible refine evalRow_blank (by decide) _ _ _ _ (fun _ _ => ?_)) | (dsimp only))
theorem execResume_blank {pl : List Part} (w : within [.deferred, .met, .tab, .est, .jrn, .imp, .bal, .iso, .host, .ops, .irq, .rings, .rcd, .logFreeze, .rung, .upd, .out] pl = true) (r : HostReq) (s : State) : Frames pl s (execResume r s) := by
  refine widens (l := [.deferred, .met, .tab, .est, .jrn, .imp, .bal, .iso, .host, .ops, .irq, .rings, .rcd, .logFreeze, .rung, .upd, .out]) ?_ w
  unfold execResume
  repeat' (first | (with_reducible rfl) | (simp (disch := decide) only [frames_next, apply_ite (blank [.deferred, .met, .tab, .est, .jrn, .imp, .bal, .iso, .host, .ops, .irq, .rings, .rcd, .logFreeze, .rung, .upd, .out]), ite_self, evalResume_blank, evalRow_blank]; done) | (with_reducible refine ite_blank ?_ ?_) | split | (with_reducible refine (foldl_blank _ _ _ (fun _ _ => ?_)).trans ?_) | (with_reducible refine evalRow_blank (by decide) _ _ _ _ (fun _ _ => ?_)) | (dsimp only))
theorem execCancel_blank {pl : List Part} (w : within [.deferred, .met, .skl, .est, .imp, .bal, .iso, .host, .ops, .irq, .rings, .rcd, .logFreeze, .rung, .upd, .out] pl = true) (r : HostReq) (s : State) : Frames pl s (execCancel r s) := by
  refine widens (l := [.deferred, .met, .skl, .est, .imp, .bal, .iso, .host, .ops, .irq, .rings, .rcd, .logFreeze, .rung, .upd, .out]) ?_ w
  unfold execCancel
  repeat' (first | (with_reducible rfl) | (simp (disch := decide) only [frames_next, apply_ite (blank [.deferred, .met, .skl, .est, .imp, .bal, .iso, .host, .ops, .irq, .rings, .rcd, .logFreeze, .rung, .upd, .out]), ite_self, evalCancel_blank, evalRow_blank]; done) | (with_reducible refine ite_blank ?_ ?_) | split | (with_reducible refine (foldl_blank _ _ _ (fun _ _ => ?_)).trans ?_) | (with_reducible refine evalRow_blank (by decide) _ _ _ _ (fun _ _ => ?_)) | (dsimp only))
theorem evalCommand_blank {pl : List Part} (w : within [.tick, .str, .pins, .pwr, .tb, .dawn, .deferred, .idn, .cfg, .met, .skl, .tab, .est, .jrn, .imp, .cnv, .dsp, .bal, .thm, .prot, .cont, .iso, .pair, .host, .ops, .irq, .rings, .rcd, .logFreeze, .can, .hlth, .lad, .rung, .upd, .jtag, .out, .fresh] pl = true) (r : HostReq) (s : State) : blank pl (evalCommand r s) = blank pl s := by
  refine widen (l := [.tick, .str, .pins, .pwr, .tb, .dawn, .deferred, .idn, .cfg, .met, .skl, .tab, .est, .jrn, .imp, .cnv, .dsp, .bal, .thm, .prot, .cont, .iso, .pair, .host, .ops, .irq, .rings, .rcd, .logFreeze, .can, .hlth, .lad, .rung, .upd, .jtag, .out, .fresh]) ?_ w
  unfold evalCommand
  split <;> simp (disch := decide) only [apply_ite (blank [.tick, .str, .pins, .pwr, .tb, .dawn, .deferred, .idn, .cfg, .met, .skl, .tab, .est, .jrn, .imp, .cnv, .dsp, .bal, .thm, .prot, .cont, .iso, .pair, .host, .ops, .irq, .rings, .rcd, .logFreeze, .can, .hlth, .lad, .rung, .upd, .jtag, .out, .fresh]), ite_self, evalCancel_blank, evalCapture_blank, evalClearFault_blank, evalConnect_blank, evalDisconnect_blank, evalEnterService_blank, evalExitService_blank, evalFreeze_blank, evalFreezeLog_blank, evalOpStart_blank, evalPairHandover_blank, evalPlugWrite_blank, evalRestart_blank, evalRestoreState_blank, evalResume_blank, evalSetPoint_blank, evalShutdown_blank, evalStart_blank, evalStop_blank, evalSuspend_blank]
theorem evalUnknown_blank {pl : List Part} (w : within [.host, .irq, .rings, .rung, .out] pl = true) (r : HostReq) (s : State) : blank pl (evalUnknown r s) = blank pl s := by
  refine widen (l := [.host, .irq, .rings, .rung, .out]) ?_ w
  unfold evalUnknown
  split <;> simp (disch := decide) only [apply_ite (blank [.host, .irq, .rings, .rung, .out]), ite_self, answerAuth_blank, respond_blank]
theorem serveRequest_blank {pl : List Part} (w : within [.tb, .deferred, .idn, .met, .est, .imp, .bal, .iso, .host, .ops, .irq, .rings, .rcd, .logFreeze, .rung, .upd, .out] pl = true) (no : Nat) (r : HostReq) (s : State) : blank pl (serveRequest no r s) = blank pl s := by
  refine widen (l := [.tb, .deferred, .idn, .met, .est, .imp, .bal, .iso, .host, .ops, .irq, .rings, .rcd, .logFreeze, .rung, .upd, .out]) ?_ w
  unfold serveRequest
  repeat' (first | (with_reducible rfl) | (simp (disch := decide) only [apply_ite (blank [.tb, .deferred, .idn, .met, .est, .imp, .bal, .iso, .host, .ops, .irq, .rings, .rcd, .logFreeze, .rung, .upd, .out]), ite_self, evalBulkWrite_blank, evalClose_blank, evalKeepalive_blank, evalKeySet_blank, evalRead_blank, evalSubscribe_blank, evalUnknown_blank, evalUpdPiece_blank, onHost_blank]; done) | (with_reducible refine ite_blank ?_ ?_) | split | (with_reducible refine (foldl_blank _ _ _ (fun _ _ => ?_)).trans ?_) | (dsimp only))
theorem serveFrame_blank {pl : List Part} (w : within [.tb, .deferred, .idn, .met, .est, .imp, .bal, .iso, .host, .ops, .irq, .rings, .rcd, .logFreeze, .rung, .upd, .out, .fresh] pl = true) (p : Packet) (s : State) : blank pl (serveFrame p s) = blank pl s := by
  refine widen (l := [.tb, .deferred, .idn, .met, .est, .imp, .bal, .iso, .host, .ops, .irq, .rings, .rcd, .logFreeze, .rung, .upd, .out, .fresh]) ?_ w
  simp (disch := decide) only [serveFrame, apply_ite (blank [.tb, .deferred, .idn, .met, .est, .imp, .bal, .iso, .host, .ops, .irq, .rings, .rcd, .logFreeze, .rung, .upd, .out, .fresh]), ite_self, serveOpenAuth_blank, serveOpenReq_blank, serveRequest_blank]
theorem takeFrame_blank {pl : List Part} (w : within [.tb, .deferred, .idn, .met, .est, .imp, .bal, .iso, .host, .ops, .irq, .rings, .rcd, .logFreeze, .rung, .upd, .out, .fresh] pl = true) (ring : Nat) (p : Packet) (s : State) : blank pl (takeFrame ring p s) = blank pl s := by
  refine widen (l := [.tb, .deferred, .idn, .met, .est, .imp, .bal, .iso, .host, .ops, .irq, .rings, .rcd, .logFreeze, .rung, .upd, .out, .fresh]) ?_ w
  simp (disch := decide) only [takeFrame, apply_ite (blank [.tb, .deferred, .idn, .met, .est, .imp, .bal, .iso, .host, .ops, .irq, .rings, .rcd, .logFreeze, .rung, .upd, .out, .fresh]), ite_self, discardPoisoned_blank, ringRel_blank, serveFrame_blank]
theorem drainRing_blank {pl : List Part} (w : within [.tb, .deferred, .idn, .met, .est, .imp, .bal, .iso, .host, .ops, .irq, .rings, .rcd, .logFreeze, .rung, .upd, .out, .fresh] pl = true) (ring n m : Nat) (s : State) : blank pl (drainRing ring n m s) = blank pl s := by
  refine widen (l := [.tb, .deferred, .idn, .met, .est, .imp, .bal, .iso, .host, .ops, .irq, .rings, .rcd, .logFreeze, .rung, .upd, .out, .fresh]) ?_ w
  induction n generalizing m s with
  | zero => rfl
  | succ n ih =>
    simp only [drainRing]
    split
    · rfl
    · exact ite_blank ((ih ..).trans (takeFrame_blank (by decide) ..)) rfl
theorem drainHost_blank {pl : List Part} (w : within [.tb, .deferred, .idn, .met, .est, .imp, .bal, .iso, .host, .ops, .irq, .rings, .rcd, .logFreeze, .rung, .upd, .out, .fresh] pl = true) (s : State) : blank pl (drainHost s) = blank pl s := by
  refine widen (l := [.tb, .deferred, .idn, .met, .est, .imp, .bal, .iso, .host, .ops, .irq, .rings, .rcd, .logFreeze, .rung, .upd, .out, .fresh]) ?_ w
  simp (disch := decide) only [drainHost, apply_ite (blank [.tb, .deferred, .idn, .met, .est, .imp, .bal, .iso, .host, .ops, .irq, .rings, .rcd, .logFreeze, .rung, .upd, .out, .fresh]), ite_self, drainRing_blank]
theorem evalCommands_blank {pl : List Part} (w : within [.tick, .str, .pins, .pwr, .tb, .dawn, .deferred, .idn, .cfg, .met, .skl, .tab, .est, .jrn, .imp, .cnv, .dsp, .bal, .thm, .prot, .cont, .iso, .pair, .host, .ops, .irq, .rings, .rcd, .logFreeze, .can, .hlth, .lad, .rung, .upd, .jtag, .out, .fresh] pl = true) (n : Nat) (s : State) : blank pl (evalCommands n s) = blank pl s := by
  refine widen (l := [.tick, .str, .pins, .pwr, .tb, .dawn, .deferred, .idn, .cfg, .met, .skl, .tab, .est, .jrn, .imp, .cnv, .dsp, .bal, .thm, .prot, .cont, .iso, .pair, .host, .ops, .irq, .rings, .rcd, .logFreeze, .can, .hlth, .lad, .rung, .upd, .jtag, .out, .fresh]) ?_ w
  induction n generalizing s with
  | zero => rfl
  | succ n ih =>
    simp only [evalCommands]
    split
    · rfl
    · exact ite_blank ((ih _).trans ((evalCommand_blank (by decide) ..).trans (onHost_blank (by decide) ..))) rfl
theorem nextEdge_blank {pl : List Part} (w : within [.tick, .tb] pl = true) (s : State) : blank pl (nextEdge s) = blank pl s := by
  refine widen (l := [.tick, .tb]) ?_ w
  simp (disch := decide) only [nextEdge, onTb_blank, onTick_blank]
theorem scanDue_blank {pl : List Part} (w : within [.tick] pl = true) (s : State) : blank pl (scanDue s) = blank pl s := by
  refine widen (l := [.tick]) ?_ w
  unfold scanDue
  repeat' (first | (with_reducible rfl) | (simp (disch := decide) only [apply_ite (blank [.tick]), ite_self, runDue_blank]; done) | (with_reducible refine ite_blank ?_ ?_) | split | (with_reducible refine (foldl_blank _ _ _ (fun _ _ => ?_)).trans ?_) | (dsimp only))
theorem tickMetrology_blank {pl : List Part} (w : within [.met] pl = true) (t : TickIn) (len : Nat) (s : State) : blank pl (tickMetrology t len s) = blank pl s := by
  refine widen (l := [.met]) ?_ w
  simp (disch := decide) only [tickMetrology, calGather_blank, coulombTick_blank, dwellGather_blank, latchDs_blank, latchSar_blank, seqAtEdge_blank]
theorem tickControl_blank {pl : List Part} (w : within [.str, .pins, .tb, .deferred, .idn, .met, .tab, .est, .imp, .cnv, .dsp, .bal, .thm, .prot, .cont, .iso, .pair, .host, .ops, .irq, .rings, .rcd, .logFreeze, .can, .rung, .upd] pl = true) (t : TickIn) (s : State) : blank pl (tickControl t s) = blank pl s := by
  refine widen (l := [.str, .pins, .tb, .deferred, .idn, .met, .tab, .est, .imp, .cnv, .dsp, .bal, .thm, .prot, .cont, .iso, .pair, .host, .ops, .irq, .rings, .rcd, .logFreeze, .can, .rung, .upd]) ?_ w
  simp (disch := decide) only [tickControl, coilTick_blank, corrTick_blank, exciteTick_blank, extTick_blank, glReturns_blank, heldTick_blank, isoGather_blank, ocTickCheck_blank, onPair_blank, phaseLoops_blank, stopTick_blank, takeBanks_blank, twilightTick_blank]
theorem execSampleInstant_blank {pl : List Part} (w : within [.tick, .str, .pins, .tb, .deferred, .idn, .met, .tab, .est, .imp, .cnv, .dsp, .bal, .thm, .prot, .cont, .iso, .pair, .host, .ops, .irq, .rings, .rcd, .logFreeze, .can, .lad, .rung, .upd, .out, .fresh] pl = true) (t : TickIn) (s : State) : Frames pl s (execSampleInstant t s) := by
  refine widens (l := [.tick, .str, .pins, .tb, .deferred, .idn, .met, .tab, .est, .imp, .cnv, .dsp, .bal, .thm, .prot, .cont, .iso, .pair, .host, .ops, .irq, .rings, .rcd, .logFreeze, .can, .lad, .rung, .upd, .out, .fresh]) ?_ w
  unfold execSampleInstant
  repeat' (first | (with_reducible rfl) | (simp (disch := decide) only [frames_next, apply_ite (blank [.tick, .str, .pins, .tb, .deferred, .idn, .met, .tab, .est, .imp, .cnv, .dsp, .bal, .thm, .prot, .cont, .iso, .pair, .host, .ops, .irq, .rings, .rcd, .logFreeze, .can, .lad, .rung, .upd, .out, .fresh]), ite_self, drainHost_blank, idleWatch_blank, irqEvent_blank, mirrorStatus_blank, nextEdge_blank, releaseHeld_blank, scanDue_blank, tickControl_blank, tickMetrology_blank]; done) | (with_reducible refine ite_blank ?_ ?_) | split | (with_reducible refine (foldl_blank _ _ _ (fun _ _ => ?_)).trans ?_) | (dsimp only))
theorem execDutyTransfer_blank {pl : List Part} (w : within [.tick, .pins, .tb, .cnv, .pair, .out] pl = true) (s : State) : Frames pl s (execDutyTransfer s) := by
  refine widens (l := [.tick, .pins, .tb, .cnv, .pair, .out]) ?_ w
  unfold execDutyTransfer
  split <;> simp (disch := decide) only [frames_next, apply_ite (blank [.tick, .pins, .tb, .cnv, .pair, .out]), ite_self, dutyTransfer_blank, mirrorBeat_blank]
theorem bankNews_blank {pl : List Part} (w : within [.pair, .out] pl = true) (k : Nat) (s : State) : blank pl (bankNews k s) = blank pl s := by
  refine widen (l := [.pair, .out]) ?_ w
  unfold bankNews
  split <;> simp (disch := decide) only [apply_ite (blank [.pair, .out]), ite_self, mirrorBank_blank, onPair_blank]
theorem refLatch_blank {pl : List Part} (w : within [.dsp] pl = true) (s : State) : blank pl (refLatch s) = blank pl s := by
  refine widen (l := [.dsp]) ?_ w
  simp (disch := decide) only [refLatch, onDsp_blank]
theorem frameControl_blank {pl : List Part} (w : within [.str, .pins, .tb, .deferred, .idn, .met, .skl, .tab, .est, .imp, .cnv, .dsp, .bal, .prot, .cont, .iso, .pair, .host, .ops, .irq, .rings, .rcd, .logFreeze, .can, .rung, .out] pl = true) (s : State) : blank pl (frameControl s) = blank pl s := by
  refine widen (l := [.str, .pins, .tb, .deferred, .idn, .met, .skl, .tab, .est, .imp, .cnv, .dsp, .bal, .prot, .cont, .iso, .pair, .host, .ops, .irq, .rings, .rcd, .logFreeze, .can, .rung, .out]) ?_ w
  simp (disch := decide) only [frameControl, apply_ite (blank [.str, .pins, .tb, .deferred, .idn, .met, .skl, .tab, .est, .imp, .cnv, .dsp, .bal, .prot, .cont, .iso, .pair, .host, .ops, .irq, .rings, .rcd, .logFreeze, .can, .rung, .out]), ite_self, balTakes_blank, bankNews_blank, budgets_blank, convFrame_blank, driftTrack_blank, exciteFrame_blank, holdCount_blank, mirrorFrame_blank, preFrame_blank, refLatch_blank, restTrack_blank, sklPlan_blank, sklSync_blank, takeSetPoint_blank, thetaFrame_blank, zeroFrame_blank]
theorem execFrameLatch_blank {pl : List Part} (w : within [.str, .pins, .tb, .deferred, .idn, .met, .skl, .tab, .est, .imp, .cnv, .dsp, .bal, .prot, .cont, .iso, .pair, .host, .ops, .irq, .rings, .rcd, .logFreeze, .can, .rung, .out] pl = true) (s : State) : Frames pl s (execFrameLatch s) := by
  refine widens (l := [.str, .pins, .tb, .deferred, .idn, .met, .skl, .tab, .est, .imp, .cnv, .dsp, .bal, .prot, .cont, .iso, .pair, .host, .ops, .irq, .rings, .rcd, .logFreeze, .can, .rung, .out]) ?_ w
  unfold execFrameLatch
  split <;> simp (disch := decide) only [frames_next, apply_ite (blank [.str, .pins, .tb, .deferred, .idn, .met, .skl, .tab, .est, .imp, .cnv, .dsp, .bal, .prot, .cont, .iso, .pair, .host, .ops, .irq, .rings, .rcd, .logFreeze, .can, .rung, .out]), ite_self, crossCheck_blank, frameControl_blank, irqEvent_blank, latchMeans_blank]
theorem preTimedOut_blank {pl : List Part} (w : within [.str, .pins, .deferred, .idn, .met, .est, .imp, .cnv, .dsp, .bal, .prot, .cont, .iso, .host, .ops, .irq, .rings, .rcd, .logFreeze, .can, .rung] pl = true) (s : State) : blank pl (preTimedOut s) = blank pl s := by
  refine widen (l := [.str, .pins, .deferred, .idn, .met, .est, .imp, .cnv, .dsp, .bal, .prot, .cont, .iso, .host, .ops, .irq, .rings, .rcd, .logFreeze, .can, .rung]) ?_ w
  simp (disch := decide) only [preTimedOut, apply_ite (blank [.str, .pins, .deferred, .idn, .met, .est, .imp, .cnv, .dsp, .bal, .prot, .cont, .iso, .host, .ops, .irq, .rings, .rcd, .logFreeze, .can, .rung]), ite_self, coilsOff_blank, deactivate_blank, decideFault_blank, log_blank, onStr_blank, setState_blank]
theorem applyTrigger_blank {pl : List Part} (w : within [.str, .pins, .deferred, .idn, .met, .est, .imp, .cnv, .dsp, .bal, .prot, .cont, .iso, .pair, .host, .ops, .irq, .rings, .rcd, .logFreeze, .can, .rung, .out] pl = true) (s : State) (t : Trigger) : blank pl (applyTrigger s t) = blank pl s := by
  refine widen (l := [.str, .pins, .deferred, .idn, .met, .est, .imp, .cnv, .dsp, .bal, .prot, .cont, .iso, .pair, .host, .ops, .irq, .rings, .rcd, .logFreeze, .can, .rung, .out]) ?_ w
  unfold applyTrigger
  repeat' (first | (with_reducible rfl) | (simp (disch := decide) only [apply_ite (blank [.str, .pins, .deferred, .idn, .met, .est, .imp, .cnv, .dsp, .bal, .prot, .cont, .iso, .pair, .host, .ops, .irq, .rings, .rcd, .logFreeze, .can, .rung, .out]), ite_self, askBlob_blank, coilOff_blank, estWait_blank, injectNow_blank, onCont_blank, onStr_blank, preTimedOut_blank, setState_blank]; done) | (with_reducible refine ite_blank ?_ ?_) | split | (with_reducible refine (foldl_blank _ _ _ (fun _ _ => ?_)).trans ?_) | (dsimp only))
theorem applyTriggers_blank {pl : List Part} (w : within [.str, .pins, .deferred, .idn, .met, .est, .imp, .cnv, .dsp, .bal, .prot, .cont, .iso, .pair, .host, .ops, .irq, .rings, .rcd, .logFreeze, .can, .rung, .out] pl = true) (s : State) : blank pl (applyTriggers s) = blank pl s := by
  refine widen (l := [.str, .pins, .deferred, .idn, .met, .est, .imp, .cnv, .dsp, .bal, .prot, .cont, .iso, .pair, .host, .ops, .irq, .rings, .rcd, .logFreeze, .can, .rung, .out]) ?_ w
  unfold applyTriggers
  repeat' (first | (with_reducible rfl) | (simp (disch := decide) only [apply_ite (blank [.str, .pins, .deferred, .idn, .met, .est, .imp, .cnv, .dsp, .bal, .prot, .cont, .iso, .pair, .host, .ops, .irq, .rings, .rcd, .logFreeze, .can, .rung, .out]), ite_self, applyTrigger_blank, onStr_blank]; done) | (with_reducible refine ite_blank ?_ ?_) | split | (with_reducible refine (foldl_blank _ _ _ (fun _ _ => ?_)).trans ?_) | (dsimp only))
theorem driveUpdate_blank {pl : List Part} (w : within [.str, .pins, .deferred, .idn, .met, .skl, .est, .imp, .cnv, .dsp, .bal, .prot, .cont, .iso, .host, .ops, .irq, .rings, .rcd, .logFreeze, .can, .rung] pl = true) (s : State) : blank pl (driveUpdate s) = blank pl s := by
  refine widen (l := [.str, .pins, .deferred, .idn, .met, .skl, .est, .imp, .cnv, .dsp, .bal, .prot, .cont, .iso, .host, .ops, .irq, .rings, .rcd, .logFreeze, .can, .rung]) ?_ w
  simp (disch := decide) only [driveUpdate, balZero_blank, coilFrame_blank, refreshSafeOut_blank, standbyAux_blank]
theorem execTick16Evaluation_blank {pl : List Part} (w : within [.tick, .str, .pins, .pwr, .tb, .dawn, .deferred, .idn, .cfg, .met, .skl, .tab, .est, .jrn, .imp, .cnv, .dsp, .bal, .thm, .prot, .cont, .iso, .pair, .host, .ops, .irq, .rings, .rcd, .logFreeze, .can, .hlth, .lad, .rung, .upd, .jtag, .out, .fresh] pl = true) (s : State) : Frames pl s (execTick16Evaluation s) := by
  refine widens (l := [.tick, .str, .pins, .pwr, .tb, .dawn, .deferred, .idn, .cfg, .met, .skl, .tab, .est, .jrn, .imp, .cnv, .dsp, .bal, .thm, .prot, .cont, .iso, .pair, .host, .ops, .irq, .rings, .rcd, .logFreeze, .can, .hlth, .lad, .rung, .upd, .jtag, .out, .fresh]) ?_ w
  unfold execTick16Evaluation
  split <;> simp (disch := decide) only [frames_next, apply_ite (blank [.tick, .str, .pins, .pwr, .tb, .dawn, .deferred, .idn, .cfg, .met, .skl, .tab, .est, .jrn, .imp, .cnv, .dsp, .bal, .thm, .prot, .cont, .iso, .pair, .host, .ops, .irq, .rings, .rcd, .logFreeze, .can, .hlth, .lad, .rung, .upd, .jtag, .out, .fresh]), ite_self, applyTriggers_blank, driveUpdate_blank, evalCommands_blank, spAnswer_blank]
theorem scanLate_blank {pl : List Part} (w : within [.tick, .str, .deferred, .prot, .irq, .rings, .logFreeze, .rung] pl = true) (k : Nat) (s : State) : blank pl (scanLate k s) = blank pl s := by
  refine widen (l := [.tick, .str, .deferred, .prot, .irq, .rings, .logFreeze, .rung]) ?_ w
  simp (disch := decide) only [scanLate, apply_ite (blank [.tick, .str, .deferred, .prot, .irq, .rings, .logFreeze, .rung]), ite_self, log_blank, onTick_blank, recordRun_blank]
theorem execTickOverrun_blank {pl : List Part} (w : within [.tick, .str, .pins, .tb, .deferred, .idn, .met, .est, .imp, .cnv, .dsp, .bal, .thm, .prot, .cont, .iso, .pair, .host, .ops, .irq, .rings, .rcd, .logFreeze, .can, .rung, .upd] pl = true) (item : Nat) (s : State) : Frames pl s (execTickOverrun item s) := by
  refine widens (l := [.tick, .str, .pins, .tb, .deferred, .idn, .met, .est, .imp, .cnv, .dsp, .bal, .thm, .prot, .cont, .iso, .pair, .host, .ops, .irq, .rings, .rcd, .logFreeze, .can, .rung, .upd]) ?_ w
  unfold execTickOverrun
  repeat' (first | (with_reducible rfl) | (simp (disch := decide) only [frames_next, apply_ite (blank [.tick, .str, .pins, .tb, .deferred, .idn, .met, .est, .imp, .cnv, .dsp, .bal, .thm, .prot, .cont, .iso, .pair, .host, .ops, .irq, .rings, .rcd, .logFreeze, .can, .rung, .upd]), ite_self, log_blank, moduleFault_blank, onTick_blank, scanLate_blank]; done) | (with_reducible refine ite_blank ?_ ?_) | split | (with_reducible refine (foldl_blank _ _ _ (fun _ _ => ?_)).trans ?_) | (dsimp only))

end Sys2Proof.Machine
end

