-- ==== Sys2Proof/Laws/Shared.lean ====
section
/-! SUPPORT. What the shared operations leave alone, part by part, for rewriting: records, ring traffic, interrupt events,
answers to a host, Twilight causes and the runs of the scan items. -/
namespace Sys2Proof.Machine

section
variable (code : Nat) (cls : Nat) (s0 : State)
@[simp] theorem moduleFault_tick : (moduleFault code cls s0).tick = s0.tick := Frame.of_blank (moduleFault_blank (pl := [.str, .pins, .tb, .deferred, .idn, .met, .est, .imp, .cnv, .dsp, .bal, .thm, .prot, .cont, .iso, .pair, .host, .ops, .irq, .rings, .rcd, .logFreeze, .can, .rung, .upd]) (by decide) code cls s0) .tick rfl
@[simp] theorem moduleFault_pwr : (moduleFault code cls s0).pwr = s0.pwr := Frame.of_blank (moduleFault_blank (pl := [.str, .pins, .tb, .deferred, .idn, .met, .est, .imp, .cnv, .dsp, .bal, .thm, .prot, .cont, .iso, .pair, .host, .ops, .irq, .rings, .rcd, .logFreeze, .can, .rung, .upd]) (by decide) code cls s0) .pwr rfl
@[simp] theorem moduleFault_cfg : (moduleFault code cls s0).cfg = s0.cfg := Frame.of_blank (moduleFault_blank (pl := [.str, .pins, .tb, .deferred, .idn, .met, .est, .imp, .cnv, .dsp, .bal, .thm, .prot, .cont, .iso, .pair, .host, .ops, .irq, .rings, .rcd, .logFreeze, .can, .rung, .upd]) (by decide) code cls s0) .cfg rfl
@[simp] theorem moduleFault_skl : (moduleFault code cls s0).skl = s0.skl := Frame.of_blank (moduleFault_blank (pl := [.str, .pins, .tb, .deferred, .idn, .met, .est, .imp, .cnv, .dsp, .bal, .thm, .prot, .cont, .iso, .pair, .host, .ops, .irq, .rings, .rcd, .logFreeze, .can, .rung, .upd]) (by decide) code cls s0) .skl rfl
@[simp] theorem moduleFault_tab : (moduleFault code cls s0).tab = s0.tab := Frame.of_blank (moduleFault_blank (pl := [.str, .pins, .tb, .deferred, .idn, .met, .est, .imp, .cnv, .dsp, .bal, .thm, .prot, .cont, .iso, .pair, .host, .ops, .irq, .rings, .rcd, .logFreeze, .can, .rung, .upd]) (by decide) code cls s0) .tab rfl
@[simp] theorem moduleFault_jrn : (moduleFault code cls s0).jrn = s0.jrn := Frame.of_blank (moduleFault_blank (pl := [.str, .pins, .tb, .deferred, .idn, .met, .est, .imp, .cnv, .dsp, .bal, .thm, .prot, .cont, .iso, .pair, .host, .ops, .irq, .rings, .rcd, .logFreeze, .can, .rung, .upd]) (by decide) code cls s0) .jrn rfl
@[simp] theorem moduleFault_hlth : (moduleFault code cls s0).hlth = s0.hlth := Frame.of_blank (moduleFault_blank (pl := [.str, .pins, .tb, .deferred, .idn, .met, .est, .imp, .cnv, .dsp, .bal, .thm, .prot, .cont, .iso, .pair, .host, .ops, .irq, .rings, .rcd, .logFreeze, .can, .rung, .upd]) (by decide) code cls s0) .hlth rfl
@[simp] theorem moduleFault_jtag : (moduleFault code cls s0).jtag = s0.jtag := Frame.of_blank (moduleFault_blank (pl := [.str, .pins, .tb, .deferred, .idn, .met, .est, .imp, .cnv, .dsp, .bal, .thm, .prot, .cont, .iso, .pair, .host, .ops, .irq, .rings, .rcd, .logFreeze, .can, .rung, .upd]) (by decide) code cls s0) .jtag rfl
@[simp] theorem moduleFault_out : (moduleFault code cls s0).out = s0.out := Frame.of_blank (moduleFault_blank (pl := [.str, .pins, .tb, .deferred, .idn, .met, .est, .imp, .cnv, .dsp, .bal, .thm, .prot, .cont, .iso, .pair, .host, .ops, .irq, .rings, .rcd, .logFreeze, .can, .rung, .upd]) (by decide) code cls s0) .out rfl
@[simp] theorem moduleFault_fresh : (moduleFault code cls s0).fresh = s0.fresh := Frame.of_blank (moduleFault_blank (pl := [.str, .pins, .tb, .deferred, .idn, .met, .est, .imp, .cnv, .dsp, .bal, .thm, .prot, .cont, .iso, .pair, .host, .ops, .irq, .rings, .rcd, .logFreeze, .can, .rung, .upd]) (by decide) code cls s0) .fresh rfl
@[simp] theorem moduleFault_pending : (moduleFault code cls s0).pending = s0.pending := Frame.of_blank (moduleFault_blank (pl := [.str, .pins, .tb, .deferred, .idn, .met, .est, .imp, .cnv, .dsp, .bal, .thm, .prot, .cont, .iso, .pair, .host, .ops, .irq, .rings, .rcd, .logFreeze, .can, .rung, .upd]) (by decide) code cls s0) .pending rfl
end

section
variable (code : Nat) (cls : Nat) (trip : Bool) (fn : Nat) (s : State)
@[simp] theorem decideFault_tick : (decideFault code cls trip fn s).tick = s.tick := Frame.of_blank (decideFault_blank (pl := [.str, .pins, .deferred, .idn, .met, .est, .imp, .cnv, .dsp, .bal, .prot, .iso, .host, .ops, .irq, .rings, .rcd, .logFreeze, .can, .rung]) (by decide) code cls trip fn s) .tick rfl
@[simp] theorem decideFault_pwr : (decideFault code cls trip fn s).pwr = s.pwr := Frame.of_blank (decideFault_blank (pl := [.str, .pins, .deferred, .idn, .met, .est, .imp, .cnv, .dsp, .bal, .prot, .iso, .host, .ops, .irq, .rings, .rcd, .logFreeze, .can, .rung]) (by decide) code cls trip fn s) .pwr rfl
@[simp] theorem decideFault_tb : (decideFault code cls trip fn s).tb = s.tb := Frame.of_blank (decideFault_blank (pl := [.str, .pins, .deferred, .idn, .met, .est, .imp, .cnv, .dsp, .bal, .prot, .iso, .host, .ops, .irq, .rings, .rcd, .logFreeze, .can, .rung]) (by decide) code cls trip fn s) .tb rfl
@[simp] theorem decideFault_cfg : (decideFault code cls trip fn s).cfg = s.cfg := Frame.of_blank (decideFault_blank (pl := [.str, .pins, .deferred, .idn, .met, .est, .imp, .cnv, .dsp, .bal, .prot, .iso, .host, .ops, .irq, .rings, .rcd, .logFreeze, .can, .rung]) (by decide) code cls trip fn s) .cfg rfl
@[simp] theorem decideFault_skl : (decideFault code cls trip fn s).skl = s.skl := Frame.of_blank (decideFault_blank (pl := [.str, .pins, .deferred, .idn, .met, .est, .imp, .cnv, .dsp, .bal, .prot, .iso, .host, .ops, .irq, .rings, .rcd, .logFreeze, .can, .rung]) (by decide) code cls trip fn s) .skl rfl
@[simp] theorem decideFault_tab : (decideFault code cls trip fn s).tab = s.tab := Frame.of_blank (decideFault_blank (pl := [.str, .pins, .deferred, .idn, .met, .est, .imp, .cnv, .dsp, .bal, .prot, .iso, .host, .ops, .irq, .rings, .rcd, .logFreeze, .can, .rung]) (by decide) code cls trip fn s) .tab rfl
@[simp] theorem decideFault_jrn : (decideFault code cls trip fn s).jrn = s.jrn := Frame.of_blank (decideFault_blank (pl := [.str, .pins, .deferred, .idn, .met, .est, .imp, .cnv, .dsp, .bal, .prot, .iso, .host, .ops, .irq, .rings, .rcd, .logFreeze, .can, .rung]) (by decide) code cls trip fn s) .jrn rfl
@[simp] theorem decideFault_thm : (decideFault code cls trip fn s).thm = s.thm := Frame.of_blank (decideFault_blank (pl := [.str, .pins, .deferred, .idn, .met, .est, .imp, .cnv, .dsp, .bal, .prot, .iso, .host, .ops, .irq, .rings, .rcd, .logFreeze, .can, .rung]) (by decide) code cls trip fn s) .thm rfl
@[simp] theorem decideFault_cont : (decideFault code cls trip fn s).cont = s.cont := Frame.of_blank (decideFault_blank (pl := [.str, .pins, .deferred, .idn, .met, .est, .imp, .cnv, .dsp, .bal, .prot, .iso, .host, .ops, .irq, .rings, .rcd, .logFreeze, .can, .rung]) (by decide) code cls trip fn s) .cont rfl
@[simp] theorem decideFault_pair : (decideFault code cls trip fn s).pair = s.pair := Frame.of_blank (decideFault_blank (pl := [.str, .pins, .deferred, .idn, .met, .est, .imp, .cnv, .dsp, .bal, .prot, .iso, .host, .ops, .irq, .rings, .rcd, .logFreeze, .can, .rung]) (by decide) code cls trip fn s) .pair rfl
@[simp] theorem decideFault_hlth : (decideFault code cls trip fn s).hlth = s.hlth := Frame.of_blank (decideFault_blank (pl := [.str, .pins, .deferred, .idn, .met, .est, .imp, .cnv, .dsp, .bal, .prot, .iso, .host, .ops, .irq, .rings, .rcd, .logFreeze, .can, .rung]) (by decide) code cls trip fn s) .hlth rfl
@[simp] theorem decideFault_jtag : (decideFault code cls trip fn s).jtag = s.jtag := Frame.of_blank (decideFault_blank (pl := [.str, .pins, .deferred, .idn, .met, .est, .imp, .cnv, .dsp, .bal, .prot, .iso, .host, .ops, .irq, .rings, .rcd, .logFreeze, .can, .rung]) (by decide) code cls trip fn s) .jtag rfl
@[simp] theorem decideFault_out : (decideFault code cls trip fn s).out = s.out := Frame.of_blank (decideFault_blank (pl := [.str, .pins, .deferred, .idn, .met, .est, .imp, .cnv, .dsp, .bal, .prot, .iso, .host, .ops, .irq, .rings, .rcd, .logFreeze, .can, .rung]) (by decide) code cls trip fn s) .out rfl
@[simp] theorem decideFault_fresh : (decideFault code cls trip fn s).fresh = s.fresh := Frame.of_blank (decideFault_blank (pl := [.str, .pins, .deferred, .idn, .met, .est, .imp, .cnv, .dsp, .bal, .prot, .iso, .host, .ops, .irq, .rings, .rcd, .logFreeze, .can, .rung]) (by decide) code cls trip fn s) .fresh rfl
@[simp] theorem decideFault_pending : (decideFault code cls trip fn s).pending = s.pending := Frame.of_blank (decideFault_blank (pl := [.str, .pins, .deferred, .idn, .met, .est, .imp, .cnv, .dsp, .bal, .prot, .iso, .host, .ops, .irq, .rings, .rcd, .logFreeze, .can, .rung]) (by decide) code cls trip fn s) .pending rfl
end

section
variable (st : StringState) (cause : Nat) (s : State)
@[simp] theorem setState_tick : (setState st cause s).tick = s.tick := Frame.of_blank (setState_blank (pl := [.str, .deferred, .met, .est, .imp, .dsp, .bal, .prot, .iso, .host, .ops, .irq, .rings, .rcd, .logFreeze, .rung]) (by decide) st cause s) .tick rfl
@[simp] theorem setState_pins : (setState st cause s).pins = s.pins := Frame.of_blank (setState_blank (pl := [.str, .deferred, .met, .est, .imp, .dsp, .bal, .prot, .iso, .host, .ops, .irq, .rings, .rcd, .logFreeze, .rung]) (by decide) st cause s) .pins rfl
@[simp] theorem setState_pwr : (setState st cause s).pwr = s.pwr := Frame.of_blank (setState_blank (pl := [.str, .deferred, .met, .est, .imp, .dsp, .bal, .prot, .iso, .host, .ops, .irq, .rings, .rcd, .logFreeze, .rung]) (by decide) st cause s) .pwr rfl
@[simp] theorem setState_tb : (setState st cause s).tb = s.tb := Frame.of_blank (setState_blank (pl := [.str, .deferred, .met, .est, .imp, .dsp, .bal, .prot, .iso, .host, .ops, .irq, .rings, .rcd, .logFreeze, .rung]) (by decide) st cause s) .tb rfl
@[simp] theorem setState_idn : (setState st cause s).idn = s.idn := Frame.of_blank (setState_blank (pl := [.str, .deferred, .met, .est, .imp, .dsp, .bal, .prot, .iso, .host, .ops, .irq, .rings, .rcd, .logFreeze, .rung]) (by decide) st cause s) .idn rfl
@[simp] theorem setState_cfg : (setState st cause s).cfg = s.cfg := Frame.of_blank (setState_blank (pl := [.str, .deferred, .met, .est, .imp, .dsp, .bal, .prot, .iso, .host, .ops, .irq, .rings, .rcd, .logFreeze, .rung]) (by decide) st cause s) .cfg rfl
@[simp] theorem setState_skl : (setState st cause s).skl = s.skl := Frame.of_blank (setState_blank (pl := [.str, .deferred, .met, .est, .imp, .dsp, .bal, .prot, .iso, .host, .ops, .irq, .rings, .rcd, .logFreeze, .rung]) (by decide) st cause s) .skl rfl
@[simp] theorem setState_tab : (setState st cause s).tab = s.tab := Frame.of_blank (setState_blank (pl := [.str, .deferred, .met, .est, .imp, .dsp, .bal, .prot, .iso, .host, .ops, .irq, .rings, .rcd, .logFreeze, .rung]) (by decide) st cause s) .tab rfl
@[simp] theorem setState_jrn : (setState st cause s).jrn = s.jrn := Frame.of_blank (setState_blank (pl := [.str, .deferred, .met, .est, .imp, .dsp, .bal, .prot, .iso, .host, .ops, .irq, .rings, .rcd, .logFreeze, .rung]) (by decide) st cause s) .jrn rfl
@[simp] theorem setState_cnv : (setState st cause s).cnv = s.cnv := Frame.of_blank (setState_blank (pl := [.str, .deferred, .met, .est, .imp, .dsp, .bal, .prot, .iso, .host, .ops, .irq, .rings, .rcd, .logFreeze, .rung]) (by decide) st cause s) .cnv rfl
@[simp] theorem setState_thm : (setState st cause s).thm = s.thm := Frame.of_blank (setState_blank (pl := [.str, .deferred, .met, .est, .imp, .dsp, .bal, .prot, .iso, .host, .ops, .irq, .rings, .rcd, .logFreeze, .rung]) (by decide) st cause s) .thm rfl
@[simp] theorem setState_cont : (setState st cause s).cont = s.cont := Frame.of_blank (setState_blank (pl := [.str, .deferred, .met, .est, .imp, .dsp, .bal, .prot, .iso, .host, .ops, .irq, .rings, .rcd, .logFreeze, .rung]) (by decide) st cause s) .cont rfl
@[simp] theorem setState_pair : (setState st cause s).pair = s.pair := Frame.of_blank (setState_blank (pl := [.str, .deferred, .met, .est, .imp, .dsp, .bal, .prot, .iso, .host, .ops, .irq, .rings, .rcd, .logFreeze, .rung]) (by decide) st cause s) .pair rfl
@[simp] theorem setState_can : (setState st cause s).can = s.can := Frame.of_blank (setState_blank (pl := [.str, .deferred, .met, .est, .imp, .dsp, .bal, .prot, .iso, .host, .ops, .irq, .rings, .rcd, .logFreeze, .rung]) (by decide) st cause s) .can rfl
@[simp] theorem setState_hlth : (setState st cause s).hlth = s.hlth := Frame.of_blank (setState_blank (pl := [.str, .deferred, .met, .est, .imp, .dsp, .bal, .prot, .iso, .host, .ops, .irq, .rings, .rcd, .logFreeze, .rung]) (by decide) st cause s) .hlth rfl
@[simp] theorem setState_jtag : (setState st cause s).jtag = s.jtag := Frame.of_blank (setState_blank (pl := [.str, .deferred, .met, .est, .imp, .dsp, .bal, .prot, .iso, .host, .ops, .irq, .rings, .rcd, .logFreeze, .rung]) (by decide) st cause s) .jtag rfl
@[simp] theorem setState_out : (setState st cause s).out = s.out := Frame.of_blank (setState_blank (pl := [.str, .deferred, .met, .est, .imp, .dsp, .bal, .prot, .iso, .host, .ops, .irq, .rings, .rcd, .logFreeze, .rung]) (by decide) st cause s) .out rfl
@[simp] theorem setState_fresh : (setState st cause s).fresh = s.fresh := Frame.of_blank (setState_blank (pl := [.str, .deferred, .met, .est, .imp, .dsp, .bal, .prot, .iso, .host, .ops, .irq, .rings, .rcd, .logFreeze, .rung]) (by decide) st cause s) .fresh rfl
@[simp] theorem setState_pending : (setState st cause s).pending = s.pending := Frame.of_blank (setState_blank (pl := [.str, .deferred, .met, .est, .imp, .dsp, .bal, .prot, .iso, .host, .ops, .irq, .rings, .rcd, .logFreeze, .rung]) (by decide) st cause s) .pending rfl
end

section
variable (trip : Bool) (s : State)
@[simp] theorem safeStop_tick : (safeStop trip s).tick = s.tick := Frame.of_blank (safeStop_blank (pl := [.str, .pins, .cnv, .dsp, .prot]) (by decide) trip s) .tick rfl
@[simp] theorem safeStop_pwr : (safeStop trip s).pwr = s.pwr := Frame.of_blank (safeStop_blank (pl := [.str, .pins, .cnv, .dsp, .prot]) (by decide) trip s) .pwr rfl
@[simp] theorem safeStop_tb : (safeStop trip s).tb = s.tb := Frame.of_blank (safeStop_blank (pl := [.str, .pins, .cnv, .dsp, .prot]) (by decide) trip s) .tb rfl
@[simp] theorem safeStop_idn : (safeStop trip s).idn = s.idn := Frame.of_blank (safeStop_blank (pl := [.str, .pins, .cnv, .dsp, .prot]) (by decide) trip s) .idn rfl
@[simp] theorem safeStop_cfg : (safeStop trip s).cfg = s.cfg := Frame.of_blank (safeStop_blank (pl := [.str, .pins, .cnv, .dsp, .prot]) (by decide) trip s) .cfg rfl
@[simp] theorem safeStop_met : (safeStop trip s).met = s.met := Frame.of_blank (safeStop_blank (pl := [.str, .pins, .cnv, .dsp, .prot]) (by decide) trip s) .met rfl
@[simp] theorem safeStop_skl : (safeStop trip s).skl = s.skl := Frame.of_blank (safeStop_blank (pl := [.str, .pins, .cnv, .dsp, .prot]) (by decide) trip s) .skl rfl
@[simp] theorem safeStop_tab : (safeStop trip s).tab = s.tab := Frame.of_blank (safeStop_blank (pl := [.str, .pins, .cnv, .dsp, .prot]) (by decide) trip s) .tab rfl
@[simp] theorem safeStop_est : (safeStop trip s).est = s.est := Frame.of_blank (safeStop_blank (pl := [.str, .pins, .cnv, .dsp, .prot]) (by decide) trip s) .est rfl
@[simp] theorem safeStop_jrn : (safeStop trip s).jrn = s.jrn := Frame.of_blank (safeStop_blank (pl := [.str, .pins, .cnv, .dsp, .prot]) (by decide) trip s) .jrn rfl
@[simp] theorem safeStop_imp : (safeStop trip s).imp = s.imp := Frame.of_blank (safeStop_blank (pl := [.str, .pins, .cnv, .dsp, .prot]) (by decide) trip s) .imp rfl
@[simp] theorem safeStop_bal : (safeStop trip s).bal = s.bal := Frame.of_blank (safeStop_blank (pl := [.str, .pins, .cnv, .dsp, .prot]) (by decide) trip s) .bal rfl
@[simp] theorem safeStop_thm : (safeStop trip s).thm = s.thm := Frame.of_blank (safeStop_blank (pl := [.str, .pins, .cnv, .dsp, .prot]) (by decide) trip s) .thm rfl
@[simp] theorem safeStop_cont : (safeStop trip s).cont = s.cont := Frame.of_blank (safeStop_blank (pl := [.str, .pins, .cnv, .dsp, .prot]) (by decide) trip s) .cont rfl
@[simp] theorem safeStop_iso : (safeStop trip s).iso = s.iso := Frame.of_blank (safeStop_blank (pl := [.str, .pins, .cnv, .dsp, .prot]) (by decide) trip s) .iso rfl
@[simp] theorem safeStop_pair : (safeStop trip s).pair = s.pair := Frame.of_blank (safeStop_blank (pl := [.str, .pins, .cnv, .dsp, .prot]) (by decide) trip s) .pair rfl
@[simp] theorem safeStop_host : (safeStop trip s).host = s.host := Frame.of_blank (safeStop_blank (pl := [.str, .pins, .cnv, .dsp, .prot]) (by decide) trip s) .host rfl
@[simp] theorem safeStop_ops : (safeStop trip s).ops = s.ops := Frame.of_blank (safeStop_blank (pl := [.str, .pins, .cnv, .dsp, .prot]) (by decide) trip s) .ops rfl
@[simp] theorem safeStop_irq : (safeStop trip s).irq = s.irq := Frame.of_blank (safeStop_blank (pl := [.str, .pins, .cnv, .dsp, .prot]) (by decide) trip s) .irq rfl
@[simp] theorem safeStop_rings : (safeStop trip s).rings = s.rings := Frame.of_blank (safeStop_blank (pl := [.str, .pins, .cnv, .dsp, .prot]) (by decide) trip s) .rings rfl
@[simp] theorem safeStop_can : (safeStop trip s).can = s.can := Frame.of_blank (safeStop_blank (pl := [.str, .pins, .cnv, .dsp, .prot]) (by decide) trip s) .can rfl
@[simp] theorem safeStop_hlth : (safeStop trip s).hlth = s.hlth := Frame.of_blank (safeStop_blank (pl := [.str, .pins, .cnv, .dsp, .prot]) (by decide) trip s) .hlth rfl
@[simp] theorem safeStop_jtag : (safeStop trip s).jtag = s.jtag := Frame.of_blank (safeStop_blank (pl := [.str, .pins, .cnv, .dsp, .prot]) (by decide) trip s) .jtag rfl
@[simp] theorem safeStop_out : (safeStop trip s).out = s.out := Frame.of_blank (safeStop_blank (pl := [.str, .pins, .cnv, .dsp, .prot]) (by decide) trip s) .out rfl
@[simp] theorem safeStop_fresh : (safeStop trip s).fresh = s.fresh := Frame.of_blank (safeStop_blank (pl := [.str, .pins, .cnv, .dsp, .prot]) (by decide) trip s) .fresh rfl
@[simp] theorem safeStop_pending : (safeStop trip s).pending = s.pending := Frame.of_blank (safeStop_blank (pl := [.str, .pins, .cnv, .dsp, .prot]) (by decide) trip s) .pending rfl
end

section
variable (fn : Nat) (cause : Nat) (cls : Nat) (trip : Bool) (item : Nat) (value : Int) (limit : Option Int) (s : State)
@[simp] theorem sfDemand_tick : (sfDemand fn cause cls trip item value limit s).tick = s.tick := Frame.of_blank (sfDemand_blank (pl := [.str, .pins, .deferred, .idn, .met, .est, .imp, .cnv, .dsp, .bal, .prot, .iso, .host, .ops, .irq, .rings, .rcd, .logFreeze, .can, .rung]) (by decide) fn cause cls trip item value limit s) .tick rfl
@[simp] theorem sfDemand_pwr : (sfDemand fn cause cls trip item value limit s).pwr = s.pwr := Frame.of_blank (sfDemand_blank (pl := [.str, .pins, .deferred, .idn, .met, .est, .imp, .cnv, .dsp, .bal, .prot, .iso, .host, .ops, .irq, .rings, .rcd, .logFreeze, .can, .rung]) (by decide) fn cause cls trip item value limit s) .pwr rfl
@[simp] theorem sfDemand_tb : (sfDemand fn cause cls trip item value limit s).tb = s.tb := Frame.of_blank (sfDemand_blank (pl := [.str, .pins, .deferred, .idn, .met, .est, .imp, .cnv, .dsp, .bal, .prot, .iso, .host, .ops, .irq, .rings, .rcd, .logFreeze, .can, .rung]) (by decide) fn cause cls trip item value limit s) .tb rfl
@[simp] theorem sfDemand_cfg : (sfDemand fn cause cls trip item value limit s).cfg = s.cfg := Frame.of_blank (sfDemand_blank (pl := [.str, .pins, .deferred, .idn, .met, .est, .imp, .cnv, .dsp, .bal, .prot, .iso, .host, .ops, .irq, .rings, .rcd, .logFreeze, .can, .rung]) (by decide) fn cause cls trip item value limit s) .cfg rfl
@[simp] theorem sfDemand_skl : (sfDemand fn cause cls trip item value limit s).skl = s.skl := Frame.of_blank (sfDemand_blank (pl := [.str, .pins, .deferred, .idn, .met, .est, .imp, .cnv, .dsp, .bal, .prot, .iso, .host, .ops, .irq, .rings, .rcd, .logFreeze, .can, .rung]) (by decide) fn cause cls trip item value limit s) .skl rfl
@[simp] theorem sfDemand_tab : (sfDemand fn cause cls trip item value limit s).tab = s.tab := Frame.of_blank (sfDemand_blank (pl := [.str, .pins, .deferred, .idn, .met, .est, .imp, .cnv, .dsp, .bal, .prot, .iso, .host, .ops, .irq, .rings, .rcd, .logFreeze, .can, .rung]) (by decide) fn cause cls trip item value limit s) .tab rfl
@[simp] theorem sfDemand_jrn : (sfDemand fn cause cls trip item value limit s).jrn = s.jrn := Frame.of_blank (sfDemand_blank (pl := [.str, .pins, .deferred, .idn, .met, .est, .imp, .cnv, .dsp, .bal, .prot, .iso, .host, .ops, .irq, .rings, .rcd, .logFreeze, .can, .rung]) (by decide) fn cause cls trip item value limit s) .jrn rfl
@[simp] theorem sfDemand_thm : (sfDemand fn cause cls trip item value limit s).thm = s.thm := Frame.of_blank (sfDemand_blank (pl := [.str, .pins, .deferred, .idn, .met, .est, .imp, .cnv, .dsp, .bal, .prot, .iso, .host, .ops, .irq, .rings, .rcd, .logFreeze, .can, .rung]) (by decide) fn cause cls trip item value limit s) .thm rfl
@[simp] theorem sfDemand_cont : (sfDemand fn cause cls trip item value limit s).cont = s.cont := Frame.of_blank (sfDemand_blank (pl := [.str, .pins, .deferred, .idn, .met, .est, .imp, .cnv, .dsp, .bal, .prot, .iso, .host, .ops, .irq, .rings, .rcd, .logFreeze, .can, .rung]) (by decide) fn cause cls trip item value limit s) .cont rfl
@[simp] theorem sfDemand_pair : (sfDemand fn cause cls trip item value limit s).pair = s.pair := Frame.of_blank (sfDemand_blank (pl := [.str, .pins, .deferred, .idn, .met, .est, .imp, .cnv, .dsp, .bal, .prot, .iso, .host, .ops, .irq, .rings, .rcd, .logFreeze, .can, .rung]) (by decide) fn cause cls trip item value limit s) .pair rfl
@[simp] theorem sfDemand_hlth : (sfDemand fn cause cls trip item value limit s).hlth = s.hlth := Frame.of_blank (sfDemand_blank (pl := [.str, .pins, .deferred, .idn, .met, .est, .imp, .cnv, .dsp, .bal, .prot, .iso, .host, .ops, .irq, .rings, .rcd, .logFreeze, .can, .rung]) (by decide) fn cause cls trip item value limit s) .hlth rfl
@[simp] theorem sfDemand_jtag : (sfDemand fn cause cls trip item value limit s).jtag = s.jtag := Frame.of_blank (sfDemand_blank (pl := [.str, .pins, .deferred, .idn, .met, .est, .imp, .cnv, .dsp, .bal, .prot, .iso, .host, .ops, .irq, .rings, .rcd, .logFreeze, .can, .rung]) (by decide) fn cause cls trip item value limit s) .jtag rfl
@[simp] theorem sfDemand_out : (sfDemand fn cause cls trip item value limit s).out = s.out := Frame.of_blank (sfDemand_blank (pl := [.str, .pins, .deferred, .idn, .met, .est, .imp, .cnv, .dsp, .bal, .prot, .iso, .host, .ops, .irq, .rings, .rcd, .logFreeze, .can, .rung]) (by decide) fn cause cls trip item value limit s) .out rfl
@[simp] theorem sfDemand_fresh : (sfDemand fn cause cls trip item value limit s).fresh = s.fresh := Frame.of_blank (sfDemand_blank (pl := [.str, .pins, .deferred, .idn, .met, .est, .imp, .cnv, .dsp, .bal, .prot, .iso, .host, .ops, .irq, .rings, .rcd, .logFreeze, .can, .rung]) (by decide) fn cause cls trip item value limit s) .fresh rfl
@[simp] theorem sfDemand_pending : (sfDemand fn cause cls trip item value limit s).pending = s.pending := Frame.of_blank (sfDemand_blank (pl := [.str, .pins, .deferred, .idn, .met, .est, .imp, .cnv, .dsp, .bal, .prot, .iso, .host, .ops, .irq, .rings, .rcd, .logFreeze, .can, .rung]) (by decide) fn cause cls trip item value limit s) .pending rfl
end

section
variable (src : Nat) (rising : Bool) (s : State)
@[simp] theorem irqEvent_tick : (irqEvent src rising s).tick = s.tick := Frame.of_blank (irqEvent_blank (pl := [.irq, .rings, .rung]) (by decide) src rising s) .tick rfl
@[simp] theorem irqEvent_str : (irqEvent src rising s).str = s.str := Frame.of_blank (irqEvent_blank (pl := [.irq, .rings, .rung]) (by decide) src rising s) .str rfl
@[simp] theorem irqEvent_pins : (irqEvent src rising s).pins = s.pins := Frame.of_blank (irqEvent_blank (pl := [.irq, .rings, .rung]) (by decide) src rising s) .pins rfl
@[simp] theorem irqEvent_pwr : (irqEvent src rising s).pwr = s.pwr := Frame.of_blank (irqEvent_blank (pl := [.irq, .rings, .rung]) (by decide) src rising s) .pwr rfl
@[simp] theorem irqEvent_tb : (irqEvent src rising s).tb = s.tb := Frame.of_blank (irqEvent_blank (pl := [.irq, .rings, .rung]) (by decide) src rising s) .tb rfl
@[simp] theorem irqEvent_idn : (irqEvent src rising s).idn = s.idn := Frame.of_blank (irqEvent_blank (pl := [.irq, .rings, .rung]) (by decide) src rising s) .idn rfl
@[simp] theorem irqEvent_cfg : (irqEvent src rising s).cfg = s.cfg := Frame.of_blank (irqEvent_blank (pl := [.irq, .rings, .rung]) (by decide) src rising s) .cfg rfl
@[simp] theorem irqEvent_met : (irqEvent src rising s).met = s.met := Frame.of_blank (irqEvent_blank (pl := [.irq, .rings, .rung]) (by decide) src rising s) .met rfl
@[simp] theorem irqEvent_skl : (irqEvent src rising s).skl = s.skl := Frame.of_blank (irqEvent_blank (pl := [.irq, .rings, .rung]) (by decide) src rising s) .skl rfl
@[simp] theorem irqEvent_tab : (irqEvent src rising s).tab = s.tab := Frame.of_blank (irqEvent_blank (pl := [.irq, .rings, .rung]) (by decide) src rising s) .tab rfl
@[simp] theorem irqEvent_est : (irqEvent src rising s).est = s.est := Frame.of_blank (irqEvent_blank (pl := [.irq, .rings, .rung]) (by decide) src rising s) .est rfl
@[simp] theorem irqEvent_jrn : (irqEvent src rising s).jrn = s.jrn := Frame.of_blank (irqEvent_blank (pl := [.irq, .rings, .rung]) (by decide) src rising s) .jrn rfl
@[simp] theorem irqEvent_imp : (irqEvent src rising s).imp = s.imp := Frame.of_blank (irqEvent_blank (pl := [.irq, .rings, .rung]) (by decide) src rising s) .imp rfl
@[simp] theorem irqEvent_cnv : (irqEvent src rising s).cnv = s.cnv := Frame.of_blank (irqEvent_blank (pl := [.irq, .rings, .rung]) (by decide) src rising s) .cnv rfl
@[simp] theorem irqEvent_dsp : (irqEvent src rising s).dsp = s.dsp := Frame.of_blank (irqEvent_blank (pl := [.irq, .rings, .rung]) (by decide) src rising s) .dsp rfl
@[simp] theorem irqEvent_bal : (irqEvent src rising s).bal = s.bal := Frame.of_blank (irqEvent_blank (pl := [.irq, .rings, .rung]) (by decide) src rising s) .bal rfl
@[simp] theorem irqEvent_thm : (irqEvent src rising s).thm = s.thm := Frame.of_blank (irqEvent_blank (pl := [.irq, .rings, .rung]) (by decide) src rising s) .thm rfl
@[simp] theorem irqEvent_prot : (irqEvent src rising s).prot = s.prot := Frame.of_blank (irqEvent_blank (pl := [.irq, .rings, .rung]) (by decide) src rising s) .prot rfl
@[simp] theorem irqEvent_cont : (irqEvent src rising s).cont = s.cont := Frame.of_blank (irqEvent_blank (pl := [.irq, .rings, .rung]) (by decide) src rising s) .cont rfl
@[simp] theorem irqEvent_iso : (irqEvent src rising s).iso = s.iso := Frame.of_blank (irqEvent_blank (pl := [.irq, .rings, .rung]) (by decide) src rising s) .iso rfl
@[simp] theorem irqEvent_pair : (irqEvent src rising s).pair = s.pair := Frame.of_blank (irqEvent_blank (pl := [.irq, .rings, .rung]) (by decide) src rising s) .pair rfl
@[simp] theorem irqEvent_host : (irqEvent src rising s).host = s.host := Frame.of_blank (irqEvent_blank (pl := [.irq, .rings, .rung]) (by decide) src rising s) .host rfl
@[simp] theorem irqEvent_ops : (irqEvent src rising s).ops = s.ops := Frame.of_blank (irqEvent_blank (pl := [.irq, .rings, .rung]) (by decide) src rising s) .ops rfl
@[simp] theorem irqEvent_can : (irqEvent src rising s).can = s.can := Frame.of_blank (irqEvent_blank (pl := [.irq, .rings, .rung]) (by decide) src rising s) .can rfl
@[simp] theorem irqEvent_hlth : (irqEvent src rising s).hlth = s.hlth := Frame.of_blank (irqEvent_blank (pl := [.irq, .rings, .rung]) (by decide) src rising s) .hlth rfl
@[simp] theorem irqEvent_jtag : (irqEvent src rising s).jtag = s.jtag := Frame.of_blank (irqEvent_blank (pl := [.irq, .rings, .rung]) (by decide) src rising s) .jtag rfl
@[simp] theorem irqEvent_out : (irqEvent src rising s).out = s.out := Frame.of_blank (irqEvent_blank (pl := [.irq, .rings, .rung]) (by decide) src rising s) .out rfl
@[simp] theorem irqEvent_fresh : (irqEvent src rising s).fresh = s.fresh := Frame.of_blank (irqEvent_blank (pl := [.irq, .rings, .rung]) (by decide) src rising s) .fresh rfl
@[simp] theorem irqEvent_pending : (irqEvent src rising s).pending = s.pending := Frame.of_blank (irqEvent_blank (pl := [.irq, .rings, .rung]) (by decide) src rising s) .pending rfl
end

section
variable (n : Nat) (p : Packet) (s : State)
@[simp] theorem ringPut_tick : (ringPut n p s).tick = s.tick := Frame.of_blank (ringPut_blank (pl := [.irq, .rings, .rung]) (by decide) n p s) .tick rfl
@[simp] theorem ringPut_str : (ringPut n p s).str = s.str := Frame.of_blank (ringPut_blank (pl := [.irq, .rings, .rung]) (by decide) n p s) .str rfl
@[simp] theorem ringPut_pins : (ringPut n p s).pins = s.pins := Frame.of_blank (ringPut_blank (pl := [.irq, .rings, .rung]) (by decide) n p s) .pins rfl
@[simp] theorem ringPut_pwr : (ringPut n p s).pwr = s.pwr := Frame.of_blank (ringPut_blank (pl := [.irq, .rings, .rung]) (by decide) n p s) .pwr rfl
@[simp] theorem ringPut_tb : (ringPut n p s).tb = s.tb := Frame.of_blank (ringPut_blank (pl := [.irq, .rings, .rung]) (by decide) n p s) .tb rfl
@[simp] theorem ringPut_idn : (ringPut n p s).idn = s.idn := Frame.of_blank (ringPut_blank (pl := [.irq, .rings, .rung]) (by decide) n p s) .idn rfl
@[simp] theorem ringPut_cfg : (ringPut n p s).cfg = s.cfg := Frame.of_blank (ringPut_blank (pl := [.irq, .rings, .rung]) (by decide) n p s) .cfg rfl
@[simp] theorem ringPut_met : (ringPut n p s).met = s.met := Frame.of_blank (ringPut_blank (pl := [.irq, .rings, .rung]) (by decide) n p s) .met rfl
@[simp] theorem ringPut_skl : (ringPut n p s).skl = s.skl := Frame.of_blank (ringPut_blank (pl := [.irq, .rings, .rung]) (by decide) n p s) .skl rfl
@[simp] theorem ringPut_tab : (ringPut n p s).tab = s.tab := Frame.of_blank (ringPut_blank (pl := [.irq, .rings, .rung]) (by decide) n p s) .tab rfl
@[simp] theorem ringPut_est : (ringPut n p s).est = s.est := Frame.of_blank (ringPut_blank (pl := [.irq, .rings, .rung]) (by decide) n p s) .est rfl
@[simp] theorem ringPut_jrn : (ringPut n p s).jrn = s.jrn := Frame.of_blank (ringPut_blank (pl := [.irq, .rings, .rung]) (by decide) n p s) .jrn rfl
@[simp] theorem ringPut_imp : (ringPut n p s).imp = s.imp := Frame.of_blank (ringPut_blank (pl := [.irq, .rings, .rung]) (by decide) n p s) .imp rfl
@[simp] theorem ringPut_cnv : (ringPut n p s).cnv = s.cnv := Frame.of_blank (ringPut_blank (pl := [.irq, .rings, .rung]) (by decide) n p s) .cnv rfl
@[simp] theorem ringPut_dsp : (ringPut n p s).dsp = s.dsp := Frame.of_blank (ringPut_blank (pl := [.irq, .rings, .rung]) (by decide) n p s) .dsp rfl
@[simp] theorem ringPut_bal : (ringPut n p s).bal = s.bal := Frame.of_blank (ringPut_blank (pl := [.irq, .rings, .rung]) (by decide) n p s) .bal rfl
@[simp] theorem ringPut_thm : (ringPut n p s).thm = s.thm := Frame.of_blank (ringPut_blank (pl := [.irq, .rings, .rung]) (by decide) n p s) .thm rfl
@[simp] theorem ringPut_prot : (ringPut n p s).prot = s.prot := Frame.of_blank (ringPut_blank (pl := [.irq, .rings, .rung]) (by decide) n p s) .prot rfl
@[simp] theorem ringPut_cont : (ringPut n p s).cont = s.cont := Frame.of_blank (ringPut_blank (pl := [.irq, .rings, .rung]) (by decide) n p s) .cont rfl
@[simp] theorem ringPut_iso : (ringPut n p s).iso = s.iso := Frame.of_blank (ringPut_blank (pl := [.irq, .rings, .rung]) (by decide) n p s) .iso rfl
@[simp] theorem ringPut_pair : (ringPut n p s).pair = s.pair := Frame.of_blank (ringPut_blank (pl := [.irq, .rings, .rung]) (by decide) n p s) .pair rfl
@[simp] theorem ringPut_host : (ringPut n p s).host = s.host := Frame.of_blank (ringPut_blank (pl := [.irq, .rings, .rung]) (by decide) n p s) .host rfl
@[simp] theorem ringPut_ops : (ringPut n p s).ops = s.ops := Frame.of_blank (ringPut_blank (pl := [.irq, .rings, .rung]) (by decide) n p s) .ops rfl
@[simp] theorem ringPut_can : (ringPut n p s).can = s.can := Frame.of_blank (ringPut_blank (pl := [.irq, .rings, .rung]) (by decide) n p s) .can rfl
@[simp] theorem ringPut_hlth : (ringPut n p s).hlth = s.hlth := Frame.of_blank (ringPut_blank (pl := [.irq, .rings, .rung]) (by decide) n p s) .hlth rfl
@[simp] theorem ringPut_jtag : (ringPut n p s).jtag = s.jtag := Frame.of_blank (ringPut_blank (pl := [.irq, .rings, .rung]) (by decide) n p s) .jtag rfl
@[simp] theorem ringPut_out : (ringPut n p s).out = s.out := Frame.of_blank (ringPut_blank (pl := [.irq, .rings, .rung]) (by decide) n p s) .out rfl
@[simp] theorem ringPut_fresh : (ringPut n p s).fresh = s.fresh := Frame.of_blank (ringPut_blank (pl := [.irq, .rings, .rung]) (by decide) n p s) .fresh rfl
@[simp] theorem ringPut_pending : (ringPut n p s).pending = s.pending := Frame.of_blank (ringPut_blank (pl := [.irq, .rings, .rung]) (by decide) n p s) .pending rfl
end

section
variable (n : Nat) (s : State)
@[simp] theorem ringRel_tick : (ringRel n s).tick = s.tick := Frame.of_blank (ringRel_blank (pl := [.irq, .rings, .rung]) (by decide) n s) .tick rfl
@[simp] theorem ringRel_str : (ringRel n s).str = s.str := Frame.of_blank (ringRel_blank (pl := [.irq, .rings, .rung]) (by decide) n s) .str rfl
@[simp] theorem ringRel_pins : (ringRel n s).pins = s.pins := Frame.of_blank (ringRel_blank (pl := [.irq, .rings, .rung]) (by decide) n s) .pins rfl
@[simp] theorem ringRel_pwr : (ringRel n s).pwr = s.pwr := Frame.of_blank (ringRel_blank (pl := [.irq, .rings, .rung]) (by decide) n s) .pwr rfl
@[simp] theorem ringRel_tb : (ringRel n s).tb = s.tb := Frame.of_blank (ringRel_blank (pl := [.irq, .rings, .rung]) (by decide) n s) .tb rfl
@[simp] theorem ringRel_idn : (ringRel n s).idn = s.idn := Frame.of_blank (ringRel_blank (pl := [.irq, .rings, .rung]) (by decide) n s) .idn rfl
@[simp] theorem ringRel_cfg : (ringRel n s).cfg = s.cfg := Frame.of_blank (ringRel_blank (pl := [.irq, .rings, .rung]) (by decide) n s) .cfg rfl
@[simp] theorem ringRel_met : (ringRel n s).met = s.met := Frame.of_blank (ringRel_blank (pl := [.irq, .rings, .rung]) (by decide) n s) .met rfl
@[simp] theorem ringRel_skl : (ringRel n s).skl = s.skl := Frame.of_blank (ringRel_blank (pl := [.irq, .rings, .rung]) (by decide) n s) .skl rfl
@[simp] theorem ringRel_tab : (ringRel n s).tab = s.tab := Frame.of_blank (ringRel_blank (pl := [.irq, .rings, .rung]) (by decide) n s) .tab rfl
@[simp] theorem ringRel_est : (ringRel n s).est = s.est := Frame.of_blank (ringRel_blank (pl := [.irq, .rings, .rung]) (by decide) n s) .est rfl
@[simp] theorem ringRel_jrn : (ringRel n s).jrn = s.jrn := Frame.of_blank (ringRel_blank (pl := [.irq, .rings, .rung]) (by decide) n s) .jrn rfl
@[simp] theorem ringRel_imp : (ringRel n s).imp = s.imp := Frame.of_blank (ringRel_blank (pl := [.irq, .rings, .rung]) (by decide) n s) .imp rfl
@[simp] theorem ringRel_cnv : (ringRel n s).cnv = s.cnv := Frame.of_blank (ringRel_blank (pl := [.irq, .rings, .rung]) (by decide) n s) .cnv rfl
@[simp] theorem ringRel_dsp : (ringRel n s).dsp = s.dsp := Frame.of_blank (ringRel_blank (pl := [.irq, .rings, .rung]) (by decide) n s) .dsp rfl
@[simp] theorem ringRel_bal : (ringRel n s).bal = s.bal := Frame.of_blank (ringRel_blank (pl := [.irq, .rings, .rung]) (by decide) n s) .bal rfl
@[simp] theorem ringRel_thm : (ringRel n s).thm = s.thm := Frame.of_blank (ringRel_blank (pl := [.irq, .rings, .rung]) (by decide) n s) .thm rfl
@[simp] theorem ringRel_prot : (ringRel n s).prot = s.prot := Frame.of_blank (ringRel_blank (pl := [.irq, .rings, .rung]) (by decide) n s) .prot rfl
@[simp] theorem ringRel_cont : (ringRel n s).cont = s.cont := Frame.of_blank (ringRel_blank (pl := [.irq, .rings, .rung]) (by decide) n s) .cont rfl
@[simp] theorem ringRel_iso : (ringRel n s).iso = s.iso := Frame.of_blank (ringRel_blank (pl := [.irq, .rings, .rung]) (by decide) n s) .iso rfl
@[simp] theorem ringRel_pair : (ringRel n s).pair = s.pair := Frame.of_blank (ringRel_blank (pl := [.irq, .rings, .rung]) (by decide) n s) .pair rfl
@[simp] theorem ringRel_host : (ringRel n s).host = s.host := Frame.of_blank (ringRel_blank (pl := [.irq, .rings, .rung]) (by decide) n s) .host rfl
@[simp] theorem ringRel_ops : (ringRel n s).ops = s.ops := Frame.of_blank (ringRel_blank (pl := [.irq, .rings, .rung]) (by decide) n s) .ops rfl
@[simp] theorem ringRel_can : (ringRel n s).can = s.can := Frame.of_blank (ringRel_blank (pl := [.irq, .rings, .rung]) (by decide) n s) .can rfl
@[simp] theorem ringRel_hlth : (ringRel n s).hlth = s.hlth := Frame.of_blank (ringRel_blank (pl := [.irq, .rings, .rung]) (by decide) n s) .hlth rfl
@[simp] theorem ringRel_jtag : (ringRel n s).jtag = s.jtag := Frame.of_blank (ringRel_blank (pl := [.irq, .rings, .rung]) (by decide) n s) .jtag rfl
@[simp] theorem ringRel_out : (ringRel n s).out = s.out := Frame.of_blank (ringRel_blank (pl := [.irq, .rings, .rung]) (by decide) n s) .out rfl
@[simp] theorem ringRel_fresh : (ringRel n s).fresh = s.fresh := Frame.of_blank (ringRel_blank (pl := [.irq, .rings, .rung]) (by decide) n s) .fresh rfl
@[simp] theorem ringRel_pending : (ringRel n s).pending = s.pending := Frame.of_blank (ringRel_blank (pl := [.irq, .rings, .rung]) (by decide) n s) .pending rfl
end

section
variable (src : Nat) (code : Nat) (sev : Nat) (data : Bytes) (s : State)
@[simp] theorem logOnly_tick : (logOnly src code sev data s).tick = s.tick := Frame.of_blank (logOnly_blank (pl := [.deferred, .irq, .rings, .rung]) (by decide) src code sev data s) .tick rfl
@[simp] theorem logOnly_str : (logOnly src code sev data s).str = s.str := Frame.of_blank (logOnly_blank (pl := [.deferred, .irq, .rings, .rung]) (by decide) src code sev data s) .str rfl
@[simp] theorem logOnly_pins : (logOnly src code sev data s).pins = s.pins := Frame.of_blank (logOnly_blank (pl := [.deferred, .irq, .rings, .rung]) (by decide) src code sev data s) .pins rfl
@[simp] theorem logOnly_pwr : (logOnly src code sev data s).pwr = s.pwr := Frame.of_blank (logOnly_blank (pl := [.deferred, .irq, .rings, .rung]) (by decide) src code sev data s) .pwr rfl
@[simp] theorem logOnly_tb : (logOnly src code sev data s).tb = s.tb := Frame.of_blank (logOnly_blank (pl := [.deferred, .irq, .rings, .rung]) (by decide) src code sev data s) .tb rfl
@[simp] theorem logOnly_idn : (logOnly src code sev data s).idn = s.idn := Frame.of_blank (logOnly_blank (pl := [.deferred, .irq, .rings, .rung]) (by decide) src code sev data s) .idn rfl
@[simp] theorem logOnly_cfg : (logOnly src code sev data s).cfg = s.cfg := Frame.of_blank (logOnly_blank (pl := [.deferred, .irq, .rings, .rung]) (by decide) src code sev data s) .cfg rfl
@[simp] theorem logOnly_met : (logOnly src code sev data s).met = s.met := Frame.of_blank (logOnly_blank (pl := [.deferred, .irq, .rings, .rung]) (by decide) src code sev data s) .met rfl
@[simp] theorem logOnly_skl : (logOnly src code sev data s).skl = s.skl := Frame.of_blank (logOnly_blank (pl := [.deferred, .irq, .rings, .rung]) (by decide) src code sev data s) .skl rfl
@[simp] theorem logOnly_tab : (logOnly src code sev data s).tab = s.tab := Frame.of_blank (logOnly_blank (pl := [.deferred, .irq, .rings, .rung]) (by decide) src code sev data s) .tab rfl
@[simp] theorem logOnly_est : (logOnly src code sev data s).est = s.est := Frame.of_blank (logOnly_blank (pl := [.deferred, .irq, .rings, .rung]) (by decide) src code sev data s) .est rfl
@[simp] theorem logOnly_jrn : (logOnly src code sev data s).jrn = s.jrn := Frame.of_blank (logOnly_blank (pl := [.deferred, .irq, .rings, .rung]) (by decide) src code sev data s) .jrn rfl
@[simp] theorem logOnly_imp : (logOnly src code sev data s).imp = s.imp := Frame.of_blank (logOnly_blank (pl := [.deferred, .irq, .rings, .rung]) (by decide) src code sev data s) .imp rfl
@[simp] theorem logOnly_cnv : (logOnly src code sev data s).cnv = s.cnv := Frame.of_blank (logOnly_blank (pl := [.deferred, .irq, .rings, .rung]) (by decide) src code sev data s) .cnv rfl
@[simp] theorem logOnly_dsp : (logOnly src code sev data s).dsp = s.dsp := Frame.of_blank (logOnly_blank (pl := [.deferred, .irq, .rings, .rung]) (by decide) src code sev data s) .dsp rfl
@[simp] theorem logOnly_bal : (logOnly src code sev data s).bal = s.bal := Frame.of_blank (logOnly_blank (pl := [.deferred, .irq, .rings, .rung]) (by decide) src code sev data s) .bal rfl
@[simp] theorem logOnly_thm : (logOnly src code sev data s).thm = s.thm := Frame.of_blank (logOnly_blank (pl := [.deferred, .irq, .rings, .rung]) (by decide) src code sev data s) .thm rfl
@[simp] theorem logOnly_prot : (logOnly src code sev data s).prot = s.prot := Frame.of_blank (logOnly_blank (pl := [.deferred, .irq, .rings, .rung]) (by decide) src code sev data s) .prot rfl
@[simp] theorem logOnly_cont : (logOnly src code sev data s).cont = s.cont := Frame.of_blank (logOnly_blank (pl := [.deferred, .irq, .rings, .rung]) (by decide) src code sev data s) .cont rfl
@[simp] theorem logOnly_iso : (logOnly src code sev data s).iso = s.iso := Frame.of_blank (logOnly_blank (pl := [.deferred, .irq, .rings, .rung]) (by decide) src code sev data s) .iso rfl
@[simp] theorem logOnly_pair : (logOnly src code sev data s).pair = s.pair := Frame.of_blank (logOnly_blank (pl := [.deferred, .irq, .rings, .rung]) (by decide) src code sev data s) .pair rfl
@[simp] theorem logOnly_host : (logOnly src code sev data s).host = s.host := Frame.of_blank (logOnly_blank (pl := [.deferred, .irq, .rings, .rung]) (by decide) src code sev data s) .host rfl
@[simp] theorem logOnly_ops : (logOnly src code sev data s).ops = s.ops := Frame.of_blank (logOnly_blank (pl := [.deferred, .irq, .rings, .rung]) (by decide) src code sev data s) .ops rfl
@[simp] theorem logOnly_can : (logOnly src code sev data s).can = s.can := Frame.of_blank (logOnly_blank (pl := [.deferred, .irq, .rings, .rung]) (by decide) src code sev data s) .can rfl
@[simp] theorem logOnly_hlth : (logOnly src code sev data s).hlth = s.hlth := Frame.of_blank (logOnly_blank (pl := [.deferred, .irq, .rings, .rung]) (by decide) src code sev data s) .hlth rfl
@[simp] theorem logOnly_jtag : (logOnly src code sev data s).jtag = s.jtag := Frame.of_blank (logOnly_blank (pl := [.deferred, .irq, .rings, .rung]) (by decide) src code sev data s) .jtag rfl
@[simp] theorem logOnly_out : (logOnly src code sev data s).out = s.out := Frame.of_blank (logOnly_blank (pl := [.deferred, .irq, .rings, .rung]) (by decide) src code sev data s) .out rfl
@[simp] theorem logOnly_fresh : (logOnly src code sev data s).fresh = s.fresh := Frame.of_blank (logOnly_blank (pl := [.deferred, .irq, .rings, .rung]) (by decide) src code sev data s) .fresh rfl
@[simp] theorem logOnly_pending : (logOnly src code sev data s).pending = s.pending := Frame.of_blank (logOnly_blank (pl := [.deferred, .irq, .rings, .rung]) (by decide) src code sev data s) .pending rfl
end

section
variable (src : Nat) (code : Nat) (sev : Nat) (data : Bytes) (s : State)
@[simp] theorem log_tick : (log src code sev data s).tick = s.tick := Frame.of_blank (log_blank (pl := [.deferred, .irq, .rings, .logFreeze, .rung]) (by decide) src code sev data s) .tick rfl
@[simp] theorem log_str : (log src code sev data s).str = s.str := Frame.of_blank (log_blank (pl := [.deferred, .irq, .rings, .logFreeze, .rung]) (by decide) src code sev data s) .str rfl
@[simp] theorem log_pins : (log src code sev data s).pins = s.pins := Frame.of_blank (log_blank (pl := [.deferred, .irq, .rings, .logFreeze, .rung]) (by decide) src code sev data s) .pins rfl
@[simp] theorem log_pwr : (log src code sev data s).pwr = s.pwr := Frame.of_blank (log_blank (pl := [.deferred, .irq, .rings, .logFreeze, .rung]) (by decide) src code sev data s) .pwr rfl
@[simp] theorem log_tb : (log src code sev data s).tb = s.tb := Frame.of_blank (log_blank (pl := [.deferred, .irq, .rings, .logFreeze, .rung]) (by decide) src code sev data s) .tb rfl
@[simp] theorem log_idn : (log src code sev data s).idn = s.idn := Frame.of_blank (log_blank (pl := [.deferred, .irq, .rings, .logFreeze, .rung]) (by decide) src code sev data s) .idn rfl
@[simp] theorem log_cfg : (log src code sev data s).cfg = s.cfg := Frame.of_blank (log_blank (pl := [.deferred, .irq, .rings, .logFreeze, .rung]) (by decide) src code sev data s) .cfg rfl
@[simp] theorem log_met : (log src code sev data s).met = s.met := Frame.of_blank (log_blank (pl := [.deferred, .irq, .rings, .logFreeze, .rung]) (by decide) src code sev data s) .met rfl
@[simp] theorem log_skl : (log src code sev data s).skl = s.skl := Frame.of_blank (log_blank (pl := [.deferred, .irq, .rings, .logFreeze, .rung]) (by decide) src code sev data s) .skl rfl
@[simp] theorem log_tab : (log src code sev data s).tab = s.tab := Frame.of_blank (log_blank (pl := [.deferred, .irq, .rings, .logFreeze, .rung]) (by decide) src code sev data s) .tab rfl
@[simp] theorem log_est : (log src code sev data s).est = s.est := Frame.of_blank (log_blank (pl := [.deferred, .irq, .rings, .logFreeze, .rung]) (by decide) src code sev data s) .est rfl
@[simp] theorem log_jrn : (log src code sev data s).jrn = s.jrn := Frame.of_blank (log_blank (pl := [.deferred, .irq, .rings, .logFreeze, .rung]) (by decide) src code sev data s) .jrn rfl
@[simp] theorem log_imp : (log src code sev data s).imp = s.imp := Frame.of_blank (log_blank (pl := [.deferred, .irq, .rings, .logFreeze, .rung]) (by decide) src code sev data s) .imp rfl
@[simp] theorem log_cnv : (log src code sev data s).cnv = s.cnv := Frame.of_blank (log_blank (pl := [.deferred, .irq, .rings, .logFreeze, .rung]) (by decide) src code sev data s) .cnv rfl
@[simp] theorem log_dsp : (log src code sev data s).dsp = s.dsp := Frame.of_blank (log_blank (pl := [.deferred, .irq, .rings, .logFreeze, .rung]) (by decide) src code sev data s) .dsp rfl
@[simp] theorem log_bal : (log src code sev data s).bal = s.bal := Frame.of_blank (log_blank (pl := [.deferred, .irq, .rings, .logFreeze, .rung]) (by decide) src code sev data s) .bal rfl
@[simp] theorem log_thm : (log src code sev data s).thm = s.thm := Frame.of_blank (log_blank (pl := [.deferred, .irq, .rings, .logFreeze, .rung]) (by decide) src code sev data s) .thm rfl
@[simp] theorem log_prot : (log src code sev data s).prot = s.prot := Frame.of_blank (log_blank (pl := [.deferred, .irq, .rings, .logFreeze, .rung]) (by decide) src code sev data s) .prot rfl
@[simp] theorem log_cont : (log src code sev data s).cont = s.cont := Frame.of_blank (log_blank (pl := [.deferred, .irq, .rings, .logFreeze, .rung]) (by decide) src code sev data s) .cont rfl
@[simp] theorem log_iso : (log src code sev data s).iso = s.iso := Frame.of_blank (log_blank (pl := [.deferred, .irq, .rings, .logFreeze, .rung]) (by decide) src code sev data s) .iso rfl
@[simp] theorem log_pair : (log src code sev data s).pair = s.pair := Frame.of_blank (log_blank (pl := [.deferred, .irq, .rings, .logFreeze, .rung]) (by decide) src code sev data s) .pair rfl
@[simp] theorem log_host : (log src code sev data s).host = s.host := Frame.of_blank (log_blank (pl := [.deferred, .irq, .rings, .logFreeze, .rung]) (by decide) src code sev data s) .host rfl
@[simp] theorem log_ops : (log src code sev data s).ops = s.ops := Frame.of_blank (log_blank (pl := [.deferred, .irq, .rings, .logFreeze, .rung]) (by decide) src code sev data s) .ops rfl
@[simp] theorem log_can : (log src code sev data s).can = s.can := Frame.of_blank (log_blank (pl := [.deferred, .irq, .rings, .logFreeze, .rung]) (by decide) src code sev data s) .can rfl
@[simp] theorem log_hlth : (log src code sev data s).hlth = s.hlth := Frame.of_blank (log_blank (pl := [.deferred, .irq, .rings, .logFreeze, .rung]) (by decide) src code sev data s) .hlth rfl
@[simp] theorem log_jtag : (log src code sev data s).jtag = s.jtag := Frame.of_blank (log_blank (pl := [.deferred, .irq, .rings, .logFreeze, .rung]) (by decide) src code sev data s) .jtag rfl
@[simp] theorem log_out : (log src code sev data s).out = s.out := Frame.of_blank (log_blank (pl := [.deferred, .irq, .rings, .logFreeze, .rung]) (by decide) src code sev data s) .out rfl
@[simp] theorem log_fresh : (log src code sev data s).fresh = s.fresh := Frame.of_blank (log_blank (pl := [.deferred, .irq, .rings, .logFreeze, .rung]) (by decide) src code sev data s) .fresh rfl
@[simp] theorem log_pending : (log src code sev data s).pending = s.pending := Frame.of_blank (log_blank (pl := [.deferred, .irq, .rings, .logFreeze, .rung]) (by decide) src code sev data s) .pending rfl
end

section
variable (r : HostReq) (status : Nat) (payload : Bytes) (s : State)
@[simp] theorem answerOnce_tick : (answerOnce r status payload s).tick = s.tick := Frame.of_blank (answerOnce_blank (pl := [.host, .irq, .rings, .rung, .out]) (by decide) r status payload s) .tick rfl
@[simp] theorem answerOnce_str : (answerOnce r status payload s).str = s.str := Frame.of_blank (answerOnce_blank (pl := [.host, .irq, .rings, .rung, .out]) (by decide) r status payload s) .str rfl
@[simp] theorem answerOnce_pins : (answerOnce r status payload s).pins = s.pins := Frame.of_blank (answerOnce_blank (pl := [.host, .irq, .rings, .rung, .out]) (by decide) r status payload s) .pins rfl
@[simp] theorem answerOnce_pwr : (answerOnce r status payload s).pwr = s.pwr := Frame.of_blank (answerOnce_blank (pl := [.host, .irq, .rings, .rung, .out]) (by decide) r status payload s) .pwr rfl
@[simp] theorem answerOnce_tb : (answerOnce r status payload s).tb = s.tb := Frame.of_blank (answerOnce_blank (pl := [.host, .irq, .rings, .rung, .out]) (by decide) r status payload s) .tb rfl
@[simp] theorem answerOnce_idn : (answerOnce r status payload s).idn = s.idn := Frame.of_blank (answerOnce_blank (pl := [.host, .irq, .rings, .rung, .out]) (by decide) r status payload s) .idn rfl
@[simp] theorem answerOnce_cfg : (answerOnce r status payload s).cfg = s.cfg := Frame.of_blank (answerOnce_blank (pl := [.host, .irq, .rings, .rung, .out]) (by decide) r status payload s) .cfg rfl
@[simp] theorem answerOnce_met : (answerOnce r status payload s).met = s.met := Frame.of_blank (answerOnce_blank (pl := [.host, .irq, .rings, .rung, .out]) (by decide) r status payload s) .met rfl
@[simp] theorem answerOnce_skl : (answerOnce r status payload s).skl = s.skl := Frame.of_blank (answerOnce_blank (pl := [.host, .irq, .rings, .rung, .out]) (by decide) r status payload s) .skl rfl
@[simp] theorem answerOnce_tab : (answerOnce r status payload s).tab = s.tab := Frame.of_blank (answerOnce_blank (pl := [.host, .irq, .rings, .rung, .out]) (by decide) r status payload s) .tab rfl
@[simp] theorem answerOnce_est : (answerOnce r status payload s).est = s.est := Frame.of_blank (answerOnce_blank (pl := [.host, .irq, .rings, .rung, .out]) (by decide) r status payload s) .est rfl
@[simp] theorem answerOnce_jrn : (answerOnce r status payload s).jrn = s.jrn := Frame.of_blank (answerOnce_blank (pl := [.host, .irq, .rings, .rung, .out]) (by decide) r status payload s) .jrn rfl
@[simp] theorem answerOnce_imp : (answerOnce r status payload s).imp = s.imp := Frame.of_blank (answerOnce_blank (pl := [.host, .irq, .rings, .rung, .out]) (by decide) r status payload s) .imp rfl
@[simp] theorem answerOnce_cnv : (answerOnce r status payload s).cnv = s.cnv := Frame.of_blank (answerOnce_blank (pl := [.host, .irq, .rings, .rung, .out]) (by decide) r status payload s) .cnv rfl
@[simp] theorem answerOnce_dsp : (answerOnce r status payload s).dsp = s.dsp := Frame.of_blank (answerOnce_blank (pl := [.host, .irq, .rings, .rung, .out]) (by decide) r status payload s) .dsp rfl
@[simp] theorem answerOnce_bal : (answerOnce r status payload s).bal = s.bal := Frame.of_blank (answerOnce_blank (pl := [.host, .irq, .rings, .rung, .out]) (by decide) r status payload s) .bal rfl
@[simp] theorem answerOnce_thm : (answerOnce r status payload s).thm = s.thm := Frame.of_blank (answerOnce_blank (pl := [.host, .irq, .rings, .rung, .out]) (by decide) r status payload s) .thm rfl
@[simp] theorem answerOnce_prot : (answerOnce r status payload s).prot = s.prot := Frame.of_blank (answerOnce_blank (pl := [.host, .irq, .rings, .rung, .out]) (by decide) r status payload s) .prot rfl
@[simp] theorem answerOnce_cont : (answerOnce r status payload s).cont = s.cont := Frame.of_blank (answerOnce_blank (pl := [.host, .irq, .rings, .rung, .out]) (by decide) r status payload s) .cont rfl
@[simp] theorem answerOnce_iso : (answerOnce r status payload s).iso = s.iso := Frame.of_blank (answerOnce_blank (pl := [.host, .irq, .rings, .rung, .out]) (by decide) r status payload s) .iso rfl
@[simp] theorem answerOnce_pair : (answerOnce r status payload s).pair = s.pair := Frame.of_blank (answerOnce_blank (pl := [.host, .irq, .rings, .rung, .out]) (by decide) r status payload s) .pair rfl
@[simp] theorem answerOnce_ops : (answerOnce r status payload s).ops = s.ops := Frame.of_blank (answerOnce_blank (pl := [.host, .irq, .rings, .rung, .out]) (by decide) r status payload s) .ops rfl
@[simp] theorem answerOnce_can : (answerOnce r status payload s).can = s.can := Frame.of_blank (answerOnce_blank (pl := [.host, .irq, .rings, .rung, .out]) (by decide) r status payload s) .can rfl
@[simp] theorem answerOnce_hlth : (answerOnce r status payload s).hlth = s.hlth := Frame.of_blank (answerOnce_blank (pl := [.host, .irq, .rings, .rung, .out]) (by decide) r status payload s) .hlth rfl
@[simp] theorem answerOnce_jtag : (answerOnce r status payload s).jtag = s.jtag := Frame.of_blank (answerOnce_blank (pl := [.host, .irq, .rings, .rung, .out]) (by decide) r status payload s) .jtag rfl
@[simp] theorem answerOnce_fresh : (answerOnce r status payload s).fresh = s.fresh := Frame.of_blank (answerOnce_blank (pl := [.host, .irq, .rings, .rung, .out]) (by decide) r status payload s) .fresh rfl
@[simp] theorem answerOnce_pending : (answerOnce r status payload s).pending = s.pending := Frame.of_blank (answerOnce_blank (pl := [.host, .irq, .rings, .rung, .out]) (by decide) r status payload s) .pending rfl
end

section
variable (r : HostReq) (status : Nat) (payload : Bytes) (s : State)
@[simp] theorem respond_tick : (respond r status payload s).tick = s.tick := Frame.of_blank (respond_blank (pl := [.host, .irq, .rings, .rung, .out]) (by decide) r status payload s) .tick rfl
@[simp] theorem respond_str : (respond r status payload s).str = s.str := Frame.of_blank (respond_blank (pl := [.host, .irq, .rings, .rung, .out]) (by decide) r status payload s) .str rfl
@[simp] theorem respond_pins : (respond r status payload s).pins = s.pins := Frame.of_blank (respond_blank (pl := [.host, .irq, .rings, .rung, .out]) (by decide) r status payload s) .pins rfl
@[simp] theorem respond_pwr : (respond r status payload s).pwr = s.pwr := Frame.of_blank (respond_blank (pl := [.host, .irq, .rings, .rung, .out]) (by decide) r status payload s) .pwr rfl
@[simp] theorem respond_tb : (respond r status payload s).tb = s.tb := Frame.of_blank (respond_blank (pl := [.host, .irq, .rings, .rung, .out]) (by decide) r status payload s) .tb rfl
@[simp] theorem respond_idn : (respond r status payload s).idn = s.idn := Frame.of_blank (respond_blank (pl := [.host, .irq, .rings, .rung, .out]) (by decide) r status payload s) .idn rfl
@[simp] theorem respond_cfg : (respond r status payload s).cfg = s.cfg := Frame.of_blank (respond_blank (pl := [.host, .irq, .rings, .rung, .out]) (by decide) r status payload s) .cfg rfl
@[simp] theorem respond_met : (respond r status payload s).met = s.met := Frame.of_blank (respond_blank (pl := [.host, .irq, .rings, .rung, .out]) (by decide) r status payload s) .met rfl
@[simp] theorem respond_skl : (respond r status payload s).skl = s.skl := Frame.of_blank (respond_blank (pl := [.host, .irq, .rings, .rung, .out]) (by decide) r status payload s) .skl rfl
@[simp] theorem respond_tab : (respond r status payload s).tab = s.tab := Frame.of_blank (respond_blank (pl := [.host, .irq, .rings, .rung, .out]) (by decide) r status payload s) .tab rfl
@[simp] theorem respond_est : (respond r status payload s).est = s.est := Frame.of_blank (respond_blank (pl := [.host, .irq, .rings, .rung, .out]) (by decide) r status payload s) .est rfl
@[simp] theorem respond_jrn : (respond r status payload s).jrn = s.jrn := Frame.of_blank (respond_blank (pl := [.host, .irq, .rings, .rung, .out]) (by decide) r status payload s) .jrn rfl
@[simp] theorem respond_imp : (respond r status payload s).imp = s.imp := Frame.of_blank (respond_blank (pl := [.host, .irq, .rings, .rung, .out]) (by decide) r status payload s) .imp rfl
@[simp] theorem respond_cnv : (respond r status payload s).cnv = s.cnv := Frame.of_blank (respond_blank (pl := [.host, .irq, .rings, .rung, .out]) (by decide) r status payload s) .cnv rfl
@[simp] theorem respond_dsp : (respond r status payload s).dsp = s.dsp := Frame.of_blank (respond_blank (pl := [.host, .irq, .rings, .rung, .out]) (by decide) r status payload s) .dsp rfl
@[simp] theorem respond_bal : (respond r status payload s).bal = s.bal := Frame.of_blank (respond_blank (pl := [.host, .irq, .rings, .rung, .out]) (by decide) r status payload s) .bal rfl
@[simp] theorem respond_thm : (respond r status payload s).thm = s.thm := Frame.of_blank (respond_blank (pl := [.host, .irq, .rings, .rung, .out]) (by decide) r status payload s) .thm rfl
@[simp] theorem respond_prot : (respond r status payload s).prot = s.prot := Frame.of_blank (respond_blank (pl := [.host, .irq, .rings, .rung, .out]) (by decide) r status payload s) .prot rfl
@[simp] theorem respond_cont : (respond r status payload s).cont = s.cont := Frame.of_blank (respond_blank (pl := [.host, .irq, .rings, .rung, .out]) (by decide) r status payload s) .cont rfl
@[simp] theorem respond_iso : (respond r status payload s).iso = s.iso := Frame.of_blank (respond_blank (pl := [.host, .irq, .rings, .rung, .out]) (by decide) r status payload s) .iso rfl
@[simp] theorem respond_pair : (respond r status payload s).pair = s.pair := Frame.of_blank (respond_blank (pl := [.host, .irq, .rings, .rung, .out]) (by decide) r status payload s) .pair rfl
@[simp] theorem respond_ops : (respond r status payload s).ops = s.ops := Frame.of_blank (respond_blank (pl := [.host, .irq, .rings, .rung, .out]) (by decide) r status payload s) .ops rfl
@[simp] theorem respond_can : (respond r status payload s).can = s.can := Frame.of_blank (respond_blank (pl := [.host, .irq, .rings, .rung, .out]) (by decide) r status payload s) .can rfl
@[simp] theorem respond_hlth : (respond r status payload s).hlth = s.hlth := Frame.of_blank (respond_blank (pl := [.host, .irq, .rings, .rung, .out]) (by decide) r status payload s) .hlth rfl
@[simp] theorem respond_jtag : (respond r status payload s).jtag = s.jtag := Frame.of_blank (respond_blank (pl := [.host, .irq, .rings, .rung, .out]) (by decide) r status payload s) .jtag rfl
@[simp] theorem respond_fresh : (respond r status payload s).fresh = s.fresh := Frame.of_blank (respond_blank (pl := [.host, .irq, .rings, .rung, .out]) (by decide) r status payload s) .fresh rfl
@[simp] theorem respond_pending : (respond r status payload s).pending = s.pending := Frame.of_blank (respond_blank (pl := [.host, .irq, .rings, .rung, .out]) (by decide) r status payload s) .pending rfl
end

section
variable (n : SyncState) (s : State)
@[simp] theorem setSync_tick : (setSync n s).tick = s.tick := Frame.of_blank (setSync_blank (pl := [.tb, .deferred, .irq, .rings, .logFreeze, .rung]) (by decide) n s) .tick rfl
@[simp] theorem setSync_str : (setSync n s).str = s.str := Frame.of_blank (setSync_blank (pl := [.tb, .deferred, .irq, .rings, .logFreeze, .rung]) (by decide) n s) .str rfl
@[simp] theorem setSync_pins : (setSync n s).pins = s.pins := Frame.of_blank (setSync_blank (pl := [.tb, .deferred, .irq, .rings, .logFreeze, .rung]) (by decide) n s) .pins rfl
@[simp] theorem setSync_pwr : (setSync n s).pwr = s.pwr := Frame.of_blank (setSync_blank (pl := [.tb, .deferred, .irq, .rings, .logFreeze, .rung]) (by decide) n s) .pwr rfl
@[simp] theorem setSync_idn : (setSync n s).idn = s.idn := Frame.of_blank (setSync_blank (pl := [.tb, .deferred, .irq, .rings, .logFreeze, .rung]) (by decide) n s) .idn rfl
@[simp] theorem setSync_cfg : (setSync n s).cfg = s.cfg := Frame.of_blank (setSync_blank (pl := [.tb, .deferred, .irq, .rings, .logFreeze, .rung]) (by decide) n s) .cfg rfl
@[simp] theorem setSync_met : (setSync n s).met = s.met := Frame.of_blank (setSync_blank (pl := [.tb, .deferred, .irq, .rings, .logFreeze, .rung]) (by decide) n s) .met rfl
@[simp] theorem setSync_skl : (setSync n s).skl = s.skl := Frame.of_blank (setSync_blank (pl := [.tb, .deferred, .irq, .rings, .logFreeze, .rung]) (by decide) n s) .skl rfl
@[simp] theorem setSync_tab : (setSync n s).tab = s.tab := Frame.of_blank (setSync_blank (pl := [.tb, .deferred, .irq, .rings, .logFreeze, .rung]) (by decide) n s) .tab rfl
@[simp] theorem setSync_est : (setSync n s).est = s.est := Frame.of_blank (setSync_blank (pl := [.tb, .deferred, .irq, .rings, .logFreeze, .rung]) (by decide) n s) .est rfl
@[simp] theorem setSync_jrn : (setSync n s).jrn = s.jrn := Frame.of_blank (setSync_blank (pl := [.tb, .deferred, .irq, .rings, .logFreeze, .rung]) (by decide) n s) .jrn rfl
@[simp] theorem setSync_imp : (setSync n s).imp = s.imp := Frame.of_blank (setSync_blank (pl := [.tb, .deferred, .irq, .rings, .logFreeze, .rung]) (by decide) n s) .imp rfl
@[simp] theorem setSync_cnv : (setSync n s).cnv = s.cnv := Frame.of_blank (setSync_blank (pl := [.tb, .deferred, .irq, .rings, .logFreeze, .rung]) (by decide) n s) .cnv rfl
@[simp] theorem setSync_dsp : (setSync n s).dsp = s.dsp := Frame.of_blank (setSync_blank (pl := [.tb, .deferred, .irq, .rings, .logFreeze, .rung]) (by decide) n s) .dsp rfl
@[simp] theorem setSync_bal : (setSync n s).bal = s.bal := Frame.of_blank (setSync_blank (pl := [.tb, .deferred, .irq, .rings, .logFreeze, .rung]) (by decide) n s) .bal rfl
@[simp] theorem setSync_thm : (setSync n s).thm = s.thm := Frame.of_blank (setSync_blank (pl := [.tb, .deferred, .irq, .rings, .logFreeze, .rung]) (by decide) n s) .thm rfl
@[simp] theorem setSync_prot : (setSync n s).prot = s.prot := Frame.of_blank (setSync_blank (pl := [.tb, .deferred, .irq, .rings, .logFreeze, .rung]) (by decide) n s) .prot rfl
@[simp] theorem setSync_cont : (setSync n s).cont = s.cont := Frame.of_blank (setSync_blank (pl := [.tb, .deferred, .irq, .rings, .logFreeze, .rung]) (by decide) n s) .cont rfl
@[simp] theorem setSync_iso : (setSync n s).iso = s.iso := Frame.of_blank (setSync_blank (pl := [.tb, .deferred, .irq, .rings, .logFreeze, .rung]) (by decide) n s) .iso rfl
@[simp] theorem setSync_pair : (setSync n s).pair = s.pair := Frame.of_blank (setSync_blank (pl := [.tb, .deferred, .irq, .rings, .logFreeze, .rung]) (by decide) n s) .pair rfl
@[simp] theorem setSync_host : (setSync n s).host = s.host := Frame.of_blank (setSync_blank (pl := [.tb, .deferred, .irq, .rings, .logFreeze, .rung]) (by decide) n s) .host rfl
@[simp] theorem setSync_ops : (setSync n s).ops = s.ops := Frame.of_blank (setSync_blank (pl := [.tb, .deferred, .irq, .rings, .logFreeze, .rung]) (by decide) n s) .ops rfl
@[simp] theorem setSync_can : (setSync n s).can = s.can := Frame.of_blank (setSync_blank (pl := [.tb, .deferred, .irq, .rings, .logFreeze, .rung]) (by decide) n s) .can rfl
@[simp] theorem setSync_hlth : (setSync n s).hlth = s.hlth := Frame.of_blank (setSync_blank (pl := [.tb, .deferred, .irq, .rings, .logFreeze, .rung]) (by decide) n s) .hlth rfl
@[simp] theorem setSync_jtag : (setSync n s).jtag = s.jtag := Frame.of_blank (setSync_blank (pl := [.tb, .deferred, .irq, .rings, .logFreeze, .rung]) (by decide) n s) .jtag rfl
@[simp] theorem setSync_out : (setSync n s).out = s.out := Frame.of_blank (setSync_blank (pl := [.tb, .deferred, .irq, .rings, .logFreeze, .rung]) (by decide) n s) .out rfl
@[simp] theorem setSync_fresh : (setSync n s).fresh = s.fresh := Frame.of_blank (setSync_blank (pl := [.tb, .deferred, .irq, .rings, .logFreeze, .rung]) (by decide) n s) .fresh rfl
@[simp] theorem setSync_pending : (setSync n s).pending = s.pending := Frame.of_blank (setSync_blank (pl := [.tb, .deferred, .irq, .rings, .logFreeze, .rung]) (by decide) n s) .pending rfl
end

section
variable (bit : Nat) (s : State)
@[simp] theorem raiseTw_tick : (raiseTw bit s).tick = s.tick := Frame.of_blank (raiseTw_blank (pl := [.str, .deferred, .prot, .irq, .rings, .logFreeze, .rung]) (by decide) bit s) .tick rfl
@[simp] theorem raiseTw_pins : (raiseTw bit s).pins = s.pins := Frame.of_blank (raiseTw_blank (pl := [.str, .deferred, .prot, .irq, .rings, .logFreeze, .rung]) (by decide) bit s) .pins rfl
@[simp] theorem raiseTw_pwr : (raiseTw bit s).pwr = s.pwr := Frame.of_blank (raiseTw_blank (pl := [.str, .deferred, .prot, .irq, .rings, .logFreeze, .rung]) (by decide) bit s) .pwr rfl
@[simp] theorem raiseTw_tb : (raiseTw bit s).tb = s.tb := Frame.of_blank (raiseTw_blank (pl := [.str, .deferred, .prot, .irq, .rings, .logFreeze, .rung]) (by decide) bit s) .tb rfl
@[simp] theorem raiseTw_idn : (raiseTw bit s).idn = s.idn := Frame.of_blank (raiseTw_blank (pl := [.str, .deferred, .prot, .irq, .rings, .logFreeze, .rung]) (by decide) bit s) .idn rfl
@[simp] theorem raiseTw_cfg : (raiseTw bit s).cfg = s.cfg := Frame.of_blank (raiseTw_blank (pl := [.str, .deferred, .prot, .irq, .rings, .logFreeze, .rung]) (by decide) bit s) .cfg rfl
@[simp] theorem raiseTw_met : (raiseTw bit s).met = s.met := Frame.of_blank (raiseTw_blank (pl := [.str, .deferred, .prot, .irq, .rings, .logFreeze, .rung]) (by decide) bit s) .met rfl
@[simp] theorem raiseTw_skl : (raiseTw bit s).skl = s.skl := Frame.of_blank (raiseTw_blank (pl := [.str, .deferred, .prot, .irq, .rings, .logFreeze, .rung]) (by decide) bit s) .skl rfl
@[simp] theorem raiseTw_tab : (raiseTw bit s).tab = s.tab := Frame.of_blank (raiseTw_blank (pl := [.str, .deferred, .prot, .irq, .rings, .logFreeze, .rung]) (by decide) bit s) .tab rfl
@[simp] theorem raiseTw_est : (raiseTw bit s).est = s.est := Frame.of_blank (raiseTw_blank (pl := [.str, .deferred, .prot, .irq, .rings, .logFreeze, .rung]) (by decide) bit s) .est rfl
@[simp] theorem raiseTw_jrn : (raiseTw bit s).jrn = s.jrn := Frame.of_blank (raiseTw_blank (pl := [.str, .deferred, .prot, .irq, .rings, .logFreeze, .rung]) (by decide) bit s) .jrn rfl
@[simp] theorem raiseTw_imp : (raiseTw bit s).imp = s.imp := Frame.of_blank (raiseTw_blank (pl := [.str, .deferred, .prot, .irq, .rings, .logFreeze, .rung]) (by decide) bit s) .imp rfl
@[simp] theorem raiseTw_cnv : (raiseTw bit s).cnv = s.cnv := Frame.of_blank (raiseTw_blank (pl := [.str, .deferred, .prot, .irq, .rings, .logFreeze, .rung]) (by decide) bit s) .cnv rfl
@[simp] theorem raiseTw_dsp : (raiseTw bit s).dsp = s.dsp := Frame.of_blank (raiseTw_blank (pl := [.str, .deferred, .prot, .irq, .rings, .logFreeze, .rung]) (by decide) bit s) .dsp rfl
@[simp] theorem raiseTw_bal : (raiseTw bit s).bal = s.bal := Frame.of_blank (raiseTw_blank (pl := [.str, .deferred, .prot, .irq, .rings, .logFreeze, .rung]) (by decide) bit s) .bal rfl
@[simp] theorem raiseTw_thm : (raiseTw bit s).thm = s.thm := Frame.of_blank (raiseTw_blank (pl := [.str, .deferred, .prot, .irq, .rings, .logFreeze, .rung]) (by decide) bit s) .thm rfl
@[simp] theorem raiseTw_cont : (raiseTw bit s).cont = s.cont := Frame.of_blank (raiseTw_blank (pl := [.str, .deferred, .prot, .irq, .rings, .logFreeze, .rung]) (by decide) bit s) .cont rfl
@[simp] theorem raiseTw_iso : (raiseTw bit s).iso = s.iso := Frame.of_blank (raiseTw_blank (pl := [.str, .deferred, .prot, .irq, .rings, .logFreeze, .rung]) (by decide) bit s) .iso rfl
@[simp] theorem raiseTw_pair : (raiseTw bit s).pair = s.pair := Frame.of_blank (raiseTw_blank (pl := [.str, .deferred, .prot, .irq, .rings, .logFreeze, .rung]) (by decide) bit s) .pair rfl
@[simp] theorem raiseTw_host : (raiseTw bit s).host = s.host := Frame.of_blank (raiseTw_blank (pl := [.str, .deferred, .prot, .irq, .rings, .logFreeze, .rung]) (by decide) bit s) .host rfl
@[simp] theorem raiseTw_ops : (raiseTw bit s).ops = s.ops := Frame.of_blank (raiseTw_blank (pl := [.str, .deferred, .prot, .irq, .rings, .logFreeze, .rung]) (by decide) bit s) .ops rfl
@[simp] theorem raiseTw_can : (raiseTw bit s).can = s.can := Frame.of_blank (raiseTw_blank (pl := [.str, .deferred, .prot, .irq, .rings, .logFreeze, .rung]) (by decide) bit s) .can rfl
@[simp] theorem raiseTw_hlth : (raiseTw bit s).hlth = s.hlth := Frame.of_blank (raiseTw_blank (pl := [.str, .deferred, .prot, .irq, .rings, .logFreeze, .rung]) (by decide) bit s) .hlth rfl
@[simp] theorem raiseTw_jtag : (raiseTw bit s).jtag = s.jtag := Frame.of_blank (raiseTw_blank (pl := [.str, .deferred, .prot, .irq, .rings, .logFreeze, .rung]) (by decide) bit s) .jtag rfl
@[simp] theorem raiseTw_out : (raiseTw bit s).out = s.out := Frame.of_blank (raiseTw_blank (pl := [.str, .deferred, .prot, .irq, .rings, .logFreeze, .rung]) (by decide) bit s) .out rfl
@[simp] theorem raiseTw_fresh : (raiseTw bit s).fresh = s.fresh := Frame.of_blank (raiseTw_blank (pl := [.str, .deferred, .prot, .irq, .rings, .logFreeze, .rung]) (by decide) bit s) .fresh rfl
@[simp] theorem raiseTw_pending : (raiseTw bit s).pending = s.pending := Frame.of_blank (raiseTw_blank (pl := [.str, .deferred, .prot, .irq, .rings, .logFreeze, .rung]) (by decide) bit s) .pending rfl
end

section
variable (bit : Nat) (s : State)
@[simp] theorem clearTw_tick : (clearTw bit s).tick = s.tick := Frame.of_blank (clearTw_blank (pl := [.str, .deferred, .prot, .irq, .rings, .logFreeze, .rung]) (by decide) bit s) .tick rfl
@[simp] theorem clearTw_pins : (clearTw bit s).pins = s.pins := Frame.of_blank (clearTw_blank (pl := [.str, .deferred, .prot, .irq, .rings, .logFreeze, .rung]) (by decide) bit s) .pins rfl
@[simp] theorem clearTw_pwr : (clearTw bit s).pwr = s.pwr := Frame.of_blank (clearTw_blank (pl := [.str, .deferred, .prot, .irq, .rings, .logFreeze, .rung]) (by decide) bit s) .pwr rfl
@[simp] theorem clearTw_tb : (clearTw bit s).tb = s.tb := Frame.of_blank (clearTw_blank (pl := [.str, .deferred, .prot, .irq, .rings, .logFreeze, .rung]) (by decide) bit s) .tb rfl
@[simp] theorem clearTw_idn : (clearTw bit s).idn = s.idn := Frame.of_blank (clearTw_blank (pl := [.str, .deferred, .prot, .irq, .rings, .logFreeze, .rung]) (by decide) bit s) .idn rfl
@[simp] theorem clearTw_cfg : (clearTw bit s).cfg = s.cfg := Frame.of_blank (clearTw_blank (pl := [.str, .deferred, .prot, .irq, .rings, .logFreeze, .rung]) (by decide) bit s) .cfg rfl
@[simp] theorem clearTw_met : (clearTw bit s).met = s.met := Frame.of_blank (clearTw_blank (pl := [.str, .deferred, .prot, .irq, .rings, .logFreeze, .rung]) (by decide) bit s) .met rfl
@[simp] theorem clearTw_skl : (clearTw bit s).skl = s.skl := Frame.of_blank (clearTw_blank (pl := [.str, .deferred, .prot, .irq, .rings, .logFreeze, .rung]) (by decide) bit s) .skl rfl
@[simp] theorem clearTw_tab : (clearTw bit s).tab = s.tab := Frame.of_blank (clearTw_blank (pl := [.str, .deferred, .prot, .irq, .rings, .logFreeze, .rung]) (by decide) bit s) .tab rfl
@[simp] theorem clearTw_est : (clearTw bit s).est = s.est := Frame.of_blank (clearTw_blank (pl := [.str, .deferred, .prot, .irq, .rings, .logFreeze, .rung]) (by decide) bit s) .est rfl
@[simp] theorem clearTw_jrn : (clearTw bit s).jrn = s.jrn := Frame.of_blank (clearTw_blank (pl := [.str, .deferred, .prot, .irq, .rings, .logFreeze, .rung]) (by decide) bit s) .jrn rfl
@[simp] theorem clearTw_imp : (clearTw bit s).imp = s.imp := Frame.of_blank (clearTw_blank (pl := [.str, .deferred, .prot, .irq, .rings, .logFreeze, .rung]) (by decide) bit s) .imp rfl
@[simp] theorem clearTw_cnv : (clearTw bit s).cnv = s.cnv := Frame.of_blank (clearTw_blank (pl := [.str, .deferred, .prot, .irq, .rings, .logFreeze, .rung]) (by decide) bit s) .cnv rfl
@[simp] theorem clearTw_dsp : (clearTw bit s).dsp = s.dsp := Frame.of_blank (clearTw_blank (pl := [.str, .deferred, .prot, .irq, .rings, .logFreeze, .rung]) (by decide) bit s) .dsp rfl
@[simp] theorem clearTw_bal : (clearTw bit s).bal = s.bal := Frame.of_blank (clearTw_blank (pl := [.str, .deferred, .prot, .irq, .rings, .logFreeze, .rung]) (by decide) bit s) .bal rfl
@[simp] theorem clearTw_thm : (clearTw bit s).thm = s.thm := Frame.of_blank (clearTw_blank (pl := [.str, .deferred, .prot, .irq, .rings, .logFreeze, .rung]) (by decide) bit s) .thm rfl
@[simp] theorem clearTw_cont : (clearTw bit s).cont = s.cont := Frame.of_blank (clearTw_blank (pl := [.str, .deferred, .prot, .irq, .rings, .logFreeze, .rung]) (by decide) bit s) .cont rfl
@[simp] theorem clearTw_iso : (clearTw bit s).iso = s.iso := Frame.of_blank (clearTw_blank (pl := [.str, .deferred, .prot, .irq, .rings, .logFreeze, .rung]) (by decide) bit s) .iso rfl
@[simp] theorem clearTw_pair : (clearTw bit s).pair = s.pair := Frame.of_blank (clearTw_blank (pl := [.str, .deferred, .prot, .irq, .rings, .logFreeze, .rung]) (by decide) bit s) .pair rfl
@[simp] theorem clearTw_host : (clearTw bit s).host = s.host := Frame.of_blank (clearTw_blank (pl := [.str, .deferred, .prot, .irq, .rings, .logFreeze, .rung]) (by decide) bit s) .host rfl
@[simp] theorem clearTw_ops : (clearTw bit s).ops = s.ops := Frame.of_blank (clearTw_blank (pl := [.str, .deferred, .prot, .irq, .rings, .logFreeze, .rung]) (by decide) bit s) .ops rfl
@[simp] theorem clearTw_can : (clearTw bit s).can = s.can := Frame.of_blank (clearTw_blank (pl := [.str, .deferred, .prot, .irq, .rings, .logFreeze, .rung]) (by decide) bit s) .can rfl
@[simp] theorem clearTw_hlth : (clearTw bit s).hlth = s.hlth := Frame.of_blank (clearTw_blank (pl := [.str, .deferred, .prot, .irq, .rings, .logFreeze, .rung]) (by decide) bit s) .hlth rfl
@[simp] theorem clearTw_jtag : (clearTw bit s).jtag = s.jtag := Frame.of_blank (clearTw_blank (pl := [.str, .deferred, .prot, .irq, .rings, .logFreeze, .rung]) (by decide) bit s) .jtag rfl
@[simp] theorem clearTw_out : (clearTw bit s).out = s.out := Frame.of_blank (clearTw_blank (pl := [.str, .deferred, .prot, .irq, .rings, .logFreeze, .rung]) (by decide) bit s) .out rfl
@[simp] theorem clearTw_fresh : (clearTw bit s).fresh = s.fresh := Frame.of_blank (clearTw_blank (pl := [.str, .deferred, .prot, .irq, .rings, .logFreeze, .rung]) (by decide) bit s) .fresh rfl
@[simp] theorem clearTw_pending : (clearTw bit s).pending = s.pending := Frame.of_blank (clearTw_blank (pl := [.str, .deferred, .prot, .irq, .rings, .logFreeze, .rung]) (by decide) bit s) .pending rfl
end

section
variable (bit : Nat) (cond : Bool) (s : State)
@[simp] theorem setTw_tick : (setTw bit cond s).tick = s.tick := Frame.of_blank (setTw_blank (pl := [.str, .deferred, .prot, .irq, .rings, .logFreeze, .rung]) (by decide) bit cond s) .tick rfl
@[simp] theorem setTw_pins : (setTw bit cond s).pins = s.pins := Frame.of_blank (setTw_blank (pl := [.str, .deferred, .prot, .irq, .rings, .logFreeze, .rung]) (by decide) bit cond s) .pins rfl
@[simp] theorem setTw_pwr : (setTw bit cond s).pwr = s.pwr := Frame.of_blank (setTw_blank (pl := [.str, .deferred, .prot, .irq, .rings, .logFreeze, .rung]) (by decide) bit cond s) .pwr rfl
@[simp] theorem setTw_tb : (setTw bit cond s).tb = s.tb := Frame.of_blank (setTw_blank (pl := [.str, .deferred, .prot, .irq, .rings, .logFreeze, .rung]) (by decide) bit cond s) .tb rfl
@[simp] theorem setTw_idn : (setTw bit cond s).idn = s.idn := Frame.of_blank (setTw_blank (pl := [.str, .deferred, .prot, .irq, .rings, .logFreeze, .rung]) (by decide) bit cond s) .idn rfl
@[simp] theorem setTw_cfg : (setTw bit cond s).cfg = s.cfg := Frame.of_blank (setTw_blank (pl := [.str, .deferred, .prot, .irq, .rings, .logFreeze, .rung]) (by decide) bit cond s) .cfg rfl
@[simp] theorem setTw_met : (setTw bit cond s).met = s.met := Frame.of_blank (setTw_blank (pl := [.str, .deferred, .prot, .irq, .rings, .logFreeze, .rung]) (by decide) bit cond s) .met rfl
@[simp] theorem setTw_skl : (setTw bit cond s).skl = s.skl := Frame.of_blank (setTw_blank (pl := [.str, .deferred, .prot, .irq, .rings, .logFreeze, .rung]) (by decide) bit cond s) .skl rfl
@[simp] theorem setTw_tab : (setTw bit cond s).tab = s.tab := Frame.of_blank (setTw_blank (pl := [.str, .deferred, .prot, .irq, .rings, .logFreeze, .rung]) (by decide) bit cond s) .tab rfl
@[simp] theorem setTw_est : (setTw bit cond s).est = s.est := Frame.of_blank (setTw_blank (pl := [.str, .deferred, .prot, .irq, .rings, .logFreeze, .rung]) (by decide) bit cond s) .est rfl
@[simp] theorem setTw_jrn : (setTw bit cond s).jrn = s.jrn := Frame.of_blank (setTw_blank (pl := [.str, .deferred, .prot, .irq, .rings, .logFreeze, .rung]) (by decide) bit cond s) .jrn rfl
@[simp] theorem setTw_imp : (setTw bit cond s).imp = s.imp := Frame.of_blank (setTw_blank (pl := [.str, .deferred, .prot, .irq, .rings, .logFreeze, .rung]) (by decide) bit cond s) .imp rfl
@[simp] theorem setTw_cnv : (setTw bit cond s).cnv = s.cnv := Frame.of_blank (setTw_blank (pl := [.str, .deferred, .prot, .irq, .rings, .logFreeze, .rung]) (by decide) bit cond s) .cnv rfl
@[simp] theorem setTw_dsp : (setTw bit cond s).dsp = s.dsp := Frame.of_blank (setTw_blank (pl := [.str, .deferred, .prot, .irq, .rings, .logFreeze, .rung]) (by decide) bit cond s) .dsp rfl
@[simp] theorem setTw_bal : (setTw bit cond s).bal = s.bal := Frame.of_blank (setTw_blank (pl := [.str, .deferred, .prot, .irq, .rings, .logFreeze, .rung]) (by decide) bit cond s) .bal rfl
@[simp] theorem setTw_thm : (setTw bit cond s).thm = s.thm := Frame.of_blank (setTw_blank (pl := [.str, .deferred, .prot, .irq, .rings, .logFreeze, .rung]) (by decide) bit cond s) .thm rfl
@[simp] theorem setTw_cont : (setTw bit cond s).cont = s.cont := Frame.of_blank (setTw_blank (pl := [.str, .deferred, .prot, .irq, .rings, .logFreeze, .rung]) (by decide) bit cond s) .cont rfl
@[simp] theorem setTw_iso : (setTw bit cond s).iso = s.iso := Frame.of_blank (setTw_blank (pl := [.str, .deferred, .prot, .irq, .rings, .logFreeze, .rung]) (by decide) bit cond s) .iso rfl
@[simp] theorem setTw_pair : (setTw bit cond s).pair = s.pair := Frame.of_blank (setTw_blank (pl := [.str, .deferred, .prot, .irq, .rings, .logFreeze, .rung]) (by decide) bit cond s) .pair rfl
@[simp] theorem setTw_host : (setTw bit cond s).host = s.host := Frame.of_blank (setTw_blank (pl := [.str, .deferred, .prot, .irq, .rings, .logFreeze, .rung]) (by decide) bit cond s) .host rfl
@[simp] theorem setTw_ops : (setTw bit cond s).ops = s.ops := Frame.of_blank (setTw_blank (pl := [.str, .deferred, .prot, .irq, .rings, .logFreeze, .rung]) (by decide) bit cond s) .ops rfl
@[simp] theorem setTw_can : (setTw bit cond s).can = s.can := Frame.of_blank (setTw_blank (pl := [.str, .deferred, .prot, .irq, .rings, .logFreeze, .rung]) (by decide) bit cond s) .can rfl
@[simp] theorem setTw_hlth : (setTw bit cond s).hlth = s.hlth := Frame.of_blank (setTw_blank (pl := [.str, .deferred, .prot, .irq, .rings, .logFreeze, .rung]) (by decide) bit cond s) .hlth rfl
@[simp] theorem setTw_jtag : (setTw bit cond s).jtag = s.jtag := Frame.of_blank (setTw_blank (pl := [.str, .deferred, .prot, .irq, .rings, .logFreeze, .rung]) (by decide) bit cond s) .jtag rfl
@[simp] theorem setTw_out : (setTw bit cond s).out = s.out := Frame.of_blank (setTw_blank (pl := [.str, .deferred, .prot, .irq, .rings, .logFreeze, .rung]) (by decide) bit cond s) .out rfl
@[simp] theorem setTw_fresh : (setTw bit cond s).fresh = s.fresh := Frame.of_blank (setTw_blank (pl := [.str, .deferred, .prot, .irq, .rings, .logFreeze, .rung]) (by decide) bit cond s) .fresh rfl
@[simp] theorem setTw_pending : (setTw bit cond s).pending = s.pending := Frame.of_blank (setTw_blank (pl := [.str, .deferred, .prot, .irq, .rings, .logFreeze, .rung]) (by decide) bit cond s) .pending rfl
end

section
variable (k : Nat) (s : State)
@[simp] theorem runDone_pins : (runDone k s).pins = s.pins := Frame.of_blank (runDone_blank (pl := [.tick, .str, .deferred, .prot, .irq, .rings, .logFreeze, .rung]) (by decide) k s) .pins rfl
@[simp] theorem runDone_pwr : (runDone k s).pwr = s.pwr := Frame.of_blank (runDone_blank (pl := [.tick, .str, .deferred, .prot, .irq, .rings, .logFreeze, .rung]) (by decide) k s) .pwr rfl
@[simp] theorem runDone_tb : (runDone k s).tb = s.tb := Frame.of_blank (runDone_blank (pl := [.tick, .str, .deferred, .prot, .irq, .rings, .logFreeze, .rung]) (by decide) k s) .tb rfl
@[simp] theorem runDone_idn : (runDone k s).idn = s.idn := Frame.of_blank (runDone_blank (pl := [.tick, .str, .deferred, .prot, .irq, .rings, .logFreeze, .rung]) (by decide) k s) .idn rfl
@[simp] theorem runDone_cfg : (runDone k s).cfg = s.cfg := Frame.of_blank (runDone_blank (pl := [.tick, .str, .deferred, .prot, .irq, .rings, .logFreeze, .rung]) (by decide) k s) .cfg rfl
@[simp] theorem runDone_met : (runDone k s).met = s.met := Frame.of_blank (runDone_blank (pl := [.tick, .str, .deferred, .prot, .irq, .rings, .logFreeze, .rung]) (by decide) k s) .met rfl
@[simp] theorem runDone_skl : (runDone k s).skl = s.skl := Frame.of_blank (runDone_blank (pl := [.tick, .str, .deferred, .prot, .irq, .rings, .logFreeze, .rung]) (by decide) k s) .skl rfl
@[simp] theorem runDone_tab : (runDone k s).tab = s.tab := Frame.of_blank (runDone_blank (pl := [.tick, .str, .deferred, .prot, .irq, .rings, .logFreeze, .rung]) (by decide) k s) .tab rfl
@[simp] theorem runDone_est : (runDone k s).est = s.est := Frame.of_blank (runDone_blank (pl := [.tick, .str, .deferred, .prot, .irq, .rings, .logFreeze, .rung]) (by decide) k s) .est rfl
@[simp] theorem runDone_jrn : (runDone k s).jrn = s.jrn := Frame.of_blank (runDone_blank (pl := [.tick, .str, .deferred, .prot, .irq, .rings, .logFreeze, .rung]) (by decide) k s) .jrn rfl
@[simp] theorem runDone_imp : (runDone k s).imp = s.imp := Frame.of_blank (runDone_blank (pl := [.tick, .str, .deferred, .prot, .irq, .rings, .logFreeze, .rung]) (by decide) k s) .imp rfl
@[simp] theorem runDone_cnv : (runDone k s).cnv = s.cnv := Frame.of_blank (runDone_blank (pl := [.tick, .str, .deferred, .prot, .irq, .rings, .logFreeze, .rung]) (by decide) k s) .cnv rfl
@[simp] theorem runDone_dsp : (runDone k s).dsp = s.dsp := Frame.of_blank (runDone_blank (pl := [.tick, .str, .deferred, .prot, .irq, .rings, .logFreeze, .rung]) (by decide) k s) .dsp rfl
@[simp] theorem runDone_bal : (runDone k s).bal = s.bal := Frame.of_blank (runDone_blank (pl := [.tick, .str, .deferred, .prot, .irq, .rings, .logFreeze, .rung]) (by decide) k s) .bal rfl
@[simp] theorem runDone_thm : (runDone k s).thm = s.thm := Frame.of_blank (runDone_blank (pl := [.tick, .str, .deferred, .prot, .irq, .rings, .logFreeze, .rung]) (by decide) k s) .thm rfl
@[simp] theorem runDone_cont : (runDone k s).cont = s.cont := Frame.of_blank (runDone_blank (pl := [.tick, .str, .deferred, .prot, .irq, .rings, .logFreeze, .rung]) (by decide) k s) .cont rfl
@[simp] theorem runDone_iso : (runDone k s).iso = s.iso := Frame.of_blank (runDone_blank (pl := [.tick, .str, .deferred, .prot, .irq, .rings, .logFreeze, .rung]) (by decide) k s) .iso rfl
@[simp] theorem runDone_pair : (runDone k s).pair = s.pair := Frame.of_blank (runDone_blank (pl := [.tick, .str, .deferred, .prot, .irq, .rings, .logFreeze, .rung]) (by decide) k s) .pair rfl
@[simp] theorem runDone_host : (runDone k s).host = s.host := Frame.of_blank (runDone_blank (pl := [.tick, .str, .deferred, .prot, .irq, .rings, .logFreeze, .rung]) (by decide) k s) .host rfl
@[simp] theorem runDone_ops : (runDone k s).ops = s.ops := Frame.of_blank (runDone_blank (pl := [.tick, .str, .deferred, .prot, .irq, .rings, .logFreeze, .rung]) (by decide) k s) .ops rfl
@[simp] theorem runDone_can : (runDone k s).can = s.can := Frame.of_blank (runDone_blank (pl := [.tick, .str, .deferred, .prot, .irq, .rings, .logFreeze, .rung]) (by decide) k s) .can rfl
@[simp] theorem runDone_hlth : (runDone k s).hlth = s.hlth := Frame.of_blank (runDone_blank (pl := [.tick, .str, .deferred, .prot, .irq, .rings, .logFreeze, .rung]) (by decide) k s) .hlth rfl
@[simp] theorem runDone_jtag : (runDone k s).jtag = s.jtag := Frame.of_blank (runDone_blank (pl := [.tick, .str, .deferred, .prot, .irq, .rings, .logFreeze, .rung]) (by decide) k s) .jtag rfl
@[simp] theorem runDone_out : (runDone k s).out = s.out := Frame.of_blank (runDone_blank (pl := [.tick, .str, .deferred, .prot, .irq, .rings, .logFreeze, .rung]) (by decide) k s) .out rfl
@[simp] theorem runDone_fresh : (runDone k s).fresh = s.fresh := Frame.of_blank (runDone_blank (pl := [.tick, .str, .deferred, .prot, .irq, .rings, .logFreeze, .rung]) (by decide) k s) .fresh rfl
@[simp] theorem runDone_pending : (runDone k s).pending = s.pending := Frame.of_blank (runDone_blank (pl := [.tick, .str, .deferred, .prot, .irq, .rings, .logFreeze, .rung]) (by decide) k s) .pending rfl
end

section
variable (k : Nat) (onTime : Bool) (s : State)
@[simp] theorem recordRun_pins : (recordRun k onTime s).pins = s.pins := Frame.of_blank (recordRun_blank (pl := [.tick, .str, .deferred, .prot, .irq, .rings, .logFreeze, .rung]) (by decide) k onTime s) .pins rfl
@[simp] theorem recordRun_pwr : (recordRun k onTime s).pwr = s.pwr := Frame.of_blank (recordRun_blank (pl := [.tick, .str, .deferred, .prot, .irq, .rings, .logFreeze, .rung]) (by decide) k onTime s) .pwr rfl
@[simp] theorem recordRun_tb : (recordRun k onTime s).tb = s.tb := Frame.of_blank (recordRun_blank (pl := [.tick, .str, .deferred, .prot, .irq, .rings, .logFreeze, .rung]) (by decide) k onTime s) .tb rfl
@[simp] theorem recordRun_idn : (recordRun k onTime s).idn = s.idn := Frame.of_blank (recordRun_blank (pl := [.tick, .str, .deferred, .prot, .irq, .rings, .logFreeze, .rung]) (by decide) k onTime s) .idn rfl
@[simp] theorem recordRun_cfg : (recordRun k onTime s).cfg = s.cfg := Frame.of_blank (recordRun_blank (pl := [.tick, .str, .deferred, .prot, .irq, .rings, .logFreeze, .rung]) (by decide) k onTime s) .cfg rfl
@[simp] theorem recordRun_met : (recordRun k onTime s).met = s.met := Frame.of_blank (recordRun_blank (pl := [.tick, .str, .deferred, .prot, .irq, .rings, .logFreeze, .rung]) (by decide) k onTime s) .met rfl
@[simp] theorem recordRun_skl : (recordRun k onTime s).skl = s.skl := Frame.of_blank (recordRun_blank (pl := [.tick, .str, .deferred, .prot, .irq, .rings, .logFreeze, .rung]) (by decide) k onTime s) .skl rfl
@[simp] theorem recordRun_tab : (recordRun k onTime s).tab = s.tab := Frame.of_blank (recordRun_blank (pl := [.tick, .str, .deferred, .prot, .irq, .rings, .logFreeze, .rung]) (by decide) k onTime s) .tab rfl
@[simp] theorem recordRun_est : (recordRun k onTime s).est = s.est := Frame.of_blank (recordRun_blank (pl := [.tick, .str, .deferred, .prot, .irq, .rings, .logFreeze, .rung]) (by decide) k onTime s) .est rfl
@[simp] theorem recordRun_jrn : (recordRun k onTime s).jrn = s.jrn := Frame.of_blank (recordRun_blank (pl := [.tick, .str, .deferred, .prot, .irq, .rings, .logFreeze, .rung]) (by decide) k onTime s) .jrn rfl
@[simp] theorem recordRun_imp : (recordRun k onTime s).imp = s.imp := Frame.of_blank (recordRun_blank (pl := [.tick, .str, .deferred, .prot, .irq, .rings, .logFreeze, .rung]) (by decide) k onTime s) .imp rfl
@[simp] theorem recordRun_cnv : (recordRun k onTime s).cnv = s.cnv := Frame.of_blank (recordRun_blank (pl := [.tick, .str, .deferred, .prot, .irq, .rings, .logFreeze, .rung]) (by decide) k onTime s) .cnv rfl
@[simp] theorem recordRun_dsp : (recordRun k onTime s).dsp = s.dsp := Frame.of_blank (recordRun_blank (pl := [.tick, .str, .deferred, .prot, .irq, .rings, .logFreeze, .rung]) (by decide) k onTime s) .dsp rfl
@[simp] theorem recordRun_bal : (recordRun k onTime s).bal = s.bal := Frame.of_blank (recordRun_blank (pl := [.tick, .str, .deferred, .prot, .irq, .rings, .logFreeze, .rung]) (by decide) k onTime s) .bal rfl
@[simp] theorem recordRun_thm : (recordRun k onTime s).thm = s.thm := Frame.of_blank (recordRun_blank (pl := [.tick, .str, .deferred, .prot, .irq, .rings, .logFreeze, .rung]) (by decide) k onTime s) .thm rfl
@[simp] theorem recordRun_cont : (recordRun k onTime s).cont = s.cont := Frame.of_blank (recordRun_blank (pl := [.tick, .str, .deferred, .prot, .irq, .rings, .logFreeze, .rung]) (by decide) k onTime s) .cont rfl
@[simp] theorem recordRun_iso : (recordRun k onTime s).iso = s.iso := Frame.of_blank (recordRun_blank (pl := [.tick, .str, .deferred, .prot, .irq, .rings, .logFreeze, .rung]) (by decide) k onTime s) .iso rfl
@[simp] theorem recordRun_pair : (recordRun k onTime s).pair = s.pair := Frame.of_blank (recordRun_blank (pl := [.tick, .str, .deferred, .prot, .irq, .rings, .logFreeze, .rung]) (by decide) k onTime s) .pair rfl
@[simp] theorem recordRun_host : (recordRun k onTime s).host = s.host := Frame.of_blank (recordRun_blank (pl := [.tick, .str, .deferred, .prot, .irq, .rings, .logFreeze, .rung]) (by decide) k onTime s) .host rfl
@[simp] theorem recordRun_ops : (recordRun k onTime s).ops = s.ops := Frame.of_blank (recordRun_blank (pl := [.tick, .str, .deferred, .prot, .irq, .rings, .logFreeze, .rung]) (by decide) k onTime s) .ops rfl
@[simp] theorem recordRun_can : (recordRun k onTime s).can = s.can := Frame.of_blank (recordRun_blank (pl := [.tick, .str, .deferred, .prot, .irq, .rings, .logFreeze, .rung]) (by decide) k onTime s) .can rfl
@[simp] theorem recordRun_hlth : (recordRun k onTime s).hlth = s.hlth := Frame.of_blank (recordRun_blank (pl := [.tick, .str, .deferred, .prot, .irq, .rings, .logFreeze, .rung]) (by decide) k onTime s) .hlth rfl
@[simp] theorem recordRun_jtag : (recordRun k onTime s).jtag = s.jtag := Frame.of_blank (recordRun_blank (pl := [.tick, .str, .deferred, .prot, .irq, .rings, .logFreeze, .rung]) (by decide) k onTime s) .jtag rfl
@[simp] theorem recordRun_out : (recordRun k onTime s).out = s.out := Frame.of_blank (recordRun_blank (pl := [.tick, .str, .deferred, .prot, .irq, .rings, .logFreeze, .rung]) (by decide) k onTime s) .out rfl
@[simp] theorem recordRun_fresh : (recordRun k onTime s).fresh = s.fresh := Frame.of_blank (recordRun_blank (pl := [.tick, .str, .deferred, .prot, .irq, .rings, .logFreeze, .rung]) (by decide) k onTime s) .fresh rfl
@[simp] theorem recordRun_pending : (recordRun k onTime s).pending = s.pending := Frame.of_blank (recordRun_blank (pl := [.tick, .str, .deferred, .prot, .irq, .rings, .logFreeze, .rung]) (by decide) k onTime s) .pending rfl
end

end Sys2Proof.Machine
end

