-- ==== Sys2Proof/Laws/Outcomes.lean ====
section
/-! SUPPORT. What the shared decisions do, said once: a change of state, the safe stop, FAULT, a demand of a safety
function, giving up, a module fault, a change of synchronization; and how a statement about a next state is read. -/
namespace Sys2Proof.Machine

theorem completes_next (t : State) (p : State → Prop) : Completes (.next t) p ↔ p t :=
  ⟨fun ⟨_, h, k⟩ => by cases h; exact k, fun k => ⟨t, rfl, k⟩⟩

theorem completes_ite {c : Prop} [Decidable c] (a b) (p : State → Prop) :
    Completes (if c then a else b) p ↔ if c then Completes a p else Completes b p := by split <;> rfl

section
variable (s : State)

@[simp] theorem autoSweepAfter_str (st) : (autoSweepAfter st s).str = s.str := by
  unfold autoSweepAfter; split <;> rfl
@[simp] theorem autoSweepAfter_prot (st) : (autoSweepAfter st s).prot = s.prot := by
  unfold autoSweepAfter; split <;> rfl
@[simp] theorem captureAfter_str (st) : (captureAfter st s).str = s.str := by
  unfold captureAfter; split <;> rfl
@[simp] theorem captureAfter_prot (st) : (captureAfter st s).prot = s.prot := by
  unfold captureAfter; split <;> rfl
@[simp] theorem opsAfter_str (st) : (opsAfter st s).str = s.str :=
  Frame.of_blank (opsAfter_blank (pl := [.met, .est, .imp, .bal, .iso, .ops, .irq, .rings, .rcd, .logFreeze, .deferred, .rung]) (by rfl) st s) .str (by rfl)
@[simp] theorem opsAfter_prot (st) : (opsAfter st s).prot = s.prot :=
  Frame.of_blank (opsAfter_blank (pl := [.met, .est, .imp, .bal, .iso, .ops, .irq, .rings, .rcd, .logFreeze, .deferred, .rung]) (by rfl) st s) .prot (by rfl)
@[simp] theorem twLimitAfter_str (st) : (twLimitAfter st s).str = s.str := by
  unfold twLimitAfter; split <;> rfl
@[simp] theorem dispatchAfter_str (old st) : (dispatchAfter old st s).str = s.str := by
  unfold dispatchAfter; split <;> rfl
@[simp] theorem dispatchAfter_prot (old st) : (dispatchAfter old st s).prot = s.prot := by
  unfold dispatchAfter; split <;> rfl
@[simp] theorem limitedStart_str : (limitedStart s).str = s.str := rfl
@[simp] theorem limitedStart_prot : (limitedStart s).prot = s.prot := rfl
@[simp] theorem discardTimed_str : (discardTimed s).str = s.str :=
  Frame.of_blank (discardTimed_blank (pl := [.dsp, .irq, .rings, .logFreeze, .deferred, .rung]) (by rfl) s) .str (by rfl)
@[simp] theorem discardTimed_prot : (discardTimed s).prot = s.prot :=
  Frame.of_blank (discardTimed_blank (pl := [.dsp, .irq, .rings, .logFreeze, .deferred, .rung]) (by rfl) s) .prot (by rfl)

/-- The string state machine after a transition (R35, R49, R51). -/
@[simp] theorem setState_str (st : StringState) (cause : Nat) : (setState st cause s).str = { s.str with
    state := st, cause := cause, entryTime := s.tb.time, entered := s.tick.now
    stopTarget := if st = .stopping then s.str.stopTarget else none
    faultStopDone := if st = .fault then s.str.faultStopDone else false } := by
  unfold setState
  simp only [captureAfter_str, autoSweepAfter_str, opsAfter_str, twLimitAfter_str, dispatchAfter_str]
  repeat' split
  all_goals simp

theorem twLimitAfter_prot (st : StringState) : ∃ l, (twLimitAfter st s).prot = { s.prot with lTw := l } := by
  unfold twLimitAfter; split <;> exact ⟨_, rfl⟩

/-- A transition changes the Twilight limit alone of the protection part (R400). -/
theorem setState_prot (st : StringState) (cause : Nat) : ∃ l, (setState st cause s).prot = { s.prot with lTw := l } := by
  unfold setState
  simp only [captureAfter_prot, autoSweepAfter_prot, opsAfter_prot]
  obtain ⟨l, h⟩ := twLimitAfter_prot _ st
  refine ⟨l, h.trans ?_⟩
  simp only [dispatchAfter_prot, apply_ite State.prot, onIso_prot, limitedStart_prot, discardTimed_prot, log_prot, onStr_prot, ite_self]

theorem abortPulse_kept (i : Nat) : (abortPulse i s).prot.demand = s.prot.demand ∧ (abortPulse i s).prot.demandCnt = s.prot.demandCnt ∧
    (abortPulse i s).prot.lastDemand = s.prot.lastDemand ∧ (abortPulse i s).prot.stop = s.prot.stop ∧
    (abortPulse i s).prot.safeOut = s.prot.safeOut := by
  unfold abortPulse; (repeat' split) <;> simp

@[simp] theorem abortPulse_str (i : Nat) : (abortPulse i s).str = s.str := by
  unfold abortPulse; (repeat' split) <;> rfl

theorem openSafeOut_kept : (openSafeOut s).prot.demand = s.prot.demand ∧ (openSafeOut s).prot.demandCnt = s.prot.demandCnt ∧
    (openSafeOut s).prot.lastDemand = s.prot.lastDemand ∧ (openSafeOut s).prot.stop = s.prot.stop ∧
    (openSafeOut s).prot.safeOut = false ∧ (openSafeOut s).str = s.str := by
  unfold openSafeOut
  simp [abortPulse_kept]

/-- A safe stop runs after it began or was joined (R387); a trip opened the safety outputs. -/
theorem safeStop_kept (trip : Bool) : (safeStop trip s).prot.demand = s.prot.demand ∧
    (safeStop trip s).prot.demandCnt = s.prot.demandCnt ∧ (safeStop trip s).prot.lastDemand = s.prot.lastDemand ∧
    (safeStop trip s).prot.stop ≠ none ∧ (trip = true → (safeStop trip s).prot.safeOut = false) ∧
    (safeStop trip s).str.causes = s.str.causes ∧ (safeStop trip s).str.state = s.str.state := by
  have h := openSafeOut_kept s
  cases trip <;> simp only [safeStop] <;> split <;> simp_all [stopSlots, gateSafeOff]

theorem latchCause_mem (c : LatchedCause) (l : List LatchedCause) (h : c.active = true) :
    ∃ x ∈ latchCause c l, x.code = c.code ∧ x.active = true ∧ c.cls ≤ x.cls := by
  unfold latchCause
  split
  · rename_i g
    obtain ⟨y, hy, e⟩ := List.any_eq_true.mp g
    refine ⟨_, List.mem_map.mpr ⟨y, hy, rfl⟩, ?_⟩
    simp only [decide_eq_true_eq] at e
    simp [e]
  · exact ⟨c, by simp, rfl, h, Nat.le_refl _⟩

@[simp] theorem latchClass2_str (code cls : Nat) : (latchClass2 code cls s).str = s.str := by unfold latchClass2; split <;> rfl
@[simp] theorem latchClass2_pair (code cls : Nat) : (latchClass2 code cls s).pair = s.pair := by unfold latchClass2; split <;> rfl
@[simp] theorem latchClass2_prot (code cls : Nat) : (latchClass2 code cls s).prot = s.prot := by unfold latchClass2; split <;> rfl
@[simp] theorem tripNote_str (fn code : Nat) : (tripNote fn code s).str = s.str := rfl
@[simp] theorem tripNote_prot (fn code : Nat) : (tripNote fn code s).prot = s.prot := rfl
@[simp] theorem writeTripCopy_str : (writeTripCopy s).str = s.str := by unfold writeTripCopy; dsimp only; split <;> rfl
@[simp] theorem writeTripCopy_prot : (writeTripCopy s).prot = s.prot := by unfold writeTripCopy; dsimp only; split <;> rfl

/-- FAULT entered or stayed in: what `setState` at the end of a decision keeps. -/
theorem faulting (code cls : Nat) (t : State) (h : Latched code cls t) (hs : t.prot.stop ≠ none) (e : t.str.state = s.str.state) :
    FaultedBy code cls s (if faultable t.str.state then setState .fault code t else t) := by
  obtain ⟨l, hp⟩ := setState_prot t .fault code
  obtain ⟨c, hc, a, b⟩ := h
  split
  · refine ⟨⟨c, ?_, a, b⟩, ?_, fun _ => ?_⟩ <;> simp_all
  · exact ⟨⟨c, hc, a, b⟩, hs, fun g => by simp_all⟩

/-- A decision of FAULT (R35, R42, R387), and the demand counters it leaves alone. -/
theorem decideFault_faulted (code cls : Nat) (trip : Bool) (fn : Nat) : FaultedBy code cls s (decideFault code cls trip fn s) ∧
    (decideFault code cls trip fn s).prot.demand = s.prot.demand ∧ (decideFault code cls trip fn s).prot.demandCnt = s.prot.demandCnt ∧
    (decideFault code cls trip fn s).prot.lastDemand = s.prot.lastDemand ∧
    (trip = true → (decideFault code cls trip fn s).prot.safeOut = false) := by
  have hm := latchCause_mem { code := code, cls := cls, trip := trip, fn := fn } s.str.causes rfl
  obtain ⟨x, hx, a, b, c⟩ := hm
  let s1 := s |> onStr (fun x => { x with causes := latchCause { code := code, cls := cls, trip := trip, fn := fn } x.causes })
    |> latchClass2 code cls
  let s2 := if trip then tripNote fn code s1 else s1
  let s3 := if trip then writeTripCopy (safeStop trip s2) else safeStop trip s2
  have e : decideFault code cls trip fn s = if faultable s3.str.state then setState .fault code s3 else s3 := rfl
  have k := safeStop_kept s2 trip
  have hs3 : s3.prot = (safeStop trip s2).prot ∧ s3.str = (safeStop trip s2).str := by
    cases trip <;> simp [s3]
  have hs2 : s2.prot = s.prot ∧ s2.str.state = s.str.state ∧ s2.str.causes = latchCause { code := code, cls := cls, trip := trip, fn := fn } s.str.causes := by
    cases trip <;> simp [s2, s1]
  rw [e]
  refine ⟨faulting s code cls s3 ⟨x, ?_, a, b, c⟩ ?_ ?_, ?_⟩
  · rw [hs3.2, k.2.2.2.2.2.1, hs2.2.2]; exact hx
  · rw [hs3.1]; exact k.2.2.2.1
  · rw [hs3.2, k.2.2.2.2.2.2, hs2.2.1]
  · obtain ⟨l, hp⟩ := setState_prot s3 .fault code
    split <;> simp_all

/-- A demand of a safety function (R378, R379, R409, R559). -/
theorem sfDemand_demanded (fn cause cls : Nat) (trip : Bool) (item : Nat) (v : Int) (lim : Option Int)
    (h : countsTo24h fn = true → cls ≤ 1) : Demanded fn cause cls trip s (sfDemand fn cause cls trip item v lim s) := by
  unfold sfDemand
  dsimp only
  obtain ⟨⟨⟨x, hx, ha, hb, hc⟩, b, c⟩, d, e, f, g⟩ := decideFault_faulted (demandRecord fn cause item v lim s) cause
    (if countsTo24h fn && decide (3 ≤ recentDemands fn (demandRecord fn cause item v lim s)) then 1 else cls) trip fn
  refine ⟨⟨⟨x, hx, ha, hb, ?_⟩, b, ?_⟩, ?_, ?_, ?_, g⟩
  · refine Nat.le_trans ?_ hc
    split
    · rename_i k; exact h (by simp_all)
    · exact Nat.le_refl _
  · simpa [demandRecord] using c
  · rw [e]; simp [demandRecord]
  · rw [f]; simp [demandRecord]
  · rw [d]; simp [demandRecord]

@[simp] theorem setSync_sync (n : SyncState) : (setSync n s).tb.sync = n := by
  unfold setSync; dsimp only; split
  · assumption
  · simp
theorem setSync_gm (n : SyncState) (h : n ≠ .pairFollow) : (setSync n s).tb.gm = s.tb.gm := by
  unfold setSync; dsimp only; split <;> simp_all
@[simp] theorem setSync_offset (n : SyncState) : (setSync n s).tb.offset = s.tb.offset := by
  unfold setSync; dsimp only; split <;> simp
theorem setSync_pendingSync (n : SyncState) (h : n ≠ .pairFollow) : (setSync n s).tb.pendingSync = s.tb.pendingSync := by
  unfold setSync; dsimp only; split <;> simp_all

@[simp] theorem abortPulse_pins (i : Nat) : (abortPulse i s).pins = s.pins := by
  unfold abortPulse; (repeat' split) <;> rfl
@[simp] theorem openSafeOut_str : (openSafeOut s).str = s.str := by simp [openSafeOut]
@[simp] theorem openSafeOut_pins : (openSafeOut s).pins = s.pins := by simp [openSafeOut]
@[simp] theorem openImd_str : (openImd s).str = s.str := by simp [openImd]
@[simp] theorem openImd_pins : (openImd s).pins = s.pins := by simp [openImd]
@[simp] theorem onContactor_str (k : Nat) (g) : (onContactor k g s).str = s.str := rfl
@[simp] theorem onContactor_pins (k : Nat) (g) : (onContactor k g s).pins = s.pins := rfl
@[simp] theorem coilOff_str (k : Nat) : (coilOff k s).str = s.str := by simp [coilOff]
@[simp] theorem coilOff_pins (k : Nat) : (coilOff k s).pins = s.pins := by simp [coilOff]
@[simp] theorem coilsOff_str : (coilsOff s).str = s.str := by simp [coilsOff]
@[simp] theorem coilsOff_pins : (coilsOff s).pins = s.pins := by simp [coilsOff]
@[simp] theorem canOff_str : (canOff s).str = s.str := rfl
@[simp] theorem canOff_pins : (canOff s).pins = s.pins := rfl
@[simp] theorem canOff_pair : (canOff s).pair = s.pair := rfl

/-- The owner gives up (R422). -/
theorem giveUp_gaveUp (code : Nat) : GaveUp code s (giveUp code s) := by
  unfold GaveUp giveUp releaseOwnership thermOff
  refine ⟨?_, ?_, ?_, ?_, ?_, ?_, ?_⟩ <;> simp

@[simp] theorem trialFails_pair : (trialFails s).pair = s.pair := by unfold trialFails; split <;> simp
@[simp] theorem trialFails_str : (trialFails s).str = s.str := by unfold trialFails; split <;> simp
@[simp] theorem trialFails_pins : (trialFails s).pins = s.pins := by unfold trialFails; split <;> simp
@[simp] theorem trialFails_prot : (trialFails s).prot = s.prot := by unfold trialFails; split <;> simp

/-- An admission that restarts (R428). -/
theorem admissionRestart_images (cause : Nat) : (admissionRestart cause s).pair.partner = .images ∧
    (admissionRestart cause s).pair.localFault = s.pair.localFault ∧ (admissionRestart cause s).str = s.str ∧
    (admissionRestart cause s).prot = s.prot := by
  unfold admissionRestart
  refine ⟨?_, ?_, ?_, ?_⟩ <;> simp

theorem leaveAfternoon_pair (s : State) : (leaveAfternoon s).pair = s.pair ∧ (leaveAfternoon s).str = s.str ∧ (leaveAfternoon s).prot = s.prot :=
  ⟨rfl, rfl, rfl⟩

theorem ringNotes_kept (ms : List Note) (s : State) : (ringNotes ms s).pair = s.pair ∧ (ringNotes ms s).str = s.str ∧ (ringNotes ms s).prot = s.prot := by
  have k := fun p => Frame.of_blank (ringNotes_blank (pl := [.irq, .rings, .rung]) (by decide) ms s) p
  exact ⟨k .pair rfl, k .str rfl, k .prot rfl⟩

/-- A standby's own fault (R429). -/
theorem standbyFault_local : LocalFaulted s (standbyFault s) := by
  unfold LocalFaulted standbyFault
  have a := admissionRestart_images (s := s |> onPair fun p => { p with localFault := true }) causeLocal
  simp only [Bool.or_eq_true, decide_eq_true_eq]
  split
  · rename_i h
    split
    · have b := ringNotes_kept (wakeNotes (admissionRestart causeLocal (onPair (fun p => { p with localFault := true }) s))
        (leaveAfternoon (admissionRestart causeLocal (onPair (fun p => { p with localFault := true }) s))))
        (leaveAfternoon (admissionRestart causeLocal (onPair (fun p => { p with localFault := true }) s)))
      have c := leaveAfternoon_pair (admissionRestart causeLocal (onPair (fun p => { p with localFault := true }) s))
      refine ⟨?_, ?_, ?_, fun _ => ?_⟩
      · rw [b.1, c.1, a.2.1]; rfl
      · rw [b.2.1, c.2.1, a.2.2.1]; rfl
      · rw [b.2.2, c.2.2, a.2.2.2]; rfl
      · rw [b.1, c.1, a.1]
    · exact ⟨a.2.1, a.2.2.1, a.2.2.2, fun _ => a.1⟩
  · rename_i h
    have n : ¬(s.pair.partner = .images ∨ s.pair.partner = .heartbeats ∨ s.pair.partner = .admitted) := by simpa [or_assoc] using h
    split
    · have b := ringNotes_kept (wakeNotes (onPair (fun p => { p with localFault := true }) s)
        (leaveAfternoon (onPair (fun p => { p with localFault := true }) s))) (leaveAfternoon (onPair (fun p => { p with localFault := true }) s))
      refine ⟨?_, ?_, ?_, fun g => absurd g n⟩
      · rw [b.1]; rfl
      · rw [b.2.1]; rfl
      · rw [b.2.2]; rfl
    · exact ⟨rfl, rfl, rfl, fun g => absurd g n⟩

/-- A fault of the module's hardware (R41, R387, R429). -/
theorem hardwareFault_faulted (code cls : Nat) : HardwareFaulted code cls s (hardwareFault code cls s) := by
  unfold HardwareFaulted hardwareFault isSp
  simp only [decide_eq_true_eq]
  split
  · have h := standbyFault_local (s := latchClass2 code cls s)
    simpa [LocalFaulted] using h
  · exact (decideFault_faulted s code cls false 0).1

/-- A module fault (R420). -/
theorem moduleFault_faulted (code cls : Nat) : ModuleFaulted code cls s (moduleFault code cls s) := by
  unfold ModuleFaulted moduleFault partnerAdmitted
  simp only [trialFails_str, trialFails_pair, Bool.and_eq_true, decide_eq_true_eq]
  split
  · have := giveUp_gaveUp (trialFails s) code
    simpa [GaveUp] using this
  · have := hardwareFault_faulted (trialFails s) code cls
    simpa [HardwareFaulted, LocalFaulted, FaultedBy] using this

@[simp] theorem countStatus_out (status : Nat) : (countStatus status s).out = s.out := by
  unfold countStatus; dsimp only; (repeat' split) <;> rfl
@[simp] theorem countStatus_tb (status : Nat) : (countStatus status s).tb = s.tb := by
  unfold countStatus; dsimp only; (repeat' split) <;> rfl
@[simp] theorem countStatus_cfg (status : Nat) : (countStatus status s).cfg = s.cfg := by
  unfold countStatus; dsimp only; (repeat' split) <;> rfl
@[simp] theorem onSession_out (id : Nat) (g) : (onSession id g s).out = s.out := rfl

/-- The guard band reads the launch queues, the counter and the image's EEE alone. -/
theorem quiet_congr {s t : State} (h : t.tb = s.tb) (k : t.cfg = s.cfg) (q : Nat) : quiet t q = quiet s q := by
  simp only [quiet, quietNs, queueAt, h, k]
  rfl

/-- A response is sent (R120, R437). -/
theorem sendDgram_sent (ring : Nat) (d : Dgram) : Sent d s (sendDgram ring d s) := by
  unfold Sent sendDgram emitDgram holdFrame
  dsimp only
  split <;> simp

/-- Sending reads of the state before only what left, the guard band's inputs and nothing else. -/
theorem Sent.congr {d : Dgram} {s s' t t' : State} (h : Sent d s t) (a : s'.out = s.out) (b : s'.tb = s.tb) (c : s'.cfg = s.cfg)
    (e : t'.out = t.out) : Sent d s' t' := by
  unfold Sent at *
  rw [quiet_congr b c, e, a]
  exact h

theorem responseDgrams_one (r : HostReq) (status : Nat) (payload : Bytes) (h : payload.length ≤ 1400) :
    ∃ d, responseDgrams s r status payload = [d] ∧ d.port = r.port ∧ d.addr = r.addr ∧ d.udp = r.udp ∧ d.kind = 2 ∧
      d.session = r.session ∧ d.seq = r.seq ∧ d.code = r.code ∧ d.status = status ∧ d.payload = payload := by
  have e : payload.take 8192 = payload := List.take_of_length_le (by omega)
  have f : fragments 6 payload = [payload] := by simp [fragments, h]
  refine ⟨_, by simp only [responseDgrams, e, f, mapI, mapIdxFrom]; rfl, ?_⟩
  simp [Dgram.tagged]

/-- A response of one fragment leaves, and it is the last datagram to have left (R437, R439, R457). -/
theorem respond_answered (r : HostReq) (status : Nat) (payload : Bytes) (h : payload.length ≤ 1400) :
    Answered r r.code status payload s (respond r status payload s) := by
  obtain ⟨d, hd, k⟩ := responseDgrams_one s r status payload h
  refine ⟨d, (sendDgram_sent (countStatus status s) (4 + intakeRing r.code) d).congr ?_ ?_ ?_ ?_, k⟩
  · simp
  · simp
  · simp
  · unfold respond answerOnce
    simp only [hd, List.foldl_cons, List.foldl_nil]
    split <;> rfl

end
end Sys2Proof.Machine
end

