-- ==== Sys2Proof/WellFormed.lean ====
section
/-! DEFINITION. Which commands the hardware's surroundings can send: the ranges of the operands that the commands carry. The
meanings are total and need none of these: an operand that names no unit of the block changes nothing (assumption 2). -/
namespace Sys2Proof

/-- One tick's inputs: eight ΔΣ channels with the words of R154 (at most six, in a tick of 75 µs), four SARs, six gate links, four safety inputs, three contactors
(R26, R167, R326, R384, R391). -/
def TickIn.wf (t : TickIn) : Bool :=
  t.words.length = 8 && t.words.all (·.length ≤ 6) && t.sar.length = 4 && t.gl.length = 6 && t.j8.length = 4 && t.coil.length = 3 && t.hs.length = 3

/-- Arrays, lanes, ring words, slots, coils and records that a Dawn step can name (R128 to R147, R271, R500). -/
def DawnIn.wf (d : DawnIn) : Bool :=
  d.badRows.all (fun r => decide (r.1 < 2)) && d.badLanes.all (· < 68) && d.slotJudge.1 ≤ 6 && d.slotJudge.2 ≤ 6 &&
    d.badDs.all (· < 8) && d.coilMa.length ≤ 3 && d.auxClosed.length ≤ 3 && d.glAddr.length ≤ 6 && d.glDelay.length ≤ 6 &&
    d.badBlocks.all (fun b => decide (b.1 < 7) && decide (b.2 < 1024)) && (d.badRecs ++ d.badHeads ++ d.badPayloads).all (· < 4294967296)

/-- A request's fields within their widths (R437, R445). -/
def HostReq.wf (r : HostReq) : Bool :=
  r.session < 65536 && r.port < 3 && r.addr < 4294967296 && r.udp < 65536 && r.seq < 4294967296 && r.code < 65536 &&
    r.args.length ≤ 1400

/-- A CAN frame has an identifier of at most 29 bits and at most 64 bytes (R470). -/
def CanFrame.wf (f : CanFrame) : Bool := f.id < 536870912 && f.data.length ≤ 64

/-- A Sync's identity is a port identity of 10 bytes, its number a uint16 (R109). -/
def PtpSync.wf (m : PtpSync) : Bool := m.source.length = 10 && m.seq < 65536 && m.domain < 256

/-- A Pdelay_Req has the identity of a port, and numbers of their widths. -/
def PtpFrom.wf (m : PtpFrom) : Bool := m.source.length = 10 && m.seq < 65536 && m.domain < 256

/-- An Announce's fields within their widths (R107). -/
def AnnounceIn.wf (a : AnnounceIn) : Bool :=
  a.domain < 256 && a.source.length = 10 && a.gmId.length = 8 && a.prio1 < 256 && a.class_ < 256 && a.accuracy < 256 &&
    a.variance < 65536 && a.prio2 < 256 && a.stepsRemoved < 65536

/-- The operands of a command name units and values the spec gives the block. -/
def Instr.wf : Instr → Bool
  | .sampleInstant t => t.wf
  | .dutyTransfer => true
  | .fastComparatorTrip cmp => cmp < 6
  | .frameLatch => true
  | .outerLoops => true
  | .frameProtectionEvaluation => true
  | .limitsAndDispatch => true
  | .tick16Evaluation => true
  | .snapshotInstant => true
  | .voltageBankComplete => true
  | .positionFilters => true
  | .dropSetComplete => true
  | .temperatureSetComplete => true
  | .shareSolve _ => true
  | .thermalLoops di flow => di.length = 4 && flow.length ≤ 4
  | .tickOverrun item => (1 ≤ item && item ≤ 4) || (0x10 ≤ item && item ≤ 0x14) || (0x20 ≤ item && item ≤ 0x27)
  | .clkRefLost => true
  | .railFault rail v => rail < 5 && v < 65536
  | .auxPowerApplied reason => reason < 2
  | .j1BelowThreshold => true
  | .j1Restored => true
  | .auxLost => true
  | .fullOperationEnd => true
  | .brownOutSaveComplete _ => true
  | .auxOvervoltage => true
  | .auxOvervoltageCleared => true
  | .peCheck m => m < 4294967296
  | .peOpenCleared => true
  | .sensSupplyFault supply => supply < 65536
  | .syncReceived m => m.wf
  | .followUpReceived m _ _ => m.wf
  | .followUpTimeout => true
  | .pdelayReqDue _ => true
  | .pdelayRespReceived m _ _ _ _ => m.wf
  | .pdelayReqReceived m _ _ => m.head.wf
  | .announceReceived a => a.wf
  | .announceReceiptTimeout => true
  | .ptpOffsetUnusable => true
  | .holdoverExpired => true
  | .timeStep => true
  | .rtcWriteback => true
  | .rtcCorrection _ => true
  | .launchTimeReached q _ => q < 3
  | .dawnStepEnd d => d.wf
  | .dawnStepTimeout => true
  | .lampTestEnd => true
  | .refDisagree => true
  | .refSettled => true
  | .refSettleTimeout => true
  | .settlingEnd ch => ch < 8
  | .dsOverrange ch => ch < 8
  | .dsOverrangeEnd ch => ch < 8
  | .currentChDisagree => true
  | .ds7DwellEnd _ _ => true
  | .ds7InjectionTestDone _ => true
  | .sarTrigger t at_ => t.ch < 4 && 0 < t.kind && t.kind ≤ 8 && at_ < 75000
  | .sarSequenceDone r => r.ch < 4 && r.raw.length ≤ 8 && r.raw.all (·.length ≤ 16)
  | .housekeepingRoundStart => true
  | .housekeepingRoundComplete raw _ => raw.length ≤ 32 && raw.all (· < 4096)
  | .sysCalCaptureDone _ _ => true
  | .sysCalSuspendTimeout => true
  | .captureComplete xs gaps => xs.length ≤ 65536 && gaps.all (· ≤ 65536)
  | .skaleyFrameLaunch port => port < 2
  | .skaleyFrameReturned port _ _ _ => port < 2
  | .skaleyFrameTimeout port => port < 2
  | .skaleyCarrierLoss port => port < 2
  | .ringHealed => true
  | .voltageStale pos => pos < 640
  | .dropStale cell => cell < 16384
  | .tempStale i => i < 5120
  | .onDemandSnapshotRequest r => r.wf
  | .impedanceBlockStart => true
  | .lockinIntegrationStart => true
  | .lockinIntegrationEnd => true
  | .impedanceReduction => true
  | .autoSweepDue => true
  | .tIntExpired pos => pos < 640
  | .phaseRampDownComplete p => p < 3
  | .phaseReenable p => p < 3
  | .schedCoefWrite => true
  | .setpointTimeout => true
  | .balSchedule => true
  | .balApplicationInstant => true
  | .balWatchdog place => place < 40
  | .bcTimeMaxReached => true
  | .flowLost di => di < 4
  | .flowRestored di => di < 4
  | .leakDetected di => di < 4
  | .leakCleared di => di < 4
  | .chillerRequest => true
  | .chillerStatusReceived => true
  | .chillerLost => true
  | .safetyInputDeenergized i => i < 4
  | .safetyInputRestored i => i < 4
  | .estopDiscrepancy => true
  | .safeStopCoilsOff => true
  | .auxContactChange k _ => k < 3
  | .contCloseTimeout k => k < 3
  | .contOpenTimeout k => k < 3
  | .contDropped k => k < 3
  | .coilPullInEnd k => k < 3
  | .coilCurrentFault k _ => k < 3
  | .prechargeHoldEnd => true
  | .prechargeTimeout => true
  | .stoppingZeroCurrent => true
  | .stopTimeout => true
  | .twilightExhausted => true
  | .twilightBudgetReset => true
  | .testPulseStart k => k < 6
  | .testPulseEnd _ _ => true
  | .testIntervalEnd => true
  | .inputTest l => l.length = 4
  | .cmpTest cmp _ => cmp < 6
  | .codeCrcCheck _ => true
  | .watchdogExpiry => true
  | .lockstepMismatch => true
  | .isoHalfPeriodEnd _ _ _ => true
  | .isoPassiveMeasurement _ _ => true
  | .isoInvalid => true
  | .helloDue => true
  | .helloReceived _ => true
  | .helloListenTimeout => true
  | .ownInRise _ => true
  | .ownInFall => true
  | .heartbeatDeadline => true
  | .failoverFirstFrame => true
  | .mirrorHeartbeatReceived _ => true
  | .mirrorControlReceived _ _ => true
  | .mirrorBankReceived _ => true
  | .mirrorImageSegmentReceived _ => true
  | .sbStatusReceived _ => true
  | .handoverReceived _ => true
  | .handoverAcceptTimeout => true
  | .handoverTick => true
  | .keyxReceived _ => true
  | .blobReceived _ => true
  | .admissionHeartbeatsComplete => true
  | .imageSegmentOverdue => true
  | .partnerLost => true
  | .hostDatagramReceived port a u _ => port < 2 && a < 4294967296 && u < 65536
  | .openReq port a u _ => port < 3 && a < 4294967296 && u < 65536
  | .openAuth port a u _ => port < 3 && a < 4294967296 && u < 65536
  | .openAuthTimeout x => x < 65536
  | .sessionIdleTimeout x => x < 65536
  | .objectNotificationDue x e => x < 65536 && e < 32
  | .bulkAbandoned t => t = 1 || t = 2
  | .arpRequest port t => port < 2 && t < 4294967296
  | .icmpEchoRequest port a d _ => port < 2 && a < 4294967296 && d < 4294967296
  | .modbusConnect port a => port < 2 && a < 4294967296
  | .modbusRead c pdu => c < 4 && pdu.length ≤ 253
  | .modbusIdleTimeout c => c < 4
  | .read r => r.wf
  | .subscribe r => r.wf
  | .keepalive r => r.wf
  | .close r => r.wf
  | .bulkWrite r => r.wf
  | .keySet r => r.wf
  | .connect r => r.wf
  | .start r => r.wf
  | .setPoint r => r.wf
  | .stop r => r.wf
  | .disconnect r => r.wf
  | .clearFault r => r.wf
  | .restart r => r.wf
  | .shutdown r => r.wf
  | .enterService r => r.wf
  | .exitService r => r.wf
  | .restoreState r => r.wf
  | .freeze r => r.wf
  | .freezeLogFreeze r => r.wf
  | .freezeLogThaw r => r.wf
  | .pairHandover r => r.wf
  | .plugWrite r => r.wf
  | .capture r => r.wf
  | .opStartCapLearn r => r.wf
  | .opStartSysCal r => r.wf
  | .opStartImpedanceSweep r => r.wf
  | .opStartBalanceCampaign r => r.wf
  | .opStartInsulationTest r => r.wf
  | .opStartLogExport r => r.wf
  | .opStartUpdateStage r => r.wf
  | .suspend r => r.wf
  | .resume r => r.wf
  | .cancel r => r.wf
  | .updPiece r => r.wf
  | .stagingEraseDone => true
  | .updInstallDone _ => true
  | .updTrialConfirm => true
  | .canFrameReceived c f => c < 2 && f.wf
  | .canTxComplete c m _ => c < 2 && m < 32
  | .canBusError c _ _ _ _ => c < 2
  | .canBusOffRecovery c => c < 2
  | .tripCopyResend => true
  | .irqSourceEvent src _ => src < 192
  | .irqCoalesceTimeout src => src < 192
  | .irqClaim t => t < 6
  | .irqEoi t _ => t < 6
  | .irqSrcCfgWrite src _ _ => src < 192
  | .irqThresholdWrite t _ => t < 6
  | .registerWrite r _ => r < 64
  | .ringReserve r _ => r < 64
  | .ringCommit r k _ _ => r < 64 && k < 128
  | .ringRewind r => r < 64
  | .ringRelease r => r < 64
  | .ringWordRead r _ _ => r < 64
  | .recordIntake r => 40 ≤ r && r ≤ 47
  | .recordCloseTimeout => true
  | .recordFlush => true
  | .rateWindowEnd => true
  | .limitedPeriodEnd => true
  | .freezeLogMaxElapsed => true
  | .logExportChunk => true
  | .sramScrubRow _ _ => true
  | .eccError => true
  | .laneTest _ => true
  | .flashRefresh r _ _ => r < 256
  | .flashOperationDone r _ _ => r < 256
  | .estimationJobDone j => j < 4
  | .restoreBlobBuild => true
  | .restoreWaitTimeout => true
  | .restMinReached => true
  | .capLearnTimeout => true
  | .journalDeltaDue => true
  | .journalPeriodicDelta => true
  | .afternoonReentry => true
  | .resetInputChange _ _ => true
  | .resetHold => true
  | .resetStuck => true
  | .resetReleased => true
  | .freezeNAsserted => true
  | .plugDetChange _ => true
  | .pairPresentChange _ => true
  | .linkChange port _ => port < 3
  | .usbFrameReceived _ => true
  | .jtagBypass => true
  | .jtagIdcode => true
  | .jtagFrzStatus => true
  | .jtagMemAddr a => a < 4294967296
  | .jtagMemData => true
  | .holdupBankBelow20v => true
  | .j16UsbMateChange _ => true
  | .isoSlotBoundary => true
  | .canBusIntegration c => c < 2

end Sys2Proof
end

