-- ==== Sys2Proof/Tests/Slice0.lean ====
section
/-! SUPPORT. Tests: commands that are not well formed, and for each statement's clauses states and operands that meet all its
hypotheses together. -/
set_option Elab.async false
namespace Sys2Proof.Tests
open Sys2Proof Sys2Proof.Machine

/-- An open session of a slot, and a request it sends. -/
def sess (slot : Nat) : Session := { id := 5, state := 2, slot := slot, port := 0, addr := 1, udp := 1 }
def rq (code : Nat) (args : Bytes) : HostReq := { session := 5, port := 0, addr := 1, udp := 1, seq := 1, code := code, args := args }
def op (kind : Nat) : Op := { handle := 7, kind := kind, session := 5 }
def tickIn : TickIn :=
  { box0 := 0, box1 := 0, n := 1250, words := List.replicate 8 [], sar := [some 0, some 0, some 0, some 0], gl := List.replicate 6 none,
    j8 := [true, true, true, true], coil := [0, 0, 0], hs := [true, true, true] }
def syncIn : PtpSync := { domain := 0, source := List.replicate 10 1, seq := 3, twoStep := false, t1 := 100, corr := 0, t2 := 900, interval := 1000000000 }
def respIn : PtpFrom := { domain := 0, source := List.replicate 10 1, seq := 0 }
def reqIn : PdelayReqIn := { head := { domain := 0, source := List.replicate 10 1, seq := 3 }, corr := 5 }
def annIn : AnnounceIn :=
  { domain := 0, source := List.replicate 10 1, gmId := List.replicate 8 1, prio1 := 128, class_ := 6, accuracy := 33, variance := 0,
    prio2 := 128, stepsRemoved := 254, ptpTimescale := true, utcOffset := 37, utcValid := true, interval := 1000000000 }
def ann : Announce := announceData annIn
def psync : PendingSync := { source := List.replicate 10 1, seq := 3, t2 := 900, corr := 1, since := 0, interval := 1000000000 }
def jrec : JRec := { st := .pending, kind := 1, jseq := 1, stringId := 0, p := 1, s := 1, time := 0, entries := [] }

/-- A lone module at Noon in STANDBY, long after its Dawn, with one position of one cell and a session of the SERVICE role. -/
def noon : State :=
  { State.reset with
    str.state := .standby, str.role := some .solo, dawn.step := none, tick.now := 100000000000000, tb.time := 100000000000000,
    pins.sklTx := true, pins.lampTest := false, cfg.safety.p := 1, cfg.safety.s := 1, cfg.safety.monN := 1,
    host.sessions := [some (sess 2)], jrn.mounted := true, rcd.windowStart := none, tab.poss := [{}], est.mode := .running }
/-- The same with a session of the UPDATE role. -/
def noonU : State := { noon with host.sessions := [some (sess 3)] }
/-- A string that runs. -/
def runs : State := { noon with str.state := .run }
/-- The owner of an admitted pair, and its standby. -/
def act : State := { noon with str.role := some .active, cfg.safety.pair := true, pins.sfpUp := true, pins.pairCable := true, pair.partner := .admitted, pair.ownOut := true }
def sp : State := { act with str.role := some .standbyPair, pair.ownOut := false, pins.sklTx := false }

theorem admitted_of {least : Nat} {r : HostReq} {s : State} (x : Session) (a : serves s r = true) (b : openSession s r = some x)
    (c : permits x.slot least = true) : Admitted least r s := ⟨a, x, b, c⟩
/-- A frame of the pair link, with its CRC. -/
def mframe (mtype sender seq mtick role state : Nat) (p : Bytes) : Bytes :=
  let h := u8 mtype ++ u8 sender ++ u16 1 ++ u32 seq ++ u64 mtick ++ u16 p.length ++ u8 role ++ u8 state ++ p
  h ++ u32 (crc32c h)
def mrx (mtype sender seq mtick role state : Nat) (p : Bytes) : MirrorRx :=
  { mtype := mtype, sender := sender, format := 1, seq := seq, mtick := mtick, role := role, state := state, payload := p }
theorem partnered_of {mtype : Nat} {frame : Bytes} {r : MirrorRx} {s : State}
    (h : pairOn s = true ∧ parseMirror frame = some r ∧ r.mtype = mtype ∧ (r.sender ≠ s.cfg.small.member % 256 ∨ mtype = 5) ∧
      (∀ m ∈ s.pair.mseqRx, r.seq = (m + 1) % 4294967296)) : Partnered mtype frame r s :=
  ⟨h.1, h.2.1, h.2.2.1, h.2.2.2.1, fun m e => h.2.2.2.2 m e⟩
def bankOf (seq : Nat) : Bank := { st := 2, seq := seq, vals := [some 3700] }
def volt1 : Banked := { b0 := bankOf 1, newest := some 0, filling := 1, seq := 1 }
def filling0 : Banked := { b0 := { st := 1, vals := [some 3700] } }
def learn1 : CapLearn := { start := 0 }
def pkt : Packet := { kind := 0, poison := false, len := 2, bytes := List.replicate 8 0 }
def ring1 : Ring := { pkts := [pkt], wr := 3, wrShadow := 3, pktWr := 1, cfg := 0x08040000 }
def rings1 : List Ring := List.replicate 64 ring1
def rec1 : Rec := { time := 0, seq := 1, code := 0, sev := 0, src := 0 }
def staging1 : Staging := { updId := 1, xferLen := 131072 }
def sweep1 : Sweep := { handle := 7, plan := 0 }
def plan1 : List (List PlanBlock) := [[{ length := 20, tones := [(1000, 500)] }]]
def sklF (t : Nat) : SklFrame := { type_ := t, dest := 0, payload := [] }
/-- A Skaley frame as it comes back, with its CRC. -/
def sklB (t flags seq : Nat) : Bytes :=
  let h := u8 t ++ u8 flags ++ u16 seq ++ u16 0 ++ u16 0
  h ++ u32 (crc32c h)
def mon1 : List Monitor := List.replicate 40 { balAt := 1 }
/-- A datagram on port 0 from the session's peer, with a tag of zeros. -/
def dg (kind session seq code : Nat) (p : Bytes) : RxDgram :=
  { port := 0, addr := 1, udp := 1
    bytes := u32 0x5053564B ++ u8 1 ++ u8 kind ++ u16 session ++ u32 seq ++ u16 code ++ u16 0 ++ u16 p.length ++ List.replicate 6 0 ++ p ++ List.replicate 16 0 }
/-- A bulk buffer of the session with four bytes, and the frames of the pair link that the tests receive. -/
def bulk4 : Bulk := { owner := 5, data := [(0, 1), (1, 2), (2, 3), (3, 4)] }
def hover (tick phase : Nat) : Bytes := u64 tick ++ u8 phase ++ List.replicate 7 0
def beat0 : MirrorBeat := { tick := 0, health := 1, mode := 0, phases := 0, q := 0, qfrac := 0, duty := [], ref := 0, ownQ := 0 }
def imageP : Bytes := u32 9 ++ u16 0 ++ u16 65 ++ List.replicate 1024 0
/-- The next state of an outcome, for a test that names it. -/
def outcome (o : Host.Outcome State Fault Refusal) : State := match o with | .next t => t | _ => State.reset

/-! ### Commands that are not well formed -/

theorem test_ill_formed_1 :
    ([.sampleInstant ({ tickIn with sar := [] }), .fastComparatorTrip 6, .thermalLoops [] [], .tickOverrun 0x15, .railFault 5 0, .auxPowerApplied 2, .peCheck 4294967296, .sensSupplyFault 65536, .syncReceived ({ syncIn with seq := 65536 }), .followUpReceived ({ respIn with source := [] }) 0 0, .followUpReceived ({ respIn with seq := 65536 }) 0 0, .pdelayRespReceived ({ respIn with domain := 256 }) 0 0 0 0, .pdelayReqReceived ({ head := { respIn with seq := 65536 }, corr := 0 }) 0 0] : List Instr).all (fun i => !i.wf) = true := by decide +kernel
theorem test_ill_formed_2 :
    ([.announceReceived ({ annIn with domain := 256 }), .launchTimeReached 3 0, .dawnStepEnd ({ slotJudge := (7, 0) }), .dawnStepEnd ({ badHeads := [4294967296] }), .settlingEnd 8, .dsOverrange 8, .dsOverrangeEnd 8, .sarTrigger { ch := 0, kind := 9 } 0, .sarTrigger { ch := 0, kind := 1 } 75000, .sarSequenceDone { ch := 4, raw := [] }, .captureComplete [] [65537], .housekeepingRoundComplete [4096] [], .skaleyFrameLaunch 2, .skaleyFrameReturned 2 true 0 [], .skaleyFrameTimeout 2] : List Instr).all (fun i => !i.wf) = true := by decide +kernel
theorem test_ill_formed_3 :
    ([.skaleyCarrierLoss 2, .voltageStale 640, .dropStale 16384, .tempStale 5120, .onDemandSnapshotRequest { rq 0 [] with seq := 4294967296 }, .tIntExpired 640, .phaseRampDownComplete 3, .phaseReenable 3, .balWatchdog 40, .flowLost 4, .flowRestored 4, .leakDetected 4] : List Instr).all (fun i => !i.wf) = true := by decide +kernel
theorem test_ill_formed_4 :
    ([.leakCleared 4, .safetyInputDeenergized 4, .safetyInputRestored 4, .auxContactChange 3 true, .contCloseTimeout 3, .contOpenTimeout 3, .contDropped 3, .coilPullInEnd 3, .coilCurrentFault 3 0, .testPulseStart 6, .inputTest [true], .cmpTest 6 true] : List Instr).all (fun i => !i.wf) = true := by decide +kernel
theorem test_ill_formed_5 :
    ([.hostDatagramReceived 2 0 0 [], .openReq 3 0 0 [], .openAuth 3 0 0 [], .openAuthTimeout 65536, .sessionIdleTimeout 65536, .objectNotificationDue 0 32, .bulkAbandoned 3, .arpRequest 2 0, .icmpEchoRequest 2 0 0 [], .modbusConnect 2 0, .modbusRead 4 [], .modbusIdleTimeout 4] : List Instr).all (fun i => !i.wf) = true := by decide +kernel
theorem test_ill_formed_6 :
    ([.read { rq 0 [] with seq := 4294967296 }, .subscribe { rq 0 [] with seq := 4294967296 }, .keepalive { rq 0 [] with seq := 4294967296 }, .close { rq 0 [] with seq := 4294967296 }, .bulkWrite { rq 0 [] with seq := 4294967296 }, .keySet { rq 0 [] with seq := 4294967296 }, .connect { rq 0 [] with seq := 4294967296 }, .start { rq 0 [] with seq := 4294967296 }, .setPoint { rq 0 [] with seq := 4294967296 }, .stop { rq 0 [] with seq := 4294967296 }, .disconnect { rq 0 [] with seq := 4294967296 }, .clearFault { rq 0 [] with seq := 4294967296 }] : List Instr).all (fun i => !i.wf) = true := by decide +kernel
theorem test_ill_formed_7 :
    ([.restart { rq 0 [] with seq := 4294967296 }, .shutdown { rq 0 [] with seq := 4294967296 }, .enterService { rq 0 [] with seq := 4294967296 }, .exitService { rq 0 [] with seq := 4294967296 }, .restoreState { rq 0 [] with seq := 4294967296 }, .freeze { rq 0 [] with seq := 4294967296 }, .freezeLogFreeze { rq 0 [] with seq := 4294967296 }, .freezeLogThaw { rq 0 [] with seq := 4294967296 }, .pairHandover { rq 0 [] with seq := 4294967296 }, .plugWrite { rq 0 [] with seq := 4294967296 }, .capture { rq 0 [] with seq := 4294967296 }, .opStartCapLearn { rq 0 [] with seq := 4294967296 }] : List Instr).all (fun i => !i.wf) = true := by decide +kernel
theorem test_ill_formed_8 :
    ([.opStartSysCal { rq 0 [] with seq := 4294967296 }, .opStartImpedanceSweep { rq 0 [] with seq := 4294967296 }, .opStartBalanceCampaign { rq 0 [] with seq := 4294967296 }, .opStartInsulationTest { rq 0 [] with seq := 4294967296 }, .opStartLogExport { rq 0 [] with seq := 4294967296 }, .opStartUpdateStage { rq 0 [] with seq := 4294967296 }, .suspend { rq 0 [] with seq := 4294967296 }, .resume { rq 0 [] with seq := 4294967296 }, .cancel { rq 0 [] with seq := 4294967296 }, .updPiece { rq 0 [] with seq := 4294967296 }, .canFrameReceived 0 ({ id := 536870912, remote := false, data := [] }), .canTxComplete 0 32 none] : List Instr).all (fun i => !i.wf) = true := by decide +kernel
theorem test_ill_formed_9 :
    ([.canBusError 2 0 0 false none, .canBusOffRecovery 2, .irqSourceEvent 192 true, .irqCoalesceTimeout 192, .irqClaim 6, .irqEoi 6 0, .irqSrcCfgWrite 192 true 0, .irqThresholdWrite 6 0, .registerWrite 64 0, .ringReserve 64 0, .ringCommit 0 128 false [], .ringRewind 64] : List Instr).all (fun i => !i.wf) = true := by decide +kernel
theorem test_ill_formed_10 :
    ([.ringRelease 64, .ringWordRead 64 0 true, .recordIntake 48, .flashRefresh 256 true true, .flashOperationDone 256 0 true, .estimationJobDone 4, .linkChange 3 true, .jtagMemAddr 4294967296, .canBusIntegration 2] : List Instr).all (fun i => !i.wf) = true := by decide +kernel
theorem test_well_formed : ([.sampleInstant tickIn, .syncReceived syncIn, .announceReceived annIn, .dawnStepEnd {}, .connect (rq 0x0200 []),
    .canFrameReceived 1 { id := 536870911, remote := false, data := [] }] : List Instr).all Instr.wf = true := by decide +kernel

/-! ### Worked examples of the spec -/

/-- R186, the worked example of shunt A: z = 412, s = 5,601,250 at 100 mV of index 0. The spec's 1,072,125,189 for G comes of its
rounded 8,432.67; the formula in whole numbers gives 1,072,125,190. -/
theorem test_calibration_example : calCoefs { index := 0, span := 100000000 } 412 5601250 = some (412, 1072125190) := by decide +kernel

/-- R335, R339, the worked example of dispatch: at 300 A the 30 s budget fills by 8,204 / 3,067,350 per second (to within the
grid of 2^-64 of assumption 8), and fresh budgets give E2. -/
theorem test_budget_example :
    absR (budgetStep 0 286000 429000 30 300000 * 1000 - 8204 / 3067350) < 1 / 1000000000000000 ∧
      appEnv { e2 := 572000, e30 := 429000, ec := 286000 } 0 0 = 572000 := by
  decide +kernel

/-- R359, the worked example of one monitor: 4,217.8 mA is sent as 4,200 mA, −3,128.9 mA as −3,100 mA. -/
theorem test_balance_rounding_example : to50 (42178 / 10) = 4200 ∧ to50 (-31289 / 10) = -3100 := by decide +kernel

/-- R480, R481, the worked example of a chiller status: source 24 of priority 3 on target 5, threshold 1, one event counted, claimed. -/
def chillerIrq : State :=
  { noon with irq.srcs := (State.reset.irq.srcs.take 24 ++ [{ cfg := 0xBA000000, coal := 0x000407D0, cnt := 1, latch := some 0xFFFFF000, expired := true }] ++
    State.reset.irq.srcs.drop 25), irq.tgts := List.replicate 6 { threshold := 1 } }
theorem test_claim_example :
    let t := outcome (exec (.irqClaim 5) chillerIrq)
    fld (nth {} t.irq.tgts 5).claimWord 9 0 = 24 ∧ (nth {} t.irq.tgts 5).claims = [24] := by decide +kernel

/-- R480, the same: with the threshold at 4 the claim is spurious and answers 0x3FF. -/
theorem test_spurious_example :
    let t := outcome (exec (.irqClaim 5) { chillerIrq with irq.tgts := List.replicate 6 { threshold := 4 } })
    (nth {} t.irq.tgts 5).claimWord = 0x3FF ∧ (nth {} t.irq.tgts 5).spurious = 1 := by decide +kernel

/-- R537: the IDCODE. -/
theorem test_idcode : (outcome (exec .jtagIdcode noon)).jtag.dr = 0x2C640A5B := by decide +kernel

/-- R1 to R4: sensor 3 of position 437 has index 3,499, and its position's monitor is 27 (R5). -/
theorem test_place_example : placeOf (3499 / 8) = 27 := by decide +kernel

/-- R81: the lamp test at the start of Dawn, and the front panel of a string at rest. -/
theorem test_lamp_test : leds State.reset = List.replicate 4 .amber := by decide +kernel
theorem test_leds : leds { noon with str.state := .run } = [.greenSteady, .greenSteady, .off, .off] := by decide +kernel

/-- R34: the commands taken from the front of the queue run in order; an empty queue idles (assumption 1). -/
theorem test_queue : (outcome (step { noon with pending := [.jtagBypass, .jtagIdcode] })).pending = [.jtagIdcode] := by decide +kernel
theorem test_table_word : State.withFetchWord noon 16 0xABCD = noon := by rfl

/-! ### States that meet the hypotheses of each clause of the statements -/

def w_StepRunsTheFrontCommand_2 : State := { noon with pending := [] }
theorem test_meets_StepRunsTheFrontCommand_2 :
    (w_StepRunsTheFrontCommand_2.pending = []) :=
  by decide +kernel

def w_SyncOffset_1 : State := { noon with tb.gm := some ann, tb.delays := [10, 30, 20] }
theorem test_meets_SyncOffset_1 :
    (ptpOn w_SyncOffset_1 = true) ∧ (syncIn.domain = w_SyncOffset_1.cfg.net.ptpDomain) ∧ (syncWanted w_SyncOffset_1 syncIn = true) ∧ (syncIn.twoStep = false) ∧ (nth {} w_SyncOffset_1.irq.srcs (rxSource w_SyncOffset_1)).latch = none ∧ (3 ≤ w_SyncOffset_1.tb.delays.length) ∧ (pathDelay w_SyncOffset_1 = some (20 : Int)) :=
  by decide +kernel

def w_SyncOffset_2 : State := { noon with tb.gm := some ann }
theorem test_meets_SyncOffset_2 :
    (ptpOn w_SyncOffset_2 = true) ∧ ({ syncIn with twoStep := true, interval := 62500000 } : PtpSync).domain = w_SyncOffset_2.cfg.net.ptpDomain ∧ (syncWanted w_SyncOffset_2 ({ syncIn with twoStep := true, interval := 62500000 } : PtpSync) = true) ∧ ({ syncIn with twoStep := true, interval := 62500000 } : PtpSync).twoStep = true ∧ (nth {} w_SyncOffset_2.irq.srcs (rxSource w_SyncOffset_2)).latch = none :=
  by decide +kernel

def w_SyncOffset_3 : State := { noon with tb.pendingSync := some psync, tb.delays := [10, 30, 20] }
theorem test_meets_SyncOffset_3 :
    (ptpOn w_SyncOffset_3 = true) ∧ (w_SyncOffset_3.tb.pendingSync = some psync) ∧ (3 ≤ w_SyncOffset_3.tb.delays.length) ∧ (pathDelay w_SyncOffset_3 = some (20 : Int)) :=
  by decide +kernel

def w_SyncOffset_4 : State := { noon with tb.pendingSync := some psync }
theorem test_meets_SyncOffset_4 :
    (w_SyncOffset_4.tb.pendingSync = some psync) ∧ (elapsed w_SyncOffset_4 psync.since psync.interval = true) :=
  by decide +kernel

def w_SyncOffset_5 : State := { noon with irq.srcs := List.replicate 192 { latch := some 5 } }
theorem test_meets_SyncOffset_5 :
    (ptpOn w_SyncOffset_5 = true) ∧ (syncIn.domain = w_SyncOffset_5.cfg.net.ptpDomain) ∧ (nth {} w_SyncOffset_5.irq.srcs (rxSource w_SyncOffset_5)).latch ≠ none :=
  by decide +kernel

def w_PeerDelay_1 : State := { noon with tb.pdelayAt := none }
theorem test_meets_PeerDelay_1 :
    (ptpOn w_PeerDelay_1 = true) ∧ (w_PeerDelay_1.tb.pdelayAt = none) ∧ (queueAt w_PeerDelay_1 w_PeerDelay_1.cfg.net.ptpPort).length < 32 :=
  by decide +kernel

def w_PeerDelay_2 : State := { noon with tb.pdelayAt := none, tb.q0 := List.replicate 32 { at_ := 1, frame := .pdelayReq { seq := 0, domain := 0 } } }
theorem test_meets_PeerDelay_2 :
    (ptpOn w_PeerDelay_2 = true) ∧ (w_PeerDelay_2.tb.pdelayAt = none) ∧ (32 ≤ (queueAt w_PeerDelay_2 w_PeerDelay_2.cfg.net.ptpPort).length) ∧ (nth {} w_PeerDelay_2.irq.srcs (txSource w_PeerDelay_2)).latch = none :=
  by decide +kernel

def w_PeerDelay_3 : State := { noon with tb.pdelayT1 := some (99999723553918 : Int), tb.delays := [400, 400, 400] }
theorem test_meets_PeerDelay_3 :
    (ptpOn w_PeerDelay_3 = true) ∧ (respIn.domain = w_PeerDelay_3.cfg.net.ptpDomain) ∧ (respIn.seq = w_PeerDelay_3.tb.pdelaySeq) ∧ (w_PeerDelay_3.tb.pdelayT1 = some (99999723553918 : Int)) ∧ (nth {} w_PeerDelay_3.irq.srcs (rxSource w_PeerDelay_3)).latch = none ∧ (500 : Int) = divRound ((extendStamp w_PeerDelay_3.tb.time (latchOf 900) - rxLatency w_PeerDelay_3 - (99999723553918 : Int)) - ((200 : Int) - (100 : Int)) - ((0 : Int) + w_PeerDelay_3.cfg.small.asymmetry)) 2 :=
  by decide +kernel

def w_PeerDelay_4 : State := { noon with cfg.fallback := false }
theorem test_meets_PeerDelay_4 :
    (netUp w_PeerDelay_4 = true) ∧ (w_PeerDelay_4.cfg.fallback = false) ∧ (linkUpAt w_PeerDelay_4 w_PeerDelay_4.cfg.net.ptpPort = true) ∧ (reqIn.head.domain = w_PeerDelay_4.cfg.net.ptpDomain) ∧ (nth {} w_PeerDelay_4.irq.srcs (rxSource w_PeerDelay_4)).latch = none ∧ (nth {} w_PeerDelay_4.irq.srcs (txSource w_PeerDelay_4)).latch = none :=
  by decide +kernel

def w_Grandmaster_1 : State := { noon with tb.gm := none }
theorem test_meets_Grandmaster_1 :
    (ptpOn w_Grandmaster_1 = true) ∧ (annIn.domain = w_Grandmaster_1.cfg.net.ptpDomain) ∧ (annIn.ptpTimescale = true) ∧ (annIn.stepsRemoved < 255) ∧ (w_Grandmaster_1.tb.gm = none) :=
  by decide +kernel

def w_Grandmaster_2 : State := { noon with tb.gm := some ann }
theorem test_meets_Grandmaster_2 :
    (w_Grandmaster_2.tb.gm = some ann) ∧ (elapsed w_Grandmaster_2 w_Grandmaster_2.tb.announceAt (3 * ann.interval) = true) :=
  by decide +kernel

def w_Grandmaster_3 : State := { noon with tb.unusableSince := some 0, tb.sync := .acquiring }
theorem test_meets_Grandmaster_3 :
    (w_Grandmaster_3.tb.unusableSince = some 0) ∧ (w_Grandmaster_3.tb.sync = .acquiring ∨ w_Grandmaster_3.tb.sync = .locked) ∧ (elapsed w_Grandmaster_3 0 (secNs 3) = true) :=
  by decide +kernel

def w_Grandmaster_4 : State := { noon with tb.sync := .holdover }
theorem test_meets_Grandmaster_4 :
    (w_Grandmaster_4.tb.sync = .holdover) ∧ (elapsed w_Grandmaster_4 w_Grandmaster_4.tb.holdoverSince (secNs w_Grandmaster_4.cfg.small.holdoverMax) = true) :=
  by decide +kernel

def w_ClockEvents_1 : State := { noon with tb.step := some (-123456 : Int), tab.volt := filling0 }
theorem test_meets_ClockEvents_1 :
    (w_ClockEvents_1.tb.step = some (-123456 : Int)) :=
  by decide +kernel

def w_ClockEvents_2 : State := { noon with tb.sync := .locked }
theorem test_meets_ClockEvents_2 :
    (w_ClockEvents_2.tb.sync = .locked) ∧ (∀ x ∈ w_ClockEvents_2.tb.rtcWroteAt, elapsed w_ClockEvents_2 x (secNs 60) = true) :=
  by decide +kernel

def w_ClockEvents_3 : State := { noon with tick.refLost := false }
theorem test_meets_ClockEvents_3 :
    (w_ClockEvents_3.tick.refLost = false) ∧ (running w_ClockEvents_3 = true) ∧ (∀ x ∈ w_ClockEvents_3.tb.rtcCheckAt, elapsed w_ClockEvents_3 x (secNs 1) = true) :=
  by decide +kernel

def w_ClockEvents_4 : State := { noon with tick.refLost := false }
theorem test_meets_ClockEvents_4 :
    (w_ClockEvents_4.tick.refLost = false) :=
  by decide +kernel

def w_ClockEvents_5 : State := { noon with tb.q1 := [{ at_ := 100000000000000, frame := .pdelayReq { seq := 0, domain := 0 } }] }
theorem test_meets_ClockEvents_5 :
    (1 < 3) ∧ (running w_ClockEvents_5 = true) ∧ (linkUpAt w_ClockEvents_5 1 = true) ∧ (takeEarliest (queueAt w_ClockEvents_5 1) = some ({ at_ := w_ClockEvents_5.tb.time, frame := .pdelayReq ({ seq := 0, domain := 0 } : PtpHead) }, [])) ∧ ({ seq := 0, domain := 0 } : PtpHead).seq = w_ClockEvents_5.tb.pdelaySeq ∧ (nth {} w_ClockEvents_5.irq.srcs (txSource w_ClockEvents_5)).latch = none :=
  by decide +kernel

def w_ClockEvents_6 : State := { noon with tb.q0 := [{ at_ := 99999999949999, frame := .pdelayReq { seq := 0, domain := 0 } }], cfg.small.launchLateMax := 50000 }
theorem test_meets_ClockEvents_6 :
    (0 < 3) ∧ (running w_ClockEvents_6 = true) ∧ (linkUpAt w_ClockEvents_6 0 = true) ∧ (takeEarliest (queueAt w_ClockEvents_6 0) = some (({ at_ := 99999999949999, frame := .pdelayReq { seq := 0, domain := 0 } } : LaunchEntry), [])) ∧ ({ at_ := 99999999949999, frame := .pdelayReq { seq := 0, domain := 0 } } : LaunchEntry).frame = .pdelayReq ({ seq := 0, domain := 0 } : PtpHead) ∧ ({ at_ := 99999999949999, frame := .pdelayReq { seq := 0, domain := 0 } } : LaunchEntry).at_ + w_ClockEvents_6.cfg.small.launchLateMax < w_ClockEvents_6.tb.time :=
  by decide +kernel

def w_JtagPort_3 : State := { noon with lad.frozen := false }
theorem test_meets_JtagPort_3 :
    (w_JtagPort_3.lad.frozen = false) :=
  by decide +kernel

def w_JtagPort_4 : State := { noon with lad.frozen := true, lad.freezeLast := some ({ time := 5, trigger := 1, state := 2, forced := true, role := 0 } : FreezeLast) }
theorem test_meets_JtagPort_4 :
    (w_JtagPort_4.lad.frozen = true) ∧ (w_JtagPort_4.lad.freezeLast = some ({ time := 5, trigger := 1, state := 2, forced := true, role := 0 } : FreezeLast)) ∧ ({ time := 5, trigger := 1, state := 2, forced := true, role := 0 } : FreezeLast).trigger < 128 ∧ ({ time := 5, trigger := 1, state := 2, forced := true, role := 0 } : FreezeLast).state < 256 ∧ ({ time := 5, trigger := 1, state := 2, forced := true, role := 0 } : FreezeLast).time < 2 ^ 32 :=
  by decide +kernel

def w_JtagPort_6 : State := { noon with lad.frozen := false }
theorem test_meets_JtagPort_6 :
    (w_JtagPort_6.lad.frozen = false) :=
  by decide +kernel

def w_JtagPort_7 : State := { noon with lad.frozen := true }
theorem test_meets_JtagPort_7 :
    (w_JtagPort_7.lad.frozen = true) :=
  by decide +kernel

def w_JtagPort_8 : State := { noon with lad.frozen := true, jtag.addr := 0x00400000, rings.rings := [{ base := 0, cfg := 0x08000000, pkts := [{ kind := 127, poison := false, len := 0, bytes := [] }] }] }
theorem test_meets_JtagPort_8 :
    (w_JtagPort_8.lad.frozen = true) ∧ (w_JtagPort_8.jtag.addr = 0x00400000) ∧ (w_JtagPort_8.rings.rings.head? = some ({ base := 0, cfg := 0x08000000, pkts := [{ kind := 127, poison := false, len := 0, bytes := [] }] } : Ring)) ∧ ({ base := 0, cfg := 0x08000000, pkts := [{ kind := 127, poison := false, len := 0, bytes := [] }] } : Ring).enabled = true ∧ ({ base := 0, cfg := 0x08000000, pkts := [{ kind := 127, poison := false, len := 0, bytes := [] }] } : Ring).base = 0 ∧ ({ base := 0, cfg := 0x08000000, pkts := [{ kind := 127, poison := false, len := 0, bytes := [] }] } : Ring).rd = 0 ∧ ({ base := 0, cfg := 0x08000000, pkts := [{ kind := 127, poison := false, len := 0, bytes := [] }] } : Ring).pkts = ({ kind := 127, poison := false, len := 0, bytes := [] } : Packet) :: [] ∧ ({ kind := 127, poison := false, len := 0, bytes := [] } : Packet).poison = false ∧ ({ kind := 127, poison := false, len := 0, bytes := [] } : Packet).kind < 128 ∧ ({ kind := 127, poison := false, len := 0, bytes := [] } : Packet).len < 65536 :=
  by decide +kernel

def w_ScanBanks_1 : State := { noon with tick.f := 0, tick.j := 0 }
theorem test_meets_ScanBanks_1 :
    (runsRing w_ScanBanks_1 = true) ∧ (coresRun w_ScanBanks_1 = true) ∧ (w_ScanBanks_1.tick.f = 0) ∧ (w_ScanBanks_1.tick.j = 0) ∧ (geoP w_ScanBanks_1 ≠ 0) ∧ (lateRun 3 w_ScanBanks_1 = false) ∧ (lateRun 5 w_ScanBanks_1 = false) :=
  by decide +kernel

def w_ScanBanks_2 : State := { noon with tab.volt := filling0 }
theorem test_meets_ScanBanks_2 :
    (w_ScanBanks_2.tab.volt.get w_ScanBanks_2.tab.volt.filling).st = 1 ∧ (isSp w_ScanBanks_2 = false) ∧ (coresRun w_ScanBanks_2 = true) ∧ (w_ScanBanks_2.tick.f ≤ 3) :=
  by decide +kernel

def w_ScanBanks_3 : State := { noon with tab.drop := filling0, tick.c := 9, tick.f := 4 }
theorem test_meets_ScanBanks_3 :
    (w_ScanBanks_3.tab.drop.get w_ScanBanks_3.tab.drop.filling).st = 1 ∧ (isSp w_ScanBanks_3 = false) ∧ (coresRun w_ScanBanks_3 = true) ∧ (w_ScanBanks_3.tick.c % 10 = 9) ∧ (4 ≤ w_ScanBanks_3.tick.f) :=
  by decide +kernel

def w_ScanBanks_4 : State := { noon with tick.c := 49, tab.temp := filling0, tick.f := 4 }
theorem test_meets_ScanBanks_4 :
    (w_ScanBanks_4.tab.temp.get w_ScanBanks_4.tab.temp.filling).st = 1 ∧ (isSp w_ScanBanks_4 = false) ∧ (coresRun w_ScanBanks_4 = true) ∧ (w_ScanBanks_4.tick.c = 49) ∧ (4 ≤ w_ScanBanks_4.tick.f) :=
  by decide +kernel

def w_Estimator_1 : State := { noon with tab.volt := volt1, tick.f := 4 }
theorem test_meets_Estimator_1 :
    (w_Estimator_1.tab.volt.heldBy rdEst = some (bankOf 1 : Bank)) ∧ (isSp w_Estimator_1 = false) ∧ (w_Estimator_1.est.mode ≠ .noString) ∧ (coresRun w_Estimator_1 = true) ∧ (4 ≤ w_Estimator_1.tick.f) ∧ (w_Estimator_1.tick.f ≤ 7) ∧ (w_Estimator_1.est.lastSeq ≠ some (bankOf 1 : Bank).seq) :=
  by decide +kernel

def w_Estimator_2 : State := { noon with est.rested := false, tab.volt := volt1, est.lowSince := some 0, tab.poss := [{ vRef := some 3700 }] }
theorem test_meets_Estimator_2 :
    (w_Estimator_2.tab.volt.current = some (bankOf 1 : Bank)) ∧ (isSp w_Estimator_2 = false) ∧ (coresRun w_Estimator_2 = true) ∧ (w_Estimator_2.est.rested = false) ∧ (restHolds w_Estimator_2 = true) :=
  by decide +kernel

def w_Estimator_3 : State := { noon with est.learn := some learn1 }
theorem test_meets_Estimator_3 :
    (w_Estimator_3.est.learn = some learn1) ∧ (learn1.phase = 1) ∧ (elapsed w_Estimator_3 learn1.start (secNs 86400) = true) :=
  by decide +kernel

def w_Estimator_4 : State := noon
theorem test_meets_Estimator_4 :
    (3 < 4) :=
  by decide +kernel

def w_Estimator_5 : State := { noon with est.mode := .waitRestore }
theorem test_meets_Estimator_5 :
    (w_Estimator_5.est.mode = .waitRestore) ∧ (elapsed w_Estimator_5 w_Estimator_5.est.modeSince (secNs 60) = true) :=
  by decide +kernel

def w_Estimator_6 : State := { noon with tick.j := 0, tab.poss := [{ soc := some 1 }] }
theorem test_meets_Estimator_6 :
    (isSp w_Estimator_6 = false) ∧ (w_Estimator_6.tick.j = 0) ∧ (elapsed w_Estimator_6 w_Estimator_6.est.blobAt (secNs w_Estimator_6.cfg.cell.exportPeriod) = true) ∧ (w_Estimator_6.tab.poss ≠ []) ∧ (∀ e ∈ w_Estimator_6.tab.poss, e.soc ≠ none) :=
  by decide +kernel

def w_JournalRecords_1 : State := { noon with jrn.dirty := some 0 }
theorem test_meets_JournalRecords_1 :
    (journalReady w_JournalRecords_1 = true) ∧ (w_JournalRecords_1.jrn.dirty ≠ none) :=
  by decide +kernel

def w_JournalRecords_2 : State := noon
theorem test_meets_JournalRecords_2 :
    (journalReady w_JournalRecords_2 = true) ∧ (elapsed w_JournalRecords_2 w_JournalRecords_2.jrn.periodicAt (secNs 600) = true) :=
  by decide +kernel

def w_ScheduleEdges_1 : State := { noon with lad.unpowered := false }
theorem test_meets_ScheduleEdges_1 :
    (w_ScheduleEdges_1.lad.unpowered = false) ∧ (∀ k ∈ w_ScheduleEdges_1.tick.oddTick, (w_ScheduleEdges_1.tb.time + k) % 50000 = 0 ∧ w_ScheduleEdges_1.tb.time + k < 2 ^ 64) :=
  by decide +kernel

def w_ScheduleEdges_2 : State := noon
theorem test_meets_ScheduleEdges_2 :
    (running w_ScheduleEdges_2 = true) ∧ (w_ScheduleEdges_2.lad.rung ≤ 1) :=
  by decide +kernel

def w_ScheduleEdges_3 : State := { noon with lad.rung := 0 }
theorem test_meets_ScheduleEdges_3 :
    (running w_ScheduleEdges_3 = true) ∧ (w_ScheduleEdges_3.lad.rung = 0) :=
  by decide +kernel

def w_ScheduleEdges_4 : State := { noon with tick.j := 0, met.sysCal := none }
theorem test_meets_ScheduleEdges_4 :
    (running w_ScheduleEdges_4 = true) ∧ (w_ScheduleEdges_4.tick.j = 0) ∧ (w_ScheduleEdges_4.lad.rung ≤ 1) ∧ (w_ScheduleEdges_4.met.sysCal = none) :=
  by decide +kernel

def w_Tick16AndOverrun_1 : State := { noon with lad.rung := 0, tick.j := 16, host.commands := [], dsp.spReq := none }
theorem test_meets_Tick16AndOverrun_1 :
    (running w_Tick16AndOverrun_1 = true) ∧ (w_Tick16AndOverrun_1.lad.rung = 0) ∧ (w_Tick16AndOverrun_1.tick.j = 16) ∧ (w_Tick16AndOverrun_1.host.commands = []) ∧ (w_Tick16AndOverrun_1.dsp.spReq = none) ∧ (isSp w_Tick16AndOverrun_1 = false) ∧ (∀ k, (contAt w_Tick16AndOverrun_1 k).hsOk = true) ∧ (∀ k, (contAt w_Tick16AndOverrun_1 k).aux = true → (contAt w_Tick16AndOverrun_1 k).coil = true ∨ (contAt w_Tick16AndOverrun_1 k).state ≠ 0) :=
  by refine ⟨?_, ?_, ?_, ?_, ?_, ?_, by intro k; unfold contAt; split <;> decide +kernel, by intro k; unfold contAt; split <;> decide +kernel⟩ <;> decide +kernel

def w_Tick16AndOverrun_2 : State := noon
theorem test_meets_Tick16AndOverrun_2 :
    (itemRuns 1 w_Tick16AndOverrun_2 = true) ∧ (1 < 0x20) :=
  by decide +kernel

def w_Tick16AndOverrun_3 : State := { noon with cfg.therm.present := true }
theorem test_meets_Tick16AndOverrun_3 :
    (7 < 8) ∧ (itemRuns (0x20 + 7) w_Tick16AndOverrun_3 = true) ∧ (nth false w_Tick16AndOverrun_3.tick.late 7 = false) ∧ (w_Tick16AndOverrun_3.tick.late.length = 8) ∧ (w_Tick16AndOverrun_3.tick.runs.length = 8) :=
  by decide +kernel

def w_InterruptSources_1 : State := noon
theorem test_meets_InterruptSources_1 :
    (191 < 192) ∧ (191 < w_InterruptSources_1.irq.srcs.length) ∧ (sensed w_InterruptSources_1 191 = true) ∧ (isEvent 191 (nth {} w_InterruptSources_1.irq.srcs 191).cfg true = true) ∧ (nth {} w_InterruptSources_1.irq.srcs 191).cnt < 254 ∧ (w_InterruptSources_1.lad.rung = 1 → (((nth {} w_InterruptSources_1.irq.srcs 191).setLevel 191 true).bump (timeNs w_InterruptSources_1) w_InterruptSources_1.tick.now).deliverable 191 = false) :=
  by decide +kernel

def w_InterruptSources_2 : State := { noon with lad.rung := 1, irq.srcs := List.replicate 192 { cfg := 0xFA000000 } }
theorem test_meets_InterruptSources_2 :
    (3 < 192) ∧ (3 < w_InterruptSources_2.irq.srcs.length) ∧ (sensed w_InterruptSources_2 3 = true) ∧ (isEvent 3 (nth {} w_InterruptSources_2.irq.srcs 3).cfg true = true) ∧ (w_InterruptSources_2.lad.rung = 1) ∧ (fld (nth {} w_InterruptSources_2.irq.srcs 3).cfg 27 25 < 6) ∧ (((nth {} w_InterruptSources_2.irq.srcs 3).setLevel 3 true).bump (timeNs w_InterruptSources_2) w_InterruptSources_2.tick.now).deliverable 3 = true :=
  by decide +kernel

def w_InterruptSources_3 : State := { noon with lad.rung := 5 }
theorem test_meets_InterruptSources_3 :
    (sensed w_InterruptSources_3 3 = false) :=
  by decide +kernel

def w_InterruptSources_4 : State := { noon with lad.frozen := false, irq.srcs := List.replicate 192 { cnt := 1, timer := some 0, coal := 0x00010001 } }
theorem test_meets_InterruptSources_4 :
    (3 < 192) ∧ (3 < w_InterruptSources_4.irq.srcs.length) ∧ (w_InterruptSources_4.lad.frozen = false) ∧ (isLevel 3 (nth {} w_InterruptSources_4.irq.srcs 3).cfg = false) ∧ (fld (nth {} w_InterruptSources_4.irq.srcs 3).coal 15 0 ≠ 0) ∧ (nth {} w_InterruptSources_4.irq.srcs 3).cnt ≠ 0 ∧ (nth {} w_InterruptSources_4.irq.srcs 3).timer = some 0 ∧ (elapsed w_InterruptSources_4 0 (fld (nth {} w_InterruptSources_4.irq.srcs 3).coal 15 0 * 1000) = true) ∧ (w_InterruptSources_4.lad.rung = 1 → fld (nth {} w_InterruptSources_4.irq.srcs 3).cfg 31 31 = 0) :=
  by decide +kernel

def w_InterruptSources_5 : State := { noon with lad.frozen := false, lad.rung := 1, irq.srcs := List.replicate 192 { cnt := 1, timer := some 0, coal := 0x00010001, cfg := 0xFA000000 } }
theorem test_meets_InterruptSources_5 :
    (3 < 192) ∧ (3 < w_InterruptSources_5.irq.srcs.length) ∧ (w_InterruptSources_5.lad.frozen = false) ∧ (isLevel 3 (nth {} w_InterruptSources_5.irq.srcs 3).cfg = false) ∧ (fld (nth {} w_InterruptSources_5.irq.srcs 3).coal 15 0 ≠ 0) ∧ (nth {} w_InterruptSources_5.irq.srcs 3).cnt ≠ 0 ∧ (nth {} w_InterruptSources_5.irq.srcs 3).timer = some 0 ∧ (elapsed w_InterruptSources_5 0 (fld (nth {} w_InterruptSources_5.irq.srcs 3).coal 15 0 * 1000) = true) ∧ (w_InterruptSources_5.lad.rung = 1) ∧ (fld (nth {} w_InterruptSources_5.irq.srcs 3).cfg 31 31 = 1) ∧ (fld (nth {} w_InterruptSources_5.irq.srcs 3).cfg 27 25 < 6) :=
  by decide +kernel

def w_ClaimAndEoi_1 : State := { noon with irq.srcs := List.replicate 192 { cnt := 1, cfg := 0xFA000000 } }
theorem test_meets_ClaimAndEoi_1 :
    (5 < 6) ∧ (5 < w_ClaimAndEoi_1.irq.tgts.length) ∧ (nth {} w_ClaimAndEoi_1.irq.tgts 5).claims.length < 8 ∧ (selection w_ClaimAndEoi_1 5 = some 0) :=
  by decide +kernel

def w_ClaimAndEoi_2 : State := noon
theorem test_meets_ClaimAndEoi_2 :
    (5 < 6) ∧ (5 < w_ClaimAndEoi_2.irq.tgts.length) ∧ (nth {} w_ClaimAndEoi_2.irq.tgts 5).claims.length < 8 ∧ (selection w_ClaimAndEoi_2 5 = none) :=
  by decide +kernel

def w_ClaimAndEoi_3 : State := { noon with irq.tgts := List.replicate 6 { claims := [1, 2, 3, 4, 5, 6, 7, 8] } }
theorem test_meets_ClaimAndEoi_3 :
    (5 < 6) ∧ (5 < w_ClaimAndEoi_3.irq.tgts.length) ∧ (8 ≤ (nth {} w_ClaimAndEoi_3.irq.tgts 5).claims.length) :=
  by decide +kernel

def w_ClaimAndEoi_4 : State := { noon with irq.tgts := List.replicate 6 { claims := [1, 150] } }
theorem test_meets_ClaimAndEoi_4 :
    (5 < 6) ∧ (5 < w_ClaimAndEoi_4.irq.tgts.length) ∧ (fld ((150 : Word) : Word) 9 0 ∈ (nth {} w_ClaimAndEoi_4.irq.tgts 5).claims) :=
  by decide +kernel

def w_ClaimAndEoi_5 : State := { noon with irq.tgts := List.replicate 6 { claims := [1, 150] } }
theorem test_meets_ClaimAndEoi_5 :
    (5 < 6) ∧ (5 < w_ClaimAndEoi_5.irq.tgts.length) ∧ (fld ((151 : Word) : Word) 9 0 ∉ (nth {} w_ClaimAndEoi_5.irq.tgts 5).claims) :=
  by decide +kernel

def w_ControllerWrites_1 : State := noon
theorem test_meets_ControllerWrites_1 :
    (191 < 192) ∧ (191 < w_ControllerWrites_1.irq.srcs.length) ∧ (w_ControllerWrites_1.lad.rung = 1 → ({ nth {} w_ControllerWrites_1.irq.srcs 191 with cfg := (((0xFFFFFFFF : Word) : Word) &&& 0xFFC00000) ||| ((nth {} w_ControllerWrites_1.irq.srcs 191).cfg &&& 1) } : IrqSrc).deliverable 191 = false) :=
  by decide +kernel

def w_ControllerWrites_2 : State := noon
theorem test_meets_ControllerWrites_2 :
    (191 < 192) ∧ (191 < w_ControllerWrites_2.irq.srcs.length) ∧ (w_ControllerWrites_2.lad.rung = 1 → ({ nth {} w_ControllerWrites_2.irq.srcs 191 with coal := ((0xFFFFFFFF : Word) : Word) &&& 0x00FFFFFF } : IrqSrc).deliverable 191 = false) :=
  by decide +kernel

def w_ControllerWrites_3 : State := noon
theorem test_meets_ControllerWrites_3 :
    (5 < 6) ∧ (5 < w_ControllerWrites_3.irq.tgts.length) :=
  by decide +kernel

def w_ControllerWrites_4 : State := noon
theorem test_meets_ControllerWrites_4 :
    (63 < w_ControllerWrites_4.rings.rings.length) :=
  by decide +kernel

def w_RingTraffic_1 : State := { noon with rings.rings := rings1 }
theorem test_meets_RingTraffic_1 :
    (39 < w_RingTraffic_1.rings.rings.length) ∧ (ringAt w_RingTraffic_1 39).fits 2 = true :=
  by decide +kernel

def w_RingTraffic_2 : State := noon
theorem test_meets_RingTraffic_2 :
    (39 ≠ 46) ∧ (39 ≠ 47) ∧ (39 < w_RingTraffic_2.rings.rings.length) ∧ (ringAt w_RingTraffic_2 39).fits 2 = false :=
  by decide +kernel

def w_RingTraffic_3 : State := { noon with rings.rings := List.replicate 64 { ring1 with wrShadow := 5 } }
theorem test_meets_RingTraffic_3 :
    (39 ≠ 46) ∧ (39 ≠ 47) ∧ (39 < w_RingTraffic_3.rings.rings.length) ∧ (1 + wordsOf ([1, 2, 3] : Bytes) ≤ ptrDiff (ringAt w_RingTraffic_3 39).wrShadow (ringAt w_RingTraffic_3 39).wr) :=
  by decide +kernel

def w_RingTraffic_4 : State := noon
theorem test_meets_RingTraffic_4 :
    (63 < w_RingTraffic_4.rings.rings.length) :=
  by decide +kernel

def w_RingTraffic_5 : State := { noon with rings.rings := rings1 }
theorem test_meets_RingTraffic_5 :
    (39 ≠ 46) ∧ (39 ≠ 47) ∧ (39 < w_RingTraffic_5.rings.rings.length) ∧ (ringAt w_RingTraffic_5 39).pkts = pkt :: [] :=
  by decide +kernel

def w_RingTraffic_7 : State := { noon with rings.rings := rings1 }
theorem test_meets_RingTraffic_7 :
    (39 ≠ 46) ∧ (39 ≠ 47) ∧ (39 < w_RingTraffic_7.rings.rings.length) ∧ (findWord 0 2 (ringAt w_RingTraffic_7 39).pkts = some (some 0)) :=
  by decide +kernel

def w_RingTraffic_8 : State := { noon with rings.rings := rings1 }
theorem test_meets_RingTraffic_8 :
    (39 ≠ 46) ∧ (39 ≠ 47) ∧ (39 < w_RingTraffic_8.rings.rings.length) ∧ (findWord 0 0 (ringAt w_RingTraffic_8 39).pkts = some none) :=
  by decide +kernel

def w_RecordFolding_1 : State := { noon with rcd.freezeSession := 0, rcd.windowStart := none, rcd.openRec := none, rings.rings := rings1 }
theorem test_meets_RecordFolding_1 :
    (40 ≤ 40) ∧ (40 ≤ 47) ∧ (recorderRuns w_RecordFolding_1 = true) ∧ (w_RecordFolding_1.rcd.freezeSession = 0) ∧ (40 ≠ 46 ∨ (nth {} w_RecordFolding_1.irq.srcs 110).cnt < 254) ∧ (ringAt w_RecordFolding_1 40).pkts = pkt :: [] ∧ (pkt.poison = false) ∧ (ringAt w_RecordFolding_1 40).losses = [] ∧ (w_RecordFolding_1.rcd.windowStart = none) ∧ (w_RecordFolding_1.rcd.openRec = none) :=
  by decide +kernel

def w_RecordFolding_2 : State := { noon with rcd.freezeSession := 0, rcd.windowStart := none, rcd.openRec := some ({ rec1 with data := (Intake.decode pkt.bytes).data }, 5), rings.rings := rings1 }
theorem test_meets_RecordFolding_2 :
    (40 ≤ 47) ∧ (47 ≤ 47) ∧ (recorderRuns w_RecordFolding_2 = true) ∧ (w_RecordFolding_2.rcd.freezeSession = 0) ∧ (47 ≠ 46 ∨ (nth {} w_RecordFolding_2.irq.srcs 110).cnt < 254) ∧ (ringAt w_RecordFolding_2 47).pkts = pkt :: [] ∧ (pkt.poison = false) ∧ (ringAt w_RecordFolding_2 47).losses = [] ∧ (w_RecordFolding_2.rcd.windowStart = none) ∧ (w_RecordFolding_2.rcd.openRec = some (({ rec1 with data := (Intake.decode pkt.bytes).data } : Rec), 5)) ∧ ({ rec1 with data := (Intake.decode pkt.bytes).data } : Rec).code = (Intake.decode pkt.bytes).code ∧ ({ rec1 with data := (Intake.decode pkt.bytes).data } : Rec).sev = (Intake.decode pkt.bytes).sev ∧ ({ rec1 with data := (Intake.decode pkt.bytes).data } : Rec).src = (Intake.decode pkt.bytes).src ∧ ({ rec1 with data := (Intake.decode pkt.bytes).data } : Rec).data = (Intake.decode pkt.bytes).data ∧ ({ rec1 with data := (Intake.decode pkt.bytes).data } : Rec).rep < 65534 :=
  by decide +kernel

def w_RecordFolding_3 : State := { noon with rcd.freezeSession := 0, rcd.windowStart := some 0, rings.rings := rings1, rcd.counts := [{ code := 0, passed := 1000000 }] }
theorem test_meets_RecordFolding_3 :
    (40 ≤ 40) ∧ (40 ≤ 47) ∧ (recorderRuns w_RecordFolding_3 = true) ∧ (w_RecordFolding_3.rcd.freezeSession = 0) ∧ (40 ≠ 46 ∨ (nth {} w_RecordFolding_3.irq.srcs 110).cnt < 254) ∧ (ringAt w_RecordFolding_3 40).pkts = pkt :: [] ∧ (pkt.poison = false) ∧ (ringAt w_RecordFolding_3 40).losses = [] ∧ (w_RecordFolding_3.rcd.windowStart = some 0) ∧ (rateCount w_RecordFolding_3.cfg.small.rateLimit (Intake.decode pkt.bytes) w_RecordFolding_3.rcd.counts).1 = false :=
  by decide +kernel

def w_RecordFolding_4 : State := { noon with rcd.openRec := some (rec1, 0) }
theorem test_meets_RecordFolding_4 :
    (w_RecordFolding_4.rcd.openRec = some (rec1, 0)) ∧ (recorderRuns w_RecordFolding_4 = true) ∧ (elapsed w_RecordFolding_4 0 (secNs 60) = true) :=
  by decide +kernel

def w_RecordFolding_5 : State := { noon with rcd.freezeSession := 0, rcd.buffer := [(rec1, 0)] }
theorem test_meets_RecordFolding_5 :
    (recorderRuns w_RecordFolding_5 = true) ∧ (w_RecordFolding_5.rcd.freezeSession = 0) ∧ (w_RecordFolding_5.rcd.buffer = (rec1, 0) :: []) ∧ (w_RecordFolding_5.rcd.safety.length < 262144) ∧ (w_RecordFolding_5.rcd.shared.length < 1835008) :=
  by decide +kernel

def w_LogWindowsAndExport_1 : State := { noon with rcd.windowStart := some 0 }
theorem test_meets_LogWindowsAndExport_1 :
    (recorderRuns w_LogWindowsAndExport_1 = true) ∧ (w_LogWindowsAndExport_1.rcd.windowStart = some 0) ∧ (elapsed w_LogWindowsAndExport_1 0 (msNs w_LogWindowsAndExport_1.cfg.small.rateWindow) = true) ∧ (w_LogWindowsAndExport_1.rcd.seq < 4294967296) :=
  by decide +kernel

def w_LogWindowsAndExport_2 : State := { noon with rcd.windowStart := some 0 }
theorem test_meets_LogWindowsAndExport_2 :
    (recorderRuns w_LogWindowsAndExport_2 = true) ∧ (limited w_LogWindowsAndExport_2 = true) ∧ (limitHolds w_LogWindowsAndExport_2 = false) ∧ (w_LogWindowsAndExport_2.rcd.seq < 4294967296) :=
  by decide +kernel

def w_LogWindowsAndExport_3 : State := { noon with rcd.freezeSession := 5 }
theorem test_meets_LogWindowsAndExport_3 :
    (running w_LogWindowsAndExport_3 = true) ∧ (w_LogWindowsAndExport_3.rcd.freezeSession ≠ 0) ∧ (elapsed w_LogWindowsAndExport_3 w_LogWindowsAndExport_3.rcd.freezeSince (secNs w_LogWindowsAndExport_3.cfg.small.freezeMax) = true) :=
  by decide +kernel

def w_LogWindowsAndExport_4 : State := { noon with rcd.export_ := some ({ next := 1, to_ := 5, minSev := 0 } : Export), ops.ops := [op 6] }
theorem test_meets_LogWindowsAndExport_4 :
    (recorderRuns w_LogWindowsAndExport_4 = true) ∧ ({ next := 1, to_ := 5, minSev := 0 } : Export).frame ≠ some (w_LogWindowsAndExport_4.tb.time / 1000000) ∧ (w_LogWindowsAndExport_4.rcd.export_ = some ({ next := 1, to_ := 5, minSev := 0 } : Export)) ∧ (findOp w_LogWindowsAndExport_4 6 = some (op 6 : Op)) ∧ (op 6 : Op).opState = 0 ∧ (ringAt w_LogWindowsAndExport_4 (8 + (sessionIdx w_LogWindowsAndExport_4 (op 6 : Op).session).getD 0)).fillPkts < 64 ∧ (∀ r ∈ recordsFrom w_LogWindowsAndExport_4 ({ next := 1, to_ := 5, minSev := 0 } : Export).next 2097153, ({ next := 1, to_ := 5, minSev := 0 } : Export).to_ < r.seq) :=
  by decide +kernel

def w_LogWindowsAndExport_5 : State := { noon with rcd.export_ := some ({ next := 1, to_ := 5, minSev := 0 } : Export), ops.ops := [op 6], rcd.shared := [rec1] }
theorem test_meets_LogWindowsAndExport_5 :
    (recorderRuns w_LogWindowsAndExport_5 = true) ∧ ({ next := 1, to_ := 5, minSev := 0 } : Export).frame ≠ some (w_LogWindowsAndExport_5.tb.time / 1000000) ∧ (w_LogWindowsAndExport_5.rcd.export_ = some ({ next := 1, to_ := 5, minSev := 0 } : Export)) ∧ (findOp w_LogWindowsAndExport_5 6 = some (op 6 : Op)) ∧ (op 6 : Op).opState = 0 ∧ (ringAt w_LogWindowsAndExport_5 (8 + (sessionIdx w_LogWindowsAndExport_5 (op 6 : Op).session).getD 0)).fillPkts < 64 ∧ (((recordsFrom w_LogWindowsAndExport_5 ({ next := 1, to_ := 5, minSev := 0 } : Export).next 2097153).filter fun r => decide (r.seq ≤ ({ next := 1, to_ := 5, minSev := 0 } : Export).to_)).filter fun r => decide (({ next := 1, to_ := 5, minSev := 0 } : Export).minSev ≤ r.sev)) ≠ [] :=
  by decide +kernel

def w_SupplyDips_1 : State := { noon with pwr.j1High := true, pwr.j1Ok := true, lad.unpowered := false, pwr.stage := .none, pwr.holdupReady := true, pwr.insufficient := false }
theorem test_meets_SupplyDips_1 :
    (w_SupplyDips_1.pwr.j1High = true) ∧ (w_SupplyDips_1.pwr.j1Ok = true) ∧ (w_SupplyDips_1.lad.unpowered = false) ∧ (running w_SupplyDips_1 = true) ∧ (w_SupplyDips_1.pwr.stage = .none) ∧ (w_SupplyDips_1.pwr.holdupReady = true) ∧ (w_SupplyDips_1.pwr.insufficient = false) :=
  by decide +kernel

def w_SupplyDips_2 : State := { noon with pwr.j1High := true, pwr.j1Ok := true, lad.unpowered := false, pwr.stage := .none, pwr.holdupReady := false }
theorem test_meets_SupplyDips_2 :
    (w_SupplyDips_2.pwr.j1High = true) ∧ (w_SupplyDips_2.pwr.j1Ok = true) ∧ (w_SupplyDips_2.lad.unpowered = false) ∧ (running w_SupplyDips_2 = true) ∧ (w_SupplyDips_2.pwr.stage = .none) ∧ (w_SupplyDips_2.pwr.holdupReady = false) :=
  by decide +kernel

def w_SupplyDips_3 : State := { noon with pwr.j1High := false, pwr.auxOv := false, lad.unpowered := false, pwr.stage := .dip }
theorem test_meets_SupplyDips_3 :
    (w_SupplyDips_3.pwr.j1High = false) ∧ (w_SupplyDips_3.pwr.auxOv = false) ∧ (w_SupplyDips_3.lad.unpowered = false) ∧ (w_SupplyDips_3.pwr.stage = .dip) :=
  by decide +kernel

def w_SupplyDips_4 : State := { noon with pwr.j1High := false, pwr.auxOv := false, lad.unpowered := false, pwr.stage := .save }
theorem test_meets_SupplyDips_4 :
    (w_SupplyDips_4.pwr.j1High = false) ∧ (w_SupplyDips_4.pwr.auxOv = false) ∧ (w_SupplyDips_4.lad.unpowered = false) ∧ (w_SupplyDips_4.pwr.stage = .lost ∨ w_SupplyDips_4.pwr.stage = .save) :=
  by decide +kernel

def w_SupplyDips_5 : State := { noon with pwr.auxOv := false, lad.unpowered := false, pwr.j1Ok := true, pwr.stage := .none, pwr.holdupReady := true, pwr.insufficient := false }
theorem test_meets_SupplyDips_5 :
    (w_SupplyDips_5.pwr.auxOv = false) ∧ (w_SupplyDips_5.lad.unpowered = false) ∧ (w_SupplyDips_5.pwr.j1Ok = true) ∧ (running w_SupplyDips_5 = true) ∧ (w_SupplyDips_5.pwr.stage = .none) ∧ (w_SupplyDips_5.pwr.holdupReady = true) ∧ (w_SupplyDips_5.pwr.insufficient = false) :=
  by decide +kernel

def w_SupplyDips_6 : State := { noon with pwr.auxOv := true, lad.unpowered := false, pwr.stage := .none }
theorem test_meets_SupplyDips_6 :
    (w_SupplyDips_6.pwr.auxOv = true) ∧ (w_SupplyDips_6.lad.unpowered = false) ∧ (w_SupplyDips_6.pwr.stage = .none) ∧ (inOff w_SupplyDips_6 = false) :=
  by decide +kernel

def w_SupplyDips_7 : State := { noon with pwr.stage := .dip }
theorem test_meets_SupplyDips_7 :
    (w_SupplyDips_7.pwr.stage = .dip) ∧ (dipElapsed w_SupplyDips_7 (msNs 10) = true) :=
  by decide +kernel

def w_SupplyDips_8 : State := { noon with pwr.stage := .lost, pwr.lostAtOnce := true }
theorem test_meets_SupplyDips_8 :
    (w_SupplyDips_8.pwr.stage = .lost) ∧ (if w_SupplyDips_8.pwr.lostAtOnce = true then w_SupplyDips_8.prot.stop = none else dipElapsed w_SupplyDips_8 (msNs 20) = true) :=
  by decide +kernel

def w_SupplyDips_9 : State := { noon with pwr.j1High := false, pwr.auxOv := false, lad.unpowered := false, pwr.stage := .none, lad.offByAux := true, lad.frozen := false, str.state := .off }
theorem test_meets_SupplyDips_9 :
    (w_SupplyDips_9.pwr.j1High = false) ∧ (w_SupplyDips_9.pwr.auxOv = false) ∧ (w_SupplyDips_9.lad.unpowered = false) ∧ (w_SupplyDips_9.pwr.stage = .none) ∧ (inOff w_SupplyDips_9 = true) ∧ (w_SupplyDips_9.lad.offByAux = true) ∧ (w_SupplyDips_9.lad.frozen = false) :=
  by decide +kernel

def w_SupplyLossAndReturn_1 : State := { noon with pwr.stage := .save, pwr.j1Ok := false }
theorem test_meets_SupplyLossAndReturn_1 :
    (w_SupplyLossAndReturn_1.pwr.stage = .save) ∧ (w_SupplyLossAndReturn_1.pwr.j1Ok = false) :=
  by decide +kernel

def w_SupplyLossAndReturn_2 : State := { noon with pwr.stage := .save, pwr.j1Ok := false }
theorem test_meets_SupplyLossAndReturn_2 :
    (w_SupplyLossAndReturn_2.pwr.stage = .save) ∧ (w_SupplyLossAndReturn_2.pwr.j1Ok = false) :=
  by decide +kernel

def w_SupplyLossAndReturn_3 : State := { noon with pwr.stage := .save, pwr.j1Ok := true }
theorem test_meets_SupplyLossAndReturn_3 :
    (w_SupplyLossAndReturn_3.pwr.stage = .save) ∧ (w_SupplyLossAndReturn_3.pwr.j1Ok = true) :=
  by decide +kernel

def w_SupplyLossAndReturn_4 : State := { noon with lad.unpowered := true }
theorem test_meets_SupplyLossAndReturn_4 :
    (w_SupplyLossAndReturn_4.lad.unpowered = true) :=
  by decide +kernel

def w_SupplyLossAndReturn_5 : State := { noon with lad.unpowered := false, lad.offByAux := true, str.state := .off }
theorem test_meets_SupplyLossAndReturn_5 :
    (w_SupplyLossAndReturn_5.lad.unpowered = false) ∧ (inOff w_SupplyLossAndReturn_5 = true) ∧ (w_SupplyLossAndReturn_5.lad.offByAux = true) :=
  by decide +kernel

def w_SupplyLossAndReturn_6 : State := { noon with pwr.j1Ok := false, lad.unpowered := false, str.state := .off }
theorem test_meets_SupplyLossAndReturn_6 :
    (w_SupplyLossAndReturn_6.pwr.j1Ok = false) ∧ (w_SupplyLossAndReturn_6.lad.unpowered = false) ∧ (running w_SupplyLossAndReturn_6 = false) :=
  by decide +kernel

def w_SupplyLossAndReturn_7 : State := { noon with lad.unpowered := false }
theorem test_meets_SupplyLossAndReturn_7 :
    (w_SupplyLossAndReturn_7.lad.unpowered = false) :=
  by decide +kernel

def w_SupplyLossAndReturn_8 : State := { noon with pins.sensOn := true }
theorem test_meets_SupplyLossAndReturn_8 :
    (w_SupplyLossAndReturn_8.pins.sensOn = true) ∧ (running w_SupplyLossAndReturn_8 = true) :=
  by decide +kernel

def w_ResetAndFreeze_1 : State := { sp with lad.idleSince := some 0, pair.handoverPending := false, lad.rung := 0 }
theorem test_meets_ResetAndFreeze_1 :
    (w_ResetAndFreeze_1.lad.idleSince = some 0) ∧ (running w_ResetAndFreeze_1 = true) ∧ (isSp w_ResetAndFreeze_1 = true) ∧ (partnerAdmitted w_ResetAndFreeze_1 = true) ∧ (w_ResetAndFreeze_1.pair.handoverPending = false) ∧ (w_ResetAndFreeze_1.lad.rung = 0) ∧ (standbyIdle w_ResetAndFreeze_1 = true) ∧ (elapsed w_ResetAndFreeze_1 0 (msNs 10) = true) :=
  by decide +kernel

def w_ResetAndFreeze_2 : State := { noon with lad.unpowered := false, lad.closed := false }
theorem test_meets_ResetAndFreeze_2 :
    (w_ResetAndFreeze_2.lad.unpowered = false) ∧ (w_ResetAndFreeze_2.lad.closed = false) :=
  by decide +kernel

def w_ResetAndFreeze_3 : State := { noon with lad.unpowered := false, lad.closed := true, lad.resetDisabled := false, lad.closedSince := 99999951000000 }
theorem test_meets_ResetAndFreeze_3 :
    (49 = sinceNs w_ResetAndFreeze_3 w_ResetAndFreeze_3.lad.closedSince / 1000000) ∧ (w_ResetAndFreeze_3.lad.unpowered = false) ∧ (w_ResetAndFreeze_3.lad.closed = true) ∧ (w_ResetAndFreeze_3.lad.resetDisabled = false) ∧ (49 < 50) :=
  by decide +kernel

def w_ResetAndFreeze_4 : State := { noon with lad.unpowered := false, lad.closed := true, lad.resetDisabled := false, str.role := some .solo, lad.frozen := false, str.state := .service, lad.closedSince := 99999950000000 }
theorem test_meets_ResetAndFreeze_4 :
    (50 = sinceNs w_ResetAndFreeze_4 w_ResetAndFreeze_4.lad.closedSince / 1000000) ∧ (w_ResetAndFreeze_4.lad.unpowered = false) ∧ (w_ResetAndFreeze_4.lad.closed = true) ∧ (w_ResetAndFreeze_4.lad.resetDisabled = false) ∧ (50 ≤ 50) ∧ (50 < 2000) ∧ (w_ResetAndFreeze_4.str.role = some .solo) ∧ (w_ResetAndFreeze_4.lad.frozen = false) ∧ (w_ResetAndFreeze_4.str.state = .standby ∨ w_ResetAndFreeze_4.str.state = .fault ∨ w_ResetAndFreeze_4.str.state = .service) :=
  by decide +kernel

def w_ResetAndFreeze_5 : State := { noon with lad.unpowered := false, lad.closed := true, lad.resetDisabled := false, str.role := some .solo, lad.frozen := false, str.state := .closed, lad.closedSince := 99998001000000 }
theorem test_meets_ResetAndFreeze_5 :
    (1999 = sinceNs w_ResetAndFreeze_5 w_ResetAndFreeze_5.lad.closedSince / 1000000) ∧ (w_ResetAndFreeze_5.lad.unpowered = false) ∧ (w_ResetAndFreeze_5.lad.closed = true) ∧ (w_ResetAndFreeze_5.lad.resetDisabled = false) ∧ (50 ≤ 1999) ∧ (1999 < 2000) ∧ (w_ResetAndFreeze_5.str.role = some .solo) ∧ (w_ResetAndFreeze_5.lad.frozen = false) ∧ (w_ResetAndFreeze_5.str.state = .run ∨ w_ResetAndFreeze_5.str.state = .closed) :=
  by decide +kernel

def w_ResetAndFreeze_6 : State := { runs with lad.unpowered := false, lad.closed := true, lad.resetDisabled := false, lad.holdActive := false, lad.frozen := false, str.role := some .solo }
theorem test_meets_ResetAndFreeze_6 :
    (w_ResetAndFreeze_6.lad.unpowered = false) ∧ (w_ResetAndFreeze_6.lad.closed = true) ∧ (w_ResetAndFreeze_6.lad.resetDisabled = false) ∧ (w_ResetAndFreeze_6.lad.holdActive = false) ∧ (elapsed w_ResetAndFreeze_6 w_ResetAndFreeze_6.lad.closedSince (secNs 2) = true) ∧ (w_ResetAndFreeze_6.lad.frozen = false) ∧ (activeState w_ResetAndFreeze_6 = true) ∧ (w_ResetAndFreeze_6.str.role = some .solo) :=
  by decide +kernel

def w_ResetAndFreeze_7 : State := { noon with lad.unpowered := false, lad.closed := true, lad.resetDisabled := false, lad.frozen := false }
theorem test_meets_ResetAndFreeze_7 :
    (w_ResetAndFreeze_7.lad.unpowered = false) ∧ (w_ResetAndFreeze_7.lad.closed = true) ∧ (w_ResetAndFreeze_7.lad.resetDisabled = false) ∧ (elapsed w_ResetAndFreeze_7 w_ResetAndFreeze_7.lad.closedSince (secNs 10) = true) ∧ (w_ResetAndFreeze_7.lad.frozen = false) :=
  by decide +kernel

def w_ResetAndFreeze_8 : State := { noon with lad.openSince := some 0, lad.unpowered := false, lad.resetDisabled := true, lad.closed := false }
theorem test_meets_ResetAndFreeze_8 :
    (w_ResetAndFreeze_8.lad.openSince = some 0) ∧ (w_ResetAndFreeze_8.lad.unpowered = false) ∧ (w_ResetAndFreeze_8.lad.resetDisabled = true) ∧ (w_ResetAndFreeze_8.lad.closed = false) ∧ (elapsed w_ResetAndFreeze_8 0 (secNs 1) = true) :=
  by decide +kernel

def w_ResetAndFreeze_9 : State := { noon with lad.unpowered := false, lad.frozen := false, lad.freezeReq := none, str.state := .standby, str.role := some .solo }
theorem test_meets_ResetAndFreeze_9 :
    (w_ResetAndFreeze_9.lad.unpowered = false) ∧ (w_ResetAndFreeze_9.lad.frozen = false) ∧ (w_ResetAndFreeze_9.lad.freezeReq = none) ∧ (w_ResetAndFreeze_9.str.state = .standby) ∧ (w_ResetAndFreeze_9.str.role = some .solo) :=
  by decide +kernel

def w_ResetAndFreeze_10 : State := { noon with lad.unpowered := false, lad.frozen := false, lad.freezeReq := none, str.state := .run, str.role := some .solo }
theorem test_meets_ResetAndFreeze_10 :
    (w_ResetAndFreeze_10.lad.unpowered = false) ∧ (w_ResetAndFreeze_10.lad.frozen = false) ∧ (w_ResetAndFreeze_10.lad.freezeReq = none) ∧ (w_ResetAndFreeze_10.str.state = .run) ∧ (w_ResetAndFreeze_10.str.role = some .solo) :=
  by decide +kernel

def w_ConnectorEvents_1 : State := { noon with lad.unpowered := false, pins.plugDet := true }
theorem test_meets_ConnectorEvents_1 :
    (w_ConnectorEvents_1.lad.unpowered = false) ∧ (w_ConnectorEvents_1.pins.plugDet = true) ∧ (w_ConnectorEvents_1.str.state ≠ .off) :=
  by decide +kernel

def w_ConnectorEvents_2 : State := { noon with lad.unpowered := false, pins.plugDet := false }
theorem test_meets_ConnectorEvents_2 :
    (w_ConnectorEvents_2.lad.unpowered = false) ∧ (w_ConnectorEvents_2.pins.plugDet = false) ∧ (w_ConnectorEvents_2.str.state ≠ .off) :=
  by decide +kernel

def w_ConnectorEvents_3 : State := { noon with lad.unpowered := false, lad.frozen := false, pins.plugDet := false, str.state := .off }
theorem test_meets_ConnectorEvents_3 :
    (w_ConnectorEvents_3.lad.unpowered = false) ∧ (w_ConnectorEvents_3.pins.plugDet ≠ true) ∧ (w_ConnectorEvents_3.lad.frozen = false) ∧ (inOff w_ConnectorEvents_3 = true) :=
  by decide +kernel

def w_ConnectorEvents_4 : State := { noon with lad.unpowered := false, pins.pairCable := true, cfg.safety.pair := true, pair.partner := .admitted }
theorem test_meets_ConnectorEvents_4 :
    (w_ConnectorEvents_4.lad.unpowered = false) ∧ (w_ConnectorEvents_4.pins.pairCable = true) ∧ (running w_ConnectorEvents_4 = true) ∧ (w_ConnectorEvents_4.cfg.safety.pair = true) ∧ (w_ConnectorEvents_4.pair.partner = .admitted) :=
  by decide +kernel

def w_ConnectorEvents_5 : State := { noon with pins.sfpUp := false, pins.sfpBad := false }
theorem test_meets_ConnectorEvents_5 :
    (w_ConnectorEvents_5.pins.sfpUp = false) ∧ (w_ConnectorEvents_5.pins.sfpBad = false) :=
  by decide +kernel

def w_ConnectorEvents_6 : State := { noon with pins.eth1Up := true, str.state := .off }
theorem test_meets_ConnectorEvents_6 :
    (w_ConnectorEvents_6.pins.eth1Up = true) :=
  by decide +kernel

def w_ConnectorEvents_7 : State := noon
theorem test_meets_ConnectorEvents_7 :
    ([2, 7] : Bytes) = (if ([2, 7, 0] : Bytes).getLast? = some 0 then ([2, 7, 0] : Bytes).dropLast else ([2, 7, 0] : Bytes)) ∧ (cobsDec (([2, 7] : Bytes).length + 1) ([2, 7] : Bytes) = some ([7] : Bytes)) :=
  by decide +kernel

def w_ConnectorEvents_8 : State := noon
theorem test_meets_ConnectorEvents_8 :
    ([5, 7] : Bytes) = (if ([5, 7, 0] : Bytes).getLast? = some 0 then ([5, 7, 0] : Bytes).dropLast else ([5, 7, 0] : Bytes)) ∧ (cobsDec (([5, 7] : Bytes).length + 1) ([5, 7] : Bytes) = none) :=
  by decide +kernel

def w_ConnectorEvents_9 : State := { noon with lad.unpowered := false, host.usbMated := false }
theorem test_meets_ConnectorEvents_9 :
    (w_ConnectorEvents_9.lad.unpowered = false) ∧ (w_ConnectorEvents_9.host.usbMated = false) :=
  by decide +kernel

def w_ConnectorEvents_10 : State := { noon with lad.unpowered := false, host.usbMated := true, lad.frozen := false, host.sessions := [some ({ sess 2 with port := 2 } : Session)] }
theorem test_meets_ConnectorEvents_10 :
    (w_ConnectorEvents_10.lad.unpowered = false) ∧ (w_ConnectorEvents_10.host.usbMated = true) ∧ (w_ConnectorEvents_10.lad.frozen = false) ∧ (w_ConnectorEvents_10.host.sessions = [some ({ sess 2 with port := 2 } : Session)]) ∧ ({ sess 2 with port := 2 } : Session).port = 2 :=
  by decide +kernel

def w_ModuleHealth_1 : State := { noon with lad.rung := 0 }
theorem test_meets_ModuleHealth_1 :
    (running w_ModuleHealth_1 = true) ∧ (w_ModuleHealth_1.lad.rung = 0) :=
  by decide +kernel

def w_ModuleHealth_2 : State := { noon with lad.rung := 0, hlth.scrubRow := 2047 }
theorem test_meets_ModuleHealth_2 :
    (running w_ModuleHealth_2 = true) ∧ (w_ModuleHealth_2.lad.rung = 0) ∧ (3 ≤ 3) ∧ (w_ModuleHealth_2.hlth.scrubRow < 2048) ∧ (suspectNow w_ModuleHealth_2 0 w_ModuleHealth_2.hlth.scrubRow = false) ∧ (w_ModuleHealth_2.hlth.map.length < 4096) :=
  by decide +kernel

def w_ModuleHealth_3 : State := { noon with lad.rung := 0 }
theorem test_meets_ModuleHealth_3 :
    (running w_ModuleHealth_3 = true) ∧ (w_ModuleHealth_3.lad.rung = 0) :=
  by decide +kernel

def w_ModuleHealth_4 : State := noon
theorem test_meets_ModuleHealth_4 :
    (running w_ModuleHealth_4 = true) :=
  by decide +kernel

def w_ModuleHealth_5 : State := { noon with lad.rung := 0 }
theorem test_meets_ModuleHealth_5 :
    (running w_ModuleHealth_5 = true) ∧ (w_ModuleHealth_5.lad.rung = 0) :=
  by decide +kernel

def w_ModuleHealth_6 : State := { noon with lad.rung := 0 }
theorem test_meets_ModuleHealth_6 :
    (running w_ModuleHealth_6 = true) ∧ (w_ModuleHealth_6.lad.rung = 0) ∧ (0 < spareLeft w_ModuleHealth_6 2) ∧ (2 < w_ModuleHealth_6.hlth.spare.length) :=
  by decide +kernel

def w_ModuleHealth_7 : State := { noon with lad.rung := 0, hlth.spare := [32, 64, 0, 1, 16] }
theorem test_meets_ModuleHealth_7 :
    (running w_ModuleHealth_7 = true) ∧ (w_ModuleHealth_7.lad.rung = 0) ∧ (spareLeft w_ModuleHealth_7 2 = 0) :=
  by decide +kernel

def w_ModuleHealth_8 : State := { noon with jrn.writing := none, hlth.refreshBlock := 1023 }
theorem test_meets_ModuleHealth_8 :
    (running w_ModuleHealth_8 = true) ∧ (w_ModuleHealth_8.pwr.stage ≠ .save) ∧ (w_ModuleHealth_8.jrn.writing = none) ∧ (0 < w_ModuleHealth_8.hlth.refreshBlock ∨ w_ModuleHealth_8.hlth.refreshLast + refreshMs (refreshBandNow w_ModuleHealth_8) ≤ operMs w_ModuleHealth_8) :=
  by decide +kernel

def w_ModuleHealth_9 : State := { noon with jrn.writing := some (jrec, 0) }
theorem test_meets_ModuleHealth_9 :
    (running w_ModuleHealth_9 = true) ∧ (w_ModuleHealth_9.jrn.writing = some (jrec, 0)) :=
  by decide +kernel

def w_ModuleHealth_10 : State := noon
theorem test_meets_ModuleHealth_10 :
    (running w_ModuleHealth_10 = true) ∧ (3 ≠ 2) ∧ (0 < spareLeft w_ModuleHealth_10 5) ∧ (4 < w_ModuleHealth_10.hlth.spare.length) :=
  by decide +kernel

def w_UpdateStaging_1 : State := { noon with upd.erasing := true }
theorem test_meets_UpdateStaging_1 :
    (running w_UpdateStaging_1 = true) ∧ (w_UpdateStaging_1.upd.erasing = true) :=
  by decide +kernel

def w_UpdateStaging_2 : State := { noonU with upd.staging := some staging1, upd.phase := 1, upd.erasing := false, ops.ops := [op 7] }
theorem test_meets_UpdateStaging_2 :
    (Admitted 3 (rq 0 (u32 1 ++ List.replicate 1028 0) : HostReq) w_UpdateStaging_2) ∧ (rq 0 (u32 1 ++ List.replicate 1028 0) : HostReq).args.length = 1032 ∧ (w_UpdateStaging_2.upd.staging = some staging1) ∧ (findOp w_UpdateStaging_2 7 = some (op 7 : Op)) ∧ (op 7 : Op).opState = 0 ∧ (w_UpdateStaging_2.upd.phase = 1) ∧ (w_UpdateStaging_2.upd.erasing = false) ∧ (getN (rq 0 (u32 1 ++ List.replicate 1028 0) : HostReq).args 0 4 = staging1.updId) ∧ (getN (rq 0 (u32 1 ++ List.replicate 1028 0) : HostReq).args 5 1 < 128) ∧ (128 * getN (rq 0 (u32 1 ++ List.replicate 1028 0) : HostReq).args 4 1 + getN (rq 0 (u32 1 ++ List.replicate 1028 0) : HostReq).args 5 1 < staging1.xferLen / 1024) ∧ (chunkPieces staging1 (getN (rq 0 (u32 1 ++ List.replicate 1028 0) : HostReq).args 4 1)).getLast? ≠ some (128 * getN (rq 0 (u32 1 ++ List.replicate 1028 0) : HostReq).args 4 1 + getN (rq 0 (u32 1 ++ List.replicate 1028 0) : HostReq).args 5 1) ∧ (staging1.holds (128 * getN (rq 0 (u32 1 ++ List.replicate 1028 0) : HostReq).args 4 1 + getN (rq 0 (u32 1 ++ List.replicate 1028 0) : HostReq).args 5 1) = false) ∧ (chunkHeld (staging1.put (128 * getN (rq 0 (u32 1 ++ List.replicate 1028 0) : HostReq).args 4 1 + getN (rq 0 (u32 1 ++ List.replicate 1028 0) : HostReq).args 5 1) (slice (rq 0 (u32 1 ++ List.replicate 1028 0) : HostReq).args 8 1024) []) (getN (rq 0 (u32 1 ++ List.replicate 1028 0) : HostReq).args 4 1) = false) :=
  by refine ⟨admitted_of (sess 3) (by decide +kernel) (by decide +kernel) (by decide +kernel), ?_, ?_, ?_, ?_, ?_, ?_, ?_, ?_, ?_, ?_, ?_, ?_⟩ <;> decide +kernel

def w_UpdateStaging_3 : State := { noonU with upd.staging := some ({ staging1 with pieces := [(0, [])] } : Staging), upd.phase := 1, upd.erasing := false, ops.ops := [op 7] }
theorem test_meets_UpdateStaging_3 :
    (Admitted 3 (rq 0 (u32 1 ++ List.replicate 1028 0) : HostReq) w_UpdateStaging_3) ∧ (rq 0 (u32 1 ++ List.replicate 1028 0) : HostReq).args.length = 1032 ∧ (w_UpdateStaging_3.upd.staging = some ({ staging1 with pieces := [(0, [])] } : Staging)) ∧ (findOp w_UpdateStaging_3 7 = some (op 7 : Op)) ∧ (op 7 : Op).opState = 0 ∧ (w_UpdateStaging_3.upd.phase = 1) ∧ (w_UpdateStaging_3.upd.erasing = false) ∧ (getN (rq 0 (u32 1 ++ List.replicate 1028 0) : HostReq).args 0 4 = ({ staging1 with pieces := [(0, [])] } : Staging).updId) ∧ (getN (rq 0 (u32 1 ++ List.replicate 1028 0) : HostReq).args 5 1 < 128) ∧ (128 * getN (rq 0 (u32 1 ++ List.replicate 1028 0) : HostReq).args 4 1 + getN (rq 0 (u32 1 ++ List.replicate 1028 0) : HostReq).args 5 1 < ({ staging1 with pieces := [(0, [])] } : Staging).xferLen / 1024) ∧ (chunkPieces ({ staging1 with pieces := [(0, [])] } : Staging) (getN (rq 0 (u32 1 ++ List.replicate 1028 0) : HostReq).args 4 1)).getLast? ≠ some (128 * getN (rq 0 (u32 1 ++ List.replicate 1028 0) : HostReq).args 4 1 + getN (rq 0 (u32 1 ++ List.replicate 1028 0) : HostReq).args 5 1) ∧ ({ staging1 with pieces := [(0, [])] } : Staging).holds (128 * getN (rq 0 (u32 1 ++ List.replicate 1028 0) : HostReq).args 4 1 + getN (rq 0 (u32 1 ++ List.replicate 1028 0) : HostReq).args 5 1) = true :=
  by refine ⟨admitted_of (sess 3) (by decide +kernel) (by decide +kernel) (by decide +kernel), ?_, ?_, ?_, ?_, ?_, ?_, ?_, ?_, ?_, ?_, ?_⟩ <;> decide +kernel

def w_UpdateStaging_4 : State := { noon with upd.staging := some staging1, upd.phase := 2, upd.recovery := false, ops.ops := [op 7] }
theorem test_meets_UpdateStaging_4 :
    (w_UpdateStaging_4.upd.staging = some staging1) ∧ (findOp w_UpdateStaging_4 7 = some (op 7 : Op)) ∧ (running w_UpdateStaging_4 = true) ∧ (w_UpdateStaging_4.upd.phase = 2) ∧ (op 7 : Op).opState = 0 ∧ (w_UpdateStaging_4.upd.recovery = false) :=
  by decide +kernel

def w_UpdateStaging_5 : State := { noon with upd.staging := some staging1, upd.phase := 2, ops.ops := [op 7] }
theorem test_meets_UpdateStaging_5 :
    (w_UpdateStaging_5.upd.staging = some staging1) ∧ (findOp w_UpdateStaging_5 7 = some (op 7 : Op)) ∧ (running w_UpdateStaging_5 = true) ∧ (w_UpdateStaging_5.upd.phase = 2) ∧ (op 7 : Op).opState = 0 :=
  by decide +kernel

def w_UpdateStaging_6 : State := { noon with upd.confirmFrom := some 0, upd.slotA := { st := 3 }, upd.running := 0 }
theorem test_meets_UpdateStaging_6 :
    (w_UpdateStaging_6.upd.confirmFrom = some 0) ∧ (running w_UpdateStaging_6 = true) ∧ (w_UpdateStaging_6.upd.running < 2) ∧ (fwSlot w_UpdateStaging_6 w_UpdateStaging_6.upd.running).st = 3 ∧ (elapsed w_UpdateStaging_6 0 (secNs 600) = true) :=
  by decide +kernel

def w_CanControllers_1 : State := { noon with can.c2.running := true }
theorem test_meets_CanControllers_1 :
    (1 < 2) ∧ (canAt w_CanControllers_1 1).running = true ∧ (canAt w_CanControllers_1 1).onBus = false :=
  by decide +kernel

def w_CanControllers_2 : State := { noon with can.c2.running := true, can.c2.onBus := true, rings.rings := List.replicate 64 { cfg := 0x08040000 } }
theorem test_meets_CanControllers_2 :
    (1 < 2) ∧ (canAt w_CanControllers_2 1).running = true ∧ (canAt w_CanControllers_2 1).onBus = true ∧ (canAt w_CanControllers_2 1).busOff = false ∧ ({ id := 0, remote := false, data := List.replicate 8 0 } : CanFrame).remote = false ∧ ({ id := 0, remote := false, data := List.replicate 8 0 } : CanFrame).id = w_CanControllers_2.cfg.can.chStsId ∧ ({ id := 0, remote := false, data := List.replicate 8 0 } : CanFrame).data.length = 8 ∧ (24 + 1 < w_CanControllers_2.rings.rings.length) ∧ (ringAt w_CanControllers_2 (24 + 1)).fits (mkPacket 0 (u32 (timeNs w_CanControllers_2) ++ ({ id := 0, remote := false, data := List.replicate 8 0 } : CanFrame).data)).len = true :=
  by decide +kernel

def w_CanControllers_3 : State := { noon with can.c2.running := true, can.c2.onBus := true }
theorem test_meets_CanControllers_3 :
    (1 < 2) ∧ (canAt w_CanControllers_3 1).running = true ∧ (canAt w_CanControllers_3 1).onBus = true ∧ (canAt w_CanControllers_3 1).busOff = false ∧ (({ id := 0, remote := true, data := [] } : CanFrame).remote = true ∨ ({ id := 0, remote := true, data := [] } : CanFrame).id ≠ w_CanControllers_3.cfg.can.chStsId ∨ ({ id := 0, remote := true, data := [] } : CanFrame).data.length ≠ 8) :=
  by decide +kernel

def w_CanControllers_4 : State := { noon with can.c2.running := true, can.c2.onBus := true, can.c2.mbs := List.replicate 32 { st := .active } }
theorem test_meets_CanControllers_4 :
    (1 < 2) ∧ (31 < (canAt w_CanControllers_4 1).mbs.length) ∧ (nth {} (canAt w_CanControllers_4 1).mbs 31).st = .active ∧ (nth {} (canAt w_CanControllers_4 1).mbs 31).next = none :=
  by decide +kernel

def w_CanControllers_5 : State := { noon with can.c2.running := true, can.c2.onBus := true, can.c2.mbs := List.replicate 32 { st := .active, next := some [1] } }
theorem test_meets_CanControllers_5 :
    (1 < 2) ∧ (31 < (canAt w_CanControllers_5 1).mbs.length) ∧ (nth {} (canAt w_CanControllers_5 1).mbs 31).st = .active ∧ (nth {} (canAt w_CanControllers_5 1).mbs 31).next = some ([1] : Bytes) :=
  by decide +kernel

def w_CanControllers_6 : State := { noon with can.c2.running := true, can.c2.onBus := true }
theorem test_meets_CanControllers_6 :
    (1 < 2) ∧ (canAt w_CanControllers_6 1).running = true ∧ (canAt w_CanControllers_6 1).onBus = true ∧ (canAt w_CanControllers_6 1).busOff = false ∧ (canAt w_CanControllers_6 1).tec + 255 ≤ 255 :=
  by decide +kernel

def w_CanControllers_7 : State := { noon with can.c2.running := true, can.c2.onBus := true, can.c2.tec := 248 }
theorem test_meets_CanControllers_7 :
    (1 < 2) ∧ (canAt w_CanControllers_7 1).running = true ∧ (canAt w_CanControllers_7 1).onBus = true ∧ (canAt w_CanControllers_7 1).busOff = false ∧ (255 < (canAt w_CanControllers_7 1).tec + 8) :=
  by decide +kernel

def w_CanControllers_8 : State := { noon with can.c2.busOff := true }
theorem test_meets_CanControllers_8 :
    (1 < 2) ∧ (canAt w_CanControllers_8 1).busOff = true :=
  by decide +kernel

def w_CanControllers_9 : State := { noon with str.causes := [{ code := 0x0A01, cls := 1, trip := true }], cfg.can.tripPort := 1, can.c2.running := true }
theorem test_meets_CanControllers_9 :
    (tripLatched w_CanControllers_9 = true) ∧ (elapsed w_CanControllers_9 w_CanControllers_9.can.copyAt (secNs 1) = true) ∧ (w_CanControllers_9.cfg.can.tripPort < 2) ∧ (canAt w_CanControllers_9 w_CanControllers_9.cfg.can.tripPort).running = true ∧ (nth {} (canAt w_CanControllers_9 w_CanControllers_9.cfg.can.tripPort).mbs 0).st ≠ .active ∧ (0 < (canAt w_CanControllers_9 w_CanControllers_9.cfg.can.tripPort).mbs.length) :=
  by decide +kernel

def w_SafetyFunctionDemands_1 : State := { noon with prot.ovHard := false, cfg.safety.ovHard := 3600, tick.j := 1, tab.volt := volt1, prot.ovHardRun := [1], prot.uvDeepRun := [0], prot.uvRun := [0] }
theorem test_meets_SafetyFunctionDemands_1 :
    (sfRuns w_SafetyFunctionDemands_1 = true) ∧ (coresRun w_SafetyFunctionDemands_1 = true) ∧ (1 ≤ w_SafetyFunctionDemands_1.tick.j) ∧ (w_SafetyFunctionDemands_1.tick.j ≤ 9) ∧ (w_SafetyFunctionDemands_1.tab.volt.heldBy rdSafety = some (bankOf 1 : Bank)) ∧ (bankOf 1 : Bank).seq ≠ w_SafetyFunctionDemands_1.prot.vBankSeen ∧ (w_SafetyFunctionDemands_1.tab.temp.heldBy rdSafety = none) ∧ (firstRun w_SafetyFunctionDemands_1.cfg.safety.vConfirm (voltRuns w_SafetyFunctionDemands_1 (bankOf 1 : Bank)).prot.ovHardRun = some 0) ∧ (w_SafetyFunctionDemands_1.prot.ovHard = false) ∧ (firstRun w_SafetyFunctionDemands_1.cfg.safety.vConfirm (voltRuns w_SafetyFunctionDemands_1 (bankOf 1 : Bank)).prot.uvDeepRun = none) ∧ (firstRun w_SafetyFunctionDemands_1.cfg.safety.vConfirm (voltRuns w_SafetyFunctionDemands_1 (bankOf 1 : Bank)).prot.uvRun = none) ∧ (demandActive 0x0A05 w_SafetyFunctionDemands_1 = false) ∧ (w_SafetyFunctionDemands_1.prot.theta ≤ cont2 w_SafetyFunctionDemands_1) ∧ (w_SafetyFunctionDemands_1.prot.tripRun < 3) :=
  by decide +kernel

def w_SafetyFunctionDemands_2 : State := { noon with prot.tripRun := 3, tick.j := 9 }
theorem test_meets_SafetyFunctionDemands_2 :
    (sfRuns w_SafetyFunctionDemands_2 = true) ∧ (coresRun w_SafetyFunctionDemands_2 = true) ∧ (1 ≤ w_SafetyFunctionDemands_2.tick.j) ∧ (w_SafetyFunctionDemands_2.tick.j ≤ 9) ∧ (w_SafetyFunctionDemands_2.tab.volt.heldBy rdSafety = none) ∧ (w_SafetyFunctionDemands_2.tab.temp.heldBy rdSafety = none) ∧ (demandActive 0x0A05 w_SafetyFunctionDemands_2 = false) ∧ (3 ≤ w_SafetyFunctionDemands_2.prot.tripRun) :=
  by decide +kernel

def w_SafetyFunctionDemands_3 : State := { noon with prot.tripRun := 2, tick.j := 9 }
theorem test_meets_SafetyFunctionDemands_3 :
    (sfRuns w_SafetyFunctionDemands_3 = true) ∧ (coresRun w_SafetyFunctionDemands_3 = true) ∧ (1 ≤ w_SafetyFunctionDemands_3.tick.j) ∧ (w_SafetyFunctionDemands_3.tick.j ≤ 9) ∧ (w_SafetyFunctionDemands_3.tab.volt.heldBy rdSafety = none) ∧ (w_SafetyFunctionDemands_3.tab.temp.heldBy rdSafety = none) ∧ (demandActive 0x0A05 w_SafetyFunctionDemands_3 = false) ∧ (w_SafetyFunctionDemands_3.prot.theta ≤ cont2 w_SafetyFunctionDemands_3) ∧ (w_SafetyFunctionDemands_3.prot.tripRun < 3) :=
  by decide +kernel

def w_SafetyFunctionDemands_4 : State := { noon with prot.fireIn := { low := 41 } }
theorem test_meets_SafetyFunctionDemands_4 :
    (3 < 4) ∧ (sfRuns w_SafetyFunctionDemands_4 = true) ∧ (extUsed w_SafetyFunctionDemands_4 3 = true) ∧ (41 ≤ (extAt w_SafetyFunctionDemands_4 3).low) ∧ (extAt w_SafetyFunctionDemands_4 3).active = false :=
  by decide +kernel

def w_SafetyFunctionDemands_5 : State := { noon with prot.estopBothSince := some 0 }
theorem test_meets_SafetyFunctionDemands_5 :
    (1 < 2) ∧ (heldOn w_SafetyFunctionDemands_5 w_SafetyFunctionDemands_5.prot.estopBothSince = true) :=
  by decide +kernel

def w_SafetyFunctionDemands_6 : State := { noon with prot.fireIn := { energizedSince := some 0 } }
theorem test_meets_SafetyFunctionDemands_6 :
    (2 ≤ 3) ∧ (3 < 4) ∧ (heldOn w_SafetyFunctionDemands_6 (extAt w_SafetyFunctionDemands_6 3).energizedSince = true) :=
  by decide +kernel

def w_SafetyFunctionDemands_7 : State := { noon with prot.estopDiffSince := some 0, prot.discActive := false }
theorem test_meets_SafetyFunctionDemands_7 :
    (w_SafetyFunctionDemands_7.prot.estopDiffSince = some 0) ∧ (sfRuns w_SafetyFunctionDemands_7 = true) ∧ (w_SafetyFunctionDemands_7.prot.discActive = false) ∧ (elapsed w_SafetyFunctionDemands_7 0 (msNs w_SafetyFunctionDemands_7.cfg.safety.estopDisc) = true) :=
  by decide +kernel

def w_SafeStopAndTwilight_1 : State := { noon with prot.stop := some ({ start := 0, lowWords := 2 } : SafeStop), lad.freezeReq := none }
theorem test_meets_SafeStopAndTwilight_1 :
    (w_SafeStopAndTwilight_1.prot.stop = some ({ start := 0, lowWords := 2 } : SafeStop)) ∧ (2 ≤ ({ start := 0, lowWords := 2 } : SafeStop).lowWords ∨ elapsed w_SafeStopAndTwilight_1 ({ start := 0, lowWords := 2 } : SafeStop).start 1500000 = true ∨ alreadyOpen w_SafeStopAndTwilight_1 = true) ∧ (w_SafeStopAndTwilight_1.lad.freezeReq = none) :=
  by decide +kernel

def w_SafeStopAndTwilight_2 : State := { noon with str.state := .twilight, str.twilightUsed := 1000000000000000 }
theorem test_meets_SafeStopAndTwilight_2 :
    (w_SafeStopAndTwilight_2.str.state = .twilight) ∧ (twLeft w_SafeStopAndTwilight_2 = 0) ∧ (Trigger.twilightExhausted ∉ w_SafeStopAndTwilight_2.str.triggers) :=
  by decide +kernel

def w_SafeStopAndTwilight_3 : State := { noon with str.unarmedSince := some 0 }
theorem test_meets_SafeStopAndTwilight_3 :
    (w_SafeStopAndTwilight_3.str.unarmedSince = some 0) ∧ (twArmed w_SafeStopAndTwilight_3 = false) ∧ (elapsed w_SafeStopAndTwilight_3 0 (secNs 600) = true) :=
  by decide +kernel

def w_Diagnostics_1 : State := { noon with tick.j := 16, prot.noPulses := false, prot.pulse := none, tb.time := 100000825000000, cont.c2.coil := true }
theorem test_meets_Diagnostics_1 :
    (5 < 6) ∧ (owning w_Diagnostics_1 = true) ∧ (coresRun w_Diagnostics_1 = true) ∧ (w_Diagnostics_1.tick.j = 16) ∧ (w_Diagnostics_1.prot.noPulses = false) ∧ (testFrame w_Diagnostics_1 = 150 * 5 + 75) ∧ (nth {} w_Diagnostics_1.prot.tests 5).served = false ∧ (w_Diagnostics_1.prot.pulse = none) ∧ (pulseEligible w_Diagnostics_1 5 = true) ∧ (5 < w_Diagnostics_1.prot.tests.length) :=
  by decide +kernel

def w_Diagnostics_2 : State := { noon with prot.pulse := some (5, 0) }
theorem test_meets_Diagnostics_2 :
    (w_Diagnostics_2.prot.pulse = some (5, 0)) ∧ (300000 ≤ sinceNs w_Diagnostics_2 0) ∧ (5 < w_Diagnostics_2.prot.tests.length) :=
  by decide +kernel

def w_Diagnostics_3 : State := { noon with prot.pulse := some (0, 0) }
theorem test_meets_Diagnostics_3 :
    (w_Diagnostics_3.prot.pulse = some (0, 0)) ∧ (300000 ≤ sinceNs w_Diagnostics_3 0) :=
  by decide +kernel

def w_Diagnostics_4 : State := noon
theorem test_meets_Diagnostics_4 :
    (owning w_Diagnostics_4 = true) ∧ (running w_Diagnostics_4 = true) ∧ (taiSec w_Diagnostics_4 ≠ w_Diagnostics_4.prot.testSec) :=
  by decide +kernel

def w_Diagnostics_5 : State := noon
theorem test_meets_Diagnostics_5 :
    (sfRuns w_Diagnostics_5 = true) ∧ (running w_Diagnostics_5 = true) :=
  by decide +kernel

def w_Diagnostics_6 : State := noon
theorem test_meets_Diagnostics_6 :
    (sfRuns w_Diagnostics_6 = true) ∧ (running w_Diagnostics_6 = true) ∧ (7 < w_Diagnostics_6.prot.diagFailed.length) :=
  by decide +kernel

def w_Diagnostics_7 : State := noon
theorem test_meets_Diagnostics_7 :
    (5 < 6) ∧ (running w_Diagnostics_7 = true) :=
  by decide +kernel

def w_Diagnostics_8 : State := noon
theorem test_meets_Diagnostics_8 :
    (5 < 6) ∧ (running w_Diagnostics_8 = true) :=
  by decide +kernel

def w_Diagnostics_9 : State := noon
theorem test_meets_Diagnostics_9 :
    (running w_Diagnostics_9 = true) :=
  by decide +kernel

def w_Diagnostics_11 : State := noon
theorem test_meets_Diagnostics_11 :
    (running w_Diagnostics_11 = true) :=
  by decide +kernel

def w_Diagnostics_12 : State := noon
theorem test_meets_Diagnostics_12 :
    (running w_Diagnostics_12 = true) :=
  by decide +kernel

def w_ContactorSequences_1 : State := { noon with cont.c2.aux := false, cont.c2.coil := true, cont.step := .p1 }
theorem test_meets_ContactorSequences_1 :
    (sfRuns w_ContactorSequences_1 = true) ∧ (running w_ContactorSequences_1 = true) ∧ (w_ContactorSequences_1.cont.c2.aux = false) ∧ (w_ContactorSequences_1.cont.c2.coil = true) ∧ (w_ContactorSequences_1.cont.step = .p1) :=
  by decide +kernel

def w_ContactorSequences_2 : State := { noon with cont.c0.aux := false, cont.c0.coil := true, cont.step := .p5 }
theorem test_meets_ContactorSequences_2 :
    (sfRuns w_ContactorSequences_2 = true) ∧ (running w_ContactorSequences_2 = true) ∧ (w_ContactorSequences_2.cont.c0.aux = false) ∧ (w_ContactorSequences_2.cont.c0.coil = true) ∧ (w_ContactorSequences_2.cont.step = .p5) :=
  by decide +kernel

def w_ContactorSequences_3 : State := { noon with cont.c0.aux := true, cont.opening := 1 }
theorem test_meets_ContactorSequences_3 :
    (sfRuns w_ContactorSequences_3 = true) ∧ (running w_ContactorSequences_3 = true) ∧ (w_ContactorSequences_3.cont.c0.aux = true) ∧ (w_ContactorSequences_3.cont.opening = 1) :=
  by decide +kernel

def w_ContactorSequences_4 : State := { noon with cont.c1.aux := true, cont.opening := 2 }
theorem test_meets_ContactorSequences_4 :
    (sfRuns w_ContactorSequences_4 = true) ∧ (running w_ContactorSequences_4 = true) ∧ (w_ContactorSequences_4.cont.c1.aux = true) ∧ (w_ContactorSequences_4.cont.opening = 2) :=
  by decide +kernel

def w_ContactorSequences_5 : State := { noon with str.state := .standby }
theorem test_meets_ContactorSequences_5 :
    (2 < 3) ∧ (sfRuns w_ContactorSequences_5 = true) ∧ (running w_ContactorSequences_5 = true) ∧ (w_ContactorSequences_5.str.state = .standby) ∧ (contAt w_ContactorSequences_5 2).aux = false ∧ (contAt w_ContactorSequences_5 2).coil = false :=
  by decide +kernel

def w_ContactorSequences_6 : State := { noon with cont.c2.coil := true }
theorem test_meets_ContactorSequences_6 :
    (2 < 3) ∧ (sfRuns w_ContactorSequences_6 = true) ∧ (contAt w_ContactorSequences_6 2).coil = true ∧ (contAt w_ContactorSequences_6 2).wasClosed = false ∧ (contAt w_ContactorSequences_6 2).state ≠ 4 ∧ (elapsed w_ContactorSequences_6 (contAt w_ContactorSequences_6 2).since (msNs w_ContactorSequences_6.cfg.safety.closeMax) = true) :=
  by decide +kernel

def w_ContactorSequences_7 : State := { noon with cont.c2 := { aux := true, state := 3 } }
theorem test_meets_ContactorSequences_7 :
    (2 < 3) ∧ (sfRuns w_ContactorSequences_7 = true) ∧ (contAt w_ContactorSequences_7 2).coil = false ∧ (contAt w_ContactorSequences_7 2).aux = true ∧ (contAt w_ContactorSequences_7 2).state = 3 ∧ (elapsed w_ContactorSequences_7 (contAt w_ContactorSequences_7 2).since (msNs w_ContactorSequences_7.cfg.safety.openMax) = true) :=
  by decide +kernel

def w_ContactorSequences_8 : State := { noon with cont.c2 := { coil := true, state := 2, wasClosed := true } }
theorem test_meets_ContactorSequences_8 :
    (2 < 3) ∧ (sfRuns w_ContactorSequences_8 = true) ∧ (contAt w_ContactorSequences_8 2).coil = true ∧ (contAt w_ContactorSequences_8 2).state = 2 ∧ (contAt w_ContactorSequences_8 2).wasClosed = true ∧ (contAt w_ContactorSequences_8 2).aux = false ∧ (elapsed w_ContactorSequences_8 (contAt w_ContactorSequences_8 2).auxSince (msNs w_ContactorSequences_8.cfg.safety.closeMax) = true) :=
  by decide +kernel

def w_ContactorSequences_9 : State := { noon with cont.c2 := { coil := true, state := 1 } }
theorem test_meets_ContactorSequences_9 :
    (2 < 3) ∧ (contAt w_ContactorSequences_9 2).coil = true ∧ (contAt w_ContactorSequences_9 2).state = 1 ∧ (elapsed w_ContactorSequences_9 (contAt w_ContactorSequences_9 2).since (msNs (nth 20 w_ContactorSequences_9.cfg.safety.coilPull 2)) = true) :=
  by decide +kernel

def w_ContactorSequences_10 : State := { noon with cont.c2 := { coil := true, state := 2, badFrames := 10 } }
theorem test_meets_ContactorSequences_10 :
    (2 < 3) ∧ (sfRuns w_ContactorSequences_10 = true) ∧ (contAt w_ContactorSequences_10 2).state = 2 ∧ (10 ≤ (contAt w_ContactorSequences_10 2).badFrames) :=
  by decide +kernel

def w_PrechargeAndStopping_1 : State := { noon with cont.step := .p2, cont.peak := 2000 }
theorem test_meets_PrechargeAndStopping_1 :
    (w_PrechargeAndStopping_1.cont.step = .p2) ∧ (sfRuns w_PrechargeAndStopping_1 = true) ∧ (elapsed w_PrechargeAndStopping_1 w_PrechargeAndStopping_1.cont.stepSince (msNs 50) = true) ∧ (w_PrechargeAndStopping_1.cont.peak ≤ 2000) :=
  by decide +kernel

def w_PrechargeAndStopping_2 : State := { noon with cont.step := .p2, cont.peak := 2001 }
theorem test_meets_PrechargeAndStopping_2 :
    (w_PrechargeAndStopping_2.cont.step = .p2) ∧ (sfRuns w_PrechargeAndStopping_2 = true) ∧ (elapsed w_PrechargeAndStopping_2 w_PrechargeAndStopping_2.cont.stepSince (msNs 50) = true) ∧ (2000 < w_PrechargeAndStopping_2.cont.peak) :=
  by decide +kernel

def w_PrechargeAndStopping_3 : State := { noon with str.state := .precharge, cont.step := .p4 }
theorem test_meets_PrechargeAndStopping_3 :
    (w_PrechargeAndStopping_3.str.state = .precharge) ∧ (w_PrechargeAndStopping_3.cont.step = .p4) ∧ (elapsed w_PrechargeAndStopping_3 w_PrechargeAndStopping_3.cont.stepSince (msNs w_PrechargeAndStopping_3.cfg.safety.preTimeout) = true) ∧ (Trigger.prechargeTimeout ∉ w_PrechargeAndStopping_3.str.triggers) :=
  by decide +kernel

def w_PrechargeAndStopping_4 : State := { noon with cont.zeroSince := some 0, str.state := .stopping, cont.opening := 0, str.stopTarget := some .closed }
theorem test_meets_PrechargeAndStopping_4 :
    (w_PrechargeAndStopping_4.cont.zeroSince = some 0) ∧ (w_PrechargeAndStopping_4.str.state = .stopping) ∧ (owning w_PrechargeAndStopping_4 = true) ∧ (elapsed w_PrechargeAndStopping_4 0 (msNs 10) = true) ∧ (w_PrechargeAndStopping_4.cont.opening = 0) ∧ (Trigger.stoppingDone ∉ w_PrechargeAndStopping_4.str.triggers) ∧ (w_PrechargeAndStopping_4.str.stopTarget = some .closed) :=
  by decide +kernel

def w_PrechargeAndStopping_5 : State := { noon with cont.zeroSince := some 0, str.state := .stopping, cont.opening := 0, str.stopTarget := some .standby }
theorem test_meets_PrechargeAndStopping_5 :
    (w_PrechargeAndStopping_5.cont.zeroSince = some 0) ∧ (w_PrechargeAndStopping_5.str.state = .stopping) ∧ (owning w_PrechargeAndStopping_5 = true) ∧ (elapsed w_PrechargeAndStopping_5 0 (msNs 10) = true) ∧ (w_PrechargeAndStopping_5.cont.opening = 0) ∧ (Trigger.stoppingDone ∉ w_PrechargeAndStopping_5.str.triggers) ∧ (w_PrechargeAndStopping_5.str.stopTarget = some .standby) :=
  by decide +kernel

def w_PrechargeAndStopping_6 : State := { noon with str.state := .stopping }
theorem test_meets_PrechargeAndStopping_6 :
    (w_PrechargeAndStopping_6.str.state = .stopping) ∧ (owning w_PrechargeAndStopping_6 = true) ∧ (elapsed w_PrechargeAndStopping_6 w_PrechargeAndStopping_6.str.entered (stopLimitNs w_PrechargeAndStopping_6) = true) :=
  by decide +kernel

def w_ConverterEvents_1 : State := { noon with prot.stop := none }
theorem test_meets_ConverterEvents_1 :
    (5 < 6) ∧ (metRuns w_ConverterEvents_1 = true) ∧ (nth true w_ConverterEvents_1.cnv.fastTrip 5 = false) ∧ (w_ConverterEvents_1.prot.stop = none) :=
  by decide +kernel

def w_ConverterEvents_2 : State := { runs with tick.j := 1, cnv.regulating := true, cnv.slot5On := false, cnv.iLimit := 1000, cnv.slots := List.replicate 16 { live := { mode := 2, yMax := 100, yMin := -100 } } }
theorem test_meets_ConverterEvents_2 :
    (w_ConverterEvents_2.tick.j = 1) ∧ (convWanted w_ConverterEvents_2 = true) ∧ (w_ConverterEvents_2.cnv.regulating = true) ∧ (w_ConverterEvents_2.cnv.slot5On = false) ∧ (max (slotAt w_ConverterEvents_2 3).live.yMin (-w_ConverterEvents_2.cnv.iLimit) ≤ min (slotAt w_ConverterEvents_2 3).live.yMax w_ConverterEvents_2.cnv.iLimit) ∧ (4 < w_ConverterEvents_2.cnv.slots.length) ∧ (slotAt w_ConverterEvents_2 3).live.mode ≠ 0 :=
  by decide +kernel

def w_ConverterEvents_3 : State := { runs with tick.j := 1, cnv.regulating := true, cnv.slot5On := false }
theorem test_meets_ConverterEvents_3 :
    (w_ConverterEvents_3.tick.j = 1) ∧ (convWanted w_ConverterEvents_3 = true) ∧ (w_ConverterEvents_3.cnv.regulating = true) ∧ (w_ConverterEvents_3.cnv.slot5On = false) ∧ (slotAt w_ConverterEvents_3 3).live.mode = 0 :=
  by decide +kernel

def w_ConverterEvents_4 : State := { noon with cnv.phases := List.replicate 3 { st := .rampDown, lowTicks := 20 } }
theorem test_meets_ConverterEvents_4 :
    (phaseAt w_ConverterEvents_4 2).st = .rampDown ∧ (20 ≤ (phaseAt w_ConverterEvents_4 2).lowTicks) ∧ (2 < w_ConverterEvents_4.cnv.phases.length) :=
  by decide +kernel

def w_ConverterEvents_5 : State := { runs with cnv.phases := List.replicate 3 { st := .disabled, byOt := true, readySince := some 0 } }
theorem test_meets_ConverterEvents_5 :
    (2 < 3) ∧ (2 < w_ConverterEvents_5.cnv.phases.length) ∧ (2 * 2 + 1 < w_ConverterEvents_5.cnv.ports.length) ∧ (convWanted w_ConverterEvents_5 = true) ∧ (regulatingState w_ConverterEvents_5.str.state = true) ∧ (phaseAt w_ConverterEvents_5 2).clrLeft = 0 ∧ (phaseAt w_ConverterEvents_5 2).st = .disabled ∧ (phaseAt w_ConverterEvents_5 2).byOt = true ∧ (phaseAt w_ConverterEvents_5 2).readySince = some 0 ∧ (elapsed w_ConverterEvents_5 0 (secNs w_ConverterEvents_5.cfg.conv.otReenable) = true) :=
  by decide +kernel

def w_ConverterEvents_6 : State := { noon with cnv.schedQueue := ((1, 1, 1) : Nat × Int × Nat) :: [], cnv.schedWait := none }
theorem test_meets_ConverterEvents_6 :
    (isSp w_ConverterEvents_6 = false) ∧ (w_ConverterEvents_6.cnv.schedQueue = ((1, 1, 1) : Nat × Int × Nat) :: []) ∧ (w_ConverterEvents_6.cnv.schedAt ≠ some w_ConverterEvents_6.tick.now) ∧ (w_ConverterEvents_6.cnv.schedWait = none) ∧ (2 < w_ConverterEvents_6.cnv.slots.length) :=
  by decide +kernel

def w_ReferencesAndChannels_1 : State := { noon with met.refSuspect := false, met.refBadFrames := 10 }
theorem test_meets_ReferencesAndChannels_1 :
    (10 ≤ w_ReferencesAndChannels_1.met.refBadFrames) ∧ (w_ReferencesAndChannels_1.met.refSuspect = false) :=
  by decide +kernel

def w_ReferencesAndChannels_2 : State := { noon with met.refSettled := false, met.ds := List.replicate 8 { sincN := 3 } }
theorem test_meets_ReferencesAndChannels_2 :
    (w_ReferencesAndChannels_2.met.refSettled = false) ∧ (metStarted w_ReferencesAndChannels_2 = true) :=
  by decide +kernel

def w_ReferencesAndChannels_3 : State := { noon with met.refSettled := false, pair.localFault := false, met.ds := List.replicate 8 { sincN := 3 } }
theorem test_meets_ReferencesAndChannels_3 :
    (w_ReferencesAndChannels_3.met.refSettled = false) ∧ (metStarted w_ReferencesAndChannels_3 = true) ∧ (elapsed w_ReferencesAndChannels_3 w_ReferencesAndChannels_3.met.refSwitchedAt (msNs 2) = true) ∧ (∀ c ∈ w_ReferencesAndChannels_3.str.causes, c.code = 0x0304 → c.active = false) ∧ (w_ReferencesAndChannels_3.pair.localFault = false) :=
  by decide +kernel

def w_ReferencesAndChannels_4 : State := { noon with met.ds := List.replicate 8 { settling := true, waitRef := false, settle := 0 } }
theorem test_meets_ReferencesAndChannels_4 :
    (dsAt w_ReferencesAndChannels_4 7).settling = true ∧ (dsAt w_ReferencesAndChannels_4 7).waitRef = false ∧ (dsAt w_ReferencesAndChannels_4 7).settle = 0 ∧ (7 < w_ReferencesAndChannels_4.met.ds.length) :=
  by decide +kernel

def w_ReferencesAndChannels_5 : State := noon
theorem test_meets_ReferencesAndChannels_5 :
    (metRuns w_ReferencesAndChannels_5 = true) ∧ (7 < 8) ∧ (7 < w_ReferencesAndChannels_5.met.ds.length) ∧ (dsAt w_ReferencesAndChannels_5 7).overrange = false :=
  by decide +kernel

def w_ReferencesAndChannels_6 : State := { noon with met.ds := List.replicate 8 { overrange := true } }
theorem test_meets_ReferencesAndChannels_6 :
    (dsAt w_ReferencesAndChannels_6 7).overrange = true ∧ (7 < w_ReferencesAndChannels_6.met.ds.length) :=
  by decide +kernel

def w_ReferencesAndChannels_7 : State := { noon with met.crossDecided := false, met.disagree := 100 }
theorem test_meets_ReferencesAndChannels_7 :
    (100 ≤ w_ReferencesAndChannels_7.met.disagree) ∧ (w_ReferencesAndChannels_7.met.crossDecided = false) ∧ (dsAt w_ReferencesAndChannels_7 0).failed = false ∧ (dsAt w_ReferencesAndChannels_7 1).failed = false ∧ (regulatingState w_ReferencesAndChannels_7.str.state = false) :=
  by decide +kernel

def w_ReferencesAndChannels_8 : State := { runs with met.crossDecided := false, met.disagree := 100, met.ds := [{ mean := some 0 }, { mean := some 100000 }, {}, {}, {}, {}, {}, {}] }
theorem test_meets_ReferencesAndChannels_8 :
    (100 ≤ w_ReferencesAndChannels_8.met.disagree) ∧ (w_ReferencesAndChannels_8.met.crossDecided = false) ∧ (dsAt w_ReferencesAndChannels_8 0).failed = false ∧ (dsAt w_ReferencesAndChannels_8 1).failed = false ∧ (regulatingState w_ReferencesAndChannels_8.str.state = true) ∧ (dsMeanMa w_ReferencesAndChannels_8 0 = some (0 : Rat)) ∧ (dsMeanMa w_ReferencesAndChannels_8 1 = some (100000 * 150000000 / 8388608 * 1000 / 10000 : Rat)) ∧ (1 < w_ReferencesAndChannels_8.met.ds.length) ∧ (absR ((0 : Rat) - refereeMa w_ReferencesAndChannels_8) ≤ maxR 5000 (absR (refereeMa w_ReferencesAndChannels_8) * 3 / 100)) ∧ (maxR 5000 (absR (refereeMa w_ReferencesAndChannels_8) * 3 / 100) < absR ((100000 * 150000000 / 8388608 * 1000 / 10000 : Rat) - refereeMa w_ReferencesAndChannels_8)) :=
  by decide +kernel

def w_ReferencesAndChannels_9 : State := { runs with met.crossDecided := false, met.disagree := 100, met.ds := [{ mean := some 100000 }, { mean := some 0 }, {}, {}, {}, {}, {}, {}] }
theorem test_meets_ReferencesAndChannels_9 :
    (100 ≤ w_ReferencesAndChannels_9.met.disagree) ∧ (w_ReferencesAndChannels_9.met.crossDecided = false) ∧ (dsAt w_ReferencesAndChannels_9 0).failed = false ∧ (dsAt w_ReferencesAndChannels_9 1).failed = false ∧ (regulatingState w_ReferencesAndChannels_9.str.state = true) ∧ (dsMeanMa w_ReferencesAndChannels_9 0 = some (100000 * 150000000 / 8388608 * 1000 / 10000 : Rat)) ∧ (dsMeanMa w_ReferencesAndChannels_9 1 = some (0 : Rat)) ∧ (1 < w_ReferencesAndChannels_9.met.ds.length) ∧ (absR ((0 : Rat) - refereeMa w_ReferencesAndChannels_9) ≤ maxR 5000 (absR (refereeMa w_ReferencesAndChannels_9) * 3 / 100)) ∧ (maxR 5000 (absR (refereeMa w_ReferencesAndChannels_9) * 3 / 100) < absR ((100000 * 150000000 / 8388608 * 1000 / 10000 : Rat) - refereeMa w_ReferencesAndChannels_9)) :=
  by decide +kernel

def w_SpareCapturesCalibration_1 : State := { noon with met.ds7 := .shadowing 2, met.dwellN := 1, met.dwellCh := 8388 }
theorem test_meets_SpareCapturesCalibration_1 :
    (w_SpareCapturesCalibration_1.met.ds7 = .shadowing 2) ∧ (metRuns w_SpareCapturesCalibration_1 = true) ∧ (elapsed w_SpareCapturesCalibration_1 w_SpareCapturesCalibration_1.met.dwellSince (secNs 10) = true) ∧ (capturing w_SpareCapturesCalibration_1 7 = false) ∧ (0 < w_SpareCapturesCalibration_1.met.dwellN) ∧ (absR ((w_SpareCapturesCalibration_1.met.dwellCh - w_SpareCapturesCalibration_1.met.dwell7 : Int) / (w_SpareCapturesCalibration_1.met.dwellN : Rat)) ≤ (if 2 = 6 then 8388608 / 5000 else 8388608 / 1000 : Rat)) :=
  by decide +kernel

def w_SpareCapturesCalibration_2 : State := { noon with met.ds7 := .shadowing 5, met.deviations := [0, 0, 0, 2, 0], met.dwellN := 1, met.dwell7 := 8389 }
theorem test_meets_SpareCapturesCalibration_2 :
    (w_SpareCapturesCalibration_2.met.ds7 = .shadowing 5) ∧ (metRuns w_SpareCapturesCalibration_2 = true) ∧ (elapsed w_SpareCapturesCalibration_2 w_SpareCapturesCalibration_2.met.dwellSince (secNs 10) = true) ∧ (capturing w_SpareCapturesCalibration_2 7 = false) ∧ (0 < w_SpareCapturesCalibration_2.met.dwellN) ∧ (nth 0 w_SpareCapturesCalibration_2.met.deviations (5 - 2) = 2) ∧ (if 5 = 6 then 8388608 / 5000 else 8388608 / 1000 : Rat) < absR ((w_SpareCapturesCalibration_2.met.dwellCh - w_SpareCapturesCalibration_2.met.dwell7 : Int) / (w_SpareCapturesCalibration_2.met.dwellN : Rat)) :=
  by decide +kernel

def w_SpareCapturesCalibration_3 : State := { noon with met.ds7 := .injecting 6 }
theorem test_meets_SpareCapturesCalibration_3 :
    (w_SpareCapturesCalibration_3.met.ds7 = .injecting 6) ∧ (6 < 7) ∧ (6 < w_SpareCapturesCalibration_3.met.ds.length) :=
  by decide +kernel

def w_SpareCapturesCalibration_4 : State := { noon with met.ds7 := .injecting 6 }
theorem test_meets_SpareCapturesCalibration_4 :
    (w_SpareCapturesCalibration_4.met.ds7 = .injecting 6) :=
  by decide +kernel

def w_SpareCapturesCalibration_5 : State := { noon with cfg.conv.sar := List.replicate 4 { trig := 1, entries := 1, list := [(3, 0)] } }
theorem test_meets_SpareCapturesCalibration_5 :
    (metRuns w_SpareCapturesCalibration_5 = true) ∧ (3 < 4) ∧ (3 < w_SpareCapturesCalibration_5.met.sar.length) ∧ (seqLen w_SpareCapturesCalibration_5 3 ≠ 0) ∧ (nth {} w_SpareCapturesCalibration_5.cfg.conv.sar 3).trig = 1 ∧ (trigAt 1 (nth {} w_SpareCapturesCalibration_5.cfg.conv.sar 3).period 0 = true) ∧ (0 < tickLen w_SpareCapturesCalibration_5) ∧ (sarAt w_SpareCapturesCalibration_5 3).busy = false ∧ (sarAt w_SpareCapturesCalibration_5 3).pending = false :=
  by decide +kernel

def w_SpareCapturesCalibration_6 : State := { noon with cfg.conv.sar := List.replicate 4 { trig := 1, entries := 1, list := [(3, 0)] }, met.sar := List.replicate 4 { pending := true } }
theorem test_meets_SpareCapturesCalibration_6 :
    (metRuns w_SpareCapturesCalibration_6 = true) ∧ (3 < 4) ∧ (3 < w_SpareCapturesCalibration_6.met.sar.length) ∧ (seqLen w_SpareCapturesCalibration_6 3 ≠ 0) ∧ (nth {} w_SpareCapturesCalibration_6.cfg.conv.sar 3).trig = 1 ∧ (trigAt 1 (nth {} w_SpareCapturesCalibration_6.cfg.conv.sar 3).period 0 = true) ∧ (0 < tickLen w_SpareCapturesCalibration_6) ∧ (sarAt w_SpareCapturesCalibration_6 3).pending = true :=
  by decide +kernel

def w_SpareCapturesCalibration_7 : State := { noon with met.sar := List.replicate 4 { busy := true } }
theorem test_meets_SpareCapturesCalibration_7 :
    (sarAt w_SpareCapturesCalibration_7 3).busy = true ∧ (3 < w_SpareCapturesCalibration_7.met.sar.length) :=
  by decide +kernel

def w_SpareCapturesCalibration_8 : State := { noon with host.capture.running := true }
theorem test_meets_SpareCapturesCalibration_8 :
    (w_SpareCapturesCalibration_8.host.capture.running = true) :=
  by decide +kernel

def w_SpareCapturesCalibration_9 : State := { noon with met.sysCal := some ({ index := 8, span := 2000000000, step := 3, n := 2000 } : SysCal) }
theorem test_meets_SpareCapturesCalibration_9 :
    (w_SpareCapturesCalibration_9.met.sysCal = some ({ index := 8, span := 2000000000, step := 3, n := 2000 } : SysCal)) ∧ ({ index := 8, span := 2000000000, step := 3, n := 2000 } : SysCal).step = 3 ∧ ({ index := 8, span := 2000000000, step := 3, n := 2000 } : SysCal).spanPhase = false ∧ (2000 ≤ ({ index := 8, span := 2000000000, step := 3, n := 2000 } : SysCal).n) ∧ ({ index := 8, span := 2000000000, step := 3, n := 2000 } : SysCal).sigmaNv ≤ calNoise2 ({ index := 8, span := 2000000000, step := 3, n := 2000 } : SysCal).index :=
  by decide +kernel

def w_SpareCapturesCalibration_10 : State := { noon with met.sysCal := some ({ index := 8, span := 2000000000, step := 3, spanPhase := true, z := some 0, n := 2000, sum := 13421772800, sumSq := 90071992547409920 } : SysCal) }
theorem test_meets_SpareCapturesCalibration_10 :
    (w_SpareCapturesCalibration_10.met.sysCal = some ({ index := 8, span := 2000000000, step := 3, spanPhase := true, z := some 0, n := 2000, sum := 13421772800, sumSq := 90071992547409920 } : SysCal)) ∧ ({ index := 8, span := 2000000000, step := 3, spanPhase := true, z := some 0, n := 2000, sum := 13421772800, sumSq := 90071992547409920 } : SysCal).step = 3 ∧ ({ index := 8, span := 2000000000, step := 3, spanPhase := true, z := some 0, n := 2000, sum := 13421772800, sumSq := 90071992547409920 } : SysCal).spanPhase = true ∧ (2000 ≤ ({ index := 8, span := 2000000000, step := 3, spanPhase := true, z := some 0, n := 2000, sum := 13421772800, sumSq := 90071992547409920 } : SysCal).n) ∧ ({ index := 8, span := 2000000000, step := 3, spanPhase := true, z := some 0, n := 2000, sum := 13421772800, sumSq := 90071992547409920 } : SysCal).sigmaNv ≤ calNoise2 ({ index := 8, span := 2000000000, step := 3, spanPhase := true, z := some 0, n := 2000, sum := 13421772800, sumSq := 90071992547409920 } : SysCal).index ∧ (calCoefs ({ index := 8, span := 2000000000, step := 3, spanPhase := true, z := some 0, n := 2000, sum := 13421772800, sumSq := 90071992547409920 } : SysCal) (({ index := 8, span := 2000000000, step := 3, spanPhase := true, z := some 0, n := 2000, sum := 13421772800, sumSq := 90071992547409920 } : SysCal).z.getD 0) ({ index := 8, span := 2000000000, step := 3, spanPhase := true, z := some 0, n := 2000, sum := 13421772800, sumSq := 90071992547409920 } : SysCal).mean = some ((0 : Int), (1073741824 : Int))) ∧ (calPasses ({ index := 8, span := 2000000000, step := 3, spanPhase := true, z := some 0, n := 2000, sum := 13421772800, sumSq := 90071992547409920 } : SysCal).index (0 : Int) (1073741824 : Int) = true) :=
  by decide +kernel

def w_SpareCapturesCalibration_11 : State := { noon with met.sysCal := some ({ index := 8, span := 2000000000, step := 3, n := 2000, sumSq := 18000 } : SysCal) }
theorem test_meets_SpareCapturesCalibration_11 :
    (w_SpareCapturesCalibration_11.met.sysCal = some ({ index := 8, span := 2000000000, step := 3, n := 2000, sumSq := 18000 } : SysCal)) ∧ ({ index := 8, span := 2000000000, step := 3, n := 2000, sumSq := 18000 } : SysCal).step = 3 ∧ (2000 ≤ ({ index := 8, span := 2000000000, step := 3, n := 2000, sumSq := 18000 } : SysCal).n) ∧ (calNoise2 ({ index := 8, span := 2000000000, step := 3, n := 2000, sumSq := 18000 } : SysCal).index : Rat) < ({ index := 8, span := 2000000000, step := 3, n := 2000, sumSq := 18000 } : SysCal).sigmaNv ∧ ({ index := 8, span := 2000000000, step := 3, n := 2000, sumSq := 18000 } : SysCal).repeats < 3 :=
  by decide +kernel

def w_SpareCapturesCalibration_12 : State := { noon with met.sysCal := some ({ index := 8, span := 2000000000 } : SysCal) }
theorem test_meets_SpareCapturesCalibration_12 :
    (w_SpareCapturesCalibration_12.met.sysCal = some ({ index := 8, span := 2000000000 } : SysCal)) ∧ ({ index := 8, span := 2000000000 } : SysCal).step ≠ 3 ∧ (elapsed w_SpareCapturesCalibration_12 ({ index := 8, span := 2000000000 } : SysCal).since (secNs 1800) = true) :=
  by decide +kernel

def w_Housekeeping_1 : State := { noon with tick.f := 0, tick.j := 5 }
theorem test_meets_Housekeeping_1 :
    (metRuns w_Housekeeping_1 = true) ∧ (w_Housekeeping_1.tick.c % 10 = 0) ∧ (w_Housekeeping_1.tick.f = 0) ∧ (w_Housekeeping_1.tick.j = 5) :=
  by decide +kernel

def w_Housekeeping_2 : State := { noon with met.hkRunning := true, tick.f := 3, met.refSuspect := false }
theorem test_meets_Housekeeping_2 :
    (w_Housekeeping_2.met.hkRunning = true) ∧ (w_Housekeeping_2.tick.f = 3) ∧ (w_Housekeeping_2.met.refSuspect = false) ∧ (departure (List.replicate 32 2330 : List Nat) 31 w_Housekeeping_2.idn.hkVrefC ≤ 3 / 1000) :=
  by decide +kernel

def w_DispatchReference_1 : State := { noon with tick.j := 2 }
theorem test_meets_DispatchReference_1 :
    (dispRuns w_DispatchReference_1 = false) ∧ (coresRun w_DispatchReference_1 = true) ∧ (2 ≤ w_DispatchReference_1.tick.j) ∧ (w_DispatchReference_1.tick.j ≤ 15) :=
  by decide +kernel

def w_DispatchReference_2 : State := { runs with tick.j := 15 }
theorem test_meets_DispatchReference_2 :
    (dispRuns w_DispatchReference_2 = true) ∧ (coresRun w_DispatchReference_2 = true) ∧ (2 ≤ w_DispatchReference_2.tick.j) ∧ (w_DispatchReference_2.tick.j ≤ 15) :=
  by decide +kernel

def w_DispatchReference_3 : State := { runs with dsp.spTimeout := false, cfg.disp.spHoldMax := 1, dsp.spHold := 1000 }
theorem test_meets_DispatchReference_3 :
    (0 < w_DispatchReference_3.cfg.disp.spHoldMax) ∧ (w_DispatchReference_3.dsp.spTimeout = false) ∧ (1000 * w_DispatchReference_3.cfg.disp.spHoldMax ≤ w_DispatchReference_3.dsp.spHold) ∧ (w_DispatchReference_3.str.state = .run ∨ w_DispatchReference_3.str.state = .twilight) ∧ (owning w_DispatchReference_3 = true) :=
  by decide +kernel

def w_ShareSolution_1 : State := { noon with tab.drop := volt1 }
theorem test_meets_ShareSolution_1 :
    (w_ShareSolution_1.tab.drop.heldBy rdShare = some (bankOf 1 : Bank)) ∧ (isSp w_ShareSolution_1 = false) ∧ (w_ShareSolution_1.est.mode ≠ .noString) ∧ (coresRun w_ShareSolution_1 = true) ∧ (geoS w_ShareSolution_1 ≠ 0) ∧ (w_ShareSolution_1.tab.solvedBank ≠ (bankOf 1 : Bank).seq) :=
  by decide +kernel

def w_ShareSolution_2 : State := { sp with tab.drop := volt1 }
theorem test_meets_ShareSolution_2 :
    (w_ShareSolution_2.tab.drop.heldBy rdShare = some (bankOf 1 : Bank)) ∧ (coresRun w_ShareSolution_2 = true) ∧ (isSp w_ShareSolution_2 = true ∨ w_ShareSolution_2.tab.solvedBank = (bankOf 1 : Bank).seq) :=
  by decide +kernel

def w_ThermalControl_1 : State := { noon with tick.j := 3, cfg.therm.present := true }
theorem test_meets_ThermalControl_1 :
    (coresRun w_ThermalControl_1 = true) ∧ (w_ThermalControl_1.tick.j = 3) ∧ (thermalRuns w_ThermalControl_1 = true) :=
  by decide +kernel

def w_ThermalControl_2 : State := { noon with tick.j := 3, str.state := .service, cfg.therm.present := true, dawn.fail := 0 }
theorem test_meets_ThermalControl_2 :
    (coresRun w_ThermalControl_2 = true) ∧ (w_ThermalControl_2.tick.j = 3) ∧ (w_ThermalControl_2.str.state = .service) ∧ (w_ThermalControl_2.cfg.therm.present = true) ∧ (w_ThermalControl_2.dawn.fail = 0) ∧ (isSp w_ThermalControl_2 = false) ∧ (w_ThermalControl_2.thm.slots.length = 10) :=
  by decide +kernel

def w_ThermalControl_3 : State := { noon with tick.j := 3 }
theorem test_meets_ThermalControl_3 :
    (coresRun w_ThermalControl_3 = true) ∧ (w_ThermalControl_3.tick.j = 3) ∧ (thermalRuns w_ThermalControl_3 = false) ∧ (w_ThermalControl_3.str.state ≠ .service) :=
  by decide +kernel

def w_ThermalControl_4 : State := { noon with cfg.therm.diMode := [0, 0, 0, 2], thm.di := List.replicate 4 { badSince := some 0 } }
theorem test_meets_ThermalControl_4 :
    (3 < 4) ∧ (3 < w_ThermalControl_4.thm.di.length) ∧ (isSp w_ThermalControl_4 = false) ∧ (coresRun w_ThermalControl_4 = true) ∧ (diIsFlow w_ThermalControl_4 3 = true) ∧ (nth {} w_ThermalControl_4.thm.di 3).flowLost = false ∧ (heldFor w_ThermalControl_4 (nth {} w_ThermalControl_4.thm.di 3).badSince (secNs 5) = true) :=
  by decide +kernel

def w_ThermalControl_5 : State := { noon with thm.di := List.replicate 4 { goodSince := some 0, flowLost := true } }
theorem test_meets_ThermalControl_5 :
    (isSp w_ThermalControl_5 = false) ∧ (nth {} w_ThermalControl_5.thm.di 3).flowLost = true ∧ (heldFor w_ThermalControl_5 (nth {} w_ThermalControl_5.thm.di 3).goodSince (secNs 30) = true) :=
  by decide +kernel

def w_ThermalControl_6 : State := { noon with cfg.therm.diMode := [0, 0, 0, 3], thm.di := List.replicate 4 { badSince := some 0 } }
theorem test_meets_ThermalControl_6 :
    (3 < 4) ∧ (3 < w_ThermalControl_6.thm.di.length) ∧ (isSp w_ThermalControl_6 = false) ∧ (coresRun w_ThermalControl_6 = true) ∧ (nth 0 w_ThermalControl_6.cfg.therm.diMode 3 = 3) ∧ (nth {} w_ThermalControl_6.thm.di 3).leak = false ∧ (heldFor w_ThermalControl_6 (nth {} w_ThermalControl_6.thm.di 3).badSince (secNs 1) = true) :=
  by decide +kernel

def w_ThermalControl_7 : State := { noon with thm.di := List.replicate 4 { goodSince := some 0, leak := true } }
theorem test_meets_ThermalControl_7 :
    (isSp w_ThermalControl_7 = false) ∧ (nth {} w_ThermalControl_7.thm.di 3).leak = true ∧ (heldFor w_ThermalControl_7 (nth {} w_ThermalControl_7.thm.di 3).goodSince (secNs 60) = true) :=
  by decide +kernel

def w_ThermalControl_8 : State := { noon with cfg.therm.present := true, cfg.can.chPort := 1 }
theorem test_meets_ThermalControl_8 :
    (chillerOn w_ThermalControl_8 = true) ∧ (elapsed w_ThermalControl_8 w_ThermalControl_8.thm.chReqAt (msNs w_ThermalControl_8.cfg.therm.chPeriod) = true) :=
  by decide +kernel

def w_ThermalControl_9 : State := { noon with cfg.therm.present := true, cfg.can.chPort := 1, rings.rings := rings1 }
theorem test_meets_ThermalControl_9 :
    (ringAt w_ThermalControl_9 (24 + w_ThermalControl_9.cfg.can.chPort)).pkts = pkt :: [] ∧ (chillerOn w_ThermalControl_9 = true) ∧ (w_ThermalControl_9.thm.chsSeq ≠ some (getN (pkt.bytes.drop 4) 5 1)) :=
  by decide +kernel

def w_ThermalControl_10 : State := { noon with thm.chLost := false, cfg.therm.present := true, cfg.can.chPort := 1 }
theorem test_meets_ThermalControl_10 :
    (chillerOn w_ThermalControl_10 = true) ∧ (w_ThermalControl_10.thm.chLost = false) ∧ (elapsed w_ThermalControl_10 w_ThermalControl_10.thm.chAt (msNs w_ThermalControl_10.cfg.therm.chTimeout) = true) :=
  by decide +kernel

def w_InsulationMonitor_1 : State := { noon with iso.injecting := true, iso.invalid := false }
theorem test_meets_InsulationMonitor_1 :
    (sfRuns w_InsulationMonitor_1 = true) ∧ (running w_InsulationMonitor_1 = true) ∧ (w_InsulationMonitor_1.iso.injecting = true) ∧ (elapsed w_InsulationMonitor_1 w_InsulationMonitor_1.iso.halfSince (msNs w_InsulationMonitor_1.iso.half) = true) ∧ (w_InsulationMonitor_1.iso.invalid = false) :=
  by decide +kernel

def w_InsulationMonitor_2 : State := { noon with iso.injecting := true, iso.lastAsym := some (-40), iso.lastInj := some (-40), iso.test := none, iso.peOpen := false, iso.words := [0, 0, 0] }
theorem test_meets_InsulationMonitor_2 :
    (sfRuns w_InsulationMonitor_2 = true) ∧ (running w_InsulationMonitor_2 = true) ∧ (w_InsulationMonitor_2.iso.injecting = true) ∧ (elapsed w_InsulationMonitor_2 w_InsulationMonitor_2.iso.halfSince (msNs w_InsulationMonitor_2.iso.half) = true) ∧ (heldLong w_InsulationMonitor_2 w_InsulationMonitor_2.iso.dsHeld 1000 = false) ∧ (dsAt w_InsulationMonitor_2 5).failed = false ∧ (isoFit w_InsulationMonitor_2.iso.words.reverse = some ({ asym := 0, tau := 0, resid := 0 } : IsoFit)) ∧ (w_InsulationMonitor_2.iso.lastAsym = some (-40 : Rat)) ∧ (w_InsulationMonitor_2.iso.lastInj = some (-40 : Rat)) ∧ ({ asym := 0, tau := 0, resid := 0 } : IsoFit).resid ≤ absR (((40000 : Int) : Rat) / 1000 - (-40 : Rat)) * 2 / 100 ∧ (w_InsulationMonitor_2.iso.test = none) ∧ (w_InsulationMonitor_2.iso.peOpen = false) ∧ (w_InsulationMonitor_2.cfg.safety.isoAlarm ≤ (roundAway (clampR 10 10000 ((isoRes w_InsulationMonitor_2 (({ asym := 0, tau := 0, resid := 0 } : IsoFit).asym - (-40 : Rat)) (((40000 : Int) : Rat) / 1000 - (-40 : Rat))).getD 10001))).toNat) :=
  by decide +kernel

def w_InsulationMonitor_3 : State := { noon with iso.injecting := true, iso.lastAsym := some 0, iso.lastInj := some (-40), iso.test := none, iso.peOpen := false, iso.alarm := false, cfg.safety.isoAction := 1, iso.words := [0, 0, 0], iso.lowRun := 1 }
theorem test_meets_InsulationMonitor_3 :
    (sfRuns w_InsulationMonitor_3 = true) ∧ (running w_InsulationMonitor_3 = true) ∧ (w_InsulationMonitor_3.iso.injecting = true) ∧ (elapsed w_InsulationMonitor_3 w_InsulationMonitor_3.iso.halfSince (msNs w_InsulationMonitor_3.iso.half) = true) ∧ (heldLong w_InsulationMonitor_3 w_InsulationMonitor_3.iso.dsHeld 1000 = false) ∧ (dsAt w_InsulationMonitor_3 5).failed = false ∧ (isoFit w_InsulationMonitor_3.iso.words.reverse = some ({ asym := 0, tau := 0, resid := 0 } : IsoFit)) ∧ (w_InsulationMonitor_3.iso.lastAsym = some (0 : Rat)) ∧ (w_InsulationMonitor_3.iso.lastInj = some (-40 : Rat)) ∧ ({ asym := 0, tau := 0, resid := 0 } : IsoFit).resid ≤ absR (((40000 : Int) : Rat) / 1000 - (-40 : Rat)) * 2 / 100 ∧ (w_InsulationMonitor_3.iso.test = none) ∧ (w_InsulationMonitor_3.iso.peOpen = false) ∧ (roundAway (clampR 10 10000 ((isoRes w_InsulationMonitor_3 (({ asym := 0, tau := 0, resid := 0 } : IsoFit).asym - (0 : Rat)) (((40000 : Int) : Rat) / 1000 - (-40 : Rat))).getD 10001))).toNat < w_InsulationMonitor_3.cfg.safety.isoAlarm ∧ (0 < w_InsulationMonitor_3.iso.lowRun) ∧ (w_InsulationMonitor_3.iso.alarm = false) ∧ (w_InsulationMonitor_3.cfg.safety.isoAction = 1) :=
  by decide +kernel

def w_InsulationMonitor_4 : State := { noon with iso.peOpen := false, iso.rp := some 1000, iso.lastSplit := none, iso.splitPos := 40000000, iso.splitStr := 80000000, iso.splitN := 10, cont.c0.aux := true, cont.c1.aux := true }
theorem test_meets_InsulationMonitor_4 :
    (sfRuns w_InsulationMonitor_4 = true) ∧ (running w_InsulationMonitor_4 = true) ∧ (bothClosed w_InsulationMonitor_4 = true) ∧ (elapsed w_InsulationMonitor_4 w_InsulationMonitor_4.iso.splitSince (secNs 1) = true) ∧ (w_InsulationMonitor_4.iso.splitN ≠ 0) ∧ (10000 ≤ absR (dsVolt ((w_InsulationMonitor_4.iso.splitStr : Rat) / w_InsulationMonitor_4.iso.splitN))) ∧ (dsAt w_InsulationMonitor_4 4).failed = false ∧ (w_InsulationMonitor_4.iso.peOpen = false) ∧ (1 / 2 : Rat) = (w_InsulationMonitor_4.iso.splitPos : Rat) / w_InsulationMonitor_4.iso.splitStr ∧ (0 < (1 / 2 : Rat)) ∧ (1 / 2 : Rat) < 1 ∧ (w_InsulationMonitor_4.iso.rp = some (1000 : Rat)) ∧ (w_InsulationMonitor_4.iso.lastSplit = none) :=
  by decide +kernel

def w_InsulationMonitor_5 : State := noon
theorem test_meets_InsulationMonitor_5 :
    (bothClosed w_InsulationMonitor_5 = false) ∧ (elapsed w_InsulationMonitor_5 w_InsulationMonitor_5.iso.splitSince (secNs 1) = true) :=
  by decide +kernel

def w_InsulationMonitor_6 : State := { noon with iso.invalid := false }
theorem test_meets_InsulationMonitor_6 :
    (sfRuns w_InsulationMonitor_6 = true) ∧ (running w_InsulationMonitor_6 = true) ∧ (w_InsulationMonitor_6.iso.invalid = false) ∧ (elapsed w_InsulationMonitor_6 (w_InsulationMonitor_6.iso.resultAt.getD w_InsulationMonitor_6.iso.since) (msNs (isoAgeMax w_InsulationMonitor_6)) = true) :=
  by decide +kernel

def w_InsulationMonitor_7 : State := noon
theorem test_meets_InsulationMonitor_7 :
    (running w_InsulationMonitor_7 = true) :=
  by decide +kernel

def w_InsulationMonitor_8 : State := { noon with iso.peOpen := false }
theorem test_meets_InsulationMonitor_8 :
    (running w_InsulationMonitor_8 = true) ∧ (w_InsulationMonitor_8.iso.peOpen = false) ∧ (10000 < 10001) :=
  by decide +kernel

def w_InsulationMonitor_9 : State := noon
theorem test_meets_InsulationMonitor_9 :
    (running w_InsulationMonitor_9 = true) ∧ (10000 ≤ 10000) :=
  by decide +kernel

def w_InsulationMonitor_10 : State := { noon with iso.peGoodSince := some 0, iso.peOpen := true }
theorem test_meets_InsulationMonitor_10 :
    (w_InsulationMonitor_10.iso.peGoodSince = some 0) ∧ (w_InsulationMonitor_10.iso.peOpen = true) ∧ (running w_InsulationMonitor_10 = true) ∧ (elapsed w_InsulationMonitor_10 0 (secNs 1) = true) :=
  by decide +kernel

def w_DawnSteps_1 : State := { noon with dawn.step := some 1, str.state := .dawn }
theorem test_meets_DawnSteps_1 :
    (dawnRuns w_DawnSteps_1 = true) ∧ (w_DawnSteps_1.dawn.step = some 1) ∧ ({} : DawnIn).badRows = [] :=
  by decide +kernel

def w_DawnSteps_2 : State := { noon with dawn.step := some 8, str.role := some .solo, cfg.safety.pair := false, str.state := .dawn }
theorem test_meets_DawnSteps_2 :
    (dawnRuns w_DawnSteps_2 = true) ∧ (w_DawnSteps_2.dawn.step = some 8) ∧ (w_DawnSteps_2.str.role = some .solo) ∧ (w_DawnSteps_2.cfg.safety.pair = false) :=
  by decide +kernel

def w_DawnSteps_3 : State := { noon with dawn.step := some 6, str.state := .dawn }
theorem test_meets_DawnSteps_3 :
    (dawnRuns w_DawnSteps_3 = true) ∧ (w_DawnSteps_3.dawn.step = some 6) ∧ ({ refSettled := false } : DawnIn).refSettled = false :=
  by decide +kernel

def w_DawnSteps_4 : State := { noon with dawn.step := some 5, str.state := .dawn }
theorem test_meets_DawnSteps_4 :
    (dawnRuns w_DawnSteps_4 = true) ∧ (w_DawnSteps_4.dawn.step = some 5) ∧ (judgeSeal (judgeImage ({ plugDet := false } : DawnIn).plugDet ({ plugDet := false } : DawnIn).plugAck ({ plugDet := false } : DawnIn).image (some ({ plugDet := false } : DawnIn).reread)) ({ plugDet := false } : DawnIn).seals).fail = some 1 :=
  by decide +kernel

def w_DawnSteps_5 : State := { noon with dawn.step := some 11, idn.class2 := [], str.state := .dawn }
theorem test_meets_DawnSteps_5 :
    (dawnRuns w_DawnSteps_5 = true) ∧ (w_DawnSteps_5.dawn.step = some 11) ∧ ({ holdupCap := some 1350 } : DawnIn).holdupCap = some 1350 ∧ (1350 ≤ 1350) ∧ ({ holdupCap := some 1350 } : DawnIn).holdupReady = true ∧ (w_DawnSteps_5.idn.class2 = []) :=
  by decide +kernel

def w_DawnSteps_6 : State := { noon with dawn.step := some 10, str.state := .dawn }
theorem test_meets_DawnSteps_6 :
    (dawnRuns w_DawnSteps_6 = true) ∧ (w_DawnSteps_6.dawn.step = some 10) ∧ (10 < 11) ∧ (elapsed w_DawnSteps_6 w_DawnSteps_6.dawn.stepSince (msNs (dawnBudget 10)) = true) :=
  by decide +kernel

def w_DawnSteps_7 : State := { noon with dawn.step := some 11, pwr.holdupReady := false, str.state := .dawn }
theorem test_meets_DawnSteps_7 :
    (dawnRuns w_DawnSteps_7 = true) ∧ (w_DawnSteps_7.dawn.step = some 11) ∧ (w_DawnSteps_7.pwr.holdupReady = false) ∧ (elapsed w_DawnSteps_7 w_DawnSteps_7.dawn.stepSince (msNs 1000) = true) :=
  by decide +kernel

def w_DawnSteps_8 : State := { noon with pins.lampTest := true }
theorem test_meets_DawnSteps_8 :
    (w_DawnSteps_8.pins.lampTest = true) ∧ (elapsed w_DawnSteps_8 0 (msNs 500) = true) :=
  by decide +kernel

def w_SkaleyLink_1 : State := { noon with skl.queue := [sklF 2] }
theorem test_meets_SkaleyLink_1 :
    (runsRing w_SkaleyLink_1 = true) ∧ (sklNext w_SkaleyLink_1 0 = some ((sklF 2 : SklFrame), [])) ∧ (sklF 2 : SklFrame).port = 0 ∧ (sklFits w_SkaleyLink_1 (sklF 2 : SklFrame) = true) :=
  by decide +kernel

def w_SkaleyLink_2 : State := { noon with skl.queue := [sklF 2], tick.j := 20 }
theorem test_meets_SkaleyLink_2 :
    (sklNext w_SkaleyLink_2 0 = some ((sklF 2 : SklFrame), [])) ∧ (sklFits w_SkaleyLink_2 (sklF 2 : SklFrame) = false) :=
  by decide +kernel

def w_SkaleyLink_3 : State := noon
theorem test_meets_SkaleyLink_3 :
    (runsRing w_SkaleyLink_3 = true) ∧ (true = false ∨ sklFrameOk ([1] : Bytes) = false) :=
  by decide +kernel

def w_SkaleyLink_4 : State := { noon with skl.ring := .closed, skl.flight := [{ sklF 1 with seq := 9 }] }
theorem test_meets_SkaleyLink_4 :
    (runsRing w_SkaleyLink_4 = true) ∧ (sklFrameOk (sklB 1 0 9 : Bytes) = true) ∧ (takeFirst (fun g => g.type_ = getN (sklB 1 0 9 : Bytes) 0 1 && g.seq = getN (sklB 1 0 9 : Bytes) 2 2 && g.port = if bitAt (getN (sklB 1 0 9 : Bytes) 1 1) 7 then 1 else 0) w_SkaleyLink_4.skl.flight = some (({ sklF 1 with seq := 9 } : SklFrame), [])) ∧ ({ sklF 1 with seq := 9 } : SklFrame).type_ = 1 ∧ ({ sklF 1 with seq := 9 } : SklFrame).port = 0 ∧ (bitAt (getN (sklB 1 0 9 : Bytes) 1 1) 5 = false) ∧ (w_SkaleyLink_4.skl.ring ≠ .down) :=
  by decide +kernel

def w_SkaleyLink_5 : State := { noon with skl.flight := [{ sklF 11 with seq := 9 }] }
theorem test_meets_SkaleyLink_5 :
    (runsRing w_SkaleyLink_5 = true) ∧ (1 < 2) ∧ (sklFrameOk (sklB 11 0 9 : Bytes) = true) ∧ (takeFirst (fun g => g.type_ = getN (sklB 11 0 9 : Bytes) 0 1 && g.seq = getN (sklB 11 0 9 : Bytes) 2 2 && g.port = if bitAt (getN (sklB 11 0 9 : Bytes) 1 1) 7 then 1 else 0) w_SkaleyLink_5.skl.flight = some (({ sklF 11 with seq := 9 } : SklFrame), [])) ∧ ({ sklF 11 with seq := 9 } : SklFrame).type_ = 0x0B ∧ ({ sklF 11 with seq := 9 } : SklFrame).port = 0 ∧ ({ sklF 11 with seq := 9 } : SklFrame).dest < w_SkaleyLink_5.skl.mons.length :=
  by decide +kernel

def w_SkaleyLink_6 : State := { noon with skl.probing := false, skl.flight := [{ sklF 2 with seq := 9 }] }
theorem test_meets_SkaleyLink_6 :
    (runsRing w_SkaleyLink_6 = true) ∧ (0 < 2) ∧ (sklFrameOk (sklB 2 32 9 : Bytes) = true) ∧ (takeFirst (fun g => g.type_ = getN (sklB 2 32 9 : Bytes) 0 1 && g.seq = getN (sklB 2 32 9 : Bytes) 2 2 && g.port = if bitAt (getN (sklB 2 32 9 : Bytes) 1 1) 7 then 1 else 0) w_SkaleyLink_6.skl.flight = some (({ sklF 2 with seq := 9 } : SklFrame), [])) ∧ ({ sklF 2 with seq := 9 } : SklFrame).type_ ≠ 0x0B ∧ (bitAt (getN (sklB 2 32 9 : Bytes) 1 1) 5 = true) ∧ (w_SkaleyLink_6.skl.ring = .closed ∨ w_SkaleyLink_6.skl.ring = .down) ∧ (w_SkaleyLink_6.skl.probing = false) ∧ (geoM w_SkaleyLink_6 ≠ 0) :=
  by decide +kernel

def w_SkaleyLink_7 : State := { noon with skl.probing := false, skl.flight := [sklF 2] }
theorem test_meets_SkaleyLink_7 :
    (runsRing w_SkaleyLink_7 = true) ∧ (w_SkaleyLink_7.skl.probing = false) ∧ (geoM w_SkaleyLink_7 ≠ 0) ∧ (takeFirst (fun g => g.port = 0 && elapsed w_SkaleyLink_7 g.at_ (lineNs g + 40000)) w_SkaleyLink_7.skl.flight = some ((sklF 2 : SklFrame), [])) :=
  by decide +kernel

def w_SkaleyLink_8 : State := noon
theorem test_meets_SkaleyLink_8 :
    (runsRing w_SkaleyLink_8 = true) ∧ (geoM w_SkaleyLink_8 ≠ 0) :=
  by decide +kernel

def w_SkaleyLink_9 : State := noon
theorem test_meets_SkaleyLink_9 :
    (runsRing w_SkaleyLink_9 = true) ∧ (geoM w_SkaleyLink_9 ≠ 0) :=
  by decide +kernel

def w_SkaleyLink_10 : State := { noon with skl.broken := true, skl.ring := .open_, skl.syncRun := 10 }
theorem test_meets_SkaleyLink_10 :
    (w_SkaleyLink_10.skl.broken = true) ∧ (10 ≤ w_SkaleyLink_10.skl.syncRun + b2n (w_SkaleyLink_10.skl.syncA && w_SkaleyLink_10.skl.syncB)) :=
  by decide +kernel

def w_SkaleyStaleness_1 : State := { noon with skl.mons := mon1, tab.poss := [{ vAt := some 0 }] }
theorem test_meets_SkaleyStaleness_1 :
    (nth {} w_SkaleyStaleness_1.tab.poss 0).vAt = some 0 ∧ (placeOf 0 < w_SkaleyStaleness_1.skl.mons.length) ∧ (runsRing w_SkaleyStaleness_1 = true) ∧ (0 < geoP w_SkaleyStaleness_1) ∧ (nth {} w_SkaleyStaleness_1.tab.poss 0).vStale = false ∧ (monAt w_SkaleyStaleness_1 (placeOf 0)).vStale = false ∧ (elapsed w_SkaleyStaleness_1 0 (msNs 25) = true) :=
  by decide +kernel

def w_SkaleyStaleness_2 : State := { noon with skl.mons := mon1, tab.cells := [{ dAt := some 0 }] }
theorem test_meets_SkaleyStaleness_2 :
    (1 = geoS w_SkaleyStaleness_2) ∧ (1 ≠ 0) ∧ (nth {} w_SkaleyStaleness_2.tab.cells 0).dAt = some 0 ∧ (runsRing w_SkaleyStaleness_2 = true) ∧ (0 < geoP w_SkaleyStaleness_2 * 1) ∧ (nth {} w_SkaleyStaleness_2.tab.cells 0).dropStale = false ∧ (0 < w_SkaleyStaleness_2.tab.cells.length) ∧ (0 / 1 < w_SkaleyStaleness_2.tab.poss.length) ∧ (elapsed w_SkaleyStaleness_2 0 (msNs 310) = true) :=
  by decide +kernel

def w_SkaleyStaleness_3 : State := { noon with skl.mons := mon1, tab.temps := List.replicate 8 { tAt := some 0, fitted := true } }
theorem test_meets_SkaleyStaleness_3 :
    (nth {} w_SkaleyStaleness_3.tab.temps 7).tAt = some 0 ∧ (nth {} w_SkaleyStaleness_3.tab.temps 7).fitted = true ∧ (runsRing w_SkaleyStaleness_3 = true) ∧ (7 / 8 < geoP w_SkaleyStaleness_3) ∧ (nth {} w_SkaleyStaleness_3.tab.temps 7).stale = false ∧ (7 < w_SkaleyStaleness_3.tab.temps.length) ∧ (elapsed w_SkaleyStaleness_3 0 (msNs 1510) = true) :=
  by decide +kernel

def w_SkaleyStaleness_4 : State := { noon with skl.onDemand := none }
theorem test_meets_SkaleyStaleness_4 :
    (w_SkaleyStaleness_4.skl.onDemand = none) ∧ (runsRing w_SkaleyStaleness_4 = true) ∧ (geoM w_SkaleyStaleness_4 ≠ 0) :=
  by decide +kernel

def w_SkaleyStaleness_5 : State := { noon with skl.onDemand := some ((1, 1) : Nat × Nat) }
theorem test_meets_SkaleyStaleness_5 :
    (w_SkaleyStaleness_5.skl.onDemand = some ((1, 1) : Nat × Nat)) :=
  by decide +kernel

def w_BalancingCycle_1 : State := { noon with tick.c := 3, tick.f := 8 }
theorem test_meets_BalancingCycle_1 :
    (runsRing w_BalancingCycle_1 = true) ∧ (w_BalancingCycle_1.tick.c = 3) ∧ (8 ≤ w_BalancingCycle_1.tick.f) ∧ (w_BalancingCycle_1.tb.time % 1000000000 < 500000000) ∧ (geoP w_BalancingCycle_1 ≠ 0) :=
  by decide +kernel

def w_BalancingCycle_2 : State := { noon with tick.f := 5, bal.waiting := true, tick.c := 45 }
theorem test_meets_BalancingCycle_2 :
    (runsRing w_BalancingCycle_2 = true) ∧ (w_BalancingCycle_2.tick.c % 10 = 5) ∧ (w_BalancingCycle_2.tick.f = 5) ∧ (lockinIntegrates w_BalancingCycle_2 = false) ∧ (w_BalancingCycle_2.bal.waiting = true) :=
  by decide +kernel

def w_BalancingCycle_3 : State := { noon with tick.f := 5, tick.c := 5, skl.lockinOn := true, imp.lockEnd := 200000000000000 }
theorem test_meets_BalancingCycle_3 :
    (runsRing w_BalancingCycle_3 = true) ∧ (w_BalancingCycle_3.tick.c % 10 = 5) ∧ (w_BalancingCycle_3.tick.f = 5) ∧ (lockinIntegrates w_BalancingCycle_3 = true) :=
  by decide +kernel

def w_BalancingCycle_4 : State := { noon with skl.mons := mon1 }
theorem test_meets_BalancingCycle_4 :
    (runsRing w_BalancingCycle_4 = true) ∧ (0 < geoM w_BalancingCycle_4) ∧ (monAt w_BalancingCycle_4 0).balAt ≠ 0 ∧ (nth false w_BalancingCycle_4.bal.monWatch 0 = false) ∧ (0 < w_BalancingCycle_4.bal.monWatch.length) ∧ (elapsed w_BalancingCycle_4 (monAt w_BalancingCycle_4 0).balAt (msNs 2500) = true) :=
  by decide +kernel

def w_BalancingCycle_5 : State := { noon with bal.campaign := some ({ deadband := 100, timeMax := 60, since := some 0 } : Campaign) }
theorem test_meets_BalancingCycle_5 :
    (w_BalancingCycle_5.bal.campaign = some ({ deadband := 100, timeMax := 60, since := some 0 } : Campaign)) ∧ ({ deadband := 100, timeMax := 60, since := some 0 } : Campaign).suspended = false ∧ (secNs (60 * ({ deadband := 100, timeMax := 60, since := some 0 } : Campaign).timeMax) ≤ campaignTime w_BalancingCycle_5 ({ deadband := 100, timeMax := 60, since := some 0 } : Campaign)) :=
  by decide +kernel

def w_ImpedanceSweeps_1 : State := { noon with imp.sweep := some sweep1, str.state := .run, tick.j := 0, skl.lockinOn := false, imp.exc := none, cfg.imp.plans := plan1, dsp.appChg := 500, dsp.appDis := 500, cnv.phases := List.replicate 3 { st := .enabled } }
theorem test_meets_ImpedanceSweeps_1 :
    (w_ImpedanceSweeps_1.imp.sweep = some sweep1) ∧ (sweep1.st = 1) ∧ (sweep1.startAt = 0) ∧ (sweep1.notBefore ≤ w_ImpedanceSweeps_1.tick.now) ∧ (w_ImpedanceSweeps_1.str.state = .run) ∧ (isSp w_ImpedanceSweeps_1 = false) ∧ (w_ImpedanceSweeps_1.tick.j = 0) ∧ (w_ImpedanceSweeps_1.skl.lockinOn = false) ∧ (w_ImpedanceSweeps_1.imp.exc = none) ∧ (2 * ampSum (sweepBlock w_ImpedanceSweeps_1 sweep1).tones ≤ w_ImpedanceSweeps_1.dsp.appChg + w_ImpedanceSweeps_1.dsp.appDis) ∧ (3 ≤ enabledN w_ImpedanceSweeps_1) ∧ (sweep1.keep = none) :=
  by decide +kernel

def w_ImpedanceSweeps_2 : State := { noon with imp.sweep := some sweep1, str.state := .run, tick.j := 0, skl.lockinOn := false, imp.exc := none, cfg.imp.plans := plan1, dsp.appChg := 500, dsp.appDis := 499, cnv.phases := List.replicate 3 { st := .enabled } }
theorem test_meets_ImpedanceSweeps_2 :
    (w_ImpedanceSweeps_2.imp.sweep = some sweep1) ∧ (sweep1.st = 1) ∧ (sweep1.startAt = 0) ∧ (sweep1.notBefore ≤ w_ImpedanceSweeps_2.tick.now) ∧ (w_ImpedanceSweeps_2.str.state = .run) ∧ (isSp w_ImpedanceSweeps_2 = false) ∧ (w_ImpedanceSweeps_2.tick.j = 0) ∧ (w_ImpedanceSweeps_2.skl.lockinOn = false) ∧ (w_ImpedanceSweeps_2.imp.exc = none) ∧ (sweep1.keep = none) ∧ (w_ImpedanceSweeps_2.dsp.appChg + w_ImpedanceSweeps_2.dsp.appDis < 2 * ampSum (sweepBlock w_ImpedanceSweeps_2 sweep1).tones ∨ enabledN w_ImpedanceSweeps_2 < 3) :=
  by decide +kernel

def w_ImpedanceSweeps_3 : State := { noon with imp.sweep := some ({ sweep1 with startAt := 100000000000000 } : Sweep), cfg.imp.plans := plan1 }
theorem test_meets_ImpedanceSweeps_3 :
    (isSp w_ImpedanceSweeps_3 = false) ∧ (w_ImpedanceSweeps_3.imp.sweep = some ({ sweep1 with startAt := 100000000000000 } : Sweep)) ∧ ({ sweep1 with startAt := 100000000000000 } : Sweep).st = 1 ∧ ({ sweep1 with startAt := 100000000000000 } : Sweep).startAt ≠ 0 ∧ ({ sweep1 with startAt := 100000000000000 } : Sweep).startAt ≤ w_ImpedanceSweeps_3.tick.now :=
  by decide +kernel

def w_ImpedanceSweeps_4 : State := { noon with imp.sweep := some ({ sweep1 with st := 2, srcChanged := true, repeats := 1 } : Sweep), cfg.imp.plans := plan1 }
theorem test_meets_ImpedanceSweeps_4 :
    (isSp w_ImpedanceSweeps_4 = false) ∧ (w_ImpedanceSweeps_4.imp.sweep = some ({ sweep1 with st := 2, srcChanged := true, repeats := 1 } : Sweep)) ∧ ({ sweep1 with st := 2, srcChanged := true, repeats := 1 } : Sweep).st = 2 ∧ ({ sweep1 with st := 2, srcChanged := true, repeats := 1 } : Sweep).startAt + (sweepBlock w_ImpedanceSweeps_4 ({ sweep1 with st := 2, srcChanged := true, repeats := 1 } : Sweep)).length * 50000 ≤ w_ImpedanceSweeps_4.tick.now ∧ (w_ImpedanceSweeps_4.cfg.imp.dcStepMax * w_ImpedanceSweeps_4.cfg.conv.iRated < ({ sweep1 with st := 2, srcChanged := true, repeats := 1 } : Sweep).dcMoved * 10000 ∨ ({ sweep1 with st := 2, srcChanged := true, repeats := 1 } : Sweep).srcChanged = true) ∧ ({ sweep1 with st := 2, srcChanged := true, repeats := 1 } : Sweep).repeats < 2 :=
  by decide +kernel

def w_ImpedanceSweeps_5 : State := { noon with imp.sweep := some ({ sweep1 with st := 2 } : Sweep), cfg.imp.plans := plan1 }
theorem test_meets_ImpedanceSweeps_5 :
    (isSp w_ImpedanceSweeps_5 = false) ∧ (w_ImpedanceSweeps_5.imp.sweep = some ({ sweep1 with st := 2 } : Sweep)) ∧ ({ sweep1 with st := 2 } : Sweep).st = 2 ∧ ({ sweep1 with st := 2 } : Sweep).startAt + (sweepBlock w_ImpedanceSweeps_5 ({ sweep1 with st := 2 } : Sweep)).length * 50000 ≤ w_ImpedanceSweeps_5.tick.now ∧ ({ sweep1 with st := 2 } : Sweep).dcMoved * 10000 ≤ w_ImpedanceSweeps_5.cfg.imp.dcStepMax * w_ImpedanceSweeps_5.cfg.conv.iRated ∧ ({ sweep1 with st := 2 } : Sweep).srcChanged = false ∧ (planBlocks w_ImpedanceSweeps_5 ({ sweep1 with st := 2 } : Sweep).plan).drop (({ sweep1 with st := 2 } : Sweep).block + 1) = [] :=
  by decide +kernel

def w_ImpedanceSweeps_6 : State := { noon with imp.sweep := some ({ sweep1 with st := 3, again := true } : Sweep), cfg.imp.plans := plan1 }
theorem test_meets_ImpedanceSweeps_6 :
    (isSp w_ImpedanceSweeps_6 = false) ∧ (w_ImpedanceSweeps_6.imp.sweep = some ({ sweep1 with st := 3, again := true } : Sweep)) ∧ (({ sweep1 with st := 3, again := true } : Sweep).st = 3 ∨ ({ sweep1 with st := 3, again := true } : Sweep).st = 4) ∧ ({ sweep1 with st := 3, again := true } : Sweep).endAt + 1000000 ≤ w_ImpedanceSweeps_6.tick.now ∧ (w_ImpedanceSweeps_6.skl.lockinOn = true → lockinOver w_ImpedanceSweeps_6 = true) ∧ ({ sweep1 with st := 3, again := true } : Sweep).again = true :=
  by decide +kernel

def w_ImpedanceSweeps_7 : State := { noon with imp.sweep := some ({ sweep1 with st := 3 } : Sweep), cfg.imp.plans := plan1 }
theorem test_meets_ImpedanceSweeps_7 :
    (isSp w_ImpedanceSweeps_7 = false) ∧ (w_ImpedanceSweeps_7.imp.sweep = some ({ sweep1 with st := 3 } : Sweep)) ∧ (({ sweep1 with st := 3 } : Sweep).st = 3 ∨ ({ sweep1 with st := 3 } : Sweep).st = 4) ∧ ({ sweep1 with st := 3 } : Sweep).endAt + 1000000 ≤ w_ImpedanceSweeps_7.tick.now ∧ (w_ImpedanceSweeps_7.skl.lockinOn = true → lockinOver w_ImpedanceSweeps_7 = true) ∧ ({ sweep1 with st := 3 } : Sweep).again = false :=
  by decide +kernel

def w_ImpedanceSweeps_8 : State := { noon with imp.autoDue := some 0, str.state := .run, cfg.imp.plans := plan1, cfg.imp.autoPlan := 0 }
theorem test_meets_ImpedanceSweeps_8 :
    (w_ImpedanceSweeps_8.imp.autoDue = some 0) ∧ (0 ≤ w_ImpedanceSweeps_8.tick.now + 50000) ∧ (w_ImpedanceSweeps_8.str.state = .run) ∧ (isSp w_ImpedanceSweeps_8 = false) ∧ (sweepBusy w_ImpedanceSweeps_8 = false) ∧ (w_ImpedanceSweeps_8.cfg.imp.autoPlan < w_ImpedanceSweeps_8.cfg.imp.plans.length) :=
  by decide +kernel

def w_ImpedanceSweeps_9 : State := { noon with tab.poss := [{ tInt := some 2500 }] }
theorem test_meets_ImpedanceSweeps_9 :
    (isSp w_ImpedanceSweeps_9 = false) ∧ (nth {} w_ImpedanceSweeps_9.tab.poss 0).tInt ≠ none ∧ (0 < w_ImpedanceSweeps_9.tab.poss.length) ∧ (elapsed w_ImpedanceSweeps_9 (nth {} w_ImpedanceSweeps_9.tab.poss 0).tIntAt (secNs w_ImpedanceSweeps_9.cfg.imp.tIntAgeMax) = true) :=
  by decide +kernel

def w_HostDatagrams_1 : State := { noon with rings.rings := List.replicate 64 { cfg := 0x09000000 } }
theorem test_meets_HostDatagrams_1 :
    (netUp w_HostDatagrams_1 = true) ∧ (portServes w_HostDatagrams_1 (dg 1 5 1 0x0100 [] : RxDgram).port = true) ∧ (dg 1 5 1 0x0100 [] : RxDgram).formOk = true ∧ (dg 1 5 1 0x0100 [] : RxDgram).kind = 1 ∧ (dg 1 5 1 0x0100 [] : RxDgram).no = 0 ∧ (dg 1 5 1 0x0100 [] : RxDgram).session ≠ 0 ∧ (findSession w_HostDatagrams_1 (dg 1 5 1 0x0100 [] : RxDgram).session = some (sess 2 : Session)) ∧ (sess 2 : Session).state = 2 ∧ (sess 2 : Session).port = (dg 1 5 1 0x0100 [] : RxDgram).port ∧ (sess 2 : Session).addr = (dg 1 5 1 0x0100 [] : RxDgram).addr ∧ (sess 2 : Session).udp = (dg 1 5 1 0x0100 [] : RxDgram).udp ∧ (sess 2 : Session).cache.any (fun c => c.seq = (dg 1 5 1 0x0100 [] : RxDgram).seq) = false ∧ (sess 2 : Session).waiting.contains (dg 1 5 1 0x0100 [] : RxDgram).seq = false ∧ (sess 2 : Session).seen.contains (dg 1 5 1 0x0100 [] : RxDgram).seq = false ∧ (sess 2 : Session).highest < (dg 1 5 1 0x0100 [] : RxDgram).seq ∧ (sess 2 : Session).waiting.length < 16 ∧ (ringLoaded w_HostDatagrams_1 (dg 1 5 1 0x0100 [] : RxDgram) = false) ∧ (dg 1 5 1 0x0100 [] : RxDgram).ring < w_HostDatagrams_1.rings.rings.length :=
  by decide +kernel

def w_HostDatagrams_2 : State := noon
theorem test_meets_HostDatagrams_2 :
    (netUp w_HostDatagrams_2 = true) ∧ (portServes w_HostDatagrams_2 (dg 1 0 1 0x0200 [] : RxDgram).port = true) ∧ (dg 1 0 1 0x0200 [] : RxDgram).formOk = true ∧ (dg 1 0 1 0x0200 [] : RxDgram).kind = 1 ∧ (dg 1 0 1 0x0200 [] : RxDgram).session = 0 ∧ (sourceOk w_HostDatagrams_2 (dg 1 0 1 0x0200 [] : RxDgram).port (dg 1 0 1 0x0200 [] : RxDgram).addr = true) ∧ (dg 1 0 1 0x0200 [] : RxDgram).code ≠ 0x0100 :=
  by decide +kernel

def w_HostDatagrams_3 : State := noon
theorem test_meets_HostDatagrams_3 :
    (({ dg 1 0 1 0x0200 [] with bytes := List.replicate 39 0 } : RxDgram).formOk = false ∨ portServes w_HostDatagrams_3 ({ dg 1 0 1 0x0200 [] with bytes := List.replicate 39 0 } : RxDgram).port = false ∨ (({ dg 1 0 1 0x0200 [] with bytes := List.replicate 39 0 } : RxDgram).session = 0 ∧ sourceOk w_HostDatagrams_3 ({ dg 1 0 1 0x0200 [] with bytes := List.replicate 39 0 } : RxDgram).port ({ dg 1 0 1 0x0200 [] with bytes := List.replicate 39 0 } : RxDgram).addr = false)) :=
  by decide +kernel

def w_HostSessions_1 : State := { noon with upd.recovery := false, host.sessions := List.replicate 8 none, idn.keys := List.replicate 4 (some (List.replicate 32 1)) }
theorem test_meets_HostSessions_1 :
    (handshakeOk w_HostSessions_1 (dg 0x10 0 1 0 (List.replicate 20 0) : RxDgram) 0x10 = true) ∧ (slotKey w_HostSessions_1 (getN (dg 0x10 0 1 0 (List.replicate 20 0) : RxDgram).payload 0 1)).isSome = true ∧ (w_HostSessions_1.upd.recovery = false) ∧ (dg 0x10 0 1 0 (List.replicate 20 0) : RxDgram).payload.length = 20 ∧ (inDawn w_HostSessions_1 = false) ∧ (w_HostSessions_1.host.sessions.findIdx? (·.isNone) = some 0) :=
  by decide +kernel

def w_HostSessions_2 : State := { noon with idn.keys := List.replicate 4 none }
theorem test_meets_HostSessions_2 :
    (handshakeOk w_HostSessions_2 (dg 0x10 0 1 0 (List.replicate 20 0) : RxDgram) 0x10 = true) ∧ (slotKey w_HostSessions_2 (getN (dg 0x10 0 1 0 (List.replicate 20 0) : RxDgram).payload 0 1) = none) :=
  by decide +kernel

def w_HostSessions_3 : State := { noon with host.sessions := [some { sess 2 with state := 1, lastFrame := 99998000000000 }] }
theorem test_meets_HostSessions_3 :
    (handshakeOk w_HostSessions_3 (dg 0x12 5 1 0 (List.replicate 16 0) : RxDgram) 0x12 = true) ∧ (findSession w_HostSessions_3 (dg 0x12 5 1 0 (List.replicate 16 0) : RxDgram).session = some ({ sess 2 with state := 1, lastFrame := 99998000000000 } : Session)) ∧ ({ sess 2 with state := 1, lastFrame := 99998000000000 } : Session).state = 1 ∧ ({ sess 2 with state := 1, lastFrame := 99998000000000 } : Session).port = (dg 0x12 5 1 0 (List.replicate 16 0) : RxDgram).port ∧ ({ sess 2 with state := 1, lastFrame := 99998000000000 } : Session).addr = (dg 0x12 5 1 0 (List.replicate 16 0) : RxDgram).addr ∧ ({ sess 2 with state := 1, lastFrame := 99998000000000 } : Session).udp = (dg 0x12 5 1 0 (List.replicate 16 0) : RxDgram).udp ∧ (sinceNs w_HostSessions_3 ({ sess 2 with state := 1, lastFrame := 99998000000000 } : Session).lastFrame ≤ secNs 2) :=
  by decide +kernel

def w_HostSessions_4 : State := { noon with host.sessions := [some { sess 2 with state := 1 }] }
theorem test_meets_HostSessions_4 :
    (findSession w_HostSessions_4 5 = some ({ sess 2 with state := 1 } : Session)) ∧ (running w_HostSessions_4 = true) ∧ ({ sess 2 with state := 1 } : Session).state = 1 ∧ (elapsed w_HostSessions_4 ({ sess 2 with state := 1 } : Session).lastFrame (secNs 2) = true) :=
  by decide +kernel

def w_HostSessions_5 : State := noon
theorem test_meets_HostSessions_5 :
    (findSession w_HostSessions_5 5 = some (sess 2 : Session)) ∧ (running w_HostSessions_5 = true) ∧ (sess 2 : Session).state = 2 ∧ (elapsed w_HostSessions_5 (sess 2 : Session).lastFrame (secNs w_HostSessions_5.cfg.net.idle) = true) :=
  by decide +kernel

def w_SessionCommands_1 : State := noon
theorem test_meets_SessionCommands_1 :
    (serves w_SessionCommands_1 ({ rq 0x0100 [0, 0, 0, 0] with session := 0 } : HostReq) = true) ∧ ({ rq 0x0100 [0, 0, 0, 0] with session := 0 } : HostReq).session = 0 ∧ (sourceOk w_SessionCommands_1 ({ rq 0x0100 [0, 0, 0, 0] with session := 0 } : HostReq).port ({ rq 0x0100 [0, 0, 0, 0] with session := 0 } : HostReq).addr = true) ∧ (readAnswer w_SessionCommands_1 true ({ rq 0x0100 [0, 0, 0, 0] with session := 0 } : HostReq).args).2.length ≤ 1400 :=
  by decide +kernel

def w_SessionCommands_2 : State := noon
theorem test_meets_SessionCommands_2 :
    (serves w_SessionCommands_2 (rq 0x0100 (u8 1 ++ List.replicate 11 0) : HostReq) = true) ∧ (rq 0x0100 (u8 1 ++ List.replicate 11 0) : HostReq).session ≠ 0 ∧ (openSession w_SessionCommands_2 (rq 0x0100 (u8 1 ++ List.replicate 11 0) : HostReq) = some (sess 2 : Session)) ∧ (readAnswer w_SessionCommands_2 false (rq 0x0100 (u8 1 ++ List.replicate 11 0) : HostReq).args).2.length ≤ 1400 :=
  by decide +kernel

def w_SessionCommands_3 : State := noon
theorem test_meets_SessionCommands_3 :
    (Admitted 0 (rq 0x0101 [3, 1, 0, 0, 5, 0xA0, 10, 0] : HostReq) w_SessionCommands_3) ∧ (4 ≤ (rq 0x0101 [3, 1, 0, 0, 5, 0xA0, 10, 0] : HostReq).args.length) ∧ (rq 0x0101 [3, 1, 0, 0, 5, 0xA0, 10, 0] : HostReq).args.length = 4 + 4 * getN (rq 0x0101 [3, 1, 0, 0, 5, 0xA0, 10, 0] : HostReq).args 1 1 ∧ (getN (rq 0x0101 [3, 1, 0, 0, 5, 0xA0, 10, 0] : HostReq).args 1 1 ≤ 16) ∧ (∀ e ∈ subEntries (rq 0x0101 [3, 1, 0, 0, 5, 0xA0, 10, 0] : HostReq).args, (objView w_SessionCommands_3 e.obj).isSome = true ∧ 10 ≤ e.period ∧ e.period ≤ 60000 ∧ ∃ k, wholeSize w_SessionCommands_3 e.obj = some k ∧ k ≤ 256) ∧ (getN (rq 0x0101 [3, 1, 0, 0, 5, 0xA0, 10, 0] : HostReq).args 0 1 ≤ 3 ∨ getN (rq 0x0101 [3, 1, 0, 0, 5, 0xA0, 10, 0] : HostReq).args 0 1 = 0xFF) ∧ (getN (rq 0x0101 [3, 1, 0, 0, 5, 0xA0, 10, 0] : HostReq).args 2 2 ≤ 999 ∨ getN (rq 0x0101 [3, 1, 0, 0, 5, 0xA0, 10, 0] : HostReq).args 2 2 = 0xFFFF) :=
  by refine ⟨admitted_of (sess 2) (by decide +kernel) (by decide +kernel) (by decide +kernel), ?_, ?_, ?_, ?_, ?_, ?_⟩ <;> decide +kernel

def w_SessionCommands_4 : State := noon
theorem test_meets_SessionCommands_4 :
    (Admitted 0 (rq 0 [] : HostReq) w_SessionCommands_4) ∧ (rq 0 [] : HostReq).args = [] :=
  ⟨admitted_of (sess 2) (by decide +kernel) (by decide +kernel) (by decide +kernel), by decide +kernel⟩

def w_SessionCommands_5 : State := noon
theorem test_meets_SessionCommands_5 :
    (Admitted 0 (rq 0 [] : HostReq) w_SessionCommands_5) ∧ (rq 0 [] : HostReq).args = [] :=
  ⟨admitted_of (sess 2) (by decide +kernel) (by decide +kernel) (by decide +kernel), by decide +kernel⟩

def w_SessionCommands_6 : State := { noon with host.bulk1.owner := 0 }
theorem test_meets_SessionCommands_6 :
    (Admitted 1 (rq 0x0104 ([1, 0, 0, 0, 0, 0, 0, 0] ++ List.replicate 1024 0) : HostReq) w_SessionCommands_6) ∧ (9 ≤ (rq 0x0104 ([1, 0, 0, 0, 0, 0, 0, 0] ++ List.replicate 1024 0) : HostReq).args.length) ∧ ((rq 0x0104 ([1, 0, 0, 0, 0, 0, 0, 0] ++ List.replicate 1024 0) : HostReq).args.drop 8).length ≤ 1024 ∧ (getN (rq 0x0104 ([1, 0, 0, 0, 0, 0, 0, 0] ++ List.replicate 1024 0) : HostReq).args 0 1 = 1) ∧ (getN (rq 0x0104 ([1, 0, 0, 0, 0, 0, 0, 0] ++ List.replicate 1024 0) : HostReq).args 4 4 = 0) ∧ (w_SessionCommands_6.host.bulk1.owner = 0) :=
  by refine ⟨admitted_of (sess 2) (by decide +kernel) (by decide +kernel) (by decide +kernel), ?_, ?_, ?_, ?_, ?_⟩ <;> decide +kernel

def w_SessionCommands_7 : State := { noon with host.bulk1 := { owner := 6 } }
theorem test_meets_SessionCommands_7 :
    (Admitted 1 (rq 0x0104 ([1, 0, 0, 0, 0x93, 0x4E, 0x08, 0] ++ [7]) : HostReq) w_SessionCommands_7) ∧ (9 ≤ (rq 0x0104 ([1, 0, 0, 0, 0x93, 0x4E, 0x08, 0] ++ [7]) : HostReq).args.length) ∧ ((rq 0x0104 ([1, 0, 0, 0, 0x93, 0x4E, 0x08, 0] ++ [7]) : HostReq).args.drop 8).length ≤ 1024 ∧ (getN (rq 0x0104 ([1, 0, 0, 0, 0x93, 0x4E, 0x08, 0] ++ [7]) : HostReq).args 0 1 = 1) ∧ (getN (rq 0x0104 ([1, 0, 0, 0, 0x93, 0x4E, 0x08, 0] ++ [7]) : HostReq).args 4 4 + ((rq 0x0104 ([1, 0, 0, 0, 0x93, 0x4E, 0x08, 0] ++ [7]) : HostReq).args.drop 8).length ≤ 544404) ∧ (w_SessionCommands_7.host.bulk1.owner ≠ 0) ∧ (w_SessionCommands_7.host.bulk1.owner ≠ (rq 0x0104 ([1, 0, 0, 0, 0x93, 0x4E, 0x08, 0] ++ [7]) : HostReq).session) :=
  by refine ⟨admitted_of (sess 2) (by decide +kernel) (by decide +kernel) (by decide +kernel), ?_, ?_, ?_, ?_, ?_, ?_⟩ <;> decide +kernel

def w_SessionCommands_8 : State := { noon with host.bulk2 := { owner := 6 } }
theorem test_meets_SessionCommands_8 :
    (running w_SessionCommands_8 = true) ∧ (2 = 1 ∨ 2 = 2) ∧ (bulkOf w_SessionCommands_8 2).owner ≠ 0 ∧ (elapsed w_SessionCommands_8 (bulkOf w_SessionCommands_8 2).last (secNs 60) = true) :=
  by decide +kernel

def w_SessionCommands_9 : State := { noon with str.state := .service }
theorem test_meets_SessionCommands_9 :
    (Admitted 2 (rq 0x0106 ([3] ++ List.replicate 43 0) : HostReq) w_SessionCommands_9) ∧ (rq 0x0106 ([3] ++ List.replicate 43 0) : HostReq).args.length = 44 ∧ (getN (rq 0x0106 ([3] ++ List.replicate 43 0) : HostReq).args 0 1 < 4) ∧ (w_SessionCommands_9.str.state = .service) ∧ (isSp w_SessionCommands_9 = false) ∧ (findSession w_SessionCommands_9 (rq 0x0106 ([3] ++ List.replicate 43 0) : HostReq).session = some (sess 2 : Session)) ∧ (getN (rq 0x0106 ([3] ++ List.replicate 43 0) : HostReq).args 0 1 < w_SessionCommands_9.idn.keys.length) :=
  by refine ⟨admitted_of (sess 2) (by decide +kernel) (by decide +kernel) (by decide +kernel), ?_, ?_, ?_, ?_, ?_, ?_⟩ <;> decide +kernel

def w_SessionCommands_10 : State := { noon with host.sessions := [some (sess 0)] }
theorem test_meets_SessionCommands_10 :
    (serves w_SessionCommands_10 (rq 0 [] : HostReq) = true) ∧ (openSession w_SessionCommands_10 (rq 0 [] : HostReq) = some (sess 0 : Session)) ∧ (sess 0 : Session).slot = 0 :=
  by decide +kernel

def w_NetworkServices_1 : State := noon
theorem test_meets_NetworkServices_1 :
    (ipUp w_NetworkServices_1 0 = true) :=
  by decide +kernel

def w_NetworkServices_2 : State := noon
theorem test_meets_NetworkServices_2 :
    (ipUp w_NetworkServices_2 0 = true) :=
  by decide +kernel

def w_NetworkServices_3 : State := { noon with cfg.net.modbusEn := 1 }
theorem test_meets_NetworkServices_3 :
    (modbusServes w_NetworkServices_3 0 = true) ∧ (sourceOk w_NetworkServices_3 0 0 = true) ∧ (w_NetworkServices_3.host.modbus.length < 4) :=
  by decide +kernel

def w_NetworkServices_4 : State := { noon with cfg.net.modbusEn := 1, host.modbus := List.replicate 4 { id := 0, port := 0, addr := 1, last := 0 } }
theorem test_meets_NetworkServices_4 :
    (modbusServes w_NetworkServices_4 0 = true) ∧ (sourceOk w_NetworkServices_4 0 0 = true) ∧ (4 ≤ w_NetworkServices_4.host.modbus.length) :=
  by decide +kernel

def w_NetworkServices_5 : State := { noon with cfg.net.modbusEn := 1, host.modbus := [{ id := 3, port := 0, addr := 1, last := 0 }] }
theorem test_meets_NetworkServices_5 :
    (w_NetworkServices_5.host.modbus.find? (fun y => y.id = 3) = some ({ id := 3, port := 0, addr := 1, last := 0 } : ModbusConn)) ∧ (modbusServes w_NetworkServices_5 ({ id := 3, port := 0, addr := 1, last := 0 } : ModbusConn).port = true) :=
  by decide +kernel

def w_NetworkServices_6 : State := noon
theorem test_meets_NetworkServices_6 :
    (running w_NetworkServices_6 = true) :=
  by decide +kernel

def w_NetworkServices_7 : State := { noon with tick.j := 0, host.sessions := [some { sess 2 with subs := [{ obj := 0x2001, period := 10 }] }] }
theorem test_meets_NetworkServices_7 :
    (findSession w_NetworkServices_7 5 = some ({ sess 2 with subs := [{ obj := 0x2001, period := 10 }] } : Session)) ∧ ({ sess 2 with subs := [{ obj := 0x2001, period := 10 }] } : Session).subs[0]? = some ({ obj := 0x2001, period := 10 } : SubEntry) ∧ (netUp w_NetworkServices_7 = true) ∧ (w_NetworkServices_7.tick.j = 0) ∧ ({ obj := 0x2001, period := 10 } : SubEntry).period ≠ 0 ∧ (w_NetworkServices_7.tb.time / 1000000 % ({ obj := 0x2001, period := 10 } : SubEntry).period = 0) ∧ (ringAt w_NetworkServices_7 (8 + (sessionIdx w_NetworkServices_7 5).getD 0)).fillPkts < 64 :=
  by decide +kernel

def w_StringCommands_1 : State := { noon with prot.imdOk := true, prot.estopA := { ok := true }, prot.estopB := { ok := true }, prot.doorIl := { ok := true }, prot.fireIn := { ok := true }, skl.mons := List.replicate 40 { state := .admitted }, tab.poss := [{ vAt := some 0 }] }
theorem test_meets_StringCommands_1 :
    (Admitted 1 (rq 0 [] : HostReq) w_StringCommands_1) ∧ (rq 0 [] : HostReq).args = [] ∧ (legalCmd 0x0200 w_StringCommands_1 = true) ∧ (connectUnmet w_StringCommands_1 = none) :=
  by refine ⟨admitted_of (sess 2) (by decide +kernel) (by decide +kernel) (by decide +kernel), ?_, ?_, ?_⟩ <;> decide +kernel

def w_StringCommands_2 : State := noon
theorem test_meets_StringCommands_2 :
    (Admitted 1 (rq 0 [] : HostReq) w_StringCommands_2) ∧ (rq 0 [] : HostReq).args = [] ∧ (legalCmd 0x0200 w_StringCommands_2 = true) ∧ (connectUnmet w_StringCommands_2 = some 0x0A44) :=
  by refine ⟨admitted_of (sess 2) (by decide +kernel) (by decide +kernel) (by decide +kernel), ?_, ?_, ?_⟩ <;> decide +kernel

def w_StringCommands_3 : State := { noon with str.state := .closed }
theorem test_meets_StringCommands_3 :
    (Admitted 1 (rq 0 [] : HostReq) w_StringCommands_3) ∧ (rq 0 [] : HostReq).args = [] ∧ (legalCmd 0x0201 w_StringCommands_3 = true) ∧ (twArmed w_StringCommands_3 = false) :=
  by refine ⟨admitted_of (sess 2) (by decide +kernel) (by decide +kernel) (by decide +kernel), ?_, ?_, ?_⟩ <;> decide +kernel

def w_StringCommands_4 : State := { noon with str.state := .closed, prot.twilight := [true] }
theorem test_meets_StringCommands_4 :
    (Admitted 1 (rq 0 [] : HostReq) w_StringCommands_4) ∧ (rq 0 [] : HostReq).args = [] ∧ (legalCmd 0x0201 w_StringCommands_4 = true) ∧ (twArmed w_StringCommands_4 = true) ∧ (twLeft w_StringCommands_4 ≠ 0) :=
  by refine ⟨admitted_of (sess 2) (by decide +kernel) (by decide +kernel) (by decide +kernel), ?_, ?_, ?_, ?_⟩ <;> decide +kernel

def w_StringCommands_5 : State := { noon with str.state := .closed, prot.twilight := [true], str.twilightUsed := 1000000000000000 }
theorem test_meets_StringCommands_5 :
    (Admitted 1 (rq 0 [] : HostReq) w_StringCommands_5) ∧ (rq 0 [] : HostReq).args = [] ∧ (legalCmd 0x0201 w_StringCommands_5 = true) ∧ (twArmed w_StringCommands_5 = true) ∧ (twLeft w_StringCommands_5 = 0) :=
  by refine ⟨admitted_of (sess 2) (by decide +kernel) (by decide +kernel) (by decide +kernel), ?_, ?_, ?_, ?_⟩ <;> decide +kernel

def w_StringCommands_6 : State := runs
theorem test_meets_StringCommands_6 :
    (Admitted 1 (rq 0 [] : HostReq) w_StringCommands_6) ∧ (rq 0 [] : HostReq).args = [] ∧ (legalCmd 0x0203 w_StringCommands_6 = true) :=
  by refine ⟨admitted_of (sess 2) (by decide +kernel) (by decide +kernel) (by decide +kernel), ?_, ?_⟩ <;> decide +kernel

def w_StringCommands_7 : State := runs
theorem test_meets_StringCommands_7 :
    (Admitted 1 (rq 0 [] : HostReq) w_StringCommands_7) ∧ (rq 0 [] : HostReq).args = [] ∧ (legalCmd 0x0204 w_StringCommands_7 = true) ∧ (w_StringCommands_7.str.state ≠ .precharge) :=
  by refine ⟨admitted_of (sess 2) (by decide +kernel) (by decide +kernel) (by decide +kernel), ?_, ?_, ?_⟩ <;> decide +kernel

def w_StringCommands_8 : State := { noon with str.state := .precharge }
theorem test_meets_StringCommands_8 :
    (Admitted 1 (rq 0 [] : HostReq) w_StringCommands_8) ∧ (rq 0 [] : HostReq).args = [] ∧ (legalCmd 0x0204 w_StringCommands_8 = true) ∧ (w_StringCommands_8.str.state = .precharge) :=
  by refine ⟨admitted_of (sess 2) (by decide +kernel) (by decide +kernel) (by decide +kernel), ?_, ?_, ?_⟩ <;> decide +kernel

def w_StringCommands_9 : State := noon
theorem test_meets_StringCommands_9 :
    (Admitted 1 (rq 0 [] : HostReq) w_StringCommands_9) ∧ (rq 0 [] : HostReq).args = [] :=
  ⟨admitted_of (sess 2) (by decide +kernel) (by decide +kernel) (by decide +kernel), by decide +kernel⟩

def w_LifecycleCommands_1 : State := { noon with str.state := .fault, str.faultStopDone := true, str.causes := [{ code := 0x0A01, cls := 0, active := false }] }
theorem test_meets_LifecycleCommands_1 :
    (Admitted 1 (rq 0 [] : HostReq) w_LifecycleCommands_1) ∧ (rq 0 [] : HostReq).args = [] ∧ (legalCmd 0x0205 w_LifecycleCommands_1 = true) ∧ (clearable w_LifecycleCommands_1 = true) :=
  by refine ⟨admitted_of (sess 2) (by decide +kernel) (by decide +kernel) (by decide +kernel), ?_, ?_, ?_⟩ <;> decide +kernel

def w_LifecycleCommands_2 : State := { noon with str.state := .fault, str.faultStopDone := true, str.causes := [{ code := 0x0A01, cls := 1, active := false }] }
theorem test_meets_LifecycleCommands_2 :
    (Admitted 1 (rq 0 [] : HostReq) w_LifecycleCommands_2) ∧ (rq 0 [] : HostReq).args = [] ∧ (legalCmd 0x0205 w_LifecycleCommands_2 = true) ∧ (clearable w_LifecycleCommands_2 = false) :=
  by refine ⟨admitted_of (sess 2) (by decide +kernel) (by decide +kernel) (by decide +kernel), ?_, ?_, ?_⟩ <;> decide +kernel

def w_LifecycleCommands_3 : State := noon
theorem test_meets_LifecycleCommands_3 :
    (Admitted 2 (rq 0 [] : HostReq) w_LifecycleCommands_3) ∧ (rq 0 [] : HostReq).args = [] ∧ (legalCmd 0x0208 w_LifecycleCommands_3 = true) :=
  by refine ⟨admitted_of (sess 2) (by decide +kernel) (by decide +kernel) (by decide +kernel), ?_, ?_⟩ <;> decide +kernel

def w_LifecycleCommands_4 : State := noon
theorem test_meets_LifecycleCommands_4 :
    (Admitted 1 (rq 0 [] : HostReq) w_LifecycleCommands_4) ∧ (rq 0 [] : HostReq).args = [] ∧ (legalCmd 0x0206 w_LifecycleCommands_4 = true) ∧ (w_LifecycleCommands_4.str.role ≠ some .active ∨ partnerAdmitted w_LifecycleCommands_4 = false) :=
  by refine ⟨admitted_of (sess 2) (by decide +kernel) (by decide +kernel) (by decide +kernel), ?_, ?_, ?_⟩ <;> decide +kernel

def w_LifecycleCommands_5 : State := { act with str.role := some .active, pair.handoverPending := false, pair.partner := .admitted }
theorem test_meets_LifecycleCommands_5 :
    (Admitted 1 (rq 0 [] : HostReq) w_LifecycleCommands_5) ∧ (rq 0 [] : HostReq).args = [] ∧ (legalCmd 0x0206 w_LifecycleCommands_5 = true) ∧ (w_LifecycleCommands_5.str.role = some .active) ∧ (partnerAdmitted w_LifecycleCommands_5 = true) ∧ (w_LifecycleCommands_5.pair.handoverPending = false) :=
  by refine ⟨admitted_of (sess 2) (by decide +kernel) (by decide +kernel) (by decide +kernel), ?_, ?_, ?_, ?_, ?_⟩ <;> decide +kernel

def w_LifecycleCommands_6 : State := noon
theorem test_meets_LifecycleCommands_6 :
    (Admitted 1 (rq 0 [] : HostReq) w_LifecycleCommands_6) ∧ (rq 0 [] : HostReq).args = [] ∧ (legalCmd 0x0207 w_LifecycleCommands_6 = true) ∧ (w_LifecycleCommands_6.str.role ≠ some .active ∨ partnerAdmitted w_LifecycleCommands_6 = false) :=
  by refine ⟨admitted_of (sess 2) (by decide +kernel) (by decide +kernel) (by decide +kernel), ?_, ?_, ?_⟩ <;> decide +kernel

def w_LifecycleCommands_7 : State := { noon with str.state := .service }
theorem test_meets_LifecycleCommands_7 :
    (Admitted 2 (rq 0 [] : HostReq) w_LifecycleCommands_7) ∧ (rq 0 [] : HostReq).args = [] ∧ (legalCmd 0x0209 w_LifecycleCommands_7 = true) ∧ (w_LifecycleCommands_7.str.role ≠ some .active ∨ partnerAdmitted w_LifecycleCommands_7 = false) :=
  by refine ⟨admitted_of (sess 2) (by decide +kernel) (by decide +kernel) (by decide +kernel), ?_, ?_, ?_⟩ <;> decide +kernel

def w_LifecycleCommands_8 : State := { noon with lad.freezeReq := none }
theorem test_meets_LifecycleCommands_8 :
    (Admitted 2 (rq 0 [] : HostReq) w_LifecycleCommands_8) ∧ (rq 0 [] : HostReq).args = [] ∧ (legalCmd 0x020B w_LifecycleCommands_8 = true) ∧ (w_LifecycleCommands_8.str.role ≠ some .active ∨ partnerAdmitted w_LifecycleCommands_8 = false) ∧ (activeState w_LifecycleCommands_8 = false) ∧ (w_LifecycleCommands_8.lad.freezeReq = none) :=
  by refine ⟨admitted_of (sess 2) (by decide +kernel) (by decide +kernel) (by decide +kernel), ?_, ?_, ?_, ?_, ?_⟩ <;> decide +kernel

def w_LifecycleCommands_9 : State := { runs with lad.freezeReq := none }
theorem test_meets_LifecycleCommands_9 :
    (Admitted 2 (rq 0 [] : HostReq) w_LifecycleCommands_9) ∧ (rq 0 [] : HostReq).args = [] ∧ (legalCmd 0x020B w_LifecycleCommands_9 = true) ∧ (w_LifecycleCommands_9.str.role ≠ some .active ∨ partnerAdmitted w_LifecycleCommands_9 = false) ∧ (activeState w_LifecycleCommands_9 = true) ∧ (w_LifecycleCommands_9.lad.freezeReq = none) :=
  by refine ⟨admitted_of (sess 2) (by decide +kernel) (by decide +kernel) (by decide +kernel), ?_, ?_, ?_, ?_, ?_⟩ <;> decide +kernel

def w_LifecycleCommands_10 : State := { act with pair.handoverPending := false }
theorem test_meets_LifecycleCommands_10 :
    (Admitted 1 (rq 0 [] : HostReq) w_LifecycleCommands_10) ∧ (rq 0 [] : HostReq).args = [] ∧ (legalCmd 0x020D w_LifecycleCommands_10 = true) ∧ (w_LifecycleCommands_10.pair.handoverPending = false) :=
  by refine ⟨admitted_of (sess 2) (by decide +kernel) (by decide +kernel) (by decide +kernel), ?_, ?_, ?_⟩ <;> decide +kernel

def w_DataCommands_1 : State := { runs with dsp.spReq := none }
theorem test_meets_DataCommands_1 :
    (Admitted 1 (rq 0x0202 (List.replicate 12 0) : HostReq) w_DataCommands_1) ∧ (spArgsOk w_DataCommands_1 (rq 0x0202 (List.replicate 12 0) : HostReq).args = true) ∧ (legalCmd 0x0202 w_DataCommands_1 = true) ∧ (getN (rq 0x0202 (List.replicate 12 0) : HostReq).args 4 8 = 0) ∧ (w_DataCommands_1.dsp.spReq = none) :=
  by refine ⟨admitted_of (sess 2) (by decide +kernel) (by decide +kernel) (by decide +kernel), ?_, ?_, ?_, ?_⟩ <;> decide +kernel

def w_DataCommands_2 : State := runs
theorem test_meets_DataCommands_2 :
    (Admitted 1 (rq 0x0202 (u32 5 ++ u64 100060000000000) : HostReq) w_DataCommands_2) ∧ (spArgsOk w_DataCommands_2 (rq 0x0202 (u32 5 ++ u64 100060000000000) : HostReq).args = true) ∧ (legalCmd 0x0202 w_DataCommands_2 = true) ∧ (getN (rq 0x0202 (u32 5 ++ u64 100060000000000) : HostReq).args 4 8 ≠ 0) ∧ (w_DataCommands_2.dsp.timed.length < 16) :=
  by refine ⟨admitted_of (sess 2) (by decide +kernel) (by decide +kernel) (by decide +kernel), ?_, ?_, ?_, ?_⟩ <;> decide +kernel

def w_DataCommands_3 : State := runs
theorem test_meets_DataCommands_3 :
    (Admitted 1 (rq 0x0202 (u32 5 ++ u64 100060000000001) : HostReq) w_DataCommands_3) ∧ (spArgsOk w_DataCommands_3 (rq 0x0202 (u32 5 ++ u64 100060000000001) : HostReq).args = false) :=
  ⟨admitted_of (sess 2) (by decide +kernel) (by decide +kernel) (by decide +kernel), by decide +kernel⟩

def w_DataCommands_4 : State := { noon with rcd.freezeSession := 0 }
theorem test_meets_DataCommands_4 :
    (Admitted 1 (rq 0 (List.replicate 4 0) : HostReq) w_DataCommands_4) ∧ (rq 0 (List.replicate 4 0) : HostReq).args.length = 4 ∧ (legalCmd 0x020C w_DataCommands_4 = true) ∧ (w_DataCommands_4.rcd.freezeSession = 0) :=
  by refine ⟨admitted_of (sess 2) (by decide +kernel) (by decide +kernel) (by decide +kernel), ?_, ?_, ?_⟩ <;> decide +kernel

def w_DataCommands_5 : State := { noon with rcd.freezeSession := 5 }
theorem test_meets_DataCommands_5 :
    (Admitted 1 (rq 0 (List.replicate 4 0) : HostReq) w_DataCommands_5) ∧ (rq 0 (List.replicate 4 0) : HostReq).args.length = 4 ∧ (legalCmd 0x020C w_DataCommands_5 = true) ∧ (w_DataCommands_5.rcd.freezeSession = (rq 0 (List.replicate 4 0) : HostReq).session) :=
  by refine ⟨admitted_of (sess 2) (by decide +kernel) (by decide +kernel) (by decide +kernel), ?_, ?_, ?_⟩ <;> decide +kernel

def w_DataCommands_6 : State := { noon with rcd.freezeSession := 6 }
theorem test_meets_DataCommands_6 :
    (Admitted 1 (rq 0 (List.replicate 4 0) : HostReq) w_DataCommands_6) ∧ (rq 0 (List.replicate 4 0) : HostReq).args.length = 4 ∧ (legalCmd 0x020C w_DataCommands_6 = true) ∧ (w_DataCommands_6.rcd.freezeSession ≠ 0) ∧ (w_DataCommands_6.rcd.freezeSession ≠ (rq 0 (List.replicate 4 0) : HostReq).session) :=
  by refine ⟨admitted_of (sess 2) (by decide +kernel) (by decide +kernel) (by decide +kernel), ?_, ?_, ?_, ?_⟩ <;> decide +kernel

def w_DataCommands_7 : State := { noon with host.bulk1 := bulk4 }
theorem test_meets_DataCommands_7 :
    (Admitted 1 (rq 0x020A [4, 0, 0, 0] : HostReq) w_DataCommands_7) ∧ (rq 0x020A [4, 0, 0, 0] : HostReq).args.length = 4 ∧ (legalCmd 0x020A w_DataCommands_7 = true) ∧ (bulkFilled 1 (getN (rq 0x020A [4, 0, 0, 0] : HostReq).args 0 4) 544404 w_DataCommands_7 = true) ∧ (bulkOther 1 (rq 0x020A [4, 0, 0, 0] : HostReq) w_DataCommands_7 = false) ∧ ([1, 2, 3, 4] : Bytes) = bulkData 1 (getN (rq 0x020A [4, 0, 0, 0] : HostReq).args 0 4) w_DataCommands_7 :=
  by refine ⟨admitted_of (sess 2) (by decide +kernel) (by decide +kernel) (by decide +kernel), ?_, ?_, ?_, ?_, ?_⟩ <;> decide +kernel

def w_DataCommands_8 : State := { noon with pins.plugDet := true, host.bulk2 := bulk4, str.state := .service }
theorem test_meets_DataCommands_8 :
    (Admitted 2 (rq 0x020E [4, 0, 0, 0] : HostReq) w_DataCommands_8) ∧ (rq 0x020E [4, 0, 0, 0] : HostReq).args.length = 4 ∧ (legalCmd 0x020E w_DataCommands_8 = true) ∧ (w_DataCommands_8.pins.plugDet = true) ∧ (bulkFilled 2 (getN (rq 0x020E [4, 0, 0, 0] : HostReq).args 0 4) 65536 w_DataCommands_8 = true) ∧ (bulkOther 2 (rq 0x020E [4, 0, 0, 0] : HostReq) w_DataCommands_8 = false) ∧ ([1, 2, 3, 4] : Bytes) = bulkData 2 (getN (rq 0x020E [4, 0, 0, 0] : HostReq).args 0 4) w_DataCommands_8 :=
  by refine ⟨admitted_of (sess 2) (by decide +kernel) (by decide +kernel) (by decide +kernel), ?_, ?_, ?_, ?_, ?_, ?_⟩ <;> decide +kernel

def w_DataCommands_9 : State := { noon with host.capture.running := false }
theorem test_meets_DataCommands_9 :
    (Admitted 2 (rq 0x020F [3, 0, 3, 0, 0, 0, 1, 0] : HostReq) w_DataCommands_9) ∧ (captureArgsOk (rq 0x020F [3, 0, 3, 0, 0, 0, 1, 0] : HostReq).args = true) ∧ (legalCmd 0x020F w_DataCommands_9 = true) ∧ (w_DataCommands_9.host.capture.running = false) ∧ (w_DataCommands_9.met.sar.length = 4) :=
  by refine ⟨admitted_of (sess 2) (by decide +kernel) (by decide +kernel) (by decide +kernel), ?_, ?_, ?_, ?_⟩ <;> decide +kernel

def w_DataCommands_10 : State := { noon with host.capture.running := true }
theorem test_meets_DataCommands_10 :
    (Admitted 2 (rq 0x020F [3, 0, 3, 0, 0, 0, 1, 0] : HostReq) w_DataCommands_10) ∧ (captureArgsOk (rq 0x020F [3, 0, 3, 0, 0, 0, 1, 0] : HostReq).args = true) ∧ (legalCmd 0x020F w_DataCommands_10 = true) ∧ (w_DataCommands_10.host.capture.running = true) :=
  by refine ⟨admitted_of (sess 2) (by decide +kernel) (by decide +kernel) (by decide +kernel), ?_, ?_, ?_⟩ <;> decide +kernel

def w_LongOperationStarts_1 : State := { runs with est.restEnd := none }
theorem test_meets_LongOperationStarts_1 :
    (Admitted 1 (rq 0 (List.replicate 4 0) : HostReq) w_LongOperationStarts_1) ∧ (rq 0 (List.replicate 4 0) : HostReq).args.length = 4 ∧ (opLegal 1 w_LongOperationStarts_1 = true) ∧ (findOp w_LongOperationStarts_1 1 = none) ∧ (w_LongOperationStarts_1.est.restEnd = none) :=
  by refine ⟨admitted_of (sess 2) (by decide +kernel) (by decide +kernel) (by decide +kernel), ?_, ?_, ?_, ?_⟩ <;> decide +kernel

def w_LongOperationStarts_2 : State := { noon with str.state := .service }
theorem test_meets_LongOperationStarts_2 :
    (Admitted 2 (rq 0 ([0, 0, 0, 0, 8, 0, 0, 0] ++ u64 2375000000) : HostReq) w_LongOperationStarts_2) ∧ (calArgsOk (rq 0 ([0, 0, 0, 0, 8, 0, 0, 0] ++ u64 2375000000) : HostReq).args = true) ∧ (opLegal 2 w_LongOperationStarts_2 = true) ∧ (findOp w_LongOperationStarts_2 2 = none) :=
  by refine ⟨admitted_of (sess 2) (by decide +kernel) (by decide +kernel) (by decide +kernel), ?_, ?_, ?_⟩ <;> decide +kernel

def w_LongOperationStarts_3 : State := { runs with cfg.imp.plans := plan1 }
theorem test_meets_LongOperationStarts_3 :
    (Admitted 1 (rq 0 (List.replicate 5 0) : HostReq) w_LongOperationStarts_3) ∧ (rq 0 (List.replicate 5 0) : HostReq).args.length = 5 ∧ (getN (rq 0 (List.replicate 5 0) : HostReq).args 4 1 < w_LongOperationStarts_3.cfg.imp.plans.length) ∧ (opLegal 3 w_LongOperationStarts_3 = true) ∧ (findOp w_LongOperationStarts_3 3 = none) ∧ (sweepBusy w_LongOperationStarts_3 = false) :=
  by refine ⟨admitted_of (sess 2) (by decide +kernel) (by decide +kernel) (by decide +kernel), ?_, ?_, ?_, ?_, ?_⟩ <;> decide +kernel

def w_LongOperationStarts_4 : State := noon
theorem test_meets_LongOperationStarts_4 :
    (Admitted 1 (rq 0 ([0, 0, 0, 0] ++ u16 1000 ++ u16 10080) : HostReq) w_LongOperationStarts_4) ∧ (rq 0 ([0, 0, 0, 0] ++ u16 1000 ++ u16 10080) : HostReq).args.length = 8 ∧ (10 ≤ getN (rq 0 ([0, 0, 0, 0] ++ u16 1000 ++ u16 10080) : HostReq).args 4 2) ∧ (getN (rq 0 ([0, 0, 0, 0] ++ u16 1000 ++ u16 10080) : HostReq).args 4 2 ≤ 1000) ∧ (1 ≤ getN (rq 0 ([0, 0, 0, 0] ++ u16 1000 ++ u16 10080) : HostReq).args 6 2) ∧ (getN (rq 0 ([0, 0, 0, 0] ++ u16 1000 ++ u16 10080) : HostReq).args 6 2 ≤ 10080) ∧ (opLegal 4 w_LongOperationStarts_4 = true) ∧ (findOp w_LongOperationStarts_4 4 = none) :=
  by refine ⟨admitted_of (sess 2) (by decide +kernel) (by decide +kernel) (by decide +kernel), ?_, ?_, ?_, ?_, ?_, ?_, ?_⟩ <;> decide +kernel

def w_LongOperationStarts_5 : State := noon
theorem test_meets_LongOperationStarts_5 :
    (Admitted 1 (rq 0 (List.replicate 4 0) : HostReq) w_LongOperationStarts_5) ∧ (rq 0 (List.replicate 4 0) : HostReq).args.length = 4 ∧ (opLegal 5 w_LongOperationStarts_5 = true) ∧ (findOp w_LongOperationStarts_5 5 = none) :=
  by refine ⟨admitted_of (sess 2) (by decide +kernel) (by decide +kernel) (by decide +kernel), ?_, ?_, ?_⟩ <;> decide +kernel

def w_LongOperationStarts_6 : State := noon
theorem test_meets_LongOperationStarts_6 :
    (Admitted 1 (rq 0 ([0, 0, 0, 0] ++ u32 0 ++ u32 0xFFFFFFFF ++ [3, 0, 0, 0]) : HostReq) w_LongOperationStarts_6) ∧ (rq 0 ([0, 0, 0, 0] ++ u32 0 ++ u32 0xFFFFFFFF ++ [3, 0, 0, 0]) : HostReq).args.length = 16 ∧ (getN (rq 0 ([0, 0, 0, 0] ++ u32 0 ++ u32 0xFFFFFFFF ++ [3, 0, 0, 0]) : HostReq).args 4 4 ≤ exportTo (rq 0 ([0, 0, 0, 0] ++ u32 0 ++ u32 0xFFFFFFFF ++ [3, 0, 0, 0]) : HostReq).args w_LongOperationStarts_6) ∧ (getN (rq 0 ([0, 0, 0, 0] ++ u32 0 ++ u32 0xFFFFFFFF ++ [3, 0, 0, 0]) : HostReq).args 12 1 ≤ 3) ∧ (opLegal 6 w_LongOperationStarts_6 = true) ∧ (findOp w_LongOperationStarts_6 6 = none) :=
  by refine ⟨admitted_of (sess 2) (by decide +kernel) (by decide +kernel) (by decide +kernel), ?_, ?_, ?_, ?_, ?_⟩ <;> decide +kernel

def w_LongOperationStarts_7 : State := { noonU with hlth.stagingReduced := false, upd.staging := none }
theorem test_meets_LongOperationStarts_7 :
    (Admitted 3 (rq 0 ([0, 0, 0, 0] ++ u32 0xFFFFFFFE ++ u32 8388608) : HostReq) w_LongOperationStarts_7) ∧ (updArgsOk (rq 0 ([0, 0, 0, 0] ++ u32 0xFFFFFFFE ++ u32 8388608) : HostReq).args = true) ∧ (opLegal 7 w_LongOperationStarts_7 = true) ∧ (findOp w_LongOperationStarts_7 7 = none) ∧ (w_LongOperationStarts_7.hlth.stagingReduced = false) ∧ (w_LongOperationStarts_7.upd.staging = none) ∧ (w_LongOperationStarts_7.upd.slotA.st ≠ 3) ∧ (w_LongOperationStarts_7.upd.slotB.st ≠ 3) :=
  by refine ⟨admitted_of (sess 3) (by decide +kernel) (by decide +kernel) (by decide +kernel), ?_, ?_, ?_, ?_, ?_, ?_, ?_⟩ <;> decide +kernel

def w_LongOperationStarts_8 : State := runs
theorem test_meets_LongOperationStarts_8 :
    (Admitted 1 (rq 0 (List.replicate 4 0) : HostReq) w_LongOperationStarts_8) ∧ (rq 0 (List.replicate 4 0) : HostReq).args.length = 4 ∧ (opLegal 5 w_LongOperationStarts_8 = false) :=
  by refine ⟨admitted_of (sess 2) (by decide +kernel) (by decide +kernel) (by decide +kernel), ?_, ?_⟩ <;> decide +kernel

def w_LongOperationStarts_9 : State := { noon with ops.ops := [op 5] }
theorem test_meets_LongOperationStarts_9 :
    (Admitted 1 (rq 0 (List.replicate 4 0) : HostReq) w_LongOperationStarts_9) ∧ (rq 0 (List.replicate 4 0) : HostReq).args.length = 4 ∧ (opLegal 5 w_LongOperationStarts_9 = true) ∧ (findOp w_LongOperationStarts_9 5).isSome = true :=
  by refine ⟨admitted_of (sess 2) (by decide +kernel) (by decide +kernel) (by decide +kernel), ?_, ?_, ?_⟩ <;> decide +kernel

def w_LongOperationHandles_1 : State := { noon with ops.ops := [op 5] }
theorem test_meets_LongOperationHandles_1 :
    (serves w_LongOperationHandles_1 (rq 0 [7, 0] : HostReq) = true) ∧ (rq 0 [7, 0] : HostReq).args.length = 2 ∧ (∃ x, openSession w_LongOperationHandles_1 (rq 0 [7, 0] : HostReq) = some x ∧ permits x.slot (opRole (op 5 : Op).kind) = true) ∧ (w_LongOperationHandles_1.ops.ops.find? (fun p => p.handle = getN (rq 0 [7, 0] : HostReq).args 0 2) = some (op 5 : Op)) ∧ (op 5 : Op).opState = 0 ∧ (inDawn w_LongOperationHandles_1 = false ∨ w_LongOperationHandles_1.upd.recovery = true) :=
  by refine ⟨?_, ?_, ⟨sess 2, by decide +kernel, by decide +kernel⟩, ?_, ?_, ?_⟩ <;> decide +kernel

def w_LongOperationHandles_2 : State := { noon with ops.ops := [{ op 5 with opState := 1 }] }
theorem test_meets_LongOperationHandles_2 :
    (serves w_LongOperationHandles_2 (rq 0 [7, 0] : HostReq) = true) ∧ (rq 0 [7, 0] : HostReq).args.length = 2 ∧ (∃ x, openSession w_LongOperationHandles_2 (rq 0 [7, 0] : HostReq) = some x ∧ permits x.slot (opRole ({ op 5 with opState := 1 } : Op).kind) = true) ∧ (w_LongOperationHandles_2.ops.ops.find? (fun p => p.handle = getN (rq 0 [7, 0] : HostReq).args 0 2) = some ({ op 5 with opState := 1 } : Op)) ∧ ({ op 5 with opState := 1 } : Op).opState = 1 ∧ (inDawn w_LongOperationHandles_2 = false ∨ w_LongOperationHandles_2.upd.recovery = true) ∧ (opLegal ({ op 5 with opState := 1 } : Op).kind w_LongOperationHandles_2 = true) ∧ ({ op 5 with opState := 1 } : Op).kind = 5 :=
  by refine ⟨?_, ?_, ⟨sess 2, by decide +kernel, by decide +kernel⟩, ?_, ?_, ?_, ?_, ?_⟩ <;> decide +kernel

def w_LongOperationHandles_3 : State := { noon with ops.ops := [{ op 5 with opState := 1 }] }
theorem test_meets_LongOperationHandles_3 :
    (serves w_LongOperationHandles_3 (rq 0 [7, 0] : HostReq) = true) ∧ (rq 0 [7, 0] : HostReq).args.length = 2 ∧ (∃ x, openSession w_LongOperationHandles_3 (rq 0 [7, 0] : HostReq) = some x ∧ permits x.slot (opRole ({ op 5 with opState := 1 } : Op).kind) = true) ∧ (w_LongOperationHandles_3.ops.ops.find? (fun p => p.handle = getN (rq 0 [7, 0] : HostReq).args 0 2) = some ({ op 5 with opState := 1 } : Op)) ∧ ({ op 5 with opState := 1 } : Op).opState ≠ 2 ∧ (inDawn w_LongOperationHandles_3 = false ∨ w_LongOperationHandles_3.upd.recovery = true) :=
  by refine ⟨?_, ?_, ⟨sess 2, by decide +kernel, by decide +kernel⟩, ?_, ?_, ?_⟩ <;> decide +kernel

def w_LongOperationHandles_4 : State := noon
theorem test_meets_LongOperationHandles_4 :
    (serves w_LongOperationHandles_4 (rq 0 [7, 0] : HostReq) = true) ∧ (openSession w_LongOperationHandles_4 (rq 0 [7, 0] : HostReq) = some (sess 2 : Session)) ∧ (sess 2 : Session).slot ≠ 0 ∧ (rq 0 [7, 0] : HostReq).args.length = 2 ∧ (w_LongOperationHandles_4.ops.ops.find? (fun p => p.handle = getN (rq 0 [7, 0] : HostReq).args 0 2) = none) :=
  by decide +kernel

def w_PairAdmission_1 : State := act
theorem test_meets_PairAdmission_1 :
    (pairOn w_PairAdmission_1 = true) ∧ (elapsed w_PairAdmission_1 w_PairAdmission_1.pair.helloAt (msNs 100) = true) :=
  by decide +kernel

def w_PairAdmission_2 : State := act
theorem test_meets_PairAdmission_2 :
    (Partnered 5 (mframe 5 1 1 100000000000000 0 0 (List.replicate 84 0) : Bytes) (mrx 5 1 1 100000000000000 0 0 (List.replicate 84 0) : MirrorRx) w_PairAdmission_2) :=
  partnered_of (by decide +kernel)

def w_PairAdmission_3 : State := { noon with lad.rung := 2, lad.unpowered := false, lad.activeSeen := true, str.state := .off }
theorem test_meets_PairAdmission_3 :
    (inOff w_PairAdmission_3 = true) ∧ (w_PairAdmission_3.lad.rung = 2) ∧ (w_PairAdmission_3.lad.unpowered = false) ∧ (parseMirror (mframe 5 1 1 0 0 0 (List.replicate 84 0) : Bytes) = some (mrx 5 1 1 0 0 0 (List.replicate 84 0) : MirrorRx)) ∧ (mrx 5 1 1 0 0 0 (List.replicate 84 0) : MirrorRx).mtype = 5 ∧ (w_PairAdmission_3.lad.activeSeen = true) ∧ (mrx 5 1 1 0 0 0 (List.replicate 84 0) : MirrorRx).role ≠ 1 :=
  by decide +kernel

def w_PairAdmission_4 : State := { act with str.role := some .active }
theorem test_meets_PairAdmission_4 :
    (pairOn w_PairAdmission_4 = true) ∧ (parseMirror [] = none) ∧ (w_PairAdmission_4.str.role = some .active) :=
  by decide +kernel

def w_PairAdmission_5 : State := { sp with pair.partner := .heartbeats }
theorem test_meets_PairAdmission_5 :
    (pairOn w_PairAdmission_5 = true) ∧ (parseMirror [] = none) ∧ (isSp w_PairAdmission_5 = true) ∧ (w_PairAdmission_5.pair.partner = .heartbeats) :=
  by decide +kernel

def w_PairAdmission_6 : State := { noon with dawn.step := some 8, str.role := none, str.state := .dawn }
theorem test_meets_PairAdmission_6 :
    (inDawn w_PairAdmission_6 = true) ∧ (w_PairAdmission_6.dawn.step = some 8) ∧ (w_PairAdmission_6.str.role = none) ∧ (elapsed w_PairAdmission_6 w_PairAdmission_6.dawn.stepSince (msNs 300) = true) :=
  by decide +kernel

def w_PairAdmission_7 : State := { act with pair.partner := .keys, pair.partnerMac := some (List.replicate 6 1) }
theorem test_meets_PairAdmission_7 :
    (Partnered 8 (mframe 8 1 1 100000000000000 0 0 (List.replicate 84 0) : Bytes) (mrx 8 1 1 100000000000000 0 0 (List.replicate 84 0) : MirrorRx) w_PairAdmission_7) ∧ (w_PairAdmission_7.pair.partner = .keys) ∧ (getN (mrx 8 1 1 100000000000000 0 0 (List.replicate 84 0) : MirrorRx).payload 0 1 = 0) ∧ (w_PairAdmission_7.pair.partnerMac ≠ none) :=
  by refine ⟨partnered_of (by decide +kernel), ?_, ?_, ?_⟩ <;> decide +kernel

def w_PairAdmission_8 : State := { act with pair.partner := .keys, pair.wrapKey := some [] }
theorem test_meets_PairAdmission_8 :
    (Partnered 8 (mframe 8 1 1 100000000000000 0 0 (1 :: List.replicate 84 0) : Bytes) (mrx 8 1 1 100000000000000 0 0 (1 :: List.replicate 84 0) : MirrorRx) w_PairAdmission_8) ∧ (w_PairAdmission_8.pair.partner = .keys) ∧ (getN (mrx 8 1 1 100000000000000 0 0 (1 :: List.replicate 84 0) : MirrorRx).payload 0 1 = 1) ∧ (w_PairAdmission_8.pair.wrapKey = some []) :=
  by refine ⟨partnered_of (by decide +kernel), ?_, ?_, ?_⟩ <;> decide +kernel

def w_PairAdmission_9 : State := { act with str.role := some .active, pair.partner := .heartbeats }
theorem test_meets_PairAdmission_9 :
    (Partnered 6 (mframe 6 1 1 100000000000000 0 0 (List.replicate 12 0 ++ [1, 0, 0, 0]) : Bytes) (mrx 6 1 1 100000000000000 0 0 (List.replicate 12 0 ++ [1, 0, 0, 0]) : MirrorRx) w_PairAdmission_9) ∧ (w_PairAdmission_9.str.role = some .active) ∧ (w_PairAdmission_9.pair.partner = .heartbeats) ∧ (bitAt (getN (mrx 6 1 1 100000000000000 0 0 (List.replicate 12 0 ++ [1, 0, 0, 0]) : MirrorRx).payload 12 1) 0 = true) :=
  by refine ⟨partnered_of (by decide +kernel), ?_, ?_, ?_⟩ <;> decide +kernel

def w_PairAdmission_10 : State := { sp with pair.step4Since := some 0, pair.partner := .heartbeats, pair.localFault := false }
theorem test_meets_PairAdmission_10 :
    (w_PairAdmission_10.pair.step4Since = some 0) ∧ (isSp w_PairAdmission_10 = true) ∧ (running w_PairAdmission_10 = true) ∧ (w_PairAdmission_10.pair.partner = .heartbeats) ∧ (w_PairAdmission_10.pair.localFault = false) ∧ (elapsed w_PairAdmission_10 0 (secNs 10) = true) :=
  by decide +kernel

def w_PairAdmission_11 : State := { sp with pair.partner := .admitted }
theorem test_meets_PairAdmission_11 :
    (isSp w_PairAdmission_11 = true) ∧ (running w_PairAdmission_11 = true) ∧ (w_PairAdmission_11.pair.partner = .admitted) ∧ (∃ n, n < segN w_PairAdmission_11 ∧ elapsed w_PairAdmission_11 (segAt w_PairAdmission_11 n) (msNs (2 * ((segN w_PairAdmission_11 + 29) / 30))) = true) :=
  by decide +kernel

def w_PairAdmission_12 : State := { act with pair.sbAt := some 0, str.role := some .active, pair.partner := .admitted }
theorem test_meets_PairAdmission_12 :
    (w_PairAdmission_12.pair.sbAt = some 0) ∧ (w_PairAdmission_12.str.role = some .active) ∧ (running w_PairAdmission_12 = true) ∧ (elapsed w_PairAdmission_12 0 (msNs 10) = true) ∧ (w_PairAdmission_12.pair.partner = .admitted) :=
  by decide +kernel

def w_PairAdmission_13 : State := sp
set_option maxRecDepth 20000 in
theorem test_meets_PairAdmission_13 :
    (Partnered 4 (mframe 4 1 1 100000000000000 0 0 (imageP) : Bytes) (mrx 4 1 1 100000000000000 0 0 (imageP) : MirrorRx) w_PairAdmission_13) ∧ (isSp w_PairAdmission_13 = true) ∧ (1032 ≤ (mrx 4 1 1 100000000000000 0 0 (imageP) : MirrorRx).payload.length) ∧ (getN (mrx 4 1 1 100000000000000 0 0 (imageP) : MirrorRx).payload 6 2 = segN w_PairAdmission_13) ∧ (getN (mrx 4 1 1 100000000000000 0 0 (imageP) : MirrorRx).payload 4 2 < segN w_PairAdmission_13) ∧ (1 < segN w_PairAdmission_13) ∧ (w_PairAdmission_13.pair.imgSeqRx ≠ some (getN (mrx 4 1 1 100000000000000 0 0 (imageP) : MirrorRx).payload 0 4)) :=
  by refine ⟨partnered_of (by decide +kernel), ?_, ?_, ?_, ?_, ?_, ?_⟩ <;> decide +kernel

def w_PairAdmission_14 : State := { sp with pair.imgSeqRx := some 9, pair.partner := .images, pair.imagesInStep := 1, pair.segsRx := (List.range 65).drop 1 }
set_option maxRecDepth 20000 in
theorem test_meets_PairAdmission_14 :
    (Partnered 4 (mframe 4 1 1 100000000000000 1 0 imageP : Bytes) (mrx 4 1 1 100000000000000 1 0 imageP : MirrorRx) w_PairAdmission_14) ∧ (isSp w_PairAdmission_14 = true) ∧ (1032 ≤ (mrx 4 1 1 100000000000000 1 0 imageP : MirrorRx).payload.length) ∧ (getN (mrx 4 1 1 100000000000000 1 0 imageP : MirrorRx).payload 6 2 = segN w_PairAdmission_14) ∧ (getN (mrx 4 1 1 100000000000000 1 0 imageP : MirrorRx).payload 4 2 < segN w_PairAdmission_14) ∧ (w_PairAdmission_14.pair.imgSeqRx = some (getN (mrx 4 1 1 100000000000000 1 0 imageP : MirrorRx).payload 0 4)) ∧ (getN (mrx 4 1 1 100000000000000 1 0 imageP : MirrorRx).payload 4 2 ∉ w_PairAdmission_14.pair.segsRx) ∧ (w_PairAdmission_14.pair.segsRx.length + 1 = segN w_PairAdmission_14) ∧ (w_PairAdmission_14.pair.partner = .images) ∧ (w_PairAdmission_14.pair.imagesInStep = 1) :=
  by refine ⟨partnered_of (by decide +kernel), ?_, ?_, ?_, ?_, ?_, ?_, ?_, ?_, ?_⟩ <;> decide +kernel

def w_PairAdmission_15 : State := sp
theorem test_meets_PairAdmission_15 :
    (Partnered 3 (mframe 3 1 1 100000000000000 0 0 (List.replicate 12 0) : Bytes) (mrx 3 1 1 100000000000000 0 0 (List.replicate 12 0) : MirrorRx) w_PairAdmission_15) ∧ (isSp w_PairAdmission_15 = true) :=
  ⟨partnered_of (by decide +kernel), by decide +kernel⟩

def w_PairAdmission_16 : State := { act with pair.blobAsked := true, pair.blobRx := [] }
theorem test_meets_PairAdmission_16 :
    (Partnered 9 (mframe 9 1 1 100000000000000 0 0 (u64 1 ++ u32 0 ++ u32 2 ++ [7]) : Bytes) (mrx 9 1 1 100000000000000 0 0 (u64 1 ++ u32 0 ++ u32 2 ++ [7]) : MirrorRx) w_PairAdmission_16) ∧ (16 ≤ (mrx 9 1 1 100000000000000 0 0 (u64 1 ++ u32 0 ++ u32 2 ++ [7]) : MirrorRx).payload.length) ∧ (w_PairAdmission_16.pair.blobAsked = true) ∧ (w_PairAdmission_16.pair.blobRx = []) ∧ (mrx 9 1 1 100000000000000 0 0 (u64 1 ++ u32 0 ++ u32 2 ++ [7]) : MirrorRx).payload.length - 16 < getN (mrx 9 1 1 100000000000000 0 0 (u64 1 ++ u32 0 ++ u32 2 ++ [7]) : MirrorRx).payload 12 4 :=
  by refine ⟨partnered_of (by decide +kernel), ?_, ?_, ?_, ?_⟩ <;> decide +kernel

def w_PairOwnership_1 : State := { act with str.role := some .active, pair.ownOut := true, cfg.small.member := 1 }
theorem test_meets_PairOwnership_1 :
    (running w_PairOwnership_1 = true) ∧ (w_PairOwnership_1.str.role = some .active) ∧ (w_PairOwnership_1.pair.ownOut = true) ∧ (true = false ∨ w_PairOwnership_1.cfg.small.member = 1) :=
  by decide +kernel

def w_PairOwnership_2 : State := noon
theorem test_meets_PairOwnership_2 :
    (w_PairOwnership_2.str.role ≠ some .active) :=
  by decide +kernel

def w_PairOwnership_3 : State := { sp with pair.partner := .admitted, pair.hTick := none, pair.control := some { tick := 100000000000000, payload := [] } }
theorem test_meets_PairOwnership_3 :
    (running w_PairOwnership_3 = true) ∧ (isSp w_PairOwnership_3 = true) ∧ (w_PairOwnership_3.pair.partner = .admitted) ∧ (w_PairOwnership_3.pair.hTick = none) ∧ (controlFresh w_PairOwnership_3 = true) :=
  by decide +kernel

def w_PairOwnership_4 : State := { sp with pair.hTick := none, pair.partner := .heartbeats }
theorem test_meets_PairOwnership_4 :
    (running w_PairOwnership_4 = true) ∧ (isSp w_PairOwnership_4 = true) ∧ (w_PairOwnership_4.pair.partner ≠ .admitted) ∧ (w_PairOwnership_4.pair.hTick = none) :=
  by decide +kernel

def w_PairOwnership_5 : State := noon
theorem test_meets_PairOwnership_5 :
    (isSp w_PairOwnership_5 = false) :=
  by decide +kernel

def w_PairOwnership_6 : State := { sp with pair.beatThisTick := true, pair.lastBeatAt := some 0 }
theorem test_meets_PairOwnership_6 :
    (isSp w_PairOwnership_6 = true) ∧ (running w_PairOwnership_6 = true) ∧ (w_PairOwnership_6.pair.lastBeatAt ≠ none) ∧ (w_PairOwnership_6.pair.beatThisTick = true) :=
  by decide +kernel

def w_PairOwnership_7 : State := { sp with pair.beatThisTick := false, pair.partner := .admitted, pair.lastBeatAt := some 0, pair.misses := 1 }
theorem test_meets_PairOwnership_7 :
    (isSp w_PairOwnership_7 = true) ∧ (running w_PairOwnership_7 = true) ∧ (w_PairOwnership_7.pair.lastBeatAt ≠ none) ∧ (w_PairOwnership_7.pair.beatThisTick = false) ∧ (w_PairOwnership_7.pair.misses < 2) ∧ (w_PairOwnership_7.pair.partner = .admitted) :=
  by decide +kernel

def w_PairOwnership_8 : State := { sp with pair.beatThisTick := false, pair.misses := 2, pair.partner := .admitted, pair.lastBeatAt := some 0, pair.control := some { tick := 100000000000000, payload := [] } }
theorem test_meets_PairOwnership_8 :
    (isSp w_PairOwnership_8 = true) ∧ (running w_PairOwnership_8 = true) ∧ (w_PairOwnership_8.pair.lastBeatAt ≠ none) ∧ (w_PairOwnership_8.pair.beatThisTick = false) ∧ (w_PairOwnership_8.pair.misses = 2) ∧ (w_PairOwnership_8.pair.partner = .admitted) ∧ (controlFresh w_PairOwnership_8 = true) :=
  by decide +kernel

def w_PairOwnership_9 : State := { sp with pair.takeover := some (0, 2), pair.beat := some beat0 }
theorem test_meets_PairOwnership_9 :
    (w_PairOwnership_9.pair.takeover = some (0, 2)) ∧ (w_PairOwnership_9.pair.beat = some beat0) ∧ (elapsed w_PairOwnership_9 0 ((if 2 = 2 then 2 else 10) * 50000) = true) :=
  by decide +kernel

def w_PairOwnership_10 : State := { sp with pair.takeover := none }
theorem test_meets_PairOwnership_10 :
    (Partnered 1 (mframe 1 1 1 100000000000000 0 0 ([0, 1] ++ List.replicate 42 0) : Bytes) (mrx 1 1 1 100000000000000 0 0 ([0, 1] ++ List.replicate 42 0) : MirrorRx) w_PairOwnership_10) ∧ (isSp w_PairOwnership_10 = true) ∧ (w_PairOwnership_10.pair.takeover = none) ∧ (tickMatches (mrx 1 1 1 100000000000000 0 0 ([0, 1] ++ List.replicate 42 0) : MirrorRx) w_PairOwnership_10 = true) ∧ (bitAt (getN (mrx 1 1 1 100000000000000 0 0 ([0, 1] ++ List.replicate 42 0) : MirrorRx).payload 1 1) 0 = true) :=
  by refine ⟨partnered_of (by decide +kernel), ?_, ?_, ?_, ?_⟩ <;> decide +kernel

def w_PairOwnership_11 : State := { sp with pair.takeover := none }
theorem test_meets_PairOwnership_11 :
    (Partnered 2 (mframe 2 1 1 100000000000000 0 0 (List.replicate 44 0) : Bytes) (mrx 2 1 1 100000000000000 0 0 (List.replicate 44 0) : MirrorRx) w_PairOwnership_11) ∧ (isSp w_PairOwnership_11 = true) ∧ (w_PairOwnership_11.pair.takeover = none) :=
  by refine ⟨partnered_of (by decide +kernel), ?_, ?_⟩ <;> decide +kernel

def w_PairOwnership_12 : State := { act with str.role := some .active, cfg.small.member := 1 }
theorem test_meets_PairOwnership_12 :
    (Partnered 1 (mframe 1 0 1 100000000000000 1 0 (List.replicate 44 0) : Bytes) (mrx 1 0 1 100000000000000 1 0 (List.replicate 44 0) : MirrorRx) w_PairOwnership_12) ∧ (w_PairOwnership_12.str.role = some .active) ∧ (mrx 1 0 1 100000000000000 1 0 (List.replicate 44 0) : MirrorRx).role = 1 ∧ (w_PairOwnership_12.cfg.small.member = 1) :=
  by refine ⟨partnered_of (by decide +kernel), ?_, ?_, ?_⟩ <;> decide +kernel

def w_PairOwnership_13 : State := { sp with pair.partner := .admitted }
theorem test_meets_PairOwnership_13 :
    (Partnered 7 (mframe 7 1 1 100000000000000 0 0 (hover 100005000000000 0) : Bytes) (mrx 7 1 1 100000000000000 0 0 (hover 100005000000000 0) : MirrorRx) w_PairOwnership_13) ∧ (isSp w_PairOwnership_13 = true) ∧ (w_PairOwnership_13.pair.partner = .admitted) ∧ (getN (mrx 7 1 1 100000000000000 0 0 (hover 100005000000000 0) : MirrorRx).payload 8 1 = 0) :=
  by refine ⟨partnered_of (by decide +kernel), ?_, ?_, ?_⟩ <;> decide +kernel

def w_PairOwnership_14 : State := { act with pair.hYields := true, pair.hTick := some 100005000000000, pair.hAccepted := false, pair.hReq := some (rq 0x020D [] : HostReq) }
theorem test_meets_PairOwnership_14 :
    (Partnered 7 (mframe 7 1 1 100000000000000 0 0 (hover 100005000000000 1) : Bytes) (mrx 7 1 1 100000000000000 0 0 (hover 100005000000000 1) : MirrorRx) w_PairOwnership_14) ∧ (getN (mrx 7 1 1 100000000000000 0 0 (hover 100005000000000 1) : MirrorRx).payload 8 1 = 1) ∧ (w_PairOwnership_14.pair.hYields = true) ∧ (w_PairOwnership_14.pair.hTick = some (getN (mrx 7 1 1 100000000000000 0 0 (hover 100005000000000 1) : MirrorRx).payload 0 8)) ∧ (w_PairOwnership_14.pair.hAccepted = false) ∧ (w_PairOwnership_14.pair.hReq = some (rq 0x020D [] : HostReq)) ∧ (isSp w_PairOwnership_14 = false) :=
  by refine ⟨partnered_of (by decide +kernel), ?_, ?_, ?_, ?_, ?_, ?_⟩ <;> decide +kernel

def w_PairOwnership_15 : State := { act with pair.hYields := true, pair.hAccepted := false, pair.hThen := 0, pair.hReq := some (rq 0 [] : HostReq), pair.hTick := some 1 }
theorem test_meets_PairOwnership_15 :
    (running w_PairOwnership_15 = true) ∧ (w_PairOwnership_15.pair.hYields = true) ∧ (w_PairOwnership_15.pair.hTick ≠ none) ∧ (w_PairOwnership_15.pair.hAccepted = false) ∧ (elapsed w_PairOwnership_15 w_PairOwnership_15.pair.hSentAt (msNs 5) = true) ∧ (w_PairOwnership_15.pair.hThen = 0) ∧ (w_PairOwnership_15.pair.hReq = some (rq 0 [] : HostReq)) :=
  by decide +kernel

def w_PairOwnership_16 : State := { act with pair.hTick := some 100000000000000, pair.hAccepted := true, pair.hYields := true, pair.hThen := 0 }
theorem test_meets_PairOwnership_16 :
    (w_PairOwnership_16.pair.hTick = some 100000000000000) ∧ (running w_PairOwnership_16 = true) ∧ (100000000000000 ≤ w_PairOwnership_16.tb.time) ∧ (w_PairOwnership_16.pair.hAccepted = true) ∧ (w_PairOwnership_16.pair.hYields = true) ∧ (w_PairOwnership_16.pair.hThen = 0) :=
  by decide +kernel

def w_PairOwnership_17 : State := { sp with pair.hTick := some 100000000000000, pair.hAccepted := true, pair.hYields := false }
theorem test_meets_PairOwnership_17 :
    (w_PairOwnership_17.pair.hTick = some 100000000000000) ∧ (running w_PairOwnership_17 = true) ∧ (100000000000000 ≤ w_PairOwnership_17.tb.time) ∧ (w_PairOwnership_17.pair.hAccepted = true) ∧ (w_PairOwnership_17.pair.hYields = false) :=
  by decide +kernel

theorem test_meets_CommandsKeepTheirParts : exec .jtagIdcode noon = .next (outcome (exec .jtagIdcode noon)) ∧ noon.str.state ≠ .dawn :=
  ⟨by rfl, by decide +kernel⟩

theorem test_meets_FusesAreBlownOnlyAtConfirmation_1 :
    exec .jtagIdcode noon = .next (outcome (exec .jtagIdcode noon)) ∧ Instr.jtagIdcode ≠ .updTrialConfirm := ⟨by rfl, by decide⟩

theorem test_meets_FusesAreBlownOnlyAtConfirmation_2 :
    exec .updTrialConfirm noon = .next (outcome (exec .updTrialConfirm noon)) := by rfl

theorem test_meets_FusesAreBlownOnlyAtConfirmation_3 : FusesOk State.reset ∧ step State.reset = .next State.reset := by
  refine ⟨⟨by decide +kernel, ?_, by decide +kernel, by decide +kernel⟩, rfl⟩
  intro h hm
  have e : ∀ x ∈ State.reset.upd.keyHash, ∀ h ∈ x, h.length = 48 := by decide +kernel
  exact e _ hm h rfl

theorem test_meets_ConfigurationIsKeptOrDropped : exec .jtagIdcode noon = .next (outcome (exec .jtagIdcode noon)) ∧ noon.str.state ≠ .dawn :=
  ⟨by rfl, by decide +kernel⟩

def w_TwilightCauseOutsideRun_1 : State := noon
theorem test_meets_TwilightCauseOutsideRun_1 :
    (13 < w_TwilightCauseOutsideRun_1.prot.twilight.length) ∧ (w_TwilightCauseOutsideRun_1.str.state ≠ .run) ∧ (w_TwilightCauseOutsideRun_1.str.state ≠ .twilight) :=
  by decide +kernel

def w_TwilightCauseOutsideRun_2 : State := { noon with str.state := .closed, prot.twilight := [true], str.twilightUsed := 1000000000000000 }
theorem test_meets_TwilightCauseOutsideRun_2 :
    (Admitted 1 (rq 0 [] : HostReq) w_TwilightCauseOutsideRun_2) ∧ (rq 0 [] : HostReq).args = [] ∧ (legalCmd 0x0201 w_TwilightCauseOutsideRun_2 = true) ∧ (twArmed w_TwilightCauseOutsideRun_2 = true) ∧ (twLeft w_TwilightCauseOutsideRun_2 = 0) :=
  by refine ⟨admitted_of (sess 2) (by decide +kernel) (by decide +kernel) (by decide +kernel), ?_, ?_, ?_, ?_⟩ <;> decide +kernel

def w_SnapshotRequestWhileBusy_1 : State := { noon with skl.onDemand := some ((1, 1) : Nat × Nat) }
theorem test_meets_SnapshotRequestWhileBusy_1 :
    (w_SnapshotRequestWhileBusy_1.skl.onDemand = some ((1, 1) : Nat × Nat)) :=
  by decide +kernel

end Sys2Proof.Tests
end

section
/-! A Twilight cause raised where no transition follows (R45), and a command that passes its role, argument and legality
checks (R14). -/
namespace Sys2Proof.Machine

/-! ### Lists by index -/

theorem mem_of_nth_true {l : List Bool} {i : Nat} (hi : i < l.length) (h : nth true l i = true) : true ∈ l := by
  induction l generalizing i with
  | nil => simp at hi
  | cons b l ih =>
    cases i with
    | zero => exact List.mem_cons.mpr (.inl h.symm)
    | succ i => exact List.mem_cons_of_mem b (ih (Nat.lt_of_succ_lt_succ hi) h)

theorem mem_setAt {α : Type} {l : List α} {i : Nat} (v : α) (hi : i < l.length) : v ∈ setAt l i v := by
  induction l generalizing i with
  | nil => simp at hi
  | cons x l ih =>
    cases i with
    | zero => exact List.mem_cons_self
    | succ i => exact List.mem_cons_of_mem x (ih (Nat.lt_of_succ_lt_succ hi))

/-! ### Raising a Twilight cause -/

theorem twArmed_iff {s : State} : twArmed s = true ↔ true ∈ s.prot.twilight := by
  simp [twArmed]

/-- The state machine's part after a Twilight cause is raised: a trigger is left in RUN alone. -/
theorem raiseTw_str (bit : Nat) (s : State) : (raiseTw bit s).str =
    if nth true s.prot.twilight bit then s.str
    else { s.str with
      unarmedSince := none
      triggers := if s.str.state = .run && !(isSp s) then s.str.triggers ++ [.twilightRaised] else s.str.triggers } := by
  unfold raiseTw
  split
  · rfl
  · exact log_str ..

theorem raiseTw_twilight (bit : Nat) (s : State) : (raiseTw bit s).prot.twilight =
    if nth true s.prot.twilight bit then s.prot.twilight else setAt s.prot.twilight bit true := by
  unfold raiseTw
  split
  · rfl
  · simp

theorem twArmed_raiseTw {bit : Nat} {s : State} (hb : bit < s.prot.twilight.length) : twArmed (raiseTw bit s) = true := by
  rw [twArmed_iff, raiseTw_twilight]
  split
  · next h => exact mem_of_nth_true hb h
  · exact mem_setAt true hb

theorem raiseTw_state (bit : Nat) (s : State) : (raiseTw bit s).str.state = s.str.state := by
  rw [raiseTw_str]; split <;> rfl

theorem raiseTw_triggers_of_not_run {bit : Nat} {s : State} (h : s.str.state ≠ .run) :
    (raiseTw bit s).str.triggers = s.str.triggers := by
  rw [raiseTw_str]
  split
  · rfl
  · simp [h]

/-! ### A command whose request may be served -/

section
variable {least code : Nat} {r : HostReq} {s : State}

theorem Admitted.withCode (h : Admitted least r s) (code : Nat) : Admitted least (withCode code r) s := h

theorem roleThen_of_admitted (h : Admitted least r s) (act : State → State) : roleThen least true r act s = act s := by
  obtain ⟨-, x, hx, hp⟩ := h
  simp [roleThen, hx, hp]

theorem command_of_legal (h : Admitted least r s) (hl : legalCmd r.code s = true) (act : State → State) :
    command least true act r s = act s := by
  rw [command, roleThen_of_admitted h, if_pos hl]

theorem completes_evalRow (h : Admitted least r s) (eval : HostReq → State → State) (p : State → Prop) :
    Completes (evalRow code eval r s) p ↔ p (eval (withCode code r) s) := by
  rw [evalRow, if_pos h.1, completes_next]

/-- The row START runs the evaluation of START. -/
theorem exec_start (r : HostReq) (s : State) : exec (.start r) s = evalRow 0x0201 evalStart r s := by
  rfl

/-- START with a Twilight cause armed and no count remaining (R45). -/
theorem evalStart_of_exhausted (h : Admitted 1 r s) (hargs : r.args = []) (hl : legalCmd r.code s = true)
    (harm : twArmed s = true) (hleft : twLeft s = 0) : evalStart r s = respond r stFault [] s := by
  rw [evalStart, hargs, List.isEmpty_nil, command_of_legal h hl]
  simp [harm, hleft]

end

/-- Settles O59: a raise marks the cause in the list and leaves a trigger in RUN alone; START falls to its middle branch. -/
theorem twilightCauseOutsideRun : Obligations.TwilightCauseOutsideRun := by
  refine ⟨fun s bit hb hrun _ => ?_, fun s r ha hargs hl harm hleft => ?_⟩
  · exact ⟨twArmed_raiseTw hb, raiseTw_state bit s, raiseTw_triggers_of_not_run hrun⟩
  · rw [exec_start, completes_evalRow ha, evalStart_of_exhausted (ha.withCode 0x0201) hargs hl harm hleft]
    exact ⟨respond_answered s (withCode 0x0201 r) stFault [] (Nat.zero_le _), respond_str ..⟩

end Sys2Proof.Machine
end

section
/-! A snapshot request while a snapshot runs (R178). -/
namespace Sys2Proof.Machine

/-- The request takes its first branch: the state changes by the BUSY answer alone. -/
theorem exec_onDemandSnapshotRequest_of_running {r : HostReq} {s : State} {x : Nat × Nat} (h : s.skl.onDemand = some x) :
    exec (.onDemandSnapshotRequest r) s = .next (respond r stBusy [] s) :=
  if_pos (Option.isSome_of_eq_some h)

/-- Settles O60: the request is the BUSY answer alone, and an answer leaves the link controller and the tick as they were. -/
theorem snapshotRequestWhileBusy : Obligations.SnapshotRequestWhileBusy := by
  intro s r x h
  rw [exec_onDemandSnapshotRequest_of_running h, completes_next]
  exact ⟨respond_answered s r stBusy [] (Nat.zero_le _), respond_skl .., respond_tick ..⟩

end Sys2Proof.Machine
end

section
/-! The parts a command leaves alone, and the fuses (R542): blown at the confirmation of a trial, never restored. -/
namespace Sys2Proof.Machine

/-! ### What a command leaves alone -/

/-- Along the arms of the dispatch: each command changes only what its meaning does, which `mayChange` lists. -/
theorem exec_frames (i : Instr) (s : State) : Frames (mayChange i) s (exec i s) :=
  match i with
  | .sampleInstant t => execSampleInstant_blank rfl t s
  | .dutyTransfer => execDutyTransfer_blank rfl s
  | .fastComparatorTrip cmp => execFastComparatorTrip_blank rfl cmp s
  | .frameLatch => execFrameLatch_blank rfl s
  | .outerLoops => execOuterLoops_blank rfl s
  | .frameProtectionEvaluation => execFrameProtectionEvaluation_blank rfl s
  | .limitsAndDispatch => execLimitsAndDispatch_blank rfl s
  | .tick16Evaluation => execTick16Evaluation_blank rfl s
  | .snapshotInstant => execSnapshotInstant_blank rfl s
  | .voltageBankComplete => execVoltageBankComplete_blank rfl s
  | .positionFilters => execPositionFilters_blank rfl s
  | .dropSetComplete => execDropSetComplete_blank rfl s
  | .temperatureSetComplete => execTemperatureSetComplete_blank rfl s
  | .shareSolve engine => execShareSolve_blank rfl engine s
  | .thermalLoops di flow => execThermalLoops_blank rfl di flow s
  | .tickOverrun item => execTickOverrun_blank rfl item s
  | .clkRefLost => execClkRefLost_blank rfl s
  | .railFault rail value => execRailFault_blank rfl rail value s
  | .auxPowerApplied reason => execAuxPowerApplied_blank rfl reason s
  | .j1BelowThreshold => execJ1BelowThreshold_blank rfl s
  | .j1Restored => execJ1Restored_blank rfl s
  | .auxLost => execAuxLost_blank rfl s
  | .fullOperationEnd => execFullOperationEnd_blank rfl s
  | .brownOutSaveComplete saved => execBrownOutSaveComplete_blank rfl saved s
  | .auxOvervoltage => execAuxOvervoltage_blank rfl s
  | .auxOvervoltageCleared => execAuxOvervoltageCleared_blank rfl s
  | .peCheck mOhm => execPeCheck_blank rfl mOhm s
  | .peOpenCleared => execPeOpenCleared_blank rfl s
  | .sensSupplyFault supply => execSensSupplyFault_blank rfl supply s
  | .syncReceived m => execSyncReceived_blank rfl m s
  | .followUpReceived m t1 corr => execFollowUpReceived_blank rfl m t1 corr s
  | .followUpTimeout => execFollowUpTimeout_blank rfl s
  | .pdelayReqDue t1 => execPdelayReqDue_blank rfl t1 s
  | .pdelayRespReceived m t2 t3 corr t4 => execPdelayRespReceived_blank rfl m t2 t3 corr t4 s
  | .pdelayReqReceived m t2 t3 => execPdelayReqReceived_blank rfl m t2 t3 s
  | .announceReceived a => execAnnounceReceived_blank rfl a s
  | .announceReceiptTimeout => execAnnounceReceiptTimeout_blank rfl s
  | .ptpOffsetUnusable => execPtpOffsetUnusable_blank rfl s
  | .holdoverExpired => execHoldoverExpired_blank rfl s
  | .timeStep => execTimeStep_blank rfl s
  | .rtcWriteback => execRtcWriteback_blank rfl s
  | .rtcCorrection ppb => execRtcCorrection_blank rfl ppb s
  | .launchTimeReached queue sfd => execLaunchTimeReached_blank rfl queue sfd s
  | .dawnStepEnd d => execDawnStepEnd_blank rfl d s
  | .dawnStepTimeout => execDawnStepTimeout_blank rfl s
  | .lampTestEnd => execLampTestEnd_blank rfl s
  | .refDisagree => execRefDisagree_blank rfl s
  | .refSettled => execRefSettled_blank rfl s
  | .refSettleTimeout => execRefSettleTimeout_blank rfl s
  | .settlingEnd ch => execSettlingEnd_blank rfl ch s
  | .dsOverrange ch => execDsOverrange_blank rfl ch s
  | .dsOverrangeEnd ch => execDsOverrangeEnd_blank rfl ch s
  | .currentChDisagree => execCurrentChDisagree_blank rfl s
  | .ds7DwellEnd meanCh mean7 => execDs7DwellEnd_blank rfl meanCh mean7 s
  | .ds7InjectionTestDone pass => execDs7InjectionTestDone_blank rfl pass s
  | .sarTrigger t atNs => execSarTrigger_blank rfl t atNs s
  | .sarSequenceDone r => execSarSequenceDone_blank rfl r s
  | .housekeepingRoundStart => execHousekeepingRoundStart_blank rfl s
  | .housekeepingRoundComplete raw die => execHousekeepingRoundComplete_blank rfl raw die s
  | .sysCalCaptureDone mean sigma => execSysCalCaptureDone_blank rfl mean sigma s
  | .sysCalSuspendTimeout => execSysCalSuspendTimeout_blank rfl s
  | .captureComplete samples gaps => execCaptureComplete_blank rfl samples gaps s
  | .skaleyFrameLaunch port => execSkaleyFrameLaunch_blank rfl port s
  | .skaleyFrameReturned port marginOk rt bytes => execSkaleyFrameReturned_blank rfl port marginOk rt bytes s
  | .skaleyFrameTimeout port => execSkaleyFrameTimeout_blank rfl port s
  | .skaleyCarrierLoss port => execSkaleyCarrierLoss_blank rfl port s
  | .ringHealed => execRingHealed_blank rfl s
  | .voltageStale pos => execVoltageStale_blank rfl pos s
  | .dropStale cell => execDropStale_blank rfl cell s
  | .tempStale idx => execTempStale_blank rfl idx s
  | .onDemandSnapshotRequest r => execOnDemandSnapshotRequest_blank rfl r s
  | .impedanceBlockStart => execImpedanceBlockStart_blank rfl s
  | .lockinIntegrationStart => execLockinIntegrationStart_blank rfl s
  | .lockinIntegrationEnd => execLockinIntegrationEnd_blank rfl s
  | .impedanceReduction => execImpedanceReduction_blank rfl s
  | .autoSweepDue => execAutoSweepDue_blank rfl s
  | .tIntExpired pos => execTIntExpired_blank rfl pos s
  | .phaseRampDownComplete phase => execPhaseRampDownComplete_blank rfl phase s
  | .phaseReenable phase => execPhaseReenable_blank rfl phase s
  | .schedCoefWrite => execSchedCoefWrite_blank rfl s
  | .setpointTimeout => execSetpointTimeout_blank rfl s
  | .balSchedule => execBalSchedule_blank rfl s
  | .balApplicationInstant => execBalApplicationInstant_blank rfl s
  | .balWatchdog place => execBalWatchdog_blank rfl place s
  | .bcTimeMaxReached => execBcTimeMaxReached_blank rfl s
  | .flowLost di => execFlowLost_blank rfl di s
  | .flowRestored di => execFlowRestored_blank rfl di s
  | .leakDetected di => execLeakDetected_blank rfl di s
  | .leakCleared di => execLeakCleared_blank rfl di s
  | .chillerRequest => execChillerRequest_blank rfl s
  | .chillerStatusReceived => execChillerStatusReceived_blank rfl s
  | .chillerLost => execChillerLost_blank rfl s
  | .safetyInputDeenergized input => execSafetyInputDeenergized_blank rfl input s
  | .safetyInputRestored input => execSafetyInputRestored_blank rfl input s
  | .estopDiscrepancy => execEstopDiscrepancy_blank rfl s
  | .safeStopCoilsOff => execSafeStopCoilsOff_blank rfl s
  | .auxContactChange k closed => execAuxContactChange_blank rfl k closed s
  | .contCloseTimeout k => execContCloseTimeout_blank rfl k s
  | .contOpenTimeout k => execContOpenTimeout_blank rfl k s
  | .contDropped k => execContDropped_blank rfl k s
  | .coilPullInEnd k => execCoilPullInEnd_blank rfl k s
  | .coilCurrentFault k ma => execCoilCurrentFault_blank rfl k ma s
  | .prechargeHoldEnd => execPrechargeHoldEnd_blank rfl s
  | .prechargeTimeout => execPrechargeTimeout_blank rfl s
  | .stoppingZeroCurrent => execStoppingZeroCurrent_blank rfl s
  | .stopTimeout => execStopTimeout_blank rfl s
  | .twilightExhausted => execTwilightExhausted_blank rfl s
  | .twilightBudgetReset => execTwilightBudgetReset_blank rfl s
  | .testPulseStart k => execTestPulseStart_blank rfl k s
  | .testPulseEnd showedOff cameOn => execTestPulseEnd_blank rfl showedOff cameOn s
  | .testIntervalEnd => execTestIntervalEnd_blank rfl s
  | .inputTest passed => execInputTest_blank rfl passed s
  | .cmpTest cmp passed => execCmpTest_blank rfl cmp passed s
  | .codeCrcCheck ok => execCodeCrcCheck_blank rfl ok s
  | .watchdogExpiry => execWatchdogExpiry_blank rfl s
  | .lockstepMismatch => execLockstepMismatch_blank rfl s
  | .isoHalfPeriodEnd ds5 inj injOk => execIsoHalfPeriodEnd_blank rfl ds5 inj injOk s
  | .isoPassiveMeasurement vPos vStr => execIsoPassiveMeasurement_blank rfl vPos vStr s
  | .isoInvalid => execIsoInvalid_blank rfl s
  | .helloDue => execHelloDue_blank rfl s
  | .helloReceived frame => execHelloReceived_blank rfl frame s
  | .helloListenTimeout => execHelloListenTimeout_blank rfl s
  | .ownInRise together => execOwnInRise_blank rfl together s
  | .ownInFall => execOwnInFall_blank rfl s
  | .heartbeatDeadline => execHeartbeatDeadline_blank rfl s
  | .failoverFirstFrame => execFailoverFirstFrame_blank rfl s
  | .mirrorHeartbeatReceived frame => execMirrorHeartbeatReceived_blank rfl frame s
  | .mirrorControlReceived frame sfd => execMirrorControlReceived_blank rfl frame sfd s
  | .mirrorBankReceived frame => execMirrorBankReceived_blank rfl frame s
  | .mirrorImageSegmentReceived frame => execMirrorImageSegmentReceived_blank rfl frame s
  | .sbStatusReceived frame => execSbStatusReceived_blank rfl frame s
  | .handoverReceived frame => execHandoverReceived_blank rfl frame s
  | .handoverAcceptTimeout => execHandoverAcceptTimeout_blank rfl s
  | .handoverTick => execHandoverTick_blank rfl s
  | .keyxReceived frame => execKeyxReceived_blank rfl frame s
  | .blobReceived frame => execBlobReceived_blank rfl frame s
  | .admissionHeartbeatsComplete => execAdmissionHeartbeatsComplete_blank rfl s
  | .imageSegmentOverdue => execImageSegmentOverdue_blank rfl s
  | .partnerLost => execPartnerLost_blank rfl s
  | .hostDatagramReceived port addr udp bytes => execHostDatagramReceived_blank rfl port addr udp bytes s
  | .openReq port addr udp bytes => execOpenReq_blank rfl port addr udp bytes s
  | .openAuth port addr udp bytes => execOpenAuth_blank rfl port addr udp bytes s
  | .openAuthTimeout session => execOpenAuthTimeout_blank rfl session s
  | .sessionIdleTimeout session => execSessionIdleTimeout_blank rfl session s
  | .objectNotificationDue session entry => execObjectNotificationDue_blank rfl session entry s
  | .bulkAbandoned target => execBulkAbandoned_blank rfl target s
  | .arpRequest port target => execArpRequest_blank rfl port target s
  | .icmpEchoRequest port src dst payload => execIcmpEchoRequest_blank rfl port src dst payload s
  | .modbusConnect port addr => execModbusConnect_blank rfl port addr s
  | .modbusRead conn pdu => execModbusRead_blank rfl conn pdu s
  | .modbusIdleTimeout conn => execModbusIdleTimeout_blank rfl conn s
  | .read r => execRead_blank rfl r s
  | .subscribe r => execSubscribe_blank rfl r s
  | .keepalive r => execKeepalive_blank rfl r s
  | .close r => execClose_blank rfl r s
  | .bulkWrite r => execBulkWrite_blank rfl r s
  | .keySet r => execKeySet_blank rfl r s
  | .connect r => execConnect_blank rfl r s
  | .start r => execStart_blank rfl r s
  | .setPoint r => execSetPoint_blank rfl r s
  | .stop r => execStop_blank rfl r s
  | .disconnect r => execDisconnect_blank rfl r s
  | .clearFault r => execClearFault_blank rfl r s
  | .restart r => execRestart_blank rfl r s
  | .shutdown r => execShutdown_blank rfl r s
  | .enterService r => execEnterService_blank rfl r s
  | .exitService r => execExitService_blank rfl r s
  | .restoreState r => execRestoreState_blank rfl r s
  | .freeze r => execFreeze_blank rfl r s
  | .freezeLogFreeze r => execFreezeLogFreeze_blank rfl r s
  | .freezeLogThaw r => execFreezeLogThaw_blank rfl r s
  | .pairHandover r => execPairHandover_blank rfl r s
  | .plugWrite r => execPlugWrite_blank rfl r s
  | .capture r => execCapture_blank rfl r s
  | .opStartCapLearn r => execOpStartCapLearn_blank rfl r s
  | .opStartSysCal r => execOpStartSysCal_blank rfl r s
  | .opStartImpedanceSweep r => execOpStartImpedanceSweep_blank rfl r s
  | .opStartBalanceCampaign r => execOpStartBalanceCampaign_blank rfl r s
  | .opStartInsulationTest r => execOpStartInsulationTest_blank rfl r s
  | .opStartLogExport r => execOpStartLogExport_blank rfl r s
  | .opStartUpdateStage r => execOpStartUpdateStage_blank rfl r s
  | .suspend r => execSuspend_blank rfl r s
  | .resume r => execResume_blank rfl r s
  | .cancel r => execCancel_blank rfl r s
  | .updPiece r => execUpdPiece_blank rfl r s
  | .stagingEraseDone => execStagingEraseDone_blank rfl s
  | .updInstallDone badChunk => execUpdInstallDone_blank rfl badChunk s
  | .updTrialConfirm => execUpdTrialConfirm_blank rfl s
  | .canFrameReceived ctl f => execCanFrameReceived_blank rfl ctl f s
  | .canTxComplete ctl mb delay => execCanTxComplete_blank rfl ctl mb delay s
  | .canBusError ctl tecInc recInc arbLost delay => execCanBusError_blank rfl ctl tecInc recInc arbLost delay s
  | .canBusOffRecovery ctl => execCanBusOffRecovery_blank rfl ctl s
  | .tripCopyResend => execTripCopyResend_blank rfl s
  | .irqSourceEvent src rising => execIrqSourceEvent_blank rfl src rising s
  | .irqCoalesceTimeout src => execIrqCoalesceTimeout_blank rfl src s
  | .irqClaim tgt => execIrqClaim_blank rfl tgt s
  | .irqEoi tgt value => execIrqEoi_blank rfl tgt value s
  | .irqSrcCfgWrite src coal value => execIrqSrcCfgWrite_blank rfl src coal value s
  | .irqThresholdWrite tgt value => execIrqThresholdWrite_blank rfl tgt value s
  | .registerWrite ring value => execRegisterWrite_blank rfl ring value s
  | .ringReserve ring len => execRingReserve_blank rfl ring len s
  | .ringCommit ring kind poison data => execRingCommit_blank rfl ring kind poison data s
  | .ringRewind ring => execRingRewind_blank rfl ring s
  | .ringRelease ring => execRingRelease_blank rfl ring s
  | .ringWordRead ring off parityOk => execRingWordRead_blank rfl ring off parityOk s
  | .recordIntake ring => execRecordIntake_blank rfl ring s
  | .recordCloseTimeout => execRecordCloseTimeout_blank rfl s
  | .recordFlush => execRecordFlush_blank rfl s
  | .rateWindowEnd => execRateWindowEnd_blank rfl s
  | .limitedPeriodEnd => execLimitedPeriodEnd_blank rfl s
  | .freezeLogMaxElapsed => execFreezeLogMaxElapsed_blank rfl s
  | .logExportChunk => execLogExportChunk_blank rfl s
  | .sramScrubRow corrected uncorrectable => execSramScrubRow_blank rfl corrected uncorrectable s
  | .eccError => execEccError_blank rfl s
  | .laneTest pass => execLaneTest_blank rfl pass s
  | .flashRefresh region needRewrite failed => execFlashRefresh_blank rfl region needRewrite failed s
  | .flashOperationDone region block ok => execFlashOperationDone_blank rfl region block ok s
  | .estimationJobDone job => execEstimationJobDone_blank rfl job s
  | .restoreBlobBuild => execRestoreBlobBuild_blank rfl s
  | .restoreWaitTimeout => execRestoreWaitTimeout_blank rfl s
  | .restMinReached => execRestMinReached_blank rfl s
  | .capLearnTimeout => execCapLearnTimeout_blank rfl s
  | .journalDeltaDue => execJournalDeltaDue_blank rfl s
  | .journalPeriodicDelta => execJournalPeriodicDelta_blank rfl s
  | .afternoonReentry => execAfternoonReentry_blank rfl s
  | .resetInputChange closed ms => execResetInputChange_blank rfl closed ms s
  | .resetHold => execResetHold_blank rfl s
  | .resetStuck => execResetStuck_blank rfl s
  | .resetReleased => execResetReleased_blank rfl s
  | .freezeNAsserted => execFreezeNAsserted_blank rfl s
  | .plugDetChange low => execPlugDetChange_blank rfl low s
  | .pairPresentChange low => execPairPresentChange_blank rfl low s
  | .linkChange port up => execLinkChange_blank rfl port up s
  | .usbFrameReceived cobs => execUsbFrameReceived_blank rfl cobs s
  | .jtagBypass => execJtagBypass_blank rfl s
  | .jtagIdcode => execJtagIdcode_blank rfl s
  | .jtagFrzStatus => execJtagFrzStatus_blank rfl s
  | .jtagMemAddr addr => execJtagMemAddr_blank rfl addr s
  | .jtagMemData => execJtagMemData_blank rfl s
  | .holdupBankBelow20v => execHoldupBankBelow20v_blank rfl s
  | .j16UsbMateChange mated => execJ16UsbMateChange_blank rfl mated s
  | .isoSlotBoundary => execIsoSlotBoundary_blank rfl s
  | .canBusIntegration ctl => execCanBusIntegration_blank rfl ctl s

/-! ### The commands and the fuses -/

theorem fuses_not_mem_mayChange {i : Instr} (hi : i ≠ .updTrialConfirm) : (mayChange i).contains .fuses = false := by
  cases i
  case updTrialConfirm => exact absurd rfl hi
  all_goals rfl

theorem exec_keeps_fuses {i : Instr} {s t : State} (h : exec i s = .next t) (hi : i ≠ .updTrialConfirm) :
    Part.fuses.same s t :=
  Frame.of_blank (exec_frames i s t h) .fuses (fuses_not_mem_mayChange hi)

/-! ### The confirmation of a trial -/

/-- The fuses of `t` are those of `s` after the confirmation of an image (R545): the counter rises to its security version, up
to 64 bits, and its revoke bits are blown. -/
def FusesFollow (m : Manifest) (s t : State) : Prop :=
  t.upd.counter = max s.upd.counter (min 64 m.secVer) ∧ t.upd.revoked = s.upd.revoked ||| m.revoke % 16 ∧
    t.upd.keyHash = s.upd.keyHash

@[simp] theorem onFwSlot_fuses (k : Nat) (g : FwSlot → FwSlot) (s : State) :
    (onFwSlot k g s).upd.counter = s.upd.counter ∧ (onFwSlot k g s).upd.revoked = s.upd.revoked ∧
      (onFwSlot k g s).upd.keyHash = s.upd.keyHash :=
  Frame.of_blank (onFwSlot_blank (pl := [.upd]) rfl k g s) .fuses rfl

@[simp] theorem log_fuses (src code sev : Nat) (data : Bytes) (s : State) :
    (log src code sev data s).upd.counter = s.upd.counter ∧ (log src code sev data s).upd.revoked = s.upd.revoked ∧
      (log src code sev data s).upd.keyHash = s.upd.keyHash :=
  Frame.of_blank (log_blank (pl := recordParts) rfl src code sev data s) .fuses rfl

/-- A confirmation leaves the fuses as they are, or the running slot is TRIAL and they follow its manifest. -/
theorem exec_updTrialConfirm_cases {s t : State} (h : exec .updTrialConfirm s = .next t) :
    Part.fuses.same s t ∨ (fwSlot s s.upd.running).st = 3 ∧ FusesFollow (fwSlot s s.upd.running).man s t := by
  replace h : execUpdTrialConfirm s = .next t := h
  unfold execUpdTrialConfirm at h
  split at h
  · cases h; exact .inl ⟨rfl, rfl, rfl⟩
  · dsimp only at h
    split at h
    · cases h; exact .inl ⟨rfl, rfl, rfl⟩
    · next hc =>
      have trial : (fwSlot s s.upd.running).st = 3 := by
        simp only [Bool.or_eq_true, not_or, decide_eq_true_eq, not_not] at hc
        exact hc.1.2
      cases h
      exact .inr ⟨trial, by simp [FusesFollow]⟩

/-! ### Following a manifest restores no fuse and stays in the bounds -/

theorem bitAt_eq_testBit (v i : Nat) : bitAt v i = v.testBit i :=
  Nat.testBit_eq_decide_div_mod_eq.symm

theorem bitAt_lor_of_bitAt {v k : Nat} (w : Nat) (h : bitAt v k = true) : bitAt (v ||| w) k = true := by
  rw [bitAt_eq_testBit] at h ⊢
  rw [Nat.testBit_lor, h, Bool.true_or]

theorem FusesOk.of_same {s t : State} (hs : FusesOk s) (h : Part.fuses.same s t) : FusesOk t := by
  obtain ⟨hc, hr, hk⟩ := h
  rwa [FusesOk, hc, hr, hk]

theorem FusesOk.of_follow {m : Manifest} {s t : State} (hs : FusesOk s) (h : FusesFollow m s t) : FusesOk t := by
  obtain ⟨hc, hr, hk⟩ := h
  obtain ⟨hlen, hsha, hrev, hcnt⟩ := hs
  rw [FusesOk, hc, hr, hk]
  exact ⟨hlen, hsha, Nat.or_lt_two_pow (n := 4) hrev (Nat.mod_lt _ (by decide)), max_le hcnt (min_le_left ..)⟩

/-! ### The invariant -/

theorem exec_keeps_fusesOk {i : Instr} {s t : State} (hs : FusesOk s) (h : exec i s = .next t) : FusesOk t := by
  by_cases hi : i = .updTrialConfirm
  · subst hi
    obtain same | ⟨-, follow⟩ := exec_updTrialConfirm_cases h
    · exact hs.of_same same
    · exact hs.of_follow follow
  · exact hs.of_same (exec_keeps_fuses h hi)

theorem step_keeps_fusesOk {s t : State} (hs : FusesOk s) (h : step s = .next t) : FusesOk t := by
  unfold step at h
  split at h
  · cases h; exact hs
  · next c cs _ =>
    have hq : FusesOk { s with pending := cs } := hs
    exact exec_keeps_fusesOk hq h

/-- Settles O57: no command but the confirmation has the fuses among its parts, and the confirmation blows what the manifest
of a TRIAL image names. -/
theorem fusesAreBlownOnlyAtConfirmation : Obligations.FusesAreBlownOnlyAtConfirmation := by
  refine ⟨fun i s t h hi => exec_keeps_fuses h hi, fun s t h => ?_, fun s t => step_keeps_fusesOk⟩
  obtain ⟨hc, hr, hk⟩ | ⟨trial, hc, hr, hk⟩ := exec_updTrialConfirm_cases h
  · exact ⟨hc.ge, fun k hb => by rwa [hr], hk, fun _ => ⟨hc, hr⟩⟩
  · refine ⟨?_, fun k hb => ?_, hk, fun not_trial => absurd trial not_trial⟩
    · rw [hc]; exact le_max_left ..
    · rw [hr]; exact bitAt_lor_of_bitAt _ hb

end Sys2Proof.Machine
end

section
/-! A step: the command at the front of the queue runs on the rest of it, and every command answers a next state; and the state
after reset. -/
namespace Sys2Proof.Machine

/-! ### The step and the queue -/

theorem step_of_pending_nil {s : State} (h : s.pending = []) : step s = .next s := by
  simp [step, h]

theorem step_of_pending_cons {s : State} {c : Instr} {cs : List Instr} (h : s.pending = c :: cs) :
    step s = exec c { s with pending := cs } := by
  simp [step, h]

/-- Settles O1: the two branches of the step. -/
theorem stepRunsTheFrontCommand : Obligations.StepRunsTheFrontCommand :=
  ⟨fun _ _ _ => step_of_pending_cons rfl, fun _ => step_of_pending_nil⟩

/-- Settles O56: the frame of every command, with the parts put back to reset values taken off. -/
theorem commandsKeepTheirParts : Obligations.CommandsKeepTheirParts :=
  fun i s t h => Frame.of_blank (exec_frames i s t h)

/-! ### Every command answers a next state -/

/-- The outcome is a next state. -/
def Answers (o : Host.Outcome State Fault Refusal) : Prop := ∃ t, o = .next t

theorem answers_next (t : State) : Answers (.next t) := ⟨t, rfl⟩

theorem answers_ite {c : Prop} [Decidable c] {a b : Host.Outcome State Fault Refusal} (ha : Answers a) (hb : Answers b) :
    Answers (if c then a else b) := by split <;> assumption

/-- Along the arms of the dispatch: each branch of each meaning ends in a next state (assumption 5). -/
theorem exec_answers (i : Instr) (s : State) : Answers (exec i s) := by
  cases i
  all_goals
    dsimp only [exec, evalRow, kindRow, execSampleInstant, execDutyTransfer, execFastComparatorTrip, execFrameLatch, execOuterLoops,
      execFrameProtectionEvaluation, execLimitsAndDispatch, execTick16Evaluation, execSnapshotInstant,
      execVoltageBankComplete, execPositionFilters, execDropSetComplete, execTemperatureSetComplete, execShareSolve,
      execThermalLoops, execTickOverrun, execClkRefLost, execRailFault, execAuxPowerApplied, execJ1BelowThreshold,
      execJ1Restored, execAuxLost, execFullOperationEnd, execBrownOutSaveComplete, execAuxOvervoltage,
      execAuxOvervoltageCleared, execPeCheck, execPeOpenCleared, execSensSupplyFault, execSyncReceived,
      execFollowUpReceived, execFollowUpTimeout, execPdelayReqDue, execPdelayRespReceived, execPdelayReqReceived,
      execAnnounceReceived, execAnnounceReceiptTimeout, execPtpOffsetUnusable, execHoldoverExpired, execTimeStep,
      execRtcWriteback, execRtcCorrection, execLaunchTimeReached, execDawnStepEnd, execDawnStepTimeout, execLampTestEnd,
      execRefDisagree, execRefSettled, execRefSettleTimeout, execSettlingEnd, execDsOverrange, execDsOverrangeEnd,
      execCurrentChDisagree, execDs7DwellEnd, execDs7InjectionTestDone, execSarTrigger, execSarSequenceDone,
      execHousekeepingRoundStart, execHousekeepingRoundComplete, execSysCalCaptureDone, execSysCalSuspendTimeout,
      execCaptureComplete, execSkaleyFrameLaunch, execSkaleyFrameReturned, execSkaleyFrameTimeout, execSkaleyCarrierLoss,
      execRingHealed, execVoltageStale, execDropStale, execTempStale, execOnDemandSnapshotRequest, execImpedanceBlockStart,
      execLockinIntegrationStart, execLockinIntegrationEnd, execImpedanceReduction, execAutoSweepDue, execTIntExpired,
      execPhaseRampDownComplete, execPhaseReenable, execSchedCoefWrite, execSetpointTimeout, execBalSchedule,
      execBalApplicationInstant, execBalWatchdog, execBcTimeMaxReached, execFlowLost, execFlowRestored, execLeakDetected,
      execLeakCleared, execChillerRequest, execChillerStatusReceived, execChillerLost, execSafetyInputDeenergized,
      execSafetyInputRestored, execEstopDiscrepancy, execSafeStopCoilsOff, execAuxContactChange, execContCloseTimeout,
      execContOpenTimeout, execContDropped, execCoilPullInEnd, execCoilCurrentFault, execPrechargeHoldEnd,
      execPrechargeTimeout, execStoppingZeroCurrent, execStopTimeout, execTwilightExhausted, execTwilightBudgetReset,
      execTestPulseStart, execTestPulseEnd, execTestIntervalEnd, execInputTest, execCmpTest, execCodeCrcCheck,
      execWatchdogExpiry, execLockstepMismatch, execIsoHalfPeriodEnd, execIsoPassiveMeasurement, execIsoInvalid,
      execHelloDue, execHelloReceived, execHelloListenTimeout, execOwnInRise, execOwnInFall, execHeartbeatDeadline,
      execFailoverFirstFrame, execMirrorHeartbeatReceived, execMirrorControlReceived, execMirrorBankReceived,
      execMirrorImageSegmentReceived, execSbStatusReceived, execHandoverReceived, execHandoverAcceptTimeout,
      execHandoverTick, execKeyxReceived, execBlobReceived, execAdmissionHeartbeatsComplete, execImageSegmentOverdue,
      execPartnerLost, execHostDatagramReceived, execOpenReq, execOpenAuth, execOpenAuthTimeout, execSessionIdleTimeout,
      execObjectNotificationDue, execBulkAbandoned, execArpRequest, execIcmpEchoRequest, execModbusConnect, execModbusRead,
      execModbusIdleTimeout, execRead, execSubscribe, execKeepalive, execClose, execBulkWrite, execKeySet, execConnect,
      execStart, execSetPoint, execStop, execDisconnect, execClearFault, execRestart, execShutdown, execEnterService,
      execExitService, execRestoreState, execFreeze, execFreezeLogFreeze, execFreezeLogThaw, execPairHandover,
      execPlugWrite, execCapture, execOpStartCapLearn, execOpStartSysCal, execOpStartImpedanceSweep,
      execOpStartBalanceCampaign, execOpStartInsulationTest, execOpStartLogExport, execOpStartUpdateStage, execSuspend,
      execResume, execCancel, execUpdPiece, execStagingEraseDone, execUpdInstallDone, execUpdTrialConfirm,
      execCanFrameReceived, execCanTxComplete, execCanBusError, execCanBusOffRecovery, execTripCopyResend,
      execIrqSourceEvent, execIrqCoalesceTimeout, execIrqClaim, execIrqEoi, execIrqSrcCfgWrite, execIrqThresholdWrite,
      execRegisterWrite, execRingReserve, execRingCommit, execRingRewind, execRingRelease, execRingWordRead,
      execRecordIntake, execRecordCloseTimeout, execRecordFlush, execRateWindowEnd, execLimitedPeriodEnd,
      execFreezeLogMaxElapsed, execLogExportChunk, execSramScrubRow, execEccError, execLaneTest, execFlashRefresh,
      execFlashOperationDone, execEstimationJobDone, execRestoreBlobBuild, execRestoreWaitTimeout, execRestMinReached,
      execCapLearnTimeout, execJournalDeltaDue, execJournalPeriodicDelta, execAfternoonReentry, execResetInputChange,
      execResetHold, execResetStuck, execResetReleased, execFreezeNAsserted, execPlugDetChange, execPairPresentChange,
      execLinkChange, execUsbFrameReceived, execJtagBypass, execJtagIdcode, execJtagFrzStatus, execJtagMemAddr,
      execJtagMemData, execHoldupBankBelow20v, execJ16UsbMateChange, execIsoSlotBoundary, execCanBusIntegration]
    repeat' first | with_reducible exact answers_next _ | with_reducible refine answers_ite ?_ ?_ | split

theorem pending_not_mem_mayChange (i : Instr) : (mayChange i).contains .pending = false := by
  cases i <;> rfl

theorem exec_keeps_pending {i : Instr} {s t : State} (h : exec i s = .next t) : t.pending = s.pending :=
  commandsKeepTheirParts i s t h .pending (pending_not_mem_mayChange i)

/-- Settles O55: an idle step keeps the empty queue; any other answers with the rest of it, which no command changes. -/
theorem everyStepTakesOneCommand : Obligations.EveryStepTakesOneCommand := by
  intro s
  cases hq : s.pending with
  | nil => exact ⟨s, step_of_pending_nil hq, hq⟩
  | cons c cs =>
    obtain ⟨t, ht⟩ := exec_answers c { s with pending := cs }
    exact ⟨t, (step_of_pending_cons hq).trans ht, exec_keeps_pending ht⟩

/-! ### The state after reset -/

theorem fusesOk_reset : FusesOk State.reset := by
  refine ⟨rfl, fun h hmem => ?_, by decide, by decide⟩
  have : some h = some (List.replicate 48 0) := List.eq_of_mem_replicate (n := 4) hmem
  cases this
  rfl

/-- Settles O54: the fields of the reset state. -/
theorem resetState : Obligations.ResetState := by
  refine ⟨rfl, rfl, rfl, rfl, fun g hg => ?_, rfl, rfl, rfl, rfl, fun x hx => ?_, rfl, fusesOk_reset⟩
  · exact List.eq_of_mem_replicate (n := 6) hg
  · cases List.eq_of_mem_replicate (n := 8) hx

end Sys2Proof.Machine
end

section
/-! Lists by index, and what an interrupt event, a packet and a record leave alone: the support of the interrupt controller's and the
rings' statements. -/
namespace Sys2Proof.Machine

theorem Completes.mono {o : Host.Outcome State Fault Refusal} {p q : State → Prop} (h : Completes o p) (hpq : ∀ t, p t → q t) :
    Completes o q := by
  obtain ⟨t, ht, hp⟩ := h
  exact ⟨t, ht, hpq t hp⟩

/-! ### Lists by index, in the terms of the library -/

section
variable {α β : Type}

theorem nth_eq_getD (d : α) (l : List α) (i : Nat) : nth d l i = l.getD i d := by
  induction l generalizing i with
  | nil => rfl
  | cons x l ih => cases i with
    | zero => rfl
    | succ i => exact ih i

theorem updAt_eq_modify (f : α → α) (l : List α) (i : Nat) : updAt f l i = l.modify i f := by
  induction l generalizing i with
  | nil => simp [updAt]
  | cons x l ih => cases i with
    | zero => rfl
    | succ i => exact congrArg (x :: ·) (ih i)

theorem mapIdxFrom_eq_mapIdx (f : Nat → α → β) (l : List α) (k : Nat) : mapIdxFrom f k l = l.mapIdx fun i => f (k + i) := by
  induction l generalizing k with
  | nil => rfl
  | cons x l ih => simp [mapIdxFrom, ih, List.mapIdx_cons, Nat.add_assoc, Nat.add_comm 1]

theorem mapI_eq_mapIdx (f : Nat → α → β) (l : List α) : mapI f l = l.mapIdx f := by
  simp [mapI, mapIdxFrom_eq_mapIdx]

@[simp] theorem length_updAt (f : α → α) (l : List α) (i : Nat) : (updAt f l i).length = l.length := by
  simp [updAt_eq_modify]

@[simp] theorem length_setAt (l : List α) (i : Nat) (v : α) : (setAt l i v).length = l.length := length_updAt ..

@[simp] theorem length_mapI (f : Nat → α → β) (l : List α) : (mapI f l).length = l.length := by
  simp [mapI_eq_mapIdx]

theorem nth_of_getElem? {d x : α} {l : List α} {i : Nat} (h : l[i]? = some x) : nth d l i = x := by
  simp [nth_eq_getD, List.getD_eq_getElem?_getD, h]

theorem getElem?_of_lt (d : α) {l : List α} {i : Nat} (h : i < l.length) : l[i]? = some (nth d l i) := by
  simp [nth_eq_getD, List.getD_eq_getElem?_getD, h]

theorem nth_of_length_le (d : α) {l : List α} {i : Nat} (h : l.length ≤ i) : nth d l i = d := by
  simp [nth_eq_getD, List.getD_eq_getElem?_getD, List.getElem?_eq_none h]

@[simp] theorem nth_updAt_self (d : α) (f : α → α) {l : List α} {i : Nat} (h : i < l.length) :
    nth d (updAt f l i) i = f (nth d l i) := by
  simp [nth_eq_getD, updAt_eq_modify, List.getD_eq_getElem?_getD, h]

@[simp] theorem nth_updAt_ne (d : α) (f : α → α) (l : List α) {i k : Nat} (h : k ≠ i) : nth d (updAt f l i) k = nth d l k := by
  simp [nth_eq_getD, updAt_eq_modify, List.getD_eq_getElem?_getD, Ne.symm h]

@[simp] theorem nth_setAt_self (d : α) {l : List α} {i : Nat} (v : α) (h : i < l.length) : nth d (setAt l i v) i = v :=
  nth_updAt_self d _ h

@[simp] theorem nth_setAt_ne (d : α) (l : List α) (v : α) {i k : Nat} (h : k ≠ i) : nth d (setAt l i v) k = nth d l k :=
  nth_updAt_ne d _ l h

theorem getElem?_updAt (f : α → α) (l : List α) (i k : Nat) : (updAt f l i)[k]? = if i = k then f <$> l[k]? else l[k]? := by
  rw [updAt_eq_modify, List.getElem?_modify]; split <;> simp

theorem getElem?_mapI (f : Nat → α → β) (l : List α) (k : Nat) : (mapI f l)[k]? = f k <$> l[k]? := by
  simp [mapI_eq_mapIdx]

theorem nth_mapI (d : α) (e : β) (f : Nat → α → β) {l : List α} {i : Nat} (h : i < l.length) :
    nth e (mapI f l) i = f i (nth d l i) := by
  simp [nth_eq_getD, mapI_eq_mapIdx, List.getD_eq_getElem?_getD, h]

theorem updAt_of_length_le (f : α → α) {l : List α} {i : Nat} (h : l.length ≤ i) : updAt f l i = l := by
  rw [updAt_eq_modify]; exact List.modify_eq_self h

end

/-! ### What traffic keeps: a property that interrupt events and changes of certain rings keep -/

/-- The records go to intake rings of `Q`. -/
def NotesTo (Q : Nat → Prop) (ms : List Note) : Prop := ∀ m ∈ ms, Q (40 + m.src)

theorem notesTo_nil (Q : Nat → Prop) : NotesTo Q [] := fun _ h => absurd h List.not_mem_nil

theorem NotesTo.append {Q : Nat → Prop} {ms ns : List Note} (h : NotesTo Q ms) (k : NotesTo Q ns) : NotesTo Q (ms ++ ns) :=
  fun m hm => (List.mem_append.mp hm).elim (h m) (k m)

theorem notesTo_ite {Q : Nat → Prop} {c : Bool} {m : Note} (h : c = true → Q (40 + m.src)) :
    NotesTo Q (if c then [m] else []) := by
  intro x hx
  split at hx
  · next hc => rw [List.mem_singleton.mp hx]; exact h hc
  · exact absurd hx List.not_mem_nil

/-- A property of states that events of the sources `R` keep, and changes of the rings `Q` names. The sources of those rings are
among `R`; the intake ring of the hardware is among `Q`, and that of the always-on controller where an event may wake the module
(R488, R528). -/
structure TrafficKeeps (P : State → Prop) (Q R : Nat → Prop) : Prop where
  core : ∀ src up s, R src → P s → P (irqCore src up s).1
  ring : ∀ n g s, Q n → P s → P (onRing n g s)
  srcs : ∀ n, Q n → R n ∧ R (64 + n)
  hw : Q (40 + srcHw)
  aon : ∀ s, P s → s.lad.rung = 1 → Q (40 + srcAon)

section
variable {P : State → Prop} {Q R : Nat → Prop} {s : State} {n : Nat}

theorem TrafficKeeps.notes_irqCore (k : TrafficKeeps P Q R) (src : Nat) (up : Bool) (h : P s) : NotesTo Q (irqCore src up s).2 := by
  unfold irqCore
  split
  · exact notesTo_nil Q
  · dsimp only
    split
    · refine (notesTo_ite fun _ => k.hw).append (notesTo_ite fun hw => k.aon s h ?_)
      simp only [Bool.and_eq_true, decide_eq_true_eq] at hw
      exact hw.1
    · exact notesTo_nil Q

theorem TrafficKeeps.waterIrq (k : TrafficKeeps P Q R) (hn : Q n) (was : Bool) (h : P s) : P (waterIrq n was s).1 := by
  unfold Machine.waterIrq
  dsimp only
  split
  · exact h
  · exact k.core _ _ _ (k.srcs n hn).2 h

theorem TrafficKeeps.notes_waterIrq (k : TrafficKeeps P Q R) (was : Bool) (h : P s) : NotesTo Q (Machine.waterIrq n was s).2 := by
  unfold Machine.waterIrq
  dsimp only
  split
  · exact notesTo_nil Q
  · exact k.notes_irqCore _ _ h

theorem TrafficKeeps.commitCore (k : TrafficKeeps P Q R) (hn : Q n) (p : Packet) (h : P s) :
    P (commitCore n p s).1 ∧ NotesTo Q (commitCore n p s).2 := by
  have h1 := k.ring n (fun r => r.commit p) s hn h
  have h2 := k.core n true _ (k.srcs n hn).1 h1
  exact ⟨k.waterIrq hn _ h2, (k.notes_irqCore _ _ h1).append (k.notes_waterIrq _ h2)⟩

theorem TrafficKeeps.refuseCore (k : TrafficKeeps P Q R) (hn : Q n) (h : P s) :
    P (refuseCore n s).1 ∧ NotesTo Q (refuseCore n s).2 := by
  by_cases hd : ((ringAt s n).enabled && (ringAt s n).drops) = true
  · rw [Machine.refuseCore, if_pos hd]; exact ⟨k.ring _ _ _ hn h, notesTo_ite fun _ => k.hw⟩
  · rw [Machine.refuseCore, if_neg hd]; exact ⟨k.ring _ _ _ hn h, notesTo_nil Q⟩

theorem TrafficKeeps.pushCore (k : TrafficKeeps P Q R) (hn : Q n) (p : Packet) (h : P s) :
    P (pushCore n p s).1 ∧ NotesTo Q (pushCore n p s).2 := by
  unfold Machine.pushCore
  split
  · exact k.commitCore hn p h
  · exact k.refuseCore hn h

theorem foldl_notes {ms : List Note} (hm : NotesTo Q ms) {f : Nat → Note → State → State}
    (hf : ∀ m s, Q (40 + m.src) → P s → P (f (40 + m.src) m s)) (h : P s) : P (ms.foldl (fun t m => f (40 + m.src) m t) s) := by
  induction ms generalizing s with
  | nil => exact h
  | cons m ms ih => exact ih (fun x hx => hm x (List.mem_cons_of_mem m hx)) (hf m s (hm m List.mem_cons_self) h)

theorem TrafficKeeps.ringPutN (k : TrafficKeeps P Q R) (f : Nat) (hn : Q n) (p : Packet) (h : P s) : P (ringPutN f n p s) := by
  induction f generalizing n p s with
  | zero => exact (k.pushCore hn p h).1
  | succ f ih =>
    exact foldl_notes (k.pushCore hn p h).2 (f := fun r m t => Machine.ringPutN f r (mkPacket 0 (m.intake t).encode) t)
      (fun m t hr ht => ih hr _ ht) (k.pushCore hn p h).1

theorem TrafficKeeps.ringPut (k : TrafficKeeps P Q R) (hn : Q n) (p : Packet) (h : P s) : P (ringPut n p s) :=
  k.ringPutN noteDepth hn p h

theorem TrafficKeeps.ringNotes (k : TrafficKeeps P Q R) {ms : List Note} (hm : NotesTo Q ms) (h : P s) : P (ringNotes ms s) :=
  foldl_notes hm (f := fun r m t => Machine.ringPut r (mkPacket 0 (m.intake t).encode) t) (fun _ _ hr ht => k.ringPut hr _ ht) h

theorem TrafficKeeps.irqEvent (k : TrafficKeeps P Q R) {src : Nat} (hs : R src) (up : Bool) (h : P s) : P (irqEvent src up s) :=
  k.ringNotes (k.notes_irqCore _ _ h) (k.core _ _ _ hs h)

theorem TrafficKeeps.ringRel (k : TrafficKeeps P Q R) (hn : Q n) (h : P s) : P (ringRel n s) :=
  k.ringNotes (k.notes_waterIrq _ (k.ring _ _ _ hn h)) (k.waterIrq hn _ (k.ring _ _ _ hn h))

end

/-! ### The rung: outside Afternoon nothing wakes the module -/

theorem wakeOnDeliver_of_not_wakes {src : Nat} {s : State} (h : s.lad.rung = 1 → (nth {} s.irq.srcs src).deliverable src = false) :
    wakeOnDeliver src s = s := by
  refine if_neg fun hc => ?_
  simp only [Bool.and_eq_true, decide_eq_true_eq] at hc
  obtain ⟨⟨afternoon, deliverable⟩, -⟩ := hc
  exact Bool.false_ne_true ((h afternoon).symm.trans deliverable)

@[simp] theorem wakeOnDeliver_rings (src : Nat) (s : State) : (wakeOnDeliver src s).rings = s.rings := by
  unfold wakeOnDeliver; dsimp only; split <;> rfl

/-- A source after an event counted and latched (R476 to R478). -/
def eventSrc (src : Nat) (up : Bool) (s : State) : IrqSrc :=
  ((nth {} s.irq.srcs src).setLevel src up).bump (timeNs s) s.tick.now

/-- The state with the event at a source, before a wake. -/
def eventCounted (src : Nat) (up : Bool) (s : State) : State :=
  reselect s |> onIrq fun q => { q with srcs := setAt q.srcs src (eventSrc src up s) }

theorem irqCore_of_event {src : Nat} {up : Bool} {s : State} (hsrc : src < 192) (hs : sensed s src = true)
    (he : isEvent src (nth {} s.irq.srcs src).cfg up = true) :
    irqCore src up s = (wakeOnDeliver src (eventCounted src up s),
      (if fld (nth {} s.irq.srcs src).cfg 0 0 = 0 && decide (fld (eventSrc src up s).cfg 0 0 = 1) then [satNote src] else []) ++
        wakeNotes s (wakeOnDeliver src (eventCounted src up s))) := by
  rw [irqCore, if_neg (by simp [hs, hsrc])]
  exact if_pos he

/-- What one change at a source does to the state: nothing, a change of the controller alone, or an event with its wake. -/
theorem irqCore_cases (src : Nat) (up : Bool) (s : State) :
    (irqCore src up s).1 = s ∨ (∃ q, (irqCore src up s).1 = onIrq (fun _ => q) s) ∨
      (irqCore src up s).1 = wakeOnDeliver src (eventCounted src up s) := by
  unfold irqCore
  split
  · exact .inl rfl
  · refine .inr ?_
    dsimp only
    split
    · exact .inr rfl
    · exact .inl ⟨_, rfl⟩

@[simp] theorem irqCore_rings (src : Nat) (up : Bool) (s : State) : (irqCore src up s).1.rings = s.rings := by
  obtain h | ⟨q, h⟩ | h := irqCore_cases src up s <;> rw [h]
  · rfl
  · rw [wakeOnDeliver_rings]; rfl

theorem irqCore_lad {s : State} (h : s.lad.rung ≠ 1) (src : Nat) (up : Bool) : (irqCore src up s).1.lad = s.lad := by
  obtain k | ⟨q, k⟩ | k := irqCore_cases src up s <;> rw [k]
  · rfl
  · rw [wakeOnDeliver_of_not_wakes (s := eventCounted src up s) fun k => absurd k h]; rfl

theorem trafficKeeps_lad {s0 : State} (h : s0.lad.rung ≠ 1) : TrafficKeeps (fun s => s.lad = s0.lad) (fun _ => True) fun _ => True where
  core src up s _ hs := (irqCore_lad (by rwa [hs]) src up).trans hs
  ring _ _ _ _ hs := hs
  srcs _ _ := ⟨trivial, trivial⟩
  hw := trivial
  aon _ _ _ := trivial

theorem ringPut_lad {s : State} (h : s.lad.rung ≠ 1) (n : Nat) (p : Packet) : (ringPut n p s).lad = s.lad :=
  (trafficKeeps_lad h).ringPut trivial p rfl

theorem ringNotes_lad {s : State} (h : s.lad.rung ≠ 1) (ms : List Note) : (ringNotes ms s).lad = s.lad :=
  (trafficKeeps_lad h).ringNotes (fun _ _ => trivial) rfl

theorem logOnly_lad {s : State} (h : s.lad.rung ≠ 1) (src code sev : Nat) (data : Bytes) : (logOnly src code sev data s).lad = s.lad := by
  unfold logOnly
  split
  · exact ringPut_lad h ..
  · rfl

theorem thawLog_lad {s : State} (h : s.lad.rung ≠ 1) (cause : Nat) : (thawLog cause s).lad = s.lad := by
  unfold thawLog
  split
  · rfl
  · refine logOnly_lad ?_ ..
    exact h

theorem log_lad {s : State} (h : s.lad.rung ≠ 1) (src code sev : Nat) (data : Bytes) : (log src code sev data s).lad = s.lad := by
  have k := logOnly_lad h src code sev data
  unfold log
  dsimp only
  split
  · rw [thawLog_lad (by rwa [k]), k]
  · exact k

/-! ### The rings that traffic leaves alone -/

theorem ringAt_onRing_self (g : Ring → Ring) {n : Nat} {s : State} (h : n < s.rings.rings.length) :
    ringAt (onRing n g s) n = g (ringAt s n) :=
  nth_updAt_self _ g h

theorem ringAt_onRing_ne (g : Ring → Ring) {n k : Nat} (s : State) (h : k ≠ n) : ringAt (onRing n g s) k = ringAt s k :=
  nth_updAt_ne _ g _ h

theorem onRing_length (n : Nat) (g : Ring → Ring) (s : State) : (onRing n g s).rings.rings.length = s.rings.rings.length :=
  length_updAt ..

theorem ringAt_irqCore (src : Nat) (up : Bool) (s : State) (k : Nat) : ringAt (irqCore src up s).1 k = ringAt s k := by
  simp only [ringAt, irqCore_rings]

/-- Events and changes of the rings other than `k` leave ring `k`, but for the intake rings of the hardware and of the always-on
controller. -/
theorem trafficKeeps_ringAt (s0 : State) {k : Nat} (hw : k ≠ 46) (aon : k ≠ 47) :
    TrafficKeeps (fun s => ringAt s k = ringAt s0 k) (fun n => k ≠ n) fun _ => True where
  core src up s _ hs := (ringAt_irqCore src up s k).trans hs
  ring _ g s hn hs := (ringAt_onRing_ne g s hn).trans hs
  srcs _ _ := ⟨trivial, trivial⟩
  hw := hw
  aon _ _ _ := aon

section
variable {k : Nat} (hw : k ≠ 46) (aon : k ≠ 47)
include hw aon

theorem ringAt_irqEvent (src : Nat) (up : Bool) (s : State) : ringAt (irqEvent src up s) k = ringAt s k :=
  (trafficKeeps_ringAt s hw aon).irqEvent trivial up rfl

theorem ringAt_ringPut {n : Nat} (hn : k ≠ n) (p : Packet) (s : State) : ringAt (ringPut n p s) k = ringAt s k :=
  (trafficKeeps_ringAt s hw aon).ringPut hn p rfl

theorem ringAt_logOnly {src : Nat} (hs : k ≠ 40 + src) (code sev : Nat) (data : Bytes) (s : State) :
    ringAt (logOnly src code sev data s) k = ringAt s k := by
  unfold logOnly
  split
  · exact ringAt_ringPut hw aon hs ..
  · rfl

end

theorem ringAt_log {k : Nat} (hk : k < 40 ∨ 47 < k) {src : Nat} (hs : src ≤ 7) (code sev : Nat) (data : Bytes) (s : State) :
    ringAt (log src code sev data s) k = ringAt s k := by
  have a : ∀ x, x ≤ 7 → k ≠ 40 + x := fun x hx => by omega
  have only := fun x (hx : x ≤ 7) code sev data s => ringAt_logOnly (a 6 (by decide)) (a 7 (by decide)) (a x hx) code sev data s
  unfold log
  dsimp only
  split
  · unfold thawLog
    split
    · exact only src hs ..
    · refine (only srcApp3 (by decide) ..).trans ?_
      exact only src hs ..
  · exact only src hs ..

/-! ### The sources that an event leaves alone -/

theorem nth_wakeOnDeliver (src k : Nat) (s : State) : nth {} (wakeOnDeliver src s).irq.srcs k = nth {} s.irq.srcs k := by
  unfold wakeOnDeliver; dsimp only; split <;> rfl

theorem nth_irqCore {src k : Nat} (h : k ≠ src) (up : Bool) (s : State) :
    nth {} (irqCore src up s).1.irq.srcs k = nth {} s.irq.srcs k := by
  unfold irqCore
  split
  · rfl
  · dsimp only
    split
    · rw [nth_wakeOnDeliver]; exact nth_setAt_ne _ _ _ h
    · exact nth_setAt_ne _ _ _ h

/-- Ring traffic of records raises the sources of the rings 46 and 47 alone. -/
theorem trafficKeeps_src (s0 : State) {k : Nat} (h : k ∉ [46, 47, 110, 111]) :
    TrafficKeeps (fun s => nth {} s.irq.srcs k = nth {} s0.irq.srcs k) (fun n => n = 46 ∨ n = 47) fun src => k ≠ src where
  core src up s hk hs := (nth_irqCore hk up s).trans hs
  ring _ _ _ _ hs := hs
  srcs n hn := by
    simp only [List.mem_cons, List.not_mem_nil, or_false, not_or] at h
    omega
  hw := .inl rfl
  aon _ _ _ := .inr rfl

theorem nth_irqEvent {src k : Nat} (h : k ≠ src) (hk : k ∉ [46, 47, 110, 111]) (up : Bool) (s : State) :
    nth {} (irqEvent src up s).irq.srcs k = nth {} s.irq.srcs k :=
  (trafficKeeps_src s hk).irqEvent h up rfl

/-! ### Parts that a frame names in two pieces -/

section
variable {l : List Part} {s t : State} (h : Frame l s t)
include h

theorem Frame.dawn_eq (hd : l.contains .dawn = false) (hf : l.contains .deferred = false) : t.dawn = s.dawn := by
  have a : { t.dawn with deferred := [] } = { s.dawn with deferred := [] } := h .dawn hd
  have b : t.dawn.deferred = s.dawn.deferred := h .deferred hf
  rw [show t.dawn = { ({ t.dawn with deferred := [] } : DawnSt) with deferred := t.dawn.deferred } from rfl, a, b]

theorem Frame.rcd_eq (hr : l.contains .rcd = false) (hf : l.contains .logFreeze = false) : t.rcd = s.rcd := by
  have a : { t.rcd with freezeSession := 0 } = { s.rcd with freezeSession := 0 } := h .rcd hr
  have b : t.rcd.freezeSession = s.rcd.freezeSession := h .logFreeze hf
  rw [show t.rcd = { ({ t.rcd with freezeSession := 0 } : RecSt) with freezeSession := t.rcd.freezeSession } from rfl, a, b]

theorem Frame.lad_eq (hl : l.contains .lad = false) (hr : l.contains .rung = false) : t.lad = s.lad := by
  have a : { t.lad with rung := 0, rungSince := 0, rungTime := [] } = { s.lad with rung := 0, rungSince := 0, rungTime := [] } := h .lad hl
  obtain ⟨b, c, d⟩ := h .rung hr
  rw [show t.lad = { ({ t.lad with rung := 0, rungSince := 0, rungTime := [] } : LadderSt) with
    rung := t.lad.rung, rungSince := t.lad.rungSince, rungTime := t.lad.rungTime } from rfl, a, b, c, d]

theorem Frame.upd_eq (hu : l.contains .upd = false) (hf : l.contains .fuses = false) : t.upd = s.upd := by
  have a : { t.upd with counter := 0, revoked := 0, keyHash := [] } = { s.upd with counter := 0, revoked := 0, keyHash := [] } := h .upd hu
  obtain ⟨b, c, d⟩ := h .fuses hf
  rw [show t.upd = { ({ t.upd with counter := 0, revoked := 0, keyHash := [] } : UpdSt) with
    counter := t.upd.counter, revoked := t.upd.revoked, keyHash := t.upd.keyHash } from rfl, a, b, c, d]

end

section
variable (s : State)

theorem irqEvent_frame (src : Nat) (up : Bool) : Frame [.irq, .rings, .rung] s (irqEvent src up s) :=
  Frame.of_blank (irqEvent_blank rfl src up s)
theorem ringPut_frame (n : Nat) (p : Packet) : Frame [.irq, .rings, .rung] s (ringPut n p s) :=
  Frame.of_blank (ringPut_blank rfl n p s)
theorem ringRel_frame (n : Nat) : Frame [.irq, .rings, .rung] s (ringRel n s) :=
  Frame.of_blank (ringRel_blank rfl n s)
theorem log_frame (src code sev : Nat) (data : Bytes) : Frame recordParts s (log src code sev data s) :=
  Frame.of_blank (log_blank rfl src code sev data s)

@[simp] theorem irqEvent_dawn (src : Nat) (up : Bool) : (irqEvent src up s).dawn = s.dawn := (irqEvent_frame s src up).dawn_eq rfl rfl
@[simp] theorem irqEvent_rcd (src : Nat) (up : Bool) : (irqEvent src up s).rcd = s.rcd := (irqEvent_frame s src up).rcd_eq rfl rfl
@[simp] theorem irqEvent_upd (src : Nat) (up : Bool) : (irqEvent src up s).upd = s.upd := (irqEvent_frame s src up).upd_eq rfl rfl
@[simp] theorem ringPut_dawn (n : Nat) (p : Packet) : (ringPut n p s).dawn = s.dawn := (ringPut_frame s n p).dawn_eq rfl rfl
@[simp] theorem ringPut_rcd (n : Nat) (p : Packet) : (ringPut n p s).rcd = s.rcd := (ringPut_frame s n p).rcd_eq rfl rfl
@[simp] theorem ringPut_upd (n : Nat) (p : Packet) : (ringPut n p s).upd = s.upd := (ringPut_frame s n p).upd_eq rfl rfl
@[simp] theorem ringRel_dawn (n : Nat) : (ringRel n s).dawn = s.dawn := (ringRel_frame s n).dawn_eq rfl rfl
@[simp] theorem ringRel_rcd (n : Nat) : (ringRel n s).rcd = s.rcd := (ringRel_frame s n).rcd_eq rfl rfl
@[simp] theorem ringRel_upd (n : Nat) : (ringRel n s).upd = s.upd := (ringRel_frame s n).upd_eq rfl rfl
@[simp] theorem log_upd (src code sev : Nat) (data : Bytes) : (log src code sev data s).upd = s.upd :=
  (log_frame s src code sev data).upd_eq rfl rfl

end

end Sys2Proof.Machine
end

section
/-! The interrupt controller (R475 to R486): source events, coalescing, claims and register writes. -/
namespace Sys2Proof.Machine

/-! ### The controller's parts -/

theorem onIrq_frame (g : IrqSt → IrqSt) (s : State) : Frame [.irq] s (onIrq g s) :=
  Frame.of_blank (onIrq_blank rfl g s)

@[simp] theorem reselect_srcs (s : State) : (reselect s).irq.srcs = s.irq.srcs := rfl
@[simp] theorem retract_srcs (old s : State) : (retract old s).irq.srcs = s.irq.srcs := rfl
@[simp] theorem onTgt_srcs (k : Nat) (g : IrqTgt → IrqTgt) (s : State) : (onTgt k g s).irq.srcs = s.irq.srcs := rfl
@[simp] theorem onTgt_tgts (k : Nat) (g : IrqTgt → IrqTgt) (s : State) : (onTgt k g s).irq.tgts = updAt g s.irq.tgts k := rfl

theorem nth_onTgt {k : Nat} (g : IrqTgt → IrqTgt) {s : State} (h : k < s.irq.tgts.length) :
    nth {} (onTgt k g s).irq.tgts k = g (nth {} s.irq.tgts k) :=
  nth_updAt_self _ g h

theorem onTgt_frame (k : Nat) (g : IrqTgt → IrqTgt) (s : State) : Frame [.irq] s (onTgt k g s) := onIrq_frame _ s

/-- A retraction marks targets alone: each keeps its threshold and its claims (R481). -/
theorem nth_retract {old s : State} {k : Nat} (hk : k < s.irq.tgts.length) :
    nth {} (retract old s).irq.tgts k = nth {} s.irq.tgts k ∨
      nth {} (retract old s).irq.tgts k = { nth {} s.irq.tgts k with retracted := true } := by
  rw [show (retract old s).irq.tgts = mapI _ s.irq.tgts from rfl, nth_mapI {} _ _ hk]
  split
  · split
    · exact .inl rfl
    · exact .inr rfl
  · exact .inl rfl

theorem nth_reselect (s : State) (k : Nat) : nth {} (reselect s).irq.tgts k = { nth {} s.irq.tgts k with retracted := false } := by
  have : (reselect s).irq.tgts = s.irq.tgts.map fun t => { t with retracted := false } := rfl
  rw [this, nth_eq_getD, nth_eq_getD]
  exact List.getD_map s.irq.tgts {} (f := fun t : IrqTgt => { t with retracted := false })

/-! ### Wakes and saturation marks that do not come -/

@[simp] theorem wakeNotes_self (s : State) : wakeNotes s s = [] := by
  refine if_neg fun h => ?_
  simp only [Bool.and_eq_true, decide_eq_true_eq] at h
  omega

theorem wakes_of_not_wakes {src : Nat} {s : State} (h : s.lad.rung = 1 → (nth {} s.irq.srcs src).deliverable src = false) :
    wakes src s = s := by
  have hn := wakeNotes_self s
  unfold wakes
  rw [wakeOnDeliver_of_not_wakes h]
  dsimp only
  rw [hn]
  rfl

@[simp] theorem setLevel_cnt (x : IrqSrc) (src : Nat) (up : Bool) : (x.setLevel src up).cnt = x.cnt := by
  unfold IrqSrc.setLevel; split <;> rfl
@[simp] theorem setLevel_cfg (x : IrqSrc) (src : Nat) (up : Bool) : (x.setLevel src up).cfg = x.cfg := by
  unfold IrqSrc.setLevel; split <;> rfl
@[simp] theorem setLevel_coal (x : IrqSrc) (src : Nat) (up : Bool) : (x.setLevel src up).coal = x.coal := by
  unfold IrqSrc.setLevel; split <;> rfl
@[simp] theorem setLevel_latch (x : IrqSrc) (src : Nat) (up : Bool) : (x.setLevel src up).latch = x.latch := by
  unfold IrqSrc.setLevel; split <;> rfl

@[simp] theorem bump_coal (x : IrqSrc) (t now : Nat) : (x.bump t now).coal = x.coal := rfl
@[simp] theorem bump_latch (x : IrqSrc) (t now : Nat) : (x.bump t now).latch = some (x.latch.getD t) := by
  unfold IrqSrc.bump; cases x.latch <;> rfl
theorem bump_cnt_of_lt {x : IrqSrc} (h : x.cnt < 254) (t now : Nat) : (x.bump t now).cnt = x.cnt + 1 := by
  simp only [IrqSrc.bump]; omega
theorem bump_cfg_of_lt {x : IrqSrc} (h : x.cnt < 254) (t now : Nat) : (x.bump t now).cfg = x.cfg :=
  if_neg (by omega)

section
variable {src : Nat} {up : Bool} {s : State}

/-- A source before and after an event below its saturation. -/
theorem eventSrc_of_lt (h : (nth {} s.irq.srcs src).cnt < 254) :
    (eventSrc src up s).cnt = (nth {} s.irq.srcs src).cnt + 1 ∧ (eventSrc src up s).cfg = (nth {} s.irq.srcs src).cfg ∧
      (eventSrc src up s).coal = (nth {} s.irq.srcs src).coal ∧
      (eventSrc src up s).latch = some ((nth {} s.irq.srcs src).latch.getD (timeNs s)) := by
  have h' : ((nth {} s.irq.srcs src).setLevel src up).cnt < 254 := by simpa using h
  unfold eventSrc
  exact ⟨by simpa using bump_cnt_of_lt h' .., by simpa using bump_cfg_of_lt h' .., by simp, by simp⟩

variable (hsrc : src < 192) (hs : sensed s src = true) (he : isEvent src (nth {} s.irq.srcs src).cfg up = true)
include hsrc hs he

/-- An event below its source's saturation that wakes nothing makes no record. -/
theorem irqEvent_of_counted (hcnt : (nth {} s.irq.srcs src).cnt < 254) (hlen : src < s.irq.srcs.length)
    (hq : s.lad.rung = 1 → (eventSrc src up s).deliverable src = false) : irqEvent src up s = eventCounted src up s := by
  have hself : nth {} (eventCounted src up s).irq.srcs src = eventSrc src up s := nth_setAt_self _ _ hlen
  have hw : wakeOnDeliver src (eventCounted src up s) = eventCounted src up s :=
    wakeOnDeliver_of_not_wakes fun h => by rw [hself]; exact hq h
  have hn : wakeNotes s (eventCounted src up s) = [] := wakeNotes_self s
  have hsat : (decide (fld (nth {} s.irq.srcs src).cfg 0 0 = 0) && decide (fld (eventSrc src up s).cfg 0 0 = 1)) = false := by
    rw [(eventSrc_of_lt hcnt).2.1]
    by_cases h0 : fld (nth {} s.irq.srcs src).cfg 0 0 = 0
    · rw [h0]; rfl
    · rw [decide_eq_false h0]; rfl
  unfold irqEvent
  rw [irqCore_of_event hsrc hs he, hw, hn, hsat]
  rfl

end

/-! ### Wakes from Afternoon -/

/-- What a wake at an instant leaves of the ladder (R528). -/
def AwakeAfter (s t : State) : Prop :=
  t.lad.rung = 0 ∧ t.lad.rungSince = s.tick.now ∧
    t.lad.rungTime = updAt (· + sinceNs s s.lad.rungSince / 1000000) s.lad.rungTime 1

theorem AwakeAfter.of_lad {s t u : State} (h : AwakeAfter s t) (k : u.lad = t.lad) : AwakeAfter s u := by
  rwa [AwakeAfter, k]

theorem wakeOnDeliver_awake {src : Nat} {s : State} (hr : s.lad.rung = 1) (hd : (nth {} s.irq.srcs src).deliverable src = true)
    (ht : fld (nth {} s.irq.srcs src).cfg 27 25 < 6) : AwakeAfter s (wakeOnDeliver src s) := by
  unfold wakeOnDeliver
  dsimp only
  rw [if_pos (by simp only [hr, hd, ht, decide_true, Bool.and_self])]
  exact ⟨rfl, rfl, rfl⟩

theorem ringNotes_awake {s t : State} (ms : List Note) (h : AwakeAfter s t) : AwakeAfter s (ringNotes ms t) :=
  h.of_lad (ringNotes_lad (by rw [h.1]; decide) ms)

theorem wakes_awake {src : Nat} {s : State} (hr : s.lad.rung = 1) (hd : (nth {} s.irq.srcs src).deliverable src = true)
    (ht : fld (nth {} s.irq.srcs src).cfg 27 25 < 6) : AwakeAfter s (wakes src s) :=
  ringNotes_awake _ (wakeOnDeliver_awake hr hd ht)

/-! ### Source events -/

/-- The classifier frees the latch of a start-of-frame source that was free, unless its frame is a PTP event message. -/
theorem classify_lad (src : Nat) (was s : State) : (classify src was s).lad = s.lad := by
  unfold classify; dsimp only; split
  · split <;> rfl
  · rfl

theorem classify_src_self {src : Nat} {was s : State} (h : src < s.irq.srcs.length) (hs : sensed was src = true) :
    nth {} (classify src was s).irq.srcs src =
      if 148 ≤ src ∧ src ≤ 152 ∧ (nth {} was.irq.srcs src).latch = none ∧ Config.ptpFrame s.fresh = false
      then { nth {} s.irq.srcs src with latch := none } else nth {} s.irq.srcs src := by
  unfold classify
  by_cases hr : 148 ≤ src ∧ src ≤ 152
  · rw [if_pos ⟨hr.1, hr.2, hs⟩]
    dsimp only
    by_cases hf : (nth {} was.irq.srcs src).latch = none ∧ Config.ptpFrame s.fresh = false
    · rw [if_neg (by simp only [hf, Option.isSome_none, Bool.or_self, Bool.false_eq_true, not_false_eq_true]), if_pos ⟨hr.1, hr.2, hf⟩]
      exact nth_updAt_self _ _ h
    · rw [if_pos (by simpa [Option.isSome_iff_ne_none, or_iff_not_imp_left] using hf), if_neg fun k => hf k.2.2]
      rfl
  · rw [if_neg fun k => hr ⟨k.1, k.2.1⟩, if_neg fun k => hr ⟨k.1, k.2.1⟩]

theorem classify_src_ne {src k : Nat} (was s : State) (h : k ≠ src) :
    nth {} (classify src was s).irq.srcs k = nth {} s.irq.srcs k := by
  unfold classify; dsimp only; split
  · split
    · rfl
    · exact nth_updAt_ne _ _ _ h
  · rfl

theorem exec_irqSourceEvent (src : Nat) (up : Bool) (s : State) :
    exec (.irqSourceEvent src up) s = .next (classify src s (irqEvent src up s)) := by
  rfl

/-- A command that completes leaves what `mayChange` does not list for it. -/
theorem Frame.of_exec {i : Instr} {s t : State} (h : exec i s = .next t) : Frame (mayChange i) s t :=
  Frame.of_blank (exec_frames i s t h)

theorem irqSourceEvent_counted {s : State} {src : Nat} {up : Bool} (hsrc : src < 192) (hlen : src < s.irq.srcs.length)
    (hs : sensed s src = true) (he : isEvent src (nth {} s.irq.srcs src).cfg up = true) (hcnt : (nth {} s.irq.srcs src).cnt < 254)
    (hq : s.lad.rung = 1 → (eventSrc src up s).deliverable src = false) :
    Completes (exec (.irqSourceEvent src up) s) fun t =>
      (nth {} t.irq.srcs src).cnt = (nth {} s.irq.srcs src).cnt + 1 ∧
      (nth {} t.irq.srcs src).latch = (if 148 ≤ src ∧ src ≤ 152 ∧ (nth {} s.irq.srcs src).latch = none ∧ Config.ptpFrame s.fresh = false
        then none else some ((nth {} s.irq.srcs src).latch.getD (timeNs s))) ∧
      (nth {} t.irq.srcs src).cfg = (nth {} s.irq.srcs src).cfg ∧ (nth {} t.irq.srcs src).coal = (nth {} s.irq.srcs src).coal ∧
      (∀ k, k ≠ src → nth {} t.irq.srcs k = nth {} s.irq.srcs k) ∧ Frame [.irq, .fresh] s t := by
  obtain ⟨cnt, cfg, coal, latch⟩ := eventSrc_of_lt (up := up) hcnt
  have hself : nth {} (eventCounted src up s).irq.srcs src = eventSrc src up s := nth_setAt_self _ _ hlen
  have hcl := classify_src_self (s := eventCounted src up s) (by simpa [eventCounted] using hlen) hs
  rw [hself] at hcl
  rw [exec_irqSourceEvent, irqEvent_of_counted hsrc hs he hcnt hlen hq, completes_next, hcl]
  refine ⟨?_, ?_, ?_, ?_, fun k hk => ?_, ?_⟩
  · rw [← cnt]; split <;> rfl
  · rw [← latch]; exact apply_ite IrqSrc.latch _ _ _
  · rw [← cfg]; split <;> rfl
  · rw [← coal]; split <;> rfl
  · rw [classify_src_ne _ _ hk]; exact nth_setAt_ne _ _ _ hk
  · refine Frame.of_blank ((classify_blank rfl src s _).trans ?_)
    exact (onIrq_blank rfl _ _).trans (reselect_blank rfl s)

theorem fld_or_one (w : Word) {hi lo : Nat} (h : 0 < lo) : fld (w ||| 1) hi lo = fld w hi lo := by
  unfold fld
  rw [BitVec.toNat_or, Nat.or_div_two_pow, show (1 : Word).toNat / 2 ^ lo = 0 from Nat.div_eq_of_lt (Nat.one_lt_two_pow h.ne'), Nat.or_zero]

theorem eventSrc_target (src : Nat) (up : Bool) (s : State) :
    fld (eventSrc src up s).cfg 27 25 = fld (nth {} s.irq.srcs src).cfg 27 25 := by
  have : (eventSrc src up s).cfg = (nth {} s.irq.srcs src).cfg ∨ (eventSrc src up s).cfg = (nth {} s.irq.srcs src).cfg ||| 1 := by
    unfold eventSrc
    simp only [IrqSrc.bump, setLevel_cfg]
    split
    · exact .inr rfl
    · exact .inl rfl
  rcases this with h | h <;> rw [h]
  exact fld_or_one _ (by decide)

theorem irqSourceEvent_wakes {s : State} {src : Nat} {up : Bool} (hsrc : src < 192) (hlen : src < s.irq.srcs.length)
    (hs : sensed s src = true) (he : isEvent src (nth {} s.irq.srcs src).cfg up = true) (hr : s.lad.rung = 1)
    (htgt : fld (nth {} s.irq.srcs src).cfg 27 25 < 6) (hd : (eventSrc src up s).deliverable src = true) :
    Completes (exec (.irqSourceEvent src up) s) fun t => t.lad.rung = 0 ∧ t.lad.rungSince = s.tick.now ∧
      t.lad.rungTime = updAt (· + sinceNs s s.lad.rungSince / 1000000) s.lad.rungTime 1 ∧ Frame [.irq, .rings, .rung, .fresh] s t := by
  have hself : nth {} (eventCounted src up s).irq.srcs src = eventSrc src up s := nth_setAt_self _ _ hlen
  have hw : AwakeAfter s (wakeOnDeliver src (eventCounted src up s)) :=
    wakeOnDeliver_awake (s := eventCounted src up s) hr (by rwa [hself]) (by rwa [hself, eventSrc_target])
  have hi : AwakeAfter s (irqEvent src up s) := by
    unfold irqEvent
    rw [irqCore_of_event hsrc hs he]
    exact ringNotes_awake _ hw
  obtain ⟨rung, since, time⟩ := hi.of_lad (classify_lad src s (irqEvent src up s))
  rw [exec_irqSourceEvent, completes_next]
  exact ⟨rung, since, time, Frame.of_exec (exec_irqSourceEvent src up s)⟩

theorem irqSourceEvent_not_sensed {s : State} {src : Nat} (hs : sensed s src = false) (up : Bool) :
    Completes (exec (.irqSourceEvent src up) s) fun t => t = s := by
  have hi : irqEvent src up s = s := by
    have : irqCore src up s = (s, []) := if_pos (by simp [hs])
    unfold irqEvent
    rw [this]
    rfl
  rw [exec_irqSourceEvent, hi, completes_next]
  exact if_neg (by simp [hs])

/-! ### Coalescing -/

/-- A source whose coalescing timer has run out. -/
def timedOut (src : Nat) (s : State) : State :=
  reselect s |> onIrq fun q => { q with srcs := updAt (fun y => { y with expired := true, timer := none }) q.srcs src }

section
variable {s : State} {src t0 : Nat} (hsrc : src < 192) (hlen : src < s.irq.srcs.length) (hf : s.lad.frozen = false)
  (hl : isLevel src (nth {} s.irq.srcs src).cfg = false) (hz : fld (nth {} s.irq.srcs src).coal 15 0 ≠ 0)
  (hc : (nth {} s.irq.srcs src).cnt ≠ 0) (ht : (nth {} s.irq.srcs src).timer = some t0)
  (he : elapsed s t0 (fld (nth {} s.irq.srcs src).coal 15 0 * 1000) = true)
include hsrc hf hl hz hc ht he

theorem exec_irqCoalesceTimeout_of_due : exec (.irqCoalesceTimeout src) s = .next (wakes src (timedOut src s)) := by
  refine if_neg ?_
  rw [ht]
  simp only [hf, hl, he, Bool.or_eq_true, decide_eq_true_eq, Bool.not_true, Bool.false_eq_true, or_false, hz, hc]
  omega

include hlen

omit hsrc hf hz ht he in
/-- After its timer the source is deliverable where it is enabled: it is an edge source that has counted. -/
theorem timedOut_deliverable :
    (nth {} (timedOut src s).irq.srcs src).deliverable src = decide (fld (nth {} s.irq.srcs src).cfg 31 31 = 1) := by
  have hself : nth {} (timedOut src s).irq.srcs src = { nth {} s.irq.srcs src with expired := true, timer := none } :=
    nth_updAt_self _ _ hlen
  rw [hself, IrqSrc.deliverable, IrqSrc.isPending]
  dsimp only
  rw [hl]
  simp only [Nat.pos_of_ne_zero hc, Bool.false_eq_true, if_false, decide_true, Bool.or_true, Bool.and_true]

theorem irqCoalesceTimeout_expires (hq : s.lad.rung = 1 → fld (nth {} s.irq.srcs src).cfg 31 31 = 0) :
    Completes (exec (.irqCoalesceTimeout src) s) fun t =>
      nth {} t.irq.srcs src = { nth {} s.irq.srcs src with expired := true, timer := none } ∧
      (∀ k, k ≠ src → nth {} t.irq.srcs k = nth {} s.irq.srcs k) ∧ Frame [.irq] s t := by
  have hw : wakes src (timedOut src s) = timedOut src s := wakes_of_not_wakes fun hr => by
    rw [timedOut_deliverable hlen hl hc, hq hr]; rfl
  rw [exec_irqCoalesceTimeout_of_due hsrc hf hl hz hc ht he, hw, completes_next]
  exact ⟨nth_updAt_self _ _ hlen, fun k hk => nth_updAt_ne _ _ _ hk,
    Frame.of_blank ((onIrq_blank rfl _ _).trans (reselect_blank rfl s))⟩

theorem irqCoalesceTimeout_wakes (hr : s.lad.rung = 1) (hen : fld (nth {} s.irq.srcs src).cfg 31 31 = 1)
    (htgt : fld (nth {} s.irq.srcs src).cfg 27 25 < 6) :
    Completes (exec (.irqCoalesceTimeout src) s) fun t => t.lad.rung = 0 ∧ Frame [.irq, .rings, .rung] s t := by
  have e := exec_irqCoalesceTimeout_of_due hsrc hf hl hz hc ht he
  have hself : nth {} (timedOut src s).irq.srcs src = { nth {} s.irq.srcs src with expired := true, timer := none } :=
    nth_updAt_self _ _ hlen
  have hw : AwakeAfter (timedOut src s) (wakes src (timedOut src s)) :=
    wakes_awake hr (by rw [timedOut_deliverable hlen hl hc, hen]; rfl) (by rw [hself]; exact htgt)
  obtain ⟨rung, -, -⟩ := hw
  have k := Frame.of_exec e
  rw [e, completes_next]
  exact ⟨rung, k⟩

end

/-- Settles O12: an event below saturation is counted and classified; a source that becomes deliverable in Afternoon wakes the
module, whose records then change no rung. -/
theorem interruptSources : Obligations.InterruptSources :=
  ⟨fun _ _ _ hsrc hlen hs he hcnt hq => irqSourceEvent_counted hsrc hlen hs he hcnt hq,
    fun _ _ _ hsrc hlen hs he hr htgt hd => irqSourceEvent_wakes hsrc hlen hs he hr htgt hd,
    fun _ _ up hs => irqSourceEvent_not_sensed hs up,
    fun _ _ _ hsrc hlen hf hl hz hc ht he hq => irqCoalesceTimeout_expires hsrc hlen hf hl hz hc ht he hq,
    fun _ _ _ hsrc hlen hf hl hz hc ht he hr hen htgt => irqCoalesceTimeout_wakes hsrc hlen hf hl hz hc ht he hr hen htgt⟩

/-! ### Claims and their ends -/

section
variable {s : State} {tgt : Nat} (htgt : tgt < 6)
include htgt

theorem exec_irqClaim_of_free (h : (nth {} s.irq.tgts tgt).claims.length < 8) :
    exec (.irqClaim tgt) s = match selection s tgt with
      | none => .next (s |> onTgt tgt fun t => { t with claimWord := 0x3FF, spurious := satInc 32 t.spurious, retracted := false })
      | some v => .next (s
          |> onIrq (fun q => { q with srcs := setAt q.srcs v { nth {} s.irq.srcs v with cnt := 0, timer := none, expired := false } })
          |> onTgt tgt fun t => { t with claimWord := claimWordOf v (nth {} s.irq.srcs v), claims := t.claims ++ [v] }) :=
  (if_neg (Nat.not_le.2 htgt)).trans (if_neg (Nat.not_le.2 h))

theorem exec_irqClaim_of_full (h : 8 ≤ (nth {} s.irq.tgts tgt).claims.length) :
    exec (.irqClaim tgt) s = .next (s |> onTgt tgt fun t => { t with claimWord := 0x3FF }) :=
  (if_neg (Nat.not_le.2 htgt)).trans (if_pos h)

theorem exec_irqEoi_of_held {w : Word} (h : fld w 9 0 ∈ (nth {} s.irq.tgts tgt).claims) :
    exec (.irqEoi tgt w) s = .next (s |> onTgt tgt (fun t => { t with claims := t.claims.erase (fld w 9 0) })
      |> onIrq fun q => { q with
        srcs := updAt (fun x => if 148 ≤ fld w 9 0 && fld w 9 0 ≤ 152 then x else { x with latch := none }) q.srcs (fld w 9 0) }) :=
  (if_neg (Nat.not_le.2 htgt)).trans (if_pos (List.contains_iff_mem.2 h))

theorem exec_irqEoi_of_not_held {w : Word} (h : fld w 9 0 ∉ (nth {} s.irq.tgts tgt).claims) :
    exec (.irqEoi tgt w) s = .next (s |> onTgt tgt fun t => { t with eoiErr := satInc 32 t.eoiErr }) :=
  (if_neg (Nat.not_le.2 htgt)).trans (if_neg fun k => h (List.contains_iff_mem.1 k))

end

/-- Settles O13: by the branches of the claim and of its end. -/
theorem claimAndEoi : Obligations.ClaimAndEoi := by
  refine ⟨fun s tgt v h6 hlen hfree hsel => ?_, fun s tgt h6 hlen hfree hsel => ?_, fun s tgt h6 hlen hfull => ?_,
    fun s tgt w h6 hlen hheld => ?_, fun s tgt w h6 hlen hheld => ?_⟩
  · rw [exec_irqClaim_of_free h6 hfree, hsel, completes_next, nth_onTgt _ (by exact hlen)]
    refine ⟨rfl, rfl, ?_, fun k hk => nth_setAt_ne _ _ _ hk, fun k hk => nth_updAt_ne _ _ _ hk,
      Frame.of_blank ((onTgt_blank rfl _ _ _).trans (onIrq_blank rfl _ s))⟩
    by_cases hv : v < s.irq.srcs.length
    · exact congrArg IrqSrc.cnt (nth_setAt_self {} _ hv)
    · exact congrArg IrqSrc.cnt (nth_of_length_le {} (l := setAt s.irq.srcs v _) (by simpa using hv))
  · rw [exec_irqClaim_of_free h6 hfree, hsel, completes_next, nth_onTgt _ hlen]
    exact ⟨rfl, rfl, rfl, onTgt_frame _ _ s⟩
  · rw [exec_irqClaim_of_full h6 hfull, completes_next, nth_onTgt _ hlen]
    exact ⟨rfl, rfl, rfl, onTgt_frame _ _ s⟩
  · rw [exec_irqEoi_of_held h6 hheld, completes_next]
    have ht := nth_onTgt (fun t => { t with claims := t.claims.erase (fld w 9 0) }) hlen
    refine ⟨congrArg IrqTgt.claims ht, (congrArg IrqTgt.eoiErr ht).trans rfl, ?_,
      fun k hk => nth_updAt_ne _ _ _ hk, Frame.of_blank ((onIrq_blank rfl _ _).trans (onTgt_blank rfl _ _ s))⟩
    by_cases hv : fld w 9 0 < s.irq.srcs.length
    · refine (congrArg IrqSrc.latch (nth_updAt_self {} _ hv)).trans ?_
      simp only [Bool.and_eq_true, decide_eq_true_eq]
      split <;> rfl
    · have none_latch : ∀ l : List IrqSrc, l.length ≤ fld w 9 0 → (nth {} l (fld w 9 0)).latch = none := fun l hl => by
        rw [nth_of_length_le {} hl]
      rw [none_latch s.irq.srcs (Nat.le_of_not_lt hv), ite_self]
      exact none_latch _ (by simpa using hv)
  · rw [exec_irqEoi_of_not_held h6 hheld, completes_next, nth_onTgt _ hlen]
    exact ⟨rfl, rfl, rfl, onTgt_frame _ _ s⟩

/-! ### Register writes -/

/-- A write of a source's register takes effect and wakes nothing. -/
theorem irqSrcCfgWrite_takes {s : State} {src : Nat} (hsrc : src < 192) (hlen : src < s.irq.srcs.length) (coal : Bool) (w : Word)
    {x : IrqSrc} (hx : x = if coal then { nth {} s.irq.srcs src with coal := w &&& 0x00FFFFFF } else
      { nth {} s.irq.srcs src with cfg := (w &&& 0xFFC00000) ||| ((nth {} s.irq.srcs src).cfg &&& 1) })
    (hq : s.lad.rung = 1 → x.deliverable src = false) :
    Completes (exec (.irqSrcCfgWrite src coal w) s) fun t => nth {} t.irq.srcs src = x ∧
      (∀ k, k ≠ src → nth {} t.irq.srcs k = nth {} s.irq.srcs k) ∧ Frame [.irq] s t := by
  let g := fun (x : IrqSrc) =>
    if coal then { x with coal := w &&& 0x00FFFFFF } else { x with cfg := (w &&& 0xFFC00000) ||| (x.cfg &&& 1) }
  let t := retract (reselect s) (reselect s |> onIrq fun q => { q with srcs := updAt g q.srcs src })
  have hself : nth {} t.irq.srcs src = x := (nth_updAt_self {} g hlen).trans hx.symm
  have he : exec (.irqSrcCfgWrite src coal w) s = .next (wakes src t) := if_neg (Nat.not_le.2 hsrc)
  rw [he, wakes_of_not_wakes fun hr => (congrArg (IrqSrc.deliverable · src) hself).trans (hq hr), completes_next]
  exact ⟨hself, fun k hk => nth_updAt_ne _ _ _ hk,
    Frame.of_blank ((retract_blank rfl _ _).trans ((onIrq_blank rfl _ _).trans (reselect_blank rfl s)))⟩

theorem irqThresholdWrite_takes {s : State} {tgt : Nat} (h6 : tgt < 6) (hlen : tgt < s.irq.tgts.length) (w : Word) :
    Completes (exec (.irqThresholdWrite tgt w) s) fun t => (nth {} t.irq.tgts tgt).threshold = w.toNat % 8 ∧
      (nth {} t.irq.tgts tgt).claims = (nth {} s.irq.tgts tgt).claims ∧ t.irq.srcs = s.irq.srcs ∧ Frame [.irq] s t := by
  let s1 := reselect s |> onTgt tgt fun t => { t with threshold := fld w 2 0 }
  have he : exec (.irqThresholdWrite tgt w) s = .next (retract (reselect s) s1) := if_neg (Nat.not_le.2 h6)
  have hl : (reselect s).irq.tgts.length = s.irq.tgts.length := List.length_map ..
  have h1 : nth {} s1.irq.tgts tgt = { nth {} s.irq.tgts tgt with retracted := false, threshold := fld w 2 0 } := by
    refine (nth_updAt_self _ _ (by rwa [hl])).trans ?_
    rw [nth_reselect]
  have hw : fld w 2 0 = w.toNat % 8 := by simp [fld]
  rw [he, completes_next]
  refine ⟨?_, ?_, rfl, Frame.of_blank ((retract_blank rfl _ _).trans ((onTgt_blank rfl _ _ _).trans (reselect_blank rfl s)))⟩
  all_goals
    rcases nth_retract (old := reselect s) (s := s1) (k := tgt) (by simpa [s1, hl] using hlen) with h | h <;> rw [h, h1]
  · exact hw
  · exact hw

/-- Settles O14: the write's own change, since what becomes deliverable in Afternoon is excluded; the whole word for `RING_CFG`. -/
theorem controllerWrites : Obligations.ControllerWrites := by
  refine ⟨fun s src w h hl hq => irqSrcCfgWrite_takes h hl false w rfl hq, fun s src w h hl hq => irqSrcCfgWrite_takes h hl true w rfl hq,
    fun s tgt w h hl => irqThresholdWrite_takes h hl w, fun s ring w h => ?_⟩
  have he : exec (.registerWrite ring w) s = .next (s |> onRing ring fun r => { r with cfg := w }) := rfl
  rw [he, completes_next]
  exact ⟨ringAt_onRing_self _ h, fun k hk => ringAt_onRing_ne _ s hk, Frame.of_blank (onRing_blank rfl _ _ s)⟩

end Sys2Proof.Machine
end

section
/-! The rings (R487 to R497): a poisoned packet released from the intake ring of the core that keeps the log. -/
namespace Sys2Proof.Machine

/-- After step D4, with the log frozen by a session: the hardware's intake ring is at its high mark, and the oldest packet of the
intake ring 44 of the core that keeps the log is poisoned. Ring 44 is enabled, of 64 words and up to 255 packets. -/
def frozenLogState : State :=
  State.reset |> onDawn (fun d => { d with mounted := true }) |> onRcd (fun r => { r with freezeSession := 1 })
    |> onRing 46 (fun r => { r with high := true })
    |> onRing 44 (fun r => { r with cfg := 0x09FE0000, wr := 1, wrShadow := 1, pktWr := 1, pkts := [{ kind := 0, poison := true, len := 0, bytes := [] }] })

/-- The record of the poisoned packet goes to ring 46, whose high mark ends the log freeze (R509 cause 3); the record of that end
goes to ring 44. -/
theorem frozenLog_release_leaves_record :
    ((ringAt (ringRel 44 (discardPoisoned 44 frozenLogState)) 44).pkts.map fun p => (Intake.decode p.bytes).code) = [0x0F04] := by
  decide +kernel

/-- Refutes O15: a release takes away the oldest packet of ring 44 and leaves no other, but the record of the poisoned packet
ends the log freeze, which puts a packet into ring 44 itself. -/
theorem not_ringTraffic : ¬ Obligations.RingTraffic := by
  intro h
  obtain ⟨-, -, -, -, release, -⟩ := h
  have hr := release frozenLogState 44 { kind := 0, poison := true, len := 0, bytes := [] } [] (by decide) (by decide) (by decide) (by decide)
  have he : exec (.ringRelease 44) frozenLogState = .next (ringRel 44 (discardPoisoned 44 frozenLogState)) := rfl
  rw [he, completes_next] at hr
  obtain ⟨pkts, -⟩ := hr
  have left := frozenLog_release_leaves_record
  rw [pkts] at left
  exact absurd left (by decide)

end Sys2Proof.Machine
end

section
/-! The recorder (R500 to R511): intake, folding, the rate windows, the log freeze and exporting. -/
namespace Sys2Proof.Machine

/-! ### What the recorder's part keeps -/

theorem RecSt.eq_of_same {a b : RecSt} (h : { a with freezeSession := 0 } = { b with freezeSession := 0 }) :
    a = { b with freezeSession := a.freezeSession } := by
  cases a; cases b; simp_all

theorem onRcd_frame {g : RecSt → RecSt} {s : State} (h : (g s.rcd).freezeSession = s.rcd.freezeSession) : Frame [.rcd] s (onRcd g s) := by
  intro p hp
  cases p
  case rcd => exact absurd hp (by decide)
  case logFreeze => exact h
  case rung => exact ⟨rfl, rfl, rfl⟩
  case fuses => exact ⟨rfl, rfl, rfl⟩
  all_goals rfl

/-- Notifications leave the recorder alone, but for the holder of the log freeze. -/
theorem notifyRecord_rcd (r : Rec) (s : State) :
    (notifyRecord r s).rcd = { s.rcd with freezeSession := (notifyRecord r s).rcd.freezeSession } :=
  RecSt.eq_of_same (Frame.of_blank (notifyRecord_blank (within_refl _) r s) .rcd rfl)

theorem notify_rcd (id code : Nat) (launch : Option Nat) (body : Bytes) (s : State) :
    (notify id code launch body s).rcd = { s.rcd with freezeSession := (notify id code launch body s).rcd.freezeSession } :=
  RecSt.eq_of_same (Frame.of_blank (notify_blank (within_refl _) id code launch body s) .rcd rfl)

theorem log_rcd (src code sev : Nat) (data : Bytes) (s : State) :
    (log src code sev data s).rcd = { s.rcd with freezeSession := (log src code sev data s).rcd.freezeSession } :=
  RecSt.eq_of_same (Frame.of_blank (log_blank (pl := recordParts) rfl src code sev data s) .rcd rfl)

/-! ### The oldest packet of an intake ring, released -/

theorem water_losses (r : Ring) : r.water.losses = r.losses := by
  unfold Ring.water; (repeat' split) <;> rfl

@[simp] theorem release_losses (r : Ring) : r.release.losses = r.losses := by
  unfold Ring.release
  split
  · rfl
  · exact water_losses _

/-- At Noon a change of ring `n`'s water level makes at most the saturation mark of its level source. -/
theorem waterIrq_notes_of_noon {n : Nat} {s : State} (hr : s.lad.rung ≠ 1) (was : Bool) :
    (waterIrq n was s).2 = [] ∨ ((waterIrq n was s).2 = [satNote (64 + n)] ∧ 254 ≤ (nth {} s.irq.srcs (64 + n)).cnt) := by
  have no_wake : ∀ t, wakeNotes s t = [] := fun t => if_neg (by simp [hr])
  unfold waterIrq
  dsimp only
  split
  · exact .inl rfl
  · unfold irqCore
    split
    · exact .inl rfl
    · dsimp only
      split
      · rw [no_wake, List.append_nil]
        by_cases hc : (nth {} s.irq.srcs (64 + n)).cnt < 254
        · refine .inl (if_neg fun h => ?_)
          simp only [Bool.and_eq_true, decide_eq_true_eq] at h
          rw [bump_cfg_of_lt (by simpa using hc), setLevel_cfg] at h
          omega
        · split
          · exact .inr ⟨rfl, Nat.le_of_not_lt hc⟩
          · exact .inl rfl
      · exact .inl rfl

/-- At Noon no record goes to ring 47, so nothing but a change of its own touches an intake ring other than 46. -/
theorem trafficKeeps_noon {s0 : State} (hr : s0.lad.rung ≠ 1) {k : Nat} (hk : k ≠ 46) :
    TrafficKeeps (fun s => s.lad = s0.lad ∧ ringAt s k = ringAt s0 k) (fun n => k ≠ n) fun _ => True where
  core src up s _ hs := ⟨(irqCore_lad (by rwa [hs.1]) src up).trans hs.1, (ringAt_irqCore src up s k).trans hs.2⟩
  ring _ g s hn hs := ⟨hs.1, (ringAt_onRing_ne g s hn).trans hs.2⟩
  srcs _ _ := ⟨trivial, trivial⟩
  hw := hk
  aon s hs h := absurd h (by rwa [hs.1])

/-- A release at Noon makes no record for its own ring, where the level source of ring 46 is below its saturation. -/
theorem ringAt_ringRel_of_noon {n : Nat} {s : State} (hr : s.lad.rung ≠ 1) (h : n ≠ 46 ∨ (nth {} s.irq.srcs 110).cnt < 254) :
    ringAt (ringRel n s) n = ringAt (onRing n Ring.release s) n := by
  have hw : ringAt (waterIrq n (ringAt s n).high (onRing n Ring.release s)).1 n = ringAt (onRing n Ring.release s) n ∧
      (waterIrq n (ringAt s n).high (onRing n Ring.release s)).1.lad = s.lad := by
    unfold waterIrq
    dsimp only
    split
    · exact ⟨rfl, rfl⟩
    · exact ⟨ringAt_irqCore _ _ _ n, irqCore_lad (s := onRing n Ring.release s) hr _ _⟩
  unfold ringRel
  dsimp only
  rcases waterIrq_notes_of_noon (s := onRing n Ring.release s) hr (ringAt s n).high with hn | ⟨hn, hc⟩ <;> rw [hn]
  · exact hw.1
  · have h46 : n ≠ 46 := by
      rintro rfl
      exact absurd hc (Nat.not_le.2 (h.resolve_left fun k => k rfl))
    have k := (trafficKeeps_noon (s0 := (waterIrq n (ringAt s n).high (onRing n Ring.release s)).1) (by rwa [hw.2]) h46).ringNotes
      (ms := [satNote (64 + n)]) (fun m hm => by rw [List.mem_singleton.1 hm]; exact h46) ⟨rfl, rfl⟩
    exact k.2.trans hw.1

theorem losses_ringRel_of_noon {n : Nat} {s : State} (hr : s.lad.rung ≠ 1) (h : n ≠ 46 ∨ (nth {} s.irq.srcs 110).cnt < 254)
    (hl : (ringAt s n).losses = []) : (ringAt (ringRel n s) n).losses = [] := by
  rw [ringAt_ringRel_of_noon hr h]
  by_cases hn : n < s.rings.rings.length
  · rw [ringAt_onRing_self _ hn, release_losses, hl]
  · rw [ringAt, nth_of_length_le _ (by rw [onRing_length]; omega)]

theorem rung_of_recorderRuns {s : State} (h : recorderRuns s = true) : s.lad.rung ≠ 1 := by
  simp only [recorderRuns, coresRun, Bool.and_eq_true, decide_eq_true_eq] at h
  omega

/-! ### The intake -/

theorem markLosses_of_none {ring : Nat} {s : State} (h : (ringAt s ring).losses = []) : markLosses ring s = s :=
  if_pos (by simp [h])

section
variable {s : State} {ring : Nat} {p : Packet} {ps : List Packet} (hlo : 40 ≤ ring) (hhi : ring ≤ 47) (hrun : recorderRuns s = true)
  (hfr : s.rcd.freezeSession = 0) (hsat : ring ≠ 46 ∨ (nth {} s.irq.srcs 110).cnt < 254) (hp : (ringAt s ring).pkts = p :: ps)
  (hpo : p.poison = false) (hloss : (ringAt s ring).losses = [])
include hlo hhi hrun hfr hp hpo

theorem exec_recordIntake : exec (.recordIntake ring) s = .next (takeRecord ring (Intake.decode p.bytes) (ringRel ring s)) := by
  refine (if_neg ?_).trans ?_
  · simp [hrun, hfr]; omega
  · rw [hp]; exact if_neg (by simp [hpo])

include hsat hloss

theorem exec_recordIntake_of_unlimited (hwin : s.rcd.windowStart = none) :
    exec (.recordIntake ring) s = .next (foldRecord (Intake.decode p.bytes) (ringRel ring s)) := by
  rw [exec_recordIntake hlo hhi hrun hfr hp hpo, takeRecord, markLosses_of_none (losses_ringRel_of_noon (rung_of_recorderRuns hrun) hsat hloss)]
  dsimp only
  rw [if_neg (by simp [limited, hwin])]

theorem exec_recordIntake_of_suppressed {t0 : Nat} (hwin : s.rcd.windowStart = some t0)
    (hrate : (rateCount s.cfg.small.rateLimit (Intake.decode p.bytes) s.rcd.counts).1 = false) :
    exec (.recordIntake ring) s = .next (ringRel ring s |> onRcd fun c => { c with
      counts := (rateCount s.cfg.small.rateLimit (Intake.decode p.bytes) s.rcd.counts).2, rateSuppr := satInc 32 c.rateSuppr }) := by
  rw [exec_recordIntake hlo hhi hrun hfr hp hpo, takeRecord, markLosses_of_none (losses_ringRel_of_noon (rung_of_recorderRuns hrun) hsat hloss)]
  dsimp only
  rw [if_pos (by simp [limited, hwin]), ringRel_cfg, ringRel_rcd, hrate]
  rfl

end

theorem openRecord_rcd_of_closed (i : Intake) {s : State} (h : s.rcd.openRec = none) : (openRecord i false s).rcd = { s.rcd with
    seq := (s.rcd.seq + 1) % 4294967296, freezeSession := (openRecord i false s).rcd.freezeSession
    openRec := some ({ time := i.time, seq := (s.rcd.seq + 1) % 4294967296, code := i.code, sev := i.sev, src := i.src, data := i.data,
                       deferred := i.deferred, timeValid := i.timeValid, tai := s.rcd.tai, summary := false }, s.tick.now) } := by
  have hc : closeOpen s = s := by rw [closeOpen, h]
  unfold openRecord
  rw [hc]
  exact notifyRecord_rcd _ _

theorem foldRecord_of_equal {i : Intake} {r : Rec} {t0 : Nat} {s : State} (h : s.rcd.openRec = some (r, t0)) (hcode : r.code = i.code)
    (hsev : r.sev = i.sev) (hsrc : r.src = i.src) (hdata : r.data = i.data) (hrep : r.rep < 65534) :
    foldRecord i s = (s |> onRcd fun c => { c with
      openRec := some ({ r with rep := r.rep + 1 }, t0), repeatFold := satInc 32 c.repeatFold }) := by
  rw [foldRecord, h]
  dsimp only
  rw [if_pos (by simp [hcode, hsev, hsrc, hdata]), if_neg (by omega)]

/-! ### Closing and flush -/

theorem exec_recordCloseTimeout {s : State} {r : Rec} {t0 : Nat} (ho : s.rcd.openRec = some (r, t0)) (hrun : recorderRuns s = true)
    (he : elapsed s t0 (secNs 60) = true) : exec .recordCloseTimeout s =
      .next (s |> onRcd fun c => { c with openRec := none, buffer := c.buffer ++ [(r, s.tick.now)] }) := by
  show execRecordCloseTimeout s = _
  simp [execRecordCloseTimeout, closeOpen, ho, hrun, he]

theorem exec_recordFlush {s : State} {r : Rec} {n : Nat} {rs : List (Rec × Nat)} (hrun : recorderRuns s = true)
    (hfr : s.rcd.freezeSession = 0) (hb : s.rcd.buffer = (r, n) :: rs) :
    exec .recordFlush s = .next (s |> onRcd (fun c => { c with buffer := rs }) |> storeRecord r) := by
  show execRecordFlush s = _
  rw [execRecordFlush, hb]
  simp [hrun, hfr]

/-- A region that is not full takes a record and evicts none (R503). -/
theorem storeRecord_of_room {s : State} (r : Rec) (hsafe : s.rcd.safety.length < 262144) (hsh : s.rcd.shared.length < 1835008) :
    storeRecord r s = if r.sev = 3 then s |> onRcd (fun c => { c with safety := s.rcd.safety ++ [r] })
      else s |> onRcd fun c => { c with shared := s.rcd.shared ++ [r] } := by
  unfold storeRecord
  dsimp only
  rw [if_pos hsafe, if_pos hsh]

/-- Settles O16: the release leaves no loss to mark, so the record is folded, opened or counted; then closing and flush. -/
theorem recordFolding : Obligations.RecordFolding := by
  refine ⟨fun s ring p ps hlo hhi hrun hfr hsat hp hpo hloss hwin hopen => ?_,
    fun s ring p ps r t0 hlo hhi hrun hfr hsat hp hpo hloss hwin hopen hcode hsev hsrc hdata hrep => ?_,
    fun s ring t0 p ps hlo hhi hrun hfr hsat hp hpo hloss hwin hrate => ?_, fun s r t0 ho hrun he => ?_,
    fun s r n rs hrun hfr hb hsafe hsh => ?_⟩
  · have h := openRecord_rcd_of_closed (Intake.decode p.bytes) (s := ringRel ring s) (by simpa using hopen)
    have ho : foldRecord (Intake.decode p.bytes) (ringRel ring s) = openRecord (Intake.decode p.bytes) false (ringRel ring s) := by
      rw [foldRecord, ringRel_rcd, hopen]
    rw [exec_recordIntake_of_unlimited hlo hhi hrun hfr hsat hp hpo hloss hwin, completes_next, ho, h]
    simp
  · rw [exec_recordIntake_of_unlimited hlo hhi hrun hfr hsat hp hpo hloss hwin, completes_next,
      foldRecord_of_equal (s := ringRel ring s) (by simpa using hopen) hcode hsev hsrc hdata hrep]
    simp
  · rw [exec_recordIntake_of_suppressed hlo hhi hrun hfr hsat hp hpo hloss hwin hrate, completes_next]
    simp
  · rw [exec_recordCloseTimeout ho hrun he, completes_next]
    exact ⟨rfl, rfl, onRcd_frame rfl⟩
  · rw [exec_recordFlush hrun hfr hb, completes_next,
      storeRecord_of_room (s := onRcd (fun c => { c with buffer := rs }) s) r hsafe hsh]
    split
    · exact ⟨rfl, rfl, rfl, onRcd_frame (s := s) (g := fun c => { c with buffer := rs, safety := s.rcd.safety ++ [r] }) rfl⟩
    · exact ⟨rfl, rfl, rfl, onRcd_frame (s := s) (g := fun c => { c with buffer := rs, shared := s.rcd.shared ++ [r] }) rfl⟩

/-! ### Windows, the log freeze and exporting -/

theorem closeOpen_seq (s : State) : (closeOpen s).rcd.seq = s.rcd.seq := by
  unfold closeOpen; split <;> rfl

theorem writeOwn_seq (code sev : Nat) (data : Bytes) (summary : Bool) (s : State) :
    (writeOwn code sev data summary s).rcd.seq = (s.rcd.seq + 1) % 4294967296 := by
  unfold writeOwn openRecord
  dsimp only
  rw [notifyRecord_rcd, ← closeOpen_seq s]
  cases summary <;> rfl

/-- One sequence number for each suppressed code (R506). -/
theorem writeSummaries_seq {s : State} (h : s.rcd.seq < 4294967296) : (writeSummaries s).rcd.seq =
    (s.rcd.seq + (s.rcd.counts.filter fun c => decide (0 < c.suppressed)).length) % 4294967296 := by
  unfold writeSummaries
  generalize (s.rcd.counts.filter fun c => decide (0 < c.suppressed)) = l
  induction l generalizing s with
  | nil => exact (Nat.mod_eq_of_lt h).symm
  | cons c l ih =>
    rw [List.foldl_cons, ih (by rw [writeOwn_seq]; omega), writeOwn_seq, List.length_cons]
    omega

theorem exec_rateWindowEnd {s : State} {t0 : Nat} (hrun : recorderRuns s = true) (hwin : s.rcd.windowStart = some t0)
    (he : elapsed s t0 (msNs s.cfg.small.rateWindow) = true) : exec .rateWindowEnd s =
      .next (writeSummaries s |> onRcd fun c => { c with counts := [], windowStart := some (t0 + msNs s.cfg.small.rateWindow) }) := by
  show execRateWindowEnd s = _
  rw [execRateWindowEnd, hwin]
  simp [hrun, he]

theorem exec_limitedPeriodEnd {s : State} (hrun : recorderRuns s = true) (hl : limited s = true) (hh : limitHolds s = false) :
    exec .limitedPeriodEnd s =
      .next (writeSummaries s |> onRcd fun c => { c with counts := [], windowStart := none, recoveryEnd := none }) :=
  if_pos (by simp [hrun, hl, hh])

theorem logOnly_freezeSession (src code sev : Nat) (data : Bytes) (s : State) :
    (logOnly src code sev data s).rcd.freezeSession = s.rcd.freezeSession := by
  unfold logOnly; split
  · rw [ringPut_rcd]
  · rfl

theorem thawLog_freezeSession (cause : Nat) (s : State) : (thawLog cause s).rcd.freezeSession = 0 := by
  unfold thawLog
  split
  · assumption
  · exact logOnly_freezeSession ..

/-- Trimming keeps slots it held already (R453). -/
theorem mem_of_mem_trimOps {l : List Op} {o : Op} (h : o ∈ trimOps l) : o ∈ l := by
  have key : ∀ (l : List Op) (a : List Op × Nat), o ∈ (l.foldl (fun (a : List Op × Nat) o =>
      if o.opState = 2 && decide (16 < a.2) then (a.1, a.2 - 1) else (a.1 ++ [o], a.2)) a).1 → o ∈ a.1 ∨ o ∈ l := by
    intro l
    induction l with
    | nil => exact fun a h => .inl h
    | cons x l ih =>
      intro a h
      rcases ih _ h with h | h
      · dsimp only at h
        split at h
        · exact .inl h
        · simp only [List.mem_append, List.mem_singleton] at h
          rcases h with h | rfl
          · exact .inl h
          · exact .inr List.mem_cons_self
      · exact .inr (List.mem_cons_of_mem x h)
  exact (key l _ h).resolve_left List.not_mem_nil

/-- An operation that ended is no more the one of its kind that exists (R451). -/
theorem findOp_endOp (kind status : Nat) (result : Bytes) (s : State) : findOp (endOp kind status result s) kind = none := by
  refine List.find?_eq_none.2 fun o ho => ?_
  obtain ⟨x, -, rfl⟩ := List.mem_map.1 (mem_of_mem_trimOps ho)
  dsimp only
  split
  · simp [Op.finish]
  · assumption

theorem findOp_congr {s t : State} (h : t.ops = s.ops) (kind : Nat) : findOp t kind = findOp s kind := by
  rw [findOp, h]; rfl

/-- The records of the next exported chunk (R510). -/
def exportOut (e : Export) (s : State) : List Rec :=
  ((recordsFrom s e.next 2097153).filter fun r => decide (r.seq ≤ e.to_)).filter fun r => decide (e.minSev ≤ r.sev)

section
variable {s : State} {e : Export} {o : Op} (hrun : recorderRuns s = true) (hframe : e.frame ≠ some (s.tb.time / 1000000))
  (he : s.rcd.export_ = some e) (ho : findOp s 6 = some o) (hst : o.opState = 0)
  (hroom : (ringAt s (8 + (sessionIdx s o.session).getD 0)).fillPkts < 64)
include hrun hframe he ho hst hroom

theorem exec_logExportChunk_of_end (hout : exportOut e s = []) : ∃ e1 : Export, exec .logExportChunk s =
    .next (s |> closeOp 6 stOk |> endOp 6 stOk e1.result |> log srcApp3 0x0F05 1 (u32 e1.sent ++ u32 e1.skipped)) := by
  have hexec : exec .logExportChunk s = execLogExportChunk s := rfl
  unfold exportOut at hout
  unfold execLogExportChunk at hexec
  rw [he, ho] at hexec
  dsimp only at hexec
  rw [if_neg (by simp [hrun, hst, hframe, Nat.not_le.2 hroom]), hout] at hexec
  exact ⟨_, hexec⟩

theorem exec_logExportChunk_of_chunk (hout : exportOut e s ≠ []) : ∃ (e1 : Export) (body : Bytes), exec .logExportChunk s =
    .next (s |> onRcd (fun c => { c with export_ := some e1 }) |> notify o.session 3 none body) ∧
      e1.chunk = e.chunk + 1 ∧ e1.sent = e.sent + min 40 (exportOut e s).length ∧ e1.to_ = e.to_ ∧ e1.minSev = e.minSev := by
  obtain ⟨l, hl⟩ : ∃ l, ((exportOut e s).take 40).getLast? = some l := by
    cases hx : ((exportOut e s).take 40).getLast? with
    | some l => exact ⟨l, rfl⟩
    | none => exact absurd (List.getLast?_eq_none_iff.1 hx) (by simp [hout])
  have hexec : exec .logExportChunk s = execLogExportChunk s := rfl
  unfold exportOut at hl ⊢
  unfold execLogExportChunk at hexec
  rw [he, ho] at hexec
  dsimp only at hexec
  rw [if_neg (by simp [hrun, hst, hframe, Nat.not_le.2 hroom]), hl] at hexec
  exact ⟨_, _, hexec, rfl, by rw [List.length_take], rfl, rfl⟩

end

/-- Settles O17: the summaries take one number each; the end of the freeze; the chunk that is empty and the one that is not. -/
theorem logWindowsAndExport : Obligations.LogWindowsAndExport := by
  refine ⟨fun s t0 hrun hwin he hseq => ?_, fun s hrun hl hh hseq => ?_, fun s hrun hf he => ?_,
    fun s e o hrun hframe he ho hst hroom hall => ?_, fun s e o hrun hframe he ho hst hroom hout => ?_⟩
  · rw [exec_rateWindowEnd hrun hwin he, completes_next]
    exact ⟨rfl, rfl, writeSummaries_seq hseq⟩
  · rw [exec_limitedPeriodEnd hrun hl hh, completes_next]
    exact ⟨rfl, rfl, rfl, writeSummaries_seq hseq⟩
  · have hx : exec .freezeLogMaxElapsed s = .next (thawLog 2 s) := congrArg Host.Outcome.next (if_pos (by simp [hrun, hf, he]))
    rw [hx, completes_next]
    exact thawLog_freezeSession 2 s
  · have hout : exportOut e s = [] := by
      have none_left : (recordsFrom s e.next 2097153).filter (fun r => decide (r.seq ≤ e.to_)) = [] :=
        List.filter_eq_nil_iff.2 fun r hr => by simpa using hall r hr
      rw [exportOut, none_left]
      rfl
    obtain ⟨e1, h⟩ := exec_logExportChunk_of_end hrun hframe he ho hst hroom hout
    rw [h, completes_next]
    refine ⟨?_, (findOp_congr (log_ops ..) 6).trans (findOp_endOp ..)⟩
    rw [log_rcd]
    rfl
  · obtain ⟨e1, body, h, chunk, sent, to_, minSev⟩ := exec_logExportChunk_of_chunk hrun hframe he ho hst hroom hout
    rw [h, completes_next]
    refine ⟨e1, ?_, chunk, sent, to_, minSev⟩
    rw [notify_rcd]
    rfl

end Sys2Proof.Machine
end

section
/-! The timebase (R103 to R127): peer delay, the grandmaster, and the events of the clocks. -/
namespace Sys2Proof.Machine

/-! ### Stamps and queues -/

section
variable (src cycles : Nat) (s : State)

theorem sfdEvent_frame : Frame [.irq, .rings, .rung] s (sfdEvent src cycles s) := Frame.of_blank (sfdEvent_blank rfl src cycles s)

@[simp] theorem freeLatch_tb : (freeLatch src s).tb = s.tb := rfl
@[simp] theorem sfdEvent_tb : (sfdEvent src cycles s).tb = s.tb := sfdEvent_frame src cycles s .tb rfl

/-- The stamp taken where no unread stamp holds the latch (R112). -/
theorem sfdStamp_of_free (h : (nth {} s.irq.srcs src).latch = none) :
    sfdStamp src cycles s = (some (extendStamp s.tb.time (latchOf cycles)), freeLatch src (sfdEvent src cycles s)) := by
  refine if_neg ?_
  rw [h]
  decide

theorem nth_sfdEvent {k : Nat} (h : k ≠ src) (hk : k ∉ [46, 47, 110, 111]) :
    nth {} (sfdEvent src cycles s).irq.srcs k = nth {} s.irq.srcs k := by
  unfold sfdEvent
  dsimp only
  split
  · exact (nth_updAt_ne _ _ _ h).trans (nth_irqEvent h hk true s)
  · exact nth_irqEvent h hk true s

end

theorem queueAt_congr {s t : State} (h : t.tb = s.tb) (q : Nat) : queueAt t q = queueAt s q := by
  unfold queueAt; rw [h]

theorem queueAt_of_queues {s t : State} (h0 : t.tb.q0 = s.tb.q0) (h1 : t.tb.q1 = s.tb.q1) (h2 : t.tb.q2 = s.tb.q2) (q : Nat) :
    queueAt t q = queueAt s q := by
  unfold queueAt; rw [h0, h1, h2]

theorem queueAt_onQueue (q : Nat) (g : List LaunchEntry → List LaunchEntry) (s : State) :
    queueAt (onQueue q g s) q = g (queueAt s q) := by
  rcases q with _ | _ | q <;> rfl

theorem onQueue_tb (q : Nat) (g : List LaunchEntry → List LaunchEntry) (s : State) :
    ∃ a b c, (onQueue q g s).tb = { s.tb with q0 := a, q1 := b, q2 := c } := by
  rcases q with _ | _ | q <;> exact ⟨_, _, _, rfl⟩

/-- What a Pdelay_Req leaves in the timebase where its transmit latch is free. -/
theorem stampReq_tb {h : PtpHead} {s : State} (hs : s.tb.pdelaySeq = h.seq) (hl : (nth {} s.irq.srcs (txSource s)).latch = none)
    (sfd : Nat) : (stampReq h sfd s).tb = { s.tb with
      sent := s.tb.sent ++ [.pdelayReq h], pdelayT1 := some (extendStamp s.tb.time (latchOf sfd) + txLatency s) } := by
  unfold stampReq
  rw [sfdStamp_of_free (txSource s) sfd (sendPtp (.pdelayReq h) s) hl]
  simp [sendPtp, hs]

/-! ### Peer delay -/

/-- A measurement more than 1 µs from the present median (R110). -/
def farDelay (d : Int) (s : State) : Bool :=
  match pathDelay s with
  | none => false
  | some p => decide (1000 < (d - p).natAbs)

theorem farDelay_of_far {d p : Int} {s : State} (hp : pathDelay s = some p) (h : 1000 < (d - p).natAbs) : farDelay d s = true := by
  rw [farDelay, hp]; exact decide_eq_true h

theorem farDelay_of_near {d : Int} {s : State} (h : ∀ p ∈ pathDelay s, (d - p).natAbs ≤ 1000) : farDelay d s = false := by
  unfold farDelay
  split
  · rfl
  · next p hp => exact decide_eq_false (Nat.not_lt.2 (h p hp))

section
variable {s : State} (hon : ptpOn s = true) (hat : s.tb.pdelayAt = none)
include hon hat

theorem exec_pdelayReqDue_of_room (sfd : Nat) (hroom : (queueAt s s.cfg.net.ptpPort).length < 32) : exec (.pdelayReqDue sfd) s =
    .next (s |> onTb (fun t => { t with pdelaySeq := (s.tb.pdelaySeq + 1) % 65536, pdelayAt := some s.tick.now, pdelayT1 := none })
      |> onQueue s.cfg.net.ptpPort fun l => l ++ [{ at_ := s.tb.time + (20 - s.tick.j) * 50000
                                                    frame := .pdelayReq (ptpHead ((s.tb.pdelaySeq + 1) % 65536) (-s.cfg.small.asymmetry) s) }]) := by
  refine (if_neg ?_).trans (if_pos hroom)
  rw [hat, hon]
  exact Bool.false_ne_true

theorem exec_pdelayReqDue_of_full (sfd : Nat) (hfull : 32 ≤ (queueAt s s.cfg.net.ptpPort).length) : exec (.pdelayReqDue sfd) s =
    .next (s |> onTb (fun t => { t with pdelaySeq := (s.tb.pdelaySeq + 1) % 65536, pdelayAt := some s.tick.now, pdelayT1 := none })
      |> onTb (fun t => { t with untimed := t.untimed ++ [.pdelayReq (ptpHead ((s.tb.pdelaySeq + 1) % 65536) (-s.cfg.small.asymmetry) s)] })
      |> stampReq (ptpHead ((s.tb.pdelaySeq + 1) % 65536) (-s.cfg.small.asymmetry) s) sfd) := by
  refine (if_neg ?_).trans (if_neg (Nat.not_lt.2 hfull))
  rw [hat, hon]
  exact Bool.false_ne_true

end

theorem exec_pdelayRespReceived {s : State} {m : PtpFrom} {t1 : Int} (t2 t3 corr : Int) (t4 : Nat) (hon : ptpOn s = true)
    (hdom : m.domain = s.cfg.net.ptpDomain) (hseq : m.seq = s.tb.pdelaySeq) (ht1 : s.tb.pdelayT1 = some t1)
    (hl : (nth {} s.irq.srcs (rxSource s)).latch = none) {d : Int}
    (hd : d = divRound ((extendStamp s.tb.time (latchOf t4) - rxLatency s - t1) - (t3 - t2) - (corr + s.cfg.small.asymmetry)) 2) :
    exec (.pdelayRespReceived m t2 t3 corr t4) s =
      .next (if farDelay d s then
          ptpDiscard (freeLatch (rxSource s) (sfdEvent (rxSource s) t4 s) |> onTb fun t => { t with pdelayT1 := none })
        else freeLatch (rxSource s) (sfdEvent (rxSource s) t4 s) |> onTb (fun t => { t with pdelayT1 := none })
          |> onTb fun t => { t with delays := (d :: t.delays).take 8 }) := by
  show execPdelayRespReceived m t2 t3 corr t4 s = _
  unfold execPdelayRespReceived
  rw [if_neg (by simp [hon]), if_neg (by simp [hdom]), sfdStamp_of_free _ _ _ hl]
  dsimp only
  rw [if_neg (by simp [hseq]), ht1, hd]
  rfl

theorem exec_pdelayReqReceived {s : State} {m : PdelayReqIn} (t2 t3 : Nat) (hnet : netUp s = true) (hfb : s.cfg.fallback = false)
    (hlink : linkUpAt s s.cfg.net.ptpPort = true) (hdom : m.head.domain = s.cfg.net.ptpDomain)
    (hrx : (nth {} s.irq.srcs (rxSource s)).latch = none) (htx : (nth {} s.irq.srcs (txSource s)).latch = none) :
    Completes (exec (.pdelayReqReceived m t2 t3) s) fun t => t.tb.sent = s.tb.sent ++
      [.pdelayResp (ptpHead m.head.seq 0 s) m.head.source (extendStamp s.tb.time (latchOf t2) - rxLatency s),
       .pdelayFollowUp (ptpHead m.head.seq m.corr s) m.head.source (extendStamp s.tb.time (latchOf t3) + txLatency s)] := by
  have hne : txSource s ≠ rxSource s ∧ txSource s ∉ [46, 47, 110, 111] := by
    unfold txSource rxSource; split <;> decide
  let x := freeLatch (rxSource s) (sfdEvent (rxSource s) t2 s)
  let resp := TxFrame.pdelayResp (ptpHead m.head.seq 0 s) m.head.source (extendStamp s.tb.time (latchOf t2) - rxLatency s)
  have hl : (nth {} (sendPtp resp x).irq.srcs (txSource s)).latch = none :=
    (congrArg IrqSrc.latch ((nth_updAt_ne _ _ _ hne.1).trans (nth_sfdEvent _ _ _ hne.1 hne.2))).trans htx
  have he : exec (.pdelayReqReceived m t2 t3) s = .next (sendPtp
      (.pdelayFollowUp (ptpHead m.head.seq m.corr s) m.head.source (extendStamp (sendPtp resp x).tb.time (latchOf t3) + txLatency s))
      (freeLatch (txSource s) (sfdEvent (txSource s) t3 (sendPtp resp x)))) := by
    show execPdelayReqReceived m t2 t3 s = _
    unfold execPdelayReqReceived
    rw [if_neg (by simp [hnet, hfb, hlink]), if_neg (by simp [hdom]), sfdStamp_of_free _ _ _ hrx]
    dsimp only
    rw [sfdStamp_of_free _ _ _ hl]
  rw [he, completes_next]
  simp [sendPtp, x, resp]

/-- Settles O3: the request queued or sent at once, the measurement kept or discarded, and the two frames of an answer. -/
theorem peerDelay : Obligations.PeerDelay := by
  refine ⟨fun s sfd hon hat hroom => ?_, fun s sfd hon hat hfull hl => ?_, fun s m t1 t2 t3 corr d t4 hon hdom hseq ht1 hl hd => ?_,
    fun s m t2 t3 hnet hfb hlink hdom hrx htx => exec_pdelayReqReceived t2 t3 hnet hfb hlink hdom hrx htx⟩
  · rw [exec_pdelayReqDue_of_room hon hat sfd hroom, completes_next]
    obtain ⟨a, b, c, h⟩ := onQueue_tb s.cfg.net.ptpPort (fun l => l ++ [{ at_ := s.tb.time + (20 - s.tick.j) * 50000, frame := .pdelayReq (ptpHead ((s.tb.pdelaySeq + 1) % 65536) (-s.cfg.small.asymmetry) s) }])
      (s |> onTb fun t => { t with pdelaySeq := (s.tb.pdelaySeq + 1) % 65536, pdelayAt := some s.tick.now, pdelayT1 := none })
    refine ⟨by rw [h]; rfl, by rw [h]; rfl, queueAt_onQueue ..⟩
  · rw [exec_pdelayReqDue_of_full hon hat sfd hfull, completes_next]
    have h := stampReq_tb (h := ptpHead ((s.tb.pdelaySeq + 1) % 65536) (-s.cfg.small.asymmetry) s)
      (s := s |> onTb (fun t => { t with pdelaySeq := (s.tb.pdelaySeq + 1) % 65536, pdelayAt := some s.tick.now, pdelayT1 := none })
        |> onTb fun t => { t with untimed := t.untimed ++ [.pdelayReq (ptpHead ((s.tb.pdelaySeq + 1) % 65536) (-s.cfg.small.asymmetry) s)] })
      rfl hl sfd
    exact ⟨queueAt_of_queues (by rw [h]; rfl) (by rw [h]; rfl) (by rw [h]; rfl) _, by rw [h]; rfl, by rw [h]; rfl⟩
  · rw [exec_pdelayRespReceived t2 t3 corr t4 hon hdom hseq ht1 hl hd, completes_next]
    refine ⟨by split <;> simp [ptpDiscard], ?_, fun hnear => ?_⟩
    · rintro ⟨p, hp, hfar⟩
      rw [if_pos (farDelay_of_far hp hfar)]
      simp [ptpDiscard]
    · rw [if_neg (by simp [farDelay_of_near hnear])]
      simp

/-! ### The grandmaster -/

/-- A lost grandmaster (R107): HOLDOVER from LOCKED, FREE_RUN from ACQUIRING, and every other state kept. -/
theorem gmLost_sync (s : State) : (gmLost s).tb.gm = none ∧ (gmLost s).tb.offset = s.tb.offset ∧
    (gmLost s).tb.sync = match s.tb.sync with | .locked => .holdover | .acquiring => .freeRun | x => x := by
  have keeps : ∀ n, n ≠ .pairFollow → (setSync n (s |> onTb fun t => { t with gm := none, pendingSync := none })).tb.gm = none ∧
      (setSync n (s |> onTb fun t => { t with gm := none, pendingSync := none })).tb.offset = s.tb.offset :=
    fun n hn => ⟨setSync_gm _ n hn, setSync_offset ..⟩
  have hs : (s |> onTb fun t => { t with gm := none, pendingSync := none }).tb.sync = s.tb.sync := rfl
  unfold gmLost
  dsimp only
  rw [hs]
  cases h : s.tb.sync
  case locked => exact ⟨(keeps .holdover (by decide)).1, (keeps .holdover (by decide)).2, setSync_sync ..⟩
  case acquiring => exact ⟨(keeps .freeRun (by decide)).1, (keeps .freeRun (by decide)).2, setSync_sync ..⟩
  all_goals exact ⟨rfl, rfl, hs.trans h⟩

theorem setSync_announceAt (n : SyncState) (s : State) : (setSync n s).tb.announceAt = s.tb.announceAt := by
  unfold setSync; dsimp only; split
  · rfl
  · rw [log_tb]; rfl

/-- The first master selected (R107). -/
theorem selectGm_of_none {s : State} (a : Announce) (h : s.tb.gm = none) : selectGm a s =
    setSync .acquiring (s |> onTb fun t => { t with gm := some a, announceAt := s.tick.now, pendingSync := none }) := by
  unfold selectGm
  simp only [h]
  rfl

theorem exec_announceReceived_of_none {s : State} {a : AnnounceIn} (hon : ptpOn s = true) (hdom : a.domain = s.cfg.net.ptpDomain)
    (hts : a.ptpTimescale = true) (hst : a.stepsRemoved < 255) (hgm : s.tb.gm = none) :
    exec (.announceReceived a) s = .next (selectGm (announceData a) s) := by
  show execAnnounceReceived a s = _
  unfold execAnnounceReceived
  rw [if_neg (by simp [hon, hdom, hts]; omega), hgm]

/-- Settles O4: a first Announce selects its sender; the losses go through `gmLost`; holdover ends in FREE_RUN. -/
theorem grandmaster : Obligations.Grandmaster := by
  refine ⟨fun s a hon hdom hts hst hgm => ?_, fun s g hgm he => ?_, fun s t0 hun hsync he => ?_, fun s hsync he => ?_⟩
  · rw [exec_announceReceived_of_none hon hdom hts hst hgm, selectGm_of_none _ hgm, completes_next]
    exact ⟨setSync_gm _ _ (by decide), setSync_announceAt .., setSync_sync ..⟩
  · have hx : exec .announceReceiptTimeout s = .next (gmLost s) := by
      show execAnnounceReceiptTimeout s = _
      rw [execAnnounceReceiptTimeout, hgm]
      exact if_pos he
    obtain ⟨gm, -, sync⟩ := gmLost_sync s
    rw [hx, completes_next]
    exact ⟨gm, sync⟩
  · have hx : exec .ptpOffsetUnusable s = .next (gmLost (s |> onTb fun x => { x with offset := none })) := by
      show execPtpOffsetUnusable s = _
      rw [execPtpOffsetUnusable, hun]
      exact if_pos (by simp [hsync, he])
    obtain ⟨gm, offset, sync⟩ := gmLost_sync (s |> onTb fun x => { x with offset := none })
    rw [hx, completes_next]
    refine ⟨offset, gm, sync.trans ?_⟩
    rcases hsync with h | h <;> simp [h]
  · have hx : exec .holdoverExpired s = .next (setSync .freeRun s |> onTb fun t => { t with holdoverExpired := true }) :=
      if_pos (by simp [hsync, he])
    rw [hx, completes_next]
    exact ⟨setSync_sync .., rfl⟩

/-! ### The clocks -/

theorem ModuleFaulted.congr {code cls : Nat} {s s' t : State} (h : ModuleFaulted code cls s t) (hstr : s'.str = s.str)
    (hprot : s'.prot = s.prot) (hpair : s'.pair = s.pair) : ModuleFaulted code cls s' t := by
  simpa only [ModuleFaulted, HardwareFaulted, LocalFaulted, FaultedBy, GaveUp, hstr, hprot, hpair] using h

theorem setSync_refHoldover (n : SyncState) (s : State) : (setSync n s).tb.refHoldover = s.tb.refHoldover := by
  unfold setSync; dsimp only; split
  · rfl
  · rw [log_tb]; rfl

/-- A release of ownership ends in PAIR_FOLLOW; before that the timebase is not touched (R414). -/
theorem releaseOwnership_eq (s : State) : ∃ u, releaseOwnership s = setSync .pairFollow u ∧
    Frame [.str, .pins, .cnv, .thm, .prot, .cont, .pair, .can] s u := by
  refine ⟨_, rfl, Frame.of_blank ?_⟩
  simp (disch := decide) only [canOff_blank, thermOff_blank, onProt_blank, onStr_blank, onPair_blank, openImd_blank, openSafeOut_blank,
    coilsOff_blank, onPins_blank]

theorem giveUp_refHoldover (code : Nat) (s : State) : (giveUp code s).tb.refHoldover = s.tb.refHoldover := by
  obtain ⟨u, hu, k⟩ := releaseOwnership_eq s
  unfold giveUp
  rw [log_tb, onPair_tb, hu, setSync_refHoldover, show u.tb = s.tb from k .tb rfl]

theorem trialFails_frame (s : State) : Frame [.deferred, .irq, .rings, .logFreeze, .rung, .upd] s (trialFails s) :=
  Frame.of_blank (trialFails_blank rfl s)

theorem moduleFault_refHoldover (code cls : Nat) (s : State) : (moduleFault code cls s).tb.refHoldover = s.tb.refHoldover := by
  have ht : (trialFails s).tb = s.tb := trialFails_frame s .tb rfl
  unfold moduleFault
  dsimp only
  split
  · rw [giveUp_refHoldover, ht]
  · rw [show (hardwareFault code cls (trialFails s)).tb = (trialFails s).tb from
      Frame.of_blank (hardwareFault_blank (within_refl _) code cls _) .tb rfl, ht]

/-- The counter's reading at a time: the counts j, f and c (R105). -/
theorem oddTick_bounds (n : Nat) : 25000 ≤ (if 50000 - n % 50000 < 25000 then 50000 - n % 50000 + 50000 else 50000 - n % 50000) ∧
    (if 50000 - n % 50000 < 25000 then 50000 - n % 50000 + 50000 else 50000 - n % 50000) ≤ 75000 ∧
    (n + if 50000 - n % 50000 < 25000 then 50000 - n % 50000 + 50000 else 50000 - n % 50000) % 50000 = 0 := by
  split <;> omega

theorem extendStamp_nearest (t v : Nat) : (extendStamp t v - v) % 4294967296 = 0 ∧ (t : Int) - 2147483648 ≤ extendStamp t v ∧
    extendStamp t v < (t : Int) + 2147483648 := by
  unfold extendStamp
  dsimp only
  split <;> omega

/-- Frames that a guard band held back leave the timebase as it is. -/
theorem releaseHeld_tb (q : Nat) (s : State) : (releaseHeld q s).tb = s.tb :=
  Frame.of_blank (releaseHeld_blank (within_refl _) q s) .tb rfl

section
variable {s : State} {h : PtpHead} {l : List LaunchEntry} {q : Nat} (hrun : running s = true) (hlink : linkUpAt s q = true)
include hrun hlink

theorem exec_launchTimeReached_on_time (sfd : Nat)
    (hq : takeEarliest (queueAt s q) = some ({ at_ := s.tb.time, frame := .pdelayReq h }, l)) :
    exec (.launchTimeReached q sfd) s = .next (releaseHeld q (stampReq h sfd (onQueue q (fun _ => l) s))) := by
  show execLaunchTimeReached q sfd s = _
  unfold execLaunchTimeReached
  rw [hq]
  simp only [hrun, hlink, Nat.sub_self, launchFrame, Bool.not_true, Bool.false_or, if_true]
  exact if_neg (by simp)

theorem exec_launchTimeReached_too_late (sfd : Nat) {e : LaunchEntry} (hq : takeEarliest (queueAt s q) = some (e, l))
    (hlate : e.at_ + s.cfg.small.launchLateMax < s.tb.time) :
    exec (.launchTimeReached q sfd) s =
      .next (releaseHeld q (dropLaunch e.frame (irqEvent (169 + q) true (onQueue q (fun _ => l) s)))) := by
  show execLaunchTimeReached q sfd s = _
  unfold execLaunchTimeReached
  rw [hq]
  dsimp only
  rw [if_neg (by simp [hrun, hlink]; omega), if_neg (by omega), if_neg (by omega)]

end

/-- A bank that was being filled is emptied; no bank is being filled after (R115). -/
theorem emptied_st (b : Bank) : (if b.st = 1 then { b with st := 0 } else b).st ≠ 1 := by
  split
  · exact Nat.zero_ne_one
  · assumption

/-- Settles O5: each event's branch; a late frame is dropped before its start-of-frame. -/
theorem clockEvents : Obligations.ClockEvents := by
  refine ⟨fun s d hstep => ?_, fun s hsync hdue => ?_, fun s ppb href hrun hdue => ?_, fun s href => ?_,
    fun s sfd h l q hq hrun hlink htake hseq hl => ?_, fun s sfd h e l q hq hrun hlink htake hf hlate => ?_, extendStamp_nearest⟩
  · show Completes (execTimeStep s) _
    rw [execTimeStep, hstep]
    dsimp only
    rw [completes_next]
    simp only [log_tb, log_tick, log_tab, onTab_tab, onTab_tb, onTab_tick, onTick_tb, onTick_tick, onTb_tb]
    refine ⟨trivial, trivial, trivial, trivial, trivial, trivial, ⟨_, rfl, oddTick_bounds _⟩, emptied_st _, emptied_st _⟩
  · have hx : exec .rtcWriteback s = .next (s |> onTb fun t => { t with rtc := t.time, rtcWroteAt := some s.tick.now }) := by
      refine if_pos ?_
      cases hw : s.tb.rtcWroteAt with
      | none => simp [hsync]
      | some x => simpa [hsync] using hdue x hw
    rw [hx, completes_next]
    exact ⟨rfl, rfl⟩
  · have hx : exec (.rtcCorrection ppb) s = .next (s |> onTb fun t => { t with rtcPpb := ppb, rtcCheckAt := some s.tick.now }) := by
      refine if_pos ?_
      cases hw : s.tb.rtcCheckAt with
      | none => simp [href, hrun]
      | some x => simpa [href, hrun] using hdue x hw
    rw [hx, completes_next]
    exact ⟨rfl, rfl⟩
  · have hx : exec .clkRefLost s = .next (s |> onTick (fun t => { t with refLost := true }) |> log srcSafety 0x1011 3 []
        |> setSync .freeRun |> onTb (fun t => { t with refHoldover := true, gm := none, pendingSync := none }) |> moduleFault 0x1011 1) :=
      if_neg (by simp [href])
    rw [hx, completes_next]
    refine ⟨by simp, by rw [moduleFault_refHoldover]; rfl, (moduleFault_faulted _ 0x1011 1).congr ?_ ?_ ?_⟩ <;> simp
  · rw [exec_launchTimeReached_on_time hrun hlink sfd htake, completes_next]
    obtain ⟨a, b, c, hb⟩ := onQueue_tb q (fun _ => l) s
    have hs := stampReq_tb (s := onQueue q (fun _ => l) s) (h := h) (by rw [hb]; exact hseq.symm) hl sfd
    have hq' := queueAt_onQueue q (fun _ => l) s
    rw [hb] at hs
    rw [releaseHeld_tb, hs, queueAt_congr (releaseHeld_tb q _)]
    exact ⟨(queueAt_of_queues (by rw [hs, hb]) (by rw [hs, hb]) (by rw [hs, hb]) q).trans hq', rfl, rfl, rfl, rfl⟩
  · rw [exec_launchTimeReached_too_late hrun hlink sfd htake hlate, hf, completes_next]
    obtain ⟨a, b, c, hb⟩ := onQueue_tb q (fun _ => l) s
    have hd : (dropLaunch (.pdelayReq h) (irqEvent (169 + q) true (onQueue q (fun _ => l) s))).tb =
        { (onQueue q (fun _ => l) s).tb with launchDrop := satInc 32 (onQueue q (fun _ => l) s).tb.launchDrop } := by
      simp [dropLaunch]
    have hq' := queueAt_onQueue q (fun _ => l) s
    rw [releaseHeld_tb, hd, queueAt_congr (releaseHeld_tb q _)]
    exact ⟨(queueAt_of_queues (by rw [hd]) (by rw [hd]) (by rw [hd]) q).trans hq', by rw [hb], by rw [hb]⟩

end Sys2Proof.Machine
end

section
/-! The JTAG port (R80, R537). -/
namespace Sys2Proof.Machine

theorem jtagScan_frame (ir len dr : Nat) (s : State) : Frame [.pins, .jtag] s (jtagScan ir len dr s) :=
  Frame.of_blank ((onJtag_blank rfl _ _).trans (onPins_blank rfl _ s))

theorem jtagScan_onJtag_frame (ir len dr : Nat) (g : JtagSt → JtagSt) (s : State) :
    Frame [.pins, .jtag] s (onJtag g (jtagScan ir len dr s)) :=
  Frame.of_blank ((onJtag_blank rfl _ _).trans ((onJtag_blank rfl _ _).trans (onPins_blank rfl _ s)))

/-- The freeze status word (R537). -/
def statusWord (f : FreezeLast) : Nat :=
  1 + f.trigger % 256 * 2 ^ 8 + f.state % 256 * 2 ^ 16 + b2n f.forced * 2 ^ 24 + f.time % 2 ^ 32 * 2 ^ 32

theorem b2n_lt (b : Bool) : b2n b < 2 := by cases b <;> decide

theorem statusWord_fields {f : FreezeLast} (ht : f.trigger < 128) (hs : f.state < 256) (htime : f.time < 2 ^ 32) :
    statusWord f % 2 = 1 ∧ statusWord f / 2 ^ 8 % 256 = f.trigger ∧ statusWord f / 2 ^ 16 % 256 = f.state ∧
      statusWord f / 2 ^ 24 % 256 = b2n f.forced ∧ statusWord f / 2 ^ 32 = f.time := by
  have hb := b2n_lt f.forced
  unfold statusWord
  norm_num at htime ⊢
  omega

theorem exec_jtagFrzStatus_of_running {s : State} (h : s.lad.frozen = false) : exec .jtagFrzStatus s = .next (jtagScan 0x10 64 0 s) := by
  show execJtagFrzStatus s = _
  unfold execJtagFrzStatus
  rw [h]

theorem exec_jtagFrzStatus_of_frozen {s : State} {f : FreezeLast} (h : s.lad.frozen = true) (hf : s.lad.freezeLast = some f) :
    exec .jtagFrzStatus s = .next (jtagScan 0x10 64 (statusWord f) s) := by
  show execJtagFrzStatus s = _
  unfold execJtagFrzStatus
  rw [h, hf]
  rfl

theorem exec_jtagMemData_of_running {s : State} (h : s.lad.frozen = false) : exec .jtagMemData s =
    .next (jtagScan 0x12 34 0 s |> onJtag fun j => { j with addr := (j.addr + 1) % 2 ^ 32 }) :=
  if_neg (by simp [h])

theorem exec_jtagMemData_of_frozen {s : State} (h : s.lad.frozen = true) : exec .jtagMemData s =
    .next (jtagScan 0x12 34 (if memMapped s.jtag.addr then dumpWord s s.jtag.addr else 2 ^ 33) s
      |> onJtag fun j => { j with addr := (j.addr + 1) % 2 ^ 32 }) :=
  if_pos h

/-- The first word of the ring memory, where the first ring begins there with a packet that is not poisoned: its header (R491). -/
theorem dumpWord_of_first_packet {s : State} {r : Ring} {p : Packet} {ps : List Packet} (hr : s.rings.rings.head? = some r)
    (hen : r.enabled = true) (hbase : r.base = 0) (hrd : r.rd = 0) (hp : r.pkts = p :: ps) (hpo : p.poison = false)
    (hkind : p.kind < 128) (hlen : p.len < 65536) : dumpWord s 0x00400000 = p.kind * 2 ^ 24 + p.len := by
  have hsize : 0 < r.size := Nat.two_pow_pos _
  obtain ⟨rs, hrs⟩ : ∃ rs, s.rings.rings = r :: rs := List.head?_eq_some_iff.1 hr
  have hw : packetWord 0 r.pkts = some (p.kind * 2 ^ 24 + p.len) := by
    rw [hp, packetWord, if_neg (by simp [hpo]), if_pos rfl, Nat.mod_eq_of_lt hkind,
      Nat.mod_eq_of_lt (show p.len < 2 ^ 16 from hlen)]
  have hring : ringWord s 0 = some (p.kind * 2 ^ 24 + p.len) := by
    simp [ringWord, hrs, hen, hbase, hrd, hsize, hw]
  unfold dumpWord
  dsimp only
  rw [if_pos (by decide), Nat.sub_self, hring]
  rfl

/-- Settles O6: every row is a scan; the two that read outside a freeze give 0. -/
theorem jtagPort : Obligations.JtagPort := by
  refine ⟨fun s => ?_, fun s => ?_, fun s h => ?_, fun s f h hf ht hs htime => ?_, fun s a => ?_, fun s h => ?_, fun s h => ?_,
    fun s r p ps h ha hr hen hbase hrd hp hpo hkind hlen => ?_⟩
  · have hx : exec .jtagBypass s = .next (jtagScan 0xFF 1 0 s) := rfl
    rw [hx, completes_next]
    exact ⟨rfl, rfl, jtagScan_frame _ _ _ s⟩
  · have hx : exec .jtagIdcode s = .next (jtagScan 0x01 32 0x2C640A5B s) := rfl
    rw [hx, completes_next]
    exact ⟨rfl, rfl, jtagScan_frame _ _ _ s⟩
  · rw [exec_jtagFrzStatus_of_running h, completes_next]
    exact ⟨rfl, rfl, jtagScan_frame _ _ _ s⟩
  · obtain ⟨active, trigger, state, forced, time⟩ := statusWord_fields ht hs htime
    rw [exec_jtagFrzStatus_of_frozen h hf, completes_next]
    exact ⟨active, trigger, state, forced, time, rfl, jtagScan_frame _ _ _ s⟩
  · have hx : exec (.jtagMemAddr a) s =
        .next (jtagScan 0x11 32 (a % 2 ^ 32) s |> onJtag fun j => { j with addr := a % 2 ^ 32 }) := rfl
    rw [hx, completes_next]
    exact ⟨rfl, rfl, rfl, rfl, jtagScan_onJtag_frame _ _ _ _ s⟩
  · rw [exec_jtagMemData_of_running h, completes_next]
    exact ⟨rfl, rfl, rfl, jtagScan_onJtag_frame _ _ _ _ s⟩
  · rw [exec_jtagMemData_of_frozen h, completes_next]
    exact ⟨rfl, rfl, fun hm => if_neg (by simp [hm]), fun hm => if_pos hm, rfl, jtagScan_onJtag_frame _ _ _ _ s⟩
  · rw [exec_jtagMemData_of_frozen h, completes_next]
    have hw := dumpWord_of_first_packet hr hen hbase hrd hp hpo hkind hlen
    rw [ha, if_pos (by decide), hw]
    rfl

end Sys2Proof.Machine
end

section
/-! The double-banked tables of the scan (R24, R206, R207). -/
namespace Sys2Proof.Machine

/-! ### Banks -/

section
variable (g : Banked) {i : Nat} (b : Bank) (r : Nat)

theorem Banked.get_set_self (hi : i < 2) : (g.set i b).get i = b := by
  rcases i with _ | _ | i
  · rfl
  · rfl
  · omega

@[simp] theorem Banked.set_newest : (g.set i b).newest = g.newest := by
  rcases i with _ | _ | i <;> rfl
@[simp] theorem Banked.set_seq : (g.set i b).seq = g.seq := by
  rcases i with _ | _ | i <;> rfl
@[simp] theorem Banked.set_filling : (g.set i b).filling = g.filling := by
  rcases i with _ | _ | i <;> rfl

theorem Banked.set_holds (h : b.hold = (g.get i).hold) : (g.set i b).b0.hold = g.b0.hold ∧ (g.set i b).b1.hold = g.b1.hold := by
  rcases i with _ | _ | i
  · exact ⟨h, rfl⟩
  · exact ⟨rfl, h⟩
  · exact ⟨rfl, rfl⟩

/-- A take changes the hold of the newest bank alone. -/
theorem Banked.take_cases : g.take r = g ∨
    ∃ k, g.newest = some k ∧ g.take r = g.set k { g.get k with hold := setAt (g.get k).hold r true } := by
  unfold Banked.take
  split
  · exact .inl rfl
  · next k hk =>
    split
    · exact .inl rfl
    · exact .inr ⟨k, hk, rfl⟩

@[simp] theorem Banked.take_newest : (g.take r).newest = g.newest := by
  obtain h | ⟨k, -, h⟩ := g.take_cases r <;> rw [h]
  exact g.set_newest _
@[simp] theorem Banked.take_seq : (g.take r).seq = g.seq := by
  obtain h | ⟨k, -, h⟩ := g.take_cases r <;> rw [h]
  exact g.set_seq _

theorem Banked.get_take (i : Nat) : ∃ l, (g.take r).get i = { g.get i with hold := l } := by
  obtain h | ⟨k, -, h⟩ := g.take_cases r <;> rw [h]
  · exact ⟨_, rfl⟩
  · rcases k with _ | _ | k <;> rcases i with _ | _ | i <;> exact ⟨_, rfl⟩

theorem Banked.hold_take {k : Nat} (hk : k < 2) (hn : g.newest = some k) (h0 : nth false g.b0.hold r = false)
    (h1 : nth false g.b1.hold r = false) (hr : r < (g.get k).hold.length) : nth false ((g.take r).get k).hold r = true := by
  have ht : g.take r = g.set k { g.get k with hold := setAt (g.get k).hold r true } := by
    simp [Banked.take, hn, h0, h1]
  rw [ht, g.get_set_self _ hk]
  exact nth_setAt_self _ _ hr

/-- A bank being filled is bank 0 or 1. -/
theorem Banked.filling_lt (h : (g.get g.filling).st = 1) : g.filling < 2 := by
  rcases hf : g.filling with _ | _ | k
  · decide
  · decide
  · rw [hf] at h
    exact absurd h Nat.zero_ne_one

end

/-- A bank completed and taken by its reader (R24): the next sequence number, the values it had, and the reader's hold unless
that one holds a bank still. -/
theorem Banked.complete_take {g : Banked} (h : (g.get g.filling).st = 1) (r : Nat) :
    (g.complete.take r).newest = some g.filling ∧ (g.complete.take r).seq = (g.seq + 1) % 65536 ∧
      ((g.complete.take r).get g.filling).st = 2 ∧ ((g.complete.take r).get g.filling).seq = (g.seq + 1) % 65536 ∧
      ((g.complete.take r).get g.filling).vals = (g.get g.filling).vals ∧
      (nth false g.b0.hold r = false → nth false g.b1.hold r = false → r < (g.get g.filling).hold.length →
        nth false ((g.complete.take r).get g.filling).hold r = true) := by
  have hlt := g.filling_lt h
  let b : Bank := { g.get g.filling with st := 2, seq := (g.seq + 1) % 65536 }
  have hc : g.complete = { g.set g.filling b with newest := some g.filling, seq := (g.seq + 1) % 65536 } := if_pos h
  have hb : g.complete.get g.filling = b := by
    rw [hc]; exact g.get_set_self b hlt
  obtain ⟨l, hl⟩ := g.complete.get_take r g.filling
  rw [hl, hb]
  refine ⟨by simp [hc], by simp [hc], rfl, rfl, rfl, fun h0 h1 hr => ?_⟩
  obtain ⟨e0, e1⟩ := g.set_holds b (i := g.filling) rfl
  have hh := g.complete.hold_take r hlt (by rw [hc]) (by rw [hc]; dsimp only; rwa [e0])
    (by rw [hc]; dsimp only; rwa [e1]) (by rw [hb]; exact hr)
  rwa [hl, hb] at hh

/-- A set that starts in the bank that is not the newest (R24). -/
theorem Banked.start_of_free {g : Banked} {k : Nat} (hk : k < 2) (hn : g.newest = some k) (hh : (g.get (1 - k)).held = false)
    (n snapId : Nat) (iStr q : Int) (time at_ : Nat) :
    (g.start n snapId iStr q time at_).1.filling = 1 - k ∧ (g.start n snapId iStr q time at_).1.get (1 - k) =
      { g.get (1 - k) with st := 1, snapId := snapId, iStr := iStr, time := time, at_ := at_, q := q, vals := List.replicate n none } := by
  have hs : (g.start n snapId iStr q time at_).1 = { g.set (1 - k) { g.get (1 - k) with
      st := 1, snapId := snapId, iStr := iStr, time := time, at_ := at_, q := q, vals := List.replicate n none } with filling := 1 - k } := by
    simp [Banked.start, hn, hh]
  rw [hs]
  exact ⟨rfl, g.get_set_self _ (by omega)⟩

/-! ### The snapshot instant -/

/-- Neither the start of clocks nor the marks of the snapshots change what the link controller holds of the snapshot. -/
theorem startClocks_kept (s : State) : ∃ p c t m, (startClocks s).tab = { s.tab with poss := p, cells := c, temps := t } ∧
    (startClocks s).skl = { s.skl with mons := m } := by
  unfold startClocks
  split
  · exact ⟨_, _, _, _, rfl, rfl⟩
  · exact ⟨_, _, _, _, rfl, rfl⟩

theorem markSnaps_kept (q : Int) (s : State) : ∃ a b, (markSnaps q s).skl = { s.skl with marks := a, marksOld := b } := by
  unfold markSnaps
  split <;> exact ⟨_, _, rfl⟩

/-- What follows the opening of a snapshot: the clocks, the marks and the runs that have completed. -/
def afterSnapshot (q : Int) (doD doT : Bool) (s : State) : State :=
  s |> startClocks |> markSnaps q |> runDone 0 |> (fun t => if doD then runDone 1 t else t) |> fun t => if doT then runDone 2 t else t

theorem afterSnapshot_kept (q : Int) (doD doT : Bool) (s : State) : ∃ p c e m a b,
    (afterSnapshot q doD doT s).tab = { s.tab with poss := p, cells := c, temps := e } ∧
    (afterSnapshot q doD doT s).skl = { s.skl with mons := m, marks := a, marksOld := b } ∧ (afterSnapshot q doD doT s).met = s.met := by
  obtain ⟨p, c, e, m, htab, hskl⟩ := startClocks_kept s
  obtain ⟨a, b, hmarks⟩ := markSnaps_kept q (startClocks s)
  have ht : (markSnaps q (startClocks s)).tab = (startClocks s).tab := Frame.of_blank (markSnaps_blank (within_refl _) q _) .tab rfl
  have hm : (markSnaps q (startClocks s)).met = s.met :=
    (Frame.of_blank (markSnaps_blank (within_refl _) q _) .met rfl : _ = (startClocks s).met).trans
      (Frame.of_blank (startClocks_blank (within_refl _) s) .met rfl)
  refine ⟨p, c, e, m, a, b, ?_⟩
  rw [← htab, ← ht, ← hm, show { s.skl with mons := m, marks := a, marksOld := b } = (markSnaps q (startClocks s)).skl by
    rw [hmarks, hskl]]
  unfold afterSnapshot
  cases doD <;> cases doT <;> simp

/-- The state at the snapshot instant with the sets opened: drops where `doD`, temperatures where `doT`. -/
def snapshotOpened (doD doT : Bool) (s : State) : State :=
  let v := s.tab.volt.start (geoP s) (nextSnap s) (roundAway (iTick s)) s.met.coulomb s.tb.time s.tick.now
  let d := if doD then s.tab.drop.start (geoP s * geoS s) (nextSnap s) (roundAway (iTick s)) s.met.coulomb s.tb.time s.tick.now else (s.tab.drop, [])
  let t := if doT then s.tab.temp.start (geoP s * 8) (nextSnap s) (roundAway (iTick s)) s.met.coulomb s.tb.time s.tick.now else (s.tab.temp, [])
  unreadScans s |> onTab (fun x => { x with
      volt := v.1, drop := if doD then d.1.mark ((List.range (geoP s)).filter fun p => (nth {} s.bal.pos p).unresolved) else d.1, temp := t.1 })
    |> countSkips v.2 |> countSkips d.2 |> countSkips t.2
    |> onMet (fun m => { m with snapWord := roundAway (iTick s) })
    |> onSkl (fun l => { l with
        snapId := some (nextSnap s), snapUsed := some (nextSnap s), vSnapAt := s.tick.now
        dSnap := if doD then nextSnap s else l.dSnap, dSnapAt := if doD then s.tick.now else l.dSnapAt
        tSnap := if doT then nextSnap s else l.tSnap, tSnapAt := if doT then s.tick.now else l.tSnapAt })
    |> onMons fun _ m => { m with
        vDone := false, vAsked := false, vCrcErr := false
        dDone := if doD then false else m.dDone, dAsked := if doD then false else m.dAsked, dCrcErr := if doD then false else m.dCrcErr
        tDone := if doT then false else m.tDone, tAsked := if doT then false else m.tAsked, tCrcErr := if doT then false else m.tCrcErr }

section
variable {s : State} (hring : runsRing s = true) (hcores : coresRun s = true) (hf : s.tick.f = 0) (hj : s.tick.j = 0)
  (hp : geoP s ≠ 0) (h3 : lateRun 3 s = false)
include hring hcores hf hj hp h3

theorem exec_snapshotInstant : exec .snapshotInstant s = .next (afterSnapshot s.met.coulomb
    (s.tick.c % 10 = 0 && !(lateRun 5 s)) (s.tick.c = 0 && !(lateRun 5 s))
    (snapshotOpened (s.tick.c % 10 = 0 && !(lateRun 5 s)) (s.tick.c = 0 && !(lateRun 5 s)) s)) :=
  if_neg (by simp [hring, hcores, hf, hj, hp, h3])

theorem snapshotInstant_opens (h5 : lateRun 5 s = false) :
    Completes (exec .snapshotInstant s) fun t =>
      t.skl.snapId = some (nextSnap s) ∧ t.skl.snapUsed = some (nextSnap s) ∧ t.skl.vSnapAt = s.tick.now ∧ t.met.snapWord = roundAway (iTick s) ∧
      t.tab.volt = (s.tab.volt.start (geoP s) (nextSnap s) (roundAway (iTick s)) s.met.coulomb s.tb.time s.tick.now).1 ∧
      (∀ k, s.tab.volt.newest = some k → k < 2 → (s.tab.volt.get (1 - k)).held = false →
        t.tab.volt.filling = 1 - k ∧ (t.tab.volt.get (1 - k)).st = 1 ∧ (t.tab.volt.get (1 - k)).snapId = nextSnap s ∧
        (t.tab.volt.get (1 - k)).iStr = roundAway (iTick s) ∧ (t.tab.volt.get (1 - k)).vals = List.replicate (geoP s) none) ∧
      (s.tick.c % 10 ≠ 0 → t.tab.drop = s.tab.drop) ∧ (s.tick.c ≠ 0 → t.tab.temp = s.tab.temp) ∧
      (s.tick.c % 10 = 0 → t.skl.dSnap = nextSnap s ∧
        t.tab.drop = ((s.tab.drop.start (geoP s * geoS s) (nextSnap s) (roundAway (iTick s)) s.met.coulomb s.tb.time s.tick.now).1).mark
          ((List.range (geoP s)).filter fun p => (nth {} s.bal.pos p).unresolved)) ∧
      (s.tick.c = 0 → t.skl.tSnap = nextSnap s ∧
        t.tab.temp = (s.tab.temp.start (geoP s * 8) (nextSnap s) (roundAway (iTick s)) s.met.coulomb s.tb.time s.tick.now).1) := by
  generalize hX : exec .snapshotInstant s = X
  rw [exec_snapshotInstant hring hcores hf hj hp h3] at hX
  have hD : s.tick.c % 10 = 0 ↔ (decide (s.tick.c % 10 = 0) && !(lateRun 5 s)) = true := by simp [h5]
  have hT : s.tick.c = 0 ↔ (decide (s.tick.c = 0) && !(lateRun 5 s)) = true := by simp [h5]
  generalize (decide (s.tick.c % 10 = 0) && !(lateRun 5 s)) = doD at hX hD
  generalize (decide (s.tick.c = 0) && !(lateRun 5 s)) = doT at hX hT
  obtain ⟨p, c, e, m, a, b, htab, hskl, hmet⟩ := afterSnapshot_kept s.met.coulomb doD doT (snapshotOpened doD doT s)
  rw [← hX, completes_next, htab, hskl, hmet]
  refine ⟨rfl, rfl, rfl, rfl, rfl, fun k hn hk hh => ?_, fun hc => ?_, fun hc => ?_, fun hc => ?_, fun hc => ?_⟩
  · obtain ⟨hfill, hget⟩ := Banked.start_of_free hk hn hh (geoP s) (nextSnap s) (roundAway (iTick s)) s.met.coulomb s.tb.time s.tick.now
    refine ⟨hfill, ?_⟩
    rw [show (snapshotOpened doD doT s).tab.volt = (s.tab.volt.start _ _ _ _ _ _).1 from rfl, hget]
    exact ⟨rfl, rfl, rfl, rfl⟩
  · rw [Bool.eq_false_iff.mpr (hD.not.mp hc)]; rfl
  · rw [Bool.eq_false_iff.mpr (hT.not.mp hc)]; rfl
  · rw [hD] at hc; rw [hc]; exact ⟨rfl, rfl⟩
  · rw [hT] at hc; rw [hc]; exact ⟨rfl, rfl⟩

end

/-! ### The complete banks -/

theorem Banked.get_release (g : Banked) (r : Nat) {i : Nat} (hi : i < 2) : (g.release r).get i = { g.get i with hold := setAt (g.get i).hold r false } := by
  rcases i with _ | _ | i
  · rfl
  · rfl
  · omega

theorem Banked.release_holds (g : Banked) (r : Nat) :
    nth false (g.release r).b0.hold r = false ∧ nth false (g.release r).b1.hold r = false := by
  have h : ∀ l : List Bool, nth false (setAt l r false) r = false := fun l => by
    rcases Nat.lt_or_ge r l.length with hr | hr
    · exact nth_setAt_self _ _ hr
    · exact nth_of_length_le _ (by simpa using hr)
  exact ⟨h _, h _⟩

section
variable {s : State} (hsp : isSp s = false) (hcores : coresRun s = true)
include hsp hcores

theorem voltageBank_completes (hst : (s.tab.volt.get s.tab.volt.filling).st = 1) (hf : s.tick.f ≤ 3) :
    Completes (exec .voltageBankComplete s) fun t => t.tab.volt = s.tab.volt.complete.take rdEst := by
  show Completes (execVoltageBankComplete s) _
  unfold execVoltageBankComplete
  rw [if_neg (by simp [hst, hsp, hcores, hf]), completes_next, runDone_tab]
  split <;> split <;> rfl

theorem dropSet_completes (hst : (s.tab.drop.get s.tab.drop.filling).st = 1) (hc : s.tick.c % 10 = 9) (hf : 4 ≤ s.tick.f) :
    Completes (exec .dropSetComplete s) fun t => t.tab.drop = s.tab.drop.complete.take rdShare := by
  have hdue : ∀ u : State, (runDue 6 u).tab = u.tab := fun u => Frame.of_blank (runDue_blank (within_refl _) 6 u) .tab rfl
  show Completes (execDropSetComplete s) _
  unfold execDropSetComplete
  rw [if_neg (by simp [hst, hsp, hcores, hc, hf]), completes_next]
  dsimp only
  split
  · rw [runDone_tab, hdue]; rfl
  · rw [clearTw_tab, runDone_tab, hdue]; rfl

omit hsp hcores in
theorem judgeSensor_temp (s0 : State) (g : Bank) (got : Nat → Bool) (i : Nat) (u : State) : (judgeSensor s0 g got i u).tab.temp = u.tab.temp := by
  unfold judgeSensor
  dsimp only
  split
  · rfl
  · split <;> split <;> simp [apply_ite State.tab]

theorem temperatureSet_completes (hst : (s.tab.temp.get s.tab.temp.filling).st = 1) (hc : s.tick.c = 49) (hf : 4 ≤ s.tick.f) :
    Completes (exec .temperatureSetComplete s) fun t => t.tab.temp = (s.tab.temp.release rdThermal).complete.take rdThermal := by
  have hscan : ∀ u : State, (thermScan u).tab = u.tab := fun u => rfl
  have hfold : ∀ (l : List Nat) (s0 : State) (g : Bank) (got : Nat → Bool) (u : State),
      (l.foldl (fun t i => judgeSensor s0 g got i t) u).tab.temp = u.tab.temp := fun l s0 g got u =>
    List.foldlRecOn l _ (motive := fun t : State => t.tab.temp = u.tab.temp) rfl fun t ht i _ => (judgeSensor_temp s0 g got i t).trans ht
  show Completes (execTemperatureSetComplete s) _
  unfold execTemperatureSetComplete
  rw [if_neg (by simp [hst, hsp, hcores, hc, hf]), completes_next, runDone_tab, hscan]
  split
  · exact hfold ..
  · rw [clearTw_tab]; exact hfold ..

end

/-- Settles O7: a set starts in the bank that is not the newest, and a complete one is the newest and taken by its reader. -/
theorem scanBanks : Obligations.ScanBanks := by
  unfold Obligations.ScanBanks
  refine ⟨fun s hring hcores hf hj hp h3 h5 => snapshotInstant_opens hring hcores hf hj hp h3 h5, fun s hst hsp hcores hf => ?_,
    fun s hst hsp hcores hc hf => ?_, fun s hst hsp hcores hc hf => ?_⟩
  · refine (voltageBank_completes hsp hcores hst hf).mono fun t ht => ?_
    rw [ht]
    exact Banked.complete_take hst rdEst
  · refine (dropSet_completes hsp hcores hst hc hf).mono fun t ht => ?_
    rw [ht]
    obtain ⟨hn, hseq, h2, -, hv, hh⟩ := Banked.complete_take hst rdShare
    exact ⟨hn, hseq, h2, hv, hh⟩
  · refine (temperatureSet_completes hsp hcores hst hc hf).mono fun t ht => ?_
    rw [ht]
    have hget := s.tab.temp.get_release rdThermal (Banked.filling_lt _ hst)
    obtain ⟨h0, h1⟩ := s.tab.temp.release_holds rdThermal
    obtain ⟨hn, hseq, h2, -, hv, hh⟩ := Banked.complete_take (g := s.tab.temp.release rdThermal) ((congrArg Bank.st hget).trans hst) rdThermal
    refine ⟨hn, hseq, h2, hv.trans (congrArg Bank.vals hget :), fun hr => hh h0 h1 (hr.trans_eq ?_)⟩
    rw [show (s.tab.temp.release rdThermal).get (s.tab.temp.release rdThermal).filling = _ from hget]
    exact (length_setAt ..).symm

end Sys2Proof.Machine
end

section
/-! The estimator's step on a voltage bank and its jobs (R243 to R266). -/
namespace Sys2Proof.Machine

/-! ### What follows a step keeps its marks -/

/-- The bank of the last step, the rest and the voltage banks are the same. -/
structure SameStep (s t : State) : Prop where
  lastSeq : t.est.lastSeq = s.est.lastSeq
  lastQ : t.est.lastQ = s.est.lastQ
  lastStepAt : t.est.lastStepAt = s.est.lastStepAt
  rested : t.est.rested = s.est.rested
  restDue : t.est.restDue = s.est.restDue
  volt : t.tab.volt = s.tab.volt

namespace SameStep
variable {s t u : State}

theorem refl (s : State) : SameStep s s := ⟨rfl, rfl, rfl, rfl, rfl, rfl⟩

theorem trans (h : SameStep s t) (h' : SameStep t u) : SameStep s u :=
  ⟨h'.1.trans h.1, h'.2.trans h.2, h'.3.trans h.3, h'.4.trans h.4, h'.5.trans h.5, h'.6.trans h.6⟩

theorem of_parts (hest : t.est = s.est) (hvolt : t.tab.volt = s.tab.volt) : SameStep s t := by
  refine ⟨?_, ?_, ?_, ?_, ?_, hvolt⟩ <;> rw [hest]

theorem ite {c : Prop} [Decidable c] (ht : c → SameStep s t) (hu : ¬c → SameStep s u) : SameStep s (if c then t else u) := by
  split
  · next h => exact ht h
  · next h => exact hu h

theorem log (h : SameStep s t) (src code sev : Nat) (data : Bytes) : SameStep s (log src code sev data t) :=
  h.trans (of_parts (log_est ..) (congrArg TableSt.volt (log_tab ..)))

theorem onPos (h : SameStep s t) (p : Nat) (g : PosEntry → PosEntry) : SameStep s (onPos p g t) := h.trans (of_parts rfl rfl)
theorem onPoss (h : SameStep s t) (g : Nat → PosEntry → PosEntry) : SameStep s (onPoss g t) := h.trans (of_parts rfl rfl)
theorem onCells (h : SameStep s t) (g : Nat → CellEntry → CellEntry) : SameStep s (onCells g t) := h.trans (of_parts rfl rfl)
theorem onJrn (h : SameStep s t) (g : JournalSt → JournalSt) : SameStep s (onJrn g t) := h.trans (of_parts rfl rfl)
theorem publishOp (h : SameStep s t) (kind : Nat) (result : Bytes) : SameStep s (publishOp kind result t) := h.trans (of_parts rfl rfl)
theorem endOp (h : SameStep s t) (kind status : Nat) (result : Bytes) : SameStep s (endOp kind status result t) := h.trans (of_parts rfl rfl)
theorem onLearn (h : SameStep s t) (l : EstSt → Option CapLearn) : SameStep s (onEst (fun e => { e with learn := l e }) t) :=
  h.trans ⟨rfl, rfl, rfl, rfl, rfl, rfl⟩

theorem foldl {f : State → Nat → State} (h : SameStep s t) (l : List Nat) (hf : ∀ u i, SameStep u (f u i)) : SameStep s (l.foldl f t) :=
  List.foldlRecOn l f (motive := SameStep s) h fun u hu i _ => hu.trans (hf u i)

end SameStep

section
variable (s : State)

theorem countDisagree_sameStep (p : Nat) : SameStep s (countDisagree p s) := by
  have h1 : ∀ g g', SameStep s (onJrn g (onPos p g' s)) := fun g g' => ((SameStep.refl s).onPos p g').onJrn g
  unfold countDisagree
  exact .ite (fun _ => (h1 _ _).log _ _ _ _) fun _ => h1 _ _

theorem decidePos_sameStep (p : Nat) (v : Option Int) (lo hi : Rat) : SameStep s (decidePos p v lo hi s) := by
  have h1 : ∀ g g', SameStep s (onCells g (onPos p g' s)) := fun g g' => ((SameStep.refl s).onPos p g').onCells g
  unfold decidePos
  dsimp only
  split
  · exact (SameStep.refl s).onPos _ _
  · refine .ite (fun _ => .ite (fun _ => .trans ?_ (countDisagree_sameStep ..)) fun _ => ?_)
      fun _ => .ite (fun _ => ((h1 _ _).log _ _ _ _).trans (countDisagree_sameStep ..)) fun _ => h1 _ _
    all_goals exact .ite (fun _ => (h1 _ _).log _ _ _ _) fun _ => h1 _ _

theorem posStep_sameStep (b : Bank) (anchor : Bool) (p : Nat) : SameStep s (posStep b anchor p s) :=
  ((((SameStep.refl s).onPos _ _).onCells _).trans (decidePos_sameStep ..)).onPos _ _

theorem stringFigures_sameStep : SameStep s (stringFigures s) := by
  unfold stringFigures
  exact .ite (fun _ => ⟨rfl, rfl, rfl, rfl, rfl, rfl⟩) fun _ => ⟨rfl, rfl, rfl, rfl, rfl, rfl⟩

theorem learnCharge_sameStep : SameStep s (learnCharge s) := by
  unfold learnCharge
  split
  · exact .ite (fun _ => ⟨rfl, rfl, rfl, rfl, rfl, rfl⟩) fun _ => .refl s
  · exact .refl s

theorem convergeCheck_sameStep : SameStep s (convergeCheck s) := by
  have h : SameStep s (onEst (fun e => { e with mode := .running, modeSince := s.tick.now }) s) := ⟨rfl, rfl, rfl, rfl, rfl, rfl⟩
  unfold convergeCheck
  exact .ite (fun _ => h.log _ _ _ _) fun _ => .refl s

theorem learnPhase_sameStep (n : Nat) : SameStep s (learnPhase n s) := ((SameStep.refl s).onLearn _).publishOp ..

theorem learnDischarge_sameStep (at_ : Nat) : SameStep s (learnDischarge at_ s) :=
  ((((SameStep.refl s).onLearn _).onPoss _).onCells _).trans (learnPhase_sameStep ..)

theorem learnAbort_sameStep (reason : Nat) : SameStep s (learnAbort reason s) :=
  have h : SameStep s (onEst (fun e => { e with learnAbort := reason }) s) := ⟨rfl, rfl, rfl, rfl, rfl, rfl⟩
  SameStep.endOp (t := closeOp 1 stCancelled _) ((h.log ..).onLearn fun _ => none) ..

theorem learnPos_sameStep (p : Nat) : SameStep s (learnPos p s) := by
  unfold learnPos
  exact .ite (fun _ => .refl s) fun _ => .ite (fun _ => ((SameStep.refl s).onLearn _).log _ _ _ _)
    fun _ => (((SameStep.refl s).onLearn _).onCells _).onPos _ _

theorem learnCompute_sameStep : SameStep s (learnCompute s) := by
  have h1 : SameStep s ((List.range (geoP s)).foldl (fun t p => learnPos p t) (learnPhase 4 s)) :=
    (learnPhase_sameStep s 4).foldl _ learnPos_sameStep
  have h2 : ∀ t (l : EstSt → Option CapLearn), SameStep t (onEst (fun e => { e with learnPending := true, learn := l e }) t) :=
    fun t l => ⟨rfl, rfl, rfl, rfl, rfl, rfl⟩
  exact (((h1.trans (h2 _ _)).onJrn _).log ..).publishOp ..

theorem learnEmptyRest_sameStep : SameStep s (learnEmptyRest s) := by
  have h1 : ∀ l, SameStep s (onEst (fun e => { e with learn := l }) (onPoss (fun _ e => { e with socEmpty := e.restSoc }) s)) :=
    fun l => ((SameStep.refl s).onPoss _).onLearn fun _ => l
  unfold learnEmptyRest
  dsimp only
  split
  · exact .ite (fun _ => h1 _) fun _ => (h1 _).trans (learnCompute_sameStep _)
  · exact h1 _

theorem learnWatch_sameStep (b : Bank) : SameStep s (learnWatch b s) := by
  unfold learnWatch
  split
  · exact .refl s
  · refine .ite (fun _ => .refl s) fun _ => ?_
    split
    · exact learnAbort_sameStep ..
    · have h1 := (SameStep.refl s).onLearn
      exact .ite (fun _ => h1 _) fun _ => .ite (fun _ => (h1 _).trans (learnDischarge_sameStep ..)) fun _ =>
        .ite (fun _ => (h1 _).trans (learnPhase_sameStep ..)) fun _ => .ite (fun _ => (h1 _).trans (learnEmptyRest_sameStep _)) fun _ => h1 _

end

/-! ### The step -/

/-- The step anchors where the bank's references leave a rest that is due. -/
def stepAnchors (b : Bank) (s : State) : Bool := (restRefs b s).est.restDue && restHolds (restRefs b s)

theorem restRefs_volt (b : Bank) (s : State) : (restRefs b s).tab.volt = s.tab.volt := by
  have h : ∀ t, (unrest t).tab = t.tab := fun t => Frame.of_blank (unrest_blank (within_refl _) t) .tab rfl
  unfold restRefs
  dsimp only
  split
  · rw [h]; rfl
  · rfl

/-- The state of a step once its bank is entered: the anchor taken, the positions stepped and the bank marked. -/
theorem filterStep_marks (b : Bank) (s : State) : (filterStep b s).est.lastSeq = some b.seq ∧ (filterStep b s).est.lastQ = b.q ∧
    (filterStep b s).est.lastStepAt = b.at_ ∧ (filterStep b s).tab.volt = s.tab.volt ∧
    (stepAnchors b s = true → (filterStep b s).est.rested = true ∧ (filterStep b s).est.restDue = false) := by
  let r := restRefs b s
  let s0 := if stepAnchors b s then r |> onEst fun e => { e with rested := true, restEnd := none, restDue := false } else r
  let s1 := (List.range (geoP s)).foldl (fun t p => posStep b (stepAnchors b s) p t) s0
  let s2 := s1 |> onEst (fun e => { e with lastSeq := some b.seq, lastStepAt := b.at_, lastQ := b.q })
    |> onPoss (fun _ e => if s1.est.rested || stepAnchors b s then { e with restSoc := e.socRep.getD e.restSoc } else e)
  have h1 : SameStep s0 s1 := (SameStep.refl s0).foldl _ fun t p => posStep_sameStep t b _ p
  have h2 : SameStep s2 (filterStep b s) := ((stringFigures_sameStep s2).trans ((learnCharge_sameStep _).trans
    ((learnWatch_sameStep _ b).trans (convergeCheck_sameStep _))) :)
  refine ⟨h2.lastSeq, h2.lastQ, h2.lastStepAt, h2.volt.trans (h1.volt.trans (.trans ?_ (restRefs_volt b s))), fun ha => ?_⟩
  · show s0.tab.volt = r.tab.volt
    simp only [s0]
    split <;> rfl
  · have h0 : s0 = (r |> onEst fun e => { e with rested := true, restEnd := none, restDue := false }) := if_pos ha
    exact ⟨h2.rested.trans (h1.rested.trans (by rw [h0]; rfl)), h2.restDue.trans (h1.restDue.trans (by rw [h0]; rfl))⟩

/-- Readings that lie within 0.5 mV of the references of a complete rest leave them as they are. -/
theorem stepAnchors_of_rest (b : Bank) (s : State) (hdue : s.est.restDue = true) (hrest : restHolds s = true)
    (hclose : ∀ p e x r, s.tab.poss[p]? = some e → e.vStale = false → b.val p = some x → e.vRef = some r → (x - r).natAbs ≤ 5) :
    stepAnchors b s = true := by
  have href : ∀ (p : Nat) (e : PosEntry), s.tab.poss[p]? = some e → ∃ r, e.vRef = some r := fun p e he => by
    have hall := (Bool.and_eq_true .. ▸ hrest).2
    have := List.all_eq_true.mp hall e (List.mem_of_getElem? he)
    exact Option.isSome_iff_exists.mp (Bool.and_eq_true .. ▸ this).1
  have hread : ∀ (p : Nat) (e : PosEntry) v, s.tab.poss[p]? = some e → (if e.vStale then none else b.val p) = some v →
      ∃ r, e.vRef = some r ∧ ¬5 < (v - r).natAbs := fun p e v he hv => by
    obtain ⟨r, hr⟩ := href p e he
    obtain ⟨hst, hv⟩ := Option.ite_none_left_eq_some.mp hv
    exact ⟨r, hr, Nat.not_lt.mpr (hclose p e v r he (Bool.eq_false_iff.mpr hst) hv hr)⟩
  have hsame : restRefs b s = s := by
    unfold restRefs
    dsimp only
    rw [if_neg]
    · refine congrArg (fun l => { s with tab := { s.tab with poss := l } }) (List.ext_getElem? fun p => ?_)
      rw [getElem?_mapI]
      cases he : s.tab.poss[p]? with
      | none => rfl
      | some e =>
        refine congrArg some ?_
        dsimp only
        split
        · next hv hr => obtain ⟨r, hr', -⟩ := hread p e _ he hv; exact absurd (hr.symm.trans hr') nofun
        · next hv hr =>
          obtain ⟨r', hr', hlt⟩ := hread p e _ he hv
          rw [hr] at hr'
          exact if_neg (Option.some.inj hr' ▸ hlt)
        · rfl
    · simp only [List.any_eq_true, id, not_exists, not_and, Bool.not_eq_true]
      intro m hm
      obtain ⟨p, hp⟩ := List.mem_iff_getElem?.mp hm
      rw [getElem?_mapI] at hp
      obtain ⟨e, he, rfl⟩ := Option.map_eq_some_iff.mp hp
      split
      · next hv hr =>
        obtain ⟨r', hr', hlt⟩ := hread p e _ he hv
        rw [hr] at hr'
        exact decide_eq_false (Option.some.inj hr' ▸ hlt)
      · rfl
  unfold stepAnchors
  rw [hsame, hdue, hrest]; rfl

/-! ### The commands -/

theorem positionFilters_completes {s : State} {b : Bank} (hb : s.tab.volt.heldBy rdEst = some b) (hsp : isSp s = false)
    (hmode : s.est.mode ≠ .noString) (hcores : coresRun s = true) (h4 : 4 ≤ s.tick.f) (h7 : s.tick.f ≤ 7) (hseq : s.est.lastSeq ≠ some b.seq) :
    Completes (exec .positionFilters s) fun t => t.est.lastSeq = some b.seq ∧ t.est.lastQ = b.q ∧ t.est.lastStepAt = b.at_ ∧
      t.tab.volt = s.tab.volt.release rdEst := by
  obtain ⟨hs, hq, ha, hv, -⟩ := filterStep_marks b s
  have hjob : postJob 0 (filterStep b s) = ringPut 48 (mkPacket 0 (u8 0)) (filterStep b s) := rfl
  show Completes (execPositionFilters s) _
  unfold execPositionFilters
  simp only [hb]
  rw [if_neg (by simp [hsp, hmode, hcores, h4, h7]), completes_next, if_neg hseq, runDone_est, runDone_tab, hjob]
  refine ⟨?_, ?_, ?_, congrArg (Banked.release · rdEst) ?_⟩
  · simpa using hs
  · simpa using hq
  · simpa using ha
  · rw [ringPut_tab]; exact hv

theorem restMinReached_completes {s : State} {b : Bank} (hb : s.tab.volt.current = some b) (hsp : isSp s = false) (hcores : coresRun s = true)
    (hrested : s.est.rested = false) (hrest : restHolds s = true) :
    Completes (exec .restMinReached s) fun t =>
      (s.est.lastSeq = some b.seq → t = { s with est := { s.est with restDue := true } }) ∧
      (s.est.lastSeq ≠ some b.seq → t.est.lastSeq = some b.seq ∧ t.est.lastQ = b.q ∧
        ((∀ p e x r, s.tab.poss[p]? = some e → e.vStale = false → b.val p = some x → e.vRef = some r → (x - r).natAbs ≤ 5) →
          t.est.rested = true ∧ t.est.restDue = false)) := by
  let s1 := s |> onEst fun e => { e with restDue := true }
  have hx : exec .restMinReached s = .next (if s.est.lastSeq = some b.seq then s1 else filterStep b s1) := by
    show execRestMinReached s = _
    unfold execRestMinReached
    simp only [hb]
    exact if_neg (by simp [hsp, hcores, hrested, hrest])
  rw [hx, completes_next]
  refine ⟨fun h => if_pos h, fun h => ?_⟩
  obtain ⟨hs, hq, -, -, hanchor⟩ := filterStep_marks b s1
  rw [if_neg h]
  exact ⟨hs, hq, fun hclose => hanchor (stepAnchors_of_rest b s1 rfl hrest hclose)⟩

theorem learnAbort_est (reason : Nat) (s : State) : (learnAbort reason s).est = { s.est with learnAbort := reason, learn := none } := by
  show { (log srcApp1 0x0609 1 (u8 reason) (onEst (fun e => { e with learnAbort := reason }) s)).est with learn := none } = _
  rw [log_est]; rfl

theorem capLearnTimeout_completes {s : State} {l : CapLearn} (hl : s.est.learn = some l) (h1 : l.phase = 1)
    (ht : elapsed s l.start (secNs 86400) = true) :
    Completes (exec .capLearnTimeout s) fun t => t.est.learn = none ∧ t.est.learnAbort = 5 := by
  have hx : exec .capLearnTimeout s = .next (learnAbort 5 s) := by
    show execCapLearnTimeout s = _
    unfold execCapLearnTimeout
    simp only [hl]
    exact if_pos (by simp [h1, ht])
  rw [hx, completes_next, learnAbort_est]
  exact ⟨rfl, rfl⟩

/-- A position as a cold start leaves it, as far as the estimator's statement names it. -/
def ColdPos (e : PosEntry) : Prop := e.h = 0 ∧ e.va = 0 ∧ e.vb = 0 ∧ e.soc = some ((e.socLo + e.socHi) / 2)

theorem convergeCheck_cases (s : State) : (convergeCheck s).tab = s.tab ∧ (convergeCheck s).est.coldAt = s.est.coldAt ∧
    ((convergeCheck s).est.mode = s.est.mode ∨ (convergeCheck s).est.mode = .running) := by
  unfold convergeCheck
  split
  · simp
  · exact ⟨rfl, rfl, .inl rfl⟩

theorem stringFigures_kept (s : State) : (stringFigures s).tab = s.tab ∧ (stringFigures s).est.coldAt = s.est.coldAt ∧
    (stringFigures s).est.mode = s.est.mode := by
  unfold stringFigures
  exact iteInduction (motive := fun t : State => t.tab = s.tab ∧ t.est.coldAt = s.est.coldAt ∧ t.est.mode = s.est.mode)
    (fun _ => ⟨rfl, rfl, rfl⟩) fun _ => ⟨rfl, rfl, rfl⟩

/-- A position set to the middle of its band (R264). -/
def coldPos (e : PosEntry) : PosEntry :=
  let sg := maxR ((e.socHi - e.socLo) / 2) (1 / 20)
  let x := (e.socLo + e.socHi) / 2
  { e with soc := some x, socRep := some x, forced := false, h := 0, va := 0, vb := 0
           p00 := sg * sg, p01 := 0, p02 := 0, p11 := 0, p12 := 0, p22 := 0
           fl := { e.fl with valid := true, converged := decide (sg ≤ 3 / 100) } }

theorem coldStart_eq (s : State) : ∃ f w, coldStart s = stringFigures (log srcApp1 0x0601 2 w
    (onEst (fun e => { e with mode := .coldConverging, modeSince := s.tick.now, coldAt := s.tick.now })
      (onCells f (onPoss (fun _ => coldPos) s)))) := ⟨_, _, rfl⟩

theorem coldStart_starts (s : State) : (coldStart s).est.mode = .coldConverging ∧ (coldStart s).est.coldAt = s.tick.now ∧
    ∀ e ∈ (coldStart s).tab.poss, ColdPos e := by
  obtain ⟨f, w, h⟩ := coldStart_eq s
  rw [h]
  generalize hu : onCells f (onPoss (fun _ => coldPos) s) = u
  obtain ⟨htab, hat, hmode⟩ := stringFigures_kept (log srcApp1 0x0601 2 w
    (onEst (fun e => { e with mode := .coldConverging, modeSince := s.tick.now, coldAt := s.tick.now }) u))
  rw [htab, hat, hmode, log_tab, log_est]
  refine ⟨rfl, rfl, fun e he => ?_⟩
  subst hu
  obtain ⟨p, hp⟩ := List.mem_iff_getElem?.mp he
  obtain ⟨e', -, rfl⟩ := Option.map_eq_some_iff.mp ((getElem?_mapI ..).symm.trans hp)
  exact ⟨rfl, rfl, rfl, rfl⟩

theorem restoreWaitTimeout_completes {s : State} (hmode : s.est.mode = .waitRestore) (ht : elapsed s s.est.modeSince (secNs 60) = true) :
    Completes (exec .restoreWaitTimeout s) fun t => (t.est.mode = .coldConverging ∨ t.est.mode = .running) ∧ t.est.coldAt = s.tick.now ∧
      ∀ e ∈ t.tab.poss, ColdPos e := by
  obtain ⟨hm, hat, hpos⟩ := coldStart_starts s
  obtain ⟨htab, hat', hm'⟩ := convergeCheck_cases (coldStart s)
  rw [show exec .restoreWaitTimeout s = .next (convergeCheck (coldStart s)) from if_pos (by simp [hmode, ht]), completes_next, htab]
  exact ⟨hm'.imp_left (·.trans hm), hat'.trans hat, hpos⟩

/-- Settles O8: each bank is applied once, and what follows the step keeps its marks. -/
theorem estimator : Obligations.Estimator := by
  unfold Obligations.Estimator
  refine ⟨fun s b hb hsp hmode hcores h4 h7 hseq => positionFilters_completes hb hsp hmode hcores h4 h7 hseq,
    fun s b hb hsp hcores hrested hrest => restMinReached_completes hb hsp hcores hrested hrest,
    fun s l hl h1 ht => capLearnTimeout_completes hl h1 ht, fun s job hjob => ?_,
    fun s hmode ht => restoreWaitTimeout_completes hmode ht, fun s hsp hj hdue hne hsoc => ?_⟩
  · rw [show exec (.estimationJobDone job) s = _ from if_neg (Nat.not_le.mpr hjob), completes_next]
    simp
  · rw [show exec .restoreBlobBuild s = _ from if_neg (by simpa [hsp, hj, hdue, hne] using hsoc), completes_next]
    exact ⟨rfl, rfl, _, rfl, rfl⟩

end Sys2Proof.Machine
end

section
/-! The tick edge and the duty transfer (R26, R30, R327). -/
namespace Sys2Proof.Machine

/-- In RUN on a module of its own: every port ran in the last period, the control loops of this one were late (R30), and a safe
stop has just begun. -/
def lateLoopState : State :=
  State.reset |> onStr (fun x => { x with state := .run, role := some .solo }) |> onProt (fun p => { p with stop := some { start := 0, lowWords := 0 } })
    |> onCnv (fun c => { c with ports := List.replicate 6 { last := .run } }) |> onTick (fun t => { t with keepDuty := true })

/-- Where the loops were late a port goes on as in the period before: RUN, though SAFE_OFF is wanted. -/
theorem lateLoop_keeps_running : (dutyTransfer lateLoopState).pins.gate[0]? = some .run ∧ gateWant lateLoopState 0 = .safeOff := by
  decide +kernel

/-- Refutes O10: with the loops late (`keepDuty`) a port that ran is not given what `gateWant` says, for the safe stop shows only in
the next transfer (R30). -/
theorem not_scheduleEdges : ¬ Obligations.ScheduleEdges := by
  intro h
  obtain ⟨-, -, transfer, -⟩ := h
  have ht := transfer lateLoopState (by decide) rfl
  have hx : exec .dutyTransfer lateLoopState = .next (mirrorBeat (dutyTransfer lateLoopState)) := by
    show execDutyTransfer lateLoopState = _
    exact if_neg (by decide)
  rw [hx, completes_next] at ht
  obtain ⟨-, -, hports, -⟩ := ht
  obtain ⟨r, -, hgate, -⟩ := hports 0 { last := .run } rfl
  have hpins : (mirrorBeat (dutyTransfer lateLoopState)).pins = (dutyTransfer lateLoopState).pins :=
    Frame.of_blank (mirrorBeat_blank (within_refl _) _) .pins rfl
  obtain ⟨hrun, hwant⟩ := lateLoop_keeps_running
  rw [hpins, hrun, hwant] at hgate
  exact absurd hgate (by decide)

end Sys2Proof.Machine
end

section
/-! Tick 16 and the deadlines missed (R27 to R32, R35, R38). -/
namespace Sys2Proof.Machine

/-! ### What a change of state leaves of the host's queue and of the set-points -/

section
variable (st : StringState) (cause : Nat) (s : State)

theorem captureAfter_commands : (captureAfter st s).host.commands = s.host.commands := by
  unfold captureAfter
  split <;> rfl

theorem dispatchAfter_spReq (old : StringState) : (dispatchAfter old st s).dsp.spReq = s.dsp.spReq := by
  unfold dispatchAfter
  split <;> rfl

theorem discardTimed_host : (discardTimed s).host = s.host :=
  Frame.of_blank (discardTimed_blank (within_refl _) s) .host rfl

theorem discardTimed_spReq : (discardTimed s).dsp.spReq = s.dsp.spReq := by
  simp only [discardTimed, apply_ite (fun t : State => t.dsp.spReq), log_dsp, onDsp_dsp, ite_self]

/-- What `setState` does before the string's parts follow it. -/
theorem setState_commands_spReq : (setState st cause s).host.commands = s.host.commands ∧ (setState st cause s).dsp.spReq = s.dsp.spReq := by
  have hauto : ∀ t, (autoSweepAfter st t).host = t.host ∧ (autoSweepAfter st t).dsp = t.dsp := fun t =>
    ⟨Frame.of_blank (autoSweepAfter_blank (within_refl _) st t) .host rfl, Frame.of_blank (autoSweepAfter_blank (within_refl _) st t) .dsp rfl⟩
  have hcap : ∀ t, (captureAfter st t).dsp = t.dsp := fun t => Frame.of_blank (captureAfter_blank (within_refl _) st t) .dsp rfl
  have hops : ∀ t, (opsAfter st t).host = t.host ∧ (opsAfter st t).dsp = t.dsp := fun t =>
    ⟨Frame.of_blank (opsAfter_blank (within_refl _) st t) .host rfl, Frame.of_blank (opsAfter_blank (within_refl _) st t) .dsp rfl⟩
  have htw : ∀ t, (twLimitAfter st t).host = t.host ∧ (twLimitAfter st t).dsp = t.dsp := fun t =>
    ⟨Frame.of_blank (twLimitAfter_blank (within_refl _) st t) .host rfl, Frame.of_blank (twLimitAfter_blank (within_refl _) st t) .dsp rfl⟩
  have hdisp : ∀ old t, (dispatchAfter old st t).host = t.host := fun old t =>
    Frame.of_blank (dispatchAfter_blank (within_refl _) old st t) .host rfl
  have hlim : ∀ t, (limitedStart t).host = t.host ∧ (limitedStart t).dsp = t.dsp := fun t =>
    ⟨Frame.of_blank (limitedStart_blank (within_refl _) t) .host rfl, Frame.of_blank (limitedStart_blank (within_refl _) t) .dsp rfl⟩
  unfold setState
  dsimp only
  rw [(hauto _).1, (hauto _).2, captureAfter_commands, hcap, (hops _).1, (hops _).2, (htw _).1, (htw _).2, hdisp, dispatchAfter_spReq]
  constructor
  · simp only [apply_ite State.host, onIso_host, (hlim _).1, discardTimed_host, log_host, onStr_host, ite_self]
  · simp only [apply_ite (fun t : State => t.dsp.spReq), onIso_dsp, (hlim _).2, discardTimed_spReq, log_dsp, onStr_dsp, ite_self]

end

/-! ### Item 0x14 -/

/-- No contactor is wrong: every mirror contact agrees, and in STANDBY none reads closed without its coil. -/
def DrivesGood (s : State) : Prop :=
  (∀ k, (contAt s k).hsOk = true) ∧ (s.str.state = .standby → ∀ k, (contAt s k).aux = true → (contAt s k).coil = true ∨ (contAt s k).state ≠ 0)

theorem contAt_onContactor (k : Nat) (g : Contactor → Contactor) (s : State) (j : Nat) :
    contAt (onContactor k g s) j = contAt s j ∨ contAt (onContactor k g s) j = g (contAt s j) := by
  rcases k with _ | _ | k <;> rcases j with _ | _ | j <;> first | exact .inl rfl | exact .inr rfl

theorem coilFrame_good {s : State} (hs : DrivesGood s) (k : Nat) : DrivesGood (coilFrame k s) ∧ (coilFrame k s).str = s.str := by
  have hon : ∀ f : Contactor → Nat, DrivesGood (onContactor k (fun c => { c with badFrames := f c }) s) := fun f => by
    have hsame : ∀ j, ∃ n, contAt (onContactor k (fun c => { c with badFrames := f c }) s) j = { contAt s j with badFrames := n } := fun j => by
      obtain h | h := contAt_onContactor k (fun c => { c with badFrames := f c }) s j
      · exact ⟨_, h⟩
      · exact ⟨_, h⟩
    refine ⟨fun j => ?_, fun hst j => ?_⟩
    · obtain ⟨n, h⟩ := hsame j
      rw [h]; exact hs.1 j
    · obtain ⟨n, h⟩ := hsame j
      rw [h]; exact hs.2 hst j
  unfold coilFrame
  dsimp only
  split
  · exact ⟨hs, rfl⟩
  · rw [if_pos (by rw [hs.1 k, Bool.true_or])]
    exact ⟨hon _, rfl⟩

theorem standbyAux_good {s : State} (hs : DrivesGood s) (k : Nat) : standbyAux k s = s := by
  refine if_neg fun h => ?_
  simp only [Bool.and_eq_true, decide_eq_true_eq, Bool.not_eq_true'] at h
  obtain ⟨⟨⟨⟨-, hst⟩, haux⟩, hcoil⟩, h0⟩ := h
  obtain h1 | h1 := hs.2 hst k haux
  · exact absurd (h1.symm.trans hcoil) (by decide)
  · exact h1 h0

theorem driveUpdate_str {s : State} (hs : DrivesGood s) : (driveUpdate s).str = s.str := by
  obtain ⟨h0, e0⟩ := coilFrame_good hs 0
  obtain ⟨h1, e1⟩ := coilFrame_good h0 1
  obtain ⟨h2, e2⟩ := coilFrame_good h1 2
  have hsafe : ∀ t, (refreshSafeOut t).str = t.str := fun t => Frame.of_blank (refreshSafeOut_blank (within_refl _) t) .str rfl
  have hbal : ∀ t, (balZero t).str = t.str := fun t => Frame.of_blank (balZero_blank (within_refl _) t) .str rfl
  unfold driveUpdate
  rw [standbyAux_good h2 0, standbyAux_good h2 1, standbyAux_good h2 2, hbal, hsafe, e2, e1, e0]

/-! ### The triggers -/

/-- With no command and no set-point waiting, tick 16 leaves the string as its triggers leave it. -/
theorem tick16_completes {s : State} (hrun : running s = true) (hrung : s.lad.rung = 0) (hj : s.tick.j = 16)
    (hcmd : (applyTriggers s).host.commands = []) (hsp : (applyTriggers s).dsp.spReq = none) (hgood : DrivesGood (applyTriggers s)) :
    Completes (exec .tick16Evaluation s) fun t => t.str = (applyTriggers s).str := by
  have hans : spAnswer (evalCommands (applyTriggers s).host.commands.length (applyTriggers s)) = applyTriggers s := by
    rw [hcmd]
    show spAnswer (applyTriggers s) = _
    unfold spAnswer
    rw [hsp]
  have hx : exec .tick16Evaluation s = .next (if running (applyTriggers s) then driveUpdate (applyTriggers s) else applyTriggers s) := by
    show execTick16Evaluation s = _
    unfold execTick16Evaluation
    rw [if_neg (by simp [hrun, hrung, hj])]
    dsimp only
    rw [hans]
  rw [hx, completes_next]
  split
  · exact driveUpdate_str hgood
  · rfl

section
variable {s : State} (hsp : isSp s = false)
include hsp

theorem applyTrigger_prechargeDone (hst : s.str.state = .precharge) : applyTrigger s .prechargeDone =
    setState .closed 0 (onStr (fun x => { x with prechargeTimeouts := 0 }) (onCont (fun c => { c with step := .idle }) (coilOff 2 s))) := by
  rw [applyTrigger, if_neg (by simp [hsp])]
  simp [hst]

theorem applyTrigger_stoppingDone (hst : s.str.state = .stopping) : applyTrigger s .stoppingDone =
    onCont (fun c => { c with opening := 0, zeroSince := none }) (setState (s.str.stopTarget.getD .standby) 0 s) := by
  rw [applyTrigger, if_neg (by simp [hsp])]
  simp [hst]

theorem applyTrigger_twilightRaised (hst : s.str.state = .run) (htw : twArmed s = true) :
    applyTrigger s .twilightRaised = setState .twilight 0x0A50 s := by
  rw [applyTrigger, if_neg (by simp [hsp])]
  split
  all_goals simp_all

end

/-- A change of state leaves tick 16 with no command, no set-point and the contactors as they are. -/
theorem tick16Ready_setState {u : State} (st : StringState) (cause : Nat) (hcmd : u.host.commands = []) (hspr : u.dsp.spReq = none)
    (hgood : (∀ k, (contAt u k).hsOk = true) ∧ (st = .standby → ∀ k, (contAt u k).aux = true → (contAt u k).coil = true ∨ (contAt u k).state ≠ 0)) :
    (setState st cause u).host.commands = [] ∧ (setState st cause u).dsp.spReq = none ∧ DrivesGood (setState st cause u) := by
  obtain ⟨h1, h2⟩ := setState_commands_spReq st cause u
  have hc : ∀ k, contAt (setState st cause u) k = contAt u k := fun k => by unfold contAt; rw [setState_cont]
  refine ⟨h1.trans hcmd, h2.trans hspr, fun k => (hc k).symm ▸ hgood.1 k, fun hst k => (hc k).symm ▸ hgood.2 ?_ k⟩
  rw [setState_str] at hst
  exact hst

theorem coilOff_hsOk {s : State} (k : Nat) {j : Nat} (hs : (contAt s j).hsOk = true) : (contAt (coilOff k s) j).hsOk = true := by
  have habort : contAt (coilOff k s) j = contAt (onContactor k (Contactor.drop s.tick.now) s) j := by
    unfold coilOff abortPulse
    split
    · split <;> rfl
    · rfl
  rw [habort]
  obtain h | h := contAt_onContactor k (Contactor.drop s.tick.now) s j <;> rw [h]
  · exact hs
  · unfold Contactor.drop
    split
    · rfl
    · exact hs

/-- Settles O11: the triggers are judged before item 0x14, which leaves a string without a bad contactor as it is. -/
theorem tick16AndOverrun : Obligations.Tick16AndOverrun := by
  unfold Obligations.Tick16AndOverrun
  refine ⟨fun s hrun hrung hj hcmd hspr hsp hhs haux => ?_, fun s item hitem hlt => ?_, fun s k hk hitem hlate hlen hruns => ?_⟩
  · let u := onStr (fun x => { x with triggers := [] }) s
    have hx : ∃ v, exec .tick16Evaluation s = .next v := ⟨_, if_neg (by simp [hrun, hrung, hj])⟩
    obtain ⟨v, hx⟩ := hx
    have key : ∀ t : State, applyTriggers s = t → t.host.commands = [] ∧ t.dsp.spReq = none ∧ DrivesGood t → v.str = t.str := by
      rintro _ rfl ⟨h1, h2, h3⟩
      have h := tick16_completes hrun hrung hj h1 h2 h3
      rwa [hx, completes_next] at h
    have one : ∀ x, s.str.triggers = [x] → applyTriggers s = applyTrigger u x := fun x hx => by
      rw [applyTriggers, hx]; rfl
    rw [hx, completes_next]
    refine ⟨fun ht => ?_, fun ht hst => ?_, fun ht hst => ?_, fun ht hst htw => ?_⟩
    · have h := key s (by rw [applyTriggers, ht, List.foldl_nil]; rw [← ht]; rfl) ⟨hcmd, hspr, hhs, fun _ => haux⟩
      exact h
    · have hoff : ∀ w : State, (coilOff 2 w).host = w.host ∧ (coilOff 2 w).dsp = w.dsp := fun w =>
        ⟨Frame.of_blank (coilOff_blank (within_refl _) 2 w) .host rfl, Frame.of_blank (coilOff_blank (within_refl _) 2 w) .dsp rfl⟩
      have hu : (coilOff 2 u).str = u.str := Frame.of_blank (coilOff_blank (within_refl _) 2 u) .str rfl
      have h := key _ ((one _ ht).trans (applyTrigger_prechargeDone (s := u) hsp hst)) (tick16Ready_setState _ _
        ((congrArg HostSt.commands (hoff u).1).trans hcmd) ((congrArg DispSt.spReq (hoff u).2).trans hspr) ⟨fun k => coilOff_hsOk 2 (hhs k), nofun⟩)
      rw [h, setState_str]
      exact ⟨rfl, rfl, congrArg StringSt.triggers hu⟩
    · have h := key _ ((one _ ht).trans (applyTrigger_stoppingDone (s := u) hsp hst)) (tick16Ready_setState (u := u) _ _ hcmd hspr ⟨hhs, fun _ => haux⟩)
      rw [h, onCont_str, setState_str]
      exact ⟨rfl, rfl⟩
    · have h := key _ ((one _ ht).trans (applyTrigger_twilightRaised (s := u) hsp hst htw)) (tick16Ready_setState (u := u) _ _ hcmd hspr ⟨hhs, nofun⟩)
      rw [h, setState_str]
      exact ⟨rfl, rfl, rfl⟩
  · rw [show exec (.tickOverrun item) s = _ from (if_neg (by simp [hitem])).trans (if_pos hlt), completes_next]
    exact ⟨ModuleFaulted.congr (moduleFault_faulted (s := log _ _ _ _ _) _ _) (by simp) (by simp) (by simp), by simp⟩
  · have hx : exec (.tickOverrun (0x20 + k)) s = .next (scanLate (0x20 + k - 0x20) s) :=
      (if_neg (by simp [hitem])).trans (if_neg (by omega))
    have hlate' : nth true s.tick.late k = false := by
      rw [nth_eq_getD] at hlate ⊢
      simpa [List.getElem?_eq_getElem (hlen.symm ▸ hk : k < s.tick.late.length)] using hlate
    rw [hx, Nat.add_sub_cancel_left, completes_next, scanLate, hlate']
    unfold recordRun
    simp only [Bool.false_eq_true, if_false, setTw_tick, log_tick, onTick_tick]
    exact ⟨nth_setAt_self _ _ (hlen.symm ▸ hk), nth_setAt_self _ _ (hruns.symm ▸ hk)⟩

end Sys2Proof.Machine
end

section
/-! The supply: dips, the loss of J1, its return, and the faults of rails and sensor supplies (R88 to R100). -/
namespace Sys2Proof.Machine

/-! ### What a safe stop, a FAULT and a Dawn leave of the pins and the supply -/

/-- A safe stop touches no pin but the gate links. -/
theorem safeStop_pins (trip : Bool) (s : State) : ∃ g, (safeStop trip s).pins = { s.pins with gate := g } := by
  have h : (if trip then openSafeOut s else s).pins = s.pins := by
    split
    · exact Frame.of_blank (openSafeOut_blank (within_refl _) s) .pins rfl
    · rfl
  unfold safeStop
  dsimp only
  split
  · exact ⟨s.pins.gate, h⟩
  · exact ⟨_, by rw [← h]; rfl⟩

theorem decideFault_pins (code cls fn : Nat) (s : State) : ∃ g, (decideFault code cls false fn s).pins = { s.pins with gate := g } := by
  have hlatch : ∀ t, (latchClass2 code cls t).pins = t.pins := fun t => Frame.of_blank (latchClass2_blank (within_refl _) code cls t) .pins rfl
  obtain ⟨g, hg⟩ := safeStop_pins false (latchClass2 code cls
    (onStr (fun x => { x with causes := latchCause { code := code, cls := cls, trip := false, fn := fn } x.causes }) s))
  refine ⟨g, ?_⟩
  rw [hlatch] at hg
  unfold decideFault
  simp only [Bool.false_eq_true, if_false]
  split
  · rw [setState_pins]; exact hg
  · exact hg

theorem hardwareFault_pins (code cls : Nat) (s : State) : ∃ g, (hardwareFault code cls s).pins = { s.pins with gate := g } := by
  unfold hardwareFault
  split
  · refine ⟨s.pins.gate, ?_⟩
    rw [show (standbyFault _).pins = _ from Frame.of_blank (standbyFault_blank (within_refl _) _) .pins rfl]
    exact Frame.of_blank (latchClass2_blank (within_refl _) code cls s) .pins rfl
  · exact decideFault_pins code cls 0 s

/-- The ladder but for its rung. -/
theorem Frame.lad_but_rung {l : List Part} {s t : State} (h : Frame l s t) (hl : l.contains .lad = false) :
    t.lad = { s.lad with rung := t.lad.rung, rungSince := t.lad.rungSince, rungTime := t.lad.rungTime } := by
  have a : { t.lad with rung := 0, rungSince := 0, rungTime := [] } = { s.lad with rung := 0, rungSince := 0, rungTime := [] } := h .lad hl
  exact congrArg (fun x : LadderSt => { x with rung := t.lad.rung, rungSince := t.lad.rungSince, rungTime := t.lad.rungTime }) a

theorem running_congr {s t : State} (hstr : t.str = s.str) (hpwr : t.pwr = s.pwr) (hfrozen : t.lad.frozen = s.lad.frozen)
    (hunpowered : t.lad.unpowered = s.lad.unpowered) : running t = running s := by
  simp only [running, inOff, hstr, hpwr, hfrozen, hunpowered]

theorem running_log (src code sev : Nat) (data : Bytes) (s : State) : running (log src code sev data s) = running s := by
  have h := (log_frame s src code sev data).lad_but_rung rfl
  exact running_congr (log_str ..) (log_pwr ..) (congrArg LadderSt.frozen h :) (congrArg LadderSt.unpowered h :)

/-! ### A Dawn begins -/

section
variable (reason : Nat) (s : State)

theorem newDawn_state : (newDawn reason s).str.state = .dawn := rfl
theorem newDawn_reason : (newDawn reason s).dawn.reason = reason := rfl
theorem newDawn_powered : (newDawn reason s).lad.unpowered = false := rfl
theorem newDawn_rung : (newDawn reason s).lad.rung = 0 := rfl

theorem beforeDawn_pwr : (beforeDawn reason s).pwr = s.pwr := Frame.of_blank (beforeDawn_blank (within_refl _) reason s) .pwr rfl
theorem beforeDawn_idn : (beforeDawn reason s).idn = s.idn := Frame.of_blank (beforeDawn_blank (within_refl _) reason s) .idn rfl

theorem newDawn_j1Ok : (newDawn reason s).pwr.j1Ok = s.pwr.j1Ok := by
  rw [← beforeDawn_pwr reason s]; rfl
theorem newDawn_railFault : (newDawn reason s).pwr.railFault = s.pwr.railFault := by
  rw [← beforeDawn_pwr reason s]; rfl
theorem newDawn_dawnCnt : (newDawn reason s).idn.dawnCnt = (s.idn.dawnCnt + 1) % 4294967296 :=
  by rw [← beforeDawn_idn reason s]; rfl

end

/-- A Dawn after OFF or power-up. -/
theorem wakeDawn_starts (reason cause : Nat) (s : State) : (wakeDawn reason cause s).str.state = .dawn ∧
    (wakeDawn reason cause s).dawn.reason = reason ∧ (wakeDawn reason cause s).lad.wakeCause = cause :=
  ⟨newDawn_state reason s, newDawn_reason reason s, rfl⟩

/-! ### Dips and AUX_LOST -/

theorem declareAuxLost_declares (atOnce : Bool) (s : State) : (declareAuxLost atOnce s).pwr.j1Ok = s.pwr.j1Ok ∧
    (declareAuxLost atOnce s).pwr.stage = .lost ∧ (declareAuxLost atOnce s).pwr.lostAtOnce = atOnce ∧ (declareAuxLost atOnce s).pins.diOn = false ∧
    (sfRuns s = true → (declareAuxLost atOnce s).prot.stop ≠ none) := by
  generalize hu : log srcSafety 0x1102 2 [] (onPins (fun p => { p with diOn := false })
    (onPwr (fun p => { p with stage := .lost, lostAtOnce := atOnce, returned := false }) s)) = u
  have hpwr : u.pwr = { s.pwr with stage := .lost, lostAtOnce := atOnce, returned := false } := by rw [← hu, log_pwr]; rfl
  have hdi : u.pins.diOn = false := by rw [← hu, log_pins]; rfl
  have hsf : sfRuns u = sfRuns s := by
    rw [← hu, sfRuns, sfRuns, owning, owning, log_str, log_cfg]; rfl
  have hx : declareAuxLost atOnce s = if sfRuns u then safeStop false u else u := by rw [← hu]; rfl
  rw [hx, ← hsf]
  split
  · obtain ⟨g, hg⟩ := safeStop_pins false u
    rw [safeStop_pwr, hpwr, hg]
    obtain ⟨-, -, -, hstop, -⟩ := safeStop_kept (s := u) false
    exact ⟨rfl, rfl, rfl, hdi, fun _ => hstop⟩
  · next h => rw [hpwr]; exact ⟨rfl, rfl, rfl, hdi, fun h' => absurd h' h⟩

/-- J1 down while the module runs and no dip is under way. -/
theorem j1Down_of_running {s : State} (hrun : running s = true) (hstage : s.pwr.stage = .none) : j1Down s =
    (let s2 := onPwr (fun p => { p with j1Ok := false, dipStart := s.tick.now, dipAge := 0, returned := false }) s
     if s.pwr.holdupReady && !s.pwr.insufficient then onPwr (fun p => { p with stage := .dip }) s2 else declareAuxLost true s2) := by
  have hc : ¬((!running (onPwr (fun p => { p with j1Ok := false }) s) || decide ((onPwr (fun p => { p with j1Ok := false }) s).pwr.stage ≠ .none)) = true) := by
    rw [show running (onPwr _ s) = running s from rfl, hrun, show (onPwr _ s).pwr.stage = s.pwr.stage from rfl, hstage]
    decide
  exact if_neg hc

/-- J1 up during a dip ends and counts it. -/
theorem j1Up_of_dip {s : State} (h : s.pwr.stage = .dip) : (j1Up s).pwr = { s.pwr with j1Ok := true, stage := .none, dipCnt := satInc 32 s.pwr.dipCnt } := by
  have hx : j1Up s = log srcAon 0x1101 1 (u32 (dipTime (onPwr (fun p => { p with j1Ok := true }) s) / 1000))
      (onPwr (fun p => { p with stage := .none, dipCnt := satInc 32 p.dipCnt }) (onPwr (fun p => { p with j1Ok := true }) s)) := by
    unfold j1Up
    simp only [onPwr_pwr, h]
  rw [hx, log_pwr]; rfl

theorem j1Up_of_sequence {s : State} (h : s.pwr.stage = .lost ∨ s.pwr.stage = .save) :
    j1Up s = onPwr (fun p => { p with j1Ok := true, returned := true }) s := by
  unfold j1Up
  obtain h | h := h <;> simp only [onPwr_pwr, h] <;> rfl

/-- Settles O18: each event of J1 goes on from the stage that the supply is in. -/
theorem supplyDips : Obligations.SupplyDips := by
  unfold Obligations.SupplyDips
  have low : ∀ s, s.pwr.j1High = true → s.pwr.j1Ok = true → s.lad.unpowered = false →
      exec .j1BelowThreshold s = .next (j1Down (onPwr (fun p => { p with j1High := false }) s)) := fun s hhigh hok hpow =>
    (if_neg (by simp [hhigh, hpow])).trans (congrArg Host.Outcome.next (if_pos hok))
  have high : ∀ s, s.pwr.j1High = false → s.pwr.auxOv = false → s.lad.unpowered = false →
      exec .j1Restored s = .next (j1Up (onPwr (fun p => { p with j1High := true }) s)) := fun s hhigh hov hpow =>
    (if_neg (by simp [hhigh, hpow])).trans (congrArg Host.Outcome.next (if_neg (by simp [hov])))
  refine ⟨?_, ?_, ?_, ?_, ?_, ?_, ?_, ?_, ?_⟩
  · intro s hhigh hok hpow hrun hstage hready hins
    let u := onPwr (fun p => { p with j1High := false }) s
    rw [low s hhigh hok hpow, completes_next, j1Down_of_running (s := u) hrun hstage]
    dsimp only
    rw [if_pos (by simp [u, hready, hins])]
    exact ⟨rfl, rfl, rfl, Frame.of_blank rfl⟩
  · intro s hhigh hok hpow hrun hstage hready
    let u := onPwr (fun p => { p with j1High := false }) s
    rw [low s hhigh hok hpow, completes_next, j1Down_of_running (s := u) hrun hstage]
    dsimp only
    rw [if_neg (by simp [u, hready])]
    exact declareAuxLost_declares true _
  · intro s hhigh hov hpow hstage
    let u := onPwr (fun p => { p with j1High := true }) s
    rw [high s hhigh hov hpow, completes_next, j1Up_of_dip (s := u) hstage]
    exact ⟨rfl, rfl, rfl⟩
  · intro s hhigh hov hpow hstage
    let u := onPwr (fun p => { p with j1High := true }) s
    rw [high s hhigh hov hpow, completes_next, j1Up_of_sequence (s := u) hstage]
    exact ⟨rfl, rfl, rfl, Frame.of_blank rfl⟩
  · intro s hov hpow hok hrun hstage hready hins
    let u := log srcAon 0x1104 2 [] (onPwr (fun p => { p with auxOv := true }) s)
    have hpwr : u.pwr = { s.pwr with auxOv := true } := log_pwr ..
    have hrun' : running u = true := (running_log ..).trans hrun
    have hx : exec .auxOvervoltage s = .next (j1Down u) :=
      (if_neg (by simp [hov, hpow])).trans (congrArg Host.Outcome.next (if_pos (by rw [log_pwr]; exact hok)))
    rw [hx, completes_next, j1Down_of_running hrun' (by rw [hpwr]; exact hstage)]
    dsimp only
    rw [hpwr, if_pos (by simp [hready, hins])]
    exact ⟨congrArg PowerSt.auxOv hpwr, rfl, rfl⟩
  · intro s hov hpow hstage hoff
    rw [show exec .auxOvervoltageCleared s = _ from if_neg (by simp [hov, hpow]), completes_next]
    split
    · next hh =>
      let u := onPwr (fun p => { p with auxOv := false }) s
      have hj : j1Up u = onPwr (fun p => { p with j1Ok := true }) u := by
        have hst : (onPwr (fun p => { p with j1Ok := true }) u).pwr.stage = .none := hstage
        unfold j1Up
        simp only [hst]
        exact if_neg (by simp [show inOff (onPwr (fun p => { p with j1Ok := true }) u) = false from hoff])
      rw [hj, show s.pwr.j1High = true from hh, Bool.or_true]
      exact ⟨rfl, rfl, Frame.of_blank rfl⟩
    · next hh =>
      rw [show s.pwr.j1High = false from Bool.eq_false_iff.mpr hh, Bool.or_false]
      exact ⟨rfl, rfl, Frame.of_blank rfl⟩
  · intro s hstage hdip
    rw [show exec .auxLost s = _ from if_pos (by simp [hstage, hdip]), completes_next]
    exact (declareAuxLost_declares false s).2
  · intro s hstage hdue
    have hx : exec .fullOperationEnd s = .next (closeOpen (onPwr (fun p => { p with stage := .save }) (onPair (fun p => { p with linkUp := false })
        (onPins (fun p => { p with sensOn := false, sfpOn := false, sfpUp := false }) s)))) := by
      refine if_pos ?_
      split at hdue <;> simp_all
    rw [hx, completes_next]
    unfold closeOpen
    split
    · next hnone =>
      rw [show s.rcd.openRec = none from hnone]
      exact ⟨rfl, rfl, rfl, hnone, rfl⟩
    · next r at_ hsome =>
      rw [if_neg (by rw [show s.rcd.openRec = some (r, at_) from hsome]; nofun)]
      exact ⟨rfl, rfl, rfl, rfl, List.length_append ..⟩
  · intro s hhigh hov hpow hstage hoff haux hfrozen
    let u := onPwr (fun p => { p with j1High := true }) s
    have hj : j1Up u = wakeDawn 2 4 (onPwr (fun p => { p with j1Ok := true }) u) := by
      have hst : (onPwr (fun p => { p with j1Ok := true }) u).pwr.stage = .none := hstage
      unfold j1Up
      simp only [hst]
      exact if_pos (by simp [show inOff (onPwr (fun p => { p with j1Ok := true }) u) = true from hoff, u, haux, hfrozen])
    rw [high s hhigh hov hpow, completes_next, hj]
    exact wakeDawn_starts 2 4 _

end Sys2Proof.Machine
end

section
/-! The end of the save, OFF, and the faults of the supplies (R90 to R100, R527, R530). -/
namespace Sys2Proof.Machine

/-! ### The recorder's buffer through a change of state -/

/-- The recorder holds the same closed and open records. -/
def SameBuffer (s t : State) : Prop := t.rcd.buffer = s.rcd.buffer ∧ t.rcd.openRec = s.rcd.openRec

namespace SameBuffer
variable {s t u : State}

theorem refl (s : State) : SameBuffer s s := ⟨rfl, rfl⟩
theorem trans (h : SameBuffer s t) (h' : SameBuffer t u) : SameBuffer s u := ⟨h'.1.trans h.1, h'.2.trans h.2⟩

theorem of_frame {l : List Part} (h : Frame l s t) (hr : l.contains .rcd = false) : SameBuffer s t :=
  have a : { t.rcd with freezeSession := 0 } = { s.rcd with freezeSession := 0 } := h .rcd hr
  ⟨(congrArg RecSt.buffer a :), (congrArg RecSt.openRec a :)⟩

theorem ite {c : Prop} [Decidable c] (ht : SameBuffer s t) (hu : SameBuffer s u) : SameBuffer s (if c then t else u) := by
  split
  · exact ht
  · exact hu

end SameBuffer

section
variable (s : State)

theorem log_sameBuffer (src code sev : Nat) (data : Bytes) : SameBuffer s (log src code sev data s) := .of_frame (log_frame s src code sev data) rfl

theorem closeOp_sameBuffer (kind status : Nat) : SameBuffer s (closeOp kind status s) := by
  unfold closeOp
  split
  · exact ⟨rfl, rfl⟩
  · have h : SameBuffer s (onMet (fun m => { m with sysCal := none, frozen := none }) (calRelease s)) :=
      .of_frame (Frame.of_blank (l := [.met]) ((onMet_blank rfl _ _).trans (calRelease_blank (within_refl _) s))) rfl
    dsimp only
    split
    · exact h.trans (log_sameBuffer ..)
    · exact h
  · exact ⟨rfl, rfl⟩
  · exact log_sameBuffer ..
  · exact ⟨rfl, rfl⟩
  · exact ⟨rfl, rfl⟩
  · exact .refl s

theorem opsAfter_sameBuffer (st : StringState) : SameBuffer s (opsAfter st s) := by
  refine List.foldlRecOn s.ops.ops _ (motive := SameBuffer s) (.refl s) fun t ht o _ => ht.trans ?_
  have hsuspend : SameBuffer t (suspendPart o.kind t) := .of_frame (Frame.of_blank (suspendPart_blank (within_refl _) o.kind t)) rfl
  exact .ite (.refl t) (.ite (closeOp_sameBuffer ..) (.ite hsuspend (.refl t)))

theorem limitedStart_sameBuffer : SameBuffer s (limitedStart s) := by
  unfold limitedStart SameBuffer
  simp only [onRcd]
  split <;> exact ⟨rfl, rfl⟩

theorem setState_sameBuffer (st : StringState) (cause : Nat) : SameBuffer s (setState st cause s) := by
  unfold setState
  dsimp only
  refine .trans ?_ (.of_frame (Frame.of_blank (autoSweepAfter_blank (within_refl _) st _)) rfl)
  refine .trans ?_ (.of_frame (Frame.of_blank (captureAfter_blank (within_refl _) st _)) rfl)
  refine .trans ?_ (opsAfter_sameBuffer _ st)
  refine .trans ?_ (.of_frame (Frame.of_blank (twLimitAfter_blank (within_refl _) st _)) rfl)
  refine .trans ?_ (.of_frame (Frame.of_blank (dispatchAfter_blank (within_refl _) _ st _)) rfl)
  generalize hu : log srcSafety 0x0AF0 _ _ _ = u
  have hlog : SameBuffer s u := .trans (t := onStr _ s) ⟨rfl, rfl⟩ (hu ▸ log_sameBuffer ..)
  have hdiscard : SameBuffer u (discardTimed u) := .of_frame (Frame.of_blank (discardTimed_blank (within_refl _) u)) rfl
  have hiso : ∀ t g, SameBuffer t (onIso g t) := fun t g => ⟨rfl, rfl⟩
  refine .ite (.trans ?_ (hiso _ _)) ?_
  all_goals refine .ite (.trans ?_ (limitedStart_sameBuffer _)) ?_
  all_goals exact .ite (hlog.trans hdiscard) hlog

end

/-! ### OFF -/

theorem setRung_rung {n : Nat} (hn : n ≠ 1) (s : State) : (setRung n s).lad.rung = n := by
  unfold setRung
  split
  · assumption
  · rw [log_lad hn]; rfl

/-- OFF at a rung (R33, R528): the outputs off, the supply and the recorder's buffer as they were. -/
theorem enterOff_off {rung : Nat} (hr : rung ≠ 1) (cause : Nat) (aux : Bool) (s : State) :
    (enterOff rung cause aux s).str.state = .off ∧ (enterOff rung cause aux s).str.cause = cause ∧ (enterOff rung cause aux s).lad.rung = rung ∧
    (enterOff rung cause aux s).lad.offByAux = aux ∧ (enterOff rung cause aux s).pins.gate = List.replicate 6 .dark ∧
    (enterOff rung cause aux s).prot.safeOut = false ∧ (enterOff rung cause aux s).pair.ownOut = false ∧ SameBuffer s (enterOff rung cause aux s) := by
  let a := onStr (fun x => { x with mirrored := false }) (setState .off cause s)
  let b := onProt (fun p => { p with stop := none, evaluating := false }) (loadsOff (rung = 2) (canOff (outputsOff a)))
  have hx : enterOff rung cause aux s = onLad (fun l => { l with offByAux := aux, activeSeen := false }) (setRung rung b) := rfl
  have hset : Frame [.deferred, .irq, .rings, .logFreeze, .lad, .rung] b (setRung rung b) := Frame.of_blank (setRung_blank (within_refl _) rung b)
  have hb : Frame [.pins, .thm, .prot, .cont, .pair, .can] a b := by
    refine Frame.of_blank ?_
    simp (disch := decide) only [b, onProt_blank, loadsOff_blank, canOff_blank, outputsOff_blank]
  have hstr : (setRung rung b).str = a.str := (hset .str rfl).trans (hb .str rfl)
  have hgate : b.pins.gate = List.replicate 6 .dark := by simp [b, loadsOff, canOff, outputsOff]
  have hsafe : b.prot.safeOut = false := by
    have hoff : (outputsOff a).prot.safeOut = false := by
      simp [outputsOff, openImd, abortPulse_kept, openSafeOut_kept]
    simp [b, loadsOff, canOff, hoff]
  have hown : b.pair.ownOut = false := by simp [b, loadsOff, canOff, outputsOff]
  have hoff : SameBuffer a b := .of_frame hb rfl
  have hbuf : SameBuffer s b := (setState_sameBuffer s .off cause).trans hoff
  have hbuf' : SameBuffer b (setRung rung b) := .of_frame hset rfl
  rw [hx]
  refine ⟨?_, ?_, setRung_rung hr b, rfl, (congrArg PinSt.gate (hset .pins rfl)).trans hgate, (congrArg ProtSt.safeOut (hset .prot rfl)).trans hsafe,
    (congrArg PairSt.ownOut (hset .pair rfl)).trans hown, hbuf.trans hbuf'⟩
  · exact (congrArg StringSt.state hstr).trans (by simp [a])
  · exact (congrArg StringSt.cause hstr).trans (by simp [a])

theorem enterOff_pwr (rung cause : Nat) (aux : Bool) (s : State) : (enterOff rung cause aux s).pwr = s.pwr :=
  Frame.of_blank (enterOff_blank (within_refl _) rung cause aux s) .pwr rfl

/-! ### The end of the save -/

theorem flushBuffer_empties (s : State) : (flushBuffer s).rcd.buffer = [] ∧ (flushBuffer s).rcd.openRec = none := by
  have hstore : ∀ r t, SameBuffer t (storeRecord r t) := fun r t => by
    unfold storeRecord
    dsimp only
    split <;> split <;> exact ⟨rfl, rfl⟩
  exact List.foldlRecOn (bufferedRecords s) (fun t r => storeRecord r t) (motive := SameBuffer (onRcd (fun c => { c with buffer := [], openRec := none }) s))
    (.refl _) fun t ht r _ => ht.trans (hstore r t)

/-- The state of the save's end: OFF at Night, by AUX_LOST. -/
def saveEnd (saved : Bool) (s : State) : State :=
  brownOutJournal saved (if saved then flushBuffer s else s) |> enterOff 4 0x1102 true
    |> onPwr (fun p => { p with stage := .none, holdupReady := false }) |> onLad (fun l => { l with retained := !saved })

theorem saveEnd_pwr (saved : Bool) (s : State) : (saveEnd saved s).pwr = { s.pwr with stage := .none, holdupReady := false } := by
  have hjrn : ∀ t, (brownOutJournal saved t).pwr = t.pwr := fun t => Frame.of_blank (brownOutJournal_blank (within_refl _) saved t) .pwr rfl
  have hflush : (if saved then flushBuffer s else s).pwr = s.pwr := by
    split
    · exact Frame.of_blank (flushBuffer_blank (within_refl _) s) .pwr rfl
    · rfl
  unfold saveEnd
  rw [onLad_pwr, onPwr_pwr, enterOff_pwr, hjrn, hflush]

theorem saveEnd_sameBuffer (saved : Bool) (s : State) : SameBuffer (if saved then flushBuffer s else s) (saveEnd saved s) := by
  have hjrn : ∀ t, SameBuffer t (brownOutJournal saved t) := fun t => .of_frame (Frame.of_blank (brownOutJournal_blank (within_refl _) saved t)) rfl
  obtain ⟨-, -, -, -, -, -, -, hoff⟩ := enterOff_off (rung := 4) (by decide) 0x1102 true (brownOutJournal saved (if saved then flushBuffer s else s))
  have hrest : ∀ t f g, SameBuffer t (onLad f (onPwr g t)) := fun t f g => ⟨rfl, rfl⟩
  exact ((hjrn _).trans hoff).trans (hrest _ _ _)

theorem exec_brownOutSaveComplete {s : State} (hstage : s.pwr.stage = .save) (saved : Bool) :
    exec (.brownOutSaveComplete saved) s = .next (if s.pwr.j1Ok then wakeDawn 2 4 (saveEnd saved s) else saveEnd saved s) := by
  have hj : (saveEnd saved s).pwr.j1Ok = s.pwr.j1Ok := by rw [saveEnd_pwr]
  rw [← hj]
  exact if_neg (by simp [hstage])

theorem HardwareFaulted.congr {code cls : Nat} {s s' t : State} (h : HardwareFaulted code cls s t) (hstr : s'.str = s.str)
    (hprot : s'.prot = s.prot) (hpair : s'.pair = s.pair) : HardwareFaulted code cls s' t := by
  simpa only [HardwareFaulted, LocalFaulted, FaultedBy, hstr, hprot, hpair] using h

/-- Settles O19: the save, the return of J1 and the supplies' faults lead to OFF, to Dawn or to FAULT. -/
theorem supplyLossAndReturn : Obligations.SupplyLossAndReturn := by
  unfold Obligations.SupplyLossAndReturn
  refine ⟨?_, ?_, ?_, ?_, ?_, ?_, ?_, ?_⟩
  · intro s hstage hj
    obtain ⟨hst, hcause, hrung, haux, hgate, hsafe, hown, -⟩ :=
      enterOff_off (rung := 4) (by decide) 0x1102 true (brownOutJournal true (flushBuffer s))
    obtain ⟨hbuf, hopen⟩ := saveEnd_sameBuffer true s
    obtain ⟨hb, ho⟩ := flushBuffer_empties s
    rw [exec_brownOutSaveComplete hstage, hj, completes_next]
    refine ⟨hst, hcause, hrung, haux, rfl, ?_, hbuf.trans hb, hopen.trans ho, fun g hg => ?_, hsafe, hown⟩
    · exact congrArg PowerSt.stage (saveEnd_pwr true s)
    · exact List.eq_of_mem_replicate (hgate ▸ hg)
  · intro s hstage hj
    obtain ⟨hst, -, hrung, -⟩ := enterOff_off (rung := 4) (by decide) 0x1102 true (brownOutJournal false s)
    obtain ⟨hbuf, hopen⟩ := saveEnd_sameBuffer false s
    rw [exec_brownOutSaveComplete hstage, hj, completes_next]
    exact ⟨hst, hrung, rfl, hbuf, hopen⟩
  · intro s saved hstage hj
    rw [exec_brownOutSaveComplete hstage, hj, completes_next]
    obtain ⟨hst, hreason, hcause⟩ := wakeDawn_starts 2 4 (saveEnd saved s)
    exact ⟨hst, hreason, hcause, newDawn_rung 2 (saveEnd saved s)⟩
  · intro s reason hpow
    let u := onPwr (fun p => { p with j1High := true, j1Ok := true, auxOv := false }) s
    have hx : exec (.auxPowerApplied reason) s = .next (wakeDawn (if reason = 0 then 0 else 1) (if s.lad.offByAux then 4 else 0) u) := if_pos hpow
    rw [hx, completes_next]
    generalize (if reason = 0 then 0 else 1) = r
    exact ⟨newDawn_powered r u, newDawn_state r u, newDawn_j1Ok r u, newDawn_reason r u, newDawn_dawnCnt r u⟩
  · intro s reason hpow hoff haux
    have hx : exec (.auxPowerApplied reason) s = .next (wakeDawn 2 (if s.lad.offByAux then 4 else 0)
        (onPwr (fun p => { p with j1High := true, j1Ok := true, auxOv := false }) s)) :=
      (if_neg (by simp [hpow])).trans (if_pos (by simp [hoff, haux]))
    rw [hx, completes_next, haux]
    exact wakeDawn_starts 2 4 _
  · intro s hj hpow hrun
    rw [show exec .holdupBankBelow20v s = _ from if_neg (by simp [hj, hpow, hrun]), completes_next]
    refine ⟨rfl, rfl, rfl, rfl, rfl, fun r hr => ?_, rfl, rfl, Frame.of_blank rfl⟩
    obtain ⟨r0, -, rfl⟩ := List.mem_map.mp hr
    exact ⟨rfl, rfl⟩
  · intro s rail value hpow
    rw [show exec (.railFault rail value) s = _ from if_neg (by simp [hpow]), completes_next]
    exact ⟨newDawn_state 7 _, newDawn_reason 7 _, newDawn_railFault 7 _⟩
  · intro s supply hsens hrun
    generalize hu : log srcSafety 0x1021 2 [] (onPwr (fun p => { p with sensOff := true }) (onPins (fun p => { p with sensOn := false }) s)) = u
    have hx : exec (.sensSupplyFault supply) s = .next (hardwareFault 0x1021 1 u) := by
      rw [← hu]; exact if_neg (by simp [hsens, hrun])
    obtain ⟨g, hg⟩ := hardwareFault_pins 0x1021 1 u
    have hpwr : (hardwareFault 0x1021 1 u).pwr = u.pwr := Frame.of_blank (hardwareFault_blank (within_refl _) 0x1021 1 u) .pwr rfl
    rw [hx, completes_next, hg, hpwr]
    refine ⟨?_, ?_, ?_⟩
    · rw [← hu, log_pins]; rfl
    · rw [← hu, log_pwr]; rfl
    · exact (hardwareFault_faulted (s := u) 0x1021 1).congr (by rw [← hu, log_str]; rfl) (by rw [← hu, log_prot]; rfl) (by rw [← hu, log_pair]; rfl)

end Sys2Proof.Machine
end

section
/-! The reset input, the freeze and the return to Afternoon (R527 to R536). -/
namespace Sys2Proof.Machine

/-! ### A record never wakes the module: no intake ring is sensed below Noon (R475, R482) -/

theorem irqCore_of_not_sensed {src : Nat} {s : State} (h : senseFloor src = 0) (hr : s.lad.rung ≠ 0) (up : Bool) : irqCore src up s = (s, []) :=
  if_pos (by simp [sensed, h, hr])

theorem intake_not_sensed {n : Nat} (h1 : 40 ≤ n) (h2 : n < 48) : senseFloor n = 0 ∧ senseFloor (64 + n) = 0 := by
  interval_cases n <;> decide

theorem trafficKeeps_lad_intake {s0 : State} (h : s0.lad.rung ≠ 0) :
    TrafficKeeps (fun s => s.lad = s0.lad) (fun n => 40 ≤ n ∧ n < 48) fun src => senseFloor src = 0 where
  core src up s hsrc hs := by rw [irqCore_of_not_sensed hsrc (by rwa [hs])]; exact hs
  ring _ _ _ _ hs := hs
  srcs _ hn := intake_not_sensed hn.1 hn.2
  hw := by decide
  aon _ _ _ := by decide

theorem logOnly_lad_of_core {src : Nat} (hsrc : src < 8) (code sev : Nat) (data : Bytes) (s : State) :
    (logOnly src code sev data s).lad = s.lad := by
  by_cases hr : s.lad.rung = 0
  · exact logOnly_lad (by rw [hr]; decide) ..
  · unfold logOnly
    split
    · exact (trafficKeeps_lad_intake hr).ringPut ⟨Nat.le_add_right .., by omega⟩ _ rfl
    · rfl

theorem thawLog_lad_of_core (cause : Nat) (s : State) : (thawLog cause s).lad = s.lad := by
  unfold thawLog
  split
  · rfl
  · exact logOnly_lad_of_core (by decide) ..

/-- The record of a core leaves the ladder alone. -/
theorem log_lad_of_core {src : Nat} (hsrc : src < 8) (code sev : Nat) (data : Bytes) (s : State) : (log src code sev data s).lad = s.lad := by
  have k := logOnly_lad_of_core hsrc code sev data s
  unfold log
  dsimp only
  split
  · rw [thawLog_lad_of_core, k]
  · exact k

theorem setRung_lad (n : Nat) {s : State} (h : s.lad.rung ≠ n) : (setRung n s).lad = { s.lad with
    rungTime := updAt (· + sinceNs s s.lad.rungSince / 1000000) s.lad.rungTime s.lad.rung, rung := n, rungSince := s.tick.now } := by
  unfold setRung
  rw [if_neg h]
  exact log_lad_of_core (by decide) ..

/-! ### The reset input -/

/-- The state once the input has changed, before its length is judged. -/
def inputChanged (closed : Bool) (s : State) : State :=
  s |> onPins (fun p => { p with resetLow := closed })
    |> onLad (fun l => { l with closed := closed, closedSince := if closed then s.tick.now else l.closedSince
                                openSince := if closed then none else some s.tick.now })
    |> irqEvent 164 closed

theorem inputChanged_frame (closed : Bool) (s : State) : Frame [.pins, .irq, .rings, .lad, .rung] s (inputChanged closed s) :=
  Frame.of_blank (by simp (disch := decide) only [inputChanged, irqEvent_blank, onLad_blank, onPins_blank])

theorem inputChanged_lad (closed : Bool) (s : State) : ∃ a b c, (inputChanged closed s).lad = { s.lad with
    closed := closed, closedSince := if closed then s.tick.now else s.lad.closedSince
    openSince := if closed then none else some s.tick.now, rung := a, rungSince := b, rungTime := c } :=
  ⟨_, _, _, (irqEvent_frame _ 164 closed).lad_but_rung rfl⟩

theorem inputChanged_pins (closed : Bool) (s : State) : (inputChanged closed s).pins.resetLow = closed := by
  unfold inputChanged
  rw [irqEvent_pins]; rfl

section
variable {s : State} (hpow : s.lad.unpowered = false)
include hpow

theorem exec_resetInput_closes (hc : s.lad.closed = false) (d : Nat) : exec (.resetInputChange true d) s = .next (inputChanged true s) :=
  if_neg (by simp [hpow, hc])

theorem exec_resetInput_opens (hc : s.lad.closed = true) (hd : s.lad.resetDisabled = false) (d : Nat) :
    exec (.resetInputChange false d) s = .next (releaseAfter (sinceNs s s.lad.closedSince / 1000000) (inputChanged false s)) := by
  have h : (inputChanged false s).lad.resetDisabled = s.lad.resetDisabled := by
    obtain ⟨a, b, c, h⟩ := inputChanged_lad false s
    rw [h]
  exact (if_neg (by simp [hpow, hc])).trans (if_neg (by simp [hd]))

end

/-- The state of a press: counted and recorded. -/
def pressed (ms : Nat) (s : State) : State :=
  s |> onLad (fun l => { l with holdActive := false }) |> countPress 1 |> log srcAon 0x1112 1 (u32 ms)

theorem releaseAfter_of_press {ms : Nat} (h1 : 50 ≤ ms) (h2 : ms < 2000) (s : State) : releaseAfter ms s =
    if pressRestarts s then resetRestart (onLad (fun l => { l with ignoredLast := false }) (pressed ms s))
    else log srcAon 0x1113 1 (u8 s.str.state.code) (onLad (fun l => { l with ignoredLast := true }) (pressed ms s)) :=
  (if_neg (Nat.not_lt.mpr h1)).trans (if_pos h2)

theorem pressed_lad (ms : Nat) (s : State) : (pressed ms s).lad = { s.lad with holdActive := false, pressCnt := updAt (satInc 32) s.lad.pressCnt 1 } :=
  log_lad_of_core (by decide) ..

theorem pressed_str (ms : Nat) (s : State) : (pressed ms s).str = s.str := log_str ..

/-- A module of its own that is not in OFF restarts by the input. -/
theorem resetRestart_of_solo {s : State} (hrole : s.str.role = some .solo) (hoff : s.str.state ≠ .off) : resetRestart s = newDawn 5 s := by
  unfold resetRestart
  rw [if_neg (by simp [inOff, hoff]), if_neg (by simp [hrole])]

theorem newDawn_pressCnt (reason : Nat) (s : State) : (newDawn reason s).lad.pressCnt = s.lad.pressCnt := by
  have h := (Frame.of_blank (beforeDawn_blank (within_refl _) reason s) : Frame _ s (beforeDawn reason s)).lad_but_rung rfl
  exact (congrArg LadderSt.pressCnt h :)

/-! ### The freeze -/

/-- A module that enters the freeze (R535 step 3): Evening, OWN_OUT released, the keys zeroed. -/
theorem enterFreeze_frozen (trigger : Nat) (forced : Bool) (s : State) : (enterFreeze trigger forced s).pins.freezeLow = s.pins.freezeLow ∧
    (enterFreeze trigger forced s).lad.frozen = true ∧ (enterFreeze trigger forced s).lad.rung = 3 ∧
    (enterFreeze trigger forced s).pair.ownOut = false ∧
    (enterFreeze trigger forced s).lad.freezeLast =
      some { time := s.tb.time, trigger := trigger, state := s.str.state.code, forced := forced, role := roleCode s } ∧
    ∀ x, some x ∈ (enterFreeze trigger forced s).host.sessions → x.key = List.replicate 32 0 := by
  let a := loadsOff false (outputsOff (thawLog 4 s))
  let b := a |> onHost (fun h => { h with sessions := h.sessions.map fun o => o.map fun x => { x with key := List.replicate 32 0, snonce := List.replicate 16 0 } })
    |> onPair (fun p => { p with partnerKey := none, keyHeld := false })
  have hx : enterFreeze trigger forced s = onLad (fun l => { l with
      frozen := true, freezeOwed := true, freezeReq := none
      freezeLast := some { time := s.tb.time, trigger := trigger, state := s.str.state.code, forced := forced, role := roleCode s } }) (setRung 3 b) := rfl
  have hset : Frame [.deferred, .irq, .rings, .logFreeze, .lad, .rung] b (setRung 3 b) := Frame.of_blank (setRung_blank (within_refl _) 3 b)
  have hthaw : (thawLog 4 s).pins = s.pins := Frame.of_blank (thawLog_blank (within_refl _) 4 s) .pins rfl
  have hown : b.pair.ownOut = false := by simp [b, a, loadsOff, outputsOff]
  have hlow : b.pins.freezeLow = s.pins.freezeLow := by simp [b, a, loadsOff, outputsOff, hthaw]
  rw [hx]
  refine ⟨(congrArg PinSt.freezeLow (hset .pins rfl)).trans hlow, rfl, setRung_rung (by decide) b,
    (congrArg PairSt.ownOut (hset .pair rfl)).trans hown, rfl, fun x hmem => ?_⟩
  have hhost : (setRung 3 b).host = b.host := hset .host rfl
  rw [onLad_host, hhost] at hmem
  obtain ⟨o, -, ho⟩ := List.mem_map.mp hmem
  obtain ⟨y, -, rfl⟩ := Option.map_eq_some_iff.mp ho
  rfl

/-- The state once FREEZE_N has read low for 1 ms. -/
def freezeNLow (s : State) : State := s |> onPins (fun p => { p with freezeLow := true }) |> irqEvent 165 false

/-- FREEZE_N on a module of its own outside OFF, with no freeze under way. -/
theorem exec_freezeN {s : State} (hpow : s.lad.unpowered = false) (hfrozen : s.lad.frozen = false) (hreq : s.lad.freezeReq = none)
    (hoff : s.str.state ≠ .off) (hrole : s.str.role = some .solo) :
    (freezeNLow s).pins.freezeLow = true ∧ (freezeNLow s).str = s.str ∧ (freezeNLow s).tb = s.tb ∧
      exec .freezeNAsserted s = .next (freezeOn 1 s.tick.now (freezeNLow s)) := by
  have hlad := (irqEvent_frame (onPins (fun p => { p with freezeLow := true }) s) 165 false).lad_but_rung rfl
  have hstr : (freezeNLow s).str = s.str := irqEvent_str ..
  have hoff' : inOff s = false := by simp [inOff, hoff]
  have htick : (freezeNLow s).tick = s.tick := irqEvent_tick ..
  have haccept : freezeAccept 1 (freezeNLow s) = freezeOn 1 s.tick.now (freezeNLow s) := by
    rw [← htick]
    have h1 : (freezeNLow s).lad.frozen = false := (congrArg LadderSt.frozen hlad :).trans hfrozen
    have h2 : (freezeNLow s).lad.freezeReq = none := (congrArg LadderSt.freezeReq hlad :).trans hreq
    exact (if_neg (by simp [h1, h2])).trans (if_neg (by simp [hstr, hrole]))
  refine ⟨?_, hstr, irqEvent_tb .., ?_⟩
  · unfold freezeNLow
    rw [irqEvent_pins]; rfl
  · rw [← haccept]
    exact (if_neg (by simp [hpow])).trans (if_neg (by rw [hoff']; exact Bool.false_ne_true))

/-- Settles O20: a closure is judged by its length when the input opens, and a freeze makes active outputs safe first. -/
theorem resetAndFreeze : Obligations.ResetAndFreeze := by
  unfold Obligations.ResetAndFreeze
  refine ⟨?_, ?_, ?_, ?_, ?_, ?_, ?_, ?_, ?_, ?_⟩
  · intro s t0 hidle hrun hsp hadm hhand hrung hstandby ht
    have hx : exec .afternoonReentry s = .next (onLad (fun l => { l with idleSince := none }) (setRung 1 s)) := by
      show execAfternoonReentry s = _
      unfold execAfternoonReentry
      simp only [hidle]
      exact if_pos (by simp [hrun, hsp, hadm, hhand, hrung, hstandby, ht])
    rw [hx, completes_next, onLad_lad, setRung_lad 1 (by rw [hrung]; decide), hrung]
    exact ⟨rfl, rfl, rfl⟩
  · intro s d hpow hc
    obtain ⟨a, b, c, h⟩ := inputChanged_lad true s
    rw [exec_resetInput_closes hpow hc, completes_next, h]
    exact ⟨rfl, rfl, rfl, inputChanged_pins true s, inputChanged_frame true s .str rfl⟩
  · rintro s _ d rfl hpow hc hd hms
    obtain ⟨a, b, c, h⟩ := inputChanged_lad false s
    have hx : releaseAfter (sinceNs s s.lad.closedSince / 1000000) (inputChanged false s) =
        countPress 0 (onLad (fun l => { l with holdActive := false }) (inputChanged false s)) := if_pos hms
    rw [exec_resetInput_opens hpow hc hd, hx, completes_next]
    refine ⟨?_, ?_, ?_, inputChanged_frame false s .str rfl⟩
    all_goals rw [countPress, onLad_lad, onLad_lad, h]
    all_goals rfl
  · rintro s _ d rfl hpow hc hd h50 h2000 hrole hfrozen hst
    obtain ⟨a, b, c, h⟩ := inputChanged_lad false s
    have hstr : (inputChanged false s).str = s.str := inputChanged_frame false s .str rfl
    generalize hu : inputChanged false s = u at h hstr
    have hp : pressRestarts u = true := by
      simp only [pressRestarts, hstr]
      obtain h | h | h := hst <;> simp [h]
    rw [exec_resetInput_opens hpow hc hd, hu, releaseAfter_of_press h50 h2000, if_pos hp, resetRestart_of_solo, completes_next]
    · refine ⟨newDawn_state 5 _, newDawn_reason 5 _, ?_⟩
      rw [newDawn_pressCnt, onLad_lad, pressed_lad, h]
    · rw [onLad_str, pressed_str, hstr]; exact hrole
    · rw [onLad_str, pressed_str, hstr]
      obtain h | h | h := hst <;> rw [h] <;> decide
  · rintro s _ d rfl hpow hc hd h50 h2000 hrole hfrozen hst
    obtain ⟨a, b, c, h⟩ := inputChanged_lad false s
    have hstr : (inputChanged false s).str = s.str := inputChanged_frame false s .str rfl
    generalize hu : inputChanged false s = u at h hstr
    have hp : pressRestarts u = false := by
      simp only [pressRestarts, isSp, hstr, hrole, h, hfrozen]
      obtain h | h := hst <;> simp [h]
    rw [exec_resetInput_opens hpow hc hd, hu, releaseAfter_of_press h50 h2000, hp, completes_next]
    refine ⟨?_, ?_⟩
    · exact (log_str ..).trans ((pressed_str ..).trans hstr)
    · rw [if_neg Bool.false_ne_true, log_lad_of_core (by decide)]; rfl
  · intro s hpow hc hd hhold ht hfrozen hact hrole
    let u := log srcAon 0x1114 2 (u8 s.str.state.code) (countPress 2 (onLad (fun l => { l with holdActive := true }) s))
    have hx : exec .resetHold s = .next (deactivate 0x1114 (decideFault 0x1114 0 false 0 u)) :=
      (if_neg (by simp [hpow, hc, hd, hhold, ht])).trans ((if_neg (by simp [hfrozen, hact])).trans (if_neg (by simp [hrole])))
    have hstate : u.str.state = s.str.state := congrArg StringSt.state (log_str ..)
    have hfaultable : faultable u.str.state = true := by
      rw [hstate]
      simp only [activeState, Bool.and_eq_true, Bool.or_eq_true, decide_eq_true_eq] at hact
      obtain ⟨-, (((h | h) | h) | h) | h⟩ := hact <;> rw [h] <;> rfl
    have hhold' : (decideFault 0x1114 0 false 0 u).lad.holdActive = true := by
      have h := (Frame.of_blank (decideFault_blank (within_refl _) 0x1114 0 false 0 u) : Frame _ u _).lad_but_rung rfl
      refine (congrArg LadderSt.holdActive h :).trans ?_
      rw [log_lad_of_core (by decide)]; rfl
    obtain ⟨⟨⟨c, hmem, hcode, -, -⟩, hstop, hfault⟩, -⟩ := decideFault_faulted (s := u) 0x1114 0 false 0
    obtain ⟨hst, hcause⟩ := hfault hfaultable
    rw [hx, completes_next]
    exact ⟨hhold', hst, hcause, hstop, _, List.mem_map_of_mem hmem, by rw [if_pos hcode]; exact ⟨hcode, rfl⟩⟩
  · intro s hpow hc hd ht hfrozen
    have hx : exec .resetStuck s = .next (resetDisable 0 s) :=
      (if_neg (by simp [hpow, hc, hd, ht])).trans (if_neg (by simp [hfrozen]))
    rw [hx, completes_next, resetDisable, log_lad_of_core (by decide), log_str]
    exact ⟨rfl, rfl, rfl, rfl, rfl⟩
  · intro s t0 hopen hpow hd hc ht
    have hx : exec .resetReleased s = .next (log srcAon 0x1116 1 (u32 (sinceNs s s.lad.disabledSince / 1000000))
        (onLad (fun l => { l with resetDisabled := false }) s)) := by
      show execResetReleased s = _
      unfold execResetReleased
      simp only [hopen]
      exact if_pos (by simp [hpow, hd, hc, ht])
    rw [hx, completes_next, log_lad_of_core (by decide), log_str]
    exact ⟨rfl, rfl⟩
  · intro s hpow hfrozen hreq hst hrole
    obtain ⟨hlow, hstr, htb, hx⟩ := exec_freezeN hpow hfrozen hreq (by rw [hst]; decide) hrole
    generalize freezeNLow s = u at hlow hstr htb hx
    have hact : activeState u = false := by simp [activeState, hstr, hst]
    rw [hx, freezeOn, hact, completes_next, if_neg Bool.false_ne_true]
    obtain ⟨hpins, hfr, hrung, hown, hlast, hkeys⟩ := enterFreeze_frozen 1 false u
    exact ⟨hpins.trans hlow, hfr, hrung, hown, ⟨_, hlast, rfl, congrArg TimeSt.time htb, by rw [hstr, hst]; rfl, rfl⟩, hkeys⟩
  · intro s hpow hfrozen hreq hst hrole
    obtain ⟨hlow, hstr, htb, hx⟩ := exec_freezeN hpow hfrozen hreq (by rw [hst]; decide) hrole
    have hlad : (freezeNLow s).lad.frozen = s.lad.frozen :=
      (congrArg LadderSt.frozen ((irqEvent_frame _ 165 false).lad_but_rung rfl) :)
    generalize freezeNLow s = u at hlow hstr htb hx hlad
    have hact : activeState u = true := by simp [activeState, owning, hstr, hst, hrole]
    rw [hx, freezeOn, hact, completes_next, if_pos rfl]
    generalize hv : log srcSafety 0x1118 3 _ u = v
    have hfr : (safeStop false v).lad.frozen = false := by
      have h := (Frame.of_blank (safeStop_blank (within_refl _) false v) : Frame _ v _).lad_but_rung rfl
      rw [(congrArg LadderSt.frozen h :), ← hv, log_lad_of_core (by decide)]
      exact hlad.trans hfrozen
    obtain ⟨-, -, -, hstop, -⟩ := safeStop_kept (s := v) false
    exact ⟨hfr, rfl, hstop⟩

end Sys2Proof.Machine
end

section
/-! The connectors: plug, pair cable, links and USB (R77, R80, R82, R552). -/
namespace Sys2Proof.Machine

/-! ### The pair cable -/

/-- What the pair cable shows is the same, and the module is no standby that was none. -/
structure CableKept (s t : State) : Prop where
  pin : t.pins.pairCable = s.pins.pairCable
  seated : t.pair.cableSeated = s.pair.cableSeated
  role : isSp s = false → isSp t = false

namespace CableKept
variable {s t u : State}

theorem trans (h : CableKept s t) (h' : CableKept t u) : CableKept s u :=
  ⟨h'.pin.trans h.pin, h'.seated.trans h.seated, fun hs => h'.role (h.role hs)⟩

theorem of_same (hpins : t.pins.pairCable = s.pins.pairCable) (hpair : t.pair.cableSeated = s.pair.cableSeated)
    (hrole : t.str.role = s.str.role) : CableKept s t :=
  ⟨hpins, hpair, fun h => by rw [isSp, hrole]; exact h⟩

theorem of_frame {l : List Part} (h : Frame l s t) (hpins : l.contains .pins = false) (hpair : l.contains .pair = false)
    (hstr : l.contains .str = false) : CableKept s t :=
  of_same (congrArg PinSt.pairCable (h .pins hpins)) (congrArg PairSt.cableSeated (h .pair hpair)) (congrArg StringSt.role (h .str hstr))

theorem onProt (h : CableKept s t) (g : ProtSt → ProtSt) : CableKept s (onProt g t) := h.trans (of_same rfl rfl rfl)
theorem onLad (h : CableKept s t) (g : LadderSt → LadderSt) : CableKept s (onLad g t) := h.trans (of_same rfl rfl rfl)
theorem onHost (h : CableKept s t) (g : HostSt → HostSt) : CableKept s (onHost g t) := h.trans (of_same rfl rfl rfl)
theorem onPair (h : CableKept s t) {g : PairSt → PairSt} (hg : ∀ p, (g p).cableSeated = p.cableSeated) : CableKept s (onPair g t) :=
  h.trans (of_same rfl (hg t.pair) rfl)
theorem onStr (h : CableKept s t) {g : StringSt → StringSt} (hg : (g t.str).role = t.str.role) : CableKept s (onStr g t) :=
  h.trans (of_same rfl rfl hg)

end CableKept

section
variable (s : State)

theorem newDawn_cableKept (reason : Nat) : CableKept s (newDawn reason s) := by
  have hpins : (beforeDawn reason s).pins = s.pins := Frame.of_blank (beforeDawn_blank (within_refl _) reason s) .pins rfl
  have hpair : (beforeDawn reason s).pair = s.pair := Frame.of_blank (beforeDawn_blank (within_refl _) reason s) .pair rfl
  refine ⟨?_, ?_, fun _ => rfl⟩
  · rw [← hpins]; rfl
  · rw [← hpair]; rfl

theorem outputsOff_cableKept : CableKept s (outputsOff s) :=
  have himd : ∀ t, (openImd t).pair = t.pair := fun t => Frame.of_blank (openImd_blank (within_refl _) t) .pair rfl
  have hsafe : ∀ t, (openSafeOut t).pair = t.pair := fun t => Frame.of_blank (openSafeOut_blank (within_refl _) t) .pair rfl
  have hcoil : ∀ t, (coilsOff t).pair = t.pair := fun t => Frame.of_blank (coilsOff_blank (within_refl _) t) .pair rfl
  .of_same (by simp [outputsOff]) (by simp [outputsOff, himd, hsafe, hcoil]) (by simp [outputsOff])

theorem loadsOff_cableKept (keepSfp : Bool) : CableKept s (loadsOff keepSfp s) := .of_same rfl rfl rfl

theorem setState_cableKept (st : StringState) (cause : Nat) : CableKept s (setState st cause s) :=
  .of_same (by rw [setState_pins]) (by rw [setState_pair]) (by rw [setState_str])

theorem setRung_cableKept (n : Nat) : CableKept s (setRung n s) := .of_frame (Frame.of_blank (setRung_blank (within_refl _) n s)) rfl rfl rfl

theorem enterOff_cableKept (rung cause : Nat) (aux : Bool) : CableKept s (enterOff rung cause aux s) := by
  have hcan : ∀ t, CableKept t (canOff t) := fun t => .of_frame (Frame.of_blank (canOff_blank (within_refl _) t)) rfl rfl rfl
  have h1 := (((setState_cableKept s .off cause).onStr (g := fun x => { x with mirrored := false }) rfl).trans (outputsOff_cableKept _)).trans (hcan _)
  exact (((h1.trans (loadsOff_cableKept _ _)).onProt _).trans (setRung_cableKept _ rung)).onLad _

theorem safeStop_role (trip : Bool) : (safeStop trip s).str.role = s.str.role := by
  have h : (if trip then openSafeOut s else s).str = s.str := by
    split
    · exact openSafeOut_str s
    · rfl
  unfold safeStop
  dsimp only
  split
  · rw [h]
  · rw [← h]; rfl

theorem safeStop_cableKept (trip : Bool) : CableKept s (safeStop trip s) := by
  obtain ⟨g, hg⟩ := safeStop_pins trip s
  exact .of_same (by rw [hg]) (by rw [safeStop_pair]) (safeStop_role s trip)

theorem decideFault_cableKept (code cls fn : Nat) : CableKept s (decideFault code cls false fn s) := by
  have hlatch : ∀ t, CableKept t (latchClass2 code cls t) := fun t => .of_frame (Frame.of_blank (latchClass2_blank (within_refl _) code cls t)) rfl rfl rfl
  have h1 := (((CableKept.of_same (s := s) rfl rfl rfl).onStr
    (g := fun x => { x with causes := latchCause { code := code, cls := cls, trip := false, fn := fn } x.causes }) rfl).trans (hlatch _)).trans
    (safeStop_cableKept _ false)
  unfold decideFault
  simp only [Bool.false_eq_true, if_false]
  split
  · exact h1.trans (setState_cableKept ..)
  · exact h1

theorem enterFreeze_cableKept (trigger : Nat) (forced : Bool) : CableKept s (enterFreeze trigger forced s) := by
  have hthaw : CableKept s (thawLog 4 s) := .of_frame (Frame.of_blank (thawLog_blank (within_refl _) 4 s)) rfl rfl rfl
  have h1 := hthaw.trans ((outputsOff_cableKept _).trans (loadsOff_cableKept _ false))
  unfold enterFreeze
  exact (((h1.onHost _).onPair (g := fun p => { p with partnerKey := none, keyHeld := false }) fun _ => rfl).trans (setRung_cableKept _ 3)).onLad _

theorem freezeOn_cableKept (trigger t : Nat) : CableKept s (freezeOn trigger t s) := by
  unfold freezeOn
  split
  · have hlog : ∀ b, CableKept s (log srcSafety 0x1118 3 b s) := fun b => .of_frame (log_frame s _ _ _ _) rfl rfl rfl
    exact ((hlog _).trans (safeStop_cableKept _ false)).onLad _
  · exact enterFreeze_cableKept ..

theorem afterHandover_cableKept (kind : Nat) (done : Bool) : CableKept s (afterHandover kind done s) := by
  unfold afterHandover
  split
  · exact newDawn_cableKept ..
  · exact enterOff_cableKept ..
  · split
    · exact enterFreeze_cableKept ..
    · exact freezeOn_cableKept ..
  · split
    · exact enterFreeze_cableKept ..
    · exact freezeOn_cableKept ..
  · split
    · exact safeStop_cableKept ..
    · exact (decideFault_cableKept ..).trans (.of_same rfl rfl rfl)
  · exact newDawn_cableKept ..
  · exact newDawn_cableKept ..
  · exact .of_same rfl rfl rfl

theorem handoverOff_cableKept : CableKept s (handoverOff s) := by
  have hclear : CableKept s (clearHandover s) := .of_same rfl rfl rfl
  unfold handoverOff
  dsimp only
  refine .trans ?_ (afterHandover_cableKept ..)
  split
  · refine hclear.trans (.of_frame (Frame.of_blank (refuseState_blank (within_refl _) _ _)) rfl rfl rfl)
  · exact hclear

end

/-- The pair cable goes while a partner is joined: its admission is lost, and the owner runs on without it. -/
theorem pairCableLost_lost (s : State) : (pairCableLost s).pins.pairCable = s.pins.pairCable ∧ (pairCableLost s).pair.cableSeated = s.pair.cableSeated ∧
    (pairCableLost s).pair.partner = .absent ∧ (pairCableLost s).pair.configMatch = false ∧
    (isSp s = false → (pairCableLost s).str.partnerAbsent = true) := by
  have h0 : CableKept s (if s.pair.hYields then handoverOff s else clearHandover s) := by
    split
    · exact handoverOff_cableKept s
    · exact .of_same rfl rfl rfl
  generalize hu : (if s.pair.hYields then handoverOff s else clearHandover s) = u at h0
  let v := u |> onPair fun p => { p with partner := .absent, configMatch := false, sbAt := none, segsRx := [], imagesInStep := 0, step4Since := none, cleanMs := 0 }
  have hx : pairCableLost s = if isSp v then setRung 0 v else onStr (fun x => { x with partnerAbsent := true }) v := by
    rw [pairCableLost, hu]
  rw [hx]
  split
  · next hsp =>
    have hset : Frame [.deferred, .irq, .rings, .logFreeze, .lad, .rung] v (setRung 0 v) := Frame.of_blank (setRung_blank (within_refl _) 0 v)
    rw [show (setRung 0 v).pins = v.pins from hset .pins rfl, show (setRung 0 v).pair = v.pair from hset .pair rfl]
    exact ⟨h0.pin, h0.seated, rfl, rfl, fun h => absurd (hsp.symm.trans (h0.role h)) (by decide)⟩
  · exact ⟨h0.pin, h0.seated, rfl, rfl, fun _ => rfl⟩

/-! ### Sessions -/

/-- The session table without the session of a number. -/
def withoutSession (id : Nat) (l : List (Option Session)) : List (Option Session) :=
  l.map fun o => match o with | some x => if x.id = id then none else some x | none => none

/-- What the end of a session leaves of the host's part: its slot and its bulk claims go. -/
theorem endSession_host {s : State} {id : Nat} {was : Session} (h : findSession s id = some was) (cause : Nat) :
    (endSession id cause s).host = { s.host with
      sessions := withoutSession id s.host.sessions
      bulk1 := if s.host.bulk1.owner = id then {} else s.host.bulk1
      bulk2 := if s.host.bulk2.owner = id then {} else s.host.bulk2 } := by
  have hthaw : ∀ t, (thawLog 1 t).host = t.host := fun t => Frame.of_blank (thawLog_blank (within_refl _) 1 t) .host rfl
  have hclose : ∀ r t, (endOp 6 stCancelled r (closeOp 6 stCancelled t)).host = t.host := fun r t => rfl
  unfold endSession
  simp only [h]
  split
  · simp only [apply_ite State.host, hclose, hthaw, log_host, ite_self]
    rfl
  · simp only [apply_ite State.host, hthaw, log_host, ite_self]
    rfl

theorem findSession_only {s : State} {x : Session} (h : s.host.sessions = [some x]) : findSession s x.id = some x := by
  simp [findSession, h]

theorem dawn_plugRemoved_log (src code sev : Nat) (data : Bytes) (s : State) :
    (log src code sev data s).dawn.plugRemoved = s.dawn.plugRemoved :=
  have h : { (log src code sev data s).dawn with deferred := [] } = { s.dawn with deferred := [] } := log_frame s src code sev data .dawn rfl
  (congrArg DawnSt.plugRemoved h :)

/-- Settles O21: each event shows at its pin, and what follows leaves the pin as it is. -/
theorem connectorEvents : Obligations.ConnectorEvents := by
  unfold Obligations.ConnectorEvents
  refine ⟨?_, ?_, ?_, ?_, ?_, ?_, ?_, ?_, ?_, ?_⟩
  · intro s hpow hdet hst
    have hoff : inOff s = false := by simp [inOff, hst]
    have hx : exec (.plugDetChange false) s = .next (log srcAon 0x0210 1 [] (onDawn (fun d => { d with plugRemoved := true })
        (irqEvent 166 true (onPins (fun p => { p with plugDet := false }) s)))) :=
      (if_neg (by simp [hpow, hdet])).trans (congrArg Host.Outcome.next (if_neg (by simp [hoff])))
    rw [hx, completes_next]
    refine ⟨by simp, ?_, by simp, by simp⟩
    exact dawn_plugRemoved_log ..
  · intro s hpow hdet hst
    have hoff : inOff s = false := by simp [inOff, hst]
    have hx : exec (.plugDetChange true) s = .next (log srcAon 0x0211 1 [] (irqEvent 166 false (onPins (fun p => { p with plugDet := true }) s))) :=
      (if_neg (by simp [hpow, hdet])).trans (congrArg Host.Outcome.next (if_neg (by simp [hoff])))
    rw [hx, completes_next]
    refine ⟨by simp, ?_, by simp, by simp⟩
    rw [dawn_plugRemoved_log, irqEvent_dawn]; rfl
  · intro s low hpow hdet hfrozen hoff
    generalize hu : (if low then log srcAon 0x0211 1 [] (irqEvent 166 (!low) (onPins (fun p => { p with plugDet := low }) s))
      else log srcAon 0x0210 1 [] (onDawn (fun d => { d with plugRemoved := true }) (irqEvent 166 (!low) (onPins (fun p => { p with plugDet := low }) s)))) = u
    have hx : exec (.plugDetChange low) s = .next (wakeDawn 3 2 u) := by
      rw [← hu]
      exact (if_neg (by simp [hpow, Ne.symm hdet])).trans (congrArg Host.Outcome.next (if_pos (by simp [hoff, hfrozen])))
    have hdet' : u.pins.plugDet = low := by
      rw [← hu]
      split <;> simp
    have hpins : (wakeDawn 3 2 u).pins.plugDet = u.pins.plugDet := by
      rw [← show (beforeDawn 3 u).pins = u.pins from Frame.of_blank (beforeDawn_blank (within_refl _) 3 u) .pins rfl]; rfl
    rw [hx, completes_next]
    exact ⟨hpins.trans hdet', wakeDawn_starts 3 2 u⟩
  · intro s hpow hcable hrun hpair hadm
    generalize hu : log srcSafety 0x0B10 2 [] (irqEvent 163 true (onPair (fun p => { p with cableSeated := false })
      (onPins (fun p => { p with pairCable := false }) s))) = u
    have hx : exec (.pairPresentChange false) s = .next (pairCableLost u) := by
      rw [← hu]
      refine (if_neg (by simp [hpow, hcable])).trans ((if_neg ?_).trans (congrArg Host.Outcome.next (if_neg (by simp [hadm]))))
      simp [hrun, hpair]
    obtain ⟨hpin, hseat, habsent, hmatch, howner⟩ := pairCableLost_lost u
    have hsp : isSp u = isSp s := by rw [← hu, isSp, log_str, irqEvent_str]; rfl
    rw [hx, completes_next]
    exact ⟨hpin.trans (by simp [← hu]), hseat.trans (by simp [← hu]), habsent, hmatch, fun h => howner (hsp.trans h)⟩
  · intro s hdown hbad
    rw [show exec (.linkChange 2 true) s = _ from if_neg (by simp [linkUpAt, hdown, hbad]), completes_next]
    simp
  · intro s hup
    let u := irqEvent 153 false (onPins (fun p => { p with eth1Up := false }) s)
    have hu : u.pins = { s.pins with eth1Up := false } ∧ u.pair = s.pair := ⟨irqEvent_pins .., irqEvent_pair ..⟩
    have hdown : (portDown 0 u).pins = u.pins ∧ (portDown 0 u).pair = u.pair :=
      ⟨Frame.of_blank (portDown_blank (within_refl _) 0 u) .pins rfl, Frame.of_blank (portDown_blank (within_refl _) 0 u) .pair rfl⟩
    have hx : exec (.linkChange 0 false) s = .next (if (false || !(running s) || decide ((0 : Nat) = 2)) = true then u else portDown 0 u) :=
      if_neg (by simp [linkUpAt, hup])
    rw [hx, completes_next]
    split
    · rw [hu.1, hu.2]; exact ⟨rfl, rfl, rfl⟩
    · rw [hdown.1, hdown.2, hu.1, hu.2]; exact ⟨rfl, rfl, rfl⟩
  · rintro s f _ b rfl hb
    show Completes (execUsbFrameReceived f s) _
    unfold execUsbFrameReceived
    simp only [hb]
    exact ⟨_, rfl, rfl⟩
  · rintro s f _ rfl hb
    show Completes (execUsbFrameReceived f s) _
    unfold execUsbFrameReceived
    simp only [hb]
    exact ⟨_, rfl, rfl⟩
  · intro s hpow hmate
    rw [show exec (.j16UsbMateChange true) s = _ from if_neg (by simp [hpow, hmate]), completes_next]
    exact ⟨rfl, Frame.of_blank rfl⟩
  · intro s x hpow hmate hfrozen hx hport
    let u := tapReset (onHost (fun h => { h with usbMated := false }) s)
    have hx' : exec (.j16UsbMateChange false) s = .next (endSession x.id 2 u) := by
      refine (if_neg (by simp [hpow, hmate])).trans (congrArg Host.Outcome.next ((if_neg (by simp [hfrozen])).trans ?_))
      show ((u.host.sessions.filterMap fun o => o).foldl (fun t x => if x.port = 2 then endSession x.id 2 t else t) u) = _
      rw [show u.host.sessions = [some x] from hx]
      exact if_pos hport
    have hkept := Frame.of_blank (endSession_blank (within_refl _) x.id 2 u)
    rw [hx', completes_next, endSession_host (s := u) (findSession_only hx), show (endSession x.id 2 u).pins = u.pins from hkept .pins rfl,
      show (endSession x.id 2 u).jtag = u.jtag from hkept .jtag rfl, show u.host.sessions = [some x] from hx]
    exact ⟨rfl, by simp [withoutSession], rfl, rfl⟩

end Sys2Proof.Machine
end

section
/-! The module's health: memory, lanes and flash (R518 to R524). -/
namespace Sys2Proof.Machine

/-! ### The defect map and the spares -/

section
variable (s : State)

/-- An entry of the defect map touches neither spares, lanes nor error counts, and no other part that a fault judges. -/
theorem addDefect_hlth (kind st unit addr : Nat) : ∃ m b, (addDefect kind st unit addr s).hlth = { s.hlth with map := m, mapFullLogged := b } := by
  unfold addDefect
  split
  · exact ⟨_, _, rfl⟩
  · split
    · exact ⟨_, _, rfl⟩
    · rw [log_hlth]; exact ⟨_, _, rfl⟩

theorem addDefect_frame (kind st unit addr : Nat) : Frame [.deferred, .irq, .rings, .logFreeze, .hlth, .rung] s (addDefect kind st unit addr s) :=
  Frame.of_blank (addDefect_blank (within_refl _) kind st unit addr s)

/-- With room the entry stands last. -/
theorem addDefect_map (kind st unit addr : Nat) (h : s.hlth.map.length < 4096) :
    addDefect kind st unit addr s = onHlth (fun h => { h with
      map := h.map ++ [{ kind := kind, st := st, unit := unit, addr := addr, time := operMs s }] }) s := if_pos h

theorem useSpare_hlth {kind i : Nat} (hi : spareIdx kind = some i) : ∃ e, (useSpare kind s).hlth =
    { s.hlth with spare := setAt s.hlth.spare i (nth 0 s.hlth.spare i - 1), exhausted := e } := by
  unfold useSpare
  simp only [hi]
  split
  · rw [log_hlth]; exact ⟨_, rfl⟩
  · exact ⟨_, rfl⟩

theorem useSpare_frame (kind : Nat) : Frame [.deferred, .irq, .rings, .logFreeze, .hlth, .rung] s (useSpare kind s) :=
  Frame.of_blank (useSpare_blank (within_refl _) kind s)

theorem spareLeft_of_idx {kind i : Nat} (hi : spareIdx kind = some i) : spareLeft s kind = nth 0 s.hlth.spare i := by
  simp only [spareLeft, hi]

/-- A spare used and the unit entered in the map: one spare less. -/
theorem spareLeft_useSpare_addDefect {kind i : Nat} (hi : spareIdx kind = some i) (hl : i < s.hlth.spare.length) (k st unit addr : Nat) :
    spareLeft (addDefect k st unit addr (useSpare kind s)) kind = spareLeft s kind - 1 := by
  obtain ⟨e, h⟩ := useSpare_hlth s hi
  obtain ⟨m, b, h'⟩ := addDefect_hlth (useSpare kind s) k st unit addr
  rw [spareLeft_of_idx _ hi, spareLeft_of_idx _ hi, h', h]
  exact nth_setAt_self _ _ hl

end

/-! ### Corrections -/

theorem countCorrections_frame (row n : Nat) (s : State) :
    Frame [.deferred, .irq, .rings, .logFreeze, .hlth, .rung] s (countCorrections row n s) :=
  Frame.of_blank (countCorrections_blank (within_refl _) row n s)

/-- The corrections of the last 24 h with `n` of a row. -/
def rowHits (row n : Nat) (s : State) : List (Nat × Nat) :=
  s.hlth.rowCorr.filter (fun x => decide (operMs s < x.2 + 86400000)) ++ List.replicate n (row, operMs s)

/-- The state with the corrections of a row counted. -/
def hitsCounted (row n : Nat) (s : State) : State :=
  onHlth (fun h => { h with eccCorr := satAdd 32 h.eccCorr n, rowCorr := rowHits row n s }) s

theorem countCorrections_eccUnc (row n : Nat) (s : State) : (countCorrections row n s).hlth.eccUnc = s.hlth.eccUnc := by
  have hx : countCorrections row n s = hitsCounted row n s ∨
      ∃ k u w, countCorrections row n s = log srcApp3 0x1003 1 w (addDefect k 0 u 0 (hitsCounted row n s)) := by
    unfold countCorrections
    exact iteInduction (motive := fun t => t = hitsCounted row n s ∨ ∃ k u w, t = log srcApp3 0x1003 1 w (addDefect k 0 u 0 (hitsCounted row n s)))
      (fun _ => .inr ⟨_, _, _, rfl⟩) fun _ => .inl rfl
  obtain h | ⟨k, u, w, h⟩ := hx
  · rw [h]; rfl
  · obtain ⟨m, b, h'⟩ := addDefect_hlth (hitsCounted row n s) k 0 u 0
    rw [h, log_hlth, h']; rfl

/-- Three corrections at once of a code row that is not suspect enter it. -/
theorem countCorrections_of_three {row n : Nat} {s : State} (hn : 3 ≤ n) (hrow : row < 2048) (hsus : suspectNow s 0 row = false)
    (hmap : s.hlth.map.length < 4096) : (countCorrections row n s).hlth.eccCorr = satAdd 32 s.hlth.eccCorr n ∧
      (countCorrections row n s).hlth.map = s.hlth.map ++ [{ kind := 0, st := 0, unit := row, addr := 0, time := operMs s }] := by
  have hlen : 3 ≤ ((rowHits row n s).filter fun x => x.1 = row).length := by
    rw [rowHits, List.filter_append, List.length_append, List.filter_replicate_of_pos (by simp), List.length_replicate]
    omega
  have hx : countCorrections row n s = log srcApp3 0x1003 1 (u16 0 ++ u16 row) (addDefect 0 0 row 0 (hitsCounted row n s)) := by
    have hsus' : suspectNow (hitsCounted row n s) 0 row = false := hsus
    unfold countCorrections
    simp only [if_pos hrow]
    exact if_pos (by rw [Bool.and_eq_true]; exact ⟨decide_eq_true hlen, Bool.not_eq_true' _ ▸ hsus'⟩)
  rw [hx, log_hlth, addDefect_map (hitsCounted row n s) 0 0 row 0 hmap]
  exact ⟨rfl, rfl⟩

theorem uncorrectable_faults {s u : State} (hstr : u.str = s.str) (hprot : u.prot = s.prot) (hpair : u.pair = s.pair)
    (hunc : u.hlth.eccUnc = s.hlth.eccUnc) :
    (uncorrectable u).hlth.eccUnc = satInc 32 s.hlth.eccUnc ∧ ModuleFaulted Config.eccCause 1 s (uncorrectable u) := by
  refine ⟨?_, ModuleFaulted.congr (moduleFault_faulted (s := onHlth _ u) Config.eccCause 1) hstr.symm hprot.symm hpair.symm⟩
  rw [uncorrectable, moduleFault_hlth, ← hunc]; rfl

/-- Settles O22: what fails is counted, entered in the map and replaced, and decides a fault where no spare is left. -/
theorem moduleHealth : Obligations.ModuleHealth := by
  unfold Obligations.ModuleHealth
  refine ⟨?_, ?_, ?_, ?_, ?_, ?_, ?_, ?_, ?_, ?_⟩
  · intro s hrun hrung
    rw [show exec (.sramScrubRow 0 false) s = _ from if_neg (by simp [hrun, hrung]), completes_next]
    exact ⟨rfl, Frame.of_blank rfl⟩
  · intro s n hrun hrung hn hrow hsus hmap
    have hx : exec (.sramScrubRow n false) s = .next (onHlth (fun h => { h with scrubRow := (s.hlth.scrubRow + 1) % 6144 })
        (countCorrections s.hlth.scrubRow n s)) := by
      refine (if_neg (by simp [hrun, hrung])).trans (congrArg Host.Outcome.next ?_)
      rw [if_neg Bool.false_ne_true, if_neg (by omega)]
    rw [hx, completes_next]
    exact countCorrections_of_three hn hrow hsus hmap
  · intro s n hrun hrung
    let u := onHlth (fun h => { h with scrubRow := (s.hlth.scrubRow + 1) % 6144 }) (if n = 0 then s else countCorrections s.hlth.scrubRow n s)
    have hkept : u.str = s.str ∧ u.prot = s.prot ∧ u.pair = s.pair ∧ u.hlth.eccUnc = s.hlth.eccUnc := by
      simp only [u, onHlth_str, onHlth_prot, onHlth_pair, onHlth_hlth]
      split
      · exact ⟨rfl, rfl, rfl, rfl⟩
      · have h := countCorrections_frame s.hlth.scrubRow n s
        exact ⟨h .str rfl, h .prot rfl, h .pair rfl, countCorrections_eccUnc ..⟩
    obtain ⟨hstr, hprot, hpair, hunc⟩ := hkept
    rw [show exec (.sramScrubRow n true) s = .next (uncorrectable u) from if_neg (by simp [hrun, hrung]), completes_next]
    exact uncorrectable_faults hstr hprot hpair hunc
  · intro s hrun
    rw [show exec .eccError s = .next (uncorrectable s) from congrArg Host.Outcome.next (if_pos hrun), completes_next]
    exact uncorrectable_faults rfl rfl rfl rfl
  · intro s hrun hrung
    rw [show exec (.laneTest true) s = _ from if_neg (by simp [hrun, hrung]), completes_next]
    exact ⟨rfl, Frame.of_blank rfl⟩
  · intro s hrun hrung hspare hlen
    let u := onHlth (fun h => { h with laneNext := (s.hlth.laneNext + 1) % 64 }) s
    have hx : exec (.laneTest false) s = .next (log srcApp3 0x1005 2 (u16 s.hlth.laneNext ++ u16 (4 - spareLeft u 2))
        (addDefect 2 1 s.hlth.laneNext 0 (useSpare 2 u))) :=
      (if_neg (by simp [hrun, hrung])).trans (congrArg Host.Outcome.next (if_pos hspare))
    obtain ⟨e, h⟩ := useSpare_hlth u (kind := 2) rfl
    obtain ⟨m, b, h'⟩ := addDefect_hlth (useSpare 2 u) 2 1 s.hlth.laneNext 0
    rw [hx, completes_next]
    refine ⟨?_, ?_, ?_⟩
    · rw [spareLeft, log_hlth]
      exact spareLeft_useSpare_addDefect u (kind := 2) rfl hlen ..
    · rw [log_hlth, h', h]; rfl
    · rw [log_str]
      exact (addDefect_frame _ _ _ _ _ .str rfl).trans (useSpare_frame u 2 .str rfl)
  · intro s hrun hrung hspare
    let u := addDefect 2 3 s.hlth.laneNext 0 (onHlth (fun h => { h with lanes := s.hlth.lanes - 1 })
      (onHlth (fun h => { h with laneNext := (s.hlth.laneNext + 1) % 64 }) s))
    have hx : exec (.laneTest false) s = .next (if s.hlth.lanes - 1 < 56 then
        hardwareFault 0x1009 2 (log srcApp3 0x1009 3 (i32 (s.hlth.lanes - 1 : Nat)) u) else u) :=
      (if_neg (by simp [hrun, hrung])).trans (congrArg Host.Outcome.next (if_neg (Nat.not_lt.mpr (Nat.le_of_eq hspare))))
    have hu : Frame [.deferred, .irq, .rings, .logFreeze, .hlth, .rung] _ u := addDefect_frame _ 2 3 s.hlth.laneNext 0
    obtain ⟨m, b, h⟩ := addDefect_hlth (onHlth (fun h => { h with lanes := s.hlth.lanes - 1 })
      (onHlth (fun h => { h with laneNext := (s.hlth.laneNext + 1) % 64 }) s)) 2 3 s.hlth.laneNext 0
    have hlanes : u.hlth.lanes = s.hlth.lanes - 1 := (congrArg HealthSt.lanes h :)
    rw [hx, completes_next]
    split
    · next hlt =>
      refine ⟨?_, fun _ => ?_, fun hge => absurd hlt (Nat.not_lt.mpr hge)⟩
      · rw [show (hardwareFault 0x1009 2 _).hlth = _ from Frame.of_blank (hardwareFault_blank (within_refl _) 0x1009 2 _) .hlth rfl, log_hlth]
        exact hlanes
      · refine (hardwareFault_faulted (s := log srcApp3 0x1009 3 _ u) 0x1009 2).congr ?_ ?_ ?_
        · rw [log_str]; exact (hu .str rfl).symm
        · rw [log_prot]; exact (hu .prot rfl).symm
        · rw [log_pair]; exact (hu .pair rfl).symm
    · next hge => exact ⟨hlanes, fun h => absurd h hge, fun _ => hu .str rfl⟩
  · intro s region hrun hstage hwr hdue
    have hx : exec (.flashRefresh region false false) s = .next (onHlth (fun h =>
        if 1023 ≤ s.hlth.refreshBlock then { h with refreshBlock := 0, refreshLast := operMs s, refreshBand := h.band.getD 0 }
        else { h with refreshBlock := s.hlth.refreshBlock + 1, refreshBand := refreshBandNow s }) s) := by
      refine if_neg ?_
      obtain h | h := hdue <;> simp [hrun, hstage, hwr, h]
    rw [hx, completes_next]
    refine ⟨Frame.of_blank rfl, ?_⟩
    rw [onHlth_hlth]
    split <;> exact ⟨rfl, rfl⟩
  · intro s block r hrun hwr
    have hadv : journalAdvance true s = onJrn (fun j => { j with writing := some (r, 1) }) s := by
      unfold journalAdvance
      simp only [hwr]
      rfl
    rw [show exec (.flashOperationDone 2 block true) s = .next (journalAdvance true s) from if_neg (by simp [hrun]), completes_next, hadv]
    exact ⟨rfl, Frame.of_blank rfl⟩
  · intro s region block hrun hregion hspare hlen
    let u := log srcApp3 0x1006 2 (u16 block ++ u16 region) s
    have hleft : spareLeft u 5 = spareLeft s 5 := by rw [spareLeft, log_hlth]; rfl
    have hx : exec (.flashOperationDone region block false) s = .next (addDefect 5 1 block 0 (useSpare 5 u)) := by
      refine (if_neg (by simp [hrun])).trans (congrArg Host.Outcome.next ?_)
      rw [if_neg hregion, if_neg Bool.false_ne_true]
      exact if_pos (hleft ▸ hspare)
    rw [hx, completes_next, ← hleft]
    refine ⟨spareLeft_useSpare_addDefect u (kind := 5) rfl (by rw [log_hlth]; exact hlen) .., ?_⟩
    exact (addDefect_frame _ _ _ _ _ .str rfl).trans ((useSpare_frame u 5 .str rfl).trans (log_str ..))

end Sys2Proof.Machine
end

section
/-! Answers that other work precedes, and the staging of an update (R541 to R551). -/
namespace Sys2Proof.Machine

/-! ### Answers -/

theorem Answered.congr {r : HostReq} {code status : Nat} {payload : Bytes} {s s' t t' : State} (h : Answered r code status payload s t)
    (hout : s'.out = s.out) (htb : s'.tb = s.tb) (hcfg : s'.cfg = s.cfg) (hout' : t'.out = t.out) : Answered r code status payload s' t' := by
  obtain ⟨d, hd, h⟩ := h
  exact ⟨d, hd.congr hout htb hcfg hout', h⟩

theorem respond_frame (r : HostReq) (status : Nat) (payload : Bytes) (s : State) :
    Frame [.host, .irq, .rings, .rung, .out] s (respond r status payload s) := Frame.of_blank (respond_blank (within_refl _) r status payload s)

@[simp] theorem respond_upd (r : HostReq) (status : Nat) (payload : Bytes) (s : State) : (respond r status payload s).upd = s.upd :=
  (respond_frame r status payload s).upd_eq rfl rfl

/-- An answer after work that sends nothing and leaves the launch queues and the image alone. -/
theorem respond_answered_after {s u : State} (r : HostReq) (status : Nat) (payload : Bytes) (h : payload.length ≤ 1400)
    (hout : u.out = s.out) (htb : u.tb = s.tb) (hcfg : u.cfg = s.cfg) : Answered r r.code status payload s (respond r status payload u) :=
  (respond_answered (s := u) r status payload h).congr hout.symm htb.symm hcfg.symm rfl

/-! ### The pieces -/

/-- The state in which a piece is judged: it has passed ring 59. -/
def piecePassed (r : HostReq) (s : State) : State := s |> ringPut 59 (mkPacket 1 r.args) |> ringRel 59

theorem piecePassed_frame (r : HostReq) (s : State) : Frame [.irq, .rings, .rung] s (piecePassed r s) :=
  Frame.of_blank (by simp (disch := decide) only [piecePassed, ringRel_blank, ringPut_blank])

section
variable {s : State} {r : HostReq} {x : Staging} {o : Op} (hadm : Admitted 3 r s) (hlen : r.args.length = 1032)
  (hst : s.upd.staging = some x) (hop : findOp s 7 = some o)
include hadm hlen hst hop

theorem updPiece_completes (p : State → Prop) :
    Completes (exec (.updPiece r) s) p ↔ p (pieceTo x o (withCode 0x0400 r) (piecePassed r s)) := by
  have hadm' := hadm.withCode 0x0400
  have hargs : (withCode 0x0400 r).args.length = 1032 := hlen
  show Completes (evalRow 0x0400 evalUpdPiece r s) p ↔ _
  rw [completes_evalRow hadm, evalUpdPiece, hargs]
  simp only [decide_true, Bool.true_or]
  rw [roleThen_of_admitted hadm']
  simp only [hst, hop]
  rfl

omit hadm hst hop in
/-- A piece of the transfer, not the last of its chunk: stored, or counted where it is held already. -/
theorem pieceTo_of_fits (hos : o.opState = 0) (hphase : s.upd.phase = 1) (herase : s.upd.erasing = false) (hid : getN r.args 0 4 = x.updId)
    (hpiece : getN r.args 5 1 < 128) (hk : 128 * getN r.args 4 1 + getN r.args 5 1 < x.xferLen / 1024)
    (hlast : (chunkPieces x (getN r.args 4 1)).getLast? ≠ some (128 * getN r.args 4 1 + getN r.args 5 1)) :
    let k := 128 * getN r.args 4 1 + getN r.args 5 1
    let y := x.put k (slice r.args 8 1024) []
    let t := piecePassed r s
    (x.holds k = true → pieceTo x o (withCode 0x0400 r) t =
      respond (withCode 0x0400 r) stOk [] (onUpd (fun u => { u with dupes := satInc 32 u.dupes }) t)) ∧
    (x.holds k = false → chunkHeld y (getN r.args 4 1) = false → pieceTo x o (withCode 0x0400 r) t =
      respond (withCode 0x0400 r) stOk [] (onUpd (fun u => { u with staging := some y }) t)) := by
  have hupd : (piecePassed r s).upd = s.upd := (piecePassed_frame r s).upd_eq rfl rfl
  have hargs : (withCode 0x0400 r).args = r.args := rfl
  have hp := Nat.not_le.mpr hpiece
  have hk' := Nat.not_le.mpr hk
  refine ⟨fun hh => ?_, fun hh hc => ?_⟩
  · unfold pieceTo
    simp [hargs, hupd, hid, hphase, herase, hos, hlen, hh, hlast, hp, hk']
  · unfold pieceTo
    simp [hargs, hupd, hid, hphase, herase, hos, hlen, hh, hlast, hp, hk', hc]

end

/-! ### The slots -/

theorem fwSlot_onFwSlot_self {k : Nat} (hk : k < 2) (g : FwSlot → FwSlot) (s : State) : fwSlot (onFwSlot k g s) k = g (fwSlot s k) := by
  interval_cases k <;> rfl

theorem fwSlot_onFwSlot_other {k : Nat} (hk : k < 2) (g : FwSlot → FwSlot) (s : State) : fwSlot (onFwSlot k g s) (1 - k) = fwSlot s (1 - k) := by
  interval_cases k <;> rfl

theorem updTarget_lt (s : State) : updTarget s < 2 := by
  unfold updTarget
  split <;> decide

theorem fwSlot_congr {s t : State} (ha : t.upd.slotA = s.upd.slotA) (hb : t.upd.slotB = s.upd.slotB) (k : Nat) : fwSlot t k = fwSlot s k := by
  simp only [fwSlot, ha, hb]

section
variable {s : State} {x : Staging} {o : Op} (hst : s.upd.staging = some x) (hop : findOp s 7 = some o) (hrun : running s = true)
  (hphase : s.upd.phase = 2) (hos : o.opState = 0)
include hst hop hrun hphase hos

theorem exec_updInstallDone (bad : Option Nat) : exec (.updInstallDone bad) s =
    .next (match bad with | none => installDone x s | some n => installFails x n s) := by
  show execUpdInstallDone bad s = _
  unfold execUpdInstallDone
  simp only [hst, hop]
  rw [if_neg (by simp [hrun, hphase, hos])]
  cases bad <;> rfl

end

theorem endOp_upd (kind status : Nat) (res : Bytes) (s : State) : (endOp kind status res s).upd = s.upd := rfl

/-- The slot as an install leaves it. -/
def installedSlot (x : Staging) (s : State) : FwSlot :=
  { st := 2, man := manifestOf (Config.gcmOpen (updKey s x) (chunkNonce x 0) (chunkBytes x 0)), installTime := operMs s }

theorem installDone_eq (x : Staging) {s : State} (hrec : s.upd.recovery = false) : ∃ w res, installDone x s = endOp 7 stOk res
    (log srcApp3 0x1203 1 w (onUpd (fun u => { u with phase := 3, installMs := sinceNs s u.installStart / 1000000 })
      (onFwSlot (updTarget s) (fun _ => installedSlot x s) s))) :=
  ⟨_, _, if_neg (by rw [hrec]; exact Bool.false_ne_true)⟩

theorem installFails_eq (x : Staging) (n : Nat) (s : State) : ∃ w res, installFails x n s = onUpd (fun u => { u with phase := 0 })
    (endOp 7 stFault res (log srcApp3 0x1202 2 w (onFwSlot (updTarget s) (fun _ => {})
      (onUpd (fun u => { u with staging := some (x.drop n), chunksFailed := u.chunksFailed + 1 }) s)))) :=
  ⟨_, _, rfl⟩

/-- Settles O23: a piece goes to the staging, and the ends of an install and of a trial move the slot they are for. -/
theorem updateStaging : Obligations.UpdateStaging := by
  unfold Obligations.UpdateStaging
  refine ⟨fun s hrun herase => ?_, ?_, ?_, ?_, ?_, ?_⟩
  · rw [show exec .stagingEraseDone s = _ from congrArg Host.Outcome.next (if_pos (by simp [hrun, herase])), completes_next]
    exact ⟨rfl, Frame.of_blank rfl⟩
  · intro s r x o hadm hlen hst hop hos hphase herase hid hpiece hk hlast hhold hheld
    have hp := piecePassed_frame r s
    have hupd : (piecePassed r s).upd = s.upd := hp.upd_eq rfl rfl
    rw [updPiece_completes hadm hlen hst hop, (pieceTo_of_fits hlen hos hphase herase hid hpiece hk hlast).2 hhold hheld, respond_upd]
    exact ⟨respond_answered_after (withCode 0x0400 r) stOk [] (Nat.zero_le _) (hp .out rfl) (hp .tb rfl) (hp .cfg rfl), rfl,
      (congrArg UpdSt.phase hupd).trans hphase⟩
  · intro s r x o hadm hlen hst hop hos hphase herase hid hpiece hk hlast hhold
    have hp := piecePassed_frame r s
    have hupd : (piecePassed r s).upd = s.upd := hp.upd_eq rfl rfl
    rw [updPiece_completes hadm hlen hst hop, (pieceTo_of_fits hlen hos hphase herase hid hpiece hk hlast).1 hhold, respond_upd]
    exact ⟨respond_answered_after (withCode 0x0400 r) stOk [] (Nat.zero_le _) (hp .out rfl) (hp .tb rfl) (hp .cfg rfl),
      (congrArg UpdSt.staging hupd).trans hst, congrArg (fun u : UpdSt => satInc 32 u.dupes) hupd⟩
  · intro s x o hst hop hrun hphase hos hrec
    obtain ⟨w, res, hx⟩ := installDone_eq x hrec
    have hlt := updTarget_lt s
    let u := onFwSlot (updTarget s) (fun _ => installedSlot x s) s
    have hupd : (installDone x s).upd = { u.upd with phase := 3, installMs := sinceNs s u.upd.installStart / 1000000 } := by
      rw [hx, endOp_upd, log_upd]; rfl
    have hslot : ∀ k, fwSlot (installDone x s) k = fwSlot u k := fwSlot_congr (congrArg UpdSt.slotA hupd :) (congrArg UpdSt.slotB hupd :)
    rw [exec_updInstallDone hst hop hrun hphase hos, completes_next]
    dsimp only
    rw [hslot, hslot, fwSlot_onFwSlot_self hlt, fwSlot_onFwSlot_other hlt]
    refine ⟨congrArg UpdSt.phase hupd, rfl, rfl, rfl, ?_⟩
    rw [hx]
    exact findOp_endOp ..
  · intro s x o n hst hop hrun hphase hos
    obtain ⟨w, res, hx⟩ := installFails_eq x n s
    have hlt := updTarget_lt s
    let u := onFwSlot (updTarget s) (fun _ => {}) (onUpd (fun u => { u with staging := some (x.drop n), chunksFailed := u.chunksFailed + 1 }) s)
    have hupd : (installFails x n s).upd = { u.upd with phase := 0 } := by
      rw [hx, onUpd_upd, endOp_upd, log_upd]
    have hslot : ∀ k, fwSlot (installFails x n s) k = fwSlot u k := fwSlot_congr (congrArg UpdSt.slotA hupd :) (congrArg UpdSt.slotB hupd :)
    have hstaging : u.upd.staging = some (x.drop n) := by
      simp only [u, onFwSlot, onUpd_upd]
      split <;> rfl
    rw [exec_updInstallDone hst hop hrun hphase hos, completes_next]
    dsimp only
    rw [hslot, hslot, fwSlot_onFwSlot_self hlt, fwSlot_onFwSlot_other hlt]
    refine ⟨congrArg UpdSt.phase hupd, rfl, rfl, (congrArg UpdSt.staging hupd).trans hstaging, ?_⟩
    rw [hx]
    exact (findOp_congr (onUpd_ops ..) 7).trans (findOp_endOp ..)
  · intro s t0 hfrom hrun hlt hst ht
    let k := s.upd.running
    let u := onFwSlot (1 - k) (fun f => if f.st = 4 then { f with st := 5 } else if f.st = 5 then {} else f) (onFwSlot k (fun f => { f with st := 4 }) s)
    let v := onUpd (fun u => { u with confirmFrom := none, counter := max s.upd.counter (min 64 (fwSlot s k).man.secVer)
                                      revoked := Nat.lor u.revoked ((fwSlot s k).man.revoke % 16) }) u
    have hx : ∃ w, exec .updTrialConfirm s = .next (log srcApp3 0x1205 2 w v) := by
      show ∃ w, execUpdTrialConfirm s = _
      unfold execUpdTrialConfirm
      simp only [hfrom]
      exact ⟨_, if_neg (by simp [hrun, hst, ht])⟩
    obtain ⟨w, hx⟩ := hx
    have hslot : ∀ j, fwSlot (log srcApp3 0x1205 2 w v) j = fwSlot u j := fun j => by
      simp only [fwSlot, log_upd]; rfl
    have hk : k < 2 := hlt
    have hother : fwSlot u (1 - k) = (fun f : FwSlot => if f.st = 4 then { f with st := 5 } else if f.st = 5 then {} else f) (fwSlot s (1 - k)) := by
      rw [fwSlot_onFwSlot_self (by omega), fwSlot_onFwSlot_other hk]
    have hself : fwSlot u k = { fwSlot s k with st := 4 } := by
      have h := fwSlot_onFwSlot_other (k := 1 - k) (by omega) (fun f => if f.st = 4 then { f with st := 5 } else if f.st = 5 then {} else f)
        (onFwSlot k (fun f => { f with st := 4 }) s)
      rw [show 1 - (1 - k) = k by omega, fwSlot_onFwSlot_self hk] at h
      exact h
    have hkept : u.upd.revoked = s.upd.revoked ∧ u.upd.keyHash = s.upd.keyHash := by
      simp only [u, onFwSlot, onUpd_upd]
      split <;> split <;> exact ⟨rfl, rfl⟩
    rw [hx, completes_next, hslot, hslot, hself, hother, log_upd]
    refine ⟨rfl, rfl, fun h => ?_, fun h => ?_, rfl, ?_, hkept.2⟩
    · dsimp only; rw [if_pos h]
    · dsimp only; rw [if_neg (by rw [h]; decide), if_pos h]
    · exact congrArg (Nat.lor · ((fwSlot s k).man.revoke % 16)) hkept.1

end Sys2Proof.Machine
end

section
/-! The CAN controllers (R467 to R471). -/
namespace Sys2Proof.Machine

/-! ### A packet that fits its ring -/

/-- A packet that fits stands last in its ring, but for the intake rings of the hardware and of the always-on controller. -/
theorem ringAt_ringPut_self {n : Nat} (hn : n < 40 ∨ 47 < n) {p : Packet} {s : State} (hl : n < s.rings.rings.length)
    (hf : (ringAt s n).fits p.len = true) : ringAt (ringPut n p s) n = (ringAt s n).commit p := by
  have hw : n ≠ 46 := by omega
  have aon : n ≠ 47 := by omega
  have hpush : ringAt (pushCore n p s).1 n = (ringAt s n).commit p ∧ NotesTo (n ≠ ·) (pushCore n p s).2 := by
    have k := trafficKeeps_ringAt (k := n) (onRing n (fun r => r.commit p) s) hw aon
    have h1 := k.core n true (onRing n (fun r => r.commit p) s) trivial rfl
    rw [pushCore, if_pos hf, commitCore]
    dsimp only
    refine ⟨?_, (k.notes_irqCore _ _ rfl).append (k.notes_waterIrq _ h1)⟩
    unfold waterIrq
    dsimp only
    split
    · rw [ringAt_irqCore]; exact ringAt_onRing_self _ hl
    · rw [ringAt_irqCore, ringAt_irqCore]; exact ringAt_onRing_self _ hl
  obtain ⟨hself, hnotes⟩ := hpush
  have k := trafficKeeps_ringAt (k := n) (pushCore n p s).1 hw aon
  rw [← hself]
  exact foldl_notes hnotes (P := fun t => ringAt t n = ringAt (pushCore n p s).1 n)
    (f := fun r m t => ringPutN 2 r (mkPacket 0 (m.intake t).encode) t) (fun _ _ hr ht => k.ringPutN _ hr _ ht) rfl

/-- Traffic keeps the number of rings. -/
theorem trafficKeeps_ringsLength (s0 : State) :
    TrafficKeeps (fun s => s.rings.rings.length = s0.rings.rings.length) (fun _ => True) fun _ => True where
  core src up s _ hs := (congrArg (·.rings.length) (irqCore_rings src up s)).trans hs
  ring n g s _ hs := (onRing_length n g s).trans hs
  srcs _ _ := ⟨trivial, trivial⟩
  hw := trivial
  aon _ _ _ := trivial

theorem ringsLength_logOnly (src code sev : Nat) (data : Bytes) (s : State) :
    (logOnly src code sev data s).rings.rings.length = s.rings.rings.length := by
  unfold logOnly
  split
  · exact (trafficKeeps_ringsLength s).ringPut trivial _ rfl
  · rfl

theorem ringsLength_log (src code sev : Nat) (data : Bytes) (s : State) :
    (log src code sev data s).rings.rings.length = s.rings.rings.length := by
  unfold log
  dsimp only
  split
  · unfold thawLog
    split
    · exact ringsLength_logOnly ..
    · exact (ringsLength_logOnly ..).trans (ringsLength_logOnly ..)
  · exact ringsLength_logOnly ..

theorem Ring.commit_pkts (r : Ring) (p : Packet) : (r.commit p).pkts = r.pkts ++ [p] := by
  unfold Ring.commit Ring.water
  dsimp only
  (repeat' split) <;> rfl

/-! ### One controller -/

section
variable {s : State} {ctl : Nat} (g : CanCtl → CanCtl)

theorem canAt_onCtl_self : canAt (onCtl ctl g s) ctl = g (canAt s ctl) := by
  unfold canAt onCtl
  rw [onCan_can]
  split <;> rfl

theorem canAt_onCtl_other (h : ctl < 2) : canAt (onCtl ctl g s) (1 - ctl) = canAt s (1 - ctl) := by
  interval_cases ctl <;> rfl

theorem canAt_congr {s t : State} (h : t.can = s.can) (ctl : Nat) : canAt t ctl = canAt s ctl := by
  simp only [canAt, h]

/-- The error state follows the counters and changes nothing else of its controller. -/
theorem canErrState_ctl (ctl : Nat) (s : State) : ∃ p, canAt (canErrState ctl s) ctl = { canAt s ctl with errPassive := p } := by
  unfold canErrState
  dsimp only
  split
  · exact ⟨_, rfl⟩
  · refine ⟨decide (127 < (canAt s ctl).tec) || decide (127 < (canAt s ctl).recv), ?_⟩
    rw [canAt_congr (irqEvent_can ..), canAt_congr (log_can ..), canAt_onCtl_self]

theorem canErrState_ringsLength (ctl : Nat) (s : State) : (canErrState ctl s).rings.rings.length = s.rings.rings.length := by
  unfold canErrState
  dsimp only
  split
  · rfl
  · exact ((trafficKeeps_ringsLength _).irqEvent trivial _ rfl).trans (ringsLength_log ..)

theorem canErrState_ringAt {n : Nat} (hn : n < 40 ∨ 47 < n) (ctl : Nat) (s : State) : ringAt (canErrState ctl s) n = ringAt s n := by
  unfold canErrState
  dsimp only
  split
  · rfl
  · rw [ringAt_irqEvent (by omega) (by omega), ringAt_log hn (by decide)]; rfl

end

/-! ### Arbitration -/

theorem pickMailbox_pending {i0 i k : Nat} {l : List Mailbox} (h : pickMailbox i0 l = some (i, k)) :
    ∃ j m, i = i0 + j ∧ l[j]? = some m ∧ m.st = .pending := by
  induction l generalizing i0 i k with
  | nil => exact absurd h nofun
  | cons m ms ih =>
    have tail : ∀ {i k}, pickMailbox (i0 + 1) ms = some (i, k) → ∃ j x, i = i0 + j ∧ (m :: ms)[j]? = some x ∧ x.st = .pending := fun ht => by
      obtain ⟨j, x, hj, hx, hst⟩ := ih ht
      exact ⟨j + 1, x, by omega, hx, hst⟩
    unfold pickMailbox at h
    dsimp only at h
    split at h
    · next hp =>
      have self : ∃ j x, i0 = i0 + j ∧ (m :: ms)[j]? = some x ∧ x.st = .pending := ⟨0, m, rfl, rfl, hp⟩
      split at h
      · next j k' hr =>
        split at h
        · obtain ⟨rfl, rfl⟩ := Prod.mk.inj (Option.some.inj h); exact tail hr
        · obtain ⟨rfl, rfl⟩ := Prod.mk.inj (Option.some.inj h); exact self
      · obtain ⟨rfl, rfl⟩ := Prod.mk.inj (Option.some.inj h); exact self
    · exact tail h

/-- Arbitration makes at most one mailbox ACTIVE, one that was PENDING. -/
theorem CanCtl.arb_cases (c : CanCtl) : c.arb = c ∨
    ∃ i m, c.mbs[i]? = some m ∧ m.st = .pending ∧ c.arb = { c with mbs := updAt (fun m => { m with st := .active }) c.mbs i } := by
  unfold CanCtl.arb
  split
  · split
    · next i k h =>
      obtain ⟨j, m, hj, hm, hst⟩ := pickMailbox_pending h
      exact .inr ⟨i, m, by rw [hj, Nat.zero_add]; exact hm, hst, rfl⟩
    · exact .inl rfl
  · exact .inl rfl

/-- What arbitration does to one mailbox. -/
theorem CanCtl.arb_nth (c : CanCtl) (mb : Nat) : nth {} c.arb.mbs mb = nth {} c.mbs mb ∨
    (nth {} c.mbs mb).st = .pending ∧ nth {} c.arb.mbs mb = { nth {} c.mbs mb with st := .active } := by
  obtain h | ⟨i, m, hm, hst, h⟩ := c.arb_cases
  · rw [h]; exact .inl rfl
  · rw [h]
    by_cases hi : mb = i
    · subst hi
      have hl : mb < c.mbs.length := (List.getElem?_eq_some_iff.mp hm).1
      refine .inr ⟨(congrArg Mailbox.st (nth_of_getElem? hm)).trans hst, nth_updAt_self _ _ hl⟩
    · exact .inl (nth_updAt_ne _ _ _ hi)

theorem CanCtl.arb_other (c : CanCtl) : ∃ l, c.arb = { c with mbs := l } := by
  obtain h | ⟨i, m, -, -, h⟩ := c.arb_cases
  · exact ⟨c.mbs, h⟩
  · exact ⟨_, h⟩

/-- Arbitration leaves every mailbox as it is or makes it ACTIVE. -/
theorem CanCtl.arb_mem {c : CanCtl} {m : Mailbox} (h : m ∈ c.arb.mbs) : m ∈ c.mbs ∨ m.st = .active := by
  obtain e | ⟨i, x, -, -, e⟩ := c.arb_cases
  · rw [e] at h; exact .inl h
  · rw [e] at h
    obtain ⟨j, hj⟩ := List.mem_iff_getElem?.mp h
    rw [getElem?_updAt] at hj
    split at hj
    · obtain ⟨y, -, rfl⟩ := Option.map_eq_some_iff.mp hj
      exact .inr rfl
    · exact .inl (List.mem_of_getElem? hj)

/-- What a write does to its mailbox when none of it is on the bus. -/
theorem CanCtl.write_nth {c : CanCtl} {mb : Nat} (hr : c.running = true) (hl : mb < c.mbs.length) (hst : (nth {} c.mbs mb).st ≠ .active)
    (id : Nat) (data : Bytes) : (nth {} (c.write mb id data).mbs mb).data = data ∧ (nth {} (c.write mb id data).mbs mb).id = id := by
  have put : ∀ (x : Mailbox) (d : CanCtl), d.mbs = setAt c.mbs mb x → x.data = data → x.id = id →
      (nth {} d.arb.mbs mb).data = data ∧ (nth {} d.arb.mbs mb).id = id := fun x d hd hx hi => by
    have self : nth {} d.mbs mb = x := by rw [hd]; exact nth_setAt_self _ _ hl
    obtain h | ⟨-, h⟩ := d.arb_nth mb
    · rw [h, self]; exact ⟨hx, hi⟩
    · rw [h, self]; exact ⟨hx, hi⟩
  rw [CanCtl.write, hr, Bool.not_true, if_neg (by decide)]
  dsimp only
  cases h : (nth {} c.mbs mb).st with
  | empty => exact put _ _ rfl rfl rfl
  | done => exact put _ _ rfl rfl rfl
  | pending => exact put _ _ rfl rfl rfl
  | suspended => exact put _ _ rfl rfl rfl
  | active => exact absurd h hst

theorem retryMailbox_st (m : Mailbox) : (retryMailbox m).st ≠ .active := by
  unfold retryMailbox
  split
  · split <;> exact nofun
  · assumption

theorem suspendMailbox_st (m : Mailbox) : (suspendMailbox m).st ≠ .pending ∧ (suspendMailbox m).st ≠ .active := by
  unfold suspendMailbox
  dsimp only
  split
  · exact ⟨nofun, nofun⟩
  · exact ⟨‹_›, retryMailbox_st m⟩

/-! ### The instructions -/

section
variable {s : State} {ctl : Nat} (hc : ctl < 2)
include hc

/-- A controller on its bus and not bus-off takes part (R467, R471). -/
theorem canTakesPart (hr : (canAt s ctl).running = true) (hb : (canAt s ctl).onBus = true) (ho : (canAt s ctl).busOff = false) :
    ¬(decide (2 ≤ ctl) || !(canAt s ctl).running || !(canAt s ctl).onBus || (canAt s ctl).busOff) = true := by
  simp [hr, hb, ho, hc]

theorem canBusIntegration_joins (hr : (canAt s ctl).running = true) (hb : (canAt s ctl).onBus = false) :
    Completes (exec (.canBusIntegration ctl) s) fun t => (canAt t ctl).onBus = true ∧ (canAt t ctl).tec = 0 ∧ (canAt t ctl).recv = 0 ∧
      canAt t (1 - ctl) = canAt s (1 - ctl) ∧ Frame [.can] s t := by
  have hx : exec (.canBusIntegration ctl) s = .next (s |> onCtl ctl fun c => CanCtl.arb { c with onBus := true, tec := 0, recv := 0 }) :=
    if_neg (by simp [hr, hb, hc])
  rw [hx, completes_next, canAt_onCtl_self]
  obtain ⟨l, h⟩ := CanCtl.arb_other { canAt s ctl with onBus := true, tec := 0, recv := 0 }
  rw [h]
  exact ⟨rfl, rfl, rfl, canAt_onCtl_other _ hc, Frame.of_blank (onCtl_blank (within_refl _) ctl _ s)⟩

/-- A valid frame of either kind is acknowledged; a status frame is kept, any other is discarded (R470). -/
theorem canFrameReceived_kept {f : CanFrame} (hr : (canAt s ctl).running = true) (hb : (canAt s ctl).onBus = true)
    (ho : (canAt s ctl).busOff = false) (hf : f.remote = false) (hi : f.id = s.cfg.can.chStsId) (hd : f.data.length = 8)
    (hl : 24 + ctl < s.rings.rings.length) (hfit : (ringAt s (24 + ctl)).fits (mkPacket 0 (u32 (timeNs s) ++ f.data)).len = true) :
    Completes (exec (.canFrameReceived ctl f) s) fun t => (canAt t ctl).rxCnt = satInc 32 (canAt s ctl).rxCnt ∧
      (canAt t ctl).recv = recAfterGood (canAt s ctl).recv ∧
      (ringAt t (24 + ctl)).pkts = (ringAt s (24 + ctl)).pkts ++ [mkPacket 0 (u32 (timeNs s) ++ f.data)] := by
  have hn : 24 + ctl < 40 ∨ 47 < 24 + ctl := .inl (by omega)
  generalize hu : (s |> onCtl ctl (fun c => { c with recv := recAfterGood c.recv }) |> canErrState ctl) = u
  have hring : ringAt u (24 + ctl) = ringAt s (24 + ctl) := by rw [← hu]; exact canErrState_ringAt hn ..
  obtain ⟨p, hp⟩ := canErrState_ctl ctl (s |> onCtl ctl (fun c => { c with recv := recAfterGood c.recv }))
  rw [hu, canAt_onCtl_self] at hp
  have hlen : 24 + ctl < u.rings.rings.length := by
    rw [← hu, canErrState_ringsLength]; exact hl
  have hx : exec (.canFrameReceived ctl f) s = .next (u |> onCtl ctl (fun c => { c with rxCnt := satInc 32 c.rxCnt }) |>
      ringPut (24 + ctl) (mkPacket 0 (u32 (timeNs s) ++ f.data))) := by
    refine (if_neg (canTakesPart hc hr hb ho)).trans ?_
    rw [hu]
    refine (if_pos ?_).trans (if_pos ?_)
    · simp [hf, hi, hd]
    · rw [hring]; exact hfit
  rw [hx, completes_next, canAt_congr (ringPut_can ..), canAt_onCtl_self, hp]
  refine ⟨rfl, rfl, ?_⟩
  have hu1 := ringAt_ringPut_self (s := u |> onCtl ctl fun c => { c with rxCnt := satInc 32 c.rxCnt }) hn hlen
    (p := mkPacket 0 (u32 (timeNs s) ++ f.data)) (hring.symm ▸ hfit :)
  rw [hu1, Ring.commit_pkts]
  exact congrArg (·.pkts ++ _) hring

theorem canFrameReceived_discarded {f : CanFrame} (hr : (canAt s ctl).running = true) (hb : (canAt s ctl).onBus = true)
    (ho : (canAt s ctl).busOff = false) (hf : f.remote = true ∨ f.id ≠ s.cfg.can.chStsId ∨ f.data.length ≠ 8) :
    Completes (exec (.canFrameReceived ctl f) s) fun t => (canAt t ctl).rxDiscard = satInc 32 (canAt s ctl).rxDiscard ∧
      (canAt t ctl).rxCnt = (canAt s ctl).rxCnt ∧ ringAt t (24 + ctl) = ringAt s (24 + ctl) := by
  have hx : exec (.canFrameReceived ctl f) s = .next (s |> onCtl ctl (fun c => { c with recv := recAfterGood c.recv }) |> canErrState ctl |>
      onCtl ctl fun c => { c with rxDiscard := satInc 32 c.rxDiscard }) := by
    refine (if_neg (canTakesPart hc hr hb ho)).trans (if_neg ?_)
    simp only [Bool.and_eq_true, Bool.not_eq_true', decide_eq_true_eq]
    rintro ⟨⟨h1, h2⟩, h3⟩
    obtain h | h | h := hf
    · exact absurd h1 (by simp [h])
    · exact h h2
    · exact h h3
  obtain ⟨p, hp⟩ := canErrState_ctl ctl (s |> onCtl ctl (fun c => { c with recv := recAfterGood c.recv }))
  rw [hx, completes_next, canAt_onCtl_self, hp, canAt_onCtl_self]
  exact ⟨rfl, rfl, canErrState_ringAt (.inl (by omega)) ..⟩

section
variable {mb : Nat} (hl : mb < (canAt s ctl).mbs.length) (ha : (nth {} (canAt s ctl).mbs mb).st = .active) (delay : Option Nat)
include hl ha

/-- The end of a transmission puts `m1` in its mailbox, which arbitration may take up at once (R468). -/
theorem canTxComplete_mailbox {m1 : Mailbox} (h1 : (match (nth {} (canAt s ctl).mbs mb).next with
      | some d => { nth {} (canAt s ctl).mbs mb with st := .pending, data := d, next := none }
      | none => { nth {} (canAt s ctl).mbs mb with st := .done }) = m1) :
    Completes (exec (.canTxComplete ctl mb delay) s) fun t =>
      (nth {} (canAt t ctl).mbs mb = m1 ∨ m1.st = .pending ∧ nth {} (canAt t ctl).mbs mb = { m1 with st := .active }) ∧
      (canAt t ctl).txCnt = satInc 32 (canAt s ctl).txCnt ∧ (canAt t ctl).tec = (canAt s ctl).tec - 1 ∧
      (canAt t ctl).sent = (mb, (nth {} (canAt s ctl).mbs mb).data) :: (canAt s ctl).sent := by
  let c1 : CanCtl := { canAt s ctl with
    mbs := setAt (canAt s ctl).mbs mb m1, txCnt := satInc 32 (canAt s ctl).txCnt, tec := (canAt s ctl).tec - 1
    sent := (mb, (nth {} (canAt s ctl).mbs mb).data) :: (canAt s ctl).sent
    tdcDelay := if (canPort s ctl).tdc then delay.orElse (fun _ => (canAt s ctl).tdcDelay) else (canAt s ctl).tdcDelay }
  have hx : exec (.canTxComplete ctl mb delay) s = .next (s |> onCtl ctl (fun c => CanCtl.arb { c with
        mbs := setAt c.mbs mb m1, txCnt := satInc 32 c.txCnt, tec := c.tec - 1, sent := (mb, (nth {} (canAt s ctl).mbs mb).data) :: c.sent
        tdcDelay := if (canPort s ctl).tdc then delay.orElse (fun _ => c.tdcDelay) else c.tdcDelay })
      |> ringPut (26 + ctl) (mkPacket 0 (u8 mb ++ u32 (timeNs s))) |> canErrState ctl) := by
    rw [← h1]; exact if_neg (by simp [hc, ha])
  rw [hx, completes_next]
  obtain ⟨p, hp⟩ := canErrState_ctl ctl (s |> onCtl ctl (fun c => CanCtl.arb { c with
        mbs := setAt c.mbs mb m1, txCnt := satInc 32 c.txCnt, tec := c.tec - 1, sent := (mb, (nth {} (canAt s ctl).mbs mb).data) :: c.sent
        tdcDelay := if (canPort s ctl).tdc then delay.orElse (fun _ => c.tdcDelay) else c.tdcDelay })
      |> ringPut (26 + ctl) (mkPacket 0 (u8 mb ++ u32 (timeNs s))))
  rw [hp, canAt_congr (ringPut_can ..), canAt_onCtl_self]
  have hself : nth {} c1.mbs mb = m1 := nth_setAt_self _ _ hl
  obtain ⟨l, hrest⟩ := c1.arb_other
  have harb := c1.arb_nth mb
  rw [hself] at harb
  exact ⟨harb, (congrArg CanCtl.txCnt hrest :), (congrArg CanCtl.tec hrest :), (congrArg CanCtl.sent hrest :)⟩

end

end

/-- The state in which a bus error is counted and the transmission that failed is back in the order, as `execCanBusError` makes it
before it looks at the transmit counter. -/
def busErrorCounted (ctl a b : Nat) (lost : Bool) (delay : Option Nat) (s : State) : State :=
  let s0 := match delay with
    | some d => if (canPort s ctl).tdc && decide (255 < d + (canPort s ctl).tdco) then log srcComm 0x0D06 2 (u16 ctl ++ u8 d) s else s
    | none => s
  s0 |> onCtl ctl (fun c => { c with
      tec := c.tec + a, recv := min (c.recv + b) 255
      tdcDelay := if (canPort s ctl).tdc then delay.orElse (fun _ => c.tdcDelay) else c.tdcDelay
      mbs := if lost || decide (0 < a) || b = 0 then c.mbs.map retryMailbox else c.mbs })
    |> canErrState ctl

section
variable {s : State} {ctl : Nat} {a b : Nat} (lost : Bool) (delay : Option Nat)

theorem busErrorCounted_ctl : ∃ p d l, canAt (busErrorCounted ctl a b lost delay s) ctl =
    { canAt s ctl with errPassive := p, tec := (canAt s ctl).tec + a, recv := min ((canAt s ctl).recv + b) 255, tdcDelay := d, mbs := l } := by
  unfold busErrorCounted
  dsimp only
  generalize hv : (match delay with
    | some d => if (canPort s ctl).tdc && decide (255 < d + (canPort s ctl).tdco) then log srcComm 0x0D06 2 (u16 ctl ++ u8 d) s else s
    | none => s) = v
  have hcan : v.can = s.can := by
    rw [← hv]
    split
    · split
      · exact log_can ..
      · rfl
    · rfl
  obtain ⟨p, hp⟩ := canErrState_ctl ctl (v |> onCtl ctl (fun c => { c with
      tec := c.tec + a, recv := min (c.recv + b) 255
      tdcDelay := if (canPort s ctl).tdc then delay.orElse (fun _ => c.tdcDelay) else c.tdcDelay
      mbs := if lost || decide (0 < a) || b = 0 then c.mbs.map retryMailbox else c.mbs }))
  rw [canAt_onCtl_self, canAt_congr hcan] at hp
  exact ⟨p, _, _, hp⟩

section
variable (hc : ctl < 2) (hr : (canAt s ctl).running = true) (hb : (canAt s ctl).onBus = true) (ho : (canAt s ctl).busOff = false)
include hc hr hb ho

/-- Errors raise the counters (R471). -/
theorem canBusError_counts (hle : (canAt s ctl).tec + a ≤ 255) :
    Completes (exec (.canBusError ctl a b lost delay) s) fun t => (canAt t ctl).tec = (canAt s ctl).tec + a ∧
      (canAt t ctl).recv = min ((canAt s ctl).recv + b) 255 ∧ (canAt t ctl).busOff = false := by
  have hx : exec (.canBusError ctl a b lost delay) s = .next (onCtl ctl CanCtl.arb (busErrorCounted ctl a b lost delay s)) :=
    (if_neg (canTakesPart hc hr hb ho)).trans (if_neg (Nat.not_lt.mpr hle))
  obtain ⟨p, d, l, hu⟩ := busErrorCounted_ctl (s := s) (ctl := ctl) (a := a) (b := b) lost delay
  obtain ⟨k, hk⟩ := (canAt (busErrorCounted ctl a b lost delay s) ctl).arb_other
  rw [hx, completes_next, canAt_onCtl_self, hk, hu]
  exact ⟨rfl, rfl, ho⟩

/-- Above 255 the controller goes bus-off and its mailboxes are suspended (R471). -/
theorem canBusError_busOff (hgt : 255 < (canAt s ctl).tec + a) :
    Completes (exec (.canBusError ctl a b lost delay) s) fun t => (canAt t ctl).busOff = true ∧ (canAt t ctl).offSince = s.tick.now ∧
      (canAt t ctl).busOffCnt = satInc 32 (canAt s ctl).busOffCnt ∧
      (∀ m ∈ (canAt t ctl).mbs, m.st ≠ .pending ∧ (lost = true ∨ 0 < a → m.st ≠ .active)) := by
  generalize hv : busErrorCounted ctl a b lost delay s = u
  have hx : exec (.canBusError ctl a b lost delay) s = .next (u
      |> onCtl ctl (fun c => { c with
          busOff := true, offSince := s.tick.now, busOffCnt := satInc 32 c.busOffCnt, mbs := (canAt u ctl).mbs.map suspendMailbox })
      |> log srcComm 0x0D03 2 (u16 ctl ++ i32 (((canAt u ctl).mbs.map suspendMailbox).filter fun m => m.st = .suspended).length)
      |> irqEvent (156 + ctl) true) := by
    rw [← hv]
    exact (if_neg (canTakesPart hc hr hb ho)).trans (if_pos hgt)
  obtain ⟨p, d, l, hu⟩ := busErrorCounted_ctl (s := s) (ctl := ctl) (a := a) (b := b) lost delay
  rw [hv] at hu
  rw [hx, completes_next, canAt_congr (irqEvent_can ..), canAt_congr (log_can ..), canAt_onCtl_self]
  refine ⟨rfl, rfl, (congrArg (fun c : CanCtl => satInc 32 c.busOffCnt) hu :), fun m hm => ?_⟩
  obtain ⟨x, -, rfl⟩ := List.mem_map.mp hm
  exact ⟨(suspendMailbox_st x).1, fun _ => (suspendMailbox_st x).2⟩

end

/-- Recovery restarts the counters and returns the suspended mailboxes to the order (R471). -/
theorem canBusOffRecovery_returns (hc : ctl < 2) (ho : (canAt s ctl).busOff = true) :
    Completes (exec (.canBusOffRecovery ctl) s) fun t => (canAt t ctl).busOff = false ∧ (canAt t ctl).tec = 0 ∧ (canAt t ctl).recv = 0 ∧
      (∀ m ∈ (canAt t ctl).mbs, m.st ≠ .suspended) := by
  generalize hv : (s |> onCtl ctl (fun c => CanCtl.arb { c with
        busOff := false, tec := 0, recv := 0
        mbs := c.mbs.map fun m => if m.st = .suspended then { m with st := .pending } else m })
      |> log srcComm 0x0D04 1 (u16 ctl ++ i32 (sinceNs s (canAt s ctl).offSince / 1000)) |> irqEvent (156 + ctl) true) = v
  have hx : exec (.canBusOffRecovery ctl) s = .next (canErrState ctl v) := by
    rw [← hv]; exact if_neg (by simp [hc, ho])
  have hcan : canAt v ctl = CanCtl.arb { canAt s ctl with
      busOff := false, tec := 0, recv := 0
      mbs := (canAt s ctl).mbs.map fun m => if m.st = .suspended then { m with st := .pending } else m } := by
    rw [← hv, canAt_congr (irqEvent_can ..), canAt_congr (log_can ..), canAt_onCtl_self]
  obtain ⟨p, hp⟩ := canErrState_ctl ctl v
  rw [hx, completes_next, hp, hcan]
  obtain ⟨l, hl⟩ := CanCtl.arb_other { canAt s ctl with
      busOff := false, tec := 0, recv := 0
      mbs := (canAt s ctl).mbs.map fun m => if m.st = .suspended then { m with st := .pending } else m }
  refine ⟨(congrArg CanCtl.busOff hl :), (congrArg CanCtl.tec hl :), (congrArg CanCtl.recv hl :), fun m hm => ?_⟩
  obtain h | h := CanCtl.arb_mem hm
  · obtain ⟨x, -, rfl⟩ := List.mem_map.mp h
    split
    · exact nofun
    · assumption
  · rw [h]; exact nofun

/-- The trip copy is written again each second while a trip is latched (R469). -/
theorem tripCopyResend_writes (ht : tripLatched s = true) (he : elapsed s s.can.copyAt (secNs 1) = true) (hp : s.cfg.can.tripPort < 2)
    (hr : (canAt s s.cfg.can.tripPort).running = true) (hst : (nth {} (canAt s s.cfg.can.tripPort).mbs 0).st ≠ .active)
    (hl : 0 < (canAt s s.cfg.can.tripPort).mbs.length) :
    Completes (exec .tripCopyResend s) fun t => (nth {} (canAt t s.cfg.can.tripPort).mbs 0).data =
      u8 1 ++ u8 s.can.tripFn ++ u16 s.can.tripCause ++ u32 s.can.tripTime ∧
      (nth {} (canAt t s.cfg.can.tripPort).mbs 0).id = s.cfg.can.tripId ∧ t.can.copyAt = s.tick.now ∧ Frame [.can] s t := by
  have hx : exec .tripCopyResend s = .next (writeTripCopy s) :=
    congrArg Host.Outcome.next (if_pos (by rw [ht, he]; rfl))
  have hw : writeTripCopy s = onCtl s.cfg.can.tripPort (fun c => c.write 0 s.cfg.can.tripId
      (u8 1 ++ u8 s.can.tripFn ++ u16 s.can.tripCause ++ u32 s.can.tripTime)) (onCan (fun c => { c with copyAt := s.tick.now }) s) := by
    rw [writeTripCopy, ht]
    exact if_pos hp
  have hat : canAt (onCan (fun c => { c with copyAt := s.tick.now }) s) s.cfg.can.tripPort = canAt s s.cfg.can.tripPort := by
    unfold canAt; split <;> rfl
  rw [hx, completes_next]
  have hf := Frame.of_blank (writeTripCopy_blank (within_refl _) s)
  rw [hw] at hf ⊢
  rw [canAt_onCtl_self, hat]
  obtain ⟨hdata, hid⟩ := CanCtl.write_nth hr hl hst s.cfg.can.tripId (u8 1 ++ u8 s.can.tripFn ++ u16 s.can.tripCause ++ u32 s.can.tripTime)
  refine ⟨hdata, hid, ?_, hf⟩
  unfold onCtl
  rw [onCan_can]
  split <;> rfl

end

/-- Settles O24: the clauses above, one for each instruction and case. -/
theorem canControllers : Obligations.CanControllers := by
  refine ⟨fun s ctl hc hr hb => canBusIntegration_joins hc hr hb,
    fun s ctl f hc hr hb ho hf hi hd hl hfit => canFrameReceived_kept hc hr hb ho hf hi hd hl hfit,
    fun s ctl f hc hr hb ho hf => canFrameReceived_discarded hc hr hb ho hf,
    fun s ctl mb delay hc hl ha hn => ?_, fun s ctl mb delay d hc hl ha hn => ?_,
    fun s ctl a b lost delay hc hr hb ho h => canBusError_counts lost delay hc hr hb ho h,
    fun s ctl a b lost delay hc hr hb ho h => canBusError_busOff lost delay hc hr hb ho h,
    fun s ctl hc ho => canBusOffRecovery_returns hc ho,
    fun s ht he hp hr hst hl => tripCopyResend_writes ht he hp hr hst hl⟩
  · refine (canTxComplete_mailbox hc hl ha delay (m1 := { nth {} (canAt s ctl).mbs mb with st := .done })
      (by rw [hn])).mono fun t ⟨hm, htx, htec, hsent⟩ => ⟨?_, htx, htec, hsent⟩
    obtain h | ⟨h, -⟩ := hm
    · rw [h]
    · exact absurd h nofun
  · refine (canTxComplete_mailbox hc hl ha delay (m1 := { nth {} (canAt s ctl).mbs mb with st := .pending, data := d, next := none })
      (by rw [hn])).mono fun t h => ?_
    obtain ⟨hm, -⟩ := h
    obtain h | ⟨-, h⟩ := hm
    · rw [h]; exact ⟨rfl, rfl, .inl rfl⟩
    · rw [h]; exact ⟨rfl, rfl, .inr rfl⟩

end Sys2Proof.Machine
end

section
/-! The safety functions: what a demand leaves of the protection state, and what makes and ends one (R27, R378 to R386). -/
namespace Sys2Proof.Machine

/-! ### What a demand leaves alone -/

theorem abortPulse_prot (i : Nat) (s : State) : ∃ p ts, (abortPulse i s).prot = { s.prot with pulse := p, tests := ts } := by
  unfold abortPulse
  split
  · split
    · exact ⟨_, _, rfl⟩
    · exact ⟨_, _, rfl⟩
  · exact ⟨_, _, rfl⟩

theorem safeStop_prot (trip : Bool) (s : State) : ∃ st n so p ts,
    (safeStop trip s).prot = { s.prot with stop := st, stopCnt := n, safeOut := so, pulse := p, tests := ts } := by
  have hopen : ∃ so p ts, (if trip then openSafeOut s else s).prot = { s.prot with safeOut := so, pulse := p, tests := ts } := by
    split
    · obtain ⟨p, ts, h⟩ := abortPulse_prot 0 (onProt (fun p => { p with safeOut := false }) s)
      obtain ⟨p', ts', h'⟩ := abortPulse_prot 1 (abortPulse 0 (onProt (fun p => { p with safeOut := false }) s))
      exact ⟨false, p', ts', by rw [openSafeOut, h', h]; rfl⟩
    · exact ⟨_, _, _, rfl⟩
  obtain ⟨so, p, ts, h⟩ := hopen
  unfold safeStop
  dsimp only
  split
  · exact ⟨_, _, so, p, ts, h⟩
  · exact ⟨some { start := _, lowWords := 0 }, _, so, p, ts, by rw [onStr_prot, onProt_prot, onDsp_prot, gateSafeOff, onPins_prot, stopSlots, onCnv_prot, h]⟩

/-- A decision of FAULT changes of the protection state the stop, the safety outputs with their test pulses, and the Twilight limit. -/
theorem decideFault_prot (code cls : Nat) (trip : Bool) (fn : Nat) (s : State) : ∃ st n so p ts l,
    (decideFault code cls trip fn s).prot = { s.prot with stop := st, stopCnt := n, safeOut := so, pulse := p, tests := ts, lTw := l } := by
  unfold decideFault
  dsimp only
  generalize hs2 : (if trip = true then tripNote fn code _ else _) = s2
  have h2 : s2.prot = s.prot := by
    rw [← hs2]
    split <;> simp
  obtain ⟨st, n, so, p, ts, h⟩ := safeStop_prot trip s2
  rw [h2] at h
  generalize hs3 : (if trip = true then writeTripCopy (safeStop trip s2) else safeStop trip s2) = s3
  have h3 : s3.prot = (safeStop trip s2).prot := by
    rw [← hs3]
    split
    · exact writeTripCopy_prot _
    · rfl
  rw [← h3] at h
  split
  · obtain ⟨l, hl⟩ := setState_prot s3 .fault code
    exact ⟨st, n, so, p, ts, l, by rw [hl, h]⟩
  · exact ⟨st, n, so, p, ts, _, h⟩

section
variable (fn cause cls : Nat) (trip : Bool) (item : Nat) (v : Int) (lim : Option Int) (s : State)

theorem demandRecord_prot : (demandRecord fn cause item v lim s).prot = { s.prot with
    demand := setAt s.prot.demand (fn - 1) true
    demandCnt := updAt (satInc 32) s.prot.demandCnt (fn - 1)
    lastDemand := setAt s.prot.lastDemand (fn - 1) (some s.tb.time)
    history := if countsTo24h fn then s.prot.history ++ [(fn, s.tb.time)] else s.prot.history } :=
  log_prot ..

/-- A demand changes of the protection state its own entries, the stop, the safety outputs, and the Twilight limit. -/
theorem sfDemand_prot : ∃ d c t h st n so p ts l, (sfDemand fn cause cls trip item v lim s).prot = { s.prot with
    demand := d, demandCnt := c, lastDemand := t, history := h, stop := st, stopCnt := n, safeOut := so, pulse := p, tests := ts, lTw := l } := by
  unfold sfDemand
  dsimp only
  obtain ⟨st, n, so, p, ts, l, h⟩ := decideFault_prot cause
    (if countsTo24h fn && decide (3 ≤ recentDemands fn (demandRecord fn cause item v lim s)) then 1 else cls) trip fn
    (demandRecord fn cause item v lim s)
  rw [demandRecord_prot] at h
  exact ⟨_, _, _, _, st, n, so, p, ts, l, h⟩

theorem decideFault_causes (code : Nat) : (decideFault code cls trip fn s).str.causes =
    latchCause { code := code, cls := cls, trip := trip, fn := fn } s.str.causes := by
  unfold decideFault
  dsimp only
  generalize hs2 : (if trip = true then tripNote fn code _ else _) = s2
  have h2 : s2.str.causes = latchCause { code := code, cls := cls, trip := trip, fn := fn } s.str.causes := by
    rw [← hs2]
    split <;> simp
  generalize hs3 : (if trip = true then writeTripCopy (safeStop trip s2) else safeStop trip s2) = s3
  have h3 : s3.str.causes = latchCause { code := code, cls := cls, trip := trip, fn := fn } s.str.causes := by
    rw [← hs3]
    split
    · rw [writeTripCopy_str, (safeStop_kept s2 trip).2.2.2.2.2.1, h2]
    · rw [(safeStop_kept s2 trip).2.2.2.2.2.1, h2]
  split
  · rw [setState_str]; exact h3
  · exact h3

end

/-- Latching a cause leaves the other codes as they are. -/
theorem latchCause_any_other {c : LatchedCause} {l : List LatchedCause} {code : Nat} (h : c.code ≠ code) :
    ((latchCause c l).any fun x => x.code = code && x.active) = l.any fun x => x.code = code && x.active := by
  unfold latchCause
  split
  · rw [List.any_map]
    refine congrArg l.any (funext fun x => ?_)
    by_cases hx : x.code = c.code
    · simp [hx, h]
    · simp [hx]
  · simp [h]

theorem demandActive_sfDemand {fn cause cls code : Nat} {trip : Bool} {item : Nat} {v : Int} {lim : Option Int} {s : State} (h : cause ≠ code) :
    demandActive code (sfDemand fn cause cls trip item v lim s) = demandActive code s := by
  unfold sfDemand demandActive
  dsimp only
  rw [decideFault_causes, latchCause_any_other h, demandRecord, log_str]
  rfl

/-! ### A cause that ends -/

theorem demandActive_deactivate {code k : Nat} (h : k ≠ code) (s : State) : demandActive code (deactivate k s) = demandActive code s := by
  unfold demandActive deactivate
  rw [onStr_str, List.any_map]
  refine congrArg s.str.causes.any (funext fun x => ?_)
  by_cases hx : x.code = k
  · simp [hx, h]
  · simp [hx]

theorem deactivate_inactive (code : Nat) (s : State) : ∀ c ∈ (deactivate code s).str.causes, c.code = code → c.active = false := by
  intro c hc he
  obtain ⟨x, -, rfl⟩ := List.mem_map.mp hc
  split at he
  · next hx => rw [if_pos hx]
  · next hx => exact absurd he hx

theorem deactivate_keeps_inactive {code : Nat} {s : State} (k : Nat) (h : ∀ c ∈ s.str.causes, c.code = code → c.active = false) :
    ∀ c ∈ (deactivate k s).str.causes, c.code = code → c.active = false := by
  intro c hc he
  obtain ⟨x, hx, rfl⟩ := List.mem_map.mp hc
  split
  · rfl
  · next hk => rw [if_neg hk] at he; exact h x hx he

/-! ### The releases that come first -/

/-- What the releases of the frame evaluation leave: causes and demands may end, and temperature conditions; SF_OC_I2T is not theirs. -/
def Released (s t : State) : Prop :=
  (∃ cs d o, t = { s with str := { s.str with causes := cs }, prot := { s.prot with demand := d, otBy := o } }) ∧
    demandActive 0x0A05 t = demandActive 0x0A05 s

theorem Released.refl (s : State) : Released s s := ⟨⟨_, _, _, rfl⟩, rfl⟩

theorem Released.trans {s t u : State} (h : Released s t) (k : Released t u) : Released s u := by
  obtain ⟨⟨cs, d, o, rfl⟩, ha⟩ := h
  obtain ⟨⟨cs', d', o', rfl⟩, ha'⟩ := k
  exact ⟨⟨cs', d', o', rfl⟩, ha'.trans ha⟩

theorem released_end {code : Nat} (h : code ≠ 0x0A05) (fn : Nat) (s : State) : Released s (s |> deactivate code |> demandOver fn) :=
  ⟨⟨_, _, _, rfl⟩, demandActive_deactivate h s⟩

theorem released_voltRelease (s : State) : Released s (voltRelease s) := by
  unfold voltRelease
  extract_lets s1
  have h1 : Released s s1 := by
    dsimp only [s1]
    split
    · exact released_end (by decide) 1 s
    · exact .refl s
  refine h1.trans ?_
  split
  · exact released_end (by decide) 2 s1
  · exact .refl s1

theorem released_tempRelease (s : State) : Released s (tempRelease s) := by
  unfold tempRelease
  extract_lets s1
  have h1 : Released s s1 := by
    dsimp only [s1]
    split
    · exact ⟨⟨_, _, _, rfl⟩, rfl⟩
    · exact .refl s
  refine h1.trans ?_
  split
  · exact .refl s1
  · exact released_end (by decide) 3 s1

/-! ### The frame evaluation -/

/-- The state in which the frame evaluation judges its banks: the functions are evaluated, and what may end has ended. -/
def judging (s : State) : State := s |> onProt (fun p => { p with evaluating := true }) |> voltRelease |> tempRelease

theorem judging_eq (s : State) : (∃ cs d o, judging s =
      { s with str := { s.str with causes := cs }, prot := { s.prot with evaluating := true, demand := d, otBy := o } }) ∧
    demandActive 0x0A05 (judging s) = demandActive 0x0A05 s := by
  obtain ⟨⟨cs, d, o, h⟩, ha⟩ := (released_voltRelease (onProt (fun p => { p with evaluating := true }) s)).trans (released_tempRelease _)
  exact ⟨⟨cs, d, o, h⟩, ha⟩

section
variable {s : State} (hsf : sfRuns s = true) (hc : coresRun s = true) (h1 : 1 ≤ s.tick.j) (h9 : s.tick.j ≤ 9)
include hsf hc h1 h9

theorem exec_frameProtection : exec .frameProtectionEvaluation s = .next (judging s |> voltEval |> tempEval |> releaseBanks |> i2tEval) :=
  if_pos (by simp [hsf, hc, h1, h9])

end

theorem voltEval_none {s : State} (h : s.tab.volt.heldBy rdSafety = none) : voltEval s = s := by
  unfold voltEval; rw [h]

theorem tempEval_none {s : State} (h : s.tab.temp.heldBy rdSafety = none) : tempEval s = s := by
  unfold tempEval; rw [h]

theorem i2tEval_quiet {s : State} (ha : demandActive 0x0A05 s = false) (ht : s.prot.theta ≤ cont2 s) (hr : s.prot.tripRun < 3) :
    i2tEval s = s := by
  unfold i2tEval
  rw [ha]
  dsimp only
  rw [if_neg (by decide), if_neg (by simpa using ht), if_neg (by omega)]

/-- A demand of clear class 2 faults with at least class 1 (R379). -/
theorem sfDemand_faulted (fn cause item : Nat) (v : Int) (lim : Option Int) (s : State) :
    FaultedBy cause 1 s (sfDemand fn cause 2 false item v lim s) ∧
      (sfDemand fn cause 2 false item v lim s).prot.demandCnt = updAt (satInc 32) s.prot.demandCnt (fn - 1) := by
  unfold sfDemand
  dsimp only
  obtain ⟨⟨⟨x, hx, ha, hb, hc⟩, hstop, hfault⟩, -, hcnt, -, -⟩ := decideFault_faulted (demandRecord fn cause item v lim s) cause
    (if countsTo24h fn && decide (3 ≤ recentDemands fn (demandRecord fn cause item v lim s)) then 1 else 2) false fn
  refine ⟨⟨⟨x, hx, ha, hb, Nat.le_trans ?_ hc⟩, hstop, ?_⟩, ?_⟩
  · split <;> decide
  · rwa [demandRecord, log_str] at hfault
  · rw [hcnt, demandRecord_prot]

/-- A position beyond the hard limit for its run, and nothing of SF_UV (R379, R386). -/
theorem voltEval_ovHard {s : State} {b : Bank} {p : Nat} (hb : s.tab.volt.heldBy rdSafety = some b) (hseq : b.seq ≠ s.prot.vBankSeen)
    (hp : firstRun s.cfg.safety.vConfirm (voltRuns s b).prot.ovHardRun = some p) (ho : s.prot.ovHard = false)
    (hd : firstRun s.cfg.safety.vConfirm (voltRuns s b).prot.uvDeepRun = none)
    (hu : firstRun s.cfg.safety.vConfirm (voltRuns s b).prot.uvRun = none) :
    ∃ u, voltEval s = (sfDemand 1 0x0A01 2 false p ((b.val p).getD 0) (some s.cfg.safety.ovHard) (voltRuns s b) |>
      onProt fun q => { q with ovHard := true, uvDeep := u }) := by
  unfold voltEval
  simp only [hb]
  rw [if_neg hseq]
  have hov : voltDemand 1 (voltRuns s b).prot.ovHardRun (voltRuns s b).prot.ovRun s.prot.ovHard s.cfg.safety.ovHard s.cfg.safety.ovLimit b
      (voltRuns s b) = sfDemand 1 0x0A01 2 false p ((b.val p).getD 0) (some s.cfg.safety.ovHard) (voltRuns s b) := by
    unfold voltDemand
    dsimp only
    rw [show (voltRuns s b).cfg = s.cfg from rfl, hp, ho]
    rfl
  have huv : ∀ v : State, v.cfg = s.cfg → voltDemand 2 (voltRuns s b).prot.uvDeepRun (voltRuns s b).prot.uvRun s.prot.uvDeep
      s.cfg.safety.uvDeep s.cfg.safety.uvLimit b v = v := fun v hv => by
    unfold voltDemand
    dsimp only
    rw [hv, hd, hu]
  rw [hov, huv (sfDemand 1 0x0A01 2 false p ((b.val p).getD 0) (some s.cfg.safety.ovHard) (voltRuns s b)) (sfDemand_cfg ..), hp]
  exact ⟨_, rfl⟩

/-- Nothing of the temperatures or of SF_OC_I2T to judge: the core only releases its banks. -/
theorem rest_quiet {v : State} (htemp : v.tab.temp.heldBy rdSafety = none) (ha : demandActive 0x0A05 v = false)
    (ht : v.prot.theta ≤ cont2 v) (hr : v.prot.tripRun < 3) : (v |> tempEval |> releaseBanks |> i2tEval) = releaseBanks v := by
  rw [tempEval_none htemp]
  exact i2tEval_quiet (s := releaseBanks v) ha ht hr

section
variable {s : State} (hsf : sfRuns s = true) (hc : coresRun s = true) (h1 : 1 ≤ s.tick.j) (h9 : s.tick.j ≤ 9)
  (htemp : s.tab.temp.heldBy rdSafety = none) (ha : demandActive 0x0A05 s = false)
include hsf hc h1 h9 htemp ha

theorem frameProtection_ov {b : Bank} {p : Nat} (hb : s.tab.volt.heldBy rdSafety = some b) (hseq : b.seq ≠ s.prot.vBankSeen)
    (hp : firstRun s.cfg.safety.vConfirm (voltRuns s b).prot.ovHardRun = some p) (ho : s.prot.ovHard = false)
    (hd : firstRun s.cfg.safety.vConfirm (voltRuns s b).prot.uvDeepRun = none)
    (hu : firstRun s.cfg.safety.vConfirm (voltRuns s b).prot.uvRun = none)
    (ht : s.prot.theta ≤ cont2 s) (hr : s.prot.tripRun < 3) :
    Completes (exec .frameProtectionEvaluation s) fun t => FaultedBy 0x0A01 1 s t ∧ t.prot.ovHard = true ∧ t.prot.vBankSeen = b.seq ∧
      t.prot.demandCnt = updAt (satInc 32) s.prot.demandCnt 0 := by
  obtain ⟨⟨cs, d, o, hj⟩, hact⟩ := judging_eq s
  rw [exec_frameProtection hsf hc h1 h9, completes_next]
  generalize judging s = x at hj hact
  have hxa := hact.trans ha
  subst hj
  obtain ⟨u, hv⟩ := voltEval_ovHard (s := { s with
    str := { s.str with causes := cs }, prot := { s.prot with evaluating := true, demand := d, otBy := o } }) hb hseq hp ho hd hu
  rw [hv]
  generalize hw : voltRuns _ b = w
  have hwa : demandActive 0x0A05 w = false := by rw [← hw]; exact hxa
  generalize hlim : (some _ : Option Int) = lim
  obtain ⟨⟨hl, hstop, hfault⟩, hcnt⟩ := sfDemand_faulted 1 0x0A01 p ((b.val p).getD 0) lim w
  obtain ⟨_, _, _, _, _, _, _, _, _, _, hprot⟩ := sfDemand_prot 1 0x0A01 2 false p ((b.val p).getD 0) lim w
  have hva := (demandActive_sfDemand (fn := 1) (cls := 2) (trip := false) (item := p) (v := (b.val p).getD 0)
    (lim := lim) (s := w) (by decide : 0x0A01 ≠ 0x0A05)).trans hwa
  have hcfg := sfDemand_cfg 1 0x0A01 2 false p ((b.val p).getD 0) lim w
  have htab := sfDemand_tab 1 0x0A01 2 false p ((b.val p).getD 0) lim w
  generalize sfDemand 1 0x0A01 2 false p ((b.val p).getD 0) lim w = v at *
  rw [rest_quiet]
  · refine ⟨⟨hl, hstop, ?_⟩, rfl, ?_, ?_⟩
    · rw [← hw] at hfault; exact hfault
    · exact (congrArg ProtSt.vBankSeen hprot : _).trans (by rw [← hw]; rfl)
    · exact hcnt.trans (by rw [← hw]; rfl)
  · exact (congrArg (fun x : TableSt => x.temp.heldBy rdSafety) htab : _).trans (by rw [← hw]; exact htemp)
  · exact hva
  · have htheta : v.prot.theta = s.prot.theta := (congrArg ProtSt.theta hprot : _).trans (by rw [← hw]; rfl)
    have hcont : cont2 v = cont2 s := by unfold cont2; rw [hcfg, ← hw]; rfl
    show v.prot.theta ≤ cont2 v
    rw [htheta, hcont]; exact ht
  · have : v.prot.tripRun = s.prot.tripRun := (congrArg ProtSt.tripRun hprot : _).trans (by rw [← hw]; rfl)
    exact this ▸ hr

section
variable (hvolt : s.tab.volt.heldBy rdSafety = none)
include hvolt

theorem frameProtection_i2t (hr : 3 ≤ s.prot.tripRun) :
    Completes (exec .frameProtectionEvaluation s) fun t => FaultedBy 0x0A05 0 s t ∧ t.prot.evaluating = true ∧
      t.prot.demandCnt = updAt (satInc 32) s.prot.demandCnt 4 := by
  obtain ⟨⟨cs, d, o, hj⟩, hact⟩ := judging_eq s
  rw [exec_frameProtection hsf hc h1 h9, completes_next, voltEval_none (by rw [hj]; exact hvolt), tempEval_none (by rw [hj]; exact htemp)]
  generalize judging s = x at hj hact
  have hxa : demandActive 0x0A05 (releaseBanks x) = false := hact.trans ha
  have hxr : 3 ≤ (releaseBanks x).prot.tripRun := by rw [hj]; exact hr
  have hdem : ∃ k v lim, i2tEval (releaseBanks x) = sfDemand 5 0x0A05 0 false k v lim (releaseBanks x) := by
    unfold i2tEval
    rw [hxa]
    dsimp only
    rw [if_neg (by decide)]
    split
    · exact ⟨_, _, _, rfl⟩
    · exact ⟨_, _, _, rfl⟩
  obtain ⟨k, v, lim, he⟩ := hdem
  obtain ⟨⟨hl, hstop, hfault⟩, hcnt, -⟩ := sfDemand_demanded (releaseBanks x) 5 0x0A05 0 false k v lim (by decide)
  obtain ⟨_, _, _, _, _, _, _, _, _, _, hprot⟩ := sfDemand_prot 5 0x0A05 0 false k v lim (releaseBanks x)
  rw [he]
  subst hj
  exact ⟨⟨hl, hstop, hfault⟩, (congrArg ProtSt.evaluating hprot :), hcnt⟩

theorem frameProtection_quiet (ht : s.prot.theta ≤ cont2 s) (hr : s.prot.tripRun < 3) :
    Completes (exec .frameProtectionEvaluation s) fun t => t.prot.evaluating = true ∧ t.str.state = s.str.state ∧
      t.prot.stop = s.prot.stop ∧ t.prot.demandCnt = s.prot.demandCnt := by
  obtain ⟨⟨cs, d, o, hj⟩, hact⟩ := judging_eq s
  rw [exec_frameProtection hsf hc h1 h9, completes_next, voltEval_none (by rw [hj]; exact hvolt), rest_quiet]
  · rw [hj]; exact ⟨rfl, rfl, rfl, rfl⟩
  · rw [hj]; exact htemp
  · exact hact.trans ha
  · rw [hj]; exact ht
  · rw [hj]; exact hr

end

end

/-! ### The safety inputs -/

theorem extAt_onExt_self (n : Nat) (g : ExtInput → ExtInput) (s : State) : extAt (onExt n g s) n = g (extAt s n) := by
  rcases n with _ | _ | _ | n <;> rfl

/-- A demand leaves the safety inputs. -/
theorem extAt_sfDemand (n fn cause cls : Nat) (trip : Bool) (item : Nat) (v : Int) (lim : Option Int) (s : State) :
    extAt (sfDemand fn cause cls trip item v lim s) n = extAt s n := by
  obtain ⟨_, _, _, _, _, _, _, _, _, _, h⟩ := sfDemand_prot fn cause cls trip item v lim s
  unfold extAt
  rw [h]

theorem safetyInput_demands {s : State} {input : Nat} (hi : input < 4) (hsf : sfRuns s = true) (hu : extUsed s input = true)
    (hl : 41 ≤ (extAt s input).low) (ha : (extAt s input).active = false) :
    Completes (exec (.safetyInputDeenergized input) s) fun t =>
      Demanded 9 0x0A09 (if input = 3 then 1 else 0) (decide (input ≠ 2)) s t ∧ (extAt t input).active = true := by
  have hx : exec (.safetyInputDeenergized input) s = .next (s |> onExt input (fun x => { x with active := true })
      |> sfDemand 9 0x0A09 (if input = 3 then 1 else 0) (input ≠ 2) input 0 none) := if_pos (by simp [hi, hsf, hu, hl, ha])
  rw [hx, completes_next, extAt_sfDemand, extAt_onExt_self]
  have hd := sfDemand_demanded (onExt input (fun x => { x with active := true }) s) 9 0x0A09 (if input = 3 then 1 else 0)
    (decide (input ≠ 2)) input 0 none (fun h => absurd h (by decide))
  refine ⟨?_, rfl⟩
  rcases input with _ | _ | _ | n <;> exact hd

/-- The E-stop demands and the discrepancy end with both channels energized. -/
theorem estop_restored {s : State} {input : Nat} (hi : input < 2) (hh : heldOn s s.prot.estopBothSince = true) :
    Completes (exec (.safetyInputRestored input) s) fun t => t.prot.estopA.active = false ∧ t.prot.estopB.active = false ∧
      t.prot.discActive = false ∧ (∀ c ∈ t.str.causes, c.code = 0x0A26 → c.active = false) ∧
      (s.prot.doorIl.active = false → s.prot.fireIn.active = false → ∀ c ∈ t.str.causes, c.code = 0x0A09 → c.active = false) ∧
      Frame [.prot, .str] s t := by
  let u := s |> onExt 0 (fun x => { x with active := false }) |> onExt 1 (fun x => { x with active := false })
    |> onProt (fun p => { p with discActive := false }) |> deactivate 0x0A26
  have hx : exec (.safetyInputRestored input) s = .next (extRelease u) := (if_pos hi).trans (if_pos hh)
  have hu : ∀ c ∈ u.str.causes, c.code = 0x0A26 → c.active = false := deactivate_inactive 0x0A26 _
  have hf : Frame [.prot, .str] s (extRelease u) := Frame.of_blank ((extRelease_blank (by decide) u).trans
    (by simp (disch := decide) only [u, deactivate_blank, onProt_blank, onExt_blank]))
  rw [hx, completes_next]
  by_cases h : (List.range 4).any (fun n => (extAt u n).active) = true
  · have he : extRelease u = u := if_pos h
    refine ⟨?_, ?_, ?_, ?_, ?_, hf⟩
    · rw [he]; rfl
    · rw [he]; rfl
    · rw [he]; rfl
    · rw [he]; exact hu
    · intro hd hfi
      exfalso
      have hall : (List.range 4).any (fun n => (extAt u n).active) = (s.prot.doorIl.active || s.prot.fireIn.active) := by
        simp [u, List.range_succ, extAt, deactivate, onExt, onProt, onStr]
      rw [hall, hd, hfi] at h
      exact absurd h (by decide)
  · have he : extRelease u = demandOver 9 (deactivate 0x0A09 u) := (if_neg h).trans (if_neg Bool.false_ne_true)
    refine ⟨?_, ?_, ?_, ?_, ?_, hf⟩
    · rw [he]; rfl
    · rw [he]; rfl
    · rw [he]; rfl
    · rw [he]; exact deactivate_keeps_inactive 0x0A09 hu
    · intro _ _
      rw [he]; exact deactivate_inactive 0x0A09 u

theorem extAt_extRelease (n : Nat) (s : State) : extAt (extRelease s) n = extAt s n := by
  unfold extRelease
  split
  · rfl
  · dsimp only
    split <;> rcases n with _ | _ | _ | n <;> rfl

theorem safetyInput_restored {s : State} {input : Nat} (h2 : 2 ≤ input) (h4 : input < 4)
    (hh : heldOn s (extAt s input).energizedSince = true) :
    Completes (exec (.safetyInputRestored input) s) fun t => (extAt t input).active = false ∧ Frame [.prot, .str] s t := by
  have hx : exec (.safetyInputRestored input) s = .next (s |> onExt input (fun x => { x with active := false }) |> extRelease) :=
    (if_neg (by omega)).trans (if_pos (by simp [h4, hh]))
  rw [hx, completes_next, extAt_extRelease, extAt_onExt_self]
  exact ⟨rfl, Frame.of_blank ((extRelease_blank (by decide) _).trans (onExt_blank (by decide) ..))⟩

theorem estopDiscrepancy_demands {s : State} {t0 : Nat} (hd : s.prot.estopDiffSince = some t0) (hsf : sfRuns s = true)
    (ha : s.prot.discActive = false) (he : elapsed s t0 (msNs s.cfg.safety.estopDisc) = true) :
    Completes (exec .estopDiscrepancy s) fun t => Demanded 9 0x0A26 2 true s t ∧ t.prot.discActive = true := by
  let u := s |> onProt (fun p => { p with discActive := true })
    |> log srcSafety 0x0A26 3 (u16 (b2n s.prot.estopA.raw) ++ u16 (b2n s.prot.estopB.raw))
  have hx : exec .estopDiscrepancy s = .next (sfDemand 9 0x0A26 2 true 4 0 none u) := by
    show execEstopDiscrepancy s = _
    unfold execEstopDiscrepancy
    simp only [hd]
    exact if_pos (by simp [hsf, ha, he])
  have hprot : u.prot = { s.prot with discActive := true } := log_prot ..
  have hstr : u.str = s.str := log_str ..
  have htb : u.tb = s.tb := log_tb ..
  obtain ⟨⟨hl, hstop, hfault⟩, hcnt, hlast, hdem, hso⟩ := sfDemand_demanded u 9 0x0A26 2 true 4 0 none (by decide)
  obtain ⟨_, _, _, _, _, _, _, _, _, _, hp⟩ := sfDemand_prot 9 0x0A26 2 true 4 0 none u
  rw [hx, completes_next]
  refine ⟨⟨⟨hl, hstop, ?_⟩, ?_, ?_, ?_, hso⟩, ?_⟩
  · rw [hstr] at hfault; exact hfault
  · rw [hcnt, hprot]
  · rw [hlast, hprot, htb]
  · rw [hdem, hprot]
  · exact (congrArg ProtSt.discActive hp : _).trans (congrArg ProtSt.discActive hprot)

/-- Settles O25: the clauses above, one for each instruction and case. -/
theorem safetyFunctionDemands : Obligations.SafetyFunctionDemands :=
  ⟨fun _ _ _ hsf hc h1 h9 hb hseq ht hp ho hd hu ha hth hr => frameProtection_ov hsf hc h1 h9 ht ha hb hseq hp ho hd hu hth hr,
    fun _ hsf hc h1 h9 hv ht ha hr => frameProtection_i2t hsf hc h1 h9 ht ha hv hr,
    fun _ hsf hc h1 h9 hv ht ha hth hr => frameProtection_quiet hsf hc h1 h9 ht ha hv hth hr,
    fun _ _ hi hsf hu hl ha => safetyInput_demands hi hsf hu hl ha,
    fun _ _ hi hh => estop_restored hi hh,
    fun _ _ h2 h4 hh => safetyInput_restored h2 h4 hh,
    fun _ _ hd hsf ha he => estopDiscrepancy_demands hd hsf ha he⟩

end Sys2Proof.Machine
end

section
/-! The end of a safe stop, and the Twilight budget (R35, R38, R44, R387, R388, R400). -/
namespace Sys2Proof.Machine

/-! ### Coils switched off -/

theorem Contactor.drop_coil (now : Nat) (c : Contactor) : (Contactor.drop now c).coil = false := by
  unfold Contactor.drop
  split
  · rfl
  · simpa using ‹¬c.coil = true›

theorem coilOff_cont (k : Nat) (s : State) : (coilOff k s).cont = (onContactor k (Contactor.drop s.tick.now) s).cont :=
  Frame.of_blank (abortPulse_blank (within_refl _) (3 + k) _) .cont rfl

theorem coilsOff_driven (s : State) : coilsDriven (coilsOff s) = false := by
  unfold coilsDriven coilsOff
  rw [onCont_cont, coilOff_cont]
  simp only [onContactor, onCont_cont, Contactor.drop_coil, coilOff_cont, Bool.or_self]

theorem coilsOff_frame (s : State) : Frame [.prot, .cont] s (coilsOff s) := Frame.of_blank (coilsOff_blank (within_refl _) s)

/-! ### The end of a safe stop -/

theorem breakLoad_frame (s : State) : Frame [.deferred, .irq, .rings, .logFreeze, .rung, .cont] s (breakLoad s) :=
  Frame.of_blank (breakLoad_blank (by decide) s)

/-- The end of a safe stop that no freeze waits for. -/
theorem safeStopEnd_ends {start : Nat} {s : State} (hf : s.lad.freezeReq = none) :
    (safeStopEnd start s).prot.stop = none ∧ (safeStopEnd start s).prot.stopLast = some (sinceNs s start / 1000) ∧
      (safeStopEnd start s).cont = s.cont ∧ (safeStopEnd start s).cnv.fastTrip = List.replicate 6 false ∧
      (s.str.state = .fault → (safeStopEnd start s).str.faultStopDone = true) ∧ (safeStopEnd start s).str.state = s.str.state ∧
      (∀ c ∈ (safeStopEnd start s).str.causes, c.code = 0x0A04 → c.active = false) := by
  generalize hv : (s |> onProt (fun p => { p with stop := none, stopLast := some (sinceNs s start / 1000) })
    |> log srcSafety 0x0A10 2 (u32 (sinceNs s start / 1000) ++ i32 (roundAway (iTick s)))) = v
  have hprot : v.prot = { s.prot with stop := none, stopLast := some (sinceNs s start / 1000) } := by rw [← hv, log_prot]; rfl
  have hstr : v.str = s.str := by rw [← hv, log_str]; rfl
  have hcont : v.cont = s.cont := by rw [← hv, log_cont]; rfl
  have hlad : v.lad.freezeReq = none := by
    rw [← hv]
    exact (congrArg LadderSt.freezeReq ((log_frame _ srcSafety 0x0A10 2 _).lad_but_rung rfl) :).trans hf
  let w := v |> onStr (fun x => { x with faultStopDone := x.state = .fault || x.faultStopDone })
    |> onCnv (fun c => { c with
        fastTrip := List.replicate 6 false
        ports := if c.fastTrip.any id then c.ports.map fun q => { q with clrLeft := 8 } else c.ports })
    |> onPins (fun p => { p with gate := p.gate.map fun g => if g = .fastSafeOff then .safeOff else g })
    |> deactivate 0x0A04 |> demandOver 4 |> deactivate 0x0704 |> recoveryStart
  have hx : safeStopEnd start s = w := by
    unfold safeStopEnd
    dsimp only
    rw [hv]
    show (match v.lad.freezeReq with | some (trig, 2, _) => enterFreeze trig true w | _ => w) = w
    rw [hlad]
  rw [hx]
  refine ⟨?_, ?_, hcont, rfl, fun h => ?_, ?_, ?_⟩
  · exact (congrArg ProtSt.stop hprot :)
  · exact (congrArg ProtSt.stopLast hprot :)
  · show (decide (v.str.state = .fault) || v.str.faultStopDone) = true
    rw [hstr, h]; rfl
  · exact (congrArg StringSt.state hstr :)
  · exact deactivate_keeps_inactive 0x0704 (deactivate_inactive 0x0A04 _)

theorem safeStop_ends {s : State} {x : SafeStop} (hs : s.prot.stop = some x)
    (he : 2 ≤ x.lowWords ∨ elapsed s x.start 1500000 = true ∨ alreadyOpen s = true) (hf : s.lad.freezeReq = none) :
    Completes (exec .safeStopCoilsOff s) fun t => t.prot.stop = none ∧ t.prot.stopLast = some (sinceNs s x.start / 1000) ∧
      coilsDriven t = false ∧ t.cnv.fastTrip = List.replicate 6 false ∧ (s.str.state = .fault → t.str.faultStopDone = true) ∧
      t.str.state = s.str.state ∧ (∀ c ∈ t.str.causes, c.code = 0x0A04 → c.active = false) := by
  generalize hw : (s |> breakLoad |> coilsOff) = w
  have hx : exec .safeStopCoilsOff s = .next (safeStopEnd x.start w) := by
    rw [← hw]
    show execSafeStopCoilsOff s = _
    unfold execSafeStopCoilsOff
    simp only [hs]
    exact if_pos (by simpa [or_assoc] using he)
  have hstr : w.str = s.str := by
    rw [← hw]; exact (coilsOff_str _).trans (breakLoad_frame s .str rfl)
  have htick : w.tick = s.tick := by
    rw [← hw]; exact (coilsOff_frame _ .tick rfl : _ = _).trans (breakLoad_frame s .tick rfl)
  have hlad : w.lad.freezeReq = none := by
    rw [← hw]
    have h1 := congrArg LadderSt.freezeReq ((coilsOff_frame (breakLoad s)).lad_but_rung rfl)
    have h2 := congrArg LadderSt.freezeReq ((breakLoad_frame s).lad_but_rung rfl)
    exact (h1.trans h2).trans hf
  have hcoil : coilsDriven w = false := by rw [← hw]; exact coilsOff_driven _
  obtain ⟨h1, h2, h3, h4, h5, h6, h7⟩ := safeStopEnd_ends (start := x.start) hlad
  rw [hx, completes_next]
  refine ⟨h1, ?_, ?_, h4, fun h => h5 (by rw [hstr]; exact h), h6.trans (congrArg StringSt.state hstr), h7⟩
  · rw [h2]; unfold sinceNs; rw [htick]
  · rw [← hcoil]; unfold coilsDriven; rw [h3]

/-! ### The Twilight budget -/

theorem twilight_exhausts {s : State} (hst : s.str.state = .twilight) (hl : twLeft s = 0) (ht : Trigger.twilightExhausted ∉ s.str.triggers) :
    Completes (exec .twilightExhausted s) fun t => t.str.triggers = s.str.triggers ++ [.twilightExhausted] ∧ t.str.state = .twilight := by
  have hx : exec .twilightExhausted s = .next (s |> log srcSafety 0x0A52 2 (u32 (bitsOf s.prot.twilight))
      |> onStr (fun x => { x with triggers := x.triggers ++ [.twilightExhausted] })) := if_pos (by simp [hst, hl, ht])
  rw [hx, completes_next, onStr_str, log_str]
  exact ⟨rfl, hst⟩

/-- Settles O26: the safe stop ends with the coils off, and the Twilight budget is spent and set back. -/
theorem safeStopAndTwilight : Obligations.SafeStopAndTwilight := by
  refine ⟨fun s x hs he hf => safeStop_ends hs he hf, fun s hst hl ht => twilight_exhausts hst hl ht, fun s t0 hu ha he => ?_⟩
  have hx : exec .twilightBudgetReset s = .next (s |> onStr fun x => { x with twilightUsed := 0 }) := by
    show execTwilightBudgetReset s = _
    unfold execTwilightBudgetReset
    simp only [hu]
    exact if_pos (by simp [ha, he])
  rw [hx, completes_next]
  exact ⟨rfl, Frame.of_blank (onStr_blank (within_refl _) ..)⟩

end Sys2Proof.Machine
end

section
/-! Test pulses and diagnostics (R394 to R398, R420, R425). -/
namespace Sys2Proof.Machine

/-! ### What Twilight causes and a decision of FAULT leave of the tests -/

/-- Raising a cause changes of the protection state the causes alone. -/
theorem raiseTw_prot (bit : Nat) (s : State) : ∃ l, (raiseTw bit s).prot = { s.prot with twilight := l } := by
  unfold raiseTw
  split
  · exact ⟨_, rfl⟩
  · exact ⟨_, log_prot ..⟩

theorem clearTw_prot (bit : Nat) (s : State) : ∃ l, (clearTw bit s).prot = { s.prot with twilight := l } := by
  unfold clearTw
  dsimp only
  split
  · rw [log_prot]
    split <;> exact ⟨_, rfl⟩
  · exact ⟨_, rfl⟩

theorem clearTw_state (bit : Nat) (s : State) : (clearTw bit s).str.state = s.str.state := by
  unfold clearTw
  dsimp only
  split
  · rw [log_str]
    split <;> rfl
  · rfl

/-- The default written in a place reads back, also where there is no such place. -/
theorem nth_setAt_default {α : Type} (d : α) (l : List α) (i : Nat) : nth d (setAt l i d) i = d := by
  by_cases h : i < l.length
  · exact nth_setAt_self _ _ h
  · rw [nth_eq_getD, List.getD_eq_getElem?_getD, List.getElem?_eq_none (by rw [setAt, length_updAt]; omega)]; rfl

theorem raiseTw_armed (bit : Nat) (s : State) : nth true (raiseTw bit s).prot.twilight bit = true := by
  rw [raiseTw_twilight]
  split
  · assumption
  · exact nth_setAt_default true ..

/-- Without a trip no test pulse ends. -/
theorem decideFault_pulse (code cls fn : Nat) (s : State) : (decideFault code cls false fn s).prot.pulse = s.prot.pulse := by
  have hstop : ∀ t, (safeStop false t).prot.pulse = t.prot.pulse := fun t => by
    unfold safeStop
    dsimp only
    split <;> rfl
  unfold decideFault
  simp only [Bool.false_eq_true, if_false]
  generalize hv : safeStop false _ = v
  have hp : v.prot.pulse = s.prot.pulse := by rw [← hv, hstop, latchClass2_prot, onStr_prot]
  split
  · obtain ⟨l, hl⟩ := setState_prot v .fault code
    rw [hl]; exact hp
  · exact hp

/-! ### Test pulses -/

theorem testPulse_starts {s : State} {k : Nat} (hk : k < 6) (ho : owning s = true) (hc : coresRun s = true) (hj : s.tick.j = 16)
    (hn : s.prot.noPulses = false) (hf : testFrame s = 150 * k + 75) (hs : (nth {} s.prot.tests k).served = false)
    (hp : s.prot.pulse = none) (he : pulseEligible s k = true) (hl : k < s.prot.tests.length) :
    Completes (exec (.testPulseStart k) s) fun t => t.prot.pulse = some (k, s.tick.now) ∧ (nth {} t.prot.tests k).served = true ∧
      (nth {} t.prot.tests k).retry = false ∧ Frame [.prot] s t := by
  have hx : exec (.testPulseStart k) s = .next (s |> onTest k (fun t => { t with
      served := t.served || (decide (testFrame s = 150 * k + 75) && !(nth {} s.prot.tests k).served), retry := false }) |>
      onProt fun p => { p with pulse := some (k, s.tick.now) }) := by
    refine (if_neg ?_).trans ((if_neg ?_).trans (if_pos he))
    · simp [hk, ho, hc, hj, hn, hf, hs]
    · simp [hp]
  rw [hx, completes_next]
  have hself := nth_updAt_self {} (fun t : TestOut => { t with
    served := t.served || (decide (testFrame s = 150 * k + 75) && !(nth {} s.prot.tests k).served), retry := false }) hl
  refine ⟨rfl, (congrArg TestOut.served hself : _).trans ?_, (congrArg TestOut.retry hself :),
    Frame.of_blank ((onProt_blank (by decide) ..).trans (onTest_blank (by decide) ..))⟩
  simp [hf, hs]

section
variable {s : State} {k t0 : Nat} (hp : s.prot.pulse = some (k, t0)) (ht : 300000 ≤ sinceNs s t0)
include hp ht

theorem testPulse_passes (hl : k < s.prot.tests.length) :
    Completes (exec (.testPulseEnd true true) s) fun t => t.prot.pulse = none ∧ (nth {} t.prot.tests k).passed = true ∧
      (nth {} t.prot.tests k).missed = 0 ∧ (nth {} t.prot.tests k).lastPass = some s.tb.time ∧ t.str.state = s.str.state := by
  let u := s |> onProt (fun p => { p with pulse := none }) |>
    onTest k fun t => { t with passed := true, missed := 0, overdue := false, lastPass := some s.tb.time }
  have hx : exec (.testPulseEnd true true) s = .next (if u.prot.tests.any (·.overdue) then u else clearTw 9 u) := by
    show execTestPulseEnd true true s = _
    unfold execTestPulseEnd
    simp only [hp]
    exact if_neg (by omega)
  have key : ∀ v : State, (∃ l, v.prot = { u.prot with twilight := l }) → v.str.state = u.str.state →
      v.prot.pulse = none ∧ (nth {} v.prot.tests k).passed = true ∧ (nth {} v.prot.tests k).missed = 0 ∧
      (nth {} v.prot.tests k).lastPass = some s.tb.time ∧ v.str.state = s.str.state := fun v ⟨l, hv⟩ hst => by
    have hself := nth_updAt_self {} (fun t : TestOut => { t with passed := true, missed := 0, overdue := false, lastPass := some s.tb.time }) hl
    rw [hv]
    exact ⟨rfl, (congrArg TestOut.passed hself :), (congrArg TestOut.missed hself :), (congrArg TestOut.lastPass hself :), hst⟩
  rw [hx, completes_next]
  split
  · exact key u ⟨_, rfl⟩ rfl
  · exact key _ (clearTw_prot 9 u) (clearTw_state 9 u)

theorem testPulse_faults : Completes (exec (.testPulseEnd true false) s) fun t => t.prot.pulse = none ∧ FaultedBy 0x0A31 1 s t := by
  generalize hu : (s |> onProt (fun p => { p with pulse := none }) |> log srcSafety 0x0A31 3 (u16 k)) = u
  have hx : exec (.testPulseEnd true false) s = .next (decideFault 0x0A31 1 false 0 u) := by
    rw [← hu]
    show execTestPulseEnd true false s = _
    unfold execTestPulseEnd
    simp only [hp]
    exact if_neg (by omega)
  obtain ⟨⟨hl, hstop, hfault⟩, -⟩ := decideFault_faulted u 0x0A31 1 false 0
  have hstr : u.str = s.str := by rw [← hu, log_str]; rfl
  rw [hstr] at hfault
  rw [hx, completes_next, decideFault_pulse]
  refine ⟨?_, hl, hstop, hfault⟩
  rw [← hu, log_prot]; rfl

end

/-! ### The end of an interval -/

/-- An output's record at the start of an interval. -/
def TestOut.Fresh (x : TestOut) : Prop := x.passed = false ∧ x.retry = false ∧ x.served = false

/-- One output's interval ends: its record is fresh, the others stay. -/
theorem intervalEnd_tests (i k : Nat) (s : State) (h : k = i ∨ (nth {} s.prot.tests k).Fresh) :
    (nth {} (intervalEnd i s).prot.tests k).Fresh := by
  have upd : ∀ n o, (nth {} (updAt (fun t : TestOut => { t with
      missed := n, passed := false, retry := false, served := false, overdue := t.overdue || o }) s.prot.tests i) k).Fresh := fun n o => by
    by_cases hk : k = i
    · subst hk
      by_cases hl : k < s.prot.tests.length
      · rw [nth_updAt_self _ _ hl]; exact ⟨rfl, rfl, rfl⟩
      · rw [nth_eq_getD, List.getD_eq_getElem?_getD, List.getElem?_eq_none (by rw [length_updAt]; omega)]; exact ⟨rfl, rfl, rfl⟩
    · rw [nth_updAt_ne _ _ _ hk]; exact h.resolve_left hk
  unfold intervalEnd
  extract_lets t miss n s1
  split
  · obtain ⟨l, hl⟩ := raiseTw_prot 9 (log srcSafety 0x0A32 2 (u16 i) s1)
    rw [hl, log_prot]
    exact upd _ _
  · exact upd _ _

theorem intervalEnd_state (i : Nat) (s : State) : (intervalEnd i s).str.state = s.str.state := by
  unfold intervalEnd
  extract_lets t miss n s1
  split
  · rw [raiseTw_state, log_str]; rfl
  · rfl

/-- Every output listed has a fresh record. -/
theorem foldl_intervalEnd_tests (l : List Nat) (s : State) (k : Nat) (h : k ∈ l ∨ (nth {} s.prot.tests k).Fresh) :
    (nth {} (l.foldl (fun t i => intervalEnd i t) s).prot.tests k).Fresh := by
  induction l generalizing s with
  | nil => exact h.resolve_left List.not_mem_nil
  | cons i l ih =>
    refine ih (intervalEnd i s) ?_
    obtain h | h := h
    · obtain rfl | h := List.mem_cons.mp h
      · exact .inr (intervalEnd_tests k k s (.inl rfl))
      · exact .inl h
    · exact .inr (intervalEnd_tests i k s (.inr h))

theorem foldl_intervalEnd_state (l : List Nat) (s : State) : (l.foldl (fun t i => intervalEnd i t) s).str.state = s.str.state := by
  induction l generalizing s with
  | nil => rfl
  | cons i l ih => exact (ih _).trans (intervalEnd_state i s)

theorem testInterval_ends {s : State} (ho : owning s = true) (hr : running s = true) (ht : taiSec s ≠ s.prot.testSec) :
    Completes (exec .testIntervalEnd s) fun t => t.prot.testSec = taiSec s ∧ t.prot.noPulses = false ∧ (∀ k < 6, (nth {} t.prot.tests k).passed = false ∧
      (nth {} t.prot.tests k).retry = false ∧ (nth {} t.prot.tests k).served = false) ∧ t.str.state = s.str.state := by
  have hx : exec .testIntervalEnd s = .next ((List.range 6).foldl (fun t i => intervalEnd i t) s |>
      onProt fun p => { p with noPulses := false, testSec := taiSec s }) := if_pos (by simp [ho, hr, ht])
  have htests := fun k (hk : k < 6) => foldl_intervalEnd_tests (List.range 6) s k (.inl (List.mem_range.mpr hk))
  have hstate := foldl_intervalEnd_state (List.range 6) s
  rw [hx, completes_next]
  generalize (List.range 6).foldl (fun t i => intervalEnd i t) s = u at htests hstate
  exact ⟨rfl, rfl, htests, hstate⟩

/-! ### The other tests -/

theorem inputTest_fails {s : State} (hs : sfRuns s = true) (hr : running s = true) (hl : 7 < s.prot.diagFailed.length) :
    Completes (exec (.inputTest [true, false, true, true]) s) fun t => nth false t.prot.diagFailed 7 = true ∧ nth true t.prot.twilight 10 = true := by
  have hx : exec (.inputTest [true, false, true, true]) s = .next (s |> log srcSafety 0x0A33 3 (u16 1) |> diagFail 7) := by
    show execInputTest [true, false, true, true] s = _
    unfold execInputTest
    rw [if_neg (by simp [hs, hr])]
    simp only [List.range_succ, List.range_zero, List.nil_append, List.cons_append, List.foldl_cons, List.foldl_nil]
    simp [nth]
  rw [hx, completes_next, diagFail]
  refine ⟨?_, raiseTw_armed 10 _⟩
  obtain ⟨l, h⟩ := raiseTw_prot 10 (onProt (fun p => { p with diagFailed := setAt p.diagFailed 7 true }) (log srcSafety 0x0A33 3 (u16 1) s))
  rw [h, onProt_prot, log_prot]
  exact nth_setAt_self _ _ hl

theorem cmpTest_fails {s : State} {cmp : Nat} (hc : cmp < 6) (hr : running s = true) :
    Completes (exec (.cmpTest cmp false) s) fun t => t.prot.cmpNext = (cmp + 1) % 6 ∧ nth true t.prot.twilight 13 = true := by
  generalize hu : (s |> onProt (fun p => { p with cmpNext := (cmp + 1) % 6 }) |> log srcSafety 0x0A34 3 (u16 cmp)) = u
  have hx : exec (.cmpTest cmp false) s = .next (raiseTw 13 u) := by
    rw [← hu]; exact if_neg (by simp [hr, hc])
  obtain ⟨l, h⟩ := raiseTw_prot 13 u
  rw [hx, completes_next]
  refine ⟨?_, raiseTw_armed 13 u⟩
  rw [h, ← hu, log_prot]; rfl

/-- A restart by the hardware leaves its outputs off and counts a Dawn of reason 8. -/
theorem hardwareReset_dawn (s : State) : (newDawn 8 (outputsOff s)).str.state = .dawn ∧ (newDawn 8 (outputsOff s)).dawn.reason = 8 ∧
    (newDawn 8 (outputsOff s)).prot.safeOut = false ∧ (newDawn 8 (outputsOff s)).pair.ownOut = false ∧
    (newDawn 8 (outputsOff s)).idn.dawnCnt = (s.idn.dawnCnt + 1) % 4294967296 := by
  refine ⟨rfl, rfl, rfl, rfl, ?_⟩
  rw [newDawn_dawnCnt, show (outputsOff s).idn = s.idn from Frame.of_blank (outputsOff_blank (within_refl _) s) .idn rfl]

/-- Settles O27: the clauses above, one for each test and its result. -/
theorem diagnostics : Obligations.Diagnostics := by
  refine ⟨fun s k hk ho hc hj hn hf hs hp he hl => testPulse_starts hk ho hc hj hn hf hs hp he hl,
    fun s k t0 hp ht hl => testPulse_passes hp ht hl, fun s k t0 hp ht => testPulse_faults hp ht,
    fun s ho hr ht => testInterval_ends ho hr ht, fun s hs hr => ?_, fun s hs hr hl => inputTest_fails hs hr hl,
    fun s cmp hc hr => ?_, fun s cmp hc hr => cmpTest_fails hc hr, fun s hr => ?_, fun s => ?_, fun s hr => ?_, fun s hr => ?_⟩
  · exact ⟨s, if_neg (by simp [hs, hr]), rfl⟩
  · exact ⟨_, if_neg (by simp [hr, hc]), rfl, Frame.of_blank (onProt_blank (by decide) ..)⟩
  · exact ⟨_, if_neg (by simp [hr]), moduleFault_faulted s Config.codeCrcCause 1⟩
  · exact ⟨s, rfl, rfl⟩
  · exact ⟨_, if_pos hr, hardwareReset_dawn s⟩
  · exact ⟨_, if_pos hr, hardwareReset_dawn s⟩

end Sys2Proof.Machine
end

section
/-! The contactors: their sequences, contacts and coils (R389 to R392). -/
namespace Sys2Proof.Machine

theorem contAt_congr {s t : State} (h : t.cont = s.cont) (k : Nat) : contAt t k = contAt s k := by
  unfold contAt; rw [h]

/-- The contactor a number under 3 names. -/
theorem contAt_onContactor_self (k : Nat) (g : Contactor → Contactor) (s : State) : contAt (onContactor k g s) k = g (contAt s k) := by
  rcases k with _ | _ | k <;> rfl

/-- The injector is the insulation monitor's alone. -/
theorem injectNow_iso (s : State) : ∃ i, injectNow s = { s with iso := i } := ⟨_, rfl⟩

/-! ### A contactor that fails -/

/-- A demand reads nothing of the contactors, so one that came before it in them changes nothing. -/
theorem Demanded.congr {fn code cls : Nat} {trip : Bool} {s s' t t' : State} (h : Demanded fn code cls trip s t) (hstr : s'.str = s.str)
    (hprot : s'.prot = s.prot) (htb : s'.tb = s.tb) (hstr' : t'.str = t.str) (hprot' : t'.prot = t.prot) : Demanded fn code cls trip s' t' := by
  unfold Demanded FaultedBy Latched at *
  rw [hstr, hprot, htb, hstr', hprot']
  exact h

theorem contFail_demands {code k cls : Nat} {trip : Bool} (data : Bytes) (v : Int) (lim : Option Int) (s : State) :
    contAt (contFail code k cls trip data v lim s) k = { contAt s k with state := 4 } ∧
      Demanded 10 code cls trip s (contFail code k cls trip data v lim s) := by
  unfold contFail
  generalize hu : log srcSafety code 3 data _ = u
  have hcont : contAt u k = { contAt s k with state := 4 } := by rw [← hu, contAt_congr (log_cont ..), contAt_onContactor_self]
  have hstr : u.str = s.str := by rw [← hu, log_str]; rfl
  have hprot : u.prot = s.prot := by rw [← hu, log_prot]; rfl
  have htb : u.tb = s.tb := by rw [← hu, log_tb]; rfl
  have hd := sfDemand_demanded u 10 code cls trip k v lim (fun h => absurd h (by decide))
  exact ⟨(contAt_congr (sfDemand_cont ..) k).trans hcont, hd.congr hstr.symm hprot.symm htb.symm rfl rfl⟩

section
variable {s : State} {k : Nat} (hk : k < 3) (hs : sfRuns s = true)
include hk hs

theorem contCloseTimeout_demands (hc : (contAt s k).coil = true) (hw : (contAt s k).wasClosed = false) (h4 : (contAt s k).state ≠ 4)
    (he : elapsed s (contAt s k).since (msNs s.cfg.safety.closeMax) = true) :
    Completes (exec (.contCloseTimeout k) s) fun t => (contAt t k).state = 4 ∧ Demanded 10 0x0A22 2 false s t := by
  obtain ⟨hcont, hd⟩ := contFail_demands (code := 0x0A22) (k := k) (cls := 2) (trip := false) (u16 k) 0 none s
  exact ⟨_, if_pos (by simp [hk, hs, hc, hw, h4, he]), congrArg Contactor.state hcont, hd⟩

theorem contOpenTimeout_demands (hc : (contAt s k).coil = false) (ha : (contAt s k).aux = true) (h3 : (contAt s k).state = 3)
    (he : elapsed s (contAt s k).since (msNs s.cfg.safety.openMax) = true) :
    Completes (exec (.contOpenTimeout k) s) fun t => (contAt t k).state = 4 ∧
      Demanded 10 (if (contAt s k).wasClosed = true then 0x0A20 else 0x0A21) 2 true s t := by
  obtain ⟨hcont, hd⟩ := contFail_demands (code := if (contAt s k).wasClosed = true then 0x0A20 else 0x0A21) (k := k) (cls := 2)
    (trip := true) (u16 k) 0 none s
  exact ⟨_, if_pos (by simp [hk, hs, hc, ha, h3, he]), congrArg Contactor.state hcont, hd⟩

theorem contDropped_demands (hc : (contAt s k).coil = true) (h2 : (contAt s k).state = 2) (hw : (contAt s k).wasClosed = true)
    (ha : (contAt s k).aux = false) (he : elapsed s (contAt s k).auxSince (msNs s.cfg.safety.closeMax) = true) :
    Completes (exec (.contDropped k) s) fun t => (contAt t k).state = 4 ∧ Demanded 10 0x0A23 2 false s t := by
  obtain ⟨hcont, hd⟩ := contFail_demands (code := 0x0A23) (k := k) (cls := 2) (trip := false) (u16 k) 0 none s
  exact ⟨_, if_pos (by simp [hk, hs, hc, hw, h2, ha, he]), congrArg Contactor.state hcont, hd⟩

theorem coilCurrentFault_demands (ma : Int) (h2 : (contAt s k).state = 2) (hb : 10 ≤ (contAt s k).badFrames) :
    Completes (exec (.coilCurrentFault k ma) s) fun t =>
      (contAt t k).state = 4 ∧ (contAt t k).coilMa = (contAt s k).coilMa ∧ Demanded 10 0x0A24 1 false s t := by
  obtain ⟨hcont, hd⟩ := contFail_demands (code := 0x0A24) (k := k) (cls := 1) (trip := false) (u16 k ++ u16 (contAt s k).coilMa)
    (contAt s k).coilMa (some (roundAway (if (holdWindow s k).2 < ((contAt s k).coilMa : Rat) then (holdWindow s k).2 else (holdWindow s k).1))) s
  exact ⟨_, if_pos (by simp [hk, hs, h2, hb]), congrArg Contactor.state hcont, (congrArg Contactor.coilMa hcont :), hd⟩

end

/-! ### Auxiliary contacts -/

/-- The contact's own record after its reading is taken over. -/
theorem auxTake_contAt (k : Nat) (closed : Bool) (s : State) : contAt (auxTake k closed s) k = { contAt s k with
    aux := closed, auxSince := s.tick.now, wasClosed := (contAt s k).wasClosed || (closed && (contAt s k).coil)
    state := if !closed && !(contAt s k).coil && (contAt s k).state = 3 then 0 else (contAt s k).state } := by
  rcases k with _ | _ | k <;> rfl

/-- A change of a contact while the safety functions run. -/
theorem exec_auxContactChange {s : State} {k : Nat} {closed : Bool} (hk : k < 3) (ha : (contAt s k).aux = !closed) (hs : sfRuns s = true)
    (hr : running s = true) : exec (.auxContactChange k closed) s = if closed then
      if (auxTake k closed s).str.state = .standby && !(contAt (auxTake k closed s) k).coil then
        .next (injectNow (contFail 0x0A20 k 2 true (u16 k) 0 none (auxTake k closed s)))
      else .next (injectNow (if (contAt (auxTake k closed s) k).coil then auxClosed k (auxTake k closed s) else auxTake k closed s))
    else .next (injectNow (auxOpened k (auxTake k closed s))) := by
  refine (if_neg ?_).trans (if_neg ?_)
  · rw [ha]; cases closed <;> simp [hk]
  · have h1 : sfRuns (auxTake k closed s) = true := hs
    have h2 : running (auxTake k closed s) = true := hr
    simp [h1, h2]

/-- A contact that closes under its coil advances the sequence. -/
theorem auxContact_closes {s : State} {k : Nat} (hk : k < 3) (ha : (contAt s k).aux = false) (hc : (contAt s k).coil = true)
    (hs : sfRuns s = true) (hr : running s = true) :
    exec (.auxContactChange k true) s = .next (injectNow (auxClosed k (auxTake k true s))) := by
  have hc' : (contAt (auxTake k true s) k).coil = true := (congrArg Contactor.coil (auxTake_contAt k true s)).trans hc
  rw [exec_auxContactChange hk (by simpa using ha) hs hr, hc', if_pos rfl, if_neg (by simp), if_pos rfl]

/-- Before an opening is judged, a weld cause may end. -/
theorem auxOpened_eq (k : Nat) (u : State) : ∃ v, (∃ cs, v = { u with str := { u.str with causes := cs } }) ∧
    auxOpened k u = if v.cont.opening = 1 && k = 0 then v |> coilOff 1 |> onCont fun c => { c with opening := 2 }
      else if v.cont.opening = 2 && k = 1 then
        v |> onCont (fun c => { c with opening := 3 }) |> onStr fun x => { x with triggers := x.triggers ++ [.stoppingDone] }
      else v := by
  refine ⟨if (List.range 3).any (fun n => (contAt u n).aux && !(contAt u n).coil) then u else u |> deactivate 0x0A20 |> deactivate 0x0A21, ?_, rfl⟩
  split
  · exact ⟨_, rfl⟩
  · exact ⟨_, rfl⟩

theorem owning_of_sfRuns {s : State} (hs : sfRuns s = true) : owning s = true := by
  simp only [sfRuns, Bool.and_eq_true] at hs
  exact hs.1.1

section
variable {s : State} (hs : sfRuns s = true) (hr : running s = true)
include hs hr

theorem prechargeContact_closes (ha : s.cont.c2.aux = false) (hc : s.cont.c2.coil = true) (hp : s.cont.step = .p1) :
    Completes (exec (.auxContactChange 2 true) s) fun t => t.cont.c2.aux = true ∧ t.cont.step = .p2 ∧ t.cont.stepSince = s.tick.now ∧
      t.cont.ops2 = satInc 32 s.cont.ops2 ∧ t.str = s.str := by
  have hx : auxClosed 2 (auxTake 2 true s) = preTo .p2 (auxTake 2 true s) := by
    unfold auxClosed
    rw [show (auxTake 2 true s).cont.step = .p1 from hp]
    rfl
  have hcount : (true && (contAt s 2).coil && owning s) = true := by
    rw [show (contAt s 2).coil = true from hc, owning_of_sfRuns hs]; rfl
  rw [auxContact_closes (k := 2) (by decide) ha hc hs hr, completes_next, hx]
  refine ⟨rfl, rfl, rfl, ?_, rfl⟩
  show (if (true && (contAt s 2).coil && owning s) && decide (2 ≤ 2) then satInc 32 s.cont.ops2 else s.cont.ops2) = _
  rw [hcount]; rfl

theorem mainPlus_closes (ha : s.cont.c0.aux = false) (hc : s.cont.c0.coil = true) (hp : s.cont.step = .p5) :
    Completes (exec (.auxContactChange 0 true) s) fun t => t.cont.c0.aux = true ∧ t.cont.step = .p6 ∧
      t.str.triggers = s.str.triggers ++ [.prechargeDone] := by
  have hx : auxClosed 0 (auxTake 0 true s) = onStr (fun x => { x with triggers := x.triggers ++ [.prechargeDone] }) (preTo .p6 (auxTake 0 true s)) := by
    unfold auxClosed
    rw [show (auxTake 0 true s).cont.step = .p5 from hp]
    rfl
  rw [auxContact_closes (k := 0) (by decide) ha hc hs hr, completes_next, hx]
  exact ⟨rfl, rfl, rfl⟩

theorem mainPlus_opens (ha : s.cont.c0.aux = true) (ho : s.cont.opening = 1) :
    Completes (exec (.auxContactChange 0 false) s) fun t => t.cont.c0.aux = false ∧ t.cont.c1.coil = false ∧ t.cont.opening = 2 := by
  obtain ⟨v, ⟨cs, hv⟩, hx⟩ := auxOpened_eq 0 (auxTake 0 false s)
  have hc : v.cont = (auxTake 0 false s).cont := by rw [hv]
  rw [exec_auxContactChange (k := 0) (closed := false) (by decide) ha hs hr, if_neg (by decide), completes_next, hx,
    if_pos (by rw [hc, show (auxTake 0 false s).cont.opening = 1 from ho]; rfl)]
  refine ⟨?_, ?_, rfl⟩
  · show (coilOff 1 v).cont.c0.aux = false
    rw [coilOff_cont]
    exact (congrArg (fun c : ContSt => c.c0.aux) hc :)
  · show (coilOff 1 v).cont.c1.coil = false
    rw [coilOff_cont]
    exact Contactor.drop_coil ..

theorem mainMinus_opens (ha : s.cont.c1.aux = true) (ho : s.cont.opening = 2) :
    Completes (exec (.auxContactChange 1 false) s) fun t => t.cont.c1.aux = false ∧ t.cont.opening = 3 ∧
      t.str.triggers = s.str.triggers ++ [.stoppingDone] := by
  obtain ⟨v, ⟨cs, hv⟩, hx⟩ := auxOpened_eq 1 (auxTake 1 false s)
  have hc : v.cont.opening = 2 := by rw [hv]; exact ho
  rw [exec_auxContactChange (k := 1) (closed := false) (by decide) ha hs hr, if_neg (by decide), completes_next, hx, if_neg (by simp), if_pos (by simp [hc])]
  rw [hv]
  exact ⟨rfl, rfl, rfl⟩

/-- A contact that reads closed in STANDBY without its coil is welded. -/
theorem contact_welded {k : Nat} (hk : k < 3) (hst : s.str.state = .standby) (ha : (contAt s k).aux = false) (hc : (contAt s k).coil = false) :
    Completes (exec (.auxContactChange k true) s) fun t => (contAt t k).aux = true ∧ (contAt t k).state = 4 ∧ Demanded 10 0x0A20 2 true s t := by
  have htake := auxTake_contAt k true s
  have hc' : (contAt (auxTake k true s) k).coil = false := (congrArg Contactor.coil htake).trans hc
  have hst' : (auxTake k true s).str.state = .standby := hst
  obtain ⟨hcont, hd⟩ := contFail_demands (code := 0x0A20) (k := k) (cls := 2) (trip := true) (u16 k) 0 none (auxTake k true s)
  obtain ⟨i, hi⟩ := injectNow_iso (contFail 0x0A20 k 2 true (u16 k) 0 none (auxTake k true s))
  rw [exec_auxContactChange hk (by simpa using ha) hs hr, if_pos rfl, if_pos (by simp [hst', hc']), completes_next, hi]
  generalize contFail 0x0A20 k 2 true (u16 k) 0 none (auxTake k true s) = v at *
  have hcont' : contAt { v with iso := i } k = { contAt (auxTake k true s) k with state := 4 } := hcont
  refine ⟨?_, congrArg Contactor.state hcont', hd.congr rfl rfl rfl rfl rfl⟩
  rw [hcont']
  exact congrArg Contactor.aux htake

end

/-- Settles O28: the clauses above, one for each contact, coil and timeout. -/
theorem contactorSequences : Obligations.ContactorSequences := by
  refine ⟨fun s hs hr ha hc hp => prechargeContact_closes hs hr ha hc hp, fun s hs hr ha hc hp => mainPlus_closes hs hr ha hc hp,
    fun s hs hr ha ho => mainPlus_opens hs hr ha ho, fun s hs hr ha ho => mainMinus_opens hs hr ha ho,
    fun s k hk hs hr hst ha hc => contact_welded hs hr hk hst ha hc,
    fun s k hk hs hc hw h4 he => contCloseTimeout_demands hk hs hc hw h4 he,
    fun s k hk hs hc ha h3 he => contOpenTimeout_demands hk hs hc ha h3 he,
    fun s k hk hs hc h2 hw ha he => contDropped_demands hk hs hc h2 hw ha he, fun s k hk hc h1 he => ?_,
    fun s k ma hk hs h2 hb => coilCurrentFault_demands hk hs ma h2 hb⟩
  refine ⟨_, if_pos (by simp [hk, hc, h1, he]), contAt_onContactor_self .., Frame.of_blank (onContactor_blank (by decide) ..)⟩

end Sys2Proof.Machine
end

section
/-! The end of a precharge step and of STOPPING (R35, R389, R390). -/
namespace Sys2Proof.Machine

theorem coilOn_coil (k : Nat) (s : State) : (contAt (coilOn k s) k).coil = true := by
  rw [coilOn, contAt_onContactor_self]
  split
  · assumption
  · rfl

section
variable {s : State} (hp : s.cont.step = .p2) (hs : sfRuns s = true) (he : elapsed s s.cont.stepSince (msNs 50) = true)
include hp hs he

theorem prechargeHold_advances (hi : s.cont.peak ≤ 2000) :
    Completes (exec .prechargeHoldEnd s) fun t => t.cont.step = .p3 ∧ t.cont.stepSince = s.tick.now ∧ t.cont.c1.coil = true ∧
      t.cont.c0 = s.cont.c0 ∧ t.cont.c2 = s.cont.c2 ∧ Frame [.cont] s t := by
  have hx : exec .prechargeHoldEnd s = .next (coilOn 1 (preTo .p3 s)) := (if_pos (by simp [hp, hs, he])).trans (if_neg (by omega))
  rw [hx, completes_next]
  exact ⟨rfl, rfl, coilOn_coil 1 (preTo .p3 s), rfl, rfl, Frame.of_blank ((coilOn_blank (by decide) ..).trans (preTo_blank (by decide) ..))⟩

theorem prechargeHold_welded (hi : 2000 < s.cont.peak) :
    Completes (exec .prechargeHoldEnd s) fun t => Demanded 10 0x0A20 2 true s t ∧ t.cont.c1.state = 4 := by
  obtain ⟨hcont, hd⟩ := contFail_demands (code := 0x0A20) (k := 1) (cls := 2) (trip := true) (u16 1) 0 none s
  exact ⟨_, (if_pos (by simp [hp, hs, he])).trans (if_pos hi), hd, congrArg Contactor.state hcont⟩

end

section
variable {s : State} {t0 : Nat} (hz : s.cont.zeroSince = some t0) (hst : s.str.state = .stopping) (ho : owning s = true)
  (he : elapsed s t0 (msNs 10) = true) (hop : s.cont.opening = 0) (ht : Trigger.stoppingDone ∉ s.str.triggers)
include hz hst ho he hop ht

/-- Ten milliseconds at zero current end the wait of STOPPING. -/
theorem exec_stoppingZeroCurrent : exec .stoppingZeroCurrent s = if s.str.stopTarget = some .closed then
      .next (s |> onStr fun x => { x with triggers := x.triggers ++ [.stoppingDone] })
    else .next (s |> coilOff 2 |> coilOff 0 |> onCont fun c => { c with opening := 1 }) := by
  show execStoppingZeroCurrent s = _
  unfold execStoppingZeroCurrent
  simp only [hz]
  exact if_neg (by simp [hst, ho, he, hop, ht])

theorem stopping_opens (htgt : s.str.stopTarget = some .standby) :
    Completes (exec .stoppingZeroCurrent s) fun t => t.cont.opening = 1 ∧ t.cont.c0.coil = false ∧ t.cont.c2.coil = false ∧
      t.cont.c1 = s.cont.c1 ∧ t.str = s.str := by
  rw [exec_stoppingZeroCurrent hz hst ho he hop ht, if_neg (by simp [htgt]), completes_next, onCont_cont, coilOff_cont, onContactor, onCont_cont,
    coilOff_cont]
  exact ⟨rfl, Contactor.drop_coil .., Contactor.drop_coil .., rfl, (coilOff_str ..).trans (coilOff_str ..)⟩

end

/-- STOPPING that lasts too long decides FAULT, with a cause that is latched and active no longer. -/
theorem stopTimeout_faults {s : State} (hst : s.str.state = .stopping) (ho : owning s = true)
    (he : elapsed s s.str.entered (stopLimitNs s) = true) :
    Completes (exec .stopTimeout s) fun t => t.str.state = .fault ∧ t.str.cause = 0x0AF2 ∧ t.prot.stop ≠ none ∧
      (∃ c ∈ t.str.causes, c.code = 0x0AF2) ∧ (∀ c ∈ t.str.causes, c.code = 0x0AF2 → c.active = false) := by
  have hx : exec .stopTimeout s = .next (deactivate 0x0AF2 (decideFault 0x0AF2 0 false 0 (log srcSafety 0x0AF2 3 [] s))) :=
    if_pos (by simp [hst, ho, he])
  obtain ⟨⟨⟨c, hc, hcode, -, -⟩, hstop, hfault⟩, -⟩ := decideFault_faulted (log srcSafety 0x0AF2 3 [] s) 0x0AF2 0 false 0
  obtain ⟨hfst, hfc⟩ := hfault (by rw [log_str, hst]; rfl)
  rw [hx, completes_next]
  generalize decideFault 0x0AF2 0 false 0 (log srcSafety 0x0AF2 3 [] s) = u at *
  refine ⟨hfst, hfc, hstop, ⟨_, List.mem_map_of_mem hc, ?_⟩, deactivate_inactive 0x0AF2 u⟩
  rw [if_pos hcode]
  exact hcode

/-- Settles O29: the clauses above, one for each instruction and case. -/
theorem prechargeAndStopping : Obligations.PrechargeAndStopping := by
  refine ⟨fun s hp hs he hi => prechargeHold_advances hp hs he hi, fun s hp hs he hi => prechargeHold_welded hp hs he hi,
    fun s hst hp he ht => ?_, fun s t0 hz hst ho he hop ht htgt => ?_, fun s t0 hz hst ho he hop ht htgt => stopping_opens hz hst ho he hop ht htgt,
    fun s hst ho he => stopTimeout_faults hst ho he⟩
  · exact ⟨_, if_pos (by simp [hst, hp, he, ht]), rfl, Frame.of_blank (onStr_blank (by decide) ..)⟩
  · rw [exec_stoppingZeroCurrent hz hst ho he hop ht, if_pos htgt, completes_next]
    exact ⟨rfl, rfl⟩

end Sys2Proof.Machine
end

section
/-! The converter: comparator trips, the outer loop, phases and gains (R305 to R316, R325, R381). -/
namespace Sys2Proof.Machine

/-! ### A comparator trip -/

/-- Every gate link is dark or sends the fast SAFE_OFF. -/
def FastOff (s : State) : Prop := ∀ g ∈ s.pins.gate, g = .dark ∨ g = .fastSafeOff

/-- A safe stop leaves a fast trip as it is. -/
theorem safeStop_fast (s : State) : (FastOff s → FastOff (safeStop false s)) ∧ (safeStop false s).cnv.fastTrip = s.cnv.fastTrip := by
  unfold safeStop
  dsimp only
  split
  · exact ⟨id, rfl⟩
  · refine ⟨fun h g hg => ?_, rfl⟩
    obtain ⟨x, hx, rfl⟩ := List.mem_map.mp (show g ∈ s.pins.gate.map fun g => if g = .dark || g = .fastSafeOff then g else .safeOff from hg)
    rw [if_pos (by simpa using h x hx)]
    exact h x hx

theorem decideFault_fast (code cls fn : Nat) (s : State) :
    (FastOff s → FastOff (decideFault code cls false fn s)) ∧ (decideFault code cls false fn s).cnv.fastTrip = s.cnv.fastTrip := by
  let u := s |> onStr (fun x => { x with causes := latchCause { code := code, cls := cls, trip := false, fn := fn } x.causes }) |> latchClass2 code cls
  have hpins : u.pins = s.pins := Frame.of_blank (latchClass2_blank (within_refl _) code cls _) .pins rfl
  have hcnv : u.cnv = s.cnv := Frame.of_blank (latchClass2_blank (within_refl _) code cls _) .cnv rfl
  obtain ⟨h1, h2⟩ := safeStop_fast u
  rw [hcnv] at h2
  have hu : FastOff s → FastOff (safeStop false u) := fun h => h1 (by unfold FastOff; rw [hpins]; exact h)
  have hx : decideFault code cls false fn s = if faultable (safeStop false u).str.state then setState .fault code (safeStop false u) else safeStop false u := rfl
  rw [hx]
  generalize safeStop false u = v at hu h2
  split
  · exact ⟨fun h => by unfold FastOff; rw [setState_pins]; exact hu h, (congrArg ConvSt.fastTrip (setState_cnv ..) :).trans h2⟩
  · exact ⟨hu, h2⟩

theorem sfDemand_fast (fn cause cls item : Nat) (v : Int) (lim : Option Int) (s : State) :
    (FastOff s → FastOff (sfDemand fn cause cls false item v lim s)) ∧ (sfDemand fn cause cls false item v lim s).cnv.fastTrip = s.cnv.fastTrip := by
  have hpins : (demandRecord fn cause item v lim s).pins = s.pins := log_pins ..
  have hcnv : (demandRecord fn cause item v lim s).cnv = s.cnv := log_cnv ..
  obtain ⟨h1, h2⟩ := decideFault_fast cause
    (if countsTo24h fn && decide (3 ≤ recentDemands fn (demandRecord fn cause item v lim s)) then 1 else cls) fn (demandRecord fn cause item v lim s)
  exact ⟨fun h => h1 (by unfold FastOff; rw [hpins]; exact h), h2.trans (by rw [hcnv])⟩

theorem sfRuns_congr {s t : State} (hstr : t.str = s.str) (hcfg : t.cfg = s.cfg) : sfRuns t = sfRuns s := by
  simp only [sfRuns, owning, hstr, hcfg]

/-- A comparator trip outside a safe stop. -/
theorem ocDemand_demands (item : Nat) (v lim : Int) {s : State} (hs : s.prot.stop = none) :
    (FastOff s → FastOff (ocDemand item v lim s)) ∧ (ocDemand item v lim s).cnv.fastTrip = s.cnv.fastTrip ∧
      (sfRuns s = true → Demanded 4 0x0A04 (if s.prot.ocFastSeen = true then 2 else 0) false s (ocDemand item v lim s) ∧
        (ocDemand item v lim s).prot.ocFastSeen = true) := by
  unfold ocDemand
  rw [hs]
  by_cases hr : sfRuns s = true
  · rw [if_neg (by simp [hr])]
    obtain ⟨h1, h2⟩ := sfDemand_fast 4 0x0A04 (if s.prot.ocFastSeen then 2 else 0) item v (some lim) s
    exact ⟨h1, h2, fun _ => ⟨sfDemand_demanded s 4 0x0A04 (if s.prot.ocFastSeen then 2 else 0) false item v (some lim) (fun h => absurd h (by decide)), rfl⟩⟩
  · rw [if_pos (by simp [hr])]
    exact ⟨id, rfl, fun h => absurd h hr⟩

theorem comparator_trips {s : State} {cmp : Nat} (hc : cmp < 6) (hm : metRuns s = true) (hf : nth true s.cnv.fastTrip cmp = false)
    (hs : s.prot.stop = none) :
    Completes (exec (.fastComparatorTrip cmp) s) fun t => nth true t.cnv.fastTrip cmp = true ∧
      (∀ g ∈ t.pins.gate, g = .dark ∨ g = .fastSafeOff) ∧
      (sfRuns s = true → Demanded 4 0x0A04 (if s.prot.ocFastSeen = true then 2 else 0) false s t ∧ t.prot.ocFastSeen = true) := by
  let r := mapI fastPort s.cnv.ports
  let s1 := s |> onCnv (fun c => { c with fastTrip := setAt c.fastTrip cmp true, ports := r.map (·.1), frames := r.flatMap (·.2) })
      |> onPins (fun p => { p with gate := p.gate.map fun g => if g = .dark then .dark else .fastSafeOff })
      |> irqEvent (134 + cmp) true
  generalize hu : log srcSafety 0x0707 3 (u8 (bitsOf s1.cnv.fastTrip) ++ iLe 3 (roundAway (phaseMa s 0)) ++ iLe 3 (roundAway (phaseMa s 1)) ++
    iLe 3 (roundAway (phaseMa s 2))) s1 = u
  have hx : exec (.fastComparatorTrip cmp) s = .next (ocDemand (cmp / 2) (roundAway (phaseMa s (cmp / 2)))
      (if cmp % 2 = 0 then s.cfg.safety.ocFast else -(s.cfg.safety.ocFast : Int)) u) := by
    rw [← hu]; exact if_neg (by simp [hc, hm, hf])
  have hstr : u.str = s.str := by rw [← hu, log_str]; exact irqEvent_str ..
  have hprot : u.prot = s.prot := by rw [← hu, log_prot]; exact irqEvent_prot ..
  have htb : u.tb = s.tb := by rw [← hu, log_tb]; exact irqEvent_tb ..
  have hcfg : u.cfg = s.cfg := by rw [← hu, log_cfg]; exact irqEvent_cfg ..
  have hcnv : u.cnv.fastTrip = setAt s.cnv.fastTrip cmp true := by
    rw [← hu, log_cnv]; exact (congrArg ConvSt.fastTrip (irqEvent_cnv ..) :)
  have hpins : FastOff u := by
    unfold FastOff
    rw [← hu, log_pins, show s1.pins = _ from irqEvent_pins ..]
    intro g hg
    obtain ⟨x, -, rfl⟩ := List.mem_map.mp (show g ∈ s.pins.gate.map fun g => if g = .dark then .dark else .fastSafeOff from hg)
    split
    · exact .inl rfl
    · exact .inr rfl
  obtain ⟨hfast, htrip, hdem⟩ := ocDemand_demands (cmp / 2) (roundAway (phaseMa s (cmp / 2)))
    (if cmp % 2 = 0 then s.cfg.safety.ocFast else -(s.cfg.safety.ocFast : Int)) (s := u) (by rw [hprot]; exact hs)
  rw [hx, completes_next]
  refine ⟨?_, hfast hpins, fun h => ?_⟩
  · rw [htrip, hcnv]
    exact nth_setAt_default true ..
  · obtain ⟨hd, hseen⟩ := hdem ((sfRuns_congr hstr hcfg).trans h)
    rw [hprot] at hd
    exact ⟨hd.congr hstr.symm hprot.symm htb.symm rfl rfl, hseen⟩

/-! ### The outer loop -/

theorem runSlot4_cnv (s : State) : ∃ l y, (runSlot4 s).cnv = { s.cnv with slots := l, y4 := y } ∧ l.length = s.cnv.slots.length ∧
    nth {} l 3 = slotAt s 3 := by
  unfold runSlot4
  dsimp only
  split
  · exact ⟨_, _, rfl, rfl, rfl⟩
  · split
    · exact ⟨_, _, rfl, rfl, rfl⟩
    · exact ⟨_, _, rfl, length_updAt .., nth_updAt_ne _ _ _ (by decide)⟩

theorem clampI_mem {lo hi x : Int} (h : lo ≤ hi) : lo ≤ clampI lo hi x ∧ clampI lo hi x ≤ hi := by
  unfold clampI
  split
  · omega
  · split <;> omega

theorem Slot.refer_live (x : Slot) (m c : Int) : (x.refer m c).live = x.live := by
  unfold Slot.refer
  dsimp only
  split
  · rfl
  · split <;> rfl

/-- Slot 3 outside its mode 0: its output is held to the limits in force. -/
theorem runSlot3_bounded {s : State} (hm : (slotAt s 3).live.mode ≠ 0) : ∃ v x, (runSlot3 s).cnv.slots = updAt (fun _ => x) s.cnv.slots 3 ∧
    (runSlot3 s).cnv.y3Next = clampI (max (slotAt s 3).live.yMin (-s.cnv.iLimit)) (min (slotAt s 3).live.yMax s.cnv.iLimit) v ∧
    x.y = (runSlot3 s).cnv.y3Next ∧ x.live = (slotAt s 3).live := by
  unfold runSlot3
  extract_lets x want r3 x1 e v hi lo y
  have hy : y = clampI lo hi v := if_neg hm
  refine ⟨v, if x.preset.isSome then x1.runPreset e x1.ref y
    else x1.commit e v y (s.cnv.phaseClamp && decide (0 ≤ y)) (s.cnv.phaseClamp && decide (y < 0)), rfl, hy, ?_, ?_⟩
  · split <;> rfl
  · have hx1 : x1.live = x.live := Slot.refer_live ..
    split
    · exact hx1
    · exact hx1

section
variable {s : State} (hj : s.tick.j = 1) (hw : convWanted s = true) (hr : s.cnv.regulating = true) (h5 : s.cnv.slot5On = false)
include hj hw hr h5

theorem exec_outerLoops : exec .outerLoops s = .next (runSlot3 (runSlot4 s)) :=
  (if_neg (by simp [hj, hw, hr])).trans (if_neg (by simp [h5]))

theorem outerLoops_bounded (hb : max (slotAt s 3).live.yMin (-s.cnv.iLimit) ≤ min (slotAt s 3).live.yMax s.cnv.iLimit)
    (hl : 4 < s.cnv.slots.length) (hm : (slotAt s 3).live.mode ≠ 0) :
    Completes (exec .outerLoops s) fun t => max (slotAt s 3).live.yMin (-s.cnv.iLimit) ≤ t.cnv.y3Next ∧
      t.cnv.y3Next ≤ min (slotAt s 3).live.yMax s.cnv.iLimit ∧ (slotAt t 3).y = t.cnv.y3Next ∧ (slotAt t 3).live = (slotAt s 3).live ∧
      Frame [.cnv, .dsp] s t := by
  obtain ⟨l, y4, hc, hll, h3⟩ := runSlot4_cnv s
  have hf : Frame [.cnv, .dsp] s (runSlot3 (runSlot4 s)) :=
    Frame.of_blank ((runSlot3_blank (by decide) _).trans (runSlot4_blank (by decide) s))
  rw [exec_outerLoops hj hw hr h5, completes_next]
  generalize runSlot4 s = u at hc hf
  have hslot : slotAt u 3 = slotAt s 3 := by unfold slotAt; rw [hc]; exact h3
  have hil : u.cnv.iLimit = s.cnv.iLimit := by rw [hc]
  have hul : 3 < u.cnv.slots.length := by rw [hc]; show 3 < l.length; omega
  obtain ⟨v, x, hslots, hy, hxy, hxl⟩ := runSlot3_bounded (s := u) (by rw [hslot]; exact hm)
  rw [hslot, hil] at hy
  have hself : slotAt (runSlot3 u) 3 = x := by unfold slotAt; rw [hslots]; exact nth_updAt_self _ _ hul
  rw [hself, hxl, hslot, hxy, hy]
  exact ⟨(clampI_mem hb).1, (clampI_mem hb).2, rfl, rfl, hf⟩

theorem outerLoops_off (hm : (slotAt s 3).live.mode = 0) : Completes (exec .outerLoops s) fun t => t.cnv.y3Next = 0 := by
  obtain ⟨l, y4, hc, -, h3⟩ := runSlot4_cnv s
  have hslot : slotAt (runSlot4 s) 3 = slotAt s 3 := by unfold slotAt; rw [hc]; exact h3
  rw [exec_outerLoops hj hw hr h5, completes_next]
  exact if_pos (by rw [hslot]; exact hm)

end

/-! ### Phases and gains -/

theorem rampDown_completes {s : State} {k : Nat} (hst : (phaseAt s k).st = .rampDown) (hlow : 20 ≤ (phaseAt s k).lowTicks)
    (hl : k < s.cnv.phases.length) :
    Completes (exec (.phaseRampDownComplete k) s) fun t => (phaseAt t k).st = .disabled ∧ (phaseAt t k).ref = 0 ∧
      (∀ i, i ≠ k → phaseAt t i = phaseAt s i) ∧ (∀ i, i ≠ k → slotAt t i = slotAt s i) ∧ Frame [.cnv] s t := by
  have hx : exec (.phaseRampDownComplete k) s = .next (s |> onPhase k (fun p => { p with st := .disabled, ref := 0, refPrev := 0, lowTicks := 0 })
      |> onSlot k Slot.halt) := if_neg (by simp [hst]; omega)
  have hself := nth_updAt_self {} (fun p : Phase => { p with st := .disabled, ref := 0, refPrev := 0, lowTicks := 0 }) hl
  rw [hx, completes_next]
  exact ⟨(congrArg Phase.st hself :), (congrArg Phase.ref hself :), fun i hi => nth_updAt_ne _ _ _ hi, fun i hi => nth_updAt_ne _ _ _ hi,
    Frame.of_blank ((onSlot_blank (by decide) ..).trans (onPhase_blank (by decide) ..))⟩

/-- A phase that was hot returns with eight clearing frames on both its ports. -/
theorem phase_reenables {s : State} {k t0 : Nat} (hk : k < 3) (hl : k < s.cnv.phases.length) (hp : 2 * k + 1 < s.cnv.ports.length)
    (hw : convWanted s = true) (hreg : regulatingState s.str.state = true) (hclr : (phaseAt s k).clrLeft = 0) (hst : (phaseAt s k).st = .disabled)
    (hot : (phaseAt s k).byOt = true) (hr : (phaseAt s k).readySince = some t0) (he : elapsed s t0 (secNs s.cfg.conv.otReenable) = true) :
    Completes (exec (.phaseReenable k) s) fun t => (phaseAt t k).clrLeft = 8 ∧ (phaseAt t k).clrClean = true ∧
      (portAt t (2 * k)).clrLeft = 8 ∧ (portAt t (2 * k + 1)).clrLeft = 8 ∧ (phaseAt t k).st = .disabled ∧ Frame [.cnv] s t := by
  have hx : exec (.phaseReenable k) s = .next (s |> onPhase k (fun p => { p with clrLeft := 8, clrClean := true })
      |> onPort (2 * k) (fun q => { q with clrLeft := 8 }) |> onPort (2 * k + 1) (fun q => { q with clrLeft := 8 })) :=
    if_neg (by simp [hk, hw, hreg, hclr, hst, hot, hr, he])
  have hself := nth_updAt_self {} (fun p : Phase => { p with clrLeft := 8, clrClean := true }) hl
  have hport := nth_updAt_self {} (fun q : GlPort => { q with clrLeft := 8 }) (l := updAt (fun q : GlPort => { q with clrLeft := 8 }) s.cnv.ports (2 * k))
    (i := 2 * k + 1) (by rw [length_updAt]; exact hp)
  have hport' := nth_updAt_self {} (fun q : GlPort => { q with clrLeft := 8 }) (l := s.cnv.ports) (i := 2 * k) (by omega)
  rw [hx, completes_next]
  refine ⟨(congrArg Phase.clrLeft hself :), (congrArg Phase.clrClean hself :), ?_, (congrArg GlPort.clrLeft hport :),
    (congrArg Phase.st hself : _).trans hst, Frame.of_blank ((onPort_blank (by decide) ..).trans
      ((onPort_blank (by decide) ..).trans (onPhase_blank (by decide) ..)))⟩
  exact (congrArg GlPort.clrLeft (nth_updAt_ne _ _ _ (by omega)) : _).trans (congrArg GlPort.clrLeft hport')

/-- A word of the gain schedule goes to the three phase slots. -/
theorem schedCoef_writes {s : State} {w : Nat × Int × Nat} {rest : List (Nat × Int × Nat)} (hsp : isSp s = false)
    (hq : s.cnv.schedQueue = w :: rest) (ha : s.cnv.schedAt ≠ some s.tick.now) (hwait : s.cnv.schedWait = none) (hl : 2 < s.cnv.slots.length) :
    Completes (exec .schedCoefWrite s) fun t => t.cnv.schedQueue = rest ∧ t.cnv.schedAt = some s.tick.now ∧ t.cnv.schedCnt = satInc 32 s.cnv.schedCnt ∧
      (∀ i < 3, (slotAt t i).live = schedPut w (slotAt s i).live) ∧ (∀ i, 3 ≤ i → slotAt t i = slotAt s i) ∧ Frame [.cnv] s t := by
  let g : Nat → Slot → Slot := fun i x => if i < 3 then { x with live := schedPut w x.live } else x
  have hx : exec .schedCoefWrite s = .next (s |> onCnv fun c => { c with
      schedQueue := rest, schedAt := some s.tick.now, schedCnt := satInc 32 c.schedCnt, slots := mapI g c.slots }) := by
    show execSchedCoefWrite s = _
    unfold execSchedCoefWrite
    simp only [hq]
    rw [if_neg (by simp [hsp, ha])]
    simp only [onCnv_cnv, hwait]
    cases rest <;> rfl
  rw [hx, completes_next]
  refine ⟨rfl, rfl, rfl, fun i hi => ?_, fun i hi => ?_, Frame.of_blank (onCnv_blank (by decide) ..)⟩
  · have := nth_mapI {} {} g (l := s.cnv.slots) (i := i) (by omega)
    exact (congrArg Slot.live this : _).trans (congrArg Slot.live (if_pos hi))
  · by_cases hil : i < s.cnv.slots.length
    · exact (nth_mapI {} {} g hil).trans (if_neg (by omega))
    · show nth {} (mapI g s.cnv.slots) i = nth {} s.cnv.slots i
      rw [nth_eq_getD, nth_eq_getD, List.getD_eq_getElem?_getD, List.getD_eq_getElem?_getD, List.getElem?_eq_none (by rw [length_mapI]; omega),
        List.getElem?_eq_none (by omega)]

/-- Settles O30: the clauses above, one for each instruction and case. -/
theorem converterEvents : Obligations.ConverterEvents :=
  ⟨fun _ _ hc hm hf hs => comparator_trips hc hm hf hs, fun _ hj hw hr h5 hb hl hm => outerLoops_bounded hj hw hr h5 hb hl hm,
    fun _ hj hw hr h5 hm => outerLoops_off hj hw hr h5 hm, fun _ _ hst hlow hl => rampDown_completes hst hlow hl,
    fun _ _ _ hk hl hp hw hreg hclr hst hot hr he => phase_reenables hk hl hp hw hreg hclr hst hot hr he,
    fun _ _ _ hsp hq ha hw hl => schedCoef_writes hsp hq ha hw hl⟩

end Sys2Proof.Machine
end

section
/-! References and channels (R157 to R171). -/
namespace Sys2Proof.Machine

theorem dsAt_onDs_self (n : Nat) (g : DsCh → DsCh) {s : State} (h : n < s.met.ds.length) : dsAt (onDs n g s) n = g (dsAt s n) :=
  nth_updAt_self _ g h

theorem dsAt_onDs_ne {n k : Nat} (g : DsCh → DsCh) (s : State) (h : k ≠ n) : dsAt (onDs n g s) k = dsAt s k :=
  nth_updAt_ne _ g _ h

theorem dsAt_congr {s t : State} (h : t.met = s.met) (n : Nat) : dsAt t n = dsAt s n := by
  unfold dsAt; rw [h]

/-! ### The references -/

theorem refDisagree_suspects {s : State} (hb : 10 ≤ s.met.refBadFrames) (hs : s.met.refSuspect = false) :
    Completes (exec .refDisagree s) fun t => t.met = { s.met with refSuspect := true } ∧ Frame ([.met] ++ recordParts) s t := by
  have hx : exec .refDisagree s = .next (s |> onMet (fun m => { m with refSuspect := true }) |> log srcSafety 0x0301 2 []) :=
    if_neg (by simp [hs]; omega)
  rw [hx, completes_next, log_met]
  exact ⟨rfl, Frame.of_blank ((log_blank (by decide) ..).trans (onMet_blank (by decide) ..))⟩

theorem refSettle_faults {s : State} (hr : s.met.refSettled = false) (hm : metStarted s = true)
    (he : elapsed s s.met.refSwitchedAt (msNs 2) = true) (hc : ∀ c ∈ s.str.causes, c.code = 0x0304 → c.active = false)
    (hl : s.pair.localFault = false) : Completes (exec .refSettleTimeout s) fun t => ModuleFaulted 0x0304 1 s t := by
  have hx : exec .refSettleTimeout s = .next (moduleFault 0x0304 1 (log srcSafety 0x0304 3 [] s)) := by
    refine if_neg ?_
    have hany : (s.str.causes.any fun c => c.code = 0x0304 && c.active) = false := by
      simpa [List.any_eq_false] using hc
    simp [hr, hm, he, hl, hany]
  rw [hx, completes_next]
  exact (moduleFault_faulted _ 0x0304 1).congr (log_str ..).symm (log_prot ..).symm (log_pair ..).symm

/-! ### The channels -/

theorem settling_ends {s : State} {ch : Nat} (hs : (dsAt s ch).settling = true) (hw : (dsAt s ch).waitRef = false) (h0 : (dsAt s ch).settle = 0)
    (hl : ch < s.met.ds.length) : Completes (exec (.settlingEnd ch) s) fun t =>
      dsAt t ch = { dsAt s ch with settling := false, valid := !(dsAt s ch).failed } ∧ (∀ i, i ≠ ch → dsAt t i = dsAt s i) ∧ Frame [.met] s t :=
  ⟨_, if_neg (by simp [hs, hw, h0]), dsAt_onDs_self _ _ hl, fun _ hi => dsAt_onDs_ne _ s hi, Frame.of_blank (onDs_blank (by decide) ..)⟩

theorem overrange_marks {s : State} {ch : Nat} (hm : metRuns s = true) (h8 : ch < 8) (hl : ch < s.met.ds.length) (ho : (dsAt s ch).overrange = false) :
    Completes (exec (.dsOverrange ch) s) fun t => (dsAt t ch).overrange = true ∧ (dsAt t ch).valid = (dsAt s ch).valid ∧
      t.met.uncertain = (s.met.uncertain || decide (ch < 2)) ∧ Frame ([.met] ++ recordParts) s t := by
  have hx : exec (.dsOverrange ch) s = .next (s |> onDs ch (fun c => { c with overrange := true })
    |> onMet (fun m => { m with uncertain := m.uncertain || decide (ch < 2) })
    |> log srcApp1 0x0306 (if ch < 2 then 2 else 1) []) := if_neg (by simp [hm, h8, ho])
  have hself := dsAt_onDs_self ch (fun c => { c with overrange := true }) hl
  rw [hx, completes_next, dsAt_congr (log_met ..), log_met]
  exact ⟨(congrArg DsCh.overrange hself :), (congrArg DsCh.valid hself :), rfl,
    Frame.of_blank ((log_blank (by decide) ..).trans ((onMet_blank (by decide) ..).trans (onDs_blank (by decide) ..)))⟩

theorem overrange_ends {s : State} {ch : Nat} (ho : (dsAt s ch).overrange = true) (hl : ch < s.met.ds.length) :
    Completes (exec (.dsOverrangeEnd ch) s) fun t => (dsAt t ch).overrange = false ∧ (dsAt t ch).settling = true ∧ (dsAt t ch).valid = false ∧
      (dsAt t ch).settle = (dsAt s ch).sincN + (dsAt s ch).postL ∧ Frame [.met] s t := by
  have hx : exec (.dsOverrangeEnd ch) s = .next (s |> onDs ch fun c => ({ c with overrange := false } : DsCh).unsettle (!s.met.refSettled)) :=
    if_neg (by simp [ho])
  rw [hx, completes_next, dsAt_onDs_self _ _ hl]
  exact ⟨rfl, rfl, rfl, rfl, Frame.of_blank (onDs_blank (by decide) ..)⟩

/-! ### Current disagreement -/

section
variable {s : State} (hd : 100 ≤ s.met.disagree) (hc : s.met.crossDecided = false) (h0 : (dsAt s 0).failed = false) (h1 : (dsAt s 1).failed = false)

/-- The state in which a disagreement of DS0 and DS1 is decided: noted, and its frames counted afresh. -/
def crossDecided (s : State) : State :=
  s |> onMet (fun m => { m with crossDecided := true, disagree := 0, agree := 0 }) |> log srcSafety 0x030B 2 []

theorem crossDecided_met (s : State) : (crossDecided s).met = { s.met with crossDecided := true, disagree := 0, agree := 0 } := log_met ..
theorem crossDecided_frame (s : State) : Frame ([.met] ++ recordParts) s (crossDecided s) :=
  Frame.of_blank ((log_blank (by decide) ..).trans (onMet_blank (by decide) ..))

include hd hc h0 h1

theorem disagreement_faults (hr : regulatingState s.str.state = false) :
    Completes (exec .currentChDisagree s) fun t => HardwareFaulted 0x030B 0 s t := by
  have hx : exec .currentChDisagree s = .next (hardwareFault 0x030B 0 (crossDecided s)) :=
    (if_neg (by simp [hc, h0, h1]; omega)).trans (if_neg (by simp [hr]))
  rw [hx, completes_next]
  exact (hardwareFault_faulted _ 0x030B 0).congr (crossDecided_frame s .str rfl : _ = _).symm
    (crossDecided_frame s .prot rfl : _ = _).symm (crossDecided_frame s .pair rfl : _ = _).symm

section
variable {a b : Rat} (hr : regulatingState s.str.state = true) (ha : dsMeanMa s 0 = some a) (hb : dsMeanMa s 1 = some b)
include hr ha hb

/-- The referee judges: DS1 departs. -/
theorem exec_disagree_ds1 (hga : absR (a - refereeMa s) ≤ maxR 5000 (absR (refereeMa s) * 3 / 100))
    (hgb : maxR 5000 (absR (refereeMa s) * 3 / 100) < absR (b - refereeMa s)) :
    exec .currentChDisagree s = .next (failCurrentCh 1 (crossDecided s)) := by
  refine (if_neg (by simp [hc, h0, h1]; omega)).trans ((if_pos hr).trans ?_)
  rw [ha, hb]
  exact if_pos (by simpa using ⟨hga, hgb⟩)

/-- The referee judges: DS0 departs. -/
theorem exec_disagree_ds0 (hgb : absR (b - refereeMa s) ≤ maxR 5000 (absR (refereeMa s) * 3 / 100))
    (hga : maxR 5000 (absR (refereeMa s) * 3 / 100) < absR (a - refereeMa s)) :
    exec .currentChDisagree s = .next (failCurrentCh 0 (crossDecided s)) := by
  refine (if_neg (by simp [hc, h0, h1]; omega)).trans ((if_pos hr).trans ?_)
  rw [ha, hb]
  refine (if_neg ?_).trans (if_pos ?_)
  · simpa using fun h => absurd h (not_le.mpr hga)
  · simpa using ⟨hgb, hga⟩

end

end

/-- DS1 fails: the charge stays as it is. -/
theorem failCurrentCh_ds1 {s : State} (hl : 1 < s.met.ds.length) : (dsAt (failCurrentCh 1 s) 1).failed = true ∧
    (dsAt (failCurrentCh 1 s) 0).failed = (dsAt s 0).failed ∧ nth true (failCurrentCh 1 s).prot.twilight 0 = true ∧
    (failCurrentCh 1 s).met.coulomb = s.met.coulomb ∧ (failCurrentCh 1 s).str.state = s.str.state := by
  generalize hu : log srcSafety 0x030C 2 [] (onDs 1 (fun c => { c with failed := true, valid := false }) s) = u
  have hx : failCurrentCh 1 s = raiseTw 0 u := by rw [← hu]; rfl
  have hmet : u.met = (onDs 1 (fun c => { c with failed := true, valid := false }) s).met := by rw [← hu, log_met]
  have hstr : u.str = s.str := by rw [← hu, log_str]; rfl
  rw [hx, dsAt_congr (raiseTw_met ..), dsAt_congr (raiseTw_met ..), dsAt_congr hmet, dsAt_congr hmet, dsAt_onDs_self _ _ hl,
    dsAt_onDs_ne _ _ (by decide), raiseTw_met, hmet, raiseTw_state, hstr]
  exact ⟨rfl, rfl, raiseTw_armed 0 u, rfl, rfl⟩

/-- DS0 fails: DS1 becomes the source, and the count is rewritten (R171). -/
theorem failCurrentCh_ds0 {s : State} (hl : 0 < s.met.ds.length) : (dsAt (failCurrentCh 0 s) 0).failed = true ∧
    (failCurrentCh 0 s).met.srcDs1 = true ∧ (failCurrentCh 0 s).met.rewritten = true ∧
    (failCurrentCh 0 s).met.coulomb = s.met.atDisagree + (s.met.c1.q - s.met.ds1AtDisagree) := by
  generalize hu : log srcSafety 0x030C 2 [] (onDs 0 (fun c => { c with failed := true, valid := false }) s) = u
  let q := s.met.atDisagree + (s.met.c1.q - s.met.ds1AtDisagree)
  have hx : failCurrentCh 0 s = raiseTw 0 (u |> onMet fun m => { m with srcDs1 := true, rewritten := true, coulomb := q, qTot := { q := q, frac := m.c1.frac } }) := by
    rw [← hu]; rfl
  have hmet : u.met = (onDs 0 (fun c => { c with failed := true, valid := false }) s).met := by rw [← hu, log_met]
  rw [hx, dsAt_congr (raiseTw_met ..), raiseTw_met]
  refine ⟨?_, rfl, rfl, rfl⟩
  show (dsAt u 0).failed = true
  rw [dsAt_congr hmet, dsAt_onDs_self _ _ hl]

/-- Settles O31: the clauses above, one for each instruction and case. -/
theorem referencesAndChannels : Obligations.ReferencesAndChannels := by
  refine ⟨fun s hb hs => refDisagree_suspects hb hs, fun s hr hm => ?_, fun s hr hm he hc hl => refSettle_faults hr hm he hc hl,
    fun s ch hs hw h0 hl => settling_ends hs hw h0 hl, fun s ch hm h8 hl ho => overrange_marks hm h8 hl ho,
    fun s ch ho hl => overrange_ends ho hl, fun s hd hc h0 h1 hr => disagreement_faults hd hc h0 h1 hr,
    fun s a b hd hc h0 h1 hr ha hb hl hga hgb => ?_, fun s a b hd hc h0 h1 hr ha hb hl hgb hga => ?_⟩
  · refine ⟨_, if_neg (by simp [hr, hm]), rfl, fun c h => ?_, Frame.of_blank (onMet_blank (by decide) ..)⟩
    obtain ⟨x, -, rfl⟩ := List.mem_map.mp h
    rfl
  · rw [exec_disagree_ds1 hd hc h0 h1 hr ha hb hga hgb, completes_next]
    obtain ⟨k1, k2, k3, k4, k5⟩ := failCurrentCh_ds1 (s := crossDecided s) (by rw [crossDecided_met]; exact hl)
    refine ⟨k1, k2.trans ?_, k3, k4.trans ?_, k5.trans ?_⟩
    · unfold dsAt; rw [crossDecided_met]; exact h0
    · rw [crossDecided_met]
    · exact congrArg StringSt.state (crossDecided_frame s .str rfl)
  · rw [exec_disagree_ds0 hd hc h0 h1 hr ha hb hgb hga, completes_next]
    obtain ⟨k1, k2, k3, k4⟩ := failCurrentCh_ds0 (s := crossDecided s) (by rw [crossDecided_met]; exact (by decide : 0 < 1).trans hl)
    rw [crossDecided_met] at k4
    exact ⟨k1, k2, k3, k4⟩

end Sys2Proof.Machine
end

section
/-! The spare channel, SAR sequences, captures, and SYS_CAL (R172 to R179, R186, R187). -/
namespace Sys2Proof.Machine

/-! ### The spare channel -/

theorem ds7Move_settling (ch : Nat) {s : State} (h : 7 < s.met.ds.length) : (dsAt (ds7Move ch s) 7).settling = true := by
  have := nth_updAt_self ({} : DsCh) (fun c : DsCh => { c.configure (filterOf s ch) false (!s.met.refSettled) with
    calDefault := !((nth {} s.met.cal (7 + ch)).present) }) h
  exact (congrArg DsCh.settling this : _).trans rfl

theorem dsAt_ds7Move_ne {k : Nat} (ch : Nat) (s : State) (h : k ≠ 7) : dsAt (ds7Move ch s) k = dsAt s k :=
  nth_updAt_ne _ _ _ h

section
variable {s : State} {ch : Nat} (x y : Int) (hd : s.met.ds7 = .shadowing ch) (hm : metRuns s = true)
  (he : elapsed s s.met.dwellSince (secNs 10) = true) (hc : capturing s 7 = false) (hn : 0 < s.met.dwellN)
include hd hm he hc hn

theorem dwell_agrees (hlim : absR ((s.met.dwellCh - s.met.dwell7 : Int) / (s.met.dwellN : Rat)) ≤
      (if ch = 6 then 8388608 / 5000 else 8388608 / 1000 : Rat)) :
    Completes (exec (.ds7DwellEnd x y) s) fun t => t.met.ds7 = .shadowing (ds7Next ch) ∧ t.met.dwellSince = s.tick.now ∧ t.met.dwellN = 0 ∧
      t.met.deviations = setAt s.met.deviations (ch - 2) 0 ∧ (7 < s.met.ds.length → (dsAt t 7).settling = true) ∧ Frame [.met] s t := by
  let u := s |> onMet (fun m => { m with deviations := setAt m.deviations (ch - 2) 0, dwellSince := s.tick.now }) |>
    onMet (fun m => { m with ds7 := .shadowing (ds7Next ch) })
  have hx : exec (.ds7DwellEnd x y) s = .next (ds7Move (ds7Next ch) u) := by
    show execDs7DwellEnd x y s = _
    unfold execDs7DwellEnd
    simp only [hd]
    rw [if_neg (by simp [hm, he, hc])]
    have hdev : (decide (0 < s.met.dwellN) && decide ((if ch = 6 then 8388608 / 5000 else 8388608 / 1000 : Rat) <
        absR ((s.met.dwellCh - s.met.dwell7 : Int) / (s.met.dwellN : Rat)))) = false := by
      rw [decide_eq_false (not_lt.mpr hlim), Bool.and_false]
    rw [hdev, if_neg (Nat.pos_iff_ne_zero.mp hn)]
    rfl
  rw [hx, completes_next]
  exact ⟨rfl, rfl, rfl, rfl, fun h => ds7Move_settling _ (s := u) h,
    Frame.of_blank ((ds7Move_blank (by decide) ..).trans ((onMet_blank (by decide) ..).trans (onMet_blank (by decide) ..)))⟩

theorem dwell_deviates (hn2 : nth 0 s.met.deviations (ch - 2) = 2) (hlim : (if ch = 6 then 8388608 / 5000 else 8388608 / 1000 : Rat) <
      absR ((s.met.dwellCh - s.met.dwell7 : Int) / (s.met.dwellN : Rat))) :
    Completes (exec (.ds7DwellEnd x y) s) fun t => t.met.ds7 = .injecting ch ∧ t.met.dwellSince = s.tick.now := by
  let u := s |> onMet (fun m => { m with deviations := setAt m.deviations (ch - 2) 3, dwellSince := s.tick.now }) |> log srcApp1 0x0307 1 []
  have hx : exec (.ds7DwellEnd x y) s =
      .next (u |> onMet (fun m => { m with ds7 := .injecting ch, deviations := setAt m.deviations (ch - 2) 0 }) |> ds7Move ch) := by
    show execDs7DwellEnd x y s = _
    unfold execDs7DwellEnd
    simp only [hd]
    rw [if_neg (by simp [hm, he, hc])]
    have hdev : (decide (0 < s.met.dwellN) && decide ((if ch = 6 then 8388608 / 5000 else 8388608 / 1000 : Rat) <
        absR ((s.met.dwellCh - s.met.dwell7 : Int) / (s.met.dwellN : Rat)))) = true := by
      rw [decide_eq_true hlim, decide_eq_true hn]; rfl
    rw [hdev, if_neg (Nat.pos_iff_ne_zero.mp hn), hn2]
    rfl
  have hu : u.met.dwellSince = s.tick.now := (congrArg MetSt.dwellSince (log_met ..) :)
  rw [hx, completes_next]
  exact ⟨rfl, hu⟩

end

/-- The records and the defect map that follow an injection test leave the channels. -/
theorem injectionRecords_met (code kind unit : Nat) (s : State) : (s |> log srcApp1 code 2 [] |> addDefect 3 kind unit 0 |> useSpare 3).met = s.met :=
  (useSpare_frame (s := addDefect 3 kind unit 0 (log srcApp1 code 2 [] s)) 3 .met rfl : _ = _).trans
    ((addDefect_frame (s := log srcApp1 code 2 [] s) 3 kind unit 0 .met rfl : _ = _).trans (log_met ..))

theorem injection_passes {s : State} {ch : Nat} (hd : s.met.ds7 = .injecting ch) (h7 : ch < 7) (hl : ch < s.met.ds.length) :
    Completes (exec (.ds7InjectionTestDone true) s) fun t => t.met.ds7 = .substituting ch ∧ (dsAt t ch).failed = true ∧
      (dsAt t ch).substituted = true := by
  let u := s |> onDs ch (fun c => { c with failed := true, valid := false, substituted := true })
  have hx : exec (.ds7InjectionTestDone true) s = .next (u |> onMet (fun m => { m with ds7 := .substituting ch }) |> ds7Move ch
        |> log srcApp1 0x0308 2 [] |> addDefect 3 1 ch 0 |> useSpare 3) := by
    show execDs7InjectionTestDone true s = _
    unfold execDs7InjectionTestDone
    simp only [hd]
    rfl
  have hself : dsAt u ch = { dsAt s ch with failed := true, valid := false, substituted := true } := dsAt_onDs_self _ _ hl
  have hch : dsAt (u |> onMet (fun m => { m with ds7 := .substituting ch }) |> ds7Move ch) ch = dsAt u ch :=
    dsAt_ds7Move_ne ch _ (by omega)
  rw [hx, completes_next, dsAt_congr (injectionRecords_met ..), injectionRecords_met, hch, hself]
  exact ⟨rfl, rfl, rfl⟩

theorem injection_fails {s : State} {ch : Nat} (hd : s.met.ds7 = .injecting ch) :
    Completes (exec (.ds7InjectionTestDone false) s) fun t => t.met.ds7 = .failed := by
  have hx : exec (.ds7InjectionTestDone false) s = .next (s |> onDs 7 (fun c => { c with failed := true, valid := false }) |>
        onMet (fun m => { m with ds7 := .failed }) |> log srcApp1 0x030A 2 [] |> addDefect 3 3 7 0 |> useSpare 3) := by
    show execDs7InjectionTestDone false s = _
    unfold execDs7InjectionTestDone
    simp only [hd]
    rfl
  rw [hx, completes_next, injectionRecords_met]
  rfl

/-! ### SAR sequences -/

theorem sarAt_onSar_self (ch : Nat) (g : SarCh → SarCh) {s : State} (h : ch < s.met.sar.length) : sarAt (onSar ch g s) ch = g (sarAt s ch) :=
  nth_updAt_self _ g h

theorem sarAt_congr {s t : State} (h : t.met = s.met) (ch : Nat) : sarAt t ch = sarAt s ch := by
  unfold sarAt; rw [h]

section
variable {s : State} {ch kind n : Nat} (hm : metRuns s = true) (h4 : ch < 4) (hs : seqLen s ch ≠ 0)
  (hk : (nth {} s.cfg.conv.sar ch).trig = kind) (ht : trigAt kind (nth {} s.cfg.conv.sar ch).period n = true) (hn : n < tickLen s)
include hm h4 hs hk ht hn

/-- A trigger that the SAR takes. -/
theorem exec_sarTrigger : exec (.sarTrigger { ch := ch, kind := kind } n) s =
    if (sarAt s ch).busy || (sarAt s ch).pending || !(seqFits (max 400 n) (seqLen s ch) s) then
      (if (sarAt s ch).pending then .next (seqOverrun ch s) else .next (s |> onSar ch fun c => { c with pending := true }))
    else .next (s |> onSar ch fun c => { c with busy := true, seqEnd := max 400 n + seqLen s ch }) :=
  if_neg (by subst hk; simp [hm, h4, hs, ht, hn])

theorem sarTrigger_starts (hl : ch < s.met.sar.length) (hb : (sarAt s ch).busy = false) (hp : (sarAt s ch).pending = false) :
    Completes (exec (.sarTrigger { ch := ch, kind := kind } n) s) fun t => (sarAt t ch).busy = seqFits (max 400 n) (seqLen s ch) s ∧
      (sarAt t ch).pending = !(seqFits (max 400 n) (seqLen s ch) s) ∧ Frame [.met] s t := by
  rw [exec_sarTrigger hm h4 hs hk ht hn, hb, hp]
  cases hfit : seqFits (max 400 n) (seqLen s ch) s with
  | false =>
    have hself := sarAt_onSar_self ch (fun c => { c with pending := true }) hl
    exact ⟨_, rfl, (congrArg SarCh.busy hself :).trans hb, (congrArg SarCh.pending hself :), Frame.of_blank (onSar_blank (by decide) ..)⟩
  | true =>
    have hself := sarAt_onSar_self ch (fun c => { c with busy := true, seqEnd := max 400 n + seqLen s ch }) hl
    exact ⟨_, rfl, (congrArg SarCh.busy hself :), (congrArg SarCh.pending hself :).trans hp, Frame.of_blank (onSar_blank (by decide) ..)⟩

theorem sarTrigger_overruns (hl : ch < s.met.sar.length) (hp : (sarAt s ch).pending = true) : Completes (exec (.sarTrigger { ch := ch, kind := kind } n) s) fun t =>
    (sarAt t ch).overruns = min ((sarAt s ch).overruns + 1) 0xFFFE := by
  have hself := sarAt_onSar_self ch (fun c => { c with overruns := min (c.overruns + 1) 0xFFFE, overrunLogged := true }) hl
  rw [exec_sarTrigger hm h4 hs hk ht hn, hp, if_pos (by simp), if_pos rfl, completes_next]
  unfold seqOverrun
  dsimp only
  split
  · exact (congrArg SarCh.overruns hself :)
  · rw [sarAt_congr (log_met ..)]
    exact (congrArg SarCh.overruns hself :)

end

theorem sarSequence_ends {s : State} {ch : Nat} (raw : List (List Int)) (hb : (sarAt s ch).busy = true) (hl : ch < s.met.sar.length) :
    Completes (exec (.sarSequenceDone { ch := ch, raw := raw }) s) fun t => (sarAt t ch).results = seqResults raw ch s ∧
      ((sarAt s ch).pending = false → (sarAt t ch).busy = false ∧ (sarAt t ch).pending = false) ∧
      ((sarAt s ch).pending = true → (sarAt t ch).busy = seqFits (sarAt s ch).seqEnd (seqLen s ch) s) := by
  let again := (sarAt s ch).pending && seqFits (sarAt s ch).seqEnd (seqLen s ch) s
  let g : SarCh → SarCh := fun c => { c with
    results := seqResults raw ch s, busy := again, pending := c.pending && !again, seqEnd := if again then c.seqEnd + seqLen s ch else c.seqEnd }
  have hx : exec (.sarSequenceDone { ch := ch, raw := raw }) s = .next (onSar ch g s |> irqEvent (130 + ch) true) := if_neg (by simp [hb])
  rw [hx, completes_next, sarAt_congr (irqEvent_met ..), sarAt_onSar_self ch g hl]
  refine ⟨rfl, fun hp => ?_, fun hp => ?_⟩
  · have ha : again = false := by simp [again, hp]
    exact ⟨ha, by simp [g, hp]⟩
  · show again = _
    simp [again, hp]

/-! ### Captures -/

theorem capture_completes {s : State} (l : List Int) (gaps : List Nat) (hr : s.host.capture.running = true) :
    Completes (exec (.captureComplete l gaps) s) fun t => t.host.capture.running = false ∧ t.host.capture.ready = true ∧
      t.host.capture.seq = s.host.capture.seq + 1 ∧ t.host.capture.samples = some (captureSamples s.host.capture l).length ∧
      t.host.capture.gapAt = gaps.filter (· ≤ (captureSamples s.host.capture l).length) ∧ (∀ c ∈ t.met.sar, c.paired = false) := by
  have hfold : ∀ (ps : List Packet) (u : State), (ps.foldl (fun t p => ringPut 58 p t) u).host = u.host := fun ps => by
    induction ps with
    | nil => exact fun u => rfl
    | cons p ps ih => exact fun u => (ih _).trans (ringPut_host ..)
  obtain ⟨v, hv⟩ : ∃ v, v = (capturePackets 32 (captureSamples s.host.capture l)).foldl (fun t p => ringPut 58 p t) s := ⟨_, rfl⟩
  have hh : v.host = s.host := by rw [hv]; exact hfold _ s
  refine ⟨_, if_neg (by simp [hr]), ?_⟩
  rw [← hv]
  refine ⟨rfl, rfl, ?_, rfl, rfl, fun c hc => ?_⟩
  · show v.host.capture.seq + 1 = _
    rw [hh]
  · obtain ⟨x, -, rfl⟩ := List.mem_map.mp hc
    rfl

/-! ### SYS_CAL -/

/-- An operation that is neither ended nor new stays so where its record is published. -/
theorem opState_onOp {kind : Nat} {g : Op → Op} {s : State} (hg : ∀ o, (g o).opState ≠ 0) : ∀ o ∈ (onOp kind g s).ops.ops, o.kind = kind →
    (∀ o, (g o).kind = o.kind) → o.opState ≠ 0 := by
  intro o ho hk hgk
  obtain ⟨x, -, rfl⟩ := List.mem_map.mp ho
  split
  · exact hg x
  · next h =>
    rw [if_neg h] at hk
    have h2 : x.opState = 2 := by simpa [hk] using h
    rw [h2]; decide

theorem opState_publishOp {kind : Nat} {res : Bytes} {s : State} (h : ∀ o ∈ s.ops.ops, o.kind = kind → o.opState ≠ 0) :
    ∀ o ∈ (publishOp kind res s).ops.ops, o.kind = kind → o.opState ≠ 0 := by
  intro o ho hk
  obtain ⟨x, hx, rfl⟩ := List.mem_map.mp ho
  split
  · next hc =>
    rw [if_pos hc] at hk
    exact h x hx hk
  · next hc =>
    rw [if_neg hc] at hk
    exact h x hx hk

/-- A capture's channel goes back, and the calibration set stays. -/
theorem calRelease_cal (s : State) : (calRelease s).met.cal = s.met.cal := by
  unfold calRelease
  split
  · rfl
  · split
    · rfl
    · split <;> rfl

/-- The end of SYS_CAL leaves no calibration, no frozen set, and the coefficients as they are. -/
theorem closeOp_sysCal (st : Nat) (s : State) : (closeOp 2 st s).met.sysCal = none ∧ (closeOp 2 st s).met.frozen = none ∧
    (closeOp 2 st s).met.cal = s.met.cal ∧ (closeOp 2 st s).idn = s.idn := by
  have hidn : (closeOp 2 st s).idn = s.idn := Frame.of_blank (closeOp_blank (within_refl _) 2 st s) .idn rfl
  have hmet : (closeOp 2 st s).met = { (calRelease s).met with sysCal := none, frozen := none } := by
    cases hf : s.met.frozen with
    | none => simp only [closeOp, hf]; rfl
    | some x => simp only [closeOp, hf]; exact log_met ..
  rw [hmet]
  exact ⟨rfl, rfl, calRelease_cal s, hidn⟩

section
variable {s : State} {c : SysCal} (hc : s.met.sysCal = some c)
include hc

theorem calCapture_zero (x y : Int) (h3 : c.step = 3) (hz : c.spanPhase = false) (hn : 2000 ≤ c.n) (hq : c.sigmaNv ≤ calNoise2 c.index) :
    Completes (exec (.sysCalCaptureDone x y) s) fun t => t.met.sysCal = some { c with
      sigma := some (roundAway c.sigmaNv).toNat, step := 2, spanPhase := true, repeats := 0, z := some c.mean, since := s.tick.now } ∧
      (∀ o ∈ t.ops.ops, o.kind = 2 → o.opState ≠ 0) ∧ t.idn = s.idn := by
  let c2 : SysCal := { c with
    sigma := some (roundAway c.sigmaNv).toNat, step := 2, spanPhase := true, repeats := 0, z := some c.mean, since := s.tick.now }
  have hx : exec (.sysCalCaptureDone x y) s = .next (calRelease s |> onMet (fun m => { m with sysCal := some c2 }) |>
      onOp 2 (fun o => { o with opState := 1 }) |> publishOp 2 (sysCalResult c2 2 none)) := by
    show execSysCalCaptureDone x y s = _
    unfold execSysCalCaptureDone
    simp only [hc]
    rw [if_neg (by simp [h3]; omega), if_neg (not_lt.mpr hq), if_pos (by simp [hz])]
  rw [hx, completes_next]
  exact ⟨rfl, opState_publishOp fun o ho hk => opState_onOp (g := fun o => { o with opState := 1 }) (fun _ => Nat.one_ne_zero) o ho hk fun _ => rfl,
    Frame.of_blank (calRelease_blank (within_refl _) s) .idn rfl⟩

theorem calCapture_span (x y : Int) {o g : Int} (h3 : c.step = 3) (hz : c.spanPhase = true) (hn : 2000 ≤ c.n) (hq : c.sigmaNv ≤ calNoise2 c.index)
    (hco : calCoefs c (c.z.getD 0) c.mean = some (o, g)) (hp : calPasses c.index o g = true) :
    Completes (exec (.sysCalCaptureDone x y) s) fun t => t.met.sysCal = none ∧ findOp t 2 = none ∧ t.met.cal = s.met.cal ∧
      t.idn.calNext = setAt s.idn.calNext c.index { offset := o, gain := g.toNat, present := true, made := some s.tb.time } := by
  let c2 : SysCal := { c with sigma := some (roundAway c.sigmaNv).toNat, s := some c.mean }
  let set : CalSet := { offset := o, gain := g.toNat, present := true, made := some s.tb.time }
  generalize hu : (s |> onMet (fun m => { m with calPendO := setAt m.calPendO c.index (some o), calPendG := setAt m.calPendG c.index (some g.toNat) })
      |> onIdn (fun i => { i with calNext := setAt i.calNext c.index set }) |> log srcApp1 0x0311 2 (u16 c.index ++ i32 o ++ u32 g.toNat)) = u
  have hx : exec (.sysCalCaptureDone x y) s = .next (u |> closeOp 2 stOk |> endOp 2 stOk (sysCalResult c2 0 (some (o, g)))) := by
    rw [← hu]
    show execSysCalCaptureDone x y s = _
    unfold execSysCalCaptureDone
    simp only [hc]
    rw [if_neg (by simp [h3]; omega), if_neg (not_lt.mpr hq), if_neg (by simp [hz])]
    have hco2 : calCoefs c2 (c.z.getD 0) c.mean = some (o, g) := hco
    rw [show calCoefs { c with sigma := some (roundAway c.sigmaNv).toNat, s := some c.mean } (c.z.getD 0) c.mean = some (o, g) from hco2]
    exact if_neg (by simp [hp])
  have hcal : u.met.cal = s.met.cal := by rw [← hu, log_met]; rfl
  have hidn : u.idn.calNext = setAt s.idn.calNext c.index set := by rw [← hu, log_idn]; rfl
  obtain ⟨k1, -, k3, k4⟩ := closeOp_sysCal stOk u
  rw [hx, completes_next]
  exact ⟨k1, findOp_endOp .., k3.trans hcal, (congrArg IdentSt.calNext k4).trans hidn⟩

theorem calCapture_noisy (x y : Int) (h3 : c.step = 3) (hn : 2000 ≤ c.n) (hq : (calNoise2 c.index : Rat) < c.sigmaNv) (hr : c.repeats < 3) :
    Completes (exec (.sysCalCaptureDone x y) s) fun t => t.met.sysCal = some { c with
      sigma := some (roundAway c.sigmaNv).toNat, repeats := c.repeats + 1, n := 0, sum := 0, sumSq := 0 } ∧ t.idn = s.idn := by
  let c1 : SysCal := { c with sigma := some (roundAway c.sigmaNv).toNat }
  have hx : exec (.sysCalCaptureDone x y) s = .next (s |> onMet (fun m => { m with
      sysCal := some { c1 with repeats := c.repeats + 1, n := 0, sum := 0, sumSq := 0 } }) |> publishOp 2 (sysCalResult c1 3 none)) := by
    show execSysCalCaptureDone x y s = _
    unfold execSysCalCaptureDone
    simp only [hc]
    rw [if_neg (by simp [h3]; omega), if_pos hq, if_neg (by omega)]
  rw [hx, completes_next]
  exact ⟨rfl, rfl⟩

theorem sysCal_timesOut (h3 : c.step ≠ 3) (he : elapsed s c.since (secNs 1800) = true) :
    Completes (exec .sysCalSuspendTimeout s) fun t => t.met.sysCal = none ∧ t.met.frozen = none ∧ findOp t 2 = none ∧ t.idn = s.idn := by
  have hx : exec .sysCalSuspendTimeout s = .next (s |> closeOp 2 stCancelled |> endOp 2 stCancelled (sysCalResult c 0 none)) := by
    show execSysCalSuspendTimeout s = _
    unfold execSysCalSuspendTimeout
    simp only [hc]
    exact if_neg (by simp [h3, he])
  obtain ⟨k1, k2, -, k4⟩ := closeOp_sysCal stCancelled s
  rw [hx, completes_next]
  exact ⟨k1, k2, findOp_endOp .., k4⟩

end

/-- Settles O32: the clauses above, one for each instruction and case. -/
theorem spareCapturesCalibration : Obligations.SpareCapturesCalibration :=
  ⟨fun _ _ x y hd hm he hc hn hlim => dwell_agrees x y hd hm he hc hn hlim, fun _ _ x y hd hm he hc hn hn2 hlim => dwell_deviates x y hd hm he hc hn hn2 hlim,
    fun _ _ hd h7 hl => injection_passes hd h7 hl, fun _ _ hd => injection_fails hd,
    fun _ _ _ _ hm h4 hl hs hk ht hn hb hp => sarTrigger_starts hm h4 hs hk ht hn hl hb hp,
    fun _ _ _ _ hm h4 hl hs hk ht hn hp => sarTrigger_overruns hm h4 hs hk ht hn hl hp,
    fun _ _ raw hb hl => sarSequence_ends raw hb hl, fun _ l gaps hr => capture_completes l gaps hr,
    fun _ _ x y hc h3 hz hn hq => calCapture_zero hc x y h3 hz hn hq,
    fun _ _ _ _ x y hc h3 hz hn hq hco hp => calCapture_span hc x y h3 hz hn hq hco hp,
    fun _ _ x y hc h3 hn hq hr => calCapture_noisy hc x y h3 hn hq hr, fun _ _ hc h3 he => sysCal_timesOut hc h3 he⟩

end Sys2Proof.Machine
end

section
/-! Housekeeping rounds (R101, R181 to R183, R516, R517). -/
namespace Sys2Proof.Machine

theorem setTw_state (bit : Nat) (cond : Bool) (s : State) : (setTw bit cond s).str.state = s.str.state := by
  unfold setTw
  split
  · exact raiseTw_state bit s
  · exact clearTw_state bit s

/-! ### The readings of a round -/

/-- What the NTC readings of a round change: their temperatures and marks, and Twilight causes; nothing of the state or the supply. -/
def NtcsRead (s t : State) : Prop :=
  (∃ o sh l a b, t.met = { s.met with ntcOpen := o, ntcShort := sh, tNtc := l, tShunt := a, tShuntLast := b }) ∧
    t.str.state = s.str.state ∧ t.pwr = s.pwr

theorem NtcsRead.refl (s : State) : NtcsRead s s := ⟨⟨_, _, _, _, _, rfl⟩, rfl, rfl⟩

theorem NtcsRead.trans {s t u : State} (h : NtcsRead s t) (k : NtcsRead t u) : NtcsRead s u := by
  obtain ⟨⟨_, _, _, _, _, h1⟩, h2, h3⟩ := h
  obtain ⟨⟨_, _, _, _, _, k1⟩, k2, k3⟩ := k
  exact ⟨⟨_, _, _, _, _, by rw [k1, h1]⟩, k2.trans h2, k3.trans h3⟩

/-- A step that keeps the metrology, the state and the supply. -/
theorem NtcsRead.of_kept {s t : State} (hm : t.met = s.met) (hs : t.str.state = s.str.state) (hp : t.pwr = s.pwr) : NtcsRead s t :=
  ⟨⟨_, _, _, _, _, hm⟩, hs, hp⟩

theorem ntcsRead_log (src code sev : Nat) (data : Bytes) (s : State) : NtcsRead s (log src code sev data s) :=
  .of_kept (log_met ..) (by rw [log_str]) (log_pwr ..)

theorem ntcsRead_raiseTw (bit : Nat) (s : State) : NtcsRead s (raiseTw bit s) := .of_kept (raiseTw_met ..) (raiseTw_state ..) (raiseTw_pwr ..)

theorem ntcsRead_clearTw (bit : Nat) (s : State) : NtcsRead s (clearTw bit s) := .of_kept (clearTw_met ..) (clearTw_state ..) (clearTw_pwr ..)

theorem ntcsRead_ntcOpen (k : Nat) (s : State) : NtcsRead s (ntcOpen k s) := by
  unfold ntcOpen
  extract_lets s1
  have h1 : NtcsRead s s1 := ⟨⟨_, _, _, _, _, rfl⟩, rfl, rfl⟩
  split
  · exact h1
  · exact h1.trans (ntcsRead_log ..)

theorem ntcsRead_ntcShort (k : Nat) (s : State) : NtcsRead s (ntcShort k s) := by
  unfold ntcShort
  extract_lets s1
  have h1 : NtcsRead s s1 := ⟨⟨_, _, _, _, _, rfl⟩, rfl, rfl⟩
  split
  · exact h1
  · exact h1.trans (ntcsRead_log ..)

theorem ntcsRead_ntcRead (raw : List Nat) (input beta k : Nat) (s : State) : NtcsRead s (ntcRead raw input beta k s).1 := by
  unfold ntcRead
  split
  · exact ntcsRead_ntcOpen k s
  · split
    · exact ntcsRead_ntcOpen k s
    · split
      · exact ntcsRead_ntcShort k s
      · exact ⟨⟨_, _, _, _, _, rfl⟩, rfl, rfl⟩

/-- The shunt's temperature and its runs are the shunt's alone. -/
theorem ntcsRead_shunt (a b : Option Int) (n : Nat) (k : ProtSt → Nat) (s : State) :
    NtcsRead s (s |> onMet (fun m => { m with tShunt := a, tShuntLast := b }) |> onProt (fun p => { p with shuntValidRun := n, shuntRun := k p })) :=
  ⟨⟨_, _, _, _, _, rfl⟩, rfl, rfl⟩

theorem ntcsRead_readShunt (raw : List Nat) (s : State) : NtcsRead s (readShunt raw s) := by
  unfold readShunt
  extract_lets r
  have hr : NtcsRead s r.1 := ntcsRead_ntcRead ..
  clear_value r
  split
  · exact (hr.trans (ntcsRead_shunt none r.1.met.tShuntLast 0 (·.shuntRun) r.1)).trans (ntcsRead_raiseTw 11 _)
  · next t _ =>
    extract_lets s1
    have h1 : NtcsRead s s1 := hr.trans (ntcsRead_shunt (some t) (some t) (r.1.prot.shuntValidRun + 1)
      (fun p => if s.cfg.safety.shuntTMax < t then p.shuntRun + 1 else 0) r.1)
    clear_value s1
    split
    · exact h1.trans (ntcsRead_clearTw 11 s1)
    · exact h1

theorem ntcsRead_ntc (l : List (Option Int)) (s : State) : NtcsRead s (s |> onMet fun m => { m with tNtc := l }) := ⟨⟨_, _, _, _, _, rfl⟩, rfl, rfl⟩

theorem ntcsRead_readNtcs (raw : List Nat) (s : State) : NtcsRead s (readNtcs raw s) := by
  unfold readNtcs
  generalize s.cfg.therm.beta = beta, List.range 8 = l
  induction l generalizing s with
  | nil => exact .refl s
  | cons k l ih =>
    refine NtcsRead.trans ?_ (ih _)
    have hr := ntcsRead_ntcRead raw (16 + k) (nth 3435 beta k) (k + 1) s
    dsimp only
    generalize ntcRead raw (16 + k) (nth 3435 beta k) (k + 1) s = r at hr
    exact hr.trans (ntcsRead_ntc _ r.1)

/-- The die sensors' judgement publishes what they read. -/
theorem judgeDie_die (die : List Int) (s : State) : (judgeDie die s).hlth.die = (die.take 7).map some ∧ (judgeDie die s).str.state = s.str.state := by
  have hfold : ∀ (now was : List Bool) (med : List (Option Rat)) (l : List Nat) (u : State), (l.foldl (fun t k =>
      if nth false now k && !(nth true was k) then
        log srcApp3 0x1002 2 (u16 k ++ i16 (nth 0 die k) ++ i16 (roundAway ((nth none med k).getD 0))) t
      else t) u).str = u.str := fun now was med l => by
    induction l with
    | nil => exact fun u => rfl
    | cons k l ih =>
      intro u
      rw [List.foldl_cons, ih]
      split
      · exact log_str ..
      · rfl
  unfold judgeDie
  extract_lets was med run now s1 live mx band s2 s3
  have hs1 : s1.str = s.str := hfold ..
  rw [setTw_hlth, setTw_state]
  dsimp only [s3]
  split
  · exact ⟨rfl, congrArg StringSt.state hs1⟩
  · rw [log_hlth, log_str]
    exact ⟨rfl, congrArg StringSt.state hs1⟩

theorem housekeeping_publishes {s : State} (raw : List Nat) (die : List Int) (hr : s.met.hkRunning = true) (hf : s.tick.f = 3)
    (hs : s.met.refSuspect = false) (hc : departure raw 31 s.idn.hkVrefC ≤ 3 / 1000) :
    Completes (exec (.housekeepingRoundComplete raw die) s) fun t => t.met.hkRunning = false ∧
      t.met.hkRaw = ((List.range 32).map fun i => some (nth 0 raw i % 4096)) ∧
      t.pwr.auxVoltage = some (ratN 16 (hkVolt raw 12 * 5000)) ∧ t.pwr.holdupVoltage = some (ratN 16 (hkVolt raw 13 * 3000)) ∧
      t.pwr.holdupReady = decide (46 ≤ hkVolt raw 13 * 30) ∧ (∃ x, t.pwr.auxPower = some x) ∧
      t.hlth.die = (die.take 7).map some ∧ t.str.state = s.str.state := by
  let u := s |> onMet (fun m => { m with hkRunning := false, hkRaw := (List.range 32).map fun i => some (nth 0 raw i % 4096) }) |> readSupplies raw
  generalize hv : (u |> readShunt raw |> readNtcs raw) = v
  obtain ⟨⟨_, _, _, _, _, hmet⟩, hstate, hpwr⟩ : NtcsRead u v := by
    rw [← hv]; exact (ntcsRead_readShunt raw u).trans (ntcsRead_readNtcs raw _)
  have hsus : v.met.refSuspect = false := by rw [hmet]; exact hs
  let w := v |> onMet fun m => { m with refCBad := 0 }
  have hx : exec (.housekeepingRoundComplete raw die) s = .next (w |> judgeDie die |> irqEvent 176 true) := by
    show execHousekeepingRoundComplete raw die s = _
    unfold execHousekeepingRoundComplete
    rw [if_neg (by simp [hr, hf])]
    dsimp only
    rw [show readNtcs raw (readShunt raw (readSupplies raw _)) = v from hv, if_neg (by simp [hsus]), judgeVrefC, if_pos hc]
  obtain ⟨hdie, hst⟩ := judgeDie_die die w
  have hjm : (judgeDie die w).met = w.met := Frame.of_blank (judgeDie_blank (within_refl _) die w) .met rfl
  have hjp : (judgeDie die w).pwr = u.pwr := (Frame.of_blank (judgeDie_blank (within_refl _) die w) .pwr rfl : _ = _).trans hpwr
  rw [hx, completes_next, irqEvent_met, irqEvent_pwr, irqEvent_hlth, irqEvent_str, hjm, hjp]
  refine ⟨?_, ?_, rfl, rfl, rfl, ⟨_, rfl⟩, hdie, hst.trans hstate⟩
  · exact (congrArg MetSt.hkRunning hmet :)
  · exact (congrArg MetSt.hkRaw hmet :)

/-- Settles O33: a round starts in its slot, and at its end what it read is published. -/
theorem housekeeping : Obligations.Housekeeping := by
  refine ⟨fun s hm hc hf hj => ?_, fun s raw die hr hf hs hc => housekeeping_publishes raw die hr hf hs hc⟩
  exact ⟨_, if_neg (by simp [hm, hc, hf, hj]), rfl, Frame.of_blank (onMet_blank (by decide) ..)⟩

end Sys2Proof.Machine
end

section
/-! Limits, dispatch and set-points (R334 to R345). -/
namespace Sys2Proof.Machine

theorem clampR_mem {lo hi x : Rat} (h : lo ≤ hi) : lo ≤ clampR lo hi x ∧ clampR lo hi x ≤ hi := by
  unfold clampR
  split
  · exact ⟨le_refl lo, h⟩
  · split
    · exact ⟨h, le_refl hi⟩
    · exact ⟨not_lt.mp ‹_›, not_lt.mp ‹_›⟩

/-- The note of a limited set-point changes its gate alone. -/
theorem limitedNote_dsp (was : Bool) (target bound : Rat) (s : State) : ∃ g, (limitedNote was target bound s).dsp = { s.dsp with gLimited := g } := by
  unfold limitedNote
  split
  · exact ⟨_, rfl⟩
  · extract_lets g s1
    split
    · exact ⟨_, log_dsp ..⟩
    · exact ⟨_, rfl⟩

/-- The bounds are the applied envelope; without an excitation the reference lies within them. -/
theorem dispatchRef_bounded (s : State) : (dispatchRef s).dsp.active = s.dsp.active ∧ (dispatchRef s).dsp.boundLo = -(dispatchRef s).dsp.appDis ∧
    (dispatchRef s).dsp.boundHi = (dispatchRef s).dsp.appChg ∧
    (dispatchRef s).dsp.target = (if s.str.state = .stopping then 0 else s.dsp.target) ∧
    ((dispatchRef s).dsp.zConfined = false → (dispatchRef s).dsp.boundLo ≤ (dispatchRef s).dsp.boundHi →
      (dispatchRef s).dsp.boundLo ≤ (dispatchRef s).dsp.ref ∧ (dispatchRef s).dsp.ref ≤ (dispatchRef s).dsp.boundHi) := by
  unfold dispatchRef
  extract_lets d target z lo hi t ref lim
  obtain ⟨g, hg⟩ := limitedNote_dsp d.limited target t (s |> onDsp (fun x => { x with
      target := if s.str.state = .stopping then 0 else x.target
      ref := ref, boundLo := -d.appDis, boundHi := d.appChg
      zConfined := z.isSome, limited := lim, ramping := ref ≠ t, r3Clamped := false
      limitedFrames := if lim then satInc 32 x.limitedFrames else x.limitedFrames }))
  rw [hg]
  refine ⟨rfl, rfl, rfl, rfl, fun hz hle => ?_⟩
  have hlo : lo = -d.appDis := by
    have hzn : z = none := Option.not_isSome_iff_eq_none.mp (by simpa using hz)
    dsimp only [lo]
    rw [hzn]
  have hhi : hi = d.appChg := by
    have hzn : z = none := Option.not_isSome_iff_eq_none.mp (by simpa using hz)
    dsimp only [hi]
    rw [hzn]
  show -d.appDis ≤ ref ∧ ref ≤ d.appChg
  rw [← hlo, ← hhi]
  exact clampR_mem (by rw [hlo, hhi]; exact hle)

section
variable {s : State} (hc : coresRun s = true) (h2 : 2 ≤ s.tick.j) (h15 : s.tick.j ≤ 15)
include hc h2 h15

theorem dispatch_off (hd : dispRuns s = false) : Completes (exec .limitsAndDispatch s) fun t =>
    t.dsp.ref = 0 ∧ t.dsp.boundLo = 0 ∧ t.dsp.boundHi = 0 ∧ t.dsp.active = false ∧ Frame [.dsp] s t :=
  ⟨_, (if_neg (by simp [hc]; omega)).trans (if_pos (by simp [hd])), rfl, rfl, rfl, rfl, Frame.of_blank (onDsp_blank (by decide) ..)⟩

theorem dispatch_runs (hd : dispRuns s = true) : Completes (exec .limitsAndDispatch s) fun t =>
      t.dsp.active = true ∧ t.dsp.boundLo = -t.dsp.appDis ∧ t.dsp.boundHi = t.dsp.appChg ∧
      t.dsp.target = (if s.str.state = .stopping then 0 else s.dsp.target) ∧
      (t.dsp.zConfined = false → t.dsp.boundLo ≤ t.dsp.boundHi → t.dsp.boundLo ≤ t.dsp.ref ∧ t.dsp.ref ≤ t.dsp.boundHi) := by
  obtain ⟨u, hu⟩ : ∃ u, u = if s.str.state = .twilight then twilightFall s else s := ⟨_, rfl⟩
  have hudsp : u.dsp = s.dsp := by
    rw [hu]
    split
    · exact Frame.of_blank (twilightFall_blank (within_refl _) s) .dsp rfl
    · rfl
  have hustr : u.str = s.str := by
    rw [hu]
    split
    · exact Frame.of_blank (twilightFall_blank (within_refl _) s) .str rfl
    · rfl
  have hx : exec .limitsAndDispatch s = .next (schedRun (dispatchRef (blockHeadroom (envelopes u)))) := by
    rw [hu]; exact (if_neg (by simp [hc]; omega)).trans (if_neg (by simp [hd]))
  have hact : (envelopes u).dsp.active = true ∧ (envelopes u).dsp.target = u.dsp.target := ⟨rfl, rfl⟩
  have hstr : (envelopes u).str = u.str := Frame.of_blank (envelopes_blank (within_refl _) u) .str rfl
  have hhead := Frame.of_blank (blockHeadroom_blank (within_refl _) (envelopes u))
  obtain ⟨k1, k2, k3, k4, k5⟩ := dispatchRef_bounded (blockHeadroom (envelopes u))
  rw [show (blockHeadroom (envelopes u)).dsp = _ from hhead .dsp rfl] at k1 k4
  rw [show (blockHeadroom (envelopes u)).str = _ from hhead .str rfl, hstr, hustr, hact.2, hudsp] at k4
  rw [hx, completes_next, show (schedRun (dispatchRef (blockHeadroom (envelopes u)))).dsp = _ from
    Frame.of_blank (schedRun_blank (within_refl _) _) .dsp rfl]
  exact ⟨k1.trans hact.1, k2, k3, k4, k5⟩

end

/-- Settles O34: dispatch outside and inside its states, and the set-point that is too old. -/
theorem dispatchReference : Obligations.DispatchReference := by
  refine ⟨fun s hd hc h2 h15 => dispatch_off hc h2 h15 hd, fun s hd hc h2 h15 => dispatch_runs hc h2 h15 hd, fun s hm ht hh hst ho => ?_⟩
  have hx : exec .setpointTimeout s = .next (s |> onDsp (fun d => { d with target := 0, spTimeout := true }) |>
      log srcApp0 0x0805 2 (i32 s.dsp.target)) := by
    refine if_neg ?_
    obtain hst | hst := hst <;> simp [ht, hst, ho] <;> omega
  rw [hx, completes_next, log_dsp]
  exact ⟨rfl, Frame.of_blank ((log_blank (by decide) ..).trans (onDsp_blank (by decide) ..))⟩

end Sys2Proof.Machine
end

section
/-! The share solver (R231 to R239). -/
namespace Sys2Proof.Machine

/-! ### What a solve leaves of the tables: all but the entries of cells and positions -/

/-- The tables but for the entries of cells and positions. -/
def tabCore (s : State) : TableSt := { s.tab with cells := [], poss := [] }

theorem tabCore_congr {s t : State} (h : t.tab = s.tab) : tabCore t = tabCore s := by
  unfold tabCore; rw [h]

section
variable (s : State)

@[simp] theorem tabCore_onPos (p : Nat) (g : PosEntry → PosEntry) : tabCore (onPos p g s) = tabCore s := rfl
@[simp] theorem tabCore_onCells (g : Nat → CellEntry → CellEntry) : tabCore (onCells g s) = tabCore s := rfl
@[simp] theorem tabCore_onCell (c : Nat) (g : CellEntry → CellEntry) : tabCore (onCell c g s) = tabCore s := rfl
@[simp] theorem tabCore_log (src code sev : Nat) (data : Bytes) : tabCore (log src code sev data s) = tabCore s := tabCore_congr (log_tab ..)
@[simp] theorem tabCore_raiseTw (bit : Nat) : tabCore (raiseTw bit s) = tabCore s := tabCore_congr (raiseTw_tab ..)
@[simp] theorem tabCore_clearTw (bit : Nat) : tabCore (clearTw bit s) = tabCore s := tabCore_congr (clearTw_tab ..)
@[simp] theorem tabCore_markDirty : tabCore (markDirty s) = tabCore s :=
  tabCore_congr (Frame.of_blank (markDirty_blank (within_refl _) s) .tab rfl)

@[simp] theorem tabCore_rescale (a b p : Nat) : tabCore (rescale a b p s) = tabCore s := by
  simp [rescale, apply_ite tabCore]

@[simp] theorem tabCore_markLost (p c : Nat) (r : Rat) : tabCore (markLost p c r s) = tabCore s := by
  simp [markLost]

@[simp] theorem tabCore_lostRules (p c : Nat) (r : Rat) : tabCore (lostRules p c r s) = tabCore s := by
  simp [lostRules, apply_ite tabCore]

@[simp] theorem tabCore_weakRules (p c : Nat) : tabCore (weakRules p c s) = tabCore s := by
  simp [weakRules, apply_ite tabCore]

@[simp] theorem tabCore_probationRules (p c : Nat) (r : Rat) : tabCore (probationRules p c r s) = tabCore s := by
  simp [probationRules, apply_ite tabCore]

@[simp] theorem tabCore_updateK (p : Nat) (ki : Rat) : tabCore (updateK p ki s) = tabCore s := by
  simp [updateK, apply_ite tabCore]

@[simp] theorem tabCore_updateG (p : Nat) : tabCore (updateG p s) = tabCore s := by
  simp [updateG]

@[simp] theorem tabCore_gBlocks (p : Nat) : tabCore (gBlocks p s) = tabCore s := by
  simp [gBlocks, apply_ite tabCore]

@[simp] theorem tabCore_updateDerate (p : Nat) : tabCore (updateDerate p s) = tabCore s := by
  simp [updateDerate]

@[simp] theorem tabCore_leaveOut (notQ : Bool) (p : Nat) : tabCore (leaveOut notQ p s) = tabCore s := by
  simp [leaveOut]

@[simp] theorem tabCore_solveReadmit (p : Nat) : tabCore (solveReadmit p s) = tabCore s := by
  simp [solveReadmit, apply_ite tabCore]

@[simp] theorem tabCore_solveInconsistent (ki : Rat) (p : Nat) : tabCore (solveInconsistent ki p s) = tabCore s := by
  simp [solveInconsistent, apply_ite tabCore]

/-- A walk whose steps keep the rest of the tables keeps it. -/
theorem tabCore_foldl {α : Type} {f : State → α → State} (hf : ∀ t a, tabCore (f t a) = tabCore t) (l : List α) :
    tabCore (l.foldl f s) = tabCore s := by
  induction l generalizing s with
  | nil => rfl
  | cons a l ih => exact (ih _).trans (hf s a)

@[simp] theorem tabCore_solveCounted (engine : List (Nat × Int)) (b : Bank) (seq p : Nat) : tabCore (solveCounted engine b seq p s) = tabCore s := by
  unfold solveCounted
  extract_lets n u i ki ratio s1 s2 cells s3 s4 s5
  have h2 : tabCore s2 = tabCore s := by simp [s2, s1]
  have h3 : tabCore s3 = tabCore s2 := tabCore_foldl s2 (fun t c => tabCore_lostRules t p c (ratio c)) cells
  have h4 : tabCore s4 = tabCore s3 := tabCore_foldl s3 (fun t c => tabCore_weakRules t p c) cells
  have h5 : tabCore s5 = tabCore s4 := tabCore_foldl s4 (fun t c => tabCore_probationRules t p c (ratio c)) cells
  split
  · simp [h2]
  · simp [h5, h4, h3, h2]

@[simp] theorem tabCore_solvePos (engine : List (Nat × Int)) (b : Bank) (seq p : Nat) : tabCore (solvePos engine b seq p s) = tabCore s := by
  simp [solvePos, apply_ite tabCore]

end

/-- The totals change the least derating and its position alone. -/
theorem shareTotals_tab (s : State) : ∃ d w, (shareTotals s).tab = { s.tab with shareDerate := d, worstPos := w } := by
  unfold shareTotals
  split
  · exact ⟨_, _, rfl⟩
  · exact ⟨_, _, rfl⟩

theorem foldl_shareDemands_tab (s0 : State) (b : Bank) (l : List Nat) (s : State) : (l.foldl (fun t p => shareDemands s0 b p t) s).tab = s.tab := by
  induction l generalizing s with
  | nil => rfl
  | cons p l ih => exact (ih _).trans (Frame.of_blank (shareDemands_blank (within_refl _) s0 b p s) .tab rfl)

section
variable {s : State} {b : Bank} (l : List (Nat × Int)) (hb : s.tab.drop.heldBy rdShare = some b) (hc : coresRun s = true)
include hb hc

/-- A bank solved already, or one of a standby, is released and nothing else. -/
theorem shareSolve_releases (h : isSp s = true ∨ s.tab.solvedBank = b.seq) :
    Completes (exec (.shareSolve l) s) fun t => t.tab = { s.tab with drop := s.tab.drop.release rdShare } ∧ Frame [.tab] s t := by
  have hx : exec (.shareSolve l) s = .next (s |> onTab fun t => { t with drop := t.drop.release rdShare }) := by
    show execShareSolve l s = _
    unfold execShareSolve
    simp only [hb]
    rw [if_neg (by simp [hc]), if_pos (by obtain h | h := h <;> simp [h])]
  exact ⟨_, hx, rfl, Frame.of_blank (onTab_blank (by decide) ..)⟩

theorem shareSolve_solves (hsp : isSp s = false) (hm : s.est.mode ≠ .noString) (hg : geoS s ≠ 0) (hs : s.tab.solvedBank ≠ b.seq) :
    Completes (exec (.shareSolve l) s) fun t => t.tab.solvedBank = b.seq ∧ t.tab.solveTime = some b.time ∧
      t.tab.solveSeq = some (match s.tab.solveSeq with | none => 0 | some x => (x + 1) % 65536) ∧
      t.tab.counted = satAdd 32 s.tab.counted (((List.range (geoP s)).map (solveClass s b)).filter (· = 0)).length ∧
      t.tab.volt = s.tab.volt ∧ t.tab.temp = s.tab.temp := by
  let seq := match s.tab.solveSeq with | none => 0 | some x => (x + 1) % 65536
  let count := fun k => (((List.range (geoP s)).map (solveClass s b)).filter (· = k)).length
  obtain ⟨s1, hs1⟩ : ∃ s1, s1 = (List.range (geoP s)).foldl (fun t p => solvePos l b seq p t) s := ⟨_, rfl⟩
  have h1 : tabCore s1 = tabCore s := by rw [hs1]; exact tabCore_foldl s (fun t p => tabCore_solvePos t l b seq p) _
  let s2 := s1 |> onTab (fun t => { t with
      solveSeq := some seq, solveTime := some b.time, solvedBank := b.seq
      counted := satAdd 32 t.counted (count 0), leftOut := satAdd 32 t.leftOut (count 1), inconsistent := satAdd 32 t.inconsistent (count 2) })
  obtain ⟨s3, hs3⟩ : ∃ s3, s3 = (List.range (geoP s)).foldl (fun t p => shareDemands s b p t) (shareTotals s2) := ⟨_, rfl⟩
  obtain ⟨d, w, h2⟩ := shareTotals_tab s2
  have h3 : s3.tab = { s2.tab with shareDerate := d, worstPos := w } := by rw [hs3, foldl_shareDemands_tab, h2]
  obtain ⟨s4, hs4⟩ : ∃ s4, s4 = (s3 |> onProt (fun p => { p with shareCheckPos := if p.shareCheckPos + 1 < geoP s then p.shareCheckPos + 1 else 0 })
        |> cellFilters |> postJob 1 |> postJob 2) := ⟨_, rfl⟩
  have h4 : tabCore s4 = tabCore s3 := by
    rw [hs4, tabCore_congr (Frame.of_blank (postJob_blank (within_refl _) 2 _) .tab rfl),
      tabCore_congr (Frame.of_blank (postJob_blank (within_refl _) 1 _) .tab rfl)]
    rfl
  have hx : exec (.shareSolve l) s = .next (s4 |> onTab (fun t => { t with drop := t.drop.release rdShare }) |> runDone 6) := by
    rw [hs4, hs3]
    dsimp only [s2]
    rw [hs1]
    show execShareSolve l s = _
    unfold execShareSolve
    simp only [hb]
    exact (if_neg (by simp [hc])).trans (if_neg (by simp [hsp, hm, hg, hs]))
  have core : ∀ {α : Type} (f : TableSt → α), f (tabCore s4) = f (tabCore s3) := fun f => congrArg f h4
  have core1 : ∀ {α : Type} (f : TableSt → α), f (tabCore s1) = f (tabCore s) := fun f => congrArg f h1
  rw [hx, completes_next, show (runDone 6 _).tab = _ from Frame.of_blank (runDone_blank (within_refl _) 6 _) .tab rfl]
  refine ⟨?_, ?_, ?_, ?_, ?_, ?_⟩
  · exact (core (·.solvedBank) :).trans (congrArg (·.solvedBank) h3)
  · exact (core (·.solveTime) :).trans (congrArg (·.solveTime) h3)
  · exact (core (·.solveSeq) :).trans (congrArg (·.solveSeq) h3)
  · exact ((core (·.counted) :).trans (congrArg (·.counted) h3)).trans (congrArg (satAdd 32 · (count 0)) (core1 (·.counted)))
  · exact ((core (·.volt) :).trans (congrArg (·.volt) h3)).trans (core1 (·.volt))
  · exact ((core (·.temp) :).trans (congrArg (·.temp) h3)).trans (core1 (·.temp))

end

/-- Settles O35: a drop bank is solved once, and one that is not to be solved is released. -/
theorem shareSolution : Obligations.ShareSolution :=
  ⟨fun _ _ l hb hsp hm hc hg hs => shareSolve_solves l hb hc hsp hm hg hs, fun _ _ l hb hc h => shareSolve_releases l hb hc h⟩

end Sys2Proof.Machine
end

section
/-! Thermal control (R363): the run that ends a hold on Twilight bit 2 (R31, R399). -/
namespace Sys2Proof.Machine

/-- STANDBY on a module of its own at the tick of the thermal loops, after a time of overruns: bit 2 of the Twilight causes, the only one
armed, is still held by item 0x27, whose last nine runs were on time. -/
def overrunHeldState : State :=
  State.reset |> onStr (fun x => { x with state := .standby, role := some .solo })
    |> onTick (fun t => { t with j := 3, runs := setAt t.runs 7 (List.replicate 9 true), overrunTw := setAt t.overrunTw 7 true })
    |> onProt (fun p => { p with twilight := setAt p.twilight 2 true })
    |> fun s => { s with cfg.therm.present := true }

/-- The run of the thermal loops in `overrunHeldState`, as the model makes it. -/
theorem overrunHeld_runs : exec (.thermalLoops [] []) overrunHeldState = .next (runDone 7 (releaseTherm (thermOutputs ((List.range 10).foldl
    (fun t k => thermSlotRun k t) (takeDi [] [] overrunHeldState |> onThm fun t => { t with
      coolSet := some (coolSet (takeDi [] [] overrunHeldState)), heatReq := heatReq (takeDi [] [] overrunHeldState)
      loopsRun := true, serviceHold := false }))))) := by
  show execThermalLoops [] [] overrunHeldState = _
  unfold execThermalLoops
  refine (if_neg ?_).trans (if_pos ?_)
  · decide +kernel
  · decide +kernel

/-- The tenth run on time ends the hold: the last cause clears, and the time without any starts (R44). -/
theorem overrunHeld_clears : overrunHeldState.str.unarmedSince = none ∧ (runDone 7 (releaseTherm (thermOutputs ((List.range 10).foldl
    (fun t k => thermSlotRun k t) (takeDi [] [] overrunHeldState |> onThm fun t => { t with
      coolSet := some (coolSet (takeDi [] [] overrunHeldState)), heatReq := heatReq (takeDi [] [] overrunHeldState)
      loopsRun := true, serviceHold := false }))))).str.unarmedSince = some 0 := by
  decide +kernel

/-- Refutes O36: a run of the thermal loops on time may end the overruns' hold on Twilight bit 2, and the string's record of the time
without a cause then changes. -/
theorem not_thermalControl : ¬ Obligations.ThermalControl := by
  intro h
  obtain ⟨loops, -⟩ := h
  have hrun := loops overrunHeldState [] [] (by decide +kernel) rfl (by decide +kernel)
  rw [overrunHeld_runs, completes_next] at hrun
  obtain ⟨-, -, -, -, hstr⟩ := hrun
  obtain ⟨hbefore, hafter⟩ := overrunHeld_clears
  rw [hstr, hbefore] at hafter
  exact absurd hafter nofun

end Sys2Proof.Machine
end

section
/-! The insulation monitor (R54, R378, R402 to R405). -/
namespace Sys2Proof.Machine

/-! ### What a change of state leaves of the monitor -/

/-- The monitor but for its test and the time of its start. -/
def isoCore (s : State) : IsoSt := { s.iso with test := none, since := 0 }

/-- The monitor stays but for the time of its start, and no test begins. -/
def IsoKept (s t : State) : Prop := isoCore t = isoCore s ∧ (s.iso.test = none → t.iso.test = none)

theorem IsoKept.trans {s t u : State} (h : IsoKept s t) (k : IsoKept t u) : IsoKept s u :=
  ⟨k.1.trans h.1, fun e => k.2 (h.2 e)⟩

theorem IsoKept.of_iso {s t : State} (h : t.iso = s.iso) : IsoKept s t := by
  unfold IsoKept isoCore; rw [h]; exact ⟨rfl, id⟩

section
variable (s : State)

theorem closeOp_isoKept (kind status : Nat) : IsoKept s (closeOp kind status s) := by
  unfold closeOp
  split
  · exact .of_iso rfl
  · refine .of_iso ?_
    have hc : (calRelease s).iso = s.iso := Frame.of_blank (calRelease_blank (within_refl _) s) .iso rfl
    dsimp only
    split
    · exact (log_iso ..).trans hc
    · exact hc
  · exact .of_iso rfl
  · exact .of_iso (log_iso ..)
  · exact ⟨rfl, fun _ => rfl⟩
  · exact .of_iso rfl
  · exact .of_iso rfl

theorem suspendPart_isoKept (kind : Nat) : IsoKept s (suspendPart kind s) := by
  unfold suspendPart
  split
  · exact .of_iso (Frame.of_blank (calRelease_blank (within_refl _) s) .iso rfl : _ = _)
  · exact .of_iso rfl
  · exact .of_iso rfl
  · exact ⟨rfl, fun _ => rfl⟩
  · exact .of_iso rfl

theorem opsAfter_isoKept (st : StringState) : IsoKept s (opsAfter st s) := by
  unfold opsAfter
  generalize s.ops.ops = l
  induction l generalizing s with
  | nil => exact .of_iso rfl
  | cons o l ih =>
    refine IsoKept.trans ?_ (ih _)
    dsimp only
    split
    · exact .of_iso rfl
    · split
      · exact (closeOp_isoKept s o.kind 0x0A).trans (.of_iso rfl)
      · split
        · exact (suspendPart_isoKept s o.kind).trans (.of_iso rfl)
        · exact .of_iso rfl

theorem setState_isoKept (st : StringState) (cause : Nat) : IsoKept s (setState st cause s) := by
  unfold setState
  extract_lets old s1 s2 s3 s4 s5
  have h2 : s2.iso = s.iso := (log_iso ..).trans rfl
  have h3 : s3.iso = s2.iso := by
    dsimp only [s3]
    split
    · exact Frame.of_blank (discardTimed_blank (within_refl _) s2) .iso rfl
    · rfl
  have h4 : s4.iso = s3.iso := by
    dsimp only [s4]
    split <;> rfl
  have h5 : IsoKept s4 s5 := by
    dsimp only [s5]
    split
    · exact ⟨rfl, id⟩
    · exact .of_iso rfl
  have h6 : (twLimitAfter st (dispatchAfter old st s5)).iso = s5.iso :=
    (Frame.of_blank (twLimitAfter_blank (within_refl _) st _) .iso rfl : _ = _).trans
      (Frame.of_blank (dispatchAfter_blank (within_refl _) old st s5) .iso rfl)
  have h7 : (autoSweepAfter st (captureAfter st (opsAfter st (twLimitAfter st (dispatchAfter old st s5))))).iso =
      (opsAfter st (twLimitAfter st (dispatchAfter old st s5))).iso :=
    (Frame.of_blank (autoSweepAfter_blank (within_refl _) st _) .iso rfl : _ = _).trans
      (Frame.of_blank (captureAfter_blank (within_refl _) st _) .iso rfl)
  exact ((IsoKept.of_iso ((h4.trans h3).trans h2)).trans h5).trans
    ((IsoKept.of_iso h6).trans ((opsAfter_isoKept _ st).trans (.of_iso h7)))

theorem decideFault_isoKept (code cls : Nat) (trip : Bool) (fn : Nat) : IsoKept s (decideFault code cls trip fn s) := by
  unfold decideFault
  extract_lets s1 s2 s3
  have h1 : s1.iso = s.iso := Frame.of_blank (latchClass2_blank (within_refl _) code cls _) .iso rfl
  have h2 : s2.iso = s1.iso := by
    dsimp only [s2]
    split <;> rfl
  have h3 : s3.iso = s2.iso := by
    dsimp only [s3]
    split
    · exact (Frame.of_blank (writeTripCopy_blank (within_refl _) _) .iso rfl : _ = _).trans (safeStop_iso ..)
    · exact safeStop_iso ..
  refine (IsoKept.of_iso ((h3.trans h2).trans h1)).trans ?_
  split
  · exact setState_isoKept s3 .fault code
  · exact .of_iso rfl

theorem sfDemand_isoKept (fn cause cls : Nat) (trip : Bool) (item : Nat) (v : Int) (lim : Option Int) :
    IsoKept s (sfDemand fn cause cls trip item v lim s) := by
  have h : (demandRecord fn cause item v lim s).iso = s.iso := log_iso ..
  unfold sfDemand
  exact (IsoKept.of_iso h).trans (decideFault_isoKept _ cause _ trip fn)

/-- IMD_OK opens, and of the protection state only its test pulse ends. -/
theorem openImd_prot : ∃ p ts, (openImd s).prot = { s.prot with imdOk := false, pulse := p, tests := ts } := by
  obtain ⟨p, ts, h⟩ := abortPulse_prot 2 (onProt (fun p => { p with imdOk := false }) s)
  exact ⟨p, ts, by rw [openImd, h]; rfl⟩

theorem openImd_frame : Frame [.prot] s (openImd s) := Frame.of_blank (openImd_blank (within_refl _) s)

end

/-! ### The active measurement -/

/-- ISO_INVALID decided anew. -/
theorem isoInvalidate_invalid {cause : Nat} {s : State} (hi : s.iso.invalid = false) :
    (isoInvalidate cause s).iso = { s.iso with invalid := true, valid := false } ∧ (isoInvalidate cause s).prot.imdOk = false ∧
      nth true (isoInvalidate cause s).prot.twilight 12 = true := by
  obtain ⟨w, hw⟩ : ∃ w, w = onIso (fun i => { i with invalid := true, valid := false }) s := ⟨_, rfl⟩
  obtain ⟨u, hu⟩ : ∃ u, u = log srcSafety 0x0A44 2 (u16 cause) (openImd w) := ⟨_, rfl⟩
  have hx : isoInvalidate cause s = raiseTw 12 u := by
    rw [hu, hw, isoInvalidate, if_neg (by simp [hi])]
  have hiso : u.iso = w.iso := by
    rw [hu, log_iso]; exact openImd_frame w .iso rfl
  have himd : u.prot.imdOk = false := by
    obtain ⟨p, ts, h⟩ := openImd_prot w
    rw [hu, log_prot, h]
  obtain ⟨l, hl⟩ := raiseTw_prot 12 u
  rw [hx, raiseTw_iso, hiso, hw]
  exact ⟨rfl, by rw [hl]; exact himd, raiseTw_armed 12 u⟩

/-- A half-period at whose end the injector's read-back failed. -/
theorem isoHalf_badInjector {s : State} (x inj : Int) (hs : sfRuns s = true) (hr : running s = true) (hi : s.iso.injecting = true)
    (he : elapsed s s.iso.halfSince (msNs s.iso.half) = true) (hv : s.iso.invalid = false) :
    Completes (exec (.isoHalfPeriodEnd x inj false) s) fun t => t.iso.valid = false ∧ t.iso.invalid = true ∧ t.prot.imdOk = false ∧
      t.iso.lastAsym = none ∧ t.iso.words = [] ∧ nth true t.prot.twilight 12 = true := by
  let u := s |> onIso (fun i => { i with unsync := !(s.tb.sync = .locked), words := [], halfSince := s.tick.now }) |>
    onIso fun i => { i with lastAsym := none, lastInj := none }
  have hx : exec (.isoHalfPeriodEnd x inj false) s = .next (isoInvalidate 2 u) := (if_neg (by simp [hs, hr, hi, he])).trans (if_pos rfl)
  obtain ⟨h1, h2, h3⟩ := isoInvalidate_invalid (cause := 2) (s := u) hv
  rw [hx, completes_next, h1]
  exact ⟨rfl, rfl, h2, rfl, rfl, h3⟩

theorem imdUpdate_iso (s : State) : (imdUpdate s).iso = s.iso := by
  unfold imdUpdate
  split <;> rfl

theorem imdUpdate_str (s : State) : (imdUpdate s).str = s.str := by
  unfold imdUpdate
  split <;> rfl

/-- With an alarm standing IMD_OK does not close. -/
theorem imdUpdate_alarm {s : State} (h : s.iso.alarm = true) : imdUpdate s = s := if_neg (by simp [h])

theorem isoRestore_iso (s : State) : (isoRestore s).iso =
    { s.iso with alarm := false, highRun := 0, lowRun := 0, passivePosLow := 0, passiveNegLow := 0 } := log_iso ..

theorem isoRestore_state (s : State) : (isoRestore s).str.state = s.str.state := by
  have h : (log srcSafety 0x0A43 1 (u32 (kOhmN s.iso.r)) (s |> onIso (fun i => { i with
    alarm := false, highRun := 0, lowRun := 0, passivePosLow := 0, passiveNegLow := 0 }))).str = s.str := log_str ..
  exact (congrArg StringSt.state h :)

/-- The end of a Twilight cause touches of the string's state only the time without any. -/
theorem clearTw_str (bit : Nat) (s : State) : ∃ o, (clearTw bit s).str = { s.str with unarmedSince := o } := by
  unfold clearTw
  split
  · rw [log_str]
    split
    · exact ⟨s.str.unarmedSince, rfl⟩
    · exact ⟨some s.tick.now, rfl⟩
  · exact ⟨s.str.unarmedSince, rfl⟩

/-- The state in which a new result is taken, before it is judged. -/
def isoTaken (r : Option Rat) (cap : Nat) (s : State) : State :=
  let x : Rat := r.getD 10001
  let v := (roundAway (clampR 10 10000 x)).toNat
  s |> onIso (fun i => { i with
      r := some v, rp := some (clampR 10 10000 x), cPe := some cap, below := decide (x < 10), above := decide (10000 < x)
      valid := true, invalid := false, resultAt := some s.tick.now, warn := decide (v < s.cfg.safety.isoWarn)
      lowRun := if decide (v < s.cfg.safety.isoAlarm) then i.lowRun + 1 else 0
      highRun := if decide (5 * s.cfg.safety.isoAlarm ≤ 4 * v) then i.highRun + 1 else 0 })
    |> clearTw 12

theorem isoTaken_iso (r : Option Rat) (cap : Nat) (s : State) : (isoTaken r cap s).iso = { s.iso with
    r := some (roundAway (clampR 10 10000 (r.getD 10001))).toNat, rp := some (clampR 10 10000 (r.getD 10001)), cPe := some cap
    below := decide (r.getD 10001 < 10), above := decide (10000 < r.getD 10001)
    valid := true, invalid := false, resultAt := some s.tick.now, warn := decide ((roundAway (clampR 10 10000 (r.getD 10001))).toNat < s.cfg.safety.isoWarn)
    lowRun := if decide ((roundAway (clampR 10 10000 (r.getD 10001))).toNat < s.cfg.safety.isoAlarm) then s.iso.lowRun + 1 else 0
    highRun := if decide (5 * s.cfg.safety.isoAlarm ≤ 4 * (roundAway (clampR 10 10000 (r.getD 10001))).toNat) then s.iso.highRun + 1 else 0 } :=
  clearTw_iso ..

/-- The judgement of a result that has been taken: the demand, the end of an alarm, IMD_OK (R403). -/
def isoJudged (v : Nat) (s : State) : State :=
  let s3 := if 2 ≤ s.iso.lowRun then isoDemand 0 v s else s
  imdUpdate (if s3.iso.alarm && decide (2 ≤ s3.iso.highRun) then isoRestore s3 else s3)

/-- A result is taken, a warning may be logged, and then it is judged. -/
theorem isoResult_eq (r : Option Rat) (cap : Nat) (s : State) : ∃ u, u.iso = (isoTaken r cap s).iso ∧ u.prot = (isoTaken r cap s).prot ∧
    u.str = (isoTaken r cap s).str ∧ u.tb = (isoTaken r cap s).tb ∧ u.cfg = (isoTaken r cap s).cfg ∧
    isoResult r cap s = isoJudged (roundAway (clampR 10 10000 (r.getD 10001))).toNat u := by
  obtain ⟨u, hu⟩ : ∃ u, u = if decide ((roundAway (clampR 10 10000 (r.getD 10001))).toNat < s.cfg.safety.isoWarn) && !s.iso.warn then
      log srcSafety 0x0A41 2 (u32 (roundAway (clampR 10 10000 (r.getD 10001))).toNat) (isoTaken r cap s) else isoTaken r cap s := ⟨_, rfl⟩
  have hr : isoResult r cap s = isoJudged (roundAway (clampR 10 10000 (r.getD 10001))).toNat u := by
    rw [hu]
    cases r <;> rfl
  refine ⟨u, ?_, ?_, ?_, ?_, ?_, hr⟩
  all_goals
    rw [hu]
    split
  · exact log_iso ..
  · rfl
  · exact log_prot ..
  · rfl
  · exact log_str ..
  · rfl
  · exact log_tb ..
  · rfl
  · exact log_cfg ..
  · rfl

/-- A result that is not low makes no demand; it leaves the monitor as it was taken, but for an alarm that it ends. -/
theorem isoJudged_good {v : Nat} {s : State} (h : s.iso.lowRun = 0) : ∃ a n p q, (isoJudged v s).iso =
    { s.iso with alarm := a, highRun := n, passivePosLow := p, passiveNegLow := q } ∧ (isoJudged v s).str.state = s.str.state := by
  unfold isoJudged
  extract_lets s3
  have h3 : s3 = s := if_neg (by omega)
  rw [imdUpdate_iso, imdUpdate_str, h3]
  split
  · rw [isoRestore_iso, isoRestore_state]
    exact ⟨false, 0, 0, 0, by rw [← h], rfl⟩
  · exact ⟨_, _, _, _, rfl, rfl⟩

/-- The demand on a low result (R403, `ISO_ACTION` 1). -/
theorem isoDemand_demands {item v : Nat} {s : State} (ha : s.iso.alarm = false) (hs : sfRuns s = true) (hact : s.cfg.safety.isoAction = 1) :
    Demanded 6 0x0A42 0 true s (isoDemand item v s) ∧ (isoDemand item v s).iso.alarm = true ∧ (isoDemand item v s).iso.highRun = 0 ∧
      (isoDemand item v s).prot.imdOk = false ∧ (s.iso.test = none → (isoDemand item v s).iso.test = none) := by
  obtain ⟨w, hw⟩ : ∃ w, w = onIso (fun i => { i with alarm := true, highRun := 0 }) s := ⟨_, rfl⟩
  obtain ⟨u, hu⟩ : ∃ u, u = log srcSafety 0x0A42 3 (u32 (kOhmN s.iso.r) ++ u32 (kOhm s.iso.rPos) ++
      u32 (kOhm s.iso.rNeg)) (openImd w) := ⟨_, rfl⟩
  have hiso : u.iso = w.iso := by rw [hu, log_iso]; exact openImd_frame w .iso rfl
  have hstr : u.str = s.str := by rw [hu, log_str, show (openImd w).str = _ from openImd_frame w .str rfl, hw]; rfl
  have htb : u.tb = s.tb := by rw [hu, log_tb, show (openImd w).tb = _ from openImd_frame w .tb rfl, hw]; rfl
  obtain ⟨p, ts, hp⟩ := openImd_prot w
  have hprot : u.prot = { s.prot with imdOk := false, pulse := p, tests := ts } := by rw [hu, log_prot, hp, hw]; rfl
  have hx : isoDemand item v s = sfDemand 6 0x0A42 0 true item v (some (s.cfg.safety.isoAlarm : Int)) u := by
    unfold isoDemand
    rw [if_neg (by simp [ha, hs])]
    extract_lets lim s1
    have h1 : s1 = u := by rw [hu, hw]
    rw [h1]
    exact if_pos hact
  obtain ⟨⟨hl, hstop, hfault⟩, hcnt, hlast, hdem, hso⟩ := sfDemand_demanded u 6 0x0A42 0 true item v (some (s.cfg.safety.isoAlarm : Int)) (fun _ => Nat.zero_le _)
  obtain ⟨hcore, htest⟩ := sfDemand_isoKept u 6 0x0A42 0 true item v (some (s.cfg.safety.isoAlarm : Int))
  obtain ⟨_, _, _, _, _, _, _, _, _, _, hpr⟩ := sfDemand_prot 6 0x0A42 0 true item v (some (s.cfg.safety.isoAlarm : Int)) u
  rw [hstr] at hfault
  rw [hprot] at hcnt hlast hdem
  rw [htb] at hlast
  rw [hx]
  refine ⟨⟨⟨hl, hstop, hfault⟩, hcnt, hlast, hdem, hso⟩, ?_, ?_, ?_, fun h => htest (by rw [hiso, hw]; exact h)⟩
  · exact (congrArg IsoSt.alarm hcore :).trans (by rw [show (isoCore u).alarm = u.iso.alarm from rfl, hiso, hw]; rfl)
  · exact (congrArg IsoSt.highRun hcore :).trans (by rw [show (isoCore u).highRun = u.iso.highRun from rfl, hiso, hw]; rfl)
  · exact (congrArg ProtSt.imdOk hpr :).trans (congrArg ProtSt.imdOk hprot)

theorem isoTestHalf_none (r : Option Rat) (have_ : Bool) {s : State} (h : s.iso.test = none) : isoTestHalf r have_ s = s := by
  unfold isoTestHalf; rw [h]

/-- The state in which the half-period's asymptote has been taken (R402). -/
def isoStepped (f : IsoFit) (u : Rat) (s : State) : State :=
  let s0 := s |> onIso fun i => { i with unsync := !(s.tb.sync = .locked), words := [], halfSince := s.tick.now }
  let h := isoHalfNext s0 (f.tau * s0.iso.half)
  s0 |> onIso fun i => { i with lastAsym := some f.asym, lastInj := some u, half := h.1, slow := h.2 }

section
variable {s : State} {f : IsoFit} {a0 w : Rat} (x inj : Int) (hs : sfRuns s = true) (hr : running s = true) (hi : s.iso.injecting = true)
  (he : elapsed s s.iso.halfSince (msNs s.iso.half) = true) (hh : heldLong s s.iso.dsHeld 1000 = false) (h5 : (dsAt s 5).failed = false)
  (hf : isoFit s.iso.words.reverse = some f) (ha : s.iso.lastAsym = some a0) (hw : s.iso.lastInj = some w)
  (hres : f.resid ≤ absR ((inj : Rat) / 1000 - w) * 2 / 100) (ht : s.iso.test = none) (hpe : s.iso.peOpen = false)
include hs hr hi he hh h5 hf ha hw hres ht hpe

/-- A half-period whose fit is good and follows another gives a result. -/
theorem exec_isoHalf_good : ∃ cap, exec (.isoHalfPeriodEnd x inj true) s = .next
    (isoTestHalf (isoRes s (f.asym - a0) ((inj : Rat) / 1000 - w)) true
      (isoResult (isoRes s (f.asym - a0) ((inj : Rat) / 1000 - w)) cap (isoStepped f ((inj : Rat) / 1000) s))) := by
  refine ⟨isoCap (f.asym - a0) ((inj : Rat) / 1000 - w) (f.tau * s.iso.half), ?_⟩
  show execIsoHalfPeriodEnd x inj true s = _
  unfold execIsoHalfPeriodEnd
  rw [if_neg (by simp [hs, hr, hi, he])]
  extract_lets ds5 s0 u drop du
  have hheld : ¬(heldLong s0 s0.iso.dsHeld 1000 || (dsAt s0 5).failed) = true := by
    have h1 : heldLong s0 s0.iso.dsHeld 1000 = false := hh
    have h2 : (dsAt s0 5).failed = false := h5
    rw [h1, h2]; decide
  rw [if_neg (by decide), if_neg hheld]
  have hw0 : s0.iso.lastInj = some w := hw
  have ha0 : s0.iso.lastAsym = some a0 := ha
  simp only [ds5, hf]
  have hdu : du = (inj : Rat) / 1000 - w := by simp only [du, hw0]; rfl
  clear_value du
  subst hdu
  rw [if_neg (not_lt.mpr hres)]
  simp only [ha0]
  simp only [onIso_iso, show s0.iso.test = none from ht, show s0.iso.peOpen = false from hpe]
  rfl

theorem isoHalf_result (hgood : s.cfg.safety.isoAlarm ≤
      (roundAway (clampR 10 10000 ((isoRes s (f.asym - a0) ((inj : Rat) / 1000 - w)).getD 10001))).toNat) :
    Completes (exec (.isoHalfPeriodEnd x inj true) s) fun t => t.iso.lastAsym = some f.asym ∧ t.iso.lastInj = some ((inj : Rat) / 1000) ∧
      t.iso.r = some (roundAway (clampR 10 10000 ((isoRes s (f.asym - a0) ((inj : Rat) / 1000 - w)).getD 10001))).toNat ∧
      t.iso.valid = true ∧ t.iso.resultAt = some s.tick.now ∧ t.iso.halfSince = s.tick.now ∧ t.iso.lowRun = 0 ∧ t.str.state = s.str.state := by
  obtain ⟨cap, hx⟩ := exec_isoHalf_good x inj hs hr hi he hh h5 hf ha hw hres ht hpe
  generalize isoRes s (f.asym - a0) ((inj : Rat) / 1000 - w) = r at hx hgood
  obtain ⟨v, hv⟩ : ∃ v, v = isoStepped f ((inj : Rat) / 1000) s := ⟨_, rfl⟩
  obtain ⟨u, hiso, -, hstr, -, -, hu⟩ := isoResult_eq r cap v
  have hviso : v.iso.lastAsym = some f.asym ∧ v.iso.lastInj = some ((inj : Rat) / 1000) ∧ v.iso.halfSince = s.tick.now ∧
      v.iso.test = none ∧ v.tick = s.tick ∧ v.cfg = s.cfg ∧ v.str = s.str := by
    rw [hv]; exact ⟨rfl, rfl, rfl, ht, rfl, rfl, rfl⟩
  obtain ⟨hv1, hv2, hv3, hv4, hv5, hv6, hv7⟩ := hviso
  rw [isoTaken_iso, hv6] at hiso
  have hlow : u.iso.lowRun = 0 := by
    rw [hiso]; exact if_neg (by simpa using hgood)
  obtain ⟨_, _, _, _, hj, hst⟩ := isoJudged_good (v := (roundAway (clampR 10 10000 (r.getD 10001))).toNat) hlow
  rw [← hu] at hj hst
  rw [hiso] at hj
  have htest : (isoResult r cap v).iso.test = none := by rw [hj]; exact hv4
  have hstate : (isoTaken r cap v).str.state = v.str.state := clearTw_state ..
  rw [hx, completes_next, ← hv, isoTestHalf_none r true htest, hj, hst, hstr, hstate, hv7]
  exact ⟨hv1, hv2, rfl, rfl, congrArg (fun t : TickSt => some t.now) hv5, hv3, if_neg (by simpa using hgood), rfl⟩

theorem isoHalf_alarms (hlow : (roundAway (clampR 10 10000 ((isoRes s (f.asym - a0) ((inj : Rat) / 1000 - w)).getD 10001))).toNat < s.cfg.safety.isoAlarm)
    (hrun : 0 < s.iso.lowRun) (hal : s.iso.alarm = false) (hact : s.cfg.safety.isoAction = 1) :
    Completes (exec (.isoHalfPeriodEnd x inj true) s) fun t => Demanded 6 0x0A42 0 true s t ∧ t.iso.alarm = true ∧ t.prot.imdOk = false := by
  obtain ⟨cap, hx⟩ := exec_isoHalf_good x inj hs hr hi he hh h5 hf ha hw hres ht hpe
  generalize isoRes s (f.asym - a0) ((inj : Rat) / 1000 - w) = r at hx hlow
  obtain ⟨v, hv⟩ : ∃ v, v = isoStepped f ((inj : Rat) / 1000) s := ⟨_, rfl⟩
  obtain ⟨u, hiso, hprot, hstr, htb, hcfg, hu⟩ := isoResult_eq r cap v
  have hvs : v.iso.alarm = s.iso.alarm ∧ v.iso.lowRun = s.iso.lowRun ∧ v.iso.test = none ∧ v.cfg = s.cfg ∧ v.str = s.str ∧ v.prot = s.prot ∧ v.tb = s.tb := by
    rw [hv]; exact ⟨rfl, rfl, ht, rfl, rfl, rfl, rfl⟩
  obtain ⟨hv1, hv2, hv4, hv6, hv7, hv8, hv9⟩ := hvs
  rw [isoTaken_iso, hv6] at hiso
  have hcfg' : u.cfg = s.cfg := hcfg.trans ((clearTw_cfg ..).trans hv6)
  have htb' : u.tb = s.tb := htb.trans ((clearTw_tb ..).trans hv9)
  have hlr : 2 ≤ u.iso.lowRun := by
    rw [hiso]
    show 2 ≤ if _ then _ else _
    rw [if_pos (by simpa using hlow), hv2]; omega
  obtain ⟨o, ho⟩ := clearTw_str 12 _
  have hstr' : u.str = { s.str with unarmedSince := o } := (hstr.trans ho).trans (by rw [onIso_str, hv7])
  obtain ⟨l, hl⟩ := clearTw_prot 12 _
  have hprot' : u.prot = { s.prot with twilight := l } := (hprot.trans hl).trans (by rw [onIso_prot, hv8])
  have hsu : sfRuns u = true := by
    unfold sfRuns owning at *
    rw [hstr', hcfg']; exact hs
  obtain ⟨⟨⟨hd1, hd2, hd3⟩, hd4, hd5, hd6, hd7⟩, k1, k2, k3, k4⟩ := isoDemand_demands (item := 0)
    (v := (roundAway (clampR 10 10000 (r.getD 10001))).toNat) (s := u) (by rw [hiso]; exact hv1.trans hal) hsu (by rw [hcfg']; exact hact)
  rw [hstr'] at hd3
  rw [hprot'] at hd4 hd5 hd6
  rw [htb'] at hd5
  have hj : isoResult r cap v = isoDemand 0 (roundAway (clampR 10 10000 (r.getD 10001))).toNat u := by
    rw [hu]
    unfold isoJudged
    extract_lets s3
    have h3 : s3 = isoDemand 0 (roundAway (clampR 10 10000 (r.getD 10001))).toNat u := if_pos hlr
    rw [if_neg (by rw [h3, k2]; simp), h3, imdUpdate_alarm k1]
  have htest : (isoResult r cap v).iso.test = none := by rw [hj]; exact k4 (by rw [hiso]; exact hv4)
  rw [hx, completes_next, ← hv, isoTestHalf_none r true htest, hj]
  exact ⟨⟨⟨hd1, hd2, hd3⟩, hd4, hd5, hd6, hd7⟩, k1, k3⟩

end

/-! ### The passive measurement, the slots and the PE connection -/

/-- A split taken where none stands gives both poles from the last active result. -/
theorem passiveTake_first {a rp : Rat} {s : State} (h0 : 0 < a) (h1 : a < 1) (hr : s.iso.rp = some rp) (hl : s.iso.lastSplit = none) :
    passiveTake a s = onIso (fun i => { i with
      passive := true, lastSplit := some a, rPos := some (snap (rp / (1 - a))), rNeg := some (snap (rp / a)) }) s := by
  unfold passiveTake
  extract_lets s1 note
  rw [if_neg (by simp [h0, h1]), hr]
  dsimp only
  rw [hl]
  rfl

/-- The split of the poles with the string connected. -/
theorem isoPassive_splits {s : State} (x y : Int) {a rp : Rat} (hs : sfRuns s = true) (hr : running s = true) (hb : bothClosed s = true)
    (he : elapsed s s.iso.splitSince (secNs 1) = true) (hn : s.iso.splitN ≠ 0)
    (hv : 10000 ≤ absR (dsVolt ((s.iso.splitStr : Rat) / s.iso.splitN))) (h4 : (dsAt s 4).failed = false) (hpe : s.iso.peOpen = false)
    (ha : a = (s.iso.splitPos : Rat) / s.iso.splitStr) (h0 : 0 < a) (h1 : a < 1) (hrp : s.iso.rp = some rp) (hl : s.iso.lastSplit = none) :
    Completes (exec (.isoPassiveMeasurement x y) s) fun t => t.iso.passive = true ∧ t.iso.lastSplit = some a ∧
      t.iso.rPos = some (snap (rp / (1 - a))) ∧ t.iso.rNeg = some (snap (rp / a)) ∧ t.iso.splitN = 0 ∧ t.iso.splitSince = s.tick.now ∧
      Frame [.iso] s t := by
  have hx : exec (.isoPassiveMeasurement x y) s = .next (passiveTake a (onIso (fun i => { i with
      splitPos := 0, splitStr := 0, splitN := 0, splitSince := s.tick.now }) s)) := by
    rw [ha]
    show execIsoPassiveMeasurement x y s = _
    unfold execIsoPassiveMeasurement
    extract_lets due v ok s1
    have hok : ok = true := by simp [ok, v, hs, hr, hb, hn, hv, h4, hpe]
    rw [if_neg (by simp [due, he]), if_neg (by simp [hok])]
  obtain ⟨v, hw⟩ : ∃ v, v = onIso (fun i => { i with splitPos := 0, splitStr := 0, splitN := 0, splitSince := s.tick.now }) s := ⟨_, rfl⟩
  rw [hx, completes_next, ← hw, passiveTake_first h0 h1 (by rw [hw]; exact hrp) (by rw [hw]; exact hl), hw]
  exact ⟨rfl, rfl, rfl, rfl, rfl, rfl, Frame.of_blank rfl⟩

theorem isoPassive_open {s : State} (x y : Int) (hb : bothClosed s = false) (he : elapsed s s.iso.splitSince (secNs 1) = true) :
    Completes (exec (.isoPassiveMeasurement x y) s) fun t => t.iso.passive = false ∧ t.iso.lastSplit = none ∧ Frame [.iso] s t := by
  have hx : exec (.isoPassiveMeasurement x y) s = .next (s |>
      onIso (fun i => { i with splitPos := 0, splitStr := 0, splitN := 0, splitSince := s.tick.now }) |>
      onIso fun i => { i with passive := false, lastSplit := none, passivePosLow := 0, passiveNegLow := 0 }) := by
    show execIsoPassiveMeasurement x y s = _
    unfold execIsoPassiveMeasurement
    extract_lets due v ok s1
    rw [if_neg (by simp [due, he]), if_pos (by simp [ok, hb])]
  rw [hx, completes_next]
  exact ⟨rfl, rfl, Frame.of_blank rfl⟩

/-- The active result is too old. -/
theorem isoInvalid_old {s : State} (hs : sfRuns s = true) (hr : running s = true) (hi : s.iso.invalid = false)
    (he : elapsed s (s.iso.resultAt.getD s.iso.since) (msNs (isoAgeMax s)) = true) :
    Completes (exec .isoInvalid s) fun t => t.iso.valid = false ∧ t.iso.invalid = true ∧ t.prot.imdOk = false ∧
      nth true t.prot.twilight 12 = true := by
  obtain ⟨h1, h2, h3⟩ := isoInvalidate_invalid (cause := if bothClosed s && s.iso.resultAt.isSome then 1 else 0) hi
  have hx : exec .isoInvalid s = .next (isoInvalidate (if bothClosed s && s.iso.resultAt.isSome then 1 else 0) s) :=
    if_pos (by simp [hs, hr, he])
  rw [hx, completes_next, h1]
  exact ⟨rfl, rfl, h2, h3⟩

/-- The PE connection is found open. -/
theorem peCheck_opens {s : State} {r : Nat} (hr : running s = true) (hp : s.iso.peOpen = false) (h : 10000 < r) :
    Completes (exec (.peCheck r) s) fun t => t.iso.peOpen = true ∧ t.iso.valid = false ∧ t.iso.passive = false ∧ t.prot.imdOk = false ∧
      t.str = s.str := by
  refine ⟨_, (if_neg (by simp [hr])).trans (if_pos (by simp [h, hp])), ?_⟩
  obtain ⟨w, hw⟩ : ∃ w, w = (s |> onIso (fun i => { i with
      peGoodSince := if r < 9000 then i.peGoodSince.orElse (fun _ => some s.tick.now) else none }) |>
    onIso (fun i => { i with peOpen := true, valid := false, passive := false, lastAsym := none, lastInj := none, lastSplit := none })) := ⟨_, rfl⟩
  obtain ⟨p, ts, hprot⟩ := openImd_prot w
  have hiso : (openImd w).iso = w.iso := openImd_frame w .iso rfl
  have hstr : (openImd w).str = s.str := (openImd_frame w .str rfl :).trans (by rw [hw]; rfl)
  rw [← hw, log_iso, log_prot, log_str, hiso, hprot]
  exact ⟨by rw [hw]; rfl, by rw [hw]; rfl, by rw [hw]; rfl, rfl, hstr⟩

/-- Settles O37, over the results, the demand, the split and the PE connection. -/
theorem insulationMonitor : Obligations.InsulationMonitor :=
  ⟨fun _ x inj hs hr hi he hv => isoHalf_badInjector x inj hs hr hi he hv,
   fun _ x inj _ _ _ hs hr hi he hh h5 hf ha hw hres ht hpe hgood => isoHalf_result x inj hs hr hi he hh h5 hf ha hw hres ht hpe hgood,
   fun _ x inj _ _ _ hs hr hi he hh h5 hf ha hw hres ht hpe hlow hrun hal hact =>
    isoHalf_alarms x inj hs hr hi he hh h5 hf ha hw hres ht hpe hlow hrun hal hact,
   fun _ x y _ _ hs hr hb he hn hv h4 hpe ha h0 h1 hrp hl => isoPassive_splits x y hs hr hb he hn hv h4 hpe ha h0 h1 hrp hl,
   fun _ x y hb he => isoPassive_open x y hb he,
   fun _ hs hr hi he => isoInvalid_old hs hr hi he,
   fun _ hr => ⟨_, if_pos hr, rfl, Frame.of_blank rfl⟩,
   fun _ _ hr hp h => peCheck_opens hr hp h,
   fun _ _ hr h => ⟨_, (if_neg (by simp [hr])).trans (if_neg (by simp; omega)), rfl, Frame.of_blank rfl⟩,
   fun s t0 hg hp hr he => by
    have hx : exec .peOpenCleared s = .next (s |> onIso fun i => { i with peOpen := false }) := by
      show execPeOpenCleared s = _
      unfold execPeOpenCleared
      rw [hg]
      exact if_pos (by simp [hp, hr, he])
    exact ⟨_, hx, rfl, Frame.of_blank rfl⟩⟩

end Sys2Proof.Machine
end

section
/-! The course of Dawn and the lamp test (R81, R128, R129, R142, R146, R147). -/
namespace Sys2Proof.Machine

section
variable (s : State)

/-- A part of Dawn but for its records that wait is left by what leaves Dawn alone. -/
theorem Frame.dawn_step_fail {l : List Part} {s t : State} (h : Frame l s t) (hd : l.contains .dawn = false) :
    t.dawn.step = s.dawn.step ∧ t.dawn.fail = s.dawn.fail := by
  have a : { t.dawn with deferred := [] } = { s.dawn with deferred := [] } := h .dawn hd
  exact ⟨(congrArg DawnSt.step a :), (congrArg DawnSt.fail a :)⟩

theorem useFallback_keeps : (useFallback s).str.causes = s.str.causes ∧ (useFallback s).dawn.step = s.dawn.step ∧
    (useFallback s).dawn.fail = s.dawn.fail := by
  obtain ⟨w, hw⟩ : ∃ w, w = ({ s with cfg := fallbackCfg s } |> onDawn (fun d => { d with fallback := true }) |> canOff) := ⟨_, rfl⟩
  obtain ⟨h1, h2⟩ := (Frame.of_blank (setSync_blank (within_refl _) .freeRun w)).dawn_step_fail (by decide)
  have h3 : (setSync .freeRun w).str = w.str := setSync_str ..
  refine ⟨?_, ?_, ?_⟩
  · exact (show (useFallback s).str.causes = (setSync .freeRun w).str.causes by rw [hw]; rfl).trans (by rw [h3, hw]; rfl)
  · exact (show (useFallback s).dawn.step = (setSync .freeRun w).dawn.step by rw [hw]; rfl).trans (by rw [h1, hw]; rfl)
  · exact (show (useFallback s).dawn.fail = (setSync .freeRun w).dawn.fail by rw [hw]; rfl).trans (by rw [h2, hw]; rfl)

theorem placeFabric_keeps (bad : List Nat) : (placeFabric bad s).str = s.str ∧ (placeFabric bad s).dawn = s.dawn := by
  have h := Frame.of_blank (placeFabric_blank (within_refl _) bad s)
  exact ⟨h .str rfl, h.dawn_eq rfl rfl⟩

/-- A Dawn that fails: it has no step, and the string is in FAULT with the cause latched. -/
theorem dawnFail_ends (code cls : Nat) : (dawnFail code cls s).dawn.step = none ∧ (dawnFail code cls s).dawn.fail = code ∧
    (dawnFail code cls s).str.state = .fault ∧ (dawnFail code cls s).str.cause = code ∧ Latched code cls (dawnFail code cls s) := by
  unfold dawnFail
  extract_lets step s1 s2 s3
  have h1 : (∃ x ∈ s1.str.causes, x.code = code ∧ x.active = true ∧ cls ≤ x.cls) ∧ s1.dawn.step = none ∧ s1.dawn.fail = code := by
    refine ⟨?_, rfl, rfl⟩
    have hc : s1.str.causes = latchCause { code := code, cls := cls } s.str.causes := by
      simp only [s1, onDawn_str, latchClass2_str]; rfl
    rw [hc]
    exact latchCause_mem { code := code, cls := cls } s.str.causes rfl
  clear_value s1
  have h2 : s2.str.causes = s1.str.causes ∧ s2.dawn.step = s1.dawn.step ∧ s2.dawn.fail = s1.dawn.fail := by
    dsimp only [s2]
    split
    · exact ⟨rfl, rfl, rfl⟩
    · exact useFallback_keeps s1
  clear_value s2
  have h3 : s3.str = s2.str ∧ s3.dawn = s2.dawn := by
    dsimp only [s3]
    split
    · exact ⟨rfl, rfl⟩
    · exact placeFabric_keeps s2 _
  clear_value s3
  obtain ⟨u, hu⟩ : ∃ u, u = log srcSafety 0x0103 3 (u8 step ++ u16 code) s3 := ⟨_, rfl⟩
  have hustr : u.str = s3.str := by rw [hu]; exact log_str ..
  obtain ⟨k1, k2⟩ := (log_frame s3 srcSafety 0x0103 3 (u8 step ++ u16 code)).dawn_step_fail (by decide)
  obtain ⟨k3, k4⟩ := (Frame.of_blank (setState_blank (within_refl _) .fault code u)).dawn_step_fail (by decide)
  rw [← hu] at k1 k2 ⊢
  have hstr : (setState .fault code u).str.causes = s1.str.causes := by
    rw [setState_str, ← h2.1, ← h3.1, ← hustr]
  refine ⟨?_, ?_, by rw [setState_str], by rw [setState_str], ?_⟩
  · rw [k3, k1, h3.2, h2.2.1, h1.2.1]
  · rw [k4, k2, h3.2, h2.2.2, h1.2.2]
  · unfold Latched; rw [hstr]; exact h1.1

theorem unlessFailed_running {s : State} (g : State → State) (h : s.dawn.step.isSome = true) : unlessFailed g s = g s := if_pos h
theorem unlessFailed_failed {s : State} (g : State → State) (h : s.dawn.step = none) : unlessFailed g s = s := if_neg (by simp [h])

/-- Without a row that fails a march test notes repairs alone. -/
theorem testRows_nil_frame (kind : Nat) : (∃ l, testRows kind [] s = onDawn (fun d => { d with repairs := l }) s) := by
  unfold testRows
  extract_lets rows suspects s1
  have hs1 : ∃ l, s1 = onDawn (fun d => { d with repairs := l }) s := by
    dsimp only [s1]
    generalize suspects = ss
    have hgen : ∀ (l0 : List (Nat × Nat × Nat × Nat)), ∃ l, ss.foldl (fun t r => noteRepair kind 2 r 0 t)
        (onDawn (fun d => { d with repairs := l0 }) s) = onDawn (fun d => { d with repairs := l }) s := by
      induction ss with
      | nil => exact fun l0 => ⟨l0, rfl⟩
      | cons r ss ih => exact fun l0 => ih (l0 ++ [(kind, 2, r, 0)])
    exact hgen s.dawn.repairs
  exact hs1

/-- What a Dawn step's command does while Dawn runs. -/
theorem exec_dawnStepEnd {s : State} {k : Nat} (d : DawnIn) (hr : dawnRuns s = true) (hk : s.dawn.step = some k) :
    exec (.dawnStepEnd d) s = .next (dawnWork d k s) := by
  show execDawnStepEnd d s = _
  unfold execDawnStepEnd
  rw [hk]
  exact if_pos hr

theorem exec_dawnStepTimeout {s : State} {k : Nat} (hr : dawnRuns s = true) (hk : s.dawn.step = some k)
    (he : elapsed s s.dawn.stepSince (msNs (dawnBudget k)) = true) : exec .dawnStepTimeout s = .next
      (if k = 11 && !s.pwr.holdupReady then s |> log srcSafety 0x0115 2 [] |> dawnFail 0x0115 1
       else s |> log srcSafety 0x0110 2 (u8 k) |> dawnFail 0x0110 1) := by
  show execDawnStepTimeout s = _
  unfold execDawnStepTimeout
  rw [hk]
  dsimp only
  rw [if_neg (by simp [hr, he])]
  split <;> rfl

end

section
variable {s : State} (d : DawnIn) (hr : dawnRuns s = true)
include hr

/-- D1 without a failing row. -/
theorem dawnD1_ends (hk : s.dawn.step = some 1) (hb : d.badRows = []) :
    Completes (exec (.dawnStepEnd d) s) fun t => t.dawn.step = some 2 ∧ t.dawn.stepSince = s.tick.now ∧ Frame [.dawn] s t := by
  obtain ⟨l, hl⟩ := testRows_nil_frame s 0
  have hx : dawnWork d 1 s = dawnNext (onDawn (fun d => { d with repairs := l }) s) := by
    show unlessFailed dawnNext (testRows 0 d.badRows s) = _
    rw [hb, hl]
    exact unlessFailed_running dawnNext (congrArg Option.isSome hk)
  rw [exec_dawnStepEnd d hr hk, completes_next, hx]
  exact ⟨congrArg (Option.map (· + 1)) hk, rfl, Frame.of_blank rfl⟩

/-- D8 of a module whose role is decided and that has no partner. -/
theorem dawnD8_solo (hk : s.dawn.step = some 8) (hrole : s.str.role = some .solo) (hp : s.cfg.safety.pair = false) :
    Completes (exec (.dawnStepEnd d) s) fun t => t.dawn.step = some 9 ∧ t.str.role = some .solo ∧ Frame [.dawn] s t := by
  have h8 : dawnD8 s = s := by
    unfold dawnD8
    rw [hrole]
    exact if_neg (by simp [hp])
  have hx : dawnWork d 8 s = dawnNext s := congrArg dawnNext h8
  rw [exec_dawnStepEnd d hr hk, completes_next, hx]
  exact ⟨congrArg (Option.map (· + 1)) hk, hrole, Frame.of_blank rfl⟩

/-- A step whose work fails Dawn ends there. -/
theorem dawnStep_fails {k : Nat} (hk : s.dawn.step = some k) {code cls : Nat} {u : State}
    (hx : dawnWork d k s = unlessFailed dawnNext (dawnFail code cls u)) :
    Completes (exec (.dawnStepEnd d) s) fun t => t.dawn.step = none ∧ t.dawn.fail = code ∧ t.str.state = .fault ∧ t.str.cause = code ∧
      Latched code cls t := by
  rw [exec_dawnStepEnd d hr hk, completes_next, hx, unlessFailed_failed _ (dawnFail_ends u code cls).1]
  exact dawnFail_ends u code cls

/-- D11 with the hold-up bank good and no class 2 latch asks for STANDBY. -/
theorem dawnD11_completes {c : Nat} (hk : s.dawn.step = some 11) (hc : d.holdupCap = some c) (h1 : 1350 ≤ c) (h2 : d.holdupReady = true)
    (h3 : s.idn.class2 = []) :
    Completes (exec (.dawnStepEnd d) s) fun t => t.dawn.step = none ∧ t.pwr.holdupReady = true ∧ t.pwr.holdupCap = some c ∧
      t.str.state = .dawn ∧ t.str.triggers = s.str.triggers ++ [.dawnDone] := by
  obtain ⟨w, hw⟩ : ∃ w, w = (s |> onPwr fun p => { p with
    holdupCap := d.holdupCap, degraded := decide (c < 1350), insufficient := decide (c < 1260), failed := decide (c < 570), holdupReady := d.holdupReady }) :=
    ⟨_, rfl⟩
  have hx : dawnWork d 11 s = dawnComplete w := by
    show dawnD11 d s = _
    unfold dawnD11
    extract_lets c' s1 s2
    have hc' : c' = c := by dsimp only [c']; rw [hc]
    have hs2 : s2 = w := by rw [hw]; dsimp only [s2, s1]; rw [hc', if_neg (by omega)]
    rw [if_neg (by omega), if_neg (by simp [h2]), hs2]
  have hw2 : w.idn.class2 = [] := by rw [hw]; exact h3
  have hstate : s.str.state = .dawn := by
    have h := hr
    unfold dawnRuns inDawn at h
    simp only [Bool.and_eq_true, decide_eq_true_eq] at h
    exact h.1.1.1
  rw [exec_dawnStepEnd d hr hk, completes_next, hx]
  unfold dawnComplete
  rw [hw2]
  dsimp only
  rw [log_pwr, log_str, ((log_frame _ _ _ _ _).dawn_step_fail (by decide)).1, hw]
  exact ⟨rfl, h2, hc, hstate, rfl⟩

omit d in
/-- A step before D11 over its budget. -/
theorem dawnStep_overrun {k : Nat} (hk : s.dawn.step = some k) (h11 : k < 11) (he : elapsed s s.dawn.stepSince (msNs (dawnBudget k)) = true) :
    Completes (exec .dawnStepTimeout s) fun t => t.dawn.step = none ∧ t.dawn.fail = 0x0110 ∧ t.str.state = .fault ∧ t.str.cause = 0x0110 ∧
      Latched 0x0110 1 t := by
  rw [exec_dawnStepTimeout hr hk he, completes_next, if_neg (by simp; omega)]
  exact dawnFail_ends _ 0x0110 1

omit d in
/-- D11 over its budget with the hold-up bank not ready. -/
theorem dawnD11_overrun (hk : s.dawn.step = some 11) (hh : s.pwr.holdupReady = false) (he : elapsed s s.dawn.stepSince (msNs 1000) = true) :
    Completes (exec .dawnStepTimeout s) fun t => t.dawn.fail = 0x0115 ∧ t.str.state = .fault ∧ t.str.cause = 0x0115 ∧ Latched 0x0115 1 t := by
  rw [exec_dawnStepTimeout hr hk he, completes_next, if_pos (by simp [hh])]
  exact (dawnFail_ends _ 0x0115 1).2

end

/-- Settles O38, over the steps that end, those that fail and those over their budgets. -/
theorem dawnSteps : Obligations.DawnSteps :=
  ⟨fun _ d hr hk hb => dawnD1_ends d hr hk hb,
   fun _ d hr hk hrole hp => dawnD8_solo d hr hk hrole hp,
   fun s d hr hk h => dawnStep_fails d hr hk (u := log srcSafety 0x0304 3 [] s)
     (congrArg (unlessFailed dawnNext) (if_pos (by simp [h]) : dawnD6 d s = _)),
   fun s d n hr hk h => by
    have hx : ∃ u, dawnD5 d s = dawnFail (checkCode n) 2 u := by
      unfold dawnD5
      extract_lets r s1
      exact ⟨_, by rw [show r.fail = some n from h]⟩
    obtain ⟨u, hu⟩ := hx
    exact dawnStep_fails d hr hk (congrArg (unlessFailed dawnNext) hu),
   fun _ d _ hr hk hc h1 h2 h3 => dawnD11_completes d hr hk hc h1 h2 h3,
   fun _ _ hr hk h11 he => dawnStep_overrun hr hk h11 he,
   fun _ hr hk hh he => dawnD11_overrun hr hk hh he,
   fun _ hl he => ⟨_, if_pos (by simp [hl, he]), rfl, Frame.of_blank rfl⟩⟩

end Sys2Proof.Machine
end

section
/-! Frames on the Skaley ring (R194 to R203, R206, R210, R214 to R216). -/
namespace Sys2Proof.Machine

/-! ### The monitors and what stands beside them -/

/-- The link but for its monitors. -/
def sklCore (s : State) : LinkSt := { s.skl with mons := [] }

/-- Of the link only the monitors have changed: they are as many, and none has missed fewer lock-in reads. -/
def LinkKept (s t : State) : Prop := sklCore t = sklCore s ∧ t.skl.mons.length = s.skl.mons.length ∧
  ∀ m, (monAt s m).lockinFails ≤ (monAt t m).lockinFails

theorem LinkKept.trans {s t u : State} (h : LinkKept s t) (k : LinkKept t u) : LinkKept s u :=
  ⟨k.1.trans h.1, k.2.1.trans h.2.1, fun m => (h.2.2 m).trans (k.2.2 m)⟩

theorem LinkKept.of_skl {s t : State} (h : t.skl = s.skl) : LinkKept s t := by
  unfold LinkKept sklCore monAt
  rw [h]
  exact ⟨rfl, rfl, fun _ => Nat.le_refl _⟩

theorem LinkKept.foldl {α : Type} {g : State → α → State} (h : ∀ s a, LinkKept s (g s a)) (l : List α) (s : State) :
    LinkKept s (l.foldl g s) := by
  induction l generalizing s with
  | nil => exact .of_skl rfl
  | cons a l ih => exact (h s a).trans (ih _)

section
variable (s : State)

theorem monAt_onMon_self (g : Monitor → Monitor) {m : Nat} (h : m < s.skl.mons.length) : monAt (onMon m g s) m = g (monAt s m) :=
  nth_updAt_self _ _ h

theorem monAt_onMon_ne (g : Monitor → Monitor) {m n : Nat} (h : n ≠ m) : monAt (onMon m g s) n = monAt s n := nth_updAt_ne _ _ _ h

theorem onMon_linkKept (g : Monitor → Monitor) (m : Nat) (h : ∀ x, x.lockinFails ≤ (g x).lockinFails) : LinkKept s (onMon m g s) := by
  refine ⟨rfl, length_updAt .., fun k => ?_⟩
  by_cases hk : k = m
  · subst hk
    by_cases hl : k < s.skl.mons.length
    · rw [monAt_onMon_self s g hl]; exact h _
    · have hm : updAt g s.skl.mons k = s.skl.mons := updAt_of_length_le _ (by omega)
      exact Nat.le_of_eq (congrArg (fun l => (nth ({} : Monitor) l k).lockinFails) hm.symm)
  · rw [monAt_onMon_ne s g hk]

theorem quarRestart_linkKept (m cond : Nat) : LinkKept s (quarRestart m cond s) :=
  (onMon_linkKept s (fun x => { x with scans := 0 }) m fun _ => Nat.le_refl _).trans (.of_skl (log_skl ..))

theorem missedScan_linkKept (m : Nat) : LinkKept s (missedScan s m) := by
  unfold missedScan
  extract_lets x s1
  have h1 : LinkKept s s1 := onMon_linkKept s _ m fun _ => Nat.le_refl _
  split
  · exact h1.trans (quarRestart_linkKept s1 m 1)
  · exact h1

theorem flightLost_linkKept (f : SklFrame) : LinkKept s (flightLost s f) := by
  unfold flightLost
  split
  · exact onMon_linkKept s _ _ fun _ => Nat.le_succ _
  · split
    · exact .foldl missedScan_linkKept _ s
    · exact .of_skl rfl

theorem flightLost_cfg (f : SklFrame) : (flightLost s f).cfg = s.cfg :=
  Frame.of_blank (flightLost_blank (within_refl _) s f) .cfg rfl

/-- A lock-in read that is lost counts. -/
theorem flightLost_lockin {f : SklFrame} (h : f.type_ = 7) (hm : f.dest < s.skl.mons.length) :
    (monAt (flightLost s f) f.dest).lockinFails = (monAt s f.dest).lockinFails + 1 := by
  rw [flightLost, if_pos h, monAt_onMon_self s _ hm]

end

theorem geoM_congr {s t : State} (h : t.cfg = s.cfg) : geoM t = geoM s := by unfold geoM; rw [h]

/-! ### The search for the break -/

/-- A search that begins: what was in flight is lost but for SYNC; the ring's state stays. -/
theorem startProbe_starts {s : State} (hp : s.skl.probing = false) (hg : geoM s ≠ 0) :
    (startProbe s).skl.probing = true ∧ (startProbe s).skl.ring = s.skl.ring ∧ (startProbe s).skl.carrierA = s.skl.carrierA ∧
      (startProbe s).skl.carrierB = s.skl.carrierB ∧ (startProbe s).skl.flight = s.skl.flight.filter (fun g => g.type_ = 1) ∧
      ∀ m, (monAt s m).lockinFails ≤ (monAt (startProbe s) m).lockinFails := by
  obtain ⟨w, hw⟩ : ∃ w, w = onSkl (fun l => { l with
        probing := true, probeA := none, probeB := none, queue := probeFrame s 0 :: probeFrame s 1 :: l.queue
        flight := l.flight.filter fun g => g.type_ = 1 }) s := ⟨_, rfl⟩
  obtain ⟨u, hu⟩ : ∃ u, u = (s.skl.flight.filter fun g => g.type_ ≠ 1).foldl flightLost w := ⟨_, rfl⟩
  have hx : startProbe s = ringPut 18 (mkPacket 0x0C (statusPayload s)) (ringPut 16 (mkPacket 0x0C (statusPayload s)) u) := by
    rw [hu, hw]
    exact if_neg (by simp [hp, hg])
  obtain ⟨hcore, -, hfails⟩ : LinkKept w (startProbe s) := by
    rw [hx]
    refine (LinkKept.trans ?_ (.of_skl (ringPut_skl ..))).trans (.of_skl (ringPut_skl ..))
    rw [hu]
    exact .foldl flightLost_linkKept _ w
  refine ⟨?_, ?_, ?_, ?_, ?_, ?_⟩
  · exact (congrArg LinkSt.probing hcore :).trans (by rw [hw]; rfl)
  · exact (congrArg LinkSt.ring hcore :).trans (by rw [hw]; rfl)
  · exact (congrArg LinkSt.carrierA hcore :).trans (by rw [hw]; rfl)
  · exact (congrArg LinkSt.carrierB hcore :).trans (by rw [hw]; rfl)
  · exact (congrArg LinkSt.flight hcore :).trans (by rw [hw]; rfl)
  · rw [hw] at hfails; exact hfails

/-- A search that runs goes on. -/
theorem startProbe_runs {s : State} (h : s.skl.probing = true) : startProbe s = s := if_pos (by simp [h])

/-! ### Frames that leave -/

section
variable {s : State} {port : Nat} {f : SklFrame} {rest : List SklFrame}

/-- The frame whose turn it is leaves. -/
theorem skaleyFrameLaunch_sends (hr : runsRing s = true) (hn : sklNext s port = some (f, rest)) (hf : sklFits s f = true) :
    Completes (exec (.skaleyFrameLaunch port) s) fun t => t.skl.queue = rest ∧
      t.skl.flight = s.skl.flight ++ [{ f with seq := if f.port = 0 then s.skl.seqA else s.skl.seqB, at_ := s.tick.now }] ∧
      (f.port = 0 → t.skl.seqA = (s.skl.seqA + 1) % 65536 ∧ t.skl.seqB = s.skl.seqB) ∧
      (f.port ≠ 0 → t.skl.seqB = (s.skl.seqB + 1) % 65536 ∧ t.skl.seqA = s.skl.seqA) ∧ (f.type_ = 6 → t.skl.lockinOn = true) := by
  obtain ⟨u, hu⟩ : ∃ u, u = ringRel (if port = 0 then 16 else 18) (onSkl (fun l => { l with queue := rest }) s) := ⟨_, rfl⟩
  have hx : exec (.skaleyFrameLaunch port) s = .next (sklSend f (lockinLaunched f u)) := by
    rw [hu]
    show execSkaleyFrameLaunch port s = _
    unfold execSkaleyFrameLaunch
    rw [if_neg (by simp [hr]), hn]
    exact if_pos hf
  have hskl : u.skl = { s.skl with queue := rest } := by rw [hu, ringRel_skl]; rfl
  have htick : u.tick = s.tick := by rw [hu, ringRel_tick]; rfl
  obtain ⟨v, hv⟩ : ∃ v, v = lockinLaunched f u := ⟨_, rfl⟩
  have hl : v.skl.queue = u.skl.queue ∧ v.skl.flight = u.skl.flight ∧ v.skl.seqA = u.skl.seqA ∧ v.skl.seqB = u.skl.seqB ∧
      v.tick = u.tick ∧ (f.type_ = 6 → v.skl.lockinOn = true) := by
    rw [hv]
    unfold lockinLaunched
    split
    next h => exact ⟨rfl, rfl, rfl, rfl, rfl, fun h6 => by simpa [h6] using h⟩
    · exact ⟨rfl, rfl, rfl, rfl, rfl, fun _ => rfl⟩
  obtain ⟨h1, h2, h3, h4, h5, h6⟩ := hl
  rw [hskl] at h1 h2 h3 h4
  rw [htick] at h5
  rw [hx, completes_next, ← hv]
  refine ⟨h1, ?_, fun h0 => ⟨?_, ?_⟩, fun h0 => ⟨?_, ?_⟩, h6⟩
  · show v.skl.flight ++ [{ f with seq := if f.port = 0 then v.skl.seqA else v.skl.seqB, at_ := v.tick.now }] = _
    rw [h2, h3, h4, h5]
  · show (if f.port = 0 then ((if f.port = 0 then v.skl.seqA else v.skl.seqB) + 1) % 65536 else v.skl.seqA) = _
    rw [if_pos h0, if_pos h0, h3]
  · show (if f.port = 0 then v.skl.seqB else ((if f.port = 0 then v.skl.seqA else v.skl.seqB) + 1) % 65536) = _
    rw [if_pos h0, h4]
  · show (if f.port = 0 then v.skl.seqB else ((if f.port = 0 then v.skl.seqA else v.skl.seqB) + 1) % 65536) = _
    rw [if_neg h0, if_neg h0, h4]
  · show (if f.port = 0 then ((if f.port = 0 then v.skl.seqA else v.skl.seqB) + 1) % 65536 else v.skl.seqA) = _
    rw [if_neg h0, h3]

theorem skaleyFrameLaunch_waits (hn : sklNext s port = some (f, rest)) (hf : sklFits s f = false) :
    Completes (exec (.skaleyFrameLaunch port) s) fun t => t = s := by
  have hx : exec (.skaleyFrameLaunch port) s = .next s := by
    show execSkaleyFrameLaunch port s = _
    unfold execSkaleyFrameLaunch
    split
    · rfl
    · rw [hn]; exact if_neg (by simp [hf])
  rw [hx, completes_next]

end

/-! ### Frames that come back, or do not -/

theorem badReturn_core (port : Nat) (s : State) : (badReturn port s).skl.crcA = s.skl.crcA ∧ (badReturn port s).skl.crcB = s.skl.crcB := by
  unfold badReturn
  extract_lets broken
  split
  · exact ⟨rfl, rfl⟩
  next f rest _ =>
    dsimp only
    obtain ⟨h, -, -⟩ := flightLost_linkKept (onSkl (fun l => { l with flight := rest }) s) f
    have hA : (flightLost (onSkl (fun l => { l with flight := rest }) s) f).skl.crcA = s.skl.crcA := (congrArg LinkSt.crcA h :)
    have hB : (flightLost (onSkl (fun l => { l with flight := rest }) s) f).skl.crcB = s.skl.crcB := (congrArg LinkSt.crcB h :)
    split
    · exact ⟨hA, hB⟩
    · exact ⟨hA, hB⟩

/-- A bad frame that comes back to port A. -/
theorem skaleyFrameReturned_bad {s : State} {ok : Bool} (rt : Nat) {b : Bytes} (hr : runsRing s = true) (hb : ok = false ∨ sklFrameOk b = false) :
    Completes (exec (.skaleyFrameReturned 0 ok rt b) s) fun t => t.skl.crcA = satInc 32 s.skl.crcA ∧ t.skl.crcB = s.skl.crcB ∧
      (b.length < 12 ∨ b.length < 12 + getN b 6 2 → t.skl.flight = s.skl.flight ∧ Frame [.skl] s t) := by
  obtain ⟨w, hw⟩ : ∃ w, w = onSkl (fun l => { l with crcA := satInc 32 l.crcA }) s := ⟨_, rfl⟩
  have hx : exec (.skaleyFrameReturned 0 ok rt b) s =
      .next (if decide (12 ≤ b.length) && decide (12 + getN b 6 2 ≤ b.length) then badReturn 0 w else w) := by
    rw [hw]
    exact (if_neg (by simp [hr])).trans (if_pos (by rcases hb with h | h <;> simp [h]))
  rw [hx, completes_next]
  obtain ⟨hA, hB⟩ := badReturn_core 0 w
  refine ⟨?_, ?_, fun h => ?_⟩
  · split
    · rw [hA, hw]; rfl
    · rw [hw]; rfl
  · split
    · rw [hB, hw]; rfl
    · rw [hw]; rfl
  · rw [if_neg (by simp; omega), hw]
    exact ⟨rfl, Frame.of_blank rfl⟩

section
variable {s : State} {b : Bytes} {f : SklFrame} {rest : List SklFrame} (hr : runsRing s = true) (hb : sklFrameOk b = true)
  (ht : takeFirst (fun g => g.type_ = getN b 0 1 && g.seq = getN b 2 2 && g.port = if bitAt (getN b 1 1) 7 then 1 else 0) s.skl.flight =
    some (f, rest))
include hr hb ht

/-- A good frame that was not turned back is delivered. -/
theorem exec_skaleyFrameReturned_good {port : Nat} (rt : Nat) (hp : port < 2) (hl : (bitAt (getN b 1 1) 5 && f.type_ ≠ 0x0B) = false) :
    exec (.skaleyFrameReturned port true rt b) s = .next (sklDeliver f port rt b (onSkl (fun l => { l with flight := rest }) s)) := by
  show execSkaleyFrameReturned port true rt b s = _
  unfold execSkaleyFrameReturned
  rw [if_neg (by simp [hr]; omega), if_neg (by simp [hb])]
  extract_lets dir
  rw [ht]
  dsimp only
  rw [hl]
  rfl

theorem skaleyFrameReturned_sync (rt : Nat) (h1 : f.type_ = 1) (h0 : f.port = 0) (h5 : bitAt (getN b 1 1) 5 = false) (hd : s.skl.ring ≠ .down) :
    Completes (exec (.skaleyFrameReturned 1 true rt b) s) fun t => t.skl = { s.skl with flight := rest, syncA := true } ∧ Frame [.skl] s t := by
  obtain ⟨w, hw⟩ : ∃ w, w = onSkl (fun l => { l with flight := rest, syncA := true }) s := ⟨_, rfl⟩
  have hx : sklDeliver f 1 rt b (onSkl (fun l => { l with flight := rest }) s) = w := by
    rw [hw]
    unfold sklDeliver
    rw [h1]
    show syncReturned f.port 1 _ = _
    rw [h0]
    exact (if_neg (by decide)).trans (if_neg (by simp [hd]))
  rw [exec_skaleyFrameReturned_good hr hb ht rt (by decide) (by simp [h5]), completes_next, hx, hw]
  exact ⟨rfl, Frame.of_blank rfl⟩

theorem skaleyFrameReturned_delay {port : Nat} (rt : Nat) (hp : port < 2) (h1 : f.type_ = 0x0B) (h0 : f.port = 0) (hm : f.dest < s.skl.mons.length) :
    Completes (exec (.skaleyFrameReturned port true rt b) s) fun t => t.skl.flight = rest ∧
      (monAt t f.dest).rtA = (monAt s f.dest).rtA + rt ∧ (monAt t f.dest).rtAn = (monAt s f.dest).rtAn + 1 ∧
      ((monAt s f.dest).rtAn = 15 → (monAt t f.dest).delayA = some ((((monAt s f.dest).rtA + rt) / 16 - 800) / 2)) ∧ Frame ([.skl] ++ recordParts) s t := by
  obtain ⟨w, hw⟩ : ∃ w, w = delayReturned f.dest 0 rt (onSkl (fun l => { l with flight := rest }) s) := ⟨_, rfl⟩
  obtain ⟨p, hx⟩ : ∃ p, sklDeliver f port rt b (onSkl (fun l => { l with flight := rest }) s) = ringRel (17 + 2 * port) (ringPut (17 + 2 * port) p w) := by
    refine ⟨mkPacket f.type_ ((b.drop 8).take (getN b 6 2)), ?_⟩
    rw [hw]
    unfold sklDeliver
    rw [h1, h0]
    rfl
  have hskl : (ringRel (17 + 2 * port) (ringPut (17 + 2 * port) p w)).skl = w.skl := (ringRel_skl ..).trans (ringPut_skl ..)
  have hmon : monAt w f.dest = { monAt s f.dest with
      rtA := (monAt s f.dest).rtA + rt, rtAn := (monAt s f.dest).rtAn + 1
      delayA := if (monAt s f.dest).rtAn + 1 = 16 then some ((((monAt s f.dest).rtA + rt) / 16 - 800) / 2) else (monAt s f.dest).delayA } := by
    rw [hw]
    exact monAt_onMon_self (onSkl (fun l => { l with flight := rest }) s) _ hm
  rw [exec_skaleyFrameReturned_good hr hb ht rt hp (by simp [h1]), completes_next, hx]
  unfold monAt at hmon ⊢
  rw [hskl, hmon]
  refine ⟨by rw [hw]; rfl, rfl, rfl, fun h15 => if_pos (by rw [h15]), ?_⟩
  have hwb : blank ([.skl] ++ recordParts) w = blank ([.skl] ++ recordParts) s := by rw [hw]; rfl
  exact Frame.of_blank (((ringRel_blank (by decide) _ _).trans (ringPut_blank (by decide) _ _ _)).trans hwb)

theorem skaleyFrameReturned_turned {port : Nat} (rt : Nat) (hp : port < 2) (h1 : f.type_ ≠ 0x0B) (h5 : bitAt (getN b 1 1) 5 = true)
    (hring : s.skl.ring = .closed ∨ s.skl.ring = .down) (hpr : s.skl.probing = false) (hg : geoM s ≠ 0) :
    Completes (exec (.skaleyFrameReturned port true rt b) s) fun t => t.skl.probing = true ∧ t.skl.ring = s.skl.ring := by
  obtain ⟨w, hw⟩ : ∃ w, w = flightLost (onSkl (fun l => { l with flight := rest }) s) f := ⟨_, rfl⟩
  have hx : exec (.skaleyFrameReturned port true rt b) s = .next (startProbe w) := by
    rw [hw]
    show execSkaleyFrameReturned port true rt b s = _
    unfold execSkaleyFrameReturned
    rw [if_neg (by simp [hr]; omega), if_neg (by simp [hb])]
    extract_lets dir
    rw [ht]
    exact if_pos (by rcases hring with h | h <;> simp [h5, h1, h, hpr])
  obtain ⟨hcore, -, -⟩ := flightLost_linkKept (onSkl (fun l => { l with flight := rest }) s) f
  rw [← hw] at hcore
  have hgw : geoM w = geoM s := geoM_congr (by rw [hw, flightLost_cfg]; rfl)
  obtain ⟨k1, k2, -⟩ := startProbe_starts (s := w) ((congrArg LinkSt.probing hcore :).trans hpr) (by rw [hgw]; exact hg)
  rw [hx, completes_next]
  exact ⟨k1, k2.trans (congrArg LinkSt.ring hcore :)⟩

end

/-- A frame that does not come back in time. -/
theorem skaleyFrameTimeout_lost {s : State} {port : Nat} {f : SklFrame} {rest : List SklFrame} (hr : runsRing s = true)
    (hpr : s.skl.probing = false) (hg : geoM s ≠ 0)
    (ht : takeFirst (fun g => g.port = port && elapsed s g.at_ (lineNs g + 40000)) s.skl.flight = some (f, rest)) :
    Completes (exec (.skaleyFrameTimeout port) s) fun t => t.skl.probing = true ∧ t.skl.flight = rest.filter (fun g => g.type_ = 1) ∧
      (f.type_ = 7 → f.dest < s.skl.mons.length → (monAt s f.dest).lockinFails + 1 ≤ (monAt t f.dest).lockinFails) := by
  obtain ⟨v, hv⟩ : ∃ v, v = onSkl (fun l => { l with flight := rest }) s := ⟨_, rfl⟩
  obtain ⟨w, hw⟩ : ∃ w, w = flightLost v f := ⟨_, rfl⟩
  have hx : exec (.skaleyFrameTimeout port) s = .next (startProbe w) := by
    rw [hw, hv]
    show execSkaleyFrameTimeout port s = _
    unfold execSkaleyFrameTimeout
    rw [if_neg (by simp [hr]), ht]
    exact if_neg (by simp [hpr])
  obtain ⟨hcore, -, -⟩ := flightLost_linkKept v f
  rw [← hw] at hcore
  have hgw : geoM w = geoM s := geoM_congr (by rw [hw, flightLost_cfg, hv]; rfl)
  obtain ⟨k1, -, -, -, k2, k3⟩ := startProbe_starts (s := w) ((congrArg LinkSt.probing hcore :).trans (by rw [hv]; exact hpr))
    (by rw [hgw]; exact hg)
  rw [hx, completes_next]
  refine ⟨k1, k2.trans (congrArg (List.filter _) ((congrArg LinkSt.flight hcore :).trans (by rw [hv]; rfl))), fun h7 hm => ?_⟩
  have hl := flightLost_lockin v h7 (by rw [hv]; exact hm)
  have hmv : monAt v f.dest = monAt s f.dest := by rw [hv]; rfl
  rw [← hw, hmv] at hl
  have hle := k3 f.dest
  omega

/-- A port without carrier starts the search, or finds one running. -/
theorem startProbe_probing {s : State} (hg : geoM s ≠ 0) : (startProbe s).skl.probing = true ∧ (startProbe s).skl.carrierA = s.skl.carrierA ∧
    (startProbe s).skl.carrierB = s.skl.carrierB := by
  cases hp : s.skl.probing with
  | true => rw [startProbe_runs hp]; exact ⟨hp, rfl, rfl⟩
  | false =>
    obtain ⟨h1, -, h2, h3, -⟩ := startProbe_starts hp hg
    exact ⟨h1, h2, h3⟩

theorem skaleyCarrierLoss_searches {s : State} {port : Nat} (hp : port < 2) (hr : runsRing s = true) (hg : geoM s ≠ 0) :
    Completes (exec (.skaleyCarrierLoss port) s) fun t => t.skl.carrierA = (decide (port ≠ 0) && s.skl.carrierA) ∧
      t.skl.carrierB = (decide (port = 0) && s.skl.carrierB) ∧ t.skl.probing = true := by
  obtain ⟨w, hw⟩ : ∃ w, w = irqEvent (146 + port) true (onSkl (fun l => if port = 0 then { l with carrierA := false } else { l with carrierB := false }) s) :=
    ⟨_, rfl⟩
  have hx : exec (.skaleyCarrierLoss port) s = .next (startProbe w) := by
    rw [hw]
    exact if_neg (by simp [hr]; omega)
  have hcfg : w.cfg = s.cfg := by rw [hw, irqEvent_cfg]; rfl
  have hskl : w.skl = if port = 0 then { s.skl with carrierA := false } else { s.skl with carrierB := false } := by rw [hw, irqEvent_skl]; rfl
  obtain ⟨h1, h2, h3⟩ := startProbe_probing (s := w) (by rw [geoM_congr hcfg]; exact hg)
  rw [hx, completes_next, h1, h2, h3, hskl]
  by_cases h0 : port = 0
  · rw [if_pos h0]; exact ⟨by simp [h0], by simp [h0], rfl⟩
  · rw [if_neg h0]; exact ⟨by simp [h0], by simp [h0], rfl⟩

/-- Ten frames with both SYNCs heal the ring. -/
theorem ringHealed_heals {s : State} (hb : s.skl.broken = true) (hn : 10 ≤ s.skl.syncRun + b2n (s.skl.syncA && s.skl.syncB)) :
    Completes (exec .ringHealed s) fun t => t.skl.ring = .closed ∧ t.skl.broken = false ∧ t.skl.breakA = none ∧ t.skl.breakB = none ∧
      (∀ m < geoM s, (monAt t m).viaB = false) ∧ t.tab = s.tab := by
  obtain ⟨w, hw⟩ : ∃ w, w = (s |> onSkl (fun l => { l with
      ring := .closed, broken := false, probing := false, breakA := none, breakB := none, carrierA := true, carrierB := true }) |>
    onMons (fun m x => if m < geoM s then { x with viaB := false } else x)) := ⟨_, rfl⟩
  obtain ⟨u, hu⟩ : ∃ u, u = irqEvent 147 false (irqEvent 146 false w) := ⟨_, rfl⟩
  have hx : exec .ringHealed s = .next (log srcApp2 0x0402 1 (u32 (sinceNs s s.skl.brokenSince / 1000000)) u) := by
    rw [hu, hw]
    exact if_neg (by simp [hb]; omega)
  have hskl : (log srcApp2 0x0402 1 (u32 (sinceNs s s.skl.brokenSince / 1000000)) u).skl = w.skl := by
    rw [log_skl, hu, irqEvent_skl, irqEvent_skl]
  rw [hx, completes_next, log_tab, show u.tab = s.tab by rw [hu, irqEvent_tab, irqEvent_tab, hw]; rfl]
  unfold monAt
  rw [hskl, hw]
  refine ⟨rfl, rfl, rfl, rfl, fun m hm => ?_, rfl⟩
  show (nth ({} : Monitor) (mapI (fun m x => if m < geoM s then { x with viaB := false } else x) s.skl.mons) m).viaB = false
  by_cases hl : m < s.skl.mons.length
  · rw [nth_mapI ({} : Monitor) ({} : Monitor) _ hl, if_pos hm]
  · rw [nth_of_length_le _ (by rw [length_mapI]; omega)]

/-- Settles O39, over the frames that leave and return, the search for the break and its end. -/
theorem skaleyLink : Obligations.SkaleyLink :=
  ⟨fun _ _ _ _ hr hn _ hf => skaleyFrameLaunch_sends hr hn hf,
   fun _ _ _ _ hn hf => skaleyFrameLaunch_waits hn hf,
   fun _ _ rt _ hr hb => skaleyFrameReturned_bad rt hr hb,
   fun _ rt _ _ _ hr hb ht h1 h0 h5 hd => skaleyFrameReturned_sync hr hb ht rt h1 h0 h5 hd,
   fun _ _ rt _ _ _ hr hp hb ht h1 h0 hm => skaleyFrameReturned_delay hr hb ht rt hp h1 h0 hm,
   fun _ _ rt _ _ _ hr hp hb ht h1 h5 hring hpr hg => skaleyFrameReturned_turned hr hb ht rt hp h1 h5 hring hpr hg,
   fun _ _ _ _ hr hpr hg ht => skaleyFrameTimeout_lost hr hpr hg ht,
   fun _ hr hg => (skaleyCarrierLoss_searches (by decide : 0 < 2) hr hg).mono fun _ ⟨h1, h2, h3⟩ => ⟨h1, h2, h3⟩,
   fun _ hr hg => (skaleyCarrierLoss_searches (by decide : 1 < 2) hr hg).mono fun _ ⟨h1, h2, h3⟩ => ⟨h2, h1, h3⟩,
   fun _ hb hn => ringHealed_heals hb hn⟩

end Sys2Proof.Machine
end

section
/-! Stale cell data and on-demand snapshots (R208, R212, R213, R219, R378, R399). -/
namespace Sys2Proof.Machine

/-- A map by place leaves the entries its function leaves. -/
theorem nth_mapI_same {α : Type} {d : α} {f : Nat → α → α} {l : List α} {i : Nat} (h : f i (nth d l i) = nth d l i) :
    nth d (mapI f l) i = nth d l i := by
  by_cases hl : i < l.length
  · rw [nth_mapI d d _ hl, h]
  · rw [nth_of_length_le _ (by rw [length_mapI]; omega), nth_of_length_le _ (by omega)]

/-- A monitor becomes LOST unless it is REFUSED; positions and cells stay. -/
theorem loseMonitor_loses {s : State} {m : Nat} (h : m < s.skl.mons.length) :
    (monAt (loseMonitor m s) m).vStale = (monAt s m).vStale ∧
      (monAt (loseMonitor m s) m).state = (if (monAt s m).state = .refused then .refused else .lost) ∧
      (loseMonitor m s).tab.poss = s.tab.poss := by
  have hother : (monAt s m).state ≠ .refused → loseMonitor m s = log srcApp2 0x0404 2 (u16 m) (blankMonitor m (onMon m (fun x => { x with
      state := .lost, clockDue := false, lockin := x.lockin && x.lockinRead }) s)) → (monAt (loseMonitor m s) m).vStale = (monAt s m).vStale ∧
      (monAt (loseMonitor m s) m).state = (if (monAt s m).state = .refused then .refused else .lost) ∧
      (loseMonitor m s).tab.poss = s.tab.poss := by
    intro hr hx
    have hm := monAt_onMon_self s (fun x => { x with state := .lost, clockDue := false, lockin := x.lockin && x.lockinRead }) h
    rw [hx, if_neg hr, log_tab]
    unfold monAt at hm ⊢
    rw [log_skl, show (blankMonitor m _).skl = _ from Frame.of_blank (blankMonitor_blank (within_refl _) m _) .skl rfl, hm]
    exact ⟨rfl, rfl, rfl⟩
  cases he : (monAt s m).state with
  | refused =>
    have hx : loseMonitor m s = s := by unfold loseMonitor; rw [he]
    rw [hx, he]
    exact ⟨rfl, rfl, rfl⟩
  | lost =>
    have hx : loseMonitor m s = s := by unfold loseMonitor; rw [he]
    rw [hx, he]
    exact ⟨rfl, rfl, rfl⟩
  | _ => rw [← he]; exact hother (by rw [he]; decide) (by unfold loseMonitor; rw [he])

/-- A position without a new voltage for 25 ms, the first of its monitor. -/
theorem voltageStale_demands {s : State} {pos t0 : Nat} (ht : (nth {} s.tab.poss pos).vAt = some t0) (hm : placeOf pos < s.skl.mons.length)
    (hr : runsRing s = true) (hp : pos < geoP s) (hv : (nth {} s.tab.poss pos).vStale = false) (hmv : (monAt s (placeOf pos)).vStale = false)
    (he : elapsed s t0 (msNs 25) = true) :
    Completes (exec (.voltageStale pos) s) fun t => Demanded 8 0x0A08 0 false s t ∧ (monAt t (placeOf pos)).vStale = true ∧
      (monAt t (placeOf pos)).state = (if (monAt s (placeOf pos)).state = .refused then .refused else .lost) ∧
      (∀ p < s.tab.poss.length, placeOf p = placeOf pos → pastLimit s (nth {} s.tab.poss p).vAt (msNs 25) = true → (nth {} t.tab.poss p).vStale = true) ∧
      (∀ p, placeOf p ≠ placeOf pos → nth {} t.tab.poss p = nth {} s.tab.poss p) := by
  obtain ⟨v, hw⟩ : ∃ v, v = onPoss (fun p e => if placeOf p = placeOf pos && pastLimit s e.vAt (msNs 25) then { e with vStale := true } else e) s :=
    ⟨_, rfl⟩
  obtain ⟨w, hwm⟩ : ∃ w, w = onMon (placeOf pos) (fun x => { x with vStale := true }) v := ⟨_, rfl⟩
  obtain ⟨u, hu⟩ : ∃ u, u = log srcApp2 0x0409 3 (u16 pos) (loseMonitor (placeOf pos) w) := ⟨_, rfl⟩
  have hx : exec (.voltageStale pos) s = .next (sfDemand 8 0x0A08 0 false pos (sinceNs s t0 / 1000000) (some 25) u) := by
    have hpast : pastLimit s (nth {} s.tab.poss pos).vAt (msNs 25) = true := by rw [ht]; exact he
    rw [hu, hwm, hw]
    show execVoltageStale pos s = _
    unfold execVoltageStale
    extract_lets m e s1
    rw [if_neg (by simp [e, hr, hp, hv, hpast]), if_neg (by simp [m, hmv])]
    simp only [e, ht, Option.getD_some]
    rfl
  have hms : monAt v (placeOf pos) = monAt s (placeOf pos) := by rw [hw]; rfl
  have hwl : placeOf pos < v.skl.mons.length := by rw [hw]; exact hm
  have hmw : monAt w (placeOf pos) = { monAt s (placeOf pos) with vStale := true } := by
    rw [hwm, monAt_onMon_self v _ hwl, hms]
  obtain ⟨h1, h2, h3⟩ := loseMonitor_loses (s := w) (m := placeOf pos) (by rw [hwm]; exact Nat.lt_of_lt_of_eq hwl (length_updAt ..).symm)
  have hf := Frame.of_blank (loseMonitor_blank (within_refl _) (placeOf pos) w)
  have hstr : u.str = s.str := by rw [hu, log_str, show (loseMonitor _ w).str = _ from hf .str rfl, hwm, hw]; rfl
  have hprot : u.prot = s.prot := by rw [hu, log_prot, show (loseMonitor _ w).prot = _ from hf .prot rfl, hwm, hw]; rfl
  have htb : u.tb = s.tb := by rw [hu, log_tb, show (loseMonitor _ w).tb = _ from hf .tb rfl, hwm, hw]; rfl
  have hd := sfDemand_demanded u 8 0x0A08 0 false pos (sinceNs s t0 / 1000000) (some 25) (fun _ => Nat.zero_le _)
  have hposs : u.tab.poss = mapI (fun p e => if placeOf p = placeOf pos && pastLimit s e.vAt (msNs 25) then { e with vStale := true } else e) s.tab.poss := by
    rw [hu, log_tab, h3, hwm, hw]; rfl
  rw [hmw] at h1 h2
  rw [hx, completes_next, sfDemand_tab, hposs]
  unfold monAt at h1 h2 ⊢
  rw [sfDemand_skl, hu, log_skl, ← hu]
  refine ⟨hd.congr hstr.symm hprot.symm htb.symm rfl rfl, h1, h2, fun p hl hpl hpast => ?_, fun p hpl => ?_⟩
  · rw [nth_mapI ({} : PosEntry) ({} : PosEntry) _ hl, if_pos (by simp [hpl, hpast])]
  · exact nth_mapI_same (if_neg (by simp [hpl]))

/-- A cell without a new drop for 310 ms. -/
theorem dropStale_raises {s : State} {cell n t0 : Nat} (hn : n = geoS s) (h0 : n ≠ 0) (ht : (nth {} s.tab.cells cell).dAt = some t0)
    (hr : runsRing s = true) (hp : cell < geoP s * n) (hv : (nth {} s.tab.cells cell).dropStale = false) (hc : cell < s.tab.cells.length)
    (hl : cell / n < s.tab.poss.length) (he : elapsed s t0 (msNs 310) = true) :
    Completes (exec (.dropStale cell) s) fun t => (nth {} t.tab.cells cell).dropStale = true ∧ (nth {} t.tab.poss (cell / n)).dropStale = true ∧
      (monAt t (placeOf (cell / n))).state = (monAt s (placeOf (cell / n))).state ∧ nth true t.prot.twilight 3 = true ∧ t.str.state = s.str.state := by
  subst hn
  obtain ⟨v, hvv⟩ : ∃ v, v = onCells (fun c e => if placeOf (c / geoS s) = placeOf (cell / geoS s) && pastLimit s e.dAt (msNs 310) then
      { e with dropStale := true } else e) s := ⟨_, rfl⟩
  obtain ⟨w, hw⟩ : ∃ w, w = onPoss (fun p e => if placeOf p = placeOf (cell / geoS s) &&
      (List.range (geoS s)).any (fun k => (nth {} v.tab.cells (p * geoS s + k)).dropStale) then { e with dropStale := true } else e) v := ⟨_, rfl⟩
  obtain ⟨x, hxx⟩ : ∃ x, x = onMon (placeOf (cell / geoS s)) (fun x => { x with dStale := true }) w := ⟨_, rfl⟩
  obtain ⟨u, hu⟩ : ∃ u, u = if (monAt s (placeOf (cell / geoS s))).dStale then x else log srcApp2 0x040A 2 (u16 cell) x := ⟨_, rfl⟩
  have hx : exec (.dropStale cell) s = .next (raiseTw 3 u) := by
    have hpast : pastLimit s (nth {} s.tab.cells cell).dAt (msNs 310) = true := by rw [ht]; exact he
    rw [hu, hxx, hw, hvv]
    show execDropStale cell s = _
    unfold execDropStale
    extract_lets n m e s1 s2
    exact if_neg (by simp [e, n, hr, hp, hv, hpast, h0])
  have hcell : (nth {} v.tab.cells cell).dropStale = true := by
    rw [hvv]
    show (nth ({} : CellEntry) (mapI _ s.tab.cells) cell).dropStale = true
    rw [nth_mapI ({} : CellEntry) ({} : CellEntry) _ hc, if_pos (by rw [ht]; simpa [pastLimit] using he)]
  have hpos : (nth {} w.tab.poss (cell / geoS s)).dropStale = true := by
    rw [hw]
    show (nth ({} : PosEntry) (mapI _ v.tab.poss) (cell / geoS s)).dropStale = true
    have hlv : cell / geoS s < v.tab.poss.length := by rw [hvv]; exact hl
    rw [nth_mapI ({} : PosEntry) ({} : PosEntry) _ hlv, if_pos]
    have hk : cell % geoS s < geoS s := Nat.mod_lt _ (by omega)
    simp only [decide_true, Bool.true_and, List.any_eq_true, List.mem_range]
    exact ⟨cell % geoS s, hk, by rw [Nat.div_add_mod']; exact hcell⟩
  have hstate : (monAt x (placeOf (cell / geoS s))).state = (monAt s (placeOf (cell / geoS s))).state := by
    have hms : monAt w (placeOf (cell / geoS s)) = monAt s (placeOf (cell / geoS s)) := by rw [hw, hvv]; rfl
    rw [hxx]
    by_cases hlen : placeOf (cell / geoS s) < w.skl.mons.length
    · rw [monAt_onMon_self w _ hlen, hms]
    · rw [← hms]
      exact congrArg (fun l => (nth ({} : Monitor) l _).state) (updAt_of_length_le _ (by omega) : updAt _ w.skl.mons _ = _)
  have hcore : u.tab = x.tab ∧ u.skl = x.skl ∧ u.str = s.str := by
    have hstr : x.str = s.str := by rw [hxx, hw, hvv]; rfl
    rw [hu]
    split
    · exact ⟨rfl, rfl, hstr⟩
    · exact ⟨log_tab .., log_skl .., (log_str ..).trans hstr⟩
  obtain ⟨hutab, huskl, hustr⟩ := hcore
  have hf := Frame.of_blank (raiseTw_blank (within_refl _) 3 u)
  rw [hx, completes_next, show (raiseTw 3 u).tab = _ from hf .tab rfl, raiseTw_state, hutab, hustr]
  unfold monAt at hstate ⊢
  rw [show (raiseTw 3 u).skl = _ from hf .skl rfl, huskl]
  exact ⟨by rw [hxx, hw]; exact hcell, by rw [hxx]; exact hpos, hstate, raiseTw_armed 3 u, rfl⟩

/-- A sensor without a new temperature for 1,510 ms. -/
theorem tempStale_raises {s : State} {i t0 : Nat} (ht : (nth {} s.tab.temps i).tAt = some t0) (hfit : (nth {} s.tab.temps i).fitted = true)
    (hr : runsRing s = true) (hp : i / 8 < geoP s) (hs : (nth {} s.tab.temps i).stale = false) (hl : i < s.tab.temps.length)
    (he : elapsed s t0 (msNs 1510) = true) :
    Completes (exec (.tempStale i) s) fun t => nth true t.prot.twilight 4 = true ∧ (nth {} t.tab.temps i).stale = true ∧
      (nth {} t.tab.temps i).valid = false ∧ (nth {} t.tab.temps i).band = none := by
  have hpast : pastLimit s (nth {} s.tab.temps i).tAt (msNs 1510) = true := by rw [ht]; exact he
  obtain ⟨u, hx, hu⟩ : ∃ u, exec (.tempStale i) s = .next (thermScan (raiseTw 4 u)) ∧
      nth {} u.tab.temps i = { nth ({} : TempEntry) s.tab.temps i with stale := true, valid := false, band := none } := by
    show ∃ u, execTempStale i s = _ ∧ _
    unfold execTempStale
    extract_lets m e gone s1
    have h1 : nth {} s1.tab.temps i = { nth ({} : TempEntry) s.tab.temps i with stale := true, valid := false, band := none } := by
      show nth ({} : TempEntry) (mapI _ s.tab.temps) i = _
      rw [nth_mapI ({} : TempEntry) ({} : TempEntry) _ hl, if_pos (by simp only [gone]; simp [m, hfit, hpast])]
    rw [if_neg (by simp [e, hr, hp, hfit, hs, hpast])]
    refine ⟨_, rfl, ?_⟩
    split
    · exact h1
    · rw [log_tab]; exact h1
  rw [hx, completes_next, show (thermScan (raiseTw 4 u)).prot = (raiseTw 4 u).prot from rfl,
    show (thermScan (raiseTw 4 u)).tab = u.tab from (Frame.of_blank (raiseTw_blank (within_refl _) 4 u) .tab rfl : (raiseTw 4 u).tab = u.tab), hu]
  exact ⟨raiseTw_armed 4 u, rfl, rfl, rfl⟩

/-- Settles O40, over the stale voltages, drops and temperatures and the on-demand snapshot. -/
theorem skaleyStaleness : Obligations.SkaleyStaleness :=
  ⟨fun _ _ _ ht hm hr hp hv hmv he => voltageStale_demands ht hm hr hp hv hmv he,
   fun _ _ _ _ hn h0 ht hr hp hv hc hl he => dropStale_raises hn h0 ht hr hp hv hc hl he,
   fun _ _ _ ht hf hr hp hs hl he => tempStale_raises ht hf hr hp hs hl he,
   fun s r ho hr hg => by
    have hx : exec (.onDemandSnapshotRequest r) s =
        .next (respond r stOk [] (onSkl (fun l => { l with onDemand := some (65536, 0), onDemandV := [] }) s)) :=
      (if_neg (by simp [ho])).trans (if_neg (by simp [hr, hg]))
    have hskl : (respond r stOk [] (onSkl (fun l => { l with onDemand := some (65536, 0), onDemandV := [] }) s)).skl =
        { s.skl with onDemand := some (65536, 0), onDemandV := [] } := respond_frame r stOk [] _ .skl rfl
    rw [hx, completes_next, hskl]
    exact ⟨respond_answered_after r stOk [] (by decide) rfl rfl rfl, rfl, rfl⟩,
   fun s r _ ho => ⟨_, if_pos (by rw [ho]; rfl), respond_answered s r stBusy [] (by decide), respond_frame r stBusy [] s .skl rfl⟩⟩

end Sys2Proof.Machine
end

section
/-! The balancing cycle (R356 to R361). -/
namespace Sys2Proof.Machine

theorem to50_emod (i : Rat) : to50 i % 50 = 0 := by
  unfold to50
  split <;> omega

theorem to50_zero : to50 0 = 0 := by
  have h : ((0 : Rat) / 50).floor = 0 := by rw [zero_div]; rfl
  rw [to50, if_pos (le_refl _), h, zero_mul]

theorem mem_mapI {α β : Type} {f : Nat → α → β} {l : List α} {x : β} (h : x ∈ mapI f l) : ∃ i, ∃ a ∈ l, x = f i a := by
  rw [mapI_eq_mapIdx, List.mem_mapIdx] at h
  obtain ⟨i, hi, rfl⟩ := h
  exact ⟨i, l[i], List.getElem_mem hi, rfl⟩

section
variable (s : State)

/-- What the end of a campaign leaves of balancing: its currents and their numbers. -/
theorem endCampaign_bal (res : Nat) : (endCampaign res s).bal = { s.bal with campaign := none, result := res } := by
  unfold endCampaign
  extract_lets r
  rw [Frame.of_blank (endOp_blank (within_refl _) 4 stOk r _) .bal rfl]
  show (onBal (fun b => { b with campaign := none, result := _ }) (log _ _ _ _ _)).bal = _
  rw [onBal_bal, log_bal]
  rfl

theorem endCampaign_tab (res : Nat) : (endCampaign res s).tab = s.tab := by
  unfold endCampaign
  extract_lets r
  rw [Frame.of_blank (endOp_blank (within_refl _) 4 stOk r _) .tab rfl, Frame.of_blank (closeOp_blank (within_refl _) 4 stOk _) .tab rfl]
  rfl

theorem endCampaign_str (res : Nat) : (endCampaign res s).str = s.str := by
  unfold endCampaign
  extract_lets r
  rw [Frame.of_blank (endOp_blank (within_refl _) 4 stOk r _) .str rfl, Frame.of_blank (closeOp_blank (within_refl _) 4 stOk _) .str rfl]
  rfl

/-- The campaign judged after a schedule keeps the currents, their number and the tables. -/
theorem judgeCampaign_keeps : (judgeCampaign s).bal.pos = s.bal.pos ∧ (judgeCampaign s).bal.balId = s.bal.balId ∧ (judgeCampaign s).tab = s.tab := by
  unfold judgeCampaign
  split
  · exact ⟨rfl, rfl, rfl⟩
  · split
    · exact ⟨rfl, rfl, rfl⟩
    · extract_lets any n s1
      split
      · rw [endCampaign_bal, endCampaign_tab]
        exact ⟨rfl, rfl, rfl⟩
      · exact ⟨rfl, rfl, rfl⟩

/-- Every current of a schedule is a multiple of 50 mA, and 0 where balancing does not run. -/
theorem balCompute_pos : ∀ x ∈ (balCompute s).bal.pos, x.next % 50 = 0 ∧ (balRuns s = false → x.next = 0) := by
  unfold balCompute
  extract_lets ps el ref run db dev act raw sums cap scaled
  intro x hx
  have hmem : ∃ p, x.next = to50 (scaled p) := by
    rw [onBal_bal] at hx
    obtain ⟨p, y, -, rfl⟩ := mem_mapI hx
    exact ⟨p, rfl⟩
  obtain ⟨p, hp⟩ := hmem
  rw [hp]
  refine ⟨to50_emod _, fun hr => ?_⟩
  have hraw : raw p = 0 := if_neg (by simp [run, hr])
  have hsc : scaled p = 0 := by
    simp only [scaled]
    rw [hraw, zero_mul, ite_self]
  rw [hsc, to50_zero]

end

section
variable {s : State} (hr : runsRing s = true)
include hr

/-- The schedule computed after a whole second. -/
theorem balSchedule_sets (hc : s.tick.c = 3) (hf : 8 ≤ s.tick.f) (ht : s.tb.time % 1000000000 < 500000000) (hg : geoP s ≠ 0) :
    Completes (exec .balSchedule s) fun t => t.bal.balId = (s.bal.balId + 1) % 65536 ∧ t.bal.waiting = true ∧ t.bal.answers = [] ∧ t.tab.volt = s.tab.volt.release rdBal ∧
      (∀ x ∈ t.bal.pos, x.next % 50 = 0) ∧ (balRuns s = false → ∀ x ∈ t.bal.pos, x.next = 0) := by
  obtain ⟨u, hu⟩ : ∃ u, u = judgeCampaign (balCompute s) := ⟨_, rfl⟩
  have hx : exec .balSchedule s = .next (newSet u |> onTab fun t => { t with volt := t.volt.release rdBal, temp := t.temp.release rdBal }) := by
    rw [hu]
    exact if_neg (by simp [hr, hc, hg]; omega)
  obtain ⟨hpos, hid, htab⟩ := judgeCampaign_keeps (balCompute s)
  rw [← hu] at hpos hid htab
  rw [hx, completes_next]
  refine ⟨?_, rfl, rfl, ?_, fun x hm => ?_, fun hb x hm => ?_⟩
  · show (u.bal.balId + 1) % 65536 = _
    rw [hid]; rfl
  · show u.tab.volt.release rdBal = _
    rw [htab]; rfl
  · exact (balCompute_pos s x (hpos ▸ hm)).1
  · exact (balCompute_pos s x (hpos ▸ hm)).2 hb

/-- The set that waits takes effect; a place whose monitor is silent counts as 0 mA. -/
theorem balApplication_applies (hc : s.tick.c % 10 = 5) (hf : s.tick.f = 5) (hl : lockinIntegrates s = false) (hw : s.bal.waiting = true) :
    Completes (exec .balApplicationInstant s) fun t => t.bal.curId = s.bal.balId ∧ t.bal.waiting = false ∧ t.bal.deferred = false ∧
      t.bal.applyTime = some s.tb.time ∧
      (∀ p < s.bal.pos.length, nth false s.bal.monWatch (placeOf p) = true → (nth {} t.bal.pos p).cur = 0) := by
  have hx : exec .balApplicationInstant s = .next (applyBal s) :=
    (if_neg (by simp [hr, hc, hf])).trans (if_neg (by simp [hl]))
  have hlogs : ∀ (l : List Nat) (u : State), (l.foldl (fun t m => log srcApp2 0x0902 1 (u16 m ++ u16 t.bal.curId) t) u).bal = u.bal := by
    intro l
    induction l with
    | nil => exact fun _ => rfl
    | cons m l ih => exact fun u => (ih _).trans (log_bal ..)
  rw [hx, completes_next]
  unfold applyBal
  extract_lets mv silent s1
  rw [hlogs]
  refine ⟨if_pos hw, rfl, rfl, rfl, fun p hp hm => ?_⟩
  dsimp only [s1]
  rw [onBal_bal, nth_mapI ({} : BalPos) ({} : BalPos) _ hp, if_pos hm]

/-- Inside a lock-in integration the instant is deferred. -/
theorem balApplication_defers (hc : s.tick.c % 10 = 5) (hf : s.tick.f = 5) (hl : lockinIntegrates s = true) :
    Completes (exec .balApplicationInstant s) fun t => t.bal = { s.bal with deferred := true } ∧ Frame ([.bal] ++ recordParts) s t := by
  have hx : exec .balApplicationInstant s = .next (log srcApp2 0x0905 0 (u64 s.tb.time) (onBal (fun b => { b with deferred := true }) s)) :=
    (if_neg (by simp [hr, hc, hf])).trans (if_pos hl)
  rw [hx, completes_next, log_bal]
  exact ⟨rfl, Frame.of_blank (log_blank (by decide) _ _ _ _ _)⟩

/-- A monitor without a good block for 2,500 ms. -/
theorem balWatchdog_expires {m : Nat} (hm : m < geoM s) (hat : (monAt s m).balAt ≠ 0) (hw : nth false s.bal.monWatch m = false)
    (hl : m < s.bal.monWatch.length) (he : elapsed s (monAt s m).balAt (msNs 2500) = true) :
    Completes (exec (.balWatchdog m) s) fun t => nth false t.bal.monWatch m = true ∧ t.bal.watchdog = true ∧ t.bal.pos = s.bal.pos ∧
      Frame ([.bal] ++ recordParts) s t := by
  have hx : exec (.balWatchdog m) s = .next (log srcApp2 0x0903 2 (u16 m) (onBal (fun b => { b with
      monWatch := setAt b.monWatch m true, watchdog := true }) s)) := if_neg (by simp [hr, hm, hat, hw, he])
  rw [hx, completes_next, log_bal]
  exact ⟨nth_setAt_self false true hl, rfl, rfl, Frame.of_blank (log_blank (by decide) _ _ _ _ _)⟩

end

/-- A campaign that has run its time ends with result 2. -/
theorem bcTimeMax_ends {s : State} {c : Campaign} (hc : s.bal.campaign = some c) (hs : c.suspended = false) (ht : secNs (60 * c.timeMax) ≤ campaignTime s c) :
    Completes (exec .bcTimeMaxReached s) fun t => t.bal.campaign = none ∧ t.bal.result = 2 ∧ t.str = s.str := by
  obtain ⟨u, hu⟩ : ∃ u, u = endCampaign 2 s := ⟨_, rfl⟩
  have hx : exec .bcTimeMaxReached s = .next (balZero u) := by
    rw [hu]
    show execBcTimeMaxReached s = _
    unfold execBcTimeMaxReached
    rw [hc]
    exact if_pos (by simp [hs]; omega)
  have hbal : (balZero u).bal.campaign = u.bal.campaign ∧ (balZero u).bal.result = u.bal.result := by
    unfold balZero sendBal
    split
    · rw [show (queueBal _).bal = _ from Frame.of_blank (queueBal_blank (within_refl _) _) .bal rfl]
      exact ⟨rfl, rfl⟩
    · exact ⟨rfl, rfl⟩
  have hstr : (balZero u).str = u.str := Frame.of_blank (balZero_blank (within_refl _) u) .str rfl
  rw [hx, completes_next, hbal.1, hbal.2, hstr, hu, endCampaign_bal, endCampaign_str]
  exact ⟨rfl, rfl, rfl⟩

/-- Settles O41, over the schedule, its application, the watchdog and the campaign. -/
theorem balancingCycle : Obligations.BalancingCycle :=
  ⟨fun _ hr hc hf ht hg => balSchedule_sets hr hc hf ht hg,
   fun _ hr hc hf hl hw => balApplication_applies hr hc hf hl hw,
   fun _ hr hc hf hl => balApplication_defers hr hc hf hl,
   fun _ _ hr hm hat hw hl he => balWatchdog_expires hr hm hat hw hl he,
   fun _ _ hc hs ht => bcTimeMax_ends hc hs ht⟩

end Sys2Proof.Machine
end

section
/-! Impedance blocks, integrations, reduction and sweeps (R284, R287 to R297). -/
namespace Sys2Proof.Machine

/-! ### What the end of a block leaves -/

/-- What was published: the points, the time of the last block, the blocks skipped. -/
def impPub (s : State) : List ZPoint × Option Nat × Nat := (s.imp.points, s.imp.lastTime, s.imp.skipCnt)

theorem impPub_log (src code sev : Nat) (data : Bytes) (s : State) : impPub (log src code sev data s) = impPub s := by
  unfold impPub; rw [log_imp]

theorem nextBlock_keeps (s : State) : impPub (nextBlock s) = impPub s ∧ (nextBlock s).imp.exc = s.imp.exc := by
  unfold nextBlock
  split
  · exact ⟨rfl, rfl⟩
  · split
    · exact ⟨rfl, rfl⟩
    · extract_lets due counts
      rw [show (endOp _ _ _ _).imp = _ from Frame.of_blank (endOp_blank (within_refl _) 3 stOk _ _) .imp rfl, log_imp]
      refine ⟨?_, rfl⟩
      unfold impPub
      rw [show (endOp _ _ _ _).imp = _ from Frame.of_blank (endOp_blank (within_refl _) 3 stOk _ _) .imp rfl, log_imp]
      rfl

theorem usePoint_impPub (endAt : Nat) (s : State) (z : ZPoint) : impPub (usePoint endAt s z) = impPub s := by
  unfold usePoint
  extract_lets negFirst s1 s2
  have h1 : impPub s1 = impPub s := by
    dsimp only [s1]
    split
    · exact impPub_log ..
    · rfl
  have h2 : impPub s2 = impPub s1 := by
    dsimp only [s2]
    split
    · unfold impPub
      rw [show (useTTone z endAt s1).imp = _ from Frame.of_blank (useTTone_blank (within_refl _) z endAt s1) .imp rfl]
    · rfl
  split
  · exact h1
  · split
    · exact h2.trans h1
    · exact h2.trans h1

theorem usePoints_impPub (endAt : Nat) (l : List ZPoint) (s : State) : impPub (l.foldl (usePoint endAt) s) = impPub s := by
  induction l generalizing s with
  | nil => rfl
  | cons z l ih => exact (ih _).trans (usePoint_impPub endAt s z)

theorem usePoints_skl (endAt : Nat) (l : List ZPoint) (s : State) : (l.foldl (usePoint endAt) s).skl = s.skl := by
  induction l generalizing s with
  | nil => rfl
  | cons z l ih => exact (ih _).trans (Frame.of_blank (usePoint_blank (within_refl _) endAt s z) .skl rfl)

/-! ### The start of a block -/

theorem le_frameUp {now t : Nat} (h : now ≤ t) : t ≤ frameUp now t := by
  unfold frameUp
  have := Nat.div_add_mod (t - now + 999999) 1000000
  have := Nat.mod_lt (t - now + 999999) (by decide : 0 < 1000000)
  omega

/-- START_FRAME of a block that fades in leaves time for fade-in and settling. -/
theorem startFrameAt_settled (s : State) (b : PlanBlock) : s.tick.now + 20000000 + settleNs b ≤ startFrameAt s b none := by
  unfold startFrameAt
  extract_lets now a third sent
  have ha : a = s.tick.now + 20000000 + settleNs b := rfl
  have hle : a ≤ max a (max third sent) := le_max_left _ _
  exact ha ▸ hle.trans (le_frameUp (le_trans (by omega) hle))

section
variable {s : State} {w : Sweep} (hw : s.imp.sweep = some w)
include hw

section
variable (h1 : w.st = 1) (h0 : w.startAt = 0) (hb : w.notBefore ≤ s.tick.now) (hrun : s.str.state = .run)
  (hsp : isSp s = false) (hj : s.tick.j = 0) (hl : s.skl.lockinOn = false) (he : s.imp.exc = none) (hk : w.keep = none)
include h1 h0 hb hrun hsp hj hl he hk

/-- A block whose excitation the envelope bears starts it. -/
theorem impedanceBlockStart_starts (ha : 2 * ampSum (sweepBlock s w).tones ≤ s.dsp.appChg + s.dsp.appDis) (hn : 3 ≤ enabledN s) :
    Completes (exec .impedanceBlockStart s) fun t => t.imp.plan = some w.plan ∧
      t.imp.exc = some { tones := (sweepBlock s w).tones, t0 := startFrameAt s (sweepBlock s w) none, since := s.tick.now } ∧
      t.imp.sweep = some { w with startAt := startFrameAt s (sweepBlock s w) none, lockSent := false, keep := none, srcChanged := false, dcMoved := 0 } ∧
      s.tick.now + 20000000 + settleNs (sweepBlock s w) ≤ startFrameAt s (sweepBlock s w) none ∧ Frame [.imp] s t := by
  have hx : exec .impedanceBlockStart s = .next (s |> onImp fun i => { i with
      sweep := some { w with startAt := startFrameAt s (sweepBlock s w) none, lockSent := false, keep := none, srcChanged := false, dcMoved := 0 }
      plan := some w.plan
      exc := some { tones := (sweepBlock s w).tones, t0 := startFrameAt s (sweepBlock s w) none, since := s.tick.now } }) := by
    show execImpedanceBlockStart s = _
    unfold execImpedanceBlockStart
    rw [hw]
    dsimp only
    rw [if_neg (by simp [h1, h0, hrun, hsp, hj, hl, he]; omega), if_neg (by simp only [Bool.or_eq_true, decide_eq_true_eq, not_or, not_lt]; exact ⟨ha, hn⟩), hk]
  rw [hx, completes_next]
  exact ⟨rfl, rfl, rfl, startFrameAt_settled s _, Frame.of_blank rfl⟩

omit hk in
/-- A block without headroom is skipped, its points flagged. -/
theorem impedanceBlockStart_skips (ha : s.dsp.appChg + s.dsp.appDis < 2 * ampSum (sweepBlock s w).tones ∨ enabledN s < 3) :
    Completes (exec .impedanceBlockStart s) fun t => t.imp.exc = none ∧ t.imp.skipCnt = satInc 32 s.imp.skipCnt ∧
      (∀ z ∈ t.imp.points, z.tone ∈ (sweepBlock s w).tones.map (·.1) → z.headroom = true ∧ z.valid = false) := by
  have hx : exec .impedanceBlockStart s = .next (skipBlock s) := by
    show execImpedanceBlockStart s = _
    unfold execImpedanceBlockStart
    rw [hw]
    dsimp only
    rw [if_neg (by simp [h1, h0, hrun, hsp, hj, hl, he]; omega), if_pos (by simpa using ha)]
  have hskip : (skipBlock s).imp.exc = none ∧ impPub (skipBlock s) = ((s.imp.points.filter fun z => !(((sweepBlock s w).tones.map (·.1)).contains z.tone)) ++
      ((List.range (geoP s)).flatMap fun p => ((sweepBlock s w).tones.map (·.1)).map fun t => ({ pos := p, tone := t, headroom := true, missing := false } : ZPoint)),
      s.imp.lastTime, satInc 32 s.imp.skipCnt) := by
    unfold skipBlock
    rw [hw]
    dsimp -zeta only
    extract_lets tones pts w1
    rw [(nextBlock_keeps _).1, (nextBlock_keeps _).2, impPub_log, log_imp]
    exact ⟨congrArg (fadeOutAt s.tick.now) he, rfl⟩
  obtain ⟨hexc, hpub⟩ := hskip
  rw [hx, completes_next]
  refine ⟨hexc, (congrArg (·.2.2) hpub :), ?_⟩
  rw [show (skipBlock s).imp.points = _ from (congrArg (·.1) hpub :)]
  intro z hz ht
  rw [List.mem_append] at hz
  rcases hz with hz | hz
  · rw [List.mem_filter] at hz
    exact absurd ht (by simpa using hz.2)
  · obtain ⟨p, -, hz⟩ := List.mem_flatMap.mp hz
    obtain ⟨t, -, rfl⟩ := List.mem_map.mp hz
    exact ⟨rfl, rfl⟩

end

variable (hsp : isSp s = false)
include hsp

/-- At START_FRAME the block integrates. -/
theorem lockinIntegrationStart_starts (h1 : w.st = 1) (h0 : w.startAt ≠ 0) (ht : w.startAt ≤ s.tick.now) :
    Completes (exec .lockinIntegrationStart s) fun t => Frame [.imp] s t ∧
      t.imp.sweep = some { w with st := 2, dc0 := roundAway s.dsp.ref, dcMoved := 0, src0 := s.met.srcDs1, srcChanged := false } := by
  have hx : exec .lockinIntegrationStart s = .next (s |> onImp fun i => { i with
      sweep := some { w with st := 2, dc0 := roundAway s.dsp.ref, dcMoved := 0, src0 := s.met.srcDs1, srcChanged := false } }) := by
    show execLockinIntegrationStart s = _
    unfold execLockinIntegrationStart
    rw [hw]
    exact if_neg (by simp [hsp, h1, h0]; omega)
  rw [hx, completes_next]
  exact ⟨Frame.of_blank rfl, rfl⟩

/-- A block whose current moved is repeated. -/
theorem lockinIntegrationEnd_repeats (h2 : w.st = 2) (ht : w.startAt + (sweepBlock s w).length * 50000 ≤ s.tick.now)
    (hm : s.cfg.imp.dcStepMax * s.cfg.conv.iRated < w.dcMoved * 10000 ∨ w.srcChanged = true) (hr : w.repeats < 2) :
    Completes (exec .lockinIntegrationEnd s) fun t => t.imp.retryCnt = satInc 32 s.imp.retryCnt ∧ t.imp.exc = s.imp.exc ∧
      t.imp.sweep = some { w with st := 3, again := true, repeats := w.repeats + 1, keep := some s.tick.now, endAt := s.tick.now } := by
  obtain ⟨data, hx⟩ : ∃ data, exec .lockinIntegrationEnd s = .next (log srcApp1 0x0621 0 data (s |> onImp (fun i => { i with
      sweep := some { w with st := 3, again := true, repeats := w.repeats + 1, keep := some s.tick.now, endAt := s.tick.now }
      retryCnt := satInc 32 i.retryCnt }))) := by
    show ∃ data, execLockinIntegrationEnd s = _
    unfold execLockinIntegrationEnd
    rw [hw]
    dsimp -zeta only
    extract_lets b moved bad
    have hbad : bad = true := by rcases hm with h | h <;> simp [bad, moved, h]
    exact ⟨_, (if_neg (by simp [hsp, h2, b]; omega)).trans (if_pos (by simp [hbad, hr]))⟩
  rw [hx, completes_next, log_imp]
  exact ⟨rfl, rfl, rfl⟩

/-- The last block's integration ends and its excitation fades out. -/
theorem lockinIntegrationEnd_ends (h2 : w.st = 2) (ht : w.startAt + (sweepBlock s w).length * 50000 ≤ s.tick.now)
    (hm : w.dcMoved * 10000 ≤ s.cfg.imp.dcStepMax * s.cfg.conv.iRated) (hc : w.srcChanged = false)
    (hlast : (planBlocks s w.plan).drop (w.block + 1) = []) :
    Completes (exec .lockinIntegrationEnd s) fun t => Frame [.imp] s t ∧ t.imp.exc = fadeOutAt s.tick.now s.imp.exc ∧
      t.imp.sweep = some { w with st := 3, drift := false, keep := none, endAt := s.tick.now, endTime := s.tb.time } := by
  have hx : exec .lockinIntegrationEnd s = .next (s |> onImp fun i => { i with
      sweep := some { w with st := 3, drift := false, keep := none, endAt := s.tick.now, endTime := s.tb.time }
      exc := fadeOutAt s.tick.now i.exc }) := by
    show execLockinIntegrationEnd s = _
    unfold execLockinIntegrationEnd
    rw [hw]
    dsimp -zeta only
    extract_lets b moved bad next same
    have hbad : bad = false := by simp [bad, moved, hc]; omega
    have hsame : same = false := by simp only [same, next, hlast]
    rw [if_neg (by simp [hsp, h2, b]; omega), if_neg (by simp [hbad]), hbad, hsame]
    rfl
  rw [hx, completes_next]
  exact ⟨Frame.of_blank rfl, rfl, rfl⟩

section
variable (hst : w.st = 3 ∨ w.st = 4) (ht : w.endAt + 1000000 ≤ s.tick.now) (hl : s.skl.lockinOn = true → lockinOver s = true)
include hst ht hl

omit hw in
/-- The guard of the reduction: the results are there. -/
theorem reduction_ready : ¬(isSp s || (w.st ≠ 3 && w.st ≠ 4) || s.tick.now < w.endAt + 1000000 || (s.skl.lockinOn && !(lockinOver s))) = true := by
  have hlo : (s.skl.lockinOn && !(lockinOver s)) = false := by
    cases h : s.skl.lockinOn with
    | true => rw [hl h]; rfl
    | false => rfl
  rcases hst with h | h <;> simp [hsp, h, hlo, Nat.not_lt.mpr ht]

/-- Results of an integration to be repeated are dropped. -/
theorem impedanceReduction_drops (ha : w.again = true) :
    Completes (exec .impedanceReduction s) fun t => Frame [.skl, .imp] s t ∧ t.skl.lockinOn = false ∧ t.imp.points = s.imp.points ∧
      t.imp.sweep = some { w with st := 1, startAt := 0, lockSent := false, again := false } := by
  obtain ⟨u, hu, hx⟩ : ∃ u, u = (if s.skl.lockinOn then s |> onSkl (fun l => { l with lockinOn := false }) |>
      onImp (fun i => { i with lastLockinEnd := s.tick.now }) else s) ∧ exec .impedanceReduction s = .next (u |> onImp fun i => { i with
      sweep := some { w with st := 1, startAt := 0, lockSent := false, again := false } }) := by
    refine ⟨_, rfl, ?_⟩
    show execImpedanceReduction s = _
    unfold execImpedanceReduction
    rw [hw]
    exact (if_neg (reduction_ready hsp hst ht hl)).trans (if_pos ha)
  rw [hx, completes_next]
  by_cases h : s.skl.lockinOn = true
  · rw [if_pos h] at hu
    rw [hu]
    exact ⟨Frame.of_blank rfl, rfl, rfl, rfl⟩
  · rw [if_neg h] at hu
    rw [hu]
    exact ⟨Frame.of_blank rfl, by simpa using h, rfl, rfl⟩

/-- The points of a block replace those of its tones. -/
theorem impedanceReduction_publishes (ha : w.again = false) :
    Completes (exec .impedanceReduction s) fun t => t.skl.lockinOn = false ∧ t.imp.lastTime = some w.endTime ∧
      t.imp.points = (s.imp.points.filter fun z => !(((sweepBlock s w).tones.map (·.1)).contains z.tone)) ++
        ((List.range (geoP s)).flatMap fun p => mapI (fun k (f : Nat × Nat) =>
          reducePoint s w (nth (0, 0) (blockCurrents s (sweepBlock s w)) k) k f.1 f.2 p) (sweepBlock s w).tones) := by
  obtain ⟨u, pts, hskl, hu, hx⟩ : ∃ u pts, u.skl.lockinOn = false ∧ impPub u = ((s.imp.points.filter fun z => !(((sweepBlock s w).tones.map (·.1)).contains z.tone)) ++
        ((List.range (geoP s)).flatMap fun p => mapI (fun k (f : Nat × Nat) =>
          reducePoint s w (nth (0, 0) (blockCurrents s (sweepBlock s w)) k) k f.1 f.2 p) (sweepBlock s w).tones), some w.endTime, s.imp.skipCnt) ∧
      exec .impedanceReduction s = .next (nextBlock (List.foldl (usePoint w.endAt) u pts)) := by
    show ∃ u pts, _ ∧ _ ∧ execImpedanceReduction s = _
    unfold execImpedanceReduction
    rw [hw]
    dsimp only
    rw [if_neg (reduction_ready hsp hst ht hl), if_neg (by simp [ha])]
    by_cases h : s.skl.lockinOn = true
    · rw [if_pos h]
      exact ⟨_, _, rfl, rfl, rfl⟩
    · rw [if_neg h]
      refine ⟨_, _, ?_, ?_, rfl⟩
      · exact (Bool.not_eq_true s.skl.lockinOn).mp h
      · rfl
  have hpub : impPub (nextBlock (List.foldl (usePoint w.endAt) u pts)) = impPub u :=
    (nextBlock_keeps _).1.trans (usePoints_impPub ..)
  have hskl' : (nextBlock (List.foldl (usePoint w.endAt) u pts)).skl = u.skl :=
    (Frame.of_blank (nextBlock_blank (within_refl _) _) .skl rfl : _ = _).trans (usePoints_skl ..)
  rw [hu] at hpub
  rw [hx, completes_next, hskl']
  exact ⟨hskl, (congrArg (·.2.1) hpub :), (congrArg (·.1) hpub :)⟩

end

end

/-- Settles O42, over the blocks, their integrations and reduction, the automatic sweep and an old internal temperature. -/
theorem impedanceSweeps : Obligations.ImpedanceSweeps :=
  ⟨fun _ _ hw h1 h0 hb hrun hsp hj hl he ha hn hk => impedanceBlockStart_starts hw h1 h0 hb hrun hsp hj hl he hk ha hn,
   fun _ _ hw h1 h0 hb hrun hsp hj hl he _ ha => impedanceBlockStart_skips hw h1 h0 hb hrun hsp hj hl he ha,
   fun _ _ hsp hw h1 h0 ht => lockinIntegrationStart_starts hw hsp h1 h0 ht,
   fun _ _ hsp hw h2 ht hm hr => lockinIntegrationEnd_repeats hw hsp h2 ht hm hr,
   fun _ _ hsp hw h2 ht hm hc hlast => lockinIntegrationEnd_ends hw hsp h2 ht hm hc hlast,
   fun _ _ hsp hw hst ht hl ha => impedanceReduction_drops hw hsp hst ht hl ha,
   fun _ _ hsp hw hst ht hl ha => impedanceReduction_publishes hw hsp hst ht hl ha,
   fun s t0 hd ht hrun hsp hb hp => by
    have hx : exec .autoSweepDue s = .next (sweepStart s.cfg.imp.autoPlan 0 s |> onImp fun i => { i with
        autoDue := some (s.tick.now + secNs (60 * s.cfg.imp.autoPeriod)), nextAuto := some (s.tb.time + secNs (60 * s.cfg.imp.autoPeriod)) }) := by
      show execAutoSweepDue s = _
      unfold execAutoSweepDue
      rw [hd]
      exact if_neg (by simp [hrun, hsp, hb]; omega)
    rw [hx, completes_next]
    exact ⟨rfl, rfl, Frame.of_blank rfl⟩,
   fun s p hsp hi hp he => by
    have hx : exec (.tIntExpired p) s = .next (s |> onPos p (fun e => { e with tInt := none, fl := { e.fl with tFromSensors := true } })
        |> onCells fun c x => if isCellOf s p c then { x with tInt := none, fl := { x.fl with tFromSensors := true } } else x) :=
      if_neg (by simp [hsp, hi, he])
    have hq : nth {} (updAt (fun e => { e with tInt := none, fl := { e.fl with tFromSensors := true } }) s.tab.poss p) p =
        { nth ({} : PosEntry) s.tab.poss p with tInt := none, fl := { (nth ({} : PosEntry) s.tab.poss p).fl with tFromSensors := true } } :=
      nth_updAt_self _ _ hp
    rw [hx, completes_next]
    exact ⟨(congrArg PosEntry.tInt hq :), (congrArg (·.fl.tFromSensors) hq :), fun q hne => nth_updAt_ne _ _ _ hne, Frame.of_blank rfl⟩⟩

end Sys2Proof.Machine
end

section
/-! Datagrams of the host (R437 to R439, R442, R444, R456, R457). -/
namespace Sys2Proof.Machine

/-! ### Sessions -/

section
variable {s : State} {id : Nat}

theorem findSession_id {x : Session} (h : findSession s id = some x) : x.id = id := by
  have := List.find?_some h
  simpa using this

theorem findSession_congr {t : State} (h : t.host.sessions = s.host.sessions) (id : Nat) : findSession t id = findSession s id := by
  unfold findSession; rw [h]

/-- A change of the session of a number that keeps its number is found there. -/
theorem findSession_onSession {g : Session → Session} (hg : ∀ x, (g x).id = x.id) (s : State) :
    findSession (onSession id g s) id = (findSession s id).map g := by
  obtain ⟨f, hf⟩ : ∃ f, f = fun x : Session => if x.id = id then g x else x := ⟨_, rfl⟩
  have hfid : ∀ x, (f x).id = x.id := by
    intro x
    rw [hf]
    dsimp only
    split
    · exact hg x
    · rfl
  have hmap : (onSession id g s).host.sessions.filterMap (fun o => o) = (s.host.sessions.filterMap fun o => o).map f := by
    show (s.host.sessions.map fun o => o.map fun x => if x.id = id then g x else x).filterMap (fun o => o) = _
    rw [← hf, List.filterMap_map, List.map_filterMap]
    rfl
  unfold findSession
  rw [hmap, List.find?_map]
  have hp : (fun x : Session => decide (x.id = id)) ∘ f = fun x => decide (x.id = id) := by
    funext x; simp only [Function.comp_apply, hfid]
  rw [hp]
  cases h : (s.host.sessions.filterMap fun o => o).find? (fun x => decide (x.id = id)) with
  | none => rfl
  | some x =>
    have hx : x.id = id := by simpa using List.find?_some h
    rw [Option.map_some, Option.map_some, hf]
    exact congrArg some (if_pos hx)

end

/-! ### Refusals -/

/-- An answer of one fragment that no session keeps. -/
theorem answerOnce_answered (s : State) (r : HostReq) (status : Nat) (payload : Bytes) (h : payload.length ≤ 1400) :
    Answered r r.code status payload s (answerOnce r status payload s) := by
  obtain ⟨d, hd, k⟩ := responseDgrams_one s r status payload h
  refine ⟨d, (sendDgram_sent (countStatus status s) (4 + intakeRing r.code) d).congr ?_ ?_ ?_ ?_, k⟩
  · exact (countStatus_out ..).symm
  · exact (countStatus_tb ..).symm
  · exact (countStatus_cfg ..).symm
  · rw [answerOnce, hd]; rfl

theorem countStatus_sessions (status : Nat) (s : State) : (countStatus status s).host.sessions = s.host.sessions := by
  unfold countStatus
  extract_lets bump
  (repeat' split) <;> rfl

/-- An answer counts its status and changes nothing else of the host's part. -/
theorem answerOnce_host (r : HostReq) (status : Nat) (payload : Bytes) (s : State) :
    (answerOnce r status payload s).host = (countStatus status s).host := by
  have hsend : ∀ (l : List Dgram) (n : Nat) (u : State), (l.foldl (fun t d => sendDgram n d t) u).host = u.host := by
    intro l n
    induction l with
    | nil => exact fun _ => rfl
    | cons d l ih => exact fun u => (ih _).trans (Frame.of_blank (sendDgram_blank (within_refl _) n d u) .host rfl)
  rw [answerOnce, hsend]

theorem answerOnce_sessions (r : HostReq) (status : Nat) (payload : Bytes) (s : State) :
    (answerOnce r status payload s).host.sessions = s.host.sessions := by
  rw [answerOnce_host, countStatus_sessions]

theorem authFailed_sessions (addr slot : Nat) (s : State) : (authFailed addr slot s).host.sessions = s.host.sessions := by
  unfold authFailed
  extract_lets g r s1
  split
  · rw [log_host]; rfl
  · rfl

/-- An answer AUTH after work that sent nothing. -/
theorem answerAuth_answers {s u : State} (r : HostReq) (hout : u.out = s.out) (htb : u.tb = s.tb) (hcfg : u.cfg = s.cfg)
    (hs : u.host.sessions = s.host.sessions) :
    Answered { r with session := 0 } r.code stAuth [] s (answerAuth r u) ∧ (answerAuth r u).host.sessions = s.host.sessions :=
  ⟨(answerOnce_answered u { r with session := 0 } stAuth [] (by decide)).congr hout.symm htb.symm hcfg.symm rfl,
    (answerOnce_sessions ..).trans hs⟩

theorem authFailed_frame (addr slot : Nat) (s : State) : Frame [.deferred, .host, .irq, .rings, .logFreeze, .rung] s (authFailed addr slot s) :=
  Frame.of_blank (authFailed_blank (within_refl _) addr slot s)

/-! ### Frames that wait -/

theorem RxDgram.ring_intake (d : RxDgram) : d.ring < 40 ∨ 47 < d.ring := by
  unfold RxDgram.ring intakeRing
  (repeat' split) <;> omega

theorem length_toLe (n v : Nat) : (toLe n v).length = n := by
  induction n generalizing v with
  | zero => rfl
  | succ n ih => exact congrArg (· + 1) (ih _)

/-- A frame that its ring takes waits there; nothing leaves. -/
theorem queueDgram_queues {d : RxDgram} {s : State} (hl : d.ring < s.rings.rings.length) (hf : ringLoaded s d = false) :
    (queueDgram d s).host = { s.host with arrived := s.host.arrived + 1 } ∧
      (ringAt (queueDgram d s) d.ring).pkts = (ringAt s d.ring).pkts ++ [{ d with no := s.host.arrived + 1 }.packet] ∧
      (queueDgram d s).out = s.out := by
  obtain ⟨w, hw⟩ : ∃ w, w = onHost (fun h => { h with arrived := h.arrived + 1 }) s := ⟨_, rfl⟩
  obtain ⟨u, hu⟩ : ∃ u, u = ringPut d.ring { d with no := s.host.arrived + 1 }.packet w := ⟨_, rfl⟩
  have hq : queueDgram d s = wakeForHost u := by rw [hu, hw]; rfl
  have hfits : (ringAt w d.ring).fits ({ d with no := s.host.arrived + 1 } : RxDgram).packet.len = true := by
    have hlen : ({ d with no := s.host.arrived + 1 } : RxDgram).packet.len = d.packet.len := by
      unfold RxDgram.packet mkPacket wordsOf
      simp [u64, length_toLe]
    rw [hlen, hw]
    unfold ringLoaded at hf
    simp only [Bool.or_eq_false_iff, Bool.not_eq_false'] at hf
    exact hf.2
  have hput : ringAt u d.ring = (ringAt w d.ring).commit ({ d with no := s.host.arrived + 1 } : RxDgram).packet := by
    rw [hu]
    exact ringAt_ringPut_self d.ring_intake (by rw [hw]; exact hl) hfits
  have hwake : ringAt (wakeForHost u) d.ring = ringAt u d.ring := by
    unfold wakeForHost setRung
    split
    · split
      · rfl
      · exact ringAt_log d.ring_intake (by decide) ..
    · rfl
  have hf2 := Frame.of_blank (wakeForHost_blank (within_refl _) u)
  have hhost : u.host = w.host := by rw [hu, ringPut_host]
  have hout : u.out = w.out := by rw [hu, ringPut_out]
  rw [hq, show (wakeForHost u).host = _ from hf2 .host rfl, show (wakeForHost u).out = _ from hf2 .out rfl, hwake, hput, Ring.commit_pkts, hhost, hout, hw]
  exact ⟨rfl, rfl, rfl⟩

/-! ### Reception -/

section
variable {s : State} {d : RxDgram}

/-- A request of the right form on a port that is served is received. -/
theorem exec_hostDatagram_request (hn : netUp s = true) (hp : portServes s d.port = true) (hf : d.formOk = true) (hk : d.kind = 1)
    (hsrc : d.session ≠ 0 ∨ sourceOk s d.port d.addr = true) :
    exec (.hostDatagramReceived d.port d.addr d.udp d.bytes) s = .next (receiveRequest { d with no := 0 } s) := by
  have h1 : ({ d with no := 0 } : RxDgram).formOk = true := hf
  have h2 : ({ d with no := 0 } : RxDgram).kind = 1 := hk
  have h3 : ({ d with no := 0 } : RxDgram).session = d.session := rfl
  show Host.Outcome.next (receiveDgram { d with no := 0 } s) = _
  unfold receiveDgram
  rw [if_neg, if_pos h2]
  rcases hsrc with h | h
  · simp [hn, hp, h1, h3, h]
  · simp [hn, hp, h1, h]

/-- A request in an open session whose `SEQ` is new and that its ring takes. -/
theorem receiveRequest_accepted {x : Session} (h0 : d.session ≠ 0) (hx : findSession s d.session = some x) (hst : x.state = 2)
    (hport : x.port = d.port) (haddr : x.addr = d.addr) (hudp : x.udp = d.udp) (hc : x.cache.any (fun c => c.seq = d.seq) = false)
    (hwait : x.waiting.contains d.seq = false) (hseen : x.seen.contains d.seq = false) (hh : x.highest < d.seq)
    (hroom : x.waiting.length < 16) (hring : ringLoaded s d = false) (hl : d.ring < s.rings.rings.length)
    (htag : d.tag = fixLen 16 (Config.hmacSha256 x.key (d.bytes.take (24 + d.len)))) :
    (∃ y, findSession (receiveRequest d s) d.session = some y ∧ y.highest = d.seq ∧ y.waiting = x.waiting ++ [d.seq] ∧ y.lastFrame = s.tick.now) ∧
      (receiveRequest d s).host.arrived = s.host.arrived + 1 ∧
      (ringAt (receiveRequest d s) d.ring).pkts = (ringAt s d.ring).pkts ++ [{ d with no := s.host.arrived + 1 }.packet] ∧
      (receiveRequest d s).out = s.out := by
  have hid := findSession_id hx
  obtain ⟨a, ha⟩ : ∃ a, a = onSession d.session (fun y => { y with lastFrame := s.tick.now }) s := ⟨_, rfl⟩
  obtain ⟨b, hb⟩ : ∃ b, b = onSession d.session (fun y => { y with
      highest := max x.highest d.seq, seen := ((d.seq :: y.seen).filter fun v => decide (max x.highest d.seq ≤ v + 63)), waiting := y.waiting ++ [d.seq] }) a := ⟨_, rfl⟩
  obtain ⟨w, hw⟩ : ∃ w, w = onHost (fun h => { h with cnt := updAt (satInc 32) h.cnt 0 }) b := ⟨_, rfl⟩
  have hrx : receiveRequest d s = seqRequest { x with lastFrame := s.tick.now } d a := by
    unfold receiveRequest
    rw [if_neg h0, hx]
    dsimp -zeta only
    rw [if_neg (by simp [hst, hport, haddr, hudp, htag]), hid, ha]
  have hload : ringLoaded a d = false := by rw [ha]; exact hring
  have hsq : seqRequest { x with lastFrame := s.tick.now } d a = queueDgram d w := by
    unfold seqRequest
    extract_lets q r again top
    have hnew : ¬(x.seen.contains q || !(decide (x.highest < q) || (decide (q < x.highest) && decide (x.highest ≤ q + 63)))) = true := by
      have hs : x.seen.contains q = false := hseen
      have hq : x.highest < q := hh
      rw [hs]
      simp [hq]
    rw [hw, hb, ← hid]
    exact (if_neg (by simpa [q] using hc)).trans ((if_neg (by simpa [q] using hwait)).trans ((if_neg hnew).trans
      (if_neg (by simp [hload]; omega))))
  obtain ⟨hhost, hpkts, hout⟩ := queueDgram_queues (d := d) (s := w) (by rw [hw, hb, ha]; exact hl) (by rw [hw, hb, ha]; exact hring)
  have hfind : findSession w d.session = some { x with
      lastFrame := s.tick.now, highest := max x.highest d.seq
      seen := ((d.seq :: x.seen).filter fun v => decide (max x.highest d.seq ≤ v + 63)), waiting := x.waiting ++ [d.seq] } := by
    have hfa : findSession a d.session = some { x with lastFrame := s.tick.now } := by
      rw [ha]
      exact (findSession_onSession (fun _ => by rfl) s).trans (congrArg (Option.map _) hx)
    rw [show findSession w d.session = findSession b d.session by rw [hw]; rfl, hb]
    exact (findSession_onSession (fun _ => by rfl) a).trans (congrArg (Option.map _) hfa)
  have harr : w.host.arrived = s.host.arrived := by rw [hw, hb, ha]; rfl
  rw [hrx, hsq]
  refine ⟨⟨_, (findSession_congr (by rw [hhost]) d.session).trans hfind, max_eq_right (by omega), rfl, rfl⟩, ?_, ?_, ?_⟩
  · rw [hhost, harr]
  · rw [hpkts, harr, hw, hb, ha]; rfl
  · rw [hout, hw, hb, ha]; rfl

/-- A request in an open session with a wrong tag. -/
theorem receiveRequest_wrongTag {x : Session} (h0 : d.session ≠ 0) (hx : findSession s d.session = some x)
    (htag : d.tag ≠ fixLen 16 (Config.hmacSha256 x.key (d.bytes.take (24 + d.len)))) :
    Answered { d.req with session := 0 } d.code stAuth [] s (receiveRequest d s) ∧ (receiveRequest d s).host.sessions = s.host.sessions := by
  have hrx : receiveRequest d s = answerAuth d.req (authFailed d.addr x.slot s) := by
    unfold receiveRequest
    extract_lets r
    split
    next h => exact absurd h h0
    · split
      next h => rw [hx] at h; cases h
      next y h =>
        rw [hx] at h
        cases h
        generalize fixLen 16 (Config.hmacSha256 x.key (d.bytes.take (24 + d.len))) = mac at htag ⊢
        exact if_pos (by simp [htag])
  have hf := authFailed_frame d.addr x.slot s
  rw [hrx]
  exact answerAuth_answers d.req (hf .out rfl) (hf .tb rfl) (hf .cfg rfl) (authFailed_sessions ..)

end

/-- Settles O43, over a request in a session, one without, and one that is not received. -/
theorem hostDatagrams : Obligations.HostDatagrams := by
  refine ⟨fun s d x hn hp hf hk hno h0 hx hst hport haddr hudp hc hwait hseen hh hroom hring hl => ?_,
    fun s d hn hp hf hk h0 hsrc hcode => ?_, fun s d h => ?_⟩
  · have hd : ({ d with no := 0 } : RxDgram) = d := by rw [← hno]
    rw [exec_hostDatagram_request hn hp hf hk (.inl h0), completes_next, hd]
    split
    next htag => exact receiveRequest_accepted h0 hx hst hport haddr hudp hc hwait hseen hh hroom hring hl htag
    next htag => exact receiveRequest_wrongTag h0 hx htag
  · have hrx : receiveRequest { d with no := 0 } s = answerAuth d.req s := (if_pos h0).trans (if_pos hcode)
    rw [exec_hostDatagram_request hn hp hf hk (.inr hsrc), completes_next, hrx]
    exact answerAuth_answers d.req rfl rfl rfl rfl
  · have hx : exec (.hostDatagramReceived d.port d.addr d.udp d.bytes) s = .next s := by
      have h1 : ({ d with no := 0 } : RxDgram).formOk = d.formOk := rfl
      have h2 : ({ d with no := 0 } : RxDgram).session = d.session := rfl
      show Host.Outcome.next (receiveDgram { d with no := 0 } s) = _
      unfold receiveDgram
      rw [if_pos]
      rcases h with h | h | ⟨h, k⟩
      · simp [h1, h]
      · simp [h]
      · simp [h2, h, k]
    rw [hx, completes_next]

end Sys2Proof.Machine
end

section
/-! Sessions of the host (R441): a challenged session whose number is freed takes its launches with it (R120, R443). -/
namespace Sys2Proof.Machine

/-- A session whose challenge waits for its proof. -/
def challenged : Session := { id := 1, state := 1, slot := 0, port := 0, addr := 0, udp := 0 }

/-- STANDBY on a module of its own with ETH1 up for the host: session 1 is challenged, and a notification to it stands before its launch. -/
def challengedState : State :=
  State.reset |> onStr (fun x => { x with state := .standby, role := some .solo })
    |> onPins (fun p => { p with eth1Up := true })
    |> onHost (fun h => { h with sessions := [some challenged] })
    |> onTb (fun t => { t with q0 := [{ at_ := 0, frame := .notify 1 { port := 0, addr := 0, udp := 0, kind := 3, session := 1, seq := 0, code := 0, status := 0, flags := 0 } }] })
    |> fun s => { s with cfg.net.hostPorts := 1 }

/-- An OPEN_AUTH of session 1 without a proof. -/
def emptyProof : RxDgram :=
  { port := 0, addr := 0, udp := 0, bytes := u32 0x5053564B ++ u8 1 ++ u8 0x12 ++ u16 1 ++ List.replicate 32 0 }

/-- The answer to `emptyProof`. -/
def emptyProofAnswer : State :=
  challengedState |> authFailed 0 0 |> freeChallenged 1 |> handshake emptyProof 0x13 1 stAuth [] (List.replicate 16 0)

theorem length_fixLen (n : Nat) (b : Bytes) : (fixLen n b).length = n := by
  unfold fixLen slice; simp

theorem emptyProof_payload (b : Bytes) : emptyProof.payload ≠ fixLen 16 b := by
  intro h
  have h1 := congrArg List.length h
  rw [length_fixLen] at h1
  exact absurd h1 (by decide)

/-- No proof frees the number. -/
theorem challenged_answers : exec (.openAuth 0 0 0 emptyProof.bytes) challengedState = .next emptyProofAnswer := by
  have hok : handshakeOk challengedState emptyProof 0x12 = true := by decide +kernel
  have hwake : wakeForHost challengedState = challengedState := rfl
  have hfind : findSession challengedState emptyProof.session = some challenged := by decide +kernel
  have hbound : ¬(challenged.state ≠ 1 || challenged.port ≠ emptyProof.port || challenged.addr ≠ emptyProof.addr ||
      challenged.udp ≠ emptyProof.udp || !(decide (sinceNs challengedState challenged.lastFrame ≤ secNs 2))) = true := by decide +kernel
  show Host.Outcome.next (if handshakeOk challengedState emptyProof 0x12 then serveOpenAuth emptyProof (wakeForHost challengedState) else challengedState) = _
  rw [if_pos hok, hwake]
  unfold serveOpenAuth
  split
  next h => rw [hfind] at h; cases h
  next x h =>
    rw [hfind] at h
    cases h
    exact congrArg Host.Outcome.next ((if_neg hbound).trans (if_pos (emptyProof_payload _)))

/-- Before it the guard band of the launch holds ETH1; with the session the launch went, and the answer left at once. -/
theorem challenged_leaves : quiet challengedState 0 = true ∧ emptyProofAnswer.out.held = [] ∧
    emptyProofAnswer.out.host.map (·.port) = [0] ∧ challengedState.out.host = [] := by
  decide +kernel

/-- Refutes O44: where a wrong proof frees a session whose own notification holds the port's guard band, the answer does not wait in that
guard band, as `Sent` reads it from the state before. -/
theorem not_hostSessions : ¬ Obligations.HostSessions := by
  intro h
  obtain ⟨-, -, auth, -⟩ := h
  have hrun := auth challengedState emptyProof challenged (by decide +kernel) (by decide +kernel) rfl rfl rfl rfl (by decide +kernel)
  obtain ⟨hquiet, hheld, hports, hbefore⟩ := challenged_leaves
  rw [show exec (.openAuth emptyProof.port emptyProof.addr emptyProof.udp emptyProof.bytes) challengedState = _ from challenged_answers,
    completes_next, if_neg (emptyProof_payload _)] at hrun
  obtain ⟨-, g, hsent, -⟩ := hrun
  unfold Sent at hsent
  split at hsent
  · obtain ⟨n, hlast⟩ := hsent
    rw [hheld] at hlast
    cases hlast
  next hfree =>
    rw [hbefore] at hsent
    rw [hsent] at hports
    have hport : g.port = 0 := by simpa using hports
    exact hfree ⟨by omega, by rw [hport]; exact hquiet⟩

end Sys2Proof.Machine
end

section
/-! READ, SUBSCRIBE, KEEPALIVE, CLOSE, BULK_WRITE and KEY_SET (R440, R441, R443 to R445, R448, R449, R454). -/
namespace Sys2Proof.Machine

/-! ### The session of a request -/

section
variable {s : State} {r : HostReq}

theorem findSession_of_open {x : Session} (h : openSession s r = some x) : findSession s r.session = some x ∧ x.state = 2 := by
  unfold openSession at h
  split at h
  next y hy =>
    split at h
    next h2 =>
      cases h
      exact ⟨hy, h2⟩
    next => cases h
  next => cases h

theorem Admitted.session {least : Nat} (h : Admitted least r s) : ∃ x, findSession s r.session = some x := by
  obtain ⟨-, x, hx, -⟩ := h
  exact ⟨x, (findSession_of_open hx).1⟩

/-- A request whose arguments are right, in a session whose role permits it. -/
theorem roleThen_admitted {least : Nat} {argsOk : Bool} (h : Admitted least r s) (ha : argsOk = true) (act : State → State) :
    roleThen least argsOk r act s = act s := by
  rw [ha, roleThen_of_admitted h]

/-- A response keeps of its session all but what waits and what is kept to be sent again. -/
theorem respond_session (status : Nat) (payload : Bytes) {x : Session} (h : findSession s r.session = some x) :
    ∃ y, findSession (respond r status payload s) r.session = some y ∧ y.slot = x.slot ∧ y.lastFrame = x.lastFrame ∧ y.minSev = x.minSev ∧
      y.launchOfs = x.launchOfs ∧ y.subs = x.subs := by
  have h1 : findSession (answerOnce r status payload s) r.session = some x :=
    (findSession_congr (answerOnce_sessions ..) _).trans h
  unfold respond
  extract_lets ds s1
  split
  · exact ⟨x, h1, rfl, rfl, rfl, rfl, rfl⟩
  · refine ⟨_, (findSession_onSession (fun _ => by rfl) s1).trans (congrArg (Option.map _) h1), rfl, rfl, rfl, rfl, rfl⟩

end

/-! ### The end of a session after an answer -/

/-- The last entry of a kind is still the last once entries that are not it are gone. -/
theorem getLast?_filter_filter {α : Type} {p q : α → Bool} {l : List α} {e : α} (h : (l.filter p).getLast? = some e) (hq : q e = true) :
    ((l.filter q).filter p).getLast? = some e := by
  obtain ⟨ys, hys⟩ := List.getLast?_eq_some_iff.mp h
  refine List.getLast?_eq_some_iff.mpr ⟨ys.filter q, ?_⟩
  rw [List.filter_comm, hys, List.filter_append, List.filter_singleton, hq]
  rfl

/-- The end of a session sends nothing; of what waits in a guard band it takes its own notifications. -/
theorem endSession_out (id cause : Nat) (s : State) : ∃ q : Nat × TxFrame → Bool, (∀ p n d, q (p, .response n d) = true) ∧
    (endSession id cause s).out = { s.out with held := s.out.held.filter q } := by
  cases h : findSession s id with
  | none =>
    refine ⟨fun _ => true, fun _ _ _ => rfl, ?_⟩
    rw [List.filter_true, show endSession id cause s = s by unfold endSession; rw [h]]
  | some was =>
    refine ⟨fun e => match e.2 with | .notify x _ => x ≠ id | _ => true, fun _ _ _ => rfl, ?_⟩
    have hthaw : ∀ t, (thawLog 1 t).out = t.out := fun t => Frame.of_blank (thawLog_blank (within_refl _) 1 t) .out rfl
    have hclose : ∀ r t, (endOp 6 stCancelled r (closeOp 6 stCancelled t)).out = t.out := fun r t => rfl
    unfold endSession
    simp only [h]
    split
    · simp only [apply_ite State.out, hclose, hthaw, log_out, ite_self]
      rfl
    · simp only [apply_ite State.out, hthaw, log_out, ite_self]
      rfl

/-- What was sent before a session ended was sent. -/
theorem endSession_answered {q : HostReq} {code status : Nat} {payload : Bytes} {s t : State} (h : Answered q code status payload s t) (id cause : Nat) :
    Answered q code status payload s (endSession id cause t) := by
  obtain ⟨d, hd, h⟩ := h
  obtain ⟨keep, hkeep, hout⟩ := endSession_out id cause t
  refine ⟨d, ?_, h⟩
  unfold Sent at hd ⊢
  rw [hout]
  split at hd
  · obtain ⟨n, hn⟩ := hd
    exact (if_pos ‹_›).mpr ⟨n, getLast?_filter_filter hn (hkeep d.port n d)⟩
  · exact (if_neg ‹_›).mpr hd

theorem mem_endSession {id cause : Nat} {s : State} {y : Session} (h : some y ∈ (endSession id cause s).host.sessions) :
    some y ∈ s.host.sessions ∧ y.id ≠ id := by
  cases hf : findSession s id with
  | none =>
    rw [show endSession id cause s = s by unfold endSession; rw [hf]] at h
    refine ⟨h, fun he => ?_⟩
    have := List.find?_eq_none.mp hf y (List.mem_filterMap.mpr ⟨some y, h, rfl⟩)
    simp [he] at this
  | some was =>
    rw [endSession_host hf] at h
    obtain ⟨o, ho, hy⟩ := List.mem_map.mp h
    cases o with
    | none => cases hy
    | some x =>
      dsimp only at hy
      split at hy
      · cases hy
      next hne =>
        cases hy
        exact ⟨ho, hne⟩

theorem findSession_none {s : State} {id : Nat} (h : ∀ y, some y ∈ s.host.sessions → y.id ≠ id) : findSession s id = none := by
  refine List.find?_eq_none.mpr fun y hy => ?_
  obtain ⟨o, ho, hoy⟩ := List.mem_filterMap.mp hy
  cases hoy
  simpa using h y ho

theorem findSession_endSession (id cause : Nat) (s : State) : findSession (endSession id cause s) id = none :=
  findSession_none fun _ h => (mem_endSession h).2

/-- Sessions of a list end where they are of a slot. -/
def endSlot (slot : Nat) (l : List Session) (s : State) : State :=
  l.foldl (fun u x => if x.slot = slot then endSession x.id 3 u else u) s

theorem endSlot_ends (slot : Nat) (l : List Session) (s : State) : (endSlot slot l s).idn = s.idn ∧
    (∀ {q : HostReq} {code status : Nat} {payload : Bytes} {s0 : State}, Answered q code status payload s0 s → Answered q code status payload s0 (endSlot slot l s)) ∧
    (∀ y, some y ∈ (endSlot slot l s).host.sessions → some y ∈ s.host.sessions ∧ (y ∈ l → y.slot ≠ slot)) := by
  induction l generalizing s with
  | nil => exact ⟨rfl, id, fun _ h => ⟨h, nofun⟩⟩
  | cons x l ih =>
    obtain ⟨v, hv⟩ : ∃ v, v = if x.slot = slot then endSession x.id 3 s else s := ⟨_, rfl⟩
    have hx : endSlot slot (x :: l) s = endSlot slot l v := by rw [hv]; rfl
    obtain ⟨h1, h2, h3⟩ := ih v
    rw [hx]
    by_cases hs : x.slot = slot
    · rw [if_pos hs] at hv
      refine ⟨?_, fun ha => h2 (by rw [hv]; exact endSession_answered ha _ _), fun y hy => ?_⟩
      · rw [h1, hv]; exact Frame.of_blank (endSession_blank (within_refl _) x.id 3 s) .idn rfl
      · obtain ⟨hm, hl⟩ := h3 y hy
        rw [hv] at hm
        obtain ⟨hm, hne⟩ := mem_endSession hm
        refine ⟨hm, fun hy => ?_⟩
        rcases List.mem_cons.mp hy with rfl | hy
        · exact absurd rfl hne
        · exact hl hy
    · rw [if_neg hs] at hv
      rw [hv] at h1 h2 h3 ⊢
      refine ⟨h1, h2, fun y hy => ⟨(h3 y hy).1, fun hm => ?_⟩⟩
      rcases List.mem_cons.mp hm with rfl | hm
      · exact hs
      · exact (h3 y hy).2 hm

/-! ### The commands -/

section
variable {s : State} {r : HostReq}

theorem read_open (hs : serves s r = true) (h0 : r.session = 0) (hsrc : sourceOk s r.port r.addr = true)
    (hl : (readAnswer s true r.args).2.length ≤ 1400) :
    Completes (exec (.read r) s) fun t => Answered r 0x0100 (readAnswer s true r.args).1 (readAnswer s true r.args).2 s t := by
  have hx : evalRead (withCode 0x0100 r) s = answerOnce (withCode 0x0100 r) (readAnswer s true r.args).1 (readAnswer s true r.args).2 s :=
    (if_pos h0).trans (if_neg (by show ¬(!sourceOk s r.port r.addr) = true; rw [hsrc]; decide))
  refine ⟨_, congrArg Host.Outcome.next (if_pos hs), ?_⟩
  rw [hx]
  exact answerOnce_answered s (withCode 0x0100 r) _ _ hl

theorem read_session {x : Session} (hs : serves s r = true) (h0 : r.session ≠ 0) (hx : openSession s r = some x)
    (hl : (readAnswer s false r.args).2.length ≤ 1400) :
    Completes (exec (.read r) s) fun t => Answered r 0x0100 (readAnswer s false r.args).1 (readAnswer s false r.args).2 s t := by
  have he : evalRead (withCode 0x0100 r) s = respond (withCode 0x0100 r) (readAnswer s false r.args).1 (readAnswer s false r.args).2 s := by
    unfold evalRead
    rw [if_neg (by exact h0), show openSession s (withCode 0x0100 r) = some x from hx]
    rfl
  refine ⟨_, congrArg Host.Outcome.next (if_pos hs), ?_⟩
  rw [he]
  exact respond_answered s (withCode 0x0100 r) _ _ hl

theorem subscribe_replaces (h : Admitted 0 r s) (hlen : r.args.length = 4 + 4 * getN r.args 1 1) (hn : getN r.args 1 1 ≤ 16)
    (hes : ∀ e ∈ subEntries r.args, (objView s e.obj).isSome = true ∧ 10 ≤ e.period ∧ e.period ≤ 60000 ∧ ∃ k, wholeSize s e.obj = some k ∧ k ≤ 256)
    (hsev : getN r.args 0 1 ≤ 3 ∨ getN r.args 0 1 = 0xFF) (hofs : getN r.args 2 2 ≤ 999 ∨ getN r.args 2 2 = 0xFFFF) :
    Completes (exec (.subscribe r) s) fun t => Answered r 0x0101 stOk [] s t ∧ (r.session ≠ 0 → ∃ y, findSession t r.session = some y ∧
      y.minSev = getN r.args 0 1 ∧ y.launchOfs = getN r.args 2 2 ∧ y.subs = subEntries r.args) := by
  obtain ⟨w, hw⟩ : ∃ w, w = onSession r.session (fun x => { x with
      minSev := getN r.args 0 1, launchOfs := getN r.args 2 2, subs := subEntries r.args }) s := ⟨_, rfl⟩
  have hx : evalSubscribe (withCode 0x0101 r) s = respond (withCode 0x0101 r) stOk [] w := by
    unfold evalSubscribe
    extract_lets b n sev ofs es shape
    rw [roleThen_admitted (r := withCode 0x0101 r) h rfl]
    have hex : ((es.take ((b.length - 4) / 4)).any fun e => (objView s e.obj).isNone) = false := by
      refine List.any_eq_false.mpr fun e he => ?_
      have := (hes e (List.mem_of_mem_take he)).1
      rw [Option.isSome_iff_exists] at this
      obtain ⟨v, hv⟩ := this
      simp [hv]
    have hshape : shape = true := by
      have h1 : b.length = 4 + 4 * n := hlen
      have h2 : n ≤ 16 := hn
      simp [shape, h1, h2]
    have hs1 : (decide (3 < sev) && decide (sev ≠ 0xFF)) = false := by
      have h1 : sev ≤ 3 ∨ sev = 0xFF := hsev
      rcases h1 with h | h <;> simp [h]
    have ho1 : (decide (999 < ofs) && decide (ofs ≠ 0xFFFF)) = false := by
      have h1 : ofs ≤ 999 ∨ ofs = 0xFFFF := hofs
      rcases h1 with h | h <;> simp [h]
    rw [hex, hshape, hs1, ho1, hw]
    refine (if_neg (by decide)).trans (if_neg ?_)
    simp only [Bool.not_true, Bool.false_or, Bool.not_eq_true]
    refine List.any_eq_false.mpr fun e he => ?_
    obtain ⟨-, h10, h60, k, hk, hk2⟩ := hes e he
    simp [hk]
    omega
  refine ⟨_, congrArg Host.Outcome.next (if_pos h.1), ?_⟩
  rw [hx]
  refine ⟨respond_answered_after (withCode 0x0101 r) stOk [] (by decide) (by rw [hw]; rfl) (by rw [hw]; rfl) (by rw [hw]; rfl), fun _ => ?_⟩
  obtain ⟨x, hfx⟩ := h.session
  have hfw : findSession w r.session = some { x with minSev := getN r.args 0 1, launchOfs := getN r.args 2 2, subs := subEntries r.args } := by
    rw [hw]
    exact (findSession_onSession (fun _ => by rfl) s).trans (congrArg (Option.map _) hfx)
  obtain ⟨y, hy, -, -, h1, h2, h3⟩ := respond_session (r := withCode 0x0101 r) stOk [] hfw
  exact ⟨y, hy, h1, h2, h3⟩

theorem keepalive_keeps (h : Admitted 0 r s) (ha : r.args = []) :
    Completes (exec (.keepalive r) s) fun t => Answered r 0x0102 stOk [] s t ∧ ∃ y, findSession t r.session = some y ∧ y.lastFrame = s.tick.now := by
  obtain ⟨w, hw⟩ : ∃ w, w = onSession r.session (fun x => { x with lastFrame := s.tick.now }) s := ⟨_, rfl⟩
  have hx : evalKeepalive (withCode 0x0102 r) s = respond (withCode 0x0102 r) stOk [] w := by
    rw [hw]
    exact roleThen_admitted (r := withCode 0x0102 r) h (by show r.args.isEmpty = true; rw [ha]; rfl) _
  refine ⟨_, congrArg Host.Outcome.next (if_pos h.1), ?_⟩
  rw [hx]
  refine ⟨respond_answered_after (withCode 0x0102 r) stOk [] (by decide) (by rw [hw]; rfl) (by rw [hw]; rfl) (by rw [hw]; rfl), ?_⟩
  obtain ⟨x, hfx⟩ := h.session
  have hfw : findSession w r.session = some { x with lastFrame := s.tick.now } := by
    rw [hw]
    exact (findSession_onSession (fun _ => by rfl) s).trans (congrArg (Option.map _) hfx)
  obtain ⟨y, hy, -, h1, -⟩ := respond_session (r := withCode 0x0102 r) stOk [] hfw
  exact ⟨y, hy, h1⟩

theorem close_ends (h : Admitted 0 r s) (ha : r.args = []) :
    Completes (exec (.close r) s) fun t => Answered r 0x0103 stOk [] s t ∧ findSession t r.session = none := by
  have hx : evalClose (withCode 0x0103 r) s = endSession r.session 0 (respond (withCode 0x0103 r) stOk [] s) :=
    roleThen_admitted (r := withCode 0x0103 r) h (by show r.args.isEmpty = true; rw [ha]; rfl) _
  refine ⟨_, congrArg Host.Outcome.next (if_pos h.1), ?_⟩
  rw [hx]
  exact ⟨endSession_answered (respond_answered s (withCode 0x0103 r) stOk [] (by decide)) _ _, findSession_endSession ..⟩

theorem respond_bulk (status : Nat) (payload : Bytes) (u : State) : (respond r status payload u).host.bulk1 = u.host.bulk1 ∧
    (respond r status payload u).host.bulk2 = u.host.bulk2 := by
  have hc : (countStatus status u).host.bulk1 = u.host.bulk1 ∧ (countStatus status u).host.bulk2 = u.host.bulk2 := by
    unfold countStatus
    extract_lets bump
    (repeat' split) <;> exact ⟨rfl, rfl⟩
  rw [← answerOnce_host r status payload u] at hc
  unfold respond
  extract_lets ds s1
  split
  · exact hc
  · exact hc

/-- The arguments of a write to bulk target 1 are right, and its role is that of the target. -/
theorem evalBulkWrite_admitted {code : Nat} (h : Admitted 1 r s) (h9 : 9 ≤ r.args.length) (hd : (r.args.drop 8).length ≤ 1024) (h1 : getN r.args 0 1 = 1)
    (hcap : getN r.args 4 4 + (r.args.drop 8).length ≤ 544404) : evalBulkWrite (withCode code r) s =
      if s.host.bulk1.owner ≠ 0 && s.host.bulk1.owner ≠ r.session then respond (withCode code r) stBusy [] s
      else if getN r.args 4 4 = 0 then
        respond (withCode code r) stOk [] (onBulk 1 (fun _ => Bulk.write {} r.session (getN r.args 4 4) s.tick.now (r.args.drop 8)) s)
      else if s.host.bulk1.owner = 0 then respond (withCode code r) stState [] s
      else respond (withCode code r) stOk [] (onBulk 1 (fun x => x.write r.session (getN r.args 4 4) s.tick.now (r.args.drop 8)) s) := by
  unfold evalBulkWrite
  extract_lets t off data cap okArgs
  have ht : t = 1 := h1
  have hcap' : cap = 544404 := if_pos ht
  have hok : okArgs = true := by
    have h2 : off + data.length ≤ 544404 := hcap
    have h3 : 9 ≤ (withCode code r).args.length := h9
    have h4 : data.length ≤ 1024 := hd
    simp only [okArgs, ht, hcap', h2, h3, h4, decide_true, Bool.and_self, Bool.true_or]
  clear_value t
  subst ht
  exact roleThen_admitted (r := withCode code r) h hok _

/-- The first write of a target that nobody holds. -/
theorem bulkWrite_takes (h : Admitted 1 r s) (h9 : 9 ≤ r.args.length) (hd : (r.args.drop 8).length ≤ 1024) (h1 : getN r.args 0 1 = 1)
    (h0 : getN r.args 4 4 = 0) (ho : s.host.bulk1.owner = 0) :
    Completes (exec (.bulkWrite r) s) fun t => Answered r 0x0104 stOk [] s t ∧
      t.host.bulk1 = Bulk.write {} r.session 0 s.tick.now (r.args.drop 8) ∧ t.host.bulk2 = s.host.bulk2 := by
  obtain ⟨w, hw⟩ : ∃ w, w = onBulk 1 (fun _ => Bulk.write {} r.session 0 s.tick.now (r.args.drop 8)) s := ⟨_, rfl⟩
  have hx : evalBulkWrite (withCode 0x0104 r) s = respond (withCode 0x0104 r) stOk [] w := by
    rw [evalBulkWrite_admitted h h9 hd h1 (by omega), if_neg (by simp [ho]), if_pos h0, h0, hw]
  refine ⟨_, congrArg Host.Outcome.next (if_pos h.1), ?_⟩
  obtain ⟨hb1, hb2⟩ := respond_bulk (r := withCode 0x0104 r) stOk [] w
  rw [hx]
  exact ⟨respond_answered_after (withCode 0x0104 r) stOk [] (by decide) (by rw [hw]; rfl) (by rw [hw]; rfl) (by rw [hw]; rfl),
    hb1.trans (by rw [hw]; rfl), hb2.trans (by rw [hw]; rfl)⟩

/-- A write of a target another session holds. -/
theorem bulkWrite_busy (h : Admitted 1 r s) (h9 : 9 ≤ r.args.length) (hd : (r.args.drop 8).length ≤ 1024) (h1 : getN r.args 0 1 = 1)
    (hcap : getN r.args 4 4 + (r.args.drop 8).length ≤ 544404) (ho : s.host.bulk1.owner ≠ 0) (hne : s.host.bulk1.owner ≠ r.session) :
    Completes (exec (.bulkWrite r) s) fun t => Answered r 0x0104 stBusy [] s t ∧ t.host.bulk1 = s.host.bulk1 := by
  have hx : evalBulkWrite (withCode 0x0104 r) s = respond (withCode 0x0104 r) stBusy [] s := by
    rw [evalBulkWrite_admitted h h9 hd h1 hcap, if_pos (by simp [ho, hne])]
  refine ⟨_, congrArg Host.Outcome.next (if_pos h.1), ?_⟩
  rw [hx]
  exact ⟨respond_answered s (withCode 0x0104 r) stBusy [] (by decide), (respond_bulk (r := withCode 0x0104 r) stBusy [] s).1⟩

theorem bulkAbandoned_frees {target : Nat} (hr : running s = true) (ht : target = 1 ∨ target = 2) (ho : (bulkOf s target).owner ≠ 0)
    (he : elapsed s (bulkOf s target).last (secNs 60) = true) :
    Completes (exec (.bulkAbandoned target) s) fun t => bulkOf t target = {} ∧ bulkOf t (3 - target) = bulkOf s (3 - target) := by
  have hx : exec (.bulkAbandoned target) s = .next (log srcComm 0x0C08 0 (u16 target ++ u16 (bulkOf s target).owner ++
      u32 (bulkOf s target).data.length) (onBulk target (fun _ => {}) s)) :=
    if_pos (by rcases ht with h | h <;> subst h <;> simp [hr, ho, he])
  rw [hx, completes_next]
  unfold bulkOf
  rw [log_host]
  rcases ht with h | h <;> subst h <;> exact ⟨rfl, rfl⟩

/-- KEY_SET in SERVICE. -/
theorem keySet_stores {x : Session} (h : Admitted 2 r s) (hl : r.args.length = 44) (h4 : getN r.args 0 1 < 4) (hst : s.str.state = .service)
    (hsp : isSp s = false) (hx : findSession s r.session = some x) (hk : getN r.args 0 1 < s.idn.keys.length) :
    Completes (exec (.keySet r) s) fun t => match Config.keyUnwrap x.key (slice r.args 4 40) with
      | none => Answered r 0x0105 stIntegrity [] s t ∧ t.idn = s.idn
      | some k => Answered r 0x0105 stOk [] s t ∧ nth none t.idn.keys (getN r.args 0 1) = some (fixLen 32 k) ∧
          (∀ y, some y ∈ t.host.sessions → y.slot ≠ getN r.args 0 1) := by
  have hx : evalKeySet (withCode 0x0105 r) s = match Config.keyUnwrap x.key (slice r.args 4 40) with
      | none => respond (withCode 0x0105 r) stIntegrity [] s
      | some k => endSlot (getN r.args 0 1) ((respond (withCode 0x0105 r) stOk [] (log srcComm 0x0C07 2 (u8 (getN r.args 0 1) ++ u16 r.session)
          (onIdn (fun i => { i with keys := setAt i.keys (getN r.args 0 1) (some (fixLen 32 k)) }) s))).host.sessions.filterMap fun o => o)
          (respond (withCode 0x0105 r) stOk [] (log srcComm 0x0C07 2 (u8 (getN r.args 0 1) ++ u16 r.session)
          (onIdn (fun i => { i with keys := setAt i.keys (getN r.args 0 1) (some (fixLen 32 k)) }) s))) := by
    unfold evalKeySet
    extract_lets slot
    have hok : ((withCode 0x0105 r).args.length = 44 && decide (slot < 4)) = true := by
      have h1 : (withCode 0x0105 r).args.length = 44 := hl
      have h2 : slot < 4 := h4
      simp [h1, h2]
    rw [roleThen_admitted (r := withCode 0x0105 r) h hok, if_neg (by simp [hst, hsp]),
      show findSession s (withCode 0x0105 r).session = some x from hx]
    dsimp only
    rw [show (withCode 0x0105 r).args = r.args from rfl]
    cases Config.keyUnwrap x.key (slice r.args 4 40) <;> rfl
  refine ⟨_, congrArg Host.Outcome.next (if_pos h.1), ?_⟩
  rw [hx]
  cases Config.keyUnwrap x.key (slice r.args 4 40) with
  | none => exact ⟨respond_answered s (withCode 0x0105 r) stIntegrity [] (by decide), respond_frame _ stIntegrity [] s .idn rfl⟩
  | some k =>
    dsimp only
    obtain ⟨u, hu⟩ : ∃ u, u = log srcComm 0x0C07 2 (u8 (getN r.args 0 1) ++ u16 r.session)
      (onIdn (fun i => { i with keys := setAt i.keys (getN r.args 0 1) (some (fixLen 32 k)) }) s) := ⟨_, rfl⟩
    rw [← hu]
    obtain ⟨h1, h2, h3⟩ := endSlot_ends (getN r.args 0 1)
      ((respond (withCode 0x0105 r) stOk [] u).host.sessions.filterMap fun o => o) (respond (withCode 0x0105 r) stOk [] u)
    refine ⟨h2 (respond_answered_after (withCode 0x0105 r) stOk [] (by decide) ?_ ?_ ?_), ?_, fun y hy => ?_⟩
    · rw [hu, log_out]; rfl
    · rw [hu, log_tb]; rfl
    · rw [hu, log_cfg]; rfl
    · rw [h1, show (respond (withCode 0x0105 r) stOk [] u).idn = u.idn from respond_frame _ stOk [] u .idn rfl, hu, log_idn]
      exact nth_setAt_self none _ hk
    · obtain ⟨hm, hl⟩ := h3 y hy
      exact hl (List.mem_filterMap.mpr ⟨some y, hm, rfl⟩)

theorem keySet_refused {x : Session} (hs : serves s r = true) (hx : openSession s r = some x) (h0 : x.slot = 0) :
    Completes (exec (.keySet r) s) fun t => Answered r 0x0105 stAuth [] s t ∧ t.idn = s.idn := by
  have he : evalKeySet (withCode 0x0105 r) s = respond (withCode 0x0105 r) stAuth [] s := by
    unfold evalKeySet roleThen
    extract_lets slot
    rw [show openSession s (withCode 0x0105 r) = some x from hx]
    exact if_pos (by rw [h0]; rfl)
  refine ⟨_, congrArg Host.Outcome.next (if_pos hs), ?_⟩
  rw [he]
  exact ⟨respond_answered s (withCode 0x0105 r) stAuth [] (by decide), respond_frame _ stAuth [] s .idn rfl⟩

end

/-- Settles O45, over the commands of a session. -/
theorem sessionCommands : Obligations.SessionCommands :=
  ⟨fun _ _ hs h0 hsrc hl => read_open hs h0 hsrc hl,
   fun _ _ _ hs h0 hx hl => read_session hs h0 hx hl,
   fun _ _ h _ hlen hn hes hsev hofs => subscribe_replaces h hlen hn hes hsev hofs,
   fun _ _ h ha => keepalive_keeps h ha,
   fun _ _ h ha => close_ends h ha,
   fun _ _ h h9 hd h1 h0 ho => bulkWrite_takes h h9 hd h1 h0 ho,
   fun _ _ h h9 hd h1 hcap ho hne => bulkWrite_busy h h9 hd h1 hcap ho hne,
   fun _ _ hr ht ho he => bulkAbandoned_frees hr ht ho he,
   fun _ _ _ h hl h4 hst hsp hx hk => keySet_stores h hl h4 hst hsp hx hk,
   fun _ _ _ hs hx h0 => keySet_refused hs hx h0⟩

end Sys2Proof.Machine
end

section
/-! ARP, ICMP, Modbus and notifications (R435, R436, R454, R455, R458, R459). -/
namespace Sys2Proof.Machine

/-! ### Modbus -/

section
variable {s : State}

theorem modbusRead_answers {conn : Nat} {pdu : Bytes} {c : ModbusConn} (hc : s.host.modbus.find? (fun y => y.id = conn) = some c)
    (hm : modbusServes s c.port = true) :
    Completes (exec (.modbusRead conn pdu) s) fun t => t.out.modbus = s.out.modbus ++
        [{ conn := conn, func := getN pdu 1 1, exc := (modbusAnswer s pdu).1, regs := (modbusAnswer s pdu).2 }] ∧
      (∃ k, t.host.modbus.find? (fun c => c.id = conn) = some k ∧ k.last = s.tick.now) := by
  obtain ⟨u, hu⟩ : ∃ u, u = ringRel 3 (wakeForHost (ringPut 3 (mkPacket 3 pdu) s)) := ⟨_, rfl⟩
  obtain ⟨v, hv⟩ : ∃ v, v = onHost (fun h => { h with modbus := h.modbus.map fun x => if x.id = conn then { x with last := s.tick.now } else x }) u :=
    ⟨_, rfl⟩
  obtain ⟨w, hw⟩ : ∃ w, w = if (modbusAnswer s pdu).1 = 0 then v else onHost (fun h => { h with cnt := updAt (satInc 32) h.cnt 7 }) v := ⟨_, rfl⟩
  obtain ⟨z, hz⟩ : ∃ z, z = ringRel 7 (ringPut 7 (mkPacket 3 ((modbusAnswer s pdu).2.flatMap fun v => toBe 2 v)) w) := ⟨_, rfl⟩
  have hx : exec (.modbusRead conn pdu) s = .next (z |> onOut fun o => { o with
      modbus := o.modbus ++ [{ conn := conn, func := getN pdu 1 1, exc := (modbusAnswer s pdu).1, regs := (modbusAnswer s pdu).2 }] }) := by
    rw [hz, hw, hv, hu]
    show execModbusRead conn pdu s = _
    unfold execModbusRead
    rw [hc]
    exact if_neg (by simp [hm])
  have hf := Frame.of_blank (wakeForHost_blank (within_refl _) (ringPut 3 (mkPacket 3 pdu) s))
  have hu1 : u.host = s.host ∧ u.out = s.out := by
    rw [hu, ringRel_host, ringRel_out, show (wakeForHost _).host = _ from hf .host rfl, show (wakeForHost _).out = _ from hf .out rfl,
      ringPut_host, ringPut_out]
    exact ⟨rfl, rfl⟩
  have hw1 : w.host.modbus = v.host.modbus ∧ w.out = v.out := by
    rw [hw]
    split <;> exact ⟨rfl, rfl⟩
  have hz1 : z.host.modbus = s.host.modbus.map (fun x => if x.id = conn then { x with last := s.tick.now } else x) ∧ z.out = s.out := by
    rw [hz, ringRel_host, ringRel_out, ringPut_host, ringPut_out, hw1.1, hw1.2, hv]
    exact ⟨congrArg (List.map _) (congrArg HostSt.modbus hu1.1), hu1.2⟩
  rw [hx, completes_next]
  refine ⟨?_, ?_⟩
  · rw [onOut_out, hz1.2]
  · rw [onOut_host, hz1.1, List.find?_map]
    have hp : (fun c : ModbusConn => decide (c.id = conn)) ∘ (fun x => if x.id = conn then { x with last := s.tick.now } else x) =
        fun c => decide (c.id = conn) := by
      funext x
      simp only [Function.comp_apply]
      split <;> rfl
    have hid : c.id = conn := by simpa using List.find?_some hc
    rw [hp, hc, Option.map_some, if_pos hid]
    exact ⟨_, rfl, rfl⟩

theorem modbusIdle_drops {conn : Nat} (hr : running s = true) :
    Completes (exec (.modbusIdleTimeout conn) s) fun t => Frame [.host] s t ∧ (∀ c ∈ t.host.modbus, c.id = conn →
      elapsed s c.last (secNs s.cfg.net.idle) = false) ∧ (∀ c ∈ s.host.modbus, c.id ≠ conn → c ∈ t.host.modbus) := by
  have hx : exec (.modbusIdleTimeout conn) s = .next (s |> onHost fun h => { h with
      modbus := h.modbus.filter fun c => !(c.id = conn && elapsed s c.last (secNs s.cfg.net.idle)) }) := congrArg Host.Outcome.next (if_pos hr)
  rw [hx, completes_next]
  refine ⟨Frame.of_blank rfl, fun c hc hid => ?_, fun c hc hid => List.mem_filter.mpr ⟨hc, by simp [hid]⟩⟩
  have := (List.mem_filter.mp hc).2
  simpa [hid] using this

/-! ### Notifications -/

/-- Work on a session that leaves its number, the number of its notifications and its subscription. -/
def NotesKept (id : Nat) (s t : State) : Prop :=
  ∀ x, findSession s id = some x → ∃ y, findSession t id = some y ∧ y.noteSeq = x.noteSeq ∧ y.subs = x.subs

theorem NotesKept.of_host {id : Nat} {s t : State} (h : t.host.sessions = s.host.sessions) : NotesKept id s t :=
  fun x hx => ⟨x, (findSession_congr h id).trans hx, rfl, rfl⟩

theorem leaveUntimed_notesKept (id : Nat) (d : Dgram) (s : State) : NotesKept id s (leaveUntimed id d s) := by
  intro x hx
  unfold leaveUntimed
  split
  · exact ⟨x, hx, rfl, rfl⟩
  · obtain ⟨v, hv⟩ : ∃ v, v = onSession id (fun y => { y with lost := 0 }) s := ⟨_, rfl⟩
    have hfv : findSession v id = some { x with lost := 0 } := by
      rw [hv]
      exact (findSession_onSession (fun _ => by rfl) s).trans (congrArg (Option.map _) hx)
    obtain ⟨d1, hd⟩ : ∃ d1, leaveNote id d s = (ringRel (8 + (sessionIdx s id).getD 0) v |> emitDgram d1 |>
        onHost fun h => { h with cnt := updAt (satInc 32) h.cnt 5 }) := by
      rw [hv]
      unfold leaveNote
      rw [hx]
      exact ⟨_, rfl⟩
    refine ⟨{ x with lost := 0 }, ?_, rfl, rfl⟩
    rw [hd]
    refine (findSession_congr ?_ id).trans hfv
    show (ringRel _ v).host.sessions = _
    rw [ringRel_host]

/-- A notification whose session's ring has room is numbered. -/
theorem notify_numbers {id : Nat} {x : Session} (hx : findSession s id = some x) (hroom : (ringAt s (8 + (sessionIdx s id).getD 0)).fillPkts < 64)
    (code : Nat) (launch : Option Nat) (body : Bytes) :
    ∃ y, findSession (notify id code launch body s) id = some y ∧ y.noteSeq = x.noteSeq + 1 ∧ y.subs = x.subs := by
  unfold notify
  rw [hx]
  dsimp -zeta only
  extract_lets ring d waiting s1 q
  rw [if_neg (by show ¬64 ≤ _; exact Nat.not_le.mpr hroom)]
  have h1 : findSession s1 id = some { x with noteSeq := x.noteSeq + 1 } := by
    have hs : s1.host.sessions = (onSession id (fun y => { y with noteSeq := y.noteSeq + 1 }) s).host.sessions :=
      congrArg HostSt.sessions (ringPut_host ..)
    exact (findSession_congr hs id).trans ((findSession_onSession (fun _ => by rfl) s).trans (congrArg (Option.map _) hx))
  have hkept : ∀ t, NotesKept id s1 t → ∃ y, findSession t id = some y ∧ y.noteSeq = x.noteSeq + 1 ∧ y.subs = x.subs :=
    fun t ht => ht _ h1
  split
  · split
    · exact hkept _ (.of_host rfl)
    · exact hkept _ (leaveUntimed_notesKept id d s1)
  · exact hkept _ (leaveUntimed_notesKept id d s1)
  · split
    · exact hkept _ (.of_host rfl)
    · exact hkept _ (leaveUntimed_notesKept id d s1)
  · exact hkept _ (.of_host rfl)

theorem objectNotification_numbers {id entry : Nat} {x : Session} {e : SubEntry} (hx : findSession s id = some x) (he : x.subs[entry]? = some e)
    (hn : netUp s = true) (hj : s.tick.j = 0) (hp : e.period ≠ 0) (hm : s.tb.time / 1000000 % e.period = 0)
    (hroom : (ringAt s (8 + (sessionIdx s id).getD 0)).fillPkts < 64) :
    Completes (exec (.objectNotificationDue id entry) s) fun t => ∃ y, findSession t id = some y ∧ y.noteSeq = x.noteSeq + 1 ∧ y.subs = x.subs := by
  obtain ⟨launch, body, hex⟩ : ∃ launch body, exec (.objectNotificationDue id entry) s = .next (notify id 2 launch body s) := by
    show ∃ launch body, execObjectNotificationDue id entry s = _
    unfold execObjectNotificationDue
    rw [hx]
    dsimp -zeta only
    rw [he]
    exact ⟨_, _, if_neg (by simp [hn, hj, hp, hm])⟩
  rw [hex, completes_next]
  exact notify_numbers hx hroom 2 launch body

end

/-- Settles O46, over ARP and ICMP, the Modbus connections and the notifications. -/
theorem networkServices : Obligations.NetworkServices :=
  ⟨fun _ _ hu => ⟨_, congrArg Host.Outcome.next (if_pos (by simp [hu])), Frame.of_blank rfl, rfl⟩,
   fun _ _ _ _ hu => ⟨_, congrArg Host.Outcome.next (if_pos (by simp [hu])), Frame.of_blank rfl, rfl⟩,
   fun _ _ _ hm hs hl => ⟨_, (if_neg (by simp [hm, hs])).trans (if_neg (by omega)), Frame.of_blank rfl, rfl⟩,
   fun _ _ _ hm hs hl => ⟨_, (if_neg (by simp [hm, hs])).trans (if_pos hl), Frame.of_blank rfl, rfl⟩,
   fun _ _ _ _ hc hm => modbusRead_answers hc hm,
   fun _ _ hr => modbusIdle_drops hr,
   fun _ _ _ _ _ hx he hn hj hp hm hroom => objectNotification_numbers hx he hn hj hp hm hroom⟩

end Sys2Proof.Machine
end

section
/-! CONNECT, START, STOP and DISCONNECT (R35, R36, R45, R46, R389). -/
namespace Sys2Proof.Machine

/-! ### Commands of the host -/

section
variable {least : Nat} {r : HostReq} {s : State}

/-- A command whose arguments are right and that is legal now takes effect. -/
theorem command_acts {argsOk : Bool} (h : Admitted least r s) (ha : argsOk = true) (hl : legalCmd r.code s = true) (act : State → State) :
    command least argsOk act r s = act s := by
  rw [ha, command_of_legal h hl]

/-- One that is not legal now is refused. -/
theorem command_refuses {argsOk : Bool} (h : Admitted least r s) (ha : argsOk = true) (hl : legalCmd r.code s = false) (act : State → State) :
    command least argsOk act r s = refuseState r s := by
  rw [ha, command, roleThen_of_admitted h]
  exact if_neg (by simp [hl])

theorem refuseState_answers (r : HostReq) (s : State) : Answered r r.code stState [] s (refuseState r s) ∧ (refuseState r s).str = s.str :=
  ⟨respond_answered_after r stState [] (by decide) (log_out ..) (log_tb ..) (log_cfg ..), (respond_str ..).trans (log_str ..)⟩

/-- A row whose command is not legal now answers STATE and changes nothing of the string. -/
theorem row_refuses {code : Nat} (eval : HostReq → State → State) (h : Admitted least r s)
    (he : eval (withCode code r) s = refuseState (withCode code r) s) :
    Completes (evalRow code eval r s) fun t => Answered r code stState [] s t ∧ t.str = s.str := by
  rw [completes_evalRow h, he]
  exact refuseState_answers (withCode code r) s

theorem isEmpty_args {code : Nat} (ha : r.args = []) : (withCode code r).args.isEmpty = true := by
  show r.args.isEmpty = true
  rw [ha]
  rfl

end

/-- An answer OK after work that sends nothing and leaves the launch queues and the image alone. -/
theorem okAfter {s u : State} (code : Nat) (r : HostReq) (hout : u.out = s.out) (htb : u.tb = s.tb) (hcfg : u.cfg = s.cfg) :
    Answered r code stOk [] s (respond (withCode code r) stOk [] u) :=
  respond_answered_after (withCode code r) stOk [] (by decide) hout htb hcfg

section
variable {r : HostReq} {s : State} (h : Admitted 1 r s) (ha : r.args = [])
include h ha

theorem connect_starts (hl : legalCmd 0x0200 s = true) (hu : connectUnmet s = none) :
    Completes (exec (.connect r) s) fun t => Answered r 0x0200 stOk [] s t ∧ t.str.state = .precharge ∧ t.cont.step = .p1 ∧ t.cont.c2.coil = true := by
  obtain ⟨v, hv⟩ : ∃ v, v = preTo .p1 (onCont (fun c => { c with vSum := none }) (setState .precharge 0 s)) := ⟨_, rfl⟩
  have he : evalConnect (withCode 0x0200 r) s = respond (withCode 0x0200 r) stOk [] (coilOn 2 v) := by
    rw [hv]
    unfold evalConnect
    rw [command_acts (h.withCode _) (isEmpty_args ha) hl, hu]
    rfl
  have hf := Frame.of_blank (coilOn_blank (within_refl _) 2 v)
  show Completes (evalRow 0x0200 evalConnect r s) _
  rw [completes_evalRow h, he, respond_str, respond_cont, show (coilOn 2 v).str = _ from hf .str rfl]
  refine ⟨okAfter _ r ?_ ?_ ?_, ?_, ?_, coilOn_coil 2 v⟩
  · rw [show (coilOn 2 v).out = _ from hf .out rfl, hv]; exact setState_out ..
  · rw [show (coilOn 2 v).tb = _ from hf .tb rfl, hv]; exact setState_tb ..
  · rw [show (coilOn 2 v).cfg = _ from hf .cfg rfl, hv]; exact setState_cfg ..
  · rw [hv]
    show (setState .precharge 0 s).str.state = _
    rw [setState_str]
  · rw [show (coilOn 2 v).cont.step = v.cont.step from rfl, hv]; rfl

theorem connect_unmet {c : Nat} (hl : legalCmd 0x0200 s = true) (hu : connectUnmet s = some c) :
    Completes (exec (.connect r) s) fun t => Answered r 0x0200 stFault [] s t ∧ t.str = { s.str with cause := c } ∧ t.cont = s.cont := by
  have he : evalConnect (withCode 0x0200 r) s = respond (withCode 0x0200 r) stFault [] (onStr (fun x => { x with cause := c }) s) := by
    unfold evalConnect
    rw [command_acts (h.withCode _) (isEmpty_args ha) hl, hu]
  show Completes (evalRow 0x0200 evalConnect r s) _
  rw [completes_evalRow h, he, respond_str, respond_cont]
  exact ⟨respond_answered_after (withCode 0x0200 r) stFault [] (by decide) rfl rfl rfl, rfl, rfl⟩

omit h ha in
/-- A transition answered OK. -/
theorem setState_answered (code : Nat) (st : StringState) : Answered r code stOk [] s (respond (withCode code r) stOk [] (setState st 0 s)) ∧
    (respond (withCode code r) stOk [] (setState st 0 s)).str.state = st :=
  ⟨okAfter code r (setState_out ..) (setState_tb ..) (setState_cfg ..), by rw [respond_str, setState_str]⟩

theorem start_acts (hl : legalCmd 0x0201 s = true) : evalStart (withCode 0x0201 r) s =
    if !(twArmed s) then respond (withCode 0x0201 r) stOk [] (setState .run 0 s)
    else if twLeft s = 0 then respond (withCode 0x0201 r) stFault [] s
    else respond (withCode 0x0201 r) stOk [] (setState .twilight 0 s) := by
  unfold evalStart
  exact command_acts (h.withCode _) (isEmpty_args ha) hl _

theorem start_runs (hl : legalCmd 0x0201 s = true) (hw : twArmed s = false) :
    Completes (exec (.start r) s) fun t => Answered r 0x0201 stOk [] s t ∧ t.str.state = .run := by
  rw [exec_start, completes_evalRow h, start_acts h ha hl, if_pos (by simp [hw])]
  exact setState_answered 0x0201 .run

theorem start_twilight (hl : legalCmd 0x0201 s = true) (hw : twArmed s = true) (hleft : twLeft s ≠ 0) :
    Completes (exec (.start r) s) fun t => Answered r 0x0201 stOk [] s t ∧ t.str.state = .twilight := by
  rw [exec_start, completes_evalRow h, start_acts h ha hl, if_neg (by simp [hw]), if_neg hleft]
  exact setState_answered 0x0201 .twilight

theorem start_exhausted (hl : legalCmd 0x0201 s = true) (hw : twArmed s = true) (hleft : twLeft s = 0) :
    Completes (exec (.start r) s) fun t => Answered r 0x0201 stFault [] s t ∧ t.str = s.str := by
  rw [exec_start, completes_evalRow h, start_acts h ha hl, if_neg (by simp [hw]), if_pos hleft]
  exact ⟨respond_answered s (withCode 0x0201 r) stFault [] (by decide), respond_str ..⟩

omit h ha in
/-- STOPPING begins toward its target. -/
theorem stopToward_stops (target : StringState) : (stopToward target s).str.state = .stopping ∧
    (stopToward target s).str.stopTarget = some target ∧ (stopToward target s).out = s.out ∧ (stopToward target s).tb = s.tb ∧
    (stopToward target s).cfg = s.cfg := by
  obtain ⟨u, hu⟩ : ∃ u, u = onStr (fun x => { x with stopTarget := some target }) s := ⟨_, rfl⟩
  have hx : stopToward target s = onCont (fun c => { c with opening := 0, zeroSince := none }) (setState .stopping 0 u) := by rw [hu]; rfl
  rw [hx, onCont_str, setState_str]
  exact ⟨rfl, by rw [hu]; rfl, (setState_out ..).trans (by rw [hu]; rfl), (setState_tb ..).trans (by rw [hu]; rfl),
    (setState_cfg ..).trans (by rw [hu]; rfl)⟩

theorem stop_stops (hl : legalCmd 0x0203 s = true) :
    Completes (exec (.stop r) s) fun t => Answered r 0x0203 stOk [] s t ∧ t.str.state = .stopping ∧ t.str.stopTarget = some .closed := by
  have he : evalStop (withCode 0x0203 r) s = respond (withCode 0x0203 r) stOk [] (stopToward .closed s) := by
    unfold evalStop
    exact command_acts (h.withCode _) (isEmpty_args ha) hl _
  obtain ⟨h1, h2, h3, h4, h5⟩ := stopToward_stops (s := s) .closed
  show Completes (evalRow 0x0203 evalStop r s) _
  rw [completes_evalRow h, he, respond_str]
  exact ⟨okAfter _ r h3 h4 h5, h1, h2⟩

theorem disconnect_acts (hl : legalCmd 0x0204 s = true) :
    evalDisconnect (withCode 0x0204 r) s = respond (withCode 0x0204 r) stOk [] (Machine.disconnect s) := by
  unfold evalDisconnect
  exact command_acts (h.withCode _) (isEmpty_args ha) hl _

theorem disconnect_stops (hl : legalCmd 0x0204 s = true) (hp : s.str.state ≠ .precharge) :
    Completes (exec (.disconnect r) s) fun t => Answered r 0x0204 stOk [] s t ∧ t.str.state = .stopping ∧
      (s.str.state ≠ .stopping → t.str.stopTarget = some .standby) ∧ (s.str.stopTarget = some .closed → t.str.stopTarget = some .standby) ∧
      (s.str.state = .stopping → t.str.entered = s.str.entered) := by
  have hd : (Machine.disconnect s).out = s.out ∧ (Machine.disconnect s).tb = s.tb ∧ (Machine.disconnect s).cfg = s.cfg ∧
      (Machine.disconnect s).str.state = .stopping ∧ (s.str.state ≠ .stopping → (Machine.disconnect s).str.stopTarget = some .standby) ∧
      (s.str.stopTarget = some .closed → (Machine.disconnect s).str.stopTarget = some .standby) ∧
      (s.str.state = .stopping → (Machine.disconnect s).str.entered = s.str.entered) := by
    unfold Machine.disconnect
    split
    next hst => exact absurd hst hp
    next hst =>
      split
      · obtain ⟨u, hu⟩ : ∃ u, u = onStr (fun x => { x with stopTarget := some .standby }) s := ⟨_, rfl⟩
        rw [← hu]
        refine ⟨(setState_out ..).trans (by rw [hu]; rfl), (setState_tb ..).trans (by rw [hu]; rfl), (setState_cfg ..).trans (by rw [hu]; rfl),
          ?_, fun hne => absurd hst hne, fun _ => ?_, fun _ => rfl⟩
        · show (setState .stopping 0 u).str.state = _
          rw [setState_str]
        · show (setState .stopping 0 u).str.stopTarget = _
          rw [setState_str, hu]
          rfl
      next hne => exact ⟨rfl, rfl, rfl, hst, fun k => absurd hst k, fun k => absurd k hne, fun _ => rfl⟩
    next hst =>
      obtain ⟨h1, h2, h3, h4, h5⟩ := stopToward_stops (s := s) .standby
      exact ⟨h3, h4, h5, h1, fun _ => h2, fun _ => h2, fun k => absurd k hst⟩
  obtain ⟨h1, h2, h3, h4⟩ := hd
  show Completes (evalRow 0x0204 evalDisconnect r s) _
  rw [completes_evalRow h, disconnect_acts h ha hl, respond_str]
  exact ⟨okAfter _ r h1 h2 h3, h4⟩

theorem disconnect_opens (hl : legalCmd 0x0204 s = true) (hp : s.str.state = .precharge) :
    Completes (exec (.disconnect r) s) fun t => Answered r 0x0204 stOk [] s t ∧ t.str.state = .standby ∧ coilsDriven t = false := by
  have hd : Machine.disconnect s = setState .standby 0 (coilsOff s) := by
    unfold Machine.disconnect
    rw [hp]
  have hf := coilsOff_frame s
  show Completes (evalRow 0x0204 evalDisconnect r s) _
  rw [completes_evalRow h, disconnect_acts h ha hl, hd, respond_str, setState_str]
  refine ⟨okAfter _ r ((setState_out ..).trans (hf .out rfl)) ((setState_tb ..).trans (hf .tb rfl)) ((setState_cfg ..).trans (hf .cfg rfl)), rfl, ?_⟩
  unfold coilsDriven
  rw [respond_cont, setState_cont]
  exact coilsOff_driven s

end

/-- Settles O47, over the commands of the string that are legal and those that are not. -/
theorem stringCommands : Obligations.StringCommands :=
  ⟨fun _ _ h ha hl hu => connect_starts h ha hl hu,
   fun _ _ _ h ha hl hu => connect_unmet h ha hl hu,
   fun _ _ h ha hl hw => start_runs h ha hl hw,
   fun _ _ h ha hl hw hleft => start_twilight h ha hl hw hleft,
   fun _ _ h ha hl hw hleft => start_exhausted h ha hl hw hleft,
   fun _ _ h ha hl => stop_stops h ha hl,
   fun _ _ h ha hl hp => disconnect_stops h ha hl hp,
   fun _ _ h ha hl hp => disconnect_opens h ha hl hp,
   fun _ _ h ha => ⟨fun hl => row_refuses evalConnect h (command_refuses (h.withCode _) (isEmpty_args ha) hl _),
    fun hl => row_refuses evalStart h (command_refuses (h.withCode _) (isEmpty_args ha) hl _),
    fun hl => row_refuses evalStop h (command_refuses (h.withCode _) (isEmpty_args ha) hl _),
    fun hl => row_refuses evalDisconnect h (command_refuses (h.withCode _) (isEmpty_args ha) hl _)⟩⟩

end Sys2Proof.Machine
end

section
/-! CLEAR_FAULT, SERVICE, RESTART, SHUTDOWN, FREEZE and PAIR_HANDOVER (R35, R43, R130, R422, R427, R527, R535). -/
namespace Sys2Proof.Machine

/-! ### An answer and what follows it -/

section
variable {q : HostReq} {code status : Nat} {payload : Bytes} {s u : State}

/-- What sends nothing after an answer leaves it sent. -/
theorem Answered.of_out {t : State} (h : Answered q code status payload s u) (hout : t.out = u.out) : Answered q code status payload s t :=
  h.congr rfl rfl rfl hout

theorem endAllSessions_answered (h : Answered q code status payload s u) (cause : Nat) : Answered q code status payload s (endAllSessions cause u) := by
  unfold endAllSessions
  generalize u.host.sessions.filterMap (fun o => o) = l
  induction l generalizing u with
  | nil => exact h
  | cons x l ih => exact ih (endSession_answered h x.id cause)

/-- A Dawn that follows an answer keeps what was sent and what waits to be. -/
theorem newDawn_answered (h : Answered q code status payload s u) (reason : Nat) : Answered q code status payload s (newDawn reason u) := by
  refine (?_ : Answered q code status payload s (beforeDawn reason u)).of_out rfl
  unfold beforeDawn
  extract_lets s1 s2
  have h1 : s1.out = u.out := by
    dsimp only [s1]
    split
    · exact Frame.of_blank (trialFails_blank (within_refl _) u) .out rfl
    · rfl
  have h2 : s2.out = s1.out := by
    dsimp only [s2]
    split
    · rfl
    · exact log_out ..
  exact (endAllSessions_answered (h.of_out (h2.trans h1)) 4).of_out (Frame.of_blank (flushBuffer_blank (within_refl _) _) .out rfl)

/-- A mirror frame that leaves, where the pair link takes one. -/
theorem emitMirror_cases (mtype mtick : Nat) (p : Bytes) (s : State) : emitMirror mtype mtick p s = s ∨
    ∃ n f, emitMirror mtype mtick p s = (s |> onPair (fun p => { p with mseqTx := n }) |> onOut fun o => { o with mirror := o.mirror ++ [f] }) := by
  unfold emitMirror
  dsimp only
  split
  · exact .inl rfl
  · split
    · exact .inl rfl
    · exact .inr ⟨_, _, rfl⟩

/-- A mirror frame leaves the host's answers as they are, and of the pair's part only its number changes. -/
theorem sendMirror_keeps (mtype mtick : Nat) (p : Bytes) (s : State) : (sendMirror mtype mtick p s).out.host = s.out.host ∧
    (∀ port, port < 2 → ((sendMirror mtype mtick p s).out.held.filter fun x => x.1 = port) = s.out.held.filter fun x => x.1 = port) ∧
    (∃ n, (sendMirror mtype mtick p s).pair = { s.pair with mseqTx := n }) := by
  unfold sendMirror
  split
  · refine ⟨rfl, fun port hp => ?_, s.pair.mseqTx, rfl⟩
    show (s.out.held ++ [(2, _)]).filter _ = _
    rw [List.filter_append, List.filter_cons_of_neg (by simp; omega), List.filter_nil, List.append_nil]
  · rcases emitMirror_cases mtype mtick p s with h | ⟨n, f, h⟩
    · rw [h]; exact ⟨rfl, fun _ _ => rfl, s.pair.mseqTx, rfl⟩
    · rw [h]; exact ⟨rfl, fun _ _ => rfl, n, rfl⟩

/-- A handover request that goes out. -/
theorem startHandover_asks (kind : Nat) (req : Option HostReq) (hp : s.pair.handoverPending = false) :
    (startHandover kind req s).pair.hTick = some (s.tb.time + 20000000) ∧ (startHandover kind req s).pair.hYields = true ∧
      (startHandover kind req s).pair.hAccepted = false ∧ (startHandover kind req s).pair.hThen = kind ∧ (startHandover kind req s).pair.hReq = req ∧
      (startHandover kind req s).pair.handoverPending = true ∧ (startHandover kind req s).str = s.str ∧
      (startHandover kind req s).out.host = s.out.host ∧
      (∀ port, port < 2 → ((startHandover kind req s).out.held.filter fun x => x.1 = port) = s.out.held.filter fun x => x.1 = port) := by
  obtain ⟨w, hw⟩ : ∃ w, w = onPair (fun p => { p with
      hTick := some (s.tb.time + 20000000), hYields := true, hAccepted := false, hSentAt := s.tick.now, hThen := kind, hReq := req
      handoverPending := true }) s := ⟨_, rfl⟩
  have hx : startHandover kind req s = sendHandover (s.tb.time + 20000000) 0 w := by
    rw [hw]
    exact if_neg (by simp [hp])
  obtain ⟨h1, h2, n, h3⟩ := sendMirror_keeps 7 w.tb.time (u64 (s.tb.time + 20000000) ++ u8 0 ++ List.replicate 7 0) w
  have hstr : (sendHandover (s.tb.time + 20000000) 0 w).str = w.str := Frame.of_blank (sendHandover_blank (within_refl _) _ 0 w) .str rfl
  have hpair : (sendHandover (s.tb.time + 20000000) 0 w).pair = { w.pair with mseqTx := n } := h3
  rw [hx, hpair, hstr, show (sendHandover (s.tb.time + 20000000) 0 w).out.host = w.out.host from h1]
  refine ⟨by rw [hw]; rfl, by rw [hw]; rfl, by rw [hw]; rfl, by rw [hw]; rfl, by rw [hw]; rfl, by rw [hw]; rfl, by rw [hw]; rfl, by rw [hw]; rfl, fun port hp => ?_⟩
  exact (h2 port hp).trans (by rw [hw]; rfl)

theorem startHandover_answered (h : Answered q code status payload s u) (kind : Nat) (req : Option HostReq) (hp : u.pair.handoverPending = false) :
    Answered q code status payload s (startHandover kind req u) := by
  obtain ⟨-, -, -, -, -, -, -, hhost, hheld⟩ := startHandover_asks kind req hp
  obtain ⟨d, hd, h⟩ := h
  refine ⟨d, ?_, h⟩
  unfold Sent at hd ⊢
  split at hd
  next hq =>
    rw [if_pos hq, hheld d.port hq.1]
    exact hd
  next hq =>
    rw [if_neg hq, hhost]
    exact hd

end

/-- In OFF no coil is driven. -/
theorem enterOff_coils (rung cause : Nat) (aux : Bool) (s : State) : coilsDriven (enterOff rung cause aux s) = false := by
  obtain ⟨w, hw⟩ : ∃ w, w = onPins (fun p => { p with gate := List.replicate 6 .dark, sklTx := false })
      (onStr (fun x => { x with mirrored := false }) (setState .off cause s)) := ⟨_, rfl⟩
  obtain ⟨v, hv⟩ : ∃ v, v = openImd (openSafeOut (coilsOff w)) := ⟨_, rfl⟩
  obtain ⟨z, hz⟩ : ∃ z, z = (v |> onPair (fun p => { p with ownOut := false }) |> onThm (fun t => { t with
      pwm := List.replicate 4 0, ao := List.replicate 2 0, loopsRun := false }) |> canOff |> loadsOff (rung = 2) |>
      onProt (fun p => { p with stop := none, evaluating := false })) := ⟨_, rfl⟩
  have hx : enterOff rung cause aux s = onLad (fun l => { l with offByAux := aux, activeSeen := false }) (setRung rung z) := by
    rw [hz, hv, hw]; rfl
  have hvc : v.cont = (coilsOff w).cont := by
    rw [hv, show (openImd _).cont = _ from openImd_frame _ .cont rfl]
    exact Frame.of_blank (openSafeOut_blank (within_refl _) _) .cont rfl
  have hzc : (setRung rung z).cont = v.cont :=
    (Frame.of_blank (setRung_blank (within_refl _) rung z) .cont rfl : _ = _).trans (by rw [hz]; rfl)
  rw [← coilsOff_driven w]
  unfold coilsDriven
  rw [hx, onLad_cont, hzc, hvc]

/-- A module that serves a request is not frozen. -/
theorem Admitted.not_frozen {least : Nat} {r : HostReq} {s : State} (h : Admitted least r s) : s.lad.frozen = false := by
  have hs := h.1
  have hr : running s = true := by
    unfold serves netUp recoveryUp at hs
    simp only [Bool.or_eq_true, Bool.and_eq_true] at hs
    rcases hs with hs | hs
    · exact hs.1.1
    · exact hs.1.2
  unfold running at hr
  simp only [Bool.and_eq_true, Bool.not_eq_true'] at hr
  exact hr.1.1.2

/-- What ends the module's work follows at once where no admitted partner takes over. -/
theorem leaveWith_alone {kind : Nat} {act : State → State} {s : State} (h : s.str.role ≠ some .active ∨ partnerAdmitted s = false) :
    leaveWith kind act s = act s := if_neg (by rcases h with h | h <;> simp [h])

section
variable {r : HostReq} {s : State} (ha : r.args = [])
include ha

theorem clearFault_clears (h : Admitted 1 r s) (hl : legalCmd 0x0205 s = true) (hc : clearable s = true) :
    Completes (exec (.clearFault r) s) fun t => Answered r 0x0205 stOk [] s t ∧ t.str.state = .standby ∧ t.str.causes = [] ∧
      (tripLatched s = true → t.can.tripFn = 0 ∧ t.can.tripCause = 0) := by
  obtain ⟨w, hw⟩ : ∃ w, w = setState .standby 0 (onStr (fun x => { x with causes := [] }) s) := ⟨_, rfl⟩
  obtain ⟨u, hu⟩ : ∃ u, u = if tripLatched s then tripCleared w else w := ⟨_, rfl⟩
  have he : evalClearFault (withCode 0x0205 r) s = respond (withCode 0x0205 r) stOk [] u := by
    rw [hu, hw]
    unfold evalClearFault
    rw [command_acts (h.withCode _) (isEmpty_args ha) hl, if_pos hc]
  have hf := Frame.of_blank (tripCleared_blank (within_refl _) w)
  have hw1 : w.out = s.out ∧ w.tb = s.tb ∧ w.cfg = s.cfg ∧ w.str.state = .standby ∧ w.str.causes = [] := by
    rw [hw, setState_str]
    exact ⟨setState_out .., setState_tb .., setState_cfg .., rfl, rfl⟩
  have hu1 : u.out = w.out ∧ u.tb = w.tb ∧ u.cfg = w.cfg ∧ u.str = w.str := by
    rw [hu]
    split
    · exact ⟨hf .out rfl, hf .tb rfl, hf .cfg rfl, hf .str rfl⟩
    · exact ⟨rfl, rfl, rfl, rfl⟩
  obtain ⟨h1, h2, h3, h4, h5⟩ := hw1
  obtain ⟨k1, k2, k3, k4⟩ := hu1
  show Completes (evalRow 0x0205 evalClearFault r s) _
  rw [completes_evalRow h, he, respond_str, respond_can, k4]
  refine ⟨okAfter _ r (k1.trans h1) (k2.trans h2) (k3.trans h3), h4, h5, fun ht => ?_⟩
  rw [hu, if_pos ht]
  unfold tripCleared writeTripCopy
  extract_lets data s1
  split
  · unfold onCtl
    split <;> exact ⟨rfl, rfl⟩
  · exact ⟨rfl, rfl⟩

theorem clearFault_faults (h : Admitted 1 r s) (hl : legalCmd 0x0205 s = true) (hc : clearable s = false) :
    Completes (exec (.clearFault r) s) fun t => Answered r 0x0205 stFault [] s t ∧ t.str = s.str := by
  have he : evalClearFault (withCode 0x0205 r) s = respond (withCode 0x0205 r) stFault [] s := by
    unfold evalClearFault
    rw [command_acts (h.withCode _) (isEmpty_args ha) hl, if_neg (by simp [hc])]
  show Completes (evalRow 0x0205 evalClearFault r s) _
  rw [completes_evalRow h, he]
  exact ⟨respond_answered s (withCode 0x0205 r) stFault [] (by decide), respond_str ..⟩

theorem enterService_enters (h : Admitted 2 r s) (hl : legalCmd 0x0208 s = true) :
    Completes (exec (.enterService r) s) fun t => Answered r 0x0208 stOk [] s t ∧ t.str.state = .service := by
  have he : evalEnterService (withCode 0x0208 r) s = respond (withCode 0x0208 r) stOk [] (setState .service 0 s) := by
    unfold evalEnterService
    exact command_acts (h.withCode _) (isEmpty_args ha) hl _
  show Completes (evalRow 0x0208 evalEnterService r s) _
  rw [completes_evalRow h, he]
  exact setState_answered 0x0208 .service

theorem restart_acts (h : Admitted 1 r s) (hl : legalCmd 0x0206 s = true) :
    evalRestart (withCode 0x0206 r) s = leaveWith 1 (newDawn 4) (respond (withCode 0x0206 r) stOk [] s) := by
  unfold evalRestart
  exact command_acts (h.withCode _) (isEmpty_args ha) hl _

omit ha in
/-- An answer leaves the role and the partner as they are. -/
theorem respond_alone (code : Nat) (h : s.str.role ≠ some .active ∨ partnerAdmitted s = false) :
    (respond (withCode code r) stOk [] s).str.role ≠ some .active ∨ partnerAdmitted (respond (withCode code r) stOk [] s) = false := by
  unfold partnerAdmitted at h ⊢
  rw [respond_str, respond_pair]
  exact h

theorem restart_dawns (h : Admitted 1 r s) (hl : legalCmd 0x0206 s = true) (hp : s.str.role ≠ some .active ∨ partnerAdmitted s = false) :
    Completes (exec (.restart r) s) fun t => Answered r 0x0206 stOk [] s t ∧ t.str.state = .dawn ∧ t.dawn.reason = 4 ∧
      t.idn.dawnCnt = (s.idn.dawnCnt + 1) % 4294967296 ∧ t.host.sessions = State.reset.host.sessions := by
  show Completes (evalRow 0x0206 evalRestart r s) _
  rw [completes_evalRow h, restart_acts ha h hl, leaveWith_alone (respond_alone _ hp)]
  refine ⟨newDawn_answered (respond_answered s (withCode 0x0206 r) stOk [] (by decide)) 4, rfl, rfl, ?_, rfl⟩
  rw [newDawn_dawnCnt, show (respond (withCode 0x0206 r) stOk [] s).idn = s.idn from respond_frame _ stOk [] s .idn rfl]

theorem restart_hands (h : Admitted 1 r s) (hl : legalCmd 0x0206 s = true) (hrole : s.str.role = some .active) (hp : partnerAdmitted s = true)
    (hh : s.pair.handoverPending = false) :
    Completes (exec (.restart r) s) fun t => Answered r 0x0206 stOk [] s t ∧ t.str = s.str ∧ t.pair.hTick = some (s.tb.time + 20000000) ∧
      t.pair.hYields = true ∧ t.pair.hThen = 1 := by
  obtain ⟨u, hu⟩ : ∃ u, u = respond (withCode 0x0206 r) stOk [] s := ⟨_, rfl⟩
  have hpair : u.pair = s.pair := by rw [hu, respond_pair]
  have hstr : u.str = s.str := by rw [hu, respond_str]
  have htb : u.tb = s.tb := by rw [hu, respond_tb]
  have he : evalRestart (withCode 0x0206 r) s = startHandover 1 none u := by
    rw [restart_acts ha h hl, ← hu]
    unfold partnerAdmitted at hp
    exact if_pos (by unfold partnerAdmitted; rw [hstr, hpair]; simp [hrole, hp])
  have hup : u.pair.handoverPending = false := by rw [hpair]; exact hh
  obtain ⟨h1, h2, -, h3, -, -, h4, -, -⟩ := startHandover_asks 1 none hup
  show Completes (evalRow 0x0206 evalRestart r s) _
  rw [completes_evalRow h, he, h4, hstr]
  refine ⟨startHandover_answered ?_ 1 none hup, rfl, ?_, h2, h3⟩
  · rw [hu]; exact respond_answered s (withCode 0x0206 r) stOk [] (by decide)
  · rw [h1, htb]

theorem shutdown_goesOff (h : Admitted 1 r s) (hl : legalCmd 0x0207 s = true) (hp : s.str.role ≠ some .active ∨ partnerAdmitted s = false) :
    Completes (exec (.shutdown r) s) fun t => Answered r 0x0207 stOk [] s t ∧ t.str.state = .off ∧
      t.lad.rung = (if s.cfg.safety.pair = true then 2 else 5) ∧ coilsDriven t = false ∧ t.pair.ownOut = false := by
  obtain ⟨u, hu⟩ : ∃ u, u = respond (withCode 0x0207 r) stOk [] s := ⟨_, rfl⟩
  obtain ⟨k, hk⟩ : ∃ k : Nat, k = if s.cfg.safety.pair = true then 2 else 5 := ⟨_, rfl⟩
  have he : evalShutdown (withCode 0x0207 r) s = enterOff k 0 false u := by
    unfold evalShutdown
    rw [command_acts (h.withCode _) (isEmpty_args ha) hl, leaveWith_alone (respond_alone _ hp), hu, hk]
  have hk1 : k ≠ 1 := by rw [hk]; split <;> decide
  obtain ⟨h1, -, h2, -, -, -, h3, -⟩ := enterOff_off hk1 0 false u
  show Completes (evalRow 0x0207 evalShutdown r s) _
  rw [completes_evalRow h, he, ← hk]
  refine ⟨Answered.of_out (u := u) ?_ ?_, h1, h2, ?_, h3⟩
  · rw [hu]; exact respond_answered s (withCode 0x0207 r) stOk [] (by decide)
  · exact Frame.of_blank (enterOff_blank (within_refl _) k 0 false u) .out rfl
  · exact enterOff_coils k 0 false u

theorem exitService_dawns (h : Admitted 2 r s) (hl : legalCmd 0x0209 s = true) (hp : s.str.role ≠ some .active ∨ partnerAdmitted s = false) :
    Completes (exec (.exitService r) s) fun t => Answered r 0x0209 stOk [] s t ∧ t.str.state = .dawn ∧ t.dawn.reason = 6 := by
  have he : evalExitService (withCode 0x0209 r) s = leaveWith 6 (newDawn 6) (respond (withCode 0x0209 r) stOk [] s) := by
    unfold evalExitService
    exact command_acts (h.withCode _) (isEmpty_args ha) hl _
  show Completes (evalRow 0x0209 evalExitService r s) _
  rw [completes_evalRow h, he, leaveWith_alone (respond_alone _ hp)]
  exact ⟨newDawn_answered (respond_answered s (withCode 0x0209 r) stOk [] (by decide)) 6, rfl, rfl⟩

/-- FREEZE is accepted and its sequence begins. -/
theorem freeze_acts (h : Admitted 2 r s) (hl : legalCmd 0x020B s = true) (hp : s.str.role ≠ some .active ∨ partnerAdmitted s = false)
    (hf : s.lad.freezeReq = none) : ∃ u, u = respond (withCode 0x020B r) stOk [] s ∧ activeState u = activeState s ∧ u.str = s.str ∧ u.tick = s.tick ∧
      u.lad.frozen = s.lad.frozen ∧ Answered r 0x020B stOk [] s u ∧ evalFreeze (withCode 0x020B r) s = freezeOn 2 s.tick.now u := by
  refine ⟨_, rfl, ?_, respond_str .., respond_tick .., ?_, respond_answered s (withCode 0x020B r) stOk [] (by decide), ?_⟩
  · unfold activeState owning; rw [respond_str]
  · exact (congrArg LadderSt.frozen ((respond_frame (withCode 0x020B r) stOk [] s).lad_but_rung rfl) :)
  · have hlad := (respond_frame (withCode 0x020B r) stOk [] s).lad_but_rung rfl
    have h1 : (respond (withCode 0x020B r) stOk [] s).lad.frozen = false := (congrArg LadderSt.frozen hlad :).trans h.not_frozen
    have h2 : (respond (withCode 0x020B r) stOk [] s).lad.freezeReq = none := (congrArg LadderSt.freezeReq hlad :).trans hf
    have halone : ¬((respond (withCode 0x020B r) stOk [] s).str.role = some .active && partnerAdmitted (respond (withCode 0x020B r) stOk [] s)) = true := by
      intro k
      rw [Bool.and_eq_true, decide_eq_true_eq] at k
      exact (respond_alone (r := r) (s := s) 0x020B hp).elim (fun h => h k.1) fun h => Bool.noConfusion (h.symm.trans k.2)
    unfold evalFreeze
    rw [command_acts (h.withCode _) (isEmpty_args ha) hl]
    unfold freezeAccept
    rw [if_neg (by simp [h1, h2]), if_neg halone, respond_tick]

theorem freeze_freezes (h : Admitted 2 r s) (hl : legalCmd 0x020B s = true) (hp : s.str.role ≠ some .active ∨ partnerAdmitted s = false)
    (hact : activeState s = false) (hf : s.lad.freezeReq = none) :
    Completes (exec (.freeze r) s) fun t => Answered r 0x020B stOk [] s t ∧ t.lad.frozen = true ∧ t.lad.rung = 3 ∧ t.pair.ownOut = false ∧
      t.str.state = s.str.state ∧ (∀ x, some x ∈ t.host.sessions → x.key = List.replicate 32 0) := by
  obtain ⟨u, -, ha1, hstr, -, -, hans, he⟩ := freeze_acts ha h hl hp hf
  have hx : freezeOn 2 s.tick.now u = enterFreeze 2 false u := if_neg (by rw [ha1, hact]; decide)
  obtain ⟨-, h1, h2, h3, -, h4⟩ := enterFreeze_frozen 2 false u
  have hfr := Frame.of_blank (enterFreeze_blank (within_refl _) 2 false u)
  show Completes (evalRow 0x020B evalFreeze r s) _
  rw [completes_evalRow h, he, hx, show (enterFreeze 2 false u).str = _ from hfr .str rfl, hstr]
  exact ⟨hans.of_out (hfr .out rfl), h1, h2, h3, rfl, h4⟩

theorem freeze_stops (h : Admitted 2 r s) (hl : legalCmd 0x020B s = true) (hp : s.str.role ≠ some .active ∨ partnerAdmitted s = false)
    (hact : activeState s = true) (hf : s.lad.freezeReq = none) :
    Completes (exec (.freeze r) s) fun t => Answered r 0x020B stOk [] s t ∧ t.lad.freezeReq = some (2, 2, s.tick.now) ∧ t.prot.stop ≠ none ∧
      t.lad.frozen = s.lad.frozen := by
  obtain ⟨u, -, ha1, hstr, -, hfz, hans, he⟩ := freeze_acts ha h hl hp hf
  obtain ⟨v, hv⟩ : ∃ v, v = log srcSafety 0x1118 3 (u8 u.str.state.code ++ i32 (roundAway (absR (iStr u)))) u := ⟨_, rfl⟩
  have hx : freezeOn 2 s.tick.now u = onLad (fun l => { l with freezeReq := some (2, 2, s.tick.now) }) (safeStop false v) := by
    rw [hv]
    exact if_pos (by rw [ha1, hact])
  obtain ⟨-, -, -, hstop, -⟩ := safeStop_kept v false
  show Completes (evalRow 0x020B evalFreeze r s) _
  rw [completes_evalRow h, he, hx]
  refine ⟨hans.of_out ?_, rfl, hstop, ?_⟩
  · show (safeStop false v).out = _
    rw [safeStop_out, hv, log_out]
  · show (safeStop false v).lad.frozen = _
    have hs := (Frame.of_blank (safeStop_blank (within_refl _) false v)).lad_but_rung rfl
    have hl := (log_frame u srcSafety 0x1118 3 (u8 u.str.state.code ++ i32 (roundAway (absR (iStr u))))).lad_but_rung rfl
    rw [← hv] at hl
    exact ((congrArg LadderSt.frozen hs :).trans (congrArg LadderSt.frozen hl :)).trans hfz

theorem pairHandover_asks (h : Admitted 1 r s) (hl : legalCmd 0x020D s = true) (hh : s.pair.handoverPending = false) :
    Completes (exec (.pairHandover r) s) fun t => t.pair.hTick = some (s.tb.time + 20000000) ∧ t.pair.hYields = true ∧ t.pair.hAccepted = false ∧
      t.pair.hReq = some { r with code := 0x020D } ∧ t.pair.handoverPending = true ∧ t.str = s.str ∧ t.out.host = s.out.host := by
  have he : evalPairHandover (withCode 0x020D r) s = startHandover 0 (some (withCode 0x020D r)) s := by
    unfold evalPairHandover
    exact command_acts (h.withCode _) (isEmpty_args ha) hl _
  obtain ⟨h1, h2, h3, -, h4, h5, h6, h7, -⟩ := startHandover_asks 0 (some (withCode 0x020D r)) hh
  show Completes (evalRow 0x020D evalPairHandover r s) _
  rw [completes_evalRow h, he]
  exact ⟨h1, h2, h3, h4, h5, h6, h7⟩

end

/-- Settles O48, over the commands of the module's lifecycle. -/
theorem lifecycleCommands : Obligations.LifecycleCommands :=
  ⟨fun _ _ h ha hl hc => clearFault_clears ha h hl hc,
   fun _ _ h ha hl hc => clearFault_faults ha h hl hc,
   fun _ _ h ha hl => enterService_enters ha h hl,
   fun _ _ h ha hl hp => restart_dawns ha h hl hp,
   fun _ _ h ha hl hrole hp hh => restart_hands ha h hl hrole hp hh,
   fun _ _ h ha hl hp => shutdown_goesOff ha h hl hp,
   fun _ _ h ha hl hp => exitService_dawns ha h hl hp,
   fun _ _ h ha hl hp hact hf => freeze_freezes ha h hl hp hact hf,
   fun _ _ h ha hl hp hact hf => freeze_stops ha h hl hp hact hf,
   fun _ _ h ha hl hh => pairHandover_asks ha h hl hh⟩

end Sys2Proof.Machine
end

section
/-! RESTORE_STATE (R263, R449): a bulk target that no session holds keeps its bytes. -/
namespace Sys2Proof.Machine

/-- STANDBY on a module of its own with session 1 open at the operator's role: bulk target 1 holds a byte and belongs to no session. -/
def unheldBulkState : State :=
  State.reset |> onStr (fun x => { x with state := .standby, role := some .solo })
    |> onPins (fun p => { p with eth1Up := true })
    |> onHost (fun h => { h with
        sessions := [some { id := 1, state := 2, slot := 1, port := 0, addr := 0, udp := 0 }], bulk1 := { owner := 0, data := [(0, 7)] } })
    |> fun s => { s with cfg.net.hostPorts := 1 }

/-- RESTORE_STATE of one byte in session 1. -/
def restoreOne : HostReq := { port := 0, addr := 0, udp := 0, session := 1, seq := 1, code := 0x020A, args := [1, 0, 0, 0] }

/-- The blob is judged and refused; the target is not session 1's, so its byte stays. -/
theorem unheldBulk_stays : (bulkOf (evalRestoreState (withCode 0x020A restoreOne) unheldBulkState) 1).data = [(0, 7)] := by
  decide +kernel

/-- Refutes O49: a bulk target that no session holds is not released by the command that consumes it, so its bytes stay. -/
theorem not_dataCommands : ¬ Obligations.DataCommands := by
  intro h
  obtain ⟨-, -, -, -, -, -, restore, -⟩ := h
  have hadm : Admitted 1 restoreOne unheldBulkState := ⟨by decide +kernel, _, rfl, by decide +kernel⟩
  have hrun := restore unheldBulkState restoreOne [7] hadm (by decide +kernel) (by decide +kernel) (by decide +kernel) (by decide +kernel) (by decide +kernel)
  rw [show exec (.restoreState restoreOne) unheldBulkState = evalRow 0x020A evalRestoreState restoreOne unheldBulkState from rfl,
    completes_evalRow hadm] at hrun
  obtain ⟨-, hdata, -⟩ := hrun
  rw [unheldBulk_stays] at hdata
  cases hdata

end Sys2Proof.Machine
end

section
/-! Long operations: a start takes the next handle, or is answered BUSY or STATE (R15, R47, R450). -/
namespace Sys2Proof.Machine

/-- Past the first byte a replaced first byte does not show. -/
theorem slice_setAt_zero (b : Bytes) (v : Byte) {off : Nat} (h : 1 ≤ off) (len : Nat) : slice (setAt b 0 v) off len = slice b off len := by
  obtain ⟨n, rfl⟩ : ∃ n, off = n + 1 := ⟨off - 1, by omega⟩
  cases b <;> rfl

theorem getN_setAt_zero (b : Bytes) (v : Byte) {off : Nat} (h : 1 ≤ off) (len : Nat) : getN (setAt b 0 v) off len = getN b off len :=
  congrArg leNat (slice_setAt_zero b v h len)

/-- The request of an OP_START row. -/
def startReq (kind : Nat) (r : HostReq) : HostReq := withCode 0x0300 { r with args := setAt r.args 0 (BitVec.ofNat 8 kind) }

section
variable {r : HostReq} {s : State} {kind : Nat}

theorem startReq_length : (startReq kind r).args.length = r.args.length := length_setAt ..

theorem startReq_getN {off : Nat} (h : 1 ≤ off) (len : Nat) : getN (startReq kind r).args off len = getN r.args off len := getN_setAt_zero _ _ h len

theorem startReq_getI {off : Nat} (h : 1 ≤ off) (len : Nat) : getI (startReq kind r).args off len = getI r.args off len :=
  congrArg (signed (8 * len)) (startReq_getN h len)

theorem Admitted.startReq {least : Nat} (h : Admitted least r s) (kind : Nat) : Admitted least (startReq kind r) s := h

theorem completes_kindRow {least : Nat} (h : Admitted least r s) (eval : HostReq → State → State) (p : State → Prop) :
    Completes (kindRow kind eval r s) p ↔ p (eval (startReq kind r) s) :=
  completes_evalRow (r := { r with args := setAt r.args 0 (BitVec.ofNat 8 kind) }) h eval p

section
variable {argsOk fault busy : State → Bool} {act : State → State}

/-- A start that nothing refuses. -/
theorem opStart_acts (h : Admitted (opRole kind) r s) (ha : argsOk s = true) (hl : opLegal kind s = true) (hf : fault s = false)
    (hnone : findOp s kind = none) (hb : busy s = false) : opStart kind argsOk fault busy act r s = answerHandle r (act s) := by
  unfold opStart
  rw [roleThen_admitted h ha]
  simp only [hl, hf, hnone, hb, Bool.not_true, Option.isSome_none, Bool.or_self, Bool.false_eq_true, if_false]

/-- A start of a kind that may not start now. -/
theorem opStart_illegal (h : Admitted (opRole kind) r s) (ha : argsOk s = true) (hl : opLegal kind s = false) :
    opStart kind argsOk fault busy act r s = refuseState r s := by
  unfold opStart
  rw [roleThen_admitted h ha, hl]
  exact if_pos rfl

/-- A second start of a kind. -/
theorem opStart_busy (h : Admitted (opRole kind) r s) (ha : argsOk s = true) (hl : opLegal kind s = true) (hf : fault s = false)
    (hsome : (findOp s kind).isSome = true) : opStart kind argsOk fault busy act r s = respond r stBusy [] s := by
  unfold opStart
  rw [roleThen_admitted h ha]
  simp only [hl, hf, hsome, Bool.not_true, Bool.true_or, Bool.false_eq_true, if_false, if_true]

end

/-- The handle answers the start once the operation stands. -/
theorem answerHandle_answers {u : State} (kind : Nat) (hout : u.out = s.out) (htb : u.tb = s.tb) (hcfg : u.cfg = s.cfg)
    (hh : u.ops.lastHandle = nextHandle s) : Answered r 0x0300 stOk (u16 (nextHandle s)) s (answerHandle (startReq kind r) u) := by
  unfold answerHandle
  rw [hh]
  exact respond_answered_after (startReq kind r) stOk _ (by rw [u16, length_toLe]; decide) hout htb hcfg

end

section
variable {r : HostReq} {s : State}

/-- An operation just created is found. -/
theorem findOp_createOp (kind session : Nat) (s : State) : (findOp (createOp kind session s) kind).isSome = true := by
  refine List.find?_isSome.2 ⟨_, List.mem_append_right _ (List.mem_singleton_self _), ?_⟩
  rw [Bool.and_eq_true, decide_eq_true_eq, decide_eq_true_eq]
  exact ⟨rfl, Nat.zero_ne_add_one 1⟩

/-- Where nothing is staged the region is erased first. -/
theorem updStart_fresh (id len session : Nat) (h : s.upd.staging = none) : updStart id len session s =
    log srcApp3 0x1201 1 (u32 id ++ u16 0) (createOp 7 session (onUpd (fun u => { u with
      phase := 1, chunksFailed := 0, dupes := 0, installMs := 0, erasing := true, staging := some { updId := id, xferLen := len } }) s)) := by
  unfold updStart installReady
  simp only [h, Bool.not_false, Bool.false_eq_true, if_false, log_upd]
  rfl

theorem respond_rcd (q : HostReq) (status : Nat) (payload : Bytes) (s : State) : (respond q status payload s).rcd = s.rcd :=
  Frame.rcd_eq (respond_frame q status payload s) rfl rfl

theorem capLearn_starts (h : Admitted 1 r s) (ha : r.args.length = 4) (hl : opLegal 1 s = true) (hn : findOp s 1 = none) (hrest : s.est.restEnd = none) :
    Completes (exec (.opStartCapLearn r) s) fun t => Answered r 0x0300 stOk (u16 (nextHandle s)) s t ∧ t.ops.lastHandle = nextHandle s ∧
      t.est.learn = some { start := s.tick.now } := by
  have hs : learnStart (startReq 1 r).session s = (s |> createOp 1 r.session
      |> onEst (fun e => { e with learn := some { start := s.tick.now }, learnAbort := 0, learnDq := 0 }) |> onPoss fun _ e => { e with rescaled := false }) := by
    unfold learnStart
    rw [hrest]
    rfl
  refine (completes_kindRow h evalCapLearn _).2 ?_
  unfold evalCapLearn
  rw [opStart_acts (kind := 1) (h.startReq 1) (by rw [decide_eq_true_eq, startReq_length, ha]) hl rfl hn rfl, hs]
  refine ⟨answerHandle_answers 1 rfl rfl rfl rfl, ?_, ?_⟩
  · rw [answerHandle, respond_ops]
    rfl
  · rw [answerHandle, respond_est]
    rfl

theorem sysCal_starts (h : Admitted 2 r s) (ha : calArgsOk r.args = true) (hl : opLegal 2 s = true) (hn : findOp s 2 = none) :
    Completes (exec (.opStartSysCal r) s) fun t => Answered r 0x0300 stOk (u16 (nextHandle s)) s t ∧
      t.met.sysCal = some { index := getN r.args 4 1, span := getI r.args 8 8, since := s.tick.now } ∧
      (getN r.args 4 1 ≤ 3 → t.met.frozen = some (getN r.args 4 1 / 2, s.tick.now)) := by
  have hargs : calArgsOk (startReq 2 r).args = true := by
    unfold calArgsOk at ha ⊢
    rwa [startReq_length, startReq_getN (by decide), startReq_getI (by decide)]
  refine (completes_kindRow h evalSysCal _).2 ?_
  unfold evalSysCal
  rw [opStart_acts (kind := 2) (h.startReq 2) hargs hl rfl hn rfl, startReq_getN (by decide), startReq_getI (by decide)]
  refine ⟨answerHandle_answers 2 rfl rfl rfl rfl, ?_, fun hi => ?_⟩
  · rw [answerHandle, respond_met]
    rfl
  · rw [answerHandle, respond_met]
    exact if_pos hi

theorem sweep_starts (h : Admitted 1 r s) (ha : r.args.length = 5) (hp : getN r.args 4 1 < s.cfg.imp.plans.length) (hl : opLegal 3 s = true)
    (hn : findOp s 3 = none) (hb : sweepBusy s = false) :
    Completes (exec (.opStartImpedanceSweep r) s) fun t => Answered r 0x0300 stOk (u16 (nextHandle s)) s t ∧
      t.imp.sweep = some { handle := nextHandle s, plan := getN r.args 4 1, auto := decide (r.session = 0), started := s.tick.now } := by
  refine (completes_kindRow h evalSweep _).2 ?_
  unfold evalSweep
  rw [opStart_acts (kind := 3) (h.startReq 3) (by simp [startReq_length, ha, startReq_getN, hp]) hl rfl hn hb, startReq_getN (by decide)]
  refine ⟨answerHandle_answers 3 rfl rfl rfl rfl, ?_⟩
  rw [answerHandle, respond_imp]
  rfl

theorem campaign_starts (h : Admitted 1 r s) (ha : r.args.length = 8) (hd : 10 ≤ getN r.args 4 2) (hd' : getN r.args 4 2 ≤ 1000)
    (hm : 1 ≤ getN r.args 6 2) (hm' : getN r.args 6 2 ≤ 10080) (hl : opLegal 4 s = true) (hn : findOp s 4 = none) :
    Completes (exec (.opStartBalanceCampaign r) s) fun t => Answered r 0x0300 stOk (u16 (nextHandle s)) s t ∧
      t.bal.campaign = some { deadband := getN r.args 4 2, timeMax := getN r.args 6 2, since := some s.tick.now } ∧ t.bal.result = 0 := by
  refine (completes_kindRow h evalCampaign _).2 ?_
  unfold evalCampaign
  dsimp only
  rw [opStart_acts (kind := 4) (h.startReq 4) (by simp [startReq_length, ha, startReq_getN, hd, hd', hm, hm']) hl rfl hn rfl, startReq_getN (by decide),
    startReq_getN (by decide)]
  refine ⟨answerHandle_answers 4 rfl rfl rfl rfl, ?_, ?_⟩
  · rw [answerHandle, respond_bal]
    rfl
  · rw [answerHandle, respond_bal]
    rfl

theorem isoTest_starts (h : Admitted 1 r s) (ha : r.args.length = 4) (hl : opLegal 5 s = true) (hn : findOp s 5 = none) :
    Completes (exec (.opStartInsulationTest r) s) fun t => Answered r 0x0300 stOk (u16 (nextHandle s)) s t ∧
      t.iso.test = some (.reference, 0) ∧ t.iso.lastAsym = none := by
  refine (completes_kindRow h evalIsoTest _).2 ?_
  unfold evalIsoTest
  rw [opStart_acts (kind := 5) (h.startReq 5) (by rw [decide_eq_true_eq, startReq_length, ha]) hl rfl hn rfl]
  refine ⟨answerHandle_answers 5 rfl rfl rfl rfl, ?_, ?_⟩
  · rw [answerHandle, respond_iso]
    rfl
  · rw [answerHandle, respond_iso]
    rfl

theorem export_starts (h : Admitted 1 r s) (ha : r.args.length = 16) (hf : getN r.args 4 4 ≤ exportTo r.args s) (hsev : getN r.args 12 1 ≤ 3)
    (hl : opLegal 6 s = true) (hn : findOp s 6 = none) :
    Completes (exec (.opStartLogExport r) s) fun t => Answered r 0x0300 stOk (u16 (nextHandle s)) s t ∧
      t.rcd.export_ = some { next := getN r.args 4 4, to_ := exportTo r.args s, minSev := getN r.args 12 1 } := by
  have hto : exportTo (startReq 6 r).args s = exportTo r.args s := by
    unfold exportTo
    rw [startReq_getN (by decide)]
  refine (completes_kindRow h evalExport _).2 ?_
  unfold evalExport
  rw [opStart_acts (kind := 6) (h.startReq 6) (by simp [startReq_length, ha, startReq_getN, hto, hf, hsev]) hl rfl hn rfl, startReq_getN (by decide),
    startReq_getN (by decide), hto]
  refine ⟨answerHandle_answers 6 rfl rfl rfl rfl, ?_⟩
  rw [answerHandle, respond_rcd]
  rfl

theorem updStage_starts (h : Admitted 3 r s) (ha : updArgsOk r.args = true) (hl : opLegal 7 s = true) (hn : findOp s 7 = none)
    (hred : s.hlth.stagingReduced = false) (hst : s.upd.staging = none) (hA : s.upd.slotA.st ≠ 3) (hB : s.upd.slotB.st ≠ 3) :
    Completes (exec (.opStartUpdateStage r) s) fun t => Answered r 0x0300 stOk (u16 (nextHandle s)) s t ∧ (findOp t 7).isSome = true ∧
      t.upd.phase = 1 ∧ t.upd.erasing = true ∧ t.upd.staging = some { updId := getN r.args 4 4, xferLen := getN r.args 8 4 } := by
  have hargs : updArgsOk (startReq 7 r).args = true := by
    unfold updArgsOk at ha ⊢
    rwa [startReq_length, startReq_getN (by decide), startReq_getN (by decide)]
  refine (completes_kindRow h evalUpdStage _).2 ?_
  unfold evalUpdStage
  rw [opStart_acts (kind := 7) (h.startReq 7) hargs hl hred hn (by simp [hA, hB]), startReq_getN (by decide), startReq_getN (by decide),
    updStart_fresh _ _ _ hst]
  refine ⟨answerHandle_answers 7 (log_out ..) (log_tb ..) (log_cfg ..) ?_, ?_, ?_⟩
  · rw [log_ops]
    rfl
  · rw [answerHandle, findOp_congr (respond_ops ..), findOp_congr (log_ops ..), findOp_createOp]
  · rw [answerHandle, respond_upd, log_upd]
    exact ⟨rfl, rfl, rfl⟩

theorem refuseState_keeps (q : HostReq) (s : State) : Frame [.deferred, .host, .irq, .rings, .logFreeze, .rung, .out] s (refuseState q s) :=
  Frame.of_blank (refuseState_blank (within_refl _) q s)

theorem isoTest_refused (h : Admitted 1 r s) (ha : r.args.length = 4) (hl : opLegal 5 s = false) :
    Completes (exec (.opStartInsulationTest r) s) fun t => Answered r 0x0300 stState [] s t ∧ t.ops = s.ops ∧ t.iso = s.iso := by
  refine (completes_kindRow h evalIsoTest _).2 ?_
  unfold evalIsoTest
  rw [opStart_illegal (kind := 5) (h.startReq 5) (by rw [decide_eq_true_eq, startReq_length, ha]) hl]
  exact ⟨(refuseState_answers (startReq 5 r) s).1, (refuseState_keeps _ _) .ops rfl, (refuseState_keeps _ _) .iso rfl⟩

theorem isoTest_busy (h : Admitted 1 r s) (ha : r.args.length = 4) (hl : opLegal 5 s = true) (hsome : (findOp s 5).isSome = true) :
    Completes (exec (.opStartInsulationTest r) s) fun t => Answered r 0x0300 stBusy [] s t ∧ t.ops = s.ops ∧ t.iso = s.iso := by
  refine (completes_kindRow h evalIsoTest _).2 ?_
  unfold evalIsoTest
  rw [opStart_busy (kind := 5) (h.startReq 5) (by rw [decide_eq_true_eq, startReq_length, ha]) hl rfl hsome]
  exact ⟨respond_answered s (startReq 5 r) stBusy [] (by decide), respond_ops .., respond_iso ..⟩

end

/-- Settles O50, kind by kind. -/
theorem longOperationStarts : Obligations.LongOperationStarts :=
  ⟨fun _ _ h ha hl hn hrest => capLearn_starts h ha hl hn hrest,
   fun _ _ h ha hl hn => sysCal_starts h ha hl hn,
   fun _ _ h ha hp hl hn hb => sweep_starts h ha hp hl hn hb,
   fun _ _ h ha hd hd' hm hm' hl hn => campaign_starts h ha hd hd' hm hm' hl hn,
   fun _ _ h ha hl hn => isoTest_starts h ha hl hn,
   fun _ _ h ha hf hsev hl hn => export_starts h ha hf hsev hl hn,
   fun _ _ h ha hl hn hred hst hA hB => updStage_starts h ha hl hn hred hst hA hB,
   fun _ _ h ha hl => isoTest_refused h ha hl,
   fun _ _ h ha hl hsome => isoTest_busy h ha hl hsome⟩

end Sys2Proof.Machine
end

section
/-! SUSPEND, RESUME and CANCEL of a handle (R361, R405, R450). -/
namespace Sys2Proof.Machine

section
variable {s : State} {r : HostReq} {o : Op}

/-- A command on a handle in use, of the role its kind asks for. -/
theorem onHandle_acts (h : Admitted (opRole o.kind) r s) (ha : r.args.length = 2)
    (ho : s.ops.ops.find? (fun p => p.handle = getN r.args 0 2) = some o) (h2 : o.opState ≠ 2) (hd : inDawn s = false ∨ s.upd.recovery = true)
    (act : Op → State → State) : onHandle r act s = act o s := by
  obtain ⟨-, x, hx, hp⟩ := h
  have h0 : x.slot ≠ 0 := by
    intro h
    unfold permits opRole at hp
    rw [h, if_neg (by decide)] at hp
    split at hp
    · exact absurd hp (by decide)
    · split at hp <;> exact absurd hp (by decide)
  have hdawn : ¬((decide (o.opState = 2) || (inDawn s && !s.upd.recovery)) = true) := by
    rw [decide_eq_false h2]
    rcases hd with hd | hd <;> rw [hd] <;> simp
  unfold onHandle
  split
  next hnone => rw [hnone] at hx; cases hx
  next y hy =>
    rw [hy] at hx
    cases hx
    rw [if_neg h0, if_neg (by omega), ho]
    dsimp only
    rw [hp, ha, if_neg (by decide), if_neg (by decide), if_neg hdawn]

/-- A command on a handle not in use. -/
theorem onHandle_unknown {x : Session} (hx : openSession s r = some x) (h0 : x.slot ≠ 0) (ha : r.args.length = 2)
    (ho : s.ops.ops.find? (fun p => p.handle = getN r.args 0 2) = none) (act : Op → State → State) :
    onHandle r act s = respond r stUnknown [] s := by
  unfold onHandle
  split
  next hnone => rw [hnone] at hx; cases hx
  next y hy =>
    rw [hy] at hx
    cases hx
    rw [if_neg h0, if_neg (by omega), ho]

/-- An operation that stands is found after a change of its state, in that state. -/
theorem findOp_onOp {n : Nat} (hn : n ≠ 2) (ho : o ∈ s.ops.ops) (h2 : o.opState ≠ 2) :
    ∃ q, findOp (onOp o.kind (fun x => { x with opState := n }) s) o.kind = some q ∧ q.opState = n := by
  have hsome : (findOp (onOp o.kind (fun x => { x with opState := n }) s) o.kind).isSome = true := by
    refine List.find?_isSome.2 ⟨_, List.mem_map.2 ⟨o, ho, rfl⟩, ?_⟩
    simp [h2, hn]
  obtain ⟨q, hq⟩ := Option.isSome_iff_exists.1 hsome
  refine ⟨q, hq, ?_⟩
  have hkind := List.find?_some hq
  obtain ⟨x, -, rfl⟩ := List.mem_map.1 (List.mem_of_find?_eq_some hq)
  dsimp only at hkind ⊢
  split
  · rfl
  next hx =>
    rw [if_neg hx] at hkind
    exact absurd hkind hx

theorem balZero_keeps (s : State) : Frame [.skl, .bal, .irq, .rings, .rung] s (balZero s) ∧ (balZero s).bal.campaign = s.bal.campaign := by
  refine ⟨Frame.of_blank (balZero_blank (within_refl _) s), ?_⟩
  unfold balZero sendBal
  split
  · rw [show (queueBal _).bal = _ from Frame.of_blank (queueBal_blank (within_refl _) _) .bal rfl]
    rfl
  · rfl

/-- An operation suspended, in its own part and in its slot. -/
theorem suspend_suspends (h : Admitted (opRole o.kind) r s) (ha : r.args.length = 2)
    (ho : s.ops.ops.find? (fun p => p.handle = getN r.args 0 2) = some o) (h0 : o.opState = 0) (hd : inDawn s = false ∨ s.upd.recovery = true) :
    Completes (exec (.suspend r) s) fun t => Answered r 0x0301 stOk [] s t ∧
      (∀ q ∈ (findOp t o.kind), q.opState = 1) ∧ (findOp t o.kind).isSome = true ∧ (o.kind = 4 → ∀ c ∈ t.bal.campaign, c.suspended = true) := by
  obtain ⟨u, hu⟩ : ∃ u, u = onOp o.kind (fun x => { x with opState := 1 }) (suspendPart o.kind s) := ⟨_, rfl⟩
  obtain ⟨v, hv⟩ : ∃ v, v = if o.kind = 4 then balZero u else u := ⟨_, rfl⟩
  have hs : evalSuspend (withCode 0x0301 r) s = respond (withCode 0x0301 r) stOk [] v := by
    rw [hv, hu]
    exact (onHandle_acts (r := withCode 0x0301 r) h ha ho (by omega) hd _).trans (if_neg (by omega))
  have hpart := Frame.of_blank (suspendPart_blank (within_refl _) o.kind s)
  have hv_out : v.out = u.out ∧ v.tb = u.tb ∧ v.cfg = u.cfg ∧ v.ops = u.ops ∧ v.bal.campaign = u.bal.campaign := by
    rw [hv]
    split
    · obtain ⟨hz, hc⟩ := balZero_keeps u
      exact ⟨hz .out rfl, hz .tb rfl, hz .cfg rfl, hz .ops rfl, hc⟩
    · exact ⟨rfl, rfl, rfl, rfl, rfl⟩
  obtain ⟨hout, htb, hcfg, hops, hcamp⟩ := hv_out
  obtain ⟨q, hq, hq1⟩ : ∃ q, findOp u o.kind = some q ∧ q.opState = 1 := by
    rw [hu]
    refine findOp_onOp (by decide) ?_ (by omega)
    rw [show (suspendPart o.kind s).ops = s.ops from hpart .ops rfl]
    exact List.mem_of_find?_eq_some ho
  have hfind : findOp (respond (withCode 0x0301 r) stOk [] v) o.kind = some q :=
    ((findOp_congr (respond_ops ..) _).trans (findOp_congr hops _)).trans hq
  refine (completes_evalRow h evalSuspend _).2 ?_
  rw [hs]
  refine ⟨okAfter 0x0301 r (hout.trans ?_) (htb.trans ?_) (hcfg.trans ?_), ?_, ?_, fun h4 => ?_⟩
  · rw [hu]; exact hpart .out rfl
  · rw [hu]; exact hpart .tb rfl
  · rw [hu]; exact hpart .cfg rfl
  · rw [hfind]
    rintro q' ⟨⟩
    exact hq1
  · rw [hfind]
    rfl
  · rw [respond_bal, hcamp, hu, h4]
    intro c hc
    obtain ⟨c', -, rfl⟩ := Option.map_eq_some_iff.1 hc
    rfl

/-- A suspended insulation test begins again. -/
theorem resume_resumes (h : Admitted (opRole o.kind) r s) (ha : r.args.length = 2)
    (ho : s.ops.ops.find? (fun p => p.handle = getN r.args 0 2) = some o) (h1 : o.opState = 1) (hd : inDawn s = false ∨ s.upd.recovery = true)
    (hl : opLegal o.kind s = true) (h5 : o.kind = 5) :
    Completes (exec (.resume r) s) fun t => Answered r 0x0302 stOk [] s t ∧ (∀ q ∈ (findOp t 5), q.opState = 0) ∧
      t.iso.test = some (.reference, 0) := by
  have hs : evalResume (withCode 0x0302 r) s = respond (withCode 0x0302 r) stOk []
      (isoTestBegin (limitedStart (onOp 5 (fun x => { x with opState := 0 }) s))) := by
    refine (onHandle_acts (r := withCode 0x0302 r) h ha ho (by omega) hd _).trans ?_
    rw [hl, if_neg (by decide), if_neg (by omega), h5]
    rfl
  obtain ⟨q, hq, hq0⟩ := findOp_onOp (n := 0) (by decide) (List.mem_of_find?_eq_some ho) (by omega)
  rw [h5] at hq
  refine (completes_evalRow h evalResume _).2 ?_
  rw [hs]
  refine ⟨okAfter 0x0302 r rfl rfl rfl, ?_, ?_⟩
  · have hf : findOp (isoTestBegin (limitedStart (onOp 5 (fun x => { x with opState := 0 }) s))) 5 = some q := hq
    rw [findOp_congr (respond_ops ..), hf]
    rintro q' ⟨⟩
    exact hq0
  · rw [respond_iso]
    rfl

/-- An operation cancelled, in its own part and in its slot. -/
theorem cancel_cancels (h : Admitted (opRole o.kind) r s) (ha : r.args.length = 2)
    (ho : s.ops.ops.find? (fun p => p.handle = getN r.args 0 2) = some o) (h2 : o.opState ≠ 2) (hd : inDawn s = false ∨ s.upd.recovery = true) :
    Completes (exec (.cancel r) s) fun t => Answered r 0x0303 stOk [] s t ∧ findOp t o.kind = none ∧
      (o.kind = 3 → t.imp.sweep = none) ∧ (o.kind = 4 → t.bal.campaign = none) ∧ (o.kind = 5 → t.iso.test = none) := by
  obtain ⟨u, hu⟩ : ∃ u, u = endOp o.kind stCancelled (opResultNow s o stCancelled) (closeOp o.kind stCancelled s) := ⟨_, rfl⟩
  obtain ⟨v, hv⟩ : ∃ v, v = if o.kind = 4 then balZero u else if o.kind = 7 then updCancel u else u := ⟨_, rfl⟩
  have hs : evalCancel (withCode 0x0303 r) s = respond (withCode 0x0303 r) stOk [] v := by
    rw [hv, hu]
    exact onHandle_acts (r := withCode 0x0303 r) h ha ho h2 hd _
  have hclose := Frame.of_blank (closeOp_blank (within_refl _) o.kind stCancelled s)
  have hv_out : v.out = u.out ∧ v.tb = u.tb ∧ v.cfg = u.cfg ∧ v.ops = u.ops ∧ v.bal.campaign = u.bal.campaign ∧ v.imp = u.imp ∧ v.iso = u.iso := by
    rw [hv]
    split
    · obtain ⟨hz, hc⟩ := balZero_keeps u
      exact ⟨hz .out rfl, hz .tb rfl, hz .cfg rfl, hz .ops rfl, hc, hz .imp rfl, hz .iso rfl⟩
    · split
      · have hz := Frame.of_blank (updCancel_blank (within_refl _) u)
        exact ⟨hz .out rfl, hz .tb rfl, hz .cfg rfl, hz .ops rfl, congrArg BalSt.campaign (hz .bal rfl :), hz .imp rfl, hz .iso rfl⟩
      · exact ⟨rfl, rfl, rfl, rfl, rfl, rfl, rfl⟩
  obtain ⟨hout, htb, hcfg, hops, hcamp, himp, hiso⟩ := hv_out
  refine (completes_evalRow h evalCancel _).2 ?_
  rw [hs]
  refine ⟨okAfter 0x0303 r (hout.trans ?_) (htb.trans ?_) (hcfg.trans ?_), ?_, fun hk => ?_, fun hk => ?_, fun hk => ?_⟩
  · rw [hu]; exact hclose .out rfl
  · rw [hu]; exact hclose .tb rfl
  · rw [hu]; exact hclose .cfg rfl
  · rw [findOp_congr (respond_ops ..), findOp_congr hops, hu, findOp_endOp]
  · rw [respond_imp, himp, hu, hk]
    rfl
  · rw [respond_bal, hcamp, hu, hk]
    rfl
  · rw [respond_iso, hiso, hu, hk]
    rfl

/-- A handle not in use is answered UNKNOWN, and no operation changes. -/
theorem unknown_handle (code : Nat) {act : Op → State → State} {x : Session} (hx : openSession s r = some x) (h0 : x.slot ≠ 0)
    (ha : r.args.length = 2) (ho : s.ops.ops.find? (fun p => p.handle = getN r.args 0 2) = none) :
    Answered r code stUnknown [] s (onHandle (withCode code r) act s) ∧ (onHandle (withCode code r) act s).ops = s.ops := by
  rw [onHandle_unknown (r := withCode code r) hx h0 ha ho]
  exact ⟨respond_answered s (withCode code r) stUnknown [] (by decide), respond_ops ..⟩

end

/-- A session of a slot but the first has a role. -/
theorem permits_slot {slot : Nat} (h : slot ≠ 0) : permits slot 1 = true ∨ permits slot 3 = true := by
  unfold permits
  split
  · exact .inr rfl
  · exact .inl (by simp; omega)

/-- Settles O51, command by command; a handle not in use is found out in one place for the three. -/
theorem longOperationHandles : Obligations.LongOperationHandles := by
  refine ⟨fun s r o hv ha ⟨x, hx, hp⟩ ho h0 hd => suspend_suspends ⟨hv, x, hx, hp⟩ ha ho h0 hd,
    fun s r o hv ha ⟨x, hx, hp⟩ ho h1 hd hl h5 => resume_resumes ⟨hv, x, hx, hp⟩ ha ho h1 hd hl h5,
    fun s r o hv ha ⟨x, hx, hp⟩ ho h2 hd => cancel_cancels ⟨hv, x, hx, hp⟩ ha ho h2 hd, fun s r x hv hx h0 ha ho => ?_⟩
  obtain ⟨least, hadm⟩ : ∃ least, Admitted least r s := (permits_slot h0).elim (fun h => ⟨1, hv, x, hx, h⟩) fun h => ⟨3, hv, x, hx, h⟩
  exact ⟨(completes_evalRow hadm evalSuspend _).2 (unknown_handle 0x0301 hx h0 ha ho),
    (completes_evalRow hadm evalResume _).2 (unknown_handle 0x0302 hx h0 ha ho),
    (completes_evalRow hadm evalCancel _).2 (unknown_handle 0x0303 hx h0 ha ho)⟩

end Sys2Proof.Machine
end

section
/-! HELLO, key exchange, images and the admission of a standby (R413, R415, R416, R419, R428 to R430, R531). -/
namespace Sys2Proof.Machine

/-! ### A frame of the pair link -/

/-- The number of a good frame is kept. -/
def seqTaken (r : MirrorRx) (s : State) : State := onPair (fun p => { p with mseqRx := some r.seq }) s

section
variable {k : Nat} {b : Bytes} {r : MirrorRx} {s : State} {f : MirrorRx → State → State}

/-- The partner's next frame of a type has its meaning, and its number is kept. -/
theorem onMirror_partnered (h : Partnered k b r s) : onMirror k b f s = f r (seqTaken r s) := by
  obtain ⟨hon, hparse, htype, hsender, hseq⟩ := h
  have htake : takeSeq r s = seqTaken r s := by
    unfold takeSeq
    split
    next m hm => exact if_neg (by simp [hseq m hm])
    next => rfl
  have hmine : ¬(r.mtype ≠ k || r.sender = s.cfg.small.member % 256 && k ≠ 5) = true := by
    rw [htype]
    rcases hsender with h | h <;> simp [h]
  unfold onMirror
  rw [hon, if_neg (by decide), hparse]
  dsimp only
  rw [if_neg hmine, htake]

theorem onMirror_bad (hon : pairOn s = true) (hb : parseMirror b = none) : onMirror k b f s = badMirror s := by
  unfold onMirror
  rw [hon, if_neg (by decide), hb]

end

section
variable {s : State} {mtype : Nat}

/-- Outside a guard band a mirror frame with a destination leaves on the working link. -/
theorem sendMirror_leaves (mtick : Nat) (p : Bytes) (hq : quiet s 2 = false) (hup : s.pins.sfpUp = true)
    (hdst : mtype = 5 ∨ s.pair.partnerMac ≠ none) : ∃ f, sendMirror mtype mtick p s =
      (s |> onPair (fun x => { x with mseqTx := (s.pair.mseqTx + 1) % 4294967296 }) |> onOut fun o => { o with mirror := o.mirror ++ [f] }) := by
  obtain ⟨d, hd⟩ : ∃ d, (if mtype = 5 then some (List.replicate 6 (0xFF : Byte)) else s.pair.partnerMac) = some d := by
    rcases hdst with h | h
    · exact ⟨_, if_pos h⟩
    · obtain ⟨m, hm⟩ := Option.ne_none_iff_exists'.mp h
      rw [hm]
      split
      · exact ⟨_, rfl⟩
      · exact ⟨_, rfl⟩
  unfold sendMirror emitMirror
  rw [hq, if_neg (by decide)]
  simp only [hd, hup, Bool.not_true, Bool.false_eq_true, if_false]
  exact ⟨_, rfl⟩

theorem sendMirror_waits (mtick : Nat) (p : Bytes) (hq : quiet s 2 = true) :
    sendMirror mtype mtick p s = holdFrame 2 (.mirror mtype mtick p) s := if_pos hq

theorem pairOn_up (h : pairOn s = true) : s.pins.sfpUp = true := by
  unfold pairOn at h
  simp only [Bool.and_eq_true] at h
  exact h.1.1.2

end

/-! ### HELLO -/

/-- What of a HELLO later steps keep: that one came, its serial number, its role and its number. -/
def HelloKept (s t : State) : Prop := t.pair.helloSeen = s.pair.helloSeen ∧ t.pair.serialSeen = s.pair.serialSeen ∧
  t.pair.partnerRole = s.pair.partnerRole ∧ t.pair.mseqRx = s.pair.mseqRx

theorem sendMirror_helloKept (mtype mtick : Nat) (p : Bytes) (s : State) : HelloKept s (sendMirror mtype mtick p s) := by
  obtain ⟨-, -, n, hn⟩ := sendMirror_keeps mtype mtick p s
  unfold HelloKept
  rw [hn]
  exact ⟨rfl, rfl, rfl, rfl⟩

theorem refusePartner_pair (step : Nat) (s : State) : (refusePartner step s).pair = { s.pair with partner := .refused, configMatch := false } := by
  rw [refusePartner, log_pair]
  rfl

theorem judgeIdentity_helloKept (r : MirrorRx) (s : State) : HelloKept s (judgeIdentity r s) := by
  unfold judgeIdentity
  dsimp only
  split
  · exact sendMirror_helloKept 8 _ _ (onPair (fun p => { p with partner := .keys, configMatch := true, keySecret := Config.freeBytes s.fresh 48, wrapKey := none }) (tickFresh s))
  · unfold HelloKept
    rw [refusePartner_pair, log_pair]
    exact ⟨rfl, rfl, rfl, rfl⟩

theorem takeHello_keeps (r : MirrorRx) (s : State) : (takeHello r s).pair.helloSeen = true ∧ (takeHello r s).pair.serialSeen = some (getN r.payload 0 4) ∧
    (takeHello r s).pair.partnerRole = some r.role ∧ (takeHello r s).pair.mseqRx = s.pair.mseqRx ∧
    (s.pair.partner = .absent → joinable r s = false → (takeHello r s).pair.partner = .identity) := by
  unfold takeHello
  extract_lets b step s1
  have hkept : ∀ t, HelloKept s1 t → t.pair.helloSeen = true ∧ t.pair.serialSeen = some (getN r.payload 0 4) ∧ t.pair.partnerRole = some r.role ∧
      t.pair.mseqRx = s.pair.mseqRx := fun t h => h
  have hpart : s.pair.partner = .absent → s1.pair.partner = .identity := by
    intro h
    show (match s.pair.partner with | .absent => _ | .refused => _ | x => x) = _
    rw [h]
  have hjoin : joinable r s1 = joinable r s := rfl
  split
  next hid =>
    rw [hjoin]
    split
    next hj =>
      obtain ⟨h1, h2, h3, h4⟩ := hkept _ (judgeIdentity_helloKept r s1)
      exact ⟨h1, h2, h3, h4, fun _ hn => Bool.noConfusion (hj.symm.trans hn)⟩
    · exact ⟨rfl, rfl, rfl, rfl, fun h _ => hpart h⟩
  next hk =>
    have habs : s.pair.partner = .absent → joinable r s = false → False := fun h _ => by cases hk.symm.trans (hpart h)
    split
    · obtain ⟨h1, h2, h3, h4⟩ := hkept _ (sendMirror_helloKept 8 s1.tb.time (u8 0 ++ Config.keyxSign (Config.ecdhPublic s1.pair.keySecret)) s1)
      exact ⟨h1, h2, h3, h4, fun h hn => (habs h hn).elim⟩
    · exact ⟨rfl, rfl, rfl, rfl, fun h hn => (habs h hn).elim⟩
  next hne _ => exact ⟨rfl, rfl, rfl, rfl, fun h _ => (hne (hpart h)).elim⟩

theorem helloDue_sends {s : State} (hon : pairOn s = true) (hdue : elapsed s s.pair.helloAt (msNs 100) = true) :
    Completes (exec .helloDue s) fun t => t.pair.helloAt = s.tick.now ∧ Frame [.pair, .out] s t ∧
      (quiet s 2 = false → t.pair.mseqTx = (s.pair.mseqTx + 1) % 4294967296 ∧ t.out.mirror.length = s.out.mirror.length + 1) ∧
      (quiet s 2 = true → t.out.held = s.out.held ++ [(2, .mirror 5 s.tb.time (helloPayload s))]) := by
  obtain ⟨u, hu⟩ : ∃ u, u = onPair (fun p => { p with helloAt := s.tick.now }) s := ⟨_, rfl⟩
  have hx : exec .helloDue s = .next (sendMirror 5 s.tb.time (helloPayload s) u) := by
    rw [hu]
    exact if_pos (by simp [hon, hdue])
  rw [hx, completes_next]
  refine ⟨?_, Frame.of_blank ?_, fun hq => ?_, fun hq => ?_⟩
  · obtain ⟨-, -, n, hn⟩ := sendMirror_keeps 5 s.tb.time (helloPayload s) u
    rw [hn, hu]
    rfl
  · rw [sendMirror_blank (within_refl _), hu]
    rfl
  · obtain ⟨f, hf⟩ := sendMirror_leaves (s := u) (mtype := 5) s.tb.time (helloPayload s) (by rw [hu]; exact hq) (by rw [hu]; exact pairOn_up hon) (.inl rfl)
    rw [hf, hu]
    exact ⟨rfl, List.length_append⟩
  · rw [sendMirror_waits _ _ (by rw [hu]; exact hq), hu]
    rfl

theorem hello_kept {s : State} {b : Bytes} {r : MirrorRx} (h : Partnered 5 b r s) :
    Completes (exec (.helloReceived b) s) fun t => t.pair.helloSeen = true ∧ t.pair.serialSeen = some (getN r.payload 0 4) ∧
      t.pair.partnerRole = some r.role ∧ t.pair.mseqRx = some r.seq ∧
      (s.pair.partner = .absent → joinable r s = false → t.pair.partner = .identity) := by
  have hoff : inOff s = false := by
    have hrun : running s = true := by
      have hon := h.1
      unfold pairOn at hon
      simp only [Bool.and_eq_true] at hon
      exact hon.1.2
    unfold running at hrun
    simp only [Bool.and_eq_true, Bool.not_eq_true'] at hrun
    exact hrun.1.1.1
  have hx : exec (.helloReceived b) s = .next (takeHello r (seqTaken r s)) :=
    congrArg Host.Outcome.next ((if_neg (by rw [hoff]; decide)).trans (onMirror_partnered h))
  rw [hx, completes_next]
  exact takeHello_keeps r (seqTaken r s)

theorem hello_wakes {s : State} {b : Bytes} {r : MirrorRx} (hoff : inOff s = true) (hrung : s.lad.rung = 2) (hpow : s.lad.unpowered = false)
    (hp : parseMirror b = some r) (htype : r.mtype = 5) (hact : s.lad.activeSeen = true) (hrole : r.role ≠ 1) :
    Completes (exec (.helloReceived b) s) fun t => t.str.state = .dawn ∧ t.dawn.reason = 3 ∧ t.lad.wakeCause = 3 := by
  have hx : exec (.helloReceived b) s = .next (wakeDawn 3 3 s) := by
    refine congrArg Host.Outcome.next ((if_pos hoff).trans ?_)
    have hstate : s.str.state = .off := of_decide_eq_true (Bool.and_eq_true _ _ ▸ hoff : _ ∧ _).1
    unfold helloInOff
    rw [if_neg (by simp [hstate, hrung, hpow]), hp]
    dsimp only
    rw [if_neg (not_not.mpr htype), if_neg hrole, if_pos hact]
  rw [hx, completes_next]
  exact ⟨rfl, rfl, rfl⟩

/-! ### A frame that cannot be used -/

theorem mirror_bad_active {s : State} {b : Bytes} (hon : pairOn s = true) (hb : parseMirror b = none) (hrole : s.str.role = some .active) :
    Completes (exec (.mirrorHeartbeatReceived b) s) fun t => t.pair = { s.pair with rxErr := satInc 32 s.pair.rxErr } ∧ Frame [.pair] s t := by
  have hsp : isSp s = false := by unfold isSp; rw [hrole]; decide
  have hx : exec (.mirrorHeartbeatReceived b) s = .next (onPair (fun p => { p with rxErr := satInc 32 p.rxErr }) s) := by
    refine congrArg Host.Outcome.next ((onMirror_bad hon hb).trans ?_)
    exact if_neg (by simp [show isSp (onPair (fun p => { p with rxErr := satInc 32 p.rxErr }) s) = false from hsp])
  rw [hx, completes_next]
  exact ⟨rfl, Frame.of_blank rfl⟩

theorem mirror_bad_standby {s : State} {b : Bytes} (hon : pairOn s = true) (hb : parseMirror b = none) (hsp : isSp s = true)
    (hp : s.pair.partner = .heartbeats) :
    Completes (exec (.mirrorHeartbeatReceived b) s) fun t => t.pair.rxErr = satInc 32 s.pair.rxErr ∧ t.pair.partner = .images ∧
      t.pair.imagesInStep = 0 ∧ t.pair.step4Since = none := by
  have hx : exec (.mirrorHeartbeatReceived b) s = .next (admissionRestart causeMcrc (onPair (fun p => { p with rxErr := satInc 32 p.rxErr }) s)) := by
    refine congrArg Host.Outcome.next ((onMirror_bad hon hb).trans ?_)
    exact if_pos (by simp [show isSp (onPair (fun p => { p with rxErr := satInc 32 p.rxErr }) s) = true from hsp, hp])
  rw [hx, completes_next, admissionRestart, log_pair]
  exact ⟨rfl, rfl, rfl, rfl⟩

/-! ### The role -/

/-- The role that R413 gives where listening ends. -/
def roleGiven (s : State) : PairRole :=
  match roleRow s with
  | 1 => .solo
  | 2 => .standbyPair
  | 3 => if s.cfg.small.member = 0 then .active else .standbyPair
  | 4 => .standbyPair
  | 5 => if s.cfg.small.member = 0 then .active else .standbyPair
  | _ => .active

theorem decideRole_takes (s : State) :
    (decideRole s).str = { s.str with role := some (roleGiven s), mirrored := false, partnerAbsent := decide (roleGiven s = .active) } ∧
    (decideRole s).pair.ownOut = decide (roleGiven s = .active) := by
  have hrole : ∀ t, (if roleGiven s = .standbyPair then setSync .pairFollow t else t).str = t.str ∧
      (if roleGiven s = .standbyPair then setSync .pairFollow t else t).pair = t.pair := by
    intro t
    split
    · exact ⟨setSync_str .., setSync_pair ..⟩
    · exact ⟨rfl, rfl⟩
  obtain ⟨u, hu, hs⟩ : ∃ u, u = onPair (fun p => { p with ownOut := decide (roleGiven s = .active) }) (onStr (fun x => { x with
      role := some (roleGiven s), mirrored := false, partnerAbsent := decide (roleGiven s = .active) }) s) ∧ decideRole s =
      if roleGiven s = .standbyPair then setSync .pairFollow (log srcSafety 0x0B01 1 (u16 (roleRow s) ++ u8 (roleCode u)) u)
        else log srcSafety 0x0B01 1 (u16 (roleRow s) ++ u8 (roleCode u)) u := by
    refine ⟨_, rfl, ?_⟩
    unfold decideRole roleGiven
    rfl
  rw [hs, (hrole _).1, (hrole _).2, log_str, log_pair, hu]
  exact ⟨rfl, rfl⟩

theorem helloListen_decides {s : State} (hd : inDawn s = true) (h8 : s.dawn.step = some 8) (hr : s.str.role = none)
    (ht : elapsed s s.dawn.stepSince (msNs 300) = true) :
    Completes (exec .helloListenTimeout s) fun t =>
      (roleRow s = 1 → t.str.role = some .solo) ∧ (roleRow s = 2 ∨ roleRow s = 4 → t.str.role = some .standbyPair) ∧
      (roleRow s = 3 ∨ roleRow s = 5 → t.str.role = some (if s.cfg.small.member = 0 then .active else .standbyPair)) ∧
      (roleRow s = 6 → t.str.role = some .active) ∧ (t.pair.ownOut = true ↔ t.str.role = some .active) ∧
      (t.str.partnerAbsent = true ↔ t.str.role = some .active) ∧ t.str.mirrored = false := by
  have hx : exec .helloListenTimeout s = .next (decideRole s) := congrArg Host.Outcome.next (if_pos (by simp [hd, h8, hr, ht]))
  obtain ⟨hstr, hown⟩ := decideRole_takes s
  rw [hx, completes_next, hstr, hown]
  have hactive : decide (roleGiven s = .active) = true ↔ some (roleGiven s) = some PairRole.active := by simp
  refine ⟨fun h => ?_, fun h => ?_, fun h => ?_, fun h => ?_, hactive, hactive, rfl⟩
  · show some (roleGiven s) = _
    unfold roleGiven; simp only [h]
  · show some (roleGiven s) = _
    unfold roleGiven; rcases h with h | h <;> simp only [h]
  · show some (roleGiven s) = _
    unfold roleGiven; rcases h with h | h <;> simp only [h]
  · show some (roleGiven s) = _
    unfold roleGiven; simp only [h]

/-! ### The keys -/

section
variable {s : State} {b : Bytes} {r : MirrorRx}

/-- The wrapping key that a partner's public bytes give. -/
def wrapKeyOf (b : Bytes) (s : State) : Bytes :=
  Config.hkdfSha256 (Config.ecdhShared s.pair.keySecret (Config.keyxPublic (b.drop 1))) [] [] 32

theorem takeKeyx_public (hk : s.pair.partner = .keys) (h0 : getN r.payload 0 1 = 0) : takeKeyx r s =
    if !(Config.keyxValid (r.payload.drop 1)) then refusePartner 2 s
    else sendMirror 8 s.tb.time (u8 1 ++ Config.keyWrap (wrapKeyOf r.payload s) s.idn.estKey)
      (onPair (fun p => { p with wrapKey := some (wrapKeyOf r.payload s) }) s) := by
  unfold takeKeyx
  rw [if_neg (not_not.mpr hk)]
  dsimp only
  split
  · rfl
  next hne => exact (hne h0).elim

theorem takeKeyx_wrapped {k : Bytes} (hk : s.pair.partner = .keys) (h1 : getN r.payload 0 1 = 1) (hw : s.pair.wrapKey = some k) : takeKeyx r s =
    match Config.keyUnwrap k (r.payload.drop 1) with
    | none => refusePartner 2 s
    | some key => onPair (fun p => { p with
        partnerKey := some key, keyHeld := true, partner := .images, imagesInStep := 0, segsRx := [], imgSeqRx := none
        lastSegAt := s.tick.now, sbAt := some s.tick.now, misses := 0 }) s := by
  unfold takeKeyx
  rw [if_neg (not_not.mpr hk)]
  dsimp only
  split
  next h0 => exact absurd (h0.symm.trans h1) (by decide)
  next => rw [hw] <;> rfl

theorem keyx_public (h : Partnered 8 b r s) (hk : s.pair.partner = .keys) (h0 : getN r.payload 0 1 = 0) (hmac : s.pair.partnerMac ≠ none) :
    Completes (exec (.keyxReceived b) s) fun t => if Config.keyxValid (r.payload.drop 1) = true then t.pair.partner = .keys ∧
        t.pair.wrapKey = some (Config.hkdfSha256 (Config.ecdhShared s.pair.keySecret (Config.keyxPublic (r.payload.drop 1))) [] [] 32) ∧
        (quiet s 2 = false → t.out.mirror.length = s.out.mirror.length + 1)
      else t.pair.partner = .refused ∧ t.pair.wrapKey = s.pair.wrapKey := by
  have hx : exec (.keyxReceived b) s = .next (takeKeyx r (seqTaken r s)) := congrArg Host.Outcome.next (onMirror_partnered h)
  rw [hx, completes_next, takeKeyx_public (s := seqTaken r s) hk h0]
  cases hv : Config.keyxValid (r.payload.drop 1) with
  | true =>
    obtain ⟨u, hu⟩ : ∃ u, u = onPair (fun p => { p with wrapKey := some (wrapKeyOf r.payload (seqTaken r s)) }) (seqTaken r s) := ⟨_, rfl⟩
    rw [if_pos rfl, if_neg (by decide), ← hu]
    obtain ⟨-, -, n, hn⟩ := sendMirror_keeps 8 (seqTaken r s).tb.time (u8 1 ++ Config.keyWrap (wrapKeyOf r.payload (seqTaken r s)) (seqTaken r s).idn.estKey) u
    refine ⟨?_, ?_, fun hq => ?_⟩
    · rw [hn, hu]
      exact hk
    · rw [hn, hu]
      rfl
    · obtain ⟨f, hf⟩ := sendMirror_leaves (s := u) (mtype := 8) (seqTaken r s).tb.time
        (u8 1 ++ Config.keyWrap (wrapKeyOf r.payload (seqTaken r s)) (seqTaken r s).idn.estKey)
        (by rw [hu]; exact hq) (by rw [hu]; exact pairOn_up h.1) (.inr (by rw [hu]; exact hmac))
      rw [hf, hu]
      exact List.length_append
  | false =>
    rw [if_neg Bool.false_ne_true, if_pos (c := (!false) = true) rfl, refusePartner_pair]
    exact ⟨rfl, rfl⟩

theorem keyx_wrapped {k : Bytes} (h : Partnered 8 b r s) (hk : s.pair.partner = .keys) (h1 : getN r.payload 0 1 = 1) (hw : s.pair.wrapKey = some k) :
    Completes (exec (.keyxReceived b) s) fun t => match Config.keyUnwrap k (r.payload.drop 1) with
      | some key => t.pair.partnerKey = some key ∧ t.pair.keyHeld = true ∧ t.pair.partner = .images ∧ t.pair.imagesInStep = 0 ∧ Frame [.pair] s t
      | none => t.pair.partner = .refused ∧ t.pair.partnerKey = s.pair.partnerKey := by
  have hx : exec (.keyxReceived b) s = .next (takeKeyx r (seqTaken r s)) := congrArg Host.Outcome.next (onMirror_partnered h)
  rw [hx, completes_next, takeKeyx_wrapped (s := seqTaken r s) hk h1 hw]
  cases Config.keyUnwrap k (r.payload.drop 1) with
  | none =>
    dsimp only
    rw [refusePartner_pair]
    exact ⟨rfl, rfl⟩
  | some key => exact ⟨rfl, rfl, rfl, rfl, Frame.of_blank rfl⟩

end

/-! ### The admission -/

theorem admitPartner_admits (s : State) : (admitPartner s).pair = { s.pair with partner := .admitted, misses := 0 } ∧
    (admitPartner s).str = { s.str with partnerAbsent := false } ∧ (admitPartner s).lad = s.lad := by
  unfold admitPartner
  rw [log_pair, log_str, log_lad_of_core (by decide)]
  exact ⟨rfl, rfl, rfl⟩

theorem sbStatus_admits {s : State} {b : Bytes} {r : MirrorRx} (h : Partnered 6 b r s) (hrole : s.str.role = some .active)
    (hp : s.pair.partner = .heartbeats) (hbit : bitAt (getN r.payload 12 1) 0 = true) :
    Completes (exec (.sbStatusReceived b) s) fun t => t.pair.partner = .admitted ∧ t.pair.sbAt = some s.tick.now ∧ t.str.partnerAbsent = false := by
  obtain ⟨u, hu⟩ : ∃ u, u = onPair (fun p => { p with sbAt := some s.tick.now, sbFault := bitAt (getN r.payload 12 1) 1, cleanMs := getN r.payload 8 4 })
    (seqTaken r s) := ⟨_, rfl⟩
  have hx : exec (.sbStatusReceived b) s = .next (admitPartner u) := by
    refine congrArg Host.Outcome.next ((onMirror_partnered h).trans ?_)
    have hrole' : ¬(seqTaken r s).str.role ≠ some .active := not_not.mpr hrole
    have hp' : (seqTaken r s).pair.partner = .heartbeats := hp
    unfold takeSb
    rw [if_neg hrole', hu]
    show (match (seqTaken r s).pair.partner with | .images => _ | .heartbeats => _ | .admitted => _ | _ => _) = _
    rw [hp']
    exact if_pos hbit
  obtain ⟨hpair, hstr, -⟩ := admitPartner_admits u
  rw [hx, completes_next, hpair, hstr, hu]
  exact ⟨rfl, rfl, rfl⟩

theorem setRung_enters (n : Nat) (s : State) : (setRung n s).lad.rung = n ∧ (setRung n s).pair = s.pair ∧ (setRung n s).str = s.str := by
  have hf := Frame.of_blank (setRung_blank (within_refl _) n s)
  refine ⟨?_, hf .pair rfl, hf .str rfl⟩
  by_cases h : s.lad.rung = n
  · exact (congrArg (fun t : State => t.lad.rung) (if_pos h : setRung n s = s)).trans h
  · rw [setRung_lad n h]

theorem admission_completes {s : State} {t0 : Nat} (hs : s.pair.step4Since = some t0) (hsp : isSp s = true) (hrun : running s = true)
    (hp : s.pair.partner = .heartbeats) (hf : s.pair.localFault = false) (ht : elapsed s t0 (secNs 10) = true) :
    Completes (exec .admissionHeartbeatsComplete s) fun t => t.pair.partner = .admitted ∧ t.lad.rung = 1 ∧ t.str.partnerAbsent = false ∧
      t.pair.step4Since = none := by
  obtain ⟨u, hu⟩ : ∃ u, u = onPair (fun p => { p with cleanMs := 10000, step4Since := none }) s := ⟨_, rfl⟩
  have hx : exec .admissionHeartbeatsComplete s = .next (setRung 1 (admitPartner u)) := by
    show execAdmissionHeartbeatsComplete s = _
    unfold execAdmissionHeartbeatsComplete
    rw [hs, hu]
    exact congrArg Host.Outcome.next (if_pos (by simp [hsp, hrun, hp, hf, ht]))
  obtain ⟨hpair, hstr, -⟩ := admitPartner_admits u
  obtain ⟨hrung, hpair', hstr'⟩ := setRung_enters 1 (admitPartner u)
  rw [hx, completes_next, hpair', hstr', hpair, hstr, hrung, hu]
  exact ⟨rfl, rfl, rfl, rfl⟩

theorem segment_overdue {s : State} (hsp : isSp s = true) (hrun : running s = true) (hp : s.pair.partner = .admitted)
    (hdue : ∃ n, n < segN s ∧ elapsed s (segAt s n) (msNs (2 * ((segN s + 29) / 30))) = true) :
    Completes (exec .imageSegmentOverdue s) fun t => t.pair.partner = .images ∧ t.pair.imagesInStep = 0 ∧ t.pair.lastSegAt = s.tick.now ∧ t.lad.rung = 0 := by
  obtain ⟨n, hn, hlate⟩ := hdue
  have hany : ((List.range (segN s)).any fun n => elapsed s (segAt s n) (msNs (2 * ((segN s + 29) / 30)))) = true :=
    List.any_eq_true.2 ⟨n, List.mem_range.2 hn, hlate⟩
  have hx : exec .imageSegmentOverdue s = .next (setRung 0 (admissionRestart causeSegment s)) := by
    show execImageSegmentOverdue s = _
    unfold execImageSegmentOverdue
    dsimp only
    rw [hany]
    exact if_pos (by simp [hsp, hrun, hp])
  obtain ⟨hrung, hpair, -⟩ := setRung_enters 0 (admissionRestart causeSegment s)
  rw [hx, completes_next, hpair, admissionRestart, log_pair]
  exact ⟨rfl, rfl, rfl, hrung⟩

theorem partner_lost {s : State} {t0 : Nat} (hs : s.pair.sbAt = some t0) (hrole : s.str.role = some .active) (hrun : running s = true)
    (ht : elapsed s t0 (msNs 10) = true) (hp : s.pair.partner = .admitted) :
    Completes (exec .partnerLost s) fun t => t.pair.partner = .absent ∧ t.str.partnerAbsent = true ∧ t.pair.sbAt = none ∧ t.str.state = s.str.state := by
  have hx : exec .partnerLost s = .next (partnerLost 10 s) := by
    show execPartnerLost s = _
    unfold execPartnerLost
    rw [hs]
    exact congrArg Host.Outcome.next (if_pos (by simp [hrole, hrun, ht, hp]))
  rw [hx, completes_next, partnerLost, log_pair, log_str]
  exact ⟨rfl, rfl, rfl, rfl⟩

/-! ### The image, the banks and the blob -/

section
variable {s : State} {b : Bytes} {r : MirrorRx}

/-- A segment of an image in its place, before the image is judged complete. -/
def segmentTaken (r : MirrorRx) (s : State) : State :=
  let img := getN r.payload 0 4
  let seg := getN r.payload 4 2
  s |> onPair (fun p => { p with
      imgSeqRx := some img, segsRx := seg :: (if s.pair.imgSeqRx = some img then p.segsRx.filter (· ≠ seg) else []), imageSegs := some (getN r.payload 6 2)
      segTimes := (seg, s.tick.now) :: p.segTimes.filter fun x => x.1 ≠ seg
      image := (seg, slice r.payload 8 1024) :: p.image.filter fun x => x.1 ≠ seg })
    |> takeSegment seg (slice r.payload 8 1024)

theorem segN_seqTaken (r : MirrorRx) (s : State) : segN (seqTaken r s) = segN s := by
  unfold segN geoP geoS
  rfl

/-- A complete image. -/
def imageTaken (s : State) : State :=
  takeRegion (regionBytes s) s |> onPair fun p => { p with
    imageCnt := satInc 32 p.imageCnt, segsRx := [], imgSeqRx := none, imagesInStep := p.imagesInStep + 1 }

/-- Two complete images in a row end step 3. -/
def imageJudged (u : State) : State :=
  if u.pair.partner = .images && 2 ≤ u.pair.imagesInStep then
    onPair (fun p => { p with partner := .heartbeats, step4Since := some u.tick.now, cleanMs := 0, misses := 0 }) u
  else u

theorem takeImage_takes (hsp : isSp s = true) (hlen : 1032 ≤ r.payload.length) (hn : getN r.payload 6 2 = segN s) (hseg : getN r.payload 4 2 < segN s) :
    takeImage r s = if (segmentTaken r s).pair.segsRx.length < getN r.payload 6 2 then segmentTaken r s
      else imageJudged (imageTaken (segmentTaken r s)) := by
  have hc : ¬(!(isSp s) || decide (r.payload.length < 1032) || decide (getN r.payload 6 2 ≠ segN s) ||
      decide (getN r.payload 6 2 ≤ getN r.payload 4 2)) = true := by
    simp [hsp, hn]; omega
  unfold takeImage
  extract_lets b img seg n data same s1 s2
  have h1 : s1 = segmentTaken r s := rfl
  refine (if_neg hc).trans ?_
  have h2 : s2 = imageTaken (segmentTaken r s) := by
    rw [← h1]
    unfold imageTaken
    with_reducible rfl
  rw [← h2, ← h1]
  unfold imageJudged
  with_reducible rfl

theorem segmentTaken_pair : (segmentTaken r s).pair = { s.pair with
    imgSeqRx := some (getN r.payload 0 4)
    segsRx := getN r.payload 4 2 :: (if s.pair.imgSeqRx = some (getN r.payload 0 4) then s.pair.segsRx.filter (· ≠ getN r.payload 4 2) else [])
    imageSegs := some (getN r.payload 6 2)
    segTimes := (getN r.payload 4 2, s.tick.now) :: s.pair.segTimes.filter fun x => x.1 ≠ getN r.payload 4 2
    image := (getN r.payload 4 2, slice r.payload 8 1024) :: s.pair.image.filter fun x => x.1 ≠ getN r.payload 4 2 } :=
  Frame.of_blank (takeSegment_blank (within_refl _) _ _ _) .pair rfl

theorem segmentTaken_tick : (segmentTaken r s).tick = s.tick := Frame.of_blank (takeSegment_blank (within_refl _) _ _ _) .tick rfl

theorem imageTaken_pair (u : State) : (imageTaken u).pair = { u.pair with
    imageCnt := satInc 32 u.pair.imageCnt, segsRx := [], imgSeqRx := none, imagesInStep := u.pair.imagesInStep + 1 } := by
  have h : (takeRegion (regionBytes u) u).pair = u.pair := Frame.of_blank (takeRegion_blank (within_refl _) _ u) .pair rfl
  show (onPair _ (takeRegion (regionBytes u) u)).pair = _
  rw [onPair_pair, h]

theorem imageTaken_tick (u : State) : (imageTaken u).tick = u.tick := by
  show (takeRegion (regionBytes u) u).tick = _
  exact Frame.of_blank (takeRegion_blank (within_refl _) _ u) .tick rfl

/-- The frame's segment, where the partner sends it. -/
theorem exec_imageSegment (h : Partnered 4 b r s) : exec (.mirrorImageSegmentReceived b) s = .next (takeImage r (seqTaken r s)) :=
  congrArg Host.Outcome.next (onMirror_partnered h)

theorem takeImage_seqTaken (hsp : isSp s = true) (hlen : 1032 ≤ r.payload.length) (hn : getN r.payload 6 2 = segN s) (hseg : getN r.payload 4 2 < segN s) :
    takeImage r (seqTaken r s) = if (segmentTaken r (seqTaken r s)).pair.segsRx.length < segN s then segmentTaken r (seqTaken r s)
      else imageJudged (imageTaken (segmentTaken r (seqTaken r s))) := by
  have k := takeImage_takes (r := r) (s := seqTaken r s) hsp hlen
  rw [segN_seqTaken] at k
  rw [k hn hseg, hn]

theorem image_begins (h : Partnered 4 b r s) (hsp : isSp s = true) (hlen : 1032 ≤ r.payload.length) (hn : getN r.payload 6 2 = segN s)
    (hseg : getN r.payload 4 2 < segN s) (hmany : 1 < segN s) (hnew : s.pair.imgSeqRx ≠ some (getN r.payload 0 4)) :
    Completes (exec (.mirrorImageSegmentReceived b) s) fun t => t.pair.segsRx = [getN r.payload 4 2] ∧ t.pair.imgSeqRx = some (getN r.payload 0 4) ∧
      (getN r.payload 4 2, s.tick.now) ∈ t.pair.segTimes ∧ t.pair.imageCnt = s.pair.imageCnt ∧
      (getN r.payload 4 2, slice r.payload 8 1024) ∈ t.pair.image := by
  have hnew' : (seqTaken r s).pair.imgSeqRx ≠ some (getN r.payload 0 4) := hnew
  have hsegs : (segmentTaken r (seqTaken r s)).pair.segsRx = [getN r.payload 4 2] := by
    rw [segmentTaken_pair, if_neg hnew']
  have hx : exec (.mirrorImageSegmentReceived b) s = .next (segmentTaken r (seqTaken r s)) := by
    rw [exec_imageSegment h, takeImage_seqTaken hsp hlen hn hseg, if_pos (by rw [hsegs]; exact hmany)]
  rw [hx, completes_next]
  refine ⟨hsegs, ?_⟩
  rw [segmentTaken_pair]
  exact ⟨rfl, List.mem_cons_self, rfl, List.mem_cons_self⟩

theorem image_completes (h : Partnered 4 b r s) (hsp : isSp s = true) (hlen : 1032 ≤ r.payload.length) (hn : getN r.payload 6 2 = segN s)
    (hseg : getN r.payload 4 2 < segN s) (hsame : s.pair.imgSeqRx = some (getN r.payload 0 4)) (hmem : getN r.payload 4 2 ∉ s.pair.segsRx)
    (hall : s.pair.segsRx.length + 1 = segN s) (hp : s.pair.partner = .images) (hstep : s.pair.imagesInStep = 1) :
    Completes (exec (.mirrorImageSegmentReceived b) s) fun t => t.pair.imageCnt = satInc 32 s.pair.imageCnt ∧ t.pair.segsRx = [] ∧
      t.pair.partner = .heartbeats ∧ t.pair.step4Since = some s.tick.now := by
  have hsame' : (seqTaken r s).pair.imgSeqRx = some (getN r.payload 0 4) := hsame
  have hkeep : (seqTaken r s).pair.segsRx.filter (· ≠ getN r.payload 4 2) = s.pair.segsRx :=
    List.filter_eq_self.2 fun x hx => decide_eq_true fun hxe => hmem (hxe ▸ hx)
  have hcount : ¬(segmentTaken r (seqTaken r s)).pair.segsRx.length < segN s := by
    rw [segmentTaken_pair, if_pos hsame', hkeep, List.length_cons, hall]
    exact Nat.lt_irrefl _
  obtain ⟨v, hv⟩ : ∃ v, v = imageTaken (segmentTaken r (seqTaken r s)) := ⟨_, rfl⟩
  have hpartner : v.pair.partner = .images := by rw [hv, imageTaken_pair, segmentTaken_pair]; exact hp
  have hin : v.pair.imagesInStep = 2 := by rw [hv, imageTaken_pair, segmentTaken_pair]; exact congrArg Nat.succ hstep
  have hcnt : v.pair.imageCnt = satInc 32 s.pair.imageCnt := by rw [hv, imageTaken_pair, segmentTaken_pair]; rfl
  have hsegs : v.pair.segsRx = [] := by rw [hv, imageTaken_pair]
  have htick : v.tick = s.tick := by rw [hv, imageTaken_tick, segmentTaken_tick]; rfl
  have hx : exec (.mirrorImageSegmentReceived b) s = .next
      (onPair (fun p => { p with partner := .heartbeats, step4Since := some v.tick.now, cleanMs := 0, misses := 0 }) v) := by
    rw [hv]
    rw [exec_imageSegment h, takeImage_seqTaken hsp hlen hn hseg, if_neg hcount, ← hv, imageJudged, if_pos (by rw [hpartner, hin]; rfl)]
  rw [hx, completes_next, htick]
  exact ⟨hcnt, hsegs, rfl, rfl⟩

/-- A bank's frame does not look at the numbers of the stream. -/
theorem takeBank_tab_seqTaken (r : MirrorRx) (s : State) : (takeBank r.payload (seqTaken r s)).tab = (takeBank r.payload s).tab := by
  have hbank : ∀ k x g, (bankTaken k x (onTab g (seqTaken r s))).tab = (bankTaken k x (onTab g s)).tab := by
    intro k x g
    unfold bankTaken
    split <;> rfl
  unfold takeBank
  extract_lets k seq first n g0 total filling m g1 g2 g3 s1 g0' total' filling' m' g1' g2' g3' s1'
  have hite : ∀ {c : Prop} [Decidable c] {x y x' y' : State}, x.tab = x'.tab → y.tab = y'.tab →
      (if c then x else y).tab = (if c then x' else y').tab := by
    intro c _ x y x' y' hxx hyy
    split
    · exact hxx
    · exact hyy
  refine hite rfl (hite rfl ?_)
  show (match g3.current with | some x => bankTaken k x s1 | none => s1).tab = (match g3.current with | some x => bankTaken k x s1' | none => s1').tab
  cases g3.current with
  | none => rfl
  | some x => exact hbank k x _

theorem bank_taken (h : Partnered 3 b r s) (hsp : isSp s = true) :
    Completes (exec (.mirrorBankReceived b) s) fun t => t.tab = (takeBank r.payload s).tab ∧ t.pair = { s.pair with mseqRx := some r.seq } ∧
      Frame ([.skl, .tab, .pair] ++ recordParts) s t := by
  have hx : exec (.mirrorBankReceived b) s = .next (takeBank r.payload (seqTaken r s)) := by
    refine congrArg Host.Outcome.next ((onMirror_partnered h).trans (if_pos ?_))
    exact hsp
  have hpair := Frame.of_blank (takeBank_blank (within_refl _) r.payload (seqTaken r s))
  rw [hx, completes_next]
  refine ⟨?_, hpair .pair rfl, Frame.of_blank ((takeBank_blank (by decide) r.payload _).trans rfl)⟩
  exact takeBank_tab_seqTaken r s

theorem blob_kept (h : Partnered 9 b r s) (hlen : 16 ≤ r.payload.length) (hask : s.pair.blobAsked = true) (hrx : s.pair.blobRx = [])
    (hshort : r.payload.length - 16 < getN r.payload 12 4) :
    Completes (exec (.blobReceived b) s) fun t => t.pair.blobRx = [(getN r.payload 8 4, r.payload.drop 16)] ∧ t.pair.blobLen = getN r.payload 12 4 ∧
      t.est = s.est := by
  have hx : exec (.blobReceived b) s = .next (onPair (fun p => { p with
      blobRx := [(getN r.payload 8 4, r.payload.drop 16)], blobLen := getN r.payload 12 4 }) (seqTaken r s)) := by
    refine congrArg Host.Outcome.next ((onMirror_partnered h).trans ?_)
    have hask' : (seqTaken r s).pair.blobAsked = true := hask
    have hrx' : (seqTaken r s).pair.blobRx = [] := hrx
    unfold takeBlobFrame
    rw [if_neg (by rintro hb; rw [hb] at hlen; exact absurd hlen (by decide))]
    dsimp only
    rw [if_neg (by simp [hask']; omega), hrx']
    exact if_pos (by simpa using hshort)
  rw [hx, completes_next]
  exact ⟨rfl, rfl, rfl⟩

end

/-- Settles O52, over HELLO, the role, the keys, the images and the admission. -/
theorem pairAdmission : Obligations.PairAdmission :=
  ⟨fun _ hon hdue => helloDue_sends hon hdue,
   fun _ _ _ h => hello_kept h,
   fun _ _ _ hoff hrung hpow hp htype hact hrole => hello_wakes hoff hrung hpow hp htype hact hrole,
   fun _ _ hon hb hrole => mirror_bad_active hon hb hrole,
   fun _ _ hon hb hsp hp => mirror_bad_standby hon hb hsp hp,
   fun _ hd h8 hr ht => helloListen_decides hd h8 hr ht,
   fun _ _ _ h hk h0 hmac => keyx_public h hk h0 hmac,
   fun _ _ _ _ h hk h1 hw => keyx_wrapped h hk h1 hw,
   fun _ _ _ h hrole hp hbit => sbStatus_admits h hrole hp hbit,
   fun _ _ hs hsp hrun hp hf ht => admission_completes hs hsp hrun hp hf ht,
   fun _ hsp hrun hp hdue => segment_overdue hsp hrun hp hdue,
   fun _ _ hs hrole hrun ht hp => partner_lost hs hrole hrun ht hp,
   fun _ _ _ h hsp hlen hn hseg hmany hnew => image_begins h hsp hlen hn hseg hmany hnew,
   fun _ _ _ h hsp hlen hn hseg hsame hmem hall hp hstep => image_completes h hsp hlen hn hseg hsame hmem hall hp hstep,
   fun _ _ _ h hsp => bank_taken h hsp,
   fun _ _ _ h hlen hask hrx hshort => blob_kept h hlen hask hrx hshort⟩

end Sys2Proof.Machine
end

section
/-! Ownership of the string in a pair (R414, R417, R418, R423 to R427). -/
namespace Sys2Proof.Machine

/-! ### Giving up and taking ownership -/

/-- The record of a change of synchronization leaves the ladder alone. -/
theorem setSync_lad (n : SyncState) (s : State) : (setSync n s).lad = s.lad := by
  unfold setSync
  dsimp only
  split
  · rfl
  · rw [log_lad_of_core (by decide)]
    rfl

section
variable (s : State)

/-- Coils, safety output and insulation output let go. -/
theorem outputsOpen_frame (w : State) : Frame [.prot, .cont] w (openImd (openSafeOut (coilsOff w))) ∧
    coilsDriven (openImd (openSafeOut (coilsOff w))) = false := by
  have hopen : (openImd (openSafeOut (coilsOff w))).cont = (coilsOff w).cont := by
    rw [show (openImd _).cont = _ from openImd_frame _ .cont rfl]
    exact Frame.of_blank (openSafeOut_blank (within_refl _) _) .cont rfl
  refine ⟨Frame.of_blank ?_, ?_⟩
  · rw [openImd_blank (by decide), openSafeOut_blank (by decide), coilsOff_blank (within_refl _)]
  · rw [← coilsOff_driven w]
    unfold coilsDriven
    rw [hopen]

theorem releaseOwnership_releases : (releaseOwnership s).pair = { s.pair with ownOut := false, partner := .identity } ∧
    (releaseOwnership s).str = { s.str with role := some .standbyPair, mirrored := true } ∧
    (releaseOwnership s).pins = { s.pins with gate := List.replicate 6 .dark, sklTx := false } ∧ coilsDriven (releaseOwnership s) = false := by
  obtain ⟨v, hv⟩ : ∃ v, v = openImd (openSafeOut (coilsOff (onPins (fun p => { p with gate := List.replicate 6 .dark, sklTx := false }) s))) := ⟨_, rfl⟩
  obtain ⟨z, hz⟩ : ∃ z, z = (v |> onPair (fun p => { p with ownOut := false, partner := .identity })
      |> onStr (fun x => { x with role := some .standbyPair, mirrored := true }) |> onProt (fun p => { p with stop := none }) |> thermOff |> canOff) := ⟨_, rfl⟩
  have hx : releaseOwnership s = setSync .pairFollow z := by rw [hz, hv]; rfl
  obtain ⟨hopen, hcoil⟩ := outputsOpen_frame (onPins (fun p => { p with gate := List.replicate 6 .dark, sklTx := false }) s)
  rw [← hv] at hopen hcoil
  have hsync := Frame.of_blank (setSync_blank (within_refl _) .pairFollow z)
  refine ⟨?_, ?_, ?_, ?_⟩
  · rw [hx, setSync_pair, hz]
    exact congrArg (fun p : PairSt => { p with ownOut := false, partner := .identity }) (hopen .pair rfl)
  · rw [hx, setSync_str, hz]
    exact congrArg (fun x : StringSt => { x with role := some .standbyPair, mirrored := true }) (hopen .str rfl)
  · rw [hx, show (setSync _ z).pins = z.pins from hsync .pins rfl, hz]
    exact hopen .pins rfl
  · rw [← hcoil, hx]
    unfold coilsDriven
    rw [show (setSync _ z).cont = z.cont from hsync .cont rfl, hz]
    rfl

theorem loseContest_loses : (loseContest s).pair = { s.pair with ownOut := false, partner := .identity, contestLost := true } ∧
    (loseContest s).str = { s.str with role := some .standbyPair, mirrored := true } ∧
    (loseContest s).pins = { s.pins with gate := List.replicate 6 .dark, sklTx := false } ∧ coilsDriven (loseContest s) = false := by
  obtain ⟨hpair, hstr, hpins, hcoil⟩ := releaseOwnership_releases s
  have hlog := log_frame (onPair (fun p => { p with contestLost := true }) (releaseOwnership s)) srcSafety 0x0B07 3 (u8 (1 - min 1 s.cfg.small.member))
  refine ⟨?_, ?_, ?_, ?_⟩
  · exact (hlog .pair rfl : (loseContest s).pair = _).trans (congrArg (fun p : PairSt => { p with contestLost := true }) hpair)
  · exact (hlog .str rfl : (loseContest s).str = _).trans hstr
  · exact (hlog .pins rfl : (loseContest s).pins = _).trans hpins
  · rw [← hcoil]
    unfold coilsDriven
    rw [show (loseContest s).cont = (releaseOwnership s).cont from hlog .cont rfl]

theorem yieldOwnership_yields : (yieldOwnership s).pair.ownOut = false ∧ (yieldOwnership s).pair.partner = .admitted ∧
    (yieldOwnership s).pair.hTick = s.pair.hTick ∧ (yieldOwnership s).str = { s.str with role := some .standbyPair, mirrored := true } ∧
    (yieldOwnership s).pins = { s.pins with gate := List.replicate 6 .dark, sklTx := false } ∧ coilsDriven (yieldOwnership s) = false := by
  obtain ⟨v, hv⟩ : ∃ v, v = openImd (openSafeOut (coilsOff (onPins (fun p => { p with gate := List.replicate 6 .dark, sklTx := false }) s))) := ⟨_, rfl⟩
  obtain ⟨z, hz⟩ : ∃ z, z = (v |> onPair (fun p => { p with
        ownOut := false, partner := .admitted, lastBeatAt := none, misses := 0, beatThisTick := false, lastSegAt := v.tick.now })
      |> onStr (fun x => { x with role := some .standbyPair, mirrored := true }) |> thermOff |> canOff) := ⟨_, rfl⟩
  obtain ⟨hopen, hcoil⟩ := outputsOpen_frame (onPins (fun p => { p with gate := List.replicate 6 .dark, sklTx := false }) s)
  rw [← hv] at hopen hcoil
  have hx : yieldOwnership s = setSync .pairFollow z := by
    rw [hz, show v.tick = s.tick from hopen .tick rfl, hv]
    rfl
  have hsync := Frame.of_blank (setSync_blank (within_refl _) .pairFollow z)
  have hpair : (yieldOwnership s).pair = z.pair := by rw [hx, setSync_pair]
  refine ⟨?_, ?_, ?_, ?_, ?_, ?_⟩
  · rw [hpair, hz]
    rfl
  · rw [hpair, hz]
    rfl
  · rw [hpair, hz]
    show v.pair.hTick = _
    rw [show v.pair = s.pair from hopen .pair rfl]
  · rw [hx, setSync_str, hz]
    exact congrArg (fun x : StringSt => { x with role := some .standbyPair, mirrored := true }) (hopen .str rfl)
  · rw [hx, show (setSync _ z).pins = z.pins from hsync .pins rfl, hz]
    exact hopen .pins rfl
  · rw [← hcoil, hx]
    unfold coilsDriven
    rw [show (setSync _ z).cont = z.cont from hsync .cont rfl, hz]
    rfl

theorem takeOwnership_takes (cause : Nat) : (takeOwnership cause s).pair = { s.pair with
      ownOut := true, takeover := some (s.tick.now, cause), partner := if cause = 2 then .admitted else .absent, hTick := none, handoverPending := false
      sbAt := if cause = 2 then some s.tick.now else none } ∧
    (takeOwnership cause s).str = { s.str with role := some .active, mirrored := false, partnerAbsent := decide (cause ≠ 2) } ∧
    (takeOwnership cause s).pins = { s.pins with sklTx := true } ∧ (takeOwnership cause s).lad.rung = 0 := by
  obtain ⟨hrung, hpair, hstr⟩ := setRung_enters 0 s
  have hset := Frame.of_blank (setRung_blank (within_refl _) 0 s)
  obtain ⟨u, hu⟩ : ∃ u, u = (setRung 0 s |> onPair (fun p => { p with
        ownOut := true, takeover := some (s.tick.now, cause), partner := if cause = 2 then .admitted else .absent, hTick := none
        handoverPending := false, sbAt := if cause = 2 then some s.tick.now else none })
      |> onStr (fun x => { x with role := some .active, mirrored := false, partnerAbsent := decide (cause ≠ 2) })
      |> onPins (fun p => { p with sklTx := true }) |> onDsp (fun d => { d with spHold := 0, lvChg := none, lvDis := none })) := ⟨_, rfl⟩
  have hx : takeOwnership cause s = setSync .holdover (takeRing u) := by rw [hu]; rfl
  have hring := Frame.of_blank (takeRing_blank (within_refl _) u)
  refine ⟨?_, ?_, ?_, ?_⟩
  · rw [hx, setSync_pair, show (takeRing u).pair = _ from hring .pair rfl, hu, onDsp_pair, onPins_pair, onStr_pair, onPair_pair, hpair]
  · rw [hx, setSync_str, show (takeRing u).str = _ from hring .str rfl, hu, onDsp_str, onPins_str, onStr_str, onPair_str, hstr]
  · rw [hx, show (setSync _ (takeRing u)).pins = _ from Frame.of_blank (setSync_blank (within_refl _) _ _) .pins rfl,
      show (takeRing u).pins = _ from hring .pins rfl, hu, onDsp_pins, onPins_pins, onStr_pins, onPair_pins, show (setRung 0 s).pins = _ from hset .pins rfl]
  · rw [hx, setSync_lad, show (takeRing u).lad = _ from hring.lad_eq rfl rfl, hu]
    exact hrung

end

/-! ### OWN_IN -/

section
variable {s : State}

theorem ownInRise_yields {together : Bool} (hrun : running s = true) (hrole : s.str.role = some .active) (hown : s.pair.ownOut = true)
    (ht : together = false ∨ s.cfg.small.member = 1) :
    Completes (exec (.ownInRise together) s) fun t => t.pair.ownIn = true ∧ t.pair.ownOut = false ∧ t.pair.contestLost = true ∧
      t.str.role = some .standbyPair ∧ t.str.state = s.str.state ∧ t.pins.sklTx = false ∧ (∀ g ∈ t.pins.gate, g = .dark) ∧ coilsDriven t = false := by
  obtain ⟨u, hu⟩ : ∃ u, u = onPair (fun p => { p with ownIn := true, ownInSince := s.tick.now }) s := ⟨_, rfl⟩
  have hc : (running u && u.str.role = some .active && u.pair.ownOut && (!together || u.cfg.small.member = 1)) = true := by
    rw [show running u = true by rw [hu]; exact hrun, hu]
    rcases ht with h | h <;> simp [hrole, hown, h]
  have hx : exec (.ownInRise together) s = .next (loseContest u) := by
    rw [hu] at hc ⊢
    exact if_pos hc
  obtain ⟨hpair, hstr, hpins, hcoil⟩ := loseContest_loses u
  rw [hx, completes_next, hpair, hstr, hpins, hu]
  refine ⟨rfl, rfl, rfl, rfl, rfl, rfl, fun g hg => List.eq_of_mem_replicate hg, ?_⟩
  rw [← hu]
  exact hcoil

theorem ownInRise_notes {together : Bool} (hrole : s.str.role ≠ some .active) :
    Completes (exec (.ownInRise together) s) fun t => t.pair = { s.pair with ownIn := true, ownInSince := s.tick.now } ∧ Frame [.pair] s t := by
  have hx : exec (.ownInRise together) s = .next (onPair (fun p => { p with ownIn := true, ownInSince := s.tick.now }) s) := by
    refine if_neg ?_
    simp [hrole]
  rw [hx, completes_next]
  exact ⟨rfl, Frame.of_blank rfl⟩

/-- OWN_IN off, before the standby judges it. -/
def ownInOff (s : State) : State := onPair (fun p => { p with ownIn := false, ownInSince := s.tick.now }) s

theorem ownInFall_lost (hrun : running s = true) (hsp : isSp s = true) (hh : s.pair.hTick = none) : exec .ownInFall s = .next (ownerLost 0 (ownInOff s)) := by
  refine if_pos ?_
  rw [show running (onPair _ s) = true from hrun, show isSp (onPair _ s) = true from hsp]
  exact congrArg Option.isNone hh

theorem ownInFall_takes (hrun : running s = true) (hsp : isSp s = true) (hp : s.pair.partner = .admitted) (hh : s.pair.hTick = none)
    (hf : controlFresh s = true) :
    Completes (exec .ownInFall s) fun t => t.pair.ownIn = false ∧ t.pair.ownOut = true ∧ t.str.role = some .active ∧
      t.pair.takeover = some (s.tick.now, 0) ∧ t.str.partnerAbsent = true ∧ t.pins.sklTx = true ∧ t.lad.rung = 0 := by
  obtain ⟨hpair, hstr, hpins, hrung⟩ := takeOwnership_takes (ownInOff s) 0
  have hl : ownerLost 0 (ownInOff s) = takeOwnership 0 (ownInOff s) :=
    (if_neg (not_not.mpr hp)).trans (if_neg (by rw [show controlFresh (ownInOff s) = true from hf]; decide))
  rw [ownInFall_lost hrun hsp hh, completes_next, hl, hpair, hstr, hpins, hrung]
  exact ⟨rfl, rfl, rfl, rfl, rfl, rfl, rfl⟩

theorem ownInFall_logs (hrun : running s = true) (hsp : isSp s = true) (hp : s.pair.partner ≠ .admitted) (hh : s.pair.hTick = none) :
    Completes (exec .ownInFall s) fun t => t.pair = { s.pair with ownIn := false, ownInSince := s.tick.now } ∧ t.str = s.str ∧
      Frame ([.pair] ++ recordParts) s t := by
  have hl : ownerLost 0 (ownInOff s) = log srcSafety 0x0B0B 3 (u16 1) (ownInOff s) := if_pos hp
  rw [ownInFall_lost hrun hsp hh, completes_next, hl, log_pair, log_str]
  exact ⟨rfl, rfl, Frame.of_blank ((log_blank (by decide) _ _ _ _ _).trans rfl)⟩

theorem ownInFall_notes (hsp : isSp s = false) :
    Completes (exec .ownInFall s) fun t => t.pair = { s.pair with ownIn := false, ownInSince := s.tick.now } ∧ Frame [.pair] s t := by
  have hx : exec .ownInFall s = .next (ownInOff s) := by
    refine if_neg ?_
    rw [show isSp (onPair _ s) = false from hsp]
    simp
  rw [hx, completes_next]
  exact ⟨rfl, Frame.of_blank rfl⟩

end

/-! ### Heartbeats -/

section
variable {s : State}

/-- A tick's heartbeat missed, before the count is judged. -/
def beatMissed (s : State) : State := onPair (fun p => { p with
  misses := s.pair.misses + 1, hbMissCnt := if s.pair.misses + 1 < 3 then satInc 32 p.hbMissCnt else p.hbMissCnt }) s

theorem heartbeatDeadline_latched (hsp : isSp s = true) (hrun : running s = true) (hb : s.pair.lastBeatAt ≠ none) (ht : s.pair.beatThisTick = true) :
    Completes (exec .heartbeatDeadline s) fun t => t.pair.misses = 0 ∧ t.pair.beatThisTick = false ∧ t.pair.hbMissCnt = s.pair.hbMissCnt ∧ Frame [.pair] s t := by
  have hx : exec .heartbeatDeadline s = .next (onPair (fun p => { p with
      beatThisTick := false, misses := 0, cleanMs := match p.step4Since with | some t => sinceNs s t / 1000000 | none => p.cleanMs }) s) :=
    (if_neg (by simp [hsp, hrun, hb])).trans (if_pos ht)
  rw [hx, completes_next]
  exact ⟨rfl, rfl, rfl, Frame.of_blank rfl⟩

theorem heartbeatDeadline_missed (hsp : isSp s = true) (hrun : running s = true) (hb : s.pair.lastBeatAt ≠ none) (ht : s.pair.beatThisTick = false)
    (hp : s.pair.partner = .admitted) : exec .heartbeatDeadline s =
      if s.pair.misses + 1 = 3 then .next (ownerLost 1 (beatMissed s)) else .next (beatMissed s) := by
  have hjoin : joinFault causeMissed (beatMissed s) = beatMissed s :=
    if_neg (by rw [show (beatMissed s).pair.partner = .admitted from hp]; simp)
  have hx : exec .heartbeatDeadline s =
      if s.pair.misses + 1 = 3 then .next (ownerLost 1 (onPair (fun p => { p with misses := s.pair.misses + 1 }) (joinFault causeMissed (beatMissed s))))
      else .next (onPair (fun p => { p with misses := s.pair.misses + 1 }) (joinFault causeMissed (beatMissed s))) :=
    (if_neg (by simp [hsp, hrun, hb])).trans (if_neg (by rw [ht]; decide))
  rw [hx, hjoin]
  rfl

theorem heartbeatDeadline_counts (hsp : isSp s = true) (hrun : running s = true) (hb : s.pair.lastBeatAt ≠ none) (ht : s.pair.beatThisTick = false)
    (hm : s.pair.misses < 2) (hp : s.pair.partner = .admitted) :
    Completes (exec .heartbeatDeadline s) fun t => t.pair.misses = s.pair.misses + 1 ∧ t.pair.hbMissCnt = satInc 32 s.pair.hbMissCnt ∧
      t.str.role = s.str.role ∧ Frame [.pair] s t := by
  rw [heartbeatDeadline_missed hsp hrun hb ht hp, if_neg (by omega), completes_next]
  exact ⟨rfl, if_pos (by omega), rfl, Frame.of_blank rfl⟩

theorem heartbeatDeadline_takes (hsp : isSp s = true) (hrun : running s = true) (hb : s.pair.lastBeatAt ≠ none) (ht : s.pair.beatThisTick = false)
    (hm : s.pair.misses = 2) (hp : s.pair.partner = .admitted) (hf : controlFresh s = true) :
    Completes (exec .heartbeatDeadline s) fun t => t.str.role = some .active ∧ t.pair.ownOut = true ∧ t.pair.takeover = some (s.tick.now, 1) := by
  obtain ⟨hpair, hstr, -, -⟩ := takeOwnership_takes (beatMissed s) 1
  have hl : ownerLost 1 (beatMissed s) = takeOwnership 1 (beatMissed s) :=
    (if_neg (not_not.mpr hp)).trans (if_neg (by rw [show controlFresh (beatMissed s) = true from hf]; decide))
  rw [heartbeatDeadline_missed hsp hrun hb ht hp, if_pos (by omega), completes_next, hl, hpair, hstr]
  exact ⟨rfl, rfl, rfl⟩

theorem heartbeat_latched {b : Bytes} {r : MirrorRx} (h : Partnered 1 b r s) (hsp : isSp s = true) (htake : s.pair.takeover = none)
    (htick : tickMatches r s = true) (hbit : bitAt (getN r.payload 1 1) 0 = true) :
    Completes (exec (.mirrorHeartbeatReceived b) s) fun t => t.pair.beatThisTick = true ∧ t.pair.lastBeatAt = some s.tick.now ∧ t.pair.beat ≠ none ∧
      Frame [.pair] s t := by
  have hx : exec (.mirrorHeartbeatReceived b) s = .next (onPair (fun p => { p with
      beat := some (parseBeat (seqTaken r s) r), beatThisTick := true, lastBeatAt := some s.tick.now }) (seqTaken r s)) := by
    refine congrArg Host.Outcome.next ((onMirror_partnered h).trans ?_)
    have hrole : s.str.role = some .standbyPair := of_decide_eq_true hsp
    have hcont : contested r (seqTaken r s) = false := by
      unfold contested
      rw [show (seqTaken r s).str.role = some .standbyPair from hrole]
      rfl
    refine (if_neg (by rw [hcont]; decide)).trans ((if_neg ?_).trans (if_pos ?_))
    · rw [show isSp (seqTaken r s) = true from hsp, show (seqTaken r s).pair.takeover = none from htake]
      decide
    · rw [show tickMatches r (seqTaken r s) = true from htick, hbit]
      rfl
  rw [hx, completes_next]
  exact ⟨rfl, rfl, Option.some_ne_none _, Frame.of_blank rfl⟩

theorem heartbeat_contested {b : Bytes} {r : MirrorRx} (h : Partnered 1 b r s) (hrole : s.str.role = some .active) (hr : r.role = 1)
    (hm : s.cfg.small.member = 1) :
    Completes (exec (.mirrorHeartbeatReceived b) s) fun t => t.str.role = some .standbyPair ∧ t.pair.ownOut = false ∧ t.pair.contestLost = true := by
  have hx : exec (.mirrorHeartbeatReceived b) s = .next (loseContest (seqTaken r s)) := by
    refine congrArg Host.Outcome.next ((onMirror_partnered h).trans (if_pos ?_))
    unfold contested
    rw [show (seqTaken r s).str.role = _ from hrole, show (seqTaken r s).cfg.small.member = 1 from hm, hr]
    decide
  obtain ⟨hpair, hstr, -, -⟩ := loseContest_loses (seqTaken r s)
  rw [hx, completes_next, hpair, hstr]
  exact ⟨rfl, rfl, rfl⟩

end

/-! ### The first frames of a new owner -/

theorem failover_continues {s : State} {t0 cause : Nat} {b : MirrorBeat} (ht : s.pair.takeover = some (t0, cause)) (hb : s.pair.beat = some b)
    (he : elapsed s t0 ((if cause = 2 then 2 else 10) * 50000) = true) :
    Completes (exec .failoverFirstFrame s) fun t => t.pair.takeover = none ∧ t.pair.failoverCause = some cause ∧ t.pair.failoverLast = some s.tb.time ∧
      t.pair.failoverCnt = (if cause = 2 then s.pair.failoverCnt else satInc 32 s.pair.failoverCnt) ∧ t.cnv.y3 = b.ref ∧ t.cnv.mode = convModeOf b.mode ∧
      t.met.qTot.q = b.q + (s.met.qTot.q - b.ownQ) ∧ t.imp.exc = none := by
  obtain ⟨gap, a, hgap⟩ : ∃ gap a, gap = (match s.pair.lastBeatAt with | some x => sinceNs s x / 1000 | none => 0) ∧ a = onPair (fun p => { p with
      takeover := none, graceTicks := 40, failoverCnt := if cause = 2 then p.failoverCnt else satInc 32 p.failoverCnt
      failoverLast := some s.tb.time, failoverGap := gap, failoverCause := some cause, lastBeatAt := none, misses := 0 }) s := ⟨_, _, rfl, rfl⟩
  obtain ⟨hgap, ha⟩ := hgap
  obtain ⟨c, hc⟩ : ∃ c, c = (a |> continueConv b |> continueCoulomb b |> continueSweep) := ⟨_, rfl⟩
  obtain ⟨e, hcoils⟩ : ∃ e, e = continueCoils c := ⟨_, rfl⟩
  obtain ⟨d, hd⟩ : ∃ d, d = (e |> onProt (fun p => { p with
      noPulses := true, evaluating := true, tests := p.tests.map fun x => { x with served := true } }) |> canOn |> refreshSafeOut |> imdUpdate) := ⟨_, rfl⟩
  have hx : exec .failoverFirstFrame s = .next (log srcSafety 0x0B06 2 (u8 cause ++ u32 gap) (dutyTransfer d)) := by
    show execFailoverFirstFrame s = _
    unfold execFailoverFirstFrame
    split
    next t' cause' b' ht' hb' =>
      obtain ⟨rfl, rfl⟩ := Prod.mk.inj (Option.some.inj (ht.symm.trans ht'))
      cases hb.symm.trans hb'
      rw [hd, hcoils, hc, ha, hgap]
      exact if_neg (by rw [he]; decide)
    next h => exact absurd (hb.symm.trans h) (Option.some_ne_none _)
    next h => exact absurd (ht.symm.trans h) (Option.some_ne_none _)
  have hframe : Frame [.cont, .prot, .can] c d := by
    have hk : blank [.cont, .prot, .can] e = blank [.cont, .prot, .can] c := by
      rw [hcoils]
      exact continueCoils_blank (by decide) c
    rw [hd]
    refine Frame.of_blank (Eq.trans ?_ hk)
    rw [imdUpdate_blank (by decide), refreshSafeOut_blank (by decide), canOn_blank (by decide)]
    rfl
  have hduty := Frame.of_blank (dutyTransfer_blank (within_refl _) d)
  have hpair : d.pair = a.pair := by
    rw [show d.pair = c.pair from hframe .pair rfl, hc]
    rfl
  have hmet : d.met.qTot.q = b.q + (s.met.qTot.q - b.ownQ) := by
    rw [show d.met = c.met from hframe .met rfl, hc, ha]
    rfl
  have himp : d.imp.exc = none := by
    rw [show d.imp = c.imp from hframe .imp rfl, hc]
    rfl
  have hcnv : d.cnv = c.cnv := hframe .cnv rfl
  rw [hx, completes_next, log_pair, log_cnv, log_met, log_imp, show (dutyTransfer d).pair = _ from hduty .pair rfl,
    show (dutyTransfer d).met = _ from hduty .met rfl, show (dutyTransfer d).imp = _ from hduty .imp rfl, hpair, hmet, himp]
  refine ⟨by rw [ha]; rfl, by rw [ha]; rfl, by rw [ha]; rfl, by rw [ha]; rfl, ?_, ?_, rfl, rfl⟩
  · show d.cnv.y3 = _
    rw [hcnv, hc]
    rfl
  · show d.cnv.mode = _
    rw [hcnv, hc]
    rfl

/-! ### CONTROL -/

theorem takeControl_string (b : Bytes) (s : State) : (takeControl b s).str = (takeString b s).str ∧ Frame [.str, .skl, .cnv, .dsp, .bal, .thm, .prot, .cont, .iso, .ops] s (takeControl b s) := by
  refine ⟨?_, Frame.of_blank (takeControl_blank (within_refl _) b s)⟩
  exact Frame.of_blank (l := [.skl, .cnv, .dsp, .bal, .thm, .prot, .cont, .iso, .ops]) (by
    unfold takeControl
    rw [markSnaps_blank (by decide), takeRest_blank (by decide), takeOps_blank (by decide), takeProtection_blank (by decide), takeDispatch_blank (by decide),
      takeLoops_blank (by decide)]) .str rfl

/-- The servo of the tick marker turns the rate and never steps the time. -/
theorem pairServo_time (r : MirrorRx) (sfd : Nat) (s : State) : (pairServo r sfd s).tb.time = s.tb.time := by
  have hstamp : (sfdStamp 152 sfd s).2.tb.time = s.tb.time := by
    have hevent : (sfdEvent 152 sfd s).tb = s.tb := by
      have h := irqEvent_tb (src := 152) (rising := true) (s := s)
      unfold sfdEvent
      extract_lets free s1
      split
      · exact h
      · exact h
    unfold sfdStamp
    extract_lets held s1
    have htime : s1.tb.time = s.tb.time := congrArg TimeSt.time hevent
    split
    · exact htime
    · exact htime
  unfold pairServo
  extract_lets x
  split
  · exact hstamp
  · split
    · exact hstamp
    · exact hstamp

theorem control_taken {s : State} {b : Bytes} {sfd : Nat} {r : MirrorRx} (h : Partnered 2 b r s) (hsp : isSp s = true) (htake : s.pair.takeover = none) :
    Completes (exec (.mirrorControlReceived b sfd) s) fun t => (∃ c, t.pair.control = some c ∧ c.tick = r.mtick ∧ c.payload = r.payload) ∧
      (tickMatches r s = true → t.pair.beatThisTick = true ∧ t.pair.lastBeatAt = some s.tick.now) ∧
      (inDawn s = false → t.str.state = stateOf (getN r.payload 0 1) ∧ t.str.mirrored = true) ∧ (inDawn s = true → t.str = s.str) := by
  obtain ⟨u, hu⟩ : ∃ u, u = pairServo r sfd (seqTaken r s) := ⟨_, rfl⟩
  obtain ⟨v, hv⟩ : ∃ v, v = onPair (fun p => { p with
    control := some { tick := r.mtick, payload := r.payload, ownIn := (seqTaken r s).met.inTot.q, ownOut := (seqTaken r s).met.outTot.q } })
      (takeControl r.payload u) := ⟨_, rfl⟩
  have hx : exec (.mirrorControlReceived b sfd) s = .next (if tickMatches r v then
      onPair (fun p => { p with beatThisTick := true, lastBeatAt := some s.tick.now }) v else v) := by
    refine congrArg Host.Outcome.next ((onMirror_partnered h).trans ?_)
    have hrole : (seqTaken r s).str.role = some .standbyPair := of_decide_eq_true hsp
    have hcont : contested r (seqTaken r s) = false := by
      unfold contested
      rw [hrole]
      rfl
    unfold takeControlFrame
    rw [hcont, if_neg (by decide), if_neg (by
      rw [show isSp (seqTaken r s) = true from hsp, show (seqTaken r s).pair.takeover = none from htake]
      decide), hv, hu]
    rfl
  have hservo : Frame [.tb, .irq, .rings, .rung] (seqTaken r s) u := by
    rw [hu]
    exact Frame.of_blank (pairServo_blank (within_refl _) r sfd (seqTaken r s))
  have htime : u.tb.time = s.tb.time := by
    rw [hu]
    exact pairServo_time r sfd (seqTaken r s)
  obtain ⟨hstr, hframe⟩ := takeControl_string r.payload u
  have hmatch : tickMatches r v = tickMatches r s := by
    unfold tickMatches
    rw [hv, onPair_tb, show (takeControl r.payload u).tb = u.tb from hframe .tb rfl, htime]
  have hvstr : v.str = (takeString r.payload u).str := by rw [hv]; exact hstr
  have hustr : u.str = s.str := hservo .str rfl
  rw [hx, completes_next, hmatch]
  have hkeep : ∀ c : Bool, (if c then onPair (fun p => { p with beatThisTick := true, lastBeatAt := some s.tick.now }) v else v).str = v.str ∧
      (if c then onPair (fun p => { p with beatThisTick := true, lastBeatAt := some s.tick.now }) v else v).pair.control = v.pair.control := by
    intro c
    cases c <;> exact ⟨rfl, rfl⟩
  obtain ⟨hkstr, hkctl⟩ := hkeep (tickMatches r s)
  rw [hkctl, hkstr, hvstr]
  refine ⟨⟨_, by rw [hv]; rfl, rfl, rfl⟩, fun ht => ?_, fun hd => ?_, fun hd => ?_⟩
  · rw [ht]
    exact ⟨rfl, rfl⟩
  · have hd' : inDawn u = false := by unfold inDawn at hd ⊢; rw [hustr]; exact hd
    rw [show takeString r.payload u = _ from if_neg (by rw [hd']; decide)]
    exact ⟨rfl, rfl⟩
  · have hd' : inDawn u = true := by unfold inDawn at hd ⊢; rw [hustr]; exact hd
    rw [show takeString r.payload u = u from if_pos hd', hustr]

/-! ### Handover -/

section
variable {s : State}

theorem handover_accepted {b : Bytes} {r : MirrorRx} (h : Partnered 7 b r s) (hsp : isSp s = true) (hp : s.pair.partner = .admitted)
    (h0 : getN r.payload 8 1 = 0) :
    Completes (exec (.handoverReceived b) s) fun t => t.pair.hTick = some (getN r.payload 0 8) ∧ t.pair.hYields = false ∧ t.pair.hAccepted = true ∧
      t.str.role = s.str.role ∧ t.pair.ownOut = s.pair.ownOut := by
  obtain ⟨u, hu⟩ : ∃ u, u = onPair (fun p => { p with hTick := some (getN r.payload 0 8), hYields := false, hAccepted := true, handoverPending := true })
    (setRung 0 (seqTaken r s)) := ⟨_, rfl⟩
  have hx : exec (.handoverReceived b) s = .next (sendHandover (getN r.payload 0 8) 1 u) := by
    refine congrArg Host.Outcome.next ((onMirror_partnered h).trans ?_)
    unfold takeHandover
    dsimp only
    split
    next =>
      rw [hu]
      exact if_pos (by rw [show isSp (seqTaken r s) = true from hsp, show (seqTaken r s).pair.partner = .admitted from hp]; decide)
    next h1 => exact absurd (h0.symm.trans h1) (by decide)
    next hne _ => exact (hne h0).elim
  obtain ⟨-, -, n, hn⟩ := sendMirror_keeps 7 u.tb.time (u64 (getN r.payload 0 8) ++ u8 1 ++ List.replicate 7 0) u
  have hpair : (sendHandover (getN r.payload 0 8) 1 u).pair = { u.pair with mseqTx := n } := hn
  have hstr : (sendHandover (getN r.payload 0 8) 1 u).str = u.str := Frame.of_blank (sendHandover_blank (within_refl _) _ _ u) .str rfl
  obtain ⟨-, hspair, hsstr⟩ := setRung_enters 0 (seqTaken r s)
  rw [hx, completes_next, hpair, hstr, hu, onPair_pair, onPair_str, hspair, hsstr]
  exact ⟨rfl, rfl, rfl, rfl, rfl⟩

theorem handover_answered {b : Bytes} {r : MirrorRx} {q : HostReq} (h : Partnered 7 b r s) (h1 : getN r.payload 8 1 = 1) (hy : s.pair.hYields = true)
    (ht : s.pair.hTick = some (getN r.payload 0 8)) (ha : s.pair.hAccepted = false) (hq : s.pair.hReq = some q) :
    Completes (exec (.handoverReceived b) s) fun t => Answered q q.code stOk [] s t ∧ t.pair.hAccepted = true ∧ t.pair.hReq = none := by
  obtain ⟨u, hu⟩ : ∃ u, u = onPair (fun p => { p with hAccepted := true, hReq := none }) (seqTaken r s) := ⟨_, rfl⟩
  have hx : exec (.handoverReceived b) s = .next (respond q stOk [] u) := by
    refine congrArg Host.Outcome.next ((onMirror_partnered h).trans ?_)
    unfold takeHandover
    dsimp only
    split
    next h0 => exact absurd (h0.symm.trans h1) (by decide)
    next =>
      rw [if_pos (by simp [seqTaken, hy, ht, ha]), show (seqTaken r s).pair.hReq = some q from hq, hu]
    next hne => exact (hne h1).elim
  rw [hx, completes_next, respond_pair, hu]
  exact ⟨respond_answered_after q stOk [] (by decide) rfl rfl rfl, rfl, rfl⟩

theorem handover_unanswered {q : HostReq} (hrun : running s = true) (hy : s.pair.hYields = true) (ht : s.pair.hTick ≠ none) (ha : s.pair.hAccepted = false)
    (he : elapsed s s.pair.hSentAt (msNs 5) = true) (h0 : s.pair.hThen = 0) (hq : s.pair.hReq = some q) :
    Completes (exec .handoverAcceptTimeout s) fun t => Answered q q.code stState [] s t ∧ t.pair.hTick = none ∧ t.pair.hYields = false ∧
      t.pair.hReq = none ∧ t.str = s.str := by
  have hx : exec .handoverAcceptTimeout s = .next (refuseState q (clearHandover s)) := by
    refine (congrArg Host.Outcome.next (if_pos ?_)).trans ?_
    · simp [hrun, hy, ha, he, Option.isSome_iff_ne_none.2 ht]
    · unfold handoverOff
      rw [h0, hq]
      rfl
  have hpair : (refuseState q (clearHandover s)).pair = (clearHandover s).pair := refuseState_keeps q (clearHandover s) .pair rfl
  have hans := (refuseState_answers q (clearHandover s)).1.congr (s' := s) (t' := refuseState q (clearHandover s)) rfl rfl rfl rfl
  rw [hx, completes_next, hpair, (refuseState_answers q (clearHandover s)).2]
  exact ⟨hans, rfl, rfl, rfl, rfl⟩

theorem handoverTick_yields {h : Nat} (ht : s.pair.hTick = some h) (hrun : running s = true) (hh : h ≤ s.tb.time) (ha : s.pair.hAccepted = true)
    (hy : s.pair.hYields = true) (h0 : s.pair.hThen = 0) :
    Completes (exec .handoverTick s) fun t => t.pair.hTick = none ∧ t.pair.ownOut = false ∧ t.str.role = some .standbyPair ∧ t.pair.partner = .admitted ∧
      t.str.mirrored = true ∧ (∀ g ∈ t.pins.gate, g = .dark) ∧ coilsDriven t = false ∧ t.str.state = s.str.state := by
  obtain ⟨u, hu⟩ : ∃ u, u = yieldOwnership (clearHandover s) := ⟨_, rfl⟩
  have hx : exec .handoverTick s = .next (log srcSafety 0x0B08 1 (u64 h) u) := by
    show execHandoverTick s = _
    unfold execHandoverTick
    rw [ht, hu]
    dsimp only
    rw [if_neg (by simp [hrun, ha]; omega), if_pos hy, h0]
    rfl
  obtain ⟨hown, hpart, htick, hstr, hpins, hcoil⟩ := yieldOwnership_yields (clearHandover s)
  rw [← hu] at hown hpart htick hstr hpins hcoil
  have hlog := log_frame u srcSafety 0x0B08 1 (u64 h)
  rw [hx, completes_next, log_pair, log_str, show (log srcSafety 0x0B08 1 (u64 h) u).pins = _ from hlog .pins rfl, hown, hpart, htick, hstr, hpins]
  refine ⟨rfl, rfl, rfl, rfl, rfl, fun g hg => List.eq_of_mem_replicate hg, ?_, rfl⟩
  rw [← hcoil]
  unfold coilsDriven
  rw [show (log srcSafety 0x0B08 1 (u64 h) u).cont = _ from hlog .cont rfl]

theorem handoverTick_takes {h : Nat} (ht : s.pair.hTick = some h) (hrun : running s = true) (hh : h ≤ s.tb.time) (ha : s.pair.hAccepted = true)
    (hy : s.pair.hYields = false) :
    Completes (exec .handoverTick s) fun t => t.pair.hTick = none ∧ t.pair.ownOut = true ∧ t.str.role = some .active ∧ t.pair.partner = .admitted ∧
      t.pair.takeover = some (s.tick.now, 2) ∧ t.str.state = s.str.state := by
  have hx : exec .handoverTick s = .next (log srcSafety 0x0B08 1 (u64 h) (takeOwnership 2 (clearHandover s))) := by
    show execHandoverTick s = _
    unfold execHandoverTick
    rw [ht]
    dsimp only
    rw [if_neg (by simp [hrun, ha]; omega), if_neg (by rw [hy]; decide)]
  obtain ⟨hpair, hstr, -, -⟩ := takeOwnership_takes (clearHandover s) 2
  rw [hx, completes_next, log_pair, log_str, hpair, hstr]
  exact ⟨rfl, rfl, rfl, rfl, rfl, rfl⟩

end

/-- Settles O53, over the outputs, the heartbeats, the first frames, CONTROL and the handover. -/
theorem pairOwnership : Obligations.PairOwnership :=
  ⟨fun _ _ hrun hrole hown ht => ownInRise_yields hrun hrole hown ht,
   fun _ _ hrole => ownInRise_notes hrole,
   fun _ hrun hsp hp hh hf => ownInFall_takes hrun hsp hp hh hf,
   fun _ hrun hsp hp hh => ownInFall_logs hrun hsp hp hh,
   fun _ hsp => ownInFall_notes hsp,
   fun _ hsp hrun hb ht => heartbeatDeadline_latched hsp hrun hb ht,
   fun _ hsp hrun hb ht hm hp => heartbeatDeadline_counts hsp hrun hb ht hm hp,
   fun _ hsp hrun hb ht hm hp hf => heartbeatDeadline_takes hsp hrun hb ht hm hp hf,
   fun _ _ _ _ ht hb he => failover_continues ht hb he,
   fun _ _ _ h hsp htake htick hbit => heartbeat_latched h hsp htake htick hbit,
   fun _ _ _ _ h hsp htake => control_taken h hsp htake,
   fun _ _ _ h hrole hr hm => heartbeat_contested h hrole hr hm,
   fun _ _ _ h hsp hp h0 => handover_accepted h hsp hp h0,
   fun _ _ _ _ h h1 hy ht ha hq _ => handover_answered h h1 hy ht ha hq,
   fun _ _ hrun hy ht ha he h0 hq => handover_unanswered hrun hy ht ha he h0 hq,
   fun _ _ ht hrun hh ha hy h0 => handoverTick_yields ht hrun hh ha hy h0,
   fun _ _ ht hrun hh ha hy => handoverTick_takes ht hrun hh ha hy⟩

end Sys2Proof.Machine
end
